-- ==== Sys2Proof/Word.lean ====
section
/-! DEFINITION. The word types of the module and their plainest arithmetic (00_scope R8-R12). -/
namespace Sys2Proof

abbrev Byte := BitVec 8
abbrev W16 := BitVec 16
abbrev W32 := BitVec 32
abbrev W48 := BitVec 48
abbrev W64 := BitVec 64
abbrev W128 := BitVec 128

/-- A counter that saturates: one more, or the largest value again. -/
def satInc {w : Nat} (x : BitVec w) : BitVec w :=
  if x = BitVec.allOnes w then x else x + 1

/-- A counter that saturates, advanced by `n`. -/
def satAdd {w : Nat} (x : BitVec w) (n : Nat) : BitVec w :=
  BitVec.ofNat w (min (2 ^ w - 1) (x.toNat + n))

/-- One bit as a word of width `w`. -/
def bit {w : Nat} (b : Bool) : BitVec w := if b then 1 else 0

/-- The field [hi:lo] of a word, as the manual writes a bit range (00_scope R9). -/
def field {w : Nat} (x : BitVec w) (hi lo : Nat) : Nat :=
  (x.toNat >>> lo) % 2 ^ (hi + 1 - lo)

/-- Bit `k` of a word. -/
def bitAt {w : Nat} (x : BitVec w) (k : Nat) : Bool := x.getLsbD k

/-- A word with bit `k` set to `v`. -/
def withBit {w : Nat} (x : BitVec w) (k : Nat) (v : Bool) : BitVec w :=
  if v then x ||| BitVec.twoPow w k else x &&& ~~~(BitVec.twoPow w k)

/-- A word put together from fields, lowest first: (width, value) pairs (00_scope R9). -/
def pack : List (Nat × Nat) → Nat
  | [] => 0
  | (w, v) :: r => v % 2 ^ w + 2 ^ w * pack r

end Sys2Proof
end

