-- ==== Sys2Proof/Operand.lean ====
section
/-! DEFINITION. The operand types of the commands: who acts, what arrives from outside the module. -/
namespace Sys2Proof.Machine

/-- A PCIe function: the physical function of a host link, or VF n + 1 of that link (02 R68). -/
inductive Fn where
  | pf (k : Fin 4)
  | vf (k : Fin 4) (n : Fin 12)
deriving DecidableEq, Repr

/-- A holder of an event ring, a status page and a mailbox: a host link's physical function, or a partition's VF (03 R116, R120; 15 R475). -/
inductive Ep where
  | pf (k : Fin 4)
  | vf (n : Fin 12)
deriving DecidableEq, Repr

/-- Who sent a message: a mailbox (f = 0-3 a PF, 4 + n a partition, 15 R497), an admitted management peer, or the console (19 R593, R600). -/
inductive Sender where
  | mbx (f : Fin 16)
  | peer
  | console
deriving DecidableEq, Repr

/-- A message as its core finds it: the sender, the host's label, the request head after its acceptance, the payload bytes (15 T15.2, R480). -/
structure Msg where
  sender : Sender
  tag : W32
  reqHead : W16
  payload : List Byte
deriving DecidableEq, Repr

/-- What the fetch of a descriptor brings (03 R96, R101, R107): a PCIe error, or the 64 bytes with the extended payload (`none`: its read failed). -/
inductive Fetched where
  | fault
  | got (desc : BitVec 512) (ext : Option (List Byte))
deriving DecidableEq, Repr

/-- A happening while a partition is CONFIGURING (02 R47). -/
inductive CfgEvent where
  | regionLeft
  | resetCause (c : BitVec 4)
deriving DecidableEq, Repr

/-- A firmware image as it arrives: its header bytes, the hash of the root key sent with it, whether the signature verifies, the hash of its body (02 R72, R73). -/
structure ImageIn where
  header : List Byte
  rootKeyHash : BitVec 384
  sigOk : Bool
  bodyHash : BitVec 384
deriving DecidableEq, Repr

/-- A firmware core (15 T15.1). -/
inductive CoreId where
  | sec | pwr | sch
  | rcc (r : Fin 144)
deriving DecidableEq, Repr

/-- What a bring-up step of a region finds (17 T17.1, 01 R27, R30): the tiles its tests mark defective as (pi, pj), the
region loses nothing, or the step fails with a cause of 01 T1.5. -/
inductive StepResult where
  | done (defects : List (Nat × Nat)) (trims : BitVec 12)
  | failed (cause : BitVec 4) (defects : List (Nat × Nat))
deriving DecidableEq, Repr

/-- A region's readings of one 1 ms power window (16 R507-R509, R514), in mW and 10 mA. -/
structure RegionWindow where
  region : Fin 144
  pLog : Nat
  pSram : Nat
  pStr : Nat
  pMif : Nat
  currents : List W16
  lnkCurrents : List W16
  minLog : BitVec 16
  minLogTick : W48
  minSram : BitVec 16
  minSramTick : W48
  means : List (Nat × Nat)
deriving DecidableEq, Repr

/-- The body of a TIMING flit (12 T12.7). -/
structure TimingFlit where
  sourceId : W64
  priority : Byte
  hops : BitVec 7
  edge : W64
  tx : W64
  echoTx : W64
  echoRx : W64
deriving DecidableEq, Repr

/-- A segment's recovery as it runs on the wires (19 R596): SDA high after this pulse (1-9), still low, or SCL held low. -/
inductive SdaResult where
  | released (pulse : Nat)
  | stuck
deriving DecidableEq, Repr

/-- An end of mirror data (18 R569, R572): this module sends for a MIRROR operation, or a granule arrives on twin port p. -/
inductive MirrorEnd where
  | send (op : Nat)
  | receive (p : Fin 2) (key : W16) (off : W64) (data : List Byte) (check : W32) (poison : Bool)
deriving DecidableEq, Repr

/-! ### Tile instructions (06_tile_isa) -/

/-- A logical tile (tx, ty), numbered 288 × ty + tx. -/
abbrev Tile := Fin 82944

/-- The token control of a queued instruction (06 T6.2). -/
structure Tok where
  ws : BitVec 5 := 0
  wt : BitVec 4 := 0
  we : Bool := false
  dt : BitVec 4 := 0
  de : Bool := false
deriving DecidableEq, Repr

/-- The register fields of a Q-V instruction (06 T6.10). -/
structure VArgs where
  vd : BitVec 5
  va : BitVec 5
  vb : BitVec 5 := 0
  vc : BitVec 5 := 0
  pg : BitVec 3 := 0
  pz : Bool := false
deriving DecidableEq, Repr

/-- The rounding fields of a conversion: FN[2:0] and FN[3] (06 R204). -/
structure RndArgs where
  rnd : BitVec 3 := 0
  sat : Bool := false
deriving DecidableEq, Repr

/-- The fields of a load or store (06 T6.14). -/
structure MemArgs where
  d : BitVec 5
  a : BitVec 4
  size : BitVec 2
  part : BitVec 2 := 0
  postinc : Bool := false
  sext : Bool := false
  off : BitVec 25 := 0
deriving DecidableEq, Repr

/-- The fields of TMMA and SMMA (06 T6.17). -/
structure MmArgs where
  k : BitVec 5
  aa : BitVec 4
  ab : BitVec 4
  asa : BitVec 4 := 0
  asb : BitVec 4 := 0
  fmt : BitVec 4
  acc : BitVec 2
  zero : Bool
  side : Bool := false
deriving DecidableEq, Repr

/-- The fields of TDRAIN (06 T6.17). -/
structure DrainArgs where
  s : BitVec 5
  ad : BitVec 4
  mask : BitVec 4
  ofmt : BitVec 4
  clear : Bool := false
  rnd : BitVec 2 := 0
  sat : Bool := false
deriving DecidableEq, Repr

/-- The fields of MCOPY and MFILL (06 T6.21). -/
structure MoveArgs where
  sl : BitVec 5
  ad : BitVec 4
  asr : BitVec 4 := 0
  dk : BitVec 3
  sk : BitVec 3 := 0
  sst : BitVec 5 := 0
  twoD : Bool := false
  comp : Bool := false
deriving DecidableEq, Repr

/-- The count of STREL, ECONTRIB and ESKIP (06 R217). -/
structure CountArgs where
  e : BitVec 3
  n : BitVec 5 := 0
  immf : Bool := false
  imm : W16 := 0
deriving DecidableEq, Repr

/-- A queue of a tile (05 R154). -/
inductive Queue where
  | vq | tq | sq | mq | xq
deriving DecidableEq, Repr

/-- A queued instruction with its fields (06 T6.4). -/
inductive QOp where
  | vf (fn : BitVec 5) (v : VArgs)
  | vsf (fn : BitVec 5) (v : VArgs)
  | vi (fn : BitVec 5) (v : VArgs)
  | vcmp (fn : BitVec 5) (ty : BitVec 4) (v : VArgs)
  | vsel (v : VArgs)
  | vred (fn : BitVec 5) (v : VArgs)
  | vperm (fn : BitVec 5) (v : VArgs) (imm : Byte)
  | vmov (fn : BitVec 5) (v : VArgs) (imm : Byte)
  | vcvt (ty : BitVec 4) (r : RndArgs) (v : VArgs)
  | vnarrow (ty : BitVec 4) (r : RndArgs) (v : VArgs) (pos : BitVec 3)
  | vwiden (ty : BitVec 4) (v : VArgs) (pos : BitVec 3)
  | vmxq (ty : BitVec 4) (r : RndArgs) (v : VArgs) (pos : BitVec 3)
  | vmxdq (ty : BitVec 4) (v : VArgs) (pos : BitVec 3)
  | ld (m : MemArgs)
  | st (m : MemArgs)
  | vld (m : MemArgs)
  | vst (m : MemArgs)
  | tmma (x : MmArgs)
  | tzero (mask : BitVec 4)
  | tdrain (x : DrainArgs)
  | twadd (aa : BitVec 4) (acc : BitVec 2)
  | smma (x : MmArgs)
  | hacc (v : VArgs)
  | hget (v : VArgs)
  | hcfg (aa : BitVec 4)
  | hdrain (aa : BitVec 4)
  | hclr
  | mcopy (x : MoveArgs)
  | mfill (x : MoveArgs)
  | ccfg (asr : BitVec 4)
  | tap (e : BitVec 3) (ar : BitVec 4)
  | tapx (e : BitVec 3)
  | strel (c : CountArgs)
  | egress (e : BitVec 3) (ar : BitVec 4)
  | econtrib (c : CountArgs)
  | eskip (c : CountArgs)
deriving DecidableEq, Repr

/-- The offset operand of SSIG: an immediate or a scalar (06 R200, FN[1]). -/
inductive SyncOff where
  | imm (o : BitVec 15)
  | reg (d : BitVec 5)
deriving DecidableEq, Repr

/-- The value operand of SSIG: a scalar or the constant 1 (06 R200, FN[2]). -/
inductive SyncVal where
  | reg (a : BitVec 5)
  | one
deriving DecidableEq, Repr

/-- What link ECC finds in a packet's or unit's flits on the way, and at which region and side (09 R282). -/
inductive LinkEcc where
  | clean
  | corrected (r : Fin 144)
  /-- a double-bit error in a data word: the granule is poisoned -/
  | dataDouble (r : Fin 144) (side : Fin 5)
  /-- a double-bit error in a HEAD flit or a sideband: the packet is dropped -/
  | headDouble (r : Fin 144) (side : Fin 5)
deriving DecidableEq, Repr

/-- Who waits for a response of the fabric: a tile's packet, a descriptor at a granule through a service point at (sx, sy), a
stream instance (09 R295, R307). -/
inductive FabricWait where
  | pkt (id : Nat)
  | op (id granule : Nat) (sx sy : Fin 288)
  | inst (id : Nat)
deriving DecidableEq, Repr

/-- A DATA flit as it arrives (12 T12.5). `ok`: its LCRC and codewords are good and its FTYPE is listed. -/
structure WireFlit where
  ok : Bool
  ch : BitVec 3
  som : Bool
  eom : Bool
  poison : Bool
  key : W16
  check : W32
  seq : BitVec 10
  ack : BitVec 10
  crCh : BitVec 4
  crCount : BitVec 6
  data : List Byte
deriving DecidableEq, Repr

/-- What SECDED finds in the cells an access or a scrub visit reads (05 R161, 10 R339). -/
inductive EccFind where
  | none | single | double
deriving DecidableEq, Repr

/-- A unit of a tile that parity checks (18 R558). -/
inductive ParityUnit where
  | scalar (n : BitVec 5) | address (n : BitVec 4) | vector (n : BitVec 5) | predicate (n : BitVec 3) | bank (n : BitVec 2)
  | instructions | scoreboard
  | queue (q : Queue)
deriving DecidableEq, Repr

/-- Who waits for a chunk. -/
inductive Waiter where
  | pkt (id : Nat)
  | op (id : Nat)
  | inst (id : Nat)
  | hash (t : Nat)
deriving DecidableEq, Repr

/-- Where the bytes of a chunk come from: an object of a partition, the backing of a shared region, a host segment, named by the instance or the build that reads it (10 R325, 11 R356). -/
inductive ChunkSrc where
  | obj (n handle : Nat)
  | backing (sh : Nat)
  | host (w : Waiter)
deriving DecidableEq, Repr

/-- A chunk: its source, the page of the object, the chunk of the page. -/
structure ChunkKey where
  src : ChunkSrc
  page : Nat
  chunk : Nat
deriving DecidableEq, Repr

end Sys2Proof.Machine
end

