-- ==== Sys2Proof/Syntax.lean ====
section
/-! DEFINITION. The commands of the module: one constructor per row of the opcode table. -/
namespace Sys2Proof
open Machine

/-- The commands of the module, one constructor per row of the opcode table. -/
inductive Instr where
  /-- R14: A host write to a setup register field that has no row of its own sets, discards or ignores the value under its access code. -/
  | registerWrite (fn : Fn) (off : BitVec 24) (size : Nat) (value : W64)
  /-- R15: A 32-bit read of the low half of an RS register returns it and latches the high half into the function's shadow. -/
  | rsLowHalfRead (fn : Fn) (off : BitVec 24)
  /-- R93: Writing SQ_EN = 1 zeroes SQ_HEAD and SQ_TAIL and enables the ring, or sets ERROR with a cause. -/
  | sqEnable (n : Fin 12) (k : Fin 64)
  /-- R100: Writing SQ_EN = 0 puts the ring in DRAINING and cancels its admitted, not-started descriptors. -/
  | sqDisable (n : Fin 12) (k : Fin 64)
  /-- R93: Writing CQ_EN = 1 with a valid size sets CQ_TAIL to 0 and CQ_PHASE to 1. -/
  | cqEnable (n : Fin 12) (k : Fin 64)
  /-- R93: Writing CQ_EN = 0 disables the completion ring, or is discarded while a submission ring names it. -/
  | cqDisable (n : Fin 12) (k : Fin 64)
  /-- R95: A doorbell write of SQ_TAIL sets the host's tail position or is discarded. -/
  | doorbellSqTail (n : Fin 12) (k : Fin 64) (tail : W16)
  /-- R95: A doorbell write of CQ_HEAD frees consumed completion slots or is discarded. -/
  | doorbellCqHead (n : Fin 12) (k : Fin 64) (head : W16)
  /-- R100: Writing a ring number to PART.RING_CANCEL completes its admitted, not-started descriptors CANCELLED. -/
  | ringCancel (n : Fin 12) (k : Fin 64)
  /-- R96: Once the slot is ready and an operation and a completion slot are free, the module copies a descriptor, admits it and advances SQ_HEAD. -/
  | descriptorFetch (n : Fin 12) (k : Fin 64) (got : Fetched)
  /-- R99: An admitted descriptor starts once its tick, its header wait and ring order allow. -/
  | descriptorStart (op : Nat)
  /-- R111: An ended operation applies its signal, writes its completion record with PHASE last and advances CQ_TAIL. -/
  | descriptorComplete (op : Nat)
  /-- R117: Setting EVQ_EN from 0 to 1 resets the event ring's tail, head, phase and EVSEQ. -/
  | evqEnable (ep : Ep)
  /-- R117: A write of EVQ_HEAD frees consumed event slots or is discarded. -/
  | evqHeadWrite (ep : Ep) (head : W16)
  /-- R121: Setting STATUS_EN starts the 100 µs status page grid with HEARTBEAT 0. -/
  | statusEnable (ep : Ep)
  /-- R121: At each 100 µs grid point the host interface writes the status page between odd and even SEQ. -/
  | statusPageRefresh (ep : Ep)
  /-- R89: Setting Bus Master Enable lets the module write held records in order and resume fetching. -/
  | busMasterEnableSet (fn : Fn)
  /-- R89: Clearing Bus Master Enable stops fetches and holds due records inside the module. -/
  | busMasterEnableClear (fn : Fn)
  /-- R88: A DL_Down or Hot Reset of a host link acts as a PF Function Level Reset of that link. -/
  | hostLinkDown (k : Fin 4)
  /-- R86: A host link trains up and its functions' held records are written. -/
  | hostLinkUp (k : Fin 4) (speed : BitVec 3) (width : BitVec 5) (flit : Bool)
  /-- R69: A Function Level Reset of a live VF resets its partition. -/
  | vfFlr (k : Fin 4) (n : Fin 12)
  /-- R69: A PF Function Level Reset resets every partition on the link and disables the PF's event ring, status page and mailbox. -/
  | pfFlr (k : Fin 4)
  /-- R69: Clearing VF Enable or lowering NumVFs makes VFs cease and resets their partitions. -/
  | vfEnableChange (k : Fin 4) (enable : Bool) (numVfs : BitVec 4)
  /-- R475: Writing MBX_EN = 1 with a valid size resets the mailbox positions and sets the reply phase to 1. -/
  | mbxEnable (f : Fin 16)
  /-- R475: Writing MBX_EN = 0 stops acceptance, and replies then due are discarded. -/
  | mbxDisable (f : Fin 16)
  /-- R475: A write of REQ_TAIL makes requests ready or is discarded. -/
  | mbxReqTail (f : Fin 16) (tail : W16)
  /-- R475: A write of RSP_HEAD frees consumed reply slots or is discarded. -/
  | mbxRspHead (f : Fin 16) (head : W16)
  /-- R475: When a reply slot and queue room exist, the mailbox engine reads a request, reserves a reply slot and queues it to its core. -/
  | mailboxAccept (f : Fin 16) (bytes : Option (List Byte))
  /-- R46: SEC checks the request, installs the key, page table and sync range, and makes the partition ACTIVE. -/
  | partCreate (m : Msg) (meanwhile : List CfgEvent)
  /-- R52: A new rectangle is checked, added regions are claimed and the resize is started. -/
  | partResize (m : Msg)
  /-- R52: After the reset and scrub, removed regions are released, added regions join and the partition returns ACTIVE. -/
  | partResizeComplete (n : Fin 12)
  /-- R53: The partition is reset and its regions start scrubbing. -/
  | partDestroy (m : Msg)
  /-- R53: Scrub done, keys, page table, grants and ports are removed and the partition returns FREE with a reply. -/
  | partDestroyComplete (n : Fin 12)
  /-- R49: A reset request moves the partition to RESETTING. -/
  | partReset (m : Msg)
  /-- R50: Reset steps 2 to 5 proceed as SCH halts tiles, completes descriptors and clears state. -/
  | partitionResetProgress (n : Fin 12)
  /-- R60: A W-port, T-port or twin port is assigned to or released from a partition. -/
  | portAssign (m : Msg)
  /-- R61: A shared region with ID, key, home and size is created. -/
  | sharedCreate (m : Msg)
  /-- R65: A shared region without grants is destroyed and its pages and key slots erased. -/
  | sharedDestroy (m : Msg)
  /-- R62: A READ or PUBLISH right to a shared region is given and mapped in the grantee's range. -/
  | grant (m : Msg)
  /-- R64: A right is removed, with FORCE first resetting the grantee and emptying its slots. -/
  | revoke (m : Msg)
  /-- R80: SEC unwraps a weight key by ECDH and HKDF and fills a private or shared key slot. -/
  | keyLoad (m : Msg) (key : Option (BitVec 256))
  /-- R81: A key slot is emptied. -/
  | keyErase (m : Msg)
  /-- R78: SEC returns a signed report of image measurements and, for a VF, the partition view. -/
  | attest (m : Msg)
  /-- R85: SEC returns the certificate chain of the device keys. -/
  | deviceCert (m : Msg)
  /-- R77: The fuse SVN is raised to a value no higher than every running image's SVN. -/
  | svnCommit (m : Msg)
  /-- R74: The MMC releases SEC from reset and the boot ROM reads the fuses. -/
  | secRelease (answering : BitVec 12)
  /-- R73: A firmware image arrives and is verified and started, or the other slot is tried. -/
  | bootImageReceive (kind : Fin 4) (slot : Bool) (img : ImageIn) (ms : Nat)
  /-- R75: A boot link that delivers nothing for 100 ms gives LINK_TIMEOUT. -/
  | bootLinkTimeout (kind : Fin 4) (slot : Bool)
  /-- R126: The cadence count increments by 1 at each tick edge. -/
  | tickEdge (source : W64) (residual : Int)
  /-- R397: Every 64 ct a TIMING flit is sent on each ACTIVE T-port whose partner supports it. -/
  | timingFlitSend (k : Fin 12) (tx : W64)
  /-- R397: A received TIMING flit measures link delay and offers a cadence input for selection. -/
  | timingFlitReceive (k : Fin 12) (lcrcOk : Bool) (f : TimingFlit) (rx : W64)
  /-- R129: The MMC's PTP slave receives a Sync and measures the offset. -/
  | ptpSyncReceive (offset : Int) (clockId : W64) (domain : Byte) (timed : Bool)
  /-- R131: A new best input that has held for 1 s replaces the current input. -/
  | bestInputHoldExpiry
  /-- R134: With no valid symbol or Sync for the limit, the module enters HOLDOVER. -/
  | sourceLoss (port : Option (Fin 12))
  /-- R134: The holdover error bound passes 20 ns and IN_SPEC falls to 0. -/
  | cadenceOutOfSpec (boundNs : W64)
  /-- R130: A write of CAD.CFG.SOURCE_MODE changes the cadence input mode within 1 ms. -/
  | sourceModeWrite (k : Fin 4) (mode : BitVec 2)
  /-- R130: A write of CAD.LOCAL_SET starts the count in LOCAL from that value when UNSET. -/
  | localSetWrite (k : Fin 4) (value : W64)
  /-- R142: A region's class is decided and its node decouples, settles and runs in the new class. -/
  | classChange (r : Fin 144)
  /-- R142: A node couples in phase with a neighbour in its class and the crossing returns to synchronous. -/
  | crossingRelock (r : Fin 144) (dir : Fin 4)
  /-- R109: Descriptor NOP ends OK as soon as it starts. -/
  | nop (op : Nat)
  /-- R109: FENCE with scope RING ends when every earlier descriptor of its ring has completed. -/
  | fence (op : Nat)
  /-- R109: FENCE with scope PARTITION ends when every earlier-admitted descriptor of the partition has completed. -/
  | fencePartition (op : Nat)
  /-- R109: SYNC_SIGNAL ADD adds VALUE to a sync object modulo 2^64. -/
  | syncSignal (op : Nat)
  /-- R109: SYNC_SIGNAL SET stores VALUE in a sync object. -/
  | syncSignalSet (op : Nat)
  /-- R109: SYNC_WAIT ends OK at the first moment its 64-bit comparison holds. -/
  | syncWait (op : Nat)
  /-- R109: A SYNC_WAIT whose TIMEOUT passes first ends CANCELLED with DETAIL 2. -/
  | syncWaitTimeout (op : Nat)
  /-- R168: A program image is read once and multicast into a slot of every tile of a block. -/
  | loadProgram (op : Nat) (host : List Byte)
  /-- R168: Every tile of a block starts a loaded program at ENTRY with the given arguments. -/
  | run (op : Nat)
  /-- R171: A started LOAD_PROGRAM or RUN acquires its last tile claim and begins on the block. -/
  | runClaimGranted (op : Nat) (host : List Byte)
  /-- R344: COPY moves LEN bytes between host, range, tile, slice or T2 fill in ascending granule order. -/
  | copy (op : Nat) (host : List Byte)
  /-- R346: Lower-tier pages of a range are fetched into T1 and optionally pinned. -/
  | tierPrefetch (op : Nat)
  /-- R346: Resident copies of a range are unpinned or discarded, and with DROP_WRITTEN anonymous pages are freed. -/
  | tierRelease (op : Nat)
  /-- R361: A manifest is copied into a slot, pages pinned, optionally verified, and the slot made READY. -/
  | weightBuild (op : Nat) (host : Option (List Byte))
  /-- R371: A SWAP action arms a move of the active pointer to the target slot at its swap point. -/
  | weightSwap (op : Nat)
  /-- R366: A STREAM action opens one instance of each stream ID in a range from the ACTIVE slot. -/
  | stream (op : Nat)
  /-- R375: A slot's SHARE segments are copied into a shared region and its published table written. -/
  | publish (op : Nat)
  /-- R448: Each rank receives the element-wise reduction over all ranks. -/
  | allReduce (op : Nat)
  /-- R448: Each rank receives its part of the reduction. -/
  | reduceScatter (op : Nat)
  /-- R448: Each rank receives every rank's contribution in rank order. -/
  | allGather (op : Nat)
  /-- R448: Every rank receives ROOT's data. -/
  | broadcast (op : Nat)
  /-- R448: ROOT receives the reduction over all ranks. -/
  | reduce (op : Nat)
  /-- R448: The operation ends on every member after every member has started it. -/
  | barrier (op : Nat)
  /-- R446: A FORM action puts the group in FORMING and exchanges signatures along tree 0. -/
  | groupForm (op : Nat)
  /-- R446: A DESTROY action ends any running collective by squall and frees the group. -/
  | groupDestroy (op : Nat)
  /-- R464: The group re-forms without listed members under a new epoch. -/
  | groupReform (op : Nat)
  /-- R466: A copy of a range is scheduled for the snapshot point of a tick. -/
  | snapshot (op : Nat)
  /-- R467: At the tick the source granules are marked pending and the copy proceeds. -/
  | snapshotPoint (op : Nat)
  /-- R572: Bytes of the primary's range are copied into the standby's pending bank. -/
  | mirrorCopy (x : MirrorEnd)
  /-- R573: After earlier MIRRORs complete, a mirror point is scheduled. -/
  | mirrorCommit (op : Nat)
  /-- R573: At the point the standby swaps pending and committed banks and records the label. -/
  | commitPoint (n : Fin 12) (label : W64) (tick : W48)
  /-- R189: A queued instruction at its queue head, its token wait satisfied, begins executing. -/
  | queueBegin (t : Tile) (q : Queue)
  /-- R156: A queued instruction completes and increments its done token. -/
  | instructionComplete (t : Tile) (q : Queue) (k : Nat)
  /-- R182: A sequencer hold on TWAIT, SWAIT, QSYNC or SRD ends and issue resumes. -/
  | issueResume (t : Tile)
  /-- R182: A SWAIT timeout passes and 1 is written to its destination. -/
  | swaitTimeout (t : Tile)
  /-- R161: Background scrub visits SRAM words at rank 7, each at least every 10 s. -/
  | eccScrub (t : Tile) (word : Fin 98304) (found : EccFind)
  /-- R199: Tile instruction NOP does nothing. -/
  | tileNop (t : Tile)
  /-- R199: After earlier instructions complete, the tile halts with its exit code. -/
  | halt (t : Tile) (fn : Bool) (a : BitVec 5) (imm : W32)
  /-- R199: Issue holds until earlier instructions of the named queues complete. -/
  | qsync (t : Tile) (imm : W32)
  /-- R199: Issue holds until a token reaches a value. -/
  | twait (t : Tile) (fn : Bool) (tok : BitVec 4) (d : BitVec 5) (imm : W32)
  /-- R199: A token value is read into a scalar. -/
  | trd (t : Tile) (d : BitVec 5) (tok : BitVec 4)
  /-- R191: A tile control register is read into a scalar. -/
  | crd (t : Tile) (d : BitVec 5) (imm : W32)
  /-- R191: A tile control register is written. -/
  | cwr (t : Tile) (a : BitVec 5) (imm : W32)
  /-- R198: The return index is saved and issue continues at i + IMM. -/
  | jal (t : Tile) (d : BitVec 5) (imm : W32)
  /-- R198: Issue continues at the index in a scalar. -/
  | jr (t : Tile) (a : BitVec 5)
  /-- R198: A conditional branch to i + OFF. -/
  | br (t : Tile) (cond : BitVec 4) (a b : BitVec 5) (off : W32)
  /-- R195: ALU sub-function: a + b. -/
  | add (t : Tile) (d a b : BitVec 5) (w32 : Bool)
  /-- R195: ALU sub-function: a − b. -/
  | sub (t : Tile) (d a b : BitVec 5) (w32 : Bool)
  /-- R195: ALU sub-function: a & b. -/
  | and (t : Tile) (d a b : BitVec 5) (w32 : Bool)
  /-- R195: ALU sub-function: a | b. -/
  | or (t : Tile) (d a b : BitVec 5) (w32 : Bool)
  /-- R195: ALU sub-function: a ^ b. -/
  | xor (t : Tile) (d a b : BitVec 5) (w32 : Bool)
  /-- R195: ALU sub-function: shift left. -/
  | shl (t : Tile) (d a b : BitVec 5) (w32 : Bool)
  /-- R195: ALU sub-function: logical shift right. -/
  | shr (t : Tile) (d a b : BitVec 5) (w32 : Bool)
  /-- R195: ALU sub-function: arithmetic shift right. -/
  | sar (t : Tile) (d a b : BitVec 5) (w32 : Bool)
  /-- R195: ALU sub-function: signed minimum. -/
  | min (t : Tile) (d a b : BitVec 5) (w32 : Bool)
  /-- R195: ALU sub-function: signed maximum. -/
  | max (t : Tile) (d a b : BitVec 5) (w32 : Bool)
  /-- R195: ALU sub-function: unsigned minimum. -/
  | minu (t : Tile) (d a b : BitVec 5) (w32 : Bool)
  /-- R195: ALU sub-function: unsigned maximum. -/
  | maxu (t : Tile) (d a b : BitVec 5) (w32 : Bool)
  /-- R195: ALU sub-function: 1 if equal. -/
  | seq (t : Tile) (d a b : BitVec 5) (w32 : Bool)
  /-- R195: ALU sub-function: 1 if less, signed. -/
  | slt (t : Tile) (d a b : BitVec 5) (w32 : Bool)
  /-- R195: ALU sub-function: 1 if less, unsigned. -/
  | sltu (t : Tile) (d a b : BitVec 5) (w32 : Bool)
  /-- R195: ALUI sub-function: a + IMM. -/
  | aluiAdd (t : Tile) (d a : BitVec 5) (imm : W32)
  /-- R195: ALUI sub-function: a − IMM. -/
  | aluiSub (t : Tile) (d a : BitVec 5) (imm : W32)
  /-- R195: ALUI sub-function: a & IMM. -/
  | aluiAnd (t : Tile) (d a : BitVec 5) (imm : W32)
  /-- R195: ALUI sub-function: a | IMM. -/
  | aluiOr (t : Tile) (d a : BitVec 5) (imm : W32)
  /-- R195: ALUI sub-function: a ^ IMM. -/
  | aluiXor (t : Tile) (d a : BitVec 5) (imm : W32)
  /-- R195: ALUI sub-function: shift left by IMM. -/
  | aluiShl (t : Tile) (d a : BitVec 5) (imm : W32)
  /-- R195: ALUI sub-function: logical shift right by IMM. -/
  | aluiShr (t : Tile) (d a : BitVec 5) (imm : W32)
  /-- R195: ALUI sub-function: arithmetic shift right by IMM. -/
  | aluiSar (t : Tile) (d a : BitVec 5) (imm : W32)
  /-- R195: ALUI sub-function: signed minimum with IMM. -/
  | aluiMin (t : Tile) (d a : BitVec 5) (imm : W32)
  /-- R195: ALUI sub-function: signed maximum with IMM. -/
  | aluiMax (t : Tile) (d a : BitVec 5) (imm : W32)
  /-- R195: ALUI sub-function: unsigned minimum with IMM. -/
  | aluiMinu (t : Tile) (d a : BitVec 5) (imm : W32)
  /-- R195: ALUI sub-function: unsigned maximum with IMM. -/
  | aluiMaxu (t : Tile) (d a : BitVec 5) (imm : W32)
  /-- R195: ALUI sub-function: 1 if equal to IMM. -/
  | aluiSeq (t : Tile) (d a : BitVec 5) (imm : W32)
  /-- R195: ALUI sub-function: 1 if less than IMM, signed. -/
  | aluiSlt (t : Tile) (d a : BitVec 5) (imm : W32)
  /-- R195: ALUI sub-function: 1 if less than IMM, unsigned. -/
  | aluiSltu (t : Tile) (d a : BitVec 5) (imm : W32)
  /-- R195: Low 64 bits of a product. -/
  | mul (t : Tile) (d a b : BitVec 5) (w32 : Bool)
  /-- R195: High 64 bits of the signed product. -/
  | mulh (t : Tile) (d a b : BitVec 5) (w32 : Bool)
  /-- R195: High 64 bits of the unsigned product. -/
  | mulhu (t : Tile) (d a b : BitVec 5) (w32 : Bool)
  /-- R195: Load sign-extended immediate. -/
  | li (t : Tile) (d : BitVec 5) (imm : W32)
  /-- R195: Load zero-extended immediate. -/
  | liu (t : Tile) (d : BitVec 5) (imm : W32)
  /-- R195: Load immediate into the high half. -/
  | lih (t : Tile) (d : BitVec 5) (imm : W32)
  /-- R196: Address register set to IMM. -/
  | aset (t : Tile) (d : BitVec 4) (imm : W32)
  /-- R196: Address register plus IMM. -/
  | aadd (t : Tile) (d a : BitVec 4) (imm : W32)
  /-- R196: Address register from a scalar plus IMM. -/
  | afroms (t : Tile) (d : BitVec 4) (a : BitVec 5) (imm : W32)
  /-- R196: Scalar from an address register plus IMM. -/
  | atos (t : Tile) (d : BitVec 5) (a : BitVec 4) (imm : W32)
  /-- R196: A ring pointer advances by a step with wrap. -/
  | awrap (t : Tile) (d a : BitVec 4) (b : BitVec 5)
  /-- R197: Predicate and. -/
  | pand (t : Tile) (d a b : BitVec 3)
  /-- R197: Predicate or. -/
  | por (t : Tile) (d a b : BitVec 3)
  /-- R197: Predicate exclusive or. -/
  | pxor (t : Tile) (d a b : BitVec 3)
  /-- R197: Predicate and-not. -/
  | pandn (t : Tile) (d a b : BitVec 3)
  /-- R197: Predicate not. -/
  | pnot (t : Tile) (d a : BitVec 3)
  /-- R197: Predicate from a scalar. -/
  | pfroms (t : Tile) (d : BitVec 3) (a : BitVec 5)
  /-- R197: Scalar from a predicate. -/
  | ptos (t : Tile) (d : BitVec 5) (a : BitVec 3)
  /-- R197: Predicate with the first n lanes set. -/
  | pfirst (t : Tile) (d : BitVec 3) (a : BitVec 5)
  /-- R200: SSIG ADD queues an addition to a sync object for its release point. -/
  | ssig (t : Tile) (off : SyncOff) (val : SyncVal)
  /-- R200: SSIG SET queues a store to a sync object for its release point. -/
  | ssigSet (t : Tile) (off : SyncOff) (val : SyncVal)
  /-- R183: Once earlier instructions complete, the SSIG takes effect at the object's home. -/
  | ssigRelease (t : Tile)
  /-- R200: Issue holds until a sync object meets a comparison or times out. -/
  | swait (t : Tile) (d a b c : BitVec 5) (cmp : BitVec 4)
  /-- R200: A sync object's value is read into a scalar. -/
  | srd (t : Tile) (d a : BitVec 5)
  /-- R201: Issue holds until a tap or egress entry is DONE or ABORTED. -/
  | stwait (t : Tile) (d : BitVec 5) (e : BitVec 3) (egress : Bool)
  /-- R201: The generation and slot of a tap entry's instance are read. -/
  | stgen (t : Tile) (d : BitVec 5) (e : BitVec 3)
  /-- R201: A stream entry's state and counts are read. -/
  | ststat (t : Tile) (d : BitVec 5) (e : BitVec 3) (egress : Bool)
  /-- R202: FP32 add. -/
  | vadd (t : Tile) (v : VArgs) (tok : Tok)
  /-- R202: FP32 subtract. -/
  | vsub (t : Tile) (v : VArgs) (tok : Tok)
  /-- R202: FP32 multiply. -/
  | vmul (t : Tile) (v : VArgs) (tok : Tok)
  /-- R202: FP32 fused multiply-add. -/
  | vfma (t : Tile) (v : VArgs) (tok : Tok)
  /-- R202: FP32 fused negated multiply plus c. -/
  | vfms (t : Tile) (v : VArgs) (tok : Tok)
  /-- R230: FP32 minimum. -/
  | vfVmin (t : Tile) (v : VArgs) (tok : Tok)
  /-- R230: FP32 maximum. -/
  | vfVmax (t : Tile) (v : VArgs) (tok : Tok)
  /-- R202: FP32 absolute value. -/
  | vabs (t : Tile) (v : VArgs) (tok : Tok)
  /-- R202: FP32 negation. -/
  | vneg (t : Tile) (v : VArgs) (tok : Tok)
  /-- R230: 2 to the power a. -/
  | vexp2 (t : Tile) (v : VArgs) (tok : Tok)
  /-- R230: Base-2 logarithm. -/
  | vlog2 (t : Tile) (v : VArgs) (tok : Tok)
  /-- R230: Reciprocal. -/
  | vrcp (t : Tile) (v : VArgs) (tok : Tok)
  /-- R230: Reciprocal square root. -/
  | vrsqrt (t : Tile) (v : VArgs) (tok : Tok)
  /-- R230: Square root. -/
  | vsqrt (t : Tile) (v : VArgs) (tok : Tok)
  /-- R230: e to the power a. -/
  | vexp (t : Tile) (v : VArgs) (tok : Tok)
  /-- R202: 32-bit integer add. -/
  | viadd (t : Tile) (v : VArgs) (tok : Tok)
  /-- R202: 32-bit integer subtract. -/
  | visub (t : Tile) (v : VArgs) (tok : Tok)
  /-- R202: Low 32 bits of an integer product. -/
  | vimul (t : Tile) (v : VArgs) (tok : Tok)
  /-- R202: Bitwise and per lane. -/
  | vand (t : Tile) (v : VArgs) (tok : Tok)
  /-- R202: Bitwise or per lane. -/
  | vor (t : Tile) (v : VArgs) (tok : Tok)
  /-- R202: Bitwise exclusive or per lane. -/
  | vxor (t : Tile) (v : VArgs) (tok : Tok)
  /-- R202: Shift left per lane. -/
  | vshl (t : Tile) (v : VArgs) (tok : Tok)
  /-- R202: Logical shift right per lane. -/
  | vshr (t : Tile) (v : VArgs) (tok : Tok)
  /-- R202: Arithmetic shift right per lane. -/
  | vsar (t : Tile) (v : VArgs) (tok : Tok)
  /-- R202: Signed integer minimum per lane. -/
  | viVmin (t : Tile) (v : VArgs) (tok : Tok)
  /-- R202: Signed integer maximum per lane. -/
  | viVmax (t : Tile) (v : VArgs) (tok : Tok)
  /-- R202: Unsigned integer minimum per lane. -/
  | vminu (t : Tile) (v : VArgs) (tok : Tok)
  /-- R202: Unsigned integer maximum per lane. -/
  | vmaxu (t : Tile) (v : VArgs) (tok : Tok)
  /-- R203: A lane-wise comparison writes a predicate. -/
  | vcmp (t : Tile) (v : VArgs) (tok : Tok) (fn : BitVec 5) (ty : BitVec 4)
  /-- R203: Lane-wise selection by predicate. -/
  | vsel (t : Tile) (v : VArgs) (tok : Tok)
  /-- R203: FP32 sum of selected lanes in a fixed tree. -/
  | rsum (t : Tile) (v : VArgs) (tok : Tok)
  /-- R203: Maximum of selected lanes. -/
  | rmax (t : Tile) (v : VArgs) (tok : Tok)
  /-- R203: Minimum of selected lanes. -/
  | rmin (t : Tile) (v : VArgs) (tok : Tok)
  /-- R203: Integer sum of selected lanes. -/
  | risum (t : Tile) (v : VArgs) (tok : Tok)
  /-- R203: Lane permutation by index vector. -/
  | perm (t : Tile) (v : VArgs) (tok : Tok)
  /-- R203: Lane rotation by a scalar. -/
  | rot (t : Tile) (v : VArgs) (tok : Tok)
  /-- R203: Broadcast of one lane. -/
  | bcast (t : Tile) (v : VArgs) (tok : Tok) (imm : Byte)
  /-- R203: Every lane from a scalar. -/
  | froms (t : Tile) (v : VArgs) (tok : Tok)
  /-- R203: A scalar from one lane. -/
  | tos (t : Tile) (v : VArgs) (tok : Tok) (imm : Byte)
  /-- R203: One lane from a scalar. -/
  | insert (t : Tile) (v : VArgs) (tok : Tok) (imm : Byte)
  /-- R203: Each lane receives its index. -/
  | iota (t : Tile) (v : VArgs) (tok : Tok)
  /-- R231: FP32 to signed 32-bit integer. -/
  | vcvtF2i (t : Tile) (v : VArgs) (r : RndArgs) (tok : Tok)
  /-- R231: Signed 32-bit integer to FP32. -/
  | vcvtI2f (t : Tile) (v : VArgs) (r : RndArgs) (tok : Tok)
  /-- R231: Unsigned 32-bit integer to FP32. -/
  | vcvtU2f (t : Tile) (v : VArgs) (r : RndArgs) (tok : Tok)
  /-- R231: FP32 to unsigned 32-bit integer. -/
  | vcvtF2u (t : Tile) (v : VArgs) (r : RndArgs) (tok : Tok)
  /-- R204: FP32 lanes narrowed into a part of a register. -/
  | vnarrow (t : Tile) (v : VArgs) (r : RndArgs) (tok : Tok) (ty : BitVec 4) (pos : BitVec 3)
  /-- R232: A narrow part widened exactly to FP32. -/
  | vwiden (t : Tile) (v : VArgs) (tok : Tok) (ty : BitVec 4) (pos : BitVec 3)
  /-- R236: Two MX blocks quantized with their scales. -/
  | vmxq (t : Tile) (v : VArgs) (r : RndArgs) (tok : Tok) (ty : BitVec 4) (pos : BitVec 3)
  /-- R232: An MX part decoded exactly to FP32. -/
  | vmxdq (t : Tile) (v : VArgs) (tok : Tok) (ty : BitVec 4) (pos : BitVec 3)
  /-- R205: Scalar load from SRAM. -/
  | ld (t : Tile) (m : MemArgs) (tok : Tok)
  /-- R205: Scalar store to SRAM. -/
  | st (t : Tile) (m : MemArgs) (tok : Tok)
  /-- R205: Vector load from SRAM. -/
  | vld (t : Tile) (m : MemArgs) (tok : Tok)
  /-- R205: Vector store to SRAM. -/
  | vst (t : Tile) (m : MemArgs) (tok : Tok)
  /-- R206: Dense matrix multiply-accumulate into a wide accumulator bank. -/
  | tmma (t : Tile) (x : MmArgs) (tok : Tok)
  /-- R207: Named accumulator banks set to 0. -/
  | tzero (t : Tile) (tok : Tok) (mask : BitVec 4)
  /-- R208: Accumulator banks scaled, rounded and written to SRAM. -/
  | tdrain (t : Tile) (d : DrainArgs) (tok : Tok)
  /-- R209: WIDE128 partials added exactly into a bank. -/
  | twadd (t : Tile) (ar : BitVec 4) (tok : Tok) (acc : BitVec 2)
  /-- R252: A compressed sparse operand multiplied by a dense one into a bank. -/
  | smma (t : Tile) (x : MmArgs) (tok : Tok)
  /-- R265: Values added to hash entries by key, spilling victims. -/
  | hacc (t : Tile) (v : VArgs) (tok : Tok)
  /-- R271: Merged values of keys are looked up. -/
  | hget (t : Tile) (v : VArgs) (tok : Tok)
  /-- R267: The spill configuration is loaded and the ring emptied. -/
  | hcfg (t : Tile) (tok : Tok) (aa : BitVec 4)
  /-- R272: Every merged key-value pair is written in key order. -/
  | hdrain (t : Tile) (tok : Tok) (aa : BitVec 4)
  /-- R274: Hash entries, spill ring and DROPPED are cleared. -/
  | hclr (t : Tile) (tok : Tok)
  /-- R212: A mover copy between SRAM, tiles, slice and range, optionally compressed. -/
  | mcopy (t : Tile) (a : MoveArgs) (tok : Tok)
  /-- R215: A destination is filled with a repeated 64-bit pattern. -/
  | mfill (t : Tile) (a : MoveArgs) (tok : Tok)
  /-- R258: The output compressor configuration is loaded and validated. -/
  | ccfg (t : Tile) (ar : BitVec 4) (tok : Tok)
  /-- R218: A tap entry is set from a record and ARMED. -/
  | tap (t : Tile) (e : BitVec 3) (ar : BitVec 4) (tok : Tok)
  /-- R218: A tap entry returns to IDLE. -/
  | tapx (t : Tile) (e : BitVec 3) (tok : Tok)
  /-- R218: Granules at the head of a tap ring are freed. -/
  | strel (t : Tile) (c : CountArgs) (tok : Tok)
  /-- R219: An egress entry is set from a record and ARMED. -/
  | egress (t : Tile) (e : BitVec 3) (ar : BitVec 4) (tok : Tok)
  /-- R219: The next n indices are contributed from the ring to the router. -/
  | econtrib (t : Tile) (c : CountArgs) (tok : Tok)
  /-- R219: The next n indices are marked skipped. -/
  | eskip (t : Tile) (c : CountArgs) (tok : Tok)
  /-- R176: An OPEN marker reaches a tile and ARMED tap entries attach. -/
  | streamOpenArrive (t : Tile) (inst : Nat)
  /-- R176: A stream granule reaches a tile and attached entries copy it into their rings. -/
  | streamGranuleArrive (t : Tile) (inst : Nat) (ecc : LinkEcc)
  /-- R176: A CLOSE marker reaches a tile and attached entries become DONE. -/
  | streamCloseArrive (t : Tile) (inst : Nat)
  /-- R176: An ABORT marker reaches a tile and attached entries become ABORTED. -/
  | streamAbortArrive (t : Tile) (inst : Nat)
  /-- R370: A GRAD_OPEN reaches a tile; an egress entry with another RED raises TAP_CONFIG. -/
  | gradOpenArrive (t : Tile) (inst : Nat)
  /-- R180: A gradient granule reaches a router and is forwarded or held for the tile's contribution. -/
  | gradientGranuleArrive (t : Tile) (inst : Nat) (ecc : LinkEcc)
  /-- R280: A WRITE packet reaches its destination and is written and acknowledged. -/
  | write (pkt : Nat) (ecc : LinkEcc)
  /-- R280: A READ packet reaches its destination and READ_DATA is returned. -/
  | read (pkt : Nat) (ecc : LinkEcc) (cell : EccFind)
  /-- R297: A cast packet is delivered to every member of a row, column or block. -/
  | writeCast (pkt : Nat) (ecc : LinkEcc)
  /-- R298: A write acknowledgment arrives, combining member counts for a cast. -/
  | writeAck (pkt : Nat)
  /-- R282: Read data arrives at the requester. -/
  | readData (pkt : Nat) (ecc : LinkEcc)
  /-- R295: A drop notice arrives and the endpoint fails the operation concerned. -/
  | dropNotice (w : FabricWait)
  /-- R307: An operation waiting 2 ms for a response ends at that granule. -/
  | fabricTimeout (w : FabricWait)
  /-- R290: After in-flight packets drain, SCH writes new route tables and held sources resume. -/
  | routesChanged
  /-- R366: When route entries and engine room exist, an engine installs the stream path and sends OPEN. -/
  | streamInstanceOpen (op : Nat)
  /-- R368: An instance sends CLOSE or ABORT after its last granule or failure. -/
  | streamInstanceClose (inst : Nat)
  /-- R373: At the boundary, tick or start, the active pointer moves and held OPENs are released. -/
  | swapPoint (n : Fin 12)
  /-- R326: A T2 frame is read from flash and checked, decrypted and decoded. -/
  | t2ChunkReadDone (k : ChunkKey) (opened : Option (List Byte))
  /-- R356: A host-memory frame of a HOST segment is read and checked. -/
  | hostFrameReadDone (k : ChunkKey) (len : W32) (frame : List Byte) (opened : Option (List Byte))
  /-- R400: A server reply frame arrives and is checked under the frame checks. -/
  | chunkData (p : Fin 24) (opened : Option (List Byte))
  /-- R334: A chunk passes its deadline and waiting accesses are stalled. -/
  | chunkLate (k : ChunkKey)
  /-- R336: An access stalled for TIMEOUT_MS ends TIER_STALL. -/
  | stallTimeout (n : Fin 12) (w : Waiter)
  /-- R400: A chunk without reply for 4 × T3_DEADLINE_US is cancelled and re-requested. -/
  | chunkReplyTimeout (k : ChunkKey)
  /-- R400: 10 µs after a BUSY reply the chunk is requested again. -/
  | chunkBusyRetry (k : ChunkKey)
  /-- R377: A relayed encrypted frame arrives and serves a pending fetch or is discarded. -/
  | relayFrameReceive (n : Fin 12) (frame : List Byte) (opened : Option (List Byte))
  /-- R377: A SINK's chunk not relayed by its deadline is requested from the server. -/
  | relayFallback (k : ChunkKey)
  /-- R378: A fetch window opens and waiting relay requests are sent. -/
  | fetchWindowOpen (n : Fin 12) (handle : Fin 4096)
  /-- R317: A write of MEM.SPLIT.PRIVATE_SLOTS is accepted or refused. -/
  | privateSlotsWrite (k : Fin 4) (n : Fin 12) (value : W64)
  /-- R333: A quota write below use discards copies and may set OVER. -/
  | quotaWrite (k : Fin 4) (n : Fin 12) (t3 : Bool) (value : W64)
  /-- R324: Pages of the range are mapped anonymously or to object pages. -/
  | memMap (m : Msg)
  /-- R347: Pages are unmapped after started transfers complete. -/
  | memUnmap (m : Msg)
  /-- R322: An object table handle is filled. -/
  | memObjCreate (m : Msg)
  /-- R322: A T2 object becomes SEALED after started fills complete. -/
  | memObjSeal (m : Msg)
  /-- R322: An unreferenced object is destroyed and its blocks freed. -/
  | memObjDestroy (m : Msg)
  /-- R324: A homeless shared region receives its backing object. -/
  | memSharedBack (m : Msg)
  /-- R347: Allocated pages in named regions move to slots outside them. -/
  | memEvacuate (m : Msg)
  /-- R379: A weight slot is emptied. -/
  | wgtSlotClear (m : Msg)
  /-- R377: A T3 object is assigned to a relay group with a role and fetch window. -/
  | wgtRelaySet (m : Msg) (members : Option (List W32))
  /-- R379: A relay assignment is removed. -/
  | wgtRelayClear (m : Msg)
  /-- R386: A write of CTRL.ENABLE takes a port to DETECT or DISABLED. -/
  | portEnableWrite (k : Fin 4) (p : Fin 38) (value : W64)
  /-- R389: Writing 1 to CTRL.RETRAIN requests a retrain of an ACTIVE port. -/
  | ctrlRetrain (k : Fin 4) (p : Fin 38)
  /-- R386: The partner's signal on all lanes takes the port to EQUALIZE. -/
  | partnerSignalDetect (p : Fin 38)
  /-- R386: After 100 ms with ALLOW_X4, the port leaves DETECT on one quarter. -/
  | narrowDetectTimeout (p : Fin 38) (q : Fin 2)
  /-- R386: After 1 s in DETECT FAIL_CAUSE reads NO_PARTNER. -/
  | noPartnerTimeout (p : Fin 38)
  /-- R386: Equalization is agreed and the port goes to ALIGN. -/
  | equalizeDone (p : Fin 38)
  /-- R386: EQUALIZE fails and the port retries at half rate or goes DOWN. -/
  | equalizeTimeout (p : Fin 38)
  /-- R386: FEC lock, deskew and loop delay done, the port goes to PARAMS. -/
  | alignDone (p : Fin 38)
  /-- R386: ALIGN fails and the port goes DOWN, possibly relocating a quarter. -/
  | alignTimeout (p : Fin 38) (lane : Option (Fin 2))
  /-- R388: The partner's PARAMS body is received and checked before ACTIVE. -/
  | params (p : Fin 38) (body : List Byte)
  /-- R386: PARAMS not completed in 10 ms takes the port DOWN. -/
  | paramsTimeout (p : Fin 38)
  /-- R389: A retrain returns to ACTIVE with no flit lost. -/
  | portRetrained (p : Fin 38) (ms : W16)
  /-- R386: A retrain not done in 50 ms takes the port DOWN. -/
  | retrainTimeout (p : Fin 38)
  /-- R386: 1 s after DOWN the port returns to DETECT. -/
  | downRetryTimer (p : Fin 38)
  /-- R406: A quarter's move to a spare well completes and the port goes to DETECT. -/
  | portRelocated (p : Fin 38)
  /-- R407: A port quarter is moved to a candidate, home or automatic well. -/
  | bptRelocate (m : Msg)
  /-- R392: A DATA flit is accepted in SEQ order or discarded with a NAK. -/
  | dataFlitReceive (p : Fin 38) (w : WireFlit)
  /-- R392: A received NAK makes the sender replay from its SEQ. -/
  | nak (p : Fin 38) (seq : BitVec 10)
  /-- R389: A partner's RETRAIN_REQ takes the port to RETRAIN. -/
  | retrainReq (p : Fin 38)
  /-- R390: An ECHO_REQ is answered with ECHO_RSP. -/
  | echoReq (p : Fin 38) (time : W64)
  /-- R390: An ECHO_RSP gives the loop delay measurement. -/
  | echoRsp (p : Fin 38) (ns : W32)
  /-- R392: No ACK progress for twice the loop delay triggers a replay. -/
  | replayTimeout (p : Fin 38)
  /-- R389: More than 16 uncorrectable codewords in 1 ms take the port to RETRAIN. -/
  | codewordBurst (p : Fin 38) (corrected : W32) (uncorr : W16)
  /-- R403: A frame acknowledgment frees the held frame. -/
  | gradAck (p : Fin 24)
  /-- R401: GRAD_DONE with OK closes the gradient instance. -/
  | gradDone (p : Fin 24)
  /-- R403: A wait longer than GRAD_ACK_MS aborts the gradient instance. -/
  | gradAckTimeout (inst : Nat)
  /-- R400: 10 µs after a BUSY reply a frame or GRAD_CLOSE is sent again. -/
  | gradBusyResend (inst : Nat)
  /-- R427: A torus packet arrives, is key- and GEN-checked and delivered or forwarded. -/
  | torusPacketArrive (k : Fin 12)
  /-- R424: A queued torus packet departs when the bubble rule's credits are available. -/
  | torusEgressSend (k : Fin 12) (ch : Fin 6)
  /-- R424: A packet held 1 ms in an egress queue is discarded. -/
  | holdLimitExpiry (k : Fin 12) (i : Nat)
  /-- R423: A staged route set applies at its tick and clears fallbacks. -/
  | routeSetApply
  /-- R428: A staged key table replaces the old one at its tick. -/
  | keysetApplied
  /-- R413: The module's ID, torus dimensions and job block are set. -/
  | torConfig (m : Msg)
  /-- R423: A route set is staged for a tick. -/
  | torRouteSet (m : Msg) (records : Option (List Byte))
  /-- R428: A key table is staged for a tick. -/
  | torKeyset (m : Msg)
  /-- R431: A multicast group is filled. -/
  | torMcastSet (m : Msg) (bytes : Option (List Byte))
  /-- R437: A multicast group is cleared. -/
  | torMcastClear (m : Msg)
  /-- R458: A collective piece arrives and is combined or forwarded. -/
  | piece (n : Fin 12)
  /-- R458: A piece acknowledgment arrives. -/
  | pieceAck (n : Fin 12)
  /-- R446: A FORM_UP control message with a signature arrives. -/
  | formUp (n : Fin 12)
  /-- R446: A FORM_DOWN arrives and the member enters READY. -/
  | formDown (n : Fin 12)
  /-- R446: A mismatch message arrives and the member ends and returns FREE. -/
  | formMismatch (n : Fin 12)
  /-- R455: A BARRIER_UP control message arrives. -/
  | barrierUp (n : Fin 12)
  /-- R455: A BARRIER_DOWN arrives and the barrier ends. -/
  | barrierDown (n : Fin 12)
  /-- R461: A SQUALL of the current epoch ends the operation, is forwarded and aborts the group. -/
  | squall (n : Fin 12)
  /-- R464: A REFORM_UP with the exclusion signature arrives. -/
  | reformUp (n : Fin 12)
  /-- R464: A REFORM_DOWN arrives and the survivor enters READY with a new epoch. -/
  | reformDown (n : Fin 12)
  /-- R446: A form or re-form not READY within FORM_TIMEOUT_MS ends ABORTED_SQUALL. -/
  | formTimeout (n : Fin 12) (g : Fin 32)
  /-- R460: PROGRESS_MS without an awaited piece starts a squall. -/
  | progressTimeout (n : Fin 12) (g : Fin 32) (src : BitVec 18)
  /-- R453: At LAUNCH the member's engines begin sending. -/
  | launchTick (n : Fin 12) (g : Fin 32)
  /-- R483: A core's watchdog expires and the core enters frost hold. -/
  | watchdogExpiry (c : CoreId) (ms : Nat) (pc : W32)
  /-- R484: A core takes a fatal trap and restarts. -/
  | coreException (c : CoreId) (ms : Nat) (pc : W32)
  /-- R484: An uncorrectable error in a core's local memory restarts it. -/
  | coreMemoryError (c : CoreId) (ms : Nat) (pc : W32)
  /-- R487: The verified image is loaded and the core enters THAWING. -/
  | coreReloadDone (c : CoreId) (imageOk otherOk : Bool)
  /-- R487: The authority releases the core's write paths and its queue resumes. -/
  | coreThawed (c : CoreId) (ms : Nat)
  /-- R487: A core not thawed within twice its restart time restarts again. -/
  | thawTimeout (c : CoreId) (ms : Nat)
  /-- R489: The MMC detects SEC and SCH both down, quiesces ports and restarts them. -/
  | mmcTakeover (ms : Nat)
  /-- R483: A write of FW.WDOG sets a timeout applied from the next watchdog restart. -/
  | wdogWrite (k : Fin 4) (value : W64)
  /-- R492: A function selects a core and offset for dump reads. -/
  | dumpSelWrite (k : Fin 4) (value : W64)
  /-- R492: A read of FW.DUMP_DATA returns 8 dump bytes and advances the offset. -/
  | dumpDataRead (k : Fin 4) (off : BitVec 24) (size : Nat)
  /-- R495: A core echoes 8 bytes with its version and uptime. -/
  | fwPing (m : Msg) (ms : Nat)
  /-- R494: A commanded restart of a core onto a slot. -/
  | fwRestart (m : Msg) (ms : Nat) (pc : W32)
  /-- R493: An image is verified and written to a flash slot. -/
  | fwImageStage (m : Msg) (img : ImageIn)
  /-- R492: A core's dump is copied to host memory. -/
  | fwDumpRead (m : Msg)
  /-- R492: A core's DUMP_VALID is cleared. -/
  | fwDumpClear (m : Msg)
  /-- R502: Every 10 µs VLOG and VSRAM setpoints move toward the sense target. -/
  | voltageLoopStep (r : Fin 144) (vlog vsram : List (BitVec 12))
  /-- R506: A VLOG reading below target minus 25 mV sets duty 8. -/
  | droopEngage (r : Fin 144) (vlog : List (BitVec 12))
  /-- R506: 10 µs of good readings restore duty 16. -/
  | droopRelease (r : Fin 144) (vlog : List (BitVec 12)) (heldUs : Nat)
  /-- R509: Every 2 µs each region estimates its power from activity counts. -/
  | activityEstimate (r : Fin 144) (counts : List Nat)
  /-- R511: Every 2 µs module duty moves against the sliding 1 ms mean. -/
  | peakLimiterStep
  /-- R513: Every 1 ms PWR divides the budget and sets region caps and class targets. -/
  | pwrDivision (windows : List RegionWindow) (volts amps watts : W16) (vlnkMw carrierMw : Nat)
  /-- R515: Every 100 µs each partition is classified into a phase. -/
  | forecastClassify (n : Fin 12) (t v sVal : Nat) (egress : Bool) (powerMw : Nat)
  /-- R515: A planned phase division takes effect at T − 200. -/
  | phasePlanStep (n : Fin 12) (tick : W48)
  /-- R521: A regulator group's alert wire asserts. -/
  | regulatorAlert (r : Fin 144) (cause : BitVec 2)
  /-- R521: 1 ms after the alert deasserts the lull ends and the region rises. -/
  | lullRelease (r : Fin 144)
  /-- R521: An alert held 100 ms is a rail fault of the region. -/
  | alertHeldTimeout (r : Fin 144) (rail : BitVec 3)
  /-- R521: A link group's alert turns off its well's lanes. -/
  | linkGroupAlert (r : Fin 144) (cause : BitVec 2)
  /-- R524: A rail below 80 % for 10 µs switches the region's rails off and fences it. -/
  | railCollapse (r : Fin 144) (rail upStep : BitVec 3)
  /-- R516: Every 10 µs region temperature sensors are sampled. -/
  | thermalSample (r : Fin 144) (temps : List (BitVec 12))
  /-- R517: 10 ms at or below 88 °C release the thermal lull. -/
  | thermalLullRelease (r : Fin 144)
  /-- R517: A sensor at 100 °C for 1 ms starts a fast power-down. -/
  | thermalTrip (r : Fin 144) (temps : List (BitVec 12))
  /-- R518: Every 100 ms the MMC samples coolant and derives COOLANT_W. -/
  | coolantSample (inlet outlet flow : W16)
  /-- R518: Low flow or high inlet for 1 s starts a fast power-down. -/
  | coolantLoss (inlet flow : W16)
  /-- R523: A rail's dwell ends and the next rail is switched off. -/
  | powerDownStep
  /-- R512: A write of PWR.BUDGET.HOST_W changes the budget. -/
  | hostWWrite (k : Fin 4) (watts : W16)
  /-- R528: A write of a region's CEILING limits its class. -/
  | ceilingWrite (k : Fin 4) (r : Fin 144) (value : BitVec 3)
  /-- R528: Writing 1 to a bond-suspect bit clears it. -/
  | suspectClear (k : Fin 4) (r : Fin 144) (bits : W16)
  /-- R512: HOST_W, RACK_W or PEAK_W is set. -/
  | pwrBudgetSet (m : Msg)
  /-- R513: A partition's power guarantee is set. -/
  | pwrShareSet (m : Msg)
  /-- R515: A phase plan is stored for a tick. -/
  | pwrPhasePlan (m : Msg)
  /-- R525: A region's CEILING is set by message. -/
  | pwrCeilingSet (m : Msg)
  /-- R523: An orderly power-down is started. -/
  | pwrOff (m : Msg)
  /-- R531: A region completes a bring-up step and begins the next. -/
  | regionBringupStep (r : Fin 144) (res : StepResult) (ms : Nat)
  /-- R531: A step not done within its limit fences the region. -/
  | bringupStepTimeout (r : Fin 144) (ms : Nat)
  /-- R534: Once all regions are settled and routes are written, PHASE becomes FABRIC_READY. -/
  | fabricReady (ms : Nat)
  /-- R535: Scrubs and links done, PHASE becomes FULL_READY. -/
  | fullReady (ms : Nat)
  /-- R535: At 90 s PHASE becomes FULL_READY with INCOMPLETE set. -/
  | fullReadyTimeout
  /-- R545: The region control block zeroes slice slots in the background. -/
  | scrubBackground (r : Fin 144) (tile : Fin 576) (slot : Fin 384)
  /-- R547: In its slot a slice interface applies and checks new timing. -/
  | stratusCalSlot (r : Fin 144) (margin : W16) (applied : Bool) (failing : List (Fin 576))
  /-- R547: In its slot a port's receivers take new equalization values. -/
  | serdesCalSlot (u : Fin 46) (lowLanes : List (Fin 8))
  /-- R547: In its slot one voltage sensor's offset is renewed. -/
  | vsenseCalSlot (r : Fin 144) (offset : BitVec 8)
  /-- R547: In its slot the oscillator node's trim moves by up to 1 ppm. -/
  | oscCalSlot (r : Fin 144) (delta : BitVec 16)
  /-- R549: A unit without a completed slot for too long makes the process stale. -/
  | calStale (p : Fin 4) (u : Byte)
  /-- R550: A new calibration period takes effect at the next multiple. -/
  | periodCtWrite (k p : Fin 4) (value : W32)
  /-- R539: A region's stored record or known defects are changed for next bring-up. -/
  | bruRepairSet (m : Msg)
  /-- R551: A region's records and known defects are returned. -/
  | bruRepairGet (m : Msg)
  /-- R541: A region is taken through bring-up again while the module runs. -/
  | bruRegionRestart (m : Msg) (ms : Nat)
  /-- R548: rcal learning restarts for a region or all regions. -/
  | bruRcalReset (m : Msg)
  /-- R558: A tile parity error poisons a register or bank or raises POISON_USE. -/
  | tileParityError (t : Tile) (u : ParityUnit)
  /-- R564: Every 1 ms each region computes its rate. -/
  | rateWindow (r : Fin 144)
  /-- R565: At each 100 ms boundary regions are tested against the median. -/
  | stragglerCheck (n : Fin 12)
  /-- R561: A READY region is fenced with FAULT_FENCE. -/
  | rasFence (m : Msg)
  /-- R568: Pairing with a named partner module starts. -/
  | rasTwinPair (m : Msg)
  /-- R568: The pair reaches PAIRED when the partner has named this module. -/
  | twinPaired (partner : BitVec 18)
  /-- R568: PAIRED not reached in 10 s returns the pair to UNPAIRED. -/
  | pairingTimeout
  /-- R577: The pair is dissolved with BREAK cause HOST. -/
  | rasTwinUnpair (m : Msg)
  /-- R570: A partition is bound as PRIMARY or STANDBY to a twin partition. -/
  | rasMirrorBind (m : Msg)
  /-- R571: The twin's bind arrives and the binding leaves BINDING. -/
  | twinBindReceive (theirs ours : Fin 12) (role : BitVec 2) (bankPages : BitVec 21) (key : W16) (taken : Bool)
  /-- R571: BOUND not reached in 10 s returns the binding to UNBOUND. -/
  | bindTimeout (n : Fin 12)
  /-- R577: A binding returns to UNBOUND. -/
  | rasMirrorUnbind (m : Msg)
  /-- R577: A twin's UNBIND arrives and the binding becomes UNBOUND. -/
  | unbind (n : Fin 12)
  /-- R576: Every PRIMARY binding is handed to the twin by BREAK. -/
  | rasTwinHandover (m : Msg)
  /-- R569: Every 100 µs a heartbeat is sent on each ACTIVE twin port. -/
  | twinHeartbeatSend
  /-- R574: No ACTIVE twin port or no heartbeat for 1 ms begins a loss. -/
  | twinLossBegin (noHeartbeat : Bool)
  /-- R574: A probe answer arrives from the partner. -/
  | twinProbeAnswer
  /-- R574: A loss lasting LOSS_MS breaks the pair with its cause. -/
  | lossMsExpiry
  /-- R574: A partner's BREAK arrives and the pair breaks at once. -/
  | twinBreak (cause : BitVec 4)
  /-- R586: Input voltage out of range starts a fast power-down. -/
  | inputVoltageFault (volts : W16)
  /-- R587: Every 10 ms the MMC sets the effective peak limit from input voltage. -/
  | inputLimit (volts : W16)
  /-- R588: The MMC powers the wafer when all conditions hold. -/
  | autoPowerOn
  /-- R591: A leak starts a fast power-down and sets LEAK. -/
  | leakDetect
  /-- R592: The MMC restarts alone within 2 s. -/
  | mmcWatchdogRestart
  /-- R602: The management port link goes up or down. -/
  | mgmtLink (up : Bool)
  /-- R593: A management peer is admitted under TLS with mutual authentication. -/
  | peerAdmit (chains : Bool)
  /-- R589: A pluggable is managed under CMIS, left low-power if it asks over 12 W. -/
  | pluggableInsert (p : Fin 38) (watts : Nat)
  /-- R596: SDA found low starts segment recovery. -/
  | pmbusSdaLow (g : Fin 16) (addr : BitVec 7) (res : SdaResult)
  /-- R596: SCL held low beyond 35 ms isolates the segment. -/
  | sclTimeout (g : Fin 16) (addr : BitVec 7)
  /-- R596: Every 10 s an isolated segment is tried again. -/
  | pmbusReselect (g : Fin 16) (res : SdaResult)
  /-- R598: Every 0.5 ms the safety block samples both channels and updates its state. -/
  | safetySample (a b : Bool)
  /-- R601: MGT status, safety and input readings are returned. -/
  | mgtStatusGet (m : Msg)
  /-- R601: AUTO_ON, PRIV_LINK, LOCATE and the installation root are set. -/
  | mgtConfigSet (m : Msg) (parses : Bool)
  /-- R598: A latched safety FAULT is cleared when both channels are deasserted. -/
  | mgtSafetyClear (m : Msg)
  /-- R588: The MMC powers the wafer on request. -/
  | mgtPowerOn (m : Msg) (dry60 : Bool)
  /-- R601: An orderly power-down is started. -/
  | mgtPowerOff (m : Msg)
  /-- R594: Log records are returned. -/
  | mgtLogRead (m : Msg)
  /-- R596: Recovery of an isolated segment is run again. -/
  | mgtPmbusRejoin (m : Msg) (res : SdaResult)
  /-- R436: The partner of an ACTIVE Barior port resets or its signal vanishes, and the port goes DOWN with FAIL_CAUSE PARTNER_RESET. -/
  | partnerReset (p : Fin 38)
  /-- R535: A flash link trains up with its flash controller after its well completes step 8. -/
  | flashLinkUp (f : Fin 8)
  /-- R326: A flash link goes down, and fetches for its controller move to the nearest link that is up, or stall when none is. -/
  | flashLinkDown (f : Fin 8)
  /-- R574: A heartbeat arrives on an ACTIVE twin port, restarting the 1 ms loss watch and ending a loss in progress. -/
  | twinHeartbeatReceive (p : Fin 2)
  /-- R521: A regulator group's alert wire deasserts, starting the 1 ms lull hold and breaking the 100 ms held-alert count. -/
  | regulatorAlertDeassert (r : Fin 144)
  /-- R185: The sequencer issues a word with an unlisted opcode, sub-function or nonzero reserved field, or reaches an index at or beyond INSTR_COUNT, and raises ILLEGAL_INSTRUCTION. -/
  | illegalInstruction (t : Tile) (word : W64)
  /-- R499: The 54 V input appears and the standby converter starts the MMC and carrier reference with every register at its reset value. -/
  | inputPowerApplied (service : Bool) (volts : W16)
  /-- R586: The input falls below 40.0 V and the MMC and carrier stop, with only the non-volatile log kept. -/
  | inputPowerLoss
  /-- R578: A module reset stops the whole module and returns it to its power-up state, clearing FAILED cores and applying PRIV_LINK_NEXT. -/
  | moduleReset
deriving DecidableEq, Repr

end Sys2Proof
end

