-- ==== Sys2Proof/Config.lean ====
section
/-! DEFINITION. The values the spec leaves open: constants without a body. -/
namespace Sys2Proof

/-- A value the spec does not state, of width `w`, the `k`-th taken (log 4). -/
opaque Config.freeBits (w : Nat) (k : Nat) : BitVec w

/-- A byte of a crash dump that 15 T15.9 does not state: core ID, restarts, byte number (log 5). -/
opaque Config.dumpByte (core restarts i : Nat) : Byte

/-- The signature of an attestation report over its bytes (02 R78, R85; log 6). -/
opaque Config.attestSignature (report : List Byte) : BitVec 768

/-- The static part of a region's power estimate, in mW: VLOG, VSRAM, temperature (16 R509; log 7). -/
opaque Config.staticPower (vlog vsram temp : Nat) : Nat

/-- Which of the admissible results a special function gives for an operand (06 R202, 07 R230; log 20). -/
opaque Config.vsfChoice (fn : Nat) (a : W32) : BitVec 2

/-- A byte of a LOST page, delivered poisoned: partition, address (10 R321; log 22). -/
opaque Config.lostByte (n addr : Nat) : Byte

/-- What AES-256-GCM seals: key, 12-byte nonce, authenticated bytes, plain bytes; the cipher text and its 16-byte tag (11 R351; log 23). -/
opaque Config.gcmSeal (key : BitVec 256) (nonce aad plain : List Byte) : List Byte

/-- Which READY waypoint SCH takes for a route that needs one, among `n` (09 R290; log 27). -/
opaque Config.waypoint (src dst n : Nat) : Nat

/-- The signature that control messages of a group carry over the fields it covers (14 R446, R453, R463; log 29). -/
opaque Config.signature (fields : List Byte) : W64

end Sys2Proof
end

