-- ==== Sys2Proof/Machine/HostState.lean ====
section
/-! DEFINITION. State of the host interface: links, endpoints, rings, operations in flight (03_host_rings, 15 R475). -/
namespace Sys2Proof.Machine

/-- An event as it falls due (03 T3.12 without EVSEQ and PHASE, which its ring gives it). -/
structure Event where
  code : W16
  kind : Byte
  src : W16
  tick : W48
  data : BitVec 120
deriving DecidableEq, Repr

/-- An event ring (03 R117, T3.23). `used`: records written and not consumed. -/
structure EventRing where
  base : W64 := 0
  log2 : BitVec 4 := 0
  en : Bool := false
  head : W16 := 0
  tail : W16 := 0
  phase : Bool := true
  lost : W32 := 0
  seq : W16 := 0
  used : Nat := 0
  losing : Bool := false
deriving DecidableEq, Repr

/-- A status page (03 R120, R121). -/
structure StatusPage where
  en : Bool := false
  base : BitVec 52 := 0
  seq : W64 := 0
  heartbeat : W64 := 0
deriving DecidableEq, Repr

/-- A mailbox (15 R475, T15.15). `rspUsed`: replies written and not consumed; `reserved`: reply slots reserved and not written. -/
structure Mailbox where
  reqBase : W64 := 0
  rspBase : W64 := 0
  log2 : BitVec 4 := 0
  en : Bool := false
  reqTail : Nat := 0
  reqHead : Nat := 0
  rspHead : Nat := 0
  rspTail : Nat := 0
  phase : Bool := true
  rspUsed : Nat := 0
  reserved : Nat := 0
  accepted : BitVec 24 := 0
  refused : Byte := 0
  malformed : Byte := 0
  doorbellDrop : Byte := 0
  lost : Byte := 0
  fetchFault : Byte := 0
deriving DecidableEq, Repr

/-- A mailbox reply as it falls due (15 T15.2); the ring gives it PHASE and TICK. -/
structure Reply where
  msgId : W16
  disposition : Byte
  tag : W32
  result : Byte
  reqHead : W16
  handler : Byte
  payload : List Byte
deriving DecidableEq, Repr

/-- A record that falls due while its function may not write (03 R89). -/
inductive Held where
  | completion (op : Nat)
  | event (e : Event)
  | reply (r : Reply)
deriving DecidableEq, Repr

/-- What one function holds besides its rings. -/
structure Endpoint where
  evq : EventRing := {}
  status : StatusPage := {}
  mbx : Mailbox := {}
  held : List Held := []
  heldLost : Bool := false
deriving DecidableEq, Repr

/-- A host link with its physical function (03 T3.22, T3.25; 02 R68, R69). -/
structure HostLink where
  up : Bool := false
  speed : BitVec 3 := 0
  width : BitVec 5 := 0
  flit : Bool := false
  vfEnable : Bool := false
  numVfs : BitVec 4 := 0
  bme : Bool := false
  vfBme : BitVec 12 := 0
  fetchFaults : W16 := 0
  extFetch : W16 := 0
  linkResets : W16 := 0
  ep : Endpoint := {}
  dumpCore : Byte := 0
  dumpOffset : BitVec 15 := 0
deriving DecidableEq, Repr

/-- The state of a submission ring (03 T3.29 SQ_STATE). -/
inductive SqState where
  | disabled | enabled | draining | error
deriving DecidableEq, Repr

/-- A ring pair (03 T3.29). `cqUsed`: records written and not consumed; `cqReserved`: slots reserved at admission (03 R96). -/
structure Ring where
  sqBase : W64 := 0
  cqBase : W64 := 0
  sqLog2 : BitVec 4 := 0
  cqLog2 : BitVec 5 := 0
  cqIndex : BitVec 6 := 0
  prio : BitVec 2 := 0
  cqEn : Bool := false
  sqState : SqState := .disabled
  errCause : BitVec 3 := 0
  sqHead : W16 := 0
  sqTail : W16 := 0
  cqTail : W16 := 0
  cqHead : W16 := 0
  cqPhase : Bool := true
  cqUsed : Nat := 0
  cqReserved : Nat := 0
deriving DecidableEq, Repr

/-- Where a descriptor stands (03 R96, R99, R111). -/
inductive OpState where
  | admitted | started | ended | held
deriving DecidableEq, Repr

/-- An operation in flight (03 R96, R97, R103). `id` gives the order of admission. -/
structure Op where
  id : Nat
  part : Nat
  ring : Nat
  slot : Nat
  desc : BitVec 512
  ext : List Byte
  cq : Nat
  st : OpState
  status : Byte
  detail : W32
  doneTick : W48
  ended : Nat
  /-- ended at one of its checks, or cancelled by a partition reset before it started: no signal (03 R106, T3.15) -/
  noSignal : Bool
  /-- the other start conditions held at the edge of its tick (04 R137) -/
  timely : Bool
deriving DecidableEq, Repr

end Sys2Proof.Machine
end

