-- ==== Sys2Proof/Machine/Store.lean ====
section
/-! DEFINITION. Sparse tables and byte memories as plain lists in one canonical form, and little-endian bytes (00_scope R9). -/
namespace Sys2Proof.Machine

/-- The entry of a key in a sorted table, or the default. -/
def tget {α : Type} (d : α) : List (Nat × α) → Nat → α
  | [], _ => d
  | (j, v) :: r, k => if j = k then v else tget d r k

/-- The entry of a key, if the table lists it. -/
def tfind {α : Type} : List (Nat × α) → Nat → Option α
  | [], _ => none
  | (j, v) :: r, k => if j = k then some v else tfind r k

/-- The table with one entry set, keys rising. -/
def tset {α : Type} : List (Nat × α) → Nat → α → List (Nat × α)
  | [], k, v => [(k, v)]
  | (j, u) :: r, k, v =>
    if k < j then (k, v) :: (j, u) :: r
    else if k = j then (k, v) :: r
    else (j, u) :: tset r k v

/-- The table without a key. -/
def tdel {α : Type} : List (Nat × α) → Nat → List (Nat × α)
  | [], _ => []
  | (j, u) :: r, k => if j = k then tdel r k else (j, u) :: tdel r k

/-- A byte memory: listed bytes are not 0, addresses rise, an unlisted byte reads 0. -/
abbrev Memory := List Host.Cell

/-- What an unlisted address reads as: 0 (02 R48, 17 R531 step 4, R545: SRAM and slices are 0 when a tile is first used). -/
def Memory.default : Byte := 0

/-- One byte of a memory. -/
def Memory.read (m : Memory) (a : Nat) : Byte := tget Memory.default m a

/-- One byte stored; the canonical form is kept by construction. -/
def Memory.write (m : Memory) (a : Nat) (b : Byte) : Memory :=
  if b = Memory.default then tdel m a else tset m a b

/-- The canonical form: addresses rise strictly and no entry equals the default. -/
def Memory.wfFrom : Nat → Memory → Bool
  | _, [] => true
  | lo, (a, b) :: r => decide (lo ≤ a) && decide (b ≠ Memory.default) && Memory.wfFrom (a + 1) r

def Memory.wf (m : Memory) : Bool := Memory.wfFrom 0 m

/-- `n` bytes from address `a`, lowest first. -/
def Memory.readN (m : Memory) (a : Nat) : Nat → List Byte
  | 0 => []
  | n + 1 => m.read a :: Memory.readN m (a + 1) n

/-- Bytes stored from address `a` upward. -/
def Memory.writeN (m : Memory) (a : Nat) : List Byte → Memory
  | [] => m
  | b :: r => Memory.writeN (m.write a b) (a + 1) r

/-- `n` bytes from `a` cleared to the default. -/
def Memory.clear (m : Memory) (a n : Nat) : Memory :=
  m.filter (fun c => decide (c.1 < a) || decide (a + n ≤ c.1))

/-- The little-endian number of a list of bytes (00_scope R9). -/
def leNat : List Byte → Nat
  | [] => 0
  | b :: r => b.toNat + 256 * leNat r

/-- The `n` little-endian bytes of a number. -/
def leBytes : Nat → Nat → List Byte
  | 0, _ => []
  | n + 1, v => BitVec.ofNat 8 v :: leBytes n (v / 256)

/-- Byte `i` of a list, 0 beyond its end (15 R478: missing fields read as 0). -/
def byteAt (l : List Byte) (i : Nat) : Byte := l.getD i 0

/-- `n` bytes from `i` as a little-endian number, missing bytes 0. -/
def leAt (l : List Byte) (i n : Nat) : Nat := leNat ((List.range n).map (fun k => byteAt l (i + k)))

/-- An ascending list with a member added once. -/
def insertNat : List Nat → Nat → List Nat
  | [], k => [k]
  | j :: r, k => if k < j then k :: j :: r else if k = j then j :: r else j :: insertNat r k

/-- A number put into an ascending list, equal ones kept. -/
def insertUp (k : Nat) : List Nat → List Nat
  | [] => [k]
  | j :: r => if k ≤ j then k :: j :: r else j :: insertUp k r

/-- The numbers in ascending order. -/
def ascending (l : List Nat) : List Nat := l.foldr insertUp []

end Sys2Proof.Machine
end

