-- ==== Sys2Proof/Machine/Flags.lean ====
section
/-! DEFINITION. Number formats, rounding, flags and wide accumulators (07_number_formats). -/
namespace Sys2Proof.Machine

/-- The sticky flags of FSTAT (06 T6.5). -/
abbrev Fl := BitVec 7

def flI : Fl := 1
def flZ : Fl := 2
def flO : Fl := 4
def flU : Fl := 8
def flX : Fl := 16
def flS : Fl := 32
def flW : Fl := 64

/-- A flag when a condition holds. -/
def flIf (b : Bool) (f : Fl) : Fl := if b then f else 0

/-- A value as the formats mean it: NaN, an infinity, or (-1)^neg × m × 2^e exactly. -/
inductive FVal where
  | nan
  | inf (neg : Bool)
  | fin (neg : Bool) (m : Nat) (e : Int)
deriving DecidableEq, Repr

def FVal.isNan : FVal → Bool
  | .nan => true
  | _ => false

def FVal.isZero : FVal → Bool
  | .fin _ m _ => decide (m = 0)
  | _ => false

def FVal.sign : FVal → Bool
  | .nan => false
  | .inf n => n
  | .fin n _ _ => n

def FVal.neg : FVal → FVal
  | .nan => .nan
  | .inf n => .inf (!n)
  | .fin n m e => .fin (!n) m e

/-- A floating-point format (07 T7.1, T7.2): widths, bias, code of the largest finite magnitude, whether it has infinities,
the NaN code the module produces. -/
structure Fmt where
  ebits : Nat
  mbits : Nat
  bias : Nat
  maxCode : Nat
  hasInf : Bool
  nanCode : Nat
deriving DecidableEq, Repr

def fp32 : Fmt := { ebits := 8, mbits := 23, bias := 127, maxCode := 0x7F7FFFFF, hasInf := true, nanCode := 0x7FC00000 }
def bf16 : Fmt := { ebits := 8, mbits := 7, bias := 127, maxCode := 0x7F7F, hasInf := true, nanCode := 0x7FC0 }
def fp16 : Fmt := { ebits := 5, mbits := 10, bias := 15, maxCode := 0x7BFF, hasInf := true, nanCode := 0x7E00 }
def e4m3 : Fmt := { ebits := 4, mbits := 3, bias := 7, maxCode := 0x7E, hasInf := false, nanCode := 0x7F }
def e5m2 : Fmt := { ebits := 5, mbits := 2, bias := 15, maxCode := 0x7B, hasInf := true, nanCode := 0x7E }
def e3m2 : Fmt := { ebits := 3, mbits := 2, bias := 3, maxCode := 0x1F, hasInf := false, nanCode := 0 }
def e2m3 : Fmt := { ebits := 2, mbits := 3, bias := 1, maxCode := 0x1F, hasInf := false, nanCode := 0 }
def e2m1 : Fmt := { ebits := 2, mbits := 1, bias := 1, maxCode := 0x7, hasInf := false, nanCode := 0 }

/-- The number of bits of a code. -/
def Fmt.width (f : Fmt) : Nat := 1 + f.ebits + f.mbits

/-- The value of a code (07 R222, R223). -/
def Fmt.decode (f : Fmt) (code : Nat) : FVal :=
  let mag := code % 2 ^ (f.ebits + f.mbits)
  let neg := decide (code / 2 ^ (f.ebits + f.mbits) % 2 = 1)
  let e := mag / 2 ^ f.mbits
  let m := mag % 2 ^ f.mbits
  if f.maxCode < mag then
    if f.hasInf ∧ m = 0 then .inf neg else .nan
  else if e = 0 then .fin neg m (1 - (f.bias : Int) - f.mbits)
  else .fin neg (2 ^ f.mbits + m) ((e : Int) - f.bias - f.mbits)

/-- An INT8 element of an MX block: n × 2⁻⁶ (07 R222). -/
def int8Val (code : Nat) : FVal :=
  let c := code % 256
  if c < 128 then .fin false c (-6) else .fin true (256 - c) (-6)

/-- An E8M0 scale's exponent; `none` is NaN (07 R222, T7.2). -/
def scaleExp (code : Nat) : Option Int := if code % 256 = 0xFF then none else some ((code % 256 : Nat) - 127)

/-- m × 2^e at quantum 2^q: the floor and the remainder over 2^32, with the bit that says it is not exact. -/
def quantum (m : Nat) (e q : Int) : Nat × Nat × Bool × Bool :=
  if q ≤ e then (m * 2 ^ (e - q).toNat, 0, false, false)
  else
    let k := (q - e).toNat
    let n := m / 2 ^ k
    let r := m % 2 ^ k
    -- the fraction as a 32-bit number, inexact, at or above one half
    (n, r * 2 ^ 32 / 2 ^ k, decide (r ≠ 0), decide (2 ^ k ≤ 2 * r))

/-- Whether a magnitude between n and n + 1 goes to n + 1 (07 T7.4, R233). -/
def roundUp (mode : Nat) (neg : Bool) (rnd : W32) (n frac : Nat) (inexact half : Bool) (exactHalf : Bool) : Bool :=
  if !inexact then false
  else match mode with
    | 1 => false
    | 2 => neg
    | 3 => !neg
    | 4 => decide (rnd.toNat < frac)
    | _ => if exactHalf then decide (n % 2 = 1) else half

/-- The remainder is exactly one half. -/
def isHalf (m : Nat) (e q : Int) : Bool :=
  if q ≤ e then false else decide (2 * (m % 2 ^ (q - e).toNat) = 2 ^ (q - e).toNat)

/-- A magnitude rounded to a multiple of 2^q: the multiple, and whether it differs from the exact value (07 R227). -/
def roundAt (mode : Nat) (neg : Bool) (rnd : W32) (m : Nat) (e q : Int) : Nat × Bool :=
  let x := quantum m e q
  let up := roundUp mode neg rnd x.1 x.2.1 x.2.2.1 x.2.2.2 (isHalf m e q)
  (if up then x.1 + 1 else x.1, x.2.2.1)

/-- floor(log₂ (m × 2^e)) for m > 0. -/
def floorLog (m : Nat) (e : Int) : Int := (Nat.log2 m : Int) + e

/-- A code with its sign. -/
def Fmt.signed (f : Fmt) (neg : Bool) (mag : Nat) : Nat := (if neg then 2 ^ (f.ebits + f.mbits) else 0) + mag

/-- The infinity of a format, or its NaN where it has none (07 T7.6). -/
def Fmt.infinity (f : Fmt) (neg : Bool) : Nat :=
  if f.hasInf then f.signed neg (f.maxCode + 1) else f.nanCode

/-- The result of a finite overflow without saturation (07 T7.6). -/
def Fmt.overflow (f : Fmt) (mode : Nat) (neg : Bool) : Nat :=
  match mode with
  | 1 => f.signed neg f.maxCode
  | 2 => if neg then f.infinity true else f.signed false f.maxCode
  | 3 => if neg then f.signed true f.maxCode else f.infinity false
  | _ => f.infinity neg

/-- A tiny value: below the smallest normal once rounded with an unbounded exponent (07 R225). -/
def Fmt.tiny (f : Fmt) (mode : Nat) (neg : Bool) (rnd : W32) (m : Nat) (e : Int) : Bool :=
  let emin : Int := 1 - (f.bias : Int)
  let E := floorLog m e
  decide (E < emin) &&
    (decide (E + 1 < emin) || decide ((roundAt mode neg rnd m e (E - f.mbits)).1 ≠ 2 ^ (f.mbits + 1)))

/-- An exact value rounded once to a format, with its flags (07 R227, R228, T7.6). `zneg`: the sign of an exact zero. -/
def Fmt.encode (f : Fmt) (mode : Nat) (sat : Bool) (rnd : W32) (v : FVal) : Nat × Fl :=
  match v with
  | .nan => (f.nanCode, 0)
  | .inf neg =>
    if sat then (f.signed neg f.maxCode, flS)
    else (f.infinity neg, flIf (!f.hasInf) flI)
  | .fin neg m e =>
    if m = 0 then (f.signed neg 0, 0)
    else
      let emin : Int := 1 - (f.bias : Int)
      let E := max (floorLog m e) emin
      let r := roundAt mode neg rnd m e (E - f.mbits)
      let code := (E - emin).toNat * 2 ^ f.mbits + r.1
      if f.maxCode < code then
        if sat then (f.signed neg f.maxCode, flS ||| flX)
        else (f.overflow mode neg, flO ||| flX)
      else (f.signed neg code, flIf r.2 flX ||| flIf (r.2 && f.tiny mode neg rnd m e) flU)

/-- VF and the like round mode 4 as RNE (07 R227). -/
def plainMode (mode : Nat) : Nat := if mode = 4 then 0 else mode

/-! ### FP32 arithmetic (07 R230) -/

def FVal.ofWord (x : W32) : FVal := fp32.decode x.toNat

/-- An FP32 result: rounded once, IEEE overflow, no saturation. -/
def fp32Round (mode : Nat) (v : FVal) : W32 × Fl :=
  let r := fp32.encode (plainMode mode) false 0 v
  (BitVec.ofNat 32 r.1, r.2)

/-- The sign of an exact zero: toward −∞ gives −0 (07 R227). -/
def zeroSign (mode : Nat) : Bool := decide (mode = 2)

/-- The exact sum of two finite values. -/
def finAdd (mode : Nat) (n1 : Bool) (m1 : Nat) (e1 : Int) (n2 : Bool) (m2 : Nat) (e2 : Int) : FVal :=
  let e := min e1 e2
  let a : Int := (if n1 then -1 else 1) * ((m1 * 2 ^ (e1 - e).toNat : Nat) : Int)
  let b : Int := (if n2 then -1 else 1) * ((m2 * 2 ^ (e2 - e).toNat : Nat) : Int)
  let t := a + b
  if t = 0 then
    if m1 = 0 ∧ m2 = 0 ∧ n1 = n2 then .fin n1 0 0 else .fin (zeroSign mode) 0 0
  else .fin (decide (t < 0)) t.natAbs e

/-- A sum, with INVALID for ∞ − ∞. -/
def fAdd (mode : Nat) (a b : FVal) : FVal × Fl :=
  match a, b with
  | .nan, _ => (.nan, 0)
  | _, .nan => (.nan, 0)
  | .inf x, .inf y => if x = y then (.inf x, 0) else (.nan, flI)
  | .inf x, _ => (.inf x, 0)
  | _, .inf y => (.inf y, 0)
  | .fin n1 m1 e1, .fin n2 m2 e2 => (finAdd mode n1 m1 e1 n2 m2 e2, 0)

/-- A product, with INVALID for 0 × ∞. -/
def fMul (a b : FVal) : FVal × Fl :=
  match a, b with
  | .nan, _ => (.nan, 0)
  | _, .nan => (.nan, 0)
  | .inf x, .inf y => (.inf (x ^^ y), 0)
  | .inf x, .fin y m _ => if m = 0 then (.nan, flI) else (.inf (x ^^ y), 0)
  | .fin x m _, .inf y => if m = 0 then (.nan, flI) else (.inf (x ^^ y), 0)
  | .fin x m1 e1, .fin y m2 e2 => (.fin (x ^^ y) (m1 * m2) (e1 + e2), 0)

def fp32Add (mode : Nat) (a b : W32) : W32 × Fl :=
  let s := fAdd (plainMode mode) (.ofWord a) (.ofWord b)
  let r := fp32Round mode s.1
  (r.1, r.2 ||| s.2)

def fp32Sub (mode : Nat) (a b : W32) : W32 × Fl :=
  let s := fAdd (plainMode mode) (.ofWord a) (FVal.ofWord b).neg
  let r := fp32Round mode s.1
  (r.1, r.2 ||| s.2)

def fp32Mul (mode : Nat) (a b : W32) : W32 × Fl :=
  let s := fMul (.ofWord a) (.ofWord b)
  let r := fp32Round mode s.1
  (r.1, r.2 ||| s.2)

/-- a × b + c rounded once; `negate`: −(a × b) + c. -/
def fp32Fma (mode : Nat) (negate : Bool) (a b c : W32) : W32 × Fl :=
  let p := fMul (.ofWord a) (.ofWord b)
  let q := if negate then p.1.neg else p.1
  let s := fAdd (plainMode mode) q (.ofWord c)
  let r := fp32Round mode s.1
  (r.1, r.2 ||| s.2 ||| p.2)

/-- The order of two values that are not NaN, −0 below +0. -/
def FVal.key : FVal → Int × Int
  | .nan => (0, 0)
  | .inf n => (if n then -2 else 2, 0)
  | .fin n m _ => (0, if m = 0 then (if n then -1 else 0) else 0)

/-- a < b as numbers (−0 = +0). -/
def FVal.lt : FVal → FVal → Bool
  | .nan, _ => false
  | _, .nan => false
  | .inf x, .inf y => x && !y
  | .inf x, .fin _ _ _ => x
  | .fin _ _ _, .inf y => !y
  | .fin n1 m1 e1, .fin n2 m2 e2 =>
    match finAdd 0 n1 m1 e1 (!n2) m2 e2 with
    | .fin n m _ => n && decide (m ≠ 0)
    | _ => false

def FVal.eq (a b : FVal) : Bool := !a.isNan && !b.isNan && !a.lt b && !b.lt a

/-- −0 below +0 (07 R230). -/
def FVal.below (a b : FVal) : Bool := a.lt b || (a.isZero && b.isZero && a.sign && !b.sign)

def fp32Canon : W32 := 0x7FC00000

def fp32Min (a b : W32) : W32 :=
  let x := FVal.ofWord a
  let y := FVal.ofWord b
  if x.isNan ∧ y.isNan then fp32Canon else if x.isNan then b else if y.isNan then a else if y.below x then b else a

def fp32Max (a b : W32) : W32 :=
  let x := FVal.ofWord a
  let y := FVal.ofWord b
  if x.isNan ∧ y.isNan then fp32Canon else if x.isNan then b else if y.isNan then a else if x.below y then b else a

/-! ### Special functions (07 R230, T7.7; 06 R202) -/

/-- The integer square root, bit by bit. -/
def isqrt (n : Nat) : Nat → Nat
  | 0 => 0
  | k + 1 =>
    let r := 2 * isqrt (n / 4) k
    if (r + 1) * (r + 1) ≤ n then r + 1 else r

/-- √ of a positive finite value to at least 60 significant bits, as (root, exponent, remainder left). -/
def sqrtParts (m : Nat) (e : Int) : Nat × Int × Bool :=
  let sh : Int := if e % 2 = 0 then 120 else 121
  let n := m * 2 ^ sh.toNat
  let r := isqrt n 160
  (r, (e - sh) / 2, decide (r * r ≠ n))

/-- VSQRT, correctly rounded RNE: a sticky bit below the root stands for what is left. -/
def fp32Sqrt (m : Nat) (e : Int) : W32 × Fl :=
  let p := sqrtParts m e
  fp32Round 0 (.fin false (2 * p.1 + (if p.2.2 then 1 else 0)) (p.2.1 - 1))

/-- The largest FP32 magnitude not above m × 2^e, as a code, and whether it is exact. -/
def fp32Floor (m : Nat) (e : Int) : Nat × Bool :=
  if m = 0 then (0, true) else
  let E := max (floorLog m e) (-126)
  let r := roundAt 1 false 0 m e (E - 23)
  ((E + 126).toNat * 2 ^ 23 + r.1, !r.2)

/-- The result the spec does not state within its bound of 2 ulp: one of the four codes around the exact value,
the free value choosing (07 R230; log 20). `exact`: m × 2^e is the exact value. -/
def fp32Near (neg : Bool) (m : Nat) (e : Int) (exact : Bool) (free : Nat) : W32 × Fl :=
  let f := fp32Floor m e
  let pick := f.1 + free % 4 - 1
  let code := min 0x7F800000 pick
  let hit := decide (code = f.1) && f.2 && exact
  let low := decide (code < 0x00800000)
  (BitVec.ofNat 32 (fp32.signed neg code),
    flIf (!hit) flX ||| flIf (!hit && low) flU ||| flIf (decide (code = 0x7F800000)) flO)

/-- 2^(2^-k) for k = 1, 2, … as numbers over 2^160, by repeated square roots. -/
def rootsOfTwo : Nat → Nat → List Nat
  | 0, _ => []
  | k + 1, x =>
    let r := isqrt (x * 2 ^ 160) 320
    r :: rootsOfTwo k r

/-- 2^f for a fraction f over 2^120 (0 ≤ f < 2^120), over 2^160. -/
def exp2Frac (f : Nat) : Nat :=
  ((List.range 120).zip (rootsOfTwo 120 (2 ^ 161))).foldl
    (fun acc kr => if f.testBit (119 - kr.1) then acc * kr.2 / 2 ^ 160 else acc) (2 ^ 160)

/-- log₂ of y over 2^160 with 1 ≤ y < 2, over 2^120, by repeated squaring. -/
def log2Frac : Nat → Nat → Nat
  | 0, _ => 0
  | k + 1, y =>
    let z := y * y / 2 ^ 160
    if 2 ^ 161 ≤ z then 2 ^ k + log2Frac k (z / 2) else log2Frac k z

/-- log₂ e over 2^120. -/
def log2e : Nat := 1917670637729674084946755258930051709

/-- 2^x of x = ±p × 2^-120, as (m, e). -/
def exp2Parts (neg : Bool) (p : Nat) : Nat × Int :=
  let i : Int := if neg then -(((p + 2 ^ 120 - 1) / 2 ^ 120 : Nat) : Int) else ((p / 2 ^ 120 : Nat) : Int)
  let f : Nat := if neg then (2 ^ 120 - p % 2 ^ 120) % 2 ^ 120 else p % 2 ^ 120
  (exp2Frac f, i - 160)

/-- m × 2^e over 2^120, cut below, at most 2^140. -/
def fixed120 (m : Nat) (e : Int) : Nat :=
  let E := if m = 0 then 0 else floorLog m e
  if 20 < E then 2 ^ 140 else (quantum m e (-120)).1

/-- VEXP2 and VEXP of a finite nonzero operand: +∞ with O and X beyond the largest, +0 with U and X below the smallest. -/
def fp32Exp (neg : Bool) (p : Nat) (integer : Bool) (free : Nat) : W32 × Fl :=
  let r := exp2Parts neg p
  let E := floorLog r.1 r.2
  if 128 ≤ E then (0x7F800000, flO ||| flX)
  else if E < -149 then (0, flU ||| flX)
  else if integer then
    -- an integer input is exact when the result is representable
    fp32Round 0 (.fin false 1 E)
  else fp32Near false r.1 r.2 false free

/-- The value of a finite operand as an integer, when it is one. -/
def isInteger (m : Nat) (e : Int) : Bool := decide (m = 0) || decide (0 ≤ e) || decide (m % 2 ^ (-e).toNat = 0)

/-- VSF (06 T6.11): 0 VEXP2, 1 VLOG2, 2 VRCP, 3 VRSQRT, 4 VSQRT, 5 VEXP. `free`: the value for what is not stated. -/
def vsfLane (fn : Nat) (free : Nat → Nat → Nat) (a : W32) : W32 × Fl :=
  let x := FVal.ofWord a
  let fr := free fn a.toNat
  match fn, x with
  | _, .nan => (fp32Canon, 0)
  | 0, .inf n => (if n then 0 else 0x7F800000, 0)
  | 5, .inf n => (if n then 0 else 0x7F800000, 0)
  | 2, .inf n => (if n then 0x80000000 else 0, 0)
  | 1, .inf n => if n then (fp32Canon, flI) else (0x7F800000, 0)
  | 3, .inf n => if n then (fp32Canon, flI) else (0, 0)
  | _, .inf n => if n then (fp32Canon, flI) else (0x7F800000, 0)
  | 0, .fin n m e => if m = 0 then (0x3F800000, 0) else fp32Exp n (fixed120 m e) (isInteger m e) fr
  | 5, .fin n m e => if m = 0 then (0x3F800000, 0) else fp32Exp n (fixed120 m e * log2e / 2 ^ 120) false fr
  | 1, .fin n m e =>
    if m = 0 then (0xFF800000, flZ) else if n then (fp32Canon, flI)
    else if a = 0x3F800000 then (0, 0)
    else
      let E := floorLog m e
      let y := (quantum m (e - E) (-160)).1
      let l := log2Frac 120 y
      -- E + l / 2^120, with its sign
      let t : Int := E * 2 ^ 120 + l
      fp32Near (decide (t < 0)) t.natAbs (-120) (decide (y = 2 ^ 160)) fr
  | 2, .fin n m e =>
    if m = 0 then (fp32.signed n 0x7F800000 |> BitVec.ofNat 32, flZ)
    else if a = 0x3F800000 then (a, 0)
    else
      let q := 2 ^ 200 / m
      fp32Near n (2 * q + (if 2 ^ 200 % m = 0 then 0 else 1)) (-201 - e) (decide (2 ^ 200 % m = 0)) fr
  | 3, .fin n m e =>
    if m = 0 then (fp32.signed n 0x7F800000 |> BitVec.ofNat 32, flZ)
    else if n then (fp32Canon, flI)
    else if a = 0x3F800000 then (a, 0)
    else
      let p := sqrtParts m e
      let q := 2 ^ 260 / p.1
      let exact := !p.2.2 && decide (2 ^ 260 % p.1 = 0)
      fp32Near false (2 * q + (if exact then 0 else 1)) (-261 - p.2.1) exact fr
  | _, .fin n m e => if m = 0 then (a, 0) else if n then (fp32Canon, flI) else fp32Sqrt m e

/-! ### Integers (07 R231) -/

/-- An exact value rounded to an integer. -/
def roundInt (mode : Nat) (rnd : W32) (neg : Bool) (m : Nat) (e : Int) : Int × Bool :=
  let r := roundAt mode neg rnd m e 0
  ((if neg then -(r.1 : Int) else r.1), r.2)

/-- A value to a 32-bit integer, saturating: the minimum or maximum with O and S (07 R231, T7.6). -/
def toInt32 (mode : Nat) (rnd : W32) (unsigned : Bool) (v : FVal) : W32 × Fl :=
  let lo : Int := if unsigned then 0 else -2147483648
  let hi : Int := if unsigned then 4294967295 else 2147483647
  match v with
  | .nan => (0, flI)
  | .inf n => (BitVec.ofInt 32 (if n then lo else hi), flO ||| flS)
  | .fin n m e =>
    let r := roundInt mode rnd n m e
    if r.1 < lo then (BitVec.ofInt 32 lo, flO ||| flS ||| flX)
    else if hi < r.1 then (BitVec.ofInt 32 hi, flO ||| flS ||| flX)
    else (BitVec.ofInt 32 r.1, flIf r.2 flX)

/-- A 32-bit integer to FP32. -/
def ofInt32 (mode : Nat) (unsigned : Bool) (x : W32) : W32 × Fl :=
  let v : Int := if unsigned then x.toNat else x.toInt
  fp32Round mode (.fin (decide (v < 0)) v.natAbs 0)

/-- A comparison of FP32 lanes (06 T6.12): 0 EQ, 1 NE, 2 LT, 3 LE, 4 GT, 5 GE. -/
def fp32Cmp (fn : Nat) (a b : W32) : Bool × Fl :=
  let x := FVal.ofWord a
  let y := FVal.ofWord b
  let un := x.isNan || y.isNan
  match fn with
  | 0 => (x.eq y, 0)
  | 1 => (!(x.eq y), 0)
  | 2 => (x.lt y, flIf un flI)
  | 3 => (!un && !(y.lt x), flIf un flI)
  | 4 => (y.lt x, flIf un flI)
  | _ => (!un && !(x.lt y), flIf un flI)

/-! ### Stochastic draws (07 R234) -/

def srBits (seed n : W64) : W32 :=
  let z0 := seed + (n + 1) * 0x9E3779B97F4A7C15
  let z1 := (z0 ^^^ (z0 >>> 30)) * 0xBF58476D1CE4E5B9
  let z2 := (z1 ^^^ (z1 >>> 27)) * 0x94D049BB133111EB
  let z3 := z2 ^^^ (z2 >>> 31)
  (z3 >>> 32).setWidth 32

/-! ### Element formats by code (06 T6.18) -/

/-- The floating-point format of a type code; MXINT8 (7) has none. -/
def fmtOf (code : Nat) : Fmt :=
  match code with
  | 0 => e4m3 | 1 => e5m2 | 2 => e4m3 | 3 => e5m2 | 4 => e3m2 | 5 => e2m3 | 6 => e2m1 | 8 => bf16 | 9 => fp16 | _ => e4m3

/-- The value of an element code. -/
def elemVal (code x : Nat) : FVal := if code = 7 then int8Val x else (fmtOf code).decode x

/-- MX formats (06 T6.18). -/
def isMx (code : Nat) : Bool := decide (2 ≤ code) && decide (code ≤ 7)

/-- Bits of one element. -/
def elemBits (code : Nat) : Nat :=
  match code with
  | 4 => 6 | 5 => 6 | 6 => 4 | 8 => 16 | 9 => 16 | _ => 8

/-- A value times 2^k. -/
def FVal.scale (v : FVal) (k : Int) : FVal :=
  match v with
  | .fin n m e => .fin n m (e + k)
  | x => x

/-- An MX element with its scale: NaN when the scale is (07 R226). -/
def mxVal (code x scale : Nat) : FVal :=
  match scaleExp scale with
  | none => .nan
  | some k => (elemVal code x).scale k

/-- VMXDQ of one element: exact in FP32, beyond its range ±∞ with I, NaN with I (07 R232). -/
def mxWiden (code x scale : Nat) : W32 × Fl :=
  let v := mxVal code x scale
  let r := fp32.encode 0 false 0 v
  (BitVec.ofNat 32 r.1, flIf (v.isNan || bitAt r.2 2) flI)

/-- VWIDEN of one element (07 R232). -/
def widenElem (code x : Nat) : W32 × Fl :=
  let v := (fmtOf code).decode x
  (BitVec.ofNat 32 (fp32.encode 0 false 0 v).1, flIf v.isNan flI)

/-! ### MX quantization (07 R236) -/

/-- emax of 07 T7.9. -/
def mxEmax (code : Nat) : Int :=
  match code with
  | 2 => 8 | 3 => 15 | 4 => 4 | 5 => 2 | 6 => 2 | _ => 0

/-- One element: rounded and clamped to ± the largest (07 R236 rule 4). -/
def mxElem (code mode : Nat) (rnd : W32) (v : FVal) : Nat × Fl :=
  if code = 7 then
    match v with
    | .fin n m e =>
      let r := roundInt mode rnd n m (e + 6)
      let clamped := decide (127 < r.1.natAbs)
      let mag : Int := if clamped then (if n then -127 else 127) else r.1
      ((BitVec.ofInt 8 mag).toNat, flIf r.2 flX ||| flIf clamped (flS ||| flX))
    | _ => (0, 0)
  else (fmtOf code).encode mode true rnd v

/-- The block's largest finite magnitude's floor log, if some lane is not 0. -/
def mxTop (l : List FVal) : Option Int :=
  l.foldl (fun b v => match v, b with
    | .fin _ m e, none => if m = 0 then none else some (floorLog m e)
    | .fin _ m e, some k => if m = 0 then some k else some (max k (floorLog m e))
    | _, b => b) none

/-- One block of 32 values: element codes with flags, and the scale code. The last flags are the block's own. -/
def mxBlock (code mode : Nat) (rnds : List W32) (l : List FVal) : List (Nat × Fl) × Nat × Fl :=
  if l.any (fun v => match v with
      | .fin _ _ _ => false
      | _ => true) then (l.map (fun _ => (0, 0)), 0xFF, flI)
  else match mxTop l with
    | none => (l.map (fun _ => (0, 0)), 0, 0)
    | some top =>
      let x0 := top - mxEmax code
      let x := max (-127) (min 127 x0)
      ((l.zip rnds).map (fun vr => mxElem code mode vr.2 (vr.1.scale (-x))), (x + 127).toNat, flIf (decide (127 < x0)) flO)

/-! ### Wide accumulators (07 R237-R243) -/

/-- One accumulator (07 T7.10). CLASS: 0 FINITE, 1 +∞, 2 −∞, 3 NaN. -/
structure Acc where
  value : BitVec 104 := 0
  cls : BitVec 2 := 0
  loss : Bool := false
deriving DecidableEq, Repr

/-- Class combination (07 T7.13). -/
def classJoin (a b : BitVec 2) : BitVec 2 := a ||| b

/-- A finite product's entry in units of 2⁻⁵², and whether it entered inexactly (07 R239). -/
def enterValue (neg : Bool) (m : Nat) (e : Int) : Int × Bool :=
  let r := roundAt 0 neg 0 m e (-52)
  let big := decide (m ≠ 0) && decide (51 ≤ floorLog m e)
  let mag : Nat := if big then 2 ^ 103 - 1 else r.1
  ((if neg then -(mag : Int) else mag), r.2 || big)

/-- A product enters an accumulator; the Bool says WIDE_RANGE was set (07 R239-R241). -/
def Acc.enter (a : Acc) (p : FVal) : Acc × Bool :=
  match p with
  | .nan => ({ a with cls := 3 }, false)
  | .inf n => ({ a with cls := classJoin a.cls (if n then 2 else 1) }, false)
  | .fin n m e =>
    let v := enterValue n m e
    let t := a.value.toInt + v.1
    ({ a with value := BitVec.ofInt 104 t, loss := a.loss || v.2 }, v.2 || decide (t < -(2 ^ 103)) || decide (2 ^ 103 ≤ t))

/-- The exact product of two elements with the sum of their scales; `none`: a scale is NaN (07 R238, T7.11). -/
def product (a b : FVal) (scale : Option Int) : FVal :=
  match scale with
  | none => .nan
  | some k => (fMul a b).1.scale k

/-- A WIDE128 partial (07 T7.14). -/
def Acc.partial128 (a : Acc) : W128 :=
  BitVec.ofNat 128 (pack [(124, (a.value.signExtend 124).toNat), (2, a.cls.toNat), (1, a.loss.toNat), (1, 0)])

/-- Two partials add (07 R242). -/
def partialAdd (a b : W128) : W128 :=
  BitVec.ofNat 128 (pack [(124, ((a.extractLsb' 0 124) + (b.extractLsb' 0 124)).toNat),
    (2, (classJoin (a.extractLsb' 124 2) (b.extractLsb' 124 2)).toNat), (1, ((bitAt a 126) || (bitAt b 126)).toNat), (1, 0)])

/-- TWADD of one partial into an accumulator; the Bool is WIDE_RANGE, also set when the running value leaves the signed
104-bit range (07 R240, R242). -/
def Acc.addPartial (a : Acc) (p : W128) : Acc × Bool :=
  let v := (p.extractLsb' 0 124).toInt
  let out := decide (v < -(2 ^ 103)) || decide (2 ^ 103 ≤ v)
  let t := a.value.toInt + v
  ({
      value := BitVec.ofInt 104 t, cls := classJoin a.cls (p.extractLsb' 124 2),
      loss := a.loss || bitAt p 126 || out }, out || decide (t < -(2 ^ 103)) || decide (2 ^ 103 ≤ t))

/-- What a drain rounds: VALUE × 2⁻⁵² × s with the cases of 07 T7.15. -/
def drainValue (a : Acc) (s : FVal) : FVal × Fl :=
  match a.cls.toNat, s with
  | 3, _ => (.nan, 0)
  | _, .nan => (.nan, 0)
  | 0, .inf n =>
    if a.value = 0 then (.nan, flI) else (.inf (n ^^ decide (a.value.toInt < 0)), 0)
  | 0, .fin n m e =>
    if a.value = 0 ∨ m = 0 then (.fin false 0 0, 0)
    else (.fin (n ^^ decide (a.value.toInt < 0)) (a.value.toInt.natAbs * m) (e - 52), 0)
  | c, .inf n => (.inf (n ^^ decide (c = 2)), 0)
  | c, .fin n m _ => if m = 0 then (.nan, flI) else (.inf (n ^^ decide (c = 2)), 0)

/-- One drained value in OFMT (06 T6.19): code, flags. -/
def drainCode (ofmt mode : Nat) (sat : Bool) (rnd : W32) (a : Acc) (s : FVal) : Nat × Fl :=
  if ofmt = 5 then (a.partial128.toNat, 0)
  else
    let x := drainValue a s
    let w := flIf a.loss flW
    match ofmt with
    | 6 =>
      let r := toInt32 mode rnd false x.1
      (r.1.toNat, r.2 ||| x.2 ||| w)
    | _ =>
      let f := match ofmt with
        | 0 => bf16 | 1 => fp16 | 2 => fp32 | 3 => e4m3 | _ => e5m2
      let r := f.encode mode sat rnd x.1
      (r.1, r.2 ||| x.2 ||| w)

/-- SUM_FP32 of two words (07 R244). -/
def sumFp32 (a b : W32) : W32 := (fp32Add 0 a b).1

/-! ### CRC-32C (00 R9; 05 T5.6, 10 T10.6) -/

/-- One bit of CRC-32C, reflected polynomial 0x82F63B78. -/
def crcBit (c : W32) : W32 := if c.getLsbD 0 then (c >>> 1) ^^^ 0x82F63B78 else c >>> 1

def crcByte (c : W32) (b : Byte) : W32 :=
  crcBit (crcBit (crcBit (crcBit (crcBit (crcBit (crcBit (crcBit (c ^^^ b.setWidth 32))))))))

/-- CRC-32C of bytes: initial value all ones, final complement (PRESUMED as Castagnoli's usual form; log 21). -/
def crc32c (l : List Byte) : W32 := ~~~(l.foldl crcByte 0xFFFFFFFF)

end Sys2Proof.Machine
end

