-- ==== Sys2Proof/Machine/FirmwareState.lean ====
section
/-! DEFINITION. State of the firmware cores, their images, queues and dumps (15_firmware, 02 R71-R84). -/
namespace Sys2Proof.Machine

/-- 15 T15.13 STATE. -/
inductive CoreState where
  | off | running | frost | thawing | failed
deriving DecidableEq, Repr

/-- The header of a crash dump (15 T15.9); the sections' bytes are free values. -/
structure Dump where
  kind : Byte
  region : Byte
  cause : Byte
  slot : Byte
  version : W32
  tick : W48
  restarts : W16
  pc : W32
  length : W32
deriving DecidableEq, Repr

/-- A firmware core (15 T15.13, R487, R488). `loads`: (slot, ms) of the restarts of the last 60 s, newest first. -/
structure Core where
  state : CoreState := .off
  slot : Bool := false
  lastCause : BitVec 4 := 0
  loads : List (Bool × Nat) := []
  restarts : W16 := 0
  lastMs : W16 := 0
  dumpValid : Bool := false
  dump : Option Dump := none
  causeMs : Nat := 0
  waiting : Bool := false
  loadSlot : Bool := false
  commanded : Option Msg := none
  startMs : Nat := 0
deriving DecidableEq, Repr

/-- A message accepted into a core's queue (15 R479). -/
structure Queued where
  mbx : Nat
  msgId : W16
  msg : Msg
deriving DecidableEq, Repr

/-- One firmware image in the MMC's flash, as its header and body describe it (02 R72). -/
structure Image where
  version : W32
  svn : BitVec 6
  root : BitVec 2
  hash : BitVec 384
deriving DecidableEq, Repr

/-- The firmware of the module (15 T15.12-T15.15). Images: key 2 × (KIND − 1) + slot. -/
structure Firmware where
  sec : Core := {}
  pwr : Core := {}
  sch : Core := {}
  rcc : List (Nat × Core) := []
  minor : Byte := 0
  auth : BitVec 2 := 0
  mmcQuiesce : Bool := false
  wdogSec : W16 := 1000
  wdogPwr : W16 := 200
  wdogSch : W16 := 500
  wdogRcc : W16 := 200
  qSec : List Queued := []
  qPwr : List Queued := []
  qSch : List Queued := []
  qMmc : List Queued := []
  lastMbx : Nat := 15
  images : List (Nat × Image) := []
  lostSince : List (Nat × Nat) := []
deriving DecidableEq, Repr

/-- SEC's boot status (02 T2.14): 0 ROM, 1 VERIFY, 2 RUNNING, 3 BOOT_FAIL, 4 RESTARTING. -/
inductive BootState where
  | rom | verify | running | bootFail | restarting
deriving DecidableEq, Repr

/-- A weight-key slot that is occupied (02 R79). `bound`: the shared region of a shared slot; `counter`: of its gradient frames (12 R404). -/
structure KeySlot where
  keyId : W32
  key : BitVec 256
  bound : Nat
  counter : W64 := 0
deriving DecidableEq, Repr

/-- A grant (02 R62): right 0 READ, 1 PUBLISH. -/
structure Grant where
  shared : Nat
  grantee : Nat
  right : Nat
  base : W48
deriving DecidableEq, Repr

/-- A shared region (02 R61). -/
structure Shared where
  key : W16
  home : Option Nat
  pages : Nat
deriving DecidableEq, Repr

/-- SEC (02 R66, R71, R79, R84). Private slots: key 16 × partition + slot. -/
structure Sec where
  boot : BootState := .rom
  secSlot : Bool := false
  pwrSlot : Bool := false
  schSlot : Bool := false
  rccSlot : Bool := false
  fuseSvn : BitVec 6 := 0
  revoked : BitVec 4 := 0
  rootHash : List (BitVec 384) := []
  rootIndex : BitVec 2 := 0
  privLink : BitVec 2 := 0
  failCode : Byte := 0
  running : List (Nat × Image) := []
  privateKeys : List (Nat × KeySlot) := []
  sharedKeys : List (Nat × KeySlot) := []
  shared : List (Nat × Shared) := []
  grants : List Grant := []
  keyLoadFail : W64 := 0
  awaiting : Nat := 0
  awaitB : Bool := false
deriving DecidableEq, Repr

end Sys2Proof.Machine
end

