-- ==== Sys2Proof/Machine/RegionState.lean ====
section
/-! DEFINITION. State of a region: placement, well, power, oscillator node, fabric, bring-up, faults
(01_wafer_stack, 04, 09, 16, 17, 18). -/
namespace Sys2Proof.Machine

/-- 01 T1.2. -/
inductive RegionState where
  | off | bringup | ready | fenced
deriving DecidableEq, Repr

/-- What a well carries (01 T1.13): use 0 spare, 1 W-port, 2 T-port, 3 twin port, 4 host link, 5 flash link. -/
structure WellUse where
  use : Nat := 0
  port : Nat := 0
  quarter : Nat := 0
deriving DecidableEq, Repr

/-- The home assignment of the well of region (x, y) (01 T1.6). -/
def homeWell (i : Nat) : WellUse :=
  let x := i % 12
  let y := i / 12
  if x = 0 then
    if y < 4 then ⟨4, 0, y⟩ else if y < 8 then ⟨2, 2 + (y - 4) / 2, y % 2⟩ else ⟨4, 1, y - 8⟩
  else if x = 1 then
    if y < 4 then ⟨5, y, 0⟩ else if y < 8 then ⟨2, 10 + (y - 4) / 2, y % 2⟩ else ⟨5, y - 4, 0⟩
  else if x = 2 ∨ x = 3 then ⟨1, 2 * y, x - 2⟩
  else if x = 4 ∨ x = 5 then
    if y = 0 then ⟨2, 6, x - 4⟩ else if y = 11 then ⟨2, 4, x - 4⟩ else {}
  else if x = 6 ∨ x = 7 then
    if y = 0 then ⟨2, 7, x - 6⟩ else if y = 11 then ⟨2, 5, x - 6⟩ else {}
  else if x = 8 ∨ x = 9 then ⟨1, 2 * y + 1, x - 8⟩
  else if x = 10 then
    if y < 2 then ⟨3, 0, y⟩ else if y < 4 then {}
    else if y < 8 then ⟨2, 8 + (y - 4) / 2, y % 2⟩
    else if y < 10 then {} else ⟨3, 1, y - 10⟩
  else
    if y < 4 then ⟨4, 2, y⟩ else if y < 8 then ⟨2, (y - 4) / 2, y % 2⟩ else ⟨4, 3, y - 8⟩

/-- The rails of a region that are on (16 T16.1). -/
structure Rails where
  vlog : Bool := false
  vsram : Bool := false
  vstr : Bool := false
  vmif : Bool := false
  vlnk : Bool := false
deriving DecidableEq, Repr

/-- The repair record of a region without defects (01 R30): SKIP_ROW 24, every SKIP_COL 24, VALID. -/
def plainRecord : W128 :=
  BitVec.ofNat 128 (pack ((List.replicate 25 (5, 24)) ++ [(1, 0), (1, 0), (1, 1)]))

/-- Placement and repair of a region (01 T1.9-T1.12, 17 R537, T17.9). -/
structure Placement where
  record : W128 := 0
  repairGen : W32 := 0
  defective : BitVec 10 := 0
  multiRows : BitVec 5 := 0
  source : BitVec 2 := 0
  fuseRecord : W128 := plainRecord
  stored : W128 := 0
  known : List (Nat × Nat) := []
  knownPending : Byte := 0
  bist : List (Nat × Nat) := []
deriving DecidableEq, Repr

/-- Power and thermal state of a region (16 T16.16, R502-R521). Voltages in 0.25 mV, temperatures in 0.25 °C. -/
structure RegionPower where
  rails : Rails := {}
  collapsed : Bool := false
  vlogSet : BitVec 12 := 0
  vsramSet : BitVec 12 := 0
  vlogLo : BitVec 12 := 0
  vlogHi : BitVec 12 := 0
  vsramLo : BitVec 12 := 0
  vsramHi : BitVec 12 := 0
  current : List W16 := []
  lnkCurrent : List W16 := []
  minLog : W64 := 0
  minSram : W64 := 0
  estMw : W32 := 0
  capW : W16 := 0
  gain : Nat := 1000
  droop : Bool := false
  droopUs : Nat := 0
  droopStep : Bool := false
  droopHoldMs : Nat := 0
  ceiling : BitVec 3 := 0
  suspect : W16 := 0
  bondDomain : Bool := false
  excessMv : Byte := 0
  bondRun : List (Nat × Nat) := []
  rcal : List (Nat × Int) := []
  sensors : List (BitVec 12) := []
  tempMax : BitVec 12 := 0
  thrUs : List (Nat × W64) := []
  thrNow : BitVec 7 := 0
  thermalLull : Bool := false
  alertLull : Bool := false
  alertOn : Bool := false
  thermalSteps : Nat := 0
  thermalMs : Nat := 0
  gapSteps : Nat := 0
  budgetBound : Bool := false
  alertPosted : Bool := false
  alertCause : BitVec 2 := 0
  estNow : Nat := 0
  estSum : Nat := 0
  estN : Nat := 0
  win : List Nat := []
  gapMs : Nat := 0
  serviceMs : Nat := 0
  thermalPosted : Bool := false
deriving DecidableEq, Repr

/-- The oscillator node of a region (04 T4.10, T4.11). -/
structure Osc where
  cls : BitVec 3 := 1
  changing : Bool := false
  coupled : BitVec 4 := 0
  elastic : BitVec 4 := 0
  lull : Bool := false
  pulled : Bool := false
  target : BitVec 3 := 1
  decided : BitVec 3 := 1
  running : Bool := false
  classChanges : W32 := 0
  pulls : W32 := 0
  pullPosted : Bool := false
deriving DecidableEq, Repr

/-- Boundary routers and service point of a region (09 T9.7-T9.12). Directions 0 E, 1 N, 2 W, 3 S, 4 service point. -/
structure RegionFabric where
  linkUp : BitVec 4 := 0
  svcUp : Bool := false
  routeGen : W16 := 0
  transitEighths : BitVec 3 := 4
  linkFlits : List (Nat × W64) := []
  keyDrop : List (Nat × W32) := []
  keyDropLast : List (Nat × (Nat × W16)) := []
  keyDropAt : Option Nat := none
  keyDropNew : Nat := 0
  creditStall : List (Nat × W64) := []
  corrected : BitVec 24 := 0
  badType : Byte := 0
  dataUncorr : BitVec 10 := 0
  hdrDrop : BitVec 10 := 0
  timeouts : BitVec 6 := 0
  fenceDiscard : BitVec 6 := 0
deriving DecidableEq, Repr

/-- Bring-up and calibration of a region (17 T17.9, T17.10). -/
structure RegionBringup where
  step : BitVec 4 := 0
  failedStep : BitVec 4 := 0
  parent : Byte := 0xFF
  bringups : Byte := 0
  startMs : W32 := 0
  readyMs : W32 := 0
  scrubLeft : BitVec 18 := 0
  scrubDone : Bool := false
  /-- slots scrubbed since READY while the scrub goes on: tile of the region × 384 + slot (17 R545) -/
  scrubbed : List Nat := []
  marginMin : W16 := 0
  applied : W16 := 0
  fails : W16 := 0
  lastSensor : BitVec 4 := 0
  offsets : List (Nat × Int) := []
  vlogTrim : BitVec 6 := 0
  vsramTrim : BitVec 6 := 0
  rcalFrozen : Bool := false
  rcalWindows : BitVec 10 := 0
  trim : W16 := 0
  trimSteps : W32 := 0
  restart : Option Msg := none
  controlOk : Bool := false
  wellReady : Bool := false
  wellFailed : Bool := false
  rcalSums : List (Nat × List Int) := []
deriving DecidableEq, Repr

/-- A fault record (18 T18.15). -/
structure FaultRecord where
  kind : BitVec 4
  i : BitVec 5
  j : BitVec 5
  tileValid : Bool
  tick : W48
  addr : W32
  owner : BitVec 4
deriving DecidableEq, Repr

/-- Fault counters, rates and records of a region (18 T18.15, R559, R560, R563-R565). -/
structure RegionFaults where
  sramCe : W32 := 0
  sliceCe : W32 := 0
  sramUe : W16 := 0
  sliceUe : W16 := 0
  tileLogic : W16 := 0
  recordsLost : W16 := 0
  rate1 : BitVec 11 := 0
  rate100 : BitVec 11 := 0
  /-- mean rates of the last 100 windows since READY as fractions, newest last -/
  windows : List (Nat × Nat) := []
  /-- k × d of each µs of the window in progress, and how many -/
  rateSum : Nat := 0
  rateN : Nat := 0
  thrPrev : List (Nat × W64) := []
  straggler : Bool := false
  below : Nat := 0
  above : Nat := 0
  reason : BitVec 4 := 0xF
  faultHead : W32 := 0
  records : List (Nat × FaultRecord) := []
  waiting : List FaultRecord := []
  waitingEvents : List Event := []
  retired : List (Nat × Nat) := []
  slotUe : List (Nat × Nat) := []
  tileTimes : List (Nat × List Nat) := []
deriving DecidableEq, Repr

/-- A region. -/
structure Region where
  state : RegionState := .off
  fenceCause : BitVec 4 := 0
  partition : Option Nat := none
  well : WellUse := {}
  wellPowered : Bool := false
  place : Placement := {}
  pwr : RegionPower := {}
  osc : Osc := {}
  fab : RegionFabric := {}
  bru : RegionBringup := {}
  flt : RegionFaults := {}
deriving DecidableEq, Repr

/-- A region after power-up (01 T1.9-T1.13). -/
def Region.reset (i : Nat) : Region := { well := homeWell i }

end Sys2Proof.Machine
end

