-- ==== Sys2Proof/Machine/TileState.lean ====
section
/-! DEFINITION. State of a tile: registers, queues, accumulators, taps, egress, hash, compressor
(05_tile_execution, 06_tile_isa, 07, 08_sparse_engines). -/
namespace Sys2Proof.Machine

/-- The state of a 256 B granule's entry check (05 R164). -/
inductive GState where
  | held (check : W32)
  | local'
  | poisoned
deriving DecidableEq, Repr

/-- Bytes on the move with the check that travels with them; whole: one aligned granule (05 R164, 09 R280). -/
structure Piece where
  data : List Byte
  st : GState
deriving DecidableEq, Repr

/-- What a tile does. -/
inductive TileRun where
  | idle | running | halted
deriving DecidableEq, Repr

/-- Why issue is held (06 R199-R201). -/
inductive Hold where
  | halt (code : W32)
  | qsync (mask : BitVec 5)
  | twait (tok : Nat) (v : W16)
  | swait (obj : Nat) (cmp : Nat) (value : W64) (timeout : W32) (dst : Nat)
  | srd (obj : Nat) (dst : Nat)
  | stwait (egress : Bool) (entry : Nat) (dst : Nat)
deriving DecidableEq, Repr

/-- An SSIG that waits for its release point (05 R183). `after`: instructions issued before it. -/
structure Ssig where
  obj : Nat
  set : Bool
  value : W64
  after : Nat
deriving DecidableEq, Repr

/-- An instruction in a queue (05 R154-R156, 06 R190). -/
structure QEntry where
  id : Nat
  op : QOp
  tok : Tok
  index : Nat
  mode : BitVec 3
  sat : Bool
  seed : W64
  ctr : W64
  waitV : Option W16 := none
  begun : Bool := false
  flags : Fl := 0
  xfer : Option Nat := none
deriving DecidableEq, Repr

/-- 06 T6.25. -/
inductive EntryState where
  | idle | armed | attached | done | aborted
deriving DecidableEq, Repr

/-- A tap entry (05 T5.12). -/
structure Tap where
  state : EntryState := .idle
  stream : BitVec 12 := 0
  first : W32 := 0
  last : W32 := 0
  period : Nat := 1
  take : Nat := 1
  ringBase : Nat := 0
  ringSize : Nat := 256
  token : BitVec 4 := 0
  status : Byte := 0
  gen : W32 := 0
  slot : Bool := false
  seen : Bool := false
  inst : Nat := 0
  tail : Nat := 0
  fill : Nat := 0
  count : W32 := 0
deriving DecidableEq, Repr

/-- The output compressor's configuration (08 T8.6). MODE 0 OFF, 1 NONZERO, 2 PRUNE_NM, 3 PRUNE_BAL. -/
structure CompCfg where
  mode : Nat := 0
  fmt : Nat := 0
  m : Nat := 0
  nc : Nat := 0
  thresh : Nat := 0
  lenEn : Bool := false
  scaleAddr : Nat := 0
  lenAddr : Nat := 0
  outMax : Nat := 0
deriving DecidableEq, Repr

/-- A run of indices contributed or skipped and not yet forwarded (05 R179). -/
structure EgRun where
  first : Nat
  count : Nat
  skip : Bool
deriving DecidableEq, Repr

/-- An egress entry (05 R179, 06 T6.24). -/
structure Egress where
  state : EntryState := .idle
  stream : BitVec 12 := 0
  token : BitVec 4 := 0
  red : Nat := 0
  first : Nat := 0
  last : Nat := 0
  ringBase : Nat := 0
  ringSize : Nat := 256
  status : Byte := 0
  next : Nat := 0
  runs : List EgRun := []
  fill : Nat := 0
  head : Nat := 0
  count : W32 := 0
  comp : CompCfg := {}
  inst : Nat := 0
deriving DecidableEq, Repr

/-- What a halted tile's egress entry had contributed and the router had not yet forwarded (06 R220), by index. -/
structure Gone where
  inst : Nat
  comp : CompCfg
  items : List (Nat × Piece)
deriving DecidableEq, Repr

/-- An entry of the hash accumulator (08 R264). Ways of a set are listed most recent first. -/
structure HashEntry where
  key : W32
  value : W32
  poison : Bool
deriving DecidableEq, Repr

/-- The hash accumulator (08 R264-R269). Spill KIND: 0 NONE, 2 SLICE, 3 RANGE. `written`: lines of the ring in memory. -/
structure Hash where
  sets : List (Nat × List HashEntry) := []
  spilled : List Nat := []
  kind : Nat := 0
  base : Nat := 0
  lines : Nat := 0
  written : Nat := 0
  buffer : List HashEntry := []
  dropped : W32 := 0
deriving DecidableEq, Repr

/-- A loaded program (05 R166, R167). -/
structure Prog where
  banks : Nat
  count : Nat
deriving DecidableEq, Repr

/-- A logical tile. Vector registers are 64 lanes of 32 bits, lane 0 in the lowest bits. -/
structure TileSt where
  run : TileRun := .idle
  op : Nat := 0
  index : Nat := 0
  slot : Nat := 0
  entry : Nat := 0
  exitCode : W32 := 0
  hold : Option Hold := none
  s : List (Nat × W64) := []
  sPoison : W32 := 0
  a : List (Nat × W64) := []
  aPoison : BitVec 16 := 0
  v : List (Nat × BitVec 2048) := []
  vPoison : List (Nat × W64) := []
  p : List (Nat × W64) := []
  pPoison : BitVec 8 := 0
  acc : List (Nat × Acc) := []
  accPoison : BitVec 4 := 0
  tok : List (Nat × W16) := []
  rmode : BitVec 3 := 0
  rsat : Bool := false
  srseed : W64 := 0
  srctr : W64 := 0
  fstat : Fl := 0
  cnt : List (Nat × W64) := []
  vq : List QEntry := []
  tq : List QEntry := []
  sq : List QEntry := []
  mq : List QEntry := []
  xq : List QEntry := []
  issued : Nat := 0
  ssigs : List Ssig := []
  taps : List (Nat × Tap) := []
  egress : List (Nat × Egress) := []
  gone : List Gone := []
  hash : Hash := {}
  /-- the SQ head waits for a page of its spill ring (08 R267) -/
  hashStall : Bool := false
  comp : CompCfg := {}
  progs : List (Nat × Prog) := []
deriving DecidableEq, Repr

/-- A claim of a LOAD_PROGRAM or a RUN on its block, and the RUN's account (05 R171-R174). -/
structure RunState where
  granted : Bool := false
  tx0 : Nat
  ty0 : Nat
  w : Nat
  h : Nat
  slot : Nat
  entry : Nat := 0
  continueOnFault : Bool := false
  keepHash : Bool := false
  excAddr : Nat := 0
  excMax : Nat := 0
  records : Nat := 0
  overflow : Nat := 0
  lastTile : Nat := 0
  firstExc : Option (Byte × W32) := none
  poison : Option Nat := none
  maxExit : W32 := 0
deriving DecidableEq, Repr

end Sys2Proof.Machine
end

