-- ==== Sys2Proof/Machine/MemState.lean ====
section
/-! DEFINITION. State of the fabric's transfers, of the memory tiers and of the weight slots
(09_wafer_fabric, 10_memory_tiers, 11_weights). -/
namespace Sys2Proof.Machine

/-- A place of 64 B-aligned bytes a transfer reads or writes (06 T6.20, 10 T10.9). -/
inductive Place where
  | sram (t addr : Nat)
  | slice (t off : Nat)
  | range (n addr : Nat)
deriving DecidableEq, Repr

/-- A mover transfer (05 R163, 06 R212-R216). `index`: of its instruction; `issued`: source pieces read or asked for; `gather`: pieces
read and not yet written, by destination offset (before compression by source offset); `overs`: where the output passes OUT_MAX. -/
structure Xfer where
  id : Nat
  t : Nat
  entry : Nat
  index : Nat
  fill : Option W64
  src : Place
  dsts : List Place
  rows : Nat
  rowLen : Nat
  sStride : Nat
  dStride : Nat
  comp : Option CompCfg
  issued : Nat := 0
  gather : List (Nat × Piece) := []
  packed : Bool := false
  lenWord : Nat := 0
  overs : Option Nat := none
  finished : Bool := false
deriving DecidableEq, Repr

/-- A packet that awaits its response (09 R280, T9.3). kind 1 WRITE, 2 READ, 3 WRITE_CAST; `off`: where its piece begins in the transfer. -/
structure Pkt where
  id : Nat
  xfer : Nat
  t : Nat
  part : Nat
  kind : Nat
  places : List Place
  off : Nat
  len : Nat
  piece : Piece
  /-- the response's STATUS; 5 the model's own: no page could be taken -/
  status : Nat := 0
  answered : Bool := false
  /-- lost on the way, by a link error; by a key check -/
  lost : Bool := false
  keyDropped : Bool := false
  /-- at its destination, waiting for a chunk -/
  waiting : Bool := false
deriving DecidableEq, Repr

/-- A page table entry (10 T10.2). `opage`: the object page; `chunks`: chunks present in the slot; `readSeq`: order of the last read. -/
structure Pte where
  back : Nat := 0
  pin : Bool := false
  lost : Bool := false
  ppa : Option Nat := none
  chunks : W32 := 0
  ref : Nat := 0
  opage : Nat := 0
  readSeq : Nat := 0
deriving DecidableEq, Repr

/-- An object (10 T10.3): first T2 block and count, or the server's location. -/
structure MemObj where
  tier : Nat
  pages : Nat
  server : W16
  loc : W64
  t2Bytes : Nat
  sealed' : Bool
  block : Nat
  blocks : Nat
deriving DecidableEq, Repr

/-- A page of a homed shared region that PUBLISH has written (10 R320). -/
structure SharedPage where
  ppa : Option Nat
  lost : Bool := false
deriving DecidableEq, Repr

/-- A chunk being fetched (10 R325-R336, 12 R400). `keep`: the page it fills; `cause`: 0 on time. -/
structure Fetch where
  key : ChunkKey
  n : Nat
  tier : Nat
  keep : Option Nat
  waiters : List Waiter
  port : Option Nat
  reqId : Nat
  sent : Bool
  cause : Nat
  failDec : Bool
  failChk : Bool
  relay : Bool
  busy : Bool
deriving DecidableEq, Repr

/-- A chunk that passed through, held for those that wait for it (10 R327). -/
structure Passed where
  key : ChunkKey
  data : List Byte
  waiters : List Waiter
deriving DecidableEq, Repr

/-- A relay assignment (11 T11.14). -/
structure Relay where
  sink : Bool
  group : Nat
  mcast : W16
  source : BitVec 18
  members : List W32
  start : W64
  period : W32
  length : W32
deriving DecidableEq, Repr

/-- A partition's share of the tiers (10 T10.14-T10.19). -/
structure PartMem where
  privateSlots : Nat := 32
  refused : Bool := false
  quotaT1 : Nat := 0xFFFFFF
  quotaT2 : Nat := 0
  quotaT3 : Nat := 0x7FFFFF
  pages : List (Nat × Pte) := []
  objs : List (Nat × MemObj) := []
  overs : BitVec 3 := 0
  timeoutMs : W16 := 1000
  t3DeadlineUs : W16 := 500
  stallUs : List (Nat × W64) := []
  stalls : List (Nat × W32) := []
  timeouts : List (Nat × W32) := []
  /-- since when at least one access has been stalled for a cause; the accesses stalled now with their causes -/
  stallSince : List (Nat × Nat) := []
  stalled : List (Waiter × Nat) := []
  reportAt : Option Nat := none
  reported : List (Nat × W64) := []
  fetched : W32 := 0
  discarded : W32 := 0
  passChunks : W32 := 0
  quotaFails : W32 := 0
  decryptFail : W16 := 0
  checkFail : W16 := 0
  t1Poisoned : W16 := 0
  lookupVa : W48 := 0
deriving DecidableEq, Repr

/-- How far a started operation has come: bytes, pages or entries done; its phase; a count for DETAIL; the first poisoned granule; pages it has made resident; the weight slot and segment it is at. -/
structure OpProg where
  pos : Nat := 0
  phase : Nat := 0
  count : Nat := 0
  poison : Option Nat := none
  pages : List Nat := []
  slot : Nat := 0
  seg : Nat := 0
deriving DecidableEq, Repr

/-- A segment of a weight set (11 T11.4). KIND 0 UNUSED, 1 WEIGHT, 2 GRADIENT; SRC 0 RANGE, 1 HOST, 2 BASE. -/
structure WSeg where
  kind : Nat
  src : Nat
  pin : Bool
  share : Bool
  well : Nat
  svcRow : Nat
  ec : Nat
  ty0 : Nat
  ty1 : Nat
  granules : Nat
  addr : Nat
  wport : Nat
  red : Nat
  server : W16
  keyId : W32
  destId : W64
deriving DecidableEq, Repr

/-- 11 T11.5. -/
inductive SlotState where
  | empty | building | ready | active | draining | inactive
deriving DecidableEq, Repr

/-- A weight slot (11 R358, T11.17). -/
structure WSlot where
  state : SlotState := .empty
  base : Nat := 0xFF
  gen : W32 := 0
  tag : W64 := 0
  segs : List WSeg := []
  baseEntries : List (Nat × Nat) := []
  pins : List Nat := []
deriving DecidableEq, Repr

/-- A pending SWAP (11 R371). WHEN 0 BATCH, 1 TICK, 2 NOW. -/
structure Swap where
  op : Nat
  target : Bool
  when' : Nat
  tick : W48
  fired : Bool := false
deriving DecidableEq, Repr

/-- A partition's weight block (11 T11.17-T11.20). -/
structure PartWgt where
  slots : List (Nat × WSlot) := []
  swap : Option Swap := none
  swaps : W32 := 0
  holdOpens : Bool := false
  batchObj : BitVec 15 := 0
  batchEn : Bool := false
  boundaries : W32 := 0
  errStream : BitVec 12 := 0
  errValid : Bool := false
  granules : W64 := 0
  aborts : W32 := 0
  lastStatus : Byte := 0
  engineUs : W32 := 0
  swapHoldNs : W32 := 0
  relayed : BitVec 24 := 0
  fallbacks : BitVec 20 := 0
  unsolicited : BitVec 20 := 0
  relays : List (Nat × Relay) := []
deriving DecidableEq, Repr

/-- The published table of a shared region (11 T11.12); entries (OFFSET, GRANULES, SOURCE_ID). -/
structure PubTable where
  valid : Bool := false
  publishing : Bool := false
  gen : W32 := 0
  tag : W64 := 0
  entries : List (Nat × Nat × Nat) := []
deriving DecidableEq, Repr

/-- An encrypted gradient frame held until its acknowledgment (12 R403). -/
structure GradFrame where
  reqId : Nat
  first : Nat
  data : List Byte
  busy : Bool := false
deriving DecidableEq, Repr

/-- A stream instance, weight or gradient (11 R366-R370, 12 R401). `rect`: rows ty0 … ty1 and columns x0 … x1 of its tree; `sent`: granules the
engine has sent; `units`: those some tile has not taken; `bad`, `gap`: (tile, granule) poisoned or lost there on the way; `prog`: per tile OPEN and
granules taken; `shut`: tiles that have the end marker; `fwd`: per tile the combined granules nobody has taken (none: empty). -/
structure Inst where
  id : Nat
  part : Nat
  op : Nat
  stream : Nat
  gradient : Bool
  slot : Bool
  gen : W32
  granules : Nat
  seg : WSeg
  base : Nat
  well : Nat
  ec : Nat
  row0 : Nat
  x0 : Nat
  x1 : Nat
  sent : Nat := 0
  units : List (Nat × Piece) := []
  bad : List (Nat × Nat) := []
  gap : List (Nat × Nat) := []
  prog : List (Nat × Nat) := []
  shut : List Nat := []
  failed : Option (Byte × W32) := none
  ended : Option (Byte × W32) := none
  fwd : List (Nat × List (Nat × Option Piece)) := []
  egress : List Piece := []
  combined : Nat := 0
  frames : List GradFrame := []
  frameCount : Nat := 0
  openReq : Nat := 0
  closeSent : Bool := false
  closeBusy : Bool := false
  packed : Bool := false
  done : Bool := false
deriving DecidableEq, Repr

/-- A STREAM action in progress (11 R366-R368). -/
structure StreamOp where
  op : Nat
  part : Nat
  next : Nat
  stop : Nat
  gen : W32 := 0
  status : Option (Byte × W32) := none
  halted : Bool := false
  /-- since when the next OPEN waits for engine room or route entries; since when it is held at a swap point -/
  waitSince : Option Nat := none
  heldSince : Option Nat := none
deriving DecidableEq, Repr

/-- A snapshot past its point (14 R467). Granules from `pos` up are pending; those of `captured` were copied ahead of a write. -/
structure Snap where
  op : Nat
  part : Nat
  src : Nat
  len : Nat
  pos : Nat := 0
  inSpec : Bool := false
  captured : List (Nat × Piece) := []
deriving DecidableEq, Repr

end Sys2Proof.Machine
end

