-- ==== Sys2Proof/Machine/CollState.lean ====
section
/-! DEFINITION. State of the groups and their collectives (14_collectives). -/
namespace Sys2Proof.Machine

/-- 14 T14.1. -/
inductive GroupState where
  | free | forming | ready | running | aborted | reforming
deriving DecidableEq, Repr

/-- One act of a member on a piece (14 R455, R456): `recvAdd`, `recvSet` take a piece from a module under a tag, `send` gives one,
`write` writes the value to its destinations. Tags: 0 tree 0, 1 tree 1, 2 ring +, 3 ring −, 4 flat ring (14 T14.8). -/
inductive Act where
  | own
  | recvAdd (src tag : Nat)
  | recvSet (src tag : Nat)
  | send (dst tag port : Nat)
  | write
deriving DecidableEq, Repr

/-- A piece of up to four granules of an operation: what is still to do on it, its value so far. -/
structure PieceRun where
  off : Nat
  n : Nat
  acts : List Act
  acc : List Piece := []
deriving DecidableEq, Repr

/-- A collective that runs on a group (14 R447-R457). `inbox`: pieces that have come, (source, tag, offset, granules); `unacked`: pieces sent
and not acknowledged. -/
structure CollRun where
  op : Nat
  seq : W32
  kind : Nat
  red : Nat
  dtype : Nat
  root : Nat
  src : Nat
  dst : Nat
  count : Nat
  launched : Bool
  pieces : List PieceRun := []
  inbox : List (Nat × Nat × Nat × List Piece) := []
  unacked : List (Nat × Nat × Nat) := []
  poison : Option Nat := none
  ups : List Nat := []
  upSent : Bool := false
  down : Bool := false
deriving DecidableEq, Repr

/-- A group (14 R441-R446, T14.14). `members`: module IDs in rank order once re-formed; `queue`: COLLECTIVE operations started and waiting;
`formOp`, `ups`, `excl`: the GROUP_FORM or GROUP_REFORM in progress, the children that have reported, the list of a re-form. -/
structure Group where
  state : GroupState := .free
  axes : Nat := 0
  algo : Nat := 0
  gb : List Nat := [0, 0, 0]
  ge : List Nat := [0, 0, 0]
  tile : Bool := false
  tx0 : Nat := 0
  ty0 : Nat := 0
  w : Nat := 0
  h : Nat := 0
  epoch : W32 := 0
  crossover : Nat := 262144
  progressMs : Nat := 10
  formMs : Nat := 1000
  members : Option (List Nat) := none
  started : W32 := 0
  seq : W32 := 0
  squalls : W32 := 0
  lastDetail : W32 := 0
  lastTick : W32 := 0
  queue : List Nat := []
  formOp : Option Nat := none
  ups : List Nat := []
  excl : List Nat := []
  sign : W64 := 0
  run : Option CollRun := none
deriving DecidableEq, Repr

/-- The collective block of a partition (14 T14.13). -/
structure PartCol where
  groups : List (Nat × Group) := []
  opsOk : W32 := 0
  begun : W32 := 0
  received : W32 := 0
  discards : W32 := 0
  discardAt : Option Nat := none
  discardNew : Nat := 0
deriving DecidableEq, Repr

end Sys2Proof.Machine
end

