-- ==== Sys2Proof/Machine/ModuleState.lean ====
section
/-! DEFINITION. State of the module as a whole: power, bring-up, faults and twin, the carrier
(16_power_and_thermal, 17, 18, 19_module_hardware). -/
namespace Sys2Proof.Machine

/-- The four ordering codes (00 T0.1, 03 T3.17). -/
inductive OrderCode where
  | kw9A | kw9F | kw9T | kw9FT
deriving DecidableEq, Repr

/-- What manufacture fixes (00 R1-R3, 03 T3.16-T3.18, 02 R71, 02 R78, 16 R509). -/
structure Fixed where
  order : OrderCode := .kw9FT
  stepping : Byte := 0x10
  serial : W128 := 0
  deviceSeed : Nat := 0
  certs : List (List Byte) := []
  weights : List Nat := []
deriving DecidableEq, Repr

/-- GEN.STATE.PHASE (03 T3.19). -/
inductive Phase where
  | powerOn | boot | front | fabricReady | fullReady | bootFail
deriving DecidableEq, Repr

/-- CAD.STATUS.STATE (04 T4.1). -/
inductive CadState where
  | unset | locked | slewing | holdover | localMode
deriving DecidableEq, Repr

/-- A cadence input as a T-port offers it (04 R131): priority, root ID, hops. -/
structure CadInput where
  priority : Byte
  rootId : W64
  hops : Nat
deriving DecidableEq, Repr

/-- The cadence time base (04 T4.6-T4.8). Offsets in ns. -/
structure Cadence where
  count : W64 := 0
  state : CadState := .unset
  sourceMode : BitVec 2 := 0
  root : Bool := false
  tportMask : BitVec 12 := 0xFFF
  ptpDomain : Byte := 0
  rootPriority : Byte := 128
  sourceKind : BitVec 2 := 0
  sourcePort : BitVec 4 := 0
  hops : BitVec 7 := 0
  inSpec : Bool := false
  rootActive : Bool := false
  sourcePriority : Byte := 0
  holdoverMs : W32 := 0
  sourceId : W64 := 0
  offset : Int := 0
  localSet : W64 := 0
  steps : W32 := 0
  holdovers : W32 := 0
  inputs : List (Nat × CadInput) := []
  ptpOk : Bool := false
  ptpId : W64 := 0
  ptpHeard : Bool := false
  better : Option Nat := none
  acquiring : Bool := false
  stepping : Bool := false
  residual : Int := 0
  holdoverUs : Nat := 0
  echo : List (Nat × (W64 × W64)) := []
deriving DecidableEq, Repr

/-- A phase plan (16 R515). -/
structure PhasePlan where
  phase : BitVec 3
  tick : W48
deriving DecidableEq, Repr

/-- What Forecast has learned of one phase (16 R515). Sums and counts of the mean power per region (mW) and duration (µs). -/
structure PhaseStat where
  powerSum : Nat := 0
  powerN : Nat := 0
  durSum : Nat := 0
  durN : Nat := 0
  next : List (Nat × Nat) := []
deriving DecidableEq, Repr

/-- A partition's power share (16 T16.14, R513, R515, R527). -/
structure PartPower where
  guaranteeW : W16 := 0
  limitW : W16 := 0
  phase : BitVec 3 := 0
  scaled : Bool := false
  thrUs : List (Nat × W64) := []
  plans : List PhasePlan := []
  stats : List (Nat × PhaseStat) := []
  sinceUs : Nat := 0
  forced : Option (BitVec 3) := none
  powerMw : Nat := 0
  seen : Bool := false
deriving DecidableEq, Repr

/-- The power-down sequence in progress (16 R520, R523). -/
structure PowerDown where
  fast : Bool
  cause : BitVec 3
  step : Nat
deriving DecidableEq, Repr

/-- Module power and cooling (16 T16.12, T16.13, T16.15). -/
structure Power where
  inVoltage : W16 := 0
  inCurrent : W16 := 0
  inPower : W16 := 0
  energyMj : W64 := 0
  hostW : W16 := 32000
  rackW : W16 := 32000
  coolantW : W16 := 32000
  inForceW : W16 := 32000
  peakSet : W16 := 32000
  peakW : W16 := 32000
  duty : BitVec 5 := 16
  class0En : Bool := true
  forecastEn : Bool := true
  bondMargin : BitVec 6 := 8
  eta : BitVec 10 := 910
  siliconW : W16 := 0
  samples : List Nat := []
  raiseWait : Nat := 0
  vlnkMw : Nat := 0
  carrierMw : Nat := 0
  inlet : W16 := 0
  outlet : W16 := 0
  flow : W16 := 0
  targetC : Byte := 85
  hotRegion : Byte := 0
  hotTemp : BitVec 12 := 0
  lullsThermal : W32 := 0
  lullsAlert : W32 := 0
  down : Option PowerDown := none
deriving DecidableEq, Repr

/-- One calibration process (17 T17.7, T17.8, R549, R550). -/
structure CalProcess where
  en : Bool := true
  stale : Bool := false
  period : W32 := 0
  nextPeriod : Option W32 := none
  slots : W32 := 0
  skipped : W32 := 0
  staleUnits : List Nat := []
deriving DecidableEq, Repr

/-- The bring-up block (17 T17.6). -/
structure Bringup where
  frontCol : BitVec 4 := 0xF
  frontDone : Bool := false
  incomplete : Bool := false
  startRegion : Byte := 0xFF
  fwRegion : Byte := 0xFF
  fabricMs : W32 := 0
  fullMs : W32 := 0
  flashDone : Byte := 0
  /-- flash links that are up (10 R326, 17 T17.1) -/
  flashUp : Byte := 0
  hostDone : BitVec 4 := 0
  cal : List (Nat × CalProcess) :=
    [(0, { period := 10000 }), (1, { period := 1000 }), (2, { period := 62500 }), (3, { period := 100000 })]
  serdesLow : List (Nat × Nat) := []
deriving DecidableEq, Repr

/-- 18 T18.5. -/
inductive PairState where
  | unpaired | pairing | paired | broken
deriving DecidableEq, Repr

/-- 18 T18.14 BSTATE. -/
inductive BindState where
  | unbound | binding | bound | broken | failedOver
deriving DecidableEq, Repr

/-- A partition's mirror binding (18 T18.14, R570-R575). `pages`: the standby's area, page j of bank b at key b × BANK_PAGES + j,
with the slot that holds it. `waiting`: the COMMIT operation whose point the standby has not acknowledged. -/
structure Mirror where
  role : BitVec 2 := 0
  bstate : BindState := .unbound
  remote : BitVec 4 := 0
  committed : Bool := false
  bankPages : BitVec 21 := 0
  label : W64 := 0
  tick : W48 := 0
  base : W48 := 0
  bytes : W64 := 0
  commits : W32 := 0
  bindMsg : Option Msg := none
  remoteKey : W16 := 0
  pages : List (Nat × Nat) := []
deriving DecidableEq, Repr

/-- A bind of the twin that waits for this module's own (18 R571): the twin's partition, this module's, the twin's role and pages, its
partition's key; `taken`: as the standby it has its pages. -/
structure TwinBind where
  theirs : Nat
  ours : Nat
  role : BitVec 2
  bankPages : BitVec 21
  key : W16
  taken : Bool
deriving DecidableEq, Repr

/-- The twin pair (18 T18.13, R568, R574). -/
structure Twin where
  state : PairState := .unpaired
  breakCause : BitVec 4 := 0
  partner : BitVec 18 := 0
  pairMsg : Option Msg := none
  losing : Bool := false
  probeAnswered : Bool := false
  handover : Option Msg := none
  handoverOps : List Nat := []
  binds : List TwinBind := []
deriving DecidableEq, Repr

/-- The fault block (18 T18.13). -/
structure Ras where
  faultFenced : Byte := 0
  knownAdded : W32 := 0
  marginPct : BitVec 7 := 10
  priorityEn : Bool := true
  lossMs : BitVec 10 := 100
  twin : Twin := {}
deriving DecidableEq, Repr

/-- A record of the non-volatile log (19 R594): kinds 1 BOOT_FAIL, 2 POWER_DOWN, 3 RAIL_FAULT, 4 SAFETY, 5 PMBUS, 6 AUTHORITY, 7 LEAK, 8 INPUT. -/
structure LogRecord where
  seq : W32
  tick : W48
  kind : W16
  data : BitVec 160
deriving DecidableEq, Repr

/-- 19 T19.6. -/
inductive SafetyState where
  | normal | request | discrepancy | fault
deriving DecidableEq, Repr

/-- 19 T19.12 STATE. -/
inductive SegState where
  | active | recovering | isolated
deriving DecidableEq, Repr

/-- A PMBus segment (19 T19.12). -/
structure Segment where
  state : SegState := .active
  tries : BitVec 2 := 0
  cause : Bool := false
  stale : Bool := false
  recoveries : W16 := 0
  isolations : W16 := 0
  lastAddr : BitVec 7 := 0
deriving DecidableEq, Repr

/-- The carrier and the MMC (19 T19.10-T19.12, R588, R591-R594, R600). -/
structure Carrier where
  inputOn : Bool := true
  inputMv10 : W16 := 0
  mmcRunning : Bool := true
  mmcRestarts : W16 := 0
  mgmtUp : Bool := false
  ptpLocked : Bool := false
  service : Bool := false
  root : List Byte := []
  leak : Bool := false
  inputLimited : Bool := false
  logSeq : W32 := 0
  /-- the last record sent to a peer (19 R593, T19.13) -/
  reported : W32 := 0
  log : List LogRecord := []
  autoOn : Bool := true
  privLinkNext : BitVec 2 := 0
  locate : Bool := false
  chA : Bool := true
  chB : Bool := true
  safety : SafetyState := .request
  count : Nat := 0
  faultLatched : Bool := false
  faults : W16 := 0
  requests : W16 := 0
  maxCount : BitVec 6 := 0
  powerOnReceived : Bool := false
  waferOn : Bool := false
  peers : Nat := 0
  pluggableLow : BitVec 38 := 0
  segs : List (Nat × Segment) := []
  relocations : List (Nat × Nat) := []
deriving DecidableEq, Repr

end Sys2Proof.Machine
end

