-- ==== Sys2Proof/Machine/PartitionState.lean ====
section
/-! DEFINITION. State of a partition (02_partitions_and_security, 03_host_rings). -/
namespace Sys2Proof.Machine

/-- 02 T2.2. -/
inductive PartState where
  | free | configuring | active | resetting | scrubbing
deriving DecidableEq, Repr

/-- A PART_RESIZE that has been accepted (02 R52). -/
structure Resize where
  rx0 : Nat
  ry0 : Nat
  w : Nat
  h : Nat
deriving DecidableEq, Repr

/-- A REVOKE with FORCE that waits for the end of its reset (02 R64). -/
structure ForcedRevoke where
  shared : Nat
  right : Nat
  msg : Msg
deriving DecidableEq, Repr

/-- A partition (02 T2.1, 03 T3.26-T3.29). -/
structure Partition where
  state : PartState := .free
  rx0 : Nat := 0
  ry0 : Nat := 0
  w : Nat := 0
  h : Nat := 0
  hostLink : Nat := 0
  key : W16 := 0
  syncBase : Nat := 0
  syncCount : Nat := 0
  powerGuaranteed : Bool := false
  resetStep : Nat := 0
  skipped : Nat := 0
  resize : Option Resize := none
  destroy : Option Msg := none
  waiting : List (Bool × Msg) := []
  revokes : List ForcedRevoke := []
  heldGrants : List Grant := []
  heldKeys : List (Nat × KeySlot) := []
  rings : List (Nat × Ring) := []
  rrRing : List (Nat × Nat) := []
  poolLimit : BitVec 13 := 4096
  admitted : W64 := 0
  completed : W64 := 0
  doorbellDrop : W64 := 0
  ep : Endpoint := {}
  pwr : PartPower := {}
  mirror : Mirror := {}
  late : W64 := 0
  mem : PartMem := {}
  wgt : PartWgt := {}
  col : PartCol := {}
deriving DecidableEq, Repr

end Sys2Proof.Machine
end

