-- ==== Sys2Proof/Machine/PortState.lean ====
section
/-! DEFINITION. State of the Barior ports (12_barior_ports). -/
namespace Sys2Proof.Machine

/-- 12 T12.3. -/
inductive PortPhase where
  | disabled | detect | equalize | align | params | active | retrain | down | relocating
deriving DecidableEq, Repr

/-- A DATA flit without its link fields (12 T12.5). -/
structure Flit where
  ch : Nat
  som : Bool
  eom : Bool
  poison : Bool
  key : W16
  check : W32
  data : List Byte
deriving DecidableEq, Repr

/-- A message of a channel as its flits arrive, oldest first (12 R390). -/
structure RxMsg where
  flits : List Flit
deriving DecidableEq, Repr

/-- A message received whole, in the receive buffer until its command takes it. -/
structure InMsg where
  ch : Nat
  msg : RxMsg
deriving DecidableEq, Repr

/-- A quarter's move to another well (12 R406). `msg`: the BPT_RELOCATE that asked for it. -/
structure Reloc where
  quarter : Nat
  target : Nat
  old : Nat
  msg : Option Msg
  home : Bool
deriving DecidableEq, Repr

/-- A Barior port (12 T12.15-T12.17, R386-R395). -/
structure Port where
  phase : PortPhase := .disabled
  failCause : BitVec 4 := 0
  width : Nat := 0
  rate : BitVec 2 := 0
  narrowQ : Bool := false
  partnerId : W32 := 0
  enable : Bool := true
  allowX4 : Bool := true
  allowHalf : Bool := true
  cur0 : Nat := 0
  cur1 : Nat := 0
  kind : BitVec 3 := 0
  pport : Byte := 0
  minor : Byte := 0
  caps : Byte := 0
  loopNs : W32 := 0
  flitsTx : W64 := 0
  flitsRx : W64 := 0
  fecCorrected : W32 := 0
  fecUncorr : W16 := 0
  lcrcFail : W16 := 0
  replays : W32 := 0
  retrains : W16 := 0
  downs : W16 := 0
  keyDrop : W32 := 0
  keyDropLast : Nat × W16 := (0, 0)
  egressCheck : W16 := 0
  poisonRx : W16 := 0
  poisonTx : W16 := 0
  entryCheck : W16 := 0
  protoErr : W16 := 0
  unsolicited : W16 := 0
  /-- this attempt runs at half rate; on one quarter; the quarter it must train on alone; failures in a row of a quarter's lanes -/
  half : Bool := false
  narrow : Option Nat := none
  forced : Option Nat := none
  laneQ : Nat := 0
  laneFaults : Nat := 0
  lastParams : Option (List Byte) := none
  retrainCause : BitVec 4 := 0
  txSeq : Nat := 0
  rxExp : Nat := 0
  lastAck : Nat := 1023
  nakSent : Bool := false
  replay : List (Nat × Flit) := []
  replaysRow : Nat := 0
  txq : List Flit := []
  /-- the channel of REQ, RSP, STR and COL whose turn it is, and the flits it may still send in it (12 R391) -/
  turn : Nat := 3
  turnLeft : Nat := 0
  txCredit : List (Nat × Nat) := []
  rxUsed : List (Nat × Nat) := []
  rxOpen : List (Nat × RxMsg) := []
  inbox : List InMsg := []
  reloc : Option Reloc := none
  faultType : W16 := 0
  faultCount : Nat := 0
  faultAt : Option Nat := none
deriving DecidableEq, Repr

/-- BPT.PROTO_CFG (12 T12.14). -/
structure ProtoCfg where
  gradAckMs : W16 := 1000
  reqMax : BitVec 11 := 256
deriving DecidableEq, Repr

/-- The home wells of port p (01 T1.6, 12 T12.1, T12.12): quarters 0 and 1. -/
def homeWells (p : Nat) : Nat × Nat :=
  let ws := (List.range 144).filter (fun i =>
    let w := homeWell i
    decide ((if w.use = 1 then w.port else if w.use = 2 then 24 + w.port else if w.use = 3 then 36 + w.port else 99) = p))
  let q := fun k => match ws.find? (fun i => decide ((homeWell i).quarter = k)) with
    | some i => i
    | none => 0
  (q 0, q 1)

/-- A port after reset. -/
def Port.reset (p : Nat) : Port :=
  let h := homeWells p
  { cur0 := h.1, cur1 := h.2 }

end Sys2Proof.Machine
end

