-- ==== Sys2Proof/Machine/TorusState.lean ====
section
/-! DEFINITION. State of the torus router (13_torus_routing). -/
namespace Sys2Proof.Machine

/-- A torus packet (13 T13.1): its 64-byte mesh or message head, its data in granules or bytes. `axis`: the axis it arrived on; `from'`: the
partition of this module that sent it. -/
structure TorPkt where
  dst : Nat
  src : Nat
  key : W16
  gen : W16
  ch : Nat
  mcast : Bool
  group : Nat
  sel : Nat
  hops : Nat
  head : List Byte
  data : List Piece
  poison : Bool := false
  axis : Option Nat := none
  from' : Option Nat := none
deriving DecidableEq, Repr

/-- A T-port in the router's view (13 T13.10). `posted`: NEIGHBOUR_MISMATCH posted since the port entered ACTIVE; `genAt`, `dropAt`: when
GEN_DROPPED, TORUS_DROP were posted last. -/
structure TPort where
  mismatch : Bool := true
  posted : Bool := false
  fallback : Bool := false
  staleGen : W32 := 0
  futureGen : W32 := 0
  holdDrop : W32 := 0
  routeDrop : W16 := 0
  mismatchDrop : W16 := 0
  transit : W64 := 0
  queue : List TorPkt := []
  genAt : Option Nat := none
  dropAt : Option Nat := none
  dropNew : Nat := 0
deriving DecidableEq, Repr

/-- A torus key entry (13 R425). -/
structure TorKey where
  key : W16
  gen : W16
  ports : BitVec 12
deriving DecidableEq, Repr

/-- The members of a multicast group (13 R431). -/
inductive McastTo where
  | compact (mask : BitVec 16384)
  | extended (ids : List Nat)
deriving DecidableEq, Repr

structure Mcast where
  owner : Nat
  goal : McastTo
deriving DecidableEq, Repr

/-- TOR.THROTTLE of a partition (13 T13.9). -/
structure Throttle where
  thresh : W16 := 4096
  us : W32 := 0
  since : Option Nat := none
deriving DecidableEq, Repr

/-- The torus block (13 T13.6-T13.10). -/
structure Torus where
  id : BitVec 18 := 0
  idValid : Bool := false
  dx : Nat := 1
  dy : Nat := 1
  dz : Nat := 1
  bx : Nat := 0
  by' : Nat := 0
  bz : Nat := 0
  ex : Nat := 1
  ey : Nat := 1
  ez : Nat := 1
  rtIndex : BitVec 18 := 0
  routes : List (Nat × W16) := []
  sets : W32 := 0
  stagedRoutes : Option (W48 × List (Nat × W16)) := none
  keys : List TorKey := []
  stagedKeys : Option (W48 × List TorKey) := none
  mcast : List (Nat × Mcast) := []
  throttle : List (Nat × Throttle) := []
  tports : List (Nat × TPort) := []
  /-- packets delivered to this module, until the command of their kind takes them -/
  arrived : List TorPkt := []
deriving DecidableEq, Repr

end Sys2Proof.Machine
end

