-- ==== Sys2Proof/Machine/State.lean ====
section
/-! DEFINITION. The state of the module, the reasons it can stop, and the state after reset. -/
namespace Sys2Proof.Machine

/-- What the module writes to the world outside it, in order. -/
inductive Output where
  /-- a write to host memory for a function (03 R110-R120, 15 R476), bytes lowest first -/
  | hostWrite (ep : Ep) (addr : Nat) (data : List Byte)
  /-- a write to host memory in a TLP with the EP bit set (10 R340) -/
  | hostPoison (ep : Ep) (addr : Nat) (data : List Byte)
  /-- a reply to a management peer or the console (19 R593, R600) -/
  | peerReply (goal : Sender) (r : Reply)
  /-- a record sent to every admitted management peer (19 R593 MGT_REPORT) -/
  | peerReport (r : LogRecord)
  /-- a twin message (18 R569): kind 1 PAIR, 2 HEARTBEAT, 3 BREAK, 5 UNBIND, 7 PROBE, 8 an acknowledgment -/
  | twin (kind : Nat) (arg : Nat)
  /-- a BIND message to the twin: partition, remote partition, role, BANK_PAGES, key, pages taken (18 R570) -/
  | twinBind (n remote role pages : Nat) (key : W16) (taken : Bool)
  /-- mirror data: the primary partition's key, bank offset, a granule (18 R569, R572) -/
  | mirror (key : W16) (off : Nat) (data : List Byte) (poison : Bool)
  /-- a mirror point: the remote partition, LABEL, TICK (18 R573) -/
  | mirrorPoint (remote : Nat) (label : W64) (tick : W48)
  /-- a DATA flit on a Barior port with its sequence number (12 R390) -/
  | flit (p : Nat) (seq : Nat) (f : Flit)
  /-- a LINKCTL flit (12 R390): 1 NAK, 2 RETRAIN_REQ, 3 PARAMS, 4 ECHO_REQ, 5 ECHO_RSP -/
  | linkctl (p : Nat) (op : Nat) (arg : Nat)
  /-- a TIMING flit (12 R397) -/
  | timing (p : Nat) (f : TimingFlit)
  /-- a frame that a relay SOURCE sends on over its partition's T-ports (11 R377): partition, relay group, multicast group, members -/
  | relay (n group mcast : Nat) (members : List W32) (frame : List Byte)
  /-- a value a register read returned to a function (00 R15, 15 R492) -/
  | readValue (fn : Fn) (off : BitVec 24) (value : W64)
deriving DecidableEq, Repr

/-- Why a step can fault. No rule of the spec stops the machine; one reason is kept for an access the spec says does not exist. -/
inductive Fault where
  /-- raised by no command of this model; kept because the interface asks for the type (safe) -/
  | none
deriving DecidableEq, Repr

/-- Why a step can be refused. -/
inductive Refusal where
  /-- a command whose meaning is not written yet, named by its mnemonic (safe) -/
  | notModelled (mnemonic : String)
deriving DecidableEq, Repr

/-- The module. -/
structure State where
  fixed : Fixed
  phase : Phase
  scratch : W64
  rsShadow : List (Nat × W32)
  links : List (Nat × HostLink)
  rgn : List (Nat × Region)
  part : List (Nat × Partition)
  sync : List (Nat × W64)
  ops : List Op
  nextOp : Nat
  nextEnd : Nat
  rrPart : Nat
  cad : Cadence
  fw : Firmware
  sec : Sec
  /-- port p (0-23 W, 24-35 T, 36-37 twin) and the partition it is assigned to (02 R60) -/
  portOwner : List (Nat × Nat)
  pwr : Power
  bru : Bringup
  ras : Ras
  mgt : Carrier
  tiles : List (Nat × TileSt)
  /-- tile SRAM (05 R159): address tile × 0xC0000 + tile address -/
  sram : Memory
  /-- granule states of SRAM that are not LOCAL (05 R164): key tile × 3072 + granule -/
  sramG : List (Nat × GState)
  /-- the Stratus slices (10 R314): address tile × 0xC00000 + slice offset -/
  slices : Memory
  sliceG : List (Nat × GState)
  /-- the flash tier (10 R326): byte address block × 65536 + offset -/
  flash : Memory
  runs : List (Nat × RunState)
  ports : List (Nat × Port)
  tor : Torus
  /-- the READY regions of the route tables in force (09 R290); the regions whose change still waits, 0xFF one that became READY -/
  routeSet : Option (List Nat)
  routeWork : List Nat
  proto : ProtoCfg
  snaps : List Snap
  xfers : List Xfer
  pkts : List Pkt
  nextPkt : Nat
  /-- pages of homed shared regions: key shared ID × 2^21 + page -/
  shPages : List (Nat × SharedPage)
  /-- backing objects of homeless shared regions (10 R324) -/
  backing : List (Nat × MemObj)
  fetches : List Fetch
  passed : List Passed
  readSeq : Nat
  pubs : List (Nat × PubTable)
  insts : List Inst
  streamOps : List StreamOp
  nextInst : Nat
  nextReq : Nat
  opProg : List (Nat × OpProg)
  /-- the model's own: what the module has put out, newest first -/
  out : List Output
  /-- the model's own: how many free values have been taken -/
  free : Nat
  /-- the commands that wait, first in first out -/
  pending : List Instr
deriving DecidableEq, Repr

/-- The module right after reset. -/
def State.reset : State :=
  { fixed := {}, phase := .powerOn, scratch := 0, rsShadow := [], links := [], rgn := [], part := [], sync := [],
    ops := [], nextOp := 0, nextEnd := 0, rrPart := 11, cad := {}, fw := {}, sec := {}, portOwner := [], pwr := {}, bru := {}, ras := {}, mgt := {},
    tiles := [], sram := [], sramG := [], slices := [], sliceG := [], flash := [], runs := [], ports := [], tor := {}, routeSet := none, routeWork := [], proto := {}, snaps := [], xfers := [], pkts := [],
    nextPkt := 0, shPages := [], backing := [], fetches := [], passed := [], readSeq := 0, pubs := [], insts := [],
    streamOps := [], nextInst := 0, nextReq := 0, opProg := [],
    out := [], free := 0, pending := [] }

end Sys2Proof.Machine
end

