-- ==== Sys2Proof/Machine/Ops.lean ====
section
/-! DEFINITION. The named operations over the state: accessors, outputs, events, replies, sync objects,
completions, the beginning of a partition reset (02, 03, 15). -/
namespace Sys2Proof.Machine

/-! ### Accessors -/

def State.rg (s : State) (i : Nat) : Region := tget (Region.reset i) s.rgn i
def State.setR (s : State) (i : Nat) (r : Region) : State := { s with rgn := tset s.rgn i r }
def State.updR (s : State) (i : Nat) (f : Region → Region) : State := s.setR i (f (s.rg i))

def State.pt (s : State) (n : Nat) : Partition := tget {} s.part n
def State.setP (s : State) (n : Nat) (p : Partition) : State := { s with part := tset s.part n p }
def State.updP (s : State) (n : Nat) (f : Partition → Partition) : State := s.setP n (f (s.pt n))

def State.lk (s : State) (k : Nat) : HostLink := tget {} s.links k
def State.updL (s : State) (k : Nat) (f : HostLink → HostLink) : State :=
  { s with links := tset s.links k (f (s.lk k)) }

def Partition.ring (p : Partition) (k : Nat) : Ring := tget {} p.rings k
def Partition.updRing (p : Partition) (k : Nat) (f : Ring → Ring) : Partition :=
  { p with rings := tset p.rings k (f (p.ring k)) }

def State.endpoint (s : State) : Ep → Endpoint
  | .pf k => (s.lk k).ep
  | .vf n => (s.pt n).ep

def State.updEp (s : State) (e : Ep) (f : Endpoint → Endpoint) : State :=
  match e with
  | .pf k => s.updL k (fun l => { l with ep := f l.ep })
  | .vf n => s.updP n (fun p => { p with ep := f p.ep })

def State.emit (s : State) (o : Output) : State := { s with out := o :: s.out }

/-- A step that completes. -/
def ok (s : State) : Host.Outcome State Fault Refusal := .next s

/-- Bits [47:0] of the cadence count (03 R110, R115). -/
def State.tick (s : State) : W48 := s.cad.count.setWidth 48

/-- A fresh place in the model's sequence of free values. -/
def State.takeFree (s : State) (n : Nat) : State := { s with free := s.free + n }

/-- A valid rectangle (02 R42). -/
def rectValid (rx0 ry0 w h : Nat) : Bool :=
  decide (1 ≤ w) && decide (1 ≤ h) && decide (rx0 + w ≤ 12) && decide (ry0 + h ≤ 12)

/-- The regions of a rectangle (02 R42, 00 T0.6). -/
def rectRegions (rx0 ry0 w h : Nat) : List Nat :=
  (List.range h).flatMap (fun dy => (List.range w).map (fun dx => (ry0 + dy) * 12 + (rx0 + dx)))

def Partition.regions (p : Partition) : List Nat := rectRegions p.rx0 p.ry0 p.w p.h

/-- The region of logical tile (tx, ty), with the tile's number ty × 288 + tx (01 R24). -/
def tileRegion (t : Nat) : Nat := (t / 288 / 24) * 12 + (t % 288) / 24

/-- The logical tiles of a region, south-west first, row by row (01 T1.3). -/
def regionTiles (r : Nat) : List Nat :=
  (List.range 24).flatMap (fun j => (List.range 24).map (fun i => (r / 12 * 24 + j) * 288 + (r % 12) * 24 + i))

/-- The physical place (pi, pj) of logical tile (i, j) of a region under a record (01 R26). -/
def placeTile (rec : W128) (i j : Nat) : Nat × Nat :=
  let sr := field rec 4 0
  let sc := field rec (9 + 5 * j) (5 + 5 * j)
  ((if i < sc then i else i + 1), (if j < sr then j else j + 1))

/-- The partition that owns a region (01 T1.9). -/
def State.owner (s : State) (r : Nat) : Option Nat := (s.rg r).partition

def PartState.isFree : PartState → Bool
  | .free => true
  | _ => false

/-! ### Functions that are live (02 R68, 03 R89) -/

/-- The VF of partition `n` is live (02 R68). -/
def State.vfLive (s : State) (n : Nat) : Bool :=
  let p := s.pt n
  let l := s.lk p.hostLink
  !p.state.isFree && l.vfEnable && decide (n + 1 ≤ l.numVfs.toNat)

/-- The module may write records for a function (03 R89). -/
def State.canWrite (s : State) : Ep → Bool
  | .pf k => (s.lk k).up && (s.lk k).bme
  | .vf n => let l := s.lk (s.pt n).hostLink
             l.up && s.vfLive n && l.vfBme.getLsbD n

/-! ### Events (03 R115-R117) -/

/-- The 32 bytes of an event record (03 T3.12). -/
def eventBits (e : Event) (seq : W16) (phase : Bool) : Nat :=
  pack [(16, e.code.toNat), (8, e.kind.toNat), (8, 0), (16, e.src.toNat), (16, seq.toNat), (48, e.tick.toNat),
    (16, 0), (120, e.data.toNat), (7, 0), (1, phase.toNat)]

/-- Positions of a ring of 2^log2 slots: the next position, and whether it wrapped. -/
def bump {w : Nat} (x : BitVec w) (size : Nat) : BitVec w × Bool :=
  if x.toNat + 1 = size then (0, true) else (x + 1, false)

/-- One record written at the tail: the body, then the byte that carries PHASE (03 R115). -/
def EventRing.write (q : EventRing) (ep : Ep) (e : Event) : EventRing × List Output :=
  let b := leBytes 32 (eventBits e q.seq q.phase)
  let addr := q.base.toNat / 4096 * 4096 + 32 * q.tail.toNat
  let t := bump q.tail (2 ^ q.log2.toNat)
  ({ q with tail := t.1, phase := q.phase ^^ t.2, seq := q.seq + 1, used := q.used + 1 },
   [.hostWrite ep (addr + 31) (b.drop 31), .hostWrite ep addr (b.take 31)])

/-- The EVENTS_LOST record (03 T3.13); its source is the ring's own function. -/
def lostEvent (ep : Ep) (t : W48) : Event :=
  match ep with
  | .pf k => { code := 3, kind := 3, src := BitVec.ofNat 16 k, tick := t, data := 0 }
  | .vf n => { code := 3, kind := 1, src := BitVec.ofNat 16 n, tick := t, data := 0 }

/-- An event falls due at an enabled ring (03 R117): written, or EVENTS_LOST in the last free slot, or dropped. -/
def EventRing.post (q : EventRing) (ep : Ep) (e : Event) : EventRing × List Output :=
  let size := 2 ^ q.log2.toNat
  if q.losing then
    if q.used + 2 ≤ size then EventRing.write { q with losing := false } ep e
    else ({ q with lost := satInc q.lost }, [])
  else if q.used + 1 < size then q.write ep e
  else if q.used + 1 = size then
    let r := q.write ep (lostEvent ep e.tick)
    ({ r.1 with losing := true, lost := satInc r.1.lost }, r.2)
  else ({ q with lost := satInc q.lost, losing := true }, [])

/-- An event falls due at a function: nothing when its ring is not enabled, held while it may not be written (03 R89, R116). -/
def State.postTo (s : State) (ep : Ep) (e : Event) : State :=
  let x := s.endpoint ep
  if x.evq.en then
    if s.canWrite ep then
      let r := x.evq.post ep e
      { s.updEp ep (fun y => { y with evq := r.1 }) with out := r.2 ++ s.out }
    else
      let held := (x.held.filter (fun h => match h with | .event _ => true | _ => false)).length
      if held < 2 ^ x.evq.log2.toNat then s.updEp ep (fun y => { y with held := y.held ++ [.event e] })
      else s.updEp ep (fun y => { y with evq := { y.evq with lost := satInc y.evq.lost } })
  else s

/-- The privileged host's physical function (02 R66). -/
def State.priv (s : State) : Ep := .pf (Fin.ofNat 4 s.sec.privLink.toNat)

def State.mkEvent (s : State) (code kind src data : Nat) : Event :=
  {
    code := BitVec.ofNat 16 code, kind := BitVec.ofNat 8 kind, src := BitVec.ofNat 16 src, tick := s.tick,
    data := BitVec.ofNat 120 data }

/-- A module event: to the privileged PF only (03 R116). -/
def State.postModule (s : State) (code kind src data : Nat) : State :=
  s.postTo s.priv (s.mkEvent code kind src data)

/-- An event about a partition: to its ring, with a copy to the PF of its host link (03 R116). -/
def State.postPartKind (s : State) (n code kind src data : Nat) : State :=
  let e := s.mkEvent code kind src data
  (s.postTo (.vf (Fin.ofNat 12 n)) e).postTo (.pf (Fin.ofNat 4 (s.pt n).hostLink)) e

def State.postPart (s : State) (n code data : Nat) : State := s.postPartKind n code 1 n data

/-- An event about a host link: to that link's PF (03 R116). -/
def State.postLink (s : State) (k code data : Nat) : State :=
  s.postTo (.pf (Fin.ofNat 4 k)) (s.mkEvent code 3 k data)

/-! ### Replies (15 R476, R481, R482) -/

/-- Who owns mailbox `f` (15 R497). -/
def mbxEp (f : Fin 16) : Ep := if f.val < 4 then .pf (Fin.ofNat 4 f.val) else .vf (Fin.ofNat 12 (f.val - 4))

def epMbx : Ep → Nat
  | .pf k => k.val
  | .vf n => 4 + n.val

/-- A reply's 64-byte header without byte 63, then its payload (15 T15.2). -/
def replyBody (r : Reply) (minor : Byte) (t : W48) : List Byte :=
  leBytes 2 0x4D55 ++ [1, minor] ++ leBytes 2 r.msgId.toNat ++ [0, r.disposition] ++ leBytes 4 r.tag.toNat ++
  leBytes 4 r.payload.length ++ [r.result, 0, 0, 0] ++ leBytes 2 r.reqHead.toNat ++ [0, 0] ++ leBytes 6 t.toNat ++
  [r.handler] ++ List.replicate 32 0

/-- A reply written into its ring: header and payload, then PHASE in byte 63 (15 R476). -/
def State.writeReply (s : State) (ep : Ep) (r : Reply) : State :=
  let b := (s.endpoint ep).mbx
  let addr := b.rspBase.toNat / 4096 * 4096 + 4160 * b.rspTail
  let size := 2 ^ b.log2.toNat
  let wrap := decide (b.rspTail + 1 = size)
  let s1 := s.updEp ep (fun y => { y with mbx := { y.mbx with
      rspTail := if wrap then 0 else b.rspTail + 1, phase := b.phase ^^ wrap,
      rspUsed := b.rspUsed + 1, reserved := b.reserved - 1 } })
  { s1 with
      out := .hostWrite ep (addr + 63) [if b.phase then 0x80 else 0] :: .hostWrite ep (addr + 64) r.payload
      :: .hostWrite ep addr (replyBody r s.fw.minor s.tick) :: s.out }

/-- A reply discarded because its ring is disabled: counted and reported (15 R482, T15.11). -/
def State.loseReply (s : State) (ep : Ep) : State :=
  (s.updEp ep (fun y => { y with mbx := { y.mbx with lost := satInc y.mbx.lost } })).postModule 0x0D05 0 0
    (epMbx ep + 2 ^ 16)

/-- A mailbox reply falls due: discarded, held or written (15 R475, R482, 03 R89). -/
def State.replyDue (s : State) (ep : Ep) (r : Reply) : State :=
  if (s.endpoint ep).mbx.en then
    if s.canWrite ep then s.writeReply ep r
    else s.updEp ep (fun y => { y with held := y.held ++ [.reply r] })
  else s.loseReply ep

/-- The reply to a message (15 R481): result of 02 T2.13, handler of 15 T15.2. -/
def State.reply (s : State) (m : Msg) (id handler result : Nat) (payload : List Byte) : State :=
  let r : Reply := {
    msgId := BitVec.ofNat 16 id, disposition := 0, tag := m.tag, result := BitVec.ofNat 8 result,
    reqHead := m.reqHead, handler := BitVec.ofNat 8 handler, payload := payload }
  match m.sender with
  | .mbx f => s.replyDue (mbxEp f) r
  | x => s.emit (.peerReply x r)

/-! ### Reply results (02 T2.13) -/

def rOK : Nat := 0
def rBadArgument : Nat := 1
def rShapeInvalid : Nat := 2
def rKeyInUse : Nat := 3
def rBusy : Nat := 4
def rNotPermitted : Nat := 5
def rNoResource : Nat := 6
def rVerifyFail : Nat := 7

/-- The sender is the privileged host (02 R66). -/
def State.isPriv (s : State) (m : Msg) : Bool :=
  match m.sender with
  | .mbx f => decide (f.val = s.sec.privLink.toNat)
  | _ => false

/-- The partition whose VF sent a message. -/
def Msg.part (m : Msg) : Option Nat :=
  match m.sender with
  | .mbx f => if 4 ≤ f.val then some (f.val - 4) else none
  | _ => none

/-- The host link whose PF sent a message. -/
def Msg.pfLink (m : Msg) : Option Nat :=
  match m.sender with
  | .mbx f => if f.val < 4 then some f.val else none
  | _ => none

def Msg.u8 (m : Msg) (i : Nat) : Nat := leAt m.payload i 1
def Msg.u16 (m : Msg) (i : Nat) : Nat := leAt m.payload i 2
def Msg.u32 (m : Msg) (i : Nat) : Nat := leAt m.payload i 4
def Msg.u64 (m : Msg) (i : Nat) : Nat := leAt m.payload i 8

/-! ### Cores and their queues (15 R479, R485) -/

def State.core (s : State) : CoreId → Core
  | .sec => s.fw.sec
  | .pwr => s.fw.pwr
  | .sch => s.fw.sch
  | .rcc r => tget {} s.fw.rcc r.val

def State.setCore (s : State) (c : CoreId) (x : Core) : State :=
  match c with
  | .sec => { s with fw := { s.fw with sec := x } }
  | .pwr => { s with fw := { s.fw with pwr := x } }
  | .sch => { s with fw := { s.fw with sch := x } }
  | .rcc r => { s with fw := { s.fw with rcc := tset s.fw.rcc r.val x } }

def State.coreRuns (s : State) (c : CoreId) : Bool := decide ((s.core c).state = .running)

/-- Under frost hold: from a restart cause to the thaw (15 R485). -/
def Core.frost (c : Core) : Bool :=
  match c.state with
  | .frost | .thawing | .failed => true
  | _ => false

def State.schRuns (s : State) : Bool := s.coreRuns .sch
def State.pwrRuns (s : State) : Bool := s.coreRuns .pwr
def State.secRuns (s : State) : Bool := s.coreRuns .sec

/-- PHASE is FABRIC_READY or FULL_READY. -/
def State.fabricReady (s : State) : Bool :=
  match s.phase with
  | .fabricReady | .fullReady => true
  | _ => false

/-- A queue without the first entry that is this message. -/
def dropMsg (id : Nat) (m : Msg) : List Queued → List Queued
  | [] => []
  | q :: r => if q.msgId.toNat = id ∧ q.msg = m then r else q :: dropMsg id m r

/-- A message leaves its core's queue as the core takes it (15 R479). -/
def State.takeMsg (s : State) (id : Nat) (m : Msg) : State :=
  { s with fw := { s.fw with
      qSec := dropMsg id m s.fw.qSec, qPwr := dropMsg id m s.fw.qPwr,
                             qSch := dropMsg id m s.fw.qSch, qMmc := dropMsg id m s.fw.qMmc } }

/-- Which blocks wait for FABRIC_READY (17 R534). -/
def heldBlock (id : Nat) : Bool :=
  let b := id / 256
  !(b = 0x0F || b = 0x11 || b = 0x13)

/-- A core handles a message now, or the message waits in its queue (15 R485, 17 R534). -/
def State.handle (s : State) (c : CoreId) (id : Nat) (m : Msg) (f : State → State) : Host.Outcome State Fault Refusal :=
  if s.coreRuns c && (s.fabricReady || !heldBlock id) then ok (f (s.takeMsg id m)) else ok s

/-! ### Sync objects (03 R105-R109, 02 R44) -/

def State.syncGet (s : State) (o : Nat) : W64 := tget 0 s.sync o
/-- A batch boundary (11 R371, R372): the value of the batch object changes; the first one fires a pending BATCH swap. -/
def Partition.batch (p : Partition) : Partition :=
  { p with wgt := { p.wgt with
      boundaries := p.wgt.boundaries + 1
      holdOpens := p.wgt.holdOpens || (match p.wgt.swap with
        | some w => decide (w.when' = 0)
        | none => false)
      swap := match p.wgt.swap with
        | some w => if w.when' = 0 then some { w with fired := true } else some w
        | none => none } }

/-- The partition whose batch object is `o`, with detection enabled. -/
def State.batchOf (s : State) (o : Nat) : Option Nat :=
  (List.range 12).find? (fun n => let p := s.pt n
    !p.state.isFree && p.wgt.batchEn && decide (p.syncBase + p.wgt.batchObj.toNat = o))

/-- A sync object takes a value; a change may be a batch boundary (03 R106, 11 R372). -/
def State.syncSet (s : State) (o : Nat) (v : W64) : State :=
  let s1 := { s with sync := if v = 0 then tdel s.sync o else tset s.sync o v }
  if s.syncGet o = v then s1
  else match s.batchOf o with
    | some n => s1.updP n Partition.batch
    | none => s1
def State.syncAdd (s : State) (o : Nat) (v : W64) : State := s.syncSet o (s.syncGet o + v)

/-! ### Operations in flight (03 R97-R111) -/

def State.findOp (s : State) (i : Nat) : Option Op := s.ops.find? (fun o => o.id == i)
def State.updOp (s : State) (i : Nat) (f : Op → Op) : State :=
  { s with ops := s.ops.map (fun o => if o.id = i then f o else o) }
def State.delOp (s : State) (i : Nat) : State := { s with ops := s.ops.filter (fun o => o.id != i) }

def Op.opcode (o : Op) : Nat := field o.desc 7 0
def Op.flag (o : Op) (k : Nat) : Bool := bitAt o.desc (8 + k)
def Op.waitEn (o : Op) : Bool := o.flag 0
def Op.signalEn (o : Op) : Bool := o.flag 1
def Op.signalAlways (o : Op) : Bool := o.flag 2
def Op.isExt (o : Op) : Bool := o.flag 3
def Op.quiet (o : Op) : Bool := o.flag 4
def Op.incr (o : Op) : Nat := field o.desc 31 24
def Op.notBefore (o : Op) : W48 := BitVec.ofNat 48 (field o.desc 79 32)
def Op.waitObj (o : Op) : Nat := field o.desc 94 80
def Op.signalObj (o : Op) : Nat := field o.desc 110 96
def Op.waitValue (o : Op) : Nat := field o.desc 127 112
/-- Byte `b` of the descriptor, 16-63 the payload. -/
def Op.byte (o : Op) (b : Nat) : Nat := field o.desc (8 * b + 7) (8 * b)
/-- A little-endian field of `n` bytes at descriptor byte `b`. -/
def Op.le (o : Op) (b n : Nat) : Nat := field o.desc (8 * (b + n) - 1) (8 * b)
/-- A little-endian field of the extended payload, missing bytes 0 (03 R107). -/
def Op.xle (o : Op) (b n : Nat) : Nat := leAt o.ext b n

/-- Operations of a partition in flight (03 R97). -/
def State.inFlight (s : State) (n : Nat) : Nat := (s.ops.filter (fun o => o.part == n)).length

/-- An operation ends with a status (03 R110); its record is due. -/
def State.endOp (s : State) (i : Nat) (status detail : Nat) : State :=
  { s.updOp i (fun o => { o with
      st := .ended, status := BitVec.ofNat 8 status, detail := BitVec.ofNat 32 detail,
      doneTick := s.tick, ended := s.nextEnd }) with nextEnd := s.nextEnd + 1 }

/-- An operation ends at one of its checks: no signal (03 R106, R108). -/
def State.rejectOp (s : State) (i : Nat) (status detail : Nat) : State :=
  (s.endOp i status detail).updOp i (fun o => { o with noSignal := true })

/-- The completion record (03 T3.10). -/
def completionBits (o : Op) (phase : Bool) : Nat :=
  pack [(8, field o.desc 23 16), (8, o.status.toNat), (12, o.slot), (6, o.ring), (6, 0), (48, o.doneTick.toNat),
    (32, o.detail.toNat), (7, 0), (1, phase.toNat)]

/-- The last operation of a DRAINING ring is gone: the ring becomes DISABLED (03 R100). -/
def State.drainRing (s : State) (n k : Nat) : State :=
  if ((s.pt n).ring k).sqState = .draining ∧ !(s.ops.any (fun o => o.part == n && o.ring == k)) then
    s.updP n (fun p => p.updRing k (fun r => { r with sqState := .disabled, errCause := 0 }))
  else s

/-- An operation leaves the pool with its record written, or quietly (03 R97, R114). -/
def State.retireOp (s : State) (o : Op) : State :=
  ((s.delOp o.id).updP o.part (fun p => { p with completed := p.completed + 1 })).drainRing o.part o.ring

/-- The record is written at CQ_TAIL: bytes 0-14, then byte 15 with PHASE (03 R111). -/
def State.writeCompletion (s : State) (o : Op) : State :=
  let c := (s.pt o.part).ring o.cq
  let b := leBytes 16 (completionBits o c.cqPhase)
  let addr := c.cqBase.toNat / 4096 * 4096 + 16 * c.cqTail.toNat
  let t := bump c.cqTail (2 ^ c.cqLog2.toNat)
  let s1 := s.updP o.part (fun p => p.updRing o.cq (fun r => { r with
      cqTail := t.1, cqPhase := r.cqPhase ^^ t.2,
      cqUsed := r.cqUsed + 1, cqReserved := r.cqReserved - 1 }))
  let ep : Ep := .vf (Fin.ofNat 12 o.part)
  ({ s1 with out := .hostWrite ep (addr + 15) (b.drop 15) :: .hostWrite ep addr (b.take 15) :: s.out }).retireOp o

/-- The header signal of an ended operation (03 R106). -/
def State.headerSignal (s : State) (o : Op) : State :=
  if o.signalEn && !o.noSignal && (o.status = 0 || o.signalAlways) then
    s.syncAdd ((s.pt o.part).syncBase + o.signalObj) (BitVec.ofNat 64 o.incr)
  else s

/-- An ended operation completes: signal, record or hold (03 R111, R114, R89). -/
def State.completeOp (s : State) (i : Nat) : State :=
  match s.findOp i with
  | none => s
  | some o =>
    if o.st = .ended then
      let s1 := s.headerSignal o
      if o.quiet && o.status = 0 then
        (s1.updP o.part (fun p => p.updRing o.cq (fun r => { r with cqReserved := r.cqReserved - 1 }))).retireOp o
      else if s1.canWrite (.vf (Fin.ofNat 12 o.part)) then s1.writeCompletion o
      else (s1.updOp i (fun x => { x with st := .held })).updEp (.vf (Fin.ofNat 12 o.part))
        (fun y => { y with held := y.held ++ [.completion i] })
    else s

/-- What is held for a function is written in order (03 R89). -/
def State.releaseItem (s : State) (ep : Ep) : Held → State
  | .completion i => match s.findOp i with
    | some o => s.writeCompletion o
    | none => s
  | .event e =>
    let r := (s.endpoint ep).evq.post ep e
    if (s.endpoint ep).evq.en then { s.updEp ep (fun y => { y with evq := r.1 }) with out := r.2 ++ s.out } else s
  | .reply r => if (s.endpoint ep).mbx.en then s.writeReply ep r else s.loseReply ep

def State.releaseHeld (s : State) (ep : Ep) : State :=
  if s.canWrite ep then
    (s.endpoint ep).held.foldl (fun t h => t.releaseItem ep h) (s.updEp ep (fun y => { y with held := [] }))
  else s

/-- Every function whose records can be written again gets what is held for it. -/
def State.releaseAll (s : State) : State :=
  let a := (List.finRange 4).foldl (fun t k => t.releaseHeld (.pf k)) s
  (List.finRange 12).foldl (fun t n => t.releaseHeld (.vf n)) a

/-! ### A partition reset begins (02 R49-R51, 03 R102) -/

/-- Made ready and not fetched: skipped, with SQ_HEAD at the last SQ_TAIL accepted (03 R102). -/
def Ring.skipped (r : Ring) : Nat :=
  if r.sqState = .disabled then 0
  else (r.sqTail.toNat + 2 ^ r.sqLog2.toNat - r.sqHead.toNat) % 2 ^ r.sqLog2.toNat

def Ring.skip (r : Ring) : Ring := if r.sqState = .disabled then r else { r with sqHead := r.sqTail }

/-- Step 1 of a reset (02 T2.4); a cause during RESETTING merges (02 R51), in another state there is nothing to reset. -/
def State.beginReset (s : State) (n cause : Nat) : State :=
  if (s.pt n).state = .active then
    let p := s.pt n
    let sk := (p.rings.map (fun r => r.2.skipped)).foldl (· + ·) 0
    (s.setP n { p with
        state := .resetting, resetStep := 1, skipped := sk, pwr := { p.pwr with plans := [] },
        rings := p.rings.map (fun r => (r.1, r.2.skip)) }).postPart n 0x0101 cause
  else s

end Sys2Proof.Machine
end

