-- ==== Sys2Proof/Machine/HostRings.lean ====
section
/-! DEFINITION. Rings, doorbells, starts, completions, event rings, status pages and host links (03_host_rings). -/
namespace Sys2Proof.Machine

/-! ### Registers the status page copies -/

def Phase.code : Phase → Nat
  | .powerOn => 0 | .boot => 1 | .front => 2 | .fabricReady => 3 | .fullReady => 4 | .bootFail => 5

def PartState.code : PartState → Nat
  | .free => 0 | .configuring => 1 | .active => 2 | .resetting => 3 | .scrubbing => 4

def State.countRegions (s : State) (x : RegionState) : Nat :=
  ((List.range 144).filter (fun i => decide ((s.rg i).state = x))).length

/-- GEN.STATE (03 T3.19). -/
def State.genState (s : State) : Nat :=
  pack [(3, s.phase.code), (5, 0), (8, s.countRegions .fenced), (8, s.countRegions .ready),
    (1, s.fw.sec.frost.toNat), (1, s.fw.pwr.frost.toNat), (1, s.fw.sch.frost.toNat),
    (1, (s.fw.rcc.any (fun c => c.2.frost)).toNat)]

/-- Partitions not in FREE. -/
def State.liveParts (s : State) : List Nat := (List.range 12).filter (fun n => !(s.pt n).state.isFree)

/-- Free operations of the shared pool (03 R97). -/
def State.sharedFree (s : State) : Nat :=
  16384 - 1024 * s.liveParts.length - (s.liveParts.map (fun n => s.inFlight n - 1024)).foldl (· + ·) 0

/-- GEN.POOL (03 T3.21). -/
def State.genPool (s : State) : Nat :=
  pack [(15, s.ops.length), (1, 0), (15, s.sharedFree), (1, 0), (4, s.liveParts.length)]

/-- PART.POOL (03 T3.27). -/
def State.partPool (s : State) (n : Nat) : Nat :=
  pack [(13, s.inFlight n), (3, 0), (13, (s.pt n).poolLimit.toNat), (3, 0), (13, 1024)]

/-- EVQ_STAT (03 T3.23). -/
def EventRing.stat (q : EventRing) : Nat := pack [(16, q.tail.toNat), (1, q.phase.toNat), (15, 0), (32, q.lost.toNat)]

/-! ### Rings (03 R92-R100) -/

/-- Writing CQ_EN = 1: with a valid size an idle completion ring starts over (03 R93). -/
def Ring.cqEnable (r : Ring) : Ring :=
  if !r.cqEn && decide (4 ≤ r.cqLog2.toNat) && decide (r.cqLog2.toNat ≤ 16) then
    { r with cqEn := true, cqTail := 0, cqHead := 0, cqPhase := true, cqUsed := 0, cqReserved := 0 }
  else r

/-- A ring enters ERROR with its cause and RING_ERROR (03 R93, R101, T3.13). -/
def State.ringError (s : State) (n k cause : Nat) : State :=
  (s.updP n (fun p => p.updRing k (fun r => { r with sqState := .error, errCause := BitVec.ofNat 3 cause }))).postPartKind
    n 0x0001 5 k (pack [(6, k), (2, 0), (3, cause)])

/-- Writing SQ_EN = 1 (03 R93): only a DISABLED ring is enabled. -/
def State.sqEnable (s : State) (n k : Nat) : State :=
  let r := (s.pt n).ring k
  if r.sqState = .disabled then
    if r.sqLog2.toNat < 4 ∨ 12 < r.sqLog2.toNat then s.ringError n k 2
    else if ((s.pt n).ring r.cqIndex.toNat).cqEn then
      s.updP n (fun p => p.updRing k (fun r => { r with sqHead := 0, sqTail := 0, sqState := .enabled, errCause := 0 }))
    else s.ringError n k 3
  else s

/-- Every admitted, not-started operation of a ring ends CANCELLED (03 R100). -/
def State.cancelRing (s : State) (n k detail : Nat) : State :=
  (s.ops.filter (fun o => o.part == n && o.ring == k && decide (o.st = .admitted))).foldl
    (fun t o => t.endOp o.id 11 detail) s

/-- Writing SQ_EN = 0 (03 R100, R101). -/
def State.sqDisable (s : State) (n k : Nat) : State :=
  let r := (s.pt n).ring k
  if r.sqState = .enabled ∨ r.sqState = .error then
    ((s.updP n (fun p => p.updRing k (fun r => { r with sqState := .draining }))).cancelRing n k 1).drainRing n k
  else s

/-- Some submission ring that is not DISABLED completes into ring `k` (03 R93). -/
def Partition.cqNamed (p : Partition) (k : Nat) : Bool :=
  p.rings.any (fun r => decide (r.2.sqState ≠ .disabled) && r.2.cqIndex.toNat == k)

/-- Writing CQ_EN = 0 (03 R93). -/
def Partition.cqDisable (p : Partition) (k : Nat) : Partition :=
  if p.cqNamed k then p else p.updRing k (fun r => { r with cqEn := false })

/-- A partition's set takes writes: not FREE and its VF live (02 R68, 03 R125). -/
def State.setOpen (s : State) (n : Nat) : Bool := s.vfLive n

def execSqEnable (n : Fin 12) (k : Fin 64) (s : State) : Host.Outcome State Fault Refusal :=
  ok (if s.setOpen n then s.sqEnable n k else s)

def execSqDisable (n : Fin 12) (k : Fin 64) (s : State) : Host.Outcome State Fault Refusal :=
  ok (if s.setOpen n then s.sqDisable n k else s)

def execCqEnable (n : Fin 12) (k : Fin 64) (s : State) : Host.Outcome State Fault Refusal :=
  ok (if s.setOpen n then s.updP n (fun p => p.updRing k Ring.cqEnable) else s)

def execCqDisable (n : Fin 12) (k : Fin 64) (s : State) : Host.Outcome State Fault Refusal :=
  ok (if s.setOpen n then s.updP n (fun p => p.cqDisable k) else s)

/-- A doorbell value is discarded: counted and reported (03 R95). `which`: 0 SQ_TAIL, 1 CQ_HEAD. -/
def State.dropDoorbell (s : State) (n k which value : Nat) : State :=
  (s.updP n (fun p => { p with doorbellDrop := p.doorbellDrop + 1 })).postPartKind n 0x0002 5 k
    (pack [(6, k), (1, which), (9, 0), (16, value)])

/-- A write of SQ_TAIL (03 R94, R95). -/
def State.sqTail (s : State) (n k : Nat) (v : W16) : State :=
  let r := (s.pt n).ring k
  if r.sqState ≠ .enabled ∨ (s.pt n).state = .resetting then s.dropDoorbell n k 0 v.toNat
  else if v = r.sqTail then s
  else if 2 ^ r.sqLog2.toNat ≤ v.toNat then s.dropDoorbell n k 0 v.toNat
  else s.updP n (fun p => p.updRing k (fun r => { r with sqTail := v }))

/-- A write of CQ_HEAD (03 R94, R95). -/
def State.cqHead (s : State) (n k : Nat) (v : W16) : State :=
  let r := (s.pt n).ring k
  let size := 2 ^ r.cqLog2.toNat
  let d := (v.toNat + size - r.cqHead.toNat) % size
  if !r.cqEn ∨ size ≤ v.toNat ∨ r.cqUsed < d then s.dropDoorbell n k 1 v.toNat
  else s.updP n (fun p => p.updRing k (fun r => { r with cqHead := v, cqUsed := r.cqUsed - d }))

def execDoorbellSqTail (n : Fin 12) (k : Fin 64) (tail : W16) (s : State) : Host.Outcome State Fault Refusal :=
  ok (if s.setOpen n then s.sqTail n k tail else s)

def execDoorbellCqHead (n : Fin 12) (k : Fin 64) (head : W16) (s : State) : Host.Outcome State Fault Refusal :=
  ok (if s.setOpen n then s.cqHead n k head else s)

def execRingCancel (n : Fin 12) (k : Fin 64) (s : State) : Host.Outcome State Fault Refusal :=
  ok (if s.setOpen n then s.cancelRing n k 0 else s)

/-! ### Which descriptor is admitted next (03 R96-R98) -/

/-- A ring has a descriptor that could be fetched: slot ready, completion slot free (03 R96). -/
def Partition.ready (p : Partition) (k : Nat) : Bool :=
  let r := p.ring k
  let c := p.ring r.cqIndex.toNat
  decide (r.sqState = .enabled) && decide (r.sqHead ≠ r.sqTail) && c.cqEn &&
    decide (c.cqUsed + c.cqReserved < 2 ^ c.cqLog2.toNat)

/-- The rings of one priority with descriptors ready. -/
def Partition.readyAt (p : Partition) (q : Nat) : List Nat :=
  (p.rings.map (·.1)).filter (fun k => p.ready k && (p.ring k).prio.toNat == q)

/-- Round robin: the first of a list after a position, else the first of all. -/
def afterPos (l : List Nat) (pos : Nat) : Option Nat :=
  match l.find? (fun k => decide (pos < k)) with
  | some k => some k
  | none => l.head?

/-- The ring a partition admits from next: highest priority first, round robin within it (03 R98). -/
def Partition.nextRing (p : Partition) : Option Nat :=
  match (List.range 4).find? (fun q => !(p.readyAt q).isEmpty) with
  | none => none
  | some q => afterPos (p.readyAt q) (tget 63 p.rrRing q)

/-- A partition may take an operation (03 R97): below its LIMIT, and reserved or shared room. `shared`: it needs the shared pool. -/
def State.mayTake (s : State) (n : Nat) (shared : Bool) : Bool :=
  let f := s.inFlight n
  decide (f < (s.pt n).poolLimit.toNat) &&
    (if shared then decide (1024 ≤ f) && decide (0 < s.sharedFree) else decide (f < 1024))

/-- Fetching runs for a partition: ACTIVE, its VF may fetch (03 R89, R96). -/
def State.mayFetch (s : State) (n : Nat) : Bool :=
  decide ((s.pt n).state = .active) && s.canWrite (.vf (Fin.ofNat 12 n)) && (s.pt n).nextRing.isSome

/-- The partition served next: those within their reserve before those that need the shared pool, round robin (03 R98). -/
def State.nextPart (s : State) : Option Nat :=
  let a := (List.range 12).filter (fun n => s.mayFetch n && s.mayTake n false)
  let b := (List.range 12).filter (fun n => s.mayFetch n && s.mayTake n true)
  match afterPos a s.rrPart with
  | some n => some n
  | none => afterPos b s.rrPart

/-- The partition and ring whose descriptor is admitted next. -/
def State.nextAdmission (s : State) : Option (Nat × Nat) :=
  match s.nextPart with
  | none => none
  | some n => match (s.pt n).nextRing with
    | none => none
    | some k => some (n, k)

/-- A descriptor is admitted: an operation and a completion slot are taken, SQ_HEAD advances (03 R96). -/
def State.admitOp (s : State) (n k : Nat) (desc : BitVec 512) (ext : List Byte) : State :=
  let r := (s.pt n).ring k
  let o : Op := {
      id := s.nextOp, part := n, ring := k, slot := r.sqHead.toNat, desc := desc, ext := ext,
                  cq := r.cqIndex.toNat, st := .admitted, status := 0, detail := 0, doneTick := 0, ended := 0,
                  noSignal := false, timely := false }
  let s1 := s.updP n (fun p =>
    let p1 := p.updRing k (fun r => { r with sqHead := (bump r.sqHead (2 ^ r.sqLog2.toNat)).1 })
    let p2 := p1.updRing r.cqIndex.toNat (fun c => { c with cqReserved := c.cqReserved + 1 })
    { p2 with admitted := p2.admitted + 1, rrRing := tset p2.rrRing r.prio.toNat k })
  { s1 with ops := s1.ops ++ [o], nextOp := s.nextOp + 1, rrPart := n }

/-! ### Starts (03 R99, R105; 04 R136-R138) -/

/-- The 64-bit tick a 48-bit field names (04 R136). -/
def resolveTick (c : W64) (f : W48) : Int :=
  let t : Int := (c.toNat / 2 ^ 48 * 2 ^ 48 + f.toNat : Nat)
  if t < (c.toNat : Int) - 2 ^ 47 then t + 2 ^ 48
  else if (c.toNat : Int) + 2 ^ 47 ≤ t then t - 2 ^ 48
  else t

/-- A tick field is reached: in UNSET none is (04 R136, R138). -/
def State.tickReached (s : State) (f : W48) : Bool :=
  decide (s.cad.state ≠ .unset) && decide (resolveTick s.cad.count f ≤ s.cad.count.toNat)

/-- A tick field lies before the count (04 R137). -/
def State.tickPast (s : State) (f : W48) : Bool :=
  decide (s.cad.state ≠ .unset) && decide (resolveTick s.cad.count f < s.cad.count.toNat)

/-- The header wait holds (03 R105). -/
def State.headerWait (s : State) (o : Op) : Bool :=
  !o.waitEn ||
  decide (((s.syncGet ((s.pt o.part).syncBase + o.waitObj)).toNat + 65536 - o.waitValue) % 65536 < 32768)

/-- Ring order (03 R99): every earlier operation of the ring has started, every earlier SYNC_WAIT and FENCE has completed. -/
def State.ringOrder (s : State) (o : Op) : Bool :=
  !(s.ops.any (fun e => e.part == o.part && e.ring == o.ring && decide (e.id < o.id) &&
    (decide (e.st = .admitted) || (decide (e.st = .started) && (e.opcode == 2 || e.opcode == 4)))))

/-- Every start condition but the tick. -/
def State.startable (s : State) (o : Op) : Bool :=
  decide (o.st = .admitted) && decide ((s.pt o.part).state = .active) && s.schRuns && s.headerWait o && s.ringOrder o

/-- A descriptor starts; a late start is counted (03 R99, 04 R137). -/
def State.startOp (s : State) (o : Op) : State :=
  let s1 := s.updOp o.id (fun x => { x with st := .started })
  let late := decide (o.notBefore ≠ 0) && s.tickPast o.notBefore &&
    (!o.timely || decide (resolveTick s.cad.count o.notBefore + 2 < s.cad.count.toNat))
  if late then s1.updP o.part (fun p => { p with late := p.late + 1 }) else s1

def execDescriptorStart (op : Nat) (s : State) : Host.Outcome State Fault Refusal :=
  ok (match s.findOp op with
    | none => s
    | some o => if s.startable o && (o.notBefore = 0 || s.tickReached o.notBefore) then s.startOp o else s)

def execDescriptorComplete (op : Nat) (s : State) : Host.Outcome State Fault Refusal := ok (s.completeOp op)

/-! ### Sync and ordering operations (03 R109) -/

/-- A started operation of an opcode acts; any other command of it finds nothing to do. -/
def State.onOp (s : State) (i opcode : Nat) (f : Op → State) : State :=
  match s.findOp i with
  | none => s
  | some o => if o.st = .started ∧ o.opcode = opcode then f o else s

def execNop (op : Nat) (s : State) : Host.Outcome State Fault Refusal :=
  ok (s.onOp op 1 (fun _ => s.endOp op 0 0))

def execFence (op : Nat) (s : State) : Host.Outcome State Fault Refusal :=
  ok (s.onOp op 2 (fun o =>
    if o.byte 16 = 0 ∧ !(s.ops.any (fun e => e.part == o.part && e.ring == o.ring && decide (e.id < o.id))) then s.endOp op 0 0
    else s))

def execFencePartition (op : Nat) (s : State) : Host.Outcome State Fault Refusal :=
  ok (s.onOp op 2 (fun o =>
    if o.byte 16 = 1 ∧ !(s.ops.any (fun e => e.part == o.part && decide (e.id < o.id))) then s.endOp op 0 0
    else s))

/-- The object a SYNC_SIGNAL or SYNC_WAIT names. -/
def State.opObj (s : State) (o : Op) : Nat := (s.pt o.part).syncBase + o.le 16 2 % 2 ^ 15

def Op.value (o : Op) : W64 := BitVec.ofNat 64 (o.le 24 8)

def execSyncSignal (op : Nat) (s : State) : Host.Outcome State Fault Refusal :=
  ok (s.onOp op 3 (fun o => if o.byte 18 = 0 then (s.syncAdd (s.opObj o) o.value).endOp op 0 0 else s))

def execSyncSignalSet (op : Nat) (s : State) : Host.Outcome State Fault Refusal :=
  ok (s.onOp op 3 (fun o => if o.byte 18 = 1 then (s.syncSet (s.opObj o) o.value).endOp op 0 0 else s))

/-- The comparisons of SYNC_WAIT and SWAIT (03 T3.9): 0 GE, 1 EQ, 2 NE, 3 GE_SERIAL. -/
def syncCmp (cmp : Nat) (v x : W64) : Bool :=
  match cmp with
  | 0 => decide (x.toNat ≤ v.toNat)
  | 1 => decide (v = x)
  | 2 => decide (v ≠ x)
  | _ => decide ((v - x).toNat < 2 ^ 63)

def State.waitHolds (s : State) (o : Op) : Bool := syncCmp (o.byte 18) (s.syncGet (s.opObj o)) o.value

def execSyncWait (op : Nat) (s : State) : Host.Outcome State Fault Refusal :=
  ok (s.onOp op 4 (fun o => if s.waitHolds o then s.endOp op 0 0 else s))

/-- The timeout passes: a condition that holds at that moment came first (03 R109). -/
def execSyncWaitTimeout (op : Nat) (s : State) : Host.Outcome State Fault Refusal :=
  ok (s.onOp op 4 (fun o =>
    if s.waitHolds o then s.endOp op 0 0
    else if o.le 20 4 = 0 then s else s.endOp op 11 2))

/-! ### Event rings and status pages (03 R117, R120, R121) -/

/-- A function's set takes writes: a PF always, a VF while it is live (02 R67, R68). -/
def State.epOpen (s : State) : Ep → Bool
  | .pf _ => true
  | .vf n => s.vfLive n

/-- EVQ_EN from 0 to 1 with a valid size (03 R117). -/
def EventRing.enable (q : EventRing) : EventRing :=
  if !q.en && decide (4 ≤ q.log2.toNat) && decide (q.log2.toNat ≤ 12) then
    { q with en := true, tail := 0, head := 0, phase := true, seq := 0, used := 0, losing := false }
  else q

/-- A write of EVQ_HEAD (03 R117). -/
def EventRing.consume (q : EventRing) (v : W16) : EventRing :=
  let size := 2 ^ q.log2.toNat
  let d := (v.toNat + size - q.head.toNat) % size
  if size ≤ v.toNat ∨ q.used < d then q else { q with head := v, used := q.used - d }

def execEvqEnable (ep : Ep) (s : State) : Host.Outcome State Fault Refusal :=
  ok (if s.epOpen ep then s.updEp ep (fun x => { x with evq := x.evq.enable }) else s)

def execEvqHeadWrite (ep : Ep) (head : W16) (s : State) : Host.Outcome State Fault Refusal :=
  ok (if s.epOpen ep then s.updEp ep (fun x => { x with evq := x.evq.consume head }) else s)

/-- STATUS_EN from 0 to 1: the grid starts and HEARTBEAT is 0 at the first refresh (03 T3.14). -/
def StatusPage.enable (p : StatusPage) : StatusPage := if p.en then p else { p with en := true, heartbeat := 0 }

def execStatusEnable (ep : Ep) (s : State) : Host.Outcome State Fault Refusal :=
  ok (if s.epOpen ep then s.updEp ep (fun x => { x with status := x.status.enable }) else s)

/-- PART.STATE (03 T3.26). `over`: over quota in some tier (10 R333). -/
def State.partStateBits (s : State) (n : Nat) (overs : Bool) : Nat :=
  let p := s.pt n
  pack [(3, p.state.code), (2, p.hostLink), (4, p.rx0), (4, p.ry0), (4, p.w), (4, p.h), (1, (s.vfLive n).toNat),
    (1, overs.toNat)]

/-- The page from byte 8 to its end (03 T3.14). -/
def State.statusBody (s : State) (ep : Ep) (heartbeat : W64) (overs : Bool) : List Byte :=
  let x := s.endpoint ep
  let head := leBytes 8 heartbeat.toNat ++ leBytes 8 s.cad.count.toNat ++ leBytes 8 s.genState
  let evq := leBytes 8 (pack [(16, x.evq.tail.toNat), (16, 0), (32, x.evq.lost.toNat)])
  match ep with
  | .pf _ => head ++ leBytes 8 (pack ((List.range 12).map (fun n => (1, (!(s.pt n).state.isFree).toNat)))) ++
      leBytes 8 s.genPool ++ evq ++ List.replicate 8 0 ++ List.replicate 0xFC0 0
  | .vf n =>
      let p := s.pt n
      head ++ leBytes 8 (s.partStateBits n overs) ++ leBytes 8 (s.partPool n) ++ evq ++ List.replicate 8 0 ++
      (List.range 64).flatMap (fun k => leBytes 2 (p.ring k).sqHead.toNat) ++
      (List.range 64).flatMap (fun k => leBytes 4 ((p.ring k).cqTail.toNat + 2 ^ 16 * (p.ring k).cqPhase.toNat)) ++
      List.replicate 0xE40 0

/-- One refresh at a grid point: SEQ odd, the page, SEQ even; skipped while the function may not write (03 R120, R121). -/
def State.refresh (s : State) (ep : Ep) (overs : Bool) : State :=
  let x := s.endpoint ep
  if x.status.en && s.canWrite ep then
    let a := 4096 * x.status.base.toNat
    let q := x.status.seq
    let s1 := s.updEp ep (fun y => { y with status := { y.status with seq := q + 2, heartbeat := y.status.heartbeat + 1 } })
    { s1 with
      out := .hostWrite ep a (leBytes 8 (q + 2).toNat) :: .hostWrite ep (a + 8) (s.statusBody ep x.status.heartbeat overs) ::
        .hostWrite ep a (leBytes 8 (q + 1).toNat) :: s.out }
  else s

/-! ### Links and functions (02 R68, R69; 03 R88, R89; 15 R482) -/

/-- The partition that VF `n` of link `k` stands for, when it is that partition's host link. -/
def State.fnEp (s : State) : Fn → Option Ep
  | .pf k => some (.pf k)
  | .vf k n => if (s.pt n).hostLink = k.val ∧ !(s.pt n).state.isFree then some (.vf n) else none

def State.setBme (s : State) (fn : Fn) (v : Bool) : State :=
  match fn with
  | .pf k => s.updL k (fun l => { l with bme := v })
  | .vf k n => s.updL k (fun l => { l with
      vfBme := withBit l.vfBme n.val v })

def execBusMasterEnableSet (fn : Fn) (s : State) : Host.Outcome State Fault Refusal :=
  let s1 := s.setBme fn true
  ok (match s1.fnEp fn with
    | some ep => s1.releaseHeld ep
    | none => s1)

def execBusMasterEnableClear (fn : Fn) (s : State) : Host.Outcome State Fault Refusal := ok (s.setBme fn false)

/-- The partitions of a host link. -/
def State.linkParts (s : State) (k : Nat) : List Nat :=
  (List.range 12).filter (fun n => !(s.pt n).state.isFree && (s.pt n).hostLink == k)

/-- A PF Function Level Reset (02 R69, 03 R89, 15 R482): every partition of the link resets; event ring, status page and
mailbox are disabled; held events are discarded, held replies discarded and counted. -/
def State.pfFlr (s : State) (k : Fin 4) : State :=
  let a := (s.linkParts k).foldl (fun t n => t.beginReset n 2) s
  let held := (a.lk k).ep.held
  let b := a.updL k (fun l => { l with
    bme := false
    ep := { l.ep with
      evq := { l.ep.evq with en := false }
      status := { l.ep.status with en := false }
      mbx := { l.ep.mbx with en := false }
      held := [] } })
  held.foldl (fun t h => match h with
    | .reply _ => t.loseReply (.pf k)
    | _ => t) b

def execPfFlr (k : Fin 4) (s : State) : Host.Outcome State Fault Refusal := ok (s.pfFlr k)

/-- A Function Level Reset of a live VF (02 R69). -/
def execVfFlr (k : Fin 4) (n : Fin 12) (s : State) : Host.Outcome State Fault Refusal :=
  ok (if (s.pt n).hostLink = k.val ∧ s.vfLive n then (s.setBme (.vf k n) false).beginReset n 2 else s)

/-- VF Enable or NumVFs changes (02 R69): VFs that cease reset their partition; VFs that come live get what is held. -/
def execVfEnableChange (k : Fin 4) (enable : Bool) (numVfs : BitVec 4) (s : State) : Host.Outcome State Fault Refusal :=
  let before := (s.linkParts k).filter (fun n => s.vfLive n)
  let num := if 12 < numVfs.toNat then 12 else numVfs
  let s1 := s.updL k (fun l => { l with vfEnable := enable, numVfs := num })
  let s2 := before.foldl (fun t n => if t.vfLive n then t else t.beginReset n 3) s1
  ok ((s2.linkParts k).foldl (fun t n => t.releaseHeld (.vf (Fin.ofNat 12 n))) s2)

/-- A DL_Down or Hot Reset (03 R88): counted, and a PF Function Level Reset of the link. -/
def execHostLinkDown (k : Fin 4) (s : State) : Host.Outcome State Fault Refusal :=
  ok ((s.updL k (fun l => { l with
    up := false, speed := 0, width := 0, flit := false, linkResets := satInc l.linkResets })).pfFlr k)

/-- A host link trains up (03 R86, R89). -/
def execHostLinkUp (k : Fin 4) (speed : BitVec 3) (width : BitVec 5) (flit : Bool) (s : State) :
    Host.Outcome State Fault Refusal :=
  let s1 := s.updL k (fun l => { l with up := true, speed := speed, width := width, flit := flit })
  let s2 := { s1 with bru := { s1.bru with
    hostDone := withBit s1.bru.hostDone k.val true } }
  ok ((s2.linkParts k).foldl (fun t n => t.releaseHeld (.vf (Fin.ofNat 12 n))) (s2.releaseHeld (.pf k)))

end Sys2Proof.Machine
end

