-- ==== Sys2Proof/Machine/Clock.lean ====
section
/-! DEFINITION. The cadence and the oscillator mesh (04_cadence_and_clocks), with the class voltages of 16 T16.3. -/
namespace Sys2Proof.Machine

def State.updCad (s : State) (f : Cadence → Cadence) : State := { s with cad := f s.cad }

/-! ### The cadence (04 R126-R135) -/

/-- A T-port is considered under the source mode (04 T4.2). -/
def Cadence.considers (c : Cadence) (k : Nat) : Bool :=
  (c.sourceMode == 0 || c.sourceMode == 1) && c.tportMask.getLsbD k

/-- The key order of 04 R131: priority, ID, hops, port. -/
def CadInput.before (a : Nat × CadInput) (b : Nat × CadInput) : Bool :=
  let x := (a.2.priority.toNat, a.2.rootId.toNat, a.2.hops, a.1)
  let y := (b.2.priority.toNat, b.2.rootId.toNat, b.2.hops, b.1)
  decide (x.1 < y.1) || (decide (x.1 = y.1) && (decide (x.2.1 < y.2.1) || (decide (x.2.1 = y.2.1) &&
    (decide (x.2.2.1 < y.2.2.1) || (decide (x.2.2.1 = y.2.2.1) && decide (x.2.2.2 < y.2.2.2))))))

/-- The best T-port input. -/
def Cadence.best (c : Cadence) : Option (Nat × CadInput) :=
  (c.inputs.filter (fun i => c.considers i.1)).foldl
    (fun b i => match b with
      | none => some i
      | some x => if CadInput.before i x then some i else some x) none

/-- ROOT_ACTIVE (04 R131). -/
def Cadence.originates (c : Cadence) : Bool :=
  c.root && ((decide (c.state = .locked) && c.sourceKind == 2) || (decide (c.state = .localMode) && c.sourceMode == 3))

def Cadence.refreshRoot (c : Cadence) : Cadence := { c with rootActive := c.originates }

/-- A T-port input becomes the selected one. -/
def Cadence.selectPort (c : Cadence) (k : Nat) (i : CadInput) : Cadence :=
  { c with
      sourceKind := 1, sourcePort := BitVec.ofNat 4 k, hops := BitVec.ofNat 7 i.hops,
           sourcePriority := i.priority, sourceId := i.rootId }

/-- PTP becomes the selected input (04 T4.7, T4.8). -/
def Cadence.selectPtp (c : Cadence) (ident : W64) : Cadence :=
  { c with sourceKind := 2, sourcePort := 0, hops := 0, sourcePriority := 0, sourceId := ident }

/-- IN_SPEC of a LOCKED module (04 R133, R134). -/
def Cadence.lockedSpec (c : Cadence) : Bool := c.sourceKind == 1 || c.ptpOk

/-- The event of an acquisition (04 T4.5). -/
def State.postAcquired (s : State) : State :=
  s.postModule 0x0201 0 0 (pack [(64, s.cad.sourceId.toNat), (7, s.cad.hops.toNat), (2, s.cad.sourceKind.toNat)])

/-- A measured offset against the selected input (04 R132). -/
def State.measure (s : State) (off : Int) : State :=
  match s.cad.state with
  | .unset => s.updCad (fun c => { c with acquiring := true })
  | st =>
    let fresh := decide (st = .holdover) || decide (st = .localMode)
    let lockedNow := decide (-15 ≤ off) && decide (off ≤ 15)
    let s1 := s.updCad (fun c => ({ c with
      offset := off, residual := off,
      state := if lockedNow then .locked else .slewing,
      inSpec := lockedNow && c.lockedSpec,
      stepping := decide (off < -1000000),
      holdoverMs := 0, holdoverUs := 0 }).refreshRoot)
    if fresh then s1.postAcquired else s1

/-- A tick edge marks the operations whose other conditions hold at their tick (04 R137). -/
def State.markTimely (s : State) : State :=
  { s with
      ops := s.ops.map (fun o =>
      if o.notBefore ≠ 0 ∧ resolveTick s.cad.count o.notBefore = s.cad.count.toNat ∧ s.startable o then
        { o with timely := true } else o) }

/-- The count advances by one edge (04 R126), the slew by up to 1 ns of it (04 R132). -/
def Cadence.advance (c : Cadence) : Cadence :=
  let r : Int := if c.residual < 0 then c.residual + 1 else if 0 < c.residual then c.residual - 1 else 0
  let c1 := { c with count := c.count + 1 }
  match c.state with
  | .slewing =>
    if decide (-15 ≤ r) && decide (r ≤ 15) then { c1 with residual := r, state := .locked, inSpec := c.lockedSpec }.refreshRoot
    else { c1 with residual := r }
  | .holdover => { c1 with
      holdoverUs := c.holdoverUs + 1, holdoverMs := BitVec.ofNat 32 (min (2 ^ 32 - 1) ((c.holdoverUs + 1) / 1000)) }
  | _ => c1

/-- A tick edge. `source`: the source's count at this edge, `residual`: the offset left below one tick, in ns. -/
def State.tickEdge (s : State) (source : W64) (residual : Int) : State :=
  let lockedNow := decide (-15 ≤ residual) && decide (residual ≤ 15)
  (match s.cad.state with
    | .unset =>
      if s.cad.acquiring then
        (s.updCad (fun c => ({ c with
          count := source, offset := residual, residual := residual, acquiring := false,
          state := if lockedNow then .locked else .slewing, inSpec := lockedNow && c.lockedSpec }).refreshRoot)).postAcquired
      else s
    | _ =>
      if s.cad.stepping && decide (s.cad.count.toNat + 1 < source.toNat) then
        let skipped := source.toNat - s.cad.count.toNat - 1
        (s.updCad (fun c => ({ c with
          count := source, residual := residual, stepping := false, steps := c.steps + 1,
          state := if lockedNow then .locked else .slewing, inSpec := lockedNow && c.lockedSpec }).refreshRoot)).postModule
          0x0204 0 0 skipped
      else (s.updCad Cadence.advance).markTimely)

/-- A TIMING flit arrives on T-port `k` at own time `rx` (04 R129-R132, 12 R397). Times in 2⁻⁸ ns, modulo 2⁶⁴. -/
def execTimingFlitReceive (k : Fin 12) (lcrcOk : Bool) (f : TimingFlit) (rx : W64) (s : State) :
    Host.Outcome State Fault Refusal :=
  if !lcrcOk then ok s else
  let s1 := s.updCad (fun c => { c with echo := tset c.echo k (f.tx, rx) })
  let sourceless := decide (f.sourceId = 0) && decide (f.hops = 127)
  let s2 := s1.updCad (fun c => { c with
    inputs := if sourceless then tdel c.inputs k
              else tset c.inputs k { priority := f.priority, rootId := f.sourceId, hops := f.hops.toNat } })
  if sourceless || !s2.cad.considers k then ok s2 else
  let delay := ((rx - f.echoTx) - (f.tx - f.echoRx)).toInt / 2
  let off : Int := ((rx - f.tx).toInt - delay) / 256
  let measured := decide (f.echoTx ≠ 0)
  let none := decide (s2.cad.sourceKind = 0) || decide (s2.cad.sourceKind = 3)
  let s3 := if none then
      match s2.cad.best with
      | some b => s2.updCad (fun c => { c.selectPort b.1 b.2 with better := Option.none })
      | Option.none => s2
    else s2
  let mine := s3.cad.sourceKind == 1 && s3.cad.sourcePort.toNat == k.val
  let s4 := if mine then s3.updCad (fun c => { c with hops := f.hops, sourcePriority := f.priority, sourceId := f.sourceId }) else s3
  let s5 := if mine && measured then s4.measure off else s4
  ok (s5.updCad (fun c => { c with
    better := match c.best with
      | some b => if c.sourceKind = 1 ∧ c.sourcePort.toNat = b.1 then Option.none else some b.1
      | Option.none => Option.none }))

/-- A PTP Sync with its measured offset in ns (04 R129, R132). `timed`: a network inside 04 R133. -/
def execPtpSyncReceive (offset : Int) (clockId : W64) (domain : Byte) (timed : Bool) (s : State) :
    Host.Outcome State Fault Refusal :=
  if domain ≠ s.cad.ptpDomain then ok s else
  let s1 := { s.updCad (fun c => { c with ptpHeard := true, ptpOk := timed, ptpId := clockId }) with
    mgt := { s.mgt with ptpLocked := decide (-15 ≤ offset) && decide (offset ≤ 15) } }
  let wanted := s.cad.sourceMode == 2 ||
    (s.cad.sourceMode == 0 && !(s.cad.inputs.any (fun i => s.cad.considers i.1)))
  if !wanted then ok s1 else
  if s1.cad.sourceKind = 2 then ok ((s1.updCad (fun c => { c with sourceId := clockId })).measure offset)
  else if s1.cad.sourceKind = 1 then ok s1
  else ok ((s1.updCad (fun c => c.selectPtp clockId)).measure offset)

/-- The new best input has held for 1 s and replaces the current one (04 R131, R149). -/
def execBestInputHoldExpiry (s : State) : Host.Outcome State Fault Refusal :=
  ok (match s.cad.better with
    | none => s
    | some k => match tfind s.cad.inputs k with
      | none => s
      | some i =>
        let s1 := s.updCad (fun c => { c.selectPort k i with better := none })
        match s.cad.state with
        | .locked | .slewing =>
          s1.postModule 0x0205 0 0 (pack [(64, i.rootId.toNat), (4, k), (3, 0), (2, 1)])
        | _ => s1)

/-- No valid symbol for 10 ms on a T-port, or no PTP Sync for 4 intervals (`none`) (04 R134). -/
def State.loseSource (s : State) (port : Option Nat) : State :=
  let s1 := s.updCad (fun c => match port with
    | some k => { c with inputs := tdel c.inputs k }
    | none => { c with ptpHeard := false })
  let current := match port with
    | some k => s.cad.sourceKind == 1 && s.cad.sourcePort.toNat == k
    | none => s.cad.sourceKind == 2
  if !current then s1 else
  let gone := s1.updCad (fun c => { c with sourceKind := 0, sourcePort := 0, hops := 0, sourcePriority := 0, stepping := false })
  match s.cad.state with
  | .locked | .slewing =>
    (gone.updCad (fun c => ({ c with
      state := .holdover, holdovers := c.holdovers + 1, holdoverUs := 0, holdoverMs := 0,
      inSpec := c.inSpec && decide (s.cad.state = CadState.locked) }).refreshRoot)).postModule 0x0202 0 0 s.cad.sourceId.toNat
  | _ => gone.updCad (fun c => { c with acquiring := false })

def execSourceLoss (port : Option (Fin 12)) (s : State) : Host.Outcome State Fault Refusal :=
  ok (s.loseSource (port.map (·.val)))

/-- The holdover bound passes 20 ns (04 R134). -/
def execCadenceOutOfSpec (boundNs : W64) (s : State) : Host.Outcome State Fault Refusal :=
  ok (if s.cad.state = .holdover ∧ s.cad.inSpec then
    (s.updCad (fun c => { c with inSpec := false })).postModule 0x0203 0 0 boundNs.toNat
  else s)

/-- The count starts in LOCAL from a value (04 T4.2). -/
def State.startLocal (s : State) (v : W64) : State :=
  s.updCad (fun c => ({ c with
    count := v, state := .localMode, sourceKind := 3, sourcePort := 0, hops := 0, offset := 0, inSpec := false }).refreshRoot)

/-- SOURCE_MODE takes effect (04 R130). -/
def State.setSourceMode (s : State) (mode : BitVec 2) : State :=
  let s1 := s.updCad (fun c => ({ c with sourceMode := mode }).refreshRoot)
  if mode = 3 then
    match s.cad.state with
    | .unset => if s.fabricReady then s1.startLocal 0 else s1
    | _ => s1.startLocal s.cad.count
  else if s.cad.state = .localMode then
    s1.updCad (fun c => ({ c with inSpec := false, sourceKind := 0 }).refreshRoot)
  else s1

def execSourceModeWrite (k : Fin 4) (mode : BitVec 2) (s : State) : Host.Outcome State Fault Refusal :=
  ok (if s.priv = .pf k then s.setSourceMode mode else s)

/-- LOCAL_SET: discarded unless UNSET with SOURCE_MODE = 3 (04 T4.8). -/
def State.setLocal (s : State) (v : W64) : State :=
  if s.cad.state = .unset ∧ s.cad.sourceMode = 3 then s.startLocal v else s

def execLocalSetWrite (k : Fin 4) (value : W64) (s : State) : Host.Outcome State Fault Refusal :=
  ok (if s.priv = .pf k then s.setLocal value else s)

/-! ### Classes and neighbours (04 R140-R148) -/

/-- k of a class (04 T4.3). -/
def classK (c : Nat) : Nat :=
  match c with
  | 0 => 16 | 1 => 15 | 2 => 14 | 3 => 13 | 4 => 12 | 5 => 10 | 6 => 8 | _ => 6

/-- The lowest class number whose k is at most a bound. -/
def classFor (k : Nat) : Nat :=
  if 16 ≤ k then 0 else if 15 ≤ k then 1 else if 14 ≤ k then 2 else if 13 ≤ k then 3 else if 12 ≤ k then 4
  else if 10 ≤ k then 5 else if 8 ≤ k then 6 else 7

/-- The neighbour of a region to the east, north, west, south (00 T0.6). -/
def neighbour (r dir : Nat) : Option Nat :=
  match dir with
  | 0 => if r % 12 < 11 then some (r + 1) else none
  | 1 => if r < 132 then some (r + 12) else none
  | 2 => if 0 < r % 12 then some (r - 1) else none
  | _ => if 12 ≤ r then some (r - 12) else none

/-- Neighbours the limits hold against: neither OFF nor FENCED, past step 3 of bring-up (01 R36, 17 R533). -/
def State.clocked (s : State) (r : Nat) : List Nat :=
  ((List.range 4).filterMap (neighbour r)).filter (fun i => (s.rg i).osc.running)

/-- The neighbour that binds a region, with its k. -/
def State.binding (s : State) (r : Nat) : Option (Nat × Nat) :=
  (s.clocked r).foldl (fun b i =>
    let k := classK (s.rg i).osc.cls.toNat
    match b with
    | none => some (i, k)
    | some x => if k < x.2 then some (i, k) else some x) none

/-- The lowest class that keeps the k limit against every neighbour (04 R143, R144). -/
def State.permitted (s : State) (r : Nat) : Nat :=
  match s.binding r with
  | none => 0
  | some x => classFor (x.2 + 2)

def Osc.lullClass (o : Osc) : Nat := if o.lull then 7 else 0

/-- The actual class R144 gives a region now. -/
def State.wantedClass (s : State) (r : Nat) : Nat :=
  let o := (s.rg r).osc
  max o.target.toNat (max o.lullClass (s.permitted r))

/-- PULLED and its count (04 T4.11). -/
def Osc.setPulled (o : Osc) (v : Bool) : Osc :=
  { o with pulled := v, pulls := if v && !o.pulled then o.pulls + 1 else o.pulls }

/-- The windows of 16 T16.3 in units of 0.25 mV: VLOG low and high, VSRAM low and high. -/
def classWindow (c : Nat) : Nat × Nat × Nat × Nat :=
  match c with
  | 0 => (3280, 3360, 3400, 3600)
  | 1 => (3200, 3280, 3400, 3600)
  | 2 => (3120, 3200, 3200, 3400)
  | 3 => (3040, 3120, 3200, 3400)
  | 4 => (2960, 3040, 3200, 3400)
  | 5 => (2800, 2880, 3000, 3200)
  | 6 => (2640, 2720, 3000, 3200)
  | _ => (2480, 2480, 2800, 2800)

def RegionPower.setWindow (p : RegionPower) (c : Nat) : RegionPower :=
  let w := classWindow c
  { p with
      vlogLo := BitVec.ofNat 12 w.1, vlogHi := BitVec.ofNat 12 w.2.1,
           vsramLo := BitVec.ofNat 12 w.2.2.1, vsramHi := BitVec.ofNat 12 w.2.2.2 }

/-- A setpoint clamped to a window (16 R502). -/
def clamp (v lo hi : BitVec 12) : BitVec 12 := if v.toNat < lo.toNat then lo else if hi.toNat < v.toNat then hi else v

def RegionPower.clampSet (p : RegionPower) : RegionPower :=
  { p with vlogSet := clamp p.vlogSet p.vlogLo p.vlogHi, vsramSet := clamp p.vsramSet p.vsramLo p.vsramHi }

/-- The crossings of a region that changes class become elastic on both sides (04 T4.4 step 1). -/
def State.openCrossings (s : State) (r : Nat) : State :=
  (List.range 4).foldl (fun t d => match neighbour r d with
    | some i => if (t.rg i).osc.running then
        (t.updR r (fun x => { x with osc := { x.osc with elastic := withBit x.osc.elastic d true, coupled := withBit x.osc.coupled d false } })).updR i
          (fun x => { x with osc := { x.osc with
            elastic := withBit x.osc.elastic ((d + 2) % 4) true, coupled := withBit x.osc.coupled ((d + 2) % 4) false } })
      else t
    | none => t) s

/-- A region runs in a new class (04 T4.4); a slower class brings its window with it (16 R503). -/
def State.enterClass (s : State) (r c : Nat) : State :=
  let slower := decide ((s.rg r).osc.cls.toNat < c)
  let s1 := s.updR r (fun x => { x with
    osc := { x.osc with cls := BitVec.ofNat 3 c, classChanges := x.osc.classChanges + 1 }
    pwr := if slower then (x.pwr.setWindow c).clampSet else x.pwr })
  s1.openCrossings r

/-- A neighbour's class pulls a region slower (04 R144, R145, T4.5). -/
def State.pull (s : State) (r : Nat) (lull : Bool) : State :=
  match s.binding r with
  | none => s
  | some b =>
    let c := classFor (b.2 + 2)
    if (s.rg r).osc.running ∧ (s.rg r).osc.cls.toNat < c then
      let s1 := (s.enterClass r c).updR r (fun x => { x with osc := x.osc.setPulled true })
      if (s.rg r).osc.pullPosted then s1
      else (s1.updR r (fun x => { x with osc := { x.osc with pullPosted := true } })).postModule 0x0206 2 r
        (pack [(3, c), (4, b.1), (1, 0), (8, b.1), (1, lull.toNat)])
    else s

/-- The ripple of pulls until the limit holds everywhere: five rings suffice from class 7 to class 0 (04 R145). -/
def State.ripple (s : State) (lull : Bool) : Nat → State
  | 0 => s
  | n + 1 => State.ripple ((List.range 144).foldl (fun t r => t.pull r lull) s) lull n

/-- A region takes a slower class: its neighbours are pulled first, so the limit is never exceeded (04 R145). -/
def State.slowTo (s : State) (r c : Nat) (lull : Bool) : State := (s.enterClass r c).ripple lull 5

/-- The lull state begins: class 7 at once at the minimum safe voltages, neighbours follow (04 R145, 16 R504). -/
def State.enterLull (s : State) (r : Nat) : State :=
  let s1 := s.updR r (fun x => { x with osc := { x.osc with lull := true } })
  if (s1.rg r).osc.cls = 7 then s1 else s1.slowTo r 7 true

/-- The lull state ends when no reason holds it; the region rises later (04 R148). -/
def State.leaveLull (s : State) (r : Nat) : State :=
  s.updR r (fun x => { x with osc := { x.osc with lull := x.pwr.thermalLull || x.pwr.alertLull } })

/-- A setpoint that lies in a class's window already (16 R503). -/
def RegionPower.inWindow (p : RegionPower) (c : Nat) : Bool :=
  let w := classWindow c
  decide (w.1 ≤ p.vlogSet.toNat) && decide (w.2.2.1 ≤ p.vsramSet.toNat)

/-- A region's class is decided (04 R142-R145, 16 R503): slower at once with its pulls; faster once the setpoints have
reached the new window, which PWR moves first. -/
def execClassChange (r : Fin 144) (s : State) : Host.Outcome State Fault Refusal :=
  if !(s.rg r).osc.running then ok s else
  let c := s.wantedClass r
  let cur := (s.rg r).osc.cls.toNat
  let pulled := decide (max (s.rg r).osc.target.toNat (s.rg r).osc.lullClass < c)
  let s1 := s.updR r (fun x => { x with osc := x.osc.setPulled pulled })
  if cur < c then ok (s1.slowTo r c (s.rg r).osc.lull)
  else if c < cur then
    if (s.rg r).pwr.inWindow c then ok (s1.enterClass r c)
    else if s.pwrRuns then ok (s1.updR r (fun x => { x with pwr := x.pwr.setWindow c }))
    else ok s1
  else ok s1

/-- A node couples in phase with a neighbour in its class; the crossing returns to synchronous (04 R141, T4.4 step 5). -/
def execCrossingRelock (r : Fin 144) (dir : Fin 4) (s : State) : Host.Outcome State Fault Refusal :=
  ok (match neighbour r dir with
    | none => s
    | some i =>
      if (s.rg r).state = .ready ∧ (s.rg i).state = .ready ∧ (s.rg r).osc.cls = (s.rg i).osc.cls then
        (s.updR r (fun x => { x with osc := { x.osc with
          elastic := withBit x.osc.elastic dir false, coupled := withBit x.osc.coupled dir true } })).updR i
          (fun x => { x with osc := { x.osc with
            elastic := withBit x.osc.elastic ((dir.val + 2) % 4) false,
            coupled := withBit x.osc.coupled ((dir.val + 2) % 4) true } })
      else s)

end Sys2Proof.Machine
end

