-- ==== Sys2Proof/Machine/Firmware.lean ====
section
/-! DEFINITION. Mailboxes, firmware cores, restart under frost hold, dumps and images (15_firmware, 02 R72, R73). -/
namespace Sys2Proof.Machine

def State.updFw (s : State) (f : Firmware → Firmware) : State := { s with fw := f s.fw }
def State.updMgt (s : State) (f : Carrier → Carrier) : State := { s with mgt := f s.mgt }
def State.updMbx (s : State) (ep : Ep) (f : Mailbox → Mailbox) : State :=
  s.updEp ep (fun y => { y with mbx := f y.mbx })

/-- A record of the non-volatile log, sent to every admitted peer (19 R593, R594). -/
def State.logRecord (s : State) (kind : Nat) (data : Nat) : State :=
  let r : LogRecord := {
      seq := s.mgt.logSeq + 1, tick := if s.cad.state = .unset then 0 else s.tick,
                         kind := BitVec.ofNat 16 kind, data := BitVec.ofNat 160 data }
  let s1 := s.updMgt (fun g => { g with logSeq := r.seq, log := (r :: g.log).take 8192 })
  if s1.mgt.mgmtUp ∧ 0 < s1.mgt.peers then (s1.updMgt (fun g => { g with reported := r.seq })).emit (.peerReport r) else s1

/-! ### Mailboxes (15 R475-R479) -/

def Mailbox.enable (b : Mailbox) : Mailbox :=
  if !b.en && decide (2 ≤ b.log2.toNat) && decide (b.log2.toNat ≤ 8) then
    { b with en := true, reqTail := 0, reqHead := 0, rspHead := 0, rspTail := 0, phase := true, rspUsed := 0, reserved := 0 }
  else b

def Mailbox.drop (b : Mailbox) : Mailbox := { b with doorbellDrop := satInc b.doorbellDrop }

/-- A write of REQ_TAIL. -/
def Mailbox.setTail (b : Mailbox) (v : Nat) : Mailbox :=
  if !b.en ∨ 2 ^ b.log2.toNat ≤ v then b.drop else { b with reqTail := v }

/-- A write of RSP_HEAD: the value held frees nothing and is not discarded. -/
def Mailbox.setHead (b : Mailbox) (v : Nat) : Mailbox :=
  let size := 2 ^ b.log2.toNat
  let d := (v + size - b.rspHead) % size
  if !b.en ∨ size ≤ v ∨ b.rspUsed < d then b.drop else { b with rspHead := v, rspUsed := b.rspUsed - d }

def execMbxEnable (f : Fin 16) (s : State) : Host.Outcome State Fault Refusal :=
  ok (if s.epOpen (mbxEp f) then s.updMbx (mbxEp f) Mailbox.enable else s)

def execMbxDisable (f : Fin 16) (s : State) : Host.Outcome State Fault Refusal :=
  ok (if s.epOpen (mbxEp f) then s.updMbx (mbxEp f) (fun b => { b with en := false }) else s)

def execMbxReqTail (f : Fin 16) (tail : W16) (s : State) : Host.Outcome State Fault Refusal :=
  ok (if s.epOpen (mbxEp f) then s.updMbx (mbxEp f) (fun b => b.setTail tail.toNat) else s)

def execMbxRspHead (f : Fin 16) (head : W16) (s : State) : Host.Outcome State Fault Refusal :=
  ok (if s.epOpen (mbxEp f) then s.updMbx (mbxEp f) (fun b => b.setHead head.toNat) else s)

/-- Who handles a message (15 T15.4, T15.10): a core's queue, the MMC's, or the engine itself. -/
inductive Handler where
  | core (c : CoreId)
  | mmc
  | engine
deriving DecidableEq, Repr

/-- The core a core ID names (15 T15.1). -/
def coreOf (n : Nat) : Option CoreId :=
  match n with
  | 0 => some .sec
  | 1 => some .pwr
  | 2 => some .sch
  | _ => if 16 ≤ n ∧ n < 160 then some (.rcc (Fin.ofNat 144 (n - 16))) else none

def coreNum : CoreId → Nat
  | .sec => 0
  | .pwr => 1
  | .sch => 2
  | .rcc r => 16 + r.val

/-- The authority's handler (15 T15.8, T15.10). -/
def State.authority (s : State) : Handler :=
  match s.fw.auth.toNat with
  | 0 => .core .sch
  | 1 => .core .sec
  | _ => .mmc

/-- Which queue a request enters (15 T15.4). `first`: its first payload byte, a core ID for FW_PING. -/
def State.route (s : State) (id first : Nat) : Handler :=
  match id / 256 with
  | 0x02 => .core .sec
  | 0x0A => .core .sch
  | 0x0B => .core .sch
  | 0x0C => .core .sch
  | 0x0D => .core .sch
  | 0x10 => .core .pwr
  | 0x11 => .core .sch
  | 0x12 => .core .sch
  | 0x13 => .mmc
  | 0x0F =>
    match id % 256 with
    | 1 => match coreOf first with
      | some (.rcc _) => .core .sch
      | some c => .core c
      | none => .core .sec
    | 2 => s.authority
    | 3 => .core .sec
    | 4 => .core .sec
    | 5 => .core .sec
    | _ => .engine
  | _ => .engine

def State.queue (s : State) : Handler → List Queued
  | .core .sec => s.fw.qSec
  | .core .pwr => s.fw.qPwr
  | .core _ => s.fw.qSch
  | .mmc => s.fw.qMmc
  | .engine => []

def State.enqueue (s : State) (h : Handler) (q : Queued) : State :=
  s.updFw (fun f => match h with
    | .core .sec => { f with qSec := f.qSec ++ [q] }
    | .core .pwr => { f with qPwr := f.qPwr ++ [q] }
    | .core _ => { f with qSch := f.qSch ++ [q] }
    | .mmc => { f with qMmc := f.qMmc ++ [q] }
    | .engine => f)

/-- A mailbox whose next request could be accepted, its core's queue apart (15 R475). -/
def State.mbxReady (s : State) (f : Nat) : Bool :=
  let ep := mbxEp (Fin.ofNat 16 f)
  let b := (s.endpoint ep).mbx
  b.en && s.canWrite ep && decide (b.reqHead ≠ b.reqTail) && decide (b.rspUsed + b.reserved < 2 ^ b.log2.toNat)

/-- The mailbox served next: round robin in ascending index (15 R479). -/
def State.nextMbx (s : State) : Option Nat := afterPos ((List.range 16).filter s.mbxReady) s.fw.lastMbx

/-- The request header's reserved bytes: 6, 17-19, 22-23, 31-62 (15 R477). -/
def reservedClean (b : List Byte) : Bool :=
  ([6, 17, 18, 19, 22, 23] ++ (List.range 32).map (· + 31)).all (fun i => byteAt b i == 0)

/-- A refused or engine-answered request: its reply by the engine, HANDLER 5 (15 R477, R479). -/
def State.engineReply (s : State) (ep : Ep) (id disp result : Nat) (tag : W32) (reqHead : W16) (payload : List Byte) : State :=
  s.replyDue ep {
      msgId := BitVec.ofNat 16 id, disposition := BitVec.ofNat 8 disp, tag := tag,
                  result := BitVec.ofNat 8 result, reqHead := reqHead, handler := 5, payload := payload }

/-- The mailbox engine takes the request at a mailbox's head (15 R475-R479). `bytes`: the slot as read, `none` on a read fault. -/
def State.acceptMsg (s : State) (f : Fin 16) (bytes : Option (List Byte)) : State :=
  let ep := mbxEp f
  match bytes with
  | none => s.updMbx ep (fun b => { b with en := false, fetchFault := satInc b.fetchFault })
  | some b =>
    let id := leAt b 4 2
    let len := leAt b 12 4
    let tag : W32 := BitVec.ofNat 32 (leAt b 8 4)
    let payload := (b.drop 64).take len
    let malformed := !(leAt b 0 2 == 0x4D55) || decide (4096 < len) || !reservedClean b
    let version := leAt b 2 1
    let h := if malformed || version != 1 then Handler.engine else s.route id (leAt payload 0 1)
    let s0 := s.updFw (fun w => { w with lastMbx := f.val })
    if 1024 ≤ (s.queue h).length then s0 else
    let box := (s.endpoint ep).mbx
    let head := if box.reqHead + 1 = 2 ^ box.log2.toNat then 0 else box.reqHead + 1
    let s1 := s0.updMbx ep (fun b => { b with reqHead := head, reserved := b.reserved + 1, accepted := b.accepted + 1 })
    if malformed then
      (s1.updMbx ep (fun b => { b with malformed := satInc b.malformed })).engineReply ep id 2 0 tag (BitVec.ofNat 16 head) []
    else if version ≠ 1 then
      (s1.updMbx ep (fun b => { b with refused := satInc b.refused })).engineReply ep id 1 0 tag (BitVec.ofNat 16 head)
        [1, s.fw.minor, 0, 0]
    else match h with
      | .engine => s1.engineReply ep id 0 rBadArgument tag (BitVec.ofNat 16 head) []
      | _ => s1.enqueue h {
          mbx := f.val, msgId := BitVec.ofNat 16 id,
                            msg := { sender := .mbx f, tag := tag, reqHead := BitVec.ofNat 16 head, payload := payload } }

def execMailboxAccept (f : Fin 16) (bytes : Option (List Byte)) (s : State) : Host.Outcome State Fault Refusal :=
  ok (if s.nextMbx = some f.val then s.acceptMsg f bytes else s)

/-! ### Images (02 R72, R73, R76) -/

/-- The image a header describes. -/
def ImageIn.image (i : ImageIn) : Image :=
  {
    version := BitVec.ofNat 32 (leAt i.header 8 4), svn := BitVec.ofNat 6 (leAt i.header 12 2),
    root := BitVec.ofNat 2 (leAt i.header 14 1), hash := i.bodyHash }

/-- Check 1 of R73: MAGIC, KIND, FLAGS, reserved bytes, BODY_LEN; SVN and ROOT_INDEX within their ranges. -/
def ImageIn.wellFormed (i : ImageIn) (kind : Nat) : Bool :=
  let h := i.header
  (leAt h 0 4 == 0x4639574B) && (leAt h 4 2 == kind) && (leAt h 6 2 == 0) && decide (leAt h 12 2 ≤ 63) &&
    decide (leAt h 14 1 ≤ 3) && (leAt h 15 1 == 0) && decide (1 ≤ leAt h 16 8) && decide (leAt h 16 8 ≤ 2 ^ 24) &&
    (List.range 40).all (fun k => byteAt h (72 + k) == 0)

/-- The first check of R73 that an image fails, as FAIL_CODE (02 T2.13); 0 when it is accepted. KIND is 1-4. -/
def Sec.verify (c : Sec) (kind : Nat) (i : ImageIn) : Nat :=
  let r := leAt i.header 14 1
  if !i.wellFormed kind then 1
  else if i.rootKeyHash ≠ c.rootHash.getD r 0 then 2
  else if c.revoked.getLsbD r then 3
  else if leAt i.header 12 2 < c.fuseSvn.toNat then 4
  else if !i.sigOk then 5
  else if BitVec.ofNat 384 (leNat ((i.header.drop 24).take 48)) ≠ i.bodyHash then 6
  else 0

def imageKey (kind : Nat) (slot : Bool) : Nat := 2 * (kind - 1) + slot.toNat

/-- The image KIND of a core (15 T15.1). -/
def coreKind : CoreId → Nat
  | .sec => 1
  | .pwr => 2
  | .sch => 3
  | .rcc _ => 4

/-- A verified image becomes the running one of its kind (02 T2.14-T2.16). -/
def State.runImage (s : State) (kind : Nat) (slot : Bool) : State :=
  { s with sec := { s.sec with
      running := match tfind s.fw.images (imageKey kind slot) with
        | some i => tset s.sec.running kind i
        | none => s.sec.running
      rootIndex := if kind = 1 then
          (match tfind s.fw.images (imageKey 1 slot) with
            | some i => i.root
            | none => s.sec.rootIndex) else s.sec.rootIndex
      secSlot := if kind = 1 then slot else s.sec.secSlot
      pwrSlot := if kind = 2 then slot else s.sec.pwrSlot
      schSlot := if kind = 3 then slot else s.sec.schSlot
      rccSlot := if kind = 4 then slot else s.sec.rccSlot } }

/-! ### Restart under frost hold (15 R484-R490) -/

/-- The value AUTH takes from the cores' states (15 T15.8); with SEC and SCH both down it holds until the MMC acts. -/
def Firmware.authFor (f : Firmware) : BitVec 2 :=
  if !f.sch.frost then 0 else if !f.sec.frost then 1 else f.auth

/-- AUTH follows the cores; each change is posted (15 R489, T15.11). -/
def State.moveAuth (s : State) (c : CoreId) (v : BitVec 2) : State :=
  if v = s.fw.auth then s
  else (s.updFw (fun f => { f with auth := v })).postModule 0x0D04 6 (coreNum c)
    (pack [(2, v.toNat), (1, s.fw.mmcQuiesce.toNat)])

/-- RCCs under frost hold within their restart time (15 R490). -/
def State.rccPlaces (s : State) : Nat :=
  (s.fw.rcc.filter (fun c => (decide (c.2.state = .frost) || decide (c.2.state = .thawing)) && !c.2.waiting)).length

/-- Loads of a slot within the last 60 s (15 R488). -/
def Core.loadsOf (c : Core) (slot : Bool) (ms : Nat) : Nat :=
  (c.loads.filter (fun l => decide (l.1 = slot) && decide (ms ≤ l.2 + 60000))).length

/-- The region of an RCC keeps a firmware area unless it is FENCED (15 R474). -/
def State.keepsArea (s : State) : CoreId → Bool
  | .rcc r => decide ((s.rg r.val).state ≠ .fenced)
  | _ => true

/-- The crash dump's header (15 T15.9); LENGTH is a free value from 64 up to and including 262,144. -/
def State.mkDump (s : State) (c : CoreId) (cause : Nat) (pc : W32) : Dump :=
  let x := s.core c
  {
    kind := BitVec.ofNat 8 (coreKind c),
    region := match c with
      | .rcc r => BitVec.ofNat 8 r.val
      | _ => 0xFF
    cause := BitVec.ofNat 8 cause, slot := bit x.slot,
    version := match tfind s.fw.images (imageKey (coreKind c) x.slot) with
      | some i => i.version
      | none => 0
    tick := s.tick, restarts := satInc x.restarts, pc := pc,
    length := BitVec.ofNat 32 (64 + (Config.freeBits 32 s.free).toNat % 262081) }

/-- An event of a region: posted, or held up to 64 deep in hardware under its RCC's frost hold (15 T15.6). -/
def State.postRegion (s : State) (r code data : Nat) : State :=
  if (tget {} s.fw.rcc r).frost then
    s.updR r (fun x => { x with flt := { x.flt with
      waitingEvents := if x.flt.waitingEvents.length < 64 then x.flt.waitingEvents ++ [s.mkEvent code 2 r data]
                       else x.flt.waitingEvents } })
  else s.postModule code 2 r data

/-- A fault record of a region (18 R563): written by the RCC, or waiting in hardware, or lost. A tile's record posts TILE_FAULT. -/
def State.addRecord (s : State) (r kind : Nat) (tile : Option (Nat × Nat)) (addr : Nat) : State :=
  let x : FaultRecord := {
    kind := BitVec.ofNat 4 kind
    i := match tile with
      | some t => BitVec.ofNat 5 t.1
      | none => 0
    j := match tile with
      | some t => BitVec.ofNat 5 t.2
      | none => 0
    tileValid := tile.isSome, tick := s.tick, addr := BitVec.ofNat 32 addr
    owner := match s.owner r with
      | some n => BitVec.ofNat 4 n
      | none => 0xF }
  let s1 := s.updR r (fun g => { g with
    flt :=
    if (tget {} s.fw.rcc r).frost then
      if g.flt.waiting.length < 64 then { g.flt with waiting := g.flt.waiting ++ [x] }
      else { g.flt with recordsLost := satInc g.flt.recordsLost }
    else { g.flt with records := tset g.flt.records (g.flt.faultHead.toNat % 16) x, faultHead := g.flt.faultHead + 1 } })
  match tile with
  | some t => s1.postRegion r 0x1001 (pack [(4, kind), (5, t.1), (5, t.2)])
  | none => s1

/-- A core becomes FAILED (15 R488): a commanded restart that waits for it replies NO_RESOURCE (15 R494). -/
def State.failCore (s : State) (c : CoreId) (cause : Nat) : State :=
  let x := s.core c
  let s1 := (s.setCore c { x with state := .failed, lastCause := BitVec.ofNat 4 cause, commanded := none, waiting := false }).postModule
    0x0D03 6 (coreNum c) cause
  let s2 := match x.commanded with
    | some m => s1.reply m 0x0F02 2 rNoResource []
    | none => s1
  let s3 := match c with
    | .rcc r => s2.addRecord r.val 8 none 0
    | _ => s2
  s3.moveAuth c s3.fw.authFor

/-- A restart begins: frost hold, CORE_RESTARTING, the dump (15 T15.7 steps 1 and 2). -/
def State.beginRestart (s : State) (c : CoreId) (cause ms : Nat) (slot dump : Bool) (pc : W32) (cmd : Option Msg) : State :=
  let x := s.core c
  let d := dump && s.keepsArea c
  let wait := match c with
    | .rcc _ => decide (16 ≤ s.rccPlaces) || !s.schRuns
    | .pwr => !s.schRuns
    | _ => false
  let s1 := s.setCore c { x with
    state := .frost, lastCause := BitVec.ofNat 4 cause, restarts := satInc x.restarts,
    loads := (slot, ms) :: x.loads.filter (fun l => decide (ms ≤ l.2 + 60000)),
    loadSlot := slot, causeMs := ms, waiting := wait,
    dumpValid := d || x.dumpValid, dump := if d then some (s.mkDump c cause pc) else x.dump,
    commanded := match cmd with
      | some m => some m
      | none => x.commanded }
  let s2 := (s1.takeFree (if d then 1 else 0)).postModule 0x0D01 6 (coreNum c) (pack [(4, cause), (1, d.toNat), (1, slot.toNat)])
  let s3 := match c with
    | .sec => { s2 with sec := { s2.sec with boot := .restarting } }
    | _ => s2
  s3.moveAuth c s3.fw.authFor

/-- A restart cause arises by itself (15 R487, R488): the slot running, the other after 3 loads in 60 s, FAILED after 3 of each. -/
def State.cause (s : State) (c : CoreId) (cause ms : Nat) (pc : W32) : State :=
  let x := s.core c
  match x.state with
  | .off => s
  | .failed => s
  | _ =>
    let a := x.loadsOf x.slot ms
    let b := x.loadsOf (!x.slot) ms
    if 3 ≤ a ∧ 3 ≤ b then s.failCore c cause
    else s.beginRestart c cause ms (if 3 ≤ a then !x.slot else x.slot) (cause != 4 && cause != 6) pc none

def execWatchdogExpiry (c : CoreId) (ms : Nat) (pc : W32) (s : State) : Host.Outcome State Fault Refusal :=
  ok (s.cause c 1 ms pc)

def execCoreException (c : CoreId) (ms : Nat) (pc : W32) (s : State) : Host.Outcome State Fault Refusal :=
  ok (s.cause c 2 ms pc)

def execCoreMemoryError (c : CoreId) (ms : Nat) (pc : W32) (s : State) : Host.Outcome State Fault Refusal :=
  ok (s.cause c 3 ms pc)

/-- The authority that orders a core's reload acts (15 T15.8). -/
def State.mayReload (s : State) : CoreId → Bool
  | .sec => s.schRuns || (s.fw.auth = 2 && s.mgt.mmcRunning)
  | .sch => s.secRuns
  | _ => s.schRuns

/-- The image is verified and loaded (15 T15.7 step 3, 02 R76): the slot chosen, or its other slot; with neither the core stays down. -/
def execCoreReloadDone (c : CoreId) (imageOk otherOk : Bool) (s : State) : Host.Outcome State Fault Refusal :=
  let x := s.core c
  ok (if x.state = .frost ∧ !x.waiting ∧ s.mayReload c ∧ (imageOk ∨ otherOk) then
    let slot := if imageOk then x.loadSlot else !x.loadSlot
    (s.setCore c { x with state := .thawing, slot := slot }).runImage (coreKind c) slot
  else s)

/-- A place among the 16 frees: the waiting RCC of lowest region index starts (15 R490). -/
def State.freePlaces (s : State) : State :=
  s.fw.rcc.foldl (fun t c =>
    if c.2.waiting ∧ t.schRuns ∧ t.rccPlaces < 16 then
      t.updFw (fun f => { f with rcc := tset f.rcc c.1 { c.2 with waiting := false } })
    else t) s

/-- Records and events that waited in hardware are written at the RCC's thaw (15 T15.6, 18 R563). -/
def Region.flushFaults (r : Region) : Region :=
  let f := r.flt.waiting.foldl (fun (f : RegionFaults) x =>
    { f with records := tset f.records (f.faultHead.toNat % 16) x, faultHead := f.faultHead + 1 }) r.flt
  { r with flt := { f with waiting := [], waitingEvents := [] } }

def State.flushRegion (s : State) (r : Nat) : State :=
  let ev := (s.rg r).flt.waitingEvents
  ev.foldl (fun t e => t.postTo t.priv e) (s.updR r Region.flushFaults)

/-- The thaw (15 T15.7 step 5): the core runs, its queue resumes, a commanded restart replies, waits on SCH end. -/
def execCoreThawed (c : CoreId) (ms : Nat) (s : State) : Host.Outcome State Fault Refusal :=
  let x := s.core c
  if x.state ≠ .thawing then ok s else
  let took := min 65535 (ms - x.causeMs)
  let s1 := (s.setCore c { x with
    state := .running, lastMs := BitVec.ofNat 16 took, startMs := ms, commanded := none }).postModule 0x0D02 6 (coreNum c)
    (pack [(1, x.slot.toNat), (15, 0), (16, took)])
  let s2 := match x.commanded with
    | some m => s1.reply m 0x0F02 (match s.fw.auth.toNat with
        | 0 => 2
        | 1 => 0
        | _ => 4) rOK (leBytes 1 x.slot.toNat ++ [0, 0, 0] ++ leBytes 4 (ms - x.causeMs))
    | none => s1
  let s3 := match c with
    | .sec => { s2 with sec := { s2.sec with boot := .running } }
    | .sch =>
      let a := s2.updFw (fun f => { f with mmcQuiesce := false, pwr := { f.pwr with waiting := false } })
      a
    | .rcc r => s2.flushRegion r.val
    | .pwr => s2
  ok ((s3.moveAuth c s3.fw.authFor).freePlaces)

/-- Not thawed within twice the restart time (15 R487). -/
def execThawTimeout (c : CoreId) (ms : Nat) (s : State) : Host.Outcome State Fault Refusal :=
  let x := s.core c
  ok (if (x.state = .frost ∨ x.state = .thawing) ∧ !x.waiting then s.cause c 5 ms 0 else s)

/-- SEC and SCH are both down: the MMC logs, quiesces the ports and takes the authority (15 R489). -/
def execMmcTakeover (ms : Nat) (s : State) : Host.Outcome State Fault Refusal :=
  ok (if s.fw.sec.frost ∧ s.fw.sch.frost ∧ s.mgt.mmcRunning ∧ s.fw.auth ≠ 2 then
    let s1 := (s.logRecord 6 (pack [(4, s.fw.sec.lastCause.toNat), (4, s.fw.sch.lastCause.toNat), (32, ms)])).updFw
      (fun f => { f with mmcQuiesce := true })
    s1.moveAuth .sec 2
  else s)

/-! ### Watchdogs, dumps, messages (15 R483, R491-R495) -/

/-- A watchdog field takes 10 up to and including 10,000 ms (15 R483). -/
def wdogField (old : W16) (v : Nat) : W16 := if 10 ≤ v ∧ v ≤ 10000 then BitVec.ofNat 16 v else old

def State.writeWdog (s : State) (v : W64) : State :=
  s.updFw (fun f => { f with
    wdogSec := wdogField f.wdogSec (field v 15 0), wdogPwr := wdogField f.wdogPwr (field v 31 16),
    wdogSch := wdogField f.wdogSch (field v 47 32), wdogRcc := wdogField f.wdogRcc (field v 63 48) })

def execWdogWrite (k : Fin 4) (value : W64) (s : State) : Host.Outcome State Fault Refusal :=
  ok (if s.priv = .pf k then s.writeWdog value else s)

def State.writeDumpSel (s : State) (k : Nat) (v : W64) : State :=
  s.updL k (fun l => { l with dumpCore := BitVec.ofNat 8 (field v 7 0), dumpOffset := BitVec.ofNat 15 (field v 22 8) })

def execDumpSelWrite (k : Fin 4) (value : W64) (s : State) : Host.Outcome State Fault Refusal :=
  ok (s.writeDumpSel k value)

/-- Byte `i` of a dump (15 T15.9); 0 at or beyond LENGTH; CRC, directory and sections are free values. -/
def Dump.byte (d : Dump) (core i : Nat) : Byte :=
  let h := leBytes 4 0x504D4443 ++ [d.kind, d.region, d.cause, d.slot] ++ leBytes 4 d.version.toNat ++
    leBytes 6 d.tick.toNat ++ leBytes 2 d.restarts.toNat ++ leBytes 4 d.pc.toNat ++ leBytes 4 d.length.toNat
  if d.length.toNat ≤ i then 0 else if i < 28 then byteAt h i else Config.dumpByte core d.restarts.toNat i

/-- The dump a core ID holds, unless it was cleared (15 R492). -/
def State.heldDump (s : State) (core : Nat) : Option Dump :=
  match coreOf core with
  | none => none
  | some c => if (s.core c).dumpValid then (s.core c).dump else none

/-- The 8 dump bytes a function's DUMP_SEL points at (15 T15.14). -/
def State.dumpWord (s : State) (k : Nat) : W64 :=
  let l := s.lk k
  match s.heldDump l.dumpCore.toNat with
  | none => 0
  | some d => BitVec.ofNat 64 (leNat ((List.range 8).map (fun i => d.byte l.dumpCore.toNat (8 * l.dumpOffset.toNat + i))))

/-- A read of FW.DUMP_DATA at 0x608: 64 bits, or its low half (no advance, latches the high half), or its high half (15 T15.14, 00 R15). -/
def State.readDumpData (s : State) (k : Fin 4) (off : BitVec 24) (size : Nat) : State :=
  let v := s.dumpWord k
  let key := k.val * 2 ^ 25 + 0x40608
  let step := fun (t : State) => t.updL k (fun l => { l with dumpOffset := l.dumpOffset + 1 })
  if off.toNat = 0x40608 ∧ size = 8 then step (s.emit (.readValue (.pf k) off v))
  else if off.toNat = 0x40608 ∧ size = 4 then
    { s with rsShadow := tset s.rsShadow key (v.extractLsb' 32 32) }.emit (.readValue (.pf k) off (v &&& 0xFFFFFFFF))
  else if off.toNat = 0x4060C ∧ size = 4 then
    step (s.emit (.readValue (.pf k) off ((tget (v.extractLsb' 32 32) s.rsShadow key).setWidth 64)))
  else s

def execDumpDataRead (k : Fin 4) (off : BitVec 24) (size : Nat) (s : State) : Host.Outcome State Fault Refusal :=
  ok (s.readDumpData k off size)

/-- The region of an RCC is FENCED or OFF: its RCC cannot be named (15 R495). -/
def State.rccAbsent (s : State) : CoreId → Bool
  | .rcc r => decide ((s.rg r.val).state = .fenced) || decide ((s.rg r.val).state = .off)
  | _ => false

def handlerNum : CoreId → Nat
  | .sec => 0
  | .pwr => 1
  | .sch => 2
  | .rcc _ => 3

/-- A core answers FW_PING itself, an RCC through SCH (15 T15.10). -/
def execFwPing (m : Msg) (ms : Nat) (s : State) : Host.Outcome State Fault Refusal :=
  match coreOf (m.u8 0) with
  | none => s.handle .sec 0x0F01 m (fun t => t.reply m 0x0F01 0 rBadArgument [])
  | some c =>
    if s.rccAbsent c then s.handle .sch 0x0F01 m (fun t => t.reply m 0x0F01 3 rBadArgument [])
    else s.handle c 0x0F01 m (fun t =>
      t.reply m 0x0F01 (handlerNum c) rOK (leBytes 8 (m.u64 8) ++
        leBytes 4 (match tfind t.fw.images (imageKey (coreKind c) (t.core c).slot) with
          | some i => i.version.toNat
          | none => 0) ++ leBytes 4 (ms - (t.core c).startMs)))

/-- The authority in force handles a message now. -/
def State.authorityActs (s : State) : Bool :=
  match s.authority with
  | .core c => s.coreRuns c
  | _ => s.mgt.mmcRunning

def State.authorityNum (s : State) : Nat :=
  match s.fw.auth.toNat with
  | 0 => 2
  | 1 => 0
  | _ => 4

/-- FW_RESTART (15 R488, R494): payload core ID, SLOT (0 same, 1 A, 2 B), DUMP. -/
def execFwRestart (m : Msg) (ms : Nat) (pc : W32) (s : State) : Host.Outcome State Fault Refusal :=
  if !s.authorityActs then ok s else
  let t := s.takeMsg 0x0F02 m
  let h := s.authorityNum
  if !s.isPriv m then ok (t.reply m 0x0F02 h rNotPermitted []) else
  match coreOf (m.u8 0) with
  | none => ok (t.reply m 0x0F02 h rBadArgument [])
  | some c =>
    let x := s.core c
    let slot := if m.u8 1 = 0 then x.slot else m.u8 1 == 2
    if 2 < m.u8 1 ∨ 1 < m.u8 2 ∨ s.rccAbsent c ∨ (tfind s.fw.images (imageKey (coreKind c) slot)).isNone then
      ok (t.reply m 0x0F02 h rBadArgument [])
    else if x.frost then ok (t.reply m 0x0F02 h rBusy [])
    else if x.state = .off then ok (t.reply m 0x0F02 h rBadArgument [])
    else ok (t.beginRestart c 4 ms slot (m.u8 2 == 1) pc (some m))

/-- The slot a kind runs now, or a restart of it is loading (15 R493). -/
def State.slotInUse (s : State) (kind : Nat) (slot : Bool) : Bool :=
  let busy := fun (x : Core) => (decide (x.state ≠ .off) && x.slot == slot) ||
    ((decide (x.state = .frost) || decide (x.state = .thawing)) && x.loadSlot == slot)
  match kind with
  | 1 => busy s.fw.sec
  | 2 => busy s.fw.pwr
  | 3 => busy s.fw.sch
  | _ => s.fw.rcc.any (fun c => busy c.2)

/-- FW_IMAGE_STAGE (15 R493): payload KIND, slot, host address, length. -/
def execFwImageStage (m : Msg) (img : ImageIn) (s : State) : Host.Outcome State Fault Refusal :=
  s.handle .sec 0x0F03 m (fun t =>
    let kind := m.u8 0
    if !t.isPriv m then t.reply m 0x0F03 0 rNotPermitted []
    else if kind < 1 ∨ 4 < kind ∨ 1 < m.u8 1 ∨ m.u32 16 < 256 ∨ 2 ^ 24 + 256 < m.u32 16 then
      t.reply m 0x0F03 0 rBadArgument []
    else if t.slotInUse kind (m.u8 1 == 1) then t.reply m 0x0F03 0 rBusy []
    else
      let code := t.sec.verify kind img
      if code = 0 then
        (t.updFw (fun f => { f with images := tset f.images (imageKey kind (m.u8 1 == 1)) img.image })).reply m 0x0F03 0 rOK []
      else
        ({ t with sec := { t.sec with failCode := BitVec.ofNat 8 code } }).reply m 0x0F03 0 rVerifyFail [])

/-- FW_DUMP_READ (15 R492): payload core ID, host address, length. -/
def execFwDumpRead (m : Msg) (s : State) : Host.Outcome State Fault Refusal :=
  s.handle .sec 0x0F04 m (fun t =>
    if !t.isPriv m then t.reply m 0x0F04 0 rNotPermitted []
    else match coreOf (m.u8 0) with
      | none => t.reply m 0x0F04 0 rBadArgument []
      | some c =>
        if t.rccAbsent c ∨ 262144 < m.u32 16 then t.reply m 0x0F04 0 rBadArgument []
        else
          let d := t.heldDump (m.u8 0)
          let n := match d with
            | some x => min (m.u32 16) x.length.toNat
            | none => 0
          let bytes := match d with
            | some x => (List.range n).map (x.byte (m.u8 0))
            | none => []
          (t.emit (.hostWrite t.priv (m.u64 8) bytes)).reply m 0x0F04 0 rOK (leBytes 4 n))

def execFwDumpClear (m : Msg) (s : State) : Host.Outcome State Fault Refusal :=
  s.handle .sec 0x0F05 m (fun t =>
    if !t.isPriv m then t.reply m 0x0F05 0 rNotPermitted []
    else match coreOf (m.u8 0) with
      | none => t.reply m 0x0F05 0 rBadArgument []
      | some c =>
        if t.rccAbsent c then t.reply m 0x0F05 0 rBadArgument []
        else (t.setCore c { t.core c with dumpValid := false }).reply m 0x0F05 0 rOK [])

end Sys2Proof.Machine
end

