-- ==== Sys2Proof/Machine/Operands.lean ====
section
/-! DEFINITION. Tile registers, SRAM and granule states, operand forms, the scoreboard, tile exceptions, the end of a RUN
(05_tile_execution, 06_tile_isa). -/
namespace Sys2Proof.Machine

/-! ### Registers -/

def State.tile (s : State) (t : Nat) : TileSt := tget {} s.tiles t
def State.setT (s : State) (t : Nat) (x : TileSt) : State := { s with tiles := tset s.tiles t x }
def State.updT (s : State) (t : Nat) (f : TileSt → TileSt) : State := s.setT t (f (s.tile t))

def TileSt.sGet (x : TileSt) (r : Nat) : W64 := tget 0 x.s r
def TileSt.sBad (x : TileSt) (r : Nat) : Bool := bitAt x.sPoison r
/-- A scalar register is written, with its poison. -/
def TileSt.sSet (x : TileSt) (r : Nat) (v : W64) (bad : Bool) : TileSt :=
  { x with s := tset x.s r v, sPoison := withBit x.sPoison r bad }
def TileSt.aGet (x : TileSt) (r : Nat) : W64 := tget 0 x.a r
def TileSt.aBad (x : TileSt) (r : Nat) : Bool := bitAt x.aPoison r
/-- An address register is written; its poison clears. -/
def TileSt.aSet (x : TileSt) (r : Nat) (v : W64) : TileSt := { x with a := tset x.a r v, aPoison := withBit x.aPoison r false }
def TileSt.pGet (x : TileSt) (r : Nat) : W64 := tget 0 x.p r
def TileSt.pBad (x : TileSt) (r : Nat) : Bool := bitAt x.pPoison r
/-- A predicate is written, with its poison. -/
def TileSt.pSet (x : TileSt) (r : Nat) (v : W64) (bad : Bool) : TileSt := { x with p := tset x.p r v, pPoison := withBit x.pPoison r bad }
def TileSt.vGet (x : TileSt) (r : Nat) : BitVec 2048 := tget 0 x.v r
def TileSt.vBad (x : TileSt) (r : Nat) : W64 := tget 0 x.vPoison r
def TileSt.vSet (x : TileSt) (r : Nat) (v : BitVec 2048) (bad : W64) : TileSt :=
  { x with v := tset x.v r v, vPoison := tset x.vPoison r bad }
def TileSt.tokGet (x : TileSt) (k : Nat) : W16 := tget 0 x.tok k
/-- A token is incremented modulo 65,536 (05 R156). -/
def TileSt.tokInc (x : TileSt) (k : Nat) (n : Nat) : TileSt :=
  { x with tok := tset x.tok k (x.tokGet k + BitVec.ofNat 16 n) }
def TileSt.count (x : TileSt) (k : Nat) (n : Nat) : TileSt :=
  { x with cnt := tset x.cnt k (tget 0 x.cnt k + BitVec.ofNat 64 n) }
def TileSt.tap (x : TileSt) (e : Nat) : Tap := tget {} x.taps e
def TileSt.setTap (x : TileSt) (e : Nat) (v : Tap) : TileSt := { x with taps := tset x.taps e v }
def TileSt.eg (x : TileSt) (e : Nat) : Egress := tget {} x.egress e
def TileSt.setEg (x : TileSt) (e : Nat) (v : Egress) : TileSt := { x with egress := tset x.egress e v }

/-- Lane `l` of a vector register. -/
def lane (v : BitVec 2048) (l : Nat) : W32 := v.extractLsb' (32 * l) 32
/-- A register from its 64 lanes, lane 0 first. -/
def ofLanes (l : List W32) : BitVec 2048 := BitVec.ofNat 2048 (pack (l.map (fun x => (32, x.toNat))))
def maskOf (l : List Bool) : W64 := BitVec.ofNat 64 (pack (l.map (fun b => (1, b.toNat))))

/-- The token condition (05 R156). -/
def tokHolds (tok v : W16) : Bool := decide ((tok - v).toNat < 32768)

/-- tx and ty of a tile. -/
def tileX (t : Nat) : Nat := t % 288
def tileY (t : Nat) : Nat := t / 288

/-! ### SRAM and granule states (05 R159, R164, R165) -/

def sramSize : Nat := 0xC0000
def sramKey (t a : Nat) : Nat := t * sramSize + a
def State.gst (s : State) (t g : Nat) : GState := tget .local' s.sramG (t * 3072 + g)
def State.setGst (s : State) (t g : Nat) (v : GState) : State :=
  { s with sramG := if v = .local' then tdel s.sramG (t * 3072 + g) else tset s.sramG (t * 3072 + g) v }

/-- The granules that bytes a … a + n − 1 touch. -/
def granules (a n : Nat) : List Nat := if n = 0 then [] else (List.range ((a + n - 1) / 256 - a / 256 + 1)).map (· + a / 256)

def State.sramBytes (s : State) (t a n : Nat) : List Byte := s.sram.readN (sramKey t a) n
/-- Some granule of the bytes is POISONED. -/
def State.sramBad (s : State) (t a n : Nat) : Bool := (granules a n).any (fun g => s.gst t g == .poisoned)

/-- A unit of the tile writes: the granules take LOCAL, or POISONED (05 R164, R165). -/
def State.unitWrite (s : State) (t a : Nat) (data : List Byte) (bad : Bool) : State :=
  (granules a data.length).foldl (fun u g => u.setGst t g (if bad then .poisoned else .local'))
    { s with sram := s.sram.writeN (sramKey t a) data }

/-- A piece is one whole aligned granule. -/
def wholeAt (a n : Nat) : Bool := decide (a % 256 = 0) && decide (n = 256)

/-- What leaves SRAM: a whole granule with its check (a LOCAL one gets a fresh check), a part without (05 R164, 09 R280). -/
def State.sramPiece (s : State) (t a n : Nat) : Piece :=
  let d := s.sramBytes t a n
  if s.sramBad t a n then { data := d, st := .poisoned }
  else if wholeAt a n then
    match s.gst t (a / 256) with
    | .held c => { data := d, st := .held c }
    | _ => { data := d, st := .held (crc32c d) }
  else { data := d, st := .local' }

/-- A mover or tap writes a piece: whole granules keep what arrived, parts take LOCAL (05 R164). -/
def State.sramPut (s : State) (t a : Nat) (p : Piece) : State :=
  let s1 := { s with sram := s.sram.writeN (sramKey t a) p.data }
  if wholeAt a p.data.length then s1.setGst t (a / 256) p.st
  else (granules a p.data.length).foldl (fun u g => u.setGst t g (if p.st = .poisoned then .poisoned else .local')) s1

/-- A program bank of the tile: bank b is one of the banks of a loaded slot (05 R166). -/
def TileSt.programBank (x : TileSt) (b : Nat) : Bool :=
  x.progs.any (fun e => decide (b ≤ 23 - 4 * e.1) && decide (23 - 4 * e.1 < b + e.2.banks))

/-- Some byte of a … a + n − 1 lies in a program bank. -/
def TileSt.inProgram (x : TileSt) (a n : Nat) : Bool :=
  !decide (n = 0) && (List.range 24).any (fun b => x.programBank b && decide (a < (b + 1) * 0x8000) && decide (b * 0x8000 < a + n))

/-! ### Scoreboard (05 R155) -/

/-- A register of the scoreboard. -/
inductive Reg where
  | s (n : Nat) | a (n : Nat) | v (n : Nat) | p (n : Nat) | acc (n : Nat)
deriving DecidableEq, Repr

def rs (x : BitVec 5) : Reg := .s x.toNat
def ra (x : BitVec 4) : Reg := .a x.toNat
def rv (x : BitVec 5) : Reg := .v x.toNat
def rp (x : BitVec 3) : Reg := .p x.toNat

/-- The banks named in a mask. -/
def maskAccs (m : BitVec 4) : List Reg := ((List.range 4).filter (fun b => m.getLsbD b)).map Reg.acc

def addrReads (m : MemArgs) : List Reg := [ra m.a]
def countReads (c : CountArgs) : List Reg := if c.immf then [] else [rs c.n]

/-- Source registers of a queued instruction. -/
def QOp.reads : QOp → List Reg
  | .vf fn v => [rv v.va, rp v.pg, rv v.vd] ++ (if fn < 7 then [rv v.vb] else []) ++ (if fn = 3 ∨ fn = 4 then [rv v.vc] else [])
  | .vsf _ v => [rv v.va, rp v.pg, rv v.vd]
  | .vi _ v => [rv v.va, rv v.vb, rp v.pg, rv v.vd]
  | .vcmp _ _ v => [rv v.va, rv v.vb, rp v.pg]
  | .vsel v => [rv v.va, rv v.vb, rp v.pg]
  | .vred _ v => [rv v.va, rp v.pg]
  | .vperm fn v _ => [rv v.va, rp v.pg, rv v.vd] ++ (if fn = 0 then [rv v.vb] else if fn = 1 then [rs v.vb] else [])
  | .vmov fn v _ => if fn = 0 then [rs v.va, rp v.pg, rv v.vd] else if fn = 1 then [rv v.va]
      else if fn = 2 then [rs v.va, rv v.vd] else [rp v.pg, rv v.vd]
  | .vcvt _ _ v => [rv v.va, rp v.pg, rv v.vd]
  | .vnarrow _ _ v _ => [rv v.va, rp v.pg, rv v.vd]
  | .vwiden _ v _ => [rv v.va, rp v.pg, rv v.vd]
  | .vmxq _ _ v _ => [rv v.va, rp v.pg, rv v.vd]
  | .vmxdq _ v _ => [rv v.va, rs v.vb, rp v.pg, rv v.vd]
  | .ld m => addrReads m
  | .st m => rs m.d :: addrReads m
  | .vld m => rv m.d :: addrReads m
  | .vst m => rv m.d :: addrReads m
  | .tmma x => [rs x.k, ra x.aa, ra x.ab] ++ (if isMx x.fmt.toNat then [ra x.asa, ra x.asb] else [])
  | .tzero _ => []
  | .tdrain x => [rs x.s, ra x.ad]
  | .twadd aa _ => [ra aa]
  | .smma x => [rs x.k, ra x.aa, ra x.ab] ++ (if isMx x.fmt.toNat then [ra x.asa] else [])
  | .hacc v => [rv v.va, rv v.vb, rp v.pg]
  | .hget v => [rv v.va, rp v.pg]
  | .hcfg aa => [ra aa]
  | .hdrain aa => [ra aa]
  | .hclr => []
  | .mcopy x => [rs x.sl, ra x.ad, ra x.asr] ++ (if x.twoD then [rs x.sst] else [])
  | .mfill x => [rs x.sl, ra x.ad, rs x.sst]
  | .ccfg a => [ra a]
  | .tap _ a => [ra a]
  | .tapx _ => []
  | .strel c => countReads c
  | .egress _ a => [ra a]
  | .econtrib c => countReads c
  | .eskip c => countReads c

def postWrites (m : MemArgs) : List Reg := if m.postinc then [ra m.a] else []

/-- Destination registers of a queued instruction. -/
def QOp.writes : QOp → List Reg
  | .vf _ v => [rv v.vd]
  | .vsf _ v => [rv v.vd]
  | .vi _ v => [rv v.vd]
  | .vcmp _ _ v => [.p (v.vd.toNat % 8)]
  | .vsel v => [rv v.vd]
  | .vred _ v => [rs v.vd]
  | .vperm _ v _ => [rv v.vd]
  | .vmov fn v _ => if fn = 1 then [rs v.vd] else [rv v.vd]
  | .vcvt _ _ v => [rv v.vd]
  | .vnarrow _ _ v _ => [rv v.vd]
  | .vwiden _ v _ => [rv v.vd]
  | .vmxq _ _ v _ => [rv v.vd, rs v.vc]
  | .vmxdq _ v _ => [rv v.vd]
  | .ld m => rs m.d :: postWrites m
  | .st m => postWrites m
  | .vld m => rv m.d :: postWrites m
  | .vst m => postWrites m
  | .hget v => [rv v.vd, .p (v.vc.toNat % 8)]
  | _ => []

/-- Accumulator banks an instruction holds from issue to completion. -/
def QOp.accs : QOp → List Reg
  | .tmma x => [.acc x.acc.toNat]
  | .tzero m => maskAccs m
  | .tdrain x => maskAccs x.mask
  | .twadd _ c => [.acc c.toNat]
  | .smma x => [.acc x.acc.toNat]
  | _ => []

def QEntry.tokReads (e : QEntry) : List Reg :=
  if e.tok.we && e.waitV.isNone then [rs e.tok.ws] else []

def meets (a b : List Reg) : Bool := a.any (fun x => b.contains x)

/-- The pending instructions of every queue. -/
def TileSt.entries (x : TileSt) : List QEntry := x.vq ++ x.tq ++ x.sq ++ x.mq ++ x.xq

/-- The scoreboard stops an instruction with these reads, writes and banks (05 R155). -/
def TileSt.hazard (x : TileSt) (reads writes accs : List Reg) : Bool :=
  x.entries.any (fun e => meets reads e.op.writes || meets writes e.op.writes ||
    meets writes ((if e.begun then [] else e.op.reads) ++ e.tokReads) || meets accs e.op.accs)

/-! ### The end of a RUN (05 R172-R174) -/

/-- The block's tiles, in ascending (ty, tx). -/
def RunState.tiles (r : RunState) : List Nat :=
  (List.range r.h).flatMap (fun dy => (List.range r.w).map (fun dx => (r.ty0 + dy) * 288 + r.tx0 + dx))

def State.findRun (s : State) (i : Nat) : Option RunState := tfind s.runs i
def State.updRun (s : State) (i : Nat) (f : RunState → RunState) : State :=
  match tfind s.runs i with
  | some r => { s with runs := tset s.runs i (f r) }
  | none => s

/-- The tile's mover transfers have ended. -/
def State.tileQuiet (s : State) (t : Nat) : Bool :=
  decide ((s.tile t).run ≠ .running) && (s.tile t).mq.isEmpty && !(s.xfers.any (fun x => x.t == t && !x.finished))

/-- A RUN whose tiles have halted and whose transfers are complete ends (05 R172). -/
def State.checkRun (s : State) (i : Nat) : State :=
  match s.findRun i, s.findOp i with
  | some r, some o =>
    if r.granted && decide (o.opcode = 0x11) && decide (o.st = .started) && r.tiles.all (fun t => s.tileQuiet t) then
      let s1 := { s with runs := tdel s.runs i }
      match r.firstExc, r.poison with
      | some e, _ => s1.endOp i e.1.toNat e.2.toNat
      | none, some off => s1.endOp i 9 off
      | none, none => s1.endOp i 0 r.maxExit.toNat
    else s
  | _, _ => s

/-! ### Halting and exceptions (05 R172-R174, 06 R194, R220) -/

/-- Taps become IDLE, egress windows are skipped, egress entries become IDLE; queued instructions not begun are discarded (06 R194, R220). -/
def TileSt.halt (x : TileSt) : TileSt :=
  let keep := fun (l : List QEntry) => l.filter (fun e => e.begun)
  { x with
    run := .halted, hold := none, taps := [], egress := [],
    ssigs := x.ssigs.filter (fun g => x.entries.all (fun e => e.begun || decide (g.after ≤ e.id))),
    vq := keep x.vq, tq := keep x.tq, sq := keep x.sq, mq := keep x.mq, xq := keep x.xq }

/-- The indices of an egress entry contributed and not forwarded, in order. -/
def Egress.waiting (e : Egress) : List Nat :=
  (e.runs.filter (fun r => !r.skip)).flatMap (fun r => (List.range r.count).map (· + r.first))

/-- The ring granule of the k-th waiting contribution. -/
def Egress.slotAddr (e : Egress) (k : Nat) : Nat := e.ringBase + ((e.head + k) * 256) % e.ringSize

/-- A tile halts: what its attached egress entries have contributed stays for the router (06 R220). -/
def State.haltTile (s : State) (t : Nat) : State :=
  let x := s.tile t
  let kept := (x.egress.filter (fun (p : Nat × Egress) => p.2.state == .attached && !p.2.waiting.isEmpty)).map (fun (p : Nat × Egress) =>
    ({
      inst := p.2.inst, comp := p.2.comp,
      items := p.2.waiting.zip ((List.range p.2.waiting.length).map (fun k => s.sramPiece t (p.2.slotAddr k) 256)) } : Gone))
  s.updT t (fun y => { y.halt with gone := y.gone ++ kept })

/-- The RUN status of a tile exception (05 T5.10). STREAM_ABORTED carries its own. -/
def excStatus (code : Nat) : Nat :=
  match code with
  | 0x08 => 2
  | 0x09 => 3
  | 0x0A => 4
  | 0x0B => 5
  | 0x0C => 9
  | _ => 8

/-- A queue's number in an exception record (05 T5.11). -/
def Queue.code : Queue → Nat
  | .vq => 1 | .tq => 2 | .sq => 3 | .mq => 4 | .xq => 5

/-- The 32 bytes of an exception record (05 T5.11). -/
def excRecord (t code queue index addr overflow : Nat) (tick : W48) : List Byte :=
  leBytes 32 (pack [(9, tileX t), (7, 0), (9, tileY t), (7, 0), (8, code), (8, queue), (16, index), (48, tick.toNat), (64, addr),
    (48, overflow), (31, 0), (1, 1)])

/-- A record is written while there is room; further exceptions go to the last record's OVERFLOW (05 R174). -/
def State.recordExc (s : State) (i t code queue index addr : Nat) : State :=
  match s.findRun i, s.findOp i with
  | some r, some o =>
    let ep : Ep := .vf (Fin.ofNat 12 o.part)
    if r.excMax = 0 then s
    else if r.records < r.excMax then
      (s.updRun i (fun r => { r with records := r.records + 1 })).emit
        (.hostWrite ep (r.excAddr + 32 * r.records) (excRecord t code queue index addr 0 s.tick))
    else
      (s.updRun i (fun r => { r with overflow := r.overflow + 1 })).emit
        (.hostWrite ep (r.excAddr + 32 * (r.excMax - 1) + 22) (leBytes 6 (r.overflow + 1)))
  | _, _ => s

/-- How an exception ends the RUN: its status and DETAIL (05 R172, T5.10). -/
def excEnd (code : Nat) (detail : Nat) (streamStatus : Nat) : Byte × W32 :=
  if code = 0x0D then (BitVec.ofNat 8 streamStatus, BitVec.ofNat 32 detail)
  else
    let st := excStatus code
    (BitVec.ofNat 8 st, if st = 8 then 0x110 else if code = 0x09 then 1 else BitVec.ofNat 32 detail)

/-- An exception as it is raised (06 R194): where and what; `detail` for the RUN's completion; `stream` for STREAM_ABORTED. -/
structure Exc where
  code : Nat
  queue : Nat
  index : Nat
  addr : Nat
  detail : Nat := 0
  stream : Nat := 0
deriving DecidableEq, Repr

/-- The other tiles of the block halt with BLOCK_ABORT (05 R173). -/
def State.blockAbort (s : State) (i : Nat) (t : Nat) : State :=
  match s.findRun i with
  | some r =>
    if r.continueOnFault then s
    else (r.tiles.filter (fun u => decide (u ≠ t) && decide ((s.tile u).run = .running))).foldl
      (fun st u => (st.haltTile u).recordExc i u 0x0E 0 (s.tile u).index 0) s
  | none => s

/-- A tile raises an exception: record, first exception, halt, block abort (05 R172-R174, 06 R194, R220). -/
def State.raise (s : State) (t : Nat) (e : Exc) : State :=
  let i := (s.tile t).op
  let s1 := s.updRun i (fun r => { r with
    firstExc := match r.firstExc with
      | some x => some x
      | none => some (excEnd e.code e.detail e.stream) })
  (((s1.recordExc i t e.code e.queue e.index e.addr).haltTile t).blockAbort i t).checkRun i

/-- A POISONED granule leaves the tile: the first one is the RUN's DETAIL (05 R165, R172). -/
def State.sentPoison (s : State) (t off : Nat) : State :=
  s.updRun (s.tile t).op (fun r => { r with
    poison := match r.poison with
      | some x => some x
      | none => some off })

/-! ### Issue (05 R154, R155; 06 R186) -/

def TileSt.progCount (x : TileSt) : Nat := (tget { banks := 0, count := 0 } x.progs x.slot).count

/-- The sequencer issues an instruction: not while it holds or a hazard stands; an index at or beyond INSTR_COUNT raises
ILLEGAL_INSTRUCTION (06 R186); a poisoned address register raises POISON_USE (05 R165, 18 R558). The next index is i + 1 unless `f` sets it. -/
def State.issue (s : State) (t : Nat) (reads writes accs : List Reg) (f : State → Nat → State) : State :=
  let x := s.tile t
  if x.run ≠ .running ∨ x.hold.isSome then s
  else if x.progCount ≤ x.index then s.raise t { code := 1, queue := 0, index := x.index, addr := 0 }
  else if x.hazard reads writes accs then s.updT t (fun y => y.count 2 1)
  else if reads.any (fun r => match r with
      | .a n => x.aBad n
      | _ => false) then s.raise t { code := 0x0C, queue := 0, index := x.index, addr := 0 }
  else f (s.updT t (fun y => { (y.count 0 1) with index := y.index + 1, issued := y.issued + 1 })) x.index

/-- A sequencer instruction whose named scalars must be clean: a poisoned one raises POISON_USE (05 R165). -/
def State.clean (s : State) (t i : Nat) (regs : List Nat) (f : State) : State :=
  if regs.any (fun r => (s.tile t).sBad r) then s.raise t { code := 0x0C, queue := 0, index := i, addr := 0 } else f

def State.illegal (s : State) (t i : Nat) : State := s.raise t { code := 1, queue := 0, index := i, addr := 0 }

end Sys2Proof.Machine
end

