-- ==== Sys2Proof/Machine/Link.lean ====
section
/-! DEFINITION. Barior ports as the engines use them: lookup, sending a message as flits, protocol headers
(12_barior_ports R390-R398). -/
namespace Sys2Proof.Machine

def State.port (s : State) (p : Nat) : Port := tget (Port.reset p) s.ports p
def State.setPort (s : State) (p : Nat) (x : Port) : State := { s with ports := tset s.ports p x }
def State.updPort (s : State) (p : Nat) (f : Port → Port) : State := s.setPort p (f (s.port p))

/-- The twin option is ordered (00 T0.1, R5). -/
def State.hasTwin (s : State) : Bool :=
  match s.fixed.order with
  | .kw9T => true
  | .kw9FT => true
  | _ => false

/-- The flash option is ordered (00 T0.1, R4). -/
def State.hasFlash (s : State) : Bool :=
  match s.fixed.order with
  | .kw9F => true
  | .kw9FT => true
  | _ => false

/-- A port of an absent option (00 R5). -/
def State.portAbsent (s : State) (p : Nat) : Bool := decide (36 ≤ p) && !s.hasTwin

def State.portActive (s : State) (p : Nat) : Bool := decide ((s.port p).phase = .active)

/-- The well a port's engines work in (12 R406). -/
def State.portWell (s : State) (p : Nat) : Nat := (s.port p).cur0

/-! ### Sending (12 R390-R394) -/

/-- Flits a channel may send in its turn (09 T9.4). -/
def channelWeight (c : Nat) : Nat := if c = 0 then 2 else 4

/-- The channel of the next DATA flit, and the turn after it: CTL, then MGT; then REQ, RSP, STR and COL in turns of their weights, a
channel with nothing ready passing its turn on (12 R391). -/
def nextChannel (ready : Nat → Bool) (turn left : Nat) : Option (Nat × Nat × Nat) :=
  if ready 4 then some (4, turn, left)
  else if ready 5 then some (5, turn, left)
  else if 0 < left ∧ ready turn then some (turn, turn, left - 1)
  else (((List.range 4).map (fun i => (turn + 1 + i) % 4)).find? ready).map (fun c => (c, c, channelWeight c - 1))

/-- The next flit that has a credit, with the turn after it; the rest keeps its order. -/
def Port.takeFlit (x : Port) : Option (Flit × List Flit × Nat × Nat) :=
  let first := fun c => x.txq.find? (fun f => decide (f.ch = c))
  match nextChannel (fun c => (first c).isSome && decide (tget 0 x.txCredit c ≠ 0)) x.turn x.turnLeft with
  | some (c, turn, left) => (first c).map (fun f => (f, x.txq.erase f, turn, left))
  | none => none

/-- Flits leave while credits last and fewer than 480 are unacknowledged; each stays in the replay buffer (12 R391, R392). -/
def Port.pump : Nat → Port → List (Nat × Flit) → Port × List (Nat × Flit)
  | 0, x, o => (x, o)
  | n + 1, x, o =>
    if x.phase ≠ .active ∨ 480 ≤ x.replay.length then (x, o)
    else match x.takeFlit with
      | none => (x, o)
      | some (f, q, turn, left) =>
        Port.pump n { x with
          txq := q, turn := turn, turnLeft := left, txSeq := (x.txSeq + 1) % 1024, replay := x.replay ++ [(x.txSeq, f)], flitsTx := x.flitsTx + 1,
          txCredit := tset x.txCredit f.ch (tget 0 x.txCredit f.ch - 1),
          poisonTx := if f.poison then satInc x.poisonTx else x.poisonTx } (o ++ [(x.txSeq, f)])

def State.portPump (s : State) (p : Nat) : State :=
  let r := Port.pump (s.port p).txq.length (s.port p) []
  r.2.foldl (fun t (e : Nat × Flit) => t.emit (.flit p e.1 e.2)) (s.setPort p r.1)

/-- Bytes in pieces of 256. -/
def flitBodies : Nat → List Byte → List (List Byte)
  | 0, _ => []
  | n + 1, l => if l.length ≤ 256 then [l] else l.take 256 :: flitBodies n (l.drop 256)

/-- A message as its flits: SOM on the first, EOM on the last (12 T12.5). -/
def messageFlits (ch : Nat) (key : W16) (poison : Bool) (b : List Byte) : List Flit :=
  let bodies := flitBodies (b.length / 256 + 1) b
  (List.range bodies.length).map (fun i => {
      ch := ch, som := decide (i = 0), eom := decide (i + 1 = bodies.length), poison := poison, key := key, check := 0,
      data := bodies.getD i [] })

/-- A message is handed to a port: it leaves as credits allow. -/
def State.portSend (s : State) (p ch : Nat) (key : W16) (poison : Bool) (b : List Byte) : State :=
  (s.updPort p (fun x => { x with txq := x.txq ++ messageFlits ch key poison b })).portPump p

/-! ### Protocol messages (12 R398, T12.8) -/

/-- Bytes 0-23 of a protocol message header. -/
def State.protoHeader (s : State) (mtype mlen reqId server wport status : Nat) : List Byte :=
  leBytes 2 mtype ++ [1, 0] ++ leBytes 4 mlen ++ leBytes 8 reqId ++ leBytes 2 server ++
    [BitVec.ofNat 8 wport, BitVec.ofNat 8 status] ++ leBytes 4 s.tor.id.toNat

/-- A protocol message: header, type-specific bytes up to 64, payload; sent on a W-port with KEY 0. -/
def State.protoSend (s : State) (p ch mtype reqId server status : Nat) (spec : List Byte) (payload : List Byte) : State :=
  s.portSend p ch 0 false (s.protoHeader mtype (64 + payload.length) reqId server p status ++
    (spec ++ List.replicate 40 0).take 40 ++ payload)

/-- The lowest-numbered W-port of a partition that is up (10 R325). -/
def State.wportFor (s : State) (n : Nat) : Option Nat :=
  (List.range 24).find? (fun p => decide (tfind s.portOwner p = some n) && s.portActive p)

/-- Enough cadence ticks (1 µs each) since the last report (12 R399, 09 R296, 10 R336). -/
def State.reportDue (s : State) (last : Option Nat) (us : Nat) : Bool :=
  match last with
  | none => true
  | some t => decide (s.cad.count.toNat < t) || decide (t + us ≤ s.cad.count.toNat)

end Sys2Proof.Machine
end

