-- ==== Sys2Proof/Machine/Tiers.lean ====
section
/-! DEFINITION. The memory tiers: slices and T1 pages, the range and its page table, allocation, quotas, discards, chunk
fetches, the weight-pack form and the frame checks (10_memory_tiers, 11 R351-R352, 17 R545). -/
namespace Sys2Proof.Machine

def pageSize : Nat := 0x200000
def chunkSize : Nat := 0x10000

/-! ### Slices (10 R314, R337, R338) -/

def sliceSize : Nat := 0xC00000
def sliceKey (t off : Nat) : Nat := t * sliceSize + off
def State.sgst (s : State) (t g : Nat) : GState := tget .local' s.sliceG (t * 49152 + g)
def State.setSgst (s : State) (t g : Nat) (v : GState) : State :=
  { s with sliceG := if v = .local' then tdel s.sliceG (t * 49152 + g) else tset s.sliceG (t * 49152 + g) v }

/-- The number of a logical tile within its region, row by row. -/
def tileInRegion (t : Nat) : Nat := (tileY t % 24) * 24 + tileX t % 24

/-- An access to a slot not scrubbed since READY has it scrubbed first: it reads 0, LOCAL (17 R545). -/
def State.touchSlot (s : State) (t off : Nat) : State :=
  let r := tileRegion t
  let b := (s.rg r).bru
  let k := tileInRegion t * 384 + off / 0x8000
  if b.scrubLeft = 0 ∨ b.scrubbed.contains k then s
  else
    let g0 := t * 49152 + off / 0x8000 * 128
    let s1 := { s with
      slices := s.slices.clear (sliceKey t (off / 0x8000 * 0x8000)) 0x8000
      sliceG := s.sliceG.filter (fun (e : Nat × GState) => decide (e.1 < g0) || decide (g0 + 128 ≤ e.1)) }
    s1.updR r (fun x => { x with bru := { x.bru with
      scrubLeft := b.scrubLeft - 1, scrubDone := decide (b.scrubLeft = 1),
      scrubbed := if b.scrubLeft = 1 then [] else insertNat b.scrubbed k } })

def State.sliceBytes (s : State) (t off n : Nat) : List Byte := s.slices.readN (sliceKey t off) n
def State.sliceBad (s : State) (t off n : Nat) : Bool := (granules off n).any (fun g => s.sgst t g == .poisoned)

/-- What a slice delivers: a whole granule with its check, a part without. -/
def State.slicePiece (s : State) (t off n : Nat) : Piece :=
  let d := s.sliceBytes t off n
  if s.sliceBad t off n then { data := d, st := .poisoned }
  else if wholeAt off n then
    match s.sgst t (off / 256) with
    | .held c => { data := d, st := .held c }
    | _ => { data := d, st := .held (crc32c d) }
  else { data := d, st := .local' }

/-- The entry check of a whole granule holds (10 R338). -/
def Piece.checked (p : Piece) : Bool :=
  match p.st with
  | .held c => crc32c p.data == c
  | _ => true

/-- A piece crosses into a slice (10 R337, R338): a whole granule whose check fails is stored POISONED and the Bool is false; a part is
merged and gets a fresh check, but leaves a POISONED granule POISONED. -/
def State.slicePut (s : State) (t off : Nat) (p : Piece) : State × Bool :=
  let s0 := s.touchSlot t off
  let s1 := { s0 with slices := s0.slices.writeN (sliceKey t off) p.data }
  if wholeAt off p.data.length then
    if p.checked then (s1.setSgst t (off / 256) p.st, true) else (s1.setSgst t (off / 256) .poisoned, false)
  else ((granules off p.data.length).foldl (fun u g =>
    u.setSgst t g (if p.st = .poisoned ∨ u.sgst t g = .poisoned then .poisoned else .local')) s1, true)

/-! ### T1 pages (10 R314, R315) -/

def ppaRegion (ppa : Nat) : Nat := ppa % 256
def ppaGroup (ppa : Nat) : Nat := ppa / 256 % 16
def ppaSlot (ppa : Nat) : Nat := ppa / 4096 % 512
def mkPpa (r g slot : Nat) : Nat := r + 256 * g + 4096 * slot

/-- The tile of granule `g` of a page. -/
def granTile (ppa g : Nat) : Nat :=
  let r := ppaRegion ppa
  let k := ppaGroup ppa
  let t := g % 64
  (r / 12 * 24 + k / 3 * 8 + t / 8) * 288 + r % 12 * 24 + k % 3 * 8 + t % 8

/-- The slice offset of granule `g` of a page. -/
def granOff (ppa g : Nat) : Nat := ppaSlot ppa * 0x8000 + g / 64 * 256

/-- The tile and the slice offset of byte `off` of a page. -/
def pageTile (ppa off : Nat) : Nat := granTile ppa (off / 256)
def pageOff (ppa off : Nat) : Nat := granOff ppa (off / 256) + off % 256

/-- The 64 tiles of a page group. -/
def groupTiles (r k : Nat) : List Nat := (List.range 64).map (fun t => granTile (mkPpa r k 0) t)

/-- All 2 MiB of a page set to 0 with fresh checks (10 R318). -/
def State.zeroPage (s : State) (ppa : Nat) : State :=
  let off := ppaSlot ppa * 0x8000
  (groupTiles (ppaRegion ppa) (ppaGroup ppa)).foldl (fun u t =>
    let g0 := t * 49152 + off / 256
    { u.touchSlot t off with
      slices := u.slices.clear (sliceKey t off) 0x8000
      sliceG := u.sliceG.filter (fun (e : Nat × GState) => decide (e.1 < g0) || decide (g0 + 128 ≤ e.1)) }) s

/-! ### Pool, use and quotas (10 R316, R331, R332) -/

def State.updM (s : State) (n : Nat) (f : PartMem → PartMem) : State := s.updP n (fun p => { p with mem := f p.mem })
def State.pte (s : State) (n page : Nat) : Option Pte := tfind (s.pt n).mem.pages page
def State.setPte (s : State) (n page : Nat) (e : Pte) : State := s.updM n (fun m => { m with pages := tset m.pages page e })

/-- Slots of group `k` of region `r` in the pool. -/
def State.poolSlots (s : State) (n r k : Nat) : List Nat :=
  (List.range 384).filter (fun j => decide ((s.pt n).mem.privateSlots ≤ j) && !((s.rg r).flt.retired.contains (k, j)))

/-- The partition's READY regions. -/
def State.readyRegions (s : State) (n : Nat) : List Nat := (s.pt n).regions.filter (fun r => decide ((s.rg r).state = .ready))

/-- The pool size (10 R316, T10.17). -/
def State.poolPages (s : State) (n : Nat) : Nat :=
  ((s.readyRegions n).map (fun r => ((List.range 9).map (fun k => (s.poolSlots n r k).length)).foldl (· + ·) 0)).foldl (· + ·) 0

/-- Shared-region pages homed in the partition that hold a slot. -/
def State.homePages (s : State) (n : Nat) : List (Nat × Nat) :=
  s.shPages.filterMap (fun (e : Nat × SharedPage) =>
    match tfind s.sec.shared (e.1 / 2 ^ 21), e.2.ppa with
    | some sh, some p => if sh.home = some n then some (e.1, p) else none
    | _, _ => none)

/-- Slots the partition's pages hold. -/
def State.usedPpas (s : State) (n : Nat) : List Nat :=
  (s.pt n).mem.pages.filterMap (fun (e : Nat × Pte) => e.2.ppa) ++ (s.homePages n).map (fun (e : Nat × Nat) => e.2) ++
    (s.pt n).mirror.pages.map (fun (e : Nat × Nat) => e.2)

/-- Allocated, home shared and mirror pages (10 T10.16). -/
def State.allocated (s : State) (n : Nat) : Nat :=
  ((s.pt n).mem.pages.filter (fun (e : Nat × Pte) => decide (e.2.back = 0) && e.2.ppa.isSome)).length + (s.homePages n).length +
    (s.pt n).mirror.pages.length

/-- Resident lower-tier copies. -/
def State.cachedPages (s : State) (n : Nat) : Nat :=
  ((s.pt n).mem.pages.filter (fun (e : Nat × Pte) => decide (2 ≤ e.2.back) && e.2.ppa.isSome)).length

def State.useT1 (s : State) (n : Nat) : Nat := s.allocated n + s.cachedPages n
def PartMem.useT2 (m : PartMem) : Nat := (m.objs.map (fun (e : Nat × MemObj) => e.2.blocks)).foldl (· + ·) 0
def PartMem.useT3 (m : PartMem) : Nat := (m.pages.filter (fun (e : Nat × Pte) => decide (e.2.back = 3))).length

/-- The T1 limit in force: the quota, 0xFFFFFF meaning none. -/
def PartMem.limitT1 (m : PartMem) : Option Nat := if m.quotaT1 = 0xFFFFFF then none else some m.quotaT1
def PartMem.limitT3 (m : PartMem) : Option Nat := if m.quotaT3 = 0x7FFFFF then none else some m.quotaT3

def overLimit (use : Nat) (lim : Option Nat) : Bool :=
  match lim with
  | some q => decide (q < use)
  | none => false

/-- Use against quota: OVER bits follow, OVER_QUOTA and QUOTA_OK are posted as one turns (10 R333). Bit 0 T1, 1 T2, 2 T3. -/
def State.quotaCheck (s : State) (n : Nat) : State :=
  let m := (s.pt n).mem
  let uses := [s.useT1 n, m.useT2, m.useT3]
  let now := [overLimit (s.useT1 n) m.limitT1, decide (m.quotaT2 < m.useT2), overLimit m.useT3 m.limitT3]
  (List.range 3).foldl (fun t k =>
    let o := now.getD k false
    if o = bitAt m.overs k then t
    else
      let t1 := t.updM n (fun x => { x with overs := withBit x.overs k o })
      if o then t1.postPart n 0x0801 (pack [(2, k + 1), (30, 0), (32, uses.getD k 0)]) else t1.postPart n 0x0802 (k + 1)) s

/-! ### Discards and allocation (10 R318, R328-R332; 18 R560) -/

/-- A slot returns to the pool; with two double-bit errors it is retired (18 R560). -/
def State.freeSlot (s : State) (ppa : Nat) : State :=
  let k := (ppaGroup ppa, ppaSlot ppa)
  s.updR (ppaRegion ppa) (fun r =>
    if 2 ≤ tget 0 r.flt.slotUe (k.1 * 384 + k.2) ∧ !r.flt.retired.contains k then
      { r with flt := { r.flt with retired := r.flt.retired ++ [k] } }
    else r)

/-- A page leaves both slots' pin records (11 R364). -/
def PartWgt.unpin (w : PartWgt) (page : Nat) : PartWgt :=
  { w with
    slots := w.slots.map (fun (e : Nat × WSlot) => (e.1, { e.2 with pins := e.2.pins.filter (fun q => q != page) })) }

/-- A resident lower-tier copy is discarded (10 R329). -/
def State.discardCopy (s : State) (n page : Nat) : State :=
  match s.pte n page with
  | some e =>
    match e.ppa with
    | some ppa =>
      ((s.setPte n page { e with ppa := none, chunks := 0, pin := false }).updP n (fun p =>
        { p with mem := { p.mem with discarded := p.mem.discarded + 1 }, wgt := p.wgt.unpin page })).freeSlot ppa
    | none => s
  | none => s

/-- A page serves reads in flight: a fetch into it goes on (10 R328). -/
def State.pageBusy (s : State) (n page : Nat) : Bool := s.fetches.any (fun f => decide (f.n = n) && decide (f.keep = some page))

/-- The least recently read resident copy that may go, ties to the lowest page. -/
def State.oldestCopy (s : State) (n : Nat) (pinned : Bool) (protect : List Nat) : Option Nat :=
  ((s.pt n).mem.pages.filter (fun (e : Nat × Pte) => decide (2 ≤ e.2.back) && e.2.ppa.isSome && (e.2.pin == pinned) &&
      !(s.pageBusy n e.1) && !(protect.contains e.1))).foldl
    (fun (b : Option (Nat × Nat)) (e : Nat × Pte) => match b with
      | none => some (e.1, e.2.readSeq)
      | some (p, r) => if e.2.readSeq < r then some (e.1, e.2.readSeq) else some (p, r)) none |>.map (·.1)

/-- Free slots of a group. -/
def State.freeSlots (s : State) (n r k : Nat) : List Nat :=
  let used := s.usedPpas n
  (s.poolSlots n r k).filter (fun j => !used.contains (mkPpa r k j))

def State.regionFree (s : State) (n r : Nat) : Nat :=
  ((List.range 9).map (fun k => (s.freeSlots n r k).length)).foldl (· + ·) 0

/-- The member with the most, the first on a tie; none when all have 0. -/
def mostOf (l : List Nat) (f : Nat → Nat) : Option Nat :=
  (l.foldl (fun (b : Option (Nat × Nat)) r => match b with
    | none => if 0 < f r then some (r, f r) else none
    | some (q, v) => if v < f r then some (r, f r) else some (q, v)) none).map (·.1)

/-- Where a new page goes (10 R318), outside the regions of `avoid`. -/
def State.placePage (s : State) (n : Nat) (pref : Option Nat) (avoid : List Nat) : Option Nat :=
  let regs := (s.readyRegions n).filter (fun r => !avoid.contains r)
  let r := match pref with
    | some p => if regs.contains p ∧ 0 < s.regionFree n p then some p else mostOf regs (s.regionFree n)
    | none => mostOf regs (s.regionFree n)
  match r with
  | none => none
  | some r =>
    match mostOf (List.range 9) (fun k => (s.freeSlots n r k).length) with
    | some k => ((s.freeSlots n r k).head?).map (fun j => mkPpa r k j)
    | none => none

/-- One more T1 page (10 R332): below quota and pool, or a copy is discarded for it. -/
def State.takePage (s : State) (n : Nat) (pref : Option Nat) (protect : List Nat) : Option (State × Nat) :=
  let use := s.useT1 n
  let lim := match (s.pt n).mem.limitT1 with
    | some q => min q (s.poolPages n)
    | none => s.poolPages n
  if use < lim then (s.placePage n pref []).map (fun p => (s, p))
  else if use = lim ∨ ((s.pt n).mem.limitT1 = none) then
    match s.oldestCopy n false protect with
    | some page => let s1 := s.discardCopy n page
                   (s1.placePage n pref []).map (fun p => (s1, p))
    | none => none
  else none

/-! ### What a page of the range is (10 R319-R321, 02 R62) -/

/-- The home of a page of the range. -/
inductive Home where
  | none
  | anon (e : Pte)
  | shared (sh page : Nat)
  | backing (sh page : Nat)
  | obj (e : Pte)
deriving DecidableEq, Repr

/-- The grant that maps a page: shared ID and page of the region. -/
def State.grantAt (s : State) (n page : Nat) : Option (Nat × Nat) :=
  s.sec.grants.findSome? (fun g =>
    if g.grantee = n then
      match tfind s.sec.shared g.shared with
      | some r =>
        let b := g.base.toNat / pageSize
        if b ≤ page ∧ page < b + r.pages then some (g.shared, page - b) else none
      | none => none
    else none)

def State.homeOf (s : State) (n page : Nat) : Home :=
  match s.grantAt n page with
  | some (sh, p) =>
    (match tfind s.sec.shared sh with
     | some r => if r.home.isSome then .shared sh p else .backing sh p
     | none => .none)
  | none =>
    match s.pte n page with
    | some e => if e.back = 0 then .anon e else if e.back = 2 ∧ !s.hasFlash then .none else .obj e
    | none => .none

/-- The page is VALID. -/
def State.mapped (s : State) (n page : Nat) : Bool := s.homeOf n page != .none
/-- The page admits writes (10 R321). -/
def State.writable (s : State) (n page : Nat) : Bool :=
  match s.homeOf n page with
  | .anon e => !e.lost
  | _ => false

/-- The pages that bytes a … a + len − 1 touch. -/
def pagesOf (a len : Nat) : List Nat :=
  if len = 0 then [] else (List.range ((a + len - 1) / pageSize - a / pageSize + 1)).map (· + a / pageSize)

def sharedKeyOf (sh page : Nat) : Nat := sh * 2 ^ 21 + page
def State.shPage (s : State) (sh page : Nat) : SharedPage := tget { ppa := none } s.shPages (sharedKeyOf sh page)

/-! ### Chunks (10 R323, R341) -/

/-- The object a chunk source names. -/
def State.srcObj (s : State) : ChunkSrc → Option MemObj
  | .obj n h => tfind (s.pt n).mem.objs h
  | .backing sh => tfind s.backing sh
  | .host _ => none

/-- The chunk index entry of a T2 object: frame offset and length (10 R323). -/
def State.t2Index (s : State) (o : MemObj) (page chunk : Nat) : Nat × Nat :=
  let v := leNat (s.flash.readN (o.block * 65536 + 8 * (32 * page + chunk)) 8)
  (v % 2 ^ 40, v / 2 ^ 40)

/-- A T2 chunk that is absent reads as zeros with no fetch. -/
def State.chunkAbsent (s : State) (k : ChunkKey) : Bool :=
  match s.srcObj k.src with
  | some o => decide (o.tier = 2) && decide ((s.t2Index o k.page k.chunk).2 = 0)
  | none => false

/-- What a read of the range finds: refused, data, or a chunk to be fetched. -/
inductive RangeOut where
  | refused
  | data (p : Piece)
  | wait (k : ChunkKey)
deriving DecidableEq, Repr

def zeroPiece (a n : Nat) : Piece :=
  let d := List.replicate n (0 : Byte)
  { data := d, st := if wholeAt a n then .held (crc32c d) else .local' }

/-- Plain bytes of a chunk as a piece with its fresh check. -/
def bytesPiece (a : Nat) (d : List Byte) : Piece := { data := d, st := if wholeAt a d.length then .held (crc32c d) else .local' }

/-- The chunk data held for a waiter, if any (10 R327). -/
def State.passedFor (s : State) (k : ChunkKey) (w : Waiter) : Option (List Byte) :=
  (s.passed.find? (fun p => decide (p.key = k) && p.waiters.contains w)).map (·.data)

def State.chunkRead (s : State) (k : ChunkKey) (w : Waiter) (a n : Nat) : RangeOut :=
  if s.chunkAbsent k then .data (zeroPiece a n)
  else match s.passedFor k w with
    | some d => .data (bytesPiece a ((d.drop (a % chunkSize)).take n))
    | none => .wait k

/-- A read of `n` bytes within one granule of the range, for a waiter (10 R321). -/
def State.rangeRead (s : State) (part a n : Nat) (w : Waiter) : RangeOut :=
  if 2 ^ 48 < a + n then .refused
  else
    let page := a / pageSize
    let off := a % pageSize
    let c := off / chunkSize
    match s.homeOf part page with
    | .none => .refused
    | .anon e =>
      if e.lost then .data { data := (List.range n).map (fun i => Config.lostByte part (a + i)), st := .poisoned }
      else match e.ppa with
        | some p => .data (s.slicePiece (pageTile p off) (pageOff p off) n)
        | none => .data (zeroPiece a n)
    | .shared sh p =>
      let x := s.shPage sh p
      if x.lost then .data { data := (List.range n).map (fun i => Config.lostByte part (a + i)), st := .poisoned }
      else match x.ppa with
        | some q => .data (s.slicePiece (pageTile q off) (pageOff q off) n)
        | none => .data (zeroPiece a n)
    | .backing sh p => s.chunkRead { src := .backing sh, page := p, chunk := c } w a n
    | .obj e =>
      match e.ppa with
      | some p =>
        if e.chunks.getLsbD c then .data (s.slicePiece (pageTile p off) (pageOff p off) n)
        else s.chunkRead { src := .obj part e.ref, page := e.opage, chunk := c } w a n
      | none => s.chunkRead { src := .obj part e.ref, page := e.opage, chunk := c } w a n

/-- A read was served: a resident copy becomes the most recently read (10 R328), a slot not scrubbed is scrubbed (17 R545). -/
def State.markRead (s : State) (n a : Nat) : State :=
  match s.pte n (a / pageSize) with
  | some e =>
    match e.ppa with
    | some p =>
      let s1 := s.touchSlot (pageTile p (a % pageSize)) (pageOff p (a % pageSize))
      if 2 ≤ e.back then { s1.setPte n (a / pageSize) { e with readSeq := s.readSeq + 1 } with readSeq := s.readSeq + 1 } else s1
    | none => s
  | none => s

/-- A waiter needs what passed through no more, but for one chunk (10 R327). -/
def State.dropPassed (s : State) (w : Waiter) (keep : Option ChunkKey) : State :=
  { s with
    passed := s.passed.filterMap (fun p =>
      if some p.key = keep then some p
      else
        let l := p.waiters.filter (fun x => x != w)
        if l.isEmpty then none else some { p with waiters := l }) }

/-! ### Fetches (10 R325-R327, 12 R400, 11 R377, R378) -/

/-- Which tier a source lies in: 2 T2, 3 T3, 4 host. -/
def State.srcTier (s : State) (k : ChunkSrc) : Nat :=
  match s.srcObj k with
  | some o => o.tier
  | none => 4

/-- Chunks requested on a port without reply (12 R400). -/
def State.reqOut (s : State) (p : Nat) : Nat :=
  (s.fetches.filter (fun f => f.sent && decide (f.port = some p))).length

/-- The relay assignment of a T3 object, for its own partition (11 R377). -/
def State.relayOf (s : State) (k : ChunkSrc) : Option Relay :=
  match k with
  | .obj n h => tfind (s.pt n).wgt.relays h
  | _ => none

/-- The fetch window of a relay object is open (11 R378). -/
def State.windowOpen (s : State) (k : ChunkSrc) : Bool :=
  match s.relayOf k with
  | some r =>
    if r.period = 0 then true
    else
      let t := s.cad.count.toNat
      decide (r.start.toNat ≤ t) && decide ((t - r.start.toNat) % r.period.toNat < r.length.toNat)
  | none => true

def State.isSink (s : State) (k : ChunkSrc) : Bool :=
  match s.relayOf k with
  | some r => r.sink
  | none => false

def State.updFetch (s : State) (k : ChunkKey) (f : Fetch → Fetch) : State :=
  { s with fetches := s.fetches.map (fun x => if x.key = k then f x else x) }

/-- A T3 request leaves when a W-port is up, its window is open and the port has room; a SINK sends none (12 R400, 11 R377). -/
def State.sendReq (s : State) (k : ChunkKey) : State :=
  match s.fetches.find? (fun f => decide (f.key = k)), s.srcObj k.src with
  | some f, some o =>
    if f.tier ≠ 3 ∨ f.sent ∨ f.busy ∨ f.relay ∨ !s.windowOpen k.src then s
    else match s.wportFor f.n with
      | none => s
      | some p =>
        if s.proto.reqMax.toNat ≤ s.reqOut p then s
        else
          let s1 := { s.updFetch k (fun x => { x with sent := true, port := some p, reqId := s.nextReq }) with nextReq := s.nextReq + 1 }
          s1.protoSend p 0 0x0001 s.nextReq o.server.toNat 0
            (leBytes 8 o.loc.toNat ++ leBytes 4 k.page ++ leBytes 4 (2 ^ k.chunk)) []
  | _, _ => s

/-- Requests that wait are sent as far as there is room. -/
def State.sendWaiting (s : State) : State := s.fetches.foldl (fun t f => t.sendReq f.key) s

/-- The pages of a partition that a chunk fills: its resident copy, or a page it may take (10 R327). -/
def State.keepPage (s : State) (n page : Nat) (pref : Option Nat) : State × Option Nat :=
  match s.pte n page with
  | some e =>
    if e.back < 2 then (s, none)
    else if e.ppa.isSome then (s, some page)
    else match s.takePage n pref [] with
      | some (s1, ppa) => (s1.setPte n page { e with ppa := some ppa, chunks := 0, readSeq := s.readSeq }, some page)
      | none => (s, none)
  | none => (s, none)

/-! ### Stalls (10 R334, R336) -/

/-- The partition of an access. -/
def State.waiterPart (s : State) : Waiter → Option Nat
  | .pkt i => (s.pkts.find? (fun p => p.id == i)).map (fun p => p.part)
  | .op i => (s.findOp i).map (fun o => o.part)
  | .inst i => (s.insts.find? (fun x => x.id == i)).map (fun x => x.part)
  | .hash t => s.owner (tileRegion t)

/-- What a fetch waits on now: 0 it is on time; 3 no port can send its request, 2 its window is closed (10 T10.5, 11 R378). -/
def State.fetchCause (s : State) (f : Fetch) : Nat :=
  if f.tier = 3 ∧ !f.sent ∧ !f.relay then
    (if (s.wportFor f.n).isNone then 3 else if !s.windowOpen f.key.src then 2 else f.cause)
  else f.cause

/-- The accesses of a partition that are stalled now. -/
def State.stalledNow (s : State) (n : Nat) : List (Waiter × Nat) :=
  s.fetches.flatMap (fun f =>
    if s.fetchCause f = 0 then [] else (f.waiters.filter (fun w => decide (s.waiterPart w = some n))).map (fun w => (w, s.fetchCause f))) ++
  (s.tiles.filter (fun (e : Nat × TileSt) => e.2.hashStall && decide (s.owner (tileRegion e.1) = some n))).map (fun (e : Nat × TileSt) => (.hash e.1, 6))

/-- µs stalled for a cause up to now. -/
def PartMem.stallTime (m : PartMem) (now c : Nat) : W64 :=
  match tfind m.stallSince c with
  | some t => tget 0 m.stallUs c + BitVec.ofNat 64 (now - t)
  | none => tget 0 m.stallUs c

/-- The stalls of a partition from now on: time accrues for each cause, a stall that begins counts. -/
def PartMem.stallSync (m : PartMem) (now : Nat) (l : List (Waiter × Nat)) : PartMem :=
  let fresh := l.filter (fun (e : Waiter × Nat) => !(m.stalled.any (fun (o : Waiter × Nat) => o.1 == e.1)))
  { m with
    stallUs := [1, 2, 3, 4, 5, 6].foldl (fun u c => tset u c (m.stallTime now c)) m.stallUs
    stallSince := ([1, 2, 3, 4, 5, 6].filter (fun c => l.any (fun (e : Waiter × Nat) => e.2 == c))).map (fun c => (c, now))
    stalls := fresh.foldl (fun u (e : Waiter × Nat) => tset u e.2 (satInc (tget 0 u e.2))) m.stalls
    stalled := l }

def State.stallSync (s : State) : State :=
  (List.range 12).foldl (fun u n =>
    let l := u.stalledNow n
    if l = (u.pt n).mem.stalled then u else u.updM n (fun m => m.stallSync s.cad.count.toNat l)) s

/-- STALL_REPORT, at most once per 10 ms (10 R336): the cause with most µs since the last report, and their sum. -/
def State.stallReport (s : State) (n cause : Nat) : State :=
  let m := (s.pt n).mem
  let now := s.cad.count.toNat
  if s.reportDue m.reportAt 10000 then
    let us := [1, 2, 3, 4, 5, 6].map (fun c => (c, (m.stallTime now c - tget 0 m.reported c).toNat))
    let top := us.foldl (fun (b : Nat × Nat) (e : Nat × Nat) => if b.2 < e.2 then e else b) (cause, 0)
    (s.updM n (fun x => { x with
      reportAt := some now
      reported := us.foldl (fun u (e : Nat × Nat) => tset u e.1 (m.stallTime now e.1)) x.reported })).postPart n 0x0803
      (pack [(3, top.1), (29, 0), (32, (us.map (fun (e : Nat × Nat) => e.2)).foldl (· + ·) 0)])
  else s

/-- A waiter needs a chunk: it joins the fetch of that chunk or starts one (10 R325). `page`: the page of the partition's range it is read through. -/
def State.fetchChunk (s : State) (n : Nat) (k : ChunkKey) (page : Option Nat) (w : Waiter) (pref : Option Nat) : State :=
  if s.fetches.any (fun f => decide (f.key = k)) then
    (s.updFetch k (fun f => if f.waiters.contains w then f else { f with waiters := f.waiters ++ [w] })).stallSync
  else
    let r := match page, k.src with
      | some p, .obj _ _ => s.keepPage n p pref
      | _, _ => (s, none)
    let f : Fetch := {
      key := k, n := n, tier := s.srcTier k.src, keep := r.2, waiters := [w], port := none, reqId := 0, sent := false, cause := 0,
      failDec := false, failChk := false, relay := s.isSink k.src, busy := false }
    (({ r.1 with fetches := r.1.fetches ++ [f] }).sendReq k).stallSync

/-! ### Writes (10 R318, R321, R332, R337; 14 R467) -/

/-- A granule of a snapshot that is still pending is copied before a write reaches it (14 R467). -/
def State.snapBefore (s : State) (n a : Nat) : State :=
  let g := a / 256 * 256
  { s with
    snaps := s.snaps.map (fun x =>
      if x.part = n ∧ x.src + x.pos ≤ g ∧ g < x.src + x.len ∧ !(x.captured.any (fun (e : Nat × Piece) => e.1 == g - x.src)) then
        match s.rangeRead n g 256 (.op x.op) with
        | .data p => { x with captured := x.captured ++ [(g - x.src, p)] }
        | _ => x
      else x) }

/-- What a write to the range comes to. -/
inductive RangeWrite where
  | done (s : State) (checkOk : Bool)
  | refused
  | quota (s : State)

/-- A granule that fails its check on the way into a tier is counted (10 R338). -/
def State.countCheck (s : State) (n : Nat) (ok : Bool) : State :=
  if ok then s else s.updM n (fun m => { m with checkFail := satInc m.checkFail })

def State.failAlloc (s : State) (n : Nat) : State := s.updM n (fun m => { m with quotaFails := satInc m.quotaFails })

/-- A write of a piece within one granule of the range; the first write of an anonymous page allocates it zeroed (10 R318, R332). -/
def State.rangeWrite (s : State) (n a : Nat) (p : Piece) (pref : Option Nat) : RangeWrite :=
  if 2 ^ 48 < a + p.data.length then .refused
  else
    let page := a / pageSize
    let off := a % pageSize
    match s.homeOf n page with
    | .anon e =>
      if e.lost then .refused
      else
        let s0 := s.snapBefore n a
        match e.ppa with
        | some q =>
          let r := s0.slicePut (pageTile q off) (pageOff q off) p
          .done (r.1.countCheck n r.2) r.2
        | none =>
          match s0.takePage n pref [] with
          | none => .quota (s0.failAlloc n)
          | some (s1, q) =>
            let r := ((s1.zeroPage q).setPte n page { e with ppa := some q }).slicePut (pageTile q off) (pageOff q off) p
            .done (r.1.countCheck n r.2) r.2
    | _ => .refused

/-! ### Frames (11 R351, R352; 02 R79) -/

/-- Ingest finds a key by its ID (02 R79). -/
def State.findKey (s : State) (n : Nat) (src : ChunkSrc) (id : Nat) (privOnly : Bool) : Bool :=
  let own := match src with
    | .backing sh => some sh
    | _ => none
  if id = 0 then false
  else
    s.sec.privateKeys.any (fun (k : Nat × KeySlot) => decide (k.1 / 16 = n) && decide (k.2.keyId.toNat = id)) ||
    (!privOnly && s.sec.sharedKeys.any (fun (k : Nat × KeySlot) => decide (k.2.keyId.toNat = id) &&
      (decide (some k.2.bound = own) || s.sec.grants.any (fun g => decide (g.shared = k.2.bound) && decide (g.grantee = n)))))

/-- What the checks of a frame come to (11 T11.2): the plain chunk, a key not found, a tag that fails, any other failure. -/
inductive FrameOut where
  | plain (b : List Byte)
  | noKey (id : Nat)
  | badTag (id : Nat)
  | bad
deriving DecidableEq, Repr

/-! #### The weight-pack body (10 R341-R343) -/

/-- E, rest bits, T, elements, REST bytes of a mode (10 T10.7). -/
def packForm (mode : Nat) : Option (Nat × Nat × Nat × Nat × Nat) :=
  match mode with
  | 1 => some (4, 4, 8, 65536, 32768)
  | 2 => some (5, 3, 16, 65536, 24576)
  | 3 => some (8, 8, 128, 32768, 32768)
  | 4 => some (5, 11, 16, 32768, 45056)
  | _ => none

/-- The canonical code: (length, codeword, symbol). -/
def packCodes (lengths : List Nat) : List (Nat × Nat × Nat) :=
  let step := fun (st : Nat × Nat × List (Nat × Nat × Nat)) (ls : Nat × Nat) =>
    let code := st.1 * 2 ^ (ls.1 - st.2.1)
    (code + 1, ls.1, st.2.2 ++ [(ls.1, code, ls.2)])
  ((List.range 15).flatMap (fun l => ((List.range lengths.length).filter (fun i => decide (lengths.getD i 0 = l + 1))).map (fun i => (l + 1, i)))
    |>.foldl step (0, 0, [])).2.2

/-- The lengths keep the Kraft equality, or exactly one symbol has length 1 and no other has any. -/
def packLengthsOk (lengths : List Nat) : Bool :=
  let used := lengths.filter (fun l => decide (l ≠ 0))
  used == [1] || ((used.map (fun l => 2 ^ (16 - l))).foldl (· + ·) 0 == 2 ^ 16)

/-- Symbols of a code stream, which must end with its last codeword. -/
def packSymbols (tbl : List (Nat × Nat × Nat)) : List Bool → Nat → Nat → List Nat → Option (List Nat)
  | [], len, _, acc => if len = 0 then some acc.reverse else none
  | b :: r, len, code, acc =>
    let c := 2 * code + b.toNat
    match tbl.find? (fun (e : Nat × Nat × Nat) => decide (e.1 = len + 1) && decide (e.2.1 = c)) with
    | some e => packSymbols tbl r 0 0 (e.2.2 :: acc)
    | none => if 15 ≤ len + 1 then none else packSymbols tbl r (len + 1) c acc

/-- Bits of bytes, each from bit 0 upward. -/
def bitsOf (l : List Byte) : List Bool := l.flatMap (fun b => (List.range 8).map (fun i => b.getLsbD i))

/-- Fields of `w` bits of a bit string, `n` of them. -/
def bitFields (w : Nat) : Nat → List Bool → List Nat
  | 0, _ => []
  | n + 1, l => pack ((l.take w).map (fun b => (1, b.toNat))) :: bitFields w n (l.drop w)

/-- The 65,536 plain bytes of a weight-pack body, when it decodes and PLAIN_CRC holds. -/
def packDecode (body : List Byte) : Option (List Byte) :=
  let check := fun (plain : List Byte) => if leAt body 4 4 = (crc32c plain).toNat then some plain else none
  if body.length < 16 ∨ leAt body 0 2 ≠ 0x4B57 ∨ leAt body 3 1 ≠ 0 ∨ leAt body 12 4 ≠ 0 then none
  else if leAt body 2 1 = 0 then
    if body.length < 16 + 65536 then none else check ((body.drop 16).take 65536)
  else match packForm (leAt body 2 1) with
    | none => none
    | some (e, r, t, n, restLen) =>
      let bits := leAt body 8 4
      let lengths := bitFields 4 (2 ^ e) (bitsOf ((body.drop 16).take t))
      if body.length < 16 + t + restLen + (bits + 7) / 8 ∨ !packLengthsOk lengths then none
      else
        let rests := bitFields r n (bitsOf ((body.drop (16 + t)).take restLen))
        let stream := (bitsOf (body.drop (16 + t + restLen))).take bits
        match packSymbols (packCodes lengths) stream 0 0 [] with
        | none => none
        | some syms =>
          if syms.length ≠ n then none
          else
            let w := (e + r) / 8
            check ((syms.zip rests).flatMap (fun (x : Nat × Nat) =>
              leBytes w (x.2 % 2 ^ (r - 1) + 2 ^ (r - 1) * x.1 + 2 ^ (r - 1 + e) * (x.2 / 2 ^ (r - 1)))))

/-- The checks of 11 T11.2 in their order. `len`: the length the index or reply gives; `opened`: what AES-256-GCM opens, none when the tag fails. -/
def State.frameCheck (s : State) (n : Nat) (k : ChunkKey) (frame : List Byte) (len : Nat) (opened : Option (List Byte)) : FrameOut :=
  let bodyLen := leAt frame 12 4
  let id := leAt frame 8 4
  let loc := match s.srcObj k.src with
    | some o => if o.tier = 3 then some o.loc.toNat else none
    | none => none
  if leAt frame 0 4 ≠ 0x4652574B ∨ leAt frame 4 1 ≠ 1 ∨ leAt frame 5 3 ≠ 0 ∨ leAt frame 40 8 ≠ 0 ∨ bodyLen < 16 ∨ 65552 < bodyLen ∨
      frame.length ≠ 64 + bodyLen ∨ len ≠ frame.length then .bad
  else if leAt frame 28 4 ≠ k.chunk + 32 * k.page ∨ (loc.isSome ∧ loc ≠ some (leAt frame 32 8)) then .bad
  else if !s.findKey n k.src id false then .noKey id
  else match opened with
    | none => .badTag id
    | some body =>
      match packDecode body with
      | some p => .plain p
      | none => .bad

end Sys2Proof.Machine
end

