-- ==== Sys2Proof/Machine/FaultOps.lean ====
section
/-! DEFINITION. What a fault of a tile or a slice does: counters, records, thresholds of known defects, slot retirement
(18 R557-R560, 17 R540, 10 R339). -/
namespace Sys2Proof.Machine

/-- The tile's column and row in its region. -/
def tileIJ (t : Nat) : Nat × Nat := (tileX t % 24, tileY t % 24)

/-- A physical tile joins its region's known defects; past 64 tiles the stored record is FENCED instead (17 R540).
`row`: the threshold's row of 18 T18.3. -/
def State.addKnown (s : State) (r : Nat) (ij : Nat × Nat) (row : Nat) : State :=
  let g := s.rg r
  let p := placeTile g.place.record ij.1 ij.2
  if g.place.known.contains p then s
  else
    let s1 := s.updR r (fun x => { x with place := { x.place with
      knownPending := satInc x.place.knownPending
      known := if x.place.known.length < 64 then x.place.known ++ [p] else x.place.known
      stored := if x.place.known.length < 64 then x.place.stored
        else withBit (if bitAt x.place.stored 127 then x.place.stored else x.place.record) 125 true } })
    let s2 := { s1 with ras := { s1.ras with knownAdded := s1.ras.knownAdded + 1 } }
    (s2.addRecord r 9 (some ij) 0).postRegion r 0x1002 (pack [(5, p.1), (5, p.2), (4, row)])

/-- A fault of a tile at a moment: the times within the window, and whether the count reached its threshold (18 T18.3). Rows 0 tile
logic, 1 SRAM double, 2 SRAM single, 3 slice double. -/
def State.tileFault (s : State) (t row : Nat) : State :=
  let r := tileRegion t
  let now := s.cad.count.toNat
  let win := if row = 2 then 3600000000 else 86400000000
  let need := if row = 2 then 1001 else 2
  let key := tileInRegion t * 4 + row
  let times := (tget [] (s.rg r).flt.tileTimes key).filter (fun x => decide (x ≤ now) && decide (now < x + win))
  let l := (times ++ [now])
  let s1 := s.updR r (fun g => { g with flt := { g.flt with
    tileTimes := tset g.flt.tileTimes key (if need ≤ l.length then [] else l) } })
  if need ≤ l.length then
    (if row = 2 then s1.addRecord r 4 (some (tileIJ t)) 0 else s1).addKnown r (tileIJ t) row
  else s1

/-- ECC finds an SRAM word bad: corrected and counted, or its granule poisoned with a record (05 R161, 18 T18.2). -/
def State.sramEcc (s : State) (t a : Nat) (f : EccFind) : State :=
  let r := tileRegion t
  match f with
  | .none => s
  | .single => (s.updR r (fun g => { g with flt := { g.flt with sramCe := g.flt.sramCe + 1 } })).tileFault t 2
  | .double =>
    (((s.updR r (fun g => { g with flt := { g.flt with sramUe := satInc g.flt.sramUe } })).setGst t (a / 256) .poisoned).addRecord r 1
      (some (tileIJ t)) a).tileFault t 1

/-- The page of a partition's range that holds a slot, with the home shared pages named by no page number. -/
def State.pageOfPpa (s : State) (n ppa : Nat) : Option Nat :=
  ((s.pt n).mem.pages.find? (fun (e : Nat × Pte) => decide (e.2.ppa = some ppa))).map (fun (e : Nat × Pte) => e.1)

/-- The page group and granule of a page that a slice offset of a tile holds. -/
def slotPlace (t off : Nat) : Nat × Nat :=
  let i := tileX t % 24
  let j := tileY t % 24
  (mkPpa (tileRegion t) (j / 8 * 3 + i / 8) (off / 0x8000), off % 0x8000 / 256 * 64 + j % 8 * 8 + i % 8)

/-- ECC finds a slice word bad (10 R339, 18 R559, R560): a pool slot counts for its retirement, a tile-private one for its tile. -/
def State.sliceEcc (s : State) (t off : Nat) (f : EccFind) : State :=
  let r := tileRegion t
  match f with
  | .none => s
  | .single => s.updR r (fun g => { g with flt := { g.flt with sliceCe := g.flt.sliceCe + 1 } })
  | .double =>
    let pl := slotPlace t off
    let s1 := ((s.updR r (fun g => { g with flt := { g.flt with sliceUe := satInc g.flt.sliceUe } })).setSgst t (off / 256) .poisoned).addRecord
      r 2 (some (tileIJ t)) off
    match s.owner r with
    | none => s1.tileFault t 3
    | some n =>
      let s2 := s1.updM n (fun m => { m with t1Poisoned := satInc m.t1Poisoned })
      if off / 0x8000 < (s.pt n).mem.privateSlots then s2.tileFault t 3
      else
        let key := ppaGroup pl.1 * 384 + off / 0x8000
        let s3 := s2.updR r (fun g => { g with flt := { g.flt with slotUe := tset g.flt.slotUe key (tget 0 g.flt.slotUe key + 1) } })
        let s4 := if (s3.usedPpas n).contains pl.1 then s3 else s3.freeSlot pl.1
        match s.pageOfPpa n pl.1 with
        | some page => s4.postPart n 0x0805 (pack [(32, page), (32, pl.2)])
        | none => s4

/-- A parity error of tile logic counts and is recorded (18 R558). -/
def State.logicFault (s : State) (t a : Nat) : State :=
  let r := tileRegion t
  ((s.updR r (fun g => { g with flt := { g.flt with tileLogic := satInc g.flt.tileLogic } })).addRecord r 3 (some (tileIJ t)) a).tileFault t 0

end Sys2Proof.Machine
end

