-- ==== Sys2Proof/Machine/Vector.lean ====
section
/-! DEFINITION. What the vector unit's instructions do when they begin: lanes, predicates, conversions, loads and stores
(06 R202-R205, 07 R227-R236). -/
namespace Sys2Proof.Machine

/-- How an exception found by a queued instruction reads (06 R193): code, ADDR, DETAIL and the stream's status. -/
structure QExc where
  code : Nat
  addr : Nat
  detail : Nat := 0
  stream : Nat := 0
deriving DecidableEq, Repr

/-- What a queued instruction does as it begins: the new state with its flags and its transfer, an exception, or it cannot begin yet. -/
inductive Eff where
  | done (s : State) (fl : Fl) (xfer : Option Nat)
  | exc (e : QExc)
  | wait (s : State)
deriving DecidableEq, Repr

def excMisaligned (a : Nat) : Eff := .exc { code := 2, addr := a }
def excRange (a : Nat) : Eff := .exc { code := 3, addr := a }
def excProgram (a : Nat) : Eff := .exc { code := 4, addr := a }
def excTileRange (a : Nat) : Eff := .exc { code := 6, addr := a }
def excTapConfig (a : Nat) : Eff := .exc { code := 7, addr := a }
def excPoison : Eff := .exc { code := 12, addr := 0 }

/-- An SRAM access of `n` bytes at `a`: alignment, range, and for a write program banks, in the order of 06 R193. -/
def TileSt.sramCheck (x : TileSt) (a n align : Nat) (write : Bool) : Option Eff :=
  if a % align ≠ 0 then some (excMisaligned a)
  else if sramSize < a + n then some (excRange (max a sramSize))
  else if write && x.inProgram a n then some (excProgram a)
  else none

/-- A tile's registers change; nothing else does. -/
def Eff.tile (s : State) (t : Nat) (r : TileSt × Fl) : Eff := .done (s.setT t r.1) r.2 none

/-! ### Predicated lanes (06 R202) -/

/-- A result lane: value, flags, poison. -/
abbrev LaneOut := W32 × Fl × Bool

/-- Selected lanes take their result; the others keep their value, or become 0 with PZ = 1. Flags come from selected lanes. -/
def TileSt.vecWrite (x : TileSt) (v : VArgs) (res : Nat → LaneOut) : TileSt × Fl :=
  let p := x.pGet v.pg.toNat
  let old := x.vGet v.vd.toNat
  let bad := x.vBad v.vd.toNat
  let out : List LaneOut := (List.range 64).map (fun l =>
    if p.getLsbD l then res l else if v.pz then (0, 0, false) else (lane old l, 0, bad.getLsbD l))
  (x.vSet v.vd.toNat (ofLanes (out.map (fun (o : LaneOut) => o.1)))
      (if x.pBad v.pg.toNat then BitVec.allOnes 64 else maskOf (out.map (fun (o : LaneOut) => o.2.2))),
    out.foldl (fun f o => f ||| o.2.1) 0)

def TileSt.ln (x : TileSt) (r : BitVec 5) (l : Nat) : W32 := lane (x.vGet r.toNat) l
def TileSt.lnBad (x : TileSt) (r : BitVec 5) (l : Nat) : Bool := (x.vBad r.toNat).getLsbD l

/-- VF (06 T6.11): 0 VADD, 1 VSUB, 2 VMUL, 3 VFMA, 4 VFMS, 5 VMIN, 6 VMAX, 7 VABS, 8 VNEG. -/
def vfLane (fn mode : Nat) (a b c : W32) : W32 × Fl :=
  match fn with
  | 0 => fp32Add mode a b
  | 1 => fp32Sub mode a b
  | 2 => fp32Mul mode a b
  | 3 => fp32Fma mode false a b c
  | 4 => fp32Fma mode true a b c
  | 5 => (fp32Min a b, 0)
  | 6 => (fp32Max a b, 0)
  | 7 => (a &&& 0x7FFFFFFF, 0)
  | _ => (a ^^^ 0x80000000, 0)

/-- VI (06 T6.11): 0 VIADD … 12 VMAXU. -/
def viLane (fn : Nat) (a b : W32) : W32 :=
  match fn with
  | 0 => a + b
  | 1 => a - b
  | 2 => a * b
  | 3 => a &&& b
  | 4 => a ||| b
  | 5 => a ^^^ b
  | 6 => a <<< (b.toNat % 32)
  | 7 => a >>> (b.toNat % 32)
  | 8 => a.sshiftRight (b.toNat % 32)
  | 9 => if a.slt b then a else b
  | 10 => if b.slt a then a else b
  | 11 => if a.ult b then a else b
  | _ => if b.ult a then a else b

def TileSt.vf (x : TileSt) (fn mode : Nat) (v : VArgs) : TileSt × Fl :=
  x.vecWrite v (fun l =>
    let r := vfLane fn mode (x.ln v.va l) (x.ln v.vb l) (x.ln v.vc l)
    (r.1, r.2, x.lnBad v.va l || (decide (fn < 7) && x.lnBad v.vb l) || ((fn == 3 || fn == 4) && x.lnBad v.vc l)))

def TileSt.vsf (x : TileSt) (fn : Nat) (v : VArgs) : TileSt × Fl :=
  x.vecWrite v (fun l =>
    let r := vsfLane fn (fun f a => (Config.vsfChoice f (BitVec.ofNat 32 a)).toNat) (x.ln v.va l)
    (r.1, r.2, x.lnBad v.va l))

def TileSt.vi (x : TileSt) (fn : Nat) (v : VArgs) : TileSt × Fl :=
  x.vecWrite v (fun l => (viLane fn (x.ln v.va l) (x.ln v.vb l), 0, x.lnBad v.va l || x.lnBad v.vb l))

/-! ### Compare, select, reduce, permute, move (06 R203, T6.12) -/

/-- One integer comparison: 0 EQ, 1 NE, 2 LT, 3 LE, 4 GT, 5 GE. -/
def intCmp (fn : Nat) (unsigned : Bool) (a b : W32) : Bool :=
  let lt := fun (p q : W32) => if unsigned then p.ult q else p.slt q
  match fn with
  | 0 => a == b
  | 1 => a != b
  | 2 => lt a b
  | 3 => !lt b a
  | 4 => lt b a
  | _ => !lt a b

/-- VCMP: selected lanes compare, the others give 0. -/
def TileSt.vcmp (x : TileSt) (fn ty : Nat) (v : VArgs) : TileSt × Fl :=
  let p := x.pGet v.pg.toNat
  let out := (List.range 64).map (fun l =>
    if p.getLsbD l then
      (if ty = 0 then fp32Cmp fn (x.ln v.va l) (x.ln v.vb l) else (intCmp fn (decide (ty = 2)) (x.ln v.va l) (x.ln v.vb l), 0))
    else (false, 0))
  (x.pSet (v.vd.toNat % 8) (maskOf (out.map (fun (o : Bool × Fl) => o.1)))
      (x.pBad v.pg.toNat || (p &&& (x.vBad v.va.toNat ||| x.vBad v.vb.toNat)) != 0), out.foldl (fun f o => f ||| o.2) 0)

def TileSt.vsel (x : TileSt) (v : VArgs) : TileSt × Fl :=
  let p := x.pGet v.pg.toNat
  let src := fun l => if p.getLsbD l then v.va else v.vb
  (x.vSet v.vd.toNat (ofLanes ((List.range 64).map (fun l => x.ln (src l) l)))
    (if x.pBad v.pg.toNat then BitVec.allOnes 64 else maskOf ((List.range 64).map (fun l => x.lnBad (src l) l))), 0)

/-- One level of the fixed tree: 2j with 2j + 1; a lone selected member passes through. -/
def redLevel (f : W32 → W32 → W32 × Fl) : List (Option W32) → List (Option W32) × Fl
  | a :: b :: r =>
    let t := redLevel f r
    match a, b with
    | some x, some y => let z := f x y
                        (some z.1 :: t.1, z.2 ||| t.2)
    | some x, none => (some x :: t.1, t.2)
    | none, y => (y :: t.1, t.2)
  | l => (l, 0)

/-- The tree over 64 lanes. -/
def redTree (f : W32 → W32 → W32 × Fl) : Nat → List (Option W32) → Option W32 × Fl
  | 0, l => (match l with
      | x :: _ => x
      | [] => none, 0)
  | n + 1, l =>
    let t := redLevel f l
    let u := redTree f n t.1
    (u.1, t.2 ||| u.2)

/-- VRED: 0 RSUM, 1 RMAX, 2 RMIN, 3 RISUM over the selected lanes, with the result of an empty selection. -/
def redValue (fn : Nat) (l : List (Option W32)) : W32 × Fl :=
  let f := fun (a b : W32) => match fn with
    | 0 => fp32Add 0 a b
    | 1 => (fp32Max a b, (0 : Fl))
    | 2 => (fp32Min a b, 0)
    | _ => (a + b, 0)
  let e : W32 := match fn with
    | 1 => 0xFF800000
    | 2 => 0x7F800000
    | _ => 0
  let r := redTree f 6 l
  (r.1.getD e, r.2)

def TileSt.vred (x : TileSt) (fn : Nat) (v : VArgs) : TileSt × Fl :=
  let p := x.pGet v.pg.toNat
  let r := redValue fn ((List.range 64).map (fun l => if p.getLsbD l then some (x.ln v.va l) else none))
  (x.sSet v.vd.toNat (r.1.setWidth 64) (x.pBad v.pg.toNat || p &&& x.vBad v.va.toNat != 0), r.2)

def TileSt.vperm (x : TileSt) (fn : Nat) (v : VArgs) (imm : Byte) : TileSt × Fl :=
  x.vecWrite v (fun l =>
    let k := match fn with
      | 0 => (x.ln v.vb l).toNat % 64
      | 1 => (l + (x.sGet v.vb.toNat).toNat) % 64
      | _ => imm.toNat % 64
    (x.ln v.va k, 0, x.lnBad v.va k || (fn == 0 && x.lnBad v.vb l)))

/-- VMOV: 0 FROMS, 1 TOS, 2 INSERT, 3 IOTA. -/
def TileSt.vmov (x : TileSt) (fn : Nat) (v : VArgs) (imm : Byte) : TileSt × Fl :=
  let k := imm.toNat % 64
  match fn with
  | 0 => x.vecWrite v (fun _ => ((x.sGet v.va.toNat).setWidth 32, 0, x.sBad v.va.toNat))
  | 1 => (x.sSet v.vd.toNat ((x.ln v.va k).setWidth 64) (x.lnBad v.va k), 0)
  | 2 =>
    let out := (List.range 64).map (fun l =>
      if l = k then ((x.sGet v.va.toNat).setWidth 32, x.sBad v.va.toNat) else (x.ln v.vd l, x.lnBad v.vd l))
    (x.vSet v.vd.toNat (ofLanes (out.map (fun (o : W32 × Bool) => o.1))) (maskOf (out.map (fun (o : W32 × Bool) => o.2))), 0)
  | _ => x.vecWrite v (fun l => (BitVec.ofNat 32 l, 0, false))

/-! ### Conversions (06 R204, T6.13; 07 R231-R236) -/

/-- The rounding mode of a conversion (06 R204). -/
def effMode (rnd : Nat) (rmode : BitVec 3) : Nat :=
  match rnd with
  | 0 => rmode.toNat
  | 1 => 0
  | 2 => 1
  | _ => 4

/-- VCVT types: 0 FP32 to signed, 1 signed to FP32, 2 unsigned to FP32, 3 FP32 to unsigned. Mode 4 acts as RNE. -/
def vcvtLane (ty mode : Nat) (a : W32) : W32 × Fl :=
  match ty with
  | 0 => toInt32 (plainMode mode) 0 false (.ofWord a)
  | 1 => ofInt32 (plainMode mode) false a
  | 2 => ofInt32 (plainMode mode) true a
  | _ => toInt32 (plainMode mode) 0 true (.ofWord a)

def TileSt.vcvt (x : TileSt) (ty mode : Nat) (v : VArgs) : TileSt × Fl :=
  x.vecWrite v (fun l =>
    let r := vcvtLane ty mode (x.ln v.va l)
    (r.1, r.2, x.lnBad v.va l))

/-- Bits of one part of a register for a format code (06 R204): 64 elements. -/
def partBits (code : Nat) : Nat := 64 * elemBits code

/-- How many parts a register has (06 R204). -/
def partCount (code : Nat) : Nat := 2048 / partBits code

/-- The element codes of part `pos`. -/
def partElems (code pos : Nat) (v : BitVec 2048) : List Nat :=
  (List.range 64).map (fun l => (v.toNat >>> (pos * partBits code + l * elemBits code)) % 2 ^ elemBits code)

/-- Lanes (32 bits) that hold bits of element `l` of part `pos` contain poison when the element does. -/
def partPoison (code pos : Nat) (bad : Nat → Bool) (k : Nat) : Bool :=
  (List.range 64).any (fun l => bad l &&
    decide (pos * partBits code + l * elemBits code < 32 * (k + 1)) &&
    decide (32 * k < pos * partBits code + (l + 1) * elemBits code))

/-- Part `pos` of a register takes 64 element codes; the other parts keep. -/
def TileSt.putPart (x : TileSt) (vd : Nat) (code pos : Nat) (elems : List Nat) (bad : Nat → Bool) : TileSt :=
  let w := partBits code
  let old := (x.vGet vd).toNat
  let new := pack (elems.map (fun e => (elemBits code, e)))
  let lo := pos * w
  let v := old % 2 ^ lo + 2 ^ lo * new + 2 ^ (lo + w) * (old >>> (lo + w))
  let pb := (List.range 64).map (fun k =>
    if lo ≤ 32 * k ∧ 32 * (k + 1) ≤ lo + w then partPoison code pos bad k else (x.vBad vd).getLsbD k)
  x.vSet vd (BitVec.ofNat 2048 v) (maskOf pb)

/-- VNARROW: every lane is converted; PG selects only the flags. Lane l draws counter c + l. -/
def TileSt.vnarrow (x : TileSt) (ty mode : Nat) (sat : Bool) (seed ctr : W64) (v : VArgs) (pos : Nat) : TileSt × Fl :=
  let p := x.pGet v.pg.toNat
  let out := (List.range 64).map (fun l =>
    (fmtOf ty).encode mode sat (srBits seed (ctr + BitVec.ofNat 64 l)) (.ofWord (x.ln v.va l)))
  (x.putPart v.vd.toNat ty pos (out.map (fun (o : Nat × Fl) => o.1)) (x.lnBad v.va),
    ((List.range 64).zip out).foldl (fun f o => if p.getLsbD o.1 then f ||| o.2.2 else f) 0)

def TileSt.vwiden (x : TileSt) (ty : Nat) (v : VArgs) (pos : Nat) : TileSt × Fl :=
  let es := partElems ty pos (x.vGet v.va.toNat)
  let bad := fun l => let lo := pos * partBits ty + l * elemBits ty
                      x.lnBad v.va (lo / 32) || x.lnBad v.va ((lo + elemBits ty - 1) / 32)
  x.vecWrite v (fun l =>
    let r := widenElem ty (es.getD l 0)
    (r.1, r.2, bad l))

/-- VMXQ: two blocks; codes into part POS of vd, scales into sVC. A poisoned lane poisons its block and the scales. -/
def TileSt.vmxq (x : TileSt) (ty mode : Nat) (seed ctr : W64) (v : VArgs) (pos : Nat) : TileSt × Fl :=
  let p := x.pGet v.pg.toNat
  let blk := fun b =>
    let ls := (List.range 32).map (fun l => 32 * b + l)
    mxBlock ty mode (ls.map (fun l => srBits seed (ctr + BitVec.ofNat 64 l))) (ls.map (fun l => FVal.ofWord (x.ln v.va l)))
  let b0 := blk 0
  let b1 := blk 1
  let bad := fun b => (List.range 32).any (fun l => x.lnBad v.va (32 * b + l))
  let sel := fun b => (List.range 32).any (fun l => p.getLsbD (32 * b + l))
  let elems := b0.1 ++ b1.1
  let fl := ((List.range 64).zip elems).foldl (fun f (o : Nat × Nat × Fl) => if p.getLsbD o.1 then f ||| o.2.2 else f) 0
  let y := x.putPart v.vd.toNat ty pos (elems.map (fun (o : Nat × Fl) => o.1)) (fun l => bad (l / 32))
  (y.sSet v.vc.toNat (BitVec.ofNat 64 (b0.2.1 + 256 * b1.2.1)) (bad 0 || bad 1),
    fl ||| (if sel 0 then b0.2.2 else 0) ||| (if sel 1 then b1.2.2 else 0))

def TileSt.vmxdq (x : TileSt) (ty : Nat) (v : VArgs) (pos : Nat) : TileSt × Fl :=
  let es := partElems ty pos (x.vGet v.va.toNat)
  let sc := (x.sGet v.vb.toNat).toNat
  let bad := fun l => let lo := pos * partBits ty + l * elemBits ty
                      x.lnBad v.va (lo / 32) || x.lnBad v.va ((lo + elemBits ty - 1) / 32) || x.sBad v.vb.toNat
  x.vecWrite v (fun l =>
    let r := mxWiden ty (es.getD l 0) (if l < 32 then sc % 256 else sc / 256 % 256)
    (r.1, r.2, bad l))

/-! ### Loads and stores (06 R205) -/

/-- The address an access uses: aA with POSTINC, else aA + OFF. -/
def TileSt.memAddr (x : TileSt) (m : MemArgs) : Nat :=
  (if m.postinc then x.aGet m.a.toNat else x.aGet m.a.toNat + m.off.signExtend 64).toNat

def TileSt.memPost (x : TileSt) (m : MemArgs) : TileSt :=
  if m.postinc then x.aSet m.a.toNat (x.aGet m.a.toNat + m.off.signExtend 64) else x

/-- Bytes a scalar access moves. -/
def memBytes (m : MemArgs) : Nat := 2 ^ m.size.toNat

/-- Bytes a vector access moves, and where its part starts in the register. -/
def vecBytes (m : MemArgs) : Nat := 64 * 2 ^ m.size.toNat
def vecPart (m : MemArgs) : Nat := if m.size = 0 then 64 * m.part.toNat else if m.size = 1 then 128 * (m.part.toNat % 2) else 0

def State.ld (s : State) (t : Nat) (m : MemArgs) : Eff :=
  let x := s.tile t
  let a := x.memAddr m
  let n := memBytes m
  match x.sramCheck a n n false with
  | some e => e
  | none =>
    let v := leNat (s.sramBytes t a n)
    let w : W64 := if m.sext then BitVec.ofInt 64 (BitVec.ofNat (8 * n) v).toInt else BitVec.ofNat 64 v
    .done (s.setT t ((x.memPost m).sSet m.d.toNat w (s.sramBad t a n))) 0 none

def State.st (s : State) (t : Nat) (m : MemArgs) : Eff :=
  let x := s.tile t
  let a := x.memAddr m
  let n := memBytes m
  match x.sramCheck a n n true with
  | some e => e
  | none => .done ((s.setT t (x.memPost m)).unitWrite t a (leBytes n (x.sGet m.d.toNat).toNat) (x.sBad m.d.toNat)) 0 none

/-- A poisoned granule marks the whole register poisoned (05 R165). -/
def State.vld (s : State) (t : Nat) (m : MemArgs) : Eff :=
  let x := s.tile t
  let a := x.memAddr m
  let n := vecBytes m
  match x.sramCheck a n 64 false with
  | some e => e
  | none =>
    let lo := 8 * vecPart m
    let old := (x.vGet m.d.toNat).toNat
    let v := old % 2 ^ lo + 2 ^ lo * leNat (s.sramBytes t a n) + 2 ^ (lo + 8 * n) * (old >>> (lo + 8 * n))
    let bad : W64 := if s.sramBad t a n then BitVec.allOnes 64
      else maskOf ((List.range 64).map (fun k => (x.vBad m.d.toNat).getLsbD k && !(decide (lo ≤ 32 * k) && decide (32 * k < lo + 8 * n))))
    .done (s.setT t ((x.memPost m).vSet m.d.toNat (BitVec.ofNat 2048 v) bad)) 0 none

def State.vst (s : State) (t : Nat) (m : MemArgs) : Eff :=
  let x := s.tile t
  let a := x.memAddr m
  let n := vecBytes m
  match x.sramCheck a n 64 true with
  | some e => e
  | none =>
    let lo := 8 * vecPart m
    let bad := (List.range 64).any (fun k =>
      decide (lo ≤ 32 * k) && decide (32 * k < lo + 8 * n) && (x.vBad m.d.toNat).getLsbD k)
    .done ((s.setT t (x.memPost m)).unitWrite t a (leBytes n ((x.vGet m.d.toNat).toNat >>> lo)) bad) 0 none

end Sys2Proof.Machine
end

