-- ==== Sys2Proof/Machine/Hash.lean ====
section
/-! DEFINITION. The hash accumulator: HACC, HGET, HCFG, HDRAIN, HCLR (08 R264-R275, 06 R211). -/
namespace Sys2Proof.Machine

/-- The set of a key (08 R264). -/
def hashSet (key : W32) : Nat := ((key * 0x9E3779B1) >>> 23).toNat

def Hash.ways (h : Hash) (k : Nat) : List HashEntry := tget [] h.sets k
def Hash.setWays (h : Hash) (k : Nat) (l : List HashEntry) : Hash := { h with sets := if l.isEmpty then tdel h.sets k else tset h.sets k l }

/-- The partition that owns a tile's region. -/
def State.partOf (s : State) (t : Nat) : Nat := (s.owner (tileRegion t)).getD 0

/-- Slots 0 … PRIVATE_SLOTS − 1 of a tile's slice are its own (10 R316). -/
def State.privateEnd (s : State) (t : Nat) : Nat := (s.pt (s.partOf t)).mem.privateSlots * 0x8000

/-- A page of a RANGE ring or drain area: mapped in T1 to the partition's own memory (08 R267). -/
def State.ownT1 (s : State) (n page : Nat) : Bool :=
  match s.homeOf n page with
  | .anon e => e.ppa.isSome && !e.lost
  | _ => false

/-- Some place of a ring or area can be reached: slices always, the range while its page is mapped. -/
def State.placeOk (s : State) (t kind a n : Nat) : Bool :=
  decide (kind ≠ 3) || (pagesOf a n).all (fun p => s.ownT1 (s.partOf t) p)

/-- A 64 B line written to SRAM (kind 0), the slice (2) or the range (3). -/
def State.putLine (s : State) (t kind a : Nat) (d : List Byte) (bad : Bool) : State :=
  let p : Piece := { data := d, st := if bad then .poisoned else .local' }
  match kind with
  | 0 => s.unitWrite t a d bad
  | 2 => (s.slicePut t a p).1
  | _ =>
    match s.rangeWrite (s.partOf t) a p (some (tileRegion t)) with
    | .done u _ => u
    | .quota u => u
    | .refused => s

/-- A line of the ring as it stands in memory, with its poison. -/
def State.getLine (s : State) (t kind a : Nat) : List Byte × Bool :=
  if kind = 2 then (s.sliceBytes t a 64, s.sliceBad t a 64)
  else match s.rangeRead (s.partOf t) a 64 (.hash t) with
    | .data p => (p.data, p.st == .poisoned)
    | _ => ([], false)

/-- A record of the ring: key, value, poison. -/
def parseLine (l : List Byte × Bool) : List HashEntry :=
  (List.range 8).map (fun i => {
    key := BitVec.ofNat 32 (leAt l.1 (8 * i) 4), value := BitVec.ofNat 32 (leAt l.1 (8 * i + 4) 4), poison := l.2 })

/-- The ring's records in the order they were spilled, the buffer last (08 R268). -/
def State.ringRecords (s : State) (t : Nat) : List HashEntry :=
  let h := (s.tile t).hash
  (List.range h.written).flatMap (fun i => parseLine (s.getLine t h.kind (h.base + 64 * i))) ++ h.buffer

/-- The ring's lines can all be read. -/
def State.ringOk (s : State) (t : Nat) : Bool :=
  let h := (s.tile t).hash
  s.placeOk t h.kind h.base (64 * h.written)

/-! ### HACC (08 R265-R269) -/

/-- A victim leaves its set: spilled to the buffer, a full buffer to the ring, or dropped; none: the line's page is not mapped. -/
def State.spill (s : State) (t : Nat) (v : HashEntry) : Option State :=
  let h := (s.tile t).hash
  if h.kind = 0 ∨ (h.lines ≤ h.written ∧ h.buffer.length = 7) then
    some (s.updT t (fun x => { x with hash := { x.hash with dropped := satInc x.hash.dropped } }))
  else if h.buffer.length < 7 then
    some (s.updT t (fun x => { x with hash := { x.hash with buffer := x.hash.buffer ++ [v] } }))
  else
    let a := h.base + 64 * h.written
    if !s.placeOk t h.kind a 64 then none
    else
      let recs := h.buffer ++ [v]
      let d := recs.flatMap (fun e => leBytes 4 e.key.toNat ++ leBytes 4 e.value.toNat)
      some ((s.putLine t h.kind a d (recs.any (·.poison))).updT t (fun x => { x with hash := { x.hash with buffer := [], written := h.written + 1 } }))

/-- One lane of HACC: key and value with its poison. -/
def State.haccLane (s : State) (t : Nat) (key val : W32) (bad : Bool) : Option (State × Fl) :=
  let k := hashSet key
  let ways := (s.tile t).hash.ways k
  let set := fun (u : State) (l : List HashEntry) => u.updT t (fun x => { x with hash := x.hash.setWays k l })
  match ways.find? (fun e => e.key == key) with
  | some e =>
    let r := fp32Add 0 e.value val
    some (set s ({ e with value := r.1, poison := e.poison || bad } :: ways.filter (fun w => w.key != key)), r.2)
  | none =>
    let new : HashEntry := { key := key, value := val, poison := bad }
    if ways.length < 4 then some (set s (new :: ways), 0)
    else match ways.getLast? with
      | none => some (s, 0)
      | some v =>
        match s.spill t v with
        | none => none
        | some u => some (set (u.updT t (fun x => { x with hash := { x.hash with spilled := insertNat x.hash.spilled k } })) (new :: ways.dropLast), 0)

/-- The SQ head waits for a page of its ring (08 R267, 10 T10.5 cause 6). -/
def State.hashWait (s : State) (t : Nat) : Eff := .wait (s.updT t (fun x => { x with hashStall := true })).stallSync

def State.hacc (s : State) (t : Nat) (v : VArgs) : Eff :=
  let x := s.tile t
  let r := (List.range 64).foldl (fun (o : Option (State × Fl)) l =>
    match o with
    | none => none
    | some (u, f) =>
      if (x.pGet v.pg.toNat).getLsbD l then
        (u.haccLane t (x.ln v.va l) (x.ln v.vb l) (x.lnBad v.vb l || x.lnBad v.va l || x.pBad v.pg.toNat)).map (fun (p : State × Fl) => (p.1, f ||| p.2))
      else some (u, f)) (some (s, 0))
  match r with
  | none => s.hashWait t
  | some (u, f) => .done u f none

/-! ### Merge, HGET (08 R270, R271) -/

/-- The merged value of terms in order: the first exactly, each later one added in FP32 under RNE. -/
def mergeTerms : List HashEntry → Option (W32 × Fl × Bool)
  | [] => none
  | e :: r => some (r.foldl (fun (a : W32 × Fl × Bool) x =>
      let z := fp32Add 0 a.1 x.value
      (z.1, a.2.1 ||| z.2, a.2.2 || x.poison)) (e.value, 0, e.poison))

/-- The terms of a key: its ring records, its resident entry last. -/
def Hash.terms (h : Hash) (ring : List HashEntry) (key : W32) : List HashEntry :=
  ring.filter (fun e => e.key == key) ++ ((h.ways (hashSet key)).filter (fun e => e.key == key))

def State.hget (s : State) (t : Nat) (v : VArgs) : Eff :=
  let x := s.tile t
  let p := x.pGet v.pg.toNat
  let needs := (List.range 64).any (fun l => p.getLsbD l && x.hash.spilled.contains (hashSet (x.ln v.va l)))
  if needs && !s.ringOk t then s.hashWait t
  else
    let ring := if needs then s.ringRecords t else []
    let out : List (W32 × Bool × Bool) := (List.range 64).map (fun l =>
      if p.getLsbD l then
        match mergeTerms (x.hash.terms (if x.hash.spilled.contains (hashSet (x.ln v.va l)) then ring else []) (x.ln v.va l)) with
        | some m => (m.1, true, m.2.2 || x.lnBad v.va l)
        | none => (0, false, x.lnBad v.va l)
      else (0, false, false))
    let y := x.vSet v.vd.toNat (ofLanes (out.map (fun (o : W32 × Bool × Bool) => o.1))) (if x.pBad v.pg.toNat then BitVec.allOnes 64 else maskOf (out.map (fun (o : W32 × Bool × Bool) => o.2.2)))
    .done (s.setT t (y.pSet (v.vc.toNat % 8) (maskOf (out.map (fun (o : W32 × Bool × Bool) => o.2.1)))
      (x.pBad v.pg.toNat || p &&& x.vBad v.va.toNat != 0))) 0 none

/-! ### HCFG, HDRAIN, HCLR (08 R267, R272-R274) -/

/-- A spill record that keeps 08 T8.9. -/
def State.spillRecordOk (s : State) (t : Nat) (b : List Byte) : Bool :=
  let kind := leAt b 0 1
  let base := leAt b 8 8
  let lines := leAt b 16 4
  decide (leAt b 1 7 = 0) && decide (leAt b 20 44 = 0) &&
  (match kind with
   | 0 => decide (base = 0) && decide (lines = 0)
   | 2 => decide (base % 64 = 0) && decide (base < s.privateEnd t) && decide (1 ≤ lines) && decide (lines ≤ (s.privateEnd t - base) / 64)
   | 3 => decide (base % 64 = 0) && decide (1 ≤ lines) && decide (lines ≤ 16777216) && decide (base + 64 * lines ≤ 2 ^ 48) &&
     (pagesOf base (64 * lines)).all (fun p => s.ownT1 (s.partOf t) p)
   | _ => false)

def State.hcfg (s : State) (t : Nat) (aa : BitVec 4) : Eff :=
  let x := s.tile t
  let a := (x.aGet aa.toNat).toNat
  match x.sramCheck a 64 64 false with
  | some e => e
  | none =>
    let b := s.sramBytes t a 64
    if 0 < x.hash.written ∨ !x.hash.buffer.isEmpty ∨ !s.spillRecordOk t b then excTapConfig a
    else .done (s.setT t { x with hash := { x.hash with
      kind := leAt b 0 1, base := leAt b 8 8, lines := leAt b 16 4, written := 0, buffer := [], dropped := 0 } }) 0 none

/-- Clear the entries, SPILLED, the ring and DROPPED; the spill configuration stays (08 R274). -/
def Hash.clear (h : Hash) : Hash := { h with sets := [], spilled := [], written := 0, buffer := [], dropped := 0 }

def State.hclr (s : State) (t : Nat) : Eff := .done (s.updT t (fun x => { x with hash := x.hash.clear })) 0 none

def Hash.entries (h : Hash) : List HashEntry := h.sets.flatMap (fun (e : Nat × List HashEntry) => e.2)

/-- Keys ascending, each once. -/
def hashKeys (h : Hash) (ring : List HashEntry) : List Nat := (ring ++ h.entries).foldl (fun l e => insertNat l e.key.toNat) []

/-- The fields of a drain record that keep 08 T8.10, apart from the extent of its area. -/
def State.drainRecordOk (s : State) (t : Nat) (b : List Byte) : Bool :=
  let kind := leAt b 0 1
  let flags := leAt b 1 1
  let dest := leAt b 8 8
  let cap := leAt b 16 4
  let res := leAt b 20 4
  (kind == 0 || kind == 2 || kind == 3) && decide (flags ≤ 3) && decide (leAt b 2 6 = 0) && decide (leAt b 24 40 = 0) &&
    decide (dest % 64 = 0) && decide (cap % 8 = 0) && decide (8 ≤ cap) &&
    (if flags / 2 = 1 then decide (res % 8 = 0) && decide (res + 8 ≤ sramSize) && !(s.tile t).inProgram res 8 else decide (res = 0)) &&
    (decide (kind ≠ 3) || (decide (dest + 8 * cap ≤ 2 ^ 48) && (pagesOf dest (8 * cap)).all (fun p => s.ownT1 (s.partOf t) p)))

/-- Lines of 8 pairs. -/
def pairLines : Nat → List (W32 × W32 × Bool) → List (List Byte × Bool)
  | 0, _ => []
  | n + 1, l =>
    if l.isEmpty then []
    else
      let c := l.take 8
      let d := c.flatMap (fun e => leBytes 4 e.1.toNat ++ leBytes 4 e.2.1.toNat)
      (d ++ List.replicate (64 - d.length) 0, c.any (fun e => e.2.2)) :: pairLines n (l.drop 8)

/-- Scratch beyond the last line: values the program must not rely on (08 R273), free. -/
def State.scratch' (s : State) (t kind a n : Nat) : State :=
  ((List.range (n / 64)).foldl (fun u i =>
    u.putLine t kind (a + 64 * i) (leBytes 64 (Config.freeBits 512 (s.free + i)).toNat) false) s).takeFree (n / 64)

def State.hdrain (s : State) (t : Nat) (aa : BitVec 4) : Eff :=
  let x := s.tile t
  let a := (x.aGet aa.toNat).toNat
  match x.sramCheck a 64 64 false with
  | some e => e
  | none =>
    let b := s.sramBytes t a 64
    let kind := leAt b 0 1
    let dest := leAt b 8 8
    let cap := leAt b 16 4
    let h := x.hash
    let n := h.entries.length + 8 * h.written + h.buffer.length
    if cap < n then excRange n
    else if (kind = 0 ∧ sramSize < dest + 8 * cap) ∨ (kind = 2 ∧ s.privateEnd t < dest + 8 * cap) then excRange dest
    else if kind = 0 ∧ x.inProgram dest (8 * cap) then excProgram dest
    else if !s.drainRecordOk t b then excTapConfig a
    else if !s.ringOk t then s.hashWait t
    else
      let ring := s.ringRecords t
      let pairs := (hashKeys h ring).filterMap (fun k =>
        (mergeTerms (h.terms ring (BitVec.ofNat 32 k))).map (fun (m : W32 × Fl × Bool) => ((BitVec.ofNat 32 k : W32), m.1, m.2.2, m.2.1)))
      let fl := pairs.foldl (fun f p => f ||| p.2.2.2) (0 : Fl)
      let lines := pairLines pairs.length (pairs.map (fun p => (p.1, p.2.1, p.2.2.1)))
      let s1 := (List.range lines.length).foldl (fun u i =>
        let l := lines.getD i ([], false)
        u.putLine t kind (dest + 64 * i) l.1 l.2) s
      let s2 := s1.scratch' t kind (dest + 64 * lines.length) (8 * cap - 64 * lines.length)
      let s3 := if leAt b 1 1 / 2 = 1 then
          s2.unitWrite t (leAt b 20 4) (leBytes 4 pairs.length ++ leBytes 4 h.dropped.toNat) false
        else s2
      .done (if leAt b 1 1 % 2 = 1 then s3.updT t (fun y => { y with hash := y.hash.clear }) else s3) fl none

end Sys2Proof.Machine
end

