-- ==== Sys2Proof/Machine/Routes.lean ====
section
/-! DEFINITION. Routes between regions, wells, transit masks, key checks of the fabric (09 R287-R296, 02 R57, R58). -/
namespace Sys2Proof.Machine

/-- The regions an XY route enters, each with the side it is entered by: 0 E, 1 N, 2 W, 3 S (09 R287). -/
def xyHops (src dst : Nat) : List (Nat × Nat) :=
  let x0 := src % 12
  let y0 := src / 12
  let x1 := dst % 12
  let y1 := dst / 12
  (if x0 ≤ x1 then (List.range (x1 - x0)).map (fun k => (y0 * 12 + x0 + k + 1, 2))
   else (List.range (x0 - x1)).map (fun k => (y0 * 12 + (x0 - k - 1), 0))) ++
  (if y0 ≤ y1 then (List.range (y1 - y0)).map (fun k => ((y0 + k + 1) * 12 + x1, 3))
   else (List.range (y0 - y1)).map (fun k => ((y0 - k - 1) * 12 + x1, 1)))

/-- The regions a YX route enters. -/
def yxHops (src dst : Nat) : List (Nat × Nat) :=
  let mid := dst / 12 * 12 + src % 12
  xyHops src mid ++ xyHops mid dst

/-- A route's mode (09 T9.5) and waypoint, from the READY regions of the tables in force; before them every entry reads 0 and 0xFF. -/
def routeMode (ready : Option (List Nat)) (src dst : Nat) : Nat × Nat :=
  match ready with
  | none => (0, 0xFF)
  | some l =>
    let clear := fun (h : List (Nat × Nat)) => h.all (fun (e : Nat × Nat) => l.contains e.1)
    if !l.contains src ∨ !l.contains dst then (3, 0xFF)
    else if clear (xyHops src dst) then (0, 0xFF)
    else if clear (yxHops src dst) then (1, 0xFF)
    else
      let via := l.filter (fun w => clear (xyHops src w) && clear (yxHops w dst))
      match via[Config.waypoint src dst via.length % via.length]? with
      | some w => (2, w)
      | none => (3, 0xFF)

def State.routeMode (s : State) (src dst : Nat) : Nat × Nat := Sys2Proof.Machine.routeMode s.routeSet src dst

/-- The regions a route enters; none for UNREACHABLE. -/
def State.routeHops (s : State) (src dst : Nat) : List (Nat × Nat) :=
  match s.routeMode src dst with
  | (0, _) => xyHops src dst
  | (1, _) => yxHops src dst
  | (2, w) => xyHops src w ++ yxHops w dst
  | _ => []

/-- A route table leaves a region unreachable (09 R289). Routes inside the rectangle use none (09 R287). -/
def State.unreachable (s : State) (n src dst : Nat) : Bool :=
  !((s.pt n).regions.contains dst) && (s.routeMode src dst).1 == 3

/-- The wells of a port's quarters. -/
def State.portWells (s : State) (p : Nat) : List Nat := [(s.port p).cur0, (s.port p).cur1]

/-- The wells of a kind and number by their home assignment (01 T1.6): 4 a host link, 5 a flash link. -/
def wellsOf (use : Nat) (k : Option Nat) : List Nat :=
  (List.range 144).filter (fun i => decide ((homeWell i).use = use) && (k.isNone || decide (some (homeWell i).port = k)))

/-- The wells a partition's traffic reaches (09 R294). -/
def State.partWells (s : State) (n : Nat) : List Nat :=
  (s.portOwner.filter (fun (e : Nat × Nat) => decide (e.2 = n))).flatMap (fun (e : Nat × Nat) => s.portWells e.1) ++
    wellsOf 4 (some (s.pt n).hostLink) ++ (if s.hasFlash then wellsOf 5 none else [])

/-- The regions and sides the tree of a stream crosses on its way to its entry column, the well's SERVICE side first. -/
def Inst.hops (x : Inst) : List (Nat × Nat) :=
  let row := min (max x.row0 x.seg.ty0) x.seg.ty1
  (x.well, 4) :: xyHops x.well (row / 24 * 12 + x.ec / 24)

/-- The sides partition `n`'s keys cross in transit (09 R294): routes to and from its wells, its streams' paths. -/
def State.transitHops (s : State) (n : Nat) : List (Nat × Nat) :=
  let rs := (s.pt n).regions
  (s.partWells n).flatMap (fun w => (w, 4) :: rs.flatMap (fun r => s.routeHops w r ++ s.routeHops r w)) ++
    (s.insts.filter (fun x => decide (x.part = n))).flatMap Inst.hops

/-- RGN.TRANSIT of a region and side (09 T9.8): 0 E, 1 N, 2 W, 3 S, 4 SERVICE. -/
def State.transitMask (s : State) (r side : Nat) : BitVec 12 :=
  BitVec.ofNat 12 (pack ((List.range 12).map (fun n =>
    (1, (!(s.pt n).state.isFree && (s.transitHops n).contains (r, side)).toNat))))

/-- A boundary port admits a partition's own key: the owner's, or one of its transit set (09 R293). -/
def State.admitsAt (s : State) (n r side : Nat) : Bool :=
  decide (s.owner r = some n) || (s.transitHops n).contains (r, side)

/-- The first check point on an XY route that drops partition `n`'s key. -/
def State.keyBlock (s : State) (n src dst : Nat) : Option (Nat × Nat) :=
  (xyHops src dst).find? (fun (h : Nat × Nat) => !s.admitsAt n h.1 h.2)

/-- Flits admitted at the sides a route enters (09 T9.9). -/
def State.countFlits (s : State) (hops : List (Nat × Nat)) (n : Nat) : State :=
  hops.foldl (fun u (h : Nat × Nat) => u.updR h.1 (fun g => { g with
    fab := { g.fab with linkFlits := tset g.fab.linkFlits h.2 (tget 0 g.fab.linkFlits h.2 + BitVec.ofNat 64 n) } })) s

end Sys2Proof.Machine
end

