-- ==== Sys2Proof/Machine/Tensor.lean ====
section
/-! DEFINITION. What the dense tensor unit's instructions do when they begin: TMMA, TZERO, TDRAIN, TWADD (06 R206-R209,
07 R237-R243). -/
namespace Sys2Proof.Machine

/-- Accumulator (m, n) of bank `b`. -/
def accKey (b m n : Nat) : Nat := b * 1024 + 32 * m + n
def TileSt.accGet (x : TileSt) (b m n : Nat) : Acc := tget {} x.acc (accKey b m n)

/-- Every accumulator of a bank takes the value `f` gives, a zero one staying unlisted. -/
def TileSt.mapAcc (x : TileSt) (b : Nat) (f : Nat → Nat → Acc → Acc) : TileSt :=
  { x with
    acc := (List.range 1024).foldl (fun (l : List (Nat × Acc)) i =>
      let v := f (i / 32) (i % 32) (tget {} l (b * 1024 + i))
      if v = ({} : Acc) then tdel l (b * 1024 + i) else tset l (b * 1024 + i) v) x.acc }

/-- A bank is set to 0 and its poison cleared. -/
def TileSt.zeroBank (x : TileSt) (b : Nat) : TileSt :=
  { x with
    acc := x.acc.filter (fun (e : Nat × Acc) => decide (e.1 / 1024 ≠ b)), accPoison := withBit x.accPoison b false }

def TileSt.zeroIf (x : TileSt) (zero : Bool) (b : Nat) : TileSt := if zero then x.zeroBank b else x
def TileSt.poisonBank (x : TileSt) (b : Nat) (bad : Bool) : TileSt :=
  if bad then { x with accPoison := withBit x.accPoison b true } else x

/-! ### Operands (06 R206, T6.16) -/

/-- Bytes of a row slot. -/
def slotBytes (fmt : Nat) : Nat := if fmt = 8 ∨ fmt = 9 then 64 else 32
/-- Row slots that K rows take. -/
def slotCount (fmt k : Nat) : Nat := if fmt = 6 then (k + 1) / 2 else k
/-- Rows of scales that K rows take. -/
def scaleRows (k : Nat) : Nat := (k + 31) / 32

/-- The code of element `g` of k-row `k` of a dense operand at `base`. -/
def State.denseElem (s : State) (t fmt base k g : Nat) : Nat :=
  match fmt with
  | 6 => (leNat (s.sramBytes t (base + 32 * (k / 2) + 16 * (k % 2) + g / 2) 1) >>> (4 * (g % 2))) % 16
  | 4 => (leNat (s.sramBytes t (base + 32 * k) 24) >>> (6 * g)) % 64
  | 5 => (leNat (s.sramBytes t (base + 32 * k) 24) >>> (6 * g)) % 64
  | 8 => leNat (s.sramBytes t (base + 64 * k + 2 * g) 2)
  | 9 => leNat (s.sramBytes t (base + 64 * k + 2 * g) 2)
  | _ => leNat (s.sramBytes t (base + 32 * k + g) 1)

/-- The scale byte of column `g` for k-row `k`. -/
def State.denseScale (s : State) (t base k g : Nat) : Nat := leNat (s.sramBytes t (base + 32 * (k / 32) + g) 1)

/-- The exponent two scale codes give; `none`: one is NaN (07 R226, R238). -/
def scalePair (a b : Nat) : Option Int :=
  match scaleExp a, scaleExp b with
  | some x, some y => some (x + y)
  | _, _ => none

/-- Checks of several regions: alignment of all first, then range (06 R193, R206). Regions of 0 bytes are not touched. -/
def operandCheck (l : List (Nat × Nat)) (align : Nat) : Option Eff :=
  let l := l.filter (fun (r : Nat × Nat) => decide (r.2 ≠ 0))
  match l.find? (fun (r : Nat × Nat) => decide (r.1 % align ≠ 0)) with
  | some r => some (excMisaligned r.1)
  | none =>
    match l.find? (fun (r : Nat × Nat) => decide (sramSize < r.1 + r.2)) with
    | some r => some (excRange (max r.1 sramSize))
    | none => none

/-! ### TMMA (06 R206) -/

/-- What TMMA touches: slots of A and B, scale rows of both for MX formats. -/
def TileSt.mmRegions (x : TileSt) (m : MmArgs) : List (Nat × Nat) :=
  let f := m.fmt.toNat
  let k := (x.sGet m.k.toNat).toNat
  let n := slotCount f k * slotBytes f
  [((x.aGet m.aa.toNat).toNat, n), ((x.aGet m.ab.toNat).toNat, n)] ++
    (if isMx f then [((x.aGet m.asa.toNat).toNat, 32 * scaleRows k), ((x.aGet m.asb.toNat).toNat, 32 * scaleRows k)] else [])

/-- The product of k-row `k` for accumulator (m, n). -/
def State.mmProduct (s : State) (t : Nat) (x : TileSt) (a : MmArgs) (k m n : Nat) : FVal :=
  let f := a.fmt.toNat
  let pa := (x.aGet a.aa.toNat).toNat
  let pb := (x.aGet a.ab.toNat).toNat
  let sc := if isMx f then
      scalePair (s.denseScale t (x.aGet a.asa.toNat).toNat k m) (s.denseScale t (x.aGet a.asb.toNat).toNat k n)
    else some 0
  product (elemVal f (s.denseElem t f pa k m)) (elemVal f (s.denseElem t f pb k n)) sc

/-- Products enter in order; the Bool says WIDE_RANGE. -/
def Acc.enterAll (a : Acc) (l : List FVal) : Acc × Bool :=
  l.foldl (fun (r : Acc × Bool) p => let e := r.1.enter p
                                     (e.1, r.2 || e.2)) (a, false)

/-- tclk of K-steps (06 T6.18). -/
def kTclk (fmt k : Nat) : Nat := if fmt = 6 then (k + 1) / 2 else if fmt = 8 ∨ fmt = 9 then 2 * k else k

def State.tmma (s : State) (t : Nat) (a : MmArgs) : Eff :=
  let x := s.tile t
  let b := a.acc.toNat
  let k := (x.sGet a.k.toNat).toNat
  let regions := x.mmRegions a
  match operandCheck regions 32 with
  | some e => e
  | none =>
    let x1 := x.zeroIf a.zero b
    let res := fun m n (c : Acc) => c.enterAll ((List.range k).map (fun j => s.mmProduct t x a j m n))
    let wide := (List.range 1024).any (fun i => (res (i / 32) (i % 32) (x1.accGet b (i / 32) (i % 32))).2)
    let bad := x.sBad a.k.toNat || regions.any (fun (r : Nat × Nat) => s.sramBad t r.1 r.2)
    .done (s.setT t (((x1.mapAcc b (fun m n c => (res m n c).1)).poisonBank b bad).count 5 (kTclk a.fmt.toNat k)))
      (flIf wide flW) none

/-! ### TZERO, TDRAIN, TWADD (06 R207-R209) -/

/-- The banks of a mask, ascending. -/
def maskBanks (m : BitVec 4) : List Nat := (List.range 4).filter (fun b => m.getLsbD b)

def State.tzero (s : State) (t : Nat) (mask : BitVec 4) : Eff :=
  .done (s.updT t (fun x => (maskBanks mask).foldl (fun y b => y.zeroBank b) x)) 0 none

/-- Bytes of a drained row (06 T6.19). -/
def rowBytes (ofmt : Nat) : Nat :=
  match ofmt with
  | 2 => 128 | 3 => 32 | 4 => 32 | 5 => 512 | 6 => 128 | _ => 64

/-- The mode a drain rounds under (07 R243). -/
def DrainArgs.mode (d : DrainArgs) (e : QEntry) : Nat := effMode d.rnd.toNat e.mode

/-- One value of the j-th bank drained. -/
def TileSt.drainAt (x : TileSt) (d : DrainArgs) (e : QEntry) (j b m n : Nat) : Nat × Fl :=
  drainCode d.ofmt.toNat (d.mode e) (d.sat || e.sat) (srBits e.seed (e.ctr + BitVec.ofNat 64 (1024 * j + 32 * m + n)))
    (x.accGet b m n) (.ofWord ((x.sGet d.s.toNat).setWidth 32))

/-- The 32 rows of one bank, as they are written, with their flags. -/
def TileSt.drainBank (x : TileSt) (d : DrainArgs) (e : QEntry) (j b : Nat) : List Byte × Fl :=
  let w := rowBytes d.ofmt.toNat / 32
  (List.range 1024).foldr (fun i (r : List Byte × Fl) =>
    let c := x.drainAt d e j b (i / 32) (i % 32)
    (leBytes w c.1 ++ r.1, c.2 ||| r.2)) ([], 0)

def State.tdrain (s : State) (t : Nat) (e : QEntry) (d : DrainArgs) : Eff :=
  let x := s.tile t
  let base := (x.aGet d.ad.toNat).toNat
  let banks := maskBanks d.mask
  let size := 32 * rowBytes d.ofmt.toNat
  match x.sramCheck base (banks.length * size) 64 true with
  | some e => e
  | none =>
    let sbad := x.sBad d.s.toNat && decide (d.ofmt.toNat ≠ 5)
    let r := ((List.range banks.length).zip banks).foldl (fun (u : State × Fl) (jb : Nat × Nat) =>
      let o := x.drainBank d e jb.1 jb.2
      (u.1.unitWrite t (base + jb.1 * size) o.1 (bitAt x.accPoison jb.2 || sbad), u.2 ||| o.2)) (s, 0)
    .done (r.1.updT t (fun y => if d.clear then banks.foldl (fun z b => z.zeroBank b) y else y)) r.2 none

def State.twadd (s : State) (t : Nat) (aa : BitVec 4) (acc : BitVec 2) : Eff :=
  let x := s.tile t
  let base := (x.aGet aa.toNat).toNat
  let b := acc.toNat
  match x.sramCheck base 16384 32 false with
  | some e => e
  | none =>
    let res := fun m n (c : Acc) => c.addPartial (BitVec.ofNat 128 (leNat (s.sramBytes t (base + 512 * m + 16 * n) 16)))
    let wide := (List.range 1024).any (fun i => (res (i / 32) (i % 32) (x.accGet b (i / 32) (i % 32))).2)
    .done (s.setT t ((x.mapAcc b (fun m n c => (res m n c).1)).poisonBank b (s.sramBad t base 16384))) (flIf wide flW) none

end Sys2Proof.Machine
end

