-- ==== Sys2Proof/Machine/Sparse.lean ====
section
/-! DEFINITION. The compressed operand, SMMA and the output compressor (08 R247-R263, 06 R210, R216). -/
namespace Sys2Proof.Machine

/-! ### The compressed operand (08 R247-R250) -/

/-- The header of a compressed operand (08 T8.1). -/
structure CHead where
  magic : Nat
  fmt : Nat
  pattern : Nat
  pn : Nat
  reserved : Bool
  k : Nat
  length : Nat
  qoff : List Nat
deriving DecidableEq, Repr

def CHead.parse (b : List Byte) : CHead :=
  {
    magic := leAt b 0 4, fmt := leAt b 4 1, pattern := leAt b 5 1, pn := leAt b 6 1,
    reserved := decide (leAt b 7 1 = 0) && decide (leAt b 36 28 = 0), k := leAt b 8 4, length := leAt b 12 4,
    qoff := (List.range 4).map (fun q => leAt b (16 + 4 * q) 4) }

/-- PN's range for a pattern (08 T8.3). -/
def patternOk (pattern pn : Nat) : Bool :=
  match pattern with
  | 0 => decide (pn = 0)
  | 1 => decide (1 ≤ pn) && decide (pn ≤ 2)
  | 2 => decide (1 ≤ pn) && decide (pn ≤ 4)
  | 3 => decide (1 ≤ pn) && decide (pn ≤ 8)
  | 4 => decide (pn ≤ 64)
  | _ => false

/-- Checks 1-6 of 08 T8.4. -/
def CHead.ok (h : CHead) (fmt : Nat) (sk : W64) : Bool :=
  let q := fun i => h.qoff.getD i 0
  decide (h.magic = 0x5053504B) && h.reserved && decide (h.fmt = fmt) && patternOk h.pattern h.pn && decide (h.k = sk.toNat) &&
    decide (h.length % 32 = 0) && decide (64 ≤ h.length) && decide (q 0 = 64) && decide (q 0 ≤ q 1) && decide (q 1 ≤ q 2) &&
    decide (q 2 ≤ q 3) && decide (q 3 ≤ h.length) && h.qoff.all (fun o => decide (o % 32 = 0))

/-- k-blocks of an operand. -/
def kBlocks (k : Nat) : Nat := (k + 63) / 64

/-- Bytes of a group (08 R249). -/
def groupSize (nnz : Nat) : Nat := 32 * ((16 + nnz + 31) / 32)

/-- A parsed group: its place, whether one of checks 9-13 failed, its present elements, its scales. -/
structure CGroup where
  b : Nat
  g : Nat
  at' : Nat
  size : Nat
  bad : Bool
  elems : List (Nat × Nat)
  s0 : Nat
  s1 : Nat
deriving DecidableEq, Repr

/-- The rule of a pattern on a bitmap (08 T8.3). -/
def patternHolds (pattern pn k b : Nat) (bits : Nat → Bool) : Bool :=
  let cnt := fun lo n => ((List.range n).filter (fun i => bits (lo + i))).length
  let runs := fun m => (List.range (64 / m)).all (fun r => decide (cnt (m * r) m ≤ pn))
  match pattern with
  | 1 => runs 4
  | 2 => runs 8
  | 3 => runs 16
  | 4 => decide (cnt 0 64 = (if k % 64 ≠ 0 ∧ b + 1 = kBlocks k then min pn (k % 64) else pn))
  | _ => true

/-- A group from its bytes, checks 9-13 applied (08 T8.2, T8.4). -/
def CGroup.parse (h : CHead) (b g pos : Nat) (d : List Byte) : CGroup :=
  let nnz := leAt d 0 1
  let map := leAt d 8 8
  let bits := fun e => decide (map / 2 ^ e % 2 = 1)
  let present := (List.range 64).filter bits
  let bad := decide (leAt d 3 5 ≠ 0) || decide (present.length ≠ nnz) || present.any (fun e => decide (h.k ≤ 64 * b + e)) ||
    !(patternHolds h.pattern h.pn h.k b bits) || (decide (h.fmt < 2) && decide (leAt d 1 2 ≠ 0))
  {
    b := b, g := g, at' := pos, size := groupSize nnz, bad := bad,
    elems := (List.range present.length).map (fun i => (present.getD i 0, leAt d (16 + i) 1)),
    s0 := leAt d 1 1, s1 := leAt d 2 1 }

/-- The groups of a quarter, read one after another; the Bool says check 7 or 8 failed and the engine stopped. -/
def State.parseGroups (s : State) (t : Nat) (h : CHead) (base stop : Nat) : List (Nat × Nat) → Nat → List CGroup × Bool
  | [], pos => ([], decide (pos ≠ stop))
  | (b, g) :: r, pos =>
    if stop < pos + 32 then ([], true)
    else
      let nnz := leNat (s.sramBytes t (base + pos) 1)
      if 64 < nnz ∨ stop < pos + groupSize nnz then ([], true)
      else
        let c := CGroup.parse h b g pos (s.sramBytes t (base + pos) (groupSize nnz))
        let u := s.parseGroups t h base stop r (pos + groupSize nnz)
        (c :: u.1, u.2)

/-- Every quarter of the operand (08 R248). -/
def State.parseOperand (s : State) (t : Nat) (h : CHead) (base : Nat) : List CGroup × Bool :=
  let nb := kBlocks h.k
  (List.range 4).foldl (fun (u : List CGroup × Bool) q =>
    let blocks := (List.range nb).filter (fun b => decide (q * nb / 4 ≤ b) && decide (b < (q + 1) * nb / 4))
    let pairs := blocks.flatMap (fun b => (List.range 32).map (fun g => (b, g)))
    let r := s.parseGroups t h base (if q = 3 then h.length else h.qoff.getD (q + 1) 0) pairs (h.qoff.getD q 0)
    (u.1 ++ r.1, u.2 || r.2)) ([], false)

/-! ### SMMA (06 R210, 08 R251-R257) -/

/-- The products of a group's line for accumulator position `n` along the dense line. -/
def State.groupProducts (s : State) (t : Nat) (x : TileSt) (a : MmArgs) (c : CGroup) (n : Nat) : List FVal :=
  let f := a.fmt.toNat
  c.elems.map (fun (e : Nat × Nat) =>
    let k := 64 * c.b + e.1
    let sc := if isMx f then
        scalePair (if e.1 < 32 then c.s0 else c.s1) (s.denseScale t (x.aGet a.asa.toNat).toNat k n)
      else some 0
    product (elemVal f e.2) (elemVal f (s.denseElem t f (x.aGet a.ab.toNat).toNat k n)) sc)

/-- What accumulator (m, n) takes from the parsed groups: its products in order, and NaN where its line failed. -/
def State.smmaTerms (s : State) (t : Nat) (x : TileSt) (a : MmArgs) (groups : List CGroup) (m n : Nat) : List FVal :=
  let line := if a.side then n else m
  let dense := if a.side then m else n
  (groups.filter (fun c => decide (c.g = line))).flatMap (fun c => if c.bad then [.nan] else s.groupProducts t x a c dense)

def State.smma (s : State) (t : Nat) (a : MmArgs) : Eff :=
  let x := s.tile t
  let b := a.acc.toNat
  let f := a.fmt.toNat
  let sk := x.sGet a.k.toNat
  let k := sk.toNat
  let pa := (x.aGet a.aa.toNat).toNat
  let x1 := x.zeroIf a.zero b
  if k = 0 then .done (s.setT t (x1.poisonBank b (x.sBad a.k.toNat))) 0 none
  else
    let dense := [((x.aGet a.ab.toNat).toNat, 32 * k)] ++ (if isMx f then [((x.aGet a.asa.toNat).toNat, 32 * scaleRows k)] else [])
    match operandCheck ((pa, 64) :: dense) 32 with
    | some e => e
    | none =>
      let h := CHead.parse (s.sramBytes t pa 64)
      if sramSize < pa + h.length then excRange (max pa sramSize)
      else
        let nan := fun (y : TileSt) => y.mapAcc b (fun _ _ c => { c with cls := 3 })
        let headBad := x.sBad a.k.toNat || s.sramBad t pa 64
        if !h.ok f sk then .done (s.setT t ((nan x1).poisonBank b headBad)) 0 none
        else
          let r := s.parseOperand t h pa
          let bad := headBad || r.1.any (fun c => s.sramBad t (pa + c.at') c.size) ||
            dense.any (fun (d : Nat × Nat) => s.sramBad t d.1 d.2)
          let res := fun m n (c : Acc) => c.enterAll (s.smmaTerms t x a r.1 m n)
          let wide := (List.range 1024).any (fun i => (res (i / 32) (i % 32) (x1.accGet b (i / 32) (i % 32))).2)
          let x2 := x1.mapAcc b (fun m n c => (res m n c).1)
          .done (s.setT t ((if r.2 then nan x2 else x2).poisonBank b bad)) (flIf wide flW) none

/-! ### The output compressor (08 R258-R263) -/

/-- The compressor record of 08 T8.6, when it keeps the table's rules. -/
def TileSt.compRecord (x : TileSt) (b : List Byte) : Option CompCfg :=
  let c : CompCfg := {
    mode := leAt b 0 1, fmt := leAt b 1 1, m := leAt b 2 1, nc := leAt b 3 1, thresh := leAt b 4 1, lenEn := decide (leAt b 5 1 = 1),
    scaleAddr := leAt b 8 4, lenAddr := leAt b 12 4, outMax := leAt b 16 4 }
  let nm := (decide (c.m = 4) && decide (c.nc ≤ 2)) || (decide (c.m = 8) && decide (c.nc ≤ 4)) || (decide (c.m = 16) && decide (c.nc ≤ 8))
  let shape := match c.mode with
    | 2 => nm && decide (1 ≤ c.nc)
    | 3 => decide (c.m = 0) && decide (c.nc ≤ 64)
    | _ => decide (c.m = 0) && decide (c.nc = 0)
  let ok := decide (c.mode ≤ 3) && decide (c.fmt ≤ 3) && shape &&
    decide (c.thresh ≤ (if c.fmt = 0 ∨ c.fmt = 2 then 0x7E else 0x7B)) && decide (leAt b 5 1 ≤ 1) && decide (leAt b 6 2 = 0) &&
    decide (leAt b 20 44 = 0) &&
    (if 2 ≤ c.fmt then decide (c.scaleAddr % 32 = 0) && decide (c.scaleAddr < sramSize) else decide (c.scaleAddr = 0)) &&
    (if c.lenEn then decide (c.lenAddr % 8 = 0) && decide (c.lenAddr + 8 ≤ sramSize) && !x.inProgram c.lenAddr 8
     else decide (c.lenAddr = 0)) && decide (c.outMax % 64 = 0)
  if ok then some c else none

/-- CCFG (06 R216). -/
def State.ccfg (s : State) (t : Nat) (ar : BitVec 4) : Eff :=
  let x := s.tile t
  let a := (x.aGet ar.toNat).toNat
  match x.sramCheck a 64 64 false with
  | some e => e
  | none =>
    match x.compRecord (s.sramBytes t a 64) with
    | none => excTapConfig a
    | some c => .done (s.setT t { x with comp := c }) 0 none

/-- The rank of an element by magnitude: NaN above ±∞ above every finite value (08 R259). -/
structure CRank where
  e : Nat
  code : Nat
  v : FVal
deriving DecidableEq, Repr

def FVal.abs : FVal → FVal
  | .nan => .nan
  | .inf _ => .inf false
  | .fin _ m e => .fin false m e

/-- Element `p` ranks above `q`: larger magnitude, a tie to the lower e. -/
def CRank.above (p q : CRank) : Bool :=
  match p.v, q.v with
  | .nan, .nan => decide (p.e < q.e)
  | .nan, _ => true
  | _, .nan => false
  | a, b => b.lt a || (!a.lt b && decide (p.e < q.e))

/-- The `n` highest-ranked. -/
def topRanked (n : Nat) (l : List CRank) : List CRank :=
  l.filter (fun p => decide ((l.filter (fun q => q.above p)).length < n))

/-- An element counts as zero (08 T8.6): a NaN never does. -/
def CompCfg.isZero (c : CompCfg) (code : Nat) : Bool :=
  !((elemVal c.fmt code).isNan) && decide (code % 128 ≤ c.thresh)

/-- The elements a group keeps, as (e, code), ascending (08 T8.7). `codes`: the in-range elements; `scale e`: the exponent that e's half ranks with. -/
def CompCfg.keep (c : CompCfg) (codes : List Nat) (scale : Nat → Option Int) : List (Nat × Nat) :=
  let n := codes.length
  let value := fun e code => match scale e with
    | none => FVal.nan
    | some k => ((elemVal c.fmt code).abs).scale k
  let nz : List CRank := ((List.range n).filter (fun e => !c.isZero (codes.getD e 0))).map (fun e =>
    { e := e, code := codes.getD e 0, v := value e (codes.getD e 0) })
  match c.mode with
  | 2 => ((List.range (64 / c.m)).flatMap (fun r => topRanked c.nc (nz.filter (fun p => decide (p.e / c.m = r))))).map (fun p => (p.e, p.code))
  | 3 =>
    let cap := min c.nc n
    let top := topRanked cap nz
    let fill := ((List.range n).filter (fun e => !(top.any (fun p => p.e == e)))).take (cap - top.length)
    (List.range n).filterMap (fun e =>
      match top.find? (fun p => p.e == e) with
      | some p => some (e, p.code)
      | none => if fill.contains e then some (e, 0) else none)
  | _ => nz.map (fun p => (p.e, p.code))

/-- The bytes of a group (08 T8.2). -/
def groupBytes (s0 s1 : Nat) (kept : List (Nat × Nat)) : List Byte :=
  let n := kept.length
  let b := [BitVec.ofNat 8 n, BitVec.ofNat 8 s0, BitVec.ofNat 8 s1] ++ List.replicate 5 (0 : Byte) ++
    leBytes 8 ((kept.map (fun (p : Nat × Nat) => 2 ^ p.1)).foldl (· + ·) 0) ++ kept.map (fun (p : Nat × Nat) => BitVec.ofNat 8 p.2)
  b ++ List.replicate (groupSize n - b.length) 0

/-- What compressing a source gives: groups with their k-block, the header, LENGTH, NNZ_TOTAL. -/
structure COut where
  groups : List (Nat × List Byte)
  header : List Byte
  length : Nat
  nnz : Nat
deriving DecidableEq, Repr

/-- The compressed operand of a dense source of K = L / 32 rows; `sc c g`: the scale byte of rows 32c … 32c + 31 in column g (08 R259, R260). -/
def CompCfg.compress (c : CompCfg) (src : List Byte) (sc : Nat → Nat → Nat) : COut :=
  let k := src.length / 32
  let nb := kBlocks k
  let mx := decide (2 ≤ c.fmt)
  let groups := (List.range nb).flatMap (fun b => (List.range 32).map (fun g =>
    let n := min 64 (k - 64 * b)
    let codes := (List.range n).map (fun e => (byteAt src (32 * (64 * b + e) + g)).toNat)
    let s0 := if mx then sc (2 * b) g else 0
    let s1 := if mx then sc (2 * b + 1) g else 0
    let scale := fun e => if mx ∧ c.mode = 3 then scaleExp (if e < 32 then s0 else s1) else some 0
    let kept := c.keep codes scale
    (b, kept.length, groupBytes s0 s1 kept)))
  let sizeTo := fun q => ((groups.filter (fun (x : Nat × Nat × List Byte) => decide (x.1 < q * nb / 4))).map (fun x => x.2.2.length)).foldl (· + ·) 64
  let len := (groups.map (fun x => x.2.2.length)).foldl (· + ·) 64
  let nnz := (groups.map (fun x => x.2.1)).foldl (· + ·) 0
  let pat := match c.mode with
    | 2 => (if c.m = 4 then 1 else if c.m = 8 then 2 else 3, c.nc)
    | 3 => (4, c.nc)
    | _ => (0, 0)
  {
    groups := groups.map (fun x => (x.1, x.2.2)), length := len, nnz := nnz,
    header := leBytes 4 0x5053504B ++ [BitVec.ofNat 8 c.fmt, BitVec.ofNat 8 pat.1, BitVec.ofNat 8 pat.2, 0] ++ leBytes 4 k ++ leBytes 4 len ++
      (List.range 4).flatMap (fun q => leBytes 4 (sizeTo q)) ++ leBytes 4 nnz ++ List.replicate 28 0 }

/-- The worst case of the output of K rows (08 R260). -/
def worstOut (k : Nat) : Nat := 64 * ((64 + 3072 * kBlocks k + 63) / 64)

/-- A granule compressed for egress: each 64 B quarter is one group, packed from byte 0 (08 R263). -/
def CompCfg.granule (c : CompCfg) (d : List Byte) : List Byte :=
  let b := (List.range 4).flatMap (fun q =>
    groupBytes 0 0 (c.keep ((List.range 64).map (fun e => (byteAt d (64 * q + e)).toNat)) (fun _ => some 0)))
  b ++ List.replicate (256 - b.length) 0

/-- What an EGRESS asks of a configuration that is not OFF (08 R263). -/
def CompCfg.egressOk (c : CompCfg) (red : Nat) : Bool :=
  c.mode == 0 || (decide (red = 0) && decide (c.fmt ≤ 1) &&
    ((c.mode == 2 && decide (2 * c.nc ≤ c.m)) || (c.mode == 3 && decide (c.nc ≤ 32))))

end Sys2Proof.Machine
end

