-- ==== Sys2Proof/Machine/Mover.lean ====
section
/-! DEFINITION. The mover: MCOPY and MFILL, their pieces, their packets on the fabric
(06 R212-R216, 05 R163-R165, 08 R259-R262, 09 R279-R298). -/
namespace Sys2Proof.Machine

/-! ### Link errors and key drops on the fabric (09 R282, R293, R296) -/

def State.updFab (s : State) (r : Nat) (f : RegionFabric → RegionFabric) : State := s.updR r (fun g => { g with fab := f g.fab })

/-- A link error is counted and, when uncorrected, posted (09 R282). -/
def State.linkEcc (s : State) : LinkEcc → State
  | .clean => s
  | .corrected r => s.updFab r.val (fun f => { f with corrected := satInc f.corrected })
  | .dataDouble r d => (s.updFab r.val (fun f => { f with dataUncorr := satInc f.dataUncorr })).postRegion r.val 0x0702 d.val
  | .headDouble r d => (s.updFab r.val (fun f => { f with hdrDrop := satInc f.hdrDrop })).postRegion r.val 0x0702 (d.val + 8)

def LinkEcc.drops : LinkEcc → Bool
  | .headDouble _ _ => true
  | _ => false

def LinkEcc.poisons : LinkEcc → Bool
  | .dataDouble _ _ => true
  | _ => false

def Piece.poisonIf (p : Piece) (b : Bool) : Piece := if b then { p with st := .poisoned } else p

/-- A check point drops a packet (09 R296): side 0 E, 1 N, 2 W, 3 S, 4 service, 5 control network; KEY_DROPPED at most once per 1 ms. -/
def State.keyDrop (s : State) (r side ch : Nat) (key : W16) : State :=
  let s1 := s.updFab r (fun f => { f with
    keyDrop := tset f.keyDrop side (satInc (tget 0 f.keyDrop side)), keyDropLast := tset f.keyDropLast side (ch, key),
    keyDropNew := f.keyDropNew + 1 })
  let f := (s1.rg r).fab
  if s1.reportDue f.keyDropAt 1000 then
    (s1.updFab r (fun x => { x with keyDropAt := some s1.cad.count.toNat, keyDropNew := 0 })).postRegion r 0x0701
      (pack [(3, side), (3, ch), (10, 0), (16, key.toNat), (32, f.keyDropNew)])
  else s1

/-! ### Pieces of a transfer (06 R212, R213, 09 R280) -/

/-- A row of `left` bytes from relative offset `o`: whole granules where both ends are aligned, else 64 B pieces. -/
def chop (s d : Nat) : Nat → Nat → Nat → List (Nat × Nat)
  | 0, _, _ => []
  | k + 1, o, left =>
    if left = 0 then []
    else
      let n := if (s + o) % 256 = 0 ∧ (d + o) % 256 = 0 ∧ 256 ≤ left then 256 else min 64 left
      (o, n) :: chop s d k (o + n) (left - n)

def Place.addr : Place → Nat
  | .sram _ a => a
  | .slice _ a => a
  | .range _ a => a

/-- The place `k` bytes on. -/
def Place.at (p : Place) (k : Nat) : Place :=
  match p with
  | .sram t a => .sram t (a + k)
  | .slice t a => .slice t (a + k)
  | .range n a => .range n (a + k)

/-- A piece of a transfer: its offset in the transfer, in the source, in the destination, its length. -/
structure Cut where
  off : Nat
  src : Nat
  dst : Nat
  len : Nat
deriving DecidableEq, Repr

/-- The pieces in ascending byte order; a compressing transfer only reads, so its cuts follow the source. -/
def Xfer.cuts (x : Xfer) : List Cut :=
  let d0 := match x.dsts with
    | p :: _ => p.addr
    | [] => 0
  (List.range x.rows).flatMap (fun r =>
    let s := x.src.addr + r * x.sStride
    let d := if x.comp.isSome then s else d0 + r * x.dStride
    let a := if x.fill.isSome then d else s
    (chop a d (x.rowLen / 64 + 1) 0 x.rowLen).map (fun (o : Nat × Nat) => {
      off := r * x.rowLen + o.1, src := r * x.sStride + o.1,
      dst := if x.comp.isSome then r * x.rowLen + o.1 else r * x.dStride + o.1, len := o.2 }))

/-- The bytes a transfer writes, as (place, length) runs. -/
def Xfer.extents (x : Xfer) : List (Place × Nat) :=
  x.dsts.flatMap (fun p =>
    match x.comp with
    | some c => [(p, if c.outMax = 0 then worstOut (x.rows * x.rowLen / 32) else c.outMax)]
    | none => (List.range x.rows).map (fun r => (p.at (r * x.dStride), x.rowLen)))

/-- Two runs share a byte. -/
def runsMeet (a b : Place × Nat) : Bool :=
  (match a.1, b.1 with
   | .sram t _, .sram u _ => decide (t = u)
   | .slice t _, .slice u _ => decide (t = u)
   | .range n _, .range m _ => decide (n = m)
   | _, _ => false) && decide (a.1.addr < b.1.addr + b.2) && decide (b.1.addr < a.1.addr + a.2)

/-- The tile's own SRAM bytes a transfer writes, its length word among them; and those it reads, its scale rows among them. -/
def Xfer.ownWrites (x : Xfer) : List (Nat × Nat) :=
  x.extents.filterMap (fun (e : Place × Nat) => match e.1 with
    | .sram u a => if u = x.t then some (a, e.2) else none
    | _ => none) ++
  (match x.comp with
   | some c => if c.lenEn then [(c.lenAddr, 8)] else []
   | none => [])

def Xfer.ownReads (x : Xfer) : List (Nat × Nat) :=
  (match x.src with
   | .sram u a => if u = x.t ∧ x.fill.isNone then (List.range x.rows).map (fun r => (a + r * x.sStride, x.rowLen)) else []
   | _ => []) ++
  (match x.comp with
   | some c => if 2 ≤ c.fmt then [(c.scaleAddr, 32 * scaleRows (x.rows * x.rowLen / 32))] else []
   | none => [])

def spansMeet (a b : List (Nat × Nat)) : Bool :=
  a.any (fun (p : Nat × Nat) => b.any (fun (q : Nat × Nat) => decide (p.1 < q.1 + q.2) && decide (q.1 < p.1 + p.2)))

/-- A transfer waits for an earlier unfinished one of its queue: their destinations overlap outside the tile's SRAM (06 R214), or their
accesses to that SRAM meet (05 R155: within a queue they take effect in program order). -/
def State.xferHeld (s : State) (x : Xfer) : Bool :=
  s.xfers.any (fun y => decide (y.t = x.t) && decide (y.id < x.id) && !y.finished &&
    (y.extents.any (fun a => x.extents.any (fun b => runsMeet a b)) || spansMeet y.ownWrites (x.ownReads ++ x.ownWrites) ||
      spansMeet y.ownReads x.ownWrites))

/-- A record in SRAM is still to be written by an unfinished transfer of the queue. -/
def State.recordHeld (s : State) (t a n : Nat) : Bool :=
  s.xfers.any (fun y => decide (y.t = t) && !y.finished && spansMeet y.ownWrites [(a, n)])

/-! ### How a transfer fails (06 R193, R194; 05 R172) -/

def State.findXfer (s : State) (i : Nat) : Option Xfer := s.xfers.find? (fun x => x.id == i)
def State.updXfer (s : State) (i : Nat) (f : Xfer → Xfer) : State :=
  { s with xfers := s.xfers.map (fun x => if x.id = i then f x else x) }

/-- A transfer ends at a granule with an exception; a tile that has halted meanwhile only loses it (05 R173). -/
def State.failXfer (s : State) (x : Xfer) (code addr detail : Nat) : State :=
  let s1 := { s.updT x.t (fun y => { y with mq := y.mq.filter (fun e => e.id != x.entry) }) with
    xfers := s.xfers.filter (fun y => y.id != x.id) }
  if (s1.tile x.t).run = .running then s1.raise x.t { code := code, queue := 4, index := x.index, addr := addr, detail := detail }
  else s1.checkRun (s1.tile x.t).op

/-- The exception of a packet's STATUS (09 T9.3). -/
def statusExc (st : Nat) : Nat :=
  match st with
  | 1 => 4
  | 2 => 3
  | 3 => 8
  | 4 => 0x0B
  | _ => 9

/-- DETAIL for the RUN: the granule for CHECK, 0 or 1 for ACCESS (03 T3.11). -/
def excDetail (code off : Nat) : Nat := if code = 0x0B then off / 256 else 0

/-! ### Compression on the way (08 R259-R262) -/

/-- The output of a compressing transfer whose source has been gathered: pieces by destination offset, groups first, then the header;
the length word; where it passes OUT_MAX. -/
def State.packXfer (s : State) (x : Xfer) (c : CompCfg) : Xfer :=
  let src := x.gather.flatMap (fun (e : Nat × Piece) => e.2.data)
  let k := src.length / 32
  let o := c.compress src (fun i g => (s.sram.read (sramKey x.t (c.scaleAddr + 32 * i + g))).toNat)
  let badRow := fun b => x.gather.any (fun (e : Nat × Piece) => e.2.st == .poisoned &&
    decide (e.1 < 2048 * (b + 1)) && decide (2048 * b < e.1 + e.2.data.length))
  let bad := (List.range (kBlocks k)).any badRow
  let w := 64 * ((o.length + 63) / 64)
  let d0 := match x.dsts with
    | p :: _ => p.addr
    | [] => 0
  let bytes := o.header ++ o.groups.flatMap (fun (e : Nat × List Byte) => e.2) ++ List.replicate (w - o.length) 0
  let spans := (o.groups.foldl (fun (a : Nat × List (Nat × Nat)) (e : Nat × List Byte) =>
    (a.1 + e.2.length, if badRow e.1 then a.2 ++ [(a.1, a.1 + e.2.length)] else a.2)) (64, [])).2
  let badGran := fun (p n : Nat) =>
    let lo := (d0 + p) / 256 * 256
    let hi := (d0 + p + n + 255) / 256 * 256
    (bad && decide (lo < d0 + 64) && decide (d0 < hi)) ||
      spans.any (fun (q : Nat × Nat) => decide (d0 + q.1 < hi) && decide (lo < d0 + q.2))
  let lim := if c.outMax = 0 then w else min w c.outMax
  let piece := fun (p n : Nat) =>
    let d := (bytes.drop p).take n
    ({ data := d, st := if badGran p n then .poisoned else .local' } : Piece)
  let groups := (chop (d0 + 64) (d0 + 64) (w / 64 + 1) 0 (lim - 64)).map (fun (q : Nat × Nat) => (64 + q.1, piece (64 + q.1) q.2))
  let full := decide (w ≤ lim)
  { x with
    packed := true
    gather := groups ++ (if full then [(0, piece 0 64)] else [])
    lenWord := o.length + 2 ^ 32 * o.nnz
    overs := if full then none else some lim }

/-! ### Moving pieces -/

/-- Packets of the tile that await a response (09 R305). -/
def State.outstanding (s : State) (t : Nat) (read : Bool) : Nat :=
  (s.pkts.filter (fun p => decide (p.t = t) && ((p.kind == 2) == read))).length

def State.addPkt (s : State) (x : Xfer) (kind : Nat) (places : List Place) (off len : Nat) (piece : Piece) : State :=
  { s with
    nextPkt := s.nextPkt + 1
    pkts := s.pkts ++ [{
      id := s.nextPkt, xfer := x.id, t := x.t, part := s.partOf x.t, kind := kind, places := places, off := off, len := len, piece := piece }] }

/-- A LOCAL whole granule gets a fresh check on the output path, but a filled one stays LOCAL (05 R164, 06 R215). -/
def Piece.fresh (p : Piece) (keepLocal : Bool) (a : Nat) : Piece :=
  if p.st = .local' ∧ !keepLocal ∧ wholeAt a p.data.length then { p with st := .held (crc32c p.data) } else p

/-- Some bytes of the place are in the tile's own SRAM or slice: moved at once. -/
def Place.own (p : Place) (t : Nat) : Option Bool :=
  match p with
  | .sram u _ => if u = t then some true else none
  | .slice u _ => if u = t then some false else none
  | _ => none

/-- A destination offset as an offset in the transfer. -/
def Xfer.offOf (x : Xfer) (dst : Nat) : Nat :=
  if x.comp.isSome then dst
  else match x.cuts.find? (fun c => c.dst == dst) with
    | some c => c.off
    | none => dst

/-- One piece goes to the destination; none when it must wait for a response. -/
def State.putPiece (s : State) (x : Xfer) (dst : Nat) (p : Piece) : Option State :=
  let s1 := s.updXfer x.id (fun y => { y with gather := y.gather.filter (fun (e : Nat × Piece) => e.1 != dst) })
  let sent := fun (u : State) => if p.st = .poisoned then u.sentPoison x.t (x.offOf dst / 256) else u
  match x.dsts with
  | [] => some s1
  | [d] =>
    let a := d.at dst
    match a.own x.t with
    | some true => some (s1.sramPut x.t a.addr p)
    | some false =>
      let r := (sent s1).slicePut x.t a.addr (p.fresh x.fill.isSome a.addr)
      some (if r.2 then r.1 else (r.1.countCheck (s.partOf x.t) false).failXfer x 0x0B a.addr (x.offOf dst / 256))
    | none =>
      if 64 ≤ s.outstanding x.t false then none
      else some ((sent s1).addPkt x 1 [a] (x.offOf dst) p.data.length (p.fresh x.fill.isSome a.addr))
  | ds =>
    if 64 ≤ s.outstanding x.t false then none
    else some ((sent s1).addPkt x 3 (ds.map (fun d => d.at dst)) (x.offOf dst) p.data.length
      (p.fresh x.fill.isSome ((ds.headD (.sram 0 0)).addr + dst)))

/-- The fill pattern from destination offset `o`. -/
def fillBytes (v : W64) (o n : Nat) : List Byte := (List.range n).map (fun i => byteAt (leBytes 8 v.toNat) ((o + i) % 8))

/-- One piece is read from the source; none when it must wait for a response. -/
def State.getPiece (s : State) (x : Xfer) (c : Cut) : Option State :=
  let take := fun (u : State) (p : Piece) =>
    u.updXfer x.id (fun y => { y with issued := y.issued + 1, gather := tset y.gather c.dst p })
  match x.fill with
  | some v => some (take s { data := fillBytes v c.off c.len, st := .local' })
  | none =>
    let a := x.src.at c.src
    match a.own x.t with
    | some true => some (take s (s.sramPiece x.t a.addr c.len))
    | some false =>
      let s1 := s.touchSlot x.t a.addr
      some (take s1 (s1.slicePiece x.t a.addr c.len))
    | none =>
      if 64 ≤ s.outstanding x.t true then none
      else some ((s.updXfer x.id (fun y => { y with issued := y.issued + 1 })).addPkt x 2 [a] c.off c.len { data := [], st := .local' })

/-- A transfer is complete: its length word is written (08 R261), and it may be completed in its queue. -/
def State.endXfer (s : State) (x : Xfer) : State :=
  let s1 := s.updXfer x.id (fun y => { y with finished := true })
  match x.comp with
  | some c => if c.lenEn then s1.unitWrite x.t c.lenAddr (leBytes 8 x.lenWord) false else s1
  | none => s1

/-- One step of a transfer, none when it waits or is over. -/
def State.moveStep (s : State) (i : Nat) : Option State :=
  match s.findXfer i with
  | none => none
  | some x =>
    if x.finished || s.xferHeld x then none
    else
      let out := s.pkts.any (fun p => p.xfer == i)
      let ready := x.comp.isNone || x.packed
      match ready, x.gather with
      | true, (d, p) :: _ => s.putPiece x d p
      | _, _ =>
        match x.cuts[x.issued]? with
        | some c => s.getPiece x c
        | none =>
          if out then none
          else match x.comp, x.packed, x.overs with
            | some c, false, _ => some (s.updXfer i (fun _ => s.packXfer x c))
            | _, _, some o => some (s.failXfer x 3 o 0)
            | _, _, none => some (s.endXfer x)

def State.move (i : Nat) : Nat → State → State
  | 0, s => s
  | n + 1, s =>
    match s.moveStep i with
    | some u => State.move i n u
    | none => s

/-- As many steps as a transfer can take. -/
def Xfer.steps (x : Xfer) : Nat := 2 * x.cuts.length + 2 * (worstOut (x.rows * x.rowLen / 32) / 64) + 8

/-- The tile's transfers go on as far as they can, in order. -/
def State.pumpTile (s : State) (t : Nat) : State :=
  (s.xfers.filter (fun x => x.t == t)).foldl (fun u x => State.move x.id x.steps u) s

/-! ### MCOPY and MFILL as they begin (06 R193, R212, R213, R215) -/

/-- One end of a transfer. -/
structure MoveEnd where
  places : List Place
  a : Nat
  value : Nat
deriving DecidableEq, Repr

/-- The tile of (tx, ty), when both are on the wafer. -/
def tileAt (tx ty : Nat) : Nat := ty * 288 + tx

/-- The places an address register names under a kind (06 T6.20). -/
def State.moveEnd (s : State) (t kind : Nat) (v : W64) : MoveEnd :=
  let a20 := field v 19 0
  match kind with
  | 0 => { places := [.sram t v.toNat], a := v.toNat, value := v.toNat }
  | 1 => { places := [.sram (tileAt (field v 40 32) (field v 56 48)) a20], a := a20, value := v.toNat }
  | 2 => { places := [.slice t v.toNat], a := v.toNat, value := v.toNat }
  | 3 => { places := [.range (s.partOf t) (field v 47 0)], a := field v 47 0, value := v.toNat }
  | 4 => {
      places := (List.range (field v 28 20)).map (fun i => .sram (tileAt (field v 40 32 + i) (field v 56 48)) a20),
      a := a20, value := v.toNat }
  | _ => {
      places := (List.range (field v 28 20)).map (fun i => .sram (tileAt (field v 40 32) (field v 56 48 + i)) a20),
      a := a20, value := v.toNat }

/-- The tiles (tx, ty) an address register names, for TILE, ROWCAST and COLCAST. -/
def moveTiles (kind : Nat) (v : W64) : List (Nat × Nat) :=
  match kind with
  | 1 => [(field v 40 32, field v 56 48)]
  | 4 => (List.range (field v 28 20)).map (fun i => (field v 40 32 + i, field v 56 48))
  | 5 => (List.range (field v 28 20)).map (fun i => (field v 40 32, field v 56 48 + i))
  | _ => []

def State.inRect (s : State) (n : Nat) (c : Nat × Nat) : Bool :=
  let p := s.pt n
  decide (24 * p.rx0 ≤ c.1) && decide (c.1 < 24 * (p.rx0 + p.w)) && decide (24 * p.ry0 ≤ c.2) && decide (c.2 < 24 * (p.ry0 + p.h))

/-- The end of a run of rows from `a`, 0 when it has no bytes. -/
def runEnd (a rows len stride : Nat) : Nat := if rows = 0 ∨ len = 0 then 0 else a + (rows - 1) * stride + len

/-- The range check of one end: SRAM and tile addresses, slice offsets. -/
def State.endRange (s : State) (t kind : Nat) (e : MoveEnd) (stop : Nat) : Option Eff :=
  if kind = 3 then none
  else
    let lim := if kind = 2 then s.privateEnd t else sramSize
    if kind = 0 ∧ 2 ^ 20 ≤ e.value ∨ kind = 2 ∧ 2 ^ 24 ≤ e.value then some (excRange e.value)
    else if e.places.isEmpty then none
    else if lim < stop then some (excRange (max e.a lim))
    else none

/-- The checks of a transfer before any effect, in the order of 06 R193. -/
def State.moveCheck (s : State) (t : Nat) (fill : Bool) (m : MoveArgs) (x : Xfer) (sv dv : W64) : Option Eff :=
  let src := s.moveEnd t m.sk.toNat sv
  let dst := s.moveEnd t m.dk.toNat dv
  let total := x.rows * x.rowLen
  let k := total / 32
  let srcStop := runEnd src.a x.rows x.rowLen x.sStride
  let dstStop := match x.comp with
    | some c => if total = 0 then 0 else dst.a + (if c.outMax = 0 then worstOut k else c.outMax)
    | none => runEnd dst.a x.rows x.rowLen x.dStride
  let bad64 := fun (l : List Nat) => l.find? (fun v => decide (v % 64 ≠ 0))
  match bad64 ((if fill then [] else [src.a]) ++ [dst.a, x.rowLen] ++ (if m.twoD then [x.sStride, x.dStride] else [])) with
  | some v => some (excMisaligned v)
  | none =>
    if 2 ^ 24 < total then some (excRange total)
    else
      let scale := match x.comp with
        | some c => if 2 ≤ c.fmt ∧ sramSize < c.scaleAddr + 32 * scaleRows k then some (excRange (max c.scaleAddr sramSize)) else none
        | none => none
      match if fill then none else s.endRange t m.sk.toNat src srcStop, s.endRange t m.dk.toNat dst dstStop, scale with
      | some e, _, _ => some e
      | none, some e, _ => some e
      | none, none, some e => some e
      | none, none, none =>
        let own := x.extents.any (fun (e : Place × Nat) => match e.1 with
          | .sram u a => decide (m.dk = 0) && decide (u = t) && (s.tile t).inProgram a e.2
          | _ => false)
        if own then some (excProgram dst.a)
        else
          let n := s.partOf t
          if !fill && (moveTiles m.sk.toNat sv).any (fun c => !s.inRect n c) then some (excTileRange sv.toNat)
          else if (moveTiles m.dk.toNat dv).any (fun c => !s.inRect n c) then some (excTileRange dv.toNat)
          else none

/-- A transfer begins (06 R212, R213, R215). -/
def State.mmove (s : State) (t : Nat) (e : QEntry) (fill : Bool) (m : MoveArgs) : Eff :=
  let y := s.tile t
  let sl := y.sGet m.sl.toNat
  let st := y.sGet m.sst.toNat
  let needs := [m.sl.toNat] ++ (if fill || m.twoD then [m.sst.toNat] else [])
  if needs.any (fun r => y.sBad r) then excPoison
  else
    let sv := y.aGet m.asr.toNat
    let dv := y.aGet m.ad.toNat
    let rows := if m.twoD then field sl 47 32 else 1
    let len := field sl 24 0
    let x : Xfer := {
      id := s.nextPkt, t := t, entry := e.id, index := e.index, fill := if fill then some st else none,
      src := ((s.moveEnd t m.sk.toNat sv).places.headD (.sram t 0)), dsts := (s.moveEnd t m.dk.toNat dv).places,
      rows := rows, rowLen := len, sStride := if m.twoD then field st 31 0 else 0, dStride := if m.twoD then field st 63 32 else 0,
      comp := if m.comp && decide (y.comp.mode ≠ 0) then some y.comp else none }
    match s.moveCheck t fill m x sv dv with
    | some f => f
    | none =>
      if x.dsts.isEmpty || rows * len == 0 then .done s 0 none
      else .done { s with nextPkt := s.nextPkt + 1, xfers := s.xfers ++ [x] } 0 (some x.id)

/-! ### Packets at their ends (09 R280, R295-R298, R307) -/

def State.findPkt (s : State) (i : Nat) : Option Pkt := s.pkts.find? (fun p => p.id == i)
def State.updPkt (s : State) (i : Nat) (f : Pkt → Pkt) : State := { s with pkts := s.pkts.map (fun p => if p.id = i then f p else p) }
def State.delPkt (s : State) (i : Nat) : State := { s with pkts := s.pkts.filter (fun p => p.id != i) }

/-- The place of a piece as an exception reports it. -/
def Pkt.addr (p : Pkt) : Nat :=
  match p.places with
  | a :: _ => a.addr
  | [] => 0

/-- A transfer loses a packet: it ends with an exception at the packet's granule. -/
def State.failPkt (s : State) (p : Pkt) (code detail : Nat) : State :=
  let s1 := s.delPkt p.id
  match s1.findXfer p.xfer with
  | some x => (s1.failXfer x code p.addr detail).pumpTile p.t
  | none => s1

/-- One member's write: the state, and its STATUS. -/
def State.writeAt (s : State) (p : Pkt) (pl : Place) (piece : Piece) : State × Nat :=
  match pl with
  | .sram u a =>
    if sramSize < a + piece.data.length then (s, 2)
    else if (s.tile u).inProgram a piece.data.length then (s, 1)
    else (s.sramPut u a piece, 0)
  | .slice u a =>
    let r := s.slicePut u a piece
    (r.1.countCheck p.part r.2, if r.2 then 0 else 4)
  | .range n a =>
    match s.rangeWrite n a piece (some (tileRegion p.t)) with
    | .done u ok => (u, if ok then 0 else 4)
    | .refused => (s, 3)
    | .quota u => (u, 5)

/-- The region a member lies in, for the key checks on the way. -/
def Place.region (p : Place) : Option Nat :=
  match p with
  | .sram u _ => some (tileRegion u)
  | _ => none

/-- A WRITE or a cast reaches its members: dropped by a link error or a key check, or written and acknowledged with the lowest
nonzero STATUS among them (09 R282, R293, R297, R298). -/
def State.writeArrive (s : State) (i kind : Nat) (ecc : LinkEcc) : State :=
  match s.findPkt i with
  | none => s
  | some p =>
    if p.kind ≠ kind ∨ p.answered ∨ p.lost then s
    else
      let s1 := s.linkEcc ecc
      if ecc.drops then s1.updPkt i (fun q => { q with lost := true })
      else
        match p.places.findSome? (fun pl => pl.region.bind (fun r => s1.keyBlock p.part (tileRegion p.t) r)) with
        | some b => (s1.keyDrop b.1 b.2 0 (s1.pt p.part).key).updPkt i (fun q => { q with lost := true, keyDropped := true })
        | none =>
          let r := p.places.foldl (fun (a : State × Nat) pl =>
            let w := a.1.writeAt p pl (p.piece.poisonIf ecc.poisons)
            (w.1, if a.2 = 0 then w.2 else if w.2 = 0 then a.2 else min a.2 w.2)) (s1, 0)
          (r.1.countFlits (p.places.flatMap (fun pl => match pl.region with
            | some q => xyHops (tileRegion p.t) q
            | none => [])) (1 + (p.len + 63) / 64)).updPkt i (fun q => { q with answered := true, status := r.2 })

/-- Where the ECC of a read's cells looks: an SRAM word or a slice word. -/
def State.cellEcc (s : State) (pl : Place) (f : EccFind) : State :=
  match pl with
  | .sram u a => s.sramEcc u a f
  | .slice u a => s.sliceEcc u a f
  | .range n a =>
    let off := a % pageSize
    match s.homeOf n (a / pageSize) with
    | .anon e => (match e.ppa with
        | some q => s.sliceEcc (pageTile q off) (pageOff q off) f
        | none => s)
    | .obj e => (match e.ppa with
        | some q => if e.chunks.getLsbD (off / chunkSize) then s.sliceEcc (pageTile q off) (pageOff q off) f else s
        | none => s)
    | .shared sh p => (match (s.shPage sh p).ppa with
        | some q => s.sliceEcc (pageTile q off) (pageOff q off) f
        | none => s)
    | _ => s

/-- The region that holds a page of a shared region, for its route. -/
def State.sharedAt (s : State) (pl : Place) : Option Nat :=
  match pl with
  | .range n a =>
    (match s.homeOf n (a / pageSize) with
     | .shared sh p => (s.shPage sh p).ppa.map ppaRegion
     | _ => none)
  | _ => none

/-- A READ reaches its destination: data is taken, or a chunk is fetched and the read waits (10 R325). -/
def State.readArrive (s : State) (i : Nat) (ecc : LinkEcc) (cell : EccFind) : State :=
  match s.findPkt i with
  | none => s
  | some p =>
    if p.kind ≠ 2 ∨ p.answered ∨ p.lost ∨ p.waiting then s
    else
      let s0 := s.linkEcc ecc
      let give := fun (u : State) (d : Piece) (st : Nat) => u.updPkt i (fun q => { q with answered := true, piece := d, status := st })
      if ecc.drops then s0.updPkt i (fun q => { q with lost := true })
      else match p.places with
        | pl :: _ =>
          let s1 := s0.cellEcc pl cell
          if (s1.sharedAt pl).any (fun r => s1.unreachable p.part (tileRegion p.t) r) then give s1 p.piece 3
          else match pl with
            | .sram u a =>
              (match s1.keyBlock p.part (tileRegion p.t) (tileRegion u) with
               | some b => (s1.keyDrop b.1 b.2 0 (s1.pt p.part).key).updPkt i (fun q => { q with lost := true, keyDropped := true })
               | none => if sramSize < a + p.len then give s1 p.piece 2 else give s1 (s1.sramPiece u a p.len) 0)
            | .slice u a => give s1 (s1.slicePiece u a p.len) 0
            | .range n a =>
              match s1.rangeRead n a p.len (.pkt i) with
              | .refused => give s1 p.piece 3
              | .data d => give ((s1.markRead n a).dropPassed (.pkt i) none) d 0
              | .wait k =>
                (s1.fetchChunk n k (some (a / pageSize)) (.pkt i) (some (tileRegion p.t))).updPkt i (fun q => { q with waiting := true })
        | [] => s0

/-- A response reaches the mover: the transfer goes on, or ends with the exception of its STATUS. -/
def State.writeAck (s : State) (i : Nat) : State :=
  match s.findPkt i with
  | none => s
  | some p =>
    if p.kind = 2 ∨ !p.answered then s
    else if p.status = 0 then (s.delPkt i).pumpTile p.t
    else s.failPkt p (statusExc p.status) (excDetail (statusExc p.status) p.off)

def State.readData (s : State) (i : Nat) (ecc : LinkEcc) : State :=
  match s.findPkt i with
  | none => s
  | some p =>
    if p.kind ≠ 2 ∨ !p.answered ∨ p.lost then s
    else
      let s1 := s.linkEcc ecc
      if ecc.drops then s1.updPkt i (fun q => { q with lost := true })
      else if p.status ≠ 0 then s1.failPkt p (statusExc p.status) (excDetail (statusExc p.status) p.off)
      else
        let s2 := s1.delPkt i
        match s2.findXfer p.xfer with
        | none => s2
        | some x =>
          match x.cuts.find? (fun c => c.off == p.off) with
          | some c => (s2.updXfer x.id (fun y => { y with gather := tset y.gather c.dst (p.piece.poisonIf ecc.poisons) })).pumpTile p.t
          | none => s2

def execWrite (pkt : Nat) (ecc : LinkEcc) (s : State) : Host.Outcome State Fault Refusal := ok (s.writeArrive pkt 1 ecc)
def execWriteCast (pkt : Nat) (ecc : LinkEcc) (s : State) : Host.Outcome State Fault Refusal := ok (s.writeArrive pkt 3 ecc)
def execRead (pkt : Nat) (ecc : LinkEcc) (cell : EccFind) (s : State) : Host.Outcome State Fault Refusal := ok (s.readArrive pkt ecc cell)
def execWriteAck (pkt : Nat) (s : State) : Host.Outcome State Fault Refusal := ok (s.writeAck pkt)
def execReadData (pkt : Nat) (ecc : LinkEcc) (s : State) : Host.Outcome State Fault Refusal := ok (s.readData pkt ecc)

end Sys2Proof.Machine
end

