-- ==== Sys2Proof/Machine/Streams.lean ====
section
/-! DEFINITION. Taps, egress entries, weight streams and gradient streams at the tiles, and the egress engine
(05 R175-R181, 06 R217-R220, 09 R299-R302, 11 R366-R370, 12 R401-R404). -/
namespace Sys2Proof.Machine

/-! ### The XQ instructions (06 R217-R219) -/

/-- A ring of a record: 256 B aligned, 256 B to 512 KiB, wholly in data banks. -/
def TileSt.ringOk (x : TileSt) (base size : Nat) : Bool :=
  decide (base % 256 = 0) && decide (size % 256 = 0) && decide (256 ≤ size) && decide (size ≤ 0x80000) && decide (base + size ≤ sramSize) &&
    !x.inProgram base size

/-- TAP: the record is read and checked, and entry E is ARMED (06 R218, 05 R176). -/
def State.tapOp (s : State) (t : Nat) (e : BitVec 3) (ar : BitVec 4) : Eff :=
  let x := s.tile t
  let a := (x.aGet ar.toNat).toNat
  match x.sramCheck a 32 32 false with
  | some f => f
  | none =>
    let b := s.sramBytes t a 32
    let good := decide (leAt b 0 2 < 4096) && decide (leAt b 2 1 < 16) && decide (leAt b 3 1 = 0) && decide (leAt b 4 4 ≤ leAt b 8 4) &&
      decide (1 ≤ leAt b 16 4) && decide (leAt b 16 4 ≤ leAt b 12 4) && decide (leAt b 12 4 ≤ 65536) && x.ringOk (leAt b 20 4) (leAt b 24 4) &&
      decide (leAt b 28 4 = 0)
    if !good ∨ (x.tap e.toNat).state = .attached then excTapConfig a
    else .done (s.setT t (x.setTap e.toNat {
      state := .armed, stream := BitVec.ofNat 12 (leAt b 0 2), token := BitVec.ofNat 4 (leAt b 2 1), first := BitVec.ofNat 32 (leAt b 4 4),
      last := BitVec.ofNat 32 (leAt b 8 4), period := leAt b 12 4, take := leAt b 16 4, ringBase := leAt b 20 4, ringSize := leAt b 24 4 })) 0 none

/-- TAPX: the entry is IDLE. -/
def State.tapxOp (s : State) (t : Nat) (e : BitVec 3) : Eff :=
  .done (s.updT t (fun x => x.setTap e.toNat { x.tap e.toNat with state := .idle })) 0 none

/-- The count of STREL, ECONTRIB and ESKIP (06 R217). -/
def TileSt.countOf (x : TileSt) (c : CountArgs) : Nat := if c.immf then c.imm.toNat else (x.sGet c.n.toNat).toNat % 2 ^ 32

def excAborted (st : Byte) : Eff := .exc { code := 0x0D, addr := 0, stream := st.toNat }

/-- STREL: n granules at the head of the ring are freed (06 R218, 05 R177). -/
def State.strelOp (s : State) (t : Nat) (c : CountArgs) : Eff :=
  let x := s.tile t
  let e := x.tap c.e.toNat
  let n := x.countOf c
  if n = 0 then .done s 0 none
  else if e.state = .aborted then excAborted e.status
  else if e.fill < n then excTapConfig 0
  else .done (s.setT t (x.setTap c.e.toNat { e with fill := e.fill - n })) 0 none

/-- EGRESS: the record is read and checked, and entry E is ARMED with the compressor configuration in force (06 R219, 08 R263). -/
def State.egressOp (s : State) (t : Nat) (e : BitVec 3) (ar : BitVec 4) : Eff :=
  let x := s.tile t
  let a := (x.aGet ar.toNat).toNat
  match x.sramCheck a 32 32 false with
  | some f => f
  | none =>
    let b := s.sramBytes t a 32
    let good := decide (leAt b 0 2 < 4096) && decide (leAt b 2 1 < 16) && decide (leAt b 3 1 ≤ 2) && decide (leAt b 4 4 ≤ leAt b 8 4) &&
      decide (leAt b 12 4 = 0) && x.ringOk (leAt b 16 4) (leAt b 20 4) && decide (leAt b 24 8 = 0)
    if !good ∨ (x.eg e.toNat).state = .attached ∨ !x.comp.egressOk (leAt b 3 1) then excTapConfig a
    else .done (s.setT t (x.setEg e.toNat {
      state := .armed, stream := BitVec.ofNat 12 (leAt b 0 2), token := BitVec.ofNat 4 (leAt b 2 1), red := leAt b 3 1, first := leAt b 4 4,
      last := leAt b 8 4, ringBase := leAt b 16 4, ringSize := leAt b 20 4, next := leAt b 4 4, comp := x.comp })) 0 none

/-- ECONTRIB and ESKIP: the next n indices are contributed or skipped (06 R219). -/
def State.contribOp (s : State) (t : Nat) (c : CountArgs) (skip : Bool) : Eff :=
  let x := s.tile t
  let e := x.eg c.e.toNat
  let n := x.countOf c
  if n = 0 then .done s 0 none
  else if e.state = .aborted then excAborted e.status
  else if e.state = .idle ∨ e.last + 1 < e.next + n ∨ (!skip && decide (e.ringSize / 256 < e.fill + n)) then excTapConfig 0
  else .done (s.setT t (x.setEg c.e.toNat { e with
    next := e.next + n, runs := e.runs ++ [{ first := e.next, count := n, skip := skip }],
    fill := if skip then e.fill else e.fill + n, count := satAdd e.count n })) 0 none

/-- A wait names a token of an ABORTED tap or egress entry: the status it carries (05 R176, 06 R219). -/
def TileSt.abortedToken (x : TileSt) (k : BitVec 4) : Option Byte :=
  match x.taps.find? (fun (p : Nat × Tap) => p.2.state == .aborted && p.2.token == k) with
  | some p => some p.2.status
  | none => (x.egress.find? (fun (p : Nat × Egress) => p.2.state == .aborted && p.2.token == k)).map (fun (p : Nat × Egress) => p.2.status)

/-- A queue's entries. -/
def TileSt.queue (x : TileSt) : Queue → List QEntry
  | .vq => x.vq | .tq => x.tq | .sq => x.sq | .mq => x.mq | .xq => x.xq

/-- The first queued instruction that waits on a token of an ABORTED entry raises STREAM_ABORTED (05 R176). -/
def State.abortWaiters (s : State) (t : Nat) : State :=
  let x := s.tile t
  let find := fun (q : Queue) => (x.queue q).findSome? (fun e =>
    if e.tok.we && !e.begun then (x.abortedToken e.tok.wt).map (fun st => (q, e.index, st)) else none)
  match [Queue.vq, .tq, .sq, .mq, .xq].findSome? find with
  | some (q, i, st) => s.raise t { code := 0x0D, queue := q.code, index := i, addr := 0, stream := st.toNat }
  | none => s

/-! ### The tree of a stream (09 R299, R302) -/

def State.findInst (s : State) (i : Nat) : Option Inst := s.insts.find? (fun x => x.id == i)
def State.updInst (s : State) (i : Nat) (f : Inst → Inst) : State :=
  { s with insts := s.insts.map (fun x => if x.id = i then f x else x) }

/-- The tiles of the row segments. -/
def Inst.tiles (x : Inst) : List Nat :=
  (List.range (x.seg.ty1 + 1 - x.seg.ty0)).flatMap (fun j => (List.range (x.x1 + 1 - x.x0)).map (fun i => tileAt (x.x0 + i) (x.seg.ty0 + j)))

def Inst.has (x : Inst) (t : Nat) : Bool :=
  decide (x.x0 ≤ tileX t) && decide (tileX t ≤ x.x1) && decide (x.seg.ty0 ≤ tileY t) && decide (tileY t ≤ x.seg.ty1)

/-- The row of the set where the column segment begins: the one nearest the service row. -/
def Inst.entryRow (x : Inst) : Nat := min (max x.row0 x.seg.ty0) x.seg.ty1

/-- The tile a tile gets the stream from; none: from the engine. -/
def Inst.pred (x : Inst) (t : Nat) : Option Nat :=
  let c := tileX t
  let r := tileY t
  if c < x.ec then some (tileAt (c + 1) r)
  else if x.ec < c then some (tileAt (c - 1) r)
  else if r < x.entryRow then some (tileAt c (r + 1))
  else if x.entryRow < r then some (tileAt c (r - 1))
  else none

/-- A mark made at the tile or on its way from the engine. -/
def Inst.marked (x : Inst) (l : List (Nat × Nat)) (g : Nat) : Nat → Nat → Bool
  | 0, _ => false
  | n + 1, t =>
    l.contains (t, g) ||
    (match x.pred t with
     | some p => Inst.marked x l g n p
     | none => false)

def Inst.progOf (x : Inst) (t : Nat) : Nat := tget 0 x.prog t

/-- The tile before has taken at least `k` of OPEN and granules. -/
def Inst.reached (x : Inst) (t k : Nat) : Bool :=
  match x.pred t with
  | some p => decide (k ≤ x.progOf p)
  | none => true

/-! ### Weight streams (05 R175-R178, 11 R366-R369) -/

/-- An OPEN marker reaches a tile: ARMED entries of its stream attach. -/
def State.openArrive (s : State) (t i : Nat) : State :=
  match s.findInst i with
  | none => s
  | some x =>
    if x.gradient ∨ !x.has t ∨ x.progOf t ≠ 0 ∨ !x.reached t 1 then s
    else (s.updInst i (fun y => { y with prog := tset y.prog t 1 })).updT t (fun u => { u with
      taps := u.taps.map (fun (p : Nat × Tap) =>
        if p.2.state = .armed ∧ p.2.stream.toNat = x.stream then (p.1, { p.2 with state := .attached, gen := x.gen, slot := x.slot, seen := true, inst := i })
        else p) })

/-- An attached entry takes granule `g` (05 R176). -/
def Tap.takes (p : Tap) (i g : Nat) : Bool :=
  p.state == .attached && decide (p.inst = i) && decide (p.first.toNat ≤ g) && decide (g ≤ p.last.toNat) &&
    decide ((g - p.first.toNat) % p.period < p.take)

/-- An instance fails: it opens nothing more and will send ABORT (11 R368). -/
def State.failInst (s : State) (i : Nat) (st : Nat) (detail : Nat) : State :=
  s.updInst i (fun x => match x.failed with
    | none => if x.ended.isNone then { x with failed := some (BitVec.ofNat 8 st, BitVec.ofNat 32 detail) } else x
    | some _ => x)

/-- Where granule `g` of a weight instance lies: an address of the range, or a chunk of host memory (11 R369, R356). -/
def Inst.source (x : Inst) (g : Nat) : Nat ⊕ ChunkKey :=
  if x.seg.src = 1 then .inr { src := .host (.inst x.id), page := g / 256 / 32, chunk := g / 256 % 32 }
  else .inl ((if x.seg.src = 0 then x.seg.addr else x.base) + 256 * g)

/-- The engine sends its next granule, or waits for a chunk, or the instance fails. -/
def State.engineSend (s : State) (x : Inst) : State :=
  let g := x.sent
  let give := fun (u : State) (p : Piece) =>
    (u.updInst x.id (fun y => { y with sent := g + 1, units := tset y.units g p })).updP x.part (fun q => { q with wgt := { q.wgt with granules := q.wgt.granules + 1 } })
  match x.source g with
  | .inl a =>
    (match s.rangeRead x.part a 256 (.inst x.id) with
     | .refused => s.failInst x.id 2 0
     | .data p => give ((s.markRead x.part a).dropPassed (.inst x.id) none) p
     | .wait k => s.fetchChunk x.part k (some (a / pageSize)) (.inst x.id) (some x.well))
  | .inr k =>
    match s.passedFor k (.inst x.id) with
    | some d => give (s.dropPassed (.inst x.id) (some k)) (bytesPiece 0 ((d.drop (256 * (g % 256))).take 256))
    | none => s.fetchChunk x.part k none (.inst x.id) none

/-- Every tile has taken what came before granule `g`. -/
def Inst.prune (x : Inst) : Inst :=
  let low := (x.tiles.map (fun t => x.progOf t)).foldl min (x.granules + 1)
  { x with units := x.units.filter (fun (u : Nat × Piece) => decide (low ≤ u.1 + 1)) }

/-- A stream granule reaches a tile: attached entries that take it copy it, or the tile holds the stream (05 R176, R177, 09 R301). -/
def State.granuleArrive (s0 : State) (t i : Nat) (ecc : LinkEcc) : State :=
  match s0.findInst i with
  | none => s0
  | some x0 =>
    if x0.gradient ∨ !x0.has t ∨ x0.progOf t = 0 ∨ x0.granules < x0.progOf t ∨ !x0.reached t (x0.progOf t + 1) then s0
    else
      let g := x0.progOf t - 1
      let s := if x0.sent = g ∧ x0.ended.isNone ∧ x0.failed.isNone then s0.engineSend x0 else s0
      match s.findInst i with
      | none => s
      | some x =>
        match tfind x.units g with
        | none => s
        | some p0 =>
          let s1 := (s.linkEcc ecc).updInst i (fun y => { y with
            bad := if ecc.poisons then y.bad ++ [(t, g)] else y.bad
            gap := if ecc.drops then y.gap ++ [(t, g)] else y.gap })
          let y := (s1.findInst i).getD x
          let pass := fun (u : State) => u.updInst i (fun z => { z with prog := tset z.prog t (g + 2) }.prune)
          if y.marked y.gap g 600 t then pass s1
          else
            let p := p0.poisonIf (y.marked y.bad g 600 t)
            let u := s1.tile t
            let takers := u.taps.filter (fun (e : Nat × Tap) => e.2.takes i g)
            if takers.any (fun (e : Nat × Tap) => decide (e.2.ringSize / 256 ≤ e.2.fill)) then s.updT t (fun z => z.count 6 1)
            else
              let s2 := takers.foldl (fun (v : State) (e : Nat × Tap) =>
                (v.sramPut t (e.2.ringBase + (e.2.tail * 256) % e.2.ringSize) p).updT t (fun z =>
                  (z.setTap e.1 { e.2 with tail := e.2.tail + 1, fill := e.2.fill + 1, count := satInc e.2.count }).tokInc e.2.token.toNat 1)) s1
              pass s2

/-- The tile has taken everything that came before the end marker. -/
def Inst.drainedAt (x : Inst) (t : Nat) : Bool := decide (x.progOf t = x.sent + 1) && !x.shut.contains t

/-- The tile before has the end marker. -/
def Inst.endReached (x : Inst) (t : Nat) : Bool :=
  match x.pred t with
  | some p => x.shut.contains p
  | none => true

/-- An instance has ended on every tile: its route entries go (09 R300). -/
def State.retireInst (s : State) (i : Nat) : State :=
  match s.findInst i with
  | none => s
  | some x =>
    if x.tiles.all (fun t => x.shut.contains t) ∧ x.ended.isSome then
      { s with
        insts := s.insts.filter (fun y => y.id != i)
        passed := s.passed.filterMap (fun p =>
          let l := p.waiters.filter (fun w => w != .inst i)
          if l.isEmpty then none else some { p with waiters := l })
        fetches := s.fetches.map (fun f => { f with waiters := f.waiters.filter (fun w => w != .inst i) }) }
    else s

/-- The end marker reaches a tile: attached entries become DONE or ABORTED (05 R176). -/
def State.endArrive (s : State) (t i : Nat) (abort : Bool) : State :=
  match s.findInst i with
  | none => s
  | some x =>
    match x.ended with
    | none => s
    | some (st, _) =>
      if x.gradient ∨ !x.has t ∨ !x.drainedAt t ∨ !x.endReached t ∨ abort = decide (st = 0) then s
      else
        let s1 := (s.updInst i (fun y => { y with shut := y.shut ++ [t] })).updT t (fun u => { u with
          taps := u.taps.map (fun (p : Nat × Tap) =>
            if p.2.state = .attached ∧ p.2.inst = i then (p.1, { p.2 with state := if abort then .aborted else .done, status := st }) else p) })
        (if abort then s1.abortWaiters t else s1).retireInst i

/-! ### Gradient streams (05 R179-R181, 09 R302, 11 R370) -/

/-- A GRAD_OPEN reaches a tile: ARMED entries of its stream attach; one with another RED raises TAP_CONFIG. -/
def State.gradOpenArrive (s : State) (t i : Nat) : State :=
  match s.findInst i with
  | none => s
  | some x =>
    if !x.gradient ∨ !x.has t ∨ x.progOf t ≠ 0 ∨ !x.reached t 1 then s
    else
      let s1 := s.updInst i (fun y => { y with prog := tset y.prog t 1 })
      let mine := fun (p : Nat × Egress) => p.2.state == .armed && decide (p.2.stream.toNat = x.stream)
      if (s.tile t).egress.any (fun p => mine p && decide (p.2.red ≠ x.seg.red)) then
        s1.raise t { code := 7, queue := 6, index := (s.tile t).index, addr := 0 }
      else s1.updT t (fun u => { u with
        egress := u.egress.map (fun (p : Nat × Egress) => if mine p then (p.1, { p.2 with state := .attached, inst := i }) else p) })

/-- What a tile's entry gives for an index: not yet, nothing (skipped or not covered), or its granule and the entry. -/
inductive Local where
  | hold
  | nothing (e : Option Nat)
  | granule (e : Nat) (p : Piece)
deriving DecidableEq, Repr

/-- The run that holds an index. -/
def Egress.runOf (e : Egress) (i : Nat) : Option EgRun := e.runs.find? (fun r => decide (r.first ≤ i) && decide (i < r.first + r.count))

/-- A contributed granule as it leaves: compressed in granule mode when configured (08 R263). -/
def compressed (c : CompCfg) (p : Piece) : Piece :=
  if c.mode = 0 then p
  else
    let d := c.granule p.data
    { data := d, st := if p.st = .poisoned then .poisoned else .held (crc32c d) }

def State.localGranule (s : State) (t i g : Nat) : Local :=
  let u := s.tile t
  match u.egress.find? (fun (p : Nat × Egress) => p.2.state == .attached && decide (p.2.inst = i) && decide (p.2.first ≤ g) && decide (g ≤ p.2.last)) with
  | some (k, e) =>
    if e.next ≤ g then .hold
    else match e.runOf g with
      | some r => if r.skip then .nothing (some k) else .granule k (compressed e.comp (s.sramPiece t (e.slotAddr 0) 256))
      | none => .nothing (some k)
  | none => .nothing none

/-- What a halted tile's entry had contributed for an index. -/
def TileSt.goneGranule (u : TileSt) (i g : Nat) : Option Piece :=
  u.gone.findSome? (fun x => if x.inst = i then (tfind x.items g).map (compressed x.comp) else none)

def TileSt.dropGone (u : TileSt) (i g : Nat) : TileSt :=
  let l := u.gone.map (fun q => if q.inst = i then { q with items := tdel q.items g } else q)
  { u with gone := l.filter (fun q => !q.items.isEmpty) }

/-- The index is forwarded: the run's first index leaves; a contributed granule frees its ring space and gives its token (06 R219). -/
def Egress.forward (e : Egress) (g : Nat) (taken : Bool) : Egress :=
  let runs := e.runs.filterMap (fun r =>
    if r.first = g then (if r.count ≤ 1 then none else some { r with first := g + 1, count := r.count - 1 }) else some r)
  { e with
    runs := runs, head := if taken then e.head + 1 else e.head, fill := if taken then e.fill - 1 else e.fill,
    state := if g = e.last then .done else e.state }

/-- 32-bit words, or 128-bit partials, of a granule. -/
def wordsOf (n : Nat) (d : List Byte) : List Nat := (List.range (256 / n)).map (fun k => leAt d (n * k) n)

/-- Two granules under a reduction: 0 NONE, 1 SUM_FP32, 2 SUM_WIDE (05 R180, R181). `free`: a granule that the spec does not state,
two contributions under NONE (log 25). -/
def combine (red : Nat) (free : Piece) (a b : Option Piece) : Option Piece :=
  match a, b with
  | none, y => y
  | x, none => x
  | some x, some y =>
    let bad := x.st == .poisoned || y.st == .poisoned
    let mk := fun (d : List Byte) => ({ data := d, st := if bad then .poisoned else .held (crc32c d) } : Piece)
    if red = 1 then some (mk (((wordsOf 4 x.data).zip (wordsOf 4 y.data)).flatMap (fun (w : Nat × Nat) =>
      leBytes 4 (sumFp32 (BitVec.ofNat 32 w.1) (BitVec.ofNat 32 w.2)).toNat)))
    else if red = 2 then some (mk (((wordsOf 16 x.data).zip (wordsOf 16 y.data)).flatMap (fun (w : Nat × Nat) =>
      leBytes 16 (partialAdd (BitVec.ofNat 128 w.1) (BitVec.ofNat 128 w.2)).toNat)))
    else some (mk free.data)

/-- The granule a neighbour has put out for index `g`: none, it has not yet. -/
def Inst.outOf (x : Inst) (t g : Nat) : Option (Option Piece) := tfind (tget [] x.fwd t) g
def Inst.takeOut (x : Inst) (t g : Nat) : Inst := { x with fwd := tset x.fwd t (tdel (tget [] x.fwd t) g) }

/-- The inputs of a tile's router for a gradient: west, east, south. -/
def Inst.inputs (x : Inst) (t : Nat) : Option Nat × Option Nat × Option Nat :=
  let c := tileX t
  let r := tileY t
  (if c ≤ x.ec ∧ x.x0 < c then some (tileAt (c - 1) r) else none,
   if x.ec ≤ c ∧ c < x.x1 then some (tileAt (c + 1) r) else none,
   if c = x.ec ∧ x.seg.ty0 < r then some (tileAt c (r - 1)) else none)

/-! ### The egress engine (12 R401-R404) -/

/-- A gradient frame's body (12 T12.11), with its granules packed or not. -/
def gradBody (packed : Bool) (first : Nat) (l : List Piece) : List Byte :=
  let plain := l.flatMap (fun p => p.data)
  let q := fun (d : List Byte) => (List.range 9).find? (fun k => (d.drop (32 * k)).all (fun b => b == 0)) |>.getD 8
  let data := if packed then l.flatMap (fun p => BitVec.ofNat 8 (q p.data) :: p.data.take (32 * q p.data)) else plain
  leBytes 2 0x4752 ++ [if packed then 1 else 0, 0] ++ leBytes 4 first ++ leBytes 4 l.length ++ leBytes 4 (crc32c plain).toNat ++ data

/-- The private slot of a partition that holds a key ID (02 R79). -/
def State.privateKey (s : State) (n id : Nat) : Option (Nat × KeySlot) :=
  if id = 0 then none
  else s.sec.privateKeys.find? (fun (k : Nat × KeySlot) => decide (k.1 / 16 = n) && decide (k.2.keyId.toNat = id))

/-- A chunk frame sealed under a key (11 T11.1). -/
def sealFrame (key : BitVec 256) (keyId chunkId objectId : Nat) (nonce plain : List Byte) : List Byte :=
  let head := leBytes 4 0x4652574B ++ leBytes 4 1 ++ leBytes 4 keyId ++ leBytes 4 plain.length ++ nonce ++ leBytes 4 chunkId ++ leBytes 8 objectId ++
    List.replicate 8 0
  head ++ Config.gcmSeal key nonce head plain

/-- GRAD_DATA for one held frame. -/
def State.sendGradData (s : State) (x : Inst) (reqId first count : Nat) (frame : List Byte) : State :=
  s.protoSend x.seg.wport 2 0x0011 reqId x.seg.server.toNat 0 (leBytes 8 x.seg.destId.toNat ++ leBytes 4 first ++ leBytes 4 count) frame

/-- An instance that closes or aborts towards its server sends GRAD_ABORT once it fails (12 R403). -/
def State.gradAbort (s : State) (i st detail : Nat) : State :=
  match s.findInst i with
  | some x =>
    if x.failed.isSome ∨ x.ended.isSome then s
    else (s.failInst i st detail).protoSend x.seg.wport 2 0x0013 x.openReq x.seg.server.toNat st (leBytes 8 x.seg.destId.toNat) []
  | none => s

/-- GRAD_CLOSE, after the last frame has been acknowledged (12 R401). -/
def State.gradClose (s : State) (i : Nat) : State :=
  match s.findInst i with
  | some x =>
    if x.gradient ∧ x.failed.isNone ∧ !x.closeSent ∧ x.combined = x.granules ∧ x.egress.isEmpty ∧ x.frames.isEmpty then
      (s.updInst i (fun y => { y with closeSent := true })).protoSend x.seg.wport 2 0x0012 x.openReq x.seg.server.toNat 0
        (leBytes 8 x.seg.destId.toNat ++ leBytes 4 x.frameCount) []
    else s
  | none => s

/-- The engine frames up to 256 combined granules, encrypts and sends them; a bad check or poison aborts the instance (12 R401-R404). -/
def State.gradFrame (s : State) (i : Nat) : State :=
  match s.findInst i with
  | none => s
  | some x =>
    if x.failed.isSome ∨ x.egress.isEmpty ∨ (x.egress.length < 256 ∧ x.combined < x.granules) then s
    else if x.egress.any (fun p => p.st == .poisoned) then s.gradAbort i 9 (x.combined - x.egress.length)
    else match x.egress.findIdx? (fun p => !p.checked) with
      | some k => s.gradAbort i 5 (x.combined - x.egress.length + k)
      | none =>
        match s.privateKey x.part x.seg.keyId.toNat with
        | none => s.gradAbort i 6 x.seg.keyId.toNat
        | some (slot, key) =>
          let first := x.combined - x.egress.length
          let count := x.egress.length
          let plain := gradBody false first x.egress
          let short := gradBody true first x.egress
          let body := if x.packed ∧ short.length < plain.length then short else plain
          let nonce := (0xE0 : Byte) :: leBytes 3 (s.tor.id.toNat + 2 ^ 18 * x.seg.wport) ++ leBytes 8 key.counter.toNat
          let n := first / 256
          let f := sealFrame key.key x.seg.keyId.toNat (n % 32 + 32 * (n / 32)) x.seg.destId.toNat nonce body
          let s1 := { s with
            sec := { s.sec with privateKeys := tset s.sec.privateKeys slot { key with counter := key.counter + 1 } }
            nextReq := s.nextReq + 1 }
          (s1.updInst i (fun y => { y with
            egress := [], frameCount := y.frameCount + 1, frames := y.frames ++ [{ reqId := s.nextReq, first := first, data := f }] })).sendGradData
            x s.nextReq first count f

/-- A granule index at a tile's router (05 R180, 09 R302): held until the tile has contributed or skipped it and its inputs are there; combined and
put out, at the northmost row of the entry column to the egress engine, which takes none while it holds 8 frames. -/
def State.gradArrive (s0 : State) (t i : Nat) (ecc : LinkEcc) : State :=
  match s0.findInst i with
  | none => s0
  | some x =>
    let g := x.progOf t - 1
    if !x.gradient ∨ !x.has t ∨ x.progOf t = 0 ∨ x.granules ≤ g ∨ x.failed.isSome then s0
    else
      let ins := x.inputs t
      let get := fun (o : Option Nat) => match o with
        | some n => x.outOf n g
        | none => some none
      match get ins.1, get ins.2.1, get ins.2.2 with
      | some w, some e, some sth =>
        let last := decide (tileX t = x.ec) && decide (tileY t = x.seg.ty1)
        if last && decide (8 ≤ x.frames.length) then s0.updT t (fun u => u.count 7 1)
        else
          match s0.localGranule t i g with
          | .hold => s0.updT t (fun u => u.count 7 1)
          | l =>
            let s := s0.linkEcc ecc
            let mine := match l with
              | .granule _ p => some p
              | _ => (s.tile t).goneGranule i g
            let hit := fun (o : Option Piece) => if ecc.drops then none else o.map (fun p => p.poisonIf ecc.poisons)
            let freeP : Piece := { data := leBytes 256 (Config.freeBits 2048 s.free).toNat, st := .local' }
            let cmb := combine x.seg.red freeP
            let west := hit w
            let out := if tileX t < x.ec then cmb west mine
              else if x.ec < tileX t then cmb (hit e) mine
              else cmb sth (cmb west (cmb (hit e) mine))
            let s1 := match l with
              | .granule k p =>
                let u := (s.updT t (fun z => (z.setEg k ((z.eg k).forward g true)).tokInc (z.eg k).token.toNat 1))
                if p.st = GState.poisoned then u.sentPoison t g else u
              | .nothing (some k) => s.updT t (fun z => z.setEg k ((z.eg k).forward g false))
              | _ => s.updT t (fun z => z.dropGone i g)
            let s2 := (s1.takeFree 1).updInst i (fun y =>
              let y1 := [ins.1, ins.2.1, ins.2.2].foldl (fun (z : Inst) o => match o with
                | some n => z.takeOut n g
                | none => z) { y with prog := tset y.prog t (g + 2) }
              if last then { y1 with egress := y1.egress ++ [out.getD (zeroPiece 0 256)], combined := y1.combined + 1 }
              else { y1 with fwd := tset y1.fwd t (tset (tget [] y1.fwd t) g out) })
            if last then (s2.gradFrame i).gradClose i else s2
      | _, _, _ => s0

/-- A gradient instance that has failed or is done ends at every tile: its egress entries become ABORTED; those of a closed one keep their state. -/
def State.gradEnd (s : State) (i : Nat) : State :=
  match s.findInst i with
  | none => s
  | some x =>
    match x.ended with
    | none => s
    | some (st, _) =>
      let s1 := x.tiles.foldl (fun (u : State) t =>
        if st = 0 ∨ !(u.tile t).egress.any (fun (p : Nat × Egress) => p.2.state == .attached && decide (p.2.inst = i)) then
          u.updT t (fun z => { z with gone := z.gone.filter (fun q => q.inst != i) })
        else (u.updT t (fun z => { z with
          gone := z.gone.filter (fun q => q.inst != i)
          egress := z.egress.map (fun (p : Nat × Egress) =>
            if p.2.state = .attached ∧ p.2.inst = i then (p.1, { p.2 with state := .aborted, status := st }) else p) })).abortWaiters t) s
      (s1.updInst i (fun y => { y with shut := y.tiles })).retireInst i

def execStreamOpenArrive (t : Tile) (inst : Nat) (s : State) : Host.Outcome State Fault Refusal := ok (s.openArrive t inst)
def execStreamGranuleArrive (t : Tile) (inst : Nat) (ecc : LinkEcc) (s : State) : Host.Outcome State Fault Refusal :=
  ok (s.granuleArrive t inst ecc)
def execStreamCloseArrive (t : Tile) (inst : Nat) (s : State) : Host.Outcome State Fault Refusal := ok (s.endArrive t inst false)
def execStreamAbortArrive (t : Tile) (inst : Nat) (s : State) : Host.Outcome State Fault Refusal := ok (s.endArrive t inst true)
def execGradOpenArrive (t : Tile) (inst : Nat) (s : State) : Host.Outcome State Fault Refusal := ok (s.gradOpenArrive t inst)
def execGradientGranuleArrive (t : Tile) (inst : Nat) (ecc : LinkEcc) (s : State) : Host.Outcome State Fault Refusal :=
  ok (s.gradArrive t inst ecc)

end Sys2Proof.Machine
end

