-- ==== Sys2Proof/Machine/Queues.lean ====
section
/-! DEFINITION. Queued instructions: what their fields admit, their issue, their beginning, their completion
(05 R154-R156, 06 R185-R194, R202-R219). -/
namespace Sys2Proof.Machine

/-! ### Fields (06 R185, R188, R202-R217) -/

def VArgs.noB (v : VArgs) : Bool := v.vb == 0
def VArgs.noC (v : VArgs) : Bool := v.vc == 0

/-- Parts of a register a format's POS names (06 T6.13). -/
def partPos (ty : Nat) : Nat :=
  match ty with
  | 8 => 2 | 9 => 2 | 4 => 5 | 5 => 5 | 6 => 8 | _ => 4

def RndArgs.ok (r : RndArgs) : Bool := decide (r.rnd.toNat < 4)
def narrowType (ty : BitVec 4) : Bool := ty == 0 || ty == 1 || ty == 8 || ty == 9
def mxType (ty : BitVec 4) : Bool := isMx ty.toNat

/-- Sub-functions, types and the fields that must be 0; anything else raises ILLEGAL_INSTRUCTION at issue. -/
def QOp.fieldsOk : QOp → Bool
  | .vf fn v => decide (fn.toNat < 9) && (fn == 3 || fn == 4 || v.noC) && (decide (fn.toNat < 7) || v.noB)
  | .vsf fn v => decide (fn.toNat < 6) && v.noB && v.noC
  | .vi fn v => decide (fn.toNat < 13) && v.noC
  | .vcmp fn ty v => decide (fn.toNat < 6) && decide (ty.toNat < 3) && v.noC && !v.pz && decide (v.vd.toNat < 8)
  | .vsel v => v.noC && !v.pz
  | .vred fn v => decide (fn.toNat < 4) && v.noB && v.noC && !v.pz
  | .vperm fn v imm => v.noC && (if fn = 2 then v.noB && decide (imm.toNat < 64) else decide (fn.toNat < 2) && imm == 0)
  | .vmov fn v imm => v.noB && v.noC &&
      (match fn.toNat with
       | 0 => imm == 0
       | 1 => decide (imm.toNat < 64) && v.pg == 0 && !v.pz
       | 2 => decide (imm.toNat < 64) && v.pg == 0 && !v.pz
       | 3 => imm == 0 && v.va == 0
       | _ => false)
  | .vcvt ty r v => decide (ty.toNat < 4) && r.ok && v.noB && v.noC
  | .vnarrow ty r v pos => narrowType ty && r.ok && v.noB && v.noC && !v.pz && decide (pos.toNat < partPos ty.toNat)
  | .vwiden ty v pos => narrowType ty && v.noB && v.noC && decide (pos.toNat < partPos ty.toNat)
  | .vmxq ty r v pos => mxType ty && r.ok && v.noB && !v.pz && decide (pos.toNat < partPos ty.toNat)
  | .vmxdq ty v pos => mxType ty && v.noC && decide (pos.toNat < partPos ty.toNat)
  | .ld m => m.part == 0
  | .st m => m.part == 0 && !m.sext
  | .vld m => vecForm m
  | .vst m => vecForm m
  | .tmma x => decide (x.fmt.toNat < 10) && (isMx x.fmt.toNat || (x.asa == 0 && x.asb == 0)) && !x.side
  | .tzero m => m != 0
  | .tdrain x => decide (x.ofmt.toNat < 7)
  | .twadd _ _ => true
  | .smma x => decide (x.fmt.toNat < 4) && x.asb == 0 && (isMx x.fmt.toNat || x.asa == 0)
  | .hacc v => v.vd == 0 && v.noC && !v.pz
  | .hget v => v.noB && !v.pz && decide (v.vc.toNat < 8)
  | .mcopy x => decide (x.dk.toNat < 6) && decide (x.sk.toNat < 4) && (x.twoD || x.sst == 0)
  | .mfill x => decide (x.dk.toNat < 6) && x.sk == 0 && x.asr == 0 && !x.comp && !x.twoD
  | .strel c => countOk c
  | .egress e _ => decide (e.toNat < 4)
  | .econtrib c => countOk c && decide (c.e.toNat < 4)
  | .eskip c => countOk c && decide (c.e.toNat < 4)
  | .hcfg _ => true
  | .hdrain _ => true
  | .hclr => true
  | .ccfg _ => true
  | .tap _ _ => true
  | .tapx _ => true
where
  vecForm (m : MemArgs) : Bool := !m.sext && (m.size == 0 || (m.size == 1 && decide (m.part.toNat < 2)) || (m.size == 2 && m.part == 0))
  countOk (c : CountArgs) : Bool := if c.immf then c.n == 0 else c.imm == 0

/-- DE = 0 leaves DT 0; WE = 0 leaves WT and WS 0 (06 R189). -/
def Tok.ok (k : Tok) : Bool := (k.de || k.dt == 0) && (k.we || (k.wt == 0 && k.ws == 0))

/-! ### Queues (05 R154, T5.1) -/

def QOp.queue : QOp → Queue
  | .vf _ _ | .vsf _ _ | .vi _ _ | .vcmp _ _ _ | .vsel _ | .vred _ _ | .vperm _ _ _ | .vmov _ _ _ | .vcvt _ _ _ | .vnarrow _ _ _ _ | .vwiden _ _ _
  | .vmxq _ _ _ _ | .vmxdq _ _ _ | .ld _ | .st _ | .vld _ | .vst _ => .vq
  | .tmma _ | .tzero _ | .tdrain _ | .twadd _ _ => .tq
  | .smma _ | .hacc _ | .hget _ | .hcfg _ | .hdrain _ | .hclr => .sq
  | .mcopy _ | .mfill _ | .ccfg _ => .mq
  | .tap _ _ | .tapx _ | .strel _ | .egress _ _ | .econtrib _ | .eskip _ => .xq

def Queue.depth : Queue → Nat
  | .vq => 16 | .tq => 8 | .sq => 8 | .mq => 16 | .xq => 8

def TileSt.setQueue (x : TileSt) (q : Queue) (l : List QEntry) : TileSt :=
  match q with
  | .vq => { x with vq := l }
  | .tq => { x with tq := l }
  | .sq => { x with sq := l }
  | .mq => { x with mq := l }
  | .xq => { x with xq := l }

def TileSt.mapQueue (x : TileSt) (q : Queue) (id : Nat) (f : QEntry → QEntry) : TileSt :=
  x.setQueue q ((x.queue q).map (fun e => if e.id = id then f e else e))

/-- Values an instruction rounds stochastically, by which SRCTR advances at issue (06 R190). -/
def QOp.draws (op : QOp) (rmode : BitVec 3) : Nat :=
  match op with
  | .vnarrow _ r _ _ => if effMode r.rnd.toNat rmode = 4 then 64 else 0
  | .vmxq _ r _ _ => if effMode r.rnd.toNat rmode = 4 then 64 else 0
  | .tdrain d => if effMode d.rnd.toNat rmode = 4 ∧ d.ofmt.toNat ≠ 5 then 1024 * (maskBanks d.mask).length else 0
  | _ => 0

/-! ### What an instruction does as it begins -/

/-- A conversion's rounding mode and saturation, as captured at issue. -/
def QEntry.rmodeOf (e : QEntry) (r : RndArgs) : Nat := effMode r.rnd.toNat e.mode

def State.runOp (s : State) (t : Nat) (e : QEntry) : Eff :=
  let x := s.tile t
  let mode := plainMode e.mode.toNat
  match e.op with
  | .vf fn v => .tile s t (x.vf fn.toNat mode v)
  | .vsf fn v => .tile s t (x.vsf fn.toNat v)
  | .vi fn v => .tile s t (x.vi fn.toNat v)
  | .vcmp fn ty v => .tile s t (x.vcmp fn.toNat ty.toNat v)
  | .vsel v => .tile s t (x.vsel v)
  | .vred fn v => .tile s t (x.vred fn.toNat v)
  | .vperm fn v imm => if fn = 1 ∧ x.sBad v.vb.toNat then excPoison else .tile s t (x.vperm fn.toNat v imm)
  | .vmov fn v imm => .tile s t (x.vmov fn.toNat v imm)
  | .vcvt ty r v => .tile s t (x.vcvt ty.toNat (e.rmodeOf r) v)
  | .vnarrow ty r v pos => .tile s t (x.vnarrow ty.toNat (e.rmodeOf r) (r.sat || e.sat) e.seed e.ctr v pos.toNat)
  | .vwiden ty v pos => .tile s t (x.vwiden ty.toNat v pos.toNat)
  | .vmxq ty r v pos => .tile s t (x.vmxq ty.toNat (e.rmodeOf r) e.seed e.ctr v pos.toNat)
  | .vmxdq ty v pos => .tile s t (x.vmxdq ty.toNat v pos.toNat)
  | .ld m => s.ld t m
  | .st m => s.st t m
  | .vld m => s.vld t m
  | .vst m => s.vst t m
  | .tmma a => s.tmma t a
  | .tzero m => s.tzero t m
  | .tdrain d => s.tdrain t e d
  | .twadd aa c => s.twadd t aa c
  | .smma a => s.smma t a
  | .hacc v => s.hacc t v
  | .hget v => s.hget t v
  | .hcfg aa => s.hcfg t aa
  | .hdrain aa => s.hdrain t aa
  | .hclr => s.hclr t
  | .mcopy m => s.mmove t e false m
  | .mfill m => s.mmove t e true m
  | .ccfg a => if s.recordHeld t (x.aGet a.toNat).toNat 64 then .wait s else s.ccfg t a
  | .tap k ar => s.tapOp t k ar
  | .tapx k => s.tapxOp t k
  | .strel c => s.strelOp t c
  | .egress k ar => s.egressOp t k ar
  | .econtrib c => s.contribOp t c false
  | .eskip c => s.contribOp t c true

/-- An exception of a queued instruction. -/
def State.raiseQ (s : State) (t : Nat) (e : QEntry) (x : QExc) : State :=
  s.raise t { code := x.code, queue := e.op.queue.code, index := e.index, addr := x.addr, detail := x.detail, stream := x.stream }

/-- The instruction begins: its effect, its exception, or it waits on. -/
def State.startEntry (s : State) (t : Nat) (e : QEntry) : State :=
  match s.runOp t e with
    | .exc x => s.raiseQ t e x
    | .wait u => u
    | .done u fl x =>
      let s0 := u.updT t (fun y => { y.mapQueue e.op.queue e.id (fun z => { z with begun := true, flags := fl, xfer := x }) with
        hashStall := if e.op.queue = .sq then false else y.hashStall })
      let s1 := if (u.tile t).hashStall then s0.stallSync else s0
      if x.isSome then s1.pumpTile t else s1

/-- The first instruction of a queue not begun, once its token wait holds, begins (05 R156, 06 R189): WS is read at the head. -/
def State.beginHead (s : State) (t : Nat) (q : Queue) : State :=
  let x := s.tile t
  if x.run ≠ .running then s
  else match (x.queue q).find? (fun e => !e.begun) with
    | none => s
    | some e =>
      if q = .mq ∧ 8 ≤ (s.xfers.filter (fun y => decide (y.t = t) && !y.finished)).length then s
      else if !e.tok.we then s.startEntry t e
      else if e.waitV.isNone ∧ x.sBad e.tok.ws.toNat then s.raiseQ t e { code := 0x0C, addr := 0 }
      else
        let v := e.waitV.getD ((x.sGet e.tok.ws.toNat).setWidth 16)
        match x.abortedToken e.tok.wt with
        | some st => s.raiseQ t e { code := 0x0D, addr := 0, stream := st.toNat }
        | none =>
          let s1 := s.updT t (fun y => y.mapQueue q e.id (fun z => { z with waitV := some v }))
          if tokHolds (x.tokGet e.tok.wt.toNat) v then s1.startEntry t e else s1

/-- An instruction is issued into its queue (05 R154, R155; 06 R185, R190), and begins at once when it can. -/
def State.issueQ (s : State) (t : Nat) (op : QOp) (k : Tok) : State :=
  let x := s.tile t
  if x.run ≠ .running ∨ x.hold.isSome then s
  else if x.index < x.progCount ∧ (!op.fieldsOk ∨ !k.ok) then s.illegal t x.index
  else if x.index < x.progCount ∧ op.queue.depth ≤ (x.queue op.queue).length then s.updT t (fun y => y.count 1 1)
  else s.issue t (op.reads ++ (if k.we then [rs k.ws] else [])) op.writes op.accs (fun u i =>
    let e : QEntry := {
      id := (u.tile t).issued - 1, op := op, tok := k, index := i, mode := x.rmode, sat := x.rsat, seed := x.srseed, ctr := x.srctr }
    (u.updT t (fun y => { y.setQueue op.queue (y.queue op.queue ++ [e]) with
      srctr := y.srctr + BitVec.ofNat 64 (op.draws x.rmode) })).beginHead t op.queue)

/-- An instruction that has begun completes (05 R156, 06 R192): flags, done token, its entry frees. -/
def State.completeEntry (s : State) (t : Nat) (q : Queue) (k : Nat) : State :=
  let x := s.tile t
  match ((x.queue q).filter (fun e => e.begun))[k]? with
  | none => s
  | some e =>
    let overs := match e.xfer with
      | some i => (match s.findXfer i with
          | some y => y.finished
          | none => true)
      | none => true
    if !overs then s
    else
      let y := x.setQueue q ((x.queue q).filter (fun z => z.id != e.id))
      let y1 := { y with fstat := y.fstat ||| e.flags }
      let s1 := s.setT t (if e.tok.de then y1.tokInc e.tok.dt.toNat 1 else y1)
      let s2 := match e.xfer with
        | some i => ({ s1 with xfers := s1.xfers.filter (fun z => z.id != i) }).pumpTile t
        | none => s1
      s2.checkRun x.op

def execQueueBegin (t : Tile) (q : Queue) (s : State) : Host.Outcome State Fault Refusal := ok (s.beginHead t q)
def execInstructionComplete (t : Tile) (q : Queue) (k : Nat) (s : State) : Host.Outcome State Fault Refusal := ok (s.completeEntry t q k)

/-! ### The queued instructions -/

section
variable (t : Tile) (v : VArgs) (r : RndArgs) (tok : Tok) (s : State)
def execVadd : Host.Outcome State Fault Refusal := ok (s.issueQ t (.vf 0 v) tok)
def execVsub : Host.Outcome State Fault Refusal := ok (s.issueQ t (.vf 1 v) tok)
def execVmul : Host.Outcome State Fault Refusal := ok (s.issueQ t (.vf 2 v) tok)
def execVfma : Host.Outcome State Fault Refusal := ok (s.issueQ t (.vf 3 v) tok)
def execVfms : Host.Outcome State Fault Refusal := ok (s.issueQ t (.vf 4 v) tok)
def execVfVmin : Host.Outcome State Fault Refusal := ok (s.issueQ t (.vf 5 v) tok)
def execVfVmax : Host.Outcome State Fault Refusal := ok (s.issueQ t (.vf 6 v) tok)
def execVabs : Host.Outcome State Fault Refusal := ok (s.issueQ t (.vf 7 v) tok)
def execVneg : Host.Outcome State Fault Refusal := ok (s.issueQ t (.vf 8 v) tok)
def execVexp2 : Host.Outcome State Fault Refusal := ok (s.issueQ t (.vsf 0 v) tok)
def execVlog2 : Host.Outcome State Fault Refusal := ok (s.issueQ t (.vsf 1 v) tok)
def execVrcp : Host.Outcome State Fault Refusal := ok (s.issueQ t (.vsf 2 v) tok)
def execVrsqrt : Host.Outcome State Fault Refusal := ok (s.issueQ t (.vsf 3 v) tok)
def execVsqrt : Host.Outcome State Fault Refusal := ok (s.issueQ t (.vsf 4 v) tok)
def execVexp : Host.Outcome State Fault Refusal := ok (s.issueQ t (.vsf 5 v) tok)
def execViadd : Host.Outcome State Fault Refusal := ok (s.issueQ t (.vi 0 v) tok)
def execVisub : Host.Outcome State Fault Refusal := ok (s.issueQ t (.vi 1 v) tok)
def execVimul : Host.Outcome State Fault Refusal := ok (s.issueQ t (.vi 2 v) tok)
def execVand : Host.Outcome State Fault Refusal := ok (s.issueQ t (.vi 3 v) tok)
def execVor : Host.Outcome State Fault Refusal := ok (s.issueQ t (.vi 4 v) tok)
def execVxor : Host.Outcome State Fault Refusal := ok (s.issueQ t (.vi 5 v) tok)
def execVshl : Host.Outcome State Fault Refusal := ok (s.issueQ t (.vi 6 v) tok)
def execVshr : Host.Outcome State Fault Refusal := ok (s.issueQ t (.vi 7 v) tok)
def execVsar : Host.Outcome State Fault Refusal := ok (s.issueQ t (.vi 8 v) tok)
def execViVmin : Host.Outcome State Fault Refusal := ok (s.issueQ t (.vi 9 v) tok)
def execViVmax : Host.Outcome State Fault Refusal := ok (s.issueQ t (.vi 10 v) tok)
def execVminu : Host.Outcome State Fault Refusal := ok (s.issueQ t (.vi 11 v) tok)
def execVmaxu : Host.Outcome State Fault Refusal := ok (s.issueQ t (.vi 12 v) tok)
def execVcmp (fn : BitVec 5) (ty : BitVec 4) (s : State) : Host.Outcome State Fault Refusal := ok (s.issueQ t (.vcmp fn ty v) tok)
def execVsel : Host.Outcome State Fault Refusal := ok (s.issueQ t (.vsel v) tok)
def execRsum : Host.Outcome State Fault Refusal := ok (s.issueQ t (.vred 0 v) tok)
def execRmax : Host.Outcome State Fault Refusal := ok (s.issueQ t (.vred 1 v) tok)
def execRmin : Host.Outcome State Fault Refusal := ok (s.issueQ t (.vred 2 v) tok)
def execRisum : Host.Outcome State Fault Refusal := ok (s.issueQ t (.vred 3 v) tok)
def execPerm : Host.Outcome State Fault Refusal := ok (s.issueQ t (.vperm 0 v 0) tok)
def execRot : Host.Outcome State Fault Refusal := ok (s.issueQ t (.vperm 1 v 0) tok)
def execBcast (imm : Byte) (s : State) : Host.Outcome State Fault Refusal := ok (s.issueQ t (.vperm 2 v imm) tok)
def execFroms : Host.Outcome State Fault Refusal := ok (s.issueQ t (.vmov 0 v 0) tok)
def execTos (imm : Byte) (s : State) : Host.Outcome State Fault Refusal := ok (s.issueQ t (.vmov 1 v imm) tok)
def execInsert (imm : Byte) (s : State) : Host.Outcome State Fault Refusal := ok (s.issueQ t (.vmov 2 v imm) tok)
def execIota : Host.Outcome State Fault Refusal := ok (s.issueQ t (.vmov 3 v 0) tok)
def execVcvtF2i : Host.Outcome State Fault Refusal := ok (s.issueQ t (.vcvt 0 r v) tok)
def execVcvtI2f : Host.Outcome State Fault Refusal := ok (s.issueQ t (.vcvt 1 r v) tok)
def execVcvtU2f : Host.Outcome State Fault Refusal := ok (s.issueQ t (.vcvt 2 r v) tok)
def execVcvtF2u : Host.Outcome State Fault Refusal := ok (s.issueQ t (.vcvt 3 r v) tok)
def execVnarrow (ty : BitVec 4) (pos : BitVec 3) (s : State) : Host.Outcome State Fault Refusal := ok (s.issueQ t (.vnarrow ty r v pos) tok)
def execVwiden (ty : BitVec 4) (pos : BitVec 3) (s : State) : Host.Outcome State Fault Refusal := ok (s.issueQ t (.vwiden ty v pos) tok)
def execVmxq (ty : BitVec 4) (pos : BitVec 3) (s : State) : Host.Outcome State Fault Refusal := ok (s.issueQ t (.vmxq ty r v pos) tok)
def execVmxdq (ty : BitVec 4) (pos : BitVec 3) (s : State) : Host.Outcome State Fault Refusal := ok (s.issueQ t (.vmxdq ty v pos) tok)
def execHacc : Host.Outcome State Fault Refusal := ok (s.issueQ t (.hacc v) tok)
def execHget : Host.Outcome State Fault Refusal := ok (s.issueQ t (.hget v) tok)
def execHcfg (aa : BitVec 4) (s : State) : Host.Outcome State Fault Refusal := ok (s.issueQ t (.hcfg aa) tok)
def execHdrain (aa : BitVec 4) (s : State) : Host.Outcome State Fault Refusal := ok (s.issueQ t (.hdrain aa) tok)
def execHclr : Host.Outcome State Fault Refusal := ok (s.issueQ t .hclr tok)
end

section
variable (t : Tile) (m : MemArgs) (x : MmArgs) (d : DrainArgs) (a : MoveArgs) (c : CountArgs) (e : BitVec 3) (ar : BitVec 4) (tok : Tok) (s : State)
def execLd : Host.Outcome State Fault Refusal := ok (s.issueQ t (.ld m) tok)
def execSt : Host.Outcome State Fault Refusal := ok (s.issueQ t (.st m) tok)
def execVld : Host.Outcome State Fault Refusal := ok (s.issueQ t (.vld m) tok)
def execVst : Host.Outcome State Fault Refusal := ok (s.issueQ t (.vst m) tok)
def execTmma : Host.Outcome State Fault Refusal := ok (s.issueQ t (.tmma x) tok)
def execTzero (mask : BitVec 4) (s : State) : Host.Outcome State Fault Refusal := ok (s.issueQ t (.tzero mask) tok)
def execTdrain : Host.Outcome State Fault Refusal := ok (s.issueQ t (.tdrain d) tok)
def execTwadd (acc : BitVec 2) (s : State) : Host.Outcome State Fault Refusal := ok (s.issueQ t (.twadd ar acc) tok)
def execSmma : Host.Outcome State Fault Refusal := ok (s.issueQ t (.smma x) tok)
def execMcopy : Host.Outcome State Fault Refusal := ok (s.issueQ t (.mcopy a) tok)
def execMfill : Host.Outcome State Fault Refusal := ok (s.issueQ t (.mfill a) tok)
def execCcfg : Host.Outcome State Fault Refusal := ok (s.issueQ t (.ccfg ar) tok)
def execTap : Host.Outcome State Fault Refusal := ok (s.issueQ t (.tap e ar) tok)
def execTapx : Host.Outcome State Fault Refusal := ok (s.issueQ t (.tapx e) tok)
def execStrel : Host.Outcome State Fault Refusal := ok (s.issueQ t (.strel c) tok)
def execEgress : Host.Outcome State Fault Refusal := ok (s.issueQ t (.egress e ar) tok)
def execEcontrib : Host.Outcome State Fault Refusal := ok (s.issueQ t (.econtrib c) tok)
def execEskip : Host.Outcome State Fault Refusal := ok (s.issueQ t (.eskip c) tok)
end

end Sys2Proof.Machine
end

