-- ==== Sys2Proof/Machine/Programs.lean ====
section
/-! DEFINITION. Programs: LOAD_PROGRAM, RUN and their claims; instruction words the sequencer refuses
(05 R166-R174, 06 R185-R219). -/
namespace Sys2Proof.Machine

/-! ### Instruction words (06 R185, R187, T6.1-T6.22) -/

def tokOf (w : W64) : Tok := {
  ws := w.extractLsb' 49 5, wt := w.extractLsb' 54 4, we := bitAt w 58, dt := w.extractLsb' 59 4, de := bitAt w 63 }

def vargsOf (w : W64) : VArgs := {
  vd := w.extractLsb' 8 5, va := w.extractLsb' 13 5, vb := w.extractLsb' 18 5, vc := w.extractLsb' 23 5, pg := w.extractLsb' 28 3, pz := bitAt w 31 }

def memOf (w : W64) : MemArgs := {
  d := w.extractLsb' 8 5, a := w.extractLsb' 13 4, size := w.extractLsb' 18 2, part := w.extractLsb' 20 2, postinc := bitAt w 22, sext := bitAt w 23,
  off := w.extractLsb' 24 25 }

def mmOf (w : W64) : MmArgs := {
  k := w.extractLsb' 8 5, aa := w.extractLsb' 13 4, ab := w.extractLsb' 17 4, asa := w.extractLsb' 21 4, asb := w.extractLsb' 25 4,
  fmt := w.extractLsb' 29 4, acc := w.extractLsb' 33 2, zero := bitAt w 35, side := bitAt w 36 }

def drainOf (w : W64) : DrainArgs := {
  s := w.extractLsb' 8 5, ad := w.extractLsb' 13 4, mask := w.extractLsb' 21 4, ofmt := w.extractLsb' 25 4, clear := bitAt w 29,
  rnd := w.extractLsb' 30 2, sat := bitAt w 32 }

def moveOf (w : W64) : MoveArgs := {
  sl := w.extractLsb' 8 5, ad := w.extractLsb' 13 4, asr := w.extractLsb' 17 4, dk := w.extractLsb' 21 3, sk := w.extractLsb' 24 3,
  sst := w.extractLsb' 27 5, twoD := bitAt w 32, comp := bitAt w 33 }

def countArgsOf (w : W64) : CountArgs := { e := w.extractLsb' 8 3, n := w.extractLsb' 18 5, immf := bitAt w 23, imm := w.extractLsb' 24 16 }

/-- Bits [hi:lo] are 0. -/
def zeroBits (w : W64) (hi lo : Nat) : Bool := field w hi lo == 0

/-- The queued instruction a word encodes, its fields not yet checked; none for another opcode or a reserved bit that is set. -/
def decodeQ (w : W64) : Option QOp :=
  let v := vargsOf w
  let fn : BitVec 5 := w.extractLsb' 36 5
  let ty : BitVec 4 := w.extractLsb' 32 4
  let imm : Byte := w.extractLsb' 41 8
  let r : RndArgs := { rnd := w.extractLsb' 36 3, sat := bitAt w 39 }
  let pos : BitVec 3 := w.extractLsb' 41 3
  let e : BitVec 3 := w.extractLsb' 8 3
  let ar : BitVec 4 := w.extractLsb' 13 4
  let ty0 := zeroBits w 35 32
  let fn0 := zeroBits w 40 36
  let im0 := zeroBits w 48 41
  let guard := fun (c : Bool) (o : QOp) => if c then some o else none
  match field w 7 0 with
  | 0x40 => guard (ty0 && im0) (.vf fn v)
  | 0x41 => guard (ty0 && im0) (.vsf fn v)
  | 0x42 => guard (ty0 && im0) (.vi fn v)
  | 0x43 => guard im0 (.vcmp fn ty v)
  | 0x44 => guard (ty0 && fn0 && im0) (.vsel v)
  | 0x45 => guard (ty0 && im0) (.vred fn v)
  | 0x46 => guard ty0 (.vperm fn v imm)
  | 0x47 => guard ty0 (.vmov fn v imm)
  | 0x48 => guard (im0 && !bitAt w 40) (.vcvt ty r v)
  | 0x49 => guard (zeroBits w 48 44 && !bitAt w 40) (.vnarrow ty r v pos)
  | 0x4A => guard (zeroBits w 48 44 && fn0) (.vwiden ty v pos)
  | 0x4B => guard (zeroBits w 48 44 && !bitAt w 40) (.vmxq ty r v pos)
  | 0x4C => guard (zeroBits w 48 44 && fn0) (.vmxdq ty v pos)
  | 0x58 => guard (!bitAt w 17) (.ld (memOf w))
  | 0x59 => guard (!bitAt w 17) (.st (memOf w))
  | 0x5A => guard (!bitAt w 17) (.vld (memOf w))
  | 0x5B => guard (!bitAt w 17) (.vst (memOf w))
  | 0x80 => guard (zeroBits w 48 37) (.tmma (mmOf w))
  | 0x81 => guard (zeroBits w 20 8 && zeroBits w 48 25) (.tzero (w.extractLsb' 21 4))
  | 0x82 => guard (zeroBits w 20 17 && zeroBits w 48 33) (.tdrain (drainOf w))
  | 0x83 => guard (zeroBits w 12 8 && zeroBits w 32 17 && zeroBits w 48 35) (.twadd ar (w.extractLsb' 33 2))
  | 0x90 => guard (zeroBits w 48 37) (.smma (mmOf w))
  | 0x91 => guard (ty0 && fn0 && im0) (.hacc v)
  | 0x92 => guard (ty0 && fn0 && im0) (.hget v)
  | 0x93 => guard (zeroBits w 12 8 && zeroBits w 48 17) (.hcfg ar)
  | 0x94 => guard (zeroBits w 12 8 && zeroBits w 48 17) (.hdrain ar)
  | 0x95 => guard (zeroBits w 48 8) .hclr
  | 0xA0 => guard (zeroBits w 48 34) (.mcopy (moveOf w))
  | 0xA1 => guard (zeroBits w 48 34) (.mfill (moveOf w))
  | 0xA2 => guard (zeroBits w 16 8 && zeroBits w 48 21) (.ccfg (w.extractLsb' 17 4))
  | 0xB0 => guard (zeroBits w 12 11 && zeroBits w 48 17) (.tap e ar)
  | 0xB1 => guard (zeroBits w 48 11) (.tapx e)
  | 0xB2 => guard (zeroBits w 17 11 && zeroBits w 48 40) (.strel (countArgsOf w))
  | 0xB3 => guard (zeroBits w 12 11 && zeroBits w 48 17) (.egress e ar)
  | 0xB4 => guard (zeroBits w 17 11 && zeroBits w 48 40) (.econtrib (countArgsOf w))
  | 0xB5 => guard (zeroBits w 17 11 && zeroBits w 48 40) (.eskip (countArgsOf w))
  | _ => none

/-- Fields of format SR that stand: D, A, B, C in use, and the reserved bits. -/
def srForm (w : W64) (d a b c w32 : Bool) : Bool :=
  (d || zeroBits w 12 8) && (a || zeroBits w 17 13) && (b || zeroBits w 22 18) && (c || zeroBits w 27 23) && (w32 || !bitAt w 32) && zeroBits w 63 33

/-- Fields of format SI that stand: D, A, IMM in use. -/
def siForm (w : W64) (d a imm : Bool) : Bool :=
  (d || zeroBits w 12 8) && (a || zeroBits w 17 13) && zeroBits w 31 22 && (imm || zeroBits w 63 32)

/-- A sequencer word the tables list (06 R185-R201, T6.3-T6.9): sub-functions, register numbers, fields that must be 0. A value a CWR must not name, or
an offset, is checked as the instruction executes. -/
def legalSeq (w : W64) : Bool :=
  let sr := field w 31 28
  let si := field w 21 18
  let d := field w 12 8
  let a := field w 17 13
  let b := field w 22 18
  let imm := field w 63 32
  match field w 7 0 with
  | 0x01 => zeroBits w 63 8
  | 0x02 => decide (si < 2) && siForm w false (si == 1) (si == 0)
  | 0x03 => decide (si = 0) && siForm w false false true && decide (imm < 32)
  | 0x04 => decide (si < 2) && decide (a < 16) && siForm w (si == 1) true (si == 0) && decide (imm < 65536)
  | 0x05 => decide (sr = 0) && srForm w true true false false false && decide (a < 16)
  | 0x06 => decide (si = 0) && siForm w true false true && decide (imm < 4096)
  | 0x07 => decide (si = 0) && siForm w false true true && (imm == 3 || imm == 4 || imm == 5 || imm == 6)
  | 0x08 => decide (si = 0) && siForm w true false true
  | 0x09 => decide (sr = 0) && srForm w false true false false false
  | 0x0A =>
    let c := field w 21 18
    let x := d
    let y := a
    zeroBits w 31 22 && decide (c < 12) &&
      (if c = 0 then decide (x = 0) && decide (y = 0) else if c < 7 then true
       else decide (y = 0) && (decide (c < 9) || decide (x < 8)))
  | 0x10 => decide (sr < 15) && srForm w true true true false true
  | 0x11 => decide (sr < 3) && srForm w true true true false true
  | 0x12 => decide (si < 15) && siForm w true true true && (!(si == 5 || si == 6 || si == 7) || decide (imm < 64))
  | 0x13 => decide (si < 3) && siForm w true false true
  | 0x18 => decide (si < 4) && siForm w true (si != 0) true && (si == 3 || decide (d < 16)) && (si == 2 || decide (a < 16))
  | 0x19 => decide (sr = 0) && srForm w true true true false false && decide (d < 16) && decide (a < 16)
  | 0x1C => decide (sr < 8) && srForm w true true (decide (sr < 4)) false false && (sr == 6 || decide (d < 8)) &&
      (sr == 5 || sr == 7 || decide (a < 8)) && decide (b < 8)
  | 0x20 => decide (si < 8) && siForm w (bitAt w 19) (!bitAt w 20) (!bitAt w 19) && decide (imm < 32768)
  | 0x21 => decide (sr < 4) && srForm w true true true true false
  | 0x22 => decide (sr = 0) && srForm w true true false false false
  | 0x28 => decide (sr < 2) && srForm w true true false false false && decide (a < if sr = 0 then 8 else 4)
  | 0x29 => decide (sr = 0) && srForm w true true false false false && decide (a < 8)
  | 0x2A => decide (sr < 2) && srForm w true true false false false && decide (a < if sr = 0 then 8 else 4)
  | _ => false

/-- The word encodes an instruction of 06 T6.4 with every reserved bit 0. -/
def legalWord (w : W64) : Bool :=
  (match decodeQ w with
   | some o => o.fieldsOk && (tokOf w).ok
   | none => false) || legalSeq w

/-- The sequencer issues a word: one that is no instruction, or an index at or beyond INSTR_COUNT, raises ILLEGAL_INSTRUCTION (06 R185, R186). -/
def execIllegalInstruction (t : Tile) (word : W64) (s : State) : Host.Outcome State Fault Refusal :=
  let x := s.tile t
  ok (if x.run ≠ .running ∨ x.hold.isSome then s
    else if x.index < x.progCount ∧ legalWord word then s
    else s.illegal t x.index)

/-! ### Blocks and claims (05 R168-R171) -/

def Op.block (o : Op) : Nat × Nat × Nat × Nat := (o.le 28 2, o.le 30 2, o.le 32 2, o.le 34 2)

def RunState.meets (a b : RunState) : Bool :=
  decide (a.tx0 < b.tx0 + b.w) && decide (b.tx0 < a.tx0 + a.w) && decide (a.ty0 < b.ty0 + b.h) && decide (b.ty0 < a.ty0 + a.h)

/-- Every tile of the block grants its claim: nothing holds one, and nothing admitted earlier waits for one (05 R171). -/
def State.claimFree (s : State) (i : Nat) (r : RunState) : Bool :=
  !(s.runs.any (fun (e : Nat × RunState) => decide (e.1 ≠ i) && e.2.meets r && (e.2.granted || decide (e.1 < i))))

def Op.claim (o : Op) : RunState :=
  let b := o.block
  {
    tx0 := b.1, ty0 := b.2.1, w := b.2.2.1, h := b.2.2.2, slot := o.byte 36, entry := o.le 38 2,
    continueOnFault := o.opcode == 0x11 && o.byte 37 % 2 == 1, keepHash := o.byte 37 / 2 % 2 == 1,
    excAddr := o.le 40 8, excMax := o.le 48 2 }

/-- A tile as a RUN starts it (05 R153, T5.2). -/
def TileSt.start (x : TileSt) (i : Nat) (r : RunState) (args : Nat → W64) : TileSt := {
  run := .running, op := i, index := r.entry, slot := r.slot, entry := r.entry,
  s := (List.range 32).map (fun k => (k, args k)), p := (List.range 8).map (fun k => (k, BitVec.allOnes 64)),
  hash := if r.keepHash then x.hash else {}, gone := x.gone, progs := x.progs }

/-- s0-s31 of a RUN (05 R170, T5.8). -/
def Op.arg (o : Op) (k : Nat) : W64 :=
  if o.isExt then (if k < o.ext.length / 8 then BitVec.ofNat 64 (o.xle (8 * k) 8) else 0)
  else if k = 0 then BitVec.ofNat 64 (o.le 56 8) else 0

/-- A RUN whose claims are granted starts every tile of its block (05 R171). -/
def State.beginRun (s : State) (o : Op) (r : RunState) : State :=
  r.tiles.foldl (fun u t => u.updT t (fun x => x.start o.id r o.arg)) (s.updRun o.id (fun x => { x with granted := true }))

/-! ### Reading for a descriptor -/

/-- What a read of many bytes of the range gives. -/
inductive Gather where
  | got (l : List Piece)
  | refused
  | wait (k : ChunkKey) (page : Nat)
deriving DecidableEq, Repr

/-- Pieces of a run of bytes that do not cross a granule. -/
def granulePieces (a : Nat) : Nat → Nat → List (Nat × Nat)
  | 0, _ => []
  | k + 1, n => if n = 0 then [] else
      let m := min n (256 - a % 256)
      (a, m) :: granulePieces (a + m) k (n - m)

def runPieces (a n : Nat) : List (Nat × Nat) := granulePieces a (n / 256 + 2) n

def State.gather (s : State) (n : Nat) (w : Waiter) : List (Nat × Nat) → Gather
  | [] => .got []
  | (a, m) :: r =>
    match s.rangeRead n a m w with
    | .refused => .refused
    | .wait k => .wait k (a / pageSize)
    | .data p =>
      match State.gather s n w r with
      | .got l => .got (p :: l)
      | x => x

/-- The bytes of an image from the range, or the descriptor waits for a chunk or ends. -/
def State.readImage (s : State) (o : Op) (a n : Nat) (f : List Piece → State) : State :=
  match s.gather o.part (.op o.id) (runPieces a n) with
  | .got l => f l
  | .refused => ({ s with runs := tdel s.runs o.id }).endOp o.id 2 0
  | .wait k page => s.fetchChunk o.part k (some page) (.op o.id) none

/-! ### LOAD_PROGRAM (05 R166-R168) -/

/-- The SRAM address of byte `b` of slot `k`'s image. -/
def slotAddr (k b : Nat) : Nat := (23 - 4 * k - b / 0x8000) * 0x8000 + b % 0x8000

/-- The image is copied into a tile's slot. -/
def State.placeImage (s : State) (t slot : Nat) (img : List Byte) : State :=
  let s1 := (runPieces 0 img.length).foldl (fun u (p : Nat × Nat) =>
    u.sramPut t (slotAddr slot p.1) (bytesPiece p.1 ((img.drop p.1).take p.2))) s
  s1.updT t (fun x => { x with progs := tset x.progs slot { banks := leAt img 6 1, count := leAt img 8 4 } })

/-- The image header is well formed and agrees with IMAGE_LEN (05 T5.6, T5.9 check 6): the status and DETAIL that end the descriptor. -/
def imageCheck (img : List Byte) (len : Nat) : Option (Nat × Nat) :=
  let banks := leAt img 6 1
  let count := leAt img 8 4
  let bad := decide (leAt img 0 4 ≠ 0x5052474B) || decide (banks < 1) || decide (4 < banks) || decide (leAt img 7 1 ≠ 0) ||
    decide (count < 1) || decide (banks * 4096 - 8 < count) || (List.range 48).any (fun i => decide (leAt img (16 + i) 1 ≠ 0)) ||
    decide (len ≠ 64 + 8 * count)
  if bad then some (8, 0x104) else if leAt img 4 1 ≠ 1 then some (7, leAt img 4 1) else none

/-- The load acts on its block: an empty image empties the slot; a bad CRC leaves every slot empty; the granule where it diverged is free (log 26) when no
entry check tells it. The header is checked on the bytes loaded (log 31): an image of the range may not be resident at admission. -/
def State.loadImage (s : State) (o : Op) (r : RunState) (l : List Piece) : State :=
  let img := l.flatMap (fun p => p.data)
  let empty := fun (u : State) => r.tiles.foldl (fun v t => v.updT t (fun x => { x with progs := tdel x.progs r.slot })) u
  let fin := fun (u : State) (st d : Nat) => (({ u with runs := tdel u.runs o.id }).dropPassed (.op o.id) none).endOp o.id st d
  if o.le 48 4 = 0 then fin (empty s) 0 0
  else match imageCheck img (o.le 48 4) with
  | some e => (({ s with runs := tdel s.runs o.id }).dropPassed (.op o.id) none).rejectOp o.id e.1 e.2
  | none =>
  if (crc32c (img.drop 64)).toNat ≠ leAt img 12 4 then
    match l.findIdx? (fun p => !p.checked) with
    | some k => fin (empty s) 5 k
    | none => fin ((empty s).takeFree 1) 5 (Config.freeBits 32 s.free).toNat
  else fin (r.tiles.foldl (fun v t => v.placeImage t r.slot img) s) 0 (leAt img 8 4)

/-- A LOAD_PROGRAM that holds its claims reads its image once: host bytes arrive with the command. -/
def State.doLoad (s : State) (o : Op) (r : RunState) (host : List Byte) : State :=
  let n := o.le 48 4
  let s1 := s.updRun o.id (fun x => { x with granted := true })
  if n = 0 ∨ o.byte 37 % 2 = 1 then
    s1.loadImage o r ((runPieces 0 n).map (fun (p : Nat × Nat) => bytesPiece p.1 (((host ++ List.replicate n 0).drop p.1).take p.2)))
  else s1.readImage o (o.le 40 8) n (fun l => s1.loadImage o r l)

/-- The claims are made, once; the descriptor goes on when they are granted. -/
def State.withClaim (s : State) (o : Op) : State :=
  if (s.findRun o.id).isSome then s else { s with runs := tset s.runs o.id o.claim }

def execLoadProgram (op : Nat) (host : List Byte) (s : State) : Host.Outcome State Fault Refusal :=
  ok (s.onOp op 0x10 (fun o =>
    let s1 := s.withClaim o
    match s1.findRun op with
    | some r => if r.granted || s1.claimFree op r then s1.doLoad o r host else s1
    | none => s1))

/-- Check 7 of 05 T5.9. -/
def State.runCheck (s : State) (r : RunState) : Option Nat :=
  if r.tiles.any (fun t => (tfind (s.tile t).progs r.slot).isNone) then some 0x105
  else if r.tiles.any (fun t => decide ((tget { banks := 0, count := 0 } (s.tile t).progs r.slot).count ≤ r.entry)) then some 0x106
  else none

def execRun (op : Nat) (s : State) : Host.Outcome State Fault Refusal :=
  ok (s.onOp op 0x11 (fun o =>
    if (s.findRun op).isSome then s
    else match s.runCheck o.claim with
      | some d => s.rejectOp op 8 d
      | none =>
        let s1 := s.withClaim o
        if s1.claimFree op o.claim then s1.beginRun o o.claim else s1))

/-- The last claim is granted: the RUN starts its tiles, the LOAD_PROGRAM reads its image (05 R171). -/
def execRunClaimGranted (op : Nat) (host : List Byte) (s : State) : Host.Outcome State Fault Refusal :=
  ok (match s.findOp op, s.findRun op with
    | some o, some r =>
      if r.granted ∨ o.st ≠ .started ∨ !s.claimFree op r ∨ !s.schRuns then s
      else if o.opcode = 0x11 then s.beginRun o r
      else s.doLoad o r host
    | _, _ => s)

end Sys2Proof.Machine
end

