-- ==== Sys2Proof/Machine/Fabric.lean ====
section
/-! DEFINITION. Notices, timeouts and route changes of the fabric (09 R289, R290, R295, R307, R312). -/
namespace Sys2Proof.Machine

/-- SCH writes the tables that a region's change asked for (09 R290). -/
def State.writeRoutes (s : State) (cause : Nat) : State :=
  let ready := (List.range 144).filter (fun r => decide ((s.rg r).state = .ready))
  let s1 := (List.range 144).foldl (fun u r => u.updFab r (fun f => { f with routeGen := f.routeGen + 1 })) { s with routeSet := some ready }
  s1.postModule 0x0703 0 0 (pack [(16, (s1.rg 0).fab.routeGen.toNat), (8, cause)])

def execRoutesChanged (s : State) : Host.Outcome State Fault Refusal :=
  ok (match s.routeWork with
    | r :: l => if s.schRuns then ({ s with routeWork := l }).writeRoutes r else s
    | [] => s)

/-- A region leaves or becomes READY: the routes are computed again (09 R290). `0xFF`: it became READY. -/
def State.routesChange (s : State) (cause : Nat) : State :=
  if s.routeSet.isSome then { s with routeWork := s.routeWork ++ [cause] } else s

/-- Flits inside a region that becomes FENCED are lost, and its streams abort (09 R290, R312). -/
def State.fenceFabric (s : State) (r : Nat) : State :=
  let crosses := fun (p : Pkt) => p.places.any (fun pl =>
    match pl.region.orElse (fun _ => s.sharedAt pl) with
    | some d => (tileRegion p.t == r) || d == r || (s.routeHops (tileRegion p.t) d).any (fun (h : Nat × Nat) => h.1 == r)
    | none => false)
  let hit := s.pkts.any (fun p => crosses p && !p.lost)
  let s1 := { s with pkts := s.pkts.map (fun p => if crosses p then { p with lost := true } else p) }
  let s2 := if hit then s1.updFab r (fun f => { f with fenceDiscard := satInc f.fenceDiscard }) else s1
  s2.insts.foldl (fun u x =>
    if x.hops.any (fun (h : Nat × Nat) => h.1 == r) || x.tiles.any (fun t => tileRegion t == r) then
      (if x.gradient then u.gradAbort x.id 5 0 else u.failInst x.id 5 0)
    else u) s2

end Sys2Proof.Machine
end

