-- ==== Sys2Proof/Machine/Chunks.lean ====
section
/-! DEFINITION. Chunks as their fetches end: delivered, retried or failed; late chunks and stalls that end
(10 R325-R327, R334-R336; 11 R352; 12 R400). -/
namespace Sys2Proof.Machine

/-! ### Operations that end early -/

def State.prog (s : State) (i : Nat) : OpProg := tget {} s.opProg i
def State.setProg (s : State) (i : Nat) (x : OpProg) : State := { s with opProg := tset s.opProg i x }

/-- The bytes a T2_FILL was to write: undefined when it ends with a status other than OK (10 R322). -/
def State.spoilFill (s : State) (o : Op) : State :=
  if o.opcode = 0x20 ∧ o.byte 41 = 4 then
    let v := o.le 24 8
    match tfind (s.pt o.part).mem.objs (v / 2 ^ 40 % 4096) with
    | some x =>
      let n := o.le 32 8
      { s with
        flash := s.flash.writeN (x.block * 65536 + v % 2 ^ 40) ((List.range n).map (fun k => Config.freeBits 8 (s.free + k)))
        free := s.free + n }
    | none => s
  else s

/-- What an operation held while it ran is let go. -/
def State.closeOp (s : State) (o : Op) : State :=
  let s1 := { s with
    runs := tdel s.runs o.id, opProg := tdel s.opProg o.id, snaps := s.snaps.filter (fun x => x.op != o.id)
    fetches := s.fetches.map (fun (f : Fetch) => { f with waiters := f.waiters.filter (fun (w : Waiter) => w != Waiter.op o.id) }) }
  let s2 := if o.opcode = 0x32 ∧ (tfind s.opProg o.id).isSome then
      { s1 with pubs := tset s1.pubs (o.byte 17) { (tget {} s1.pubs (o.byte 17) : PubTable) with publishing := false } }
    else s1
  (s2.dropPassed (.op o.id) none).stallSync

/-- A slot in BUILDING returns to EMPTY and gives up its pins (11 R360, R362, T11.6). -/
def State.setSlot (s : State) (n k : Nat) (x : WSlot) : State :=
  s.updP n (fun p => { p with wgt := { p.wgt with slots := tset p.wgt.slots k x } })

def Partition.slot (p : Partition) (k : Nat) : WSlot := tget {} p.wgt.slots k

/-- Pages a slot had recorded lose PIN unless the other slot records them (11 R364). -/
def State.emptySlot (s : State) (n k : Nat) : State :=
  let p := s.pt n
  let gone := (p.slot k).pins.filter (fun q => !(p.slot (1 - k)).pins.contains q)
  (s.updM n (fun m => { m with
    pages := m.pages.map (fun (e : Nat × Pte) => if gone.contains e.1 then (e.1, { e.2 with pin := false }) else e) })).setSlot n k {}

/-- A started operation ends with a failure of its own. -/
def State.failOp (s : State) (o : Op) (status detail : Nat) : State :=
  ((s.spoilFill o).closeOp o).endOp o.id status detail

/-! ### A chunk arrives -/

/-- The plain chunk is stored into the page it fills; the page is resident once all 32 chunks are in (10 R327). -/
def State.putChunk (s : State) (n page chunk : Nat) (plain : List Byte) : State :=
  match s.pte n page with
  | some e =>
    match e.ppa with
    | some p =>
      let s1 := (List.range 256).foldl (fun (u : State) g =>
        let off := chunk * chunkSize + 256 * g
        (u.slicePut (pageTile p off) (pageOff p off) (bytesPiece 0 ((plain.drop (256 * g)).take 256))).1) s
      let ch := withBit e.chunks chunk true
      let s2 := s1.setPte n page { e with chunks := ch }
      if ch = BitVec.allOnes 32 ∧ e.chunks ≠ BitVec.allOnes 32 then s2.updM n (fun m => { m with fetched := m.fetched + 1 }) else s2
    | none => s
  | none => s

/-- Copies go until the use is at the quota: unpinned ones first, then pinned ones (10 R333). -/
def State.quotaTrim (n : Nat) : Nat → State → State
  | 0, s => s
  | k + 1, s =>
    match (s.pt n).mem.limitT1 with
    | none => s
    | some q =>
      if s.useT1 n ≤ q then s
      else match s.oldestCopy n false [], s.oldestCopy n true [] with
        | some page, _ => State.quotaTrim n k (s.discardCopy n page)
        | none, some page => State.quotaTrim n k (s.discardCopy n page)
        | none, none => s

/-- Trimmed, and OVER follows. -/
def State.quotaSettle (s : State) (n : Nat) : State := (State.quotaTrim n (s.cachedPages n) s).quotaCheck n

/-- A page that still belongs to the chunk's object and holds a slot. -/
def State.fillsPage (s : State) (f : Fetch) : Option Nat :=
  match f.keep with
  | some page =>
    (match s.pte f.n page with
     | some e => if e.ppa.isSome ∧ 2 ≤ e.back ∧ f.key.src = .obj f.n e.ref ∧ f.key.page = e.opage then some page else none
     | none => none)
  | none => none

/-- A packet that waited for a chunk may be answered. -/
def State.wake (s : State) : Waiter → State
  | .pkt i => s.updPkt i (fun p => { p with waiting := false })
  | _ => s

/-- A checked chunk: kept in T1, or passed through to those that wait (10 R327). -/
def State.deliver (s : State) (k : ChunkKey) (plain : List Byte) : State :=
  match s.fetches.find? (fun f => decide (f.key = k)) with
  | none => s
  | some f =>
    let s1 := { s with fetches := s.fetches.filter (fun x => decide (x.key ≠ k)) }
    let s2 := match s1.fillsPage f with
      | some page => s1.putChunk f.n page k.chunk plain
      | none =>
        let s3 := if f.tier = 4 then s1 else s1.updM f.n (fun m => { m with passChunks := m.passChunks + 1 })
        if f.waiters.isEmpty then s3 else { s3 with passed := s3.passed ++ [{ key := k, data := plain, waiters := f.waiters }] }
    (((f.waiters.foldl State.wake s2).stallSync).sendWaiting).quotaSettle f.n

/-! ### A chunk fails (10 R335) -/

/-- The granule of an operation at which it waits for a chunk. -/
def State.opGranule (s : State) (o : Op) (k : ChunkKey) : Nat :=
  if o.opcode = 0x10 then
    ((runPieces (o.le 40 8) (o.le 48 4)).findIdx? (fun (p : Nat × Nat) => s.rangeRead o.part p.1 p.2 (.op o.id) == .wait k)).getD 0
  else (s.prog o.id).pos / 256

/-- The entry a build fails at is kept for the host (11 R362, R364). -/
def State.buildErr (s : State) (n stream : Nat) : State :=
  s.updP n (fun p => { p with wgt := { p.wgt with errStream := BitVec.ofNat 12 stream, errValid := true } })

/-- An access that waits on a chunk ends: kind 4 decryption, 5 check. `id`: the chunk's key ID. -/
def State.endWaiter (s : State) (k : ChunkKey) (kind id : Nat) (w : Waiter) : State :=
  match w with
  | .pkt i =>
    (match s.findPkt i with
     | some p => s.failPkt p 0x0B (p.off / 256)
     | none => s)
  | .inst i =>
    (match s.findInst i with
     | some x => if kind = 4 then s.failInst i 6 id else s.failInst i 5 x.sent
     | none => s)
  | .op i =>
    (match s.findOp i with
     | some o =>
       if o.st ≠ .started then s
       else
         let status := if kind = 4 then 6 else 5
         let detail := if kind = 4 then id else s.opGranule o k
         let x := s.prog i
         if o.opcode = 0x30 then
           if x.phase = 0 then (s.closeOp o).rejectOp i 2 0
           else if x.phase = 1 then s.setProg i { x with phase := 2, pos := 0, seg := 0 }
           else ((s.buildErr o.part x.seg).emptySlot o.part x.slot).failOp o status detail
         else s.failOp o status detail
     | none => s)
  | .hash _ => s

/-- The handle OBJECT_FAULT names; a host frame has none (log 28). -/
def State.faultHandle (s : State) : ChunkSrc → Nat
  | .obj _ h => h
  | .backing _ => 0xFFF
  | .host _ => (Config.freeBits 12 s.free).toNat

/-- A chunk fails for good: its waiters end, it is not kept (10 R335). -/
def State.chunkEnd (s : State) (f : Fetch) (kind id : Nat) : State :=
  let k := f.key
  let s1 := { s with fetches := s.fetches.filter (fun x => decide (x.key ≠ k)) }
  let s2 := s1.updM f.n (fun m =>
    if kind = 4 then { m with decryptFail := satInc m.decryptFail } else { m with checkFail := satInc m.checkFail })
  let s3 := (s2.postPart f.n 0x0804 (pack [(12, s2.faultHandle k.src), (4, kind), (32, k.page), (1, 0), (5, k.chunk)])).takeFree 1
  ((f.waiters.foldl (fun u w => u.endWaiter k kind id w) s3).stallSync).sendWaiting

/-- A chunk fails: fetched once more under cause 4 or 5, ended at the second failure of the same kind, or at once (10 R335). -/
def State.chunkFail (s : State) (k : ChunkKey) (kind id : Nat) (final : Bool) : State :=
  match s.fetches.find? (fun f => decide (f.key = k)) with
  | none => s
  | some f =>
    if final || (if kind = 4 then f.failDec else f.failChk) then s.chunkEnd f kind id
    else
      ((s.updFetch k (fun x => { x with
        failDec := x.failDec || decide (kind = 4), failChk := x.failChk || decide (kind = 5), cause := kind, sent := false, port := none,
        busy := false, relay := false })).sendReq k).stallSync

/-- A frame is there: its checks decide (11 T11.2). `len`: the length the index or the reply gives. -/
def State.frameArrive (s : State) (k : ChunkKey) (frame : List Byte) (len : Nat) (opened : Option (List Byte)) : State :=
  match s.fetches.find? (fun f => decide (f.key = k)) with
  | none => s
  | some f =>
    match s.frameCheck f.n k frame len opened with
    | .plain b => s.deliver k b
    | .noKey id => s.chunkFail k 4 id true
    | .badTag id => s.chunkFail k 4 id false
    | .bad => s.chunkFail k 5 0 false

end Sys2Proof.Machine
end

