-- ==== Sys2Proof/Machine/Torus.lean ====
section
/-! DEFINITION. The torus router: coordinates, route choice, keys, multicast groups, egress queues, throttling, the TOR_ messages
(13_torus_routing). -/
namespace Sys2Proof.Machine

/-! ### Coordinates and neighbours (13 R411-R415, T1.13) -/

def State.tp (s : State) (k : Nat) : TPort := tget {} s.tor.tports k
def State.updTor (s : State) (f : Torus → Torus) : State := { s with tor := f s.tor }
def State.updTp (s : State) (k : Nat) (f : TPort → TPort) : State :=
  s.updTor (fun t => { t with tports := tset t.tports k (f (tget {} t.tports k)) })

/-- Axis a of a global ID: 0 X, 1 Y, 2 Z. -/
def torCoord (id a : Nat) : Nat := id / 64 ^ a % 64
def torId (x y z : Nat) : Nat := x + 64 * y + 4096 * z

def Torus.dim (t : Torus) (a : Nat) : Nat := match a with | 0 => t.dx | 1 => t.dy | _ => t.dz
def Torus.base (t : Torus) (a : Nat) : Nat := match a with | 0 => t.bx | 1 => t.by' | _ => t.bz
def Torus.ext (t : Torus) (a : Nat) : Nat := match a with | 0 => t.ex | 1 => t.ey | _ => t.ez
def Torus.at (t : Torus) (a : Nat) : Nat := torCoord t.id.toNat a

/-- T-port k: its axis, whether it leads to −, its index. -/
def tAxis (k : Nat) : Nat := k / 4
def tMinus (k : Nat) : Bool := decide (2 ≤ k % 4)
def tIndex (k : Nat) : Nat := k % 2
def tportOf (a : Nat) (minus : Bool) (i : Nat) : Nat := 4 * a + (if minus then 2 else 0) + i
/-- The other index of the same axis and direction. -/
def tSibling (k : Nat) : Nat := if k % 2 = 0 then k + 1 else k - 1

/-- An ID with one coordinate replaced. -/
def setCoord (id a v : Nat) : Nat := id - torCoord id a * 64 ^ a + v * 64 ^ a

/-- The module a T-port leads to from a module. -/
def Torus.stepFrom (t : Torus) (id k : Nat) : Nat :=
  let a := tAxis k
  let c := torCoord id a
  let d := t.dim a
  setCoord id a (if tMinus k then (c + d - 1) % d else (c + 1) % d)

def Torus.neighbour (t : Torus) (k : Nat) : Nat := t.stepFrom t.id.toNat k
/-- The neighbour's port a T-port arrives at. -/
def tFar (k : Nat) : Nat := tportOf (tAxis k) (!tMinus k) (tIndex k)

def Torus.inDims (t : Torus) (id : Nat) : Bool := (List.range 3).all (fun a => decide (torCoord id a < t.dim a)) && decide (id < 2 ^ 18)
def Torus.inBlock (t : Torus) (id : Nat) : Bool :=
  (List.range 3).all (fun a => decide (t.base a ≤ torCoord id a) && decide (torCoord id a < t.base a + t.ext a))

/-- BLOCK_EDGE (13 R415). -/
def Torus.blockEdge (t : Torus) (k : Nat) : Bool := !t.inBlock (t.neighbour k)

/-- The axis wraps inside the block (13 R413). -/
def Torus.wraps (t : Torus) (a : Nat) : Bool := decide (t.ext a = t.dim a)

/-- Dimensions and a block that keep 13 R412 and R413, with the module inside. -/
def Torus.valid (t : Torus) : Bool :=
  (List.range 3).all (fun a =>
    let d := t.dim a
    (decide (d = 1) || decide (d = 2) || (decide (d % 4 = 0) && decide (4 ≤ d) && decide (d ≤ 64))) &&
      (decide (t.base a % 4 = 0) && (decide (2 < d) || decide (t.base a = 0))) &&
      (decide (t.ext a = d) || (decide (t.ext a % 4 = 0) && decide (4 ≤ t.ext a))) && decide (t.base a + t.ext a ≤ d) &&
      decide (t.at a < d)) && t.inBlock t.id.toNat

/-! ### Mismatch (13 R414) -/

/-- NEIGHBOUR_MISMATCH, once per entry into ACTIVE. -/
def State.postMismatch (s : State) (k : Nat) : State :=
  let x := s.tp k
  if s.portActive (24 + k) ∧ x.mismatch ∧ !x.posted then
    (s.updTp k (fun y => { y with posted := true })).postModule 0x0B01 4 (24 + k)
      (pack [(18, s.tor.neighbour k), (8, tFar k), (6, 0), (32, (s.port (24 + k)).partnerId.toNat)])
  else s

/-- A T-port's partner compared with the neighbour expected: at every entry into ACTIVE and at every TOR_CONFIG. -/
def State.compareNeighbour (s : State) (k : Nat) : State :=
  let p := s.port (24 + k)
  let bad := decide (s.tor.dim (tAxis k) = 1) || decide (p.partnerId.toNat % 2 ^ 18 ≠ s.tor.neighbour k) || decide (p.pport.toNat ≠ tFar k)
  (s.updTp k (fun y => { y with mismatch := bad })).postMismatch k

/-- A T-port enters ACTIVE. -/
def State.torusUp (s : State) (k : Nat) : State := (s.updTp k (fun y => { y with posted := false })).compareNeighbour k

/-! ### Keys (13 R425-R428) -/

def State.torKey (s : State) (key : W16) : Option TorKey := s.tor.keys.find? (fun e => e.key == key)

/-- The partition that holds a key. -/
def State.keyOwner (s : State) (key : W16) : Option Nat := s.liveParts.find? (fun n => decide ((s.pt n).key = key))

/-- The T-ports an entry may name: assigned to the key's partition, inside the block (13 R425). -/
def State.keyPorts (s : State) (key : W16) : BitVec 12 :=
  match s.keyOwner key with
  | none => 0
  | some n => (List.range 12).foldl (fun b k => withBit b k (decide (tfind s.portOwner (24 + k) = some n) && !s.tor.blockEdge k)) (0 : BitVec 12)

/-- A key table that keeps 13 R425. -/
def State.keysValid (s : State) (l : List TorKey) : Bool :=
  l.all (fun e => (s.keyOwner e.key).isSome && decide (e.ports &&& ~~~(s.keyPorts e.key) = 0)) &&
    decide ((l.map (·.key)).eraseDups.length = l.length)

/-- A packet of a key may leave or enter through T-port k (13 R426, R427). -/
def State.keyAt (s : State) (key : W16) (k : Nat) : Bool :=
  if key = 0 then !s.tor.blockEdge k
  else match s.torKey key with
    | some e => e.ports.getLsbD k
    | none => false

/-- T-port k is no longer its partition's: its bit clears in every entry at once (13 R430). -/
def State.releaseTport (s : State) (k : Nat) : State :=
  s.updTor (fun t => { t with keys := t.keys.map (fun e => { e with ports := withBit e.ports k false }) })

/-- Entries whose key is gone leave the table (13 R430). -/
def State.pruneKeys (s : State) : State := s.updTor (fun t => { t with keys := t.keys.filter (fun e => (s.keyOwner e.key).isSome) })

/-! ### Route choice (13 R418-R421) -/

/-- The dimension-order port from one module toward another, the next axis first; none at the destination. -/
def Torus.dimPort (t : Torus) (c d sel : Nat) : Option Nat :=
  match (List.range 3).find? (fun a => decide (torCoord c a ≠ torCoord d a)) with
  | none => none
  | some a =>
    let x := torCoord c a
    let y := torCoord d a
    some (tportOf a (if t.wraps a then decide (t.dim a / 2 < (y + t.dim a - x) % t.dim a) else decide (y < x)) sel)

/-- ACTIVE or retraining, with the neighbour expected (13 R419 step 4, R389). -/
def State.tReady (s : State) (k : Nat) : Bool :=
  (s.portActive (24 + k) || decide ((s.port (24 + k)).phase = .retrain)) && !(s.tp k).mismatch

/-- A port routes use: ready, and not in a fallback. -/
def State.tUsable (s : State) (k : Nat) : Bool := s.tReady k && !(s.tp k).fallback

/-- Steps 4 to 6 of 13 R419. -/
def State.fallPort (s : State) (primary : Nat) (alt : Option Nat) : Nat :=
  if s.tUsable primary then primary
  else if s.tUsable (tSibling primary) then tSibling primary
  else match alt with
    | some a => if a < 12 ∧ s.tReady a then a else primary
    | none => primary

/-- Where a packet goes next. -/
inductive RouteTo where
  | here
  | unreachable
  | port (k : Nat)
deriving DecidableEq, Repr

def State.routeEntry (s : State) (id : Nat) : Nat := (tget (0 : W16) s.tor.routes id).toNat

/-- The route of a unicast packet at this module (13 R419, R420). -/
def State.routeTo (s : State) (dst sel : Nat) : RouteTo :=
  let e := s.routeEntry dst
  let ovr := decide (e % 2 = 1)
  let primary := e / 2 % 16
  let alt := if e / 512 % 2 = 1 then some (e / 32 % 16) else none
  if dst = s.tor.id.toNat then .here
  else if !s.tor.inDims dst || !s.tor.inBlock dst || decide (e / 1024 % 2 = 1) || (ovr && decide (12 ≤ primary)) then .unreachable
  else if ovr then .port (s.fallPort primary alt)
  else match s.tor.dimPort s.tor.id.toNat dst sel with
    | some k => .port (s.fallPort k alt)
    | none => .here

/-- The modules a dimension-order route enters, from its source on. -/
def Torus.walk (t : Torus) (dst sel : Nat) : Nat → Nat → List Nat
  | 0, c => [c]
  | n + 1, c =>
    match t.dimPort c dst sel with
    | some k => c :: Torus.walk t dst sel n (t.stepFrom c k)
    | none => [c]

/-! ### Multicast (13 R431-R433) -/

/-- The block rank of a module, and the module of a rank. -/
def Torus.rankId (t : Torus) (r : Nat) : Nat := torId (t.bx + r % t.ex) (t.by' + r / t.ex % t.ey) (t.bz + r / t.ex / t.ey)
def Torus.blockSize (t : Torus) : Nat := t.ex * t.ey * t.ez

/-- The members of a group. -/
def Torus.members (t : Torus) (m : Mcast) : List Nat :=
  match m.goal with
  | .compact b => ((List.range t.blockSize).filter (fun r => b.getLsbD r)).map t.rankId
  | .extended l => l

/-- The ports a COMPACT copy leaves on, each once, and whether it is delivered here (13 R432). -/
def Torus.replicate (t : Torus) (m : Mcast) (src sel : Nat) : List Nat × Bool :=
  let me := t.id.toNat
  let on := (t.members m).filter (fun d => d != src && (t.walk d sel 200 src).contains me)
  ((on.filterMap (fun d => t.dimPort me d sel)).eraseDups, on.contains me)

/-! ### Egress queues and throttling (13 R424, R435) -/

/-- Bytes of a torus packet: its headers and its data. -/
def TorPkt.bytes (p : TorPkt) : Nat := 96 + (p.data.map (fun (d : Piece) => d.data.length)).foldl (· + ·) 0
/-- Flits of a packet: its headers in one, each granule in its own (13 R416). -/
def TorPkt.flits (p : TorPkt) : Nat := 1 + p.data.length

/-- Local bytes of a partition queued at its T-ports. -/
def State.torQueued (s : State) (n : Nat) : Nat :=
  ((s.tor.tports.flatMap (fun (e : Nat × TPort) => e.2.queue)).filter (fun p => decide (p.from' = some n))).foldl (fun a p => a + p.bytes) 0

def State.throttle (s : State) (n : Nat) : Throttle := tget {} s.tor.throttle n
/-- A partition's engines inject nothing now. -/
def State.throttled (s : State) (n : Nat) : Bool := (s.throttle n).since.isSome

/-- A throttle follows its queues. -/
def State.throttleSync (s : State) (n : Nat) : State :=
  let x := s.throttle n
  let q := s.torQueued n
  let set := fun (y : Throttle) => s.updTor (fun t => { t with throttle := tset t.throttle n y })
  match x.since with
  | none => if x.thresh.toNat < q / 1024 then set { x with since := some s.cad.count.toNat } else s
  | some t =>
    if 2 * q ≤ 1024 * x.thresh.toNat then set { x with since := none, us := x.us + BitVec.ofNat 32 (s.cad.count.toNat - t) } else s

def State.throttleAll (s : State) : State := (List.range 12).foldl State.throttleSync s

/-- A packet waits at a T-port. -/
def State.torEnqueue (s : State) (k : Nat) (p : TorPkt) : State :=
  let s1 := s.updTp k (fun y => { y with queue := y.queue ++ [p] })
  match p.from' with
  | some n => s1.throttleSync n
  | none => s1

/-- A packet of this module goes out, or is refused before it is sent (13 R420, R426). -/
def State.torSend (s : State) (p : TorPkt) : Option State :=
  match s.routeTo p.dst p.sel with
  | .port k => if s.keyAt p.key k then some (s.torEnqueue k p) else none
  | _ => none

/-- Drops reported at most once per port per 1 ms: kind 0 hold, 1 hop, 2 route (13 R438). -/
def State.torDrop (s : State) (k kind : Nat) : State :=
  let s1 := s.updTp k (fun y => { y with
    holdDrop := if kind = 0 then satInc y.holdDrop else y.holdDrop
    routeDrop := if kind = 0 then y.routeDrop else satInc y.routeDrop
    dropNew := y.dropNew + 1 })
  let x := s1.tp k
  if s1.reportDue x.dropAt 1000 then
    (s1.updTp k (fun y => { y with dropAt := some s1.cad.count.toNat, dropNew := 0 })).postModule 0x0B05 4 (24 + k)
      (pack [(2, kind), (30, 0), (32, x.dropNew)])
  else s1

/-- A packet refused by key at a port (12 R396). -/
def State.portKeyDrop (s : State) (p ch : Nat) (key : W16) : State :=
  s.updPort p (fun x => { x with keyDrop := satInc x.keyDrop, keyDropLast := (ch, key) })

/-- A partition's packets leave every queue (13 R440). -/
def State.torFlush (s : State) (n : Nat) : State :=
  (s.updTor (fun t => { t with
    tports := t.tports.map (fun (e : Nat × TPort) => (e.1, { e.2 with queue := e.2.queue.filter (fun p => decide (p.from' ≠ some n)) }))
    arrived := t.arrived.filter (fun p => decide (p.key ≠ (s.pt n).key)) })).throttleSync n

/-- A fallback begins as its port goes down (13 R421): what was on the link is lost, what is queued goes another way. -/
def State.torusDown (s : State) (k : Nat) : State :=
  if (s.tp k).fallback ∨ (s.tp k).mismatch ∨ !s.tor.idValid then s
  else
    let s1 := s.updTp k (fun y => { y with fallback := true })
    let goal := s1.fallPort k none
    if goal = k then s1
    else
      let d := pack [(4, goal), (1, 0)]
      match tfind s1.portOwner (24 + k) with
      | some n => (s1.postModule 0x0B02 4 (24 + k) d).postTo (.vf (Fin.ofNat 12 n)) (s1.mkEvent 0x0B02 4 (24 + k) d)
      | none => s1.postModule 0x0B02 4 (24 + k) d

/-! ### Messages (13 R437) -/

/-- Who may send torus messages: the privileged PF, and the MMC for the management network (13 R437, 19 R593). -/
def State.torMsg (s : State) (id : Nat) (m : Msg) (f : State → State) : Host.Outcome State Fault Refusal :=
  s.handle .sch id m (fun t =>
    let may := match m.sender with
      | .mbx _ => t.isPriv m
      | .peer => true
      | .console => false
    if may then f t else t.reply m id 2 rNotPermitted [])

/-- TOR_CONFIG: payload ID (4 bytes), then DX, DY, DZ, BX, BY, BZ, EX, EY, EZ, a byte each. -/
def execTorConfig (m : Msg) (s : State) : Host.Outcome State Fault Refusal :=
  s.torMsg 0x0D01 m (fun t =>
    let x : Torus := { t.tor with
      id := BitVec.ofNat 18 (m.u32 0), idValid := true, dx := m.u8 4, dy := m.u8 5, dz := m.u8 6, bx := m.u8 7, by' := m.u8 8, bz := m.u8 9,
      ex := m.u8 10, ey := m.u8 11, ez := m.u8 12 }
    if 2 ^ 18 ≤ m.u32 0 ∨ !x.valid then t.reply m 0x0D01 2 rBadArgument []
    else if !t.tor.keys.isEmpty ∨ !t.tor.mcast.isEmpty then t.reply m 0x0D01 2 rBusy []
    else ((List.range 12).foldl State.compareNeighbour { t with tor := x }).reply m 0x0D01 2 rOK [])

/-- A tick that lies in the past. -/
def State.pastTick (s : State) (tick : Nat) : Bool := decide (tick ≠ 0) && s.tickPast (BitVec.ofNat 48 tick)

/-- A route set takes force (13 R423). -/
def State.applyRoutes (s : State) (l : List (Nat × W16)) : State :=
  s.updTor (fun t => { t with
    routes := l.foldl (fun r (e : Nat × W16) => if e.2 = 0 then tdel r e.1 else tset r e.1 e.2) t.routes
    sets := t.sets + 1, stagedRoutes := none
    tports := t.tports.map (fun (e : Nat × TPort) => (e.1, { e.2 with fallback := false })) })

/-- TOR_ROUTE_SET: payload tick (8), count (4), host address at 16. `records`: the records read, none when the read fails. -/
def execTorRouteSet (m : Msg) (records : Option (List Byte)) (s : State) : Host.Outcome State Fault Refusal :=
  s.torMsg 0x0D02 m (fun t =>
    let n := m.u32 8
    let b := records.getD []
    let l := (List.range n).map (fun i => (leAt b (8 * i) 4, BitVec.ofNat 16 (leAt b (8 * i + 4) 2)))
    let clean := l.all (fun (e : Nat × W16) => decide (e.1 < 2 ^ 18) && decide (e.2.toNat < 2 ^ 11)) &&
      (List.range n).all (fun i => decide (leAt b (8 * i + 6) 2 = 0))
    if n = 0 ∨ 262144 < n ∨ 2 ^ 48 ≤ m.u64 0 ∨ t.pastTick (m.u64 0) ∨ records.isNone ∨ !clean then t.reply m 0x0D02 2 rBadArgument []
    else if m.u64 0 = 0 then (t.applyRoutes l).reply m 0x0D02 2 rOK []
    else (t.updTor (fun x => { x with stagedRoutes := some (BitVec.ofNat 48 (m.u64 0), l) })).reply m 0x0D02 2 rOK [])

/-- The edge of a staged route set's tick. -/
def execRouteSetApply (s : State) : Host.Outcome State Fault Refusal :=
  ok (match s.tor.stagedRoutes with
    | some (t, l) => if s.tickReached t then s.applyRoutes l else s
    | none => s)

/-- Set bits of a mask. -/
def popCount (b : BitVec 12) : Nat := (List.range 12).foldl (fun a k => a + (b.getLsbD k).toNat) 0

/-- A key table takes force; bits no longer permitted clear (13 R428). -/
def State.applyKeys (s : State) (tick : Nat) (l : List TorKey) : State :=
  let keep := (l.filter (fun e => (s.keyOwner e.key).isSome)).map (fun e => { e with ports := e.ports &&& s.keyPorts e.key })
  let cleared := l.foldl (fun a e => a + popCount (e.ports &&& ~~~(s.keyPorts e.key))) 0
  (s.updTor (fun t => { t with keys := keep, stagedKeys := none })).postModule 0x0B03 0 0
    (pack [(7, keep.length), (12, cleared), (53, 0), (48, tick)])

/-- TOR_KEYSET: payload tick (8), count (4), entries of KEY, GEN, PORTS and two zero bytes from 16. -/
def execTorKeyset (m : Msg) (s : State) : Host.Outcome State Fault Refusal :=
  s.torMsg 0x0D03 m (fun t =>
    let n := m.u32 8
    let l := (List.range n).map (fun i => ({
      key := BitVec.ofNat 16 (m.u16 (16 + 8 * i)), gen := BitVec.ofNat 16 (m.u16 (18 + 8 * i)),
      ports := BitVec.ofNat 12 (m.u16 (20 + 8 * i)) } : TorKey))
    let wide := (List.range n).any (fun i => decide (4096 ≤ m.u16 (20 + 8 * i)))
    if 64 < n ∨ 2 ^ 48 ≤ m.u64 0 ∨ t.pastTick (m.u64 0) ∨ wide ∨ !t.keysValid l then t.reply m 0x0D03 2 rBadArgument []
    else if m.u64 0 = 0 then (t.applyKeys 0 l).reply m 0x0D03 2 rOK []
    else (t.updTor (fun x => { x with stagedKeys := some (BitVec.ofNat 48 (m.u64 0), l) })).reply m 0x0D03 2 rOK [])

/-- The edge of a staged key table's tick. -/
def execKeysetApplied (s : State) : Host.Outcome State Fault Refusal :=
  ok (match s.tor.stagedKeys with
    | some (t, l) => if s.tickReached t then s.applyKeys t.toNat l else s
    | none => s)

/-- TOR_MCAST_SET: payload group (2), owner (1), mode (1), host address at 8, count (4) at 16. `bytes`: the mask or the list read. -/
def execTorMcastSet (m : Msg) (bytes : Option (List Byte)) (s : State) : Host.Outcome State Fault Refusal :=
  s.torMsg 0x0D04 m (fun t =>
    let g := m.u16 0
    let b := bytes.getD []
    let size := t.tor.blockSize
    let ids := (List.range (m.u32 16)).map (fun i => leAt b (4 * i) 4)
    let goal : McastTo := if m.u8 3 = 0 then .compact (BitVec.ofNat 16384 (leNat (b.take 2048))) else .extended ids
    let bad : Bool := match goal with
      | .compact x => decide (16384 < size) || decide (2 ^ size ≤ x.toNat)
      | .extended l => decide (4096 < m.u32 16) || l.any (fun i => !t.tor.inDims i || !t.tor.inBlock i) || decide (l.eraseDups.length ≠ l.length)
    let queued : Bool := match tfind t.tor.mcast g with
      | some x => t.tor.tports.any (fun (e : Nat × TPort) => e.2.queue.any (fun p => p.mcast && decide (p.group = g) && decide (p.from' = some x.owner)))
      | none => false
    if 1023 < g ∨ 11 < m.u8 2 ∨ 1 < m.u8 3 ∨ bytes.isNone ∨ bad then t.reply m 0x0D04 2 rBadArgument []
    else if queued then t.reply m 0x0D04 2 rBusy []
    else (t.updTor (fun x => { x with mcast := tset x.mcast g { owner := m.u8 2, goal := goal } })).reply m 0x0D04 2 rOK [])

def execTorMcastClear (m : Msg) (s : State) : Host.Outcome State Fault Refusal :=
  s.torMsg 0x0D05 m (fun t =>
    if 1023 < m.u16 0 then t.reply m 0x0D05 2 rBadArgument []
    else (t.updTor (fun x => { x with mcast := tdel x.mcast (m.u16 0) })).reply m 0x0D05 2 rOK [])

end Sys2Proof.Machine
end

