-- ==== Sys2Proof/Machine/CollPlan.lean ====
section
/-! DEFINITION. What a member of a group does in a collective: ranks, trees, rings, the plan of each piece, reductions
(14_collectives R441-R457). -/
namespace Sys2Proof.Machine

/-! ### Members and ranks (14 R441, R442, R464) -/

def Group.onAxis (g : Group) (a : Nat) : Bool := decide (g.axes / 2 ^ a % 2 = 1)
def Group.lo (g : Group) (a : Nat) : Nat := g.gb.getD a 0
def Group.len (g : Group) (a : Nat) : Nat := if g.onAxis a then g.ge.getD a 0 else 1

/-- The members of the box around a module, in rank order. -/
def Group.box (g : Group) (me : Nat) : List Nat :=
  let line := fun a => if g.onAxis a then (List.range (g.len a)).map (· + g.lo a) else [torCoord me a]
  (line 2).flatMap (fun z => (line 1).flatMap (fun y => (line 0).map (fun x => torId x y z)))

/-- The members now, in rank order. -/
def Group.mods (g : Group) (me : Nat) : List Nat := g.members.getD (g.box me)
def Group.rankOf (g : Group) (me id : Nat) : Nat := ((g.mods me).findIdx? (fun m => m == id)).getD 0

/-- Tiles of the block: ranks of one module. -/
def Group.perMod (g : Group) : Nat := if g.tile then g.w * g.h else 1
/-- N, the number of ranks. -/
def Group.ranks (g : Group) (me : Nat) : Nat := (g.mods me).length * g.perMod
/-- The tile of a rank within its module (14 R442). -/
def Group.tileOf (g : Group) (i : Nat) : Nat := tileAt (g.tx0 + i % g.w) (g.ty0 + i / g.w)

/-- An axis of the group that is a ring by itself. -/
def Group.wraps (g : Group) (t : Torus) (a : Nat) : Bool := g.onAxis a && decide (g.len a = t.dim a) && t.wraps a

/-! ### Trees (14 R454, R464) -/

/-- One step toward a coordinate on an axis leads to −. -/
def Group.minusTo (g : Group) (t : Torus) (a m c : Nat) : Bool :=
  let x := torCoord m a
  let y := torCoord c a
  if g.wraps t a then decide (t.dim a / 2 < (y + t.dim a - x) % t.dim a) else decide (y < x)

/-- The parent in a tree rooted at `c`, and the port that leads to it. -/
def Group.treeUp (g : Group) (t : Torus) (c tree m : Nat) : Option (Nat × Nat) :=
  match ((List.range 3).map (fun k => if tree = 0 then k else 2 - k)).find? (fun a => g.onAxis a && decide (torCoord m a ≠ torCoord c a)) with
  | none => none
  | some a =>
    let k := tportOf a (g.minusTo t a m c) tree
    some (t.stepFrom m k, k)

/-- The nearest ancestor that is still a member. -/
def Group.ancestor (g : Group) (t : Torus) (c tree : Nat) (alive : List Nat) : Nat → Nat → Option Nat
  | 0, _ => none
  | n + 1, m =>
    match g.treeUp t c tree m with
    | none => none
    | some (p, _) => if alive.contains p then some p else Group.ancestor g t c tree alive n p

/-- The parent among the living: a root that is gone is replaced by the survivor of lowest rank. -/
def Group.parent (g : Group) (t : Torus) (c tree : Nat) (alive : List Nat) (m : Nat) : Option Nat :=
  if alive.contains c then g.ancestor t c tree alive 200 m
  else if alive.head? = some m then none
  else match g.ancestor t c tree alive 200 m with
    | some p => some p
    | none => alive.head?

/-- The port to a tree neighbour: its own while the two are joined by a tree link, else by routing (12 + the tree's index). -/
def Group.portTo (g : Group) (t : Torus) (c tree me other : Nat) : Nat :=
  match g.treeUp t c tree me, g.treeUp t c tree other with
  | some (p, k), up => if p = other then k else (match up with
      | some (q, j) => if q = me then tFar j else 12 + tree
      | none => 12 + tree)
  | none, some (q, j) => if q = me then tFar j else 12 + tree
  | none, none => 12 + tree

/-- The children of a member, in ascending order of their ports (14 R455). -/
def Group.children (g : Group) (t : Torus) (c tree : Nat) (alive : List Nat) (me : Nat) : List Nat :=
  let l := alive.filter (fun m => g.parent t c tree alive m == some me)
  let key := fun m => let k := g.portTo t c tree me m
    if k < 12 then k else (t.dimPort me m tree).getD 12
  (List.range 13).flatMap (fun k => l.filter (fun m => key m == k))

/-- The centre of the box. -/
def Group.centre (g : Group) (me : Nat) : Nat :=
  (List.range 3).foldl (fun id a => if g.onAxis a then setCoord id a (g.lo a + g.len a / 2) else id) me

/-- A member and its ancestors. -/
def Group.chain (g : Group) (t : Torus) (c tree : Nat) (alive : List Nat) : Nat → Nat → List Nat
  | 0, m => [m]
  | n + 1, m =>
    match g.parent t c tree alive m with
    | some p => m :: Group.chain g t c tree alive n p
    | none => [m]

/-! ### Rings (14 R456, R457) -/

/-- Offsets of a folded ring. -/
def foldOrder (n : Nat) : List Nat :=
  (List.range n).filter (fun i => i % 2 == 0) ++ ((List.range n).filter (fun i => i % 2 == 1)).reverse

/-- The ring of an axis through a module. -/
def Group.ring (g : Group) (t : Torus) (a me : Nat) : List Nat :=
  (if g.wraps t a then List.range (g.len a) else foldOrder (g.len a)).map (fun o => setCoord me a (g.lo a + o))

/-- A member's acts on a ring for what member `q` owns. `gather`: the all-gather turn. -/
def ringActs (l : List Nat) (me q : Nat) (plus gather : Bool) (tag port : Nat) : List Act :=
  let n := l.length
  let p := (l.findIdx? (fun m => m == me)).getD 0
  let o := (l.findIdx? (fun m => m == q)).getD 0
  let d := if plus then (p + n - o) % n else (o + n - p) % n
  let up := l.getD ((p + 1) % n) me
  let down := l.getD ((p + n - 1) % n) me
  let next := if plus then up else down
  let prev := if plus then down else up
  if n ≤ 1 then []
  else if gather then (if d = 0 then [] else [Act.recvSet prev tag]) ++ (if d + 1 = n then [] else [Act.send next tag port])
  else (if d = 1 then [] else [Act.recvAdd prev tag]) ++ (if d = 0 then [] else [Act.send next tag port])

/-- The ring axes of a group. -/
def Group.ringAxes (g : Group) : List Nat := (List.range 3).filter (fun a => g.onAxis a && decide (1 < g.len a))

/-- The acts of one axis for a quarter of a part: 0, 1 in the + sense, 2, 3 in the − sense, by port index. -/
def Group.axisActs (g : Group) (t : Torus) (me own quarter : Nat) (gather : Bool) (a : Nat) : List Act :=
  let plus := decide (quarter < 2)
  let port := if g.wraps t a then tportOf a (!plus) (quarter % 2) else 12 + quarter % 2
  ringActs (g.ring t a me) me (setCoord me a (torCoord own a)) plus gather (if plus then 2 else 3) port

/-- Reduce-scatter along the axes in order, as far as the member shares the owner's coordinates. -/
def Group.scatterActs (g : Group) (t : Torus) (me own quarter : Nat) : List Nat → List Act
  | [] => []
  | a :: r => g.axisActs t me own quarter false a ++ (if torCoord me a = torCoord own a then Group.scatterActs g t me own quarter r else [])

/-- All-gather along the axes in the reverse order. -/
def Group.gatherActs (g : Group) (t : Torus) (me own quarter : Nat) : List Nat → List Act
  | [] => []
  | a :: r => (if torCoord me a = torCoord own a then Group.gatherActs g t me own quarter r else []) ++ g.axisActs t me own quarter true a

/-! ### Sizes (14 R448, R449) -/

def elemSize (dtype : Nat) : Nat := match dtype with | 0 => 4 | 1 => 2 | 4 => 16 | _ => 1

/-- The operation combines: ALL_REDUCE, REDUCE_SCATTER, REDUCE. -/
def reduces (kind : Nat) : Bool := kind == 0 || kind == 1 || kind == 4

/-- FP8 under SUM: each element is widened to FP32. -/
def widens (kind red dtype : Nat) : Bool := reduces kind && red == 0 && (dtype == 2 || dtype == 3)
def resultSize (kind red dtype : Nat) : Nat := if widens kind red dtype then 4 else elemSize dtype

/-- RED and DTYPE go together (14 T14.6). -/
def comboOk (kind red dtype : Nat) : Bool :=
  if reduces kind then
    (match red with
     | 0 => decide (dtype ≤ 3)
     | 3 => decide (dtype = 4)
     | _ => decide (dtype ≤ 3))
  else decide (red = 0)

/-- Bytes of one rank's contribution, of its result, of the whole operation in results. -/
def CollRun.inBytes (c : CollRun) : Nat := c.count * elemSize c.dtype
def CollRun.outGran (c : CollRun) (ranks : Nat) : Nat :=
  c.count * resultSize c.kind c.red c.dtype * (if c.kind = 2 then ranks else 1) / 256

/-- Bytes that a rank receives. -/
def dstBytes (kind red dtype count ranks : Nat) : Nat :=
  let b := count * resultSize kind red dtype
  if kind = 1 then b / ranks else if kind = 2 then b * ranks else b

/-! ### Pieces (14 R455, R456) -/

/-- Half of a run of granules, in whole granules of the contribution. -/
def firstHalf (n scale : Nat) : Nat := (n / scale + 1) / 2 * scale

/-- Parts of a run of granules in two, and in four. -/
def twoParts (start n scale : Nat) : List (Nat × Nat × Nat) :=
  let h := firstHalf n scale
  [(start, h, 0), (start + h, n - h, 1)]

def fourParts (start n : Nat) : List (Nat × Nat × Nat) :=
  let h := (n + 1) / 2
  let q := (h + 1) / 2
  let r := (n - h + 1) / 2
  [(start, q, 0), (start + q, h - q, 1), (start + h, r, 2), (start + h + r, n - h - r, 3)]

/-- Pieces of up to four granules. -/
def chopPieces (start n : Nat) : List (Nat × Nat) :=
  (List.range ((n + 3) / 4)).map (fun i => (start + 4 * i, min 4 (n - 4 * i)))

/-- Acts over a tree for a piece. `own`: the module whose part it is, for a gather. -/
def Group.treeActs (g : Group) (t : Torus) (me c tree : Nat) (alive : List Nat) (kind own : Nat) : List Act :=
  let kids := g.children t c tree alive me
  let up := g.parent t c tree alive me
  let send := fun m => Act.send m tree (g.portTo t c tree me m)
  let toUp := match up with
    | some p => [send p]
    | none => []
  let fromUp := match up with
    | some p => [Act.recvSet p tree]
    | none => []
  let spread := fromUp ++ kids.map send
  match kind with
  | 3 => (if up.isNone then [Act.own] else []) ++ spread ++ [.write]
  | 4 => [Act.own] ++ kids.map (fun m => Act.recvAdd m tree) ++ toUp ++ (if up.isNone then [.write] else [])
  | 2 =>
    let path := g.chain t c tree alive 200 own
    let first := match path.findIdx? (fun m => m == me) with
      | some 0 => [Act.own] ++ toUp
      | some (i + 1) => [Act.recvSet (path.getD i 0) tree] ++ toUp
      | none => []
    first ++ spread ++ [.write]
  | 1 => [Act.own] ++ kids.map (fun m => Act.recvAdd m tree) ++ toUp ++ spread ++ (if own = me then [.write] else [])
  | _ => [Act.own] ++ kids.map (fun m => Act.recvAdd m tree) ++ toUp ++ spread ++ [.write]

/-- Acts over rings for a quarter of a part. -/
def Group.ringPlan (g : Group) (t : Torus) (me kind own quarter : Nat) : List Act :=
  let sc := g.scatterActs t me own quarter g.ringAxes
  let ga := g.gatherActs t me own quarter g.ringAxes
  match kind with
  | 1 => [Act.own] ++ sc ++ (if own = me then [.write] else [])
  | 2 => (if own = me then [Act.own] else []) ++ ga ++ [.write]
  | _ => [Act.own] ++ sc ++ ga ++ [.write]

/-- Acts over the flat ring of a re-formed group (14 R457). -/
def flatPlan (l : List Nat) (me kind own : Nat) : List Act :=
  let sc := ringActs l me own true false 4 12
  let ga := ringActs l me own true true 4 12
  match kind with
  | 1 => [Act.own] ++ sc ++ (if own = me then [.write] else [])
  | 2 => (if own = me then [Act.own] else []) ++ ga ++ [.write]
  | _ => [Act.own] ++ sc ++ ga ++ [.write]

/-- The algorithm of an operation: 1 rings, 2 trees (14 R457). -/
def chooseAlgo (g : Group) (c : CollRun) (asked : Nat) : Nat :=
  if 3 ≤ c.kind then 2 else if asked ≠ 0 then asked else if g.algo ≠ 0 then g.algo
  else if c.inBytes < g.crossover then 2 else 1

/-- Granules of a part from its first, of `n` parts of a space. -/
def partStart (total n i : Nat) : Nat := i * total / n

/-- The pieces of an operation with this member's acts. -/
def Group.plan (g : Group) (t : Torus) (c : CollRun) (asked : Nat) : List PieceRun :=
  let me := t.id.toNat
  let l := g.mods me
  let ranks := g.ranks me
  let total := c.outGran ranks
  let scale := if widens c.kind c.red c.dtype then 4 else 1
  let cut := fun (e : Nat × Nat × Nat) (acts : List Act) => (chopPieces e.1 e.2.1).map (fun (p : Nat × Nat) => ({ off := p.1, n := p.2, acts := acts } : PieceRun))
  let parts := (List.range l.length).map (fun i => (i, partStart total l.length i, partStart total l.length (i + 1) - partStart total l.length i))
  if c.kind = 5 then []
  else if chooseAlgo g c asked = 1 then
    parts.flatMap (fun (e : Nat × Nat × Nat) =>
      let own := l.getD e.1 me
      if g.members.isSome then cut (e.2.1, e.2.2, 0) (flatPlan l me c.kind own)
      else (fourParts e.2.1 e.2.2).flatMap (fun q => cut q (g.ringPlan t me c.kind own q.2.2)))
  else
    let root := if c.kind = 3 ∨ c.kind = 4 then l.getD (c.root / g.perMod) me else g.centre me
    let tree := fun (own : Nat) (q : Nat × Nat × Nat) => cut q (g.treeActs t me root q.2.2 l c.kind own)
    match c.kind with
    | 1 => (twoParts 0 total scale).flatMap (fun h => parts.flatMap (fun (e : Nat × Nat × Nat) =>
        let a := max h.1 e.2.1
        let b := min (h.1 + h.2.1) (e.2.1 + e.2.2)
        tree (l.getD e.1 me) (a, b - a, h.2.2)))
    | 2 => (List.range ranks).flatMap (fun r =>
        let part := total / ranks
        (twoParts (r * part) part 1).flatMap (tree (l.getD (r / g.perMod) me)))
    | _ => (twoParts 0 total scale).flatMap (tree me)

/-! ### Reductions (14 R449) -/

def bf16Sum (a b : Nat) : Nat := (bf16.encode 0 false 0 (fAdd 0 (bf16.decode a) (bf16.decode b)).1).1

/-- The greater or lesser of two codes of a format, by VMAX and VMIN (07 R230). -/
def pickCode (f : Fmt) (max : Bool) (a b : Nat) : Nat :=
  let x := (fp32Round 0 (f.decode a)).1
  let y := (fp32Round 0 (f.decode b)).1
  (f.encode 0 false 0 (FVal.ofWord (if max then fp32Max x y else fp32Min x y))).1

/-- Two elements under RED and the type they travel in. -/
def combineElem (red dtype a b : Nat) : Nat :=
  if red = 3 then (partialAdd (BitVec.ofNat 128 a) (BitVec.ofNat 128 b)).toNat
  else match dtype with
    | 1 => if red = 0 then bf16Sum a b else pickCode bf16 (red == 1) a b
    | 2 => if red = 0 then (sumFp32 (BitVec.ofNat 32 a) (BitVec.ofNat 32 b)).toNat else pickCode e4m3 (red == 1) a b
    | 3 => if red = 0 then (sumFp32 (BitVec.ofNat 32 a) (BitVec.ofNat 32 b)).toNat else pickCode e5m2 (red == 1) a b
    | _ =>
      let x := BitVec.ofNat 32 a
      let y := BitVec.ofNat 32 b
      (if red = 0 then sumFp32 x y else if red = 1 then fp32Max x y else fp32Min x y).toNat

def CollRun.elemOut (c : CollRun) : Nat := resultSize c.kind c.red c.dtype

/-- A granule whose check is fresh, poisoned when a source was. -/
def freshPiece (d : List Byte) (bad : Bool) : Piece := { data := d, st := if bad then .poisoned else .held (crc32c d) }

/-- Two granules combined; poison travels with the elements it touches. -/
def CollRun.combine (c : CollRun) (a b : Piece) : Piece :=
  let n := c.elemOut
  freshPiece (((wordsOf n a.data).zip (wordsOf n b.data)).flatMap (fun (w : Nat × Nat) => leBytes n (combineElem c.red c.dtype w.1 w.2)))
    (a.st == .poisoned || b.st == .poisoned)

/-- A contribution as it enters: FP8 under SUM is widened to FP32. -/
def CollRun.enter (c : CollRun) (p : Piece) : Piece :=
  if widens c.kind c.red c.dtype then
    let f := if c.dtype = 2 then e4m3 else e5m2
    freshPiece (p.data.flatMap (fun b => leBytes 4 (fp32Round 0 (f.decode b.toNat)).1.toNat)) (p.st == .poisoned)
  else p

/-- Tiles of a block as a gradient stream combines them: west part, then east part with the entry column last, rows from the south (09 R302). -/
def CollRun.combineBlock (c : CollRun) (w h : Nat) (f : Nat → Piece) : Option Piece :=
  let fold := fun (l : List Piece) => match l with
    | [] => none
    | x :: r => some (r.foldl c.combine x)
  fold ((List.range h).filterMap (fun j =>
    let west := fold ((List.range (w / 2)).map (fun i => f (j * w + i)))
    let east := fold (((List.range (w - w / 2)).map (fun i => f (j * w + (w - 1 - i)))))
    match west, east with
    | some x, some y => some (c.combine x y)
    | some x, none => some x
    | none, y => y))

end Sys2Proof.Machine
end

