-- ==== Sys2Proof/Machine/Memory.lean ====
section
/-! DEFINITION. The memory tiers' operations, messages and quotas: COPY, TIER_PREFETCH, TIER_RELEASE, the MEM_ messages, the private
split (10_memory_tiers R316-R317, R322-R324, R330-R333, R344-R347). -/
namespace Sys2Proof.Machine

/-! ### COPY (10 R344, R345) -/

/-- The place a TILE, SLICE or RANGE address of a COPY names. -/
def copyPlace (n kind v : Nat) : Place :=
  match kind with
  | 1 => .range n (v % 2 ^ 48)
  | 2 => .sram (tileAt (v / 2 ^ 32 % 512) (v / 2 ^ 48 % 512)) (v % 2 ^ 20)
  | _ => .slice (tileAt (v / 2 ^ 32 % 512) (v / 2 ^ 48 % 512)) (v % 2 ^ 24)

/-- What a descriptor reads at a place within one granule. -/
def State.opRead (s : State) (op : Nat) (pl : Place) (n : Nat) : RangeOut :=
  match pl with
  | .sram t a => .data (s.sramPiece t a n)
  | .slice t a => .data ((s.touchSlot t a).slicePiece t a n)
  | .range p a => s.rangeRead p a n (.op op)

/-- The read was served. -/
def State.opMark (s : State) (op : Nat) (pl : Place) : State :=
  match pl with
  | .sram _ _ => s
  | .slice t a => s.touchSlot t a
  | .range p a => (s.markRead p a).dropPassed (.op op) none

/-- What a descriptor writes at a place within one granule. -/
def State.opWrite (s : State) (n : Nat) (pl : Place) (p : Piece) : RangeWrite :=
  match pl with
  | .sram t a => .done (s.sramPut t a p) true
  | .slice t a =>
    let r := s.slicePut t a p
    .done (r.1.countCheck n r.2) r.2
  | .range m a => s.rangeWrite m a p none

/-- Bytes of the next piece of a COPY: a whole granule where both ends are aligned, else 64. A host address has no granules. -/
def Op.copyStep (o : Op) (pos : Nat) : Nat :=
  let whole := fun (kind a : Nat) => decide (kind = 0) || decide ((a + pos) % 256 = 0)
  if whole (o.byte 40) (o.le 16 8) && whole (o.byte 41) (o.le 24 8) && decide (pos + 256 ≤ o.le 32 8) then 256 else 64

/-- A piece read from the host is fresh. -/
def hostPiece (d : List Byte) : Piece := { data := d, st := if d.length = 256 then .held (crc32c d) else .local' }

/-- A piece leaves for the host: checked; a poisoned one in a TLP with EP set (10 R340). -/
def State.copyToHost (s : State) (o : Op) (addr : Nat) (p : Piece) : Option State :=
  let ep : Ep := .vf (Fin.ofNat 12 o.part)
  if !p.checked then none
  else if p.st = .poisoned then some (s.emit (.hostPoison ep addr p.data))
  else some (s.emit (.hostWrite ep addr p.data))

/-- One piece of a COPY is written: the next state, or the operation has ended in it. -/
def State.copyPut (s : State) (o : Op) (pos : Nat) (p : Piece) : State × Bool :=
  let v := o.le 24 8
  match o.byte 41 with
  | 0 =>
    (match s.copyToHost o (v + pos) p with
     | some u => (u, true)
     | none => (s.failOp o 5 (pos / 256), false))
  | 4 =>
    (match tfind (s.pt o.part).mem.objs (v / 2 ^ 40 % 4096) with
     | some x => ({ s with flash := s.flash.writeN (x.block * 65536 + v % 2 ^ 40 + pos) p.data }, true)
     | none => (s, true))
  | kind =>
    match s.opWrite o.part ((copyPlace o.part kind v).at pos) p with
    | .done u true => (u, true)
    | .done u false => (u.failOp o 5 (pos / 256), false)
    | .refused => (s.failOp o 2 0, false)
    | .quota u => (u.failOp o 3 1, false)

/-- A COPY moves its pieces in ascending order as far as the host bytes that came and the residency of its pages allow. -/
def State.copyRun (o : Op) : Nat → List Byte → State → State
  | 0, _, s => s
  | k + 1, host, s =>
    let x := s.prog o.id
    if o.le 32 8 ≤ x.pos then
      (s.closeOp o).endOp o.id (if x.poison.isSome then 9 else 0) (x.poison.getD 0)
    else
      let n := o.copyStep x.pos
      let go := fun (u : State) (p : Piece) (rest : List Byte) =>
        let r := u.copyPut o x.pos p
        if r.2 then
          State.copyRun o k rest (r.1.setProg o.id { x with
            pos := x.pos + n, poison := if x.poison.isNone ∧ p.st = .poisoned then some (x.pos / 256) else x.poison })
        else r.1
      if o.byte 40 = 0 then
        (if host.length < n then s else go s (hostPiece (host.take n)) (host.drop n))
      else
        let pl := (copyPlace o.part (o.byte 40) (o.le 16 8)).at x.pos
        match s.opRead o.id pl n with
        | .data p => go (s.opMark o.id pl) p host
        | .refused => s.failOp o 2 0
        | .wait c => s.fetchChunk o.part c (some (pl.addr / pageSize)) (.op o.id) none

/-- Checks 5 to 7 of 10 T10.10: status and DETAIL of the first that fails. -/
def State.copyCheck (s : State) (o : Op) : Option (Nat × Nat) :=
  let len := o.le 32 8
  let ends := [(o.byte 40, o.le 16 8, false), (o.byte 41, o.le 24 8, true)]
  let outside := fun (e : Nat × Nat × Bool) =>
    let v := e.2.1
    match e.1 with
    | 2 => decide (sramSize < v % 2 ^ 20 + len)
    | 3 => decide (s.privateEnd (tileAt (v / 2 ^ 32 % 512) (v / 2 ^ 48 % 512)) < v % 2 ^ 24 + len)
    | 4 =>
      (match tfind (s.pt o.part).mem.objs (v / 2 ^ 40 % 4096) with
       | some x => decide (x.tier ≠ 2) || x.sealed' || decide (x.t2Bytes < v % 2 ^ 40 + len)
       | none => true)
    | _ => false
  let program := fun (e : Nat × Nat × Bool) =>
    decide (e.1 = 2) && e.2.2 && (s.tile (tileAt (e.2.1 / 2 ^ 32 % 512) (e.2.1 / 2 ^ 48 % 512))).inProgram (e.2.1 % 2 ^ 20) len
  let unmapped := fun (e : Nat × Nat × Bool) =>
    decide (e.1 = 1) && (decide (2 ^ 48 < e.2.1 + len) ||
      (pagesOf e.2.1 len).any (fun p => if e.2.2 then !s.writable o.part p else !s.mapped o.part p))
  if ends.any outside then some (8, 0x123)
  else if ends.any program then some (8, 0x124)
  else if ends.any unmapped then some (2, 0)
  else none

/-- COPY (10 R344). `host`: the next bytes a HOST source gives. Host reads and writes need a function that may make them (03 R89). -/
def execCopy (op : Nat) (host : List Byte) (s : State) : Host.Outcome State Fault Refusal :=
  ok (s.onOp op 0x20 (fun o =>
    let fuel := o.le 32 8 / 64 + 2
    let stuck := fun (u : State) => (o.byte 40 = 0 ∨ o.byte 41 = 0) ∧ !u.canWrite (.vf (Fin.ofNat 12 o.part))
    if (tfind s.opProg op).isSome then (if stuck s then s else State.copyRun o fuel host s)
    else if o.le 32 8 = 0 then s.endOp op 0 0
    else match s.copyCheck o with
      | some e => s.rejectOp op e.1 e.2
      | none =>
        let s1 := s.setProg op {}
        if stuck s1 then s1 else State.copyRun o fuel host s1))

/-! ### TIER_PREFETCH and TIER_RELEASE (10 R346) -/

/-- How making one page resident goes. -/
inductive Pref where
  | skip
  | full (s : State)
  | wait (s : State)
  | ready (s : State)

/-- A lower-tier page is made resident for an operation: a slot is taken, absent chunks read as zeros, the others are fetched. -/
def State.prefetchPage (s : State) (n page op : Nat) (protect : List Nat) : Pref :=
  match s.homeOf n page with
  | .obj e =>
    let got := if e.ppa.isSome then some (s, e)
      else match s.takePage n none protect with
        | some (u, ppa) =>
          let e1 := { e with ppa := some ppa, chunks := 0, readSeq := s.readSeq }
          some (u.setPte n page e1, e1)
        | none => none
    (match got with
     | none => .full (s.failAlloc n)
     | some (u, e1) =>
       let missing := (List.range 32).filter (fun c => !e1.chunks.getLsbD c)
       let v := missing.foldl (fun (w : State) c =>
         let k : ChunkKey := { src := .obj n e1.ref, page := e1.opage, chunk := c }
         if w.chunkAbsent k then w.putChunk n page c (List.replicate chunkSize 0)
         else w.fetchChunk n k (some page) (.op op) none) u
       if (v.pte n page).any (fun x => x.chunks == BitVec.allOnes 32) then .ready v else .wait v)
  | _ => .skip

/-- The page was not resident before. -/
def State.missingPage (s : State) (n page : Nat) : Bool :=
  match s.homeOf n page with
  | .obj e => e.ppa.isNone || e.chunks != BitVec.allOnes 32
  | _ => false

def State.pinPage (s : State) (n page : Nat) : State :=
  match s.pte n page with
  | some e => s.setPte n page { e with pin := true }
  | none => s

/-- The pages of a TIER_PREFETCH in ascending order, until one has to wait. -/
def State.prefetchRun (o : Op) : Nat → State → State
  | 0, s => s
  | k + 1, s =>
    let x := s.prog o.id
    let page := o.le 16 8 / pageSize + x.pos
    let pin := o.byte 28 % 2 = 1
    if o.le 24 4 ≤ x.pos then ((s.closeOp o).quotaCheck o.part).endOp o.id 0 x.count
    else
      let x1 := if s.missingPage o.part page ∧ !x.pages.contains page then { x with pages := x.pages ++ [page] } else x
      match s.prefetchPage o.part page o.id x1.pages with
      | .skip => State.prefetchRun o k (s.setProg o.id { x1 with pos := x.pos + 1 })
      | .full u => ((u.closeOp o).quotaCheck o.part).endOp o.id 3 1
      | .wait u => u.setProg o.id x1
      | .ready u =>
        let u1 := if pin then u.pinPage o.part page else u
        State.prefetchRun o k (u1.setProg o.id { x1 with
          pos := x.pos + 1, count := if x1.pages.contains page then x.count + 1 else x.count })

def execTierPrefetch (op : Nat) (s : State) : Host.Outcome State Fault Refusal :=
  ok (s.onOp op 0x21 (fun o =>
    let base := o.le 16 8 / pageSize
    if (tfind s.opProg op).isSome then State.prefetchRun o (o.le 24 4 + 1) s
    else if (List.range (o.le 24 4)).any (fun i => !s.mapped o.part (base + i)) then s.rejectOp op 2 0
    else State.prefetchRun o (o.le 24 4 + 1) (s.setProg op {})))

/-- An anonymous page gives its slot back, or LOST is cleared; the number of slots returned (10 R330). -/
def State.dropWritten (s : State) (n page : Nat) (e : Pte) : State × Nat :=
  match e.ppa with
  | some ppa => ((s.setPte n page { e with ppa := none, lost := false }).freeSlot ppa, 1)
  | none => (s.setPte n page { e with lost := false }, 0)

/-- The pages of a TIER_RELEASE, until a copy serves a read in flight. -/
def State.releaseRun (o : Op) : Nat → State → State
  | 0, s => s
  | k + 1, s =>
    let x := s.prog o.id
    let n := o.part
    let page := o.le 16 8 / pageSize + x.pos
    let fl := o.byte 28
    if o.le 24 4 ≤ x.pos then ((s.closeOp o).quotaCheck n).endOp o.id 0 x.count
    else
      let next := fun (u : State) (c : Nat) => State.releaseRun o k (u.setProg o.id { x with pos := x.pos + 1, count := x.count + c })
      match s.homeOf n page with
      | .obj e =>
        if fl % 2 = 1 then next ((s.setPte n page { e with pin := false }).updP n (fun p => { p with wgt := p.wgt.unpin page })) 0
        else if e.ppa.isNone then next s 0
        else if s.pageBusy n page then s
        else next (s.discardCopy n page) 1
      | .anon e =>
        if fl / 2 % 2 = 1 then
          let r := s.dropWritten n page e
          next r.1 r.2
        else next s 0
      | _ => next s 0

def execTierRelease (op : Nat) (s : State) : Host.Outcome State Fault Refusal :=
  ok (s.onOp op 0x22 (fun o =>
    State.releaseRun o (o.le 24 4 + 1) (if (tfind s.opProg op).isSome then s else s.setProg op {})))

/-! ### The private split and quotas (10 R317, R333) -/

/-- A slot's number lies among those a higher split takes from the pool. -/
def withdrawn (old new ppa : Nat) : Bool := decide (old ≤ ppaSlot ppa) && decide (ppaSlot ppa < new)

/-- The slots of allocated pages, home shared pages and mirror pages. -/
def State.allocatedPpas (s : State) (n : Nat) : List Nat :=
  ((s.pt n).mem.pages.filter (fun (e : Nat × Pte) => decide (e.2.back = 0))).filterMap (fun (e : Nat × Pte) => e.2.ppa) ++
    (s.homePages n).map (fun (e : Nat × Nat) => e.2) ++ (s.pt n).mirror.pages.map (fun (e : Nat × Nat) => e.2)

/-- Resident copies whose slot meets a test go. -/
def State.discardWhere (s : State) (n : Nat) (f : Nat → Bool) : State :=
  ((s.pt n).mem.pages.filter (fun (e : Nat × Pte) => decide (2 ≤ e.2.back) && e.2.ppa.any f)).foldl
    (fun (u : State) (e : Nat × Pte) => u.discardCopy n e.1) s

/-- A write of MEM.SPLIT.PRIVATE_SLOTS by the privileged host (10 R317). -/
def State.writeSplit (s : State) (k n v : Nat) : State :=
  let old := (s.pt n).mem.privateSlots
  if k ≠ s.sec.privLink.toNat ∨ (s.pt n).state.isFree ∨ 384 < v then s
  else if v ≤ old then s.updM n (fun m => { m with privateSlots := v, refused := false })
  else if (s.allocatedPpas n).any (withdrawn old v) then s.updM n (fun m => { m with refused := true })
  else ((s.discardWhere n (withdrawn old v)).updM n (fun m => { m with privateSlots := v, refused := false })).quotaCheck n

def execPrivateSlotsWrite (k : Fin 4) (n : Fin 12) (value : W64) (s : State) : Host.Outcome State Fault Refusal :=
  ok (s.writeSplit k n (field value 8 0))

/-- A write of MEM.QUOTA or MEM.QUOTA_T3 by the privileged host (10 R333). -/
def State.writeQuota (s : State) (k n : Nat) (t3 : Bool) (v : W64) : State :=
  if k ≠ s.sec.privLink.toNat ∨ (s.pt n).state.isFree then s
  else if t3 then (s.updM n (fun m => { m with quotaT3 := field v 22 0 })).quotaCheck n
  else (s.updM n (fun m => { m with
    quotaT1 := field v 23 0, quotaT2 := if s.hasFlash then field v 54 24 else m.quotaT2 })).quotaSettle n

def execQuotaWrite (k : Fin 4) (n : Fin 12) (t3 : Bool) (value : W64) (s : State) : Host.Outcome State Fault Refusal :=
  ok (s.writeQuota k n t3 value)

/-! ### Messages (10 R347) -/

/-- The partition a message acts on, or the result that refuses it. -/
def State.memTarget (s : State) (m : Msg) : Nat ⊕ Nat :=
  match m.part with
  | some n => .inr n
  | none =>
    if s.isPriv m then
      (if 11 < m.u8 0 ∨ (s.pt (m.u8 0)).state.isFree then .inl rBadArgument else .inr (m.u8 0))
    else .inl rNotPermitted

/-- A message of a partition: refused for its sender, or handled. -/
def State.memMsg (s : State) (m : Msg) (id : Nat) (f : State → Nat → State) : Host.Outcome State Fault Refusal :=
  s.handle .sch id m (fun t =>
    match t.memTarget m with
    | .inl r => t.reply m id 2 r []
    | .inr n => f t n)

/-- A range of bytes meets the pages or the grants a partition has mapped (10 R324, 02 R62). -/
def State.grantOverlaps (s : State) (n page count : Nat) : Bool :=
  s.sec.grants.any (fun g => decide (g.grantee = n) &&
    (match tfind s.sec.shared g.shared with
     | some r => decide (g.base.toNat / pageSize < page + count) && decide (page < g.base.toNat / pageSize + r.pages)
     | none => false))

def PartMem.pagesMeet (m : PartMem) (page count : Nat) : Bool :=
  m.pages.any (fun (e : Nat × Pte) => decide (page ≤ e.1) && decide (e.1 < page + count))

/-- The entries of `count` pages from `page`. -/
def newEntries (page count : Nat) (f : Nat → Pte) : List (Nat × Pte) := (List.range count).map (fun i => (page + i, f i))

/-- Pages meet the range a standby's mirror reserves (18 R570). -/
def Mirror.reserves (m : Mirror) (page count : Nat) : Bool :=
  decide (m.role = 2) && decide (m.bstate ≠ .unbound) && decide (m.bstate ≠ .failedOver) &&
    decide (page < m.base.toNat / pageSize + 2 * m.bankPages.toNat) && decide (m.base.toNat / pageSize < page + count)

/-- MEM_MAP (10 R324): payload partition, VBASE, PAGES, handle or 0xFFFF anonymous, FIRST. -/
def execMemMap (m : Msg) (s : State) : Host.Outcome State Fault Refusal :=
  s.memMsg m 0x0A01 (fun t n =>
    let base := m.u64 8
    let pages := m.u32 16
    let h := m.u16 20
    let first := m.u32 24
    let mem := (t.pt n).mem
    let bad := fun (u : State) => u.reply m 0x0A01 2 rBadArgument []
    let put := fun (u : State) (t3 : Bool) (f : Nat → Pte) =>
      if 4194304 < mem.pages.length + pages ∨ (t3 ∧ overLimit (mem.useT3 + pages) mem.limitT3) then u.reply m 0x0A01 2 rNoResource []
      else ((u.updM n (fun x => { x with
        pages := (newEntries base pages f).foldl (fun l (e : Nat × Pte) => tset l e.1 e.2) x.pages })).quotaCheck n).reply m 0x0A01 2 rOK []
    if pages = 0 ∨ 2 ^ 27 < base + pages ∨ mem.pagesMeet base pages ∨ t.grantOverlaps n base pages ∨
        (t.pt n).mirror.reserves base pages then bad t
    else if h = 0xFFFF then (if first ≠ 0 then bad t else put t false (fun _ => {}))
    else match tfind mem.objs h with
      | none => bad t
      | some o =>
        if (o.tier = 2 ∧ !o.sealed') ∨ o.pages < first + pages then bad t
        else put t (decide (o.tier = 3)) (fun i => { back := o.tier, ref := h, opage := first + i }))

/-- A place lies in pages of a partition's range. -/
def Place.inPages (p : Place) (n page count : Nat) : Bool :=
  match p with
  | .range m a => decide (m = n) && decide (page ≤ a / pageSize) && decide (a / pageSize < page + count)
  | _ => false

/-- A started COPY, PUBLISH, SNAPSHOT or other descriptor names bytes of the pages. -/
def Op.namesPages (o : Op) (page count : Nat) : Bool :=
  let meets := fun (a len : Nat) => (decide (0 < len)) && decide (a / pageSize < page + count) && decide (page ≤ (a + len - 1) / pageSize)
  match o.opcode with
  | 0x10 => decide (o.byte 37 % 2 = 0) && meets (o.le 40 8) (o.le 48 4)
  | 0x20 => (decide (o.byte 40 = 1) && meets (o.le 16 8) (o.le 32 8)) || (decide (o.byte 41 = 1) && meets (o.le 24 8) (o.le 32 8))
  | 0x21 => meets (o.le 16 8) (o.le 24 4 * pageSize)
  | _ => false

/-- Transfers that have started on pages and have not completed (10 R347). -/
def State.pagesInUse (s : State) (n page count : Nat) : Bool :=
  s.xfers.any (fun x => !x.finished && (x.src :: x.dsts).any (fun p => p.inPages n page count)) ||
    s.pkts.any (fun p => p.places.any (fun pl => pl.inPages n page count)) ||
    s.ops.any (fun o => decide (o.part = n) && decide (o.st = .started) && o.namesPages page count) ||
    s.snaps.any (fun x => decide (x.part = n) && decide (x.src / pageSize < page + count) && decide (page * pageSize < x.src + x.len))

/-- An entry leaves the page table and its slot returns. -/
def State.unmapPage (s : State) (n : Nat) (e : Nat × Pte) : State :=
  let s1 := if 2 ≤ e.2.back then s.discardCopy n e.1
    else match e.2.ppa with
      | some ppa => s.freeSlot ppa
      | none => s
  s1.updP n (fun p => { p with mem := { p.mem with pages := tdel p.mem.pages e.1 }, wgt := p.wgt.unpin e.1 })

/-- MEM_UNMAP (10 R347): payload partition, VBASE, PAGES. It waits in its queue while a transfer that has started on the pages goes on. -/
def execMemUnmap (m : Msg) (s : State) : Host.Outcome State Fault Refusal :=
  match s.memTarget m with
  | .inr n =>
    if s.pagesInUse n (m.u64 8) (m.u32 16) then ok s
    else s.memMsg m 0x0A02 (fun t n =>
      let hit := (t.pt n).mem.pages.filter (fun (e : Nat × Pte) => decide (m.u64 8 ≤ e.1) && decide (e.1 < m.u64 8 + m.u32 16))
      ((hit.foldl (fun u e => u.unmapPage n e) t).quotaCheck n).reply m 0x0A02 2 rOK [])
  | .inl _ => s.memMsg m 0x0A02 (fun t _ => t)

/-- An object descriptor of 10 T10.3. -/
structure ObjDesc where
  tier : Nat
  pages : Nat
  server : Nat
  loc : Nat
  t2Bytes : Nat
deriving DecidableEq, Repr

def objDesc (b : List Byte) : ObjDesc := {
  tier := leAt b 0 1, pages := leAt b 4 4, server := leAt b 8 2, loc := leAt b 16 8, t2Bytes := leAt b 24 8 }

/-- The descriptor keeps 10 T10.3. -/
def State.objDescOk (s : State) (b : List Byte) : Bool :=
  let d := objDesc b
  decide (leAt b 1 3 = 0) && decide (leAt b 10 6 = 0) && decide (1 ≤ d.pages) && decide (d.pages ≤ 2 ^ 21) &&
    (match d.tier with
     | 2 => s.hasFlash && decide (d.server = 0) && decide (d.loc = 0) && decide (256 * d.pages ≤ d.t2Bytes) && decide (d.t2Bytes ≤ 2 ^ 40)
     | 3 => decide (d.t2Bytes = 0)
     | _ => false)

/-- Every T2 object there is. -/
def State.t2Objs (s : State) : List MemObj :=
  ((List.range 12).flatMap (fun n => (s.pt n).mem.objs.map (fun (e : Nat × MemObj) => e.2)) ++
    s.backing.map (fun (e : Nat × MemObj) => e.2)).filter (fun o => decide (o.tier = 2))

/-- The lowest free run of T2 blocks (10 R322). -/
def State.t2Run (s : State) (count : Nat) : Option Nat :=
  let used := s.t2Objs
  let starts := 0 :: used.map (fun o => o.block + o.blocks)
  (starts.filter (fun b => decide (b + count ≤ 2 ^ 30) && used.all (fun o => decide (o.block + o.blocks ≤ b) || decide (b + count ≤ o.block)))).foldl
    (fun (r : Option Nat) b => match r with
      | some x => some (min x b)
      | none => some b) none

/-- MEM_OBJ_CREATE (10 R322, R332): payload partition, handle, descriptor. -/
def execMemObjCreate (m : Msg) (s : State) : Host.Outcome State Fault Refusal :=
  s.memMsg m 0x0A03 (fun t n =>
    let h := m.u16 2
    let b := (List.range 32).map (fun i => byteAt m.payload (8 + i))
    let d := objDesc b
    let fin := fun (u : State) (r : Nat) => u.reply m 0x0A03 2 r []
    let add := fun (u : State) (o : MemObj) => (u.updM n (fun x => { x with objs := tset x.objs h o })).quotaCheck n
    if 4095 < h ∨ !t.objDescOk b then fin t rBadArgument
    else if (tfind (t.pt n).mem.objs h).isSome then fin t rBusy
    else if d.tier = 3 then
      fin (add t {
        tier := 3, pages := d.pages, server := BitVec.ofNat 16 d.server, loc := BitVec.ofNat 64 d.loc, t2Bytes := 0, sealed' := true,
        block := 0, blocks := 0 }) rOK
    else
      let blocks := (d.t2Bytes + 65535) / 65536
      if (t.pt n).mem.quotaT2 < (t.pt n).mem.useT2 + blocks then fin t rNoResource
      else match t.t2Run blocks with
        | none => fin t rNoResource
        | some k => fin (add t {
            tier := 2, pages := d.pages, server := 0, loc := BitVec.ofNat 64 k, t2Bytes := d.t2Bytes, sealed' := false,
            block := k, blocks := blocks }) rOK)

/-- A T2_FILL of an object that has started goes on. -/
def State.filling (s : State) (n h : Nat) : Bool :=
  s.ops.any (fun o => decide (o.part = n) && decide (o.st = .started) && decide (o.opcode = 0x20) && decide (o.byte 41 = 4) &&
    decide (o.le 24 8 / 2 ^ 40 % 4096 = h) && (tfind s.opProg o.id).isSome)

/-- MEM_OBJ_SEAL (10 R322): it waits in its queue for the fills that have started. -/
def execMemObjSeal (m : Msg) (s : State) : Host.Outcome State Fault Refusal :=
  match s.memTarget m with
  | .inr n =>
    if s.filling n (m.u16 2) then ok s
    else s.memMsg m 0x0A04 (fun t n =>
      match tfind (t.pt n).mem.objs (m.u16 2) with
      | some o =>
        if o.sealed' then t.reply m 0x0A04 2 rBadArgument []
        else (t.updM n (fun x => { x with objs := tset x.objs (m.u16 2) { o with sealed' := true } })).reply m 0x0A04 2 rOK []
      | none => t.reply m 0x0A04 2 rBadArgument [])
  | .inl _ => s.memMsg m 0x0A04 (fun t _ => t)

/-- Some entry refers to a handle. -/
def PartMem.refers (m : PartMem) (h : Nat) : Bool := m.pages.any (fun (e : Nat × Pte) => decide (2 ≤ e.2.back) && decide (e.2.ref = h))

/-- MEM_OBJ_DESTROY (10 R322). -/
def execMemObjDestroy (m : Msg) (s : State) : Host.Outcome State Fault Refusal :=
  s.memMsg m 0x0A05 (fun t n =>
    let h := m.u16 2
    if (tfind (t.pt n).mem.objs h).isNone then t.reply m 0x0A05 2 rBadArgument []
    else if (t.pt n).mem.refers h ∨ t.filling n h then t.reply m 0x0A05 2 rBusy []
    else ((t.updM n (fun x => { x with objs := tdel x.objs h })).quotaCheck n).reply m 0x0A05 2 rOK [])

/-- MEM_SHARED_BACK (10 R324): payload shared ID, FORM, partition, handle, descriptor. -/
def execMemSharedBack (m : Msg) (s : State) : Host.Outcome State Fault Refusal :=
  s.handle .sch 0x0A06 m (fun t =>
    let i := m.u8 0
    let b := (List.range 32).map (fun k => byteAt m.payload (8 + k))
    let d := objDesc b
    let n := m.u8 2
    let h := m.u16 4
    let fin := fun (u : State) (r : Nat) => u.reply m 0x0A06 2 r []
    if !t.isPriv m then fin t rNotPermitted
    else match tfind t.sec.shared i with
      | none => fin t rBadArgument
      | some r =>
        if r.home.isSome ∨ 1 < m.u8 1 then fin t rBadArgument
        else if m.u8 1 = 0 then
          (if !t.objDescOk b ∨ d.tier ≠ 3 then fin t rBadArgument
           else if t.sec.grants.any (fun g => g.shared == i) then fin t rBusy
           else fin { t with backing := tset t.backing i {
               tier := 3, pages := d.pages, server := BitVec.ofNat 16 d.server, loc := BitVec.ofNat 64 d.loc, t2Bytes := 0, sealed' := true,
               block := 0, blocks := 0 } } rOK)
        else if b.any (fun x => x != 0) ∨ 11 < n ∨ (t.pt n).state.isFree then fin t rBadArgument
        else match tfind (t.pt n).mem.objs h with
          | none => fin t rBadArgument
          | some o =>
            if o.tier ≠ 2 ∨ !o.sealed' then fin t rBadArgument
            else if t.sec.grants.any (fun g => g.shared == i) ∨ (t.pt n).mem.refers h then fin t rBusy
            else fin ((({ t with backing := tset t.backing i o }).updM n (fun x => { x with objs := tdel x.objs h })).quotaCheck n) rOK)

/-! ### MEM_EVACUATE (10 R347) -/

/-- A page's bytes and granule states move from one slot to another. -/
def State.movePage (s : State) (old new : Nat) : State :=
  (List.range 64).foldl (fun (u : State) k =>
    let a := granTile old k
    let b := granTile new k
    let oa := ppaSlot old * 0x8000
    let ob := ppaSlot new * 0x8000
    let v := (u.touchSlot a oa).touchSlot b ob
    let moved := { v with slices := (v.slices.clear (sliceKey b ob) 0x8000).writeN (sliceKey b ob) (v.slices.readN (sliceKey a oa) 0x8000) }
    (List.range 128).foldl (fun (w : State) g => w.setSgst b (ob / 256 + g) (v.sgst a (oa / 256 + g))) moved) s

/-- Where an allocated page is recorded. -/
inductive PageAt where
  | anon (page : Nat)
  | shared (key : Nat)
  | mirror (key : Nat)
deriving DecidableEq, Repr

def State.setPpa (s : State) (n : Nat) (p : PageAt) (ppa : Nat) : State :=
  match p with
  | .anon page => (match s.pte n page with
      | some e => s.setPte n page { e with ppa := some ppa }
      | none => s)
  | .shared key => { s with shPages := tset s.shPages key { (tget { ppa := none } s.shPages key : SharedPage) with ppa := some ppa } }
  | .mirror key => s.updP n (fun q => { q with mirror := { q.mirror with pages := tset q.mirror.pages key ppa } })

/-- Every allocated page of a partition with its slot. -/
def State.allocatedAt (s : State) (n : Nat) : List (PageAt × Nat) :=
  (s.pt n).mem.pages.filterMap (fun (e : Nat × Pte) => if e.2.back = 0 then e.2.ppa.map (fun p => (PageAt.anon e.1, p)) else none) ++
    (s.homePages n).map (fun (e : Nat × Nat) => (PageAt.shared e.1, e.2)) ++
    (s.pt n).mirror.pages.map (fun (e : Nat × Nat) => (PageAt.mirror e.1, e.2))

/-- Pages move one after the other while there is room outside the regions; false: room ran out. -/
def State.evacuate (n : Nat) (l : List Nat) : List (PageAt × Nat) → State → State × Bool
  | [], s => (s, true)
  | (p, old) :: r, s =>
    match s.placePage n none l with
    | none => (s, false)
    | some new => State.evacuate n l r (((s.movePage old new).setPpa n p new).freeSlot old)

/-- MEM_EVACUATE (10 R347): payload partition, RX0, RY0, W, H. -/
def execMemEvacuate (m : Msg) (s : State) : Host.Outcome State Fault Refusal :=
  s.handle .sch 0x0A07 m (fun t =>
    let n := m.u8 0
    if !t.isPriv m then t.reply m 0x0A07 2 rNotPermitted []
    else if 11 < n ∨ (t.pt n).state.isFree ∨ !rectValid (m.u8 1) (m.u8 2) (m.u8 3) (m.u8 4) then t.reply m 0x0A07 2 rBadArgument []
    else
      let l := rectRegions (m.u8 1) (m.u8 2) (m.u8 3) (m.u8 4)
      let t1 := t.discardWhere n (fun p => l.contains (ppaRegion p))
      let r := State.evacuate n l ((t1.allocatedAt n).filter (fun (e : PageAt × Nat) => l.contains (ppaRegion e.2))) t1
      (r.1.quotaCheck n).reply m 0x0A07 2 (if r.2 then rOK else rNoResource) [])

end Sys2Proof.Machine
end

