-- ==== Sys2Proof/Machine/Collectives.lean ====
section
/-! DEFINITION. Groups, collectives, their packets and control messages, the squall, re-forming (14_collectives R441-R465). -/
namespace Sys2Proof.Machine

/-! ### Groups -/

def State.updCol (s : State) (n : Nat) (f : PartCol → PartCol) : State := s.updP n (fun p => { p with col := f p.col })
def State.grp (s : State) (n g : Nat) : Group := tget {} (s.pt n).col.groups g
def State.setGrp (s : State) (n g : Nat) (x : Group) : State := s.updCol n (fun c => { c with groups := tset c.groups g x })
def State.updGrp (s : State) (n g : Nat) (f : Group → Group) : State := s.setGrp n g (f (s.grp n g))
def State.updColl (s : State) (n g : Nat) (f : CollRun → CollRun) : State := s.updGrp n g (fun x => { x with run := x.run.map f })

/-- The groups of a partition that are not FREE. -/
def State.groupsOf (s : State) (n : Nat) : List Nat :=
  ((s.pt n).col.groups.filter (fun (e : Nat × Group) => decide (e.2.state ≠ .free))).map (fun (e : Nat × Group) => e.1)

/-- The module's own ID. -/
def State.me (s : State) : Nat := s.tor.id.toNat

/-- Members that take part now: the survivors while a group re-forms. -/
def State.alive (s : State) (g : Group) : List Nat := (g.mods s.me).filter (fun m => !g.excl.contains m)

/-- DETAIL of ABORTED_SQUALL (14 T14.10). -/
def squallDetail (cause origin : Nat) : Nat := pack [(18, origin), (6, 0), (4, cause)]

/-! ### Packets (14 R458, R459; 13 R416) -/

/-- A packet leaves by a tree's or ring's own port where the route table replaces nothing, else by its route. -/
def State.torVia (s : State) (p : TorPkt) (prefer : Nat) : Option State :=
  let e := s.routeEntry p.dst
  if prefer < 12 ∧ e % 2 = 0 then
    match s.routeTo p.dst p.sel with
    | .port _ =>
      let k := s.fallPort prefer (if e / 512 % 2 = 1 then some (e / 32 % 16) else none)
      if s.keyAt p.key k then some (s.torEnqueue k p) else none
    | _ => none
  else s.torSend p

/-- The 64-byte mesh header of a collective packet (09 T9.2, 14 T14.8), from the service point of its T-port's well to that of the port it
arrives at; the destination's row carries SEL (13 R418). -/
def State.collHead (s : State) (k type len sel : Nat) (key : W16) (g tag : Nat) (seq epoch : W32) (off : Nat) : List Byte :=
  let a := s.portWell (24 + k)
  let b := (homeWells (24 + tFar k)).1
  leBytes 64 (pack [(3, 3), (1, 0), (1, 0), (1, 0), (2, 0), (8, type), (5, len), (11, 0), (16, key.toNat),
    (9, 24 * (b % 12)), (7, 0), (9, 24 * (b / 12) + sel), (2, 1), (5, 0), (9, 24 * (a % 12)), (7, 0), (9, 24 * (a / 12)), (2, 1), (5, 0),
    (16, 0), (48, 0), (8, 0xFF), (1, 0), (7, 0), (9, 0), (7, 0), (9, 0), (39, 0),
    (5, g), (3, tag), (24, seq.toNat), (32, epoch.toNat), (32, off)])

def State.collPkt (s : State) (n g dst type tag sel : Nat) (seq : W32) (off : Nat) (data : List Piece) : TorPkt :=
  {
    dst := dst, src := s.me, key := (s.pt n).key, gen := 0, ch := 3, mcast := false, group := 0, sel := sel, hops := 0,
    head := s.collHead ((s.tor.dimPort s.me dst sel).getD 0) type (4 * data.length) sel (s.pt n).key g tag seq (s.grp n g).epoch off, data := data, from' := some n }

/-- The head of a group control message (14 T14.9). -/
def ctlHead (kind g : Nat) (epoch seq : W32) (origin : Nat) (sign : W64) : List Byte :=
  [BitVec.ofNat 8 kind, BitVec.ofNat 8 g, 0, 0] ++ leBytes 4 epoch.toNat ++ leBytes 4 seq.toNat ++ leBytes 4 origin ++ leBytes 8 sign.toNat ++
    List.replicate 40 0

def State.ctlPkt (s : State) (n g kind dst : Nat) (seq : W32) (origin : Nat) (sign : W64) : TorPkt :=
  {
    dst := dst, src := s.me, key := (s.pt n).key, gen := 0, ch := 4, mcast := false, group := 0, sel := 0, hops := 0,
    head := ctlHead kind g (s.grp n g).epoch seq origin sign, data := [], from' := some n }

/-- A control message along tree 0; one that may not be sent is lost. -/
def State.sendCtl (s : State) (n g kind dst : Nat) (seq : W32) (sign : W64) : State :=
  let x := s.grp n g
  (s.torVia (s.ctlPkt n g kind dst seq 0 sign) (x.portTo s.tor (x.centre s.me) 0 s.me dst)).getD s

/-- The children and the parent of this module in tree 0. -/
def State.kids (s : State) (g : Group) : List Nat := g.children s.tor (g.centre s.me) 0 (s.alive g) s.me
def State.up (s : State) (g : Group) : Option Nat := g.parent s.tor (g.centre s.me) 0 (s.alive g) s.me

/-! ### Squalls (14 R460-R462) -/

/-- A granule with undefined bytes (14 R462; log 4). -/
def freeGranule (k : Nat) : Piece :=
  let d := (List.range 32).flatMap (fun i => leBytes 8 (Config.freeBits 64 (k + i)).toNat)
  freshPiece d false

/-- DST of an operation that a squall ended is undefined where it is held (14 R462). -/
def State.spoilDst (s : State) (n : Nat) (g : Group) (c : CollRun) : State :=
  let len := dstBytes c.kind c.red c.dtype c.count (g.ranks s.me)
  let count := if c.kind = 5 ∨ (c.kind = 4 ∧ (g.mods s.me).getD (c.root / g.perMod) 0 ≠ s.me) then 0 else len / 256
  if g.tile then
    (List.range g.perMod).foldl (fun u i =>
      ((List.range count).foldl (fun (v : State) k => v.sramPut (g.tileOf i) (c.dst + 256 * k) (freeGranule (v.free + 32 * k))) u).takeFree (32 * count)) s
  else
    ((List.range count).foldl (fun (v : State) k =>
      let a := c.dst + 256 * k
      match v.pte n (a / pageSize) with
      | some e =>
        (match e.ppa with
         | some p => (v.slicePut (pageTile p (a % pageSize)) (pageOff p (a % pageSize)) (freeGranule (v.free + 32 * k))).1
         | none => v)
      | none => v) s).takeFree (32 * count)

/-- SQUALL on every ACTIVE T-port of the group's axes, both indices. -/
def State.sendSquall (s : State) (n g : Nat) (seq : W32) (detail : Nat) : State :=
  let x := s.grp n g
  (List.range 12).foldl (fun (u : State) k =>
    if x.onAxis (tAxis k) ∧ u.portActive (24 + k) ∧ !(u.tp k).mismatch ∧ u.keyAt (u.pt n).key k then
      u.torEnqueue k (u.ctlPkt n g 5 (u.tor.neighbour k) seq detail 0)
    else u) s

/-- A started operation ends, if it has not ended before. -/
def State.endRunning (s : State) (i status detail : Nat) : State :=
  match s.findOp i with
  | some o => if o.st = .started then (s.closeOp o).endOp i status detail else s
  | none => s

/-- A squall ends what runs or forms in a group: the group is ABORTED, what waits ends GROUP_ABORTED, SQUALL goes on. -/
def State.squall (s : State) (n g : Nat) (seq : W32) (detail : Nat) : State :=
  let x := s.grp n g
  let gone := squallDetail 8 s.me
  let s1 := match x.run with
    | some c => (s.spoilDst n x c).endRunning c.op 1 detail
    | none => s
  let s2 := match x.formOp with
    | some i => s1.endRunning i 1 detail
    | none => s1
  let s3 := x.queue.foldl (fun (u : State) i => u.endRunning i 1 gone) s2
  let s4 := s3.sendSquall n g seq detail
  (s4.setGrp n g { x with
    state := .aborted, run := none, formOp := none, queue := [], ups := [], excl := []
    squalls := satInc x.squalls, lastDetail := BitVec.ofNat 32 detail
    lastTick := BitVec.ofNat 32 s.cad.count.toNat }).postPart n 0x0C02 (pack [(5, g), (3, 0), (24, seq.toNat), (32, detail)])

/-- A squall begins here. -/
def State.squallHere (s : State) (n g cause origin : Nat) : State :=
  let x := s.grp n g
  if x.run.isNone ∧ x.formOp.isNone then s
  else
    let seq := match x.run with
      | some c => c.seq
      | none => 0
    (s.updCol n (fun c => { c with begun := satInc c.begun })).squall n g seq (squallDetail cause origin)

/-- A collective of this member ends with a failure of its own, and a squall follows with cause LOCAL_ABORT (14 R452). -/
def State.collFail (s : State) (n g status detail : Nat) : State :=
  match (s.grp n g).run with
  | some c => (s.endRunning c.op status detail).squallHere n g 6 s.me
  | none => s

/-- Operations of groups that ended by themselves (a failed chunk, a stall, a cancel): a squall follows. -/
def State.colAborts (s : State) : State :=
  (List.range 12).foldl (fun (u : State) n => (u.groupsOf n).foldl (fun (v : State) g =>
    let x := v.grp n g
    let dead := fun (i : Nat) => match v.findOp i with
      | some o => decide (o.st ≠ .started)
      | none => true
    let v1 := v.updGrp n g (fun y => { y with queue := y.queue.filter (fun i => !dead i) })
    if (match x.run with
        | some c => dead c.op
        | none => false) || (match x.formOp with
        | some i => dead i
        | none => false) then v1.squallHere n g 6 v1.me
    else v1) u) s

/-- A T-port of a group's axes has left ACTIVE for good (14 R460). -/
def State.colPortDown (s : State) (k : Nat) : State :=
  match tfind s.portOwner (24 + k) with
  | none => s
  | some n => (s.groupsOf n).foldl (fun (u : State) g =>
      let x := u.grp n g
      if x.onAxis (tAxis k) ∧ 1 < x.len (tAxis k) then u.squallHere n g 1 (u.tor.neighbour k) else u) s

/-- Step 2 of a partition reset: SQUALL for what runs; every group that is not FREE is ABORTED (14 R443, R460). -/
def State.colReset (s : State) (n : Nat) : State :=
  (s.groupsOf n).foldl (fun (u : State) g =>
    let x := u.grp n g
    let u1 := if x.run.isNone ∧ x.formOp.isNone then u
      else
        let d := squallDetail 3 u.me
        let seq := match x.run with
          | some c => c.seq
          | none => 0
        (((u.updCol n (fun c => { c with begun := satInc c.begun })).sendSquall n g seq d).updGrp n g (fun y => { y with
          squalls := satInc y.squalls, lastDetail := BitVec.ofNat 32 d, lastTick := BitVec.ofNat 32 u.cad.count.toNat })).postPart n 0x0C02
            (pack [(5, g), (3, 0), (24, seq.toNat), (32, d)])
    u1.updGrp n g (fun y => { y with state := .aborted, run := none, formOp := none, queue := [], ups := [], excl := [] })) s

/-! ### The engine of a member (14 R452-R457) -/

/-- A granule of this member's own contribution. -/
inductive OwnOut where
  | data (p : Piece)
  | wait (k : ChunkKey) (page : Nat)
  | refused
  | bad
deriving DecidableEq, Repr

/-- Where a result granule comes from in a rank's source: offset, bytes, the rank when it is one. -/
def CollRun.source (c : CollRun) (o : Nat) : Nat × Nat × Option Nat :=
  match c.kind with
  | 2 =>
    let part := c.inBytes / 256
    (256 * (o % part), 256, some (o / part))
  | 3 => (256 * o, 256, some c.root)
  | _ =>
    let len := 256 * elemSize c.dtype / c.elemOut
    (o * len, len, none)

def State.ownGranule (s : State) (n : Nat) (g : Group) (c : CollRun) (o : Nat) : OwnOut :=
  let q := c.source o
  if g.tile then
    let f := fun i => s.sramPiece (g.tileOf i) (c.src + q.1) q.2.1
    match q.2.2 with
    | some r => let p := f (r % g.perMod)
                if p.checked then .data p else .bad
    | none =>
      if (List.range g.perMod).all (fun i => (f i).checked) then
        (match c.combineBlock g.w g.h (fun i => c.enter (f i)) with
         | some p => .data p
         | none => .refused)
      else .bad
  else
    match s.rangeRead n (c.src + q.1) q.2.1 (.op c.op) with
    | .refused => .refused
    | .wait k => .wait k ((c.src + q.1) / pageSize)
    | .data p => if p.checked then .data (c.enter p) else .bad

/-- The places of this module that receive a result granule: a tile or the range, with the granule's offset. -/
def CollRun.sinks (c : CollRun) (g : Group) (me o : Nat) : List (Option Nat × Nat) :=
  let base := g.rankOf me me * g.perMod
  let all := (List.range g.perMod).map (fun i => ((if g.tile then some (g.tileOf i) else none : Option Nat), base + i))
  match c.kind with
  | 1 =>
    let part := c.outGran (g.ranks me) / g.ranks me
    (all.filter (fun (e : Option Nat × Nat) => decide (e.2 = o / part))).map (fun (e : Option Nat × Nat) => (e.1, o % part))
  | 4 => (all.filter (fun (e : Option Nat × Nat) => decide (e.2 = c.root))).map (fun (e : Option Nat × Nat) => (e.1, o))
  | _ => all.map (fun (e : Option Nat × Nat) => (e.1, o))

/-- One result granule is written; a failure gives its status and DETAIL. -/
def State.collPut (s : State) (n g : Nat) (x : Group) (c : CollRun) (o : Nat) (p : Piece) : State × Option (Nat × Nat) :=
  (c.sinks x s.me o).foldl (fun (a : State × Option (Nat × Nat)) (e : Option Nat × Nat) =>
    match a.2 with
    | some _ => a
    | none =>
      let note := fun (u : State) => if p.st = .poisoned then u.updColl n g (fun r => { r with
          poison := some (match r.poison with
            | some d => min d e.2
            | none => e.2) }) else u
      match e.1 with
      | some t => (note (a.1.sramPut t (c.dst + 256 * e.2) p), none)
      | none =>
        match a.1.rangeWrite n (c.dst + 256 * e.2) p none with
        | .done u true => (note u, none)
        | .done u false => (u, some (5, e.2))
        | .refused => (a.1, some (2, 0))
        | .quota u => (u, some (3, 1))) (s, none)

/-- What an act comes to. -/
inductive ActOut where
  | next (s : State) (acc : List Piece)
  | block (s : State)
  | fail (s : State) (status detail : Nat)
deriving DecidableEq, Repr

/-- A piece that has come, taken out of the inbox. -/
def CollRun.take (c : CollRun) (src tag off : Nat) : Option (List Piece × CollRun) :=
  match c.inbox.find? (fun e => e.1 == src && e.2.1 == tag && e.2.2.1 == off) with
  | some e => some (e.2.2.2, { c with inbox := c.inbox.erase e })
  | none => none

/-- Own granules gathered, or what they wait for. -/
def State.ownPiece (s : State) (n : Nat) (x : Group) (c : CollRun) (off k : Nat) : OwnOut ⊕ List Piece :=
  (List.range k).foldl (fun (a : OwnOut ⊕ List Piece) i =>
    match a with
    | .inl e => .inl e
    | .inr l =>
      match s.ownGranule n x c (off + i) with
      | .data p => .inr (l ++ [p])
      | e => .inl e) (.inr [])

def State.act (s : State) (n g : Nat) (x : Group) (c : CollRun) (p : PieceRun) (a : Act) : ActOut :=
  match a with
  | .own =>
    (match s.ownPiece n x c p.off p.n with
     | .inr l =>
       let marked := if x.tile then s else (List.range p.n).foldl (fun (u : State) i => u.markRead n (c.src + (c.source (p.off + i)).1)) s
       .next (marked.dropPassed (.op c.op) none) l
     | .inl (.wait k page) => .block (s.fetchChunk n k (some page) (.op c.op) none)
     | .inl .bad => .fail s 5 p.off
     | .inl _ => .fail s 2 0)
  | .recvAdd src tag =>
    (match c.take src tag p.off with
     | some (l, d) => .next (s.updGrp n g (fun y => { y with run := some d })) ((p.acc.zip l).map (fun (e : Piece × Piece) => c.combine e.1 e.2))
     | none => .block s)
  | .recvSet src tag =>
    (match c.take src tag p.off with
     | some (l, d) => .next (s.updGrp n g (fun y => { y with run := some d })) l
     | none => .block s)
  | .send dst tag port =>
    if s.throttled n then .block s
    else if !p.acc.all Piece.checked then .fail s 5 p.off
    else
      let sel := if port < 12 then tIndex port else port - 12
      (match s.torVia (s.collPkt n g dst 0x40 tag sel c.seq p.off p.acc) port with
       | some u => .next (u.updColl n g (fun r => { r with unacked := r.unacked ++ [(dst, tag, p.off)] })) p.acc
       | none => .fail s 2 0)
  | .write =>
    let r := (List.range p.n).foldl (fun (b : State × Option (Nat × Nat)) i =>
      match b.2, p.acc[i]? with
      | none, some q => b.1.collPut n g x c (p.off + i) q
      | _, _ => b) (s, none)
    match r.2 with
    | none => .next r.1 p.acc
    | some e => .fail r.1 e.1 e.2

/-- A piece goes as far as it can. -/
def State.runPiece (n g i : Nat) : Nat → State → State
  | 0, s => s
  | k + 1, s =>
    match (s.grp n g).run with
    | none => s
    | some c =>
      match c.pieces[i]? with
      | none => s
      | some p =>
        match p.acts with
        | [] => s
        | a :: r =>
          match s.act n g (s.grp n g) c p a with
          | .next u acc => State.runPiece n g i k (u.updColl n g (fun d => { d with pieces := d.pieces.set i { p with acts := r, acc := acc } }))
          | .block u => u
          | .fail u st d => u.collFail n g st d

/-- The signature of an operation's fields (14 R453). -/
def CollRun.signature (c : CollRun) : W64 :=
  Config.signature ([BitVec.ofNat 8 c.kind, BitVec.ofNat 8 c.red, BitVec.ofNat 8 c.dtype] ++ leBytes 8 c.count ++ leBytes 4 c.root)

/-- An operation is over on this member. -/
def State.collEnd (s : State) (n g : Nat) : State :=
  match (s.grp n g).run with
  | none => s
  | some c =>
    let s1 := s.updGrp n g (fun y => { y with state := .ready, run := none, seq := y.seq + 1 })
    match c.poison with
    | some d => s1.endRunning c.op 9 d
    | none => (s1.updCol n (fun y => { y with opsOk := y.opsOk + 1 })).endRunning c.op 0 c.seq.toNat

/-- A barrier goes on (14 R455). -/
def State.barrier (s : State) (n g : Nat) (c : CollRun) : State :=
  let x := s.grp n g
  let kids := s.kids x
  if !kids.all (fun m => c.ups.contains m) then s
  else if c.down ∨ (s.up x).isNone then
    (kids.foldl (fun (u : State) m => u.sendCtl n g 4 m c.seq c.signature) s).collEnd n g
  else if c.upSent then s
  else match s.up x with
    | some p => (s.sendCtl n g 3 p c.seq c.signature).updColl n g (fun r => { r with upSent := true })
    | none => s

/-- The running operation goes as far as it can. -/
def State.collGo (s : State) (n g : Nat) : State :=
  match (s.grp n g).run with
  | none => s
  | some c =>
    if !c.launched then s
    else if c.kind = 5 then s.barrier n g c
    else
      let s1 := (List.range c.pieces.length).foldl (fun (u : State) i => State.runPiece n g i (((c.pieces[i]?).map (fun p => p.acts.length)).getD 0 + 1) u) s
      match (s1.grp n g).run with
      | some d => if d.pieces.all (fun p => p.acts.isEmpty) ∧ d.unacked.isEmpty then s1.collEnd n g else s1
      | none => s1

/-- The operation at the head of the queue begins on a READY group. -/
def State.collBegin (s : State) (n g : Nat) : State :=
  let x := s.grp n g
  match x.state, x.queue with
  | .ready, i :: r =>
    (match s.findOp i with
     | none => s.updGrp n g (fun y => { y with queue := r })
     | some o =>
       let launch := BitVec.ofNat 48 (o.le 48 6)
       let c : CollRun := {
         op := i, seq := x.started + 1, kind := o.byte 17, red := o.byte 18, dtype := o.byte 19, root := o.le 20 4, src := o.le 24 8,
         dst := o.le 32 8, count := o.le 40 8, launched := decide (launch = 0) || s.tickReached launch }
       s.setGrp n g { x with
         state := .running, queue := r, started := c.seq
         run := some { c with pieces := x.plan s.tor c (o.byte 54) } })
  | _, _ => s

/-- A group works: the running operation, then those that wait. -/
def State.collPump (n g : Nat) : Nat → State → State
  | 0, s => s
  | k + 1, s =>
    let s1 := (s.collBegin n g).collGo n g
    match (s1.grp n g).state with
    | .ready => if (s1.grp n g).queue.isEmpty then s1 else State.collPump n g k s1
    | _ => s1

def State.pumpGroup (s : State) (n g : Nat) : State := State.collPump n g ((s.grp n g).queue.length + 1) s

/-! ### COLLECTIVE (14 R447, R451) -/

/-- This module holds the root's rank. -/
def State.isRoot (s : State) (x : Group) (root : Nat) : Bool := decide ((x.mods s.me)[root / x.perMod]? = some s.me)

/-- Checks 6 to 8, the zero fields that depend on the rank first. -/
def State.collCheck (s : State) (o : Op) (x : Group) : Option (Nat × Nat) :=
  let kind := o.byte 17
  let dtype := o.byte 19
  let count := o.le 40 8
  let ranks := x.ranks s.me
  let inB := count * elemSize dtype
  let outB := count * resultSize kind (o.byte 18) dtype
  let part := if kind = 1 then outB / ranks else outB
  let total := dstBytes kind (o.byte 18) dtype count ranks
  let root := s.isRoot x (o.le 20 4)
  let reads := kind ≠ 3 ∨ root
  let writes := kind ≠ 4 ∨ root
  let src := o.le 24 8
  let dst := o.le 32 8
  if kind = 5 then none
  else if (kind = 3 ∧ !root ∧ src ≠ 0) ∨ (kind = 4 ∧ !root ∧ dst ≠ 0) then some (8, 0x149)
  else if inB % 256 ≠ 0 ∨ part % 256 ≠ 0 ∨ inB < 256 ∨ part < 256 ∨ 2 ^ 36 < inB ∨ 2 ^ 36 < part ∨ 2 ^ 40 < total ∨
      (kind = 1 ∧ count % ranks ≠ 0) ∨ ranks ≤ o.le 20 4 then some (8, 0x14A)
  else if x.tile then
    if (reads ∧ (sramSize < src + inB ∨ (List.range x.perMod).any (fun i => (s.tile (x.tileOf i)).inProgram src inB))) ∨
        (writes ∧ (sramSize < dst + total ∨ (List.range x.perMod).any (fun i => (s.tile (x.tileOf i)).inProgram dst total))) then some (8, 0x14A)
    else none
  else if (reads ∧ (2 ^ 48 < src + inB ∨ !(pagesOf src inB).all (s.mapped o.part))) ∨
      (writes ∧ (2 ^ 48 < dst + total ∨ !(pagesOf dst total).all (s.writable o.part))) then some (2, 0)
  else none

/-- A COLLECTIVE starts, or goes on. -/
def State.collective (s : State) (op kind : Nat) : State :=
  s.onOp op 0x40 (fun o =>
    let n := o.part
    let g := o.byte 16
    let x := s.grp n g
    let known := x.queue.contains op || (match x.run with
      | some c => c.op == op
      | none => false)
    if o.byte 17 ≠ kind then s
    else if known then s.pumpGroup n g
    else if !s.schRuns then s
    else match x.state with
      | .free => s.rejectOp op 8 0x148
      | .aborted => s.endOp op 1 (squallDetail 8 s.me)
      | _ =>
        match s.collCheck o x with
        | some e => s.rejectOp op e.1 e.2
        | none =>
          let launch := BitVec.ofNat 48 (o.le 48 6)
          let late := decide (launch ≠ 0) && s.tickPast launch
          let s1 := if late then s.updP n (fun p => { p with late := p.late + 1 }) else s
          (s1.updGrp n g (fun y => { y with queue := y.queue ++ [op] })).pumpGroup n g)

def execAllReduce (op : Nat) (s : State) : Host.Outcome State Fault Refusal := ok (s.collective op 0)
def execReduceScatter (op : Nat) (s : State) : Host.Outcome State Fault Refusal := ok (s.collective op 1)
def execAllGather (op : Nat) (s : State) : Host.Outcome State Fault Refusal := ok (s.collective op 2)
def execBroadcast (op : Nat) (s : State) : Host.Outcome State Fault Refusal := ok (s.collective op 3)
def execReduce (op : Nat) (s : State) : Host.Outcome State Fault Refusal := ok (s.collective op 4)
def execBarrier (op : Nat) (s : State) : Host.Outcome State Fault Refusal := ok (s.collective op 5)

/-- LAUNCH is reached: the member's engines begin (14 R453). -/
def execLaunchTick (n : Fin 12) (g : Fin 32) (s : State) : Host.Outcome State Fault Refusal :=
  ok (match (s.grp n g).run with
    | some c =>
      (match s.findOp c.op with
       | some o => if s.tickReached (BitVec.ofNat 48 (o.le 48 6)) then (s.updColl n g (fun r => { r with launched := true })).pumpGroup n g else s
       | none => s)
    | none => s)

/-- PROGRESS_MS has passed without a piece or acknowledgment from a member that has started and is waited on (14 R460). -/
def execProgressTimeout (n : Fin 12) (g : Fin 32) (src : BitVec 18) (s : State) : Host.Outcome State Fault Refusal :=
  ok (match (s.grp n g).run with
    | some c =>
      let m := src.toNat
      let waits := c.unacked.any (fun e => e.1 == m) || c.pieces.any (fun p => match p.acts with
        | .recvAdd a _ :: _ => a == m
        | .recvSet a _ :: _ => a == m
        | _ => false) || (c.kind == 5 && ((s.kids (s.grp n g)).contains m && !c.ups.contains m || (c.upSent && s.up (s.grp n g) == some m)))
      if c.launched ∧ waits then s.squallHere n g 2 m else s
    | none => s)

/-! ### Forming and re-forming (14 R445, R446, R463, R464) -/

/-- A group's members have formed: READY, told down tree 0. -/
def State.groupReady (s : State) (n g : Nat) : State :=
  let x := s.grp n g
  let again := decide (x.state = .reforming)
  let s1 := (s.kids x).foldl (fun (u : State) m => u.sendCtl n g (if again then 7 else 2) m 0 x.sign) s
  let epoch := if again then x.epoch + 1 else x.epoch
  let y := { x with
    state := .ready, formOp := none, ups := [], excl := [], epoch := epoch, started := 0, seq := 0
    members := if again then some (s.alive x) else x.members }
  let s2 := (s1.setGrp n g y).postPart n (if again then 0x0C03 else 0x0C01)
    (pack [(5, g), (27, 0), (32, epoch.toNat), (19, (y.mods s.me).length)])
  let s3 := match x.formOp with
    | some i => s2.endRunning i 0 epoch.toNat
    | none => s2
  s3.pumpGroup n g

/-- What a member sends up once its children have reported; the root's group is READY. -/
def State.formGo (s : State) (n g : Nat) : State :=
  let x := s.grp n g
  if !(s.kids x).all (fun m => x.ups.contains m) then s
  else match s.up x with
    | none => s.groupReady n g
    | some p => s.sendCtl n g (if x.state = .reforming then 6 else 1) p 0 x.sign

/-- Forming fails on this member: FREE with 0x143, or ABORTED again with 0x147; what waits ends. -/
def State.formFail (s : State) (n g : Nat) : State :=
  let x := s.grp n g
  let again := decide (x.state = .reforming)
  let s1 := if again then s else (s.kids x).foldl (fun (u : State) m => u.sendCtl n g 8 m 0 x.sign) s
  let s2 := match x.formOp with
    | some i => s1.endRunning i 8 (if again then 0x147 else 0x143)
    | none => s1
  let s3 := x.queue.foldl (fun (u : State) i =>
    if again then u.endRunning i 1 (squallDetail 8 s.me)
    else match u.findOp i with
      | some o => if o.st = .started then (u.closeOp o).rejectOp i 8 0x148 else u
      | none => u) s2
  s3.setGrp n g (if again then { x with state := .aborted, formOp := none, ups := [], excl := [], queue := [] } else {})

/-- Checks 3 to 5 of GROUP_FORM, for a group with these fields. -/
def State.formCheck (s : State) (n : Nat) (x : Group) (axesByte : Nat) : Option (Nat × Nat) :=
  let t := s.tor
  let p := s.pt n
  let shape := (List.range 3).all (fun a =>
    if x.onAxis a then
      let l := x.ge.getD a 0
      decide (1 ≤ l) && decide (l ≤ 64) && decide (t.base a ≤ x.lo a) && decide (x.lo a + l ≤ t.base a + t.ext a) &&
        decide (x.lo a ≤ t.at a) && decide (t.at a < x.lo a + l)
    else decide (x.gb.getD a 0 = 0) && decide (x.ge.getD a 0 = 0))
  let block := if x.tile then
      decide (1 ≤ x.w) && decide (1 ≤ x.h) && decide (24 * p.rx0 ≤ x.tx0) && decide (24 * p.ry0 ≤ x.ty0) &&
        decide (x.tx0 + x.w ≤ 24 * (p.rx0 + p.w)) && decide (x.ty0 + x.h ≤ 24 * (p.ry0 + p.h))
    else decide (x.tx0 = 0) && decide (x.ty0 = 0) && decide (x.w = 0) && decide (x.h = 0)
  let ports := x.ringAxes.all (fun a => (List.range 4).all (fun i =>
    decide (tfind s.portOwner (24 + 4 * a + i) = some n) && s.keyAt p.key (4 * a + i)))
  if !shape ∨ (axesByte ≠ 0 ∧ !t.idValid) then some (8, 0x142)
  else if !block then some (8, 0x100)
  else if !ports then some (2, 0)
  else none

/-- The fields of a GROUP_FORM descriptor (14 T14.2). -/
def Op.formGroup (o : Op) : Group := {
  state := .forming, axes := o.byte 18, algo := o.byte 19, gb := [o.byte 20, o.byte 21, o.byte 22], ge := [o.byte 24, o.byte 25, o.byte 26],
  tile := decide (o.byte 27 = 1), tx0 := o.le 28 2, ty0 := o.le 30 2, w := o.le 32 2, h := o.le 34 2, epoch := BitVec.ofNat 32 (o.le 36 4),
  crossover := if o.le 40 4 = 0 then 262144 else o.le 40 4, progressMs := if o.le 44 2 = 0 then 10 else o.le 44 2,
  formMs := if o.le 46 2 = 0 then 1000 else o.le 46 2, formOp := some o.id
  sign := Config.signature ((List.range 32).map (fun i => BitVec.ofNat 8 (o.byte (16 + i)))) }

/-- FORM: the group is put in FORMING; given again while it forms, the member reports again. -/
def execGroupForm (op : Nat) (s : State) : Host.Outcome State Fault Refusal :=
  ok (s.onOp op 0x41 (fun o =>
    let n := o.part
    let g := o.byte 16
    if o.byte 17 ≠ 0 then s
    else if (s.grp n g).formOp = some op then s.formGo n g
    else if !s.schRuns then s
    else if (s.grp n g).state ≠ .free then s.rejectOp op 8 0x141
    else match s.formCheck n o.formGroup (o.byte 18) with
      | some e => s.rejectOp op e.1 e.2
      | none => (s.setGrp n g o.formGroup).formGo n g))

/-- DESTROY (14 R446). -/
def execGroupDestroy (op : Nat) (s : State) : Host.Outcome State Fault Refusal :=
  ok (s.onOp op 0x41 (fun o =>
    let n := o.part
    let g := o.byte 16
    if o.byte 17 ≠ 1 ∨ !s.schRuns then s
    else
      let x := s.grp n g
      if x.state = .free then s.endOp op 0 0
      else ((s.squallHere n g 6 s.me).setGrp n g {}).endOp op 0 x.epoch.toNat))

/-- The excluded IDs of a GROUP_REFORM. -/
def Op.excluded (o : Op) : List Nat := (List.range (o.le 36 2)).map (fun i => leAt o.ext (4 * i) 4)

def execGroupReform (op : Nat) (s : State) : Host.Outcome State Fault Refusal :=
  ok (s.onOp op 0x42 (fun o =>
    let n := o.part
    let g := o.byte 28
    let x := s.grp n g
    let l := o.excluded
    if x.formOp = some op then s.formGo n g
    else if !s.schRuns then s
    else if x.state ≠ .aborted then s.rejectOp op 8 0x148
    else if o.le 32 4 ≠ x.epoch.toNat then s.rejectOp op 8 0x144
    else if l.contains s.me then s.rejectOp op 8 0x145
    else if !l.all (fun i => (x.mods s.me).contains i) ∨ l.eraseDups.length ≠ l.length then s.rejectOp op 8 0x146
    else
      let sorted := l.foldl insertNat []
      (s.setGrp n g { x with
        state := .reforming, formOp := some op, ups := [], excl := sorted
        sign := Config.signature (sorted.flatMap (fun i => leBytes 4 i)) }).formGo n g))

/-- FORM_TIMEOUT_MS passes before READY (14 R446, R464). -/
def execFormTimeout (n : Fin 12) (g : Fin 32) (s : State) : Host.Outcome State Fault Refusal :=
  ok (match (s.grp n g).state with
    | .forming => (s.squallHere n g 7 s.me).setGrp n g {}
    | .reforming => s.squallHere n g 7 s.me
    | _ => s)

/-! ### What arrives (14 R458, R459) -/

/-- A message or piece of no current group is discarded, counted, reported at most once per 1 ms. -/
def State.colDiscard (s : State) (n : Nat) : State :=
  let s1 := s.updCol n (fun c => { c with discards := satInc c.discards, discardNew := c.discardNew + 1 })
  let c := (s1.pt n).col
  if s1.reportDue c.discardAt 1000 then
    (s1.updCol n (fun y => { y with discardAt := some s1.cad.count.toNat, discardNew := 0 })).postPart n 0x0C04 c.discardNew
  else s1

def TorPkt.u (p : TorPkt) (i n : Nat) : Nat := leAt p.head i n
/-- The group and epoch a packet names. -/
def TorPkt.grp (p : TorPkt) : Nat := if p.ch = 4 then p.u 1 1 else p.u 32 1 % 32
def TorPkt.epoch (p : TorPkt) : Nat := if p.ch = 4 then p.u 4 4 else p.u 36 4
def TorPkt.kind (p : TorPkt) : Nat := if p.ch = 4 then p.u 0 1 else p.u 1 1
def TorPkt.tag (p : TorPkt) : Nat := p.u 32 1 / 32
def TorPkt.seq (p : TorPkt) : Nat := if p.ch = 4 then p.u 8 4 else p.u 33 3
def TorPkt.off (p : TorPkt) : Nat := p.u 40 4
def TorPkt.sign (p : TorPkt) : W64 := BitVec.ofNat 64 (p.u 16 8)

/-- The packet's group is FREE or of another epoch. -/
def State.staleGroup (s : State) (n : Nat) (p : TorPkt) : Bool :=
  let x := s.grp n p.grp
  decide (31 < p.grp) || decide (x.state = .free) || decide (p.epoch ≠ x.epoch.toNat)

/-- A packet of an operation that this member has not started yet waits for it (14 R453). -/
def State.early (s : State) (n : Nat) (p : TorPkt) : Bool :=
  let x := s.grp n p.grp
  let m := if p.ch = 4 then 2 ^ 32 else 2 ^ 24
  !s.staleGroup n p && decide (x.state ≠ .aborted) && decide (p.seq = (x.started.toNat + 1) % m)

/-- The first arrived packet of a kind for a partition that need not wait is handled. -/
def State.arrived (s : State) (n ch kind : Nat) (waits : Bool) (f : State → Nat → TorPkt → State) : Host.Outcome State Fault Refusal :=
  ok (match s.tor.arrived.find? (fun p => decide (p.key = (s.pt n).key) && p.ch == ch && p.kind == kind && !(waits && s.early n p)) with
    | some p =>
      let s1 := s.updTor (fun t => { t with arrived := t.arrived.erase p })
      if s1.staleGroup n p then s1.colDiscard n else f s1 p.grp p
    | none => s)

/-- The running operation has the packet's sequence number; another one is a squall with cause MISMATCH. -/
def State.withRun (s : State) (n g : Nat) (p : TorPkt) (f : CollRun → State) : State :=
  match (s.grp n g).run with
  | none => s
  | some c => if c.seq.toNat % (if p.ch = 4 then 2 ^ 32 else 2 ^ 24) = p.seq then f c else s.squallHere n g 4 p.src

def execPiece (n : Fin 12) (s : State) : Host.Outcome State Fault Refusal :=
  s.arrived n 3 0x40 true (fun u g p => u.withRun n g p (fun c =>
    let u1 := u.updColl n g (fun r => { r with inbox := r.inbox ++ [(p.src, p.tag, p.off, p.data)] })
    ((u1.torSend (u1.collPkt n g p.src 0x41 p.tag p.sel c.seq p.off [])).getD u1).pumpGroup n g))

def execPieceAck (n : Fin 12) (s : State) : Host.Outcome State Fault Refusal :=
  s.arrived n 3 0x41 true (fun u g p => u.withRun n g p (fun _ =>
    (u.updColl n g (fun r => { r with unacked := r.unacked.erase (p.src, p.tag, p.off) })).pumpGroup n g))

/-- A report of a child: of an equal signature, or the forming fails. -/
def State.formUp (s : State) (n g : Nat) (p : TorPkt) (st : GroupState) : State :=
  let x := s.grp n g
  if x.state ≠ st then s
  else if p.sign ≠ x.sign then s.formFail n g
  else if x.ups.contains p.src then s
  else (s.updGrp n g (fun y => { y with ups := y.ups ++ [p.src] })).formGo n g

def State.formDown (s : State) (n g : Nat) (p : TorPkt) (st : GroupState) : State :=
  let x := s.grp n g
  if x.state ≠ st then s else if p.sign ≠ x.sign then s.formFail n g else s.groupReady n g

def execFormUp (n : Fin 12) (s : State) : Host.Outcome State Fault Refusal := s.arrived n 4 1 false (fun u g p => u.formUp n g p .forming)
def execFormDown (n : Fin 12) (s : State) : Host.Outcome State Fault Refusal := s.arrived n 4 2 false (fun u g p => u.formDown n g p .forming)
def execFormMismatch (n : Fin 12) (s : State) : Host.Outcome State Fault Refusal :=
  s.arrived n 4 8 false (fun u g _ => if (u.grp n g).state = .forming then u.formFail n g else u)
def execReformUp (n : Fin 12) (s : State) : Host.Outcome State Fault Refusal := s.arrived n 4 6 false (fun u g p => u.formUp n g p .reforming)
def execReformDown (n : Fin 12) (s : State) : Host.Outcome State Fault Refusal := s.arrived n 4 7 false (fun u g p => u.formDown n g p .reforming)

/-- A barrier message of the running operation, with its signature. -/
def State.barrierMsg (s : State) (n g : Nat) (p : TorPkt) (f : CollRun → CollRun) : State :=
  s.withRun n g p (fun c => if p.sign ≠ c.signature then s.squallHere n g 4 p.src else (s.updColl n g f).pumpGroup n g)

def execBarrierUp (n : Fin 12) (s : State) : Host.Outcome State Fault Refusal :=
  s.arrived n 4 3 true (fun u g p => u.barrierMsg n g p (fun r => { r with ups := if r.ups.contains p.src then r.ups else r.ups ++ [p.src] }))
def execBarrierDown (n : Fin 12) (s : State) : Host.Outcome State Fault Refusal :=
  s.arrived n 4 4 true (fun u g p => u.barrierMsg n g p (fun r => { r with down := true }))

/-- A SQUALL of the current epoch, once per squall (14 R461). -/
def execSquall (n : Fin 12) (s : State) : Host.Outcome State Fault Refusal :=
  s.arrived n 4 5 false (fun u g p =>
    if (u.grp n g).state = .aborted then u
    else (u.updCol n (fun c => { c with received := satInc c.received })).squall n g (BitVec.ofNat 32 p.seq) (p.u 12 4))

end Sys2Proof.Machine
end

