-- ==== Sys2Proof/Machine/Fetch.lean ====
section
/-! DEFINITION. Chunks read, late and retried, stalls that end, drop notices and timeouts of the fabric
(09 R295, R307; 10 R325-R336; 12 R400). -/
namespace Sys2Proof.Machine

/-! ### Notices and timeouts (09 R295, R307) -/

/-- A started operation loses a packet: a collective ends by a squall with cause DATA_LOSS, a build gives up its slot. -/
def State.opLost (s : State) (o : Op) (status detail : Nat) : State :=
  if o.opcode = 0x40 then s.squallHere o.part (o.byte 16) 5 s.me
  else if o.opcode = 0x30 ∧ (s.prog o.id).phase ≠ 0 then (s.emptySlot o.part (s.prog o.id).slot).failOp o status detail
  else s.failOp o status detail

/-- A drop notice reaches the endpoint (09 R295): ACCESS at a tile, KEY_REJECT for a descriptor or a stream. -/
def execDropNotice (w : FabricWait) (s : State) : Host.Outcome State Fault Refusal :=
  ok (match w with
    | .pkt i =>
      (match s.findPkt i with
       | some p => if p.lost && p.keyDropped then s.failPkt p 8 1 else s
       | none => s)
    | .op i _ _ _ =>
      (match s.findOp i with
       | some o => if o.st = .started then (if o.opcode = 0x40 then s.collFail o.part (o.byte 16) 2 1 else s.opLost o 2 1) else s
       | none => s)
    | .inst i => s.failInst i 2 1)

/-- A timeout is counted in the tile's region and posted to the partition (09 R307): source, channel REQ, TAG. -/
def State.postTimeout (s : State) (n sx sy tag : Nat) : State :=
  s.postPart n 0x0704 (pack [(9, sx), (7, 0), (9, sy), (7, 0), (3, 0), (13, 0), (16, tag)])

/-- A response has been waited for 2 ms: a tile transfer raises CHECK, a descriptor ends CHECK_MISMATCH (09 R307). A read that waits for a
chunk is under the stall timeout instead. -/
def execFabricTimeout (w : FabricWait) (s : State) : Host.Outcome State Fault Refusal :=
  ok (match w with
    | .pkt i =>
      (match s.findPkt i with
       | some p =>
         if p.waiting then s
         else ((s.updFab (tileRegion p.t) (fun f => { f with timeouts := satInc f.timeouts })).postTimeout p.part (tileX p.t) (tileY p.t)
           (p.id % 65536)).failPkt p 0x0B (p.off / 256)
       | none => s)
    | .op i g sx sy =>
      (match s.findOp i with
       | some o => if o.st = .started then (s.postTimeout o.part sx.val sy.val (i % 65536)).opLost o 5 g else s
       | none => s)
    | .inst _ => s)

/-! ### Chunks (10 R325-R336, 12 R400) -/

/-- A T2 frame has been read through a flash link that is up (10 R326). -/
def execT2ChunkReadDone (k : ChunkKey) (opened : Option (List Byte)) (s : State) : Host.Outcome State Fault Refusal :=
  ok (match s.fetches.find? (fun f => decide (f.key = k)), s.srcObj k.src with
    | some f, some o =>
      if f.tier ≠ 2 ∨ s.bru.flashUp = 0 then s
      else
        let ix := s.t2Index o k.page k.chunk
        (s.frameArrive k (s.flash.readN (o.block * 65536 + ix.1) ix.2) ix.2 opened).colAborts
    | _, _ => s)

/-- A chunk passes its deadline: what waits for it is stalled (10 R334). -/
def State.chunkLate (s : State) (k : ChunkKey) : State :=
  match s.fetches.find? (fun f => decide (f.key = k)) with
  | none => s
  | some f =>
    if f.cause ≠ 0 then s
    else
      let s1 := (s.updFetch k (fun x => { x with cause := if x.tier = 2 then 1 else 2 })).stallSync
      if f.waiters.isEmpty then s1 else s1.stallReport f.n (if f.tier = 2 then 1 else 2)

def execChunkLate (k : ChunkKey) (s : State) : Host.Outcome State Fault Refusal := ok (s.chunkLate k)

/-- The SQ instruction that waits for a page of its ring. -/
def State.failHash (s : State) (t cause : Nat) : State :=
  match (s.tile t).sq with
  | e :: _ => (s.updT t (fun x => { x with hashStall := false })).raise t { code := 0x0A, queue := Queue.sq.code, index := e.index, addr := 0, detail := cause }
  | [] => s

/-- An access leaves the fetch it waits on; the fetch goes on (10 R336). -/
def State.leaveFetch (s : State) (w : Waiter) : State :=
  { s with fetches := s.fetches.map (fun f => { f with waiters := f.waiters.filter (fun x => x != w) }) }

/-- An access stalled without interruption for TIMEOUT_MS ends with the cause in force (10 R336). -/
def State.stallEnd (s : State) (n : Nat) (w : Waiter) : State :=
  match (s.pt n).mem.stalled.find? (fun (e : Waiter × Nat) => e.1 == w) with
  | none => s
  | some (_, c) =>
    if (s.pt n).mem.timeoutMs = 0 then s
    else
      let s1 := (s.leaveFetch w).updM n (fun m => { m with timeouts := tset m.timeouts c (satInc (tget 0 m.timeouts c)) })
      let s2 := match w with
        | .pkt i => (match s1.findPkt i with
            | some p => s1.failPkt p 0x0A c
            | none => s1)
        | .inst i => s1.failInst i 4 c
        | .hash t => s1.failHash t c
        | .op i => (match s1.findOp i with
            | some o =>
              let x := s1.prog i
              if o.opcode = 0x30 ∧ x.phase = 0 then s1.failOp o 4 c
              else if o.opcode = 0x30 then (s1.emptySlot n x.slot).failOp o 4 c
              else s1.failOp o 4 c
            | none => s1)
      (s2.stallSync).stallReport n c

def execStallTimeout (n : Fin 12) (w : Waiter) (s : State) : Host.Outcome State Fault Refusal := ok (s.stallEnd n w).colAborts

/-- A chunk without reply for 4 × T3_DEADLINE_US: CANCEL, and a new request under a new REQ_ID (12 R400). -/
def State.replyTimeout (s : State) (k : ChunkKey) : State :=
  match s.fetches.find? (fun f => decide (f.key = k)), s.srcObj k.src with
  | some f, some o =>
    match f.sent, f.port with
    | true, some p =>
      (((s.updFetch k (fun x => { x with sent := false, port := none })).protoSend p 0 0x0003 f.reqId o.server.toNat 0 [] []).sendReq k).stallSync
    | _, _ => s
  | _, _ => s

def execChunkReplyTimeout (k : ChunkKey) (s : State) : Host.Outcome State Fault Refusal := ok (s.replyTimeout k)

/-- 10 µs after a BUSY reply the chunk is requested again (12 T12.10). -/
def execChunkBusyRetry (k : ChunkKey) (s : State) : Host.Outcome State Fault Refusal :=
  ok (if s.fetches.any (fun f => decide (f.key = k) && f.busy) then
      ((s.updFetch k (fun x => { x with busy := false, sent := false, port := none })).sendReq k).stallSync
    else s)

end Sys2Proof.Machine
end

