-- ==== Sys2Proof/Machine/Weights.lean ====
section
/-! DEFINITION. Weight sets: WEIGHT_BUILD, streams from a slot, swaps, PUBLISH, relays and fetch windows (11_weights). -/
namespace Sys2Proof.Machine

/-! ### Manifests and slots (11 R355-R360) -/

/-- The BUILDING, READY, ACTIVE … slot of a partition: A is 0, B is 1. -/
def State.slotIs (s : State) (n k : Nat) (l : List SlotState) : Bool := l.contains ((s.pt n).slot k).state

/-- The slot in a state. -/
def State.slotIn (s : State) (n : Nat) (x : SlotState) : Option Nat := [0, 1].find? (fun k => ((s.pt n).slot k).state == x)

/-- A slot named A, B or IDLE by a WEIGHT_BUILD; none while IDLE names a DRAINING slot (11 R361, R362). -/
def State.buildSlot (s : State) (n k : Nat) : Option Nat :=
  if k < 2 then some k
  else match s.slotIn n .active, s.slotIn n .draining with
    | some _, some _ => none
    | some a, none => some (1 - a)
    | none, _ => some 0

/-- A segment entry of 64 bytes (11 T11.4). -/
def parseSeg (b : List Byte) : WSeg := {
  kind := leAt b 0 1, src := leAt b 1 1, pin := leAt b 2 1 % 2 = 1, share := leAt b 2 1 / 2 % 2 = 1, well := leAt b 4 1, svcRow := leAt b 5 1,
  ec := leAt b 6 2, ty0 := leAt b 8 2, ty1 := leAt b 10 2, granules := leAt b 12 4, addr := leAt b 16 8, wport := leAt b 24 1,
  red := leAt b 25 1, server := BitVec.ofNat 16 (leAt b 26 2), keyId := BitVec.ofNat 32 (leAt b 28 4), destId := BitVec.ofNat 64 (leAt b 32 8) }

/-- Check 6: an entry keeps 11 T11.4. -/
def Partition.segOk (p : Partition) (b : List Byte) : Bool :=
  let x := parseSeg b
  let rows := decide (x.ty0 ≤ x.ty1) && decide (24 * p.ry0 ≤ x.ty0) && decide (x.ty1 < 24 * (p.ry0 + p.h))
  let cols := decide (x.ec = 0xFFFF) || (decide (24 * p.rx0 ≤ x.ec) && decide (x.ec < 24 * (p.rx0 + p.w)))
  decide (leAt b 2 1 < 4) && decide (leAt b 3 1 = 0) && (List.range 24).all (fun i => byteAt b (40 + i) == 0) &&
    (match x.kind with
     | 0 => true
     | 1 =>
       rows && cols && decide (x.svcRow < 24) && decide (x.wport = 0) && decide (x.red = 0) && decide (x.server = 0) && decide (x.keyId = 0) &&
         decide (x.destId = 0) &&
         (match x.src with
          | 0 => decide (1 ≤ x.granules) && decide (x.addr % 256 = 0)
          | 1 => decide (1 ≤ x.granules) && decide (x.addr % 64 = 0)
          | 2 => decide (x.granules = 0)
          | _ => false)
     | 2 => rows && cols && decide (x.svcRow < 24) && decide (x.src = 0) && decide (x.addr = 0) && decide (x.wport < 24) && decide (x.red ≤ 2)
     | _ => false)

/-- Check 7: its well, and the W-port of a gradient, belong to the partition. -/
def State.segWell (s : State) (n : Nat) (x : WSeg) : Bool :=
  decide (x.kind = 0) ||
    (((s.pt n).regions.contains x.well ||
        (List.range 24).any (fun q => decide (tfind s.portOwner q = some n) && (decide ((homeWells q).1 = x.well) || decide ((homeWells q).2 = x.well)))) &&
      (decide (x.kind ≠ 2) || decide (tfind s.portOwner x.wport = some n)))

/-- The partition holds a right to a shared region (02 R62): 0 READ, 1 PUBLISH. -/
def State.holds (s : State) (n sh right : Nat) : Bool := s.sec.grants.any (fun g => g.shared == sh && g.grantee == n && g.right == right)

def State.pub (s : State) (i : Nat) : PubTable := tget {} s.pubs i

/-- Check 8: an entry's base is published to the partition. -/
def State.segBase (s : State) (n base : Nat) (x : WSeg) : Bool :=
  decide (x.kind ≠ 1 ∨ x.src ≠ 2) || (decide (base ≠ 0xFF) && s.holds n base 0 && (s.pub base).valid && decide (x.addr < (s.pub base).entries.length))

/-- Check 9: its bytes of the range lie in VALID pages. -/
def State.segMapped (s : State) (n : Nat) (x : WSeg) : Bool :=
  decide (x.kind ≠ 1 ∨ x.src ≠ 0) ||
    (decide (x.addr + 256 * x.granules ≤ 2 ^ 48) && (pagesOf x.addr (256 * x.granules)).all (fun p => s.mapped n p))

/-- The manifest's bytes, or what happens instead. -/
inductive ManRead where
  | got (b : List Byte)
  | failed
  | later (s : State)

/-- The manifest is read from the host or the range: the header, then as many entries as it names. -/
def State.readManifest (s : State) (o : Op) (host : Option (List Byte)) : ManRead :=
  let a := o.le 24 8
  let total := fun (b : List Byte) => let k := leAt b 8 4; if k < 1 ∨ 4096 < k then 64 else 64 + 64 * k
  if o.byte 17 = 0 then
    match host with
    | none => .failed
    | some b => if b.length < 64 ∨ b.length < total b then .later s else .got b
  else
    let bytes := fun (n : Nat) => s.gather o.part (.op o.id) (runPieces a n)
    match bytes 64 with
    | .refused => .failed
    | .wait k page => .later (s.fetchChunk o.part k (some page) (.op o.id) none)
    | .got h =>
      match bytes (total (h.flatMap (fun p => p.data))) with
      | .refused => .failed
      | .wait k page => .later (s.fetchChunk o.part k (some page) (.op o.id) none)
      | .got l => .got (l.flatMap (fun p => p.data))

/-- The 64-byte entries of a manifest. -/
def manEntries (b : List Byte) : List (List Byte) :=
  (List.range (leAt b 8 4)).map (fun i => (b.drop (64 + 64 * i)).take 64)

/-- A pending swap targets a slot. -/
def Partition.swapTarget (p : Partition) (k : Nat) : Bool :=
  match p.wgt.swap with
  | some w => decide (w.target.toNat = k)
  | none => false

/-- Checks 4 to 9 of 11 T11.8: status, DETAIL and the failing entry. -/
def State.buildCheck (s : State) (o : Op) (k : Nat) (b : List Byte) : Option (Nat × Nat × Option Nat) :=
  let n := o.part
  let p := s.pt n
  let es := manEntries b
  let base := o.byte 19
  let rest := leAt b 0 4 = 0x4E414D57 ∧ leAt b 5 3 = 0 ∧ 1 ≤ leAt b 8 4 ∧ leAt b 8 4 ≤ 4096 ∧ leAt b 12 4 = 0 ∧
    ((List.range 40).all (fun i => byteAt b (24 + i) == 0)) = true
  let first := fun (f : List Byte → Bool) => es.findIdx? (fun e => !f e)
  if !s.slotIs n k [.empty, .ready, .inactive] ∨ p.swapTarget k then some (8, 0x131, none)
  else if ¬ rest then some (8, 0x132, none)
  else if leAt b 4 1 ≠ 1 then some (7, leAt b 4 1, none)
  else match first p.segOk with
    | some i => some (8, 0x133, some i)
    | none =>
      match first (fun e => s.segWell n (parseSeg e)) with
      | some i => some (8, 0x134, some i)
      | none =>
        match first (fun e => s.segBase n base (parseSeg e)) with
        | some i => some (8, 0x135, some i)
        | none =>
          match first (fun e => s.segMapped n (parseSeg e)) with
          | some i => some (2, 0, some i)
          | none => none

/-! ### WEIGHT_BUILD (11 R361-R364) -/

/-- The map base of a partition's grant of a shared region (02 R62). -/
def State.mapBase (s : State) (n sh : Nat) : Nat :=
  ((s.sec.grants.find? (fun g => g.shared == sh && g.grantee == n)).map (fun g => g.base.toNat)).getD 0

/-- The bytes of a weight segment in its partition's range: first address and length; none for host frames. -/
def State.segRange (s : State) (n : Nat) (w : WSlot) (x : WSeg) : Option (Nat × Nat) :=
  match x.src with
  | 0 => some (x.addr, 256 * x.granules)
  | 2 =>
    let e := w.baseEntries.getD x.addr (0, 0)
    some (s.mapBase n w.base + e.1, 256 * e.2)
  | _ => none

/-- Granules of a weight segment. -/
def WSlot.length (w : WSlot) (x : WSeg) : Nat := if x.src = 2 then (w.baseEntries.getD x.addr (0, 0)).2 else x.granules

/-- Step 3: the pages of the PIN segments are made resident and pinned, until one has to wait; a page that cannot be taken ends the step. -/
def State.buildPin (o : Op) : Nat → State → State
  | 0, s => s
  | k + 1, s =>
    let x := s.prog o.id
    let w := (s.pt o.part).slot x.slot
    let stop := fun (u : State) => u.setProg o.id { x with phase := 2, seg := 0, pos := 0 }
    match w.segs[x.seg]? with
    | none => stop s
    | some g =>
      let pages := if g.kind = 1 ∧ g.src = 0 ∧ g.pin then pagesOf g.addr (256 * g.granules) else []
      match pages[x.pos]? with
      | none => State.buildPin o k (s.setProg o.id { x with seg := x.seg + 1, pos := 0 })
      | some page =>
        match s.prefetchPage o.part page o.id w.pins with
        | .skip => State.buildPin o k (s.setProg o.id { x with pos := x.pos + 1 })
        | .full u => stop u
        | .wait u => u
        | .ready u =>
          let u1 := (u.pinPage o.part page).setSlot o.part x.slot { w with pins := insertNat w.pins page }
          State.buildPin o k (u1.setProg o.id { x with pos := x.pos + 1, count := x.count + 1 })

/-- The chunk that holds byte `pos` of a segment, and the bytes from `pos` to its end; none: nothing to fetch there. -/
def State.verifyChunk (s : State) (o : Op) (w : WSlot) (g : WSeg) (pos : Nat) : Option ChunkKey × Nat :=
  match s.segRange o.part w g with
  | none => (some { src := .host (.op o.id), page := pos / chunkSize / 32, chunk := pos / chunkSize % 32 }, chunkSize)
  | some (a, _) =>
    let va := a + pos
    let page := va / pageSize
    let c := va % pageSize / chunkSize
    let k : Option ChunkKey := match s.homeOf o.part page with
      | .obj e => if e.ppa.isSome ∧ e.chunks.getLsbD c then none else some { src := .obj o.part e.ref, page := e.opage, chunk := c }
      | .backing sh p => some { src := .backing sh, page := p, chunk := c }
      | _ => none
    (k.filter (fun q => !s.chunkAbsent q), chunkSize - va % chunkSize)

/-- Step 4: every present chunk of every WEIGHT segment that is not resident is fetched and checked, and nothing new is kept. -/
def State.buildVerify (o : Op) : Nat → State → State
  | 0, s => s
  | k + 1, s =>
    let x := s.prog o.id
    let w := (s.pt o.part).slot x.slot
    match w.segs[x.seg]? with
    | none => s.setProg o.id { x with phase := 3 }
    | some g =>
      if g.kind ≠ 1 ∨ 256 * w.length g ≤ x.pos then State.buildVerify o k (s.setProg o.id { x with seg := x.seg + 1, pos := 0 })
      else
        let c := s.verifyChunk o w g x.pos
        let next := fun (u : State) => State.buildVerify o k (u.setProg o.id { x with pos := x.pos + c.2 })
        match c.1 with
        | none => next s
        | some key =>
          match s.passedFor key (.op o.id) with
          | some _ => next (s.dropPassed (.op o.id) none)
          | none => s.fetchChunk o.part key none (.op o.id) none

/-- Step 5: the slot is READY. -/
def State.buildDone (s : State) (o : Op) : State :=
  let x := s.prog o.id
  let w := (s.pt o.part).slot x.slot
  if x.phase = 3 then
    (((s.setSlot o.part x.slot { w with state := .ready }).postPart o.part 0x0901 (pack [(1, x.slot), (31, 0), (32, w.gen.toNat)])).closeOp o).endOp
      o.id 0 x.count
  else s

/-- Steps 3 to 5 as far as residency allows. -/
def State.buildRun (s : State) (o : Op) : State :=
  let w := (s.pt o.part).slot (s.prog o.id).slot
  let size := (w.segs.map (fun g => 256 * w.length g / chunkSize + 4)).foldl (· + ·) 4
  let s1 := if (s.prog o.id).phase = 1 then State.buildPin o size s else s
  let s2 := if (s1.prog o.id).phase = 2 then
      (if o.byte 18 % 2 = 1 then State.buildVerify o size s1 else s1.setProg o.id { s1.prog o.id with phase := 3 })
    else s1
  s2.buildDone o

/-- The manifest is copied into the slot (step 1). -/
def State.buildBegin (s : State) (o : Op) (k : Nat) (b : List Byte) : State :=
  let base := o.byte 19
  let w : WSlot := {
    state := .building, base := base, gen := BitVec.ofNat 32 (o.le 20 4), tag := BitVec.ofNat 64 (leAt b 16 8),
    segs := (manEntries b).map parseSeg,
    baseEntries := if base = 0xFF then [] else (s.pub base).entries.map (fun (e : Nat × Nat × Nat) => (e.1, e.2.1)) }
  let s1 := ((s.dropPassed (.op o.id) none).emptySlot o.part k).setSlot o.part k w
  (s1.setProg o.id { phase := if o.byte 18 / 2 % 2 = 1 then 2 else 1, slot := k }).buildRun o

/-- WEIGHT_BUILD (11 R361). `host`: the manifest of MSRC 0, none when its read fails. -/
def execWeightBuild (op : Nat) (host : Option (List Byte)) (s : State) : Host.Outcome State Fault Refusal :=
  ok (s.onOp op 0x30 (fun o =>
    if (tfind s.opProg op).isSome then s.buildRun o
    else if !s.schRuns then s
    else match s.buildSlot o.part (o.byte 16) with
      | none => s
      | some k =>
        let s0 := s.updP o.part (fun p => { p with wgt := { p.wgt with errValid := false } })
        match s0.readManifest o host with
        | .later u => u
        | .failed => (s0.closeOp o).rejectOp op 2 0
        | .got b =>
          match s0.buildCheck o k b with
          | some (st, d, err) =>
            let s1 := match err with
              | some i => s0.buildErr o.part i
              | none => s0
            (s1.closeOp o).rejectOp op st d
          | none => s0.buildBegin o k b))

/-- HOST_FRAME_READ_DONE (11 R356): the index entry and the frame of a chunk in host memory have been read. -/
def execHostFrameReadDone (k : ChunkKey) (len : W32) (frame : List Byte) (opened : Option (List Byte)) (s : State) :
    Host.Outcome State Fault Refusal :=
  ok (match s.fetches.find? (fun f => decide (f.key = k)) with
    | some f =>
      if f.tier ≠ 4 then s
      else if len = 0 then s.deliver k (List.replicate chunkSize 0)
      else s.frameArrive k frame len.toNat opened
    | none => s)

/-! ### STREAM (11 R365-R370, 09 R299, R300) -/

/-- STREAM, ACTION 1 of WEIGHT_SWAP. -/
def execStream (op : Nat) (s : State) : Host.Outcome State Fault Refusal :=
  ok (s.onOp op 0x31 (fun o =>
    if o.byte 16 ≠ 1 ∨ s.streamOps.any (fun x => x.op == op) then s
    else match s.slotIn o.part .active with
      | none => s.rejectOp op 8 0x136
      | some _ => { s with streamOps := s.streamOps ++ [{ op := op, part := o.part, next := o.le 20 2, stop := o.le 20 2 + o.le 22 2 }] }))

def State.updStream (s : State) (op : Nat) (f : StreamOp → StreamOp) : State :=
  { s with streamOps := s.streamOps.map (fun x => if x.op = op then f x else x) }

/-- A STREAM ends when nothing more opens and every instance it opened has closed (11 R367, R368). -/
def State.finishStream (s : State) (op : Nat) : State :=
  match s.streamOps.find? (fun x => x.op == op) with
  | none => s
  | some x =>
    if (x.halted ∨ x.stop ≤ x.next) ∧ !(s.insts.any (fun i => i.op == op && i.ended.isNone)) then
      let e := x.status.getD (0, x.gen)
      ({ s with streamOps := s.streamOps.filter (fun y => y.op != op) }).endOp op e.1.toNat e.2.toNat
    else s

/-- The routers a stream's path passes: the X segment, the column segment, the row segments (09 R299). -/
def Inst.path (x : Inst) : List Nat :=
  let sx := x.well % 12 * 24
  let xs := (List.range (max sx x.ec + 1 - min sx x.ec)).map (fun i => tileAt (min sx x.ec + i) x.row0)
  let cs := (List.range (max x.row0 x.entryRow + 1 - min x.row0 x.entryRow)).map (fun i => tileAt x.ec (min x.row0 x.entryRow + i))
  (xs ++ cs ++ x.tiles).eraseDups

/-- A router's stream route entries in use: those of the instances whose path passes it (09 R300). -/
def State.streamEntries (s : State) (t : Nat) : Nat := (s.insts.filter (fun x => x.path.contains t)).length

/-- The path and the engine have room for an instance (09 R300, 11 R354). -/
def State.roomFor (s : State) (x : Inst) : Bool :=
  x.path.all (fun t => decide (s.streamEntries t < 16)) && decide ((s.insts.filter (fun y => y.well == x.well && y.ended.isNone)).length < 8)

/-- The rectangle column nearest 24 × rx of a well's region. -/
def Partition.defaultEc (p : Partition) (well : Nat) : Nat := min (max (well % 12 * 24) (24 * p.rx0)) (24 * (p.rx0 + p.w) - 1)

/-- The instance of a segment of the ACTIVE slot. -/
def State.newInst (s : State) (x : StreamOp) (k : Nat) (g : WSeg) : Inst :=
  let p := s.pt x.part
  let w := p.slot k
  let well := if g.kind = 2 then s.portWell g.wport else g.well
  {
    id := s.nextInst, part := x.part, op := x.op, stream := x.next, gradient := decide (g.kind = 2), slot := decide (k = 1), gen := w.gen,
    granules := w.length g, seg := g, base := match s.segRange x.part w g with
      | some (a, _) => a
      | none => 0
    well := well, ec := if g.ec = 0xFFFF then p.defaultEc well else g.ec, row0 := well / 12 * 24 + g.svcRow,
    x0 := 24 * p.rx0, x1 := 24 * (p.rx0 + p.w) - 1 }

/-- GRAD_OPEN goes to the server, unless the segment's key ID names no private key (12 R401). -/
def State.openGradient (s : State) (x : Inst) : State :=
  match s.privateKey x.part x.seg.keyId.toNat with
  | none => s.failInst x.id 6 x.seg.keyId.toNat
  | some _ =>
    let packed := (s.port x.seg.wport).caps.getLsbD 0
    (({ s.updInst x.id (fun y => { y with openReq := s.nextReq, packed := packed }) with nextReq := s.nextReq + 1 }).protoSend x.seg.wport 2 0x0010
      s.nextReq x.seg.server.toNat 0 (leBytes 8 x.seg.destId.toNat ++ leBytes 4 x.gen.toNat ++ leBytes 4 x.granules ++
        [BitVec.ofNat 8 x.seg.red, if packed then 1 else 0] ++ leBytes 2 x.stream) []).gradClose x.id

/-- µs since a moment, for the hold counters. -/
def State.since (s : State) (t : Option Nat) : Nat :=
  match t with
  | some u => s.cad.count.toNat - u
  | none => 0

/-- The next stream ID of a STREAM opens, or waits (11 R366, R367, R373). -/
def State.instanceOpen (s : State) (op : Nat) : State :=
  match s.streamOps.find? (fun x => x.op == op) with
  | none => s
  | some x =>
    let now := some s.cad.count.toNat
    if x.halted ∨ x.stop ≤ x.next ∨ !s.schRuns then s
    else if (s.pt x.part).wgt.holdOpens then s.updStream op (fun y => if y.heldSince.isSome then y else { y with heldSince := now })
    else match s.slotIn x.part .active with
      | none => s
      | some k =>
        let g := ((s.pt x.part).slot k).segs.getD x.next {
          kind := 0, src := 0, pin := false, share := false, well := 0, svcRow := 0, ec := 0, ty0 := 0,
          ty1 := 0, granules := 0, addr := 0, wport := 0, red := 0, server := 0, keyId := 0, destId := 0 }
        if g.kind = 0 then
          (s.updStream op (fun y => { y with halted := true, status := if y.status.isNone then some (8, 0x137) else y.status })).finishStream op
        else if s.insts.any (fun i => i.part == x.part && i.stream == x.next && i.ended.isNone) then s
        else
          let i := s.newInst x k g
          if !s.roomFor i then s.updStream op (fun y => if y.waitSince.isSome then y else { y with waitSince := now })
          else
            let s1 := (({ s with insts := s.insts ++ [i], nextInst := s.nextInst + 1 }).updStream op (fun y => { y with
                next := y.next + 1, gen := i.gen, waitSince := none, heldSince := none })).updP x.part (fun p => { p with wgt := { p.wgt with
                engineUs := p.wgt.engineUs + BitVec.ofNat 32 (s.since x.waitSince)
                swapHoldNs := p.wgt.swapHoldNs + BitVec.ofNat 32 (1000 * s.since x.heldSince) } })
            if i.gradient then s1.openGradient i else s1

def execStreamInstanceOpen (op : Nat) (s : State) : Host.Outcome State Fault Refusal := ok (s.instanceOpen op)

/-- A DRAINING slot with no instance open becomes INACTIVE, and its SWAP ends (11 R359, R373). -/
def State.drainCheck (s : State) (n : Nat) : State :=
  match s.slotIn n .draining with
  | none => s
  | some k =>
    if s.insts.any (fun i => i.part == n && i.slot == decide (k = 1) && i.ended.isNone) then s
    else
      let s1 := (s.setSlot n k { (s.pt n).slot k with state := .inactive }).postPart n 0x0903 k
      match s1.ops.find? (fun o => decide (o.part = n) && decide (o.opcode = 0x31) && decide (o.byte 16 = 0) && decide (o.st = .started) &&
          decide ((s1.prog o.id).phase = 1)) with
      | some o =>
        let g := match s1.slotIn n .active with
          | some a => ((s1.pt n).slot a).gen.toNat
          | none => 0
        (s1.closeOp o).endOp o.id 0 g
      | none => s1

/-- An instance closes after its last granule, or aborts (11 R368, R370). -/
def State.instanceClose (s : State) (i : Nat) : State :=
  match s.findInst i with
  | none => s
  | some x =>
    let overs := match x.failed with
      | some e => some e
      | none => if x.gradient then (if x.done then some (0, x.gen) else none) else if x.sent = x.granules then some (0, x.gen) else none
    match x.ended, overs with
    | none, some e =>
      let s1 := s.updInst i (fun y => { y with ended := some e })
      let s2 := if e.1 = 0 then s1
        else (s1.updP x.part (fun p => { p with wgt := { p.wgt with aborts := satInc p.wgt.aborts, lastStatus := e.1 } })).updStream x.op (fun y =>
          if y.status.isNone then { y with status := some e, halted := true } else { y with halted := true })
      let s3 := if x.gradient then s2.gradEnd i else s2
      (s3.finishStream x.op).drainCheck x.part
    | _, _ => s

def execStreamInstanceClose (inst : Nat) (s : State) : Host.Outcome State Fault Refusal := ok (s.instanceClose inst)

/-! ### Swapping (11 R371-R374) -/

/-- SWAP, ACTION 0 of WEIGHT_SWAP. -/
def execWeightSwap (op : Nat) (s : State) : Host.Outcome State Fault Refusal :=
  ok (s.onOp op 0x31 (fun o =>
    let n := o.part
    let p := s.pt n
    if o.byte 16 ≠ 0 ∨ (tfind s.opProg op).isSome then s
    else
      let k := if o.byte 17 < 2 then o.byte 17 else match s.slotIn n .active with
        | some a => 1 - a
        | none => 0
      let tick := BitVec.ofNat 48 (o.le 24 6)
      let late := decide (o.byte 18 = 1) && s.tickPast tick
      let invalid := match o.byte 18 with
        | 0 => !p.wgt.batchEn
        | 1 => late
        | _ => (s.slotIn n .active).isSome || (s.slotIn n .draining).isSome
      if !s.slotIs n k [.ready, .inactive] then s.rejectOp op 8 0x138
      else if invalid then (if late then s.updP n (fun q => { q with late := q.late + 1 }) else s).rejectOp op 8 0x139
      else if p.wgt.swap.isSome then s.rejectOp op 8 0x13A
      else
        let w : Swap := { op := op, target := decide (k = 1), when' := o.byte 18, tick := tick, fired := decide (o.byte 18 = 2) }
        (s.setProg op {}).updP n (fun q => { q with wgt := { q.wgt with swap := some w, holdOpens := q.wgt.holdOpens || decide (o.byte 18 = 2) } })))

/-- The swap point of a partition: the boundary that fired, the edge of the tick, or the start (11 R373). -/
def State.swapPoint (s : State) (n : Nat) : State :=
  match (s.pt n).wgt.swap with
  | none => s
  | some w =>
    if !(if w.when' = 1 then s.tickReached w.tick else w.fired) then s
    else
      let k := w.target.toNat
      let old := s.slotIn n .active
      let s1 := match old with
        | some a => s.setSlot n a { (s.pt n).slot a with state := .draining }
        | none => s
      let t := (s1.pt n).slot k
      let s2 := ((s1.setSlot n k { t with state := .active }).updP n (fun p => { p with
          wgt := { p.wgt with swap := none, holdOpens := false, swaps := p.wgt.swaps + 1 } })).postPart n 0x0902
        (pack [(1, k), (1, s.cad.inSpec.toNat), (30, 0), (32, t.gen.toNat), (8, 0), (48, s.tick.toNat)])
      match s2.findOp w.op with
      | some o =>
        (match old with
         | some _ => (s2.setProg w.op { phase := 1 }).drainCheck n
         | none => (s2.closeOp o).endOp w.op 0 t.gen.toNat)
      | none => s2.drainCheck n

def execSwapPoint (n : Fin 12) (s : State) : Host.Outcome State Fault Refusal := ok (s.swapPoint n)

/-! ### PUBLISH (11 R375, R376) -/

/-- The SHARE segments of a slot with their offsets in the region: offset, stream ID, segment. -/
def WSlot.shared (w : WSlot) : List (Nat × Nat × WSeg) :=
  ((List.range w.segs.length).foldl (fun (a : List (Nat × Nat × WSeg) × Nat) i =>
    match w.segs[i]? with
    | some g =>
      if g.kind = 1 ∧ g.share then
        (a.1 ++ [(a.2, i, g)], a.2 + (256 * w.length g + chunkSize - 1) / chunkSize * chunkSize)
      else a
    | none => a) ([], 0)).1

/-- The end of the packed segments. -/
def WSlot.sharedEnd (w : WSlot) : Nat := (w.shared.map (fun (e : Nat × Nat × WSeg) => e.1 + 256 * w.length e.2.2)).foldl max 0

/-- Checks 2 to 5 of a PUBLISH. -/
def State.publishCheck (s : State) (o : Op) : Option (Nat × Nat) :=
  let sh := o.byte 17
  let used := (List.range 12).any (fun m => decide (m ≠ o.part) && [0, 1].any (fun k =>
    decide (((s.pt m).slot k).base = sh) && s.slotIs m k [.building, .ready, .active, .draining]))
  let pages := match tfind s.sec.shared sh with
    | some r => r.pages
    | none => 0
  if !s.holds o.part sh 1 then some (2, 0)
  else if !s.slotIs o.part (o.byte 16) [.ready, .active, .inactive] then some (8, 0x131)
  else if used then some (8, 0x13B)
  else if pages * pageSize < ((s.pt o.part).slot (o.byte 16)).sharedEnd then some (8, 0x13C)
  else none

/-- Steps 6 and 7: the table is invalid; INACTIVE slots based on the region become EMPTY. -/
def State.publishBegin (s : State) (o : Op) : State :=
  let sh := o.byte 17
  let stale := (List.range 12).flatMap (fun m => ([0, 1].filter (fun k => decide (((s.pt m).slot k).base = sh) && s.slotIs m k [.inactive])).map (fun k => (m, k)))
  stale.foldl (fun (u : State) (e : Nat × Nat) => (u.emptySlot e.1 e.2).postPart e.1 0x0905 (pack [(1, e.2), (7, 0), (6, sh)]))
    { s with pubs := tset s.pubs sh { s.pub sh with valid := false, publishing := true } }

/-- Granules of a shared page that a snapshot still has pending are copied before the write (14 R467). -/
def State.snapShared (s : State) (sh page off : Nat) : State :=
  s.snaps.foldl (fun (u : State) x =>
    ((pagesOf x.src x.len).filter (fun q => u.homeOf x.part q == .shared sh page)).foldl (fun (v : State) q => v.snapBefore x.part (q * pageSize + off)) u) s

/-- One granule of a published segment is written to the home's page. -/
def State.publishPut (s : State) (n sh a : Nat) (p : Piece) : RangeWrite :=
  let page := a / pageSize
  let off := a % pageSize
  let x := s.shPage sh page
  if x.lost then .refused
  else
    let put := fun (u : State) (q : Nat) =>
      let r := (u.snapShared sh page off).slicePut (pageTile q off) (pageOff q off) p
      RangeWrite.done (r.1.countCheck n r.2) r.2
    match x.ppa with
    | some q => put s q
    | none =>
      match s.takePage n none [] with
      | none => .quota (s.failAlloc n)
      | some (u, q) => put { (u.zeroPage q) with shPages := tset u.shPages (sharedKeyOf sh page) { ppa := some q } } q

/-- Step 9: the table is written; readers are told. -/
def State.publishDone (s : State) (o : Op) (w : WSlot) : State :=
  let sh := o.byte 17
  let x := s.prog o.id
  let l := w.shared
  let pages := (l.flatMap (fun (e : Nat × Nat × WSeg) => pagesOf e.1 (256 * w.length e.2.2))).eraseDups.length
  if x.poison.isSome then (s.closeOp o).endOp o.id 9 (x.poison.getD 0)
  else
    let t : PubTable := {
      valid := true, publishing := false, gen := BitVec.ofNat 32 (o.le 20 4), tag := BitVec.ofNat 64 (o.le 24 8),
      entries := l.map (fun (e : Nat × Nat × WSeg) => (e.1, w.length e.2.2, e.2.1)) }
    let s1 := { s.closeOp o with pubs := tset s.pubs sh t }
    let s2 := ((List.range 12).filter (fun m => s1.holds m sh 0)).foldl (fun (u : State) m =>
      u.postPart m 0x0904 (pack [(6, sh), (26, 0), (32, o.le 20 4)])) s1
    s2.endOp o.id 0 pages

/-- What a PUBLISH reads of a segment at a granule. -/
def State.publishRead (s : State) (o : Op) (w : WSlot) (g : WSeg) (pos : Nat) : RangeOut :=
  match s.segRange o.part w g with
  | some (a, _) => s.rangeRead o.part (a + pos) 256 (.op o.id)
  | none =>
    let k : ChunkKey := { src := .host (.op o.id), page := pos / chunkSize / 32, chunk := pos / chunkSize % 32 }
    match s.passedFor k (.op o.id) with
    | some d => .data (bytesPiece 0 ((d.drop (pos % chunkSize)).take 256))
    | none => .wait k

/-- Step 8: the copy goes on as far as its source is there. -/
def State.publishRun (o : Op) : Nat → State → State
  | 0, s => s
  | k + 1, s =>
    let x := s.prog o.id
    let n := o.part
    let w := (s.pt n).slot (o.byte 16)
    match w.shared[x.seg]? with
    | none => (s.publishDone o w).quotaCheck n
    | some e =>
      if 256 * w.length e.2.2 ≤ x.pos then State.publishRun o k (s.setProg o.id { x with seg := x.seg + 1, pos := 0 })
      else match s.publishRead o w e.2.2 x.pos with
        | .refused => s.failOp o 2 0
        | .wait c =>
          s.fetchChunk n c (match s.segRange n w e.2.2 with
            | some (a, _) => some ((a + x.pos) / pageSize)
            | none => none) (.op o.id) none
        | .data p =>
          let s1 := match s.segRange n w e.2.2 with
            | some (a, _) => (s.markRead n (a + x.pos)).dropPassed (.op o.id) none
            | none => s.dropPassed (.op o.id) (some { src := .host (.op o.id), page := x.pos / chunkSize / 32, chunk := x.pos / chunkSize % 32 })
          match s1.publishPut n (o.byte 17) (e.1 + x.pos) p with
          | .done u true => State.publishRun o k (u.setProg o.id { x with
              pos := x.pos + 256, count := x.count + 1, poison := if x.poison.isNone ∧ p.st = .poisoned then some x.count else x.poison })
          | .done u false => u.failOp o 5 x.count
          | .refused => s1.failOp o 2 0
          | .quota u => u.failOp o 3 1

def execPublish (op : Nat) (s : State) : Host.Outcome State Fault Refusal :=
  ok (s.onOp op 0x32 (fun o =>
    let w := (s.pt o.part).slot (o.byte 16)
    let fuel := (w.shared.map (fun (e : Nat × Nat × WSeg) => w.length e.2.2 + 1)).foldl (· + ·) 2
    if (tfind s.opProg op).isSome then State.publishRun o fuel s
    else if !s.schRuns ∨ !s.secRuns then s
    else match s.publishCheck o with
      | some e => s.rejectOp op e.1 e.2
      | none => State.publishRun o fuel ((s.publishBegin o).setProg op {})))

/-! ### Messages, relays and fetch windows (11 R377-R379) -/

/-- WGT_SLOT_CLEAR: payload partition, slot. -/
def execWgtSlotClear (m : Msg) (s : State) : Host.Outcome State Fault Refusal :=
  s.memMsg m 0x0B01 (fun t n =>
    let k := m.u8 1
    if 1 < k then t.reply m 0x0B01 2 rBadArgument []
    else if !t.slotIs n k [.empty, .ready, .inactive] then t.reply m 0x0B01 2 rBusy []
    else (t.emptySlot n k).reply m 0x0B01 2 rOK [])

/-- WGT_RELAY_SET (11 T11.14). `members`: the list read from the host, none when its read fails. -/
def execWgtRelaySet (m : Msg) (members : Option (List W32)) (s : State) : Host.Outcome State Fault Refusal :=
  s.memMsg m 0x0B02 (fun t n =>
    let h := m.u16 2
    let r : Relay := {
      sink := m.u8 1 = 1, group := m.u16 4, mcast := BitVec.ofNat 16 (m.u16 6), source := BitVec.ofNat 18 (m.u32 8),
      members := if m.u32 12 = 0 then [] else (members.getD []).take (m.u32 12), start := BitVec.ofNat 64 (m.u64 24),
      period := BitVec.ofNat 32 (m.u32 32), length := BitVec.ofNat 32 (m.u32 36) }
    let window := if m.u32 32 = 0 then m.u64 24 = 0 ∧ m.u32 36 = 0 else 1 ≤ m.u32 36 ∧ m.u32 36 ≤ m.u32 32
    let t3 := match tfind (t.pt n).mem.objs h with
      | some o => o.tier == 3
      | none => false
    if 1 < m.u8 1 ∨ !t3 ∨ 1023 < m.u16 4 ∨ 4096 < m.u32 12 ∨ 2 ^ 18 ≤ m.u32 8 ∨ ¬ window ∨ (m.u32 12 ≠ 0 ∧ members.isNone) then
      t.reply m 0x0B02 2 rBadArgument []
    else (t.updP n (fun p => { p with wgt := { p.wgt with relays := tset p.wgt.relays h r } })).reply m 0x0B02 2 rOK [])

/-- WGT_RELAY_CLEAR: fetches in flight complete; later ones go to the server. -/
def execWgtRelayClear (m : Msg) (s : State) : Host.Outcome State Fault Refusal :=
  s.memMsg m 0x0B03 (fun t n =>
    let h := m.u16 2
    if (tfind (t.pt n).wgt.relays h).isNone then t.reply m 0x0B03 2 rBadArgument []
    else (((t.updP n (fun p => { p with wgt := { p.wgt with relays := tdel p.wgt.relays h } })).sendWaiting).stallSync).reply m 0x0B03 2 rOK [])

/-- A pending fetch of a SINK object of a partition that a relayed frame answers. -/
def State.relayFetch (s : State) (n : Nat) (frame : List Byte) : Option Fetch :=
  s.fetches.find? (fun f => decide (f.n = n) && s.isSink f.key.src && decide (f.key.chunk + 32 * f.key.page = leAt frame 28 4) &&
    (match s.srcObj f.key.src with
     | some o => decide (o.loc.toNat = leAt frame 32 8)
     | none => false))

/-- A relayed frame reaches a SINK (11 R377). -/
def execRelayFrameReceive (n : Fin 12) (frame : List Byte) (opened : Option (List Byte)) (s : State) : Host.Outcome State Fault Refusal :=
  ok (match s.relayFetch n frame with
    | some f =>
      ((s.updP n (fun p => { p with wgt := { p.wgt with relayed := p.wgt.relayed + 1 } })).frameArrive f.key frame frame.length opened).colAborts
    | none => s.updP n (fun p => { p with wgt := { p.wgt with unsolicited := satInc p.wgt.unsolicited } }))

/-- The handle a chunk source names. -/
def ChunkSrc.handle : ChunkSrc → Nat
  | .obj _ h => h
  | _ => 0

/-- A SINK's chunk has not come by T3_DEADLINE_US: its own request goes out (11 R377). -/
def execRelayFallback (k : ChunkKey) (s : State) : Host.Outcome State Fault Refusal :=
  ok (match s.fetches.find? (fun f => decide (f.key = k) && f.relay) with
    | some f =>
      ((((s.updFetch k (fun x => { x with relay := false })).sendReq k).updP f.n (fun p => { p with
        wgt := { p.wgt with fallbacks := satInc p.wgt.fallbacks } })).postPart f.n 0x0906
        (pack [(12, k.src.handle), (4, 0), (32, k.page), (1, 0), (5, k.chunk)])).stallSync
    | none => s)

/-- The fetch window of a relay object opens: requests that waited for it are sent (11 R378). -/
def execFetchWindowOpen (n : Fin 12) (handle : Fin 4096) (s : State) : Host.Outcome State Fault Refusal :=
  ok (if (tfind (s.pt n).wgt.relays handle.val).isSome then (s.sendWaiting).stallSync else s)

end Sys2Proof.Machine
end

