-- ==== Sys2Proof/Machine/Ports.lean ====
section
/-! DEFINITION. The Barior ports: training, the link layer, relocation, the module's side of the weight-stream protocol
(12_barior_ports R386-R410). -/
namespace Sys2Proof.Machine

/-! ### Events and entry into DOWN (12 R386, R389, R408) -/

/-- A port event: to the privileged PF; of an assigned port also to its partition (PORT_UP, PORT_DOWN). -/
def State.portEvent (s : State) (p code data : Nat) (part : Bool) : State :=
  let s1 := s.postModule code 4 p data
  match part, tfind s.portOwner p with
  | true, some n => s1.postTo (.vf (Fin.ofNat 12 n)) (s1.mkEvent code 4 p data)
  | _, _ => s1

/-- Requests of a W-port go out on another port, or wait (12 R410). -/
def State.reissue (s : State) (p : Nat) : State :=
  (({ s with
    fetches := s.fetches.map (fun (f : Fetch) => if f.port = some p ∧ f.sent then { f with sent := false, port := none } else f) }).sendWaiting).stallSync

/-- The link forgets its replay buffer, credits and open messages. -/
def Port.clearLink (x : Port) : Port := { x with
  txSeq := 0, rxExp := 0, lastAck := 1023, nakSent := false, replay := [], replaysRow := 0, txq := [], txCredit := [], rxOpen := []
  rxUsed := x.inbox.foldl (fun r m => tset r m.ch (tget 0 r m.ch + m.msg.flits.length)) []
  width := 0, rate := 0, lastParams := none }

/-- What follows once a port no longer carries DATA. -/
def State.portLost (s : State) (p : Nat) (was : Bool) : State :=
  if !was then s
  else if p < 24 then s.reissue p
  else if p < 36 then (s.torusDown (p - 24)).colPortDown (p - 24)
  else s

/-- The port carries DATA, or will again. -/
def Port.linked (x : Port) : Bool := decide (x.phase = .active) || decide (x.phase = .retrain)

/-- A port goes DOWN. -/
def State.portDown (s : State) (p cause : Nat) : State :=
  let was := (s.port p).linked
  let s1 := s.updPort p (fun x => { x.clearLink with phase := .down, failCause := BitVec.ofNat 4 cause, downs := satInc x.downs, half := false, narrow := none })
  (s1.portLost p was).portEvent p 0x0A02 cause true

/-- A port goes DISABLED, as DOWN for its replay buffer. -/
def State.portDisable (s : State) (p : Nat) : State :=
  let was := (s.port p).linked
  (s.updPort p (fun x => { x.clearLink with phase := .disabled, half := false, narrow := none })).portLost p was

/-! ### Relocation (12 R405-R407) -/

def absentUse (s : State) (w : WellUse) : Bool := (w.use == 3 && !s.hasTwin) || (w.use == 5 && !s.hasFlash)

/-- Candidate spare wells of a home well (12 T12.12). -/
def candidates (home : Nat) : List Nat :=
  let x := home % 12
  let y := home / 12
  let r := max 1 (min 10 y)
  if x = 2 ∨ x = 3 then [4 + 12 * r, 5 + 12 * r]
  else if x = 8 ∨ x = 9 then [7 + 12 * r, 6 + 12 * r]
  else if x < 2 then [4 + 12 * y, 5 + 12 * y]
  else if 4 ≤ x ∧ x ≤ 7 then (if y = 0 then [x + 12] else [x + 120])
  else if x = 10 ∧ y < 2 then [10 + 24, 10 + 36]
  else if x = 10 ∧ 10 ≤ y then [10 + 108, 10 + 96]
  else [7 + 12 * y, 6 + 12 * y]

def Port.cur (x : Port) (q : Nat) : Nat := if q = 0 then x.cur0 else x.cur1
def homeQuarter (p q : Nat) : Nat := if q = 0 then (homeWells p).1 else (homeWells p).2

/-- A candidate may be used (12 R406). -/
def State.wellUsable (s : State) (r : Nat) : Bool :=
  let g := s.rg r
  decide (g.well.use = 0) && g.bru.wellReady && !g.bru.wellFailed &&
    !(decide (g.state = .fenced) && (g.fenceCause == 2 || g.fenceCause == 3)) && g.pwr.rails.vmif

/-- The first usable candidate of a quarter. -/
def State.candidate (s : State) (p q : Nat) : Option Nat := (candidates (homeQuarter p q)).find? s.wellUsable

/-- A quarter starts its move. -/
def State.startMove (s : State) (p q target : Nat) (msg : Option Msg) : State :=
  s.updPort p (fun x => { x with
    phase := .relocating, reloc := some { quarter := q, target := target, old := x.cur q, msg := msg, home := decide (target = homeQuarter p q) } })

/-- SCH moves a quarter to the first usable candidate; with none the port trains on its other quarter when it may (12 R406). -/
def State.moveQuarter (s : State) (p q : Nat) : State :=
  if !s.schRuns then s
  else match s.candidate p q with
    | some w => s.startMove p q w none
    | none => s.updPort p (fun x => { x with forced := if x.allowX4 then some (1 - q) else none })

/-- What a port's wells carry. -/
def useOf (p q : Nat) : WellUse :=
  if p < 24 then ⟨1, p, q⟩ else if p < 36 then ⟨2, p - 24, q⟩ else ⟨3, p - 36, q⟩

/-- The move ends: the multiplexer, both wells, PORT_RELOCATED, the reply, DETECT (12 R406). -/
def State.moveDone (s : State) (p : Nat) : State :=
  match (s.port p).phase, (s.port p).reloc with
  | .relocating, some r =>
    let s1 := s.updR r.old (fun g => { g with well := {}, wellPowered := false, pwr := { g.pwr with rails := { g.pwr.rails with vlnk := false } } })
    let s2 := s1.updR r.target (fun g => { g with well := useOf p r.quarter, wellPowered := true, pwr := { g.pwr with rails := { g.pwr.rails with vlnk := true } } })
    let s3 := s2.updPort p (fun x => { x with
      cur0 := if r.quarter = 0 then r.target else x.cur0, cur1 := if r.quarter = 0 then x.cur1 else r.target, reloc := none, forced := none
      laneFaults := 0, phase := if x.enable then .detect else .disabled })
    let s4 := { s3 with mgt := { s3.mgt with
      relocations := if r.home then tdel s3.mgt.relocations (2 * p + r.quarter) else tset s3.mgt.relocations (2 * p + r.quarter) r.target } }
    let s5 := s4.portEvent p 0x0A04 (pack [(1, r.quarter), (7, 0), (8, r.target), (8, r.old)]) false
    match r.msg with
    | some m => s5.reply m 0x0C01 2 rOK []
    | none => s5
  | _, _ => s

def execPortRelocated (p : Fin 38) (s : State) : Host.Outcome State Fault Refusal := ok (if s.schRuns then s.moveDone p else s)

/-- BPT_RELOCATE: payload port, quarter, TARGET, FORCE, a byte each (12 R407). -/
def execBptRelocate (m : Msg) (s : State) : Host.Outcome State Fault Refusal :=
  s.handle .sch 0x0C01 m (fun t =>
    let p := m.u8 0
    let q := m.u8 1
    let force := decide (m.u8 3 = 1)
    let home := homeQuarter p q
    if !t.isPriv m then t.reply m 0x0C01 2 rNotPermitted []
    else if 37 < p ∨ 1 < q ∨ 1 < m.u8 3 ∨ t.portAbsent p ∨ (m.u8 2 < 0xFE ∧ !(candidates home).contains (m.u8 2)) then
      t.reply m 0x0C01 2 rBadArgument []
    else
      let x := t.port p
      let idle := decide (x.phase = .down) || decide (x.phase = .disabled)
      let target := if m.u8 2 = 0xFE then some home else if m.u8 2 = 0xFF then t.candidate p q else some (m.u8 2)
      if (!force && !idle) || decide (x.phase = .relocating) then t.reply m 0x0C01 2 rBusy []
      else match target with
        | none => t.reply m 0x0C01 2 rNoResource []
        | some w =>
          if w = x.cur q then t.reply m 0x0C01 2 rOK []
          else if (t.rg w).well.use ≠ 0 then t.reply m 0x0C01 2 rBusy []
          else ((if idle then t else t.portDown p 0).startMove p q w (some m)))

/-- The well of a region loses VLNK: the quarter it carries goes DOWN and moves (12 R406, R410). -/
def State.wellLost (s : State) (r : Nat) : State :=
  let w := (s.rg r).well
  let p := if w.use = 1 then w.port else if w.use = 2 then 24 + w.port else 36 + w.port
  if w.use = 0 ∨ 3 < w.use then s
  else if (s.port p).phase = .disabled ∨ (s.port p).phase = .relocating then s
  else (s.portDown p 4).moveQuarter p w.quarter

/-! ### Control and training (12 R386-R389) -/

/-- A port starts to train. -/
def State.toDetect (s : State) (p : Nat) : State :=
  if s.mgt.pluggableLow.getLsbD p then s
  else s.updPort p (fun x => if x.phase = .disabled ∨ x.phase = .down then { x with phase := .detect, half := false, narrow := none } else x)

/-- An ACTIVE port enters RETRAIN; `ask`: its partner is told. -/
def State.retrain (s : State) (p cause : Nat) (ask : Bool) : State :=
  if !s.portActive p then s
  else
    let s1 := s.updPort p (fun x => { x with phase := .retrain, retrains := satInc x.retrains, retrainCause := BitVec.ofNat 4 cause, lastParams := none })
    if ask then s1.emit (.linkctl p 2 0) else s1

/-- A write of BPT.PORT[p].CTRL by the privileged PF. -/
def State.writeCtrl (s : State) (k p : Nat) (v : W64) : State :=
  if k ≠ s.sec.privLink.toNat ∨ s.portAbsent p then s
  else
    let en := v.getLsbD 0
    let s1 := s.updPort p (fun x => { x with enable := en, allowX4 := v.getLsbD 1, allowHalf := v.getLsbD 2 })
    let ph := (s1.port p).phase
    let s2 := if en then (if ph = .disabled then s1.toDetect p else s1)
      else if ph = .relocating ∨ ph = .disabled then s1 else s1.portDisable p
    if v.getLsbD 3 then s2.retrain p 0 true else s2

def execPortEnableWrite (k : Fin 4) (p : Fin 38) (value : W64) (s : State) : Host.Outcome State Fault Refusal := ok (s.writeCtrl k p value)

/-- CTRL.RETRAIN written with 1. -/
def execCtrlRetrain (k : Fin 4) (p : Fin 38) (s : State) : Host.Outcome State Fault Refusal :=
  ok (if k.val = s.sec.privLink.toNat ∧ !s.portAbsent p then s.retrain p 0 true else s)

/-- A port in a state goes on. -/
def State.inPhase (s : State) (p : Nat) (ph : PortPhase) (f : State → State) : Host.Outcome State Fault Refusal :=
  ok (if (s.port p).phase = ph then f s else s)

def execPartnerSignalDetect (p : Fin 38) (s : State) : Host.Outcome State Fault Refusal :=
  s.inPhase p .detect (fun u => u.updPort p (fun x => { x with phase := .equalize, narrow := x.forced }))

/-- 100 ms with the partner's signal on the lanes of quarter `q` alone. -/
def execNarrowDetectTimeout (p : Fin 38) (q : Fin 2) (s : State) : Host.Outcome State Fault Refusal :=
  s.inPhase p .detect (fun u => if (u.port p).allowX4 then u.updPort p (fun x => { x with phase := .equalize, narrow := some q.val }) else u)

def execNoPartnerTimeout (p : Fin 38) (s : State) : Host.Outcome State Fault Refusal :=
  s.inPhase p .detect (fun u => u.updPort p (fun x => { x with failCause := 1 }))

def execEqualizeDone (p : Fin 38) (s : State) : Host.Outcome State Fault Refusal :=
  s.inPhase p .equalize (fun u => u.updPort p (fun x => { x with phase := .align }))

/-- EQUALIZE fails: once more at half rate where permitted, then DOWN. -/
def execEqualizeTimeout (p : Fin 38) (s : State) : Host.Outcome State Fault Refusal :=
  s.inPhase p .equalize (fun u =>
    let x := u.port p
    if x.allowHalf ∧ !x.half then u.updPort p (fun y => { y with half := true }) else u.portDown p 2)

def execAlignDone (p : Fin 38) (s : State) : Host.Outcome State Fault Refusal :=
  s.inPhase p .align (fun u => (u.updPort p (fun x => { x with phase := .params, lastParams := none, laneFaults := 0 })).emit (.linkctl p 3 0))

/-- ALIGN fails: the whole port, or the lanes of one quarter alone; a quarter that fails three times in a row moves (12 R406). -/
def execAlignTimeout (p : Fin 38) (lane : Option (Fin 2)) (s : State) : Host.Outcome State Fault Refusal :=
  s.inPhase p .align (fun u =>
    match lane with
    | none => (u.portDown p 3).updPort p (fun x => { x with laneFaults := 0 })
    | some q =>
      let n := if (u.port p).laneQ = q.val then (u.port p).laneFaults + 1 else 1
      let u1 := (u.portDown p 4).updPort p (fun x => { x with laneQ := q.val, laneFaults := n })
      if 3 ≤ n then u1.moveQuarter p q.val else u1)

/-- The least credits a partner must advertise (12 T12.6). -/
def minCredits (p : Nat) : List Nat := if p < 24 then [16, 0, 16, 0, 0, 0] else [16, 16, 16, 16, 8, 4]
/-- The credits the module advertises. -/
def ownCredits (p : Nat) : List Nat := if p < 24 then [0, 512, 0, 0, 0, 0] else [64, 512, 512, 512, 32, 16]

/-- The first check of 12 R388 that a partner's body fails, as FAIL_CAUSE; 0: none. -/
def State.paramsCheck (s : State) (p : Nat) (b : List Byte) : Nat :=
  let kind := if p < 24 then 2 else if p < 36 then 3 else 4
  let credits := (List.range 6).map (fun c => leAt b (12 + 2 * c) 2)
  if leAt b 1 1 ≠ 1 then 6
  else if leAt b 3 1 ≠ kind then 5
  else if (credits.zip (minCredits p)).any (fun e => decide (e.1 < e.2)) then 8
  else if 4000 < (s.port p).loopNs.toNat then 7
  else 0

/-- Gradient frames without acknowledgment are sent again, the same ciphertext (12 R403). -/
def State.resendGrads (s : State) (p : Nat) : State :=
  (s.insts.filter (fun x => x.gradient && x.ended.isNone && x.failed.isNone && x.seg.wport == p)).foldl (fun (u : State) x =>
    x.frames.foldl (fun (v : State) f => v.sendGradData x f.reqId f.first (min 256 (x.granules - f.first)) f.data) u) s

/-- The port is ACTIVE with what the partner announced. -/
def State.portUp (s : State) (p : Nat) (b : List Byte) : State :=
  let x := s.port p
  let width := min (leAt b 9 1) (if x.narrow.isSome then 4 else 8)
  let rate := min (leAt b 10 1) (if x.half then 1 else 2)
  let id := leAt b 4 4
  let s1 := s.updPort p (fun y => { y with
    phase := .active, width := width, rate := BitVec.ofNat 2 rate, narrowQ := y.narrow == some 1, partnerId := BitVec.ofNat 32 id
    kind := BitVec.ofNat 3 (leAt b 3 1), pport := BitVec.ofNat 8 (leAt b 8 1), minor := BitVec.ofNat 8 (leAt b 2 1)
    caps := BitVec.ofNat 8 (leAt b 11 1 % 4), txCredit := (List.range 6).map (fun c => (c, leAt b (12 + 2 * c) 2)) })
  let s2 := s1.portEvent p 0x0A01 (pack [(4, width), (2, rate), (26, 0), (32, id)]) true
  if p < 24 then ((s2.sendWaiting).stallSync).resendGrads p
  else if p < 36 then s2.torusUp (p - 24)
  else s2

/-- A PARAMS body: the second of the same content decides (12 R387, R388). -/
def execParams (p : Fin 38) (body : List Byte) (s : State) : Host.Outcome State Fault Refusal :=
  s.inPhase p .params (fun u =>
    if (u.port p).lastParams = some body then
      (match u.paramsCheck p body with
       | 0 => u.portUp p body
       | c => u.portDown p c)
    else u.updPort p (fun x => { x with lastParams := some body }))

/-- PARAMS is not done in 10 ms: DOWN with a cause the spec does not state (log 30). -/
def execParamsTimeout (p : Fin 38) (s : State) : Host.Outcome State Fault Refusal :=
  s.inPhase p .params (fun u => (u.takeFree 1).portDown p ((Config.freeBits 4 u.free).toNat % 12))

/-- The module replays what is not acknowledged, or retrains once eight replays in a row brought nothing (12 R392, R393). -/
def State.replayFrom (s : State) (p : Nat) : State :=
  let x := s.port p
  if x.replay.isEmpty then s
  else if 8 ≤ x.replaysRow then (s.updPort p (fun y => { y with replaysRow := 0 })).retrain p 9 true
  else x.replay.foldl (fun (u : State) (e : Nat × Flit) => u.emit (.flit p e.1 e.2))
    (s.updPort p (fun y => { y with replays := y.replays + 1, replaysRow := y.replaysRow + 1 }))

/-- A retrain ends: no flit is lost, the oldest unacknowledged one goes first. `ms`: the time it took. -/
def execPortRetrained (p : Fin 38) (ms : W16) (s : State) : Host.Outcome State Fault Refusal :=
  s.inPhase p .retrain (fun u =>
    let u1 := u.updPort p (fun x => { x with phase := .active })
    ((u1.portEvent p 0x0A03 (pack [(4, (u.port p).retrainCause.toNat), (12, 0), (16, ms.toNat)]) false).replayFrom p).portPump p)

def execRetrainTimeout (p : Fin 38) (s : State) : Host.Outcome State Fault Refusal := s.inPhase p .retrain (fun u => u.portDown p 10)

/-- 1 s after DOWN; a quarter that must move moves first. -/
def execDownRetryTimer (p : Fin 38) (s : State) : Host.Outcome State Fault Refusal :=
  s.inPhase p .down (fun u =>
    let x := u.port p
    let lost := [0, 1].find? (fun q => !(u.rg (x.cur q)).wellPowered || (decide (3 ≤ x.laneFaults) && decide (x.laneQ = q)))
    match lost with
    | some q =>
      let u1 := u.moveQuarter p q
      if (u1.port p).phase = .relocating then u1 else if (u1.port p).forced = some (1 - q) then u1.toDetect p else u1
    | none => u.toDetect p)

def execPartnerReset (p : Fin 38) (s : State) : Host.Outcome State Fault Refusal := ok (if (s.port p).linked then s.portDown p 11 else s)

/-! ### The link layer (12 R390-R396) -/

/-- Acknowledged flits leave the replay buffer. -/
def Port.ackTo (x : Port) (ack : Nat) : Port :=
  match x.replay.findIdx? (fun (e : Nat × Flit) => e.1 == ack) with
  | some i => { x with replay := x.replay.drop (i + 1), replaysRow := 0, lastAck := ack }
  | none => x

/-- A gap: one NAK, then every DATA flit is discarded until the expected one (12 R392). -/
def State.gap (s : State) (p : Nat) : State :=
  if (s.port p).nakSent then s
  else (s.updPort p (fun x => { x with nakSent := true })).emit (.linkctl p 1 (s.port p).rxExp)

def WireFlit.flit (w : WireFlit) : Flit :=
  { ch := w.ch.toNat, som := w.som, eom := w.eom, poison := w.poison, key := w.key, check := w.check, data := w.data }

/-- A flit in order joins its message; a whole message goes to its engine's buffer (12 R390). -/
def Port.join (x : Port) (f : Flit) : Port :=
  let open' := tfind x.rxOpen f.ch
  let free := fun (y : Port) (n : Nat) => { y with rxUsed := tset y.rxUsed f.ch (tget 0 y.rxUsed f.ch - n), protoErr := satInc y.protoErr }
  let x1 := match f.som, open' with
    | true, some o => free x o.flits.length
    | _, _ => x
  match f.som, open' with
  | false, none => free x1 1
  | som, o =>
    let fs := (if som then [] else match o with
      | some m => m.flits
      | none => []) ++ [f]
    if 257 < fs.length then { free x1 fs.length with rxOpen := tdel x1.rxOpen f.ch }
    else if f.eom then { x1 with rxOpen := tdel x1.rxOpen f.ch, inbox := x1.inbox ++ [{ ch := f.ch, msg := { flits := fs } }] }
    else { x1 with rxOpen := tset x1.rxOpen f.ch { flits := fs } }

/-- A twin port admits pairing messages with key 0 on CTL and, while PAIRED, packets with the key of the remote partition of a BOUND
binding; what its engine takes comes as the twin's commands (18 R569). -/
def State.twinAdmits (s : State) (p ch : Nat) (key : W16) : Bool :=
  (ch == 4 && key == 0) || (tfind s.portOwner p).isSome ||
    (decide (s.ras.twin.state = .paired) && (s.part.any (fun (e : Nat × Partition) =>
      decide (e.2.mirror.bstate = .bound) && e.2.mirror.remoteKey == key)))

/-- A DATA flit in order. -/
def State.acceptFlit (s : State) (p : Nat) (w : WireFlit) : State :=
  let ch := w.ch.toNat
  let s1 := s.updPort p (fun x => { x with rxExp := (x.rxExp + 1) % 1024, nakSent := false })
  if (ownCredits p).getD ch 0 ≤ tget 0 (s1.port p).rxUsed ch then s1.updPort p (fun x => { x with protoErr := satInc x.protoErr })
  else
    let s2 := s1.updPort p (fun x => { x with flitsRx := x.flitsRx + 1, poisonRx := if w.poison then satInc x.poisonRx else x.poisonRx })
    if (if p < 36 then (tfind s2.portOwner p).isNone else !s2.twinAdmits p ch w.key) then s2.portKeyDrop p ch w.key
    else if 36 ≤ p then s2
    else s2.updPort p (fun x => { x with rxUsed := tset x.rxUsed ch (tget 0 x.rxUsed ch + 1) }.join w.flit)

/-- A DATA flit arrives at an ACTIVE port. -/
def State.receiveFlit (s : State) (p : Nat) (w : WireFlit) : State :=
  if !s.portActive p then s
  else if !w.ok ∨ 6 ≤ w.ch.toNat then (s.updPort p (fun x => { x with lcrcFail := satInc x.lcrcFail })).gap p
  else
    let s1 := s.updPort p (fun x =>
      let y := x.ackTo w.ack.toNat
      if w.crCh.toNat < 6 then { y with txCredit := tset y.txCredit w.crCh.toNat (tget 0 y.txCredit w.crCh.toNat + 4 * w.crCount.toNat) } else y)
    let body := w.data ++ List.replicate (256 - w.data.length) 0
    let s2 := if w.seq.toNat ≠ (s1.port p).rxExp then s1.gap p
      else if p < 24 ∧ w.check ≠ crc32c body then (s1.updPort p (fun x => { x with entryCheck := satInc x.entryCheck })).gap p
      else s1.acceptFlit p w
    s2.portPump p

def execDataFlitReceive (p : Fin 38) (w : WireFlit) (s : State) : Host.Outcome State Fault Refusal := ok (s.receiveFlit p w)

/-- A NAK acknowledges what came before its SEQ and asks for the rest. -/
def execNak (p : Fin 38) (seq : BitVec 10) (s : State) : Host.Outcome State Fault Refusal :=
  s.inPhase p .active (fun u => ((u.updPort p (fun x => x.ackTo ((seq.toNat + 1023) % 1024))).replayFrom p).portPump p)

/-- No progress of ACK for twice the loop delay. -/
def execReplayTimeout (p : Fin 38) (s : State) : Host.Outcome State Fault Refusal := s.inPhase p .active (fun u => u.replayFrom p)

def execRetrainReq (p : Fin 38) (s : State) : Host.Outcome State Fault Refusal := ok (s.retrain p 0 false)

/-- Codewords of the last 1 ms: corrected, uncorrectable; more than 16 of the latter retrain the port (12 R389). -/
def execCodewordBurst (p : Fin 38) (corrected : W32) (uncorr : W16) (s : State) : Host.Outcome State Fault Refusal :=
  s.inPhase p .active (fun u =>
    let u1 := u.updPort p (fun x => { x with fecCorrected := x.fecCorrected + corrected, fecUncorr := satAdd x.fecUncorr uncorr.toNat })
    if 16 < uncorr.toNat then u1.retrain p 0 true else u1)

/-- The port sends LINKCTL flits: from ALIGN on. -/
def Port.aligned (x : Port) : Bool :=
  match x.phase with
  | .align => true
  | .params => true
  | .active => true
  | .retrain => true
  | _ => false

def execEchoReq (p : Fin 38) (time : W64) (s : State) : Host.Outcome State Fault Refusal :=
  ok (if (s.port p).aligned then s.emit (.linkctl p 5 time.toNat) else s)

/-- An answer to the module's own ECHO_REQ; `ns`: the time since it was sent. -/
def execEchoRsp (p : Fin 38) (ns : W32) (s : State) : Host.Outcome State Fault Refusal :=
  ok (if (s.port p).phase = .align ∨ (s.port p).phase = .retrain then s.updPort p (fun x => { x with loopNs := ns }) else s)

/-- A TIMING flit leaves a T-port (12 R397, 04 R131). `tx`: the module's time of sending. -/
def execTimingFlitSend (k : Fin 12) (tx : W64) (s : State) : Host.Outcome State Fault Refusal :=
  let p := 24 + k.val
  let c := s.cad
  let own : W64 × Byte × BitVec 7 :=
    if c.rootActive then (c.sourceId, c.rootPriority, 0)
    else if c.sourceKind = 1 ∧ c.hops.toNat < 127 then (c.sourceId, c.sourcePriority, c.hops + 1)
    else (0, 0, 127)
  let e := tget (0, 0) c.echo k.val
  ok (if s.portActive p ∧ (s.port p).caps.getLsbD 1 ∧ c.count.toNat % 64 = 0 then
      s.emit (.timing p { sourceId := own.1, priority := own.2.1, hops := own.2.2, edge := c.count, tx := tx, echoTx := e.1, echoRx := e.2 })
    else s)

/-! ### Protocol messages from a server (12 R398-R403) -/

/-- The bytes of a message. -/
def InMsg.bytes (m : InMsg) : List Byte := m.msg.flits.flatMap (fun f => f.data)
def InMsg.poisoned (m : InMsg) : Bool := m.msg.flits.any (fun f => f.poison)

/-- A message that breaks 12 R399. -/
def protoBad (ch : Nat) (b : List Byte) : Bool :=
  let t := leAt b 0 2
  decide (b.length < 64) || decide (leAt b 2 1 ≠ 1) || decide (leAt b 4 4 ≠ b.length) || decide (ch ≠ 1) ||
    !(t == 0x0002 || t == 0x0020 || t == 0x0021) || (t == 0x0002 && decide (31 < leAt b 36 1)) || (t != 0x0002 && decide (b.length ≠ 64)) ||
    (t == 0x0002 && decide (leAt b 19 1 ≠ 0) && decide (b.length ≠ 64))

/-- SERVER_FAULT, once per 1 ms. -/
def State.serverFault (s : State) (p type : Nat) : State :=
  let s1 := s.updPort p (fun x => { x with protoErr := satInc x.protoErr, faultType := BitVec.ofNat 16 type, faultCount := x.faultCount + 1 })
  let x := s1.port p
  if s1.reportDue x.faultAt 1000 then
    (s1.updPort p (fun y => { y with faultAt := some s1.cad.count.toNat, faultCount := 0 })).portEvent p 0x0A05
      (pack [(16, type), (16, 0), (32, x.faultCount)]) false
  else s1

/-- The oldest message of a W-port: discarded when it breaks the protocol, handled when it is of this type. -/
def State.takeProto (s : State) (p type : Nat) (f : State → List Byte → Bool → State) : Host.Outcome State Fault Refusal :=
  ok (match (s.port p).inbox with
    | [] => s
    | m :: r =>
      let b := m.bytes
      let s1 := s.updPort p (fun x => { x with inbox := r, rxUsed := tset x.rxUsed m.ch (tget 0 x.rxUsed m.ch - m.msg.flits.length) })
      if protoBad m.ch b then s1.serverFault p (leAt b 0 2)
      else if leAt b 0 2 = type then f s1 b m.poisoned else s)

/-- A reply that nothing asked for. -/
def State.unasked (s : State) (p : Nat) : State := s.updPort p (fun x => { x with unsolicited := satInc x.unsolicited })

/-- A SOURCE sends a frame on to its group (11 R377). -/
def State.relayOn (s : State) (k : ChunkKey) (frame : List Byte) : State :=
  match k.src, s.relayOf k.src with
  | .obj n _, some r => if r.sink then s else s.emit (.relay n r.group r.mcast.toNat r.members frame)
  | _, _ => s

/-- CHUNK_DATA. `opened`: what decryption of the frame gives. -/
def execChunkData (p : Fin 24) (opened : Option (List Byte)) (s : State) : Host.Outcome State Fault Refusal :=
  s.takeProto p 2 (fun u b poison =>
    match u.fetches.find? (fun f => f.sent && decide (f.port = some p.val) && f.reqId == leAt b 8 8 && f.key.page == leAt b 32 4 &&
        f.key.chunk == leAt b 36 1) with
    | none => u.unasked p
    | some f =>
      let frame := b.drop 64
      match leAt b 19 1 with
      | 0 => if poison then (u.chunkFail f.key 5 0 false).colAborts else ((u.relayOn f.key frame).frameArrive f.key frame frame.length opened).colAborts
      | 1 => u.deliver f.key (List.replicate chunkSize 0)
      | 3 => (((u.updFetch f.key (fun x => { x with busy := true, sent := false, port := none, cause := if x.cause = 0 then 2 else x.cause })).sendWaiting).stallSync)
      | _ => (u.chunkFail f.key 5 0 false).colAborts)

/-- GRAD_ACK frees the held frame (12 R403). -/
def execGradAck (p : Fin 24) (s : State) : Host.Outcome State Fault Refusal :=
  s.takeProto p 0x20 (fun u b _ =>
    let req := leAt b 8 8
    match u.insts.find? (fun x => x.gradient && x.seg.wport == p.val && x.failed.isNone && x.frames.any (fun f => f.reqId == req)) with
    | none => u.unasked p
    | some x =>
      match leAt b 19 1 with
      | 0 => ((u.updInst x.id (fun y => { y with frames := y.frames.filter (fun f => f.reqId != req) })).gradFrame x.id).gradClose x.id
      | 2 => u.updInst x.id (fun y => { y with frames := y.frames.map (fun f => if f.reqId = req then { f with busy := true } else f) })
      | _ => u.gradAbort x.id 5 0)

/-- GRAD_DONE answers GRAD_CLOSE, or rejects the instance (12 R401, T12.10). -/
def execGradDone (p : Fin 24) (s : State) : Host.Outcome State Fault Refusal :=
  s.takeProto p 0x21 (fun u b _ =>
    let req := leAt b 8 8
    match u.insts.find? (fun x => x.gradient && x.seg.wport == p.val && x.failed.isNone && !x.done && x.openReq == req) with
    | none => u.unasked p
    | some x =>
      match leAt b 19 1 with
      | 0 => if x.closeSent then u.updInst x.id (fun y => { y with done := true }) else u.unasked p
      | 2 => if x.closeSent then u.updInst x.id (fun y => { y with closeBusy := true }) else u.unasked p
      | _ => u.gradAbort x.id 5 0)

/-- A wait for GRAD_ACK or GRAD_DONE has passed GRAD_ACK_MS: the tier is late, cause 2 (12 R403). -/
def execGradAckTimeout (inst : Nat) (s : State) : Host.Outcome State Fault Refusal :=
  ok (match s.findInst inst with
    | some x => if x.gradient ∧ (!x.frames.isEmpty ∨ (x.closeSent ∧ !x.done)) then s.gradAbort inst 4 2 else s
    | none => s)

/-- 10 µs after a BUSY reply the frame, or GRAD_CLOSE, goes again (12 T12.10). -/
def execGradBusyResend (inst : Nat) (s : State) : Host.Outcome State Fault Refusal :=
  ok (match s.findInst inst with
    | some x =>
      if x.failed.isSome then s
      else match x.frames.find? (fun f => f.busy) with
        | some f => (s.updInst inst (fun y => { y with frames := y.frames.map (fun g => if g.reqId = f.reqId then { g with busy := false } else g) })).sendGradData
            x f.reqId f.first (min 256 (x.granules - f.first)) f.data
        | none =>
          if x.closeBusy then (s.updInst inst (fun y => { y with closeBusy := false })).protoSend x.seg.wport 2 0x0012 x.openReq x.seg.server.toNat 0
            (leBytes 8 x.seg.destId.toNat ++ leBytes 4 x.frameCount) []
          else s
    | none => s)

/-! ### Assignment and power (02 R60, 12 R410, 13 R430, 16 R523) -/

/-- A port leaves its partition: CANCEL for every request out, its key bits cleared, its stream instances keep their engines. -/
def State.portRelease (s : State) (p : Nat) : State :=
  let s1 := { s with portOwner := tdel s.portOwner p }
  if p < 24 then
    let l := s1.fetches.filter (fun f => f.sent && decide (f.port = some p))
    (l.foldl (fun (u : State) f => match u.srcObj f.key.src with
      | some o => u.protoSend p 0 0x0003 f.reqId o.server.toNat 0 [] []
      | none => u) s1).reissue p
  else if p < 36 then s1.releaseTport (p - 24)
  else s1

/-- Every port stops (16 T16.9 step 1). -/
def State.disablePorts (s : State) : State :=
  { s with ports := s.ports.map (fun (e : Nat × Port) => (e.1, { e.2.clearLink with phase := .disabled })) }

end Sys2Proof.Machine
end

