-- ==== Sys2Proof/Machine/Snapshot.lean ====
section
/-! DEFINITION. SNAPSHOT and its point (14_collectives R466, R467). -/
namespace Sys2Proof.Machine

/-- The source and destination of a SNAPSHOT, its length. -/
def Op.snapSrc (o : Op) : Nat := o.le 24 8
def Op.snapDst (o : Op) : Nat := o.le 32 8
def Op.snapLen (o : Op) : Nat := o.le 40 8

/-- The checks at start. -/
def State.snapCheck (s : State) (o : Op) : Option (Nat × Nat) :=
  let n := o.part
  let range := decide (o.byte 22 = 1)
  let others := (s.ops.filter (fun e => e.part == n && e.opcode == 0x50 && decide (e.st = .started) && decide (e.id ≠ o.id) &&
    (tfind s.opProg e.id).isSome)).length
  if 2 ^ 48 < o.snapSrc + o.snapLen ∨ !(pagesOf o.snapSrc o.snapLen).all (s.mapped n) ∨
      (range ∧ (2 ^ 48 < o.snapDst + o.snapLen ∨ !(pagesOf o.snapDst o.snapLen).all (s.writable n))) then some (2, 0)
  else if range ∧ o.snapDst < o.snapSrc + o.snapLen ∧ o.snapSrc < o.snapDst + o.snapLen then some (8, 0x14B)
  else if s.tickPast (BitVec.ofNat 48 (o.le 16 6)) then some (8, 0x14C)
  else if 4 ≤ others then some (8, 0x14D)
  else none

/-- The copy goes on: granules in ascending order, as they stood at the point. -/
def State.snapRun (o : Op) : Nat → State → State
  | 0, s => s
  | k + 1, s =>
    match s.snaps.find? (fun x => x.op == o.id) with
    | none => s
    | some x =>
      let y := s.prog o.id
      if x.len ≤ x.pos then
        (s.closeOp o).endOp o.id (if y.poison.isSome then 9 else 0) (match y.poison with
          | some d => d
          | none => x.inSpec.toNat)
      else
        let go : State → Piece → State := fun u p =>
          let r : State × Bool :=
            if o.byte 22 = 0 then
              (match u.copyToHost o (o.snapDst + x.pos) p with
               | some v => (v, true)
               | none => (u.failOp o 5 (x.pos / 256), false))
            else match u.rangeWrite x.part (o.snapDst + x.pos) p none with
              | .done v true => (v, true)
              | .done v false => (v.failOp o 5 (x.pos / 256), false)
              | .refused => (u.failOp o 2 0, false)
              | .quota v => (v.failOp o 3 1, false)
          if r.2 then
            let v := { r.1 with snaps := r.1.snaps.map (fun (z : Snap) => if z.op = o.id then { z with
              pos := x.pos + 256, captured := z.captured.filter (fun (e : Nat × Piece) => decide (e.1 ≠ x.pos)) } else z) }
            State.snapRun o k (v.setProg o.id { y with
              poison := if y.poison.isNone ∧ p.st = .poisoned then some (x.pos / 256) else y.poison })
          else r.1
        match tfind x.captured x.pos with
        | some p => go s p
        | none =>
          match s.rangeRead x.part (x.src + x.pos) 256 (.op o.id) with
          | .data p => go ((s.markRead x.part (x.src + x.pos)).dropPassed (.op o.id) none) p
          | .refused => s.failOp o 2 0
          | .wait c => s.fetchChunk x.part c (some ((x.src + x.pos) / pageSize)) (.op o.id) none

/-- SNAPSHOT: checked and scheduled at its start; after its point, the copy goes on while a HOST destination may be written. -/
def execSnapshot (op : Nat) (s : State) : Host.Outcome State Fault Refusal :=
  ok (s.onOp op 0x50 (fun o =>
    if (tfind s.opProg op).isSome then
      (if o.byte 22 = 0 ∧ !s.canWrite (.vf (Fin.ofNat 12 o.part)) then s else (State.snapRun o (o.snapLen / 256 + 1) s).quotaCheck o.part)
    else if !s.schRuns then s
    else match s.snapCheck o with
      | some e =>
        (if e.2 = 0x14C then s.updP o.part (fun p => { p with late := p.late + 1 }) else s).rejectOp op e.1 e.2
      | none => s.setProg op {}))

/-- The snapshot point: at the edge of the tick every granule of SRC becomes pending. -/
def execSnapshotPoint (op : Nat) (s : State) : Host.Outcome State Fault Refusal :=
  ok (s.onOp op 0x50 (fun o =>
    if (tfind s.opProg op).isSome ∧ !(s.snaps.any (fun x => x.op == op)) ∧ s.tickReached (BitVec.ofNat 48 (o.le 16 6)) then
      { s with snaps := s.snaps ++ [{ op := op, part := o.part, src := o.snapSrc, len := o.snapLen, inSpec := s.cad.inSpec }] }
    else s))

end Sys2Proof.Machine
end

