-- ==== Sys2Proof/Machine/TorusFlow.lean ====
section
/-! DEFINITION. Torus packets as they arrive, go on, leave and are lost (13_torus_routing R416, R424-R435). -/
namespace Sys2Proof.Machine

/-! ### Packets as flits (13 R416, 12 R395) -/

def TorPkt.header (p : TorPkt) : List Byte :=
  leBytes 32 (pack [(18, p.dst), (2, 0), (18, p.src), (2, 0), (16, p.key.toNat), (16, p.gen.toNat), (3, p.ch), (1, p.mcast.toNat), (10, p.group),
    (1, p.sel), (9, 0), (8, p.hops), (152, 0)])

/-- The headers in one flit, then each granule in its own with its check and poison. -/
def TorPkt.toFlits (p : TorPkt) : List Flit :=
  let n := p.data.length
  { ch := p.ch, som := true, eom := decide (n = 0), poison := p.poison, key := p.key, check := 0, data := p.header ++ p.head } ::
    (List.range n).map (fun i =>
      let d := p.data.getD i { data := [], st := .local' }
      {
        ch := p.ch, som := false, eom := decide (i + 1 = n), poison := p.poison || d.st == .poisoned, key := p.key
        check := match d.st with
          | .held c => c
          | _ => crc32c d.data
        data := d.data })

/-- A message as a torus packet; none where it breaks 13 R416. -/
def torusParse (ch : Nat) (l : List Flit) : Option TorPkt :=
  match l with
  | [] => none
  | f :: r =>
    let h := leAt f.data 0 32
    let fld := fun (w lo : Nat) => h / 2 ^ lo % 2 ^ w
    if 5 < l.length ∨ f.data.length < 96 ∨ fld 2 18 ≠ 0 ∨ fld 2 38 ≠ 0 ∨ fld 9 87 ≠ 0 ∨ fld 152 104 ≠ 0 ∨ fld 3 72 ≠ ch then none
    else
      let bodies := (if 96 < f.data.length then [{ f with data := f.data.drop 96 }] else []) ++ r
      some {
        dst := fld 18 0, src := fld 18 20, key := BitVec.ofNat 16 (fld 16 40), gen := BitVec.ofNat 16 (fld 16 56), ch := ch, mcast := decide (fld 1 75 = 1)
        group := fld 10 76, sel := fld 1 86, hops := fld 8 96, head := (f.data.drop 32).take 64
        data := bodies.map (fun (b : Flit) => {
          data := b.data
          st := if f.poison || b.poison then .poisoned else if b.data.length = 256 then .held b.check else .local' })
        poison := f.poison }

/-! ### Arrival (13 R414, R426, R427, R432) -/

/-- The oldest message in a port's receive buffer leaves it; its credits return (12 R394). -/
def State.takeInbox (s : State) (p : Nat) : Option (InMsg × State) :=
  match (s.port p).inbox with
  | [] => none
  | m :: r => some (m, s.updPort p (fun x => { x with inbox := r, rxUsed := tset x.rxUsed m.ch (tget 0 x.rxUsed m.ch - m.msg.flits.length) }))

/-- GEN_DROPPED, at most once per port per 1 ms. -/
def State.genDrop (s : State) (k : Nat) (p : TorPkt) (e : TorKey) : State :=
  let newer := decide ((p.gen - e.gen).toNat < 32768)
  let s1 := s.updTp k (fun y => if newer then { y with futureGen := satInc y.futureGen } else { y with staleGen := satInc y.staleGen })
  if s1.reportDue (s1.tp k).genAt 1000 then
    (s1.updTp k (fun y => { y with genAt := some s1.cad.count.toNat })).postModule 0x0B04 4 (24 + k)
      (pack [(16, p.key.toNat), (16, p.gen.toNat), (16, e.gen.toNat), (1, newer.toNat)])
  else s1

/-- A piece of a partition's own is lost: a squall with cause DATA_LOSS (14 R460). -/
def State.pieceLost (s : State) (p : TorPkt) : State :=
  match s.keyOwner p.key with
  | some n => if p.ch = 3 ∧ (p.dst = s.me ∨ p.from' = some n) ∧ !s.staleGroup n p then
      s.squallHere n p.grp 5 (if p.dst = s.me then p.src else p.dst) else s
  | none => s

/-- A packet that ends here: collective packets and group messages wait for their command; an unlisted type is dropped (09 R283, 14 R459). -/
def State.torDeliver (s : State) (k : Nat) (p : TorPkt) : State :=
  match p.ch with
  | 3 => if p.kind = 0x40 ∨ p.kind = 0x41 then s.updTor (fun t => { t with arrived := t.arrived ++ [p] })
         else s.updFab (s.portWell (24 + k)) (fun f => { f with badType := satInc f.badType })
  | 4 =>
    (match s.keyOwner p.key with
     | some n => if 1 ≤ p.kind ∧ p.kind ≤ 8 then s.updTor (fun t => { t with arrived := t.arrived ++ [p] }) else s.colDiscard n
     | none => s)
  | _ => s

/-- An admitted packet goes on, is copied or ends here. -/
def State.torForward (s : State) (k : Nat) (p : TorPkt) : State :=
  let q := { p with axis := some (tAxis k) }
  if p.hops = 255 then s.torDrop k 1
  else if p.mcast then
    match tfind s.tor.mcast p.group with
    | none => s
    | some m =>
      let r := s.tor.replicate m p.src p.sel
      let s1 := r.1.foldl (fun (u : State) j => u.torEnqueue (u.fallPort j none) q) s
      if r.2 then s1.torDeliver k p else s1
  else match s.routeTo p.dst p.sel with
    | .here => s.torDeliver k p
    | .port j => s.torEnqueue j q
    | .unreachable => s.torDrop k 2

/-- A received torus packet is checked and admitted. -/
def State.torArrive (s : State) (k : Nat) : State :=
  match s.takeInbox (24 + k) with
  | none => s
  | some (m, s1) =>
    if (s1.tp k).mismatch ∨ !s1.tor.idValid then s1.updTp k (fun y => { y with mismatchDrop := satInc y.mismatchDrop })
    else match torusParse m.ch m.msg.flits with
      | none => s1.updPort (24 + k) (fun x => { x with protoErr := satInc x.protoErr })
      | some p =>
        if p.key = 0 ∧ p.ch = 5 then
          if s1.tor.blockEdge k ∨ p.gen ≠ 0 then s1.portKeyDrop (24 + k) p.ch p.key else s1.torForward k p
        else match s1.torKey p.key with
          | some e =>
            if !e.ports.getLsbD k then (s1.portKeyDrop (24 + k) p.ch p.key).pieceLost p
            else if e.gen ≠ p.gen then (s1.genDrop k p e).pieceLost p
            else s1.torForward k p
          | none => s1.portKeyDrop (24 + k) p.ch p.key

def execTorusPacketArrive (k : Fin 12) (s : State) : Host.Outcome State Fault Refusal := ok (s.torArrive k)

/-! ### Departure (13 R424, R426, R435) -/

/-- The packet of a channel that goes next: transit before local. -/
def TPort.next (x : TPort) (ch : Nat) : Option TorPkt :=
  let l := x.queue.filter (fun p => p.ch == ch)
  match l.find? (fun p => p.axis.isSome) with
  | some p => some p
  | none => l.head?

/-- Credits a port holds for a channel, apart from those its waiting flits take. -/
def Port.freeCredit (x : Port) (ch : Nat) : Nat := tget 0 x.txCredit ch - (x.txq.filter (fun f => f.ch == ch)).length

def State.torUnqueue (s : State) (k : Nat) (p : TorPkt) : State :=
  let s1 := s.updTp k (fun y => { y with queue := y.queue.erase p })
  match p.from' with
  | some n => s1.throttleSync n
  | none => s1

/-- Granules whose check fails leave poisoned (12 R395). -/
def TorPkt.checkOut (p : TorPkt) : TorPkt := { p with data := p.data.map (fun (d : Piece) => d.poisonIf !d.checked) }
def TorPkt.badOut (p : TorPkt) : Nat := (p.data.filter (fun (d : Piece) => !d.checked)).length

/-- A queued packet departs when the port and the bubble rule let it. -/
def State.torEgress (s : State) (k ch : Nat) : State :=
  match (s.tp k).next ch with
  | none => s
  | some p =>
    let s1 := s.torUnqueue k p
    if !s.keyAt p.key k then (s1.portKeyDrop (24 + k) p.ch p.key).pieceLost p
    else if !s.tUsable k then
      let alt := s.routeEntry p.dst
      let j := s.fallPort k (if alt / 512 % 2 = 1 ∧ !p.mcast then some (alt / 32 % 16) else none)
      if j = k then s else s1.torEnqueue j p
    else
      let need := if p.axis = some (tAxis k) then p.flits else 10
      let x := s.port (24 + k)
      if x.phase ≠ .active ∨ x.freeCredit ch < max need p.flits then s
      else
        let gen := match s.torKey p.key with
          | some e => e.gen
          | none => 0
        let q := { p.checkOut with gen := gen, hops := p.hops + 1 }
        let s2 := (s1.updPort (24 + k) (fun y => { y with
          txq := y.txq ++ q.toFlits, egressCheck := satAdd y.egressCheck p.badOut })).portPump (24 + k)
        if p.axis.isSome then s2.updTp k (fun y => { y with transit := y.transit + 1 }) else s2

def execTorusEgressSend (k : Fin 12) (ch : Fin 6) (s : State) : Host.Outcome State Fault Refusal := ok (s.torEgress k ch)

/-- A packet has waited 1 ms: `i`, its place in the queue (13 R424). -/
def execHoldLimitExpiry (k : Fin 12) (i : Nat) (s : State) : Host.Outcome State Fault Refusal :=
  ok (match (s.tp k).queue[i]? with
    | some p => ((s.torUnqueue k p).torDrop k 0).pieceLost p
    | none => s)

end Sys2Proof.Machine
end

