-- ==== Sys2Proof/Machine/Lifecycle.lean ====
section
/-! DEFINITION. What the life of a partition and of a region does to tiles, memory, weights, groups and ports
(02 R48-R53, R64, R65; 10 R323; 11 R360; 14 R443; 18 R561). -/
namespace Sys2Proof.Machine

/-! ### Step 2 of a reset -/

/-- The tiles of a list of regions that hold some state. -/
def State.tilesIn (s : State) (l : List Nat) : List Nat :=
  (s.tiles.filter (fun (e : Nat × TileSt) => l.contains (tileRegion e.1))).map (fun (e : Nat × TileSt) => e.1)

/-- A server learns that a gradient instance of a partition is aborted; every instance of the partition is gone. -/
def State.dropStreams (s : State) (n : Nat) (status : Nat) : State :=
  let mine := s.insts.filter (fun x => x.part == n)
  let s1 := mine.foldl (fun (u : State) x => if x.gradient ∧ x.ended.isNone then u.gradAbort x.id status 0 else u) s
  let aborted := (mine.filter (fun x => x.ended.isNone)).length
  let s2 := if aborted = 0 then s1
    else s1.updP n (fun p => { p with wgt := { p.wgt with aborts := satAdd p.wgt.aborts aborted, lastStatus := BitVec.ofNat 8 status } })
  { s2 with insts := s2.insts.filter (fun x => x.part != n), streamOps := s2.streamOps.filter (fun x => x.part != n) }

/-- What waits for a chunk for a partition waits no more; the fetches go on (10 T10.20). -/
def State.dropWaiters (s : State) (n : Nat) : State :=
  let keep := fun (w : Waiter) => decide (s.waiterPart w ≠ some n)
  { s with
    fetches := s.fetches.map (fun (f : Fetch) => { f with waiters := f.waiters.filter keep })
    passed := (s.passed.map (fun (p : Passed) => { p with waiters := p.waiters.filter keep })).filter (fun p => !p.waiters.isEmpty) }

/-- Tile programs halt, movers stop, streams abort, a DRAINING slot becomes INACTIVE (02 T2.4, 11 R360). -/
def State.haltTiles (s : State) (n : Nat) : State :=
  let s1 := (s.tilesIn (s.pt n).regions).foldl (fun (u : State) t => u.updT t TileSt.halt) s
  let s2 := (s1.dropWaiters n).dropStreams n 10
  let s3 := { s2 with xfers := s2.xfers.filter (fun x => !(s.pt n).regions.contains (tileRegion x.t)), pkts := s2.pkts.filter (fun p => p.part != n) }
  let s4 := match s3.slotIn n .draining with
    | some k => (s3.setSlot n k { (s3.pt n).slot k with state := .inactive }).postPart n 0x0903 k
    | none => s3
  s4.stallSync

/-- Collectives are aborted by squall, queued torus packets go. -/
def State.squallPartition (s : State) (n : Nat) : State := (s.colReset n).torFlush n

/-- The granules of a SNAPSHOT's destination in the range are undefined when it does not end OK (14 R467). -/
def State.spoilSnap (s : State) (o : Op) : State :=
  if o.opcode = 0x50 ∧ o.byte 22 = 1 ∧ (s.snaps.any (fun x => x.op == o.id)) then
    let count := o.snapLen / 256
    ((List.range count).foldl (fun (v : State) k =>
      let a := o.snapDst + 256 * k
      match v.pte o.part (a / pageSize) with
      | some e =>
        (match e.ppa with
         | some p => (v.slicePut (pageTile p (a % pageSize)) (pageOff p (a % pageSize)) (freeGranule (v.free + 32 * k))).1
         | none => v)
      | none => v) s).takeFree (32 * count)
  else s

/-- A started operation ends with PARTITION_RESET. -/
def State.resetOp (s : State) (o : Op) : State := (((s.spoilSnap o).spoilFill o).closeOp o).endOp o.id 10 0

/-! ### Step 4, scrubbing and release -/

/-- SRAM, registers and accumulators of the tiles of regions are cleared. -/
def State.clearRegions (s : State) (l : List Nat) : State :=
  { s with
    tiles := s.tiles.filter (fun (e : Nat × TileSt) => !l.contains (tileRegion e.1))
    sram := s.sram.filter (fun c => !l.contains (tileRegion (c.1 / sramSize)))
    sramG := s.sramG.filter (fun (e : Nat × GState) => !l.contains (tileRegion (e.1 / 3072))) }

def State.clearTiles (s : State) (n : Nat) : State := s.clearRegions (s.pt n).regions

/-- SRAM and Stratus of regions read 0 (02 R48, R53). -/
def State.zeroRegionMemory (s : State) (l : List Nat) : State :=
  let s1 := s.clearRegions l
  { s1 with
    slices := s1.slices.filter (fun c => !l.contains (tileRegion (c.1 / sliceSize)))
    sliceG := s1.sliceG.filter (fun (e : Nat × GState) => !l.contains (tileRegion (e.1 / 49152))) }

/-- Allocated pages of the partition lie in regions that a resize removes (02 R52). -/
def State.pagesInRegions (s : State) (n : Nat) (l : List Nat) : Bool := (s.allocatedPpas n).any (fun p => l.contains (ppaRegion p))

/-- A resize discards copies in the regions it removes (10 R323). -/
def State.discardIn (s : State) (n : Nat) (l : List Nat) : State := s.discardWhere n (fun p => l.contains (ppaRegion p))

/-- What outlives a partition nowhere: its fetches, streams, waiters and torus keys (02 R53, 13 R430). -/
def State.dropPartition (s : State) (n : Nat) : State :=
  let s1 := (((s.dropWaiters n).dropStreams n 10).torFlush n).stallSync
  { s1 with fetches := s1.fetches.filter (fun f => f.n != n), pkts := s1.pkts.filter (fun p => p.part != n) }

/-! ### Shared regions (02 R62, R64, R65) -/

/-- A weight slot of a partition refers to a shared region. -/
def State.slotsRefer (s : State) (n sh : Nat) : Bool :=
  [0, 1].any (fun k => decide (((s.pt n).slot k).state ≠ .empty) && decide (((s.pt n).slot k).base = sh))

/-- Slots that refer to a region revoked with FORCE become EMPTY. -/
def State.emptySlots (s : State) (n sh : Nat) : State :=
  [0, 1].foldl (fun (u : State) k => if ((u.pt n).slot k).state ≠ .empty ∧ ((u.pt n).slot k).base = sh then u.emptySlot n k else u) s

/-- The state of the weight slots after a reset (11 R360). -/
def State.weightsOnReset (s : State) (n : Nat) : State :=
  let s1 := [0, 1].foldl (fun (u : State) k => if ((u.pt n).slot k).state = .building then u.emptySlot n k else u) s
  s1.updP n (fun p => { p with wgt := { p.wgt with swap := none, holdOpens := false } })

/-- A shared region is destroyed: its pages are zeroed and returned, its backing and table go. -/
def State.freeShared (s : State) (sh : Nat) : State :=
  let mine := s.shPages.filter (fun (e : Nat × SharedPage) => decide (e.1 / 2 ^ 21 = sh))
  let s1 := mine.foldl (fun (u : State) (e : Nat × SharedPage) => match e.2.ppa with
    | some p => (u.zeroPage p).freeSlot p
    | none => u) s
  let s2 := { s1 with
    shPages := s1.shPages.filter (fun (e : Nat × SharedPage) => decide (e.1 / 2 ^ 21 ≠ sh)), backing := tdel s1.backing sh, pubs := tdel s1.pubs sh }
  match tfind s.sec.shared sh with
  | some r => (match r.home with
      | some n => s2.quotaCheck n
      | none => s2)
  | none => s2

/-- A grant's mapping meets valid pages or another grant's mapping. -/
def State.mappingOverlaps (s : State) (n base size : Nat) : Bool :=
  (s.pt n).mem.pagesMeet (base / pageSize) (size / pageSize) || s.grantOverlaps n (base / pageSize) (size / pageSize)

/-! ### A region is lost (10 R323, 18 R561) -/

/-- Allocated pages in a region become LOST, copies in it go. -/
def State.markLost (s : State) (r : Nat) : State :=
  let here := fun (o : Option Nat) => o.any (fun p => decide (ppaRegion p = r))
  let s1 := (List.range 12).foldl (fun (u : State) n =>
    if (u.pt n).state.isFree then u
    else
      let v := u.discardIn n [r]
      v.updM n (fun m => { m with
        pages := m.pages.map (fun (e : Nat × Pte) =>
        if here e.2.ppa then (e.1, { e.2 with lost := true, ppa := none }) else e) })) s
  let s2 := { s1 with shPages := s1.shPages.map (fun (e : Nat × SharedPage) => if here e.2.ppa then (e.1, { e.2 with ppa := none, lost := true }) else e) }
  (s2.liveParts).foldl (fun (u : State) n => u.quotaCheck n) s2

/-- Every port stops injecting (16 T16.9). -/
def State.stopPorts (s : State) : State := s.disablePorts

/-- A binding returns to UNBOUND; a standby's pages go back to the pool, zeroed (18 R577). -/
def State.freeMirror (s : State) (n : Nat) : State :=
  let l := (s.pt n).mirror.pages
  let s1 := l.foldl (fun (u : State) (e : Nat × Nat) => (u.zeroPage e.2).freeSlot e.2) (s.updP n (fun p => { p with mirror := {} }))
  if l.isEmpty then s1 else s1.quotaCheck n

/-- A binding of a partition that is destroyed is unbound, at the twin too (18 R577). -/
def State.unbindFor (s : State) (n : Nat) : State :=
  let m := (s.pt n).mirror
  match m.bstate with
  | .unbound => s
  | .failedOver => s.updP n (fun p => { p with mirror := {} })
  | .bound => (s.freeMirror n).emit (.twin 5 m.remote.toNat)
  | .binding =>
    let s1 := (s.freeMirror n).emit (.twin 5 m.remote.toNat)
    (match m.bindMsg with
     | some x => s1.reply x 0x1204 2 rNoResource []
     | none => s1)
  | .broken => s.freeMirror n

end Sys2Proof.Machine
end

