-- ==== Sys2Proof/Machine/Partitions.lean ====
section
/-! DEFINITION. Partitions, ports, shared regions, grants, keys, attestation (02_partitions_and_security). -/
namespace Sys2Proof.Machine

/-- Every region READY and in no partition (02 T2.3 check 5). -/
def State.regionsFree (s : State) (l : List Nat) : Bool :=
  l.all (fun i => decide ((s.rg i).state = .ready) && (s.rg i).partition.isNone)

/-- A key is in the private range and held by no partition (02 T2.3 check 6). -/
def State.keyFree (s : State) (k : Nat) : Bool :=
  decide (1 ≤ k) && decide (k ≤ 0xEFFF) && s.liveParts.all (fun n => (s.pt n).key.toNat != k)

/-- A sync range is valid and disjoint (02 T2.1). -/
def State.syncFree (s : State) (base count : Nat) : Bool :=
  decide (base % 256 = 0) && decide (count % 256 = 0) && decide (256 ≤ count) && decide (count ≤ 32768) &&
    decide (base + count ≤ 65536) &&
    s.liveParts.all (fun n => let p := s.pt n
      decide (base + count ≤ p.syncBase) || decide (p.syncBase + p.syncCount ≤ base))

/-- The first check of 02 T2.3 that fails, in its order. -/
def State.createRefusal (s : State) (m : Msg) : Option Nat :=
  if !s.isPriv m then some rNotPermitted
  else if 11 < m.u8 0 ∨ 3 < m.u8 5 ∨ 1 < m.u8 16 then some rBadArgument
  else if !(s.pt (m.u8 0)).state.isFree then some rBusy
  else if !rectValid (m.u8 1) (m.u8 2) (m.u8 3) (m.u8 4) then some rShapeInvalid
  else if !s.regionsFree (rectRegions (m.u8 1) (m.u8 2) (m.u8 3) (m.u8 4)) then some rShapeInvalid
  else if !s.keyFree (m.u16 6) then some rKeyInUse
  else if !s.syncFree (m.u32 8) (m.u32 12) then some rNoResource
  else none

def State.setOwners (s : State) (l : List Nat) (n : Option Nat) : State :=
  l.foldl (fun t i => t.updR i (fun r => { r with partition := n })) s

/-- Sync objects of a range set to 0 (02 R47, T2.4 step 4). -/
def State.zeroSync (s : State) (base count : Nat) : State :=
  { s with sync := s.sync.filter (fun e => decide (e.1 < base) || decide (base + count ≤ e.1)) }

/-- The partition as PART_CREATE makes it: a fresh set, an empty page table (02 R47). -/
def Msg.newPartition (m : Msg) : Partition :=
  {
    state := .active, rx0 := m.u8 1, ry0 := m.u8 2, w := m.u8 3, h := m.u8 4, hostLink := m.u8 5,
    key := BitVec.ofNat 16 (m.u16 6), syncBase := m.u32 8, syncCount := m.u32 12, powerGuaranteed := m.u8 16 == 1 }

/-- PART_CREATE (02 R46, R47). `meanwhile`: what befalls the partition while it is CONFIGURING. -/
def execPartCreate (m : Msg) (meanwhile : List CfgEvent) (s : State) : Host.Outcome State Fault Refusal :=
  s.handle .sec 0x0201 m (fun t =>
    match t.createRefusal m with
    | some r => t.reply m 0x0201 0 r []
    | none =>
      if meanwhile.any (fun e => decide (e = .regionLeft)) then t.reply m 0x0201 0 rShapeInvalid []
      else
        let n := m.u8 0
        let p := m.newPartition
        let t1 := ((t.setP n p).setOwners p.regions (some n)).zeroSync p.syncBase p.syncCount
        meanwhile.foldl (fun u e => match e with
          | .resetCause c => u.beginReset n c.toNat
          | .regionLeft => u) (t1.reply m 0x0201 0 rOK []))

/-- The regions a resize removes and adds. -/
def Partition.removed (p : Partition) (r : Resize) : List Nat :=
  p.regions.filter (fun i => !(rectRegions r.rx0 r.ry0 r.w r.h).contains i)

def Partition.added (p : Partition) (r : Resize) : List Nat :=
  (rectRegions r.rx0 r.ry0 r.w r.h).filter (fun i => !p.regions.contains i)

def Msg.resize (m : Msg) : Resize := { rx0 := m.u8 1, ry0 := m.u8 2, w := m.u8 3, h := m.u8 4 }

/-- Why a PART_RESIZE of an ACTIVE partition is refused (02 R52). -/
def State.resizeRefusal (s : State) (n : Nat) (r : Resize) : Option Nat :=
  let p := s.pt n
  if !rectValid r.rx0 r.ry0 r.w r.h then some rShapeInvalid
  else if !s.regionsFree (p.added r) then some rShapeInvalid
  else if s.pagesInRegions n (p.removed r) then some rBusy
  else none

/-- A PART_RESIZE succeeds: the reply, the added regions claimed (02 R52). -/
def State.acceptResize (s : State) (n : Nat) (m : Msg) : State :=
  let r := m.resize
  ((s.setOwners ((s.pt n).added r) (some n)).updP n (fun p => { p with resize := some r })).reply m 0x0202 0 rOK []

def execPartResize (m : Msg) (s : State) : Host.Outcome State Fault Refusal :=
  s.handle .sec 0x0202 m (fun t =>
    let n := m.u8 0
    if !t.isPriv m then t.reply m 0x0202 0 rNotPermitted []
    else if 11 < n then t.reply m 0x0202 0 rBadArgument []
    else match (t.pt n).state with
      | .resetting => t.updP n (fun p => { p with waiting := p.waiting ++ [(false, m)] })
      | .active =>
        match t.resizeRefusal n m.resize with
        | some r => t.reply m 0x0202 0 r []
        | none => (t.acceptResize n m).beginReset n 6
      | _ => t.reply m 0x0202 0 rBusy [])

/-- The partition is the home of a shared region (02 R53). -/
def State.isHome (s : State) (n : Nat) : Bool := s.sec.shared.any (fun x => x.2.home == some n)

def execPartDestroy (m : Msg) (s : State) : Host.Outcome State Fault Refusal :=
  s.handle .sec 0x0203 m (fun t =>
    let n := m.u8 0
    if !t.isPriv m then t.reply m 0x0203 0 rNotPermitted []
    else if 11 < n then t.reply m 0x0203 0 rBadArgument []
    else match (t.pt n).state with
      | .free => t.reply m 0x0203 0 rBadArgument []
      | .configuring => t.reply m 0x0203 0 rBusy []
      | .scrubbing => t.reply m 0x0203 0 rBusy []
      | .resetting =>
        if t.isHome n then t.reply m 0x0203 0 rBusy []
        else t.updP n (fun p => { p with waiting := p.waiting ++ [(true, m)] })
      | .active =>
        if t.isHome n then t.reply m 0x0203 0 rBusy []
        else (t.updP n (fun p => { p with destroy := some m })).beginReset n 6)

/-- PART_RESET (02 R49, R54, R67): a VF resets its own partition. -/
def execPartReset (m : Msg) (s : State) : Host.Outcome State Fault Refusal :=
  s.handle .sec 0x0204 m (fun t =>
    let n := match m.part with
      | some p => p
      | none => m.u8 0
    let allowed := match m.part, m.pfLink with
      | some _, _ => true
      | none, some k => t.isPriv m || (decide (n ≤ 11) && (t.pt n).hostLink == k && !(t.pt n).state.isFree)
      | none, none => false
    if !allowed then t.reply m 0x0204 0 rNotPermitted []
    else if 11 < n ∨ (t.pt n).state.isFree then t.reply m 0x0204 0 rBadArgument []
    else (t.beginReset n 1).reply m 0x0204 0 rOK [])

/-! ### The steps of a reset (02 T2.4) -/

/-- Step 3: every admitted operation completes in ring order, those not ended with PARTITION_RESET (02 T2.4, 03 R102, T3.15). -/
def State.completeAll (s : State) (n : Nat) : State :=
  (s.ops.filter (fun o => o.part == n)).foldl (fun t o =>
    let t1 := match o.st with
      | .admitted => t.rejectOp o.id 10 0
      | .started => t.resetOp o
      | _ => t
    t1.completeOp o.id) s

/-- A right is removed with the mapping no other right uses (02 R64). -/
def State.removeGrant (s : State) (sh grantee right : Nat) : State :=
  { s with sec := { s.sec with
      grants := s.sec.grants.filter (fun g =>
      !(g.shared == sh && g.grantee == grantee && g.right == right)) } }

/-- What waited for the partition to be ACTIVE takes effect (02 T2.5). -/
def State.applyHeld (s : State) (n : Nat) : State :=
  let p := s.pt n
  let s1 := { s with sec := { s.sec with
    grants := s.sec.grants ++ p.heldGrants
    privateKeys := p.heldKeys.foldl (fun (t : List (Nat × KeySlot)) (k : Nat × KeySlot) => tset t (16 * n + k.1) k.2) s.sec.privateKeys } }
  s1.updP n (fun p => { p with heldGrants := [], heldKeys := [] })

/-- The forced revokes are carried out as the reset's last act, then answered (02 R64). -/
def State.applyRevokes (s : State) (n : Nat) : State :=
  let l := (s.pt n).revokes
  l.foldl (fun t r => ((t.emptySlots n r.shared).removeGrant r.shared n r.right).reply r.msg 0x0213 0 rOK [])
    (s.updP n (fun p => { p with revokes := [] }))

/-- The reset's end: ACTIVE with PARTITION_RESET_DONE, or on into SCRUBBING for a resize or a destroy (02 R52, R53). -/
def State.finishReset (s : State) (n : Nat) : State :=
  let s1 := (s.weightsOnReset n).applyRevokes n
  let p := s1.pt n
  if p.destroy.isSome ∨ p.resize.isSome then s1.updP n (fun q => { q with state := .scrubbing, resetStep := 0 })
  else
    match p.waiting with
    | (true, m) :: r =>
      if s1.isHome n then
        (s1.updP n (fun q => { q with waiting := r, resetStep := 4 })).reply m 0x0203 0 rBusy []
      else s1.updP n (fun q => { q with state := .scrubbing, resetStep := 0, waiting := r, destroy := some m })
    | (false, m) :: r =>
      match s1.resizeRefusal n m.resize with
      | some c => (s1.updP n (fun q => { q with waiting := r, resetStep := 4 })).reply m 0x0202 0 c []
      | none => (s1.acceptResize n m).updP n (fun q => { q with state := .scrubbing, resetStep := 0, waiting := r })
    | [] =>
      let sk := p.skipped
      ((s1.updP n (fun q => { q with state := .active, resetStep := 0, skipped := 0 })).applyHeld n).postPart n 0x0102 sk

/-- One further step of a reset; each needs SCH (02 R50, R51). -/
def execPartitionResetProgress (n : Fin 12) (s : State) : Host.Outcome State Fault Refusal :=
  let p := s.pt n
  ok (if p.state ≠ .resetting ∨ !s.schRuns then s else
    match p.resetStep with
    | 1 => ((s.haltTiles n).squallPartition n).updP n (fun q => { q with resetStep := 2 })
    | 2 => (s.completeAll n).updP n (fun q => { q with resetStep := 3 })
    | 3 => ((s.clearTiles n).zeroSync p.syncBase p.syncCount).updP n (fun q => { q with resetStep := 4 })
    | _ => s.finishReset n)

/-- The scrub is done: removed regions are released zeroed, added regions join, the partition is ACTIVE (02 R52). -/
def execPartResizeComplete (n : Fin 12) (s : State) : Host.Outcome State Fault Refusal :=
  let p := s.pt n
  ok (match p.state, p.resize with
    | .scrubbing, some r =>
      let out := p.removed r
      let s1 := ((s.discardIn n out).zeroRegionMemory out).setOwners out none
      let s2 := s1.updP n (fun q => { q with
        rx0 := r.rx0, ry0 := r.ry0, w := r.w, h := r.h, resize := none, state := .active, skipped := 0 })
      let s3 := ((s2.applyHeld n).quotaCheck n).postPart n 0x0102 p.skipped
      if (rectRegions r.rx0 r.ry0 r.w r.h).any (fun i => decide ((s3.rg i).state = .fenced) && (p.added r).contains i) then
        s3.beginReset n 4
      else s3
    | _, _ => s)

/-- The scrub is done: keys, page table, grants, ports and the partition key are gone; SEC replies (02 R53). -/
def execPartDestroyComplete (n : Fin 12) (s : State) : Host.Outcome State Fault Refusal :=
  let p := s.pt n
  ok (match p.state, p.destroy with
    | .scrubbing, some m =>
      if !s.secRuns then s else
      let s1 := ((s.zeroRegionMemory p.regions).unbindFor n).dropPartition n
      let s2 := { s1 with
        sec := { s1.sec with
          privateKeys := s1.sec.privateKeys.filter (fun k => decide (k.1 / 16 ≠ n.val))
          grants := s1.sec.grants.filter (fun g => g.grantee != n.val) }
        portOwner := s1.portOwner.filter (fun e => e.2 != n.val) }
      (((s2.setOwners p.regions none).setP n {}).pruneKeys).reply m 0x0203 0 rOK []
    | _, _ => s)

/-! ### Ports, shared regions, grants (02 R60-R65) -/

/-- Port p of 12 from its kind (1 W, 2 T, 3 twin) and number, where the ordering code has it (02 R60). -/
def State.portIndex (s : State) (kind num : Nat) : Option Nat :=
  match kind with
  | 1 => if num < 24 then some num else none
  | 2 => if num < 12 then some (24 + num) else none
  | 3 => match s.fixed.order with
    | .kw9T => if num < 2 then some (36 + num) else none
    | .kw9FT => if num < 2 then some (36 + num) else none
    | _ => none
  | _ => none

/-- PORT_ASSIGN (02 R60, 18 R568): payload kind, number, partition or 0xF. -/
def execPortAssign (m : Msg) (s : State) : Host.Outcome State Fault Refusal :=
  s.handle .sec 0x0205 m (fun t =>
    let n := m.u8 2
    if !t.isPriv m then t.reply m 0x0205 0 rNotPermitted []
    else match t.portIndex (m.u8 0) (m.u8 1) with
      | none => t.reply m 0x0205 0 rBadArgument []
      | some p =>
        if n ≠ 0xF ∧ (11 < n ∨ (t.pt n).state.isFree) then t.reply m 0x0205 0 rBadArgument []
        else if 36 ≤ p ∧ n ≠ 0xF ∧ (t.ras.twin.state = .pairing ∨ t.ras.twin.state = .paired) then t.reply m 0x0205 0 rBusy []
        else match tfind t.portOwner p with
          | some q =>
            if n = 0xF then (t.portRelease p).reply m 0x0205 0 rOK []
            else if q = n then t.reply m 0x0205 0 rOK []
            else t.reply m 0x0205 0 rBusy []
          | none =>
            if n = 0xF then t.reply m 0x0205 0 rOK []
            else (({ t with portOwner := tset t.portOwner p n }.sendWaiting).stallSync).reply m 0x0205 0 rOK [])

/-- SHARED_CREATE (02 R61): payload shared ID, key, home or 0xF, pages. -/
def execSharedCreate (m : Msg) (s : State) : Host.Outcome State Fault Refusal :=
  s.handle .sec 0x0210 m (fun t =>
    let i := m.u8 0
    let key := m.u16 2
    let home := m.u8 4
    let pages := m.u32 8
    if !t.isPriv m then t.reply m 0x0210 0 rNotPermitted []
    else if 63 < i ∨ key < 0xF000 ∨ 0xFFFE < key ∨ pages < 1 ∨ 2 ^ 21 < pages ∨
        (home ≠ 0xF ∧ (11 < home ∨ (t.pt home).state.isFree)) then t.reply m 0x0210 0 rBadArgument []
    else if (tfind t.sec.shared i).isSome then t.reply m 0x0210 0 rBusy []
    else if t.sec.shared.any (fun x => x.2.key.toNat == key) then t.reply m 0x0210 0 rKeyInUse []
    else
      let r : Shared := { key := BitVec.ofNat 16 key, home := if home = 0xF then none else some home, pages := pages }
      ({ t with sec := { t.sec with shared := tset t.sec.shared i r } }).reply m 0x0210 0 rOK [])

/-- SHARED_DESTROY (02 R65): pages zeroed, bound key slots erased. -/
def execSharedDestroy (m : Msg) (s : State) : Host.Outcome State Fault Refusal :=
  s.handle .sec 0x0211 m (fun t =>
    let i := m.u8 0
    if !t.isPriv m then t.reply m 0x0211 0 rNotPermitted []
    else if (tfind t.sec.shared i).isNone then t.reply m 0x0211 0 rBadArgument []
    else if t.sec.grants.any (fun g => g.shared == i) then t.reply m 0x0211 0 rBusy []
    else
      let t1 := t.freeShared i
      ({ t1 with sec := { t1.sec with
          shared := tdel t1.sec.shared i
          sharedKeys := t1.sec.sharedKeys.filter (fun k => k.2.bound != i) } }).reply m 0x0211 0 rOK [])

/-- The mapping a grantee has of a shared region. -/
def State.grantBase (s : State) (sh n : Nat) : Option Nat :=
  (s.sec.grants.find? (fun g => g.shared == sh && g.grantee == n)).map (·.base.toNat)

/-- Why a GRANT is refused (02 R62). -/
def State.grantRefusal (s : State) (m : Msg) : Option Nat :=
  let i := m.u8 0
  let n := m.u8 1
  let right := m.u8 2
  let base := m.u64 8
  match tfind s.sec.shared i with
  | none => some rBadArgument
  | some r =>
    if 11 < n ∨ (s.pt n).state.isFree ∨ 1 < right ∨ base % 2 ^ 21 ≠ 0 then some rBadArgument
    else if right = 1 ∧ r.home ≠ some n then some rNotPermitted
    else if s.sec.grants.any (fun g => g.shared == i && g.grantee == n && g.right == right) then some rBusy
    else if right = 0 ∧ 12 ≤ (s.sec.grants.filter (fun g => g.shared == i && g.right == 0)).length then some rNoResource
    else match s.grantBase i n with
      | some b => if b = base then none else some rBadArgument
      | none =>
        let size := r.pages * 2 ^ 21
        if 2 ^ 48 < base + size ∨ s.mappingOverlaps n base size then some rBadArgument else none

/-- GRANT (02 R62): payload shared ID, grantee, right, map base; to a RESETTING partition it takes effect at its end (02 T2.5). -/
def execGrant (m : Msg) (s : State) : Host.Outcome State Fault Refusal :=
  s.handle .sec 0x0212 m (fun t =>
    if !t.isPriv m then t.reply m 0x0212 0 rNotPermitted []
    else match t.grantRefusal m with
      | some r => t.reply m 0x0212 0 r []
      | none =>
        let g : Grant := { shared := m.u8 0, grantee := m.u8 1, right := m.u8 2, base := BitVec.ofNat 48 (m.u64 8) }
        let t1 := if (t.pt g.grantee).state = .resetting then
            t.updP g.grantee (fun p => { p with heldGrants := p.heldGrants ++ [g] })
          else { t with sec := { t.sec with grants := t.sec.grants ++ [g] } }
        t1.reply m 0x0212 0 rOK [])

/-- REVOKE (02 R64): payload shared ID, grantee, right, FORCE. -/
def execRevoke (m : Msg) (s : State) : Host.Outcome State Fault Refusal :=
  s.handle .sec 0x0213 m (fun t =>
    let i := m.u8 0
    let n := m.u8 1
    let right := m.u8 2
    if !t.isPriv m then t.reply m 0x0213 0 rNotPermitted []
    else if 1 < m.u8 3 ∨ !(t.sec.grants.any (fun g => g.shared == i && g.grantee == n && g.right == right)) then
      t.reply m 0x0213 0 rBadArgument []
    else if m.u8 3 = 1 then
      let f : ForcedRevoke := { shared := i, right := right, msg := m }
      let t1 := t.updP n (fun p => { p with revokes := p.revokes ++ [f] })
      match (t.pt n).state with
      | .active => t1.beginReset n 7
      | .resetting => t1
      | _ => t1.applyRevokes n
    else if t.slotsRefer n i then t.reply m 0x0213 0 rBusy []
    else (t.removeGrant i n right).reply m 0x0213 0 rOK [])

/-! ### Weight keys (02 R79-R82) -/

/-- The occupied slots of a set: (slot, key ID). -/
def State.keySet (s : State) (shared : Bool) (n : Nat) : List (Nat × KeySlot) :=
  if shared then s.sec.sharedKeys
  else (s.sec.privateKeys.filter (fun k => k.1 / 16 == n)).map (fun k => (k.1 % 16, k.2)) ++ (s.pt n).heldKeys

/-- The slot a KEY_LOAD names, 0xFF the lowest empty one (02 R79): a refusal or the slot. -/
def State.keySlotFor (s : State) (shared : Bool) (n slot : Nat) : Nat ⊕ Nat :=
  let size := if shared then 32 else 16
  if slot = 0xFF then
    match (List.range size).find? (fun k => !((s.keySet shared n).any (fun e => e.1 == k))) with
    | some k => .inr k
    | none => .inl rNoResource
  else if slot < size then .inr slot else .inl rBadArgument

/-- KEY_LOAD (02 R79-R81): payload slot set, slot, shared ID, key ID, then the wrapped key. `key`: what AES-256-GCM opens, `none` on any failure. -/
def execKeyLoad (m : Msg) (key : Option (BitVec 256)) (s : State) : Host.Outcome State Fault Refusal :=
  s.handle .sec 0x0220 m (fun t =>
    let shared := m.u8 0 == 1
    let owner := match m.part with
      | some n => n
      | none => 0
    let permitted := (m.u8 0 == 0 && m.part.isSome) || (m.u8 0 == 1 && t.isPriv m)
    if 1 < m.u8 0 then t.reply m 0x0220 0 rBadArgument []
    else if !permitted then t.reply m 0x0220 0 rNotPermitted []
    else if (shared ∧ (tfind t.sec.shared (m.u8 2)).isNone) ∨ m.u32 4 = 0 then t.reply m 0x0220 0 rBadArgument []
    else match t.keySlotFor shared owner (m.u8 1) with
      | .inl r => t.reply m 0x0220 0 r []
      | .inr slot =>
        if (t.keySet shared owner).any (fun e => e.1 != slot && e.2.keyId.toNat == m.u32 4) then
          t.reply m 0x0220 0 rBadArgument []
        else match key with
          | none => ({ t with sec := { t.sec with keyLoadFail := satInc t.sec.keyLoadFail } }).reply m 0x0220 0 rVerifyFail []
          | some k =>
            let e : KeySlot := { keyId := BitVec.ofNat 32 (m.u32 4), key := k, bound := m.u8 2, counter := Config.freeBits 64 t.free }
            let t0 := t.takeFree 1
            let t1 := if shared then { t0 with sec := { t0.sec with sharedKeys := tset t0.sec.sharedKeys slot e } }
              else if (t0.pt owner).state = .resetting then
                t0.updP owner (fun p => { p with heldKeys := tset p.heldKeys slot e })
              else { t0 with sec := { t0.sec with privateKeys := tset t0.sec.privateKeys (16 * owner + slot) e } }
            t1.reply m 0x0220 0 rOK [])

/-- KEY_ERASE (02 R81): payload slot set, slot. -/
def execKeyErase (m : Msg) (s : State) : Host.Outcome State Fault Refusal :=
  s.handle .sec 0x0221 m (fun t =>
    let permitted := (m.u8 0 == 0 && m.part.isSome) || (m.u8 0 == 1 && t.isPriv m)
    if 1 < m.u8 0 then t.reply m 0x0221 0 rBadArgument []
    else if !permitted then t.reply m 0x0221 0 rNotPermitted []
    else match m.part with
      | some n =>
        if 16 ≤ m.u8 1 then t.reply m 0x0221 0 rBadArgument []
        else ((({ t with sec := { t.sec with privateKeys := tdel t.sec.privateKeys (16 * n + m.u8 1) } }).updP n
          (fun p => { p with heldKeys := tdel p.heldKeys (m.u8 1) }))).reply m 0x0221 0 rOK []
      | none =>
        if 32 ≤ m.u8 1 then t.reply m 0x0221 0 rBadArgument []
        else ({ t with sec := { t.sec with sharedKeys := tdel t.sec.sharedKeys (m.u8 1) } }).reply m 0x0221 0 rOK [])

/-! ### Attestation (02 R77, R78, R85) -/

/-- IMAGE[k] of the report (02 T2.18). -/
def State.attestImage (s : State) (kind : Nat) (slot : Bool) : List Byte :=
  match tfind s.sec.running kind with
  | some i => [BitVec.ofNat 8 kind, bit slot, i.svn.setWidth 8, 0] ++ leBytes 4 i.version.toNat ++ leBytes 48 i.hash.toNat ++
      List.replicate 8 0
  | none => [BitVec.ofNat 8 kind, bit slot, 0, 0] ++ List.replicate 60 0

/-- Bytes 0-327 of the report (02 T2.18). -/
def State.attestBody (s : State) (m : Msg) : List Byte :=
  let view := match m.part with
    | some n => let p := s.pt n
      [1, BitVec.ofNat 8 n, BitVec.ofNat 8 p.hostLink, BitVec.ofNat 8 p.rx0, BitVec.ofNat 8 p.ry0, BitVec.ofNat 8 p.w,
        BitVec.ofNat 8 p.h]
    | none => [0, 0xFF, 0xFF, 0, 0, 0, 0]
  (List.range 48).map (byteAt m.payload) ++ leBytes 16 s.fixed.serial.toNat ++ [s.sec.fuseSvn.setWidth 8] ++ view ++
    s.attestImage 1 s.sec.secSlot ++ s.attestImage 2 s.sec.pwrSlot ++ s.attestImage 3 s.sec.schSlot ++
    s.attestImage 4 s.sec.rccSlot

def execAttest (m : Msg) (s : State) : Host.Outcome State Fault Refusal :=
  s.handle .sec 0x0230 m (fun t =>
    let b := t.attestBody m
    t.reply m 0x0230 0 rOK (b ++ leBytes 96 (Config.attestSignature b).toNat))

def execDeviceCert (m : Msg) (s : State) : Host.Outcome State Fault Refusal :=
  s.handle .sec 0x0231 m (fun t =>
    t.reply m 0x0231 0 rOK (t.fixed.certs.flatMap (fun c => leBytes 4 c.length ++ c)))

/-- SVN_COMMIT (02 R77). -/
def execSvnCommit (m : Msg) (s : State) : Host.Outcome State Fault Refusal :=
  s.handle .sec 0x0232 m (fun t =>
    let v := m.u8 0
    if !t.isPriv m then t.reply m 0x0232 0 rNotPermitted []
    else if v < t.sec.fuseSvn.toNat ∨ 63 < v ∨ t.sec.running.any (fun i => decide (i.2.svn.toNat < v)) then
      t.reply m 0x0232 0 rBadArgument []
    else ({ t with sec := { t.sec with fuseSvn := BitVec.ofNat 6 v } }).reply m 0x0232 0 rOK [])

end Sys2Proof.Machine
end

