-- ==== Sys2Proof/Machine/Power.lean ====
section
/-! DEFINITION. Power delivery, capping, thermal control, power-down, fencing (16_power_and_thermal, 01 R33-R36, 18 R561). -/
namespace Sys2Proof.Machine

def State.updPwr (s : State) (f : Power → Power) : State := { s with pwr := f s.pwr }
def State.updRP (s : State) (r : Nat) (f : RegionPower → RegionPower) : State := s.updR r (fun x => { x with pwr := f x.pwr })

/-! ### Voltage loop and droop guard (16 R501-R506) -/

/-- A factory trim in 0.5 mV units as 0.25 mV units (17 T17.10). -/
def trimUnits (t : BitVec 6) : Int := 2 * t.toInt

/-- The sense target: the window's low end minus 40 mV, with the region's trim (16 R501). -/
def senseTarget (lo : BitVec 12) (trim : BitVec 6) : Int := (lo.toNat : Int) - 160 + trimUnits trim

/-- The lowest reading, if there is one. -/
def lowest (l : List (BitVec 12)) : Option Nat :=
  l.foldl (fun b x => match b with
    | none => some x.toNat
    | some v => some (min v x.toNat)) none

/-- One step of a domain's loop (16 R502): up 2.5 mV below the target, down 2.5 mV beyond 15 mV over it, then clamped. -/
def loopStep (set lo hi : BitVec 12) (trim : BitVec 6) (readings : List (BitVec 12)) : BitVec 12 :=
  match lowest readings with
  | none => clamp set lo hi
  | some m =>
    let t := senseTarget lo trim
    if (m : Int) < t then clamp (set + 10) lo hi
    else if t + 60 < (m : Int) then clamp (set - 10) lo hi
    else clamp set lo hi

def execVoltageLoopStep (r : Fin 144) (vlog vsram : List (BitVec 12)) (s : State) : Host.Outcome State Fault Refusal :=
  let b := (s.rg r).bru
  ok (if (s.rg r).pwr.rails.vlog then
    s.updRP r (fun p => { p with
      vlogSet := loopStep p.vlogSet p.vlogLo p.vlogHi b.vlogTrim vlog
      vsramSet := loopStep p.vsramSet p.vsramLo p.vsramHi b.vsramTrim vsram })
  else s)

/-- Any VLOG sensor below the target minus 25 mV sets duty 8; exactly 25 mV does not (16 R506). -/
def execDroopEngage (r : Fin 144) (vlog : List (BitVec 12)) (s : State) : Host.Outcome State Fault Refusal :=
  let p := (s.rg r).pwr
  let t := senseTarget p.vlogLo (s.rg r).bru.vlogTrim - 100
  ok (if (s.rg r).osc.cls ≠ 7 ∧ vlog.any (fun v => decide ((v.toNat : Int) < t)) then s.updRP r (fun p => { p with droop := true })
  else s)

/-- Every sensor at or above the target minus 10 mV for 10 consecutive µs restores duty 16 (16 R506). -/
def execDroopRelease (r : Fin 144) (vlog : List (BitVec 12)) (heldUs : Nat) (s : State) : Host.Outcome State Fault Refusal :=
  let p := (s.rg r).pwr
  let t := senseTarget p.vlogLo (s.rg r).bru.vlogTrim - 40
  ok (if 10 ≤ heldUs ∧ vlog.all (fun v => decide (t ≤ (v.toNat : Int))) then s.updRP r (fun p => { p with droop := false })
  else s)

/-- A region's duty: the lower of the peak limiter's and the droop guard's (16 R505). -/
def State.duty (s : State) (r : Nat) : Nat := if (s.rg r).pwr.droop then min 8 s.pwr.duty.toNat else s.pwr.duty.toNat

/-! ### Estimate and peak limiter (16 R509-R511) -/

/-- The region's estimate (16 R509): gain × the weighted counts + the static part, in mW. -/
def execActivityEstimate (r : Fin 144) (counts : List Nat) (s : State) : Host.Outcome State Fault Refusal :=
  let p := (s.rg r).pwr
  let dyn := ((s.fixed.weights.zip counts).map (fun x => x.1 * x.2)).foldl (· + ·) 0
  let e := p.gain * dyn / 1000 + Config.staticPower p.vlogSet.toNat p.vsramSet.toNat p.tempMax.toNat
  ok (s.updRP r (fun p => { p with estNow := e, estSum := p.estSum + e, estN := p.estN + 1 }))

/-- The module estimate in mW: region estimates, VLNK and carrier, divided by η (16 R509). -/
def State.moduleEstimate (s : State) : Nat :=
  ((s.rgn.map (fun r => r.2.pwr.estNow)).foldl (· + ·) 0 + s.pwr.vlnkMw + s.pwr.carrierMw) * 1000 / s.pwr.eta.toNat

/-- The peak limiter's step (16 R511) over the last 500 module estimates. -/
def Power.limiterStep (p : Power) (est : Nat) : Power :=
  let l := (est :: p.samples).take 500
  let sum := l.foldl (· + ·) 0
  let n := l.length
  let peak := p.peakW.toNat * 1000
  if 98 * peak * n < 100 * sum then
    { p with samples := l, raiseWait := 0, duty := if 4 < p.duty.toNat then p.duty - 1 else p.duty }
  else if 100 * sum ≤ 95 * peak * n then
    if p.raiseWait = 9 then { p with samples := l, raiseWait := 0, duty := if p.duty.toNat < 16 then p.duty + 1 else p.duty }
    else { p with samples := l, raiseWait := p.raiseWait + 1 }
  else { p with samples := l, raiseWait := 0 }

def execPeakLimiterStep (s : State) : Host.Outcome State Fault Refusal :=
  ok (s.updPwr (fun p => p.limiterStep s.moduleEstimate))

/-! ### Budget (16 R512) -/

/-- The budget in force and which value limits it: 0 HOST_W, 1 RACK_W, 2 COOLANT_W. -/
def Power.inForce (p : Power) : Nat × Nat :=
  let h := p.hostW.toNat
  let k := p.rackW.toNat
  let c := p.coolantW.toNat
  if h ≤ k ∧ h ≤ c then (h, 0) else if k ≤ c then (k, 1) else (c, 2)

/-- The budget in force follows its three values; a change is posted (16 T16.11). -/
def State.setBudget (s : State) : State :=
  let b := s.pwr.inForce
  if b.1 = s.pwr.inForceW.toNat then s
  else (s.updPwr (fun p => { p with inForceW := BitVec.ofNat 16 b.1 })).postModule 0x0E01 0 0 (pack [(16, b.1), (2, b.2)])

def budgetRange (w : Nat) : Bool := decide (8000 ≤ w) && decide (w ≤ 32000)

def State.writeHostW (s : State) (w : Nat) : State :=
  if budgetRange w then (s.updPwr (fun p => { p with hostW := BitVec.ofNat 16 w })).setBudget else s

def execHostWWrite (k : Fin 4) (watts : W16) (s : State) : Host.Outcome State Fault Refusal :=
  ok (if s.priv = .pf k then s.writeHostW watts.toNat else s)

/-- The effective peak limit min(PEAK_W, 600 A × input voltage) (19 R587). -/
def State.effectivePeak (s : State) : State :=
  let prod := 6 * s.mgt.inputMv10.toNat
  let binds := decide (prod < s.pwr.peakSet.toNat)
  { s.updPwr (fun p => { p with peakW := BitVec.ofNat 16 (min p.peakSet.toNat prod) }) with
    mgt := { s.mgt with inputLimited := binds } }

/-! ### Classes from the budget (16 R513-R515) -/

/-- The midpoint, doubled, of a class's VLOG window. -/
def classMid (c : Nat) : Nat := (classWindow c).1 + (classWindow c).2.1

/-- p(c): the estimate of a region at class c from its last window, in mW (16 R514). -/
def Region.powerAt (r : Region) (c : Nat) : Nat :=
  let now := r.osc.cls.toNat
  let pl := r.pwr.win.getD 0 0
  let ps := r.pwr.win.getD 1 0
  pl * classK c * (classMid c * classMid c) / (classK now * (classMid now * classMid now)) + ps * classK c / classK now +
    r.pwr.win.getD 2 0 + r.pwr.win.getD 3 0

/-- Class 0 is admitted (16 R508, R514). -/
def State.class0Ok (s : State) (r : Region) : Bool :=
  s.pwr.class0En && decide (r.pwr.suspect = 0) && decide (r.pwr.tempMax.toNat + 20 ≤ 4 * s.pwr.targetC.toNat)

/-- The class a cap allows a region: the lowest number at or above CEILING that fits, else 6 (16 R514). -/
def State.classForCap (s : State) (r : Region) (capMw : Nat) : Nat :=
  match (List.range 7).find? (fun c => decide (r.pwr.ceiling.toNat ≤ c) && (decide (0 < c) || s.class0Ok r) &&
      decide (r.powerAt c ≤ capMw)) with
  | some c => c
  | none => 6

/-- The phase of 16 T16.4 from rates in thousandths of full rate. -/
def phaseOf (t v s : Nat) (egress : Bool) : Nat :=
  if t < 50 ∧ v < 50 ∧ s < 50 then 0
  else if 300 ≤ t ∧ egress then 3
  else if 300 ≤ t then 2
  else if 300 ≤ v then 4
  else 1

/-- The successor that most often followed a phase. -/
def PhaseStat.successor (x : PhaseStat) : Option Nat :=
  (x.next.foldl (fun (b : Option (Nat × Nat)) e => match b with
    | none => some e
    | some y => if y.2 < e.2 then some e else some y) none).map (·.1)

/-- A phase's demand in mW: its mean power per region × regions; the share when never seen (16 R515). -/
def Partition.demand (p : Partition) (phase share : Nat) : Nat :=
  let x : PhaseStat := tget {} p.pwr.stats phase
  if x.powerN = 0 then share else x.powerSum / x.powerN * (p.w * p.h)

/-- need[n] (16 R513-R515): the share without Forecast; a plan's phase; else the predicted next phase from 200 µs before it. -/
def Partition.need (p : Partition) (forecast : Bool) (share : Nat) : Nat :=
  if !forecast then share else
  match p.pwr.forced with
  | some f => p.demand f.toNat share
  | none =>
    let ph := p.pwr.phase.toNat
    let x : PhaseStat := tget {} p.pwr.stats ph
    let mean := if x.durN = 0 then none else some (x.durSum / x.durN)
    match mean, x.successor with
    | some d, some nx => if d ≤ p.pwr.sinceUs + 200 then p.demand nx share else p.demand ph share
    | _, _ => p.demand ph share

/-- One partition's place in the division: number, regions, share, need, limit. -/
structure Slice where
  n : Nat
  regions : Nat
  share : Nat
  need : Nat
  limit : Nat
deriving DecidableEq, Repr

/-- One round of lending (16 R513): each that needs more takes its part of the pool by regions. -/
def lendRound (l : List Slice) (pool : Nat) : List Slice × Nat :=
  let r := ((l.filter (fun x => decide (x.limit < x.need))).map (·.regions)).foldl (· + ·) 0
  l.foldl (fun acc x =>
    if x.limit < x.need ∧ 0 < r then
      let add := min (x.need - x.limit) (pool * x.regions / r)
      (acc.1 ++ [{ x with limit := x.limit + add }], acc.2 - add)
    else (acc.1 ++ [x], acc.2)) ([], pool)

/-- The lending loop; each round settles a partition or spends the pool. -/
def lend (l : List Slice) (pool : Nat) : Nat → List Slice × Nat
  | 0 => (l, pool)
  | f + 1 =>
    if pool = 0 ∨ !(l.any (fun x => decide (x.limit < x.need))) then (l, pool)
    else
      let r := lendRound l pool
      lend r.1 r.2 f

/-- READY regions in no partition. -/
def State.idleRegions (s : State) : List Nat :=
  (List.range 144).filter (fun i => decide ((s.rg i).state = .ready) && (s.rg i).partition.isNone)

/-- s of 16 R513, in mW. -/
def State.silicon (s : State) : Nat :=
  s.pwr.inForceW.toNat * s.pwr.eta.toNat - s.pwr.vlnkMw - s.pwr.carrierMw -
    (s.idleRegions.map (fun i => (s.rg i).powerAt 6)).foldl (· + ·) 0

/-- The guarantee that counts (16 R513). -/
def Partition.guarantee (p : Partition) : Nat := if p.powerGuaranteed then p.pwr.guaranteeW.toNat * 1000 else 0

/-- The division of 16 R513: each partition's limit in mW, and whether the guarantees were scaled. -/
def State.divide (s : State) : List Slice × Bool :=
  let si := s.silicon
  let parts := s.liveParts
  let sumG := (parts.map (fun n => (s.pt n).guarantee)).foldl (· + ·) 0
  let scaled := decide (si < sumG)
  let g := fun n => if scaled then (s.pt n).guarantee * si / sumG else (s.pt n).guarantee
  let rest := si - min si sumG
  let others := ((parts.filter (fun n => (s.pt n).guarantee == 0)).map (fun n => (s.readyRegions n).length)).foldl (· + ·) 0
  let sl := parts.map (fun n =>
    let p := s.pt n
    let r := (s.readyRegions n).length
    let share := if p.guarantee = 0 then rest * r / max 1 others else g n
    let lent := p.pwr.limitW.toNat * 1000
    let need := if lent < share ∧ lent * 95 ≤ p.pwr.powerMw * 100 ∧ 0 < lent then max share (p.need s.pwr.forecastEn share)
      else p.need s.pwr.forecastEn share
    ({ n := n, regions := r, share := share, need := need, limit := min need share } : Slice))
  let pool := (sl.map (fun x => x.share - x.limit)).foldl (· + ·) 0
  let r := lend sl pool 13
  let all := (sl.map (·.regions)).foldl (· + ·) 0
  (r.1.map (fun x => { x with limit := x.limit + r.2 * x.regions / max 1 all }), scaled)

/-- The caps of a partition's regions: a straggler held by BUDGET comes first (16 R514, 18 R566). -/
def State.caps (s : State) (x : Slice) : List (Nat × Nat) :=
  let rs := s.readyRegions x.n
  let slow := if s.ras.priorityEn then
      rs.filter (fun i => (s.rg i).flt.straggler && (s.rg i).flt.reason == 1) else []
  let rates := ascending (rs.map (fun i => (s.rg i).flt.rate100.toNat))
  let m := rates.getD ((rates.length - 1) / 2) 0
  let cm := classFor ((m * 15 + 1023) / 1024)
  let first := slow.foldl (fun (acc : List (Nat × Nat) × Nat) i =>
    let c := min acc.2 ((s.rg i).powerAt cm)
    (acc.1 ++ [(i, c)], acc.2 - c)) ([], x.limit)
  let rest := rs.filter (fun i => !slow.contains i)
  first.1 ++ rest.map (fun i => (i, first.2 / max 1 rest.length))

/-- A region's target from its cap, with the steps that thermal and droop hold (16 R506, R514, R517, 04 R147). -/
def State.setTarget (s : State) (i capMw : Nat) : State :=
  let r := s.rg i
  let c := s.classForCap r capMw
  let ref := max 1 r.pwr.ceiling.toNat
  let bound := !((List.range (ref + 1)).any (fun k => decide (r.powerAt k ≤ capMw)))
  let t := min 6 (c + r.pwr.thermalSteps + r.pwr.gapSteps + r.pwr.droopStep.toNat)
  s.updR i (fun x => { x with
    pwr := { x.pwr with capW := BitVec.ofNat 16 (capMw / 1000), budgetBound := bound }
    osc := { x.osc with target := BitVec.ofNat 3 t } })

/-- A division takes effect: limits, caps, targets; READY regions in no partition go to class 6 (16 R513, R514). -/
def State.applyDivision (s : State) : State :=
  let d := s.divide
  let si := s.silicon
  let sumG := (s.liveParts.map (fun n => (s.pt n).guarantee)).foldl (· + ·) 0
  let before := s.liveParts.any (fun n => (s.pt n).pwr.scaled)
  let s1 := s.updPwr (fun p => { p with siliconW := BitVec.ofNat 16 (si / 1000) })
  let s2 := d.1.foldl (fun t x =>
    let t1 := t.updP x.n (fun p => { p with pwr := { p.pwr with
      limitW := BitVec.ofNat 16 (x.limit / 1000), scaled := d.2 && decide (0 < p.guarantee), forced := none } })
    (s.caps x).foldl (fun u c => u.setTarget c.1 c.2) t1) s1
  let s3 := s.idleRegions.foldl (fun t i => t.updR i (fun r => { r with osc := { r.osc with target := 6 } })) s2
  if d.2 ∧ !before then s3.postModule 0x0E02 0 0 (si * 65536 / max 1 sumG) else s3

/-- The bond check of one sensor and domain in a qualifying window (16 R508): beyond the margin 16 times in a row marks it. -/
def State.bondCheck (s : State) (r sensor : Nat) (sram : Bool) (excess : Int) : State :=
  let key := sensor + 16 * sram.toNat
  let p := (s.rg r).pwr
  if (s.pwr.bondMargin.toNat : Int) < excess then
    let n := tget 0 p.bondRun key + 1
    let s1 := s.updRP r (fun p => { p with bondRun := tset p.bondRun key n })
    if n = 16 ∧ !p.suspect.getLsbD sensor then
      let e := min 255 excess.toNat
      ((s1.updRP r (fun p => { p with
        suspect := withBit p.suspect sensor true, bondDomain := sram, excessMv := BitVec.ofNat 8 e })).addRecord r 6 none sensor).postRegion
        r 0x0E05 (pack [(4, sensor), (1, sram.toNat), (3, 0), (8, e)])
    else s1
  else s.updRP r (fun p => { p with bondRun := tdel p.bondRun key })

/-- rcal of a sensor and domain, in µΩ-like units mV per A × 1000 (17 R548). -/
def RegionPower.rcalOf (p : RegionPower) (sensor : Nat) (sram : Bool) : Int := tget 0 p.rcal (sensor + 16 * sram.toNat)

/-- One more qualifying window for the least squares of a sensor: n, Σx, Σy, Σxx, Σxy, with x in mA and y in 0.25 mV (17 R548). -/
def leastStep (l : List Int) (x y : Int) : List Int :=
  [l.getD 0 0 + 1, l.getD 1 0 + x, l.getD 2 0 + y, l.getD 3 0 + x * x, l.getD 4 0 + x * y]

/-- The slope, in units of 0.25 µV per mA. -/
def leastSlope (l : List Int) : Int :=
  let d := l.getD 0 0 * l.getD 3 0 - l.getD 1 0 * l.getD 1 0
  if d = 0 then 0 else (l.getD 0 0 * l.getD 4 0 - l.getD 1 0 * l.getD 2 0) * 1000 / d

/-- Sensor means of a window, as (VLOG, VSRAM) in 0.25 mV, against current: learning until 1,000 windows, then the bond check (16 R508, 17 R548). -/
def State.bondWindow (s : State) (w : RegionWindow) : State :=
  let r := w.region.val
  let iLog : Int := ((w.currents.getD 0 0).toNat * 10 : Nat)
  let iSram : Int := ((w.currents.getD 1 0).toNat * 10 : Nat)
  let qLog := decide (38200 ≤ iLog)
  let qSram := decide (6800 ≤ iSram)
  let p := (s.rg r).pwr
  let each := fun (t : State) (k : Nat) (sram : Bool) (mean : Nat) =>
    let drop : Int := (if sram then (p.vsramSet.toNat : Int) else p.vlogSet.toNat) - mean
    let cur := if sram then iSram else iLog
    if (t.rg r).bru.rcalFrozen then
      t.bondCheck r k sram ((drop - cur * p.rcalOf k sram / 1000) / 4)
    else t.updR r (fun x => { x with bru := { x.bru with
      rcalSums := tset x.bru.rcalSums (k + 16 * sram.toNat) (leastStep (tget [] x.bru.rcalSums (k + 16 * sram.toNat)) cur drop) } })
  let means := (List.range w.means.length).zip w.means
  let s1 := if qLog then means.foldl (fun t e => each t e.1 false e.2.1) s else s
  let s2 := if qSram then means.foldl (fun t e => each t e.1 true e.2.2) s1 else s1
  if (qLog ∨ qSram) ∧ !(s2.rg r).bru.rcalFrozen then
    let n := (s2.rg r).bru.rcalWindows.toNat + 1
    s2.updR r (fun x => { x with
      bru := { x.bru with rcalWindows := BitVec.ofNat 10 n, rcalFrozen := decide (1000 ≤ n) }
      pwr := if 1000 ≤ n then { x.pwr with rcal := x.bru.rcalSums.map (fun e => (e.1, leastSlope e.2)) } else x.pwr })
  else s2

/-- A region's window is reported: currents, lowest voltages, the mean estimate, the gain, rcal and bond (16 R507-R509, T16.16). -/
def State.takeWindow (s : State) (w : RegionWindow) : State :=
  let r := w.region.val
  let measured := w.pLog + w.pSram + w.pStr + w.pMif
  let s1 := s.updRP r (fun p =>
    let mean := if p.estN = 0 then p.estNow else p.estSum / p.estN
    let g := if mean = 0 then p.gain else max 750 (min 1250 (p.gain * measured / mean))
    { p with
      win := [w.pLog, w.pSram, w.pStr, w.pMif], current := w.currents, lnkCurrent := w.lnkCurrents,
      minLog := BitVec.ofNat 64 (pack [(16, w.minLog.toNat), (48, if s.cad.state = .unset then 0 else w.minLogTick.toNat)]),
      minSram := BitVec.ofNat 64 (pack [(16, w.minSram.toNat), (48, if s.cad.state = .unset then 0 else w.minSramTick.toNat)]),
      estMw := BitVec.ofNat 32 mean, estSum := 0, estN := 0, gain := if s.pwrRuns then g else p.gain })
  if s.pwrRuns then s1.bondWindow w else s1

/-- The thermal steps of one millisecond (16 R517): down one above TARGET_C, up one per 10 ms at or below TARGET_C − 3 K. -/
def RegionPower.thermalMsStep (p : RegionPower) (target4 : Nat) : RegionPower :=
  if target4 < p.tempMax.toNat then { p with thermalSteps := min 6 (p.thermalSteps + 1), thermalMs := 0 }
  else if p.tempMax.toNat + 12 ≤ target4 ∧ 0 < p.thermalSteps then
    if p.thermalMs = 9 then { p with thermalSteps := p.thermalSteps - 1, thermalMs := 0 } else { p with thermalMs := p.thermalMs + 1 }
  else p

/-- The neighbour temperature rule of one millisecond (04 R147): the hotter of a pair more than 8.0 K apart goes one class down. -/
def State.gapStep (s : State) (r : Nat) : State :=
  let t := (s.rg r).pwr.tempMax.toNat
  let hot := (s.clocked r).any (fun i => decide ((s.rg i).pwr.tempMax.toNat + 32 < t))
  if hot then s.updRP r (fun p => { p with gapSteps := min 6 (p.gapSteps + 1), gapMs := 0 })
  else if (s.rg r).pwr.gapSteps = 0 then s
  else if (s.rg r).pwr.gapMs = 9 then s.updRP r (fun p => { p with gapSteps := p.gapSteps - 1, gapMs := 0 })
  else s.updRP r (fun p => { p with gapMs := p.gapMs + 1 })

/-- The droop step of one millisecond (16 R506): duty 8 beyond 10 % of the window with the setpoint at the window's high end lowers one class for 100 ms. -/
def RegionPower.droopMsStep (p : RegionPower) : RegionPower :=
  if 100 < p.droopUs ∧ p.vlogSet = p.vlogHi then { p with droopUs := 0, droopStep := true, droopHoldMs := 0 }
  else if p.droopStep then
    if 99 ≤ p.droopHoldMs then { p with droopUs := 0, droopStep := false, droopHoldMs := 0 }
    else { p with droopUs := 0, droopHoldMs := p.droopHoldMs + 1 }
  else { p with droopUs := 0 }

/-- Every 1 ms (16 R507, R513): the windows are reported; while PWR runs it trims, steps and divides. -/
def execPwrDivision (windows : List RegionWindow) (volts amps watts : W16) (vlnkMw carrierMw : Nat) (s : State) :
    Host.Outcome State Fault Refusal :=
  let s1 := s.updPwr (fun p => { p with
    inVoltage := volts, inCurrent := amps, inPower := watts, energyMj := p.energyMj + watts.setWidth 64,
    vlnkMw := vlnkMw, carrierMw := carrierMw })
  let s2 := windows.foldl (fun t w => t.takeWindow w) s1
  if !s.pwrRuns then ok s2 else
  let used := (windows.map (fun w => w.pLog + w.pSram + w.pStr + w.pMif)).foldl (· + ·) 0 + vlnkMw + carrierMw
  let s3 := if watts = 0 ∨ windows.isEmpty then s2
    else s2.updPwr (fun p => { p with eta := BitVec.ofNat 10 (max 1 (min 1000 (used / watts.toNat))) })
  let s4 := (List.range 144).foldl (fun t r =>
    if (t.rg r).state = .ready then
      (t.updRP r (fun p => (p.thermalMsStep (4 * s.pwr.targetC.toNat)).droopMsStep)).gapStep r
    else t) s3
  let s5 := s4.liveParts.foldl (fun t n => t.updP n (fun p => { p with pwr := { p.pwr with
    powerMw := ((windows.filter (fun w => p.regions.contains w.region.val)).map (fun w => w.pLog + w.pSram + w.pStr + w.pMif)).foldl (· + ·) 0 } })) s4
  ok s5.applyDivision

/-- Forecast's classification every 100 µs (16 R515). Rates in thousandths of full rate, power per region in mW. -/
def execForecastClassify (n : Fin 12) (t v s' : Nat) (egress : Bool) (powerMw : Nat) (s : State) :
    Host.Outcome State Fault Refusal :=
  let ph := phaseOf t v s' egress
  ok (if !s.pwrRuns ∨ (s.pt n).state.isFree then s else
    s.updP n (fun p =>
      let old := p.pwr.phase.toNat
      let st := tget {} p.pwr.stats ph
      let stats := tset p.pwr.stats ph { st with powerSum := st.powerSum + powerMw, powerN := st.powerN + 1 }
      if p.pwr.seen ∧ old ≠ ph then
        let o := tget {} stats old
        { p with pwr := { p.pwr with
            phase := BitVec.ofNat 3 ph, sinceUs := 0,
            stats := tset stats old { o with
              durSum := o.durSum + p.pwr.sinceUs + 100, durN := o.durN + 1, next := tset o.next ph (tget 0 o.next ph + 1) } } }
      else { p with pwr := { p.pwr with phase := BitVec.ofNat 3 ph, sinceUs := p.pwr.sinceUs + 100, stats := stats, seen := true } }))

/-- A phase plan's tick minus 200 has come: the division for its phase takes effect in hardware (16 R515, 04 R139). -/
def execPhasePlanStep (n : Fin 12) (tick : W48) (s : State) : Host.Outcome State Fault Refusal :=
  ok (match (s.pt n).pwr.plans.find? (fun x => x.tick == tick) with
    | none => s
    | some x =>
      if s.cad.state ≠ .unset ∧ resolveTick s.cad.count tick - 200 ≤ s.cad.count.toNat then
        (s.updP n (fun p => { p with pwr := { p.pwr with
          plans := p.pwr.plans.filter (fun y => y.tick != tick), forced := some x.phase } })).applyDivision
      else s)

/-! ### Throttle accounting (16 R519) -/

/-- The reasons that hold in a region now, bit by bit (16 T16.7). -/
def State.throttleNow (s : State) (r : Region) : BitVec 7 :=
  BitVec.ofNat 7 (pack [
    (1, (decide (s.pwr.duty.toNat < 16)).toNat), (1, r.pwr.budgetBound.toNat),
    (1, (decide (0 < r.pwr.thermalSteps) || decide (0 < r.pwr.gapSteps) || r.pwr.thermalLull).toNat),
    (1, r.pwr.alertLull.toNat), (1, (r.pwr.droop || r.pwr.droopStep).toNat), (1, r.osc.pulled.toNat),
    (1, (decide (2 ≤ r.pwr.ceiling.toNat)).toNat)])

def countReasons (t : List (Nat × W64)) (now : BitVec 7) : List (Nat × W64) :=
  (List.range 7).foldl (fun u k => if now.getLsbD k then tset u k (tget 0 u k + 1) else u) t

/-- One µs of throttle time in every READY region, and in the partitions that own them. -/
def State.countThrottle (s : State) : State :=
  let s1 := { s with
      rgn := s.rgn.map (fun (e : Nat × Region) =>
      if e.2.state = RegionState.ready then
        let now := s.throttleNow e.2
        (e.1, { e.2 with
          pwr := { e.2.pwr with
            thrNow := now, thrUs := countReasons e.2.pwr.thrUs now, droopUs := e.2.pwr.droopUs + e.2.pwr.droop.toNat }
          flt := { e.2.flt with
            rateSum := e.2.flt.rateSum + classK e.2.osc.cls.toNat * (if e.2.pwr.droop then min 8 s.pwr.duty.toNat else s.pwr.duty.toNat)
            rateN := e.2.flt.rateN + 1 } })
      else e) }
  s1.liveParts.foldl (fun t n => t.updP n (fun p => { p with pwr := { p.pwr with
    thrUs := countReasons p.pwr.thrUs ((p.regions.map (fun i => if (s1.rg i).state = RegionState.ready then (s1.rg i).pwr.thrNow else 0)).foldl (· ||| ·) 0) } })) s1

/-- A written calibration period takes effect at a tick whose count is a multiple of it (17 R550). -/
def State.applyPeriods (s : State) : State :=
  { s with bru := { s.bru with
    cal := s.bru.cal.map (fun (e : Nat × CalProcess) =>
    match e.2.nextPeriod with
    | some v =>
      if s.cad.state = .unset ∨ s.cad.count.toNat % v.toNat = 0 then (e.1, { e.2 with period := v, nextPeriod := none }) else e
    | none => e) } }

/-- A tick edge (04 R126): the cadence, one µs of throttle accounting, the calibration periods. -/
def execTickEdge (source : W64) (residual : Int) (s : State) : Host.Outcome State Fault Refusal :=
  ok ((s.tickEdge source residual).countThrottle.applyPeriods)

/-! ### Fencing (01 R33-R36, 18 R561) -/

/-- The rails a FENCED region keeps (01 R34). -/
def Region.fencedRails (r : Region) (cause : Nat) (collapse : Bool) : Rails :=
  {
    vlog := false, vsram := false, vstr := false
    vmif := r.pwr.rails.vmif && r.bru.controlOk && cause != 2 && cause != 3 && !collapse
    vlnk := r.pwr.rails.vlnk && decide (r.well.use ≠ 0) && cause != 3 && !collapse }

/-- A region becomes FENCED (01 R33-R35, 18 R561): rails, pages, RCC, its partition's reset, routes. -/
def State.fence (s : State) (i cause : Nat) (collapse : Bool) : State :=
  let r := s.rg i
  let wasReady := decide (r.state = .ready)
  let rails := r.fencedRails cause collapse
  let s1 := s.updR i (fun x => { x with
    state := .fenced, fenceCause := BitVec.ofNat 4 cause,
    osc := { ({} : Osc) with classChanges := x.osc.classChanges, pulls := x.osc.pulls },
    pwr := { x.pwr with rails := rails, alertLull := false, thermalLull := false },
    wellPowered := x.wellPowered && rails.vlnk,
    flt := { x.flt with straggler := false, below := 0, above := 0, rate1 := 0, rate100 := 0, windows := [], rateSum := 0, rateN := 0 } })
  let s2 := { s1 with fw := { s1.fw with rcc := tdel s1.fw.rcc i } }
  let s3 := ((s2.zeroRegionMemory [i]).markLost i)
  let s4 := if r.wellPowered ∧ !rails.vlnk then s3.wellLost i else s3
  let s5 := match r.partition with
    | some n => s4.beginReset n 4
    | none => s4
  let s6 := match r.flt.straggler, r.partition with
    | true, some n => s5.postPart n 0x1005 i
    | _, _ => s5
  if wasReady then (s6.fenceFabric i).routesChange i else s6

/-- A READY region is fenced with FAULT_FENCE (18 R561, T18.12). -/
def State.faultFence (s : State) (i : Nat) (collapse : Bool) : State :=
  let part := match (s.rg i).partition with
    | some n => n
    | none => 0xF
  ({ s with ras := { s.ras with faultFenced := satInc s.ras.faultFenced } }.postModule 0x1003 2 i (pack [(4, 8), (4, part)])).fence i 8 collapse

/-! ### Power-down (16 R520, R523) -/

/-- What remains when the wafer's supplies are gone: the carrier with its flash, the fuses, what the MMC stores (16 R523, 02 R82). -/
def State.waferOff (s : State) : State :=
  { State.reset with
    fixed := s.fixed
    fw := { ({} : Firmware) with images := s.fw.images, qMmc := s.fw.qMmc }
    sec := { ({} : Sec) with fuseSvn := s.sec.fuseSvn, revoked := s.sec.revoked, rootHash := s.sec.rootHash, privLink := s.mgt.privLinkNext }
    rgn := (s.rgn.map (fun e => (e.1, { Region.reset e.1 with
      place := { ({} : Placement) with fuseRecord := e.2.place.fuseRecord, stored := e.2.place.stored, known := e.2.place.known }
      pwr := { ({} : RegionPower) with rcal := e.2.pwr.rcal }
      bru := { ({} : RegionBringup) with rcalFrozen := e.2.bru.rcalFrozen, rcalWindows := e.2.bru.rcalWindows } })))
    pwr := { ({} : Power) with rackW := s.pwr.rackW, peakSet := s.pwr.peakSet, peakW := s.pwr.peakW, coolantW := s.pwr.coolantW }
    mgt := { s.mgt with waferOn := false, powerOnReceived := false }
    flash := s.flash, out := s.out, free := s.free, pending := s.pending }

/-- A power-down starts (16 T16.9 step 1, T16.11): a fast one makes an orderly one in progress fast (16 R523). -/
def State.powerDown (s : State) (fast : Bool) (cause : Nat) : State :=
  if !s.mgt.waferOn then s else
  match s.pwr.down with
  | some d =>
    if fast ∧ !d.fast then
      (s.updPwr (fun p => { p with down := some { d with fast := true, cause := BitVec.ofNat 3 cause } })).logRecord 2 (pack [(1, 1), (3, cause)])
    else if fast then s.logRecord 2 (pack [(1, 1), (3, cause)]) else s
  | none =>
    let s1 := ((s.updPwr (fun p => { p with down := some { fast := fast, cause := BitVec.ofNat 3 cause, step := 1 } })).logRecord 2
      (pack [(1, fast.toNat), (3, cause)])).postModule 0x0E08 0 0 (pack [(1, fast.toNat), (3, cause)])
    if fast then
      let s2 := (List.range 144).foldl (fun t r => if (t.rg r).osc.running then t.enterLull r else t) s1
      let s3 := s2.stopPorts
      if s3.ras.twin.state = .paired then s3.emit (.twin 3 4) else s3
    else (s1.liveParts.foldl (fun t n => t.beginReset n 5) s1).disablePorts

/-- One rail of every region goes off in the order of 16 T16.9; after step 6 the wafer is off. -/
def execPowerDownStep (s : State) : Host.Outcome State Fault Refusal :=
  ok (match s.pwr.down with
    | none => s
    | some d =>
      let next := d.step + 1
      let off := fun (x : Rails) => match next with
        | 2 => { x with vlnk := false }
        | 3 => { x with vlog := false }
        | 4 => { x with vsram := false }
        | 5 => { x with vmif := false }
        | _ => { x with vstr := false }
      let s1 := { s with rgn := s.rgn.map (fun (e : Nat × Region) => (e.1, { e.2 with
        pwr := { e.2.pwr with rails := off e.2.pwr.rails }, wellPowered := e.2.wellPowered && decide (next ≠ 2) })) }
      if 6 ≤ next then s1.waferOff else s1.updPwr (fun p => { p with down := some { d with step := next } }))

/-! ### Alerts, collapses, temperature, coolant (16 R516-R524) -/

/-- VR_ALERT and THERMAL_LIMIT are posted at most once per region per 1 ms (16 R526). -/
def execRegulatorAlert (r : Fin 144) (cause : BitVec 2) (s : State) : Host.Outcome State Fault Refusal :=
  if !(s.rg r).osc.running then ok s else
  let p := (s.rg r).pwr
  let s1 := s.updRP r (fun p => { p with alertOn := true, alertLull := true, alertCause := cause, alertPosted := true })
  let s2 := if p.alertLull then s1 else s1.updPwr (fun q => { q with lullsAlert := q.lullsAlert + 1 })
  let s3 := if p.alertPosted then s2 else s2.postModule 0x0E04 2 r (pack [(2, cause.toNat), (1, 1)])
  ok (s3.enterLull r)

def execRegulatorAlertDeassert (r : Fin 144) (s : State) : Host.Outcome State Fault Refusal :=
  ok (s.updRP r (fun p => { p with alertOn := false }))

def execLullRelease (r : Fin 144) (s : State) : Host.Outcome State Fault Refusal :=
  let p := (s.rg r).pwr
  ok (if p.alertLull ∧ !p.alertOn then
    let s1 := (s.updRP r (fun p => { p with alertLull := false, alertPosted := true })).leaveLull r
    if p.alertPosted then s1 else s1.postModule 0x0E04 2 r (pack [(2, p.alertCause.toNat), (1, 0)])
  else s)

/-- The sequence in progress, as RAIL_FAULT reports it (16 T16.11): kind, step. -/
def State.railSequence (s : State) (r upStep : Nat) : Nat × Nat :=
  match s.pwr.down with
  | some d => (if d.fast then 3 else 2, d.step)
  | none => if (s.rg r).state = .bringup ∧ (s.rg r).bru.step = 1 then (1, upStep) else (0, 0)

/-- A rail collapses (16 R524): every rail off, logged and posted; READY or BRINGUP regions are fenced. -/
def State.railFault (s : State) (r rail upStep : Nat) : State :=
  let q := s.railSequence r upStep
  let data := pack [(3, rail), (2, q.1), (3, q.2)]
  let s1 := ((s.updRP r (fun p => { p with rails := {}, collapsed := true })).logRecord 3
    (pack [(3, rail), (8, r), (2, q.1), (3, q.2), (48, s.tick.toNat)])).postModule 0x0E06 2 r data
  match (s.rg r).state with
  | .ready => (s1.addRecord r 7 none rail).faultFence r true
  | .bringup => (((s1.updR r (fun x => { x with bru := { x.bru with failedStep := x.bru.step, step := 9 } })).fence r 3 true).addRecord r 7 none rail).postModule
      0x0F03 2 r (pack [(4, (s.rg r).bru.step.toNat), (4, 3)])
  | _ => s1.addRecord r 7 none rail

def execRailCollapse (r : Fin 144) (rail upStep : BitVec 3) (s : State) : Host.Outcome State Fault Refusal :=
  ok (if (s.rg r).state = .off then s else s.railFault r rail.toNat upStep.toNat)

/-- An alert held 100 ms without a break is a rail fault of the region (16 R521). -/
def execAlertHeldTimeout (r : Fin 144) (rail : BitVec 3) (s : State) : Host.Outcome State Fault Refusal :=
  ok (if (s.rg r).pwr.alertOn then s.railFault r rail.toNat 0 else s)

/-- A link group's alert turns off its well's lanes; no region enters the lull (16 R521). -/
def execLinkGroupAlert (r : Fin 144) (_cause : BitVec 2) (s : State) : Host.Outcome State Fault Refusal :=
  let q := s.railSequence r 0
  ok (((s.updR r (fun x => { x with wellPowered := false, pwr := { x.pwr with rails := { x.pwr.rails with vlnk := false } } })).wellLost r).postModule
    0x0E06 2 r (pack [(3, 4), (2, q.1), (3, q.2)]))

/-- The hottest READY region (16 T16.15). -/
def State.hottest (s : State) : State :=
  let h := ((List.range 144).filter (fun i => decide ((s.rg i).state = .ready))).foldl
    (fun (b : Nat × Nat) i => if b.2 < (s.rg i).pwr.tempMax.toNat then (i, (s.rg i).pwr.tempMax.toNat) else b) (0, 0)
  s.updPwr (fun p => { p with hotRegion := BitVec.ofNat 8 h.1, hotTemp := BitVec.ofNat 12 h.2 })

/-- The four sensors of a region every 10 µs (16 R516, R517): at or above 93.0 °C the lull state. -/
def execThermalSample (r : Fin 144) (temps : List (BitVec 12)) (s : State) : Host.Outcome State Fault Refusal :=
  let mx := (temps.map (·.toNat)).foldl max 0
  let s1 := (s.updRP r (fun p => { p with sensors := temps, tempMax := BitVec.ofNat 12 mx })).hottest
  let p := (s.rg r).pwr
  ok (if 372 ≤ mx ∧ !p.thermalLull ∧ (s.rg r).osc.running then
    let s2 := (s1.updRP r (fun p => { p with thermalLull := true, thermalPosted := true })).updPwr
      (fun q => { q with lullsThermal := q.lullsThermal + 1 })
    let s3 := if p.thermalPosted then s2 else s2.postModule 0x0E03 2 r (pack [(12, mx), (1, 1)])
    s3.enterLull r
  else s1)

/-- 10 ms at or below 88.0 °C release the lull (16 R517). -/
def execThermalLullRelease (r : Fin 144) (s : State) : Host.Outcome State Fault Refusal :=
  let p := (s.rg r).pwr
  ok (if p.thermalLull ∧ p.tempMax.toNat ≤ 352 then
    let s1 := (s.updRP r (fun p => { p with thermalLull := false, thermalPosted := true })).leaveLull r
    if p.thermalPosted then s1 else s1.postModule 0x0E03 2 r (pack [(12, p.tempMax.toNat), (1, 0)])
  else s)

/-- A sensor at or above 100.0 °C for 1 ms (16 R517). -/
def execThermalTrip (_r : Fin 144) (temps : List (BitVec 12)) (s : State) : Host.Outcome State Fault Refusal :=
  ok (if temps.any (fun t => decide (400 ≤ t.toNat)) then s.powerDown true 4 else s)

/-- COOLANT_W of 16 R518 from 0.01 °C and 0.01 L/min, rounded down. -/
def coolantW (inlet flow : Nat) : Nat :=
  max 8000 (32000 * (min 4800 flow) * (min 1000 (4500 - inlet)) / 4800000)

def State.postCoolant (s : State) (loss : Bool) : State :=
  s.postModule 0x0E07 0 0 (pack [(16, s.pwr.inlet.toNat), (16, s.pwr.flow.toNat), (16, s.pwr.coolantW.toNat), (1, loss.toNat)])

def execCoolantSample (inlet outlet flow : W16) (s : State) : Host.Outcome State Fault Refusal :=
  if !s.mgt.mmcRunning then ok s else
  let w := coolantW inlet.toNat flow.toNat
  let s1 := s.updPwr (fun p => { p with inlet := inlet, outlet := outlet, flow := flow, coolantW := BitVec.ofNat 16 w })
  ok (if w = s.pwr.coolantW.toNat then s1 else s1.postCoolant false |>.setBudget)

/-- Flow below 12 L/min or inlet above 50 °C for 1 s (16 T16.6). -/
def execCoolantLoss (inlet flow : W16) (s : State) : Host.Outcome State Fault Refusal :=
  ok (if flow.toNat < 1200 ∨ 5000 < inlet.toNat then
    ((s.updPwr (fun p => { p with inlet := inlet, flow := flow })).postCoolant true).powerDown true 5
  else s)

/-! ### Register writes and messages (16 R525, R527, R528) -/

def State.writeCeiling (s : State) (r : Nat) (v : BitVec 3) : State :=
  if v = 7 then s else s.updRP r (fun p => { p with ceiling := v })

def execCeilingWrite (k : Fin 4) (r : Fin 144) (value : BitVec 3) (s : State) : Host.Outcome State Fault Refusal :=
  ok (if s.priv = .pf k then s.writeCeiling r value else s)

def State.clearSuspect (s : State) (r : Nat) (bits : W16) : State :=
  s.updRP r (fun p => { p with suspect := p.suspect &&& ~~~bits })

def execSuspectClear (k : Fin 4) (r : Fin 144) (bits : W16) (s : State) : Host.Outcome State Fault Refusal :=
  ok (if s.priv = .pf k then s.clearSuspect r bits else s)

/-- PWR_BUDGET_SET (16 T16.10): payload TARGET, watts. -/
def execPwrBudgetSet (m : Msg) (s : State) : Host.Outcome State Fault Refusal :=
  s.handle .pwr 0x1001 m (fun t =>
    let target := m.u8 0
    let w := m.u32 4
    let fromMmc := decide (m.sender = .peer)
    if !t.isPriv m ∧ !fromMmc then t.reply m 0x1001 1 rNotPermitted []
    else if 2 < target then t.reply m 0x1001 1 rBadArgument []
    else if (target = 0 ∧ !t.isPriv m) ∨ (target ≠ 0 ∧ !fromMmc) then t.reply m 0x1001 1 rNotPermitted []
    else match target with
      | 0 => if budgetRange w then (t.writeHostW w).reply m 0x1001 1 rOK [] else t.reply m 0x1001 1 rBadArgument []
      | 1 =>
        if budgetRange w then ((t.updPwr (fun p => { p with rackW := BitVec.ofNat 16 w })).setBudget).reply m 0x1001 1 rOK []
        else t.reply m 0x1001 1 rBadArgument []
      | _ =>
        if 16000 ≤ w ∧ w ≤ 32000 then
          ((t.updPwr (fun p => { p with peakSet := BitVec.ofNat 16 w, peakW := BitVec.ofNat 16 w }))).reply m 0x1001 1 rOK []
        else t.reply m 0x1001 1 rBadArgument [])

/-- PWR_SHARE_SET: payload partition, GUARANTEE_W. -/
def execPwrShareSet (m : Msg) (s : State) : Host.Outcome State Fault Refusal :=
  s.handle .pwr 0x1002 m (fun t =>
    let n := m.u8 0
    if !t.isPriv m then t.reply m 0x1002 1 rNotPermitted []
    else if 11 < n ∨ (t.pt n).state.isFree ∨ !(t.pt n).powerGuaranteed ∨ 32000 < m.u32 4 then t.reply m 0x1002 1 rBadArgument []
    else (t.updP n (fun p => { p with pwr := { p.pwr with guaranteeW := BitVec.ofNat 16 (m.u32 4) } })).reply m 0x1002 1 rOK [])

/-- PWR_PHASE_PLAN (16 R515): payload partition, phase, tick; a VF plans for its own partition. -/
def execPwrPhasePlan (m : Msg) (s : State) : Host.Outcome State Fault Refusal :=
  s.handle .pwr 0x1003 m (fun t =>
    let n := match m.part with
      | some p => p
      | none => m.u8 0
    let tick : W48 := BitVec.ofNat 48 (m.u64 8)
    let late := decide (t.cad.state ≠ .unset) && decide (resolveTick t.cad.count tick - 200 < t.cad.count.toNat)
    if m.part.isNone ∧ !t.isPriv m then t.reply m 0x1003 1 rNotPermitted []
    else if 11 < n ∨ (t.pt n).state.isFree ∨ 4 < m.u8 1 ∨ late then t.reply m 0x1003 1 rBadArgument []
    else
      let others := (t.pt n).pwr.plans.filter (fun x => x.tick != tick)
      if 16 ≤ others.length then t.reply m 0x1003 1 rNoResource []
      else (t.updP n (fun p => { p with pwr := { p.pwr with
        plans := others ++ [{ phase := BitVec.ofNat 3 (m.u8 1), tick := tick }] } })).reply m 0x1003 1 rOK [])

/-- PWR_CEILING_SET: payload region index, CEILING. -/
def execPwrCeilingSet (m : Msg) (s : State) : Host.Outcome State Fault Refusal :=
  s.handle .pwr 0x1004 m (fun t =>
    if !t.isPriv m then t.reply m 0x1004 1 rNotPermitted []
    else if 143 < m.u8 0 ∨ 6 < m.u8 1 then t.reply m 0x1004 1 rBadArgument []
    else (t.writeCeiling (m.u8 0) (BitVec.ofNat 3 (m.u8 1))).reply m 0x1004 1 rOK [])

/-- PWR_OFF: an orderly power-down; OK at its step 1 (16 R520, R525). -/
def execPwrOff (m : Msg) (s : State) : Host.Outcome State Fault Refusal :=
  s.handle .pwr 0x1005 m (fun t =>
    if !t.isPriv m then t.reply m 0x1005 1 rNotPermitted []
    else (t.powerDown false 1).reply m 0x1005 1 rOK [])

end Sys2Proof.Machine
end

