-- ==== Sys2Proof/Machine/Bringup.lean ====
section
/-! DEFINITION. Secure start-up, the bring-up front, repair and live calibration (02 R71-R76, 01 R26-R39, 17_bringup_and_calibration). -/
namespace Sys2Proof.Machine

def State.updBru (s : State) (f : Bringup → Bringup) : State := { s with bru := f s.bru }
def State.updRB (s : State) (r : Nat) (f : RegionBringup → RegionBringup) : State := s.updR r (fun x => { x with bru := f x.bru })

/-! ### The repair map (01 R26-R31) -/

def recordRow (rec : W128) : Nat := field rec 4 0
def recordCol (rec : W128) (j : Nat) : Nat := field rec (9 + 5 * j) (5 + 5 * j)

/-- A record is valid (01 R29). -/
def recordValid (rec : W128) : Bool :=
  bitAt rec 127 && decide (recordRow rec ≤ 24) && (List.range 24).all (fun j => decide (recordCol rec j ≤ 24))

/-- The order to fence of a record (01 T1.4). -/
def recordFenced (rec : W128) : Bool := bitAt rec 125

/-- Defective tiles of a physical row. -/
def rowDefects (d : List (Nat × Nat)) (pj : Nat) : List (Nat × Nat) := d.filter (fun (x : Nat × Nat) => x.2 == pj)

/-- Physical rows that hold two or more defective tiles. -/
def multiRows (d : List (Nat × Nat)) : List Nat := (List.range 25).filter (fun j => decide (2 ≤ (rowDefects d j).length))

/-- A record is a valid placement for a set of defects (01 R27). -/
def placementValid (rec : W128) (d : List (Nat × Nat)) : Bool :=
  recordValid rec && (List.range 24).all (fun j =>
    let pj := if j < recordRow rec then j else j + 1
    (rowDefects d pj).all (fun (x : Nat × Nat) => x.1 == recordCol rec j))

/-- The placement the RCC derives (01 R28); none when the region is not repairable. -/
def derivePlacement (d : List (Nat × Nat)) : Option W128 :=
  let rec' := fun (row : Nat) => BitVec.ofNat 128 (pack ((5, row) :: (List.range 24).map (fun j =>
    let pj := if j < row then j else j + 1
    (5, match rowDefects d pj with
      | x :: _ => x.1
      | [] => 24)) ++ [(1, 0), (1, 0), (1, 1)]))
  match multiRows d with
  | [] => some (rec' 24)
  | [r] => some (rec' r)
  | _ => none

/-- What step 5 takes (01 R30): the record, its source (01 T1.12), and the fence cause. -/
def chooseRecord (stored fuse : W128) (d : List (Nat × Nat)) : Option (W128 × Nat) × Nat :=
  let pick := if recordValid stored then some (stored, 2) else if recordValid fuse then some (fuse, 1) else none
  let derived := fun (_ : Unit) => match derivePlacement d with
    | some x => (some (x, 3), 0)
    | none => (none, 1)
  match pick with
  | some (x, src) =>
    if recordFenced x then (some (x, src), if (derivePlacement d).isNone then 1 else 7)
    else if placementValid x d then (some (x, src), 0)
    else derived ()
  | none => derived ()

/-- The defects of a region: what its tests found and what the MMC lists (17 R537). -/
def Placement.defects (p : Placement) : List (Nat × Nat) := p.bist ++ p.known.filter (fun x => !p.bist.contains x)

/-- RGN.DEFECTS follows the defects (01 T1.12). -/
def Placement.count (p : Placement) : Placement :=
  { p with defective := BitVec.ofNat 10 p.defects.length, multiRows := BitVec.ofNat 5 (Sys2Proof.Machine.multiRows p.defects).length }

/-- A map comes into use: a change counts (01 R31); a derived one is stored (17 R538). -/
def Placement.take (p : Placement) (rec : W128) (src : Nat) : Placement :=
  { p with
    record := rec, source := BitVec.ofNat 2 src, repairGen := if p.record = rec then p.repairGen else p.repairGen + 1
    stored := if src = 3 then rec else p.stored }

/-! ### Fencing and the front (17 R530-R533) -/

/-- A region has completed step 3 (17 R530, R533). -/
def Region.locked (g : Region) : Bool :=
  decide (g.state = .ready) || (decide (g.state = .bringup) && decide (4 ≤ g.bru.step.toNat) && decide (g.bru.step.toNat ≤ 8))

/-- A region past which the front may move on. -/
def Region.passed (g : Region) : Bool := g.locked || decide (g.state = .fenced) || decide (g.bru.step = 10)

/-- A restart's reply (17 R541): the final state and the fence cause, a byte each. -/
def State.restartReply (s : State) (r : Nat) : State :=
  match (s.rg r).bru.restart with
  | some m => (s.updRB r (fun b => { b with restart := none })).reply m 0x1103 2 rOK
      [if (s.rg r).state = .ready then 2 else 3, BitVec.ofNat 8 (s.rg r).fenceCause.toNat]
  | none => s

/-- A region fails at its bring-up (17 R531): FENCED, posted, its restart answered. -/
def State.bringupFence (s : State) (r cause : Nat) : State :=
  let st := (s.rg r).bru.step.toNat
  let at' := if st = 10 then 3 else st
  let s1 := (s.updRB r (fun b => { b with failedStep := BitVec.ofNat 4 at', step := 9 })).fence r cause false
  (s1.postModule 0x0F03 2 r (pack [(4, at'), (4, cause)])).restartReply r

/-- Step 1 begins in a region (17 R530, R541). -/
def State.beginRegion (s : State) (r ms : Nat) : State :=
  s.updR r (fun g => { g with
    state := .bringup, fenceCause := 0
    pwr := { g.pwr with rails := { ({} : Rails) with vlnk := g.wellPowered && g.pwr.rails.vlnk }, collapsed := false }
    place := { g.place with knownPending := 0 }
    flt := { g.flt with retired := [], slotUe := [], windows := [], rate1 := 0, rate100 := 0 }
    bru := { g.bru with
      step := 1, failedStep := 0, parent := 0xFF, bringups := satInc g.bru.bringups, startMs := BitVec.ofNat 32 ms, readyMs := 0
      controlOk := false, wellReady := false, wellFailed := false, scrubLeft := 0, scrubDone := false, scrubbed := [] } })

/-- The parent a region can take now (17 R532): west, south, north, east; among READY regions in a live bring-up (17 R541). -/
def State.parentOf (s : State) (r : Nat) : Option Nat :=
  if s.phase = .front ∧ r = s.bru.startRegion.toNat then some 0xFE
  else (([2, 3, 1, 0] : List Nat).filterMap (neighbour r)).find? (fun i =>
    if s.phase = .front then (s.rg i).locked else decide ((s.rg i).state = .ready))

/-- A region looks for a parent: step 3 begins, or it is WAITING, or a live bring-up is fenced at once. -/
def State.seekParent (s : State) (r : Nat) : State :=
  match s.parentOf r with
  | some p => s.updRB r (fun b => { b with step := 3, parent := BitVec.ofNat 8 p })
  | none =>
    if s.phase = .front then s.updRB r (fun b => { b with step := 10 })
    else (s.updRB r (fun b => { b with step := 3 })).bringupFence r 4

/-- Every WAITING region that now has a parent begins step 3. -/
def State.serveWaiting (s : State) : State :=
  (List.range 144).foldl (fun t r =>
    if (t.rg r).state = .bringup ∧ (t.rg r).bru.step = 10 ∧ (t.parentOf r).isSome then t.seekParent r else t) s

def columnRegions (c : Nat) : List Nat := (List.range 12).map (fun y => 12 * y + c)

/-- The front moves on one column; past column 11 the regions still WAITING are fenced once none is in steps 1 to 3 (17 R530, R532). -/
def State.advanceFront (s : State) (ms : Nat) : State :=
  if s.phase ≠ .front then s
  else
    let s1 := s.serveWaiting
    let c := s1.bru.frontCol.toNat
    if !(columnRegions c).all (fun r => (s1.rg r).passed) then s1
    else if c < 11 then
      (columnRegions (c + 1)).foldl (fun t r => t.beginRegion r ms) (s1.updBru (fun b => { b with frontCol := BitVec.ofNat 4 (c + 1) }))
    else
      let s2 := s1.updBru (fun b => { b with frontDone := true })
      if (List.range 144).any (fun r => decide ((s2.rg r).state = .bringup) && decide ((s2.rg r).bru.step.toNat ≤ 3)) then s2
      else (List.range 144).foldl (fun t r =>
        if (t.rg r).state = .bringup ∧ (t.rg r).bru.step = 10 then t.bringupFence r 4 else t) s2

/-! ### Ports and links at start (17 T17.2, 12 R406) -/

/-- A well's test is decided: passed, failed, or lost with its region before step 8. -/
def State.wellSettled (s : State) (w : Nat) : Bool :=
  (s.rg w).bru.wellReady || (s.rg w).bru.wellFailed || decide ((s.rg w).state = .fenced)

def State.wellGood (s : State) (w : Nat) : Bool := (s.rg w).bru.wellReady && !(s.rg w).bru.wellFailed

/-- A stored relocation is applied before the port trains (12 R406). -/
def State.applyRelocation (s : State) (p q : Nat) : State :=
  match tfind s.mgt.relocations (2 * p + q) with
  | none => s
  | some w =>
    let old := (s.port p).cur q
    if old = w ∨ (s.port p).phase ≠ .disabled then s
    else
      let s1 := s.updR old (fun g => { g with well := {}, wellPowered := false, pwr := { g.pwr with rails := { g.pwr.rails with vlnk := false } } })
      let s2 := s1.updR w (fun g => { g with well := useOf p q, wellPowered := true, pwr := { g.pwr with rails := { g.pwr.rails with vlnk := true } } })
      s2.updPort p (fun x => { x with cur0 := if q = 0 then w else x.cur0, cur1 := if q = 0 then x.cur1 else w })

/-- A port trains once the wells of both its quarters are ready, or a failed quarter has moved or been given up (17 T17.2, 12 R406). -/
def State.startPort (s : State) (p : Nat) : State :=
  let x := s.port p
  if s.portAbsent p ∨ x.phase ≠ .disabled ∨ !x.enable then s
  else if s.wellGood x.cur0 ∧ s.wellGood x.cur1 then s.toDetect p
  else if !(s.wellSettled x.cur0 && s.wellSettled x.cur1) then s
  else
    let q := if s.wellGood x.cur0 then 1 else 0
    match s.candidate p q with
    | some w => if s.schRuns then s.startMove p q w none else s
    | none =>
      if !(candidates (homeQuarter p q)).all s.wellSettled then s
      else if x.allowX4 ∧ s.wellGood (x.cur (1 - q)) then (s.updPort p (fun y => { y with forced := some (1 - q) })).toDetect p
      else s.portDown p 4

/-- Stored relocations, then training, for every port whose wells have settled. -/
def State.startPorts (s : State) : State :=
  (List.range 38).foldl (fun t p => ((t.applyRelocation p 0).applyRelocation p 1).startPort p) s

/-! ### Steps of a region (17 R531, T17.1) -/

/-- The rails come up to the lull values; VLNK where the well carries a powered port (16 R522, T16.8). -/
def State.rampDone (s : State) (r : Nat) : State :=
  let g := s.rg r
  let link := decide (g.well.use ≠ 0) && !absentUse s g.well
  s.updR r (fun g => { g with
    wellPowered := link
    pwr := ({ g.pwr with
      rails := { vlog := true, vsram := true, vstr := true, vmif := true, vlnk := link }
      vlogSet := 2480, vsramSet := 2800 }).setWindow 7 })

/-- The node locks and the RCC runs: class 7, and the limits hold against its neighbours from now on (17 R532, R533, T17.1 step 3). -/
def State.lockDone (s : State) (r : Nat) (trims : BitVec 12) : State :=
  let s1 := s.updR r (fun g => { g with
    osc := { g.osc with running := true, cls := 7, target := 7, decided := 7, lull := false, pulled := false }
    bru := { g.bru with step := 4, vlogTrim := trims.setWidth 6, vsramTrim := (trims >>> 6).setWidth 6 } })
  let s2 := s1.updFw (fun f => { f with rcc := tset f.rcc r { state := .running, slot := s.sec.rccSlot } })
  (s2.openCrossings r).ripple false 5

/-- Links to neighbours that have completed step 6 join on both sides, and the service point (17 T17.1 step 6). -/
def State.meshDone (s : State) (r : Nat) : State :=
  (List.range 4).foldl (fun t d => match neighbour r d with
    | none => t
    | some i =>
      let g := t.rg i
      if g.state = .ready ∨ (g.state = .bringup ∧ 7 ≤ g.bru.step.toNat ∧ g.bru.step.toNat ≤ 8) then
        (t.updFab r (fun f => { f with linkUp := withBit f.linkUp d true })).updFab i
          (fun f => { f with linkUp := withBit f.linkUp ((d + 2) % 4) true })
      else t) (s.updFab r (fun f => { f with svcUp := true }))

def State.takeRecord (s : State) (r : Nat) : Option (W128 × Nat) → State
  | some x => s.updR r (fun g => { g with place := g.place.take x.1 x.2 })
  | none => s

/-- Step 5: the record, or the fence it orders (01 R30, R33). -/
def State.repairDone (s : State) (r : Nat) : State :=
  let c : Option (W128 × Nat) × Nat := chooseRecord (s.rg r).place.stored (s.rg r).place.fuseRecord (s.rg r).place.defects
  let s1 : State := s.takeRecord r c.1
  if 0 < c.2 then s1.bringupFence r c.2
  else
    let s2 := s1.updRB r (fun b => { b with step := 6 })
    if (s2.rg r).place.source = 3 then s2.postModule 0x0F04 2 r (s2.rg r).place.repairGen.toNat else s2

/-- Step 7: slices that fail training mark their tiles; the placement is derived again or the region is fenced (17 R544). -/
def State.trainDone (s : State) (r : Nat) (d : List (Nat × Nat)) : State :=
  let s1 := s.updR r (fun g => { g with
    place := ({ g.place with bist := g.place.bist ++ d.filter (fun x => !g.place.bist.contains x) }).count })
  let p := (s1.rg r).place
  if placementValid p.record p.defects then s1.updRB r (fun b => { b with step := 8 })
  else match derivePlacement p.defects with
    | none => s1.bringupFence r 5
    | some x =>
      let s2 := s1.updR r (fun g => { g with place := g.place.take x 3, bru := { g.bru with step := 8 } })
      s2.postModule 0x0F04 2 r (s2.rg r).place.repairGen.toNat

/-- Step 8 ends: READY, the scrub begins, the ports that waited for the well train (17 R531, R535, R541, R545). -/
def State.regionReady (s : State) (r ms : Nat) (wellOk : Bool) : State :=
  let s1 := s.updR r (fun g => { g with
    state := .ready
    bru := { g.bru with
      step := 9, wellReady := wellOk, wellFailed := !wellOk, readyMs := BitVec.ofNat 32 ms
      scrubLeft := 221184, scrubDone := false, scrubbed := [] } })
  let s2 := if s1.fabricReady then (s1.postModule 0x0F05 2 r (ms - (s1.rg r).bru.startMs.toNat)).routesChange 0xFF else s1
  s2.restartReply r

/-- A region completes its step in progress, with what the step found. -/
def State.stepDone (s : State) (r ms : Nat) (d : List (Nat × Nat)) (trims : BitVec 12) : State :=
  match (s.rg r).bru.step.toNat with
  | 1 => (s.rampDone r).updRB r (fun b => { b with step := 2 })
  | 2 => (s.updRB r (fun b => { b with controlOk := true })).seekParent r
  | 3 => s.lockDone r trims
  | 4 => ((s.zeroRegionMemory [r]).updR r (fun g => { g with place := ({ g.place with bist := d }).count })).updRB r (fun b => { b with step := 5 })
  | 5 => s.repairDone r
  | 6 => (s.meshDone r).updRB r (fun b => { b with step := 7 })
  | 7 => s.trainDone r d
  | 8 => s.regionReady r ms true
  | _ => s

/-- The causes a failing step may give (17 T17.1). -/
def stepCause (step cause : Nat) : Bool :=
  match step with
  | 1 => cause == 3
  | 2 => cause == 2
  | 3 => cause == 2 || cause == 4
  | 6 => cause == 6
  | _ => false

def execRegionBringupStep (r : Fin 144) (res : StepResult) (ms : Nat) (s : State) : Host.Outcome State Fault Refusal :=
  if (s.rg r).state ≠ .bringup then ok s
  else
    let st := (s.rg r).bru.step.toNat
    ok (((match res with
      | .done d trims => s.stepDone r ms d trims
      | .failed c d =>
        if st = 8 then s.regionReady r ms false
        else if st = 7 then (s.trainDone r d)
        else if stepCause st c.toNat then s.bringupFence r c.toNat
        else s).advanceFront ms).startPorts)

/-- The fence cause of a step that misses its limit. -/
def timeoutCause (step : Nat) : Option Nat :=
  match step with
  | 1 => some 3
  | 2 => some 2
  | 3 => some 4
  | 5 => some 1
  | 6 => some 6
  | 7 => some 5
  | _ => none

/-- A step is not done within its limit (17 R531); step 8 fails the well alone, steps 4 and 10 have no failure. -/
def execBringupStepTimeout (r : Fin 144) (ms : Nat) (s : State) : Host.Outcome State Fault Refusal :=
  if (s.rg r).state ≠ .bringup then ok s
  else
    let st := (s.rg r).bru.step.toNat
    let s1 := if st = 8 then s.regionReady r ms false else match timeoutCause st with
      | some c => s.bringupFence r c
      | none => s
    ok ((s1.advanceFront ms).startPorts)

/-! ### Secure start-up (02 R73-R75, 01 R39) -/

/-- The MMC releases SEC: the boot link enters at the southernmost region of column 0 that answers (01 R39, 02 T2.11 step 1). -/
def execSecRelease (answering : BitVec 12) (s : State) : Host.Outcome State Fault Refusal :=
  if !s.mgt.waferOn ∨ s.phase ≠ .powerOn then ok s
  else
    let start := match (List.range 12).find? (fun y => bitAt answering y) with
      | some y => BitVec.ofNat 8 (12 * y)
      | none => 0xFF
    ok ({ s with
      phase := .boot, bru := { s.bru with startRegion := start, fwRegion := start }
      sec := { s.sec with boot := .rom, awaiting := 1, awaitB := false } })

/-- The front starts at column 0 (17 R530). -/
def State.startFront (s : State) (ms : Nat) : State :=
  (columnRegions 0).foldl (fun t r => t.beginRegion r ms) { s with phase := .front, bru := { s.bru with frontCol := 0 } }

/-- An image kind fails in this slot (02 R74, R75): slot B next, or BOOT_FAIL. -/
def State.imageFailed (s : State) (code : Nat) : State :=
  if !s.sec.awaitB then { s with sec := { s.sec with failCode := BitVec.ofNat 8 code, awaitB := true } }
  else
    ({ s with phase := .bootFail, sec := { s.sec with failCode := BitVec.ofNat 8 code, boot := .bootFail, awaiting := 0 } }).logRecord 1
      (pack [(8, s.sec.awaiting), (8, code)])

/-- An image passes: it starts, and SEC goes on to the next kind; after the RCC image the front starts (02 T2.11). -/
def State.imageStarts (s : State) (kind : Nat) (slot : Bool) (img : Image) (ms : Nat) : State :=
  let s1 := ({ s with fw := { s.fw with images := tset s.fw.images (imageKey kind slot) img } }).runImage kind slot
  let s2 := match kind with
    | 1 => { s1 with
        sec := { s1.sec with boot := .verify }
        fw := { s1.fw with sec := { s1.fw.sec with state := .running, slot := slot, startMs := ms } } }
    | 2 => s1.updFw (fun f => { f with pwr := { f.pwr with state := .running, slot := slot, startMs := ms } })
    | 3 => s1.updFw (fun f => { f with sch := { f.sch with state := .running, slot := slot, startMs := ms } })
    | _ => { s1 with sec := { s1.sec with boot := .running } }
  let s3 := { s2 with sec := { s2.sec with awaiting := if kind = 4 then 0 else kind + 1, awaitB := false } }
  if kind = 4 then s3.startFront ms else s3

def execBootImageReceive (kind : Fin 4) (slot : Bool) (img : ImageIn) (ms : Nat) (s : State) : Host.Outcome State Fault Refusal :=
  let k := kind.val + 1
  if s.phase ≠ .boot ∨ s.sec.awaiting ≠ k ∨ s.sec.awaitB ≠ slot then ok s
  else
    let c := s.sec.verify k img
    ok (if c = 0 then s.imageStarts k slot img.image ms else s.imageFailed c)

/-- A boot link that delivers nothing for 100 ms (02 R75). -/
def execBootLinkTimeout (kind : Fin 4) (slot : Bool) (s : State) : Host.Outcome State Fault Refusal :=
  ok (if s.phase = .boot ∧ s.sec.awaiting = kind.val + 1 ∧ s.sec.awaitB = slot then s.imageFailed 7 else s)

/-! ### FABRIC_READY and FULL_READY (17 R534, R535, R542) -/

/-- The firmware areas move from a fenced start region; dumps written before are lost (17 R542). -/
def State.moveFwRegion (s : State) : State :=
  let f := s.bru.fwRegion.toNat
  if f < 144 ∧ (s.rg f).state = .ready then s
  else match (List.range 144).find? (fun r => decide ((s.rg r).state = .ready)) with
    | none => s
    | some r =>
      let lose := fun (c : Core) => { c with dumpValid := false, dump := none }
      { s with
        bru := { s.bru with fwRegion := BitVec.ofNat 8 r }
        fw := { s.fw with sec := lose s.fw.sec, pwr := lose s.fw.pwr, sch := lose s.fw.sch } }

def State.fabricIsReady (s : State) (ms : Nat) : State :=
  let ready := (List.range 144).filter (fun r => decide ((s.rg r).state = .ready))
  let s1 : State := (List.range 144).foldl (fun (u : State) r => u.updFab r (fun f => { f with routeGen := f.routeGen + 1 })) { s with
    routeSet := some ready, phase := .fabricReady, bru := { s.bru with fabricMs := BitVec.ofNat 32 ms } }
  let s2 : State := s1.moveFwRegion.postModule 0x0F01 0 0 ms
  if s2.cad.state = .unset ∧ s2.cad.sourceMode = 3 then s2.startLocal 0 else s2

def execFabricReady (ms : Nat) (s : State) : Host.Outcome State Fault Refusal :=
  ok (if s.phase = .front ∧ s.schRuns ∧
      (List.range 144).all (fun r => decide ((s.rg r).state = .ready) || decide ((s.rg r).state = .fenced)) then
    s.fabricIsReady ms
  else s)

/-- A Barior port that is powered has reached the state T17.2 gives. -/
def State.bariorDone (s : State) (p : Nat) : Bool :=
  let x := s.port p
  match x.phase with
  | .active => true
  | .down => true
  | .detect => x.failCause == 1
  | .disabled => !x.enable
  | _ => false

/-- A Barior port is powered: the well of a quarter is, and its option is fitted. -/
def State.bariorPowered (s : State) (p : Nat) : Bool :=
  !s.portAbsent p && ((s.rg (s.port p).cur0).wellPowered || (s.rg (s.port p).cur1).wellPowered)

/-- A host link is powered; it is done once up, or 10 s after its four wells became ready (17 T17.2). -/
def State.hostPending (s : State) (k ms : Nat) : Bool :=
  let ws := wellsOf 4 (some k)
  ws.any (fun r => (s.rg r).wellPowered) && !s.bru.hostDone.getLsbD k &&
    !(ws.all (fun r => (s.rg r).bru.wellReady && decide ((s.rg r).bru.readyMs.toNat + 10000 ≤ ms)))

/-- A flash link is powered and neither up nor failed (17 T17.2). -/
def State.flashPending (s : State) (f : Nat) : Bool :=
  (wellsOf 5 (some f)).any (fun r => (s.rg r).wellPowered) && !s.bru.flashDone.getLsbD f

def State.linksDone (s : State) (ms : Nat) : Bool :=
  (List.range 38).all (fun p => !s.bariorPowered p || s.bariorDone p) && (List.range 4).all (fun k => !s.hostPending k ms) &&
    (List.range 8).all (fun f => !s.flashPending f)

def State.fullIsReady (s : State) (ms : Nat) (incomplete : Bool) : State :=
  ({ s with phase := .fullReady, bru := { s.bru with fullMs := BitVec.ofNat 32 ms, incomplete := incomplete } }).postModule 0x0F02 0 0
    (pack [(32, ms), (1, incomplete.toNat)])

def execFullReady (ms : Nat) (s : State) : Host.Outcome State Fault Refusal :=
  ok (if s.phase = .fabricReady ∧ s.linksDone ms ∧
      (List.range 144).all (fun r => decide ((s.rg r).state ≠ .ready) || (s.rg r).bru.scrubDone) then s.fullIsReady ms false
  else s)

/-- 90 s after SEC's release (17 R535). -/
def execFullReadyTimeout (s : State) : Host.Outcome State Fault Refusal :=
  ok (if s.phase = .front ∨ s.phase = .fabricReady then s.fullIsReady 90000 true else s)

/-- A flash link trains up with its controller (17 T17.2). -/
def execFlashLinkUp (f : Fin 8) (s : State) : Host.Outcome State Fault Refusal :=
  ok (if s.hasFlash ∧ (wellsOf 5 (some f)).all (fun r => s.wellGood r) then
    s.updBru (fun b => { b with flashUp := withBit b.flashUp f true, flashDone := withBit b.flashDone f true }) else s)

/-- A flash link goes down or fails; fetches go on over the links that are up (10 R326). -/
def execFlashLinkDown (f : Fin 8) (s : State) : Host.Outcome State Fault Refusal :=
  ok (if s.hasFlash then
    s.updBru (fun b => { b with flashUp := withBit b.flashUp f false, flashDone := withBit b.flashDone f true }) else s)

/-! ### Scrub (17 R545) -/

/-- The region control block scrubs the next slot of a slice, ascending. -/
def execScrubBackground (r : Fin 144) (tile : Fin 576) (slot : Fin 384) (s : State) : Host.Outcome State Fault Refusal :=
  let b := (s.rg r).bru
  ok (if (s.rg r).state = .ready ∧ b.scrubLeft ≠ 0 ∧
      (List.range slot).all (fun k => b.scrubbed.contains (tile.val * 384 + k)) then
    s.touchSlot ((r.val / 12 * 24 + tile.val / 24) * 288 + r.val % 12 * 24 + tile.val % 24) (slot.val * 0x8000)
  else s)

/-! ### Live calibration (17 R546-R550) -/

def State.cal (s : State) (p : Nat) : CalProcess := tget {} s.bru.cal p
def State.updCal (s : State) (p : Nat) (f : CalProcess → CalProcess) : State :=
  s.updBru (fun b => { b with cal := tset b.cal p (f (tget {} b.cal p)) })

/-- A unit completes a slot; STALE clears when every unit has (17 R549, T17.7). -/
def State.calDone (s : State) (p u : Nat) : State :=
  s.updCal p (fun c =>
    let l := c.staleUnits.filter (fun x => x != u)
    { c with slots := c.slots + 1, staleUnits := l, stale := c.stale && !l.isEmpty })

def State.calSkip (s : State) (p : Nat) : State := s.updCal p (fun c => { c with skipped := c.skipped + 1 })

/-- The unit of a region takes a slot: READY, its RCC running (17 R549, 18 R562). -/
def State.calTakes (s : State) (r : Nat) : Bool :=
  decide ((s.rg r).state = .ready) && decide ((tget {} s.fw.rcc r).state = .running)

/-- A slice that fails calibration (17 R547): known defect, record, CAL_FAIL. -/
def State.stratusFail (s : State) (r tile : Nat) : State :=
  let ij := (tile % 24, tile / 24)
  let s1 := s.updRB r (fun b => { b with fails := satInc b.fails })
  ((s1.addRecord r 5 (some ij) 0).postRegion r 0x0F06 (pack [(2, 0), (6, 0), (5, ij.1), (3, 0), (5, ij.2)])).addKnown r ij 4

def execStratusCalSlot (r : Fin 144) (margin : W16) (applied : Bool) (failing : List (Fin 576)) (s : State) :
    Host.Outcome State Fault Refusal :=
  ok (if !(s.cal 0).en then s
  else if !s.calTakes r then s.calSkip 0
  else
    let s1 := (s.calDone 0 r).updRB r (fun b => { b with marginMin := margin, applied := if applied then b.applied + 1 else b.applied })
    failing.foldl (fun (t : State) i => t.stratusFail r i.val) s1)

/-- The lanes of a port whose eye margin stayed below its limit in three consecutive slots retrain it (17 R547). -/
def execSerdesCalSlot (u : Fin 46) (lowLanes : List (Fin 8)) (s : State) : Host.Outcome State Fault Refusal :=
  let up := if u.val < 38 then s.portActive u else s.bru.flashUp.getLsbD (u.val - 38)
  ok (if !(s.cal 1).en then s
  else if !up then s.calSkip 1
  else
    let s1 := s.calDone 1 u
    let runs := (List.range 8).map (fun l =>
      (8 * u.val + l, if lowLanes.any (fun x => x.val == l) then tget 0 s.bru.serdesLow (8 * u.val + l) + 1 else 0))
    let hit := runs.any (fun (e : Nat × Nat) => decide (3 ≤ e.2))
    let s2 := s1.updBru (fun b => { b with
      serdesLow := runs.foldl (fun (t : List (Nat × Nat)) (e : Nat × Nat) => if hit ∨ e.2 = 0 then tdel t e.1 else tset t e.1 e.2) b.serdesLow })
    if hit ∧ u.val < 38 then s2.retrain u 0 true else s2)

/-- The offset of the next sensor in turn is renewed (17 R547). -/
def execVsenseCalSlot (r : Fin 144) (offset : BitVec 8) (s : State) : Host.Outcome State Fault Refusal :=
  let b := (s.rg r).bru
  let k := if b.offsets.isEmpty then 0 else (b.lastSensor.toNat + 1) % 16
  ok (if !(s.cal 2).en then s
  else if !s.calTakes r then s.calSkip 2
  else (s.calDone 2 r).updRB r (fun b => { b with lastSensor := BitVec.ofNat 4 k, offsets := tset b.offsets k offset.toInt }))

/-- WORST_OFFSET: the offset in force of largest magnitude (17 T17.10). -/
def RegionBringup.worstOffset (b : RegionBringup) : Int :=
  b.offsets.foldl (fun (w : Int) (e : Nat × Int) => if w.natAbs < e.2.natAbs then e.2 else w) 0

/-- The node's trim moves by up to 1 ppm (17 R547); not during a class change (17 T17.11). -/
def execOscCalSlot (r : Fin 144) (delta : BitVec 16) (s : State) : Host.Outcome State Fault Refusal :=
  let o := (s.rg r).osc
  ok (if !(s.cal 3).en ∨ 10 < delta.toInt.natAbs then s
  else if !s.calTakes r ∨ o.changing then s.calSkip 3
  else (s.calDone 3 r).updRB r (fun b => { b with
    trim := b.trim + delta, trimSteps := if delta = 0 then b.trimSteps else b.trimSteps + 1 }))

/-- A unit has completed no slot for too long (17 R549): 144 regions, or 46 ports and flash links. -/
def execCalStale (p : Fin 4) (u : Byte) (s : State) : Host.Outcome State Fault Refusal :=
  if (if p.val = 1 then 46 else 144) ≤ u.toNat then ok s
  else
    let c := s.cal p
    let s1 := s.updCal p (fun c => { c with stale := true, staleUnits := if c.staleUnits.contains u.toNat then c.staleUnits else c.staleUnits ++ [u.toNat] })
    ok (if c.stale then s1 else s1.postModule 0x0F07 0 0 (pack [(2, p.val), (6, 0), (8, u.toNat)]))

/-- The range of a period (17 T17.3). -/
def periodRange (p : Nat) : Nat × Nat :=
  match p with
  | 0 => (10000, 1000000)
  | 1 => (1000, 1000000)
  | 2 => (62500, 6250000)
  | _ => (100000, 10000000)

def State.writePeriod (s : State) (p : Nat) (v : W32) : State :=
  let l := periodRange p
  if l.1 ≤ v.toNat ∧ v.toNat ≤ l.2 then s.updCal p (fun c => { c with nextPeriod := some v }) else s

def execPeriodCtWrite (k : Fin 4) (p : Fin 4) (value : W32) (s : State) : Host.Outcome State Fault Refusal :=
  ok (if s.priv = .pf k then s.writePeriod p value else s)

/-! ### Messages (17 R539, R541, R548, R551) -/

/-- The pairs of BRU_REPAIR_SET: the count stands at byte 24, the list at 32. -/
def Msg.pairs (m : Msg) : List (Nat × Nat) := (List.range (m.u8 24)).map (fun k => (m.u8 (32 + 2 * k), m.u8 (33 + 2 * k)))

def execBruRepairSet (m : Msg) (s : State) : Host.Outcome State Fault Refusal :=
  s.handle .sch 0x1101 m (fun t =>
    let r := m.u8 0
    let fl := BitVec.ofNat 8 (m.u8 1)
    let rec' := BitVec.ofNat 128 (leNat ((List.range 16).map (fun k => byteAt m.payload (8 + k))))
    if !t.isPriv m then t.reply m 0x1101 2 rNotPermitted []
    else if 143 < r ∨ 64 < m.u8 24 ∨ (fl.getLsbD 0 ∧ bitAt rec' 127 ∧ !recordValid rec') ∨
        m.pairs.any (fun (x : Nat × Nat) => decide (24 < x.1) || decide (24 < x.2)) then t.reply m 0x1101 2 rBadArgument []
    else
      let p := (t.rg r).place
      let base := if fl.getLsbD 1 then [] else p.known
      let known := if fl.getLsbD 2 then m.pairs.foldl (fun l x => if l.contains x then l else l ++ [x]) base else base
      if 64 < known.length then t.reply m 0x1101 2 rNoResource []
      else (t.updR r (fun g => { g with place := { g.place with
        known := known, stored := if fl.getLsbD 0 then (if bitAt rec' 127 then rec' else 0) else p.stored } })).reply m 0x1101 2 rOK [])

def execBruRepairGet (m : Msg) (s : State) : Host.Outcome State Fault Refusal :=
  s.handle .sch 0x1102 m (fun t =>
    let r := m.u8 0
    if !t.isPriv m then t.reply m 0x1102 2 rNotPermitted []
    else if 143 < r then t.reply m 0x1102 2 rBadArgument []
    else
      let p := (t.rg r).place
      t.reply m 0x1102 2 rOK (leBytes 16 p.fuseRecord.toNat ++ leBytes 16 p.stored.toNat ++ leBytes 16 p.record.toNat ++
        leBytes 8 p.known.length ++ (p.known.map (fun (x : Nat × Nat) => leBytes 1 x.1 ++ leBytes 1 x.2)).flatten))

def execBruRegionRestart (m : Msg) (ms : Nat) (s : State) : Host.Outcome State Fault Refusal :=
  s.handle .sch 0x1103 m (fun t =>
    let r := m.u8 0
    if !t.isPriv m then t.reply m 0x1103 2 rNotPermitted []
    else if 143 < r then t.reply m 0x1103 2 rBadArgument []
    else
      let g := t.rg r
      let may := decide (g.state = .fenced) || (decide (g.state = .ready) && g.partition.isNone)
      if !may ∨ r = t.bru.fwRegion.toNat then t.reply m 0x1103 2 rBusy []
      else
        let t1 := if g.state = .ready then t.fence r 7 false else t
        (t1.beginRegion r ms).updRB r (fun b => { b with restart := some m }))

/-- rcal is learned again (17 R548). -/
def execBruRcalReset (m : Msg) (s : State) : Host.Outcome State Fault Refusal :=
  s.handle .sch 0x1104 m (fun t =>
    let r := m.u8 0
    if !t.isPriv m then t.reply m 0x1104 2 rNotPermitted []
    else if 143 < r ∧ r ≠ 0xFF then t.reply m 0x1104 2 rBadArgument []
    else ((if r = 0xFF then List.range 144 else [r]).foldl (fun (u : State) i => u.updR i (fun g => { g with
      pwr := { g.pwr with rcal := [] }
      bru := { g.bru with rcalFrozen := false, rcalWindows := 0, rcalSums := [] } })) t).reply m 0x1104 2 rOK [])

end Sys2Proof.Machine
end

