-- ==== Sys2Proof/Machine/Twin.lean ====
section
/-! DEFINITION. Twin pairing: pairs, bindings, mirror data and points, losses and failover (18_faults_and_availability R568-R577). -/
namespace Sys2Proof.Machine

def State.updTwin (s : State) (f : Twin → Twin) : State := { s with ras := { s.ras with twin := f s.ras.twin } }
def State.updMirror (s : State) (n : Nat) (f : Mirror → Mirror) : State := s.updP n (fun p => { p with mirror := f p.mirror })
def State.mir (s : State) (n : Nat) : Mirror := (s.pt n).mirror

/-- Bindings that are not UNBOUND. -/
def State.bindings (s : State) : List Nat := (List.range 12).filter (fun n => decide ((s.mir n).bstate ≠ .unbound))

def State.twinActive (s : State) : Bool := s.portActive 36 || s.portActive 37

/-- A twin message of the privileged PF on a module that has a twin (18 R579, 00 R5). -/
def State.twinMsg (s : State) (id : Nat) (m : Msg) (f : State → State) : Host.Outcome State Fault Refusal :=
  s.handle .sch id m (fun t =>
    if !t.isPriv m then t.reply m id 2 rNotPermitted []
    else if !t.hasTwin then t.reply m id 2 rBadArgument []
    else f t)

/-! ### The pair (18 R568) -/

/-- RAS_TWIN_PAIR: payload the partner's global ID. -/
def execRasTwinPair (m : Msg) (s : State) : Host.Outcome State Fault Refusal :=
  s.twinMsg 0x1202 m (fun t =>
    let w := t.ras.twin
    if 2 ^ 18 ≤ m.u32 0 then t.reply m 0x1202 2 rBadArgument []
    else if !t.tor.idValid ∨ (w.state ≠ .unpaired ∧ w.state ≠ .broken) ∨ !t.bindings.isEmpty ∨ (tfind t.portOwner 36).isSome ∨
        (tfind t.portOwner 37).isSome then t.reply m 0x1202 2 rBusy []
    else (t.updTwin (fun _ => ({ state := .pairing, partner := BitVec.ofNat 18 (m.u32 0), pairMsg := some m } : Twin))).emit (.twin 1 (m.u32 0)))

/-- The partner has named this module; the pair forms once a twin port is ACTIVE with that partner. -/
def execTwinPaired (partner : BitVec 18) (s : State) : Host.Outcome State Fault Refusal :=
  let w := s.ras.twin
  let linked := fun (p : Nat) => s.portActive p && (s.port p).kind == 4 && (s.port p).partnerId.toNat == partner.toNat
  ok (if w.state = .pairing ∧ w.partner = partner ∧ (linked 36 ∨ linked 37) then
    let s1 := (s.updTwin (fun x => { x with state := .paired, pairMsg := none })).postModule 0x1006 0 0 partner.toNat
    match w.pairMsg with
    | some m => s1.reply m 0x1202 2 rOK []
    | none => s1
  else s)

def execPairingTimeout (s : State) : Host.Outcome State Fault Refusal :=
  ok (if s.ras.twin.state = .pairing then
    let s1 := s.updTwin (fun x => { x with state := .unpaired, pairMsg := none })
    match s.ras.twin.pairMsg with
    | some m => s1.reply m 0x1202 2 rNoResource []
    | none => s1
  else s)

/-! ### A pair breaks (18 R574, R575) -/

/-- A binding in BINDING returns to UNBOUND with a reply. -/
def State.bindFails (s : State) (n result : Nat) : State :=
  match (s.mir n).bstate, (s.mir n).bindMsg with
  | .binding, some m => (s.freeMirror n).reply m 0x1204 2 result []
  | .binding, none => s.freeMirror n
  | _, _ => s

/-- A standby maps its committed bank, frees the other and posts TWIN_FAILOVER (18 R575). -/
def State.failover (s : State) (n : Nat) : State :=
  let m := s.mir n
  let k := m.bankPages.toNat
  let c := m.committed.toNat
  let keep := m.pages.filter (fun (e : Nat × Nat) => e.1 / max 1 k == c)
  let drop := m.pages.filter (fun (e : Nat × Nat) => e.1 / max 1 k != c)
  let s1 := s.updMirror n (fun x => { x with bstate := .failedOver, pages := [] })
  let s2 := s1.updM n (fun y => { y with
    pages := (List.range k).foldl (fun l j =>
      tset l (m.base.toNat / pageSize + j) ({ ppa := tfind keep (c * k + j) } : Pte)) y.pages })
  let s3 := drop.foldl (fun (u : State) (e : Nat × Nat) => (u.zeroPage e.2).freeSlot e.2) s2
  (s3.quotaCheck n).postPart n 0x1008 (pack [(64, m.label.toNat), (48, m.tick.toNat)])

/-- A MIRROR in progress ends PAIR_BROKEN (18 R572, R573). -/
def State.endMirrors (s : State) (n : Nat) : State :=
  (s.ops.filter (fun o => o.part == n && o.opcode == 0x51 && decide (o.st = .started) && (tfind s.opProg o.id).isSome)).foldl
    (fun (u : State) o => u.failOp o 8 0x153) s

/-- The pair breaks with a cause (18 T18.8): bindings BROKEN, or standbys fail over under causes 2, 3 and 4. -/
def State.breakPair (s : State) (cause : Nat) : State :=
  let l := s.bindings
  let s1 := (s.updTwin (fun w => { w with
    state := .broken, breakCause := BitVec.ofNat 4 cause, losing := false, probeAnswered := false, binds := [], handover := none, handoverOps := [] })).postModule
    0x1007 0 0 (pack [(4, cause), (14, l.length)])
  l.foldl (fun (u : State) n =>
    match (u.mir n).bstate with
    | .binding => u.bindFails n rBusy
    | .bound =>
      if (u.mir n).role = 2 ∧ (cause = 2 ∨ cause = 3 ∨ cause = 4) then u.failover n
      else (u.updMirror n (fun x => { x with bstate := .broken })).endMirrors n
    | _ => u) s1

/-- The handover waits for the MIRRORs started before it (18 R576). The twin's acknowledgment comes with the BREAK. -/
def State.tryHandover (s : State) : State :=
  match s.ras.twin.handover with
  | none => s
  | some m =>
    if s.ops.any (fun o => s.ras.twin.handoverOps.contains o.id && decide (o.st = .started)) then s
    else if !s.twinActive then (s.updTwin (fun w => { w with handover := none, handoverOps := [] })).reply m 0x1206 2 rNoResource []
    else ((s.emit (.twin 3 3)).breakPair 3).reply m 0x1206 2 rOK []

def execRasTwinHandover (m : Msg) (s : State) : Host.Outcome State Fault Refusal :=
  s.twinMsg 0x1206 m (fun t =>
    if t.ras.twin.state ≠ .paired then t.reply m 0x1206 2 rBusy []
    else if !t.twinActive then t.reply m 0x1206 2 rNoResource []
    else (t.updTwin (fun w => { w with
      handover := some m
      handoverOps := (t.ops.filter (fun o => o.opcode == 0x51 && decide (o.st = .started))).map (fun (o : Op) => o.id) })).tryHandover)

/-- A BREAK of the partner (18 R574, R576). -/
def execTwinBreak (cause : BitVec 4) (s : State) : Host.Outcome State Fault Refusal :=
  ok (if s.ras.twin.state = .paired ∧ (cause = 3 ∨ cause = 4 ∨ cause = 5) then
    (if cause = 3 then (s.breakPair 3).emit (.twin 8 3) else s.breakPair cause.toNat) else s)

/-- RAS_TWIN_UNPAIR (18 R577). -/
def execRasTwinUnpair (m : Msg) (s : State) : Host.Outcome State Fault Refusal :=
  s.twinMsg 0x1203 m (fun t =>
    if t.bindings.any (fun n => decide ((t.mir n).bstate = .bound)) then t.reply m 0x1203 2 rBusy []
    else
      let w := t.ras.twin
      let t1 := t.bindings.foldl (fun (u : State) n => u.bindFails n rBusy) t
      let t2 := if w.state = .paired then t1.emit (.twin 3 5) else t1
      let t3 := t2.updTwin (fun x => ({ partner := x.partner, breakCause := if w.state = .paired then 5 else x.breakCause } : Twin))
      let t4 := match w.pairMsg with
        | some y => t3.reply y 0x1202 2 rNoResource []
        | none => t3
      t4.reply m 0x1203 2 rOK [])

/-! ### Heartbeats and losses (18 R569, R574) -/

def execTwinHeartbeatSend (s : State) : Host.Outcome State Fault Refusal :=
  ok (if s.ras.twin.state = .paired then
    (([36, 37] : List Nat).foldl (fun (u : State) p => if u.portActive p then u.emit (.twin 2 p) else u) s).tryHandover else s)

/-- A heartbeat on an ACTIVE twin port ends a loss. -/
def execTwinHeartbeatReceive (p : Fin 2) (s : State) : Host.Outcome State Fault Refusal :=
  ok (if s.ras.twin.state = .paired ∧ s.portActive (36 + p.val) then
    s.updTwin (fun w => { w with losing := false, probeAnswered := false }) else s)

/-- A loss begins: no twin port ACTIVE, or no heartbeat for 1 ms; a probe goes out. -/
def execTwinLossBegin (noHeartbeat : Bool) (s : State) : Host.Outcome State Fault Refusal :=
  ok (if s.ras.twin.state = .paired ∧ !s.ras.twin.losing ∧ (noHeartbeat ∨ !s.twinActive) then
    (s.updTwin (fun w => { w with losing := true, probeAnswered := false })).emit (.twin 7 0) else s)

def execTwinProbeAnswer (s : State) : Host.Outcome State Fault Refusal :=
  ok (if s.ras.twin.losing then s.updTwin (fun w => { w with probeAnswered := true }) else s)

/-- The loss has lasted LOSS_MS. -/
def execLossMsExpiry (s : State) : Host.Outcome State Fault Refusal :=
  ok (if s.ras.twin.state = .paired ∧ s.ras.twin.losing then s.breakPair (if s.ras.twin.probeAnswered then 1 else 2) else s)

/-! ### Bindings (18 R570, R571, R577) -/

/-- The standby takes its pages one by one, zeroed; false when one cannot be taken (10 R332). -/
def State.takeMirror (n : Nat) : Nat → Nat → State → State × Bool
  | _, 0, s => (s, true)
  | j, k + 1, s =>
    match s.takePage n none [] with
    | none => (s, false)
    | some (u, ppa) => State.takeMirror n (j + 1) k ((u.zeroPage ppa).updMirror n (fun m => { m with pages := tset m.pages j ppa }))

/-- Both binds are there (18 T18.17). -/
def State.completeBind (s : State) (n : Nat) (b : TwinBind) : State :=
  let m := s.mir n
  let s0 := s.updTwin (fun w => { w with binds := w.binds.filter (fun x => x.ours != n) })
  if b.bankPages ≠ m.bankPages ∨ b.role = m.role then s0.bindFails n rBadArgument
  else
    let t : State × Bool := if m.role = 2 then State.takeMirror n 0 (2 * m.bankPages.toNat) s0 else (s0, b.taken)
    if !t.2 then ((t.1.bindFails n rNoResource).emit (.twin 5 m.remote.toNat))
    else
      let s1 := t.1.updMirror n (fun x => { x with bstate := .bound, remoteKey := b.key, bindMsg := none })
      let s2 := if m.role = 2 then (s1.quotaCheck n).emit (.twinBind n m.remote.toNat 2 m.bankPages.toNat (s.pt n).key true) else s1
      match m.bindMsg with
      | some x => s2.reply x 0x1204 2 rOK []
      | none => s2

/-- RAS_MIRROR_BIND: payload partition, role, remote partition, BANK_PAGES, MIRROR_BASE. -/
def execRasMirrorBind (m : Msg) (s : State) : Host.Outcome State Fault Refusal :=
  s.twinMsg 0x1204 m (fun t =>
    let n := m.u8 0
    let role := m.u8 1
    let k := m.u32 4
    let base := if role = 2 then m.u64 8 else 0
    if 11 < n ∨ (t.pt n).state.isFree ∨ role = 0 ∨ 2 < role ∨ 11 < m.u8 2 ∨ k = 0 ∨ 2 ^ 20 < k ∨ base % pageSize ≠ 0 ∨
        2 ^ 48 < base + 2 * k * pageSize then t.reply m 0x1204 2 rBadArgument []
    else if t.ras.twin.state ≠ .paired ∨ (t.mir n).bstate ≠ .unbound then t.reply m 0x1204 2 rBusy []
    else if role = 2 ∧ ((t.pt n).mem.pagesMeet (base / pageSize) (2 * k) ∨ t.grantOverlaps n (base / pageSize) (2 * k)) then
      t.reply m 0x1204 2 rBadArgument []
    else
      let t1 := (t.updMirror n (fun _ => ({
        role := BitVec.ofNat 2 role, bstate := .binding, remote := BitVec.ofNat 4 (m.u8 2), bankPages := BitVec.ofNat 21 k
        base := BitVec.ofNat 48 base, bindMsg := some m } : Mirror))).emit (.twinBind n (m.u8 2) role k (t.pt n).key false)
      match t1.ras.twin.binds.find? (fun b => b.ours == n && b.theirs == m.u8 2) with
      | some b => t1.completeBind n b
      | none => t1)

/-- The twin's bind of its partition to one of this module; as the standby it says whether it took its pages. -/
def execTwinBindReceive (theirs ours : Fin 12) (role : BitVec 2) (bankPages : BitVec 21) (key : W16) (taken : Bool) (s : State) :
    Host.Outcome State Fault Refusal :=
  let b : TwinBind := { theirs := theirs, ours := ours, role := role, bankPages := bankPages, key := key, taken := taken }
  ok (if s.ras.twin.state ≠ .paired then s
  else if (s.mir ours).bstate = .binding ∧ (s.mir ours).remote.toNat = theirs.val then s.completeBind ours b
  else s.updTwin (fun w => { w with binds := w.binds.filter (fun x => x.theirs != theirs.val) ++ [b] }))

def execBindTimeout (n : Fin 12) (s : State) : Host.Outcome State Fault Refusal :=
  ok (if (s.mir n).bstate = .binding then (s.bindFails n rNoResource).emit (.twin 5 (s.mir n).remote.toNat) else s)

/-- RAS_MIRROR_UNBIND: payload partition. A binding in BINDING is BUSY. -/
def execRasMirrorUnbind (m : Msg) (s : State) : Host.Outcome State Fault Refusal :=
  s.twinMsg 0x1205 m (fun t =>
    let n := m.u8 0
    if 11 < n ∨ (t.mir n).bstate = .unbound then t.reply m 0x1205 2 rBadArgument []
    else if (t.mir n).bstate = .binding then t.reply m 0x1205 2 rBusy []
    else ((t.endMirrors n).unbindFor n).reply m 0x1205 2 rOK [])

/-- The twin's UNBIND for a partition of this module. -/
def execUnbind (n : Fin 12) (s : State) : Host.Outcome State Fault Refusal :=
  let s0 := s.updTwin (fun w => { w with binds := w.binds.filter (fun x => x.ours != n.val) })
  ok (match (s.mir n).bstate with
    | .bound => (s0.endMirrors n).freeMirror n
    | .binding => s0.bindFails n rNoResource
    | _ => s0)

/-! ### MIRROR (18 R572, R573) -/

def Op.mirSrc (o : Op) : Nat := o.le 24 8
def Op.mirOff (o : Op) : Nat := o.le 32 8
def Op.mirLen (o : Op) : Nat := o.le 40 8

/-- Checks 3 to 5 of 18 T18.7. -/
def State.mirrorCheck (s : State) (o : Op) : Option (Nat × Nat) :=
  let m := s.mir o.part
  if m.bstate ≠ .bound ∨ m.role ≠ 1 then some (8, 0x152)
  else if o.byte 16 = 0 ∧ m.bankPages.toNat * pageSize < o.mirOff + o.mirLen then some (8, 0x151)
  else if o.byte 16 = 0 ∧ (2 ^ 48 < o.mirSrc + o.mirLen ∨ !(pagesOf o.mirSrc o.mirLen).all (s.mapped o.part)) then some (2, 0)
  else none

/-- The granules of a COPY leave in ascending order; one whose entry check fails ends it. -/
def State.mirrorRun (o : Op) : Nat → State → State
  | 0, s => s
  | k + 1, s =>
    let x := s.prog o.id
    if o.mirLen ≤ x.pos then (s.closeOp o).endOp o.id (if x.poison.isSome then 9 else 0) 0
    else if !s.twinActive then s
    else match s.rangeRead o.part (o.mirSrc + x.pos) 256 (.op o.id) with
      | .refused => s.failOp o 2 0
      | .wait c => s.fetchChunk o.part c (some ((o.mirSrc + x.pos) / pageSize)) (.op o.id) none
      | .data p =>
        let s1 := ((s.markRead o.part (o.mirSrc + x.pos)).dropPassed (.op o.id) none).emit
          (.mirror (s.pt o.part).key (o.mirOff + x.pos) p.data (decide (p.st = .poisoned)))
        if !p.checked then s1.failOp o 5 (x.pos / 256)
        else State.mirrorRun o k ((s1.updMirror o.part (fun m => { m with bytes := m.bytes + 256 })).setProg o.id { x with
          pos := x.pos + 256, poison := if x.poison.isNone ∧ p.st = .poisoned then some (x.pos / 256) else x.poison })

/-- A granule of mirror data arrives at the standby: into the pending bank of the binding whose remote key it carries (18 R569, R572). -/
def State.mirrorIn (s : State) (p : Nat) (key : W16) (off : W64) (piece : Piece) : State :=
  if !s.portActive p ∨ s.ras.twin.state ≠ .paired then s
  else match (List.range 12).find? (fun n =>
      decide ((s.mir n).bstate = .bound) && decide ((s.mir n).role = 2) && (s.mir n).remoteKey == key) with
    | none => s.portKeyDrop p 2 key
    | some n =>
      let m := s.mir n
      let k := (1 - m.committed.toNat) * m.bankPages.toNat + off.toNat / pageSize
      if m.bankPages.toNat * pageSize < off.toNat + piece.data.length ∨ off.toNat % 256 ≠ 0 ∨ piece.data.length ≠ 256 then s.portKeyDrop p 2 key
      else match tfind m.pages k with
        | none => s
        | some ppa =>
          let o := off.toNat % pageSize
          let r := s.slicePut (pageTile ppa o) (pageOff ppa o) piece
          (if r.2 then r.1 else r.1.updM n (fun x => { x with checkFail := satInc x.checkFail })).updMirror n (fun x => { x with bytes := x.bytes + 256 })

def execMirrorCopy (x : MirrorEnd) (s : State) : Host.Outcome State Fault Refusal :=
  ok (match x with
    | .send op => (s.onOp op 0x51 (fun o =>
      if o.byte 16 ≠ 0 then s
      else if (tfind s.opProg op).isSome then State.mirrorRun o (o.mirLen / 256 + 1) s
      else match s.mirrorCheck o with
        | some e => s.rejectOp op e.1 e.2
        | none => State.mirrorRun o (o.mirLen / 256 + 1) (s.setProg op {}))).tryHandover
    | .receive p key off data check poison =>
      s.mirrorIn (36 + p.val) key off { data := data, st := if poison then .poisoned else .held check })

def Op.mirLabel (o : Op) : W64 := BitVec.ofNat 64 (o.le 48 8)
def Op.mirTick (o : Op) : W48 := BitVec.ofNat 48 (o.le 56 6)

/-- COMMIT: once every earlier MIRROR of the partition has ended, its point is sent to the standby. A late one is counted (04 R137). -/
def execMirrorCommit (op : Nat) (s : State) : Host.Outcome State Fault Refusal :=
  ok (s.onOp op 0x51 (fun o =>
    if o.byte 16 ≠ 1 ∨ (tfind s.opProg op).isSome ∨ s.ops.any (fun e => e.part == o.part && e.opcode == 0x51 && decide (e.id < o.id) &&
        (decide (e.st = .admitted) || decide (e.st = .started))) then s
    else match s.mirrorCheck o with
      | some e => s.rejectOp op e.1 e.2
      | none =>
        let late := decide (o.mirTick ≠ 0) && s.tickPast o.mirTick
        let s1 := if late then s.updP o.part (fun p => { p with late := p.late + 1 }) else s
        (s1.setProg op { phase := 1 }).emit (.mirrorPoint (s.mir o.part).remote.toNat o.mirLabel o.mirTick)))

/-- The point: a standby swaps its banks and records LABEL and tick; a primary's COMMIT ends as the standby acknowledges. -/
def execCommitPoint (n : Fin 12) (label : W64) (tick : W48) (s : State) : Host.Outcome State Fault Refusal :=
  let m := s.mir n
  let set := fun (x : Mirror) => { x with label := label, tick := tick, commits := x.commits + 1 }
  ok (if m.bstate ≠ .bound then s
  else if m.role = 2 then
    (s.updMirror n (fun x => { set x with committed := !x.committed })).emit (.twin 8 m.remote.toNat)
  else match s.ops.find? (fun o => o.part == n.val && o.opcode == 0x51 && o.byte 16 == 1 && (tfind s.opProg o.id).isSome && decide (o.mirLabel = label)) with
    | none => s
    | some o =>
      if o.mirTick ≠ 0 ∧ !s.tickReached o.mirTick then s
      else
        let s1 := s.updMirror n set
        ((s1.closeOp o).endOp o.id 0 (s1.mir n).commits.toNat).tryHandover)

end Sys2Proof.Machine
end

