-- ==== Sys2Proof/Machine/Faults.lean ====
section
/-! DEFINITION. Parity errors, the background scrub, fences, rates and stragglers (18_faults_and_availability R558-R566, 05 R161). -/
namespace Sys2Proof.Machine

/-- POISON_USE of a parity error: ADDR all ones, QUEUE the unit (18 R558). -/
def State.parityTrap (s : State) (t queue : Nat) : State :=
  if (s.tile t).run = .running then s.raise t { code := 0x0C, queue := queue, index := (s.tile t).index, addr := 2 ^ 64 - 1 } else s

/-- What a parity error does to its unit. -/
def State.parity (s : State) (t : Nat) (u : ParityUnit) : State :=
  match u with
  | .scalar n => s.updT t (fun x => { x with sPoison := withBit x.sPoison n.toNat true })
  | .address n => s.updT t (fun x => { x with aPoison := withBit x.aPoison n.toNat true })
  | .vector n => s.updT t (fun x => { x with vPoison := tset x.vPoison n.toNat (BitVec.allOnes 64) })
  | .predicate n => s.updT t (fun x => { x with pPoison := withBit x.pPoison n.toNat true })
  | .bank n => s.updT t (fun x => { x with accPoison := withBit x.accPoison n.toNat true })
  | .instructions => s.parityTrap t 0
  | .scoreboard => s.parityTrap t 0
  | .queue q => s.parityTrap t q.code

def execTileParityError (t : Tile) (u : ParityUnit) (s : State) : Host.Outcome State Fault Refusal :=
  ok (if (s.rg (tileRegion t)).state = .ready then (s.parity t u).logicFault t 0 else s)

/-- The background scrub visits an SRAM word (05 R161). -/
def execEccScrub (t : Tile) (word : Fin 98304) (found : EccFind) (s : State) : Host.Outcome State Fault Refusal :=
  ok (if (s.rg (tileRegion t)).state = .ready then s.sramEcc t (8 * word.val) found else s)

/-- RAS_FENCE (18 R561): payload the region index. -/
def execRasFence (m : Msg) (s : State) : Host.Outcome State Fault Refusal :=
  s.handle .sch 0x1201 m (fun t =>
    let r := m.u8 0
    if !t.isPriv m then t.reply m 0x1201 2 rNotPermitted []
    else if 143 < r then t.reply m 0x1201 2 rBadArgument []
    else if (t.rg r).state ≠ .ready then t.reply m 0x1201 2 rBusy []
    else (t.faultFence r false).reply m 0x1201 2 rOK [])

/-! ### Rates and stragglers (18 R564, R565) -/

/-- The sum of fractions. -/
def addFrac (a b : Nat × Nat) : Nat × Nat := (a.1 * b.2 + b.1 * a.2, a.2 * b.2)

/-- RATE_100MS: the mean of the windows × 1,024, rounded down. -/
def meanRate (l : List (Nat × Nat)) : Nat :=
  if l.isEmpty then 0
  else
    let x := l.foldl addFrac (0, 1)
    x.1 * 1024 / (x.2 * 240 * l.length)

/-- The reason of 16 T16.7 with the most µs in the window, the lowest code on a tie, 0xF when none counted. -/
def dominant (prev now : List (Nat × W64)) : Nat :=
  ((List.range 7).foldl (fun (b : Nat × Nat) k =>
    let n := (tget 0 now k - tget 0 prev k).toNat
    if b.2 < n then (k, n) else b) (0xF, 0)).1

/-- A region's window ends (18 R564); the posts of 16 R526 and 04 R145 limited to one per window may come again. -/
def Region.window (g : Region) (duty : Nat) : Region :=
  let g1 := { g with
    osc := { g.osc with pullPosted := false }
    pwr := { g.pwr with alertPosted := false, thermalPosted := false } }
  if g.state ≠ .ready then g1
  else
    let w := if g.flt.rateN = 0 then (classK g.osc.cls.toNat * duty, 1) else (g.flt.rateSum, g.flt.rateN)
    let l := (g.flt.windows ++ [w]).drop (g.flt.windows.length + 1 - 100)
    { g1 with
      flt := { g.flt with
        windows := l, rateSum := 0, rateN := 0
        rate1 := BitVec.ofNat 11 (meanRate [w]), rate100 := BitVec.ofNat 11 (meanRate l)
        reason := BitVec.ofNat 4 (dominant g.flt.thrPrev g.pwr.thrUs), thrPrev := g.pwr.thrUs } }

def execRateWindow (r : Fin 144) (s : State) : Host.Outcome State Fault Refusal := ok (s.updR r (fun g => g.window (s.duty r)))

/-- The lower of the two middle values. -/
def median (l : List Nat) : Nat := (ascending l).getD ((l.length - 1) / 2) 0

/-- One region at a 100 ms boundary against the median. -/
def State.straggle (s : State) (n m r : Nat) : State :=
  let f := (s.rg r).flt
  let v := f.rate100.toNat
  let pct := s.ras.marginPct.toNat
  let below := if v * 100 < m * (100 - pct) then f.below + 1 else 0
  let above := if m * (200 - pct) ≤ v * 200 then f.above + 1 else 0
  if !f.straggler ∧ 3 ≤ below then
    (s.updR r (fun g => { g with flt := { g.flt with straggler := true, below := 0, above := 0 } })).postPart n 0x1004
      (pack [(8, r), (11, v), (11, m), (2, 0), (4, f.reason.toNat)])
  else if f.straggler ∧ 3 ≤ above then
    (s.updR r (fun g => { g with flt := { g.flt with straggler := false, below := 0, above := 0 } })).postPart n 0x1005 r
  else s.updR r (fun g => { g with flt := { g.flt with below := below, above := above } })

def execStragglerCheck (n : Fin 12) (s : State) : Host.Outcome State Fault Refusal :=
  let p := s.pt n
  let l := s.readyRegions n
  ok (if p.state.isFree ∨ p.regions.length < 2 ∨ l.isEmpty then s
  else
    let m := median (l.map (fun r => (s.rg r).flt.rate100.toNat))
    l.foldl (fun (u : State) r => u.straggle n m r) s)

end Sys2Proof.Machine
end

