-- ==== Sys2Proof/Machine/Carrier.lean ====
section
/-! DEFINITION. The carrier and the MMC: input, safety, PMBus, management port, management messages (19_module_hardware). -/
namespace Sys2Proof.Machine

/-! ### Input power (19 R586-R588, R591) -/

/-- The carrier after its supply comes back: what the MMC's flash and log keep (19 T19.10, T19.11, R594). -/
def Carrier.stored (g : Carrier) : Carrier :=
  { ({} : Carrier) with
    root := g.root, leak := g.leak, logSeq := g.logSeq, reported := g.reported, log := g.log, autoOn := g.autoOn, privLinkNext := g.privLinkNext
    faults := g.faults, requests := g.requests, relocations := g.relocations }

/-- Everything at its reset value but what is stored; the power limits too return to theirs. -/
def State.carrierReset (s : State) : State :=
  let t := s.waferOff
  { t with mgt := s.mgt.stored, pwr := {} }

def execInputPowerApplied (service : Bool) (volts : W16) (s : State) : Host.Outcome State Fault Refusal :=
  ok (if s.mgt.inputOn then s
  else s.carrierReset.updMgt (fun g => { g with inputOn := true, mmcRunning := true, service := service, inputMv10 := volts }))

/-- Below 40.0 V the MMC and the carrier stop. -/
def execInputPowerLoss (s : State) : Host.Outcome State Fault Refusal :=
  ok (s.carrierReset.updMgt (fun g => { g with inputOn := false, mmcRunning := false }))

/-- Outside the input's limits: logged, and a fast power-down with cause 6 (19 R586). -/
def execInputVoltageFault (volts : W16) (s : State) : Host.Outcome State Fault Refusal :=
  ok (if volts.toNat < 5000 ∨ 6000 < volts.toNat then
    ((s.updMgt (fun g => { g with inputMv10 := volts })).logRecord 8 volts.toNat).powerDown true 6 else s)

def inputHigh (mv10 : Nat) : Bool := decide (5800 < mv10) && decide (mv10 ≤ 6000)

/-- Every 10 ms: the effective peak limit; INPUT_LIMIT is posted as the product comes to bind or the input passes 58 V (19 R586, R587). -/
def execInputLimit (volts : W16) (s : State) : Host.Outcome State Fault Refusal :=
  if !s.mgt.mmcRunning then ok s
  else
    let s1 := (s.updMgt (fun g => { g with inputMv10 := volts })).effectivePeak
    let now := s1.mgt.inputLimited
    ok (if (now && !s.mgt.inputLimited) || (inputHigh volts.toNat && !inputHigh s.mgt.inputMv10.toNat) then
      s1.postModule 0x1104 0 0 (pack [(16, volts.toNat), (1, now.toNat)]) else s1)

/-- The conditions of 19 R588, AUTO_ON apart. -/
def State.mayPower (s : State) : Bool :=
  s.mgt.inputOn && s.mgt.mmcRunning && !s.mgt.waferOn && decide (5000 ≤ s.mgt.inputMv10.toNat) && decide (s.mgt.inputMv10.toNat ≤ 5800) &&
    decide (s.mgt.safety = .normal) && !s.mgt.leak

def execAutoPowerOn (s : State) : Host.Outcome State Fault Refusal :=
  ok (if s.mayPower ∧ (s.mgt.autoOn ∨ s.mgt.powerOnReceived) then s.updMgt (fun g => { g with waferOn := true }) else s)

/-- A leak: LEAK, the log, a fast power-down with cause 5 (19 R591). -/
def execLeakDetect (s : State) : Host.Outcome State Fault Refusal :=
  ok (((s.updMgt (fun g => { g with leak := true })).logRecord 7 0).powerDown true 5)

/-- A module reset: the power-up state, PRIV_LINK_NEXT in force; the carrier runs on (18 R578, 02 R66). -/
def execModuleReset (s : State) : Host.Outcome State Fault Refusal :=
  ok (if s.mgt.inputOn then s.waferOff.updMgt (fun g => { g with waferOn := s.mgt.waferOn }) else s)

/-! ### The management port and the MMC (19 R592, R593, R602) -/

/-- The management port goes down: its peers with it, and a PTP source counts as lost. -/
def State.mgmtDown (s : State) : State :=
  let s1 := if s.mgt.mgmtUp then s.postModule 0x1103 0 0 0 else s
  (s1.updMgt (fun g => { g with mgmtUp := false, peers := 0, ptpLocked := false })).loseSource none

def execMgmtLink (up : Bool) (s : State) : Host.Outcome State Fault Refusal :=
  ok (if !s.mgt.mmcRunning then s
  else if up then (if s.mgt.mgmtUp then s else (s.updMgt (fun g => { g with mgmtUp := true })).postModule 0x1103 0 0 1)
  else s.mgmtDown)

/-- The MMC restarts alone: one restart from its watchdog to its return. -/
def execMmcWatchdogRestart (s : State) : Host.Outcome State Fault Refusal :=
  ok (if s.mgt.mmcRunning then s.mgmtDown.updMgt (fun g => { g with mmcRestarts := satInc g.mmcRestarts }) else s)

/-- A peer whose certificate chains to the installation root is admitted; records that waited are sent (19 R593, T19.13). -/
def execPeerAdmit (chains : Bool) (s : State) : Host.Outcome State Fault Refusal :=
  ok (if s.mgt.mmcRunning ∧ s.mgt.mgmtUp ∧ !s.mgt.root.isEmpty ∧ chains then
    let s1 := s.updMgt (fun g => { g with peers := g.peers + 1, reported := g.logSeq })
    (s.mgt.log.filter (fun r => decide (s.mgt.reported.toNat < r.seq.toNat))).reverse.foldl (fun (u : State) r => u.emit (.peerReport r)) s1
  else s)

/-- A pluggable that asks for more than 12 W stays in low power and its port DISABLED (19 R589). -/
def execPluggableInsert (p : Fin 38) (watts : Nat) (s : State) : Host.Outcome State Fault Refusal :=
  ok (if !s.mgt.mmcRunning ∨ s.portAbsent p then s
  else
    let low := decide (12 < watts)
    let s1 := s.updMgt (fun g => { g with pluggableLow := withBit g.pluggableLow p.val low })
    if low then
      (if (s1.port p).phase = .disabled ∨ (s1.port p).phase = .relocating then s1 else s1.portDisable p).updPort p (fun x => { x with failCause := 1 })
    else s1.startPort p)

/-! ### PMBus segments (19 R596) -/

def State.seg (s : State) (g : Nat) : Segment := tget {} s.mgt.segs g
def State.updSeg (s : State) (g : Nat) (f : Segment → Segment) : State :=
  s.updMgt (fun m => { m with segs := tset m.segs g (f (tget {} m.segs g)) })

/-- The multiplexer deselects a segment: ISOLATED, posted and logged. `scl`: the cause. -/
def State.isolate (s : State) (g : Nat) (scl : Bool) : State :=
  ((s.updSeg g (fun x => { x with state := .isolated, cause := scl, stale := true, isolations := satInc x.isolations })).postModule 0x1101 0 0
    (pack [(4, g), (1, scl.toNat)])).logRecord 5 (pack [(4, g), (1, scl.toNat)])

/-- SDA came back after a pulse: ACTIVE again. -/
def State.recovered (s : State) (g pulses : Nat) : State :=
  (s.updSeg g (fun x => { x with state := .active, tries := 0, stale := false, recoveries := satInc x.recoveries })).postModule 0x1102 0 0
    (pack [(4, g), (4, pulses)])

/-- Steps 2 to 4 of 19 T19.5; more than nine pulses find SDA still low. -/
def State.recover (s : State) (g : Nat) (scl : Bool) (res : SdaResult) : State :=
  match res with
  | .released k => if 1 ≤ k ∧ k ≤ 9 then s.recovered g k else s.isolate g scl
  | .stuck => s.isolate g scl

def execPmbusSdaLow (g : Fin 16) (addr : BitVec 7) (res : SdaResult) (s : State) : Host.Outcome State Fault Refusal :=
  ok (if s.mgt.mmcRunning ∧ (s.seg g).state = .active then (s.updSeg g (fun x => { x with lastAddr := addr })).recover g false res else s)

def execSclTimeout (g : Fin 16) (addr : BitVec 7) (s : State) : Host.Outcome State Fault Refusal :=
  ok (if s.mgt.mmcRunning ∧ (s.seg g).state = .active then (s.updSeg g (fun x => { x with lastAddr := addr })).isolate g true else s)

/-- Every 10 s, up to three failed tries. -/
def execPmbusReselect (g : Fin 16) (res : SdaResult) (s : State) : Host.Outcome State Fault Refusal :=
  let x := s.seg g
  ok (if s.mgt.mmcRunning ∧ x.state = .isolated ∧ x.tries.toNat < 3 then
    let s1 := s.recover g x.cause res
    if (s1.seg g).state = .isolated then s1.updSeg g (fun y => { y with tries := y.tries + 1 }) else s1
  else s)

/-! ### The safety input (19 R597, R598) -/

/-- A fast power-down that the safety block orders, with its log record: 0 REQUEST, 1 FAULT. -/
def State.safetyTrip (s : State) (fault : Bool) : State := (s.logRecord 4 fault.toNat).powerDown true 3

/-- One sample of both channels, every 0.5 ms. `a`, `b`: asserted. -/
def State.safetySample (s : State) (a b : Bool) : State :=
  let s0 := s.updMgt (fun g => { g with chA := a, chB := b })
  let n := s.mgt.count
  if s.mgt.safety = .fault then s0.updMgt (fun g => { g with count := if a = b then 0 else g.count })
  else if a ≠ b then
    if 40 ≤ n + 1 then
      (s0.updMgt (fun g => { g with count := 40, safety := .fault, faultLatched := true, faults := satInc g.faults })).safetyTrip true
    else s0.updMgt (fun g => { g with count := n + 1, safety := .discrepancy })
  else
    let s1 := if 0 < n then
        (s0.updMgt (fun g => { g with count := 0, maxCount := BitVec.ofNat 6 (max g.maxCount.toNat n) })).postModule 0x1105 0 0 n
      else s0
    if a then
      if s.mgt.safety = .request then s1
      else (s1.updMgt (fun g => { g with safety := .request, requests := satInc g.requests })).safetyTrip false
    else s1.updMgt (fun g => { g with safety := .normal })

def execSafetySample (a b : Bool) (s : State) : Host.Outcome State Fault Refusal :=
  ok (if s.mgt.inputOn then s.safetySample a b else s)

/-! ### Messages of the MMC (19 R600, R601, T19.8) -/

/-- Who sends a management message. -/
inductive MgtSender where
  | priv | pf | vf | peer | console
deriving DecidableEq, Repr

def State.mgtSender (s : State) (m : Msg) : MgtSender :=
  match m.sender with
  | .mbx f => if f.val = s.sec.privLink.toNat then .priv else if f.val < 4 then .pf else .vf
  | .peer => .peer
  | .console => .console

/-- The MMC handles a message its sender may send; an unadmitted peer may only ask for the status (19 R593); it waits while the MMC is down. -/
def State.mmcMsg (s : State) (id : Nat) (m : Msg) (who : List MgtSender) (f : State → State) : Host.Outcome State Fault Refusal :=
  if !s.mgt.mmcRunning then ok s
  else
    let t := s.takeMsg id m
    let w := s.mgtSender m
    let may := who.contains w && (match w with
      | .peer => id == 0x1301 || decide (0 < s.mgt.peers)
      | .console => id == 0x1301 || id == 0x1306 || s.mgt.service
      | _ => true)
    ok (if may then f t else t.reply m id 4 rNotPermitted [])

/-- MGT.STATUS and MGT.SAFETY (19 T19.10, T19.11). -/
def State.mgtStatus (s : State) : Nat :=
  pack [(1, s.mgt.mgmtUp.toNat), (1, s.mgt.ptpLocked.toNat), (1, s.mgt.service.toNat), (1, (!s.mgt.root.isEmpty).toNat), (1, s.mgt.leak.toNat),
    (1, s.mgt.inputLimited.toNat), (10, 0), (16, s.mgt.mmcRestarts.toNat), (32, s.mgt.logSeq.toNat)]

def SafetyState.code : SafetyState → Nat
  | .normal => 0 | .request => 1 | .discrepancy => 2 | .fault => 3

def State.mgtSafety (s : State) : Nat :=
  let g := s.mgt
  pack [(1, g.chA.toNat), (1, g.chB.toNat), (2, g.safety.code), (6, g.count), (6, 0), (16, g.faults.toNat), (16, g.requests.toNat),
    (6, g.maxCount.toNat)]

/-- PWR.INPUT (16 T16.12). -/
def State.pwrInput (s : State) : Nat := pack [(16, s.pwr.inVoltage.toNat), (16, s.pwr.inCurrent.toNat), (16, s.pwr.inPower.toNat)]

def execMgtStatusGet (m : Msg) (s : State) : Host.Outcome State Fault Refusal :=
  s.mmcMsg 0x1301 m [.priv, .pf, .peer, .console] (fun t =>
    t.reply m 0x1301 4 rOK (leBytes 8 t.mgtStatus ++ leBytes 8 t.mgtSafety ++ leBytes 8 t.pwrInput))

/-- MGT_CONFIG_SET: payload AUTO_ON, PRIV_LINK, LOCATE, the certificate's length and, from byte 8, the certificate; a length of 0 leaves the root.
`parses`: the certificate does. -/
def execMgtConfigSet (m : Msg) (parses : Bool) (s : State) : Host.Outcome State Fault Refusal :=
  s.mmcMsg 0x1302 m [.priv] (fun t =>
    let len := m.u16 4
    if 1 < m.u8 0 ∨ 3 < m.u8 1 ∨ 1 < m.u8 2 ∨ 2048 < len ∨ (0 < len ∧ !parses) then t.reply m 0x1302 4 rBadArgument []
    else (t.updMgt (fun g => { g with
      autoOn := decide (m.u8 0 = 1), privLinkNext := BitVec.ofNat 2 (m.u8 1), locate := decide (m.u8 2 = 1)
      root := if len = 0 then g.root else (List.range len).map (fun i => byteAt m.payload (8 + i)) })).reply m 0x1302 4 rOK [])

def execMgtSafetyClear (m : Msg) (s : State) : Host.Outcome State Fault Refusal :=
  s.mmcMsg 0x1303 m [.peer, .console] (fun t =>
    if t.mgt.chA ∨ t.mgt.chB then t.reply m 0x1303 4 rBusy []
    else if !t.mgt.faultLatched then t.reply m 0x1303 4 rOK []
    else (t.updMgt (fun g => { g with faultLatched := false, safety := .normal, count := 0 })).reply m 0x1303 4 rOK [])

/-- MGT_POWER_ON clears LEAK once the sensor has read dry for 60 s (19 R591). -/
def execMgtPowerOn (m : Msg) (dry60 : Bool) (s : State) : Host.Outcome State Fault Refusal :=
  s.mmcMsg 0x1304 m [.peer, .console] (fun t =>
    let t1 := t.updMgt (fun g => { g with leak := g.leak && !dry60 })
    if !t1.mayPower then t1.reply m 0x1304 4 rBusy []
    else (t1.updMgt (fun g => { g with powerOnReceived := true, waferOn := true })).reply m 0x1304 4 rOK [])

def execMgtPowerOff (m : Msg) (s : State) : Host.Outcome State Fault Refusal :=
  s.mmcMsg 0x1305 m [.priv, .peer, .console] (fun t => (t.powerDown false 2).reply m 0x1305 4 rOK [])

/-- A log record's 32 bytes (19 R594). -/
def LogRecord.bytes (r : LogRecord) : List Byte :=
  leBytes 4 r.seq.toNat ++ leBytes 6 r.tick.toNat ++ leBytes 2 r.kind.toNat ++ leBytes 20 r.data.toNat

/-- MGT_LOG_READ: payload first sequence number, count; the reply's count, then the records from byte 8. The console reads the log too (19 R600). -/
def execMgtLogRead (m : Msg) (s : State) : Host.Outcome State Fault Refusal :=
  s.mmcMsg 0x1306 m [.priv, .peer, .console] (fun t =>
    if 128 < m.u32 4 then t.reply m 0x1306 4 rBadArgument []
    else
      let l := ((t.mgt.log.reverse).filter (fun r => decide (m.u32 0 ≤ r.seq.toNat))).take (m.u32 4)
      t.reply m 0x1306 4 rOK (leBytes 8 l.length ++ (l.map LogRecord.bytes).flatten))

/-- MGT_PMBUS_REJOIN: payload the segment. -/
def execMgtPmbusRejoin (m : Msg) (res : SdaResult) (s : State) : Host.Outcome State Fault Refusal :=
  s.mmcMsg 0x1307 m [.priv, .peer] (fun t =>
    let g := m.u8 0
    if 15 < g then t.reply m 0x1307 4 rBadArgument []
    else if (t.seg g).state ≠ .isolated then t.reply m 0x1307 4 rOK []
    else
      let t1 := t.recover g (t.seg g).cause res
      t1.reply m 0x1307 4 (if (t1.seg g).state = .isolated then rNoResource else rOK) [])

end Sys2Proof.Machine
end

