-- ==== Sys2Proof/Machine/Admission.lean ====
section
/-! DEFINITION. The admission of a descriptor: the checks of the header and of each opcode (03 R96, R101, R107, R108; 05 T5.9; 10 T10.10,
R346; 11 T11.8, R365, R375; 14 T14.3, T14.7, R463, R466; 18 T18.7), and the refresh of a status page (03 R120). -/
namespace Sys2Proof.Machine

/-- Bytes `a` to `b` are all 0. -/
def Op.zeros (o : Op) (a b : Nat) : Bool := decide (o.le a (b + 1 - a) = 0)

/-- The status and DETAIL of the first check that fails. -/
abbrev Verdict := Option (Nat × Nat)

/-- Checks in order: the first whose condition fails decides. -/
def firstFail : List (Bool × Nat × Nat) → Verdict
  | [] => none
  | c :: r => if c.1 then firstFail r else some c.2

/-- BAD_DESCRIPTOR with a DETAIL unless the condition holds. -/
def need (c : Bool) (detail : Nat) : Bool × Nat × Nat := (c, 8, detail)

/-- 03 T3.7. -/
def opcodes : List Nat := [0x01, 0x02, 0x03, 0x04, 0x10, 0x11, 0x20, 0x21, 0x22, 0x30, 0x31, 0x32, 0x40, 0x41, 0x42, 0x50, 0x51]

/-- Reserved bytes and listed values of NOP, FENCE, SYNC_SIGNAL, SYNC_WAIT (03 T3.9). -/
def Op.syncPayloadOk (o : Op) : Bool :=
  match o.opcode with
  | 1 => o.zeros 16 63
  | 2 => decide (o.byte 16 ≤ 1) && o.zeros 17 63
  | 3 => decide (o.le 16 2 < 2 ^ 15) && decide (o.byte 18 ≤ 1) && o.zeros 19 23 && o.zeros 32 63
  | 4 => decide (o.le 16 2 < 2 ^ 15) && decide (o.byte 18 ≤ 3) && o.zeros 19 19 && o.zeros 32 63
  | _ => true

/-- EXT_LEN (03 T3.6). -/
def Op.extLen (o : Op) : Nat := o.le 24 2

/-- The checks of 03 T3.8. `extOk`: the read of the extended payload succeeded. -/
def State.headerChecks (s : State) (o : Op) (extOk : Bool) : Verdict :=
  let count := (s.pt o.part).syncCount
  firstFail [
    need (opcodes.contains o.opcode) 0x01,
    need (!bitAt o.desc 95 && !bitAt o.desc 111 && decide (o.byte 1 < 32) && (o.signalEn || decide (o.incr = 0)) && o.syncPayloadOk) 0x02,
    need (!o.signalEn || decide (o.incr ≠ 0)) 0x03,
    need ((!o.waitEn || decide (o.waitObj < count)) && (!o.signalEn || decide (o.signalObj < count)) &&
      (!(o.opcode == 3 || o.opcode == 4) || decide (o.le 16 2 < count))) 0x04,
    need (!o.isExt || decide (4 < o.opcode)) 0x05,
    need (!o.isExt || (decide (o.le 16 8 % 64 = 0) && decide (64 ≤ o.extLen) && decide (o.extLen ≤ 4096) && decide (o.extLen % 64 = 0))) 0x06,
    need (!o.isExt || extOk) 0x07,
    (!o.isExt || decide (o.byte 26 = 1), 7, o.byte 26),
    need ((o.opcode != 0x51 || s.hasTwin) && (o.opcode != 0x20 || o.isExt || o.byte 41 != 4 || s.hasFlash)) 0x08]

/-- The block of a LOAD_PROGRAM or RUN lies in the rectangle of its partition. -/
def State.blockInside (s : State) (n x y w h : Nat) : Bool :=
  decide (1 ≤ w) && decide (1 ≤ h) && s.inRect n (x, y) && s.inRect n (x + w - 1, y + h - 1)

/-- The header of the image as the admission can read it: from the host with the command, from the range where it is resident (log 31). -/
def State.imageHeader (s : State) (o : Op) (host : Option (List Byte)) : Option (List Byte) :=
  if o.byte 37 % 2 = 1 then host
  else match s.gather o.part (.op o.id) (runPieces (o.le 40 8) 64) with
    | .got l => some (l.flatMap (fun p => p.data))
    | _ => none

/-- Checks 1 to 6 of 05 T5.9. -/
def State.programChecks (s : State) (o : Op) (host : Option (List Byte)) : Verdict :=
  let load := o.opcode == 0x10
  let form := (o.isExt || o.zeros 16 27) &&
    (if load then decide (o.byte 37 < 2) && o.zeros 38 39 && o.zeros 52 63 else decide (o.byte 37 < 4) && o.zeros 50 55)
  match firstFail [
    need form 0x02,
    need (s.blockInside o.part (o.le 28 2) (o.le 30 2) (o.le 32 2) (o.le 34 2)) 0x100,
    need (decide (o.byte 36 ≤ 3)) 0x101,
    need (!o.isExt || (!load && decide (o.extLen ≤ 256))) 0x102,
    need (load || (decide (o.le 40 8 % 32 = 0) && decide (o.le 48 2 ≤ 4096) && (decide (o.le 40 8 ≠ 0) || decide (o.le 48 2 = 0)))) 0x103] with
  | some e => some e
  | none =>
    if !load || decide (o.le 48 4 = 0) then none
    else if o.le 40 8 % 64 ≠ 0 then some (8, 0x104)
    else match s.imageHeader o host with
      | some h => imageCheck h (o.le 48 4)
      | none => if o.byte 37 % 2 = 1 then some (8, 0x07) else none

/-- An address of a COPY keeps the zero fields of its form (10 T10.9). -/
def copyFieldsOk (kind v : Nat) : Bool :=
  match kind with
  | 1 => decide (v < 2 ^ 48)
  | 3 => decide (v / 2 ^ 24 % 2 ^ 8 = 0) && decide (v / 2 ^ 41 % 2 ^ 7 = 0) && decide (v / 2 ^ 57 = 0)
  | 4 => decide (v < 2 ^ 52)
  | _ => true

/-- A TILE or SLICE address names a tile of the rectangle. -/
def State.copyTileOk (s : State) (n kind v : Nat) : Bool :=
  (kind != 2 && kind != 3) || s.inRect n (v / 2 ^ 32 % 512, v / 2 ^ 48 % 512)

/-- Checks 1 to 4 of 10 T10.10. -/
def State.copyChecks (s : State) (o : Op) : Verdict :=
  let sk := o.byte 40
  let dk := o.byte 41
  firstFail [
    need (!o.isExt && o.zeros 42 63 && copyFieldsOk sk (o.le 16 8) && copyFieldsOk dk (o.le 24 8)) 0x02,
    need (decide (sk ≤ 3) && decide (dk ≤ 4) && (dk != 4 || sk == 0)) 0x120,
    need (decide (o.le 16 8 % 64 = 0) && decide (o.le 24 8 % 64 = 0) && decide (o.le 32 8 % 64 = 0) && decide (o.le 32 8 ≤ 2 ^ 40)) 0x121,
    need (s.copyTileOk o.part sk (o.le 16 8) && s.copyTileOk o.part dk (o.le 24 8)) 0x122]

/-- TIER_PREFETCH and TIER_RELEASE (10 R346). -/
def Op.tierChecks (o : Op) : Verdict :=
  firstFail [
    need (!o.isExt && o.zeros 29 63 && decide (o.byte 28 < (if o.opcode = 0x21 then 2 else 4))) 0x02,
    need (decide (o.le 16 8 % pageSize = 0) && decide (1 ≤ o.le 24 4) && decide (o.le 24 4 ≤ 2 ^ 21)) 0x125]

/-- Checks 1 and 2 of 11 T11.8. -/
def Op.buildChecks (o : Op) : Verdict :=
  firstFail [
    need (!o.isExt && o.zeros 32 63 && decide (o.byte 18 < 4)) 0x02,
    need (decide (o.byte 16 ≤ 2) && decide (o.byte 17 ≤ 1) && decide (o.le 24 8 % 64 = 0)) 0x130,
    need (decide (o.byte 19 ≤ 63) || o.byte 19 == 0xFF) 0x130]

/-- WEIGHT_SWAP (11 T11.9). -/
def Op.swapChecks (o : Op) : Verdict :=
  if o.isExt then some (8, 0x02)
  else match o.byte 16 with
  | 0 => firstFail [
      need (o.zeros 19 23 && o.zeros 30 63 && (o.byte 18 == 1 || o.zeros 24 29)) 0x02,
      need (decide (o.byte 17 ≤ 2) && decide (o.byte 18 ≤ 2)) 0x130]
  | 1 => firstFail [
      need (o.zeros 17 19 && o.zeros 24 63) 0x02,
      need (decide (1 ≤ o.le 22 2) && decide (o.le 22 2 ≤ 4096) && decide (o.le 20 2 + o.le 22 2 ≤ 4096)) 0x130]
  | _ => some (8, 0x130)

/-- PUBLISH, at admission (11 R375). -/
def Op.publishChecks (o : Op) : Verdict :=
  firstFail [
    need (!o.isExt && o.zeros 18 19 && o.zeros 32 63) 0x02,
    need (decide (o.byte 16 ≤ 1) && decide (o.byte 17 ≤ 63)) 0x130]

/-- Two extents share a byte. -/
def extentsMeet (a m b n : Nat) : Bool := decide (0 < m) && decide (0 < n) && decide (a < b + n) && decide (b < a + m)

/-- Checks 1 to 4 of 14 T14.7. What depends on the member's rank follows the group as it stands at admission (log 32). -/
def State.collectiveChecks (s : State) (o : Op) : Verdict :=
  let kind := o.byte 17
  let red := o.byte 18
  let dtype := o.byte 19
  let src := o.le 24 8
  let dst := o.le 32 8
  let count := o.le 40 8
  let g := s.grp o.part (o.byte 16)
  let root := s.isRoot g (o.le 20 4)
  let rooted := kind == 3 || kind == 4
  let srcLen := if kind = 3 ∧ !root then 0 else count * elemSize dtype
  let dstLen := if kind = 4 ∧ !root then 0 else dstBytes kind red dtype count (g.ranks s.me)
  let known := decide (g.state ≠ .free)
  firstFail [
    need (!o.isExt && o.zeros 55 63 && decide (o.byte 16 ≤ 31) && decide (kind ≤ 5) && decide (red ≤ 3) && decide (dtype ≤ 5) &&
      decide (o.byte 54 ≤ 2) && decide (src < 2 ^ 48) && decide (dst < 2 ^ 48) && (rooted || o.zeros 20 23)) 0x140,
    need ((if kind = 5 then decide (red = 0) && decide (dtype = 0) && decide (src = 0) && decide (dst = 0) && decide (count = 0)
        else comboOk kind red dtype) &&
      (!known || root || ((kind != 3 || src == 0) && (kind != 4 || dst == 0)))) 0x149,
    need (kind == 5 || (decide (1 ≤ count) && decide (src % 256 = 0) && decide (dst % 256 = 0))) 0x14A,
    need (!extentsMeet src srcLen dst dstLen || (src == dst && (kind == 0 || rooted))) 0x14B]

/-- Check 1 of 14 T14.3. -/
def Op.formChecks (o : Op) : Verdict :=
  firstFail [need (!o.isExt && o.zeros 23 23 && o.zeros 48 63 && decide (o.byte 16 ≤ 31) &&
    (match o.byte 17 with
     | 0 => decide (o.byte 18 < 8) && decide (o.byte 19 ≤ 2) && decide (o.byte 27 ≤ 1)
     | 1 => o.zeros 18 47
     | _ => false)) 0x140]

/-- GROUP_REFORM, at admission (14 R463). -/
def Op.reformChecks (o : Op) : Verdict :=
  firstFail [need (o.isExt && o.zeros 29 31 && o.zeros 38 63 && decide (o.byte 28 ≤ 31) && decide (1 ≤ o.le 36 2) &&
    decide (o.le 36 2 ≤ 1024) && decide (4 * o.le 36 2 ≤ o.extLen)) 0x140]

/-- SNAPSHOT, at admission (14 R466). -/
def Op.snapshotChecks (o : Op) : Verdict :=
  firstFail [need (!o.isExt && decide (o.le 16 6 ≠ 0) && decide (o.byte 22 ≤ 1) && o.zeros 23 23 && o.zeros 48 63 &&
    decide (o.le 24 8 < 2 ^ 48) && (o.byte 22 == 0 || decide (o.le 32 8 < 2 ^ 48)) &&
    decide (o.le 24 8 % 256 = 0) && decide (o.le 32 8 % 256 = 0) && decide (o.le 40 8 % 256 = 0) && decide (256 ≤ o.le 40 8) &&
    decide (o.le 40 8 ≤ 2 ^ 40)) 0x140]

/-- Checks 1 and 2 of 18 T18.7. -/
def Op.mirrorChecks (o : Op) : Verdict :=
  firstFail [
    need (!o.isExt && o.zeros 17 23 && o.zeros 62 63 &&
      (match o.byte 16 with
       | 0 => o.zeros 48 61
       | 1 => o.zeros 24 47
       | _ => false)) 0x150,
    need (o.byte 16 == 1 || (decide (o.le 24 8 % 256 = 0) && decide (o.le 32 8 % 256 = 0) && decide (o.le 40 8 % 256 = 0) &&
      decide (256 ≤ o.le 40 8))) 0x151]

/-- The checks that the opcode adds at admission, after those of 03 T3.8. -/
def State.opcodeChecks (s : State) (o : Op) (host : Option (List Byte)) : Verdict :=
  match o.opcode with
  | 0x10 | 0x11 => s.programChecks o host
  | 0x20 => s.copyChecks o
  | 0x21 | 0x22 => o.tierChecks
  | 0x30 => o.buildChecks
  | 0x31 => o.swapChecks
  | 0x32 => o.publishChecks
  | 0x40 => s.collectiveChecks o
  | 0x41 => o.formChecks
  | 0x42 => o.reformChecks
  | 0x50 => o.snapshotChecks
  | 0x51 => o.mirrorChecks
  | _ => none

/-- The first admission check that fails (03 R108). -/
def State.admissionCheck (s : State) (o : Op) (ext : Option (List Byte)) : Verdict :=
  match s.headerChecks o ext.isSome with
  | some e => some e
  | none => s.opcodeChecks o ext

/-- A descriptor slot is fetched and admitted (03 R96, R101, R108). `got`: what the reads bring; for a LOAD_PROGRAM from the host the
second part is the image header. -/
def execDescriptorFetch (n : Fin 12) (k : Fin 64) (got : Fetched) (s : State) : Host.Outcome State Fault Refusal :=
  ok (if s.nextAdmission ≠ some (n.val, k.val) then s
    else
      let link := Fin.ofNat 4 (s.pt n).hostLink
      match got with
      | .fault => (s.updL link (fun l => { l with fetchFaults := satInc l.fetchFaults })).ringError n k 1
      | .got desc ext =>
        let s1 := s.admitOp n k desc []
        match s1.findOp s.nextOp with
        | none => s1
        | some o =>
          let bytes := if o.isExt then (ext.getD []).take o.extLen else []
          match s.admissionCheck o ext with
          | some e =>
            let s2 := if e = (8, 0x07) then s1.updL link (fun l => { l with extFetch := satInc l.extFetch }) else s1
            s2.rejectOp s.nextOp e.1 e.2
          | none => s1.updOp s.nextOp (fun x => { x with ext := bytes }))

/-- A refresh of a function's status page (03 R120). -/
def execStatusPageRefresh (ep : Ep) (s : State) : Host.Outcome State Fault Refusal :=
  ok (match ep with
    | .vf n => if (s.pt n).state.isFree then s else s.refresh ep (decide ((s.pt n).mem.overs ≠ 0))
    | .pf _ => s.refresh ep false)

end Sys2Proof.Machine
end

