-- ==== Sys2Proof/Machine/Registers.lean ====
section
/-! DEFINITION. The register map: a write of a setup register, a 32-bit read of the low half of an RS register (00 R13-R18; 02 T2.8, R84;
03 R90-R95, R123-R125; 04 R150, R151; 09 R311; 10 R349; 11 R381; 12 R409; 13 T13.8-T13.10; 14 R471; 15 R497; 16 R527, R528; 17 R553, R554;
18 R581, R582; 19 R603). -/
namespace Sys2Proof.Machine

/-! ### Where a function's offset leads (03 T3.1, T3.2) -/

/-- The partition whose VF page a function's BAR0 is, while that VF is live (02 R68). -/
def State.fnPart (s : State) : Fn → Option (Fin 12)
  | .pf _ => none
  | .vf k n => if (s.pt n).hostLink = k.val ∧ s.vfLive n then some n else none

/-- The offset in a physical function's BAR0 of the register a VF offset names: the pages of PART, MEM, WGT, COL, PWR, RAS, GEN. -/
def vfOffset (n off : Nat) : Option Nat :=
  if 0x1000 ≤ off ∧ off < 0x2000 then some (0x20000 + 0x1000 * n + (off - 0x1000))
  else if 0x2000 ≤ off ∧ off < 0x2100 then some (0x61000 + 0x100 * n + (off - 0x2000))
  else if 0x3000 ≤ off ∧ off < 0x3100 then some (0x71000 + 0x100 * n + (off - 0x3000))
  else if 0x4000 ≤ off ∧ off < 0x4800 then some (0xA1000 + 0x800 * n + (off - 0x4000))
  else if 0x5000 ≤ off ∧ off < 0x5008 then some (0xB0100 + 8 * n + (off - 0x5000))
  else if 0x6000 ≤ off ∧ off < 0x6100 then some (0xD1000 + 0x100 * n + (off - 0x6000))
  else if off = 0x7028 then some 0x28
  else none

/-- The register an access touches and the bits of it: naturally aligned 32 or 64 bits, else nothing (00 R18). -/
def accessOf (off size : Nat) : Option (Nat × W64) :=
  if size = 8 ∧ off % 8 = 0 then some (off, BitVec.allOnes 64)
  else if size = 4 ∧ off % 8 = 0 then some (off, 0xFFFFFFFF)
  else if size = 4 ∧ off % 8 = 4 then some (off - 4, 0xFFFFFFFF00000000)
  else none

/-- A register's new bits: those the access touches, the rest as they were. -/
def mergeBits (old mask v : W64) : W64 := (old &&& ~~~mask) ||| (v &&& mask)

def word (l : List (Nat × Nat)) : W64 := BitVec.ofNat 64 (pack l)

/-! ### Writes of a function's rings, page and mailbox (03 T3.23, T3.24, T3.28) -/

/-- EVQ_CFG: LOG2_SIZE while the ring is disabled, then EVQ_EN (03 R117). -/
def EventRing.configure (q : EventRing) (v : W64) : EventRing :=
  let q1 := if q.en then q else { q with log2 := BitVec.ofNat 4 (field v 3 0) }
  if v.getLsbD 4 then q1.enable else { q1 with en := false }

/-- MBX_CFG: MBX_LOG2 while the mailbox is disabled, then MBX_EN (15 R475). -/
def Mailbox.configure (b : Mailbox) (v : W64) : Mailbox :=
  let b1 := if b.en then b else { b with log2 := BitVec.ofNat 4 (field v 3 0) }
  if v.getLsbD 4 then b1.enable else { b1 with en := false }

/-- STATUS: STATUS_EN and STATUS_BASE (03 R121). -/
def StatusPage.configure (p : StatusPage) (v : W64) : StatusPage :=
  let p1 := { p with base := v.extractLsb' 12 52 }
  if v.getLsbD 0 then p1.enable else { p1 with en := false }

/-- What a register of an endpoint's set is for. -/
inductive EpReg where
  | evqBase | evqCfg | evqHead | status | reqBase | rspBase | mbxCfg | mbxBell
deriving DecidableEq, Repr

/-- The endpoint's register as it reads, for the bits a write leaves. -/
def Endpoint.bits (x : Endpoint) : EpReg → W64
  | .evqBase => x.evq.base
  | .evqCfg => word [(4, x.evq.log2.toNat), (1, x.evq.en.toNat)]
  | .evqHead => word [(16, x.evq.head.toNat)]
  | .status => word [(1, x.status.en.toNat), (11, 0), (52, x.status.base.toNat)]
  | .reqBase => x.mbx.reqBase
  | .rspBase => x.mbx.rspBase
  | .mbxCfg => word [(4, x.mbx.log2.toNat), (1, x.mbx.en.toNat)]
  | .mbxBell => 0

def Endpoint.write (x : Endpoint) (g : EpReg) (mask v : W64) : Endpoint :=
  let w := mergeBits (x.bits g) mask v
  match g with
  | .evqBase => if x.evq.en then x else { x with evq := { x.evq with base := w } }
  | .evqCfg => if mask.getLsbD 0 then { x with evq := x.evq.configure w } else x
  | .evqHead => if mask.getLsbD 0 then { x with evq := x.evq.consume (BitVec.ofNat 16 (field w 15 0)) } else x
  | .status => if mask.getLsbD 0 then { x with status := x.status.configure w }
      else { x with status := { x.status with base := w.extractLsb' 12 52 } }
  | .reqBase => if x.mbx.en then x else { x with mbx := { x.mbx with reqBase := w } }
  | .rspBase => if x.mbx.en then x else { x with mbx := { x.mbx with rspBase := w } }
  | .mbxCfg => if mask.getLsbD 0 then { x with mbx := x.mbx.configure w } else x
  | .mbxBell => if mask.getLsbD 0 then { x with mbx := (x.mbx.setTail (field w 15 0)).setHead (field w 31 16) } else x

/-- The registers of HIF.LINK[k] from +0x008 (03 T3.23, T3.24). -/
def hifReg (off : Nat) : Option EpReg :=
  match off with
  | 0x08 => some .evqBase | 0x10 => some .evqCfg | 0x18 => some .evqHead | 0x28 => some .status
  | 0x30 => some .reqBase | 0x38 => some .rspBase | 0x40 => some .mbxCfg | 0x48 => some .mbxBell
  | _ => none

/-- The same registers in a PART set (03 T3.28). -/
def partReg (off : Nat) : Option EpReg :=
  match off with
  | 0x18 => some .evqBase | 0x20 => some .evqCfg | 0x28 => some .evqHead | 0x38 => some .status
  | 0x40 => some .reqBase | 0x48 => some .rspBase | 0x50 => some .mbxCfg | 0x58 => some .mbxBell
  | _ => none

/-! ### Writes of a ring pair (03 R93, R94, T3.29) -/

def Ring.cfgBits (r : Ring) : W64 :=
  word [(4, r.sqLog2.toNat), (5, r.cqLog2.toNat), (6, r.cqIndex.toNat), (2, r.prio.toNat), (1, (decide (r.sqState = .enabled)).toNat), (1, r.cqEn.toNat)]

/-- The configuration fields: what is in use does not change (03 R93). -/
def Ring.setCfg (r : Ring) (w : W64) : Ring :=
  let r1 := if r.sqState = .disabled then
      { r with
        sqLog2 := BitVec.ofNat 4 (field w 3 0)
        cqIndex := BitVec.ofNat 6 (field w 14 9) }
    else r
  let r2 := if r.cqEn then r1 else { r1 with cqLog2 := BitVec.ofNat 5 (field w 8 4) }
  { r2 with prio := BitVec.ofNat 2 (field w 16 15) }

/-- A write of +0x10: the fields, then CQ_EN, then SQ_EN. -/
def State.writeRingCfg (s : State) (n k : Nat) (v : W64) : State :=
  let s1 := s.updP n (fun p => p.updRing k (fun r => r.setCfg v))
  let s2 := if v.getLsbD 18 then s1.updP n (fun p => p.updRing k Ring.cqEnable) else s1.updP n (fun p => p.cqDisable k)
  if v.getLsbD 17 then s2.sqEnable n k else s2.sqDisable n k

def State.writeRing (s : State) (n k reg : Nat) (mask v : W64) : State :=
  let r := (s.pt n).ring k
  match reg with
  | 0x00 => if r.sqState = .disabled then s.updP n (fun p => p.updRing k (fun r => { r with sqBase := mergeBits r.sqBase mask v })) else s
  | 0x08 => if r.cqEn then s else s.updP n (fun p => p.updRing k (fun r => { r with cqBase := mergeBits r.cqBase mask v }))
  | 0x10 => if mask.getLsbD 0 then s.writeRingCfg n k (mergeBits r.cfgBits mask v) else s
  | _ => s

/-- A doorbell write: its halves are independent (03 R94, R95). -/
def State.writeDoorbell (s : State) (n k : Nat) (mask v : W64) : State :=
  let s1 := if mask.getLsbD 0 then s.sqTail n k (BitVec.ofNat 16 (field v 15 0)) else s
  if mask.getLsbD 32 then s1.cqHead n k (BitVec.ofNat 16 (field v 47 32)) else s1

/-- A write of POOL.LIMIT: 1,024 up to and including 4,096 (03 T3.27). -/
def State.writeLimit (s : State) (n : Nat) (w : W64) : State :=
  let l := field w 28 16
  if 1024 ≤ l ∧ l ≤ 4096 then s.updP n (fun p => { p with poolLimit := BitVec.ofNat 13 l }) else s

/-! ### Writes through a VF (03 R125; 10 R349; 11 R381) -/

/-- MEM.STALL_CFG (10 T10.17). -/
def PartMem.setStall (m : PartMem) (w : W64) : PartMem :=
  let d := field w 31 16
  { m with
    timeoutMs := BitVec.ofNat 16 (field w 15 0)
    t3DeadlineUs := if d < 10 then m.t3DeadlineUs else BitVec.ofNat 16 d }

/-- WGT.BATCH (11 T11.19). -/
def Partition.setBatch (p : Partition) (w : W64) : Partition :=
  { p with wgt := { p.wgt with
    batchObj := if p.syncCount ≤ field w 14 0 then p.wgt.batchObj else BitVec.ofNat 15 (field w 14 0)
    batchEn := w.getLsbD 15 } }

/-- A write to register `a` of a live VF's BAR0. -/
def State.writeVf (s : State) (n : Fin 12) (a : Nat) (mask v : W64) : State :=
  let p := s.pt n
  if a < 0x200 then s.writeDoorbell n (a / 8) mask v
  else if 0x1000 ≤ a ∧ a < 0x2000 then
    let o := a - 0x1000
    if 0x800 ≤ o then s.writeRing n ((o - 0x800) / 0x20) (o % 0x20) mask v
    else if o = 0x60 then (if mask.getLsbD 0 then s.cancelRing n (field v 5 0) 0 else s)
    else match partReg o with
      | some g => s.updEp (.vf n) (fun x => x.write g mask v)
      | none => s
  else if a = 0x2030 then
    if mask.getLsbD 0 then s.updM n (fun m => m.setStall (mergeBits (word [(16, m.timeoutMs.toNat), (16, m.t3DeadlineUs.toNat)]) mask v)) else s
  else if a = 0x20B0 then s.updM n (fun m => { m with lookupVa := (mergeBits (m.lookupVa.setWidth 64) mask v).setWidth 48 })
  else if a = 0x3030 then
    if mask.getLsbD 0 then s.updP n (fun q => q.setBatch (mergeBits (word [(15, p.wgt.batchObj.toNat), (1, p.wgt.batchEn.toNat)]) mask v)) else s
  else s

/-! ### Writes through a PF (02 T2.8) -/

/-- CAD.CFG (04 T4.6). -/
def State.writeCadCfg (s : State) (w : W64) : State :=
  let s1 := s.updCad (fun c => ({ c with
    root := w.getLsbD 2, tportMask := w.extractLsb' 4 12, ptpDomain := w.extractLsb' 16 8, rootPriority := w.extractLsb' 24 8 }).refreshRoot)
  if w.extractLsb' 0 2 = s.cad.sourceMode then s1 else s1.setSourceMode (w.extractLsb' 0 2)

def Cadence.cfgBits (c : Cadence) : W64 :=
  word [(2, c.sourceMode.toNat), (1, c.root.toNat), (1, 0), (12, c.tportMask.toNat), (8, c.ptpDomain.toNat), (8, c.rootPriority.toNat)]

/-- BPT.PROTO_CFG (12 T12.14). -/
def ProtoCfg.write (c : ProtoCfg) (w : W64) : ProtoCfg :=
  let g := field w 15 0
  let q := field w 26 16
  {
    gradAckMs := if g = 0 then c.gradAckMs else BitVec.ofNat 16 g,
    reqMax := if q < 1 ∨ 1024 < q then c.reqMax else BitVec.ofNat 11 q }

/-- RAS.CFG (18 T18.13). -/
def Ras.writeCfg (x : Ras) (w : W64) : Ras :=
  let m := field w 6 0
  let l := field w 25 16
  { x with
    marginPct := if m < 1 ∨ 50 < m then x.marginPct else BitVec.ofNat 7 m
    priorityEn := w.getLsbD 7
    lossMs := if l < 60 ∨ 1000 < l then x.lossMs else BitVec.ofNat 10 l }

/-- PWR.CFG (16 T16.13). -/
def Power.writeCfg (p : Power) (w : W64) : Power :=
  { p with
    class0En := w.getLsbD 0
    forecastEn := w.getLsbD 1
    bondMargin := if field w 13 8 = 0 then p.bondMargin else BitVec.ofNat 6 (field w 13 8) }

/-- MEM of the privileged PF: SPLIT, QUOTA, QUOTA_T3 (10 T10.15, T10.16). -/
def State.writeMem (s : State) (k n reg : Nat) (mask v : W64) : State :=
  let m := (s.pt n).mem
  match reg with
  | 0x00 => if mask.getLsbD 0 then s.writeSplit k n (field v 8 0) else s
  | 0x08 => s.writeQuota k n false (mergeBits (word [(24, m.quotaT1), (31, m.quotaT2)]) mask v)
  | 0x10 => if mask.getLsbD 0 then s.writeQuota k n true v else s
  | _ => s

/-- BRU.CAL (17 T17.7). -/
def State.writeCal (s : State) (p : Nat) (mask v : W64) : State :=
  let s1 := if mask.getLsbD 0 then s.updCal p (fun c => { c with en := v.getLsbD 0 }) else s
  if mask.getLsbD 32 then s1.writePeriod p (v.extractLsb' 32 32) else s1

/-- MGT.CONFIG (19 T19.10). -/
def Carrier.writeConfig (g : Carrier) (w : W64) : Carrier :=
  { g with autoOn := w.getLsbD 0, privLinkNext := w.extractLsb' 1 2, locate := w.getLsbD 3 }

/-- A write to a region window (09 T9.8; 16 T16.16). -/
def State.writeRegion (s : State) (r reg : Nat) (v : W64) : State :=
  match reg with
  | 0x130 => s.writeCeiling r (v.extractLsb' 0 3)
  | 0x138 => s.clearSuspect r (v.extractLsb' 0 16)
  | 0x410 => if v.extractLsb' 0 3 = 0 then s else s.updFab r (fun f => { f with transitEighths := v.extractLsb' 0 3 })
  | _ => s

/-- A write of the privileged PF of link k to register `a`, whose fields the low half holds. -/
def State.writeLow (s : State) (k : Fin 4) (a : Nat) (v : W64) : State :=
  if 0x20000 ≤ a ∧ a < 0x2C000 ∧ a % 0x1000 = 0x10 then
    (if (s.pt ((a - 0x20000) / 0x1000)).state.isFree then s else s.writeLimit ((a - 0x20000) / 0x1000) v)
  else if a = 0x30000 then s.writeCadCfg v
  else if a = 0x80008 then { s with proto := s.proto.write v }
  else if 0x81000 ≤ a ∧ a < 0x81000 + 0x100 * 38 ∧ a % 0x100 = 8 then s.writeCtrl k ((a - 0x81000) / 0x100) v
  else if a = 0x90018 then s.updTor (fun t => { t with rtIndex := v.extractLsb' 0 18 })
  else if 0x90300 ≤ a ∧ a < 0x90360 then
    let n := (a - 0x90300) / 8
    if field v 15 0 < 64 then s
    else (s.updTor (fun t => { t with throttle := tset t.throttle n { s.throttle n with thresh := v.extractLsb' 0 16 } })).throttleSync n
  else if a = 0xB0010 then s.writeHostW (field v 15 0)
  else if a = 0xB0020 then s.updPwr (fun p => p.writeCfg v)
  else if 0xB0100 ≤ a ∧ a < 0xB0160 then
    let n := (a - 0xB0100) / 8
    if (s.pt n).powerGuaranteed then s.updP n (fun p => { p with pwr := { p.pwr with guaranteeW := v.extractLsb' 0 16 } }) else s
  else if a = 0xC0008 then
    if 70 ≤ field v 7 0 ∧ field v 7 0 ≤ 90 then s.updPwr (fun p => { p with targetC := v.extractLsb' 0 8 }) else s
  else if a = 0xD0010 then { s with ras := s.ras.writeCfg v }
  else if a = 0xF0008 then { s with mgt := s.mgt.writeConfig v }
  else if 0x800000 ≤ a ∧ a < 0x890000 then s.writeRegion ((a - 0x800000) / 0x1000) (a % 0x1000) v
  else s

/-- FW.WDOG as it reads (15 T15.12). -/
def Firmware.wdogBits (f : Firmware) : W64 :=
  word [(16, f.wdogSec.toNat), (16, f.wdogPwr.toNat), (16, f.wdogSch.toNat), (16, f.wdogRcc.toNat)]

/-- A write of the privileged PF. -/
def State.writePriv (s : State) (k : Fin 4) (a : Nat) (mask v : W64) : State :=
  if a = 0x30 then { s with scratch := mergeBits s.scratch mask v }
  else if a = 0x40008 then s.writeWdog (mergeBits s.fw.wdogBits mask v)
  else if a = 0x30020 then s.setLocal (v &&& mask)
  else if 0x61000 ≤ a ∧ a < 0x61000 + 0x100 * 12 then s.writeMem k ((a - 0x61000) / 0x100) (a % 0x100) mask v
  else if 0xE0020 ≤ a ∧ a < 0xE0040 then s.writeCal ((a - 0xE0020) / 8) mask v
  else if mask.getLsbD 0 then s.writeLow k a v
  else s

/-- A write to register `a` of a PF's BAR0: its own HIF set and DUMP_SEL, everything for the privileged one (02 T2.8, 15 R497). -/
def State.writePf (s : State) (k : Fin 4) (a : Nat) (mask v : W64) : State :=
  let own := decide (s.priv = .pf k)
  if 0x10000 ≤ a ∧ a < 0x11000 then
    let j := Fin.ofNat 4 ((a - 0x10000) / 0x400)
    if own || j == k then
      (match hifReg (a % 0x400) with
       | some g => s.updEp (.pf j) (fun x => x.write g mask v)
       | none => s)
    else s
  else if a = 0x40600 then (if mask.getLsbD 0 then s.writeDumpSel k v else s)
  else if own then s.writePriv k a mask v
  else s

/-- A write of a setup register (00 R14, R17, R18). -/
def execRegisterWrite (fn : Fn) (off : BitVec 24) (size : Nat) (value : W64) (s : State) : Host.Outcome State Fault Refusal :=
  ok (match accessOf off.toNat size with
    | none => s
    | some (a, mask) =>
      let v := if off.toNat % 8 = 4 then value <<< 32 else value
      match fn with
      | .pf k => s.writePf k a mask v
      | .vf _ _ =>
        match s.fnPart fn with
        | some n => s.writeVf n a mask v
        | none => s)

/-! ### RS registers (00 R15) -/

/-- T2 blocks in no object (10 T10.14). -/
def State.t2Cap (s : State) : Nat :=
  let total := if s.hasFlash then 2 ^ 30 else 0
  let used := ((List.range 12).map (fun n => (s.pt n).mem.useT2)).foldl (· + ·) 0 + (s.backing.map (fun (e : Nat × MemObj) => e.2.blocks)).foldl (· + ·) 0
  pack [(31, total), (1, 0), (31, total - used)]

/-- A page table entry as LOOKUP_PTE reads it (10 T10.2). -/
def Pte.bits (e : Pte) : Nat :=
  let res := match e.ppa with
    | some _ => e.back == 0 || e.chunks == BitVec.allOnes 32
    | none => false
  pack [(1, 1), (1, res.toNat), (2, e.back), (1, e.pin.toNat), (1, e.lost.toNat), (2, 0), (21, if res then e.ppa.getD 0 else 0), (3, 0),
    (12, if e.back = 0 then 0 else e.ref)]

def State.lookupPte (s : State) (n : Nat) : Nat :=
  match s.homeOf n ((s.pt n).mem.lookupVa.toNat / pageSize) with
  | .none => 0
  | .anon e => e.bits
  | .obj e => e.bits
  | .shared sh _ => pack [(1, 1), (1, 0), (2, 1), (28, 0), (6, sh)]
  | .backing sh _ => pack [(1, 1), (1, 0), (2, 1), (28, 0), (6, sh)]

/-- PART.RS registers of a set (03 T3.26-T3.29). -/
def State.rsPart (s : State) (n o : Nat) : Option Nat :=
  let p := if (s.pt n).state.isFree then ({} : Partition) else s.pt n
  if o = 0x10 then some (s.partPool n)
  else if o = 0x30 then some p.ep.evq.stat
  else if o = 0x68 then some p.admitted.toNat
  else if o = 0x70 then some p.completed.toNat
  else if o = 0x78 then some p.doorbellDrop.toNat
  else if 0x800 ≤ o ∧ o % 0x20 = 0x18 then
    let r := p.ring ((o - 0x800) / 0x20)
    some (pack [(16, r.sqHead.toNat), (16, r.sqTail.toNat), (16, r.cqTail.toNat), (1, r.cqPhase.toNat)])
  else none

/-- MEM RS registers of a set (10 T10.16-T10.19). -/
def State.rsMem (s : State) (n o : Nat) : Option Nat :=
  let free := (s.pt n).state.isFree
  let m := if free then ({} : PartMem) else (s.pt n).mem
  if o = 0x18 then some (if free then 0 else pack [(24, s.allocated n), (24, s.cachedPages n)])
  else if o = 0x20 then some (pack [(31, m.useT2), (1, 0), (23, m.useT3)])
  else if 0x38 ≤ o ∧ o < 0x68 then some (m.stallTime s.cad.count.toNat ((o - 0x38) / 8 + 1)).toNat
  else if 0x68 ≤ o ∧ o < 0x98 then
    let c := (o - 0x68) / 8 + 1
    some (pack [(32, (tget 0 m.stalls c).toNat), (32, (tget 0 m.timeouts c).toNat)])
  else if o = 0x98 then some (pack [(32, m.fetched.toNat), (32, m.discarded.toNat)])
  else if o = 0xA0 then some (pack [(32, m.passChunks.toNat), (32, m.quotaFails.toNat)])
  else if o = 0xA8 then some (pack [(16, m.decryptFail.toNat), (16, m.checkFail.toNat), (16, m.t1Poisoned.toNat)])
  else if o = 0xB8 then some (if free then 0 else s.lookupPte n)
  else none

/-- WGT RS registers of a set (11 T11.20), waits in progress included. -/
def State.rsWgt (s : State) (n o : Nat) : Option Nat :=
  let g := if (s.pt n).state.isFree then ({} : PartWgt) else (s.pt n).wgt
  let waits := fun (f : StreamOp → Option Nat) => ((s.streamOps.filter (fun x => x.part == n)).map (fun x => s.since (f x))).foldl (· + ·) 0
  match o with
  | 0x38 => some g.granules.toNat
  | 0x40 => some (pack [(32, g.aborts.toNat), (8, g.lastStatus.toNat)])
  | 0x48 => some (pack [(32, g.engineUs.toNat + waits (fun x => x.waitSince)), (32, g.swapHoldNs.toNat + 1000 * waits (fun x => x.heldSince))])
  | 0x50 => some (pack [(24, g.relayed.toNat), (20, g.fallbacks.toNat), (20, g.unsolicited.toNat)])
  | _ => none

/-- COL RS registers of a set (14 T14.13, T14.14). -/
def State.rsCol (s : State) (n o : Nat) : Option Nat :=
  let c := if (s.pt n).state.isFree then ({} : PartCol) else (s.pt n).col
  if o = 0 then some (pack [(6, (c.groups.filter (fun (e : Nat × Group) => decide (e.2.state ≠ .free))).length), (26, 0), (32, c.opsOk.toNat)])
  else if o = 8 then some (pack [(32, c.begun.toNat), (32, c.received.toNat)])
  else if o = 0x10 then some c.discards.toNat
  else if 0x100 ≤ o ∧ o < 0x500 then
    let g := tget {} c.groups ((o - 0x100) / 0x20)
    if o % 0x20 = 0x10 then some (pack [(32, g.seq.toNat), (32, g.squalls.toNat)])
    else if o % 0x20 = 0x18 then some (pack [(32, g.lastDetail.toNat), (32, g.lastTick.toNat)])
    else none
  else none

/-- RAS RS registers of a partition's set (18 T18.14). -/
def State.rsRas (s : State) (n o : Nat) : Option Nat :=
  let p := if (s.pt n).state.isFree then ({} : Partition) else s.pt n
  let m := p.mirror
  match o with
  | 0x00 =>
    let least := p.regions.foldl (fun (b : Nat × Nat) r =>
      let v := (s.rg r).flt.rate100.toNat
      if v < b.1 then (v, r) else b) (1024, 0)
    let slow := (p.regions.filter (fun r => (s.rg r).flt.straggler)).length
    some (pack [(11, least.1), (8, least.2), (8, slow)])
  | 0x10 => some m.label.toNat
  | 0x18 => some m.tick.toNat
  | 0x28 => some m.bytes.toNat
  | 0x30 => some m.commits.toNat
  | _ => none

/-- RAS.SUMMARY (18 T18.13). DEGRADED: a READY region with a FAILED RCC or a bond-suspect cell (R562). -/
def State.rasSummary (s : State) : Nat :=
  let ready := (List.range 144).filter (fun r => decide ((s.rg r).state = .ready))
  let slow := (ready.filter (fun r => (s.rg r).flt.straggler)).length
  let bad := (ready.filter (fun r => decide ((s.core (.rcc (Fin.ofNat 144 r))).state = .failed) || decide ((s.rg r).pwr.suspect ≠ 0))).length
  pack [(8, s.ras.faultFenced.toNat), (8, slow), (8, bad), (8, 0), (32, s.ras.knownAdded.toNat)]

/-- BPT.PORT[p] RS registers (12 T12.17). -/
def State.rsPort (s : State) (p o : Nat) : Option Nat :=
  let x := s.port p
  let held := ((s.insts.filter (fun i => i.gradient && i.seg.wport == p)).map (fun i => i.frames.length)).foldl (· + ·) 0
  match o with
  | 0x20 => some x.flitsTx.toNat
  | 0x28 => some x.flitsRx.toNat
  | 0x30 => some (pack [(32, x.fecCorrected.toNat), (16, x.fecUncorr.toNat), (16, x.lcrcFail.toNat)])
  | 0x38 => some (pack [(32, x.replays.toNat), (16, x.retrains.toNat), (16, x.downs.toNat)])
  | 0x40 => some (pack [(32, x.keyDrop.toNat), (3, x.keyDropLast.1), (13, 0), (16, x.keyDropLast.2.toNat)])
  | 0x48 => some (pack [(16, x.egressCheck.toNat), (16, x.poisonRx.toNat), (16, x.poisonTx.toNat), (16, x.entryCheck.toNat)])
  | 0x50 => some (pack [(16, if p < 24 then s.reqOut p else 0), (16, x.protoErr.toNat), (16, x.unsolicited.toNat), (16, if p < 24 then held else 0)])
  | _ => none

/-- TOR RS registers (13 T13.9, T13.10). -/
def State.rsTor (s : State) (o : Nat) : Option Nat :=
  if 0x300 ≤ o ∧ o < 0x360 then
    let n := (o - 0x300) / 8
    let t := s.throttle n
    some (pack [(16, t.thresh.toNat), (16, min 0xFFFF (s.torQueued n / 1024)), (32, t.us.toNat + s.since t.since)])
  else if 0x400 ≤ o ∧ o < 0x580 then
    let x := s.tp ((o - 0x400) / 0x20)
    match o % 0x20 with
    | 0x08 => some (pack [(32, x.staleGen.toNat), (32, x.futureGen.toNat)])
    | 0x10 => some (pack [(32, x.holdDrop.toNat), (16, x.routeDrop.toNat), (16, x.mismatchDrop.toNat)])
    | 0x18 => some x.transit.toNat
    | _ => none
  else none

/-- FW.MBX and FW.QUEUE (15 T15.15). -/
def State.rsFw (s : State) (k : Option (Fin 4)) (o : Nat) : Option Nat :=
  if o = 0x608 then k.map (fun j => (s.dumpWord j).toNat)
  else if 0x700 ≤ o ∧ o < 0x780 then
    let b := (s.endpoint (mbxEp (Fin.ofNat 16 ((o - 0x700) / 8)))).mbx
    some (pack [(24, b.accepted.toNat), (8, b.refused.toNat), (8, b.malformed.toNat), (8, b.doorbellDrop.toNat), (8, b.lost.toNat), (8, b.fetchFault.toNat)])
  else if o = 0x780 then
    some (pack [(11, s.fw.qSec.length), (5, 0), (11, s.fw.qPwr.length), (5, 0), (11, s.fw.qSch.length), (5, 0), (11, s.fw.qMmc.length)])
  else none

/-- Power and thermal RS registers of a region (16 T16.16); their reset values while it is OFF. -/
def RegionPower.rs (p : RegionPower) (duty : Nat) (o : Nat) : Option Nat :=
  let cur := fun (l : List W16) k => (l.getD k 0).toNat
  if o = 0x108 then some (pack [(16, cur p.current 0), (16, cur p.current 1), (16, cur p.current 2), (16, cur p.current 3)])
  else if o = 0x110 then some (pack [(16, cur p.lnkCurrent 0), (16, cur p.lnkCurrent 1)])
  else if o = 0x118 then some p.minLog.toNat
  else if o = 0x120 then some p.minSram.toNat
  else if o = 0x128 then some (pack [(32, p.estMw.toNat), (16, p.capW.toNat), (5, duty)])
  else if o = 0x140 then
    let t := fun k => (p.sensors.getD k 0).toNat
    some (pack [(12, t 0), (12, t 1), (12, t 2), (12, t 3), (12, p.tempMax.toNat)])
  else if 0x148 ≤ o ∧ o < 0x180 then some (tget 0 p.thrUs ((o - 0x148) / 8)).toNat
  else none

/-- Fabric RS registers of a region (09 T9.9-T9.11). -/
def RegionFabric.rs (f : RegionFabric) (o : Nat) : Option Nat :=
  if 0x420 ≤ o ∧ o < 0x448 then some (tget 0 f.linkFlits ((o - 0x420) / 8)).toNat
  else if 0x448 ≤ o ∧ o < 0x478 then
    let side := (o - 0x448) / 8
    let l := tget (0, 0) f.keyDropLast side
    some (pack [(32, (tget 0 f.keyDrop side).toNat), (3, l.1), (13, 0), (16, l.2.toNat)])
  else if 0x478 ≤ o ∧ o < 0x4A0 then some (tget 0 f.creditStall ((o - 0x478) / 8)).toNat
  else if o = 0x4A0 then
    some (pack [(24, f.corrected.toNat), (8, f.badType.toNat), (10, f.dataUncorr.toNat), (10, f.hdrDrop.toNat), (6, f.timeouts.toNat), (6, f.fenceDiscard.toNat)])
  else none

/-- Fault RS registers of a region (18 T18.15). -/
def RegionFaults.rs (f : RegionFaults) (o : Nat) : Option Nat :=
  if o = 0x800 then some (pack [(32, f.sramCe.toNat), (32, f.sliceCe.toNat)])
  else if o = 0x808 then some (pack [(16, f.sramUe.toNat), (16, f.sliceUe.toNat), (16, f.tileLogic.toNat), (16, f.recordsLost.toNat)])
  else if o = 0x810 then some (pack [(11, f.rate1.toNat), (11, f.rate100.toNat), (1, f.straggler.toNat), (1, 0), (4, f.reason.toNat)])
  else if o = 0x818 then some f.faultHead.toNat
  else if o = 0x820 then some f.retired.length
  else if 0x840 ≤ o ∧ o < 0x940 then
    match tfind f.records ((o - 0x840) / 16), o % 16 with
    | some e, 0 => some (pack [(4, e.kind.toNat), (5, e.i.toNat), (5, e.j.toNat), (1, e.tileValid.toNat), (1, 0), (48, e.tick.toNat)])
    | some e, _ => some (pack [(32, e.addr.toNat), (4, e.owner.toNat)])
    | none, 0 => some 0
    | none, _ => some (pack [(32, 0), (4, 0xF)])
  else none

/-- Bring-up RS registers of a region (17 T17.10). -/
def RegionBringup.rs (b : RegionBringup) (o : Nat) : Option Nat :=
  if o = 0x620 then some (pack [(16, b.marginMin.toNat), (16, b.applied.toNat), (16, b.fails.toNat)])
  else if o = 0x630 then some (pack [(16, b.trim.toNat), (32, b.trimSteps.toNat)])
  else none

/-- MGT.PMBUS (19 T19.12). -/
def Segment.bits (x : Segment) : Nat :=
  let st := match x.state with
    | .active => 0
    | .recovering => 1
    | .isolated => 2
  pack [(2, st), (2, x.tries.toNat), (1, x.cause.toNat), (1, x.stale.toNat), (2, 0), (16, x.recoveries.toNat), (16, x.isolations.toNat),
    (7, x.lastAddr.toNat)]

/-- The RS registers of a region window (01 T1.7). -/
def State.rsRegion (s : State) (r o : Nat) : Option Nat :=
  let g := s.rg r
  let off := decide (g.state = .off)
  let gone := off || decide (g.state = .fenced)
  if o < 0x300 then (if off then ({} : RegionPower) else g.pwr).rs (if off then 16 else s.duty r) o
  else if o = 0x308 then some (if gone then 0 else pack [(32, g.osc.classChanges.toNat), (32, g.osc.pulls.toNat)])
  else if o < 0x600 then (if gone then ({} : RegionFabric) else g.fab).rs o
  else if o < 0x800 then g.bru.rs o
  else (if off then ({} : RegionFaults) else g.flt).rs o

/-- The 64 bits of the RS register at offset `a` of a PF's BAR0, none where there is none. `k`: the function that reads, for DUMP_DATA. -/
def State.rsValue (s : State) (k : Option (Fin 4)) (a : Nat) : Option Nat :=
  let set := fun (base size : Nat) => decide (base ≤ a) && decide (a < base + 12 * size)
  if a = 0x28 then some s.cad.count.toNat
  else if a = 0x38 then some s.genPool
  else if 0x10000 ≤ a ∧ a < 0x11000 then
    let l := s.lk ((a - 0x10000) / 0x400)
    (if a % 0x400 = 0x20 then some l.ep.evq.stat
     else if a % 0x400 = 0x50 then some (pack [(16, l.fetchFaults.toNat), (16, l.extFetch.toNat), (16, l.linkResets.toNat)])
     else none)
  else if set 0x20000 0x1000 then s.rsPart ((a - 0x20000) / 0x1000) (a % 0x1000)
  else if a = 0x30018 then some (BitVec.ofInt 64 s.cad.offset).toNat
  else if a = 0x30028 then some (pack [(32, s.cad.steps.toNat), (32, s.cad.holdovers.toNat)])
  else if 0x30100 ≤ a ∧ a < 0x30160 then some (s.pt ((a - 0x30100) / 8)).late.toNat
  else if 0x40000 ≤ a ∧ a < 0x50000 then s.rsFw k (a - 0x40000)
  else if a = 0x50108 then some s.sec.keyLoadFail.toNat
  else if a = 0x60000 then some s.t2Cap
  else if set 0x61000 0x100 then s.rsMem ((a - 0x61000) / 0x100) (a % 0x100)
  else if set 0x71000 0x100 then s.rsWgt ((a - 0x71000) / 0x100) (a % 0x100)
  else if 0x81000 ≤ a ∧ a < 0x81000 + 0x100 * 38 then s.rsPort ((a - 0x81000) / 0x100) (a % 0x100)
  else if 0x90000 ≤ a ∧ a < 0xA0000 then s.rsTor (a - 0x90000)
  else if set 0xA1000 0x800 then s.rsCol ((a - 0xA1000) / 0x800) (a % 0x800)
  else if a = 0xB0000 then some s.pwrInput
  else if a = 0xB0008 then some s.pwr.energyMj.toNat
  else if a = 0xC0000 then some (pack [(16, s.pwr.inlet.toNat), (16, s.pwr.outlet.toNat), (16, s.pwr.flow.toNat)])
  else if a = 0xC0010 then
    some (pack [(8, s.pwr.hotRegion.toNat), (12, s.pwr.hotTemp.toNat), (1, (decide (s.pwr.coolantW.toNat < 32000)).toNat)])
  else if a = 0xC0018 then some (pack [(32, s.pwr.lullsThermal.toNat), (32, s.pwr.lullsAlert.toNat)])
  else if a = 0xD0000 then some s.rasSummary
  else if set 0xD1000 0x100 then s.rsRas ((a - 0xD1000) / 0x100) (a % 0x100)
  else if 0xE0040 ≤ a ∧ a < 0xE0060 then
    let c := s.cal ((a - 0xE0040) / 8)
    some (pack [(32, c.slots.toNat), (32, c.skipped.toNat)])
  else if a = 0xF0010 then some s.mgtSafety
  else if 0xF0100 ≤ a ∧ a < 0xF0180 then some (s.seg ((a - 0xF0100) / 8)).bits
  else if 0x800000 ≤ a ∧ a < 0x890000 then s.rsRegion ((a - 0x800000) / 0x1000) (a % 0x1000)
  else none

/-- The 64 bits of the RS register a function sees at an offset (03 T3.1, T3.2; 16 R527). -/
def State.rsSeen (s : State) (fn : Fn) (off : Nat) : Option Nat :=
  match fn with
  | .pf k => s.rsValue (some k) off
  | .vf _ _ =>
    match s.fnPart fn with
    | none => none
    | some n =>
      if 0x5008 ≤ off ∧ off < 0x5040 ∧ off % 8 = 0 then some (tget 0 (s.pt n).pwr.thrUs ((off - 0x5008) / 8)).toNat
      else match vfOffset n off with
        | some a => s.rsValue none a
        | none => none

/-- A function's number among the shadows. -/
def Fn.index : Fn → Nat
  | .pf k => k.val
  | .vf k n => 4 + 12 * k.val + n.val

/-- A 32-bit read of the low half of an RS register: the value goes out, the high half is latched (00 R15). -/
def execRsLowHalfRead (fn : Fn) (off : BitVec 24) (s : State) : Host.Outcome State Fault Refusal :=
  ok (if off.toNat % 8 ≠ 0 then s
    else match s.rsSeen fn off.toNat with
      | none => s
      | some v =>
        let w := BitVec.ofNat 64 v
        { s with rsShadow := tset s.rsShadow (fn.index * 2 ^ 25 + off.toNat) (w.extractLsb' 32 32) }.emit
          (.readValue fn off (w &&& 0xFFFFFFFF)))

end Sys2Proof.Machine
end

