-- ==== Sys2Proof/Machine/Sequencer.lean ====
section
/-! DEFINITION. Sequencer instructions: scalar, address, predicate, branch, control registers, holds, sync (06 R185-R201, 05 R182, R183). -/
namespace Sys2Proof.Machine

/-! ### Scalar arithmetic (06 R195, T6.6) -/

/-- Sub-functions 0-14 of ALU and ALUI on 64-bit values; shifts by `sh`. -/
def aluFn (fn : Nat) (a b : W64) (sh : Nat) : W64 :=
  match fn with
  | 0 => a + b
  | 1 => a - b
  | 2 => a &&& b
  | 3 => a ||| b
  | 4 => a ^^^ b
  | 5 => a <<< sh
  | 6 => a >>> sh
  | 7 => a.sshiftRight sh
  | 8 => if a.slt b then a else b
  | 9 => if b.slt a then a else b
  | 10 => if a.ult b then a else b
  | 11 => if b.ult a then a else b
  | 12 => bit (a == b)
  | 13 => bit (a.slt b)
  | _ => bit (a.ult b)

/-- The same on bits [31:0], the 32-bit result sign-extended (W32 = 1). -/
def aluFn32 (fn : Nat) (a b : W64) : W64 :=
  let x : W32 := a.setWidth 32
  let y : W32 := b.setWidth 32
  let sh := y.toNat % 32
  let r : W32 := match fn with
    | 0 => x + y
    | 1 => x - y
    | 2 => x &&& y
    | 3 => x ||| y
    | 4 => x ^^^ y
    | 5 => x <<< sh
    | 6 => x >>> sh
    | 7 => x.sshiftRight sh
    | 8 => if x.slt y then x else y
    | 9 => if y.slt x then x else y
    | 10 => if x.ult y then x else y
    | 11 => if y.ult x then x else y
    | 12 => bit (x == y)
    | 13 => bit (x.slt y)
    | _ => bit (x.ult y)
  r.signExtend 64

def aluVal (fn : Nat) (w32 : Bool) (a b : W64) : W64 :=
  if w32 then aluFn32 fn a b else aluFn fn a b (b.toNat % 64)

/-- ALU: sD ← sA op sB (06 R195). -/
def State.alu (s : State) (t : Nat) (fn : Nat) (d a b : BitVec 5) (w32 : Bool) : State :=
  s.issue t [rs a, rs b] [rs d] [] (fun u _ => u.updT t (fun x =>
    x.sSet d.toNat (aluVal fn w32 (x.sGet a.toNat) (x.sGet b.toNat)) (x.sBad a.toNat || x.sBad b.toNat)))

/-- ALUI: sD ← sA op IMM sign-extended; a shift takes IMM[5:0], with IMM[31:6] 0 (06 R195). -/
def State.alui (s : State) (t : Nat) (fn : Nat) (d a : BitVec 5) (imm : W32) : State :=
  s.issue t [rs a] [rs d] [] (fun u i =>
    if (fn = 5 ∨ fn = 6 ∨ fn = 7) ∧ 64 ≤ imm.toNat then u.illegal t i
    else u.updT t (fun x =>
      x.sSet d.toNat (aluFn fn (x.sGet a.toNat) (imm.signExtend 64) (imm.toNat % 64)) (x.sBad a.toNat)))

/-- MUL, MULH, MULHU (06 T6.6): with W32 the 64-bit product of the low halves. -/
def mulVal (fn : Nat) (w32 : Bool) (a b : W64) : W64 :=
  if w32 then
    let x : W32 := a.setWidth 32
    let y : W32 := b.setWidth 32
    match fn with
    | 0 => (x * y).signExtend 64
    | 1 => (BitVec.ofInt 32 (x.toInt * y.toInt / 2 ^ 32)).signExtend 64
    | _ => (BitVec.ofNat 32 (x.toNat * y.toNat / 2 ^ 32)).signExtend 64
  else match fn with
    | 0 => a * b
    | 1 => BitVec.ofInt 64 (a.toInt * b.toInt / 2 ^ 64)
    | _ => BitVec.ofNat 64 (a.toNat * b.toNat / 2 ^ 64)

def State.mulOp (s : State) (t : Nat) (fn : Nat) (d a b : BitVec 5) (w32 : Bool) : State :=
  s.issue t [rs a, rs b] [rs d] [] (fun u _ => u.updT t (fun x =>
    x.sSet d.toNat (mulVal fn w32 (x.sGet a.toNat) (x.sGet b.toNat)) (x.sBad a.toNat || x.sBad b.toNat)))

/-- A scalar takes a clean value. -/
def State.setScalar (s : State) (t : Nat) (reads : List Reg) (d : BitVec 5) (f : TileSt → W64) : State :=
  s.issue t reads [rs d] [] (fun u _ => u.updT t (fun x => x.sSet d.toNat (f x) false))

section
variable (t : Tile) (d a b : BitVec 5) (w32 : Bool) (imm : W32) (s : State)
def execAdd : Host.Outcome State Fault Refusal := ok (s.alu t 0 d a b w32)
def execSub : Host.Outcome State Fault Refusal := ok (s.alu t 1 d a b w32)
def execAnd : Host.Outcome State Fault Refusal := ok (s.alu t 2 d a b w32)
def execOr : Host.Outcome State Fault Refusal := ok (s.alu t 3 d a b w32)
def execXor : Host.Outcome State Fault Refusal := ok (s.alu t 4 d a b w32)
def execShl : Host.Outcome State Fault Refusal := ok (s.alu t 5 d a b w32)
def execShr : Host.Outcome State Fault Refusal := ok (s.alu t 6 d a b w32)
def execSar : Host.Outcome State Fault Refusal := ok (s.alu t 7 d a b w32)
def execMin : Host.Outcome State Fault Refusal := ok (s.alu t 8 d a b w32)
def execMax : Host.Outcome State Fault Refusal := ok (s.alu t 9 d a b w32)
def execMinu : Host.Outcome State Fault Refusal := ok (s.alu t 10 d a b w32)
def execMaxu : Host.Outcome State Fault Refusal := ok (s.alu t 11 d a b w32)
def execSeq : Host.Outcome State Fault Refusal := ok (s.alu t 12 d a b w32)
def execSlt : Host.Outcome State Fault Refusal := ok (s.alu t 13 d a b w32)
def execSltu : Host.Outcome State Fault Refusal := ok (s.alu t 14 d a b w32)
def execAluiAdd : Host.Outcome State Fault Refusal := ok (s.alui t 0 d a imm)
def execAluiSub : Host.Outcome State Fault Refusal := ok (s.alui t 1 d a imm)
def execAluiAnd : Host.Outcome State Fault Refusal := ok (s.alui t 2 d a imm)
def execAluiOr : Host.Outcome State Fault Refusal := ok (s.alui t 3 d a imm)
def execAluiXor : Host.Outcome State Fault Refusal := ok (s.alui t 4 d a imm)
def execAluiShl : Host.Outcome State Fault Refusal := ok (s.alui t 5 d a imm)
def execAluiShr : Host.Outcome State Fault Refusal := ok (s.alui t 6 d a imm)
def execAluiSar : Host.Outcome State Fault Refusal := ok (s.alui t 7 d a imm)
def execAluiMin : Host.Outcome State Fault Refusal := ok (s.alui t 8 d a imm)
def execAluiMax : Host.Outcome State Fault Refusal := ok (s.alui t 9 d a imm)
def execAluiMinu : Host.Outcome State Fault Refusal := ok (s.alui t 10 d a imm)
def execAluiMaxu : Host.Outcome State Fault Refusal := ok (s.alui t 11 d a imm)
def execAluiSeq : Host.Outcome State Fault Refusal := ok (s.alui t 12 d a imm)
def execAluiSlt : Host.Outcome State Fault Refusal := ok (s.alui t 13 d a imm)
def execAluiSltu : Host.Outcome State Fault Refusal := ok (s.alui t 14 d a imm)
def execMul : Host.Outcome State Fault Refusal := ok (s.mulOp t 0 d a b w32)
def execMulh : Host.Outcome State Fault Refusal := ok (s.mulOp t 1 d a b w32)
def execMulhu : Host.Outcome State Fault Refusal := ok (s.mulOp t 2 d a b w32)
def execLi : Host.Outcome State Fault Refusal := ok (s.setScalar t [] d (fun _ => imm.signExtend 64))
def execLiu : Host.Outcome State Fault Refusal := ok (s.setScalar t [] d (fun _ => imm.setWidth 64))
/-- LIH keeps sD[31:0], so its poison stays (06 T6.6, 05 R165). -/
def execLih : Host.Outcome State Fault Refusal :=
  ok (s.issue t [rs d] [rs d] [] (fun u _ => u.updT t (fun x =>
    x.sSet d.toNat (imm ++ (x.sGet d.toNat).setWidth 32) (x.sBad d.toNat))))
end

/-! ### Address registers (06 R196, T6.7) -/

def State.setAddr (s : State) (t : Nat) (reads : List Reg) (d : BitVec 4) (f : TileSt → W64) : State :=
  s.issue t reads [ra d] [] (fun u _ => u.updT t (fun x => x.aSet d.toNat (f x)))

def execAset (t : Tile) (d : BitVec 4) (imm : W32) (s : State) : Host.Outcome State Fault Refusal :=
  ok (s.setAddr t [] d (fun _ => imm.signExtend 64))

def execAadd (t : Tile) (d a : BitVec 4) (imm : W32) (s : State) : Host.Outcome State Fault Refusal :=
  ok (s.setAddr t [ra a] d (fun x => x.aGet a.toNat + imm.signExtend 64))

def execAfroms (t : Tile) (d : BitVec 4) (a : BitVec 5) (imm : W32) (s : State) : Host.Outcome State Fault Refusal :=
  ok (s.issue t [rs a] [ra d] [] (fun u i => u.clean t i [a.toNat]
    (u.updT t (fun x => x.aSet d.toNat (x.sGet a.toNat + imm.signExtend 64)))))

def execAtos (t : Tile) (d : BitVec 5) (a : BitVec 4) (imm : W32) (s : State) : Host.Outcome State Fault Refusal :=
  ok (s.setScalar t [ra a] d (fun x => x.aGet a.toNat + imm.signExtend 64))

/-- aD ← aA + ((aD − aA + sB[63:32]) mod sB[31:0]) on unsigned 64-bit values; unchanged when sB[31:0] = 0. -/
def awrapVal (d a b : W64) : W64 :=
  let m := b.toNat % 2 ^ 32
  if m = 0 then d else a + BitVec.ofNat 64 ((d - a + (b >>> 32)).toNat % m)

def execAwrap (t : Tile) (d a : BitVec 4) (b : BitVec 5) (s : State) : Host.Outcome State Fault Refusal :=
  ok (s.issue t [ra d, ra a, rs b] [ra d] [] (fun u i => u.clean t i [b.toNat]
    (u.updT t (fun x => x.aSet d.toNat (awrapVal (x.aGet d.toNat) (x.aGet a.toNat) (x.sGet b.toNat))))))

/-! ### Predicates (06 R197, T6.8) -/

def State.pop (s : State) (t : Nat) (d a b : BitVec 3) (f : W64 → W64 → W64) : State :=
  s.issue t [rp a, rp b] [rp d] [] (fun u _ => u.updT t (fun x => x.pSet d.toNat (f (x.pGet a.toNat) (x.pGet b.toNat)) (x.pBad a.toNat || x.pBad b.toNat)))

def execPand (t : Tile) (d a b : BitVec 3) (s : State) : Host.Outcome State Fault Refusal := ok (s.pop t d a b (· &&& ·))
def execPor (t : Tile) (d a b : BitVec 3) (s : State) : Host.Outcome State Fault Refusal := ok (s.pop t d a b (· ||| ·))
def execPxor (t : Tile) (d a b : BitVec 3) (s : State) : Host.Outcome State Fault Refusal := ok (s.pop t d a b (· ^^^ ·))
def execPandn (t : Tile) (d a b : BitVec 3) (s : State) : Host.Outcome State Fault Refusal :=
  ok (s.pop t d a b (fun x y => x &&& ~~~y))
def execPnot (t : Tile) (d a : BitVec 3) (s : State) : Host.Outcome State Fault Refusal := ok (s.pop t d a a (fun x _ => ~~~x))

def execPfroms (t : Tile) (d : BitVec 3) (a : BitVec 5) (s : State) : Host.Outcome State Fault Refusal :=
  ok (s.issue t [rs a] [rp d] [] (fun u _ => u.updT t (fun x => x.pSet d.toNat (x.sGet a.toNat) (x.sBad a.toNat))))

def execPtos (t : Tile) (d : BitVec 5) (a : BitVec 3) (s : State) : Host.Outcome State Fault Refusal :=
  ok (s.issue t [rp a] [rs d] [] (fun u _ => u.updT t (fun x => x.sSet d.toNat (x.pGet a.toNat) (x.pBad a.toNat))))

/-- Lanes 0 to min(n, 64) − 1. -/
def firstLanes (n : W64) : W64 := if 64 ≤ n.toNat then BitVec.allOnes 64 else BitVec.ofNat 64 (2 ^ n.toNat - 1)

def execPfirst (t : Tile) (d : BitVec 3) (a : BitVec 5) (s : State) : Host.Outcome State Fault Refusal :=
  ok (s.issue t [rs a] [rp d] [] (fun u _ =>
    u.updT t (fun x => x.pSet d.toNat (firstLanes (x.sGet a.toNat)) (x.sBad a.toNat))))

/-! ### Branches (06 R186, R198, T6.9) -/

/-- The next index of a jump by a signed count from index i, kept to 32 bits. -/
def jumpIndex (i : Nat) (off : W32) : Nat := (BitVec.ofNat 32 i + off).toNat

/-- COND 0-11 on the operands (06 T6.9); `none` for an unlisted condition or an operand that must be 0. -/
def TileSt.branch (x : TileSt) (cond : BitVec 4) (a b : BitVec 5) : Option Bool :=
  let u := x.sGet a.toNat
  let v := x.sGet b.toNat
  match cond.toNat with
  | 0 => if a = 0 ∧ b = 0 then some true else none
  | 1 => some (u == v)
  | 2 => some (u != v)
  | 3 => some (u.slt v)
  | 4 => some (!u.slt v)
  | 5 => some (u.ult v)
  | 6 => some (!u.ult v)
  | 7 => if b = 0 then some (u == 0) else none
  | 8 => if b = 0 then some (u != 0) else none
  | 9 => if b = 0 ∧ a.toNat < 8 then some (x.pGet a.toNat != 0) else none
  | 10 => if b = 0 ∧ a.toNat < 8 then some (x.pGet a.toNat == BitVec.allOnes 64) else none
  | 11 => if b = 0 ∧ a.toNat < 8 then some (x.pGet a.toNat == 0) else none
  | _ => none

/-- The registers a condition reads: scalars or a predicate. -/
def branchReads (cond : BitVec 4) (a b : BitVec 5) : List Reg :=
  if cond.toNat = 0 then [] else if cond.toNat ≤ 6 then [rs a, rs b] else if cond.toNat ≤ 8 then [rs a] else [.p (a.toNat % 8)]

def branchScalars (cond : BitVec 4) (a b : BitVec 5) : List Nat :=
  if cond.toNat = 0 then [] else if cond.toNat ≤ 6 then [a.toNat, b.toNat] else if cond.toNat ≤ 8 then [a.toNat] else []

def execBr (t : Tile) (cond : BitVec 4) (a b : BitVec 5) (off : W32) (s : State) : Host.Outcome State Fault Refusal :=
  ok (s.issue t (branchReads cond a b) [] [] (fun u i =>
    match (u.tile t).branch cond a b with
    | none => u.illegal t i
    | some taken =>
      if (branchReads cond a b).any (fun r => match r with
        | .p n => (u.tile t).pBad n
        | _ => false) then u.raise t { code := 0x0C, queue := 0, index := i, addr := 0 }
      else u.clean t i (branchScalars cond a b)
        (if taken then u.updT t (fun x => { x with index := jumpIndex i off }) else u)))

def execJal (t : Tile) (d : BitVec 5) (imm : W32) (s : State) : Host.Outcome State Fault Refusal :=
  ok (s.issue t [] [rs d] [] (fun u i => u.updT t (fun x =>
    { x.sSet d.toNat (BitVec.ofNat 64 (i + 1)) false with index := jumpIndex i imm })))

def execJr (t : Tile) (a : BitVec 5) (s : State) : Host.Outcome State Fault Refusal :=
  ok (s.issue t [rs a] [] [] (fun u i => u.clean t i [a.toNat]
    (u.updT t (fun x => { x with index := (x.sGet a.toNat).toNat % 2 ^ 32 }))))

/-! ### Control registers (06 R191, T6.3) -/

/-- The block and the program of the tile's running RUN. -/
def State.runOf (s : State) (t : Nat) : RunState :=
  match s.findRun (s.tile t).op with
  | some r => r
  | none => { tx0 := 0, ty0 := 0, w := 0, h := 0, slot := 0 }

/-- A tile control register as CRD reads it; one not listed reads 0. -/
def State.crd (s : State) (t : Nat) (n : Nat) : W64 :=
  let x := s.tile t
  let r := s.runOf t
  let osc := (s.rg (tileRegion t)).osc
  BitVec.ofNat 64 (match n with
    | 0x000 => pack [(16, tileX t), (16, tileY t), (16, tileX t - r.tx0), (16, tileY t - r.ty0)]
    | 0x001 => pack [(16, r.tx0), (16, r.ty0), (16, r.w), (16, r.h)]
    | 0x002 => pack [(8, x.slot), (8, match s.owner (tileRegion t) with
        | some p => p
        | none => 0), (16, x.entry)]
    | 0x003 => pack [(3, x.rmode.toNat), (1, x.rsat.toNat)]
    | 0x004 => x.srseed.toNat
    | 0x005 => x.srctr.toNat
    | 0x006 => x.fstat.toNat
    | 0x008 => s.cad.count.toNat
    | 0x009 => pack [(4, osc.cls.toNat), (4, classK osc.cls.toNat)]
    | _ => if 0x040 ≤ n ∧ n < 0x048 then (tget 0 x.cnt (n - 0x040)).toNat else 0)

def execCrd (t : Tile) (d : BitVec 5) (imm : W32) (s : State) : Host.Outcome State Fault Refusal :=
  ok (s.issue t [] [rs d] [] (fun u i =>
    if 0x1000 ≤ imm.toNat then u.illegal t i
    else u.updT t (fun x => x.sSet d.toNat (s.crd t imm.toNat) false)))

/-- A writable control register takes a value; any other number raises ILLEGAL_INSTRUCTION. -/
def TileSt.cwr (x : TileSt) (n : Nat) (v : W64) : Option TileSt :=
  match n with
  | 0x003 =>
    let m := v.toNat % 8
    some { x with rmode := if 5 ≤ m then 0 else BitVec.ofNat 3 m, rsat := bitAt v 3 }
  | 0x004 => some { x with srseed := v }
  | 0x005 => some { x with srctr := v }
  | 0x006 => some { x with fstat := v.setWidth 7 }
  | _ => none

def execCwr (t : Tile) (a : BitVec 5) (imm : W32) (s : State) : Host.Outcome State Fault Refusal :=
  ok (s.issue t [rs a] [] [] (fun u i => u.clean t i [a.toNat]
    (match (u.tile t).cwr imm.toNat ((u.tile t).sGet a.toNat) with
    | none => u.illegal t i
    | some x => u.setT t x)))

/-! ### Holds (06 R199-R201, 05 R182) -/

/-- Every instruction of the queues named in a mask has completed (bits VQ, TQ, SQ, MQ, XQ). -/
def TileSt.drained (x : TileSt) (mask : BitVec 5) : Bool :=
  (!mask.getLsbD 0 || x.vq.isEmpty) && (!mask.getLsbD 1 || x.tq.isEmpty) && (!mask.getLsbD 2 || x.sq.isEmpty) &&
    (!mask.getLsbD 3 || x.mq.isEmpty) && (!mask.getLsbD 4 || x.xq.isEmpty)

/-- A stream entry's state and status (06 R201). -/
def TileSt.entryState (x : TileSt) (egress : Bool) (e : Nat) : EntryState × Byte :=
  if egress then ((x.eg e).state, (x.eg e).status) else ((x.tap e).state, (x.tap e).status)

/-- What STWAIT writes once it need not hold. -/
def stwaitValue : EntryState × Byte → Option W64
  | (.idle, _) => some 0x100
  | (.done, _) => some 0
  | (.aborted, st) => some (st.setWidth 64)
  | _ => none

/-- The sync object an offset names, from the partition that owns the tile's region (02 R44, 05 R182). -/
def State.tileObj (s : State) (t : Nat) (off : Nat) : Nat :=
  match s.owner (tileRegion t) with
  | some n => (s.pt n).syncBase + off
  | none => off

def State.tileSyncCount (s : State) (t : Nat) : Nat :=
  match s.owner (tileRegion t) with
  | some n => (s.pt n).syncCount
  | none => 0

/-- A hold ends: issue resumes with the hold's result (06 R199-R201). A SWAIT follows the tile's earlier SSIGs (06 T6.27). -/
def State.tryResume (s : State) (t : Nat) : State :=
  let x := s.tile t
  match x.hold with
  | none => s
  | some (.halt code) =>
    if x.drained 0x1F then
      let i := x.op
      (((s.haltTile t).updT t (fun y => { y with exitCode := code })).updRun i (fun r => { r with
        maxExit := if r.maxExit.ult code then code else r.maxExit })).checkRun i
    else s
  | some (.qsync m) => if x.drained m then s.updT t (fun y => { y with hold := none }) else s
  | some (.twait k v) => if tokHolds (x.tokGet k) v then s.updT t (fun y => { y with hold := none }) else s
  | some (.swait o cmp v _ d) =>
    if x.ssigs.isEmpty && syncCmp cmp (s.syncGet (s.tileObj t o)) v then
      s.updT t (fun y => { (y.sSet d 0 false) with hold := none })
    else s
  | some (.srd o d) => s.updT t (fun y => { (y.sSet d (s.syncGet (s.tileObj t o)) false) with hold := none })
  | some (.stwait eg e d) =>
    match stwaitValue (x.entryState eg e) with
    | some v => s.updT t (fun y => { (y.sSet d v false) with hold := none })
    | none => s

/-- Issue is held, unless the hold ends at once. -/
def State.holdOn (s : State) (t : Nat) (h : Hold) : State := (s.updT t (fun x => { x with hold := some h })).tryResume t

def execTileNop (t : Tile) (s : State) : Host.Outcome State Fault Refusal := ok (s.issue t [] [] [] (fun u _ => u))

/-- HALT (06 R199): exit code IMM, or sA[31:0] with FN = 1; the field not used must be 0. -/
def execHalt (t : Tile) (fn : Bool) (a : BitVec 5) (imm : W32) (s : State) : Host.Outcome State Fault Refusal :=
  ok (s.issue t (if fn then [rs a] else []) [] [] (fun u i =>
    if (!fn && decide (a ≠ 0)) || (fn && decide (imm ≠ 0)) then u.illegal t i
    else u.clean t i (if fn then [a.toNat] else [])
      (u.holdOn t (.halt (if fn then ((u.tile t).sGet a.toNat).setWidth 32 else imm)))))

def execQsync (t : Tile) (imm : W32) (s : State) : Host.Outcome State Fault Refusal :=
  ok (s.issue t [] [] [] (fun u i => if 32 ≤ imm.toNat then u.illegal t i else u.holdOn t (.qsync (imm.setWidth 5))))

def execTwait (t : Tile) (fn : Bool) (tok : BitVec 4) (d : BitVec 5) (imm : W32) (s : State) : Host.Outcome State Fault Refusal :=
  ok (s.issue t (if fn then [rs d] else []) [] [] (fun u i =>
    if (!fn && (decide (65536 ≤ imm.toNat) || decide (d ≠ 0))) || (fn && decide (imm ≠ 0)) then u.illegal t i
    else u.clean t i (if fn then [d.toNat] else [])
      (u.holdOn t (.twait tok.toNat (if fn then ((u.tile t).sGet d.toNat).setWidth 16 else imm.setWidth 16)))))

def execTrd (t : Tile) (d : BitVec 5) (tok : BitVec 4) (s : State) : Host.Outcome State Fault Refusal :=
  ok (s.setScalar t [] d (fun x => (x.tokGet tok.toNat).setWidth 64))

/-- A sync offset is checked before any effect (06 R193, R200). -/
def State.syncCheck (s : State) (t i off : Nat) (f : State) : State :=
  if s.tileSyncCount t ≤ off then s.raise t { code := 5, queue := 0, index := i, addr := off } else f

/-- SSIG: queued until its release point; it does not hold issue (05 R183, 06 R200). -/
def State.ssig (s : State) (t : Nat) (set : Bool) (off : SyncOff) (val : SyncVal) : State :=
  let offR := match off with
    | .imm _ => []
    | .reg d => [d.toNat]
  let valR := match val with
    | .reg a => [a.toNat]
    | .one => []
  s.issue t ((offR ++ valR).map Reg.s) [] [] (fun u i =>
    let x := u.tile t
    let o := match off with
      | .imm k => k.toNat
      | .reg d => (x.sGet d.toNat).toNat % 2 ^ 15
    let v := match val with
      | .reg a => x.sGet a.toNat
      | .one => 1
    u.clean t i (offR ++ valR) (u.syncCheck t i o
      (u.updT t (fun y => { y with ssigs := y.ssigs ++ [{ obj := o, set := set, value := v, after := y.issued - 1 }] }))))

def execSsig (t : Tile) (off : SyncOff) (val : SyncVal) (s : State) : Host.Outcome State Fault Refusal :=
  ok (s.ssig t false off val)

def execSsigSet (t : Tile) (off : SyncOff) (val : SyncVal) (s : State) : Host.Outcome State Fault Refusal :=
  ok (s.ssig t true off val)

/-- The oldest SSIG takes effect once every instruction issued before it has completed (05 R183). -/
def execSsigRelease (t : Tile) (s : State) : Host.Outcome State Fault Refusal :=
  let x := s.tile t
  ok (match x.ssigs with
    | [] => s
    | g :: r =>
      if x.entries.all (fun e => decide (g.after ≤ e.id)) then
        let s1 := s.updT t (fun y => { y with ssigs := r })
        let o := s.tileObj t g.obj
        (if g.set then s1.syncSet o g.value else s1.syncAdd o g.value)
      else s)

def execSwait (t : Tile) (d a b c : BitVec 5) (cmp : BitVec 4) (s : State) : Host.Outcome State Fault Refusal :=
  ok (s.issue t [rs a, rs b, rs c] [rs d] [] (fun u i =>
    let x := u.tile t
    if 4 ≤ cmp.toNat then u.illegal t i
    else u.clean t i [a.toNat, b.toNat, c.toNat] (u.syncCheck t i ((x.sGet a.toNat).toNat % 2 ^ 15)
      (u.holdOn t (.swait ((x.sGet a.toNat).toNat % 2 ^ 15) cmp.toNat (x.sGet b.toNat) ((x.sGet c.toNat).setWidth 32) d.toNat)))))

/-- SRD holds issue until the value arrives, which ISSUE_RESUME brings (06 R200). -/
def execSrd (t : Tile) (d a : BitVec 5) (s : State) : Host.Outcome State Fault Refusal :=
  ok (s.issue t [rs a] [rs d] [] (fun u i =>
    let o := ((u.tile t).sGet a.toNat).toNat % 2 ^ 15
    u.clean t i [a.toNat] (u.syncCheck t i o (u.updT t (fun x => { x with hold := some (.srd o d.toNat) })))))

/-- A hold on TWAIT, SWAIT, QSYNC, SRD, STWAIT or HALT ends when its condition holds; while it does not, ISSUE_WAIT counts a
tclk of TWAIT or SWAIT (05 T5.5). -/
def execIssueResume (t : Tile) (s : State) : Host.Outcome State Fault Refusal :=
  let s1 := s.tryResume t
  ok (match (s1.tile t).hold with
    | some (.twait _ _) => s1.updT t (fun x => x.count 3 1)
    | some (.swait _ _ _ _ _) => s1.updT t (fun x => x.count 3 1)
    | _ => s1)

/-- A SWAIT's timeout passes: a condition that holds then counts as held (05 R182). -/
def execSwaitTimeout (t : Tile) (s : State) : Host.Outcome State Fault Refusal :=
  ok (match (s.tile t).hold with
    | some (.swait _ _ _ limit d) =>
      if limit = 0 then s
      else
        let s1 := s.tryResume t
        if (s1.tile t).hold.isNone then s1 else s.updT t (fun y => { (y.sSet d 1 false) with hold := none })
    | _ => s)

/-! ### Stream entries (06 R201, T6.26) -/

/-- STWAIT, STGEN and STSTAT name a tap entry 0-7 or an egress entry 0-3. -/
def entryOk (egress : Bool) (e : BitVec 3) : Bool := !egress || decide (e.toNat < 4)

def execStwait (t : Tile) (d : BitVec 5) (e : BitVec 3) (egress : Bool) (s : State) : Host.Outcome State Fault Refusal :=
  ok (s.issue t [] [rs d] [] (fun u i =>
    if entryOk egress e then u.holdOn t (.stwait egress e.toNat d.toNat) else u.illegal t i))

/-- GEN, SLOT, NONE of a tap entry (06 R201). -/
def Tap.genWord (p : Tap) : Nat := if p.seen then pack [(32, p.gen.toNat), (1, p.slot.toNat)] else 2 ^ 63

def execStgen (t : Tile) (d : BitVec 5) (e : BitVec 3) (s : State) : Host.Outcome State Fault Refusal :=
  ok (s.setScalar t [] d (fun x => BitVec.ofNat 64 (x.tap e.toNat).genWord))

def EntryState.code : EntryState → Nat
  | .idle => 0 | .armed => 1 | .attached => 2 | .done => 3 | .aborted => 4

/-- 06 T6.26. -/
def TileSt.statWord (x : TileSt) (egress : Bool) (e : Nat) : Nat :=
  let st := x.entryState egress e
  let fc := if egress then ((x.eg e).fill, (x.eg e).count) else ((x.tap e).fill, (x.tap e).count)
  pack [(3, st.1.code), (5, 0), (8, if st.1 = .aborted then st.2.toNat else 0), (16, fc.1), (32, fc.2.toNat)]

def execStstat (t : Tile) (d : BitVec 5) (e : BitVec 3) (egress : Bool) (s : State) : Host.Outcome State Fault Refusal :=
  ok (s.issue t [] [rs d] [] (fun u i =>
    if entryOk egress e then u.updT t (fun x => x.sSet d.toNat (BitVec.ofNat 64 (x.statWord egress e.toNat)) false)
    else u.illegal t i))

end Sys2Proof.Machine
end

