-- ==== Sys2Proof/Machine/Dispatch.lean ====
section
/-! DEFINITION. The one table of meanings: one arm per command. -/
namespace Sys2Proof.Machine
open Host

def exec (i : Instr) (s : State) : Host.Outcome State Fault Refusal :=
  match i with
  | .registerWrite fn off size value => Sys2Proof.Machine.execRegisterWrite fn off size value s
  | .rsLowHalfRead fn off => Sys2Proof.Machine.execRsLowHalfRead fn off s
  | .sqEnable n k => Sys2Proof.Machine.execSqEnable n k s
  | .sqDisable n k => Sys2Proof.Machine.execSqDisable n k s
  | .cqEnable n k => Sys2Proof.Machine.execCqEnable n k s
  | .cqDisable n k => Sys2Proof.Machine.execCqDisable n k s
  | .doorbellSqTail n k tail => Sys2Proof.Machine.execDoorbellSqTail n k tail s
  | .doorbellCqHead n k head => Sys2Proof.Machine.execDoorbellCqHead n k head s
  | .ringCancel n k => Sys2Proof.Machine.execRingCancel n k s
  | .descriptorFetch n k got => Sys2Proof.Machine.execDescriptorFetch n k got s
  | .descriptorStart op => Sys2Proof.Machine.execDescriptorStart op s
  | .descriptorComplete op => Sys2Proof.Machine.execDescriptorComplete op s
  | .evqEnable ep => Sys2Proof.Machine.execEvqEnable ep s
  | .evqHeadWrite ep head => Sys2Proof.Machine.execEvqHeadWrite ep head s
  | .statusEnable ep => Sys2Proof.Machine.execStatusEnable ep s
  | .statusPageRefresh ep => Sys2Proof.Machine.execStatusPageRefresh ep s
  | .busMasterEnableSet fn => Sys2Proof.Machine.execBusMasterEnableSet fn s
  | .busMasterEnableClear fn => Sys2Proof.Machine.execBusMasterEnableClear fn s
  | .hostLinkDown k => Sys2Proof.Machine.execHostLinkDown k s
  | .hostLinkUp k speed width flit => Sys2Proof.Machine.execHostLinkUp k speed width flit s
  | .vfFlr k n => Sys2Proof.Machine.execVfFlr k n s
  | .pfFlr k => Sys2Proof.Machine.execPfFlr k s
  | .vfEnableChange k enable numVfs => Sys2Proof.Machine.execVfEnableChange k enable numVfs s
  | .mbxEnable f => Sys2Proof.Machine.execMbxEnable f s
  | .mbxDisable f => Sys2Proof.Machine.execMbxDisable f s
  | .mbxReqTail f tail => Sys2Proof.Machine.execMbxReqTail f tail s
  | .mbxRspHead f head => Sys2Proof.Machine.execMbxRspHead f head s
  | .mailboxAccept f bytes => Sys2Proof.Machine.execMailboxAccept f bytes s
  | .partCreate m meanwhile => Sys2Proof.Machine.execPartCreate m meanwhile s
  | .partResize m => Sys2Proof.Machine.execPartResize m s
  | .partResizeComplete n => Sys2Proof.Machine.execPartResizeComplete n s
  | .partDestroy m => Sys2Proof.Machine.execPartDestroy m s
  | .partDestroyComplete n => Sys2Proof.Machine.execPartDestroyComplete n s
  | .partReset m => Sys2Proof.Machine.execPartReset m s
  | .partitionResetProgress n => Sys2Proof.Machine.execPartitionResetProgress n s
  | .portAssign m => Sys2Proof.Machine.execPortAssign m s
  | .sharedCreate m => Sys2Proof.Machine.execSharedCreate m s
  | .sharedDestroy m => Sys2Proof.Machine.execSharedDestroy m s
  | .grant m => Sys2Proof.Machine.execGrant m s
  | .revoke m => Sys2Proof.Machine.execRevoke m s
  | .keyLoad m key => Sys2Proof.Machine.execKeyLoad m key s
  | .keyErase m => Sys2Proof.Machine.execKeyErase m s
  | .attest m => Sys2Proof.Machine.execAttest m s
  | .deviceCert m => Sys2Proof.Machine.execDeviceCert m s
  | .svnCommit m => Sys2Proof.Machine.execSvnCommit m s
  | .secRelease answering => Sys2Proof.Machine.execSecRelease answering s
  | .bootImageReceive kind slot img ms => Sys2Proof.Machine.execBootImageReceive kind slot img ms s
  | .bootLinkTimeout kind slot => Sys2Proof.Machine.execBootLinkTimeout kind slot s
  | .tickEdge source residual => Sys2Proof.Machine.execTickEdge source residual s
  | .timingFlitSend k tx => Sys2Proof.Machine.execTimingFlitSend k tx s
  | .timingFlitReceive k lcrcOk f rx => Sys2Proof.Machine.execTimingFlitReceive k lcrcOk f rx s
  | .ptpSyncReceive offset clockId domain timed => Sys2Proof.Machine.execPtpSyncReceive offset clockId domain timed s
  | .bestInputHoldExpiry => Sys2Proof.Machine.execBestInputHoldExpiry s
  | .sourceLoss port => Sys2Proof.Machine.execSourceLoss port s
  | .cadenceOutOfSpec boundNs => Sys2Proof.Machine.execCadenceOutOfSpec boundNs s
  | .sourceModeWrite k mode => Sys2Proof.Machine.execSourceModeWrite k mode s
  | .localSetWrite k value => Sys2Proof.Machine.execLocalSetWrite k value s
  | .classChange r => Sys2Proof.Machine.execClassChange r s
  | .crossingRelock r dir => Sys2Proof.Machine.execCrossingRelock r dir s
  | .nop op => Sys2Proof.Machine.execNop op s
  | .fence op => Sys2Proof.Machine.execFence op s
  | .fencePartition op => Sys2Proof.Machine.execFencePartition op s
  | .syncSignal op => Sys2Proof.Machine.execSyncSignal op s
  | .syncSignalSet op => Sys2Proof.Machine.execSyncSignalSet op s
  | .syncWait op => Sys2Proof.Machine.execSyncWait op s
  | .syncWaitTimeout op => Sys2Proof.Machine.execSyncWaitTimeout op s
  | .loadProgram op host => Sys2Proof.Machine.execLoadProgram op host s
  | .run op => Sys2Proof.Machine.execRun op s
  | .runClaimGranted op host => Sys2Proof.Machine.execRunClaimGranted op host s
  | .copy op host => Sys2Proof.Machine.execCopy op host s
  | .tierPrefetch op => Sys2Proof.Machine.execTierPrefetch op s
  | .tierRelease op => Sys2Proof.Machine.execTierRelease op s
  | .weightBuild op host => Sys2Proof.Machine.execWeightBuild op host s
  | .weightSwap op => Sys2Proof.Machine.execWeightSwap op s
  | .stream op => Sys2Proof.Machine.execStream op s
  | .publish op => Sys2Proof.Machine.execPublish op s
  | .allReduce op => Sys2Proof.Machine.execAllReduce op s
  | .reduceScatter op => Sys2Proof.Machine.execReduceScatter op s
  | .allGather op => Sys2Proof.Machine.execAllGather op s
  | .broadcast op => Sys2Proof.Machine.execBroadcast op s
  | .reduce op => Sys2Proof.Machine.execReduce op s
  | .barrier op => Sys2Proof.Machine.execBarrier op s
  | .groupForm op => Sys2Proof.Machine.execGroupForm op s
  | .groupDestroy op => Sys2Proof.Machine.execGroupDestroy op s
  | .groupReform op => Sys2Proof.Machine.execGroupReform op s
  | .snapshot op => Sys2Proof.Machine.execSnapshot op s
  | .snapshotPoint op => Sys2Proof.Machine.execSnapshotPoint op s
  | .mirrorCopy x => Sys2Proof.Machine.execMirrorCopy x s
  | .mirrorCommit op => Sys2Proof.Machine.execMirrorCommit op s
  | .commitPoint n label tick => Sys2Proof.Machine.execCommitPoint n label tick s
  | .queueBegin t q => Sys2Proof.Machine.execQueueBegin t q s
  | .instructionComplete t q k => Sys2Proof.Machine.execInstructionComplete t q k s
  | .issueResume t => Sys2Proof.Machine.execIssueResume t s
  | .swaitTimeout t => Sys2Proof.Machine.execSwaitTimeout t s
  | .eccScrub t word found => Sys2Proof.Machine.execEccScrub t word found s
  | .tileNop t => Sys2Proof.Machine.execTileNop t s
  | .halt t fn a imm => Sys2Proof.Machine.execHalt t fn a imm s
  | .qsync t imm => Sys2Proof.Machine.execQsync t imm s
  | .twait t fn tok d imm => Sys2Proof.Machine.execTwait t fn tok d imm s
  | .trd t d tok => Sys2Proof.Machine.execTrd t d tok s
  | .crd t d imm => Sys2Proof.Machine.execCrd t d imm s
  | .cwr t a imm => Sys2Proof.Machine.execCwr t a imm s
  | .jal t d imm => Sys2Proof.Machine.execJal t d imm s
  | .jr t a => Sys2Proof.Machine.execJr t a s
  | .br t cond a b off => Sys2Proof.Machine.execBr t cond a b off s
  | .add t d a b w32 => Sys2Proof.Machine.execAdd t d a b w32 s
  | .sub t d a b w32 => Sys2Proof.Machine.execSub t d a b w32 s
  | .and t d a b w32 => Sys2Proof.Machine.execAnd t d a b w32 s
  | .or t d a b w32 => Sys2Proof.Machine.execOr t d a b w32 s
  | .xor t d a b w32 => Sys2Proof.Machine.execXor t d a b w32 s
  | .shl t d a b w32 => Sys2Proof.Machine.execShl t d a b w32 s
  | .shr t d a b w32 => Sys2Proof.Machine.execShr t d a b w32 s
  | .sar t d a b w32 => Sys2Proof.Machine.execSar t d a b w32 s
  | .min t d a b w32 => Sys2Proof.Machine.execMin t d a b w32 s
  | .max t d a b w32 => Sys2Proof.Machine.execMax t d a b w32 s
  | .minu t d a b w32 => Sys2Proof.Machine.execMinu t d a b w32 s
  | .maxu t d a b w32 => Sys2Proof.Machine.execMaxu t d a b w32 s
  | .seq t d a b w32 => Sys2Proof.Machine.execSeq t d a b w32 s
  | .slt t d a b w32 => Sys2Proof.Machine.execSlt t d a b w32 s
  | .sltu t d a b w32 => Sys2Proof.Machine.execSltu t d a b w32 s
  | .aluiAdd t d a imm => Sys2Proof.Machine.execAluiAdd t d a imm s
  | .aluiSub t d a imm => Sys2Proof.Machine.execAluiSub t d a imm s
  | .aluiAnd t d a imm => Sys2Proof.Machine.execAluiAnd t d a imm s
  | .aluiOr t d a imm => Sys2Proof.Machine.execAluiOr t d a imm s
  | .aluiXor t d a imm => Sys2Proof.Machine.execAluiXor t d a imm s
  | .aluiShl t d a imm => Sys2Proof.Machine.execAluiShl t d a imm s
  | .aluiShr t d a imm => Sys2Proof.Machine.execAluiShr t d a imm s
  | .aluiSar t d a imm => Sys2Proof.Machine.execAluiSar t d a imm s
  | .aluiMin t d a imm => Sys2Proof.Machine.execAluiMin t d a imm s
  | .aluiMax t d a imm => Sys2Proof.Machine.execAluiMax t d a imm s
  | .aluiMinu t d a imm => Sys2Proof.Machine.execAluiMinu t d a imm s
  | .aluiMaxu t d a imm => Sys2Proof.Machine.execAluiMaxu t d a imm s
  | .aluiSeq t d a imm => Sys2Proof.Machine.execAluiSeq t d a imm s
  | .aluiSlt t d a imm => Sys2Proof.Machine.execAluiSlt t d a imm s
  | .aluiSltu t d a imm => Sys2Proof.Machine.execAluiSltu t d a imm s
  | .mul t d a b w32 => Sys2Proof.Machine.execMul t d a b w32 s
  | .mulh t d a b w32 => Sys2Proof.Machine.execMulh t d a b w32 s
  | .mulhu t d a b w32 => Sys2Proof.Machine.execMulhu t d a b w32 s
  | .li t d imm => Sys2Proof.Machine.execLi t d imm s
  | .liu t d imm => Sys2Proof.Machine.execLiu t d imm s
  | .lih t d imm => Sys2Proof.Machine.execLih t d imm s
  | .aset t d imm => Sys2Proof.Machine.execAset t d imm s
  | .aadd t d a imm => Sys2Proof.Machine.execAadd t d a imm s
  | .afroms t d a imm => Sys2Proof.Machine.execAfroms t d a imm s
  | .atos t d a imm => Sys2Proof.Machine.execAtos t d a imm s
  | .awrap t d a b => Sys2Proof.Machine.execAwrap t d a b s
  | .pand t d a b => Sys2Proof.Machine.execPand t d a b s
  | .por t d a b => Sys2Proof.Machine.execPor t d a b s
  | .pxor t d a b => Sys2Proof.Machine.execPxor t d a b s
  | .pandn t d a b => Sys2Proof.Machine.execPandn t d a b s
  | .pnot t d a => Sys2Proof.Machine.execPnot t d a s
  | .pfroms t d a => Sys2Proof.Machine.execPfroms t d a s
  | .ptos t d a => Sys2Proof.Machine.execPtos t d a s
  | .pfirst t d a => Sys2Proof.Machine.execPfirst t d a s
  | .ssig t off val => Sys2Proof.Machine.execSsig t off val s
  | .ssigSet t off val => Sys2Proof.Machine.execSsigSet t off val s
  | .ssigRelease t => Sys2Proof.Machine.execSsigRelease t s
  | .swait t d a b c cmp => Sys2Proof.Machine.execSwait t d a b c cmp s
  | .srd t d a => Sys2Proof.Machine.execSrd t d a s
  | .stwait t d e egress => Sys2Proof.Machine.execStwait t d e egress s
  | .stgen t d e => Sys2Proof.Machine.execStgen t d e s
  | .ststat t d e egress => Sys2Proof.Machine.execStstat t d e egress s
  | .vadd t v tok => Sys2Proof.Machine.execVadd t v tok s
  | .vsub t v tok => Sys2Proof.Machine.execVsub t v tok s
  | .vmul t v tok => Sys2Proof.Machine.execVmul t v tok s
  | .vfma t v tok => Sys2Proof.Machine.execVfma t v tok s
  | .vfms t v tok => Sys2Proof.Machine.execVfms t v tok s
  | .vfVmin t v tok => Sys2Proof.Machine.execVfVmin t v tok s
  | .vfVmax t v tok => Sys2Proof.Machine.execVfVmax t v tok s
  | .vabs t v tok => Sys2Proof.Machine.execVabs t v tok s
  | .vneg t v tok => Sys2Proof.Machine.execVneg t v tok s
  | .vexp2 t v tok => Sys2Proof.Machine.execVexp2 t v tok s
  | .vlog2 t v tok => Sys2Proof.Machine.execVlog2 t v tok s
  | .vrcp t v tok => Sys2Proof.Machine.execVrcp t v tok s
  | .vrsqrt t v tok => Sys2Proof.Machine.execVrsqrt t v tok s
  | .vsqrt t v tok => Sys2Proof.Machine.execVsqrt t v tok s
  | .vexp t v tok => Sys2Proof.Machine.execVexp t v tok s
  | .viadd t v tok => Sys2Proof.Machine.execViadd t v tok s
  | .visub t v tok => Sys2Proof.Machine.execVisub t v tok s
  | .vimul t v tok => Sys2Proof.Machine.execVimul t v tok s
  | .vand t v tok => Sys2Proof.Machine.execVand t v tok s
  | .vor t v tok => Sys2Proof.Machine.execVor t v tok s
  | .vxor t v tok => Sys2Proof.Machine.execVxor t v tok s
  | .vshl t v tok => Sys2Proof.Machine.execVshl t v tok s
  | .vshr t v tok => Sys2Proof.Machine.execVshr t v tok s
  | .vsar t v tok => Sys2Proof.Machine.execVsar t v tok s
  | .viVmin t v tok => Sys2Proof.Machine.execViVmin t v tok s
  | .viVmax t v tok => Sys2Proof.Machine.execViVmax t v tok s
  | .vminu t v tok => Sys2Proof.Machine.execVminu t v tok s
  | .vmaxu t v tok => Sys2Proof.Machine.execVmaxu t v tok s
  | .vcmp t v tok fn ty => Sys2Proof.Machine.execVcmp t v tok fn ty s
  | .vsel t v tok => Sys2Proof.Machine.execVsel t v tok s
  | .rsum t v tok => Sys2Proof.Machine.execRsum t v tok s
  | .rmax t v tok => Sys2Proof.Machine.execRmax t v tok s
  | .rmin t v tok => Sys2Proof.Machine.execRmin t v tok s
  | .risum t v tok => Sys2Proof.Machine.execRisum t v tok s
  | .perm t v tok => Sys2Proof.Machine.execPerm t v tok s
  | .rot t v tok => Sys2Proof.Machine.execRot t v tok s
  | .bcast t v tok imm => Sys2Proof.Machine.execBcast t v tok imm s
  | .froms t v tok => Sys2Proof.Machine.execFroms t v tok s
  | .tos t v tok imm => Sys2Proof.Machine.execTos t v tok imm s
  | .insert t v tok imm => Sys2Proof.Machine.execInsert t v tok imm s
  | .iota t v tok => Sys2Proof.Machine.execIota t v tok s
  | .vcvtF2i t v r tok => Sys2Proof.Machine.execVcvtF2i t v r tok s
  | .vcvtI2f t v r tok => Sys2Proof.Machine.execVcvtI2f t v r tok s
  | .vcvtU2f t v r tok => Sys2Proof.Machine.execVcvtU2f t v r tok s
  | .vcvtF2u t v r tok => Sys2Proof.Machine.execVcvtF2u t v r tok s
  | .vnarrow t v r tok ty pos => Sys2Proof.Machine.execVnarrow t v r tok ty pos s
  | .vwiden t v tok ty pos => Sys2Proof.Machine.execVwiden t v tok ty pos s
  | .vmxq t v r tok ty pos => Sys2Proof.Machine.execVmxq t v r tok ty pos s
  | .vmxdq t v tok ty pos => Sys2Proof.Machine.execVmxdq t v tok ty pos s
  | .ld t m tok => Sys2Proof.Machine.execLd t m tok s
  | .st t m tok => Sys2Proof.Machine.execSt t m tok s
  | .vld t m tok => Sys2Proof.Machine.execVld t m tok s
  | .vst t m tok => Sys2Proof.Machine.execVst t m tok s
  | .tmma t x tok => Sys2Proof.Machine.execTmma t x tok s
  | .tzero t tok mask => Sys2Proof.Machine.execTzero t tok mask s
  | .tdrain t d tok => Sys2Proof.Machine.execTdrain t d tok s
  | .twadd t ar tok acc => Sys2Proof.Machine.execTwadd t ar tok acc s
  | .smma t x tok => Sys2Proof.Machine.execSmma t x tok s
  | .hacc t v tok => Sys2Proof.Machine.execHacc t v tok s
  | .hget t v tok => Sys2Proof.Machine.execHget t v tok s
  | .hcfg t tok aa => Sys2Proof.Machine.execHcfg t tok aa s
  | .hdrain t tok aa => Sys2Proof.Machine.execHdrain t tok aa s
  | .hclr t tok => Sys2Proof.Machine.execHclr t tok s
  | .mcopy t a tok => Sys2Proof.Machine.execMcopy t a tok s
  | .mfill t a tok => Sys2Proof.Machine.execMfill t a tok s
  | .ccfg t ar tok => Sys2Proof.Machine.execCcfg t ar tok s
  | .tap t e ar tok => Sys2Proof.Machine.execTap t e ar tok s
  | .tapx t e tok => Sys2Proof.Machine.execTapx t e tok s
  | .strel t c tok => Sys2Proof.Machine.execStrel t c tok s
  | .egress t e ar tok => Sys2Proof.Machine.execEgress t e ar tok s
  | .econtrib t c tok => Sys2Proof.Machine.execEcontrib t c tok s
  | .eskip t c tok => Sys2Proof.Machine.execEskip t c tok s
  | .streamOpenArrive t inst => Sys2Proof.Machine.execStreamOpenArrive t inst s
  | .streamGranuleArrive t inst ecc => Sys2Proof.Machine.execStreamGranuleArrive t inst ecc s
  | .streamCloseArrive t inst => Sys2Proof.Machine.execStreamCloseArrive t inst s
  | .streamAbortArrive t inst => Sys2Proof.Machine.execStreamAbortArrive t inst s
  | .gradOpenArrive t inst => Sys2Proof.Machine.execGradOpenArrive t inst s
  | .gradientGranuleArrive t inst ecc => Sys2Proof.Machine.execGradientGranuleArrive t inst ecc s
  | .write pkt ecc => Sys2Proof.Machine.execWrite pkt ecc s
  | .read pkt ecc cell => Sys2Proof.Machine.execRead pkt ecc cell s
  | .writeCast pkt ecc => Sys2Proof.Machine.execWriteCast pkt ecc s
  | .writeAck pkt => Sys2Proof.Machine.execWriteAck pkt s
  | .readData pkt ecc => Sys2Proof.Machine.execReadData pkt ecc s
  | .dropNotice w => Sys2Proof.Machine.execDropNotice w s
  | .fabricTimeout w => Sys2Proof.Machine.execFabricTimeout w s
  | .routesChanged => Sys2Proof.Machine.execRoutesChanged s
  | .streamInstanceOpen op => Sys2Proof.Machine.execStreamInstanceOpen op s
  | .streamInstanceClose inst => Sys2Proof.Machine.execStreamInstanceClose inst s
  | .swapPoint n => Sys2Proof.Machine.execSwapPoint n s
  | .t2ChunkReadDone k opened => Sys2Proof.Machine.execT2ChunkReadDone k opened s
  | .hostFrameReadDone k len frame opened => Sys2Proof.Machine.execHostFrameReadDone k len frame opened s
  | .chunkData p opened => Sys2Proof.Machine.execChunkData p opened s
  | .chunkLate k => Sys2Proof.Machine.execChunkLate k s
  | .stallTimeout n w => Sys2Proof.Machine.execStallTimeout n w s
  | .chunkReplyTimeout k => Sys2Proof.Machine.execChunkReplyTimeout k s
  | .chunkBusyRetry k => Sys2Proof.Machine.execChunkBusyRetry k s
  | .relayFrameReceive n frame opened => Sys2Proof.Machine.execRelayFrameReceive n frame opened s
  | .relayFallback k => Sys2Proof.Machine.execRelayFallback k s
  | .fetchWindowOpen n handle => Sys2Proof.Machine.execFetchWindowOpen n handle s
  | .privateSlotsWrite k n value => Sys2Proof.Machine.execPrivateSlotsWrite k n value s
  | .quotaWrite k n t3 value => Sys2Proof.Machine.execQuotaWrite k n t3 value s
  | .memMap m => Sys2Proof.Machine.execMemMap m s
  | .memUnmap m => Sys2Proof.Machine.execMemUnmap m s
  | .memObjCreate m => Sys2Proof.Machine.execMemObjCreate m s
  | .memObjSeal m => Sys2Proof.Machine.execMemObjSeal m s
  | .memObjDestroy m => Sys2Proof.Machine.execMemObjDestroy m s
  | .memSharedBack m => Sys2Proof.Machine.execMemSharedBack m s
  | .memEvacuate m => Sys2Proof.Machine.execMemEvacuate m s
  | .wgtSlotClear m => Sys2Proof.Machine.execWgtSlotClear m s
  | .wgtRelaySet m members => Sys2Proof.Machine.execWgtRelaySet m members s
  | .wgtRelayClear m => Sys2Proof.Machine.execWgtRelayClear m s
  | .portEnableWrite k p value => Sys2Proof.Machine.execPortEnableWrite k p value s
  | .ctrlRetrain k p => Sys2Proof.Machine.execCtrlRetrain k p s
  | .partnerSignalDetect p => Sys2Proof.Machine.execPartnerSignalDetect p s
  | .narrowDetectTimeout p q => Sys2Proof.Machine.execNarrowDetectTimeout p q s
  | .noPartnerTimeout p => Sys2Proof.Machine.execNoPartnerTimeout p s
  | .equalizeDone p => Sys2Proof.Machine.execEqualizeDone p s
  | .equalizeTimeout p => Sys2Proof.Machine.execEqualizeTimeout p s
  | .alignDone p => Sys2Proof.Machine.execAlignDone p s
  | .alignTimeout p lane => Sys2Proof.Machine.execAlignTimeout p lane s
  | .params p body => Sys2Proof.Machine.execParams p body s
  | .paramsTimeout p => Sys2Proof.Machine.execParamsTimeout p s
  | .portRetrained p ms => Sys2Proof.Machine.execPortRetrained p ms s
  | .retrainTimeout p => Sys2Proof.Machine.execRetrainTimeout p s
  | .downRetryTimer p => Sys2Proof.Machine.execDownRetryTimer p s
  | .portRelocated p => Sys2Proof.Machine.execPortRelocated p s
  | .bptRelocate m => Sys2Proof.Machine.execBptRelocate m s
  | .dataFlitReceive p w => Sys2Proof.Machine.execDataFlitReceive p w s
  | .nak p seq => Sys2Proof.Machine.execNak p seq s
  | .retrainReq p => Sys2Proof.Machine.execRetrainReq p s
  | .echoReq p time => Sys2Proof.Machine.execEchoReq p time s
  | .echoRsp p ns => Sys2Proof.Machine.execEchoRsp p ns s
  | .replayTimeout p => Sys2Proof.Machine.execReplayTimeout p s
  | .codewordBurst p corrected uncorr => Sys2Proof.Machine.execCodewordBurst p corrected uncorr s
  | .gradAck p => Sys2Proof.Machine.execGradAck p s
  | .gradDone p => Sys2Proof.Machine.execGradDone p s
  | .gradAckTimeout inst => Sys2Proof.Machine.execGradAckTimeout inst s
  | .gradBusyResend inst => Sys2Proof.Machine.execGradBusyResend inst s
  | .torusPacketArrive k => Sys2Proof.Machine.execTorusPacketArrive k s
  | .torusEgressSend k ch => Sys2Proof.Machine.execTorusEgressSend k ch s
  | .holdLimitExpiry k j => Sys2Proof.Machine.execHoldLimitExpiry k j s
  | .routeSetApply => Sys2Proof.Machine.execRouteSetApply s
  | .keysetApplied => Sys2Proof.Machine.execKeysetApplied s
  | .torConfig m => Sys2Proof.Machine.execTorConfig m s
  | .torRouteSet m records => Sys2Proof.Machine.execTorRouteSet m records s
  | .torKeyset m => Sys2Proof.Machine.execTorKeyset m s
  | .torMcastSet m bytes => Sys2Proof.Machine.execTorMcastSet m bytes s
  | .torMcastClear m => Sys2Proof.Machine.execTorMcastClear m s
  | .piece n => Sys2Proof.Machine.execPiece n s
  | .pieceAck n => Sys2Proof.Machine.execPieceAck n s
  | .formUp n => Sys2Proof.Machine.execFormUp n s
  | .formDown n => Sys2Proof.Machine.execFormDown n s
  | .formMismatch n => Sys2Proof.Machine.execFormMismatch n s
  | .barrierUp n => Sys2Proof.Machine.execBarrierUp n s
  | .barrierDown n => Sys2Proof.Machine.execBarrierDown n s
  | .squall n => Sys2Proof.Machine.execSquall n s
  | .reformUp n => Sys2Proof.Machine.execReformUp n s
  | .reformDown n => Sys2Proof.Machine.execReformDown n s
  | .formTimeout n g => Sys2Proof.Machine.execFormTimeout n g s
  | .progressTimeout n g src => Sys2Proof.Machine.execProgressTimeout n g src s
  | .launchTick n g => Sys2Proof.Machine.execLaunchTick n g s
  | .watchdogExpiry c ms pc => Sys2Proof.Machine.execWatchdogExpiry c ms pc s
  | .coreException c ms pc => Sys2Proof.Machine.execCoreException c ms pc s
  | .coreMemoryError c ms pc => Sys2Proof.Machine.execCoreMemoryError c ms pc s
  | .coreReloadDone c imageOk otherOk => Sys2Proof.Machine.execCoreReloadDone c imageOk otherOk s
  | .coreThawed c ms => Sys2Proof.Machine.execCoreThawed c ms s
  | .thawTimeout c ms => Sys2Proof.Machine.execThawTimeout c ms s
  | .mmcTakeover ms => Sys2Proof.Machine.execMmcTakeover ms s
  | .wdogWrite k value => Sys2Proof.Machine.execWdogWrite k value s
  | .dumpSelWrite k value => Sys2Proof.Machine.execDumpSelWrite k value s
  | .dumpDataRead k off size => Sys2Proof.Machine.execDumpDataRead k off size s
  | .fwPing m ms => Sys2Proof.Machine.execFwPing m ms s
  | .fwRestart m ms pc => Sys2Proof.Machine.execFwRestart m ms pc s
  | .fwImageStage m img => Sys2Proof.Machine.execFwImageStage m img s
  | .fwDumpRead m => Sys2Proof.Machine.execFwDumpRead m s
  | .fwDumpClear m => Sys2Proof.Machine.execFwDumpClear m s
  | .voltageLoopStep r vlog vsram => Sys2Proof.Machine.execVoltageLoopStep r vlog vsram s
  | .droopEngage r vlog => Sys2Proof.Machine.execDroopEngage r vlog s
  | .droopRelease r vlog heldUs => Sys2Proof.Machine.execDroopRelease r vlog heldUs s
  | .activityEstimate r counts => Sys2Proof.Machine.execActivityEstimate r counts s
  | .peakLimiterStep => Sys2Proof.Machine.execPeakLimiterStep s
  | .pwrDivision windows volts amps watts vlnkMw carrierMw => Sys2Proof.Machine.execPwrDivision windows volts amps watts vlnkMw carrierMw s
  | .forecastClassify n t v sVal egress powerMw => Sys2Proof.Machine.execForecastClassify n t v sVal egress powerMw s
  | .phasePlanStep n tick => Sys2Proof.Machine.execPhasePlanStep n tick s
  | .regulatorAlert r cause => Sys2Proof.Machine.execRegulatorAlert r cause s
  | .lullRelease r => Sys2Proof.Machine.execLullRelease r s
  | .alertHeldTimeout r rail => Sys2Proof.Machine.execAlertHeldTimeout r rail s
  | .linkGroupAlert r cause => Sys2Proof.Machine.execLinkGroupAlert r cause s
  | .railCollapse r rail upStep => Sys2Proof.Machine.execRailCollapse r rail upStep s
  | .thermalSample r temps => Sys2Proof.Machine.execThermalSample r temps s
  | .thermalLullRelease r => Sys2Proof.Machine.execThermalLullRelease r s
  | .thermalTrip r temps => Sys2Proof.Machine.execThermalTrip r temps s
  | .coolantSample inlet outlet flow => Sys2Proof.Machine.execCoolantSample inlet outlet flow s
  | .coolantLoss inlet flow => Sys2Proof.Machine.execCoolantLoss inlet flow s
  | .powerDownStep => Sys2Proof.Machine.execPowerDownStep s
  | .hostWWrite k watts => Sys2Proof.Machine.execHostWWrite k watts s
  | .ceilingWrite k r value => Sys2Proof.Machine.execCeilingWrite k r value s
  | .suspectClear k r bits => Sys2Proof.Machine.execSuspectClear k r bits s
  | .pwrBudgetSet m => Sys2Proof.Machine.execPwrBudgetSet m s
  | .pwrShareSet m => Sys2Proof.Machine.execPwrShareSet m s
  | .pwrPhasePlan m => Sys2Proof.Machine.execPwrPhasePlan m s
  | .pwrCeilingSet m => Sys2Proof.Machine.execPwrCeilingSet m s
  | .pwrOff m => Sys2Proof.Machine.execPwrOff m s
  | .regionBringupStep r res ms => Sys2Proof.Machine.execRegionBringupStep r res ms s
  | .bringupStepTimeout r ms => Sys2Proof.Machine.execBringupStepTimeout r ms s
  | .fabricReady ms => Sys2Proof.Machine.execFabricReady ms s
  | .fullReady ms => Sys2Proof.Machine.execFullReady ms s
  | .fullReadyTimeout => Sys2Proof.Machine.execFullReadyTimeout s
  | .scrubBackground r tile slot => Sys2Proof.Machine.execScrubBackground r tile slot s
  | .stratusCalSlot r margin applied failing => Sys2Proof.Machine.execStratusCalSlot r margin applied failing s
  | .serdesCalSlot u lowLanes => Sys2Proof.Machine.execSerdesCalSlot u lowLanes s
  | .vsenseCalSlot r offset => Sys2Proof.Machine.execVsenseCalSlot r offset s
  | .oscCalSlot r delta => Sys2Proof.Machine.execOscCalSlot r delta s
  | .calStale p u => Sys2Proof.Machine.execCalStale p u s
  | .periodCtWrite k p value => Sys2Proof.Machine.execPeriodCtWrite k p value s
  | .bruRepairSet m => Sys2Proof.Machine.execBruRepairSet m s
  | .bruRepairGet m => Sys2Proof.Machine.execBruRepairGet m s
  | .bruRegionRestart m ms => Sys2Proof.Machine.execBruRegionRestart m ms s
  | .bruRcalReset m => Sys2Proof.Machine.execBruRcalReset m s
  | .tileParityError t u => Sys2Proof.Machine.execTileParityError t u s
  | .rateWindow r => Sys2Proof.Machine.execRateWindow r s
  | .stragglerCheck n => Sys2Proof.Machine.execStragglerCheck n s
  | .rasFence m => Sys2Proof.Machine.execRasFence m s
  | .rasTwinPair m => Sys2Proof.Machine.execRasTwinPair m s
  | .twinPaired partner => Sys2Proof.Machine.execTwinPaired partner s
  | .pairingTimeout => Sys2Proof.Machine.execPairingTimeout s
  | .rasTwinUnpair m => Sys2Proof.Machine.execRasTwinUnpair m s
  | .rasMirrorBind m => Sys2Proof.Machine.execRasMirrorBind m s
  | .twinBindReceive theirs ours role bankPages key taken => Sys2Proof.Machine.execTwinBindReceive theirs ours role bankPages key taken s
  | .bindTimeout n => Sys2Proof.Machine.execBindTimeout n s
  | .rasMirrorUnbind m => Sys2Proof.Machine.execRasMirrorUnbind m s
  | .unbind n => Sys2Proof.Machine.execUnbind n s
  | .rasTwinHandover m => Sys2Proof.Machine.execRasTwinHandover m s
  | .twinHeartbeatSend => Sys2Proof.Machine.execTwinHeartbeatSend s
  | .twinLossBegin noHeartbeat => Sys2Proof.Machine.execTwinLossBegin noHeartbeat s
  | .twinProbeAnswer => Sys2Proof.Machine.execTwinProbeAnswer s
  | .lossMsExpiry => Sys2Proof.Machine.execLossMsExpiry s
  | .twinBreak cause => Sys2Proof.Machine.execTwinBreak cause s
  | .inputVoltageFault volts => Sys2Proof.Machine.execInputVoltageFault volts s
  | .inputLimit volts => Sys2Proof.Machine.execInputLimit volts s
  | .autoPowerOn => Sys2Proof.Machine.execAutoPowerOn s
  | .leakDetect => Sys2Proof.Machine.execLeakDetect s
  | .mmcWatchdogRestart => Sys2Proof.Machine.execMmcWatchdogRestart s
  | .mgmtLink up => Sys2Proof.Machine.execMgmtLink up s
  | .peerAdmit chains => Sys2Proof.Machine.execPeerAdmit chains s
  | .pluggableInsert p watts => Sys2Proof.Machine.execPluggableInsert p watts s
  | .pmbusSdaLow g addr res => Sys2Proof.Machine.execPmbusSdaLow g addr res s
  | .sclTimeout g addr => Sys2Proof.Machine.execSclTimeout g addr s
  | .pmbusReselect g res => Sys2Proof.Machine.execPmbusReselect g res s
  | .safetySample a b => Sys2Proof.Machine.execSafetySample a b s
  | .mgtStatusGet m => Sys2Proof.Machine.execMgtStatusGet m s
  | .mgtConfigSet m parses => Sys2Proof.Machine.execMgtConfigSet m parses s
  | .mgtSafetyClear m => Sys2Proof.Machine.execMgtSafetyClear m s
  | .mgtPowerOn m dry60 => Sys2Proof.Machine.execMgtPowerOn m dry60 s
  | .mgtPowerOff m => Sys2Proof.Machine.execMgtPowerOff m s
  | .mgtLogRead m => Sys2Proof.Machine.execMgtLogRead m s
  | .mgtPmbusRejoin m res => Sys2Proof.Machine.execMgtPmbusRejoin m res s
  | .partnerReset p => Sys2Proof.Machine.execPartnerReset p s
  | .flashLinkUp f => Sys2Proof.Machine.execFlashLinkUp f s
  | .flashLinkDown f => Sys2Proof.Machine.execFlashLinkDown f s
  | .twinHeartbeatReceive p => Sys2Proof.Machine.execTwinHeartbeatReceive p s
  | .regulatorAlertDeassert r => Sys2Proof.Machine.execRegulatorAlertDeassert r s
  | .illegalInstruction t word => Sys2Proof.Machine.execIllegalInstruction t word s
  | .inputPowerApplied service volts => Sys2Proof.Machine.execInputPowerApplied service volts s
  | .inputPowerLoss => Sys2Proof.Machine.execInputPowerLoss s
  | .moduleReset => Sys2Proof.Machine.execModuleReset s

end Sys2Proof.Machine
end

