-- ==== Sys2Proof/Safety.lean ====
section
/-! DEFINITION. The terms the statements use: what a command completes with, when a tile issues, what a step may not change. -/
namespace Sys2Proof.Machine

/-- The command answers a next state, of which `P` holds. -/
def Completes (i : Instr) (s : State) (P : State → Prop) : Prop := ∃ u, exec i s = .next u ∧ P u

/-! ### Memories (02 R48, 05 R159, 10 R314, R326) -/

/-- Every byte memory stands in its canonical form: addresses rising, no listed byte 0. -/
def State.memOk (s : State) : Prop := s.sram.wf ∧ s.slices.wf ∧ s.flash.wf

/-! ### Tiles (05 R154, R155; 06 R186) -/

/-- The tile issues an instruction that reads, writes and holds these registers: RUNNING, not held, inside its program, no
hazard on the scoreboard, no poisoned address register among the sources. -/
def State.canIssue (s : State) (t : Nat) (reads writes accs : List Reg) : Prop :=
  (s.tile t).run = .running ∧ (s.tile t).hold = none ∧ (s.tile t).index < (s.tile t).progCount ∧
    (s.tile t).hazard reads writes accs = false ∧ ∀ n, Reg.a n ∈ reads → (s.tile t).aBad n = false

/-- The tile after the issue alone: counter 0 (instructions issued) and the index advance. -/
def TileSt.issued1 (x : TileSt) : TileSt := { (x.count 0 1) with index := x.index + 1, issued := x.issued + 1 }

/-- Tile `t` has issued one instruction and set register sD; nothing else changes. -/
def State.scalarTo (s : State) (t : Nat) (d : BitVec 5) (v : W64) (bad : Bool) : State :=
  s.setT t ((s.tile t).issued1.sSet d.toNat v bad)

/-- Tile `t` has issued one instruction and set register aD; nothing else changes. -/
def State.addrTo (s : State) (t : Nat) (d : BitVec 4) (v : W64) : State :=
  s.setT t ((s.tile t).issued1.aSet d.toNat v)

/-- Tile `t` has issued one instruction and set predicate pD; nothing else changes. -/
def State.predTo (s : State) (t : Nat) (d : BitVec 3) (v : W64) (bad : Bool) : State :=
  s.setT t ((s.tile t).issued1.pSet d.toNat v bad)

/-- Scalar, address and predicate registers of a tile. -/
def State.sR (s : State) (t : Nat) (r : BitVec 5) : W64 := (s.tile t).sGet r.toNat
def State.aR (s : State) (t : Nat) (r : BitVec 4) : W64 := (s.tile t).aGet r.toNat
def State.pR (s : State) (t : Nat) (r : BitVec 3) : W64 := (s.tile t).pGet r.toNat
def State.sP (s : State) (t : Nat) (r : BitVec 5) : Bool := (s.tile t).sBad r.toNat
def State.pP (s : State) (t : Nat) (r : BitVec 3) : Bool := (s.tile t).pBad r.toNat

/-- Bits [31:0], and a 32-bit result sign-extended (06 R195). -/
abbrev lo32 (x : W64) : W32 := x.setWidth 32
abbrev sx32 (x : W32) : W64 := x.signExtend 64
abbrev zx32 (x : W32) : W64 := x.setWidth 64

/-- The scalars an instruction must find clean are not poisoned (05 R165). -/
abbrev State.scalarsClean (s : State) (t : Nat) (l : List (BitVec 5)) : Prop := ∀ r ∈ l, s.sP t r = false


/-- Tile `t` has issued one instruction and continues at index `i`; nothing else changes. -/
def State.jumpTo (s : State) (t : Nat) (i : Nat) : State := s.setT t { (s.tile t).issued1 with index := i }

/-- Tile `t` has issued one instruction and holds issue; nothing else changes. -/
def State.heldOn (s : State) (t : Nat) (h : Hold) : State := s.setT t { (s.tile t).issued1 with hold := some h }

/-- Tile `t` has issued one instruction; nothing else changes. -/
def State.onlyIssued (s : State) (t : Nat) : State := s.setT t (s.tile t).issued1

/-- Tile `t` no longer holds issue; nothing else changes. -/
def State.released (s : State) (t : Nat) : State := s.setT t { s.tile t with hold := none }

/-- Tile `t` no longer holds issue and sD takes a value; nothing else changes. -/
def State.releasedTo (s : State) (t d : Nat) (v : W64) : State := s.setT t { (s.tile t).sSet d v false with hold := none }

/-- Every instruction of the queues a mask names has completed (06 R199): bits VQ, TQ, SQ, MQ, XQ. -/
def State.drains (s : State) (t : Nat) (mask : BitVec 5) : Prop :=
  (mask.getLsbD 0 = true → (s.tile t).vq = []) ∧ (mask.getLsbD 1 = true → (s.tile t).tq = []) ∧
    (mask.getLsbD 2 = true → (s.tile t).sq = []) ∧ (mask.getLsbD 3 = true → (s.tile t).mq = []) ∧
    (mask.getLsbD 4 = true → (s.tile t).xq = [])

/-- The token condition of TWAIT and of a queued instruction (05 R156, 06 R199). -/
abbrev tokenMet (tok v : W16) : Prop := (tok - v).toNat < 32768

/-- The comparison of SYNC_WAIT and SWAIT (03 T3.9): 0 GE, 1 EQ, 2 NE, 3 GE_SERIAL. -/
def compares (cmp : Nat) (object value : W64) : Prop :=
  (cmp = 0 ∧ value.toNat ≤ object.toNat) ∨ (cmp = 1 ∧ object = value) ∨ (cmp = 2 ∧ object ≠ value) ∨
    (3 ≤ cmp ∧ (object - value).toNat < 2 ^ 63)

/-- The sync object a tile's offset names. -/
abbrev State.objOf (s : State) (t off : Nat) : W64 := s.syncGet (s.tileObj t off)

/-! ### Queued instructions (05 R154-R156, 06 R185-R190, R202) -/

/-- A queued instruction issues and begins at once: the tile issues it, its fields are listed ones, its queue has room and no
entry that has not begun, its token wait, if it has one, is met, and for MQ fewer than eight transfers are under way. -/
def State.canQueue (s : State) (t : Nat) (op : QOp) (k : Tok) : Prop :=
  s.canIssue t (op.reads ++ if k.we then [rs k.ws] else []) op.writes op.accs ∧ op.fieldsOk = true ∧ k.ok = true ∧
    ((s.tile t).queue op.queue).length < op.queue.depth ∧ (∀ e ∈ (s.tile t).queue op.queue, e.begun = true) ∧
    (k.we = true → s.sP t k.ws = false ∧ (s.tile t).abortedToken k.wt = none ∧
      tokenMet ((s.tile t).tokGet k.wt.toNat) ((s.sR t k.ws).setWidth 16)) ∧
    (op.queue = .mq → (s.xfers.filter (fun y => decide (y.t = t) && !y.finished)).length < 8)

/-- The instruction stands last in its queue behind the instructions that stood there, begun, with the flags it will raise
when it completes. -/
def State.entryBegun (s u : State) (t : Nat) (op : QOp) (k : Tok) (fl : Fl) : Prop :=
  ∃ (l : List QEntry) (e : QEntry), (u.tile t).queue op.queue = l ++ [e] ∧
    l.map (fun z => z.op) = ((s.tile t).queue op.queue).map (fun z => z.op) ∧
    e.op = op ∧ e.tok = k ∧ e.begun = true ∧ e.flags = fl ∧ e.index = (s.tile t).index

/-- Nothing outside tile `t`'s own record changes among the memories and the tiles. -/
def State.memSame (s u : State) : Prop :=
  u.sram = s.sram ∧ u.sramG = s.sramG ∧ u.slices = s.slices ∧ u.sliceG = s.sliceG ∧ u.flash = s.flash
def State.otherTiles (s u : State) (t : Nat) : Prop := ∀ n, n ≠ t → u.tile n = s.tile n

/-- The scalar, address and predicate registers, the banks, the tokens and FSTAT of a tile are as they were. -/
def State.scalarsSame (s u : State) (t : Nat) : Prop := (u.tile t).s = (s.tile t).s ∧ (u.tile t).sPoison = (s.tile t).sPoison
def State.addrsSame (s u : State) (t : Nat) : Prop := (u.tile t).a = (s.tile t).a ∧ (u.tile t).aPoison = (s.tile t).aPoison
def State.predsSame (s u : State) (t : Nat) : Prop := (u.tile t).p = (s.tile t).p ∧ (u.tile t).pPoison = (s.tile t).pPoison
def State.vectorsSame (s u : State) (t : Nat) : Prop := (u.tile t).v = (s.tile t).v ∧ (u.tile t).vPoison = (s.tile t).vPoison
def State.banksSame (s u : State) (t : Nat) : Prop :=
  (u.tile t).acc = (s.tile t).acc ∧ (u.tile t).accPoison = (s.tile t).accPoison ∧ (u.tile t).tok = (s.tile t).tok ∧
    (u.tile t).fstat = (s.tile t).fstat ∧ (u.tile t).taps = (s.tile t).taps ∧ (u.tile t).egress = (s.tile t).egress

/-- Lane `l` of a vector register of a tile, and its poison. -/
abbrev State.vR (s : State) (t : Nat) (r : BitVec 5) (l : Nat) : W32 := lane ((s.tile t).vGet r.toNat) l
abbrev State.vP (s : State) (t : Nat) (r : BitVec 5) (l : Nat) : Bool := ((s.tile t).vBad r.toNat).getLsbD l

/-- Vector register vD takes these lanes with this poison; every other vector register stays. -/
def State.vectorTo (s u : State) (t : Nat) (d : BitVec 5) (val : Nat → W32) (bad : Nat → Bool) : Prop :=
  (∀ l, l < 64 → u.vR t d l = val l ∧ u.vP t d l = bad l) ∧
    ∀ r, r ≠ d.toNat → (u.tile t).vGet r = (s.tile t).vGet r ∧ (u.tile t).vBad r = (s.tile t).vBad r

/-- The flags of the lanes a predicate selects. -/
def flagsOf (f : Nat → Fl) : Fl := (List.range 64).foldl (fun a l => a ||| f l) 0

/-- A queued instruction that writes vector register vD lane by lane: selected lanes take `f`, the others keep their value or
become 0 with PZ = 1; a poisoned predicate poisons every lane (06 R202, 05 R165). -/
def State.vectorLanes (s u : State) (t : Nat) (op : QOp) (k : Tok) (v : VArgs) (f : Nat → W32 × Fl) (bad : Nat → Bool) : Prop :=
  let sel := fun l => (s.pR t v.pg).getLsbD l
  s.vectorTo u t v.vd (fun l => if sel l then (f l).1 else if v.pz then 0 else s.vR t v.vd l)
    (fun l => s.pP t v.pg || if sel l then bad l else if v.pz then false else s.vP t v.vd l) ∧
  s.entryBegun u t op k (flagsOf (fun l => if sel l then (f l).2 else 0)) ∧
  s.scalarsSame u t ∧ s.addrsSame u t ∧ s.predsSame u t ∧ s.banksSame u t ∧ s.otherTiles u t ∧ s.memSame u

/-- A queued instruction that writes scalar register sD. -/
def State.queuedScalar (s u : State) (t : Nat) (op : QOp) (k : Tok) (d : BitVec 5) (v : W64) (bad : Bool) (fl : Fl) : Prop :=
  u.sR t d = v ∧ u.sP t d = bad ∧ (∀ r, r ≠ d → u.sR t r = s.sR t r ∧ u.sP t r = s.sP t r) ∧
  s.entryBegun u t op k fl ∧ s.addrsSame u t ∧ s.predsSame u t ∧ s.vectorsSame u t ∧ s.banksSame u t ∧ s.otherTiles u t ∧ s.memSame u

/-- The rounding mode of an instruction that ignores stochastic rounding: RMODE, with mode 4 as RNE. -/
abbrev State.mode (s : State) (t : Nat) : Nat := plainMode (s.tile t).rmode.toNat

/-! ### SRAM (05 R159, R164, 06 R193, R205) -/

/-- Byte `a` of tile `t`'s SRAM. -/
abbrev State.sramAt (s : State) (t a : Nat) : Byte := s.sram.read (sramKey t a)

/-- An access the rules of alignment and range admit; a write also keeps out of the program banks. -/
def State.sramOk (s : State) (t a n align : Nat) (write : Bool) : Prop :=
  a % align = 0 ∧ a + n ≤ 0xC0000 ∧ (write = true → (s.tile t).inProgram a n = false)

/-- Exactly the bytes `l` at `a` of tile `t` have been stored, their granules POISONED or LOCAL; every other byte of every
memory, and every other granule, is as it was. -/
def State.storedTo (s u : State) (t a : Nat) (l : List Byte) (bad : Bool) : Prop :=
  (∀ i, i < l.length → u.sramAt t (a + i) = l.getD i 0 ∧ u.gst t ((a + i) / 256) = if bad then .poisoned else .local') ∧
    (∀ x, x < sramKey t a ∨ sramKey t a + l.length ≤ x → u.sram.read x = s.sram.read x) ∧
    (∀ n, (∀ i, i < l.length → n ≠ t * 3072 + (a + i) / 256) → tget .local' u.sramG n = tget .local' s.sramG n) ∧
    u.slices = s.slices ∧ u.sliceG = s.sliceG ∧ u.flash = s.flash

/-- The address a load or store uses, and what its POSTINC leaves in aA (06 R205). -/
def State.accessAddr (s : State) (t : Nat) (m : MemArgs) : Nat :=
  (if m.postinc then s.aR t m.a else s.aR t m.a + m.off.signExtend 64).toNat
def State.afterAccess (s u : State) (t : Nat) (m : MemArgs) : Prop :=
  (u.tile t).aGet m.a.toNat = (if m.postinc then s.aR t m.a + m.off.signExtend 64 else s.aR t m.a) ∧
    ∀ r, r ≠ m.a.toNat → (u.tile t).aGet r = (s.tile t).aGet r

/-! ### Accumulator banks (06 R206-R210, 07 R237) -/

/-- Bank `b` takes these accumulators, the other banks stay. -/
def State.bankTo (s u : State) (t b : Nat) (f : Nat → Nat → Acc) : Prop :=
  (∀ m n, m < 32 → n < 32 → (u.tile t).accGet b m n = f m n) ∧
    ∀ c m n, c ≠ b → m < 32 → n < 32 → (u.tile t).accGet c m n = (s.tile t).accGet c m n

/-- The registers and memories a tensor instruction leaves alone. -/
def State.registersSame (s u : State) (t : Nat) : Prop :=
  s.scalarsSame u t ∧ s.addrsSame u t ∧ s.predsSame u t ∧ s.vectorsSame u t ∧ s.otherTiles u t

/-- Products enter an accumulator in order (07 R239, R240). -/
def Acc.plus (a : Acc) (l : List FVal) : Acc := l.foldl (fun c p => (c.enter p).1) a

/-- The operands of a tensor instruction stand aligned inside SRAM; an operand of 0 bytes is not touched. -/
def operandsOk (l : List (Nat × Nat)) (align : Nat) : Prop := ∀ r ∈ l, r.2 ≠ 0 → r.1 % align = 0 ∧ r.1 + r.2 ≤ 0xC0000

/-! ### Events and replies (03 R115-R117, 15 R476, R481) -/

/-- An event that falls due now is written: the ring is enabled, has room and loses nothing, its function may be written to. -/
def State.hears (s : State) (ep : Ep) : Prop :=
  let q := (s.endpoint ep).evq
  q.en = true ∧ s.canWrite ep = true ∧ q.losing = false ∧ q.used + 1 < 2 ^ q.log2.toNat

/-- The record of an event stands in the event ring of a function that hears it, at the place where its next record goes. -/
def State.eventAt (s u : State) (ep : Ep) (code kind src data : Nat) : Prop :=
  s.hears ep → let q := (s.endpoint ep).evq
    Output.hostWrite ep (q.base.toNat / 4096 * 4096 + 32 * q.tail.toNat)
      ((leBytes 32 (eventBits (s.mkEvent code kind src data) q.seq q.phase)).take 31) ∈ u.out

/-- A core takes a message now: it runs, and the module is far enough for the message's block (15 R485, 17 R534). -/
def State.canHandle (s : State) (c : CoreId) (id : Nat) : Prop :=
  (s.core c).state = .running ∧ (s.phase = .fabricReady ∨ s.phase = .fullReady ∨ id / 256 = 0x0F ∨ id / 256 = 0x11 ∨ id / 256 = 0x13)

/-- The reply of a message: to a peer or the console, or at the tail of a mailbox that is enabled and may be written to. -/
def State.replied (s u : State) (m : Msg) (id handler result : Nat) (payload : List Byte) : Prop :=
  let r : Reply := {
    msgId := BitVec.ofNat 16 id, disposition := 0, tag := m.tag, result := BitVec.ofNat 8 result,
    reqHead := m.reqHead, handler := BitVec.ofNat 8 handler, payload := payload }
  match m.sender with
  | .mbx f =>
    let b := (s.endpoint (mbxEp f)).mbx
    b.en = true → s.canWrite (mbxEp f) = true →
      Output.hostWrite (mbxEp f) (b.rspBase.toNat / 4096 * 4096 + 4160 * b.rspTail) (replyBody r s.fw.minor s.tick) ∈ u.out
  | x => Output.peerReply x r ∈ u.out

/-- An operation has ended with a status and a detail, at this tick (03 R110). -/
def State.opEnds (s u : State) (i st d : Nat) : Prop :=
  ∃ e, u.findOp i = some e ∧ e.st = .ended ∧ e.status = BitVec.ofNat 8 st ∧ e.detail = BitVec.ofNat 32 d ∧ e.doneTick = s.tick

/-- A RUN's claims are granted and its tiles start (05 R153, R170, R171). -/
def State.runStarted (s u : State) (o : Op) (r : RunState) : Prop :=
  (∀ t ∈ r.tiles, let x := u.tile t
    x.run = .running ∧ x.op = o.id ∧ x.slot = r.slot ∧ x.index = r.entry ∧ (∀ k, k < 32 → x.sGet k = o.arg k ∧ x.sBad k = false) ∧
    (∀ k, x.aGet k = 0 ∧ x.vGet k = 0 ∧ x.tokGet k = 0) ∧ (∀ k, k < 8 → x.pGet k = BitVec.allOnes 64) ∧ x.acc = [] ∧ x.taps = [] ∧ x.egress = [] ∧
    x.progs = (s.tile t).progs ∧ x.hash = (if r.keepHash then (s.tile t).hash else {})) ∧
  (∀ t, t ∉ r.tiles → u.tile t = s.tile t) ∧ s.memSame u ∧ u.ops = s.ops

end Sys2Proof.Machine
end

