-- ==== Sys2Proof/WellFormed.lean ====
section
/-! DEFINITION. Which commands are well formed: what arrives with a command has the size the spec gives it. -/
namespace Sys2Proof.Machine

/-- A message's payload has at most 4,096 bytes (15 R475). -/
def Msg.wf (m : Msg) : Bool := decide (m.payload.length ≤ 4096)

/-- An extended payload has at most 4,096 bytes (03 T3.6). -/
def Fetched.wf : Fetched → Bool
  | .fault => true
  | .got _ ext => decide ((ext.getD []).length ≤ 4096)

/-- An image header has 256 bytes (02 T2.10). -/
def ImageIn.wf (i : ImageIn) : Bool := decide (i.header.length = 256)

/-- The body of a flit has 256 bytes at most (12 R390). -/
def WireFlit.wf (f : WireFlit) : Bool := decide (f.data.length ≤ 256)

/-- Mirror data come in granules of 256 bytes (18 R572). -/
def MirrorEnd.wf : MirrorEnd → Bool
  | .send _ => true
  | .receive _ _ _ data _ _ => decide (data.length = 256)

/-- A recovery gives at most nine pulses (19 R596). -/
def SdaResult.wf : SdaResult → Bool
  | .released p => decide (1 ≤ p) && decide (p ≤ 9)
  | .stuck => true

/-- A tile of a region lies on its 25 × 25 array (01 R22). -/
def onArray (l : List (Nat × Nat)) : Bool := l.all (fun (c : Nat × Nat) => decide (c.1 < 25) && decide (c.2 < 25))

def StepResult.wf : StepResult → Bool
  | .done d _ => onArray d
  | .failed _ d => onArray d

/-- Currents of four domains and two well rails (16 T16.16). -/
def RegionWindow.wf (w : RegionWindow) : Bool := decide (w.currents.length = 4) && decide (w.lnkCurrents.length = 2)

end Sys2Proof.Machine

namespace Sys2Proof
open Sys2Proof.Machine

/-- A command whose operands have the sizes the spec gives them; the widths of the others are in their types. -/
def WellFormed (i : Instr) : Bool :=
  match i with
  | .registerWrite _ _ size _ => decide (1 ≤ size) && decide (size ≤ 8)
  | .rsLowHalfRead _ _ => true
  | .sqEnable _ _ => true
  | .sqDisable _ _ => true
  | .cqEnable _ _ => true
  | .cqDisable _ _ => true
  | .doorbellSqTail _ _ _ => true
  | .doorbellCqHead _ _ _ => true
  | .ringCancel _ _ => true
  | .descriptorFetch _ _ got => got.wf
  | .descriptorStart _ => true
  | .descriptorComplete _ => true
  | .evqEnable _ => true
  | .evqHeadWrite _ _ => true
  | .statusEnable _ => true
  | .statusPageRefresh _ => true
  | .busMasterEnableSet _ => true
  | .busMasterEnableClear _ => true
  | .hostLinkDown _ => true
  | .hostLinkUp _ _ _ _ => true
  | .vfFlr _ _ => true
  | .pfFlr _ => true
  | .vfEnableChange _ _ _ => true
  | .mbxEnable _ => true
  | .mbxDisable _ => true
  | .mbxReqTail _ _ => true
  | .mbxRspHead _ _ => true
  | .mailboxAccept _ bytes => decide ((bytes.getD []).length ≤ 4160)
  | .partCreate m _ => m.wf
  | .partResize m => m.wf
  | .partResizeComplete _ => true
  | .partDestroy m => m.wf
  | .partDestroyComplete _ => true
  | .partReset m => m.wf
  | .partitionResetProgress _ => true
  | .portAssign m => m.wf
  | .sharedCreate m => m.wf
  | .sharedDestroy m => m.wf
  | .grant m => m.wf
  | .revoke m => m.wf
  | .keyLoad m _ => m.wf
  | .keyErase m => m.wf
  | .attest m => m.wf
  | .deviceCert m => m.wf
  | .svnCommit m => m.wf
  | .secRelease _ => true
  | .bootImageReceive _ _ img _ => img.wf
  | .bootLinkTimeout _ _ => true
  | .tickEdge _ _ => true
  | .timingFlitSend _ _ => true
  | .timingFlitReceive _ _ _ _ => true
  | .ptpSyncReceive _ _ _ _ => true
  | .bestInputHoldExpiry => true
  | .sourceLoss _ => true
  | .cadenceOutOfSpec _ => true
  | .sourceModeWrite _ _ => true
  | .localSetWrite _ _ => true
  | .classChange _ => true
  | .crossingRelock _ _ => true
  | .nop _ => true
  | .fence _ => true
  | .fencePartition _ => true
  | .syncSignal _ => true
  | .syncSignalSet _ => true
  | .syncWait _ => true
  | .syncWaitTimeout _ => true
  | .loadProgram _ _ => true
  | .run _ => true
  | .runClaimGranted _ _ => true
  | .copy _ _ => true
  | .tierPrefetch _ => true
  | .tierRelease _ => true
  | .weightBuild _ _ => true
  | .weightSwap _ => true
  | .stream _ => true
  | .publish _ => true
  | .allReduce _ => true
  | .reduceScatter _ => true
  | .allGather _ => true
  | .broadcast _ => true
  | .reduce _ => true
  | .barrier _ => true
  | .groupForm _ => true
  | .groupDestroy _ => true
  | .groupReform _ => true
  | .snapshot _ => true
  | .snapshotPoint _ => true
  | .mirrorCopy x => x.wf
  | .mirrorCommit _ => true
  | .commitPoint _ _ _ => true
  | .queueBegin _ _ => true
  | .instructionComplete _ _ _ => true
  | .issueResume _ => true
  | .swaitTimeout _ => true
  | .eccScrub _ _ _ => true
  | .tileNop _ => true
  | .halt _ _ _ _ => true
  | .qsync _ _ => true
  | .twait _ _ _ _ _ => true
  | .trd _ _ _ => true
  | .crd _ _ _ => true
  | .cwr _ _ _ => true
  | .jal _ _ _ => true
  | .jr _ _ => true
  | .br _ _ _ _ _ => true
  | .add _ _ _ _ _ => true
  | .sub _ _ _ _ _ => true
  | .and _ _ _ _ _ => true
  | .or _ _ _ _ _ => true
  | .xor _ _ _ _ _ => true
  | .shl _ _ _ _ _ => true
  | .shr _ _ _ _ _ => true
  | .sar _ _ _ _ _ => true
  | .min _ _ _ _ _ => true
  | .max _ _ _ _ _ => true
  | .minu _ _ _ _ _ => true
  | .maxu _ _ _ _ _ => true
  | .seq _ _ _ _ _ => true
  | .slt _ _ _ _ _ => true
  | .sltu _ _ _ _ _ => true
  | .aluiAdd _ _ _ _ => true
  | .aluiSub _ _ _ _ => true
  | .aluiAnd _ _ _ _ => true
  | .aluiOr _ _ _ _ => true
  | .aluiXor _ _ _ _ => true
  | .aluiShl _ _ _ _ => true
  | .aluiShr _ _ _ _ => true
  | .aluiSar _ _ _ _ => true
  | .aluiMin _ _ _ _ => true
  | .aluiMax _ _ _ _ => true
  | .aluiMinu _ _ _ _ => true
  | .aluiMaxu _ _ _ _ => true
  | .aluiSeq _ _ _ _ => true
  | .aluiSlt _ _ _ _ => true
  | .aluiSltu _ _ _ _ => true
  | .mul _ _ _ _ _ => true
  | .mulh _ _ _ _ _ => true
  | .mulhu _ _ _ _ _ => true
  | .li _ _ _ => true
  | .liu _ _ _ => true
  | .lih _ _ _ => true
  | .aset _ _ _ => true
  | .aadd _ _ _ _ => true
  | .afroms _ _ _ _ => true
  | .atos _ _ _ _ => true
  | .awrap _ _ _ _ => true
  | .pand _ _ _ _ => true
  | .por _ _ _ _ => true
  | .pxor _ _ _ _ => true
  | .pandn _ _ _ _ => true
  | .pnot _ _ _ => true
  | .pfroms _ _ _ => true
  | .ptos _ _ _ => true
  | .pfirst _ _ _ => true
  | .ssig _ _ _ => true
  | .ssigSet _ _ _ => true
  | .ssigRelease _ => true
  | .swait _ _ _ _ _ _ => true
  | .srd _ _ _ => true
  | .stwait _ _ _ _ => true
  | .stgen _ _ _ => true
  | .ststat _ _ _ _ => true
  | .vadd _ _ _ => true
  | .vsub _ _ _ => true
  | .vmul _ _ _ => true
  | .vfma _ _ _ => true
  | .vfms _ _ _ => true
  | .vfVmin _ _ _ => true
  | .vfVmax _ _ _ => true
  | .vabs _ _ _ => true
  | .vneg _ _ _ => true
  | .vexp2 _ _ _ => true
  | .vlog2 _ _ _ => true
  | .vrcp _ _ _ => true
  | .vrsqrt _ _ _ => true
  | .vsqrt _ _ _ => true
  | .vexp _ _ _ => true
  | .viadd _ _ _ => true
  | .visub _ _ _ => true
  | .vimul _ _ _ => true
  | .vand _ _ _ => true
  | .vor _ _ _ => true
  | .vxor _ _ _ => true
  | .vshl _ _ _ => true
  | .vshr _ _ _ => true
  | .vsar _ _ _ => true
  | .viVmin _ _ _ => true
  | .viVmax _ _ _ => true
  | .vminu _ _ _ => true
  | .vmaxu _ _ _ => true
  | .vcmp _ _ _ _ _ => true
  | .vsel _ _ _ => true
  | .rsum _ _ _ => true
  | .rmax _ _ _ => true
  | .rmin _ _ _ => true
  | .risum _ _ _ => true
  | .perm _ _ _ => true
  | .rot _ _ _ => true
  | .bcast _ _ _ _ => true
  | .froms _ _ _ => true
  | .tos _ _ _ _ => true
  | .insert _ _ _ _ => true
  | .iota _ _ _ => true
  | .vcvtF2i _ _ _ _ => true
  | .vcvtI2f _ _ _ _ => true
  | .vcvtU2f _ _ _ _ => true
  | .vcvtF2u _ _ _ _ => true
  | .vnarrow _ _ _ _ _ _ => true
  | .vwiden _ _ _ _ _ => true
  | .vmxq _ _ _ _ _ _ => true
  | .vmxdq _ _ _ _ _ => true
  | .ld _ _ _ => true
  | .st _ _ _ => true
  | .vld _ _ _ => true
  | .vst _ _ _ => true
  | .tmma _ _ _ => true
  | .tzero _ _ _ => true
  | .tdrain _ _ _ => true
  | .twadd _ _ _ _ => true
  | .smma _ _ _ => true
  | .hacc _ _ _ => true
  | .hget _ _ _ => true
  | .hcfg _ _ _ => true
  | .hdrain _ _ _ => true
  | .hclr _ _ => true
  | .mcopy _ _ _ => true
  | .mfill _ _ _ => true
  | .ccfg _ _ _ => true
  | .tap _ _ _ _ => true
  | .tapx _ _ _ => true
  | .strel _ _ _ => true
  | .egress _ _ _ _ => true
  | .econtrib _ _ _ => true
  | .eskip _ _ _ => true
  | .streamOpenArrive _ _ => true
  | .streamGranuleArrive _ _ _ => true
  | .streamCloseArrive _ _ => true
  | .streamAbortArrive _ _ => true
  | .gradOpenArrive _ _ => true
  | .gradientGranuleArrive _ _ _ => true
  | .write _ _ => true
  | .read _ _ _ => true
  | .writeCast _ _ => true
  | .writeAck _ => true
  | .readData _ _ => true
  | .dropNotice _ => true
  | .fabricTimeout _ => true
  | .routesChanged => true
  | .streamInstanceOpen _ => true
  | .streamInstanceClose _ => true
  | .swapPoint _ => true
  | .t2ChunkReadDone _ _ => true
  | .hostFrameReadDone _ _ _ _ => true
  | .chunkData _ _ => true
  | .chunkLate _ => true
  | .stallTimeout _ _ => true
  | .chunkReplyTimeout _ => true
  | .chunkBusyRetry _ => true
  | .relayFrameReceive _ _ _ => true
  | .relayFallback _ => true
  | .fetchWindowOpen _ _ => true
  | .privateSlotsWrite _ _ _ => true
  | .quotaWrite _ _ _ _ => true
  | .memMap m => m.wf
  | .memUnmap m => m.wf
  | .memObjCreate m => m.wf
  | .memObjSeal m => m.wf
  | .memObjDestroy m => m.wf
  | .memSharedBack m => m.wf
  | .memEvacuate m => m.wf
  | .wgtSlotClear m => m.wf
  | .wgtRelaySet m _ => m.wf
  | .wgtRelayClear m => m.wf
  | .portEnableWrite _ _ _ => true
  | .ctrlRetrain _ _ => true
  | .partnerSignalDetect _ => true
  | .narrowDetectTimeout _ _ => true
  | .noPartnerTimeout _ => true
  | .equalizeDone _ => true
  | .equalizeTimeout _ => true
  | .alignDone _ => true
  | .alignTimeout _ _ => true
  | .params _ body => decide (body.length = 32)
  | .paramsTimeout _ => true
  | .portRetrained _ _ => true
  | .retrainTimeout _ => true
  | .downRetryTimer _ => true
  | .portRelocated _ => true
  | .bptRelocate m => m.wf
  | .dataFlitReceive _ w => w.wf
  | .nak _ _ => true
  | .retrainReq _ => true
  | .echoReq _ _ => true
  | .echoRsp _ _ => true
  | .replayTimeout _ => true
  | .codewordBurst _ _ _ => true
  | .gradAck _ => true
  | .gradDone _ => true
  | .gradAckTimeout _ => true
  | .gradBusyResend _ => true
  | .torusPacketArrive _ => true
  | .torusEgressSend _ _ => true
  | .holdLimitExpiry _ _ => true
  | .routeSetApply => true
  | .keysetApplied => true
  | .torConfig m => m.wf
  | .torRouteSet m _ => m.wf
  | .torKeyset m => m.wf
  | .torMcastSet m _ => m.wf
  | .torMcastClear m => m.wf
  | .piece _ => true
  | .pieceAck _ => true
  | .formUp _ => true
  | .formDown _ => true
  | .formMismatch _ => true
  | .barrierUp _ => true
  | .barrierDown _ => true
  | .squall _ => true
  | .reformUp _ => true
  | .reformDown _ => true
  | .formTimeout _ _ => true
  | .progressTimeout _ _ _ => true
  | .launchTick _ _ => true
  | .watchdogExpiry _ _ _ => true
  | .coreException _ _ _ => true
  | .coreMemoryError _ _ _ => true
  | .coreReloadDone _ _ _ => true
  | .coreThawed _ _ => true
  | .thawTimeout _ _ => true
  | .mmcTakeover _ => true
  | .wdogWrite _ _ => true
  | .dumpSelWrite _ _ => true
  | .dumpDataRead _ _ size => decide (1 ≤ size) && decide (size ≤ 8)
  | .fwPing m _ => m.wf
  | .fwRestart m _ _ => m.wf
  | .fwImageStage m img => m.wf && img.wf
  | .fwDumpRead m => m.wf
  | .fwDumpClear m => m.wf
  | .voltageLoopStep _ vlog vsram => decide (vlog.length = 16) && decide (vsram.length = 16)
  | .droopEngage _ vlog => decide (vlog.length = 16)
  | .droopRelease _ vlog _ => decide (vlog.length = 16)
  | .activityEstimate _ _ => true
  | .peakLimiterStep => true
  | .pwrDivision windows _ _ _ _ _ => windows.all RegionWindow.wf
  | .forecastClassify _ _ _ _ _ _ => true
  | .phasePlanStep _ _ => true
  | .regulatorAlert _ _ => true
  | .lullRelease _ => true
  | .alertHeldTimeout _ _ => true
  | .linkGroupAlert _ _ => true
  | .railCollapse _ _ _ => true
  | .thermalSample _ temps => decide (temps.length = 4)
  | .thermalLullRelease _ => true
  | .thermalTrip _ temps => decide (temps.length = 4)
  | .coolantSample _ _ _ => true
  | .coolantLoss _ _ => true
  | .powerDownStep => true
  | .hostWWrite _ _ => true
  | .ceilingWrite _ _ _ => true
  | .suspectClear _ _ _ => true
  | .pwrBudgetSet m => m.wf
  | .pwrShareSet m => m.wf
  | .pwrPhasePlan m => m.wf
  | .pwrCeilingSet m => m.wf
  | .pwrOff m => m.wf
  | .regionBringupStep _ res _ => res.wf
  | .bringupStepTimeout _ _ => true
  | .fabricReady _ => true
  | .fullReady _ => true
  | .fullReadyTimeout => true
  | .scrubBackground _ _ _ => true
  | .stratusCalSlot _ _ _ _ => true
  | .serdesCalSlot _ _ => true
  | .vsenseCalSlot _ _ => true
  | .oscCalSlot _ _ => true
  | .calStale _ _ => true
  | .periodCtWrite _ _ _ => true
  | .bruRepairSet m => m.wf
  | .bruRepairGet m => m.wf
  | .bruRegionRestart m _ => m.wf
  | .bruRcalReset m => m.wf
  | .tileParityError _ _ => true
  | .rateWindow _ => true
  | .stragglerCheck _ => true
  | .rasFence m => m.wf
  | .rasTwinPair m => m.wf
  | .twinPaired _ => true
  | .pairingTimeout => true
  | .rasTwinUnpair m => m.wf
  | .rasMirrorBind m => m.wf
  | .twinBindReceive _ _ _ _ _ _ => true
  | .bindTimeout _ => true
  | .rasMirrorUnbind m => m.wf
  | .unbind _ => true
  | .rasTwinHandover m => m.wf
  | .twinHeartbeatSend => true
  | .twinLossBegin _ => true
  | .twinProbeAnswer => true
  | .lossMsExpiry => true
  | .twinBreak _ => true
  | .inputVoltageFault _ => true
  | .inputLimit _ => true
  | .autoPowerOn => true
  | .leakDetect => true
  | .mmcWatchdogRestart => true
  | .mgmtLink _ => true
  | .peerAdmit _ => true
  | .pluggableInsert _ _ => true
  | .pmbusSdaLow _ _ res => res.wf
  | .sclTimeout _ _ => true
  | .pmbusReselect _ res => res.wf
  | .safetySample _ _ => true
  | .mgtStatusGet m => m.wf
  | .mgtConfigSet m _ => m.wf
  | .mgtSafetyClear m => m.wf
  | .mgtPowerOn m _ => m.wf
  | .mgtPowerOff m => m.wf
  | .mgtLogRead m => m.wf
  | .mgtPmbusRejoin m res => m.wf && res.wf
  | .partnerReset _ => true
  | .flashLinkUp _ => true
  | .flashLinkDown _ => true
  | .twinHeartbeatReceive _ => true
  | .regulatorAlertDeassert _ => true
  | .illegalInstruction _ _ => true
  | .inputPowerApplied _ _ => true
  | .inputPowerLoss => true
  | .moduleReset => true

end Sys2Proof
end

