-- ==== Sys2Proof/Certificates/Slice0/Obligations.lean ====
section
/-! DEFINITION. The statements for the provers: what each command does to the module, how the queue runs, what every step keeps. Logs are
the rows of notes/assumptions. -/
open Sys2Proof Sys2Proof.Machine

/-- 06 R195, T6.6: ALU writes sA op sB to sD, with W32 = 1 the sign-extended operation on bits [31:0]; the result is
poisoned when a source is, and nothing but sD, the index and the issue count changes. 06 R195, T6.6: ALUI writes sA op IMM to sD with IMM sign-extended; a shift takes IMM[5:0], with IMM[31:6] 0. 06 R195, T6.6: MUL, MULH, MULHU and their 32-bit forms, LI, LIU and LIH. LIH leaves bits [31:0] and their poison. Where it fixes what the spec leaves open it follows logs 33, 34. -/
def Obligations.ScalarInstructionsWriteTheirResult : Prop :=
  (
  ∀ (s : State) (t : Tile) (d a b : BitVec 5), s.canIssue t [rs a, rs b] [rs d] [] →
    let A := s.sR t a
    let B := s.sR t b
    let X := lo32 A
    let Y := lo32 B
    let R : W64 → Host.Outcome State Fault Refusal := fun v => .next (s.scalarTo t d v (s.sP t a || s.sP t b))
    exec (.add t d a b false) s = R (A + B) ∧
    exec (.add t d a b true) s = R (sx32 (X + Y)) ∧
    exec (.sub t d a b false) s = R (A - B) ∧
    exec (.sub t d a b true) s = R (sx32 (X - Y)) ∧
    exec (.and t d a b false) s = R (A &&& B) ∧
    exec (.and t d a b true) s = R (sx32 (X &&& Y)) ∧
    exec (.or t d a b false) s = R (A ||| B) ∧
    exec (.or t d a b true) s = R (sx32 (X ||| Y)) ∧
    exec (.xor t d a b false) s = R (A ^^^ B) ∧
    exec (.xor t d a b true) s = R (sx32 (X ^^^ Y)) ∧
    exec (.shl t d a b false) s = R (A <<< (B.toNat % 64)) ∧
    exec (.shl t d a b true) s = R (sx32 (X <<< (Y.toNat % 32))) ∧
    exec (.shr t d a b false) s = R (A >>> (B.toNat % 64)) ∧
    exec (.shr t d a b true) s = R (sx32 (X >>> (Y.toNat % 32))) ∧
    exec (.sar t d a b false) s = R (A.sshiftRight (B.toNat % 64)) ∧
    exec (.sar t d a b true) s = R (sx32 (X.sshiftRight (Y.toNat % 32))) ∧
    exec (.min t d a b false) s = R ((if A.toInt ≤ B.toInt then A else B)) ∧
    exec (.min t d a b true) s = R (sx32 ((if X.toInt ≤ Y.toInt then X else Y))) ∧
    exec (.max t d a b false) s = R ((if A.toInt ≤ B.toInt then B else A)) ∧
    exec (.max t d a b true) s = R (sx32 ((if X.toInt ≤ Y.toInt then Y else X))) ∧
    exec (.minu t d a b false) s = R ((if A.toNat ≤ B.toNat then A else B)) ∧
    exec (.minu t d a b true) s = R (sx32 ((if X.toNat ≤ Y.toNat then X else Y))) ∧
    exec (.maxu t d a b false) s = R ((if A.toNat ≤ B.toNat then B else A)) ∧
    exec (.maxu t d a b true) s = R (sx32 ((if X.toNat ≤ Y.toNat then Y else X))) ∧
    exec (.seq t d a b false) s = R ((if A = B then 1 else 0)) ∧
    exec (.seq t d a b true) s = R (sx32 ((if X = Y then 1 else 0))) ∧
    exec (.slt t d a b false) s = R ((if A.toInt < B.toInt then 1 else 0)) ∧
    exec (.slt t d a b true) s = R (sx32 ((if X.toInt < Y.toInt then 1 else 0))) ∧
    exec (.sltu t d a b false) s = R ((if A.toNat < B.toNat then 1 else 0)) ∧
    exec (.sltu t d a b true) s = R (sx32 ((if X.toNat < Y.toNat then 1 else 0)))
  ) ∧
  (
  ∀ (s : State) (t : Tile) (d a : BitVec 5) (imm : W32), s.canIssue t [rs a] [rs d] [] →
    let A := s.sR t a
    let B := sx32 imm
    let R : W64 → Host.Outcome State Fault Refusal := fun v => .next (s.scalarTo t d v (s.sP t a))
    exec (.aluiAdd t d a imm) s = R (A + B) ∧
    exec (.aluiSub t d a imm) s = R (A - B) ∧
    exec (.aluiAnd t d a imm) s = R (A &&& B) ∧
    exec (.aluiOr t d a imm) s = R (A ||| B) ∧
    exec (.aluiXor t d a imm) s = R (A ^^^ B) ∧
    (imm.toNat < 64 → exec (.aluiShl t d a imm) s = R (A <<< imm.toNat)) ∧
    (imm.toNat < 64 → exec (.aluiShr t d a imm) s = R (A >>> imm.toNat)) ∧
    (imm.toNat < 64 → exec (.aluiSar t d a imm) s = R (A.sshiftRight imm.toNat)) ∧
    exec (.aluiMin t d a imm) s = R ((if A.toInt ≤ B.toInt then A else B)) ∧
    exec (.aluiMax t d a imm) s = R ((if A.toInt ≤ B.toInt then B else A)) ∧
    exec (.aluiMinu t d a imm) s = R ((if A.toNat ≤ B.toNat then A else B)) ∧
    exec (.aluiMaxu t d a imm) s = R ((if A.toNat ≤ B.toNat then B else A)) ∧
    exec (.aluiSeq t d a imm) s = R ((if A = B then 1 else 0)) ∧
    exec (.aluiSlt t d a imm) s = R ((if A.toInt < B.toInt then 1 else 0)) ∧
    exec (.aluiSltu t d a imm) s = R ((if A.toNat < B.toNat then 1 else 0))
  ) ∧
  (
  (∀ (s : State) (t : Tile) (d a b : BitVec 5), s.canIssue t [rs a, rs b] [rs d] [] →
    let A := s.sR t a
    let B := s.sR t b
    let X := lo32 A
    let Y := lo32 B
    let R : W64 → Host.Outcome State Fault Refusal := fun v => .next (s.scalarTo t d v (s.sP t a || s.sP t b))
    exec (.mul t d a b false) s = R (A * B) ∧
    exec (.mul t d a b true) s = R (sx32 (X * Y)) ∧
    exec (.mulh t d a b false) s = R (BitVec.ofInt 64 (A.toInt * B.toInt / 2 ^ 64)) ∧
    exec (.mulh t d a b true) s = R (sx32 (BitVec.ofInt 32 (X.toInt * Y.toInt / 2 ^ 32))) ∧
    exec (.mulhu t d a b false) s = R (BitVec.ofNat 64 (A.toNat * B.toNat / 2 ^ 64)) ∧
    exec (.mulhu t d a b true) s = R (sx32 (BitVec.ofNat 32 (X.toNat * Y.toNat / 2 ^ 32)))) ∧
  (∀ (s : State) (t : Tile) (d : BitVec 5) (imm : W32), s.canIssue t [] [rs d] [] →
    exec (.li t d imm) s = .next (s.scalarTo t d (sx32 imm) false) ∧
    exec (.liu t d imm) s = .next (s.scalarTo t d (zx32 imm) false)) ∧
  (∀ (s : State) (t : Tile) (d : BitVec 5) (imm : W32), s.canIssue t [rs d] [rs d] [] →
    exec (.lih t d imm) s = .next (s.scalarTo t d (imm ++ lo32 (s.sR t d)) (s.sP t d)))
  )

/-- 06 R196, T6.7: the address instructions on 64-bit wrapping values; a poisoned scalar stops AFROMS and AWRAP (05 R165). 06 R197, T6.8: the predicate instructions, and PFIRST's lanes 0 to min(sA, 64) − 1. Where it fixes what the spec leaves open it follows logs 33, 34. -/
def Obligations.AddressAndPredicateInstructionsWriteTheirResult : Prop :=
  (
  (∀ (s : State) (t : Tile) (d : BitVec 4) (imm : W32), s.canIssue t [] [ra d] [] →
    exec (.aset t d imm) s = .next (s.addrTo t d (sx32 imm))) ∧
  (∀ (s : State) (t : Tile) (d a : BitVec 4) (imm : W32), s.canIssue t [ra a] [ra d] [] →
    exec (.aadd t d a imm) s = .next (s.addrTo t d (s.aR t a + sx32 imm))) ∧
  (∀ (s : State) (t : Tile) (d : BitVec 4) (a : BitVec 5) (imm : W32), s.canIssue t [rs a] [ra d] [] → s.sP t a = false →
    exec (.afroms t d a imm) s = .next (s.addrTo t d (s.sR t a + sx32 imm))) ∧
  (∀ (s : State) (t : Tile) (d : BitVec 5) (a : BitVec 4) (imm : W32), s.canIssue t [ra a] [rs d] [] →
    exec (.atos t d a imm) s = .next (s.scalarTo t d (s.aR t a + sx32 imm) false)) ∧
  (∀ (s : State) (t : Tile) (d a : BitVec 4) (b : BitVec 5), s.canIssue t [ra d, ra a, rs b] [ra d] [] → s.sP t b = false →
    let D := s.aR t d
    let A := s.aR t a
    let size := (s.sR t b).toNat % 2 ^ 32
    let step := (s.sR t b) >>> 32
    exec (.awrap t d a b) s = .next (s.addrTo t d (if size = 0 then D else A + BitVec.ofNat 64 ((D - A + step).toNat % size))))
  ) ∧
  (
  (∀ (s : State) (t : Tile) (d a b : BitVec 3), s.canIssue t [rp a, rp b] [rp d] [] →
    let A := s.pR t a
    let B := s.pR t b
    let R : W64 → Host.Outcome State Fault Refusal := fun v => .next (s.predTo t d v (s.pP t a || s.pP t b))
    exec (.pand t d a b) s = R (A &&& B) ∧
    exec (.por t d a b) s = R (A ||| B) ∧
    exec (.pxor t d a b) s = R (A ^^^ B) ∧
    exec (.pandn t d a b) s = R (A &&& ~~~B)) ∧
  (∀ (s : State) (t : Tile) (d a : BitVec 3), s.canIssue t [rp a] [rp d] [] →
    exec (.pnot t d a) s = .next (s.predTo t d (~~~(s.pR t a)) (s.pP t a))) ∧
  (∀ (s : State) (t : Tile) (d : BitVec 3) (a : BitVec 5), s.canIssue t [rs a] [rp d] [] →
    exec (.pfroms t d a) s = .next (s.predTo t d (s.sR t a) (s.sP t a)) ∧
    Completes (.pfirst t d a) s (fun u =>
      u = s.predTo t d (u.pR t d) (s.sP t a) ∧
      ∀ l, l < 64 → (u.pR t d).getLsbD l = decide (l < (s.sR t a).toNat))) ∧
  (∀ (s : State) (t : Tile) (d : BitVec 5) (a : BitVec 3), s.canIssue t [rp a] [rs d] [] →
    exec (.ptos t d a) s = .next (s.scalarTo t d (s.pR t a) (s.pP t a)))
  )

/-- 06 R186, R198, T6.9: the next index of BR, JAL and JR; an offset counts from the branch's own index. 06 R191, T6.3, R199: CRD reads every listed tile control register and 0 for a number not listed, CWR writes the writable
ones, TRD reads a token, NOP only issues. Where it fixes what the spec leaves open it follows logs 33, 35, 53. -/
def Obligations.BranchesAndControlRegistersAct : Prop :=
  (
  (∀ (s : State) (t : Tile) (a b : BitVec 5) (off : W32),
    let i := (s.tile t).index
    let A := s.sR t a
    let B := s.sR t b
    let J : Prop → W32 → State → Prop := fun c o u =>
      (c → u = s.jumpTo t (BitVec.ofNat 32 i + o).toNat) ∧ (¬ c → u = s.onlyIssued t)
    (s.canIssue t [] [] [] → Completes (.br t 0 0 0 off) s (J True off)) ∧
    (s.canIssue t [rs a, rs b] [] [] → s.scalarsClean t [a, b] →
      Completes (.br t 1 a b off) s (J (A = B) off) ∧
      Completes (.br t 2 a b off) s (J (A ≠ B) off) ∧
      Completes (.br t 3 a b off) s (J (A.toInt < B.toInt) off) ∧
      Completes (.br t 4 a b off) s (J (B.toInt ≤ A.toInt) off) ∧
      Completes (.br t 5 a b off) s (J (A.toNat < B.toNat) off) ∧
      Completes (.br t 6 a b off) s (J (B.toNat ≤ A.toNat) off)) ∧
    (s.canIssue t [rs a] [] [] → s.scalarsClean t [a] →
      Completes (.br t 7 a 0 off) s (J (A = 0) off) ∧
      Completes (.br t 8 a 0 off) s (J (A ≠ 0) off))) ∧
  (∀ (s : State) (t : Tile) (p : BitVec 3) (off : W32),
    let i := (s.tile t).index
    let J : Prop → State → Prop := fun c u =>
      (c → u = s.jumpTo t (BitVec.ofNat 32 i + off).toNat) ∧ (¬ c → u = s.onlyIssued t)
    s.canIssue t [rp p] [] [] → s.pP t p = false →
      Completes (.br t 9 (p.setWidth 5) 0 off) s (J (s.pR t p ≠ 0)) ∧
      Completes (.br t 10 (p.setWidth 5) 0 off) s (J (s.pR t p = BitVec.allOnes 64)) ∧
      Completes (.br t 11 (p.setWidth 5) 0 off) s (J (s.pR t p = 0))) ∧
  (∀ (s : State) (t : Tile) (d : BitVec 5) (imm : W32), s.canIssue t [] [rs d] [] →
    exec (.jal t d imm) s = .next ((s.scalarTo t d (BitVec.ofNat 64 ((s.tile t).index + 1)) false).setT t
      { (s.tile t).issued1.sSet d.toNat (BitVec.ofNat 64 ((s.tile t).index + 1)) false with
        index := (BitVec.ofNat 32 (s.tile t).index + imm).toNat })) ∧
  (∀ (s : State) (t : Tile) (a : BitVec 5), s.canIssue t [rs a] [] [] → s.sP t a = false →
    exec (.jr t a) s = .next (s.jumpTo t (lo32 (s.sR t a)).toNat))
  ) ∧
  (
  (∀ (s : State) (t : Tile) (d : BitVec 5), s.canIssue t [] [rs d] [] →
    let x := s.tile t
    let r := s.runOf t
    let R : W64 → Host.Outcome State Fault Refusal := fun v => .next (s.scalarTo t d v false)
    exec (.crd t d 0x000) s = R (BitVec.ofNat 64 (pack [(16, t.val % 288), (16, t.val / 288), (16, t.val % 288 - r.tx0), (16, t.val / 288 - r.ty0)])) ∧
    exec (.crd t d 0x001) s = R (BitVec.ofNat 64 (pack [(16, r.tx0), (16, r.ty0), (16, r.w), (16, r.h)])) ∧
    exec (.crd t d 0x002) s = R (BitVec.ofNat 64 (pack [(8, x.slot), (8, (s.owner (tileRegion t)).getD 0), (16, x.entry)])) ∧
    exec (.crd t d 0x003) s = R (BitVec.ofNat 64 (x.rmode.toNat + 8 * x.rsat.toNat)) ∧
    exec (.crd t d 0x004) s = R x.srseed ∧
    exec (.crd t d 0x005) s = R x.srctr ∧
    exec (.crd t d 0x006) s = R (x.fstat.setWidth 64) ∧
    exec (.crd t d 0x008) s = R s.cad.count ∧
    (∀ n, n < 8 → exec (.crd t d (BitVec.ofNat 32 (0x040 + n))) s = R (tget 0 x.cnt n)) ∧
    (∀ imm : W32, imm.toNat < 0x1000 → 0x009 < imm.toNat → (imm.toNat < 0x040 ∨ 0x080 ≤ imm.toNat) → exec (.crd t d imm) s = R 0) ∧
    exec (.crd t d 0x007) s = R 0) ∧
  (∀ (s : State) (t : Tile) (a : BitVec 5), s.canIssue t [rs a] [] [] → s.sP t a = false →
    let x := (s.tile t).issued1
    let V := s.sR t a
    exec (.cwr t a 0x003) s = .next (s.setT t { x with
      rmode := if 5 ≤ V.toNat % 8 then 0 else BitVec.ofNat 3 V.toNat
      rsat := V.getLsbD 3 }) ∧
    exec (.cwr t a 0x004) s = .next (s.setT t { x with srseed := V }) ∧
    exec (.cwr t a 0x005) s = .next (s.setT t { x with srctr := V }) ∧
    exec (.cwr t a 0x006) s = .next (s.setT t { x with fstat := V.setWidth 7 })) ∧
  (∀ (s : State) (t : Tile) (d : BitVec 5) (k : BitVec 4), s.canIssue t [] [rs d] [] →
    exec (.trd t d k) s = .next (s.scalarTo t d (((s.tile t).tokGet k.toNat).setWidth 64) false)) ∧
  (∀ (s : State) (t : Tile), s.canIssue t [] [] [] → exec (.tileNop t) s = .next (s.onlyIssued t))
  )

/-- 06 R199-R201, 05 R182: what holds issue when it is issued. HALT halts a drained tile with its exit code; QSYNC, TWAIT,
SWAIT and STWAIT hold nothing when their condition stands already; SRD holds until its value arrives. Where it fixes what the spec leaves open it follows logs 33, 35. -/
def Obligations.HoldsBeginAsTheirConditionsSay : Prop :=
  (∀ (s : State) (t : Tile) (a : BitVec 5) (imm : W32),
    let H : W32 → State → Prop := fun code u =>
      (s.drains t 0x1F → (u.tile t).run = .halted ∧ (u.tile t).exitCode = code) ∧
      (¬ s.drains t 0x1F → u = s.heldOn t (.halt code))
    (s.canIssue t [] [] [] → Completes (.halt t false 0 imm) s (H imm)) ∧
    (s.canIssue t [rs a] [] [] → s.sP t a = false → Completes (.halt t true a 0) s (H (lo32 (s.sR t a))))) ∧
  (∀ (s : State) (t : Tile) (m : BitVec 5), s.canIssue t [] [] [] →
    Completes (.qsync t (m.setWidth 32)) s (fun u =>
      (s.drains t m → u = s.onlyIssued t) ∧ (¬ s.drains t m → u = s.heldOn t (.qsync m)))) ∧
  (∀ (s : State) (t : Tile) (k : BitVec 4) (d : BitVec 5) (v : W16),
    let T : W16 → State → Prop := fun w u =>
      (tokenMet ((s.tile t).tokGet k.toNat) w → u = s.onlyIssued t) ∧
      (¬ tokenMet ((s.tile t).tokGet k.toNat) w → u = s.heldOn t (.twait k.toNat w))
    (s.canIssue t [] [] [] → Completes (.twait t false k 0 (v.setWidth 32)) s (T v)) ∧
    (s.canIssue t [rs d] [] [] → s.sP t d = false → Completes (.twait t true k d 0) s (T ((s.sR t d).setWidth 16)))) ∧
  (∀ (s : State) (t : Tile) (d a b c : BitVec 5) (cmp : BitVec 4),
    s.canIssue t [rs a, rs b, rs c] [rs d] [] → s.scalarsClean t [a, b, c] → cmp.toNat < 4 →
    let off := (s.sR t a).toNat % 2 ^ 15
    off < s.tileSyncCount t →
    Completes (.swait t d a b c cmp) s (fun u =>
      let met := (s.tile t).ssigs = [] ∧ compares cmp.toNat (s.objOf t off) (s.sR t b)
      (met → u = s.scalarTo t d 0 false) ∧
      (¬ met → u = s.heldOn t (.swait off cmp.toNat (s.sR t b) (lo32 (s.sR t c)) d.toNat)))) ∧
  (∀ (s : State) (t : Tile) (d a : BitVec 5), s.canIssue t [rs a] [rs d] [] → s.sP t a = false →
    (s.sR t a).toNat % 2 ^ 15 < s.tileSyncCount t →
    exec (.srd t d a) s = .next (s.heldOn t (.srd ((s.sR t a).toNat % 2 ^ 15) d.toNat))) ∧
  (∀ (s : State) (t : Tile) (d : BitVec 5) (e : BitVec 3) (eg : Bool), s.canIssue t [] [rs d] [] → (eg = true → e.toNat < 4) →
    let st := if eg then ((s.tile t).eg e.toNat).state else ((s.tile t).tap e.toNat).state
    let code := if eg then ((s.tile t).eg e.toNat).status else ((s.tile t).tap e.toNat).status
    Completes (.stwait t d e eg) s (fun u =>
      (st = .idle → u = s.scalarTo t d 0x100 false) ∧
      (st = .done → u = s.scalarTo t d 0 false) ∧
      (st = .aborted → u = s.scalarTo t d (code.setWidth 64) false) ∧
      (st = .armed ∨ st = .attached → u = s.heldOn t (.stwait eg e.toNat d.toNat)))) ∧
  (∀ (s : State) (t : Tile) (d : BitVec 5) (e : BitVec 3), s.canIssue t [] [rs d] [] →
    let p := (s.tile t).tap e.toNat
    exec (.stgen t d e) s = .next (s.scalarTo t d
      (if p.seen then BitVec.ofNat 64 (p.gen.toNat + 2 ^ 32 * p.slot.toNat) else BitVec.ofNat 64 (2 ^ 63)) false) ∧
    exec (.ststat t d e false) s = .next (s.scalarTo t d (BitVec.ofNat 64 (pack [(3, p.state.code), (5, 0),
      (8, if p.state = .aborted then p.status.toNat else 0), (16, p.fill), (32, p.count.toNat)])) false))

/-- 06 R199-R201, 05 R182: how a hold ends, when its condition stands or its timeout passes. 06 R200, 05 R183: SSIG does not hold issue, it waits for its release point; there the oldest one adds to or sets its object. Where it fixes what the spec leaves open it follows logs 2, 35. -/
def Obligations.HoldsEndAndSyncSignalsWait : Prop :=
  (
  ∀ (s : State) (t : Tile),
    let x := s.tile t
    (x.hold = none → exec (.issueResume t) s = .next s ∧ exec (.swaitTimeout t) s = .next s) ∧
    (∀ code, x.hold = some (.halt code) → s.drains t 0x1F →
      Completes (.issueResume t) s (fun u => (u.tile t).run = .halted ∧ (u.tile t).hold = none ∧ (u.tile t).exitCode = code)) ∧
    (∀ m, x.hold = some (.qsync m) → s.drains t m → exec (.issueResume t) s = .next (s.released t)) ∧
    (∀ k v, x.hold = some (.twait k v) →
      (tokenMet (x.tokGet k) v → exec (.issueResume t) s = .next (s.released t)) ∧
      (¬ tokenMet (x.tokGet k) v → exec (.issueResume t) s = .next (s.setT t (x.count 3 1)))) ∧
    (∀ o d, x.hold = some (.srd o d) → exec (.issueResume t) s = .next (s.releasedTo t d (s.objOf t o))) ∧
    (∀ e d st, x.hold = some (.stwait false e d) → x.tap e = st → st.state = .done →
      exec (.issueResume t) s = .next (s.releasedTo t d 0)) ∧
    (∀ e d st, x.hold = some (.stwait false e d) → x.tap e = st → st.state = .aborted →
      exec (.issueResume t) s = .next (s.releasedTo t d (st.status.setWidth 64))) ∧
    (∀ o cmp v limit d, x.hold = some (.swait o cmp v limit d) →
      let met := x.ssigs = [] ∧ compares cmp (s.objOf t o) v
      (met → exec (.issueResume t) s = .next (s.releasedTo t d 0)) ∧
      (met → limit ≠ 0 → exec (.swaitTimeout t) s = .next (s.releasedTo t d 0)) ∧
      (¬ met → limit ≠ 0 → exec (.swaitTimeout t) s = .next (s.releasedTo t d 1)))
  ) ∧
  (
  (∀ (s : State) (t : Tile) (off : BitVec 15) (d a : BitVec 5) (set : Bool),
    let i : SyncOff → SyncVal → Instr := fun o v => if set then .ssigSet t o v else .ssig t o v
    let Q : Nat → W64 → Host.Outcome State Fault Refusal := fun o v =>
      .next (s.setT t { (s.tile t).issued1 with
        ssigs := (s.tile t).ssigs ++ [{ obj := o, set := set, value := v, after := (s.tile t).issued }] })
    (s.canIssue t [] [] [] → off.toNat < s.tileSyncCount t → exec (i (.imm off) .one) s = Q off.toNat 1) ∧
    (s.canIssue t [rs a] [] [] → s.sP t a = false → off.toNat < s.tileSyncCount t →
      exec (i (.imm off) (.reg a)) s = Q off.toNat (s.sR t a)) ∧
    (s.canIssue t [rs d] [] [] → s.sP t d = false → (s.sR t d).toNat % 2 ^ 15 < s.tileSyncCount t →
      exec (i (.reg d) .one) s = Q ((s.sR t d).toNat % 2 ^ 15) 1) ∧
    (s.canIssue t [rs d, rs a] [] [] → s.scalarsClean t [d, a] → (s.sR t d).toNat % 2 ^ 15 < s.tileSyncCount t →
      exec (i (.reg d) (.reg a)) s = Q ((s.sR t d).toNat % 2 ^ 15) (s.sR t a))) ∧
  (∀ (s : State) (t : Tile) (g : Ssig) (r : List Ssig), (s.tile t).ssigs = g :: r →
    (∀ e ∈ (s.tile t).entries, g.after ≤ e.id) →
    Completes (.ssigRelease t) s (fun u =>
      (u.tile t).ssigs = r ∧
      u.objOf t g.obj = (if g.set then g.value else s.objOf t g.obj + g.value) ∧
      ∀ o, o ≠ s.tileObj t g.obj → u.syncGet o = s.syncGet o))
  )

/-- 06 R202, T6.11, 07 R230: the FP32 lane arithmetic of VF, under RMODE with mode 4 as RNE, with its flags and poison. 06 R202, T6.11, 07 R230, T7.7: VSF on its special operands; its other lanes are some value of the lane's operand. Where it fixes what the spec leaves open it follows logs 20, 33, 34, 60. -/
def Obligations.VectorFloatAndSpecialLanes : Prop :=
  (
  ∀ (s : State) (t : Tile) (v : VArgs) (k : Tok),
    let m := s.mode t
    let A := s.vR t v.va
    let B := s.vR t v.vb
    let C := s.vR t v.vc
    let PA := s.vP t v.va
    let PB := s.vP t v.vb
    let PC := s.vP t v.vc
    (s.canQueue t (.vf 0 v) k → Completes (.vadd t v k) s (fun u => s.vectorLanes u t (.vf 0 v) k v (fun l => fp32Add m (A l) (B l)) (fun l => PA l || PB l))) ∧
    (s.canQueue t (.vf 1 v) k → Completes (.vsub t v k) s (fun u => s.vectorLanes u t (.vf 1 v) k v (fun l => fp32Sub m (A l) (B l)) (fun l => PA l || PB l))) ∧
    (s.canQueue t (.vf 2 v) k → Completes (.vmul t v k) s (fun u => s.vectorLanes u t (.vf 2 v) k v (fun l => fp32Mul m (A l) (B l)) (fun l => PA l || PB l))) ∧
    (s.canQueue t (.vf 3 v) k → Completes (.vfma t v k) s (fun u => s.vectorLanes u t (.vf 3 v) k v (fun l => fp32Fma m false (A l) (B l) (C l)) (fun l => PA l || PB l || PC l))) ∧
    (s.canQueue t (.vf 4 v) k → Completes (.vfms t v k) s (fun u => s.vectorLanes u t (.vf 4 v) k v (fun l => fp32Fma m true (A l) (B l) (C l)) (fun l => PA l || PB l || PC l))) ∧
    (s.canQueue t (.vf 5 v) k → Completes (.vfVmin t v k) s (fun u => s.vectorLanes u t (.vf 5 v) k v (fun l => (fp32Min (A l) (B l), 0)) (fun l => PA l || PB l))) ∧
    (s.canQueue t (.vf 6 v) k → Completes (.vfVmax t v k) s (fun u => s.vectorLanes u t (.vf 6 v) k v (fun l => (fp32Max (A l) (B l), 0)) (fun l => PA l || PB l))) ∧
    (s.canQueue t (.vf 7 v) k → Completes (.vabs t v k) s (fun u => s.vectorLanes u t (.vf 7 v) k v (fun l => (A l &&& 0x7FFFFFFF, 0)) (fun l => PA l))) ∧
    (s.canQueue t (.vf 8 v) k → Completes (.vneg t v k) s (fun u => s.vectorLanes u t (.vf 8 v) k v (fun l => (A l ^^^ 0x80000000, 0)) (fun l => PA l)))
  ) ∧
  (
  ∀ (s : State) (t : Tile) (v : VArgs) (k : Tok),
    let A := s.vR t v.va
    let nan := fun (x : W32) => x.toNat % 2 ^ 31 > 0x7F800000
    let below := fun (x : W32) => 0x80000000 < x.toNat ∧ x.toNat < 0xFF800000
    let S : BitVec 5 → ((W32 → W32 × Fl) → Prop) → State → Prop := fun fn P u =>
      ∃ g : W32 → W32 × Fl, (∀ x, nan x → g x = (fp32Canon, 0)) ∧ P g ∧
        s.vectorLanes u t (.vsf fn v) k v (fun l => g (A l)) (fun l => s.vP t v.va l)
    (s.canQueue t (.vsf 0 v) k → Completes (.vexp2 t v k) s (S 0 (fun g => g 0xFF800000 = (0, 0) ∧ g 0x7F800000 = (0x7F800000, 0) ∧
      g 0x80000000 = (0x3F800000, 0) ∧ g 0 = (0x3F800000, 0)))) ∧
    (s.canQueue t (.vsf 5 v) k → Completes (.vexp t v k) s (S 5 (fun g => g 0xFF800000 = (0, 0) ∧ g 0x7F800000 = (0x7F800000, 0) ∧
      g 0x80000000 = (0x3F800000, 0) ∧ g 0 = (0x3F800000, 0)))) ∧
    (s.canQueue t (.vsf 1 v) k → Completes (.vlog2 t v k) s (S 1 (fun g => g 0xFF800000 = (fp32Canon, flI) ∧ g 0x7F800000 = (0x7F800000, 0) ∧
      g 0x80000000 = (0xFF800000, flZ) ∧ g 0 = (0xFF800000, flZ) ∧ g 0x3F800000 = (0, 0) ∧ ∀ x, below x → g x = (fp32Canon, flI)))) ∧
    (s.canQueue t (.vsf 2 v) k → Completes (.vrcp t v k) s (S 2 (fun g => g 0xFF800000 = (0x80000000, 0) ∧ g 0x7F800000 = (0, 0) ∧
      g 0x80000000 = (0xFF800000, flZ) ∧ g 0 = (0x7F800000, flZ) ∧ g 0x3F800000 = (0x3F800000, 0)))) ∧
    (s.canQueue t (.vsf 3 v) k → Completes (.vrsqrt t v k) s (S 3 (fun g => g 0xFF800000 = (fp32Canon, flI) ∧ g 0x7F800000 = (0, 0) ∧
      g 0x80000000 = (0xFF800000, flZ) ∧ g 0 = (0x7F800000, flZ) ∧ g 0x3F800000 = (0x3F800000, 0) ∧ ∀ x, below x → g x = (fp32Canon, flI)))) ∧
    (s.canQueue t (.vsf 4 v) k → Completes (.vsqrt t v k) s (S 4 (fun g => g 0xFF800000 = (fp32Canon, flI) ∧ g 0x7F800000 = (0x7F800000, 0) ∧
      g 0x80000000 = (0x80000000, 0) ∧ g 0 = (0, 0) ∧ ∀ x, below x → g x = (fp32Canon, flI))))
  )

/-- 06 R202, T6.11: the integer lane arithmetic of VI; it raises no flag. 06 R203, T6.12: compare into a predicate, select, and reduce to a scalar; RISUM is the sum mod 2^32 of the selected lanes. 06 R203, T6.12: lanes moved within a register, and between scalars and lanes. Where it fixes what the spec leaves open it follows logs 33, 34, 60. -/
def Obligations.VectorIntegerComparePermuteLanes : Prop :=
  (
  ∀ (s : State) (t : Tile) (v : VArgs) (k : Tok),
    let A := s.vR t v.va
    let B := s.vR t v.vb
    let R : BitVec 5 → (Nat → W32) → State → Prop := fun fn f u =>
      s.vectorLanes u t (.vi fn v) k v (fun l => (f l, 0)) (fun l => s.vP t v.va l || s.vP t v.vb l)
    (s.canQueue t (.vi 0 v) k → Completes (.viadd t v k) s (R 0 (fun l => A l + B l))) ∧
    (s.canQueue t (.vi 1 v) k → Completes (.visub t v k) s (R 1 (fun l => A l - B l))) ∧
    (s.canQueue t (.vi 2 v) k → Completes (.vimul t v k) s (R 2 (fun l => A l * B l))) ∧
    (s.canQueue t (.vi 3 v) k → Completes (.vand t v k) s (R 3 (fun l => A l &&& B l))) ∧
    (s.canQueue t (.vi 4 v) k → Completes (.vor t v k) s (R 4 (fun l => A l ||| B l))) ∧
    (s.canQueue t (.vi 5 v) k → Completes (.vxor t v k) s (R 5 (fun l => A l ^^^ B l))) ∧
    (s.canQueue t (.vi 6 v) k → Completes (.vshl t v k) s (R 6 (fun l => A l <<< ((B l).toNat % 32)))) ∧
    (s.canQueue t (.vi 7 v) k → Completes (.vshr t v k) s (R 7 (fun l => A l >>> ((B l).toNat % 32)))) ∧
    (s.canQueue t (.vi 8 v) k → Completes (.vsar t v k) s (R 8 (fun l => (A l).sshiftRight ((B l).toNat % 32)))) ∧
    (s.canQueue t (.vi 9 v) k → Completes (.viVmin t v k) s (R 9 (fun l => if (A l).toInt ≤ (B l).toInt then A l else B l))) ∧
    (s.canQueue t (.vi 10 v) k → Completes (.viVmax t v k) s (R 10 (fun l => if (A l).toInt ≤ (B l).toInt then B l else A l))) ∧
    (s.canQueue t (.vi 11 v) k → Completes (.vminu t v k) s (R 11 (fun l => if (A l).toNat ≤ (B l).toNat then A l else B l))) ∧
    (s.canQueue t (.vi 12 v) k → Completes (.vmaxu t v k) s (R 12 (fun l => if (A l).toNat ≤ (B l).toNat then B l else A l)))
  ) ∧
  (
  ∀ (s : State) (t : Tile) (v : VArgs) (k : Tok),
    let A := s.vR t v.va
    let B := s.vR t v.vb
    let sel := fun l => (s.pR t v.pg).getLsbD l
    let selected := (List.range 64).map (fun l => if sel l then some (A l) else none)
    let hasBad := s.pP t v.pg || (s.pR t v.pg &&& (s.tile t).vBad v.va.toNat) != 0
    let bad := s.pP t v.pg || (s.pR t v.pg &&& ((s.tile t).vBad v.va.toNat ||| (s.tile t).vBad v.vb.toNat)) != 0
    let C : BitVec 5 → BitVec 4 → (W32 → W32 → Prop) → (W32 → W32 → Fl) → Prop := fun fn ty P g =>
      s.canQueue t (.vcmp fn ty v) k → Completes (.vcmp t v k fn ty) s (fun u =>
        (∀ l, l < 64 → (((u.tile t).pGet v.vd.toNat).getLsbD l = true ↔ sel l = true ∧ P (A l) (B l))) ∧
        (u.tile t).pBad v.vd.toNat = bad ∧ (∀ r, r ≠ v.vd.toNat → (u.tile t).pGet r = (s.tile t).pGet r) ∧
        s.entryBegun u t (.vcmp fn ty v) k (flagsOf (fun l => if sel l then g (A l) (B l) else 0)) ∧
        s.scalarsSame u t ∧ s.addrsSame u t ∧ s.vectorsSame u t ∧ s.banksSame u t ∧ s.otherTiles u t ∧ s.memSame u)
    (∀ fn : BitVec 5, C fn 0 (fun a b => (fp32Cmp fn.toNat a b).1 = true) (fun a b => (fp32Cmp fn.toNat a b).2)) ∧
    (∀ ty : BitVec 4, ty = 1 ∨ ty = 2 →
      let lt : W32 → W32 → Prop := fun a b => if ty = 1 then a.toInt < b.toInt else a.toNat < b.toNat
      let N : W32 → W32 → Fl := fun _ _ => 0
      C 0 ty (fun a b => a = b) N ∧ C 1 ty (fun a b => a ≠ b) N ∧ C 2 ty lt N ∧ C 3 ty (fun a b => ¬ lt b a) N ∧
      C 4 ty (fun a b => lt b a) N ∧ C 5 ty (fun a b => ¬ lt a b) N) ∧
    (s.canQueue t (.vsel v) k → Completes (.vsel t v k) s (fun u =>
      s.vectorTo u t v.vd (fun l => if sel l then A l else B l)
        (fun l => s.pP t v.pg || if sel l then s.vP t v.va l else s.vP t v.vb l) ∧
      s.entryBegun u t (.vsel v) k 0 ∧ s.scalarsSame u t ∧ s.addrsSame u t ∧ s.predsSame u t ∧ s.banksSame u t ∧ s.otherTiles u t ∧ s.memSame u)) ∧
    (s.canQueue t (.vred 0 v) k → Completes (.rsum t v k) s (fun u =>
      let r := redTree (fp32Add 0) 6 selected
      s.queuedScalar u t (.vred 0 v) k v.vd (zx32 (r.1.getD 0)) hasBad r.2)) ∧
    (s.canQueue t (.vred 1 v) k → Completes (.rmax t v k) s (fun u =>
      s.queuedScalar u t (.vred 1 v) k v.vd (zx32 ((redTree (fun a b => (fp32Max a b, 0)) 6 selected).1.getD 0xFF800000)) hasBad 0)) ∧
    (s.canQueue t (.vred 2 v) k → Completes (.rmin t v k) s (fun u =>
      s.queuedScalar u t (.vred 2 v) k v.vd (zx32 ((redTree (fun a b => (fp32Min a b, 0)) 6 selected).1.getD 0x7F800000)) hasBad 0)) ∧
    (s.canQueue t (.vred 3 v) k → Completes (.risum t v k) s (fun u =>
      s.queuedScalar u t (.vred 3 v) k v.vd (zx32 ((selected.filterMap id).foldl (· + ·) 0)) hasBad 0))
  ) ∧
  (
  ∀ (s : State) (t : Tile) (v : VArgs) (k : Tok) (imm : Byte),
    let A := s.vR t v.va
    let PA := s.vP t v.va
    let L : QOp → (Nat → W32) → (Nat → Bool) → State → Prop := fun op f b u => s.vectorLanes u t op k v (fun l => (f l, 0)) b
    (s.canQueue t (.vperm 0 v 0) k → Completes (.perm t v k) s (L (.vperm 0 v 0)
      (fun l => A ((s.vR t v.vb l).toNat % 64)) (fun l => PA ((s.vR t v.vb l).toNat % 64) || s.vP t v.vb l))) ∧
    (s.canQueue t (.vperm 1 v 0) k → s.sP t v.vb = false → Completes (.rot t v k) s (L (.vperm 1 v 0)
      (fun l => A ((l + (s.sR t v.vb).toNat) % 64)) (fun l => PA ((l + (s.sR t v.vb).toNat) % 64)))) ∧
    (s.canQueue t (.vperm 2 v imm) k → Completes (.bcast t v k imm) s (L (.vperm 2 v imm) (fun _ => A imm.toNat) (fun _ => PA imm.toNat))) ∧
    (s.canQueue t (.vmov 0 v 0) k → Completes (.froms t v k) s (L (.vmov 0 v 0) (fun _ => lo32 (s.sR t v.va)) (fun _ => s.sP t v.va))) ∧
    (s.canQueue t (.vmov 1 v imm) k → Completes (.tos t v k imm) s (fun u =>
      s.queuedScalar u t (.vmov 1 v imm) k v.vd (zx32 (A imm.toNat)) (PA imm.toNat) 0)) ∧
    (s.canQueue t (.vmov 2 v imm) k → Completes (.insert t v k imm) s (fun u =>
      s.vectorTo u t v.vd (fun l => if l = imm.toNat then lo32 (s.sR t v.va) else s.vR t v.vd l)
        (fun l => if l = imm.toNat then s.sP t v.va else s.vP t v.vd l) ∧
      s.entryBegun u t (.vmov 2 v imm) k 0 ∧ s.scalarsSame u t ∧ s.addrsSame u t ∧ s.predsSame u t ∧ s.banksSame u t ∧ s.otherTiles u t ∧ s.memSame u)) ∧
    (s.canQueue t (.vmov 3 v 0) k → Completes (.iota t v k) s (L (.vmov 3 v 0) (fun l => BitVec.ofNat 32 l) (fun _ => false)))
  )

/-- 06 R204, T6.13, 07 R231, R232: conversions between FP32 lanes and integers, widening, and MX decoding. 06 R204, T6.13, 07 R233-R236: narrowing and MX quantization write one part of vD; element l draws counter SRCTR + l. Where it fixes what the spec leaves open it follows logs 33, 34, 60. -/
def Obligations.VectorConversionsRoundAndNarrow : Prop :=
  (
  ∀ (s : State) (t : Tile) (v : VArgs) (r : RndArgs) (k : Tok) (ty : BitVec 4) (pos : BitVec 3),
    let A := s.vR t v.va
    let mode := plainMode (if r.rnd = 0 then (s.tile t).rmode.toNat else if r.rnd = 1 then 0 else if r.rnd = 2 then 1 else 4)
    let L : QOp → (Nat → W32 × Fl) → (Nat → Bool) → State → Prop := fun op f b u => s.vectorLanes u t op k v f b
    let first := fun l => pos.toNat * (64 * elemBits ty.toNat) + l * elemBits ty.toNat
    let elem := fun l => ((s.tile t).vGet v.va.toNat).toNat >>> first l % 2 ^ elemBits ty.toNat
    let bad := fun l => s.vP t v.va (first l / 32) || s.vP t v.va ((first l + elemBits ty.toNat - 1) / 32)
    (s.canQueue t (.vcvt 0 r v) k → Completes (.vcvtF2i t v r k) s (L (.vcvt 0 r v) (fun l => toInt32 mode 0 false (.ofWord (A l))) (fun l => s.vP t v.va l))) ∧
    (s.canQueue t (.vcvt 3 r v) k → Completes (.vcvtF2u t v r k) s (L (.vcvt 3 r v) (fun l => toInt32 mode 0 true (.ofWord (A l))) (fun l => s.vP t v.va l))) ∧
    (s.canQueue t (.vcvt 1 r v) k → Completes (.vcvtI2f t v r k) s (L (.vcvt 1 r v)
      (fun l => fp32Round mode (.fin (decide ((A l).toInt < 0)) (A l).toInt.natAbs 0)) (fun l => s.vP t v.va l))) ∧
    (s.canQueue t (.vcvt 2 r v) k → Completes (.vcvtU2f t v r k) s (L (.vcvt 2 r v)
      (fun l => fp32Round mode (.fin false (A l).toNat 0)) (fun l => s.vP t v.va l))) ∧
    (s.canQueue t (.vwiden ty v pos) k → Completes (.vwiden t v k ty pos) s (L (.vwiden ty v pos) (fun l => widenElem ty.toNat (elem l)) bad)) ∧
    (s.canQueue t (.vmxdq ty v pos) k → Completes (.vmxdq t v k ty pos) s (L (.vmxdq ty v pos)
      (fun l => mxWiden ty.toNat (elem l) (if l < 32 then (s.sR t v.vb).toNat % 256 else (s.sR t v.vb).toNat / 256 % 256))
      (fun l => bad l || s.sP t v.vb)))
  ) ∧
  (
  ∀ (s : State) (t : Tile) (v : VArgs) (r : RndArgs) (k : Tok) (ty : BitVec 4) (pos : BitVec 3),
    let x := s.tile t
    let A := s.vR t v.va
    let mode := if r.rnd = 0 then x.rmode.toNat else if r.rnd = 1 then 0 else if r.rnd = 2 then 1 else 4
    let draw := fun l => srBits x.srseed (x.srctr + BitVec.ofNat 64 l)
    let w := elemBits ty.toNat
    let lo := pos.toNat * (64 * w)
    let P : State → (Nat → Nat) → Prop := fun u e =>
      (∀ l, l < 64 → ((u.tile t).vGet v.vd.toNat).toNat >>> (lo + l * w) % 2 ^ w = e l % 2 ^ w) ∧
      (∀ i, i < 2048 → (i < lo ∨ lo + 64 * w ≤ i) → ((u.tile t).vGet v.vd.toNat).getLsbD i = (x.vGet v.vd.toNat).getLsbD i) ∧
      (u.tile t).srctr = (if mode = 4 then x.srctr + 64 else x.srctr) ∧ s.otherTiles u t ∧ s.memSame u
    (s.canQueue t (.vnarrow ty r v pos) k → Completes (.vnarrow t v r k ty pos) s (fun u =>
      P u (fun l => ((fmtOf ty.toNat).encode mode (r.sat || x.rsat) (draw l) (.ofWord (A l))).1) ∧ s.scalarsSame u t)) ∧
    (s.canQueue t (.vmxq ty r v pos) k → Completes (.vmxq t v r k ty pos) s (fun u =>
      let block := fun b => mxBlock ty.toNat mode ((List.range 32).map (fun i => draw (32 * b + i))) ((List.range 32).map (fun i => FVal.ofWord (A (32 * b + i))))
      P u (fun l => ((block (l / 32)).1.getD (l % 32) (0, 0)).1) ∧
      u.sR t v.vc = BitVec.ofNat 64 ((block 0).2.1 + 256 * (block 1).2.1)))
  )

/-- 06 R205, T6.14, T6.15, 05 R159, R164: loads and stores of scalars and of parts of vectors, POSTINC, and what a store changes. 06 R212, R213, R215, 05 R164, R165: MCOPY of one 64 B row inside the tile's SRAM and to another tile, MFILL of one 64 B row. The bytes and
the poison of the source arrive; toward another tile one WRITE packet leaves with them. Where it fixes what the spec leaves open it follows logs 33, 34. -/
def Obligations.LoadsStoresAndTransfersMoveTheirBytes : Prop :=
  (
  ∀ (s : State) (t : Tile) (m : MemArgs) (k : Tok),
    let a := s.accessAddr t m
    let n := 2 ^ m.size.toNat
    let w := 64 * 2 ^ m.size.toNat
    let first := if m.size = 0 then 64 * m.part.toNat else if m.size = 1 then 128 * (m.part.toNat % 2) else 0
    (s.canQueue t (.ld m) k → s.sramOk t a n n false → Completes (.ld t m k) s (fun u =>
      (∀ i, i < n → (u.sR t m.d).extractLsb' (8 * i) 8 = s.sramAt t (a + i)) ∧
      (∀ i, 8 * n ≤ i → i < 64 → (u.sR t m.d).getLsbD i = (m.sext && (u.sR t m.d).getLsbD (8 * n - 1))) ∧
      u.sP t m.d = s.sramBad t a n ∧ (∀ r, r ≠ m.d → u.sR t r = s.sR t r) ∧
      s.afterAccess u t m ∧ s.entryBegun u t (.ld m) k 0 ∧ s.predsSame u t ∧ s.vectorsSame u t ∧ s.banksSame u t ∧ s.otherTiles u t ∧ s.memSame u)) ∧
    (s.canQueue t (.st m) k → s.sramOk t a n n true → Completes (.st t m k) s (fun u =>
      s.storedTo u t a (leBytes n (s.sR t m.d).toNat) (s.sP t m.d) ∧
      s.afterAccess u t m ∧ s.entryBegun u t (.st m) k 0 ∧ s.scalarsSame u t ∧ s.predsSame u t ∧ s.vectorsSame u t ∧ s.banksSame u t ∧ s.otherTiles u t)) ∧
    (s.canQueue t (.vld m) k → s.sramOk t a w 64 false → Completes (.vld t m k) s (fun u =>
      (∀ i, i < w → ((u.tile t).vGet m.d.toNat).extractLsb' (8 * (first + i)) 8 = s.sramAt t (a + i)) ∧
      (∀ i, i < 256 → (i < first ∨ first + w ≤ i) →
        ((u.tile t).vGet m.d.toNat).extractLsb' (8 * i) 8 = ((s.tile t).vGet m.d.toNat).extractLsb' (8 * i) 8) ∧
      (∀ r, r ≠ m.d.toNat → (u.tile t).vGet r = (s.tile t).vGet r) ∧
      s.afterAccess u t m ∧ s.entryBegun u t (.vld m) k 0 ∧ s.scalarsSame u t ∧ s.predsSame u t ∧ s.banksSame u t ∧ s.otherTiles u t ∧ s.memSame u)) ∧
    (s.canQueue t (.vst m) k → s.sramOk t a w 64 true → Completes (.vst t m k) s (fun u =>
      s.storedTo u t a ((List.range w).map (fun i => ((s.tile t).vGet m.d.toNat).extractLsb' (8 * (first + i)) 8))
        ((List.range 64).any (fun l => s.vP t m.d l && decide (first ≤ 4 * l) && decide (4 * l < first + w))) ∧
      s.afterAccess u t m ∧ s.entryBegun u t (.vst m) k 0 ∧ s.scalarsSame u t ∧ s.predsSame u t ∧ s.vectorsSame u t ∧ s.banksSame u t ∧ s.otherTiles u t))
  ) ∧
  (
  ∀ (s : State) (t : Tile) (m : MoveArgs) (k : Tok),
    let src := (s.aR t m.asr).toNat
    let dst := (s.aR t m.ad).toNat
    let quiet := ∀ y ∈ s.xfers, y.t ≠ t.val ∧ y.id ≠ s.nextPkt
    m.twoD = false → m.comp = false → (s.sR t m.sl).toNat % 2 ^ 25 = 64 → s.sP t m.sl = false → quiet →
    (m.sk = 0 → m.dk = 0 → s.canQueue t (.mcopy m) k → s.sramOk t src 64 64 false → s.sramOk t dst 64 64 true → Completes (.mcopy t m k) s (fun u =>
      s.storedTo u t dst (s.sramBytes t src 64) (s.sramBad t src 64) ∧ s.registersSame u t ∧ s.banksSame u t ∧ u.pkts = s.pkts)) ∧
    (m.sk = 0 → m.dk = 1 → s.canQueue t (.mcopy m) k → s.sramOk t src 64 64 false →
      let x := dst / 2 ^ 32 % 2 ^ 9
      let y := dst / 2 ^ 48 % 2 ^ 9
      let a := dst % 2 ^ 20
      a % 64 = 0 → a + 64 ≤ 0xC0000 → s.inRect (s.partOf t) (x, y) = true → 288 * y + x ≠ t.val →
      (s.pkts.filter (fun p => decide (p.t = t.val) && !(p.kind == 2))).length < 64 → Completes (.mcopy t m k) s (fun u =>
        s.memSame u ∧ s.registersSame u t ∧ s.banksSame u t ∧ ∃ p, u.pkts = s.pkts ++ [p] ∧ p.t = t.val ∧ p.kind = 1 ∧ p.answered = false ∧
          p.lost = false ∧ p.places = [.sram (288 * y + x) a] ∧ p.len = 64 ∧
          p.piece = { data := s.sramBytes t src 64, st := if s.sramBad t src 64 then .poisoned else .local' })) ∧
    (m.sk = 0 → m.dk = 0 → m.asr = 0 → s.canQueue t (.mfill m) k → s.sP t m.sst = false → s.sramOk t dst 64 64 true →
      Completes (.mfill t m k) s (fun u =>
        s.storedTo u t dst ((List.range 64).map (fun i => (s.sR t m.sst).extractLsb' (8 * (i % 8)) 8)) false ∧
        s.registersSame u t ∧ s.banksSame u t ∧ u.pkts = s.pkts))
  )

/-- 06 R206, R209, R210, 07 R238-R242, 08 R251: what TMMA, TWADD and SMMA leave in their accumulator banks. SMMA
of K = 0 only clears; a header that fails its checks makes every accumulator NaN. 06 R208, 07 R242, R243: TDRAIN writes value (m, n) of the j-th bank drained at its place in row m, and changes no other
byte; with CLEAR the drained banks are 0 afterwards. Where it fixes what the spec leaves open it follows logs 33, 34, 60. -/
def Obligations.TensorInstructionsAccumulateAndDrain : Prop :=
  (
  ∀ (s : State) (t : Tile) (k : Tok),
    (∀ (x : MmArgs), s.canQueue t (.tmma x) k →
      let K := (s.sR t x.k).toNat
      let b := x.acc.toNat
      operandsOk ((s.tile t).mmRegions x) 32 → Completes (.tmma t x k) s (fun u =>
        s.bankTo u t b (fun m n => (if x.zero then ({} : Acc) else (s.tile t).accGet b m n).plus
          ((List.range K).map (fun j => s.mmProduct t (s.tile t) x j m n))) ∧
        s.registersSame u t ∧ s.memSame u)) ∧
    (∀ (aa : BitVec 4) (c : BitVec 2), s.canQueue t (.twadd aa c) k →
      let a := (s.aR t aa).toNat
      s.sramOk t a 16384 32 false → Completes (.twadd t aa k c) s (fun u =>
        s.bankTo u t c.toNat (fun m n => (((s.tile t).accGet c.toNat m n).addPartial
          (BitVec.ofNat 128 (leNat (s.sramBytes t (a + 512 * m + 16 * n) 16)))).1) ∧
        (s.sramBad t a 16384 = true → (u.tile t).accPoison.getLsbD c.toNat = true) ∧ s.registersSame u t ∧ s.memSame u)) ∧
    (∀ (x : MmArgs), s.canQueue t (.smma x) k →
      let K := (s.sR t x.k).toNat
      let b := x.acc.toNat
      let pa := (s.aR t x.aa).toNat
      let old := fun m n => if x.zero then ({} : Acc) else (s.tile t).accGet b m n
      let h := CHead.parse (s.sramBytes t pa 64)
      let dense := [((s.aR t x.ab).toNat, 32 * K)] ++ (if isMx x.fmt.toNat then [((s.aR t x.asa).toNat, 32 * ((K + 31) / 32))] else [])
      (K = 0 → Completes (.smma t x k) s (fun u => s.bankTo u t b old ∧ s.registersSame u t ∧ s.memSame u)) ∧
      (K ≠ 0 → operandsOk ((pa, 64) :: dense) 32 → pa + h.length ≤ 0xC0000 → h.ok x.fmt.toNat (s.sR t x.k) = false →
        Completes (.smma t x k) s (fun u => s.bankTo u t b (fun m n => { old m n with cls := 3 }) ∧ s.registersSame u t ∧ s.memSame u)) ∧
      (K ≠ 0 → operandsOk ((pa, 64) :: dense) 32 → pa + h.length ≤ 0xC0000 → h.ok x.fmt.toNat (s.sR t x.k) = true →
        (s.parseOperand t h pa).2 = false →
        Completes (.smma t x k) s (fun u => s.bankTo u t b (fun m n => (old m n).plus (s.smmaTerms t (s.tile t) x (s.parseOperand t h pa).1 m n)) ∧
          s.registersSame u t ∧ s.memSame u)))
  ) ∧
  (
  ∀ (s : State) (t : Tile) (k : Tok) (d : DrainArgs), s.canQueue t (.tdrain d) k →
    let banks := (List.range 4).filter (fun b => d.mask.getLsbD b)
    let row := match d.ofmt.toNat with
      | 0 => 64 | 1 => 64 | 2 => 128 | 3 => 32 | 4 => 32 | 5 => 512 | _ => 128
    let w := row / 32
    let base := (s.aR t d.ad).toNat
    let mode := if d.rnd = 0 then (s.tile t).rmode.toNat else if d.rnd = 1 then 0 else if d.rnd = 2 then 1 else 4
    s.sramOk t base (banks.length * (32 * row)) 64 true → Completes (.tdrain t d k) s (fun u =>
      (∀ j b m n, banks[j]? = some b → m < 32 → n < 32 →
        u.sramBytes t (base + (32 * j + m) * row + w * n) w = leBytes w (drainCode d.ofmt.toNat mode (d.sat || (s.tile t).rsat)
          (srBits (s.tile t).srseed ((s.tile t).srctr + BitVec.ofNat 64 (1024 * j + 32 * m + n)))
          ((s.tile t).accGet b m n) (.ofWord (lo32 (s.sR t d.s)))).1) ∧
      (∀ a, a < sramKey t base ∨ sramKey t base + banks.length * (32 * row) ≤ a → u.sram.read a = s.sram.read a) ∧
      (∀ b m n, b < 4 → m < 32 → n < 32 →
        (u.tile t).accGet b m n = if d.clear && d.mask.getLsbD b then {} else (s.tile t).accGet b m n) ∧
      s.registersSame u t ∧ u.slices = s.slices ∧ u.flash = s.flash)
  )

/-- 06 R207: TZERO sets every bank named in MASK to 0 and clears its poison, bit b names accb; MASK = 0 is unlisted, an illegal instruction (06 R186). -/
def Obligations.TzeroClearsTheBanksOfItsMask : Prop :=
  ∀ (s : State) (t : Tile) (k : Tok) (mask : BitVec 4),
    (s.canQueue t (.tzero mask) k → Completes (.tzero t k mask) s (fun u =>
      (∀ b m n, b < 4 → m < 32 → n < 32 → (u.tile t).accGet b m n = if mask.getLsbD b then {} else (s.tile t).accGet b m n) ∧
      (∀ b, b < 4 → (u.tile t).accPoison.getLsbD b = if mask.getLsbD b then false else (s.tile t).accPoison.getLsbD b) ∧
      s.entryBegun u t (.tzero mask) k 0 ∧ s.registersSame u t ∧ s.memSame u)) ∧
    (mask = 0 → (s.tile t).run = .running → (s.tile t).hold = none → (s.tile t).index < (s.tile t).progCount → Completes (.tzero t k mask) s (fun u =>
      (u.tile t).run = .halted ∧ (u.tile t).acc = (s.tile t).acc ∧ (u.tile t).accPoison = (s.tile t).accPoison ∧ s.memSame u ∧
      ∀ r o, s.findRun (s.tile t).op = some r → s.findOp (s.tile t).op = some o → r.records < r.excMax →
        Output.hostWrite (.vf (Fin.ofNat 12 o.part)) (r.excAddr + 32 * r.records) (excRecord t 1 0 (s.tile t).index 0 0 s.tick) ∈ u.out))

/-- 06 R211, 08 R264-R274: HACC adds the value of a key to its entry or enters it first in its set; HGET looks keys up; HCFG
takes a spill record; HDRAIN writes the merged pairs' count and, as asked, clears. Sets with spilled entries merge
the ring (08 R270). Where it fixes what the spec leaves open it follows logs 33, 34, 60. -/
def Obligations.HashAccumulatorKeepsSums : Prop :=
  ∀ (s : State) (t : Tile) (k : Tok) (v : VArgs),
    let h := (s.tile t).hash
    let sel := fun l => (s.pR t v.pg).getLsbD l
    (∀ l, l < 64 → (∀ j, j < 64 → (sel j = true ↔ j = l)) → s.canQueue t (.hacc v) k →
      let key := s.vR t v.va l
      let val := s.vR t v.vb l
      let ways := h.ways (hashSet key)
      let bad := s.vP t v.vb l || s.vP t v.va l || s.pP t v.pg
      (∀ e, ways.find? (fun w => w.key == key) = some e → Completes (.hacc t v k) s (fun u =>
        (u.tile t).hash.ways (hashSet key) = { e with value := (fp32Add 0 e.value val).1, poison := e.poison || bad } :: ways.filter (fun w => w.key != key) ∧
        (∀ n, n ≠ hashSet key → (u.tile t).hash.ways n = h.ways n) ∧ s.registersSame u t ∧ s.memSame u)) ∧
      (ways.find? (fun w => w.key == key) = none → ways.length < 4 → Completes (.hacc t v k) s (fun u =>
        (u.tile t).hash.ways (hashSet key) = { key := key, value := val, poison := bad } :: ways ∧
        (∀ n, n ≠ hashSet key → (u.tile t).hash.ways n = h.ways n) ∧ s.registersSame u t ∧ s.memSame u))) ∧
    (s.canQueue t (.hget v) k → h.spilled = [] → Completes (.hget t v k) s (fun u =>
      ∀ l, l < 64 →
        let hits := (h.ways (hashSet (s.vR t v.va l))).filter (fun e => e.key == s.vR t v.va l)
        (((u.tile t).pGet v.vc.toNat).getLsbD l = (sel l && !hits.isEmpty)) ∧
        (∀ e, hits = [e] → sel l = true → u.vR t v.vd l = e.value) ∧
        ((hits = [] ∨ sel l = false) → u.vR t v.vd l = 0))) ∧
    (∀ (aa : BitVec 4), s.canQueue t (.hcfg aa) k →
      let a := (s.aR t aa).toNat
      let b := s.sramBytes t a 64
      s.sramOk t a 64 64 false → h.written = 0 → h.buffer = [] → s.spillRecordOk t b = true → Completes (.hcfg t k aa) s (fun u =>
        (u.tile t).hash = { h with kind := leAt b 0 1, base := leAt b 8 8, lines := leAt b 16 4, dropped := 0 } ∧
        s.registersSame u t ∧ s.memSame u)) ∧
    (∀ (aa : BitVec 4), s.canQueue t (.hdrain aa) k →
      let a := (s.aR t aa).toNat
      let b := s.sramBytes t a 64
      s.sramOk t a 64 64 false → s.drainRecordOk t b = true → leAt b 0 1 = 0 → leAt b 8 8 + 8 * leAt b 16 4 ≤ 0xC0000 →
      (s.tile t).inProgram (leAt b 8 8) (8 * leAt b 16 4) = false →
      h.sets = [] → h.written = 0 → h.buffer = [] → Completes (.hdrain t k aa) s (fun u =>
        (leAt b 1 1 % 2 = 1 → (u.tile t).hash = { h with sets := [], spilled := [], written := 0, buffer := [], dropped := 0 }) ∧
        (leAt b 1 1 % 2 = 0 → (u.tile t).hash = h) ∧
        (2 ≤ leAt b 1 1 → u.sramBytes t (leAt b 20 4) 8 = leBytes 4 0 ++ leBytes 4 h.dropped.toNat)))

/-- 08 R274: HCLR clears the entries, SPILLED, the ring's records and line buffer and DROPPED, keeps the spill configuration, and overwrites no byte of memory. -/
def Obligations.HclrClearsAllButItsConfiguration : Prop :=
  ∀ (s : State) (t : Tile) (k : Tok),
    let h := (s.tile t).hash
    (s.canQueue t .hclr k → Completes (.hclr t k) s (fun u =>
      (u.tile t).hash = { h with sets := [], spilled := [], written := 0, buffer := [], dropped := 0 } ∧
      s.registersSame u t ∧ s.memSame u))

/-- 06 R216-R219, 05 R176, R177, R179, 08 R258, R263: what CCFG, TAP, TAPX, STREL, EGRESS, ECONTRIB and ESKIP leave in the compressor
configuration, the tap entries and the egress entries. Where it fixes what the spec leaves open it follows logs 25, 33, 35. -/
def Obligations.StreamEntryInstructionsSetTheirEntries : Prop :=
  ∀ (s : State) (t : Tile) (k : Tok),
    let T := s.tile t
    let kept := fun u : State => s.memSame u ∧ s.registersSame u t ∧ (u.tile t).acc = T.acc ∧ (u.tile t).tok = T.tok ∧ (u.tile t).fstat = T.fstat
    let ring := fun base size : Nat => base % 256 = 0 ∧ size % 256 = 0 ∧ 256 ≤ size ∧ size ≤ 0x80000 ∧ base + size ≤ 0xC0000 ∧ T.inProgram base size = false
    (∀ ar : BitVec 4, s.canQueue t (.ccfg ar) k →
      let a := (s.aR t ar).toNat
      let b := s.sramBytes t a 64
      s.sramOk t a 64 64 false → (∀ y ∈ s.xfers, y.t ≠ t.val) → (T.compRecord b).isSome = true → Completes (.ccfg t ar k) s (fun u =>
        (u.tile t).comp = {
          mode := leAt b 0 1, fmt := leAt b 1 1, m := leAt b 2 1, nc := leAt b 3 1, thresh := leAt b 4 1, lenEn := decide (leAt b 5 1 = 1),
          scaleAddr := leAt b 8 4, lenAddr := leAt b 12 4, outMax := leAt b 16 4 } ∧ (u.tile t).taps = T.taps ∧ (u.tile t).egress = T.egress ∧ kept u)) ∧
    (∀ (e : BitVec 3) (ar : BitVec 4), s.canQueue t (.tap e ar) k →
      let a := (s.aR t ar).toNat
      let b := s.sramBytes t a 32
      s.sramOk t a 32 32 false → leAt b 0 2 < 4096 → leAt b 2 1 < 16 → leAt b 3 1 = 0 → leAt b 4 4 ≤ leAt b 8 4 → 1 ≤ leAt b 16 4 →
      leAt b 16 4 ≤ leAt b 12 4 → leAt b 12 4 ≤ 65536 → ring (leAt b 20 4) (leAt b 24 4) → leAt b 28 4 = 0 → (T.tap e.toNat).state ≠ .attached →
      Completes (.tap t e ar k) s (fun u =>
        (u.tile t).tap e.toNat = {
          state := .armed, stream := BitVec.ofNat 12 (leAt b 0 2), token := BitVec.ofNat 4 (leAt b 2 1), first := BitVec.ofNat 32 (leAt b 4 4),
          last := BitVec.ofNat 32 (leAt b 8 4), period := leAt b 12 4, take := leAt b 16 4, ringBase := leAt b 20 4, ringSize := leAt b 24 4 } ∧
        (∀ n, n ≠ e.toNat → (u.tile t).tap n = T.tap n) ∧ (u.tile t).egress = T.egress ∧ (u.tile t).comp = T.comp ∧ kept u)) ∧
    (∀ e : BitVec 3, s.canQueue t (.tapx e) k → Completes (.tapx t e k) s (fun u =>
      (u.tile t).tap e.toNat = { T.tap e.toNat with state := .idle } ∧ (∀ n, n ≠ e.toNat → (u.tile t).tap n = T.tap n) ∧
      (u.tile t).egress = T.egress ∧ (u.tile t).comp = T.comp ∧ kept u)) ∧
    (∀ c : CountArgs, s.canQueue t (.strel c) k →
      let n := if c.immf then c.imm.toNat else (s.sR t c.n).toNat % 2 ^ 32
      (T.tap c.e.toNat).state ≠ .aborted → n ≤ (T.tap c.e.toNat).fill → Completes (.strel t c k) s (fun u =>
        (u.tile t).tap c.e.toNat = { T.tap c.e.toNat with fill := (T.tap c.e.toNat).fill - n } ∧
        (∀ n, n ≠ c.e.toNat → (u.tile t).tap n = T.tap n) ∧ (u.tile t).egress = T.egress ∧ kept u)) ∧
    (∀ (e : BitVec 3) (ar : BitVec 4), s.canQueue t (.egress e ar) k →
      let a := (s.aR t ar).toNat
      let b := s.sramBytes t a 32
      s.sramOk t a 32 32 false → leAt b 0 2 < 4096 → leAt b 2 1 < 16 → leAt b 3 1 ≤ 2 → leAt b 4 4 ≤ leAt b 8 4 → leAt b 12 4 = 0 →
      ring (leAt b 16 4) (leAt b 20 4) → leAt b 24 8 = 0 → (T.eg e.toNat).state ≠ .attached → T.comp.egressOk (leAt b 3 1) = true →
      Completes (.egress t e ar k) s (fun u =>
        (u.tile t).eg e.toNat = {
          state := .armed, stream := BitVec.ofNat 12 (leAt b 0 2), token := BitVec.ofNat 4 (leAt b 2 1), red := leAt b 3 1, first := leAt b 4 4,
          last := leAt b 8 4, ringBase := leAt b 16 4, ringSize := leAt b 20 4, next := leAt b 4 4, comp := T.comp } ∧
        (∀ n, n ≠ e.toNat → (u.tile t).eg n = T.eg n) ∧ (u.tile t).taps = T.taps ∧ (u.tile t).comp = T.comp ∧ kept u)) ∧
    (∀ c : CountArgs,
      let n := if c.immf then c.imm.toNat else (s.sR t c.n).toNat % 2 ^ 32
      let e := T.eg c.e.toNat
      0 < n → (e.state = .armed ∨ e.state = .attached ∨ e.state = .done) → e.next + n ≤ e.last + 1 →
      (s.canQueue t (.econtrib c) k → e.fill + n ≤ e.ringSize / 256 → Completes (.econtrib t c k) s (fun u =>
        (u.tile t).eg c.e.toNat = { e with
          next := e.next + n, runs := e.runs ++ [{ first := e.next, count := n, skip := false }], fill := e.fill + n
          count := satAdd e.count n } ∧
        (∀ n, n ≠ c.e.toNat → (u.tile t).eg n = T.eg n) ∧ (u.tile t).taps = T.taps ∧ kept u)) ∧
      (s.canQueue t (.eskip c) k → Completes (.eskip t c k) s (fun u =>
        (u.tile t).eg c.e.toNat = { e with
          next := e.next + n, runs := e.runs ++ [{ first := e.next, count := n, skip := true }], count := satAdd e.count n } ∧
        (∀ n, n ≠ c.e.toNat → (u.tile t).eg n = T.eg n) ∧ (u.tile t).taps = T.taps ∧ kept u)))

/-- 05 R154-R156, R161, 06 R185, R186, R192, R194, 18 R558: a queued instruction begins once its token condition holds and completes with its flags
and its done token; a word that is no instruction halts its tile; ECC and parity errors poison what they hit. Where it fixes what the spec leaves open it follows logs 2, 33, 35. -/
def Obligations.QueuesFinishAndFaultsPoison : Prop :=
  ∀ (s : State) (t : Tile),
    let T := s.tile t
    (∀ (q : Queue) (e : QEntry), T.run = .running → (T.queue q).find? (fun z => !z.begun) = some e → q ≠ .mq → e.tok.we = true → e.waitV = none →
      T.sBad e.tok.ws.toNat = false → T.abortedToken e.tok.wt = none →
      let v : W16 := (T.sGet e.tok.ws.toNat).setWidth 16
      ¬ tokenMet (T.tokGet e.tok.wt.toNat) v →
      exec (.queueBegin t q) s = .next (s.updT t (fun y => y.mapQueue q e.id (fun z => { z with waitV := some v })))) ∧
    (∀ (mask : BitVec 4) (e : QEntry), T.run = .running → T.tq.find? (fun z => !z.begun) = some e → e.op = .tzero mask →
      (e.tok.we = true → T.sBad e.tok.ws.toNat = false ∧ T.abortedToken e.tok.wt = none ∧ e.waitV = none ∧
        tokenMet (T.tokGet e.tok.wt.toNat) ((T.sGet e.tok.ws.toNat).setWidth 16)) →
      Completes (.queueBegin t .tq) s (fun u =>
        (∀ b m n, b < 4 → m < 32 → n < 32 → (u.tile t).accGet b m n = if mask.getLsbD b then {} else T.accGet b m n) ∧
        (∀ z ∈ (u.tile t).tq, z.id = e.id → z.begun = true) ∧ (u.tile t).tq.length = T.tq.length ∧ s.registersSame u t ∧ s.memSame u)) ∧
    (∀ (q : Queue) (n : Nat) (e : QEntry), ((T.queue q).filter (fun z => z.begun))[n]? = some e → e.xfer = none →
      Completes (.instructionComplete t q n) s (fun u =>
        (u.tile t).queue q = (T.queue q).filter (fun z => z.id != e.id) ∧ (u.tile t).fstat = T.fstat ||| e.flags ∧
        (∀ j, (u.tile t).tokGet j = T.tokGet j + (if e.tok.de = true ∧ j = e.tok.dt.toNat then 1 else 0)) ∧
        s.registersSame u t ∧ (u.tile t).acc = T.acc ∧ s.memSame u)) ∧
    (∀ word : W64, T.run = .running → T.hold = none → (T.progCount ≤ T.index ∨ legalWord word = false) →
      Completes (.illegalInstruction t word) s (fun u =>
        (u.tile t).run = .halted ∧ s.memSame u ∧ ∀ r o, s.findRun T.op = some r → s.findOp T.op = some o → r.records < r.excMax →
          Output.hostWrite (.vf (Fin.ofNat 12 o.part)) (r.excAddr + 32 * r.records) (excRecord t 1 0 T.index 0 0 s.tick) ∈ u.out)) ∧
    (∀ w : Fin 98304, (s.rg (tileRegion t)).state = .ready →
      exec (.eccScrub t w .none) s = .next s ∧
      Completes (.eccScrub t w .single) s (fun u => (u.rg (tileRegion t)).flt.sramCe = (s.rg (tileRegion t)).flt.sramCe + 1 ∧
        s.memSame u ∧ u.tiles = s.tiles) ∧
      Completes (.eccScrub t w .double) s (fun u => u.gst t (8 * w.val / 256) = .poisoned ∧
        (u.rg (tileRegion t)).flt.sramUe = satInc (s.rg (tileRegion t)).flt.sramUe ∧ u.sram = s.sram ∧ u.slices = s.slices ∧ u.tiles = s.tiles)) ∧
    ((s.rg (tileRegion t)).state = .ready →
      let counted := fun u : State => (u.rg (tileRegion t)).flt.tileLogic = satInc (s.rg (tileRegion t)).flt.tileLogic ∧ s.memSame u ∧ s.otherTiles u t
      (∀ n, Completes (.tileParityError t (.scalar n)) s (fun u => u.tile t = { T with sPoison := T.sPoison ||| (1 : W32) <<< n.toNat } ∧ counted u)) ∧
      (∀ n, Completes (.tileParityError t (.address n)) s (fun u => u.tile t = { T with aPoison := T.aPoison ||| (1 : BitVec 16) <<< n.toNat } ∧ counted u)) ∧
      (∀ n, Completes (.tileParityError t (.vector n)) s (fun u => (u.tile t).vBad n.toNat = BitVec.allOnes 64 ∧
        (∀ r, r ≠ n.toNat → (u.tile t).vBad r = T.vBad r) ∧ (u.tile t).v = T.v ∧ counted u)) ∧
      (∀ n, Completes (.tileParityError t (.predicate n)) s (fun u => u.tile t = { T with pPoison := T.pPoison ||| (1 : BitVec 8) <<< n.toNat } ∧ counted u)) ∧
      (∀ n, Completes (.tileParityError t (.bank n)) s (fun u => u.tile t = { T with accPoison := T.accPoison ||| (1 : BitVec 4) <<< n.toNat } ∧ counted u)) ∧
      (T.run = .running → Completes (.tileParityError t .scoreboard) s (fun u => (u.tile t).run = .halted ∧ s.memSame u)))

/-- 05 R175-R181, 09 R299-R302, 11 R366-R370: OPEN and GRAD_OPEN attach the ARMED entries of their stream, a granule goes into the ring of the
entry that takes it or holds the stream while that ring is full, an end marker makes attached entries DONE or ABORTED, a tile's router
puts out a contributed granule or passes a skipped index. Where it fixes what the spec leaves open it follows logs 25, 37. -/
def Obligations.StreamsReachTheirTiles : Prop :=
  ∀ (s : State) (t : Tile) (i : Nat) (x : Inst), s.findInst i = some x → x.has t = true →
    let T := s.tile t
    (x.gradient = false → x.progOf t = 0 → x.reached t 1 = true →
      Completes (.streamOpenArrive t i) s (fun u => (∃ y, u.findInst i = some y ∧ y.progOf t = 1) ∧ s.registersSame u t ∧ s.memSame u ∧
        (u.tile t).taps = T.taps.map (fun p => if p.2.state = .armed ∧ p.2.stream.toNat = x.stream then
          (p.1, { p.2 with state := .attached, gen := x.gen, slot := x.slot, seen := true, inst := i }) else p))) ∧
    (∀ (g : Nat) (k : Nat) (e : Tap) (p : Piece), x.gradient = false → x.progOf t = g + 1 → g < x.granules → x.reached t (g + 2) = true → x.sent ≠ g →
      tfind x.units g = some p → x.bad = [] → x.gap = [] → T.taps = [(k, e)] → e.takes i g = true → p.data.length = 256 → e.ringBase % 256 = 0 →
      let a := e.ringBase + e.tail * 256 % e.ringSize
      (a % 256 = 0 → e.fill < e.ringSize / 256 → Completes (.streamGranuleArrive t i .clean) s (fun u =>
        u.sramBytes t a 256 = p.data ∧ u.gst t (a / 256) = p.st ∧
        (u.tile t).taps = [(k, { e with tail := e.tail + 1, fill := e.fill + 1, count := satInc e.count })] ∧
        (∀ j, (u.tile t).tokGet j = T.tokGet j + (if j = e.token.toNat then 1 else 0)) ∧
        (∃ y, u.findInst i = some y ∧ y.progOf t = g + 2) ∧ s.registersSame u t ∧ u.slices = s.slices ∧ u.flash = s.flash)) ∧
      (e.ringSize / 256 ≤ e.fill → exec (.streamGranuleArrive t i .clean) s = .next (s.updT t (fun z => z.count 6 1)))) ∧
    (x.gradient = false → x.drainedAt t = true → x.endReached t = true → ∀ st d, x.ended = some (st, d) → T.entries = [] →
      let ends := fun (u : State) (goal : EntryState) =>
        (u.tile t).taps = T.taps.map (fun p => if p.2.state = .attached ∧ p.2.inst = i then (p.1, { p.2 with state := goal, status := st }) else p) ∧
        s.registersSame u t ∧ (u.tile t).acc = T.acc ∧ (u.tile t).tok = T.tok ∧ (u.tile t).egress = T.egress ∧ s.memSame u
      (st = 0 → Completes (.streamCloseArrive t i) s (fun u => ends u .done)) ∧
      (st ≠ 0 → Completes (.streamAbortArrive t i) s (fun u => ends u .aborted))) ∧
    (x.gradient = true → x.progOf t = 0 → x.reached t 1 = true →
      (∀ p ∈ T.egress, p.2.state = .armed → p.2.stream.toNat = x.stream → p.2.red = x.seg.red) → Completes (.gradOpenArrive t i) s (fun u =>
        (u.tile t).egress = T.egress.map (fun p => if p.2.state = .armed ∧ p.2.stream.toNat = x.stream then
          (p.1, { p.2 with state := .attached, inst := i }) else p) ∧
        (∃ y, u.findInst i = some y ∧ y.progOf t = 1) ∧ s.registersSame u t ∧ s.memSame u)) ∧
    (∀ (g k : Nat) (e : Egress) (r : EgRun), x.gradient = true → x.progOf t = g + 1 → g < x.granules → x.failed = none → tileX t < x.ec → tileX t ≤ x.x0 →
      T.egress = [(k, e)] → T.gone = [] → e.state = .attached → e.inst = i → e.first ≤ g → g ≤ e.last → g < e.next → e.runOf g = some r →
      Completes (.gradientGranuleArrive t i .clean) s (fun u =>
        (∃ y, u.findInst i = some y ∧ y.progOf t = g + 2 ∧
          y.outOf t g = some (if r.skip then none else some (compressed e.comp (s.sramPiece t (e.slotAddr 0) 256)))) ∧
        (∀ j, (u.tile t).tokGet j = T.tokGet j + (if r.skip = false ∧ j = e.token.toNat then 1 else 0)) ∧
        (g = e.last → ((u.tile t).eg k).state = .done) ∧ s.registersSame u t ∧ s.memSame u))

/-- 09 R280, R282, R293, R297, R298, R307, 05 R163, R172, 06 R213, R214: a WRITE and a WRITE_CAST store at their members and are answered OK, one that meets a
program bank or runs out of SRAM is answered with its STATUS and stores nothing, a READ takes the bytes, WRITE_ACK and READ_DATA let the
transfer end, a failing STATUS, a drop notice and a timeout halt the tile. Where it fixes what the spec leaves open it follows logs 2, 37. -/
def Obligations.FabricPacketsReadAndWrite : Prop :=
  ∀ (s : State) (i : Nat) (p : Pkt), s.findPkt i = some p →
    let here := fun (u : Nat) => s.keyBlock p.part (tileRegion p.t) (tileRegion u) = none
    let n := p.piece.data.length
    let answered := fun (v : State) (st : Nat) => ∃ q, v.findPkt i = some q ∧ q.answered = true ∧ q.status = st
    (∀ u a, p.kind = 1 → p.answered = false → p.lost = false → p.places = [.sram u a] → here u →
      (a + n ≤ 0xC0000 → (s.tile u).inProgram a n = false → n < 256 → Completes (.write i .clean) s (fun v =>
        s.storedTo v u a p.piece.data (p.piece.st == .poisoned) ∧ answered v 0 ∧ v.tiles = s.tiles)) ∧
      (a + n ≤ 0xC0000 → (s.tile u).inProgram a n = true → Completes (.write i .clean) s (fun v => s.memSame v ∧ answered v 1)) ∧
      (0xC0000 < a + n → Completes (.write i .clean) s (fun v => s.memSame v ∧ answered v 2))) ∧
    (∀ u w a, p.kind = 3 → p.answered = false → p.lost = false → p.places = [.sram u a, .sram w a] → u ≠ w → here u → here w → a + n ≤ 0xC0000 →
      (s.tile u).inProgram a n = false → (s.tile w).inProgram a n = false → Completes (.writeCast i .clean) s (fun v =>
        v.sramBytes u a n = p.piece.data ∧ v.sramBytes w a n = p.piece.data ∧ v.slices = s.slices ∧ v.flash = s.flash ∧ answered v 0 ∧ v.tiles = s.tiles)) ∧
    (∀ u a, p.kind = 2 → p.answered = false → p.lost = false → p.waiting = false → p.places = [.sram u a] → here u → a + p.len ≤ 0xC0000 →
      Completes (.read i .clean .none) s (fun v => s.memSame v ∧ v.tiles = s.tiles ∧ ∃ q, v.findPkt i = some q ∧ q.answered = true ∧ q.status = 0 ∧
        q.piece = s.sramPiece u a p.len)) ∧
    (p.kind ≠ 2 → p.answered = true → p.status = 0 → (∀ y ∈ s.xfers, y.t ≠ p.t) →
      exec (.writeAck i) s = .next { s with pkts := s.pkts.filter (fun q => q.id != i) }) ∧
    (∀ x, s.xfers = [x] → s.pkts = [p] → p.xfer = x.id → p.t = x.t → p.kind = 2 → p.answered = true → p.lost = false → p.status = 0 → p.off = 0 → n = 64 →
      x.finished = false → x.comp = none → x.fill = none → x.overs = none → x.gather = [] → x.issued = 1 → x.cuts = [{ off := 0, src := 0, dst := 0, len := 64 }] →
      ∀ a, x.dsts = [.sram x.t a] → a % 64 = 0 → Completes (.readData i .clean) s (fun v =>
        s.storedTo v x.t a p.piece.data (p.piece.st == .poisoned) ∧ v.pkts = [] ∧ v.xfers = [{ x with finished := true }] ∧ v.tiles = s.tiles)) ∧
    (∀ x, s.findXfer p.xfer = some x → (s.tile x.t).run = .running →
      (p.lost = true → p.keyDropped = true → Completes (.dropNotice (.pkt i)) s (fun v => (v.tile x.t).run = .halted)) ∧
      (p.waiting = false → Completes (.fabricTimeout (.pkt i)) s (fun v => (v.tile x.t).run = .halted ∧
        (v.rg (tileRegion p.t)).fab.timeouts = satInc (s.rg (tileRegion p.t)).fab.timeouts)) ∧
      (p.kind ≠ 2 → p.answered = true → p.status = 1 → Completes (.writeAck i) s (fun v => (v.tile x.t).run = .halted)))

/-- 09 R289, R290, 10 R325-R327, R334-R336, 12 R400: SCH writes new routes; a chunk that passes through waits for its reader; a chunk past
its deadline is stalled with its tier's cause; a stalled stream ends with that cause; a request without reply, or after BUSY, is sent again
under a new REQ_ID. Where it fixes what the spec leaves open it follows logs 2, 27, 39, 40. -/
def Obligations.RoutesAndChunkFetchesProceed : Prop :=
  ∀ (s : State),
    (∀ c l, s.routeWork = c :: l → (s.core .sch).state = .running → Completes .routesChanged s (fun u =>
      u.routeSet = some ((List.range 144).filter (fun r => decide ((s.rg r).state = .ready))) ∧ u.routeWork = l ∧
      (∀ r, r < 144 → (u.rg r).fab.routeGen = (s.rg r).fab.routeGen + 1) ∧ s.memSame u ∧ u.tiles = s.tiles)) ∧
    (∀ (k : ChunkKey) (f : Fetch), s.fetches.find? (fun g => decide (g.key = k)) = some f →
      (∀ (o : MemObj) (opened : Option (List Byte)) (b : List Byte) (j : Nat), s.srcObj k.src = some o → f.tier = 2 → f.keep = none →
        f.waiters = [.pkt j] → s.bru.flashUp ≠ 0 → (∀ n g, (s.grp n g).run = none ∧ (s.grp n g).formOp = none) →
        let ix := s.t2Index o k.page k.chunk
        s.frameCheck f.n k (s.flash.readN (o.block * 65536 + ix.1) ix.2) ix.2 opened = .plain b → Completes (.t2ChunkReadDone k opened) s (fun u =>
          { key := k, data := b, waiters := [.pkt j] } ∈ u.passed ∧ (∀ g ∈ u.fetches, g.key ≠ k) ∧ (∀ q ∈ u.pkts, q.id = j → q.waiting = false) ∧
          u.flash = s.flash)) ∧
      (f.cause = 0 → Completes (.chunkLate k) s (fun u =>
        (∃ g ∈ u.fetches, g.key = k ∧ g.cause = if f.tier = 2 then 1 else 2) ∧ u.pkts = s.pkts ∧ u.insts = s.insts ∧ s.memSame u)) ∧
      (∀ (o : MemObj) (p : Nat), s.srcObj k.src = some o → f.tier = 3 → f.relay = false → s.windowOpen k.src = true → s.wportFor f.n = some p →
        s.reqOut p < s.proto.reqMax.toNat →
        let again := fun u : State => (∃ g ∈ u.fetches, g.key = k ∧ g.sent = true ∧ g.port = some p ∧ g.reqId = s.nextReq ∧ g.busy = false) ∧
          u.nextReq = s.nextReq + 1 ∧ s.memSame u
        (f.sent = true → f.busy = false → f.port = some p → Completes (.chunkReplyTimeout k) s again) ∧
        (f.busy = true → Completes (.chunkBusyRetry k) s again))) ∧
    (∀ (n : Fin 12) (i c : Nat) (x : Inst), (s.pt n).mem.stalled.find? (fun e => e.1 == .inst i) = some (.inst i, c) → (s.pt n).mem.timeoutMs ≠ 0 →
      s.findInst i = some x → x.failed = none → x.ended = none → (∀ n g, (s.grp n g).run = none ∧ (s.grp n g).formOp = none) →
      Completes (.stallTimeout n (.inst i)) s (fun u =>
        (∃ y, u.findInst i = some y ∧ y.failed = some (4, BitVec.ofNat 32 c)) ∧
        tget 0 (u.pt n).mem.timeouts c = satInc (tget 0 (s.pt n).mem.timeouts c) ∧ s.memSame u ∧ u.tiles = s.tiles))

/-- 03 R92-R95, R100, R101, T3.29: a live VF's writes of SQ_EN, CQ_EN, SQ_TAIL, CQ_HEAD and CANCEL. A ring that cannot be enabled enters ERROR with
its cause, a doorbell value that is not accepted is only counted; a set that is not live takes nothing. Where it fixes what the spec leaves open it follows logs 13, 15. -/
def Obligations.RingRegistersActAsWritten : Prop :=
  ∀ (s : State) (n : Fin 12) (k : Fin 64),
    let p := s.pt n
    let r := p.ring k
    let ringIs := fun (f : Ring → Ring) => s.updP n (fun q => q.updRing k f)
    (s.vfLive n = false → ∀ v, exec (.sqEnable n k) s = .next s ∧ exec (.sqDisable n k) s = .next s ∧ exec (.cqEnable n k) s = .next s ∧
      exec (.cqDisable n k) s = .next s ∧ exec (.doorbellSqTail n k v) s = .next s ∧ exec (.doorbellCqHead n k v) s = .next s ∧
      exec (.ringCancel n k) s = .next s) ∧
    (s.vfLive n = true →
      (r.cqEn = false → 4 ≤ r.cqLog2.toNat → r.cqLog2.toNat ≤ 16 → exec (.cqEnable n k) s = .next (ringIs (fun _ => { r with
        cqEn := true, cqTail := 0, cqHead := 0, cqPhase := true, cqUsed := 0, cqReserved := 0 }))) ∧
      ((∀ e ∈ p.rings, e.2.sqState ≠ .disabled → e.2.cqIndex.toNat ≠ k.val) → exec (.cqDisable n k) s = .next (ringIs (fun x => { x with cqEn := false }))) ∧
      ((∃ e ∈ p.rings, e.2.sqState ≠ .disabled ∧ e.2.cqIndex.toNat = k.val) → exec (.cqDisable n k) s = .next s) ∧
      (r.sqState = .disabled → 4 ≤ r.sqLog2.toNat → r.sqLog2.toNat ≤ 12 → (p.ring r.cqIndex.toNat).cqEn = true →
        exec (.sqEnable n k) s = .next (ringIs (fun x => { x with sqHead := 0, sqTail := 0, sqState := .enabled, errCause := 0 }))) ∧
      (r.sqState = .disabled → (r.sqLog2.toNat < 4 ∨ 12 < r.sqLog2.toNat) → Completes (.sqEnable n k) s (fun u =>
        (u.pt n).ring k = { r with sqState := .error, errCause := 2 } ∧ s.eventAt u (.vf n) 0x0001 5 k (k.val + 2 * 256))) ∧
      (r.sqState = .disabled → 4 ≤ r.sqLog2.toNat → r.sqLog2.toNat ≤ 12 → (p.ring r.cqIndex.toNat).cqEn = false → Completes (.sqEnable n k) s (fun u =>
        (u.pt n).ring k = { r with sqState := .error, errCause := 3 } ∧ s.eventAt u (.vf n) 0x0001 5 k (k.val + 3 * 256))) ∧
      (r.sqState = .enabled ∨ r.sqState = .error → Completes (.sqDisable n k) s (fun u =>
        (u.pt n).ring k = { r with
          sqState := if ∃ o ∈ s.ops, o.part = n.val ∧ o.ring = k.val then .draining else .disabled
          errCause := if ∃ o ∈ s.ops, o.part = n.val ∧ o.ring = k.val then r.errCause else 0 } ∧
        ∀ o ∈ s.ops, o.part = n.val → o.ring = k.val → o.st = .admitted → ∃ e ∈ u.ops, e.id = o.id ∧ e.st = .ended ∧ e.status = 11 ∧ e.detail = 1)) ∧
      (∀ v : W16, r.sqState = .enabled → p.state ≠ .resetting → v.toNat < 2 ^ r.sqLog2.toNat →
        Completes (.doorbellSqTail n k v) s (fun u => (u.pt n).ring k = { r with sqTail := v } ∧ (∀ j, j ≠ k.val → (u.pt n).ring j = p.ring j) ∧
          (u.pt n).doorbellDrop = p.doorbellDrop ∧ u.ops = s.ops)) ∧
      (∀ v : W16, (r.sqState ≠ .enabled ∨ (v ≠ r.sqTail ∧ 2 ^ r.sqLog2.toNat ≤ v.toNat)) → Completes (.doorbellSqTail n k v) s (fun u =>
        (u.pt n).rings = p.rings ∧ (u.pt n).doorbellDrop = p.doorbellDrop + 1 ∧ u.ops = s.ops ∧
        s.eventAt u (.vf n) 0x0002 5 k (k.val + 2 ^ 16 * v.toNat))) ∧
      (∀ v : W16, r.cqEn = true → v.toNat < 2 ^ r.cqLog2.toNat → r.cqHead.toNat < 2 ^ r.cqLog2.toNat →
        let d := (v.toNat + 2 ^ r.cqLog2.toNat - r.cqHead.toNat) % 2 ^ r.cqLog2.toNat
        (d ≤ r.cqUsed → exec (.doorbellCqHead n k v) s = .next (ringIs (fun x => { x with cqHead := v, cqUsed := r.cqUsed - d }))) ∧
        (r.cqUsed < d → Completes (.doorbellCqHead n k v) s (fun u => (u.pt n).rings = p.rings ∧ (u.pt n).doorbellDrop = p.doorbellDrop + 1))) ∧
      Completes (.ringCancel n k) s (fun u =>
        (∀ o ∈ s.ops, o.part = n.val → o.ring = k.val → o.st = .admitted → ∃ e ∈ u.ops, e.id = o.id ∧ e.st = .ended ∧ e.status = 11 ∧ e.detail = 0) ∧
        (∀ o ∈ s.ops, (∀ e ∈ s.ops, e.part = n.val → e.ring = k.val → e.st = .admitted → e.id ≠ o.id) → o ∈ u.ops) ∧ u.part = s.part))

/-- 03 R96, R99, R101, R105-R114, T3.6-T3.10: a descriptor that passes its checks is admitted, one with an opcode not listed ends BAD_DESCRIPTOR, a
fetch that fails puts its ring in ERROR; an admitted descriptor starts; an ended one gives its signal and its record. 03 R99, R106, R109, T3.9: NOP, FENCE, SYNC_SIGNAL and SYNC_WAIT end OK once their condition holds; SYNC_SIGNAL adds or sets its object; a
SYNC_WAIT whose timeout passes ends CANCELLED with DETAIL 2. Where it fixes what the spec leaves open it follows logs 2, 9, 11, 16. -/
def Obligations.DescriptorsRunAndOrderingOperationsEnd : Prop :=
  (
  ∀ (s : State),
    (∀ (n : Fin 12) (k : Fin 64) (desc : BitVec 512), s.nextAdmission = some (n.val, k.val) → (∀ e ∈ s.ops, e.id ≠ s.nextOp) →
      let r := (s.pt n).ring k
      let o : Op := {
        id := s.nextOp, part := n, ring := k, slot := r.sqHead.toNat, desc := desc, ext := [], cq := r.cqIndex.toNat, st := .admitted, status := 0,
        detail := 0, doneTick := 0, ended := 0, noSignal := false, timely := false }
      (desc.toNat / 2 ^ 11 % 2 = 0 → s.admissionCheck o none = none → Completes (.descriptorFetch n k (.got desc none)) s (fun u =>
        u.ops = s.ops ++ [o] ∧ u.nextOp = s.nextOp + 1 ∧ (u.pt n).admitted = (s.pt n).admitted + 1 ∧
        ((u.pt n).ring k).sqHead = (if r.sqHead.toNat + 1 = 2 ^ r.sqLog2.toNat then 0 else r.sqHead + 1) ∧
        ((u.pt n).ring r.cqIndex.toNat).cqReserved = ((s.pt n).ring r.cqIndex.toNat).cqReserved + 1 ∧ u.out = s.out)) ∧
      (desc.toNat % 256 ∉ opcodes → Completes (.descriptorFetch n k (.got desc none)) s (fun u =>
        ∃ e ∈ u.ops, e.id = s.nextOp ∧ e.st = .ended ∧ e.status = 8 ∧ e.detail = 1 ∧ e.noSignal = true)) ∧
      Completes (.descriptorFetch n k .fault) s (fun u => (u.pt n).ring k = { r with sqState := .error, errCause := 1 } ∧
        u.ops = s.ops ∧ s.eventAt u (.vf n) 0x0001 5 k (k.val + 256))) ∧
    (∀ (i : Nat) (o : Op), s.findOp i = some o →
      (o.st = .admitted → (s.pt o.part).state = .active → (s.core .sch).state = .running → o.notBefore = 0 →
        (o.waitEn = true → tokenMet ((s.syncGet ((s.pt o.part).syncBase + o.waitObj)).setWidth 16) (BitVec.ofNat 16 o.waitValue)) →
        (∀ e ∈ s.ops, e.part = o.part → e.ring = o.ring → e.id < o.id → e.st ≠ .admitted ∧ (e.st = .started → e.opcode ≠ 2 ∧ e.opcode ≠ 4)) →
        exec (.descriptorStart i) s = .next (s.updOp i (fun x => { x with st := .started }))) ∧
      (o.st = .ended → s.canWrite (.vf (Fin.ofNat 12 o.part)) = true → (o.quiet = false ∨ o.status ≠ 0) → Completes (.descriptorComplete i) s (fun u =>
        let c := (s.pt o.part).ring o.cq
        let b := leBytes 16 (completionBits o c.cqPhase)
        let a := c.cqBase.toNat / 4096 * 4096 + 16 * c.cqTail.toNat
        u.out = Output.hostWrite (.vf (Fin.ofNat 12 o.part)) (a + 15) (b.drop 15) :: Output.hostWrite (.vf (Fin.ofNat 12 o.part)) a (b.take 15) :: s.out ∧
        (∀ e ∈ u.ops, e.id ≠ i) ∧ (u.pt o.part).completed = (s.pt o.part).completed + 1 ∧
        (o.signalEn = true → o.noSignal = false → (o.status = 0 ∨ o.signalAlways = true) →
          let j := (s.pt o.part).syncBase + o.signalObj
          u.syncGet j = s.syncGet j + BitVec.ofNat 64 o.incr) ∧
        ((o.signalEn = false ∨ o.noSignal = true ∨ (o.status ≠ 0 ∧ o.signalAlways = false)) → u.sync = s.sync))) ∧
      (o.st = .ended → o.quiet = true → o.status = 0 → Completes (.descriptorComplete i) s (fun u => u.out = s.out ∧ ∀ e ∈ u.ops, e.id ≠ i)))
  ) ∧
  (
  ∀ (s : State) (i : Nat) (o : Op), s.findOp i = some o → o.st = .started →
    let fin := fun (u : State) (st d : Nat) => ∃ e ∈ u.ops, e.id = i ∧ e.st = .ended ∧ e.status = BitVec.ofNat 8 st ∧ e.detail = BitVec.ofNat 32 d ∧
      e.doneTick = s.tick
    let obj := (s.pt o.part).syncBase + o.le 16 2 % 2 ^ 15
    let value := BitVec.ofNat 64 (o.le 24 8)
    (o.opcode = 1 → Completes (.nop i) s (fun u => fin u 0 0 ∧ u.sync = s.sync)) ∧
    (o.opcode = 2 → o.byte 16 = 0 → (∀ e ∈ s.ops, e.part = o.part → e.ring = o.ring → o.id ≤ e.id) → Completes (.fence i) s (fun u => fin u 0 0 ∧ u.sync = s.sync)) ∧
    (o.opcode = 2 → o.byte 16 = 1 → (∀ e ∈ s.ops, e.part = o.part → o.id ≤ e.id) → Completes (.fencePartition i) s (fun u => fin u 0 0 ∧ u.sync = s.sync)) ∧
    (o.opcode = 2 → (∃ e ∈ s.ops, e.part = o.part ∧ e.ring = o.ring ∧ e.id < o.id) → exec (.fence i) s = .next s ∧ exec (.fencePartition i) s = .next s) ∧
    (o.opcode = 3 → o.byte 18 = 0 → Completes (.syncSignal i) s (fun u => fin u 0 0 ∧ u.syncGet obj = s.syncGet obj + value ∧
      ∀ j, j ≠ obj → u.syncGet j = s.syncGet j)) ∧
    (o.opcode = 3 → o.byte 18 = 1 → Completes (.syncSignalSet i) s (fun u => fin u 0 0 ∧ u.syncGet obj = value ∧
      ∀ j, j ≠ obj → u.syncGet j = s.syncGet j)) ∧
    (o.opcode = 4 → compares (o.byte 18) (s.syncGet obj) value → Completes (.syncWait i) s (fun u => fin u 0 0 ∧ u.sync = s.sync)) ∧
    (o.opcode = 4 → ¬ compares (o.byte 18) (s.syncGet obj) value → exec (.syncWait i) s = .next s ∧
      (o.le 20 4 ≠ 0 → Completes (.syncWaitTimeout i) s (fun u => fin u 11 2 ∧ u.sync = s.sync)))
  )

/-- 02 R68, R69, 03 R88, R89, R116-R121, T3.14, T3.22-T3.25: event rings and status pages are enabled, consumed and refreshed; Bus Master Enable, links
and resets of functions. Where it fixes what the spec leaves open it follows logs 2, 9, 15, 17. -/
def Obligations.FunctionsAndLinksFollowTheirCommands : Prop :=
  ∀ (s : State),
    (∀ (ep : Ep), (match ep with | .pf _ => True | .vf n => s.vfLive n = true) →
      let q := (s.endpoint ep).evq
      let p := (s.endpoint ep).status
      (q.en = false → 4 ≤ q.log2.toNat → q.log2.toNat ≤ 12 → exec (.evqEnable ep) s = .next (s.updEp ep (fun x => { x with evq := { q with
        en := true, tail := 0, head := 0, phase := true, seq := 0, used := 0, losing := false } }))) ∧
      (∀ v : W16, v.toNat < 2 ^ q.log2.toNat → (v.toNat + 2 ^ q.log2.toNat - q.head.toNat) % 2 ^ q.log2.toNat ≤ q.used →
        exec (.evqHeadWrite ep v) s = .next (s.updEp ep (fun x => { x with evq := { q with
          head := v, used := q.used - (v.toNat + 2 ^ q.log2.toNat - q.head.toNat) % 2 ^ q.log2.toNat } }))) ∧
      (∀ v : W16, 2 ^ q.log2.toNat ≤ v.toNat → Completes (.evqHeadWrite ep v) s (fun u => u.endpoint ep = s.endpoint ep)) ∧
      (p.en = false → exec (.statusEnable ep) s = .next (s.updEp ep (fun x => { x with status := { p with en := true, heartbeat := 0 } }))) ∧
      (p.en = true → s.canWrite ep = true → (match ep with | .pf _ => True | .vf n => (s.pt n).state ≠ .free) → Completes (.statusPageRefresh ep) s (fun u =>
        (u.endpoint ep).status = { p with seq := p.seq + 2, heartbeat := p.heartbeat + 1 } ∧
        ∃ body, body.length = 4088 ∧ body.take 8 = leBytes 8 p.heartbeat.toNat ∧ (body.drop 8).take 8 = leBytes 8 s.cad.count.toNat ∧
          (body.drop 16).take 8 = leBytes 8 s.genState ∧
          u.out = Output.hostWrite ep (4096 * p.base.toNat) (leBytes 8 (p.seq + 2).toNat) :: Output.hostWrite ep (4096 * p.base.toNat + 8) body ::
            Output.hostWrite ep (4096 * p.base.toNat) (leBytes 8 (p.seq + 1).toNat) :: s.out))) ∧
    (∀ k : Fin 4,
      let l := s.lk k
      exec (.busMasterEnableClear (.pf k)) s = .next (s.updL k (fun x => { x with bme := false })) ∧
      (l.ep.held = [] → Completes (.busMasterEnableSet (.pf k)) s (fun u => (u.lk k).bme = true ∧ (u.lk k).vfBme = l.vfBme ∧ u.out = s.out)) ∧
      (∀ (sp : BitVec 3) (w : BitVec 5) (fl : Bool), l.bme = false → (∀ n, n < 12 → (s.pt n).state = .free ∨ (s.pt n).hostLink ≠ k.val) →
        Completes (.hostLinkUp k sp w fl) s (fun u => u.lk k = { l with up := true, speed := sp, width := w, flit := fl } ∧ u.out = s.out)) ∧
      (Completes (.hostLinkDown k) s (fun u => (u.lk k).up = false ∧ (u.lk k).speed = 0 ∧ (u.lk k).width = 0 ∧ (u.lk k).linkResets = satInc l.linkResets ∧
        (u.lk k).bme = false ∧ ∀ n, n < 12 → (s.pt n).hostLink = k.val → (s.pt n).state = .active → (u.pt n).state = .resetting)) ∧
      Completes (.pfFlr k) s (fun u => (u.lk k).bme = false ∧ (u.lk k).ep.status.en = false ∧ (u.lk k).ep.evq.en = false ∧ (u.lk k).ep.mbx.en = false ∧
        (u.lk k).ep.held = [] ∧ ∀ n, n < 12 → (s.pt n).hostLink = k.val → (s.pt n).state = .active → (u.pt n).state = .resetting) ∧
      (∀ n : Fin 12, (s.pt n).hostLink = k.val → s.vfLive n = true → (s.pt n).state = .active → Completes (.vfFlr k n) s (fun u =>
        (u.pt n).state = .resetting ∧ (u.pt n).resetStep = 1 ∧ (u.lk k).vfBme.getLsbD n.val = false ∧
        ∀ j, j ≠ n.val → (u.pt j).state = (s.pt j).state)) ∧
      (∀ num : BitVec 4, num.toNat ≤ 12 → Completes (.vfEnableChange k false num) s (fun u => (u.lk k).vfEnable = false ∧ (u.lk k).numVfs = num ∧
        ∀ n, n < 12 → (s.pt n).hostLink = k.val → s.vfLive n = true → (s.pt n).state = .active → (u.pt n).state = .resetting)))

/-- 15 R475-R479, T15.4, T15.15: a mailbox is enabled and disabled, its doorbells are taken or counted; the engine takes the request at its head into the
queue of its block's core, refuses a malformed one and disables a mailbox it cannot read. Where it fixes what the spec leaves open it follows logs 2, 9, 10, 61. -/
def Obligations.MailboxesTakeRequests : Prop :=
  ∀ (s : State) (f : Fin 16),
    let ep := mbxEp f
    let b := (s.endpoint ep).mbx
    let boxIs := fun x : Mailbox => s.updEp ep (fun y => { y with mbx := x })
    ((match ep with | .pf _ => True | .vf n => s.vfLive n = true) →
      (b.en = false → 2 ≤ b.log2.toNat → b.log2.toNat ≤ 8 → exec (.mbxEnable f) s = .next (boxIs { b with
        en := true, reqTail := 0, reqHead := 0, rspHead := 0, rspTail := 0, phase := true, rspUsed := 0, reserved := 0 })) ∧
      exec (.mbxDisable f) s = .next (boxIs { b with en := false }) ∧
      (∀ v : W16, b.en = true → v.toNat < 2 ^ b.log2.toNat → exec (.mbxReqTail f v) s = .next (boxIs { b with reqTail := v.toNat })) ∧
      (∀ v : W16, (b.en = false ∨ 2 ^ b.log2.toNat ≤ v.toNat) → exec (.mbxReqTail f v) s = .next (boxIs { b with doorbellDrop := satInc b.doorbellDrop }) ∧
        exec (.mbxRspHead f v) s = .next (boxIs { b with doorbellDrop := satInc b.doorbellDrop })) ∧
      (∀ v : W16, b.en = true → v.toNat < 2 ^ b.log2.toNat →
        let d := (v.toNat + 2 ^ b.log2.toNat - b.rspHead) % 2 ^ b.log2.toNat
        d ≤ b.rspUsed → exec (.mbxRspHead f v) s = .next (boxIs { b with rspHead := v.toNat, rspUsed := b.rspUsed - d }))) ∧
    (s.nextMbx = some f.val →
      let head := if b.reqHead + 1 = 2 ^ b.log2.toNat then 0 else b.reqHead + 1
      Completes (.mailboxAccept f none) s (fun u => (u.endpoint ep).mbx = { b with en := false, fetchFault := satInc b.fetchFault } ∧
        u.fw.qSec = s.fw.qSec ∧ u.out = s.out) ∧
      (∀ r : List Byte, leAt r 0 2 ≠ 0x4D55 → Completes (.mailboxAccept f (some r)) s (fun u =>
        (u.endpoint ep).mbx.malformed = satInc b.malformed ∧ (u.endpoint ep).mbx.reqHead = head ∧ u.fw.qSec = s.fw.qSec ∧ u.fw.qPwr = s.fw.qPwr ∧
        u.fw.qSch = s.fw.qSch ∧ u.fw.qMmc = s.fw.qMmc)) ∧
      (∀ r : List Byte, leAt r 0 2 = 0x4D55 → leAt r 2 1 = 1 → leAt r 12 4 ≤ 4096 → reservedClean r = true →
        let id := leAt r 4 2
        let q : Queued := { mbx := f.val, msgId := BitVec.ofNat 16 id, msg := {
          sender := .mbx f, tag := BitVec.ofNat 32 (leAt r 8 4), reqHead := BitVec.ofNat 16 head, payload := (r.drop 64).take (leAt r 12 4) } }
        let taken := fun u : State => (u.endpoint ep).mbx = { b with reqHead := head, reserved := b.reserved + 1, accepted := b.accepted + 1 } ∧
          u.fw.lastMbx = f.val ∧ u.out = s.out
        (id / 256 = 0x02 → s.fw.qSec.length < 1024 → Completes (.mailboxAccept f (some r)) s (fun u => u.fw.qSec = s.fw.qSec ++ [q] ∧ taken u)) ∧
        (id / 256 = 0x10 → s.fw.qPwr.length < 1024 → Completes (.mailboxAccept f (some r)) s (fun u => u.fw.qPwr = s.fw.qPwr ++ [q] ∧ taken u)) ∧
        (id / 256 ∈ [0x0A, 0x0B, 0x0C, 0x0D, 0x11, 0x12] → s.fw.qSch.length < 1024 →
          Completes (.mailboxAccept f (some r)) s (fun u => u.fw.qSch = s.fw.qSch ++ [q] ∧ taken u)) ∧
        (id / 256 = 0x13 → s.fw.qMmc.length < 1024 → Completes (.mailboxAccept f (some r)) s (fun u => u.fw.qMmc = s.fw.qMmc ++ [q] ∧ taken u)) ∧
        (id / 256 = 0x02 → 1024 ≤ s.fw.qSec.length → Completes (.mailboxAccept f (some r)) s (fun u => u.fw.qSec = s.fw.qSec ∧ (u.endpoint ep).mbx = b))))

/-- 15 R483-R489, T15.7, T15.8: a cause puts a running core under frost hold, or makes it FAILED after three loads of each slot; its image loads, it
thaws; not thawed in time it restarts; with SEC and SCH down the MMC takes the authority. Where it fixes what the spec leaves open it follows logs 2, 5, 31, 59. -/
def Obligations.CoresRestartUnderFrostHold : Prop :=
  ∀ (s : State),
    (∀ (c : CoreId) (ms : Nat) (pc : W32),
      let x := s.core c
      let again := fun (k : Nat) (u : State) => (u.core c).state = .frost ∧ (u.core c).lastCause = BitVec.ofNat 4 k ∧ (u.core c).restarts = satInc x.restarts ∧
        (u.core c).loadSlot = x.slot ∧ s.memSame u ∧ u.tiles = s.tiles
      let dead := fun (k : Nat) (u : State) => (u.core c).state = .failed ∧ (u.core c).lastCause = BitVec.ofNat 4 k ∧ (u.core c).restarts = x.restarts
      (x.state = .running → x.loadsOf x.slot ms < 3 → Completes (.watchdogExpiry c ms pc) s (again 1) ∧ Completes (.coreException c ms pc) s (again 2) ∧
        Completes (.coreMemoryError c ms pc) s (again 3)) ∧
      (x.state = .running → 3 ≤ x.loadsOf x.slot ms → 3 ≤ x.loadsOf (!x.slot) ms → Completes (.watchdogExpiry c ms pc) s (dead 1) ∧
        Completes (.coreException c ms pc) s (dead 2) ∧ Completes (.coreMemoryError c ms pc) s (dead 3)) ∧
      (x.state = .off ∨ x.state = .failed → exec (.watchdogExpiry c ms pc) s = .next s ∧ exec (.coreException c ms pc) s = .next s ∧
        exec (.coreMemoryError c ms pc) s = .next s) ∧
      ((x.state = .frost ∨ x.state = .thawing) → x.waiting = false → x.loadsOf x.slot ms < 3 → Completes (.thawTimeout c ms) s (again 5)) ∧
      (x.state = .frost → x.waiting = false → s.mayReload c = true → Completes (.coreReloadDone c true false) s (fun u =>
        u.core c = { x with state := .thawing, slot := x.loadSlot } ∧ u.tiles = s.tiles) ∧
        Completes (.coreReloadDone c false true) s (fun u => u.core c = { x with state := .thawing, slot := !x.loadSlot } ∧ u.tiles = s.tiles) ∧
        exec (.coreReloadDone c false false) s = .next s) ∧
      (x.state = .thawing → x.commanded = none → (∀ e ∈ s.fw.rcc, e.2.waiting = false) → Completes (.coreThawed c ms) s (fun u => (u.core c).state = .running ∧ (u.core c).slot = x.slot ∧
        (u.core c).lastMs = BitVec.ofNat 16 (min 65535 (ms - x.causeMs)) ∧ s.memSame u ∧ u.tiles = s.tiles))) ∧
    (∀ ms, s.fw.sec.frost = true → s.fw.sch.frost = true → s.mgt.mmcRunning = true → s.fw.auth ≠ 2 → Completes (.mmcTakeover ms) s (fun u =>
      u.fw.auth = 2 ∧ u.fw.mmcQuiesce = true ∧ u.mgt.logSeq = s.mgt.logSeq + 1))

/-- 15 R483, R491-R495, T15.9, T15.10, T15.14, 02 R72, R73: the FW registers and messages: watchdog times, dump selection and reading, FW_PING,
FW_RESTART, FW_IMAGE_STAGE, FW_DUMP_READ, FW_DUMP_CLEAR. Where it fixes what the spec leaves open it follows logs 5, 10, 14, 31, 59. -/
def Obligations.FirmwareRegistersAndMessagesAct : Prop :=
  ∀ (s : State),
    (∀ (k : Fin 4) (v : W64), s.priv = .pf k →
      let fld := fun (old : W16) (lo : Nat) => let n := v.toNat / 2 ^ lo % 65536; if 10 ≤ n ∧ n ≤ 10000 then BitVec.ofNat 16 n else old
      exec (.wdogWrite k v) s = .next { s with fw := { s.fw with
        wdogSec := fld s.fw.wdogSec 0, wdogPwr := fld s.fw.wdogPwr 16, wdogSch := fld s.fw.wdogSch 32, wdogRcc := fld s.fw.wdogRcc 48 } }) ∧
    (∀ (k : Fin 4) (v : W64), s.priv ≠ .pf k → exec (.wdogWrite k v) s = .next s) ∧
    (∀ (k : Fin 4) (v : W64), exec (.dumpSelWrite k v) s = .next (s.updL k (fun l => { l with
      dumpCore := BitVec.ofNat 8 (v.toNat % 256), dumpOffset := BitVec.ofNat 15 (v.toNat / 256 % 32768) }))) ∧
    (∀ k : Fin 4, Completes (.dumpDataRead k 0x40608 8) s (fun u => u.out = Output.readValue (.pf k) 0x40608 (s.dumpWord k) :: s.out ∧
      (u.lk k).dumpOffset = (s.lk k).dumpOffset + 1 ∧ (u.lk k).dumpCore = (s.lk k).dumpCore ∧ u.fw = s.fw)) ∧
    (∀ (m : Msg) (c : CoreId), coreOf (m.u8 0) = some c →
      let x := s.core c
      let absent := s.rccAbsent c
      (∀ ms, absent = false → s.canHandle c 0x0F01 → Completes (.fwPing m ms) s (fun u =>
        s.replied u m 0x0F01 (match c with | .sec => 0 | .pwr => 1 | .sch => 2 | .rcc _ => 3) 0 (leBytes 8 (m.u64 8) ++
          leBytes 4 (match tfind s.fw.images (imageKey (coreKind c) x.slot) with | some i => i.version.toNat | none => 0) ++ leBytes 4 (ms - x.startMs)) ∧
        u.core c = x ∧ s.memSame u)) ∧
      (∀ ms pc, absent = false → s.isPriv m = true → s.authorityActs = true → m.u8 1 ≤ 2 → m.u8 2 ≤ 1 → x.state = .running →
        let slot := if m.u8 1 = 0 then x.slot else m.u8 1 == 2
        (tfind s.fw.images (imageKey (coreKind c) slot)).isSome = true → Completes (.fwRestart m ms pc) s (fun u =>
          (u.core c).state = .frost ∧ (u.core c).lastCause = 4 ∧ (u.core c).loadSlot = slot ∧ (u.core c).commanded = some m ∧ s.memSame u)) ∧
      (s.canHandle .sec 0x0F04 → s.isPriv m = true → absent = false → ∀ d, x.dumpValid = true → x.dump = some d → m.u32 16 ≤ 262144 →
        let n := min (m.u32 16) d.length.toNat
        Completes (.fwDumpRead m) s (fun u =>
          Output.hostWrite s.priv (m.u64 8) ((List.range n).map (fun i => d.byte (m.u8 0) i)) ∈ u.out ∧ s.replied u m 0x0F04 0 0 (leBytes 4 n) ∧ u.core c = x)) ∧
      (s.canHandle .sec 0x0F05 → s.isPriv m = true → absent = false → Completes (.fwDumpClear m) s (fun u =>
        u.core c = { x with dumpValid := false } ∧ s.replied u m 0x0F05 0 0 []))) ∧
    (∀ (m : Msg) (img : ImageIn), s.canHandle .sec 0x0F03 →
      let kind := m.u8 0
      (s.isPriv m = false → Completes (.fwImageStage m img) s (fun u => u.fw.images = s.fw.images ∧ s.replied u m 0x0F03 0 5 [])) ∧
      (s.isPriv m = true → 1 ≤ kind → kind ≤ 4 → m.u8 1 ≤ 1 → 256 ≤ m.u32 16 → m.u32 16 ≤ 2 ^ 24 + 256 → s.slotInUse kind (m.u8 1 == 1) = false →
        (s.sec.verify kind img = 0 → Completes (.fwImageStage m img) s (fun u =>
          tfind u.fw.images (2 * (kind - 1) + m.u8 1) = some img.image ∧ s.replied u m 0x0F03 0 0 [] ∧ u.sec = s.sec)) ∧
        (s.sec.verify kind img ≠ 0 → Completes (.fwImageStage m img) s (fun u =>
          u.fw.images = s.fw.images ∧ u.sec.failCode = BitVec.ofNat 8 (s.sec.verify kind img) ∧ s.replied u m 0x0F03 0 7 []))))

/-- 02 R45-R53, R60, T2.2-T2.5: PART_CREATE, PART_RESIZE, PART_DESTROY, PART_RESET and PORT_ASSIGN, the four steps of a reset, and the ends of a
resize and a destroy. Where it fixes what the spec leaves open it follows logs 2, 10, 18. -/
def Obligations.PartitionsAreCreatedResetAndDestroyed : Prop :=
  ∀ (s : State),
    (∀ m : Msg, s.canHandle .sec 0x0201 → s.isPriv m = true →
      let n := m.u8 0
      let rect := rectRegions (m.u8 1) (m.u8 2) (m.u8 3) (m.u8 4)
      n ≤ 11 → m.u8 5 ≤ 3 → m.u8 16 ≤ 1 → (s.pt n).state = .free →
      ((m.u8 3 = 0 ∨ m.u8 4 = 0 ∨ 12 < m.u8 1 + m.u8 3 ∨ 12 < m.u8 2 + m.u8 4) → Completes (.partCreate m []) s (fun u =>
        (u.pt n).state = .free ∧ s.replied u m 0x0201 0 2 [])) ∧
      (1 ≤ m.u8 3 → 1 ≤ m.u8 4 → m.u8 1 + m.u8 3 ≤ 12 → m.u8 2 + m.u8 4 ≤ 12 →
        (∀ r ∈ rect, (s.rg r).state = .ready ∧ (s.rg r).partition = none) →
        ((∃ j, j < 12 ∧ (s.pt j).state ≠ .free ∧ (s.pt j).key.toNat = m.u16 6) → Completes (.partCreate m []) s (fun u =>
          (u.pt n).state = .free ∧ s.replied u m 0x0201 0 3 [])) ∧
        (s.keyFree (m.u16 6) = true → s.syncFree (m.u32 8) (m.u32 12) = true → Completes (.partCreate m []) s (fun u =>
          let p := u.pt n
          p.state = .active ∧ p.rx0 = m.u8 1 ∧ p.ry0 = m.u8 2 ∧ p.w = m.u8 3 ∧ p.h = m.u8 4 ∧ p.hostLink = m.u8 5 ∧ p.key.toNat = m.u16 6 ∧
          p.syncBase = m.u32 8 ∧ p.syncCount = m.u32 12 ∧ p.mem.pages = [] ∧ p.rings = [] ∧ (∀ r ∈ rect, (u.rg r).partition = some n) ∧
          (∀ r, r ∉ rect → u.rg r = s.rg r) ∧ (∀ o, m.u32 8 ≤ o → o < m.u32 8 + m.u32 12 → u.syncGet o = 0) ∧ s.memSame u ∧
          s.replied u m 0x0201 0 0 [])))) ∧
    (∀ m : Msg, s.canHandle .sec 0x0202 → s.isPriv m = true →
      let n := m.u8 0
      let p := s.pt n
      n ≤ 11 → p.state = .active → s.resizeRefusal n m.resize = none → Completes (.partResize m) s (fun u =>
        (u.pt n).state = .resetting ∧ (u.pt n).resetStep = 1 ∧ (u.pt n).resize = some m.resize ∧ (∀ r ∈ p.added m.resize, (u.rg r).partition = some n) ∧
        s.replied u m 0x0202 0 0 [])) ∧
    (∀ m : Msg, s.canHandle .sec 0x0203 → s.isPriv m = true →
      let n := m.u8 0
      n ≤ 11 → (s.pt n).state = .active →
      (s.isHome n = false → Completes (.partDestroy m) s (fun u => (u.pt n).state = .resetting ∧ (u.pt n).destroy = some m)) ∧
      (s.isHome n = true → Completes (.partDestroy m) s (fun u => (u.pt n).state = .active ∧ s.replied u m 0x0203 0 4 []))) ∧
    (∀ m : Msg, s.canHandle .sec 0x0204 → s.isPriv m = true → m.u8 0 ≤ 11 → (s.pt (m.u8 0)).state = .active → Completes (.partReset m) s (fun u =>
      (u.pt (m.u8 0)).state = .resetting ∧ (u.pt (m.u8 0)).resetStep = 1 ∧ s.replied u m 0x0204 0 0 [])) ∧
    (∀ m : Msg, s.canHandle .sec 0x0205 → s.isPriv m = true → m.u8 0 = 1 → m.u8 1 < 24 →
      let w := m.u8 1
      (m.u8 2 ≤ 11 → (s.pt (m.u8 2)).state ≠ .free → tfind s.portOwner w = none → Completes (.portAssign m) s (fun u =>
        tfind u.portOwner w = some (m.u8 2) ∧ (∀ q, q ≠ w → tfind u.portOwner q = tfind s.portOwner q) ∧ s.replied u m 0x0205 0 0 [])) ∧
      (m.u8 2 = 0xF → (∃ q, tfind s.portOwner w = some q) → Completes (.portAssign m) s (fun u => tfind u.portOwner w = none ∧ s.replied u m 0x0205 0 0 [])) ∧
      (∀ q, m.u8 2 ≤ 11 → (s.pt (m.u8 2)).state ≠ .free → tfind s.portOwner w = some q → q ≠ m.u8 2 → Completes (.portAssign m) s (fun u =>
        u.portOwner = s.portOwner ∧ s.replied u m 0x0205 0 4 []))) ∧
    (∀ n : Fin 12,
      let p := s.pt n
      (p.state = .resetting → (s.core .sch).state = .running →
        (p.resetStep = 1 → Completes (.partitionResetProgress n) s (fun u => (u.pt n).resetStep = 2 ∧
          ∀ e ∈ s.tiles, tileRegion e.1 ∈ p.regions → (u.tile e.1).run = .halted)) ∧
        (p.resetStep = 2 → (∀ o ∈ s.ops, o.part ≠ n.val) → exec (.partitionResetProgress n) s = .next (s.updP n (fun q => { q with resetStep := 3 }))) ∧
        (p.resetStep = 3 → Completes (.partitionResetProgress n) s (fun u => (u.pt n).resetStep = 4 ∧
          (∀ t a, tileRegion t ∈ p.regions → a < 0xC0000 → u.sramAt t a = 0) ∧ (∀ t, tileRegion t ∈ p.regions → u.tile t = {}) ∧
          (∀ t, tileRegion t ∉ p.regions → u.tile t = s.tile t) ∧ ∀ o, p.syncBase ≤ o → o < p.syncBase + p.syncCount → u.syncGet o = 0)) ∧
        (p.resetStep = 4 → p.destroy = none → p.resize = none → p.waiting = [] → p.revokes = [] → Completes (.partitionResetProgress n) s (fun u =>
          (u.pt n).state = .active ∧ (u.pt n).resetStep = 0 ∧ s.memSame u))) ∧
      (p.state = .scrubbing → ∀ r, p.resize = some r → (∀ i ∈ p.added r, (s.rg i).state ≠ .fenced) → Completes (.partResizeComplete n) s (fun u =>
        (u.pt n).state = .active ∧ (u.pt n).rx0 = r.rx0 ∧ (u.pt n).ry0 = r.ry0 ∧ (u.pt n).w = r.w ∧ (u.pt n).h = r.h ∧ (u.pt n).resize = none ∧
        ∀ i ∈ p.removed r, (u.rg i).partition = none)) ∧
      (p.state = .scrubbing → ∀ m, p.destroy = some m → (s.core .sec).state = .running → Completes (.partDestroyComplete n) s (fun u =>
        (u.pt n).state = .free ∧ (u.pt n).key = 0 ∧ (∀ i ∈ p.regions, (u.rg i).partition = none) ∧ (∀ g ∈ u.sec.grants, g.grantee ≠ n.val) ∧
        (∀ e ∈ u.sec.privateKeys, e.1 / 16 ≠ n.val) ∧ ∀ e ∈ u.portOwner, e.2 ≠ n.val)))

/-- 02 R61-R65, R77-R82, T2.18: SHARED_CREATE, SHARED_DESTROY, GRANT, REVOKE, KEY_LOAD, KEY_ERASE, ATTEST, DEVICE_CERT, SVN_COMMIT: what SEC
changes and replies, and that another sender than the one permitted is refused. Where it fixes what the spec leaves open it follows logs 6, 10, 19. -/
def Obligations.SecurityMessagesActForTheirSenders : Prop :=
  ∀ (s : State) (m : Msg),
    let i := m.u8 0
    (s.canHandle .sec 0x0210 →
      (s.isPriv m = false → Completes (.sharedCreate m) s (fun u => u.sec = s.sec ∧ s.replied u m 0x0210 0 5 [])) ∧
      (s.isPriv m = true → i ≤ 63 → 0xF000 ≤ m.u16 2 → m.u16 2 ≤ 0xFFFE → 1 ≤ m.u32 8 → m.u32 8 ≤ 2 ^ 21 →
        (m.u8 4 = 0xF ∨ (m.u8 4 ≤ 11 ∧ (s.pt (m.u8 4)).state ≠ .free)) → tfind s.sec.shared i = none →
        (∀ e ∈ s.sec.shared, e.2.key.toNat ≠ m.u16 2) → Completes (.sharedCreate m) s (fun u =>
          tfind u.sec.shared i = some { key := BitVec.ofNat 16 (m.u16 2), home := if m.u8 4 = 0xF then none else some (m.u8 4), pages := m.u32 8 } ∧
          (∀ j, j ≠ i → tfind u.sec.shared j = tfind s.sec.shared j) ∧ u.sec.grants = s.sec.grants ∧ s.replied u m 0x0210 0 0 []))) ∧
    (s.canHandle .sec 0x0211 → s.isPriv m = true → (tfind s.sec.shared i).isSome = true →
      ((∀ g ∈ s.sec.grants, g.shared ≠ i) → Completes (.sharedDestroy m) s (fun u => tfind u.sec.shared i = none ∧
        (∀ k ∈ u.sec.sharedKeys, k.2.bound ≠ i) ∧ (∀ e ∈ u.shPages, e.1 / 2 ^ 21 ≠ i) ∧ tfind u.backing i = none ∧ s.replied u m 0x0211 0 0 [])) ∧
      ((∃ g ∈ s.sec.grants, g.shared = i) → Completes (.sharedDestroy m) s (fun u => u.sec = s.sec ∧ s.replied u m 0x0211 0 4 []))) ∧
    (s.canHandle .sec 0x0212 → s.isPriv m = true → s.grantRefusal m = none →
      let g : Grant := { shared := i, grantee := m.u8 1, right := m.u8 2, base := BitVec.ofNat 48 (m.u64 8) }
      ((s.pt (m.u8 1)).state ≠ .resetting → Completes (.grant m) s (fun u => u.sec = { s.sec with grants := s.sec.grants ++ [g] } ∧ s.replied u m 0x0212 0 0 [])) ∧
      ((s.pt (m.u8 1)).state = .resetting → Completes (.grant m) s (fun u => u.sec = s.sec ∧ g ∈ (u.pt (m.u8 1)).heldGrants ∧ s.replied u m 0x0212 0 0 []))) ∧
    (s.canHandle .sec 0x0213 → s.isPriv m = true → (∃ g ∈ s.sec.grants, g.shared = i ∧ g.grantee = m.u8 1 ∧ g.right = m.u8 2) →
      (m.u8 3 = 0 → s.slotsRefer (m.u8 1) i = false → Completes (.revoke m) s (fun u =>
        (∀ g, g ∈ u.sec.grants ↔ g ∈ s.sec.grants ∧ ¬ (g.shared = i ∧ g.grantee = m.u8 1 ∧ g.right = m.u8 2)) ∧ s.replied u m 0x0213 0 0 [])) ∧
      (m.u8 3 = 0 → s.slotsRefer (m.u8 1) i = true → Completes (.revoke m) s (fun u => u.sec = s.sec ∧ s.replied u m 0x0213 0 4 [])) ∧
      (m.u8 3 = 1 → (s.pt (m.u8 1)).state = .active → Completes (.revoke m) s (fun u => (u.pt (m.u8 1)).state = .resetting ∧
        (u.pt (m.u8 1)).revokes = (s.pt (m.u8 1)).revokes ++ [{ shared := i, right := m.u8 2, msg := m }]))) ∧
    (s.canHandle .sec 0x0220 → ∀ n, m.part = some n → i = 0 → m.u32 4 ≠ 0 → m.u8 1 < 16 → (s.pt n).heldKeys = [] →
      (∀ e ∈ s.sec.privateKeys, e.1 / 16 = n → e.1 % 16 ≠ m.u8 1 → e.2.keyId.toNat ≠ m.u32 4) →
      (∀ key, (s.pt n).state = .active → Completes (.keyLoad m (some key)) s (fun u =>
        (∃ e, tfind u.sec.privateKeys (16 * n + m.u8 1) = some e ∧ e.keyId.toNat = m.u32 4 ∧ e.key = key) ∧
        (∀ j, j ≠ 16 * n + m.u8 1 → tfind u.sec.privateKeys j = tfind s.sec.privateKeys j) ∧ s.replied u m 0x0220 0 0 [])) ∧
      Completes (.keyLoad m none) s (fun u => u.sec = { s.sec with keyLoadFail := satInc s.sec.keyLoadFail } ∧ s.replied u m 0x0220 0 7 [])) ∧
    (s.canHandle .sec 0x0221 → ∀ n, m.part = some n → i = 0 → m.u8 1 < 16 → Completes (.keyErase m) s (fun u =>
      tfind u.sec.privateKeys (16 * n + m.u8 1) = none ∧ (∀ j, j ≠ 16 * n + m.u8 1 → tfind u.sec.privateKeys j = tfind s.sec.privateKeys j) ∧
      s.replied u m 0x0221 0 0 [])) ∧
    (s.canHandle .sec 0x0230 → ∃ report : List Byte, report.length = 424 ∧ report.take 48 = (List.range 48).map (byteAt m.payload) ∧
      Completes (.attest m) s (fun u => s.replied u m 0x0230 0 0 report ∧ u.sec = s.sec)) ∧
    (s.canHandle .sec 0x0231 → Completes (.deviceCert m) s (fun u =>
      s.replied u m 0x0231 0 0 (s.fixed.certs.flatMap (fun c => leBytes 4 c.length ++ c)) ∧ u.sec = s.sec)) ∧
    (s.canHandle .sec 0x0232 →
      (s.isPriv m = true → s.sec.fuseSvn.toNat ≤ i → i ≤ 63 → (∀ x ∈ s.sec.running, i ≤ x.2.svn.toNat) → Completes (.svnCommit m) s (fun u =>
        u.sec = { s.sec with fuseSvn := BitVec.ofNat 6 i } ∧ s.replied u m 0x0232 0 0 [])) ∧
      (s.isPriv m = true → i < s.sec.fuseSvn.toNat → Completes (.svnCommit m) s (fun u => u.sec = s.sec ∧ s.replied u m 0x0232 0 1 [])) ∧
      (s.isPriv m = false → Completes (.svnCommit m) s (fun u => u.sec = s.sec ∧ s.replied u m 0x0232 0 5 [])))

/-- 04 R126-R137, T4.1-T4.8, 12 R397: the cadence count advances by one at an edge, the selected input's offset decides LOCKED or SLEWING, the loss of
the current input begins HOLDOVER, the privileged host sets the mode, a T-port sends what the module may pass on. Where it fixes what the spec leaves open it follows logs 2, 53, 61. -/
def Obligations.CadenceFollowsItsInputs : Prop :=
  ∀ (s : State),
    let c := s.cad
    (∀ (src : W64) (res : Int), c.state = .locked → c.stepping = false → Completes (.tickEdge src res) s (fun u => u.cad.count = c.count + 1 ∧
      u.cad.state = .locked ∧ u.cad.steps = c.steps)) ∧
    (∀ (src : W64) (res : Int), c.state = .unset → c.acquiring = true → Completes (.tickEdge src res) s (fun u => u.cad.count = src ∧ u.cad.offset = res ∧
      u.cad.acquiring = false ∧ (-15 ≤ res → res ≤ 15 → u.cad.state = .locked) ∧ (res < -15 ∨ 15 < res → u.cad.state = .slewing))) ∧
    (∀ (src : W64) (res : Int), c.state = .unset → c.acquiring = false → Completes (.tickEdge src res) s (fun u => u.cad = c)) ∧
    (∀ (k : Fin 12) (f : TimingFlit) (rx : W64),
      exec (.timingFlitReceive k false f rx) s = .next s ∧
      (f.sourceId = 0 → f.hops = 127 → Completes (.timingFlitReceive k true f rx) s (fun u => tfind u.cad.inputs k.val = none ∧ u.cad.state = c.state ∧
        u.cad.offset = c.offset)) ∧
      ((c.sourceMode = 0 ∨ c.sourceMode = 1) → c.tportMask.getLsbD k.val = true → ¬ (f.sourceId = 0 ∧ f.hops = 127) →
        (c.inputs = [] → c.sourceKind = 0 → c.state = .unset → f.echoTx ≠ 0 → Completes (.timingFlitReceive k true f rx) s (fun u => u.cad.sourceKind = 1 ∧
          u.cad.sourcePort.toNat = k.val ∧ u.cad.sourceId = f.sourceId ∧ u.cad.hops = f.hops ∧ u.cad.acquiring = true)) ∧
        (c.sourceKind = 1 → c.sourcePort.toNat = k.val → (c.state = .locked ∨ c.state = .slewing) → f.echoTx ≠ 0 →
          let delay := ((rx - f.echoTx) - (f.tx - f.echoRx)).toInt / 2
          let off : Int := ((rx - f.tx).toInt - delay) / 256
          Completes (.timingFlitReceive k true f rx) s (fun u => u.cad.offset = off ∧ u.cad.count = c.count ∧
            (-15 ≤ off → off ≤ 15 → u.cad.state = .locked) ∧ (off < -15 ∨ 15 < off → u.cad.state = .slewing))))) ∧
    (∀ (off : Int) (ident : W64) (dom : Byte) (timed : Bool),
      (dom ≠ c.ptpDomain → exec (.ptpSyncReceive off ident dom timed) s = .next s) ∧
      (dom = c.ptpDomain → c.sourceMode = 2 → c.sourceKind = 2 → (c.state = .locked ∨ c.state = .slewing) → Completes (.ptpSyncReceive off ident dom timed) s (fun u =>
        u.cad.offset = off ∧ u.cad.sourceId = ident ∧ (-15 ≤ off → off ≤ 15 → u.cad.state = .locked) ∧ (off < -15 ∨ 15 < off → u.cad.state = .slewing)))) ∧
    (∀ (k : Nat) (i : CadInput), k < 12 → c.better = some k → tfind c.inputs k = some i → Completes .bestInputHoldExpiry s (fun u => u.cad.sourceKind = 1 ∧
      u.cad.sourcePort.toNat = k ∧ u.cad.sourceId = i.rootId ∧ u.cad.sourcePriority = i.priority ∧ u.cad.state = c.state ∧ u.cad.count = c.count ∧
      (c.state = .locked → s.eventAt u s.priv 0x0205 0 0 (i.rootId.toNat + k * 2 ^ 64 + 2 ^ 71)))) ∧
    (∀ k : Fin 12, c.sourceKind = 1 → c.sourcePort.toNat = k.val → c.state = .locked → Completes (.sourceLoss (some k)) s (fun u => u.cad.state = .holdover ∧
      u.cad.holdovers = c.holdovers + 1 ∧ u.cad.holdoverMs = 0 ∧ u.cad.sourceKind = 0 ∧ tfind u.cad.inputs k.val = none ∧ u.cad.count = c.count ∧
      u.cad.inSpec = c.inSpec ∧ s.eventAt u s.priv 0x0202 0 0 c.sourceId.toNat)) ∧
    (∀ b : W64, (c.state = .holdover → c.inSpec = true → Completes (.cadenceOutOfSpec b) s (fun u => u.cad = { c with inSpec := false } ∧
        s.eventAt u s.priv 0x0203 0 0 b.toNat)) ∧ (c.inSpec = false → exec (.cadenceOutOfSpec b) s = .next s)) ∧
    (∀ (k : Fin 4) (v : W64) (mode : BitVec 2), (s.priv ≠ .pf k → exec (.sourceModeWrite k mode) s = .next s ∧ exec (.localSetWrite k v) s = .next s) ∧
      (s.priv = .pf k →
        (c.state ≠ .unset → Completes (.sourceModeWrite k 3) s (fun u => u.cad.state = .localMode ∧ u.cad.sourceKind = 3 ∧ u.cad.sourceMode = 3 ∧
          u.cad.count = c.count ∧ u.cad.inSpec = false)) ∧
        (mode ≠ 3 → c.state ≠ .localMode → Completes (.sourceModeWrite k mode) s (fun u => u.cad.sourceMode = mode ∧ u.cad.state = c.state ∧ u.cad.count = c.count)) ∧
        (c.state = .unset → c.sourceMode = 3 → Completes (.localSetWrite k v) s (fun u => u.cad.count = v ∧ u.cad.state = .localMode)) ∧
        (c.state ≠ .unset ∨ c.sourceMode ≠ 3 → exec (.localSetWrite k v) s = .next s))) ∧
    (∀ (k : Fin 12) (tx : W64), (s.port (24 + k.val)).phase = .active → (s.port (24 + k.val)).caps.getLsbD 1 = true → c.count.toNat % 64 = 0 →
      Completes (.timingFlitSend k tx) s (fun u => ∃ f : TimingFlit, u.out = Output.timing (24 + k.val) f :: s.out ∧ f.tx = tx ∧
        (c.rootActive = true → f.sourceId = c.sourceId ∧ f.hops = 0 ∧ f.priority = c.rootPriority) ∧
        (c.rootActive = false → c.sourceKind = 1 → c.hops.toNat < 127 → f.sourceId = c.sourceId ∧ f.hops = c.hops + 1 ∧ f.priority = c.sourcePriority) ∧
        (c.rootActive = false → c.sourceKind ≠ 1 → f.sourceId = 0 ∧ f.hops = 127)))

/-- 04 R140-R148, T4.4, T4.10: a region takes a slower class at once and a faster one when its setpoints lie in the new window; a class change makes
its crossings elastic; a relock makes one synchronous again. Where it fixes what the spec leaves open it follows logs 2, 27, 53. -/
def Obligations.RegionsChangeClassAndRelock : Prop :=
  ∀ (s : State) (r : Fin 144),
    let o := (s.rg r).osc
    (o.running = false → exec (.classChange r) s = .next s) ∧
    (o.running = true →
      let c := s.wantedClass r
      (o.cls.toNat < c → Completes (.classChange r) s (fun u => c ≤ (u.rg r).osc.cls.toNat ∧ u.tiles = s.tiles ∧ s.memSame u)) ∧
      (c < o.cls.toNat → (s.rg r).pwr.inWindow c = true → Completes (.classChange r) s (fun u => (u.rg r).osc.cls.toNat = c ∧
        (u.rg r).osc.classChanges = o.classChanges + 1 ∧ u.tiles = s.tiles ∧
        ∀ i, neighbour r 0 = some i → (s.rg i).osc.running = true → (u.rg r).osc.elastic.getLsbD 0 = true ∧ (u.rg i).osc.elastic.getLsbD 2 = true)) ∧
      (c < o.cls.toNat → (s.rg r).pwr.inWindow c = false → Completes (.classChange r) s (fun u => (u.rg r).osc.cls = o.cls)) ∧
      (c = o.cls.toNat → Completes (.classChange r) s (fun u => (u.rg r).osc.cls = o.cls ∧ (u.rg r).osc.classChanges = o.classChanges ∧
        ∀ j, j ≠ r.val → u.rg j = s.rg j))) ∧
    (∀ (d : Fin 4) (i : Nat), neighbour r d = some i → (s.rg r).state = .ready → (s.rg i).state = .ready → o.cls = (s.rg i).osc.cls →
      Completes (.crossingRelock r d) s (fun u => (u.rg r).osc.elastic.getLsbD d = false ∧ (u.rg r).osc.coupled.getLsbD d = true ∧
        (u.rg i).osc.elastic.getLsbD ((d.val + 2) % 4) = false ∧ (u.rg i).osc.coupled.getLsbD ((d.val + 2) % 4) = true)) ∧
    (∀ (d : Fin 4), neighbour r d = none → exec (.crossingRelock r d) s = .next s)

/-- 16 R501-R515, T16.3-T16.5: the voltage loop steps a setpoint inside its window, the droop guard and the peak limiter act on their thresholds, the
input's readings and energy are taken each millisecond, Forecast classifies a phase, a plan leaves its list when it acts. Where it fixes what the spec leaves open it follows logs 2, 7, 56. -/
def Obligations.PowerLoopsStepInsideTheirWindows : Prop :=
  ∀ (s : State),
    (∀ (r : Fin 144),
      let p := (s.rg r).pwr
      let b := (s.rg r).bru
      let target : Int := (p.vlogLo.toNat : Int) - 160 + 2 * b.vlogTrim.toInt
      let set := fun x : BitVec 12 => if x.toNat < p.vlogLo.toNat then p.vlogLo else if p.vlogHi.toNat < x.toNat then p.vlogHi else x
      (∀ (v : BitVec 12) (sram : List (BitVec 12)), p.rails.vlog = true → Completes (.voltageLoopStep r [v] sram) s (fun u =>
        (u.rg r).pwr.vlogSet = (if (v.toNat : Int) < target then set (p.vlogSet + 10) else if target + 60 < (v.toNat : Int) then set (p.vlogSet - 10) else set p.vlogSet) ∧
        (p.vsramLo.toNat ≤ p.vsramHi.toNat → p.vsramLo.toNat ≤ (u.rg r).pwr.vsramSet.toNat ∧ (u.rg r).pwr.vsramSet.toNat ≤ p.vsramHi.toNat) ∧
        (∀ j, j ≠ r.val → u.rg j = s.rg j))) ∧
      (∀ vlog sram, p.rails.vlog = false → exec (.voltageLoopStep r vlog sram) s = .next s) ∧
      (∀ vlog : List (BitVec 12), (s.rg r).osc.cls ≠ 7 → (∃ v ∈ vlog, (v.toNat : Int) < target - 100) →
        exec (.droopEngage r vlog) s = .next (s.updR r (fun x => { x with pwr := { x.pwr with droop := true } }))) ∧
      (∀ vlog : List (BitVec 12), (∀ v ∈ vlog, target - 100 ≤ (v.toNat : Int)) → exec (.droopEngage r vlog) s = .next s) ∧
      (∀ (vlog : List (BitVec 12)) (us : Nat), 10 ≤ us → (∀ v ∈ vlog, target - 40 ≤ (v.toNat : Int)) →
        exec (.droopRelease r vlog us) s = .next (s.updR r (fun x => { x with pwr := { x.pwr with droop := false } }))) ∧
      (∀ counts, Completes (.activityEstimate r counts) s (fun u => ∃ e, (u.rg r).pwr.estNow = e ∧ (u.rg r).pwr.estSum = p.estSum + e ∧
        (u.rg r).pwr.estN = p.estN + 1 ∧ ∀ j, j ≠ r.val → u.rg j = s.rg j))) ∧
    (let l := (s.moduleEstimate :: s.pwr.samples).take 500
     let sum := l.foldl (· + ·) 0
     let peak := s.pwr.peakW.toNat * 1000
     Completes .peakLimiterStep s (fun u => u.pwr.samples = l ∧
       (98 * peak * l.length < 100 * sum → u.pwr.duty = (if 4 < s.pwr.duty.toNat then s.pwr.duty - 1 else s.pwr.duty) ∧ u.pwr.raiseWait = 0) ∧
       (98 * peak * l.length ≥ 100 * sum → 100 * sum ≤ 95 * peak * l.length → s.pwr.raiseWait = 9 →
         u.pwr.duty = (if s.pwr.duty.toNat < 16 then s.pwr.duty + 1 else s.pwr.duty)) ∧
       (98 * peak * l.length ≥ 100 * sum → 95 * peak * l.length < 100 * sum → u.pwr.duty = s.pwr.duty))) ∧
    (∀ windows volts amps watts vl ca, Completes (.pwrDivision windows volts amps watts vl ca) s (fun u => u.pwr.inVoltage = volts ∧ u.pwr.inCurrent = amps ∧
      u.pwr.inPower = watts ∧ u.pwr.energyMj = s.pwr.energyMj + watts.setWidth 64 ∧ u.pwr.hostW = s.pwr.hostW ∧ u.tiles = s.tiles ∧ s.memSame u)) ∧
    (∀ (n : Fin 12) (t v x : Nat) (eg : Bool) (mw : Nat), (s.core .pwr).state = .running → (s.pt n).state ≠ .free → Completes (.forecastClassify n t v x eg mw) s (fun u =>
      (u.pt n).pwr.phase = (if t < 50 ∧ v < 50 ∧ x < 50 then 0 else if 300 ≤ t ∧ eg = true then 3 else if 300 ≤ t then 2 else if 300 ≤ v then 4 else 1) ∧
      ∀ j, j ≠ n.val → u.pt j = s.pt j)) ∧
    (∀ (n : Fin 12) (tick : W48), (∃ y ∈ (s.pt n).pwr.plans, y.tick = tick) →
      (s.cad.state ≠ .unset → resolveTick s.cad.count tick ≤ s.cad.count.toNat + 200 → Completes (.phasePlanStep n tick) s (fun u =>
        ∀ y, y ∈ (u.pt n).pwr.plans ↔ y ∈ (s.pt n).pwr.plans ∧ y.tick ≠ tick)) ∧
      (s.cad.state = .unset → exec (.phasePlanStep n tick) s = .next s))

/-- 16 R512-R515, R525-R528, T16.10: the budget, ceiling and suspect registers and the PWR messages: what their senders may set, and what is refused. Where it fixes what the spec leaves open it follows logs 10, 13, 56. -/
def Obligations.PowerSettingsFollowTheirSenders : Prop :=
  ∀ (s : State),
    let budget := fun u : State => u.pwr.inForceW.toNat = min u.pwr.hostW.toNat (min u.pwr.rackW.toNat u.pwr.coolantW.toNat)
    (∀ (k : Fin 4) (w : W16), (s.priv = .pf k → 8000 ≤ w.toNat → w.toNat ≤ 32000 → Completes (.hostWWrite k w) s (fun u => u.pwr.hostW = w ∧ budget u ∧
      u.pwr.rackW = s.pwr.rackW ∧ u.pwr.coolantW = s.pwr.coolantW)) ∧
      ((s.priv ≠ .pf k ∨ w.toNat < 8000 ∨ 32000 < w.toNat) → exec (.hostWWrite k w) s = .next s)) ∧
    (∀ (k : Fin 4) (r : Fin 144) (v : BitVec 3), (s.priv = .pf k → v ≠ 7 →
      exec (.ceilingWrite k r v) s = .next (s.updR r (fun x => { x with pwr := { x.pwr with ceiling := v } }))) ∧
      ((s.priv ≠ .pf k ∨ v = 7) → exec (.ceilingWrite k r v) s = .next s)) ∧
    (∀ (k : Fin 4) (r : Fin 144) (bits : W16), (s.priv = .pf k →
      exec (.suspectClear k r bits) s = .next (s.updR r (fun x => { x with pwr := { x.pwr with suspect := x.pwr.suspect &&& ~~~bits } }))) ∧
      (s.priv ≠ .pf k → exec (.suspectClear k r bits) s = .next s)) ∧
    (∀ m : Msg,
      (s.canHandle .pwr 0x1001 → s.isPriv m = true → m.u8 0 = 0 → 8000 ≤ m.u32 4 → m.u32 4 ≤ 32000 → Completes (.pwrBudgetSet m) s (fun u =>
        u.pwr.hostW.toNat = m.u32 4 ∧ budget u ∧ s.replied u m 0x1001 1 0 [])) ∧
      (s.canHandle .pwr 0x1001 → s.isPriv m = true → m.u8 0 = 1 → Completes (.pwrBudgetSet m) s (fun u => u.pwr = s.pwr ∧ s.replied u m 0x1001 1 5 [])) ∧
      (s.canHandle .pwr 0x1001 → m.sender = .peer → m.u8 0 = 1 → 8000 ≤ m.u32 4 → m.u32 4 ≤ 32000 → Completes (.pwrBudgetSet m) s (fun u =>
        u.pwr.rackW.toNat = m.u32 4 ∧ budget u ∧ s.replied u m 0x1001 1 0 [])) ∧
      (s.canHandle .pwr 0x1002 → s.isPriv m = true → m.u8 0 ≤ 11 → (s.pt (m.u8 0)).state ≠ .free → m.u32 4 ≤ 32000 →
        ((s.pt (m.u8 0)).powerGuaranteed = true → Completes (.pwrShareSet m) s (fun u => (u.pt (m.u8 0)).pwr.guaranteeW.toNat = m.u32 4 ∧
          s.replied u m 0x1002 1 0 [])) ∧
        ((s.pt (m.u8 0)).powerGuaranteed = false → Completes (.pwrShareSet m) s (fun u => (u.pt (m.u8 0)).pwr = (s.pt (m.u8 0)).pwr ∧
          s.replied u m 0x1002 1 1 []))) ∧
      (s.canHandle .pwr 0x1003 → s.isPriv m = true → m.u8 0 ≤ 11 → (s.pt (m.u8 0)).state ≠ .free → m.u8 1 ≤ 4 → s.cad.state = .unset →
        (s.pt (m.u8 0)).pwr.plans.length < 16 → Completes (.pwrPhasePlan m) s (fun u =>
          { phase := BitVec.ofNat 3 (m.u8 1), tick := BitVec.ofNat 48 (m.u64 8) } ∈ (u.pt (m.u8 0)).pwr.plans ∧ s.replied u m 0x1003 1 0 [])) ∧
      (s.canHandle .pwr 0x1004 → s.isPriv m = true → m.u8 0 ≤ 143 → m.u8 1 ≤ 6 → Completes (.pwrCeilingSet m) s (fun u =>
        (u.rg (m.u8 0)).pwr.ceiling.toNat = m.u8 1 ∧ (∀ j, j ≠ m.u8 0 → u.rg j = s.rg j) ∧ s.replied u m 0x1004 1 0 [])) ∧
      (s.canHandle .pwr 0x1005 → s.isPriv m = true → s.mgt.waferOn = true → s.pwr.down = none → Completes (.pwrOff m) s (fun u =>
        u.pwr.down = some { fast := false, cause := 1, step := 1 } ∧ (∀ n, n < 12 → (s.pt n).state = .active → (u.pt n).state = .resetting) ∧
        s.replied u m 0x1005 1 0 [])) ∧
      (s.canHandle .pwr 0x1005 → s.isPriv m = false → Completes (.pwrOff m) s (fun u => u.pwr = s.pwr ∧ s.replied u m 0x1005 1 5 [])))

/-- 16 R516-R524, T16.6, T16.9, 01 R33, R34: regulator and thermal alerts put a region in the lull state and release it, rail faults fence, coolant sets
its limit, trips start the fast power-down, whose steps take the rails off in order. Where it fixes what the spec leaves open it follows logs 2, 56, 61. -/
def Obligations.AlertsLullsAndPowerDownAct : Prop :=
  ∀ (s : State),
    (∀ (r : Fin 144),
      let g := s.rg r
      let p := g.pwr
      (∀ cause : BitVec 2, (g.osc.running = true → Completes (.regulatorAlert r cause) s (fun u => (u.rg r).pwr.alertOn = true ∧ (u.rg r).pwr.alertLull = true ∧
          (u.rg r).pwr.alertCause = cause ∧ (u.rg r).osc.lull = true ∧ (u.rg r).osc.cls = 7 ∧ u.pwr.lullsAlert = s.pwr.lullsAlert + (if p.alertLull then 0 else 1))) ∧
        (g.osc.running = false → exec (.regulatorAlert r cause) s = .next s)) ∧
      exec (.regulatorAlertDeassert r) s = .next (s.updR r (fun x => { x with pwr := { x.pwr with alertOn := false } })) ∧
      (p.alertLull = true → p.alertOn = false → Completes (.lullRelease r) s (fun u => (u.rg r).pwr.alertLull = false ∧ (u.rg r).osc.lull = p.thermalLull ∧
        (u.rg r).osc.cls = g.osc.cls)) ∧
      (p.alertOn = true → exec (.lullRelease r) s = .next s) ∧
      (∀ rail, p.alertOn = true → g.state = .ready → Completes (.alertHeldTimeout r rail) s (fun u => (u.rg r).state = .fenced ∧ (u.rg r).fenceCause = 8 ∧
        (u.rg r).pwr.rails.vlog = false ∧ (u.rg r).pwr.rails.vsram = false ∧ (u.rg r).pwr.rails.vstr = false)) ∧
      (∀ rail up, g.state = .ready → Completes (.railCollapse r rail up) s (fun u => (u.rg r).state = .fenced ∧ (u.rg r).fenceCause = 8 ∧ (u.rg r).pwr.collapsed = true ∧
        u.mgt.logSeq = s.mgt.logSeq + 1)) ∧
      (∀ rail up, g.state = .off → exec (.railCollapse r rail up) s = .next s) ∧
      (∀ cause, Completes (.linkGroupAlert r cause) s (fun u => (u.rg r).wellPowered = false ∧ (u.rg r).pwr.rails.vlnk = false ∧ (u.rg r).osc = g.osc ∧
        (u.rg r).state = g.state)) ∧
      (∀ temps : List (BitVec 12),
        let mx := (temps.map (fun x => x.toNat)).foldl max 0
        (mx < 372 → Completes (.thermalSample r temps) s (fun u => (u.rg r).pwr.tempMax.toNat = mx ∧ (u.rg r).pwr.sensors = temps ∧
          (u.rg r).pwr.thermalLull = p.thermalLull ∧ (u.rg r).osc = g.osc)) ∧
        (372 ≤ mx → p.thermalLull = false → g.osc.running = true → Completes (.thermalSample r temps) s (fun u => (u.rg r).pwr.tempMax.toNat = mx ∧
          (u.rg r).pwr.thermalLull = true ∧ (u.rg r).osc.lull = true ∧ (u.rg r).osc.cls = 7 ∧ u.pwr.lullsThermal = s.pwr.lullsThermal + 1)) ∧
        ((∃ t ∈ temps, 400 ≤ t.toNat) → s.mgt.waferOn = true → s.pwr.down = none → Completes (.thermalTrip r temps) s (fun u =>
          u.pwr.down = some { fast := true, cause := 4, step := 1 })) ∧
        ((∀ t ∈ temps, t.toNat < 400) → exec (.thermalTrip r temps) s = .next s)) ∧
      (p.thermalLull = true → p.tempMax.toNat ≤ 352 → Completes (.thermalLullRelease r) s (fun u => (u.rg r).pwr.thermalLull = false ∧
        (u.rg r).osc.lull = p.alertLull)) ∧
      (352 < p.tempMax.toNat → exec (.thermalLullRelease r) s = .next s)) ∧
    (∀ inlet outlet flow : W16,
      (s.mgt.mmcRunning = true → Completes (.coolantSample inlet outlet flow) s (fun u => u.pwr.inlet = inlet ∧ u.pwr.outlet = outlet ∧ u.pwr.flow = flow ∧
        u.pwr.coolantW.toNat = max 8000 (32000 * (min 4800 flow.toNat) * (min 1000 (4500 - inlet.toNat)) / 4800000))) ∧
      ((flow.toNat < 1200 ∨ 5000 < inlet.toNat) → s.mgt.waferOn = true → s.pwr.down = none → Completes (.coolantLoss inlet flow) s (fun u =>
        u.pwr.down = some { fast := true, cause := 5, step := 1 } ∧ u.pwr.inlet = inlet ∧ u.pwr.flow = flow)) ∧
      (1200 ≤ flow.toNat → inlet.toNat ≤ 5000 → exec (.coolantLoss inlet flow) s = .next s)) ∧
    (s.pwr.down = none → exec .powerDownStep s = .next s) ∧
    (∀ d, s.pwr.down = some d →
      let rails := fun (f : Rails → Rails) (u : State) => (∀ i, (u.rg i).pwr.rails = f (s.rg i).pwr.rails) ∧ u.pwr.down = some { d with step := d.step + 1 }
      (d.step = 1 → Completes .powerDownStep s (rails (fun x => { x with vlnk := false }))) ∧
      (d.step = 2 → Completes .powerDownStep s (rails (fun x => { x with vlog := false }))) ∧
      (d.step = 3 → Completes .powerDownStep s (rails (fun x => { x with vsram := false }))) ∧
      (d.step = 4 → Completes .powerDownStep s (rails (fun x => { x with vmif := false }))) ∧
      (d.step = 5 → Completes .powerDownStep s (fun u => u.pwr.down = none ∧ u.phase = .powerOn ∧ u.mgt.waferOn = false ∧ u.flash = s.flash ∧ u.sram = [] ∧
        u.slices = [] ∧ u.tiles = [] ∧ (∀ i, (u.rg i).state = .off) ∧ u.out = s.out ∧ u.pending = s.pending)))

/-- 00 R14-R18: a 64-bit write of SCRATCH by the privileged host, a 32-bit write of either half, accesses that are not aligned, and writes of functions that do not hold
the register; a 32-bit read of the low half of an RS register gives it and latches the high half. 18 R561, R564, R565, T18.7: a region's rate over its window, stragglers against the partition's median, RAS_FENCE. Where it fixes what the spec leaves open it follows logs 10, 13, 14. -/
def Obligations.RegistersRatesAndFences : Prop :=
  (
  ∀ (s : State) (k : Fin 4) (v : W64),
    (s.priv = .pf k →
      exec (.registerWrite (.pf k) 0x30 8 v) s = .next { s with scratch := v } ∧
      exec (.registerWrite (.pf k) 0x30 4 v) s = .next { s with scratch := (s.scratch &&& 0xFFFFFFFF00000000) ||| (v &&& 0xFFFFFFFF) } ∧
      exec (.registerWrite (.pf k) 0x34 4 v) s = .next { s with scratch := (s.scratch &&& 0xFFFFFFFF) ||| (v <<< 32) } ∧
      (70 ≤ v.toNat % 256 → v.toNat % 256 ≤ 90 → exec (.registerWrite (.pf k) 0xC0008 8 v) s = .next { s with
        pwr := { s.pwr with targetC := v.extractLsb' 0 8 } }) ∧
      ((v.toNat % 256 < 70 ∨ 90 < v.toNat % 256) → exec (.registerWrite (.pf k) 0xC0008 8 v) s = .next s)) ∧
    (s.priv ≠ .pf k → exec (.registerWrite (.pf k) 0x30 8 v) s = .next s ∧ exec (.registerWrite (.pf k) 0xC0008 8 v) s = .next s) ∧
    (∀ (fn : Fn) (off : BitVec 24), (off.toNat % 8 ≠ 0 → exec (.registerWrite fn off 8 v) s = .next s) ∧
      (off.toNat % 4 ≠ 0 → exec (.registerWrite fn off 4 v) s = .next s) ∧ exec (.registerWrite fn off 2 v) s = .next s ∧
      (off.toNat % 8 ≠ 0 → exec (.rsLowHalfRead fn off) s = .next s)) ∧
    exec (.rsLowHalfRead (.pf k) 0x28) s = .next { s with
      rsShadow := tset s.rsShadow (k.val * 2 ^ 25 + 0x28) ((s.cad.count.setWidth 64 >>> 32).setWidth 32)
      out := .readValue (.pf k) 0x28 (s.cad.count.setWidth 64 &&& 0xFFFFFFFF) :: s.out } ∧
    exec (.rsLowHalfRead (.pf k) 0x30) s = .next s
  ) ∧
  (
  ∀ (s : State),
    (∀ r : Fin 144,
      let g := s.rg r
      (g.state ≠ .ready → exec (.rateWindow r) s = .next (s.updR r (fun x => { x with
        osc := { x.osc with pullPosted := false }, pwr := { x.pwr with alertPosted := false, thermalPosted := false } }))) ∧
      (g.state = .ready → 0 < g.flt.rateN → Completes (.rateWindow r) s (fun u =>
        (u.rg r).flt.rate1 = BitVec.ofNat 11 (g.flt.rateSum * 1024 / (g.flt.rateN * 240)) ∧
        (u.rg r).flt.windows.length = min 100 (g.flt.windows.length + 1) ∧ (u.rg r).flt.rateSum = 0 ∧ (u.rg r).flt.rateN = 0 ∧
        (u.rg r).flt.straggler = g.flt.straggler ∧ (u.rg r).state = .ready ∧ ∀ j, j ≠ r.val → u.rg j = s.rg j))) ∧
    (∀ n : Fin 12,
      let l := s.readyRegions n
      let rate := fun i : Nat => (s.rg i).flt.rate100.toNat
      let m := median (l.map rate)
      let pct := s.ras.marginPct.toNat
      (((s.pt n).state = .free ∨ (s.pt n).regions.length < 2 ∨ l = []) → exec (.stragglerCheck n) s = .next s) ∧
      ((s.pt n).state ≠ .free → 2 ≤ (s.pt n).regions.length → l ≠ [] → Completes (.stragglerCheck n) s (fun u =>
        (∀ i ∈ l, let f := (s.rg i).flt
          (f.straggler = false → rate i * 100 < m * (100 - pct) → 2 ≤ f.below → (u.rg i).flt.straggler = true) ∧
          (f.straggler = false → m * (100 - pct) ≤ rate i * 100 → (u.rg i).flt.straggler = false ∧ (u.rg i).flt.below = 0) ∧
          (f.straggler = true → m * (200 - pct) ≤ rate i * 200 → 2 ≤ f.above → (u.rg i).flt.straggler = false) ∧
          (f.straggler = true → rate i * 200 < m * (200 - pct) → (u.rg i).flt.straggler = true ∧ (u.rg i).flt.above = 0) ∧
          (u.rg i).flt.rate100 = f.rate100 ∧ (u.rg i).state = .ready) ∧
        (∀ i, i ∉ l → u.rg i = s.rg i) ∧ s.memSame u))) ∧
    (∀ m : Msg, s.canHandle .sch 0x1201 →
      (s.isPriv m = true → m.u8 0 ≤ 143 → (s.rg (m.u8 0)).state = .ready → Completes (.rasFence m) s (fun u =>
        (u.rg (m.u8 0)).state = .fenced ∧ (u.rg (m.u8 0)).fenceCause = 8 ∧ u.ras.faultFenced = satInc s.ras.faultFenced ∧ s.replied u m 0x1201 2 0 [])) ∧
      (s.isPriv m = true → m.u8 0 ≤ 143 → (s.rg (m.u8 0)).state ≠ .ready → Completes (.rasFence m) s (fun u => u.rgn = s.rgn ∧ s.replied u m 0x1201 2 4 [])) ∧
      (s.isPriv m = true → 143 < m.u8 0 → Completes (.rasFence m) s (fun u => u.rgn = s.rgn ∧ s.replied u m 0x1201 2 1 [])) ∧
      (s.isPriv m = false → Completes (.rasFence m) s (fun u => u.rgn = s.rgn ∧ s.replied u m 0x1201 2 5 [])))
  )

/-- 05 R166-R171, T5.2, T5.6, T5.9: a RUN whose tiles hold their image and grant their claims starts every tile of its block, or waits for the claims,
or is refused; LOAD_PROGRAM empties a slot or puts its image there. Where it fixes what the spec leaves open it follows logs 9, 12, 21, 26, 36. -/
def Obligations.ProgramsLoadAndRun : Prop :=
  ∀ (s : State) (i : Nat) (host : List Byte) (o : Op), s.findOp i = some o → o.st = .started →
    let c := o.claim
    let free := ∀ e ∈ s.runs, e.1 ≠ i → e.2.meets c = true → e.2.granted = false ∧ i ≤ e.1
    let count := fun (t : Nat) => (tget { banks := 0, count := 0 } (s.tile t).progs c.slot).count
    (o.opcode = 0x11 → s.findRun i = none →
      ((∀ t ∈ c.tiles, (tfind (s.tile t).progs c.slot).isSome = true ∧ c.entry < count t) →
        (free → Completes (.run i) s (fun u => s.runStarted u o c ∧ u.findRun i = some { c with granted := true })) ∧
        (¬ free → exec (.run i) s = .next { s with runs := tset s.runs i c })) ∧
      ((∃ t ∈ c.tiles, tfind (s.tile t).progs c.slot = none) → Completes (.run i) s (fun u => s.opEnds u i 8 0x105 ∧ u.tiles = s.tiles ∧ u.runs = s.runs)) ∧
      ((∀ t ∈ c.tiles, (tfind (s.tile t).progs c.slot).isSome = true) → (∃ t ∈ c.tiles, count t ≤ c.entry) →
        Completes (.run i) s (fun u => s.opEnds u i 8 0x106 ∧ u.tiles = s.tiles ∧ u.runs = s.runs))) ∧
    (∀ r, s.findRun i = some r → r.granted = false → (s.core .sch).state = .running →
      let clear := ∀ e ∈ s.runs, e.1 ≠ i → e.2.meets r = true → e.2.granted = false ∧ i ≤ e.1
      (o.opcode = 0x11 → clear → Completes (.runClaimGranted i host) s (fun u => s.runStarted u o r ∧ u.findRun i = some { r with granted := true })) ∧
      (¬ clear → exec (.runClaimGranted i host) s = .next s)) ∧
    (o.opcode = 0x10 → s.findRun i = none →
      (¬ free → exec (.loadProgram i host) s = .next { s with runs := tset s.runs i c }) ∧
      (free → o.le 48 4 = 0 → Completes (.loadProgram i host) s (fun u => s.opEnds u i 0 0 ∧ u.findRun i = none ∧ s.memSame u ∧
        (∀ t ∈ c.tiles, tfind (u.tile t).progs c.slot = none ∧ (u.tile t).run = (s.tile t).run ∧ ∀ k, k ≠ c.slot → tfind (u.tile t).progs k = tfind (s.tile t).progs k) ∧
        (∀ t, t ∉ c.tiles → u.tile t = s.tile t))) ∧
      (free → o.le 48 4 ≠ 0 → o.byte 37 % 2 = 1 → host.length = o.le 48 4 → imageCheck host (o.le 48 4) = none →
        ((crc32c (host.drop 64)).toNat = leAt host 12 4 → Completes (.loadProgram i host) s (fun u => s.opEnds u i 0 (leAt host 8 4) ∧ u.findRun i = none ∧
          (∀ t ∈ c.tiles, tfind (u.tile t).progs c.slot = some { banks := leAt host 6 1, count := leAt host 8 4 }) ∧
          (∀ t, t ∉ c.tiles → u.tile t = s.tile t) ∧ u.slices = s.slices ∧ u.flash = s.flash)) ∧
        ((crc32c (host.drop 64)).toNat ≠ leAt host 12 4 → Completes (.loadProgram i host) s (fun u => u.findRun i = none ∧ s.memSame u ∧
          (∃ e, u.findOp i = some e ∧ e.st = .ended ∧ e.status = 5) ∧ ∀ t ∈ c.tiles, tfind (u.tile t).progs c.slot = none))))

/-- 01 R27-R33, 17 R530-R533, R541, R544, R545, T17.1: the eight bring-up steps of a region, what each leaves, and the fence causes of those that fail or
miss their limit. Where it fixes what the spec leaves open it follows logs 2, 54, 55. -/
def Obligations.RegionsComeUpStepByStep : Prop :=
  ∀ (s : State) (r : Fin 144) (d : List (Nat × Nat)) (trims : BitVec 12) (ms : Nat),
    let g := s.rg r
    let b := g.bru
    let done := fun (P : State → Prop) => Completes (.regionBringupStep r (.done d trims) ms) s P
    let at' := fun (u : State) (k : Nat) => (u.rg r).state = .bringup ∧ (u.rg r).bru.step.toNat = k
    let lost := fun (c : Nat) (u : State) => (u.rg r).state = .fenced ∧ (u.rg r).fenceCause = BitVec.ofNat 4 c ∧ (u.rg r).bru.step = 9 ∧
      (u.rg r).bru.failedStep.toNat = b.step.toNat
    let rec' := g.place.stored
    (g.state ≠ .bringup → exec (.regionBringupStep r (.done d trims) ms) s = .next s ∧ exec (.bringupStepTimeout r ms) s = .next s) ∧
    (g.state = .bringup → (s.phase = .front → r.val % 12 ≤ s.bru.frontCol.toNat) →
      (b.step = 1 → done (fun u => at' u 2 ∧ (u.rg r).pwr.rails.vlog = true ∧ (u.rg r).pwr.rails.vsram = true ∧ (u.rg r).pwr.rails.vstr = true ∧
        (u.rg r).pwr.rails.vmif = true ∧ (u.rg r).pwr.vlogSet = 2480 ∧ (u.rg r).pwr.vsramSet = 2800)) ∧
      (∀ p, b.step = 2 → s.parentOf r = some p → done (fun u => at' u 3 ∧ (u.rg r).bru.parent = BitVec.ofNat 8 p ∧ (u.rg r).bru.controlOk = true)) ∧
      (b.step = 2 → s.parentOf r = none → s.phase ≠ .front → done (fun u => (u.rg r).state = .fenced ∧ (u.rg r).fenceCause = 4 ∧
        (u.rg r).bru.failedStep = 3)) ∧
      (b.step = 3 → done (fun u => at' u 4 ∧ (u.rg r).osc.running = true ∧ (u.rg r).osc.cls = 7 ∧ (u.rg r).bru.vlogTrim = trims.setWidth 6 ∧
        (u.core (.rcc r)).state = .running)) ∧
      (b.step = 4 → done (fun u => at' u 5 ∧ (u.rg r).place.bist = d ∧ (∀ t a, tileRegion t = r.val → a < 0xC0000 → u.sramBytes t a 1 = [0]) ∧
        (∀ t a, tileRegion t = r.val → a < 0xC00000 → u.sliceBytes t a 1 = [0]))) ∧
      (b.step = 5 → recordValid rec' = true → recordFenced rec' = false → placementValid rec' g.place.defects = true →
        done (fun u => at' u 6 ∧ (u.rg r).place.record = rec' ∧ (u.rg r).place.source = 2)) ∧
      (b.step = 5 → recordValid rec' = false → recordValid g.place.fuseRecord = false → derivePlacement g.place.defects = none → done (lost 1)) ∧
      (b.step = 6 → done (fun u => at' u 7 ∧ (u.rg r).fab.svcUp = true)) ∧
      (b.step = 7 → d = [] → placementValid g.place.record g.place.defects = true → done (fun u => at' u 8)) ∧
      (b.step = 8 → done (fun u => (u.rg r).state = .ready ∧ (u.rg r).bru.wellReady = true ∧ (u.rg r).bru.wellFailed = false ∧
        (u.rg r).bru.scrubDone = false ∧ (u.rg r).bru.readyMs = BitVec.ofNat 32 ms)) ∧
      (∀ c : BitVec 4, (b.step = 8 → Completes (.regionBringupStep r (.failed c d) ms) s (fun u => (u.rg r).state = .ready ∧ (u.rg r).bru.wellFailed = true)) ∧
        ((b.step = 1 ∧ c = 3 ∨ b.step = 2 ∧ c = 2 ∨ b.step = 3 ∧ (c = 2 ∨ c = 4) ∨ b.step = 6 ∧ c = 6) →
          Completes (.regionBringupStep r (.failed c d) ms) s (lost c.toNat))) ∧
      (b.step = 8 → Completes (.bringupStepTimeout r ms) s (fun u => (u.rg r).state = .ready ∧ (u.rg r).bru.wellFailed = true)) ∧
      (∀ k c, (k, c) ∈ [(1, 3), (2, 2), (3, 4), (5, 1), (6, 6), (7, 5)] → b.step.toNat = k → Completes (.bringupStepTimeout r ms) s (lost c)))

/-- 02 R73-R75, 01 R39, 17 R530, R534, R535, T17.2: SEC is released into BOOT, takes its images in order, tries slot B and then ends in BOOT_FAIL; the front
starts with the last image; FABRIC_READY and FULL_READY follow what is up; flash links come and go. Where it fixes what the spec leaves open it follows logs 2, 3, 55. -/
def Obligations.StartUpReachesFullReady : Prop :=
  ∀ (s : State) (ms : Nat),
    (∀ a : BitVec 12,
      (s.mgt.waferOn = true → s.phase = .powerOn → Completes (.secRelease a) s (fun u => u.phase = .boot ∧ u.sec.boot = .rom ∧ u.sec.awaiting = 1 ∧
        u.sec.awaitB = false ∧ u.bru.fwRegion = u.bru.startRegion ∧
        (∀ y, y < 12 → a.getLsbD y = true → (∀ z, z < y → a.getLsbD z = false) → u.bru.startRegion = BitVec.ofNat 8 (12 * y)) ∧ u.rgn = s.rgn)) ∧
      ((s.mgt.waferOn = false ∨ s.phase ≠ .powerOn) → exec (.secRelease a) s = .next s)) ∧
    (∀ (kind : Fin 4) (slot : Bool) (img : ImageIn),
      let due := s.phase = .boot ∧ s.sec.awaiting = kind.val + 1 ∧ s.sec.awaitB = slot
      let fails := fun (u : State) (code : Nat) => u.sec.failCode = BitVec.ofNat 8 code ∧
        (slot = false → u.sec.awaitB = true ∧ u.phase = .boot ∧ u.sec.awaiting = kind.val + 1) ∧ (slot = true → u.phase = .bootFail ∧ u.sec.boot = .bootFail)
      (¬ due → exec (.bootImageReceive kind slot img ms) s = .next s ∧ exec (.bootLinkTimeout kind slot) s = .next s) ∧
      (due → s.sec.verify (kind.val + 1) img ≠ 0 → Completes (.bootImageReceive kind slot img ms) s (fun u => fails u (s.sec.verify (kind.val + 1) img))) ∧
      (due → Completes (.bootLinkTimeout kind slot) s (fun u => fails u 7)) ∧
      (due → s.sec.verify (kind.val + 1) img = 0 → Completes (.bootImageReceive kind slot img ms) s (fun u => u.sec.awaitB = false ∧
        tfind u.fw.images (2 * kind.val + slot.toNat) = some img.image ∧
        (kind = 0 → u.sec.boot = .verify ∧ u.fw.sec.state = .running ∧ u.fw.sec.slot = slot ∧ u.sec.awaiting = 2 ∧ u.phase = .boot) ∧
        (kind = 1 → u.fw.pwr.state = .running ∧ u.fw.pwr.slot = slot ∧ u.sec.awaiting = 3 ∧ u.phase = .boot) ∧
        (kind = 2 → u.fw.sch.state = .running ∧ u.fw.sch.slot = slot ∧ u.sec.awaiting = 4 ∧ u.phase = .boot) ∧
        (kind = 3 → u.sec.boot = .running ∧ u.phase = .front ∧ ∀ y, y < 12 → (u.rg (12 * y)).state = .bringup ∧ (u.rg (12 * y)).bru.step = 1)))) ∧
    (s.phase = .front → (s.core .sch).state = .running → (∀ i, i < 144 → (s.rg i).state = .ready ∨ (s.rg i).state = .fenced) →
      Completes (.fabricReady ms) s (fun u => u.phase = .fabricReady ∧ u.bru.fabricMs = BitVec.ofNat 32 ms ∧
        u.routeSet = some ((List.range 144).filter (fun i => decide ((s.rg i).state = .ready))) ∧ s.eventAt u s.priv 0x0F01 0 0 ms)) ∧
    ((s.phase ≠ .front ∨ ∃ i, i < 144 ∧ (s.rg i).state ≠ .ready ∧ (s.rg i).state ≠ .fenced) → exec (.fabricReady ms) s = .next s) ∧
    (s.phase = .fabricReady → s.linksDone ms = true → (∀ i, i < 144 → (s.rg i).state = .ready → (s.rg i).bru.scrubDone = true) →
      Completes (.fullReady ms) s (fun u => u.phase = .fullReady ∧ u.bru.fullMs = BitVec.ofNat 32 ms ∧ u.bru.incomplete = false ∧ u.rgn = s.rgn)) ∧
    ((s.phase = .front ∨ s.phase = .fabricReady) → Completes .fullReadyTimeout s (fun u => u.phase = .fullReady ∧ u.bru.incomplete = true ∧ u.rgn = s.rgn)) ∧
    (s.phase ≠ .front → s.phase ≠ .fabricReady → exec .fullReadyTimeout s = .next s) ∧
    (∀ f : Fin 8, s.hasFlash = true →
      ((∀ r ∈ wellsOf 5 (some f.val), (s.rg r).bru.wellReady = true ∧ (s.rg r).bru.wellFailed = false) →
        Completes (.flashLinkUp f) s (fun u => u.bru.flashUp.getLsbD f.val = true ∧ (∀ j, j < 8 → j ≠ f.val → u.bru.flashUp.getLsbD j = s.bru.flashUp.getLsbD j) ∧ u.rgn = s.rgn)) ∧
      Completes (.flashLinkDown f) s (fun u => u.bru.flashUp.getLsbD f.val = false ∧ (∀ j, j < 8 → j ≠ f.val → u.bru.flashUp.getLsbD j = s.bru.flashUp.getLsbD j) ∧ u.rgn = s.rgn))

/-- 17 R545-R550, T17.3, T17.7, T17.10: the background scrub, the slots of the four calibration processes, staleness, and the period registers. Where it fixes what the spec leaves open it follows logs 2, 54. -/
def Obligations.ScrubAndCalibrationTakeTheirSlots : Prop :=
  ∀ (s : State) (r : Fin 144),
    let g := s.rg r
    let takes := g.state = .ready ∧ (tget {} s.fw.rcc r.val).state = .running
    let counted := fun (u : State) (p : Nat) => (u.cal p).slots = (s.cal p).slots + 1 ∧ (u.cal p).skipped = (s.cal p).skipped ∧ ∀ q, q ≠ p → u.cal q = s.cal q
    let skipped := fun (u : State) (p : Nat) => (u.cal p).slots = (s.cal p).slots ∧ (u.cal p).skipped = (s.cal p).skipped + 1 ∧ u.rgn = s.rgn ∧ u.ports = s.ports
    (∀ (tile : Fin 576) (slot : Fin 384),
      let t := (r.val / 12 * 24 + tile.val / 24) * 288 + r.val % 12 * 24 + tile.val % 24
      (g.state = .ready → g.bru.scrubLeft ≠ 0 → (∀ k, k < slot.val → g.bru.scrubbed.contains (tile.val * 384 + k) = true) →
        g.bru.scrubbed.contains (tile.val * 384 + slot.val) = false → Completes (.scrubBackground r tile slot) s (fun u =>
          (u.rg r).bru.scrubLeft = g.bru.scrubLeft - 1 ∧ ((u.rg r).bru.scrubDone = true ↔ g.bru.scrubLeft = 1) ∧ u.sram = s.sram ∧ u.tiles = s.tiles ∧
          (∀ a, slot.val * 0x8000 ≤ a → a < (slot.val + 1) * 0x8000 → u.sliceBytes t a 1 = [0] ∧ u.sgst t (a / 256) = .local'))) ∧
      (g.state ≠ .ready → exec (.scrubBackground r tile slot) s = .next s)) ∧
    (∀ (margin : W16) (ap : Bool),
      ((s.cal 0).en = false → exec (.stratusCalSlot r margin ap []) s = .next s) ∧
      ((s.cal 0).en = true → ¬ takes → Completes (.stratusCalSlot r margin ap []) s (fun u => skipped u 0)) ∧
      ((s.cal 0).en = true → takes → Completes (.stratusCalSlot r margin ap []) s (fun u => counted u 0 ∧ (u.rg r).bru.marginMin = margin ∧
        (u.rg r).bru.applied = (if ap then g.bru.applied + 1 else g.bru.applied) ∧ ∀ j, j ≠ r.val → u.rg j = s.rg j)) ∧
      (∀ i : Fin 576, (s.cal 0).en = true → takes → Completes (.stratusCalSlot r margin ap [i]) s (fun u => counted u 0 ∧
        (u.rg r).bru.fails = satInc g.bru.fails))) ∧
    (∀ u46 : Fin 46,
      let up := if u46.val < 38 then (s.port u46.val).phase = .active else s.bru.flashUp.getLsbD (u46.val - 38) = true
      ((s.cal 1).en = false → exec (.serdesCalSlot u46 []) s = .next s) ∧
      ((s.cal 1).en = true → ¬ up → Completes (.serdesCalSlot u46 []) s (fun u => skipped u 1)) ∧
      ((s.cal 1).en = true → up → Completes (.serdesCalSlot u46 []) s (fun u => counted u 1 ∧ u.ports = s.ports ∧ u.rgn = s.rgn)) ∧
      (∀ l : Fin 8, (s.cal 1).en = true → u46.val < 38 → up → 2 ≤ tget 0 s.bru.serdesLow (8 * u46.val + l.val) → Completes (.serdesCalSlot u46 [l]) s (fun u =>
        counted u 1 ∧ (u.port u46.val).phase = .retrain ∧ (u.port u46.val).retrains = satInc (s.port u46.val).retrains))) ∧
    (∀ o : BitVec 8,
      let k := if g.bru.offsets = [] then 0 else (g.bru.lastSensor.toNat + 1) % 16
      ((s.cal 2).en = true → takes → Completes (.vsenseCalSlot r o) s (fun u => counted u 2 ∧ tget 0 (u.rg r).bru.offsets k = o.toInt ∧
        (u.rg r).bru.lastSensor.toNat = k ∧ ∀ j, j ≠ k → tget 0 (u.rg r).bru.offsets j = tget 0 g.bru.offsets j)) ∧
      ((s.cal 2).en = true → ¬ takes → Completes (.vsenseCalSlot r o) s (fun u => skipped u 2)) ∧
      ((s.cal 2).en = false → exec (.vsenseCalSlot r o) s = .next s)) ∧
    (∀ dl : BitVec 16, dl.toInt.natAbs ≤ 10 →
      ((s.cal 3).en = true → takes → g.osc.changing = false → Completes (.oscCalSlot r dl) s (fun u => counted u 3 ∧ (u.rg r).bru.trim = g.bru.trim + dl ∧
        (u.rg r).bru.trimSteps = (if dl = 0 then g.bru.trimSteps else g.bru.trimSteps + 1) ∧ (u.rg r).osc = g.osc)) ∧
      ((s.cal 3).en = true → g.osc.changing = true → Completes (.oscCalSlot r dl) s (fun u => skipped u 3)) ∧
      ((s.cal 3).en = false → exec (.oscCalSlot r dl) s = .next s)) ∧
    (∀ (p : Fin 4) (v : Byte), v.toNat < (if p.val = 1 then 46 else 144) → Completes (.calStale p v) s (fun u => (u.cal p.val).stale = true ∧
      v.toNat ∈ (u.cal p.val).staleUnits ∧ (u.cal p.val).slots = (s.cal p.val).slots ∧
      ((s.cal p.val).stale = false → s.eventAt u s.priv 0x0F07 0 0 (p.val + 256 * v.toNat)))) ∧
    (∀ (k p : Fin 4) (v : W32),
      let l := [(10000, 1000000), (1000, 1000000), (62500, 6250000), (100000, 10000000)].getD p.val (0, 0)
      (s.priv = .pf k → l.1 ≤ v.toNat → v.toNat ≤ l.2 → Completes (.periodCtWrite k p v) s (fun u => (u.cal p.val).nextPeriod = some v ∧
        (u.cal p.val).period = (s.cal p.val).period ∧ ∀ q, q ≠ p.val → u.cal q = s.cal q)) ∧
      ((s.priv ≠ .pf k ∨ v.toNat < l.1 ∨ l.2 < v.toNat) → exec (.periodCtWrite k p v) s = .next s))

/-- 17 R539, R541, R548, T17.8: the repair, restart and calibration messages of the privileged host. Where it fixes what the spec leaves open it follows logs 10, 54. -/
def Obligations.BringUpMessagesAct : Prop :=
  ∀ (s : State) (m : Msg) (ms : Nat),
    let r := m.u8 0
    let g := s.rg r
    let who := s.isPriv m = true
    (s.canHandle .sch 0x1101 →
      (who → r ≤ 143 → m.u8 1 = 1 → m.u8 24 = 0 → g.place.known.length ≤ 64 →
        let rec' := BitVec.ofNat 128 (leNat ((List.range 16).map (fun k => byteAt m.payload (8 + k))))
        (recordValid rec' = true → Completes (.bruRepairSet m) s (fun u => (u.rg r).place = { g.place with stored := rec' } ∧ (∀ j, j ≠ r → u.rg j = s.rg j) ∧
          s.replied u m 0x1101 2 0 [])) ∧
        (bitAt rec' 127 = true → recordValid rec' = false → Completes (.bruRepairSet m) s (fun u => u.rgn = s.rgn ∧ s.replied u m 0x1101 2 1 []))) ∧
      (¬ who → Completes (.bruRepairSet m) s (fun u => u.rgn = s.rgn ∧ s.replied u m 0x1101 2 5 []))) ∧
    (s.canHandle .sch 0x1102 →
      (who → r ≤ 143 → Completes (.bruRepairGet m) s (fun u => u.rgn = s.rgn ∧ s.replied u m 0x1102 2 0
        (leBytes 16 g.place.fuseRecord.toNat ++ leBytes 16 g.place.stored.toNat ++ leBytes 16 g.place.record.toNat ++ leBytes 8 g.place.known.length ++
          (g.place.known.map (fun x => leBytes 1 x.1 ++ leBytes 1 x.2)).flatten))) ∧
      (who → 143 < r → Completes (.bruRepairGet m) s (fun u => u.rgn = s.rgn ∧ s.replied u m 0x1102 2 1 [])) ∧
      (¬ who → Completes (.bruRepairGet m) s (fun u => u.rgn = s.rgn ∧ s.replied u m 0x1102 2 5 []))) ∧
    (s.canHandle .sch 0x1103 →
      (who → r ≤ 143 → g.state = .fenced → r ≠ s.bru.fwRegion.toNat → Completes (.bruRegionRestart m ms) s (fun u =>
        (u.rg r).state = .bringup ∧ (u.rg r).bru.step = 1 ∧ (u.rg r).bru.restart = some m ∧ (u.rg r).fenceCause = 0 ∧ u.out = s.out ∧
        (∀ j, j ≠ r → u.rg j = s.rg j))) ∧
      (who → r ≤ 143 → (g.state = .ready ∧ g.partition ≠ none ∨ r = s.bru.fwRegion.toNat) → Completes (.bruRegionRestart m ms) s (fun u =>
        u.rgn = s.rgn ∧ s.replied u m 0x1103 2 4 [])) ∧
      (¬ who → Completes (.bruRegionRestart m ms) s (fun u => u.rgn = s.rgn ∧ s.replied u m 0x1103 2 5 []))) ∧
    (s.canHandle .sch 0x1104 →
      (who → r ≤ 143 → Completes (.bruRcalReset m) s (fun u => (u.rg r).pwr.rcal = [] ∧ (u.rg r).bru.rcalFrozen = false ∧ (u.rg r).bru.rcalWindows = 0 ∧
        (∀ j, j ≠ r → u.rg j = s.rg j) ∧ s.replied u m 0x1104 2 0 [])) ∧
      (who → r = 255 → Completes (.bruRcalReset m) s (fun u => (∀ j, j < 144 → (u.rg j).pwr.rcal = [] ∧ (u.rg j).bru.rcalFrozen = false) ∧
        s.replied u m 0x1104 2 0 [])) ∧
      (¬ who → Completes (.bruRcalReset m) s (fun u => u.rgn = s.rgn ∧ s.replied u m 0x1104 2 5 [])))

/-- 12 R386-R389, R405-R407, T12.3, T12.4: the training states of a port and what moves it between them: enable, detection, equalization, alignment,
PARAMS, retraining, the retry after DOWN. Where it fixes what the spec leaves open it follows logs 2, 30, 43. -/
def Obligations.PortsTrainThroughTheirStates : Prop :=
  ∀ (s : State) (p : Fin 38),
    let x := s.port p
    let goal := fun (f : Port → Port) => s.updPort p f
    let downed := fun (u : State) (c : Nat) => (u.port p).phase = .down ∧ (u.port p).failCause = BitVec.ofNat 4 c ∧ (u.port p).downs = satInc x.downs
    let dark := fun (u : State) => (u.port p).phase = .down ∧ (u.port p).downs = satInc x.downs
    (∀ (k : Fin 4) (v : W64),
      (s.priv = .pf k → s.portAbsent p = false →
        (v = 7 → x.phase = .disabled → s.mgt.pluggableLow.getLsbD p.val = false → Completes (.portEnableWrite k p v) s (fun u =>
          (u.port p).phase = .detect ∧ (u.port p).enable = true ∧ (u.port p).allowX4 = true ∧ (u.port p).allowHalf = true)) ∧
        (v = 6 → x.phase ≠ .relocating → Completes (.portEnableWrite k p v) s (fun u => (u.port p).phase = .disabled ∧ (u.port p).enable = false)) ∧
        (x.phase = .active → exec (.ctrlRetrain k p) s = .next ((goal (fun y => { y with
          phase := .retrain, retrains := satInc y.retrains, retrainCause := 0, lastParams := none })).emit (.linkctl p 2 0)))) ∧
      ((s.priv ≠ .pf k ∨ s.portAbsent p = true) → exec (.portEnableWrite k p v) s = .next s ∧ exec (.ctrlRetrain k p) s = .next s) ∧
      (x.phase ≠ .active → exec (.ctrlRetrain k p) s = .next s)) ∧
    (x.phase = .detect →
      exec (.partnerSignalDetect p) s = .next (goal (fun y => { y with phase := .equalize, narrow := y.forced })) ∧
      (∀ q : Fin 2, x.allowX4 = true → exec (.narrowDetectTimeout p q) s = .next (goal (fun y => { y with phase := .equalize, narrow := some q.val }))) ∧
      (∀ q : Fin 2, x.allowX4 = false → exec (.narrowDetectTimeout p q) s = .next s) ∧
      exec (.noPartnerTimeout p) s = .next (goal (fun y => { y with failCause := 1 }))) ∧
    (x.phase ≠ .detect → exec (.partnerSignalDetect p) s = .next s ∧ exec (.noPartnerTimeout p) s = .next s) ∧
    (x.phase = .equalize →
      exec (.equalizeDone p) s = .next (goal (fun y => { y with phase := .align })) ∧
      (x.allowHalf = true → x.half = false → exec (.equalizeTimeout p) s = .next (goal (fun y => { y with half := true }))) ∧
      ((x.allowHalf = false ∨ x.half = true) → Completes (.equalizeTimeout p) s (fun u => downed u 2))) ∧
    (x.phase ≠ .equalize → exec (.equalizeDone p) s = .next s ∧ exec (.equalizeTimeout p) s = .next s) ∧
    (x.phase = .align →
      exec (.alignDone p) s = .next ((goal (fun y => { y with phase := .params, lastParams := none, laneFaults := 0 })).emit (.linkctl p 3 0)) ∧
      Completes (.alignTimeout p none) s (fun u => downed u 3) ∧
      (∀ q : Fin 2,
        let n := if x.laneQ = q.val then x.laneFaults + 1 else 1
        (n < 3 → Completes (.alignTimeout p (some q)) s (fun u => downed u 4 ∧ (u.port p).laneFaults = n ∧ (u.port p).laneQ = q.val)) ∧
        (∀ w, 3 ≤ n → (s.core .sch).state = .running → s.candidate p q = some w → Completes (.alignTimeout p (some q)) s (fun u =>
          (u.port p).phase = .relocating ∧ (u.port p).failCause = 4 ∧ ∃ m, (u.port p).reloc = some m ∧ m.quarter = q.val ∧ m.target = w)))) ∧
    (x.phase ≠ .align → exec (.alignDone p) s = .next s ∧ exec (.alignTimeout p none) s = .next s) ∧
    (x.phase = .params →
      (∀ b : List Byte,
        (x.lastParams ≠ some b → exec (.params p b) s = .next (goal (fun y => { y with lastParams := some b }))) ∧
        (x.lastParams = some b → s.paramsCheck p b = 0 → Completes (.params p b) s (fun u => (u.port p).phase = .active ∧
          (u.port p).width = min (leAt b 9 1) (if x.narrow = none then 8 else 4) ∧ (u.port p).rate = BitVec.ofNat 2 (min (leAt b 10 1) (if x.half then 1 else 2)) ∧
          (u.port p).partnerId = BitVec.ofNat 32 (leAt b 4 4) ∧ (u.port p).pport = BitVec.ofNat 8 (leAt b 8 1))) ∧
        (x.lastParams = some b → s.paramsCheck p b ≠ 0 → Completes (.params p b) s (fun u => downed u (s.paramsCheck p b)))) ∧
      Completes (.paramsTimeout p) s dark) ∧
    (x.phase ≠ .params → (∀ b, exec (.params p b) s = .next s) ∧ exec (.paramsTimeout p) s = .next s) ∧
    (x.phase = .retrain →
      (∀ ms, x.replay = [] → Completes (.portRetrained p ms) s (fun u => (u.port p).phase = .active ∧ (u.port p).retrains = x.retrains)) ∧
      (∀ ms, x.replay ≠ [] → x.replaysRow < 8 → Completes (.portRetrained p ms) s (fun u => (u.port p).phase = .active ∧ (u.port p).replays = x.replays + 1 ∧
        ∀ e ∈ x.replay, Output.flit p e.1 e.2 ∈ u.out)) ∧
      Completes (.retrainTimeout p) s (fun u => downed u 10)) ∧
    (x.phase ≠ .retrain → (∀ ms, exec (.portRetrained p ms) s = .next s) ∧ exec (.retrainTimeout p) s = .next s) ∧
    (x.phase = .down → (∀ q, q < 2 → (s.rg (x.cur q)).wellPowered = true) → x.laneFaults < 3 → s.mgt.pluggableLow.getLsbD p.val = false →
      Completes (.downRetryTimer p) s (fun u => (u.port p).phase = .detect ∧ (u.port p).half = false)) ∧
    (x.phase ≠ .down → exec (.downRetryTimer p) s = .next s) ∧
    ((x.phase = .active ∨ x.phase = .retrain) → Completes (.partnerReset p) s (fun u => downed u 11)) ∧
    (x.phase ≠ .active → x.phase ≠ .retrain → exec (.partnerReset p) s = .next s)

/-- 12 R405-R407, T12.12: BPT_RELOCATE starts the move of a quarter to its home well, and the end of a move gives the new well the port. Where it fixes what the spec leaves open it follows logs 2, 10, 44. -/
def Obligations.PortsRelocateTheirQuarters : Prop :=
  ∀ (s : State),
    (∀ m : Msg, s.canHandle .sch 0x0C01 →
      let p := m.u8 0
      let q := m.u8 1
      let x := s.port p
      let home := homeQuarter p q
      (s.isPriv m = false → Completes (.bptRelocate m) s (fun u => u.ports = s.ports ∧ s.replied u m 0x0C01 2 5 [])) ∧
      (s.isPriv m = true → 37 < p → Completes (.bptRelocate m) s (fun u => u.ports = s.ports ∧ s.replied u m 0x0C01 2 1 [])) ∧
      (s.isPriv m = true → p ≤ 37 → q ≤ 1 → m.u8 2 = 0xFE → m.u8 3 = 0 → s.portAbsent p = false →
        (x.phase ≠ .down → x.phase ≠ .disabled → Completes (.bptRelocate m) s (fun u => u.ports = s.ports ∧ s.replied u m 0x0C01 2 4 [])) ∧
        ((x.phase = .down ∨ x.phase = .disabled) → home = x.cur q → Completes (.bptRelocate m) s (fun u => u.ports = s.ports ∧ s.replied u m 0x0C01 2 0 [])) ∧
        ((x.phase = .down ∨ x.phase = .disabled) → home ≠ x.cur q → (s.rg home).well.use ≠ 0 → Completes (.bptRelocate m) s (fun u =>
          u.ports = s.ports ∧ s.replied u m 0x0C01 2 4 [])) ∧
        ((x.phase = .down ∨ x.phase = .disabled) → home ≠ x.cur q → (s.rg home).well.use = 0 → Completes (.bptRelocate m) s (fun u => u.out = s.out ∧
          u.port p = { x with
            phase := .relocating, reloc := some { quarter := q, target := home, old := x.cur q, msg := some m, home := true } } ∧
          ∀ j, j ≠ p → u.port j = s.port j)))) ∧
    (∀ p : Fin 38,
      let x := s.port p
      (∀ mv, (s.core .sch).state = .running → x.phase = .relocating → x.reloc = some mv → mv.quarter < 2 → mv.old ≠ mv.target → Completes (.portRelocated p) s (fun u =>
        (u.port p).phase = (if x.enable then .detect else .disabled) ∧ (u.port p).reloc = none ∧ (u.port p).cur mv.quarter = mv.target ∧
        (u.port p).cur (1 - mv.quarter) = x.cur (1 - mv.quarter) ∧ (u.rg mv.old).well = {} ∧ (u.rg mv.old).wellPowered = false ∧
        (u.rg mv.target).wellPowered = true ∧ (u.rg mv.target).well.port = (if p.val < 24 then p.val else if p.val < 36 then p.val - 24 else p.val - 36) ∧
        (u.rg mv.target).well.quarter = mv.quarter ∧ (∀ m, mv.msg = some m → s.replied u m 0x0C01 2 0 []))) ∧
      (x.phase ≠ .relocating → exec (.portRelocated p) s = .next s))

/-- 12 R389-R396: DATA flits in order join messages, a bad or missing one is NAKed once, a NAK or a timeout replays what is not acknowledged, and
echoes, requests to retrain and codeword counts act as the control flits say. Where it fixes what the spec leaves open it follows logs 2, 24, 43. -/
def Obligations.PortsCarryFlitsInOrder : Prop :=
  ∀ (s : State) (p : Fin 38),
    let x := s.port p
    let replayed := fun (u : State) => (u.port p).replays = x.replays + 1 ∧ ∀ e ∈ x.replay, Output.flit p e.1 e.2 ∈ u.out
    (x.phase ≠ .active → (∀ w, exec (.dataFlitReceive p w) s = .next s) ∧ (∀ q, exec (.nak p q) s = .next s) ∧ exec (.replayTimeout p) s = .next s ∧
      exec (.retrainReq p) s = .next s ∧ (∀ c n, exec (.codewordBurst p c n) s = .next s)) ∧
    (x.phase = .active →
      (∀ w : WireFlit, w.ok = false →
        (x.nakSent = false → exec (.dataFlitReceive p w) s = .next ((s.updPort p (fun y => { y with lcrcFail := satInc x.lcrcFail, nakSent := true })).emit (.linkctl p 1 x.rxExp))) ∧
        (x.nakSent = true → exec (.dataFlitReceive p w) s = .next (s.updPort p (fun y => { y with lcrcFail := satInc x.lcrcFail })))) ∧
      (∀ w : WireFlit, w.ok = true → w.ch.toNat < 6 → w.seq.toNat ≠ x.rxExp → Completes (.dataFlitReceive p w) s (fun u =>
        (u.port p).nakSent = true ∧ (u.port p).rxExp = x.rxExp ∧ (u.port p).inbox = x.inbox ∧ (u.port p).flitsRx = x.flitsRx ∧
        (x.nakSent = false → Output.linkctl p 1 x.rxExp ∈ u.out))) ∧
      (∀ w : WireFlit, p.val < 24 → w.ok = true → w.ch.toNat < 6 → w.seq.toNat = x.rxExp →
        w.check ≠ crc32c (w.data ++ List.replicate (256 - w.data.length) 0) → Completes (.dataFlitReceive p w) s (fun u =>
          (u.port p).nakSent = true ∧ (u.port p).entryCheck = satInc x.entryCheck ∧ (u.port p).rxExp = x.rxExp ∧ (u.port p).inbox = x.inbox)) ∧
      (∀ w : WireFlit, p.val < 24 → w.ok = true → w.ch.toNat = 1 → w.seq.toNat = x.rxExp → w.som = true → w.eom = true →
        w.check = crc32c (w.data ++ List.replicate (256 - w.data.length) 0) → (tfind s.portOwner p).isSome = true → tget 0 x.rxUsed 1 < 512 → tfind x.rxOpen 1 = none →
        Completes (.dataFlitReceive p w) s (fun u => (u.port p).rxExp = (x.rxExp + 1) % 1024 ∧ (u.port p).nakSent = false ∧ (u.port p).flitsRx = x.flitsRx + 1 ∧
          (u.port p).inbox = x.inbox ++ [{ ch := 1, msg := { flits := [w.flit] } }] ∧ tget 0 (u.port p).rxUsed 1 = tget 0 x.rxUsed 1 + 1 ∧ s.memSame u)) ∧
      (∀ q : BitVec 10, x.replay ≠ [] → x.replaysRow < 8 → (∀ e ∈ x.replay, e.1 ≠ (q.toNat + 1023) % 1024) → Completes (.nak p q) s replayed) ∧
      (x.replay ≠ [] → x.replaysRow < 8 → Completes (.replayTimeout p) s replayed) ∧
      (x.replay = [] → exec (.replayTimeout p) s = .next s) ∧
      (x.replay ≠ [] → 8 ≤ x.replaysRow → Completes (.replayTimeout p) s (fun u => (u.port p).phase = .retrain ∧ (u.port p).retrainCause = 9 ∧
        (u.port p).retrains = satInc x.retrains)) ∧
      exec (.retrainReq p) s = .next (s.updPort p (fun y => { y with
        phase := .retrain, retrains := satInc y.retrains, retrainCause := 0, lastParams := none })) ∧
      (∀ (c : W32) (n : W16),
        (n.toNat ≤ 16 → exec (.codewordBurst p c n) s = .next (s.updPort p (fun y => { y with
          fecCorrected := x.fecCorrected + c, fecUncorr := satAdd x.fecUncorr n.toNat }))) ∧
        (16 < n.toNat → Completes (.codewordBurst p c n) s (fun u => (u.port p).phase = .retrain ∧ (u.port p).fecCorrected = x.fecCorrected + c ∧
          (u.port p).fecUncorr = satAdd x.fecUncorr n.toNat)))) ∧
    (∀ t : W64, (x.phase = .align ∨ x.phase = .params ∨ x.phase = .active ∨ x.phase = .retrain) → exec (.echoReq p t) s = .next (s.emit (.linkctl p 5 t.toNat))) ∧
    (∀ t : W64, (x.phase = .disabled ∨ x.phase = .detect ∨ x.phase = .down) → exec (.echoReq p t) s = .next s) ∧
    (∀ ns : W32, (x.phase = .align ∨ x.phase = .retrain) → exec (.echoRsp p ns) s = .next (s.updPort p (fun y => { y with loopNs := ns }))) ∧
    (∀ ns : W32, x.phase ≠ .align → x.phase ≠ .retrain → exec (.echoRsp p ns) s = .next s)

/-- 12 R399-R404, T12.8-T12.10: a server's CHUNK_DATA, GRAD_ACK and GRAD_DONE answer what asked for them, are counted when nothing did, and a message that
breaks the protocol is dropped; a missing acknowledgment aborts the instance; BUSY is followed by the same again. Where it fixes what the spec leaves open it follows logs 9, 23, 28, 41, 47. -/
def Obligations.ServersAnswersReachTheirRequests : Prop :=
  ∀ (s : State) (p : Fin 24) (m : InMsg) (r : List InMsg) (opened : Option (List Byte)),
    let b := m.bytes
    let taken := fun (u : State) => (u.port p).inbox = r
    let strange := fun (u : State) => taken u ∧ (u.port p).unsolicited = satInc (s.port p).unsolicited ∧ u.fetches = s.fetches ∧ u.insts = s.insts
    let mine := fun (f : Fetch) => f.sent = true ∧ f.port = some p.val ∧ f.reqId = leAt b 8 8 ∧ f.key.page = leAt b 32 4 ∧ f.key.chunk = leAt b 36 1
    ((s.port p).inbox = [] → exec (.chunkData p opened) s = .next s ∧ exec (.gradAck p) s = .next s ∧ exec (.gradDone p) s = .next s) ∧
    ((s.port p).inbox = m :: r →
      (protoBad m.ch b = true → Completes (.chunkData p opened) s (fun u => taken u ∧ (u.port p).protoErr = satInc (s.port p).protoErr ∧ u.fetches = s.fetches)) ∧
      (protoBad m.ch b = false → leAt b 0 2 = 2 →
        ((∀ f ∈ s.fetches, ¬ mine f) → Completes (.chunkData p opened) s strange) ∧
        (∀ f, s.fetches = [f] → mine f → leAt b 19 1 = 1 → f.waiters = [] → f.keep = none → f.tier = 3 → Completes (.chunkData p opened) s (fun u =>
          taken u ∧ u.fetches = [] ∧ (u.port p).unsolicited = (s.port p).unsolicited)) ∧
        (∀ f, s.fetches = [f] → mine f → leAt b 19 1 = 3 → Completes (.chunkData p opened) s (fun u => taken u ∧
          ∃ g, u.fetches = [g] ∧ g.key = f.key ∧ g.busy = true ∧ g.sent = false ∧ g.waiters = f.waiters))) ∧
      (protoBad m.ch b = false → leAt b 0 2 = 0x20 →
        let holds := fun (x : Inst) => x.gradient = true ∧ x.seg.wport = p.val ∧ x.failed = none ∧ ∃ f ∈ x.frames, f.reqId = leAt b 8 8
        ((∀ x ∈ s.insts, ¬ holds x) → Completes (.gradAck p) s strange) ∧
        (∀ x, s.insts = [x] → holds x → x.egress = [] → leAt b 19 1 = 0 → Completes (.gradAck p) s (fun u => taken u ∧
          ∃ y, u.findInst x.id = some y ∧ y.failed = none ∧ ∀ f ∈ y.frames, f ∈ x.frames ∧ f.reqId ≠ leAt b 8 8)) ∧
        (∀ x, s.insts = [x] → holds x → leAt b 19 1 = 2 → Completes (.gradAck p) s (fun u => taken u ∧
          ∃ y, u.findInst x.id = some y ∧ ∀ f ∈ y.frames, f.reqId = leAt b 8 8 → f.busy = true))) ∧
      (protoBad m.ch b = false → leAt b 0 2 = 0x21 →
        let waits := fun (x : Inst) => x.gradient = true ∧ x.seg.wport = p.val ∧ x.failed = none ∧ x.done = false ∧ x.openReq = leAt b 8 8
        ((∀ x ∈ s.insts, ¬ waits x) → Completes (.gradDone p) s strange) ∧
        (∀ x, s.insts = [x] → waits x → x.closeSent = true → leAt b 19 1 = 0 → Completes (.gradDone p) s (fun u => taken u ∧ u.insts = [{ x with done := true }])) ∧
        (∀ x, s.insts = [x] → waits x → x.closeSent = true → leAt b 19 1 = 2 → Completes (.gradDone p) s (fun u => taken u ∧
          u.insts = [{ x with closeBusy := true }])) ∧
        (∀ x, s.insts = [x] → waits x → x.closeSent = false → leAt b 19 1 = 0 → Completes (.gradDone p) s strange))) ∧
    (∀ (i : Nat) (x : Inst), s.findInst i = some x →
      (x.gradient = true → (x.frames ≠ [] ∨ x.closeSent = true ∧ x.done = false) → x.failed = none → x.ended = none → Completes (.gradAckTimeout i) s (fun u =>
        ∃ y, u.findInst i = some y ∧ y.failed = some (4, 2))) ∧
      (x.frames = [] → x.closeSent = false → exec (.gradAckTimeout i) s = .next s) ∧
      (x.failed = none → ∀ f, x.frames = [f] → f.busy = true → Completes (.gradBusyResend i) s (fun u => ∃ y, u.findInst i = some y ∧
        y.frames = [{ f with busy := false }])) ∧
      ((x.failed ≠ none ∨ (∀ f ∈ x.frames, f.busy = false) ∧ x.closeBusy = false) → exec (.gradBusyResend i) s = .next s))

/-- 10 R322, R344-R346, T10.10: a COPY of 64 bytes between tiles, from and to the host, and into a T2 object; its checks; TIER_PREFETCH pins a resident
page and TIER_RELEASE discards or unpins one. Where it fixes what the spec leaves open it follows logs 9, 38, 39. -/
def Obligations.CopiesAndTierOperationsEnd : Prop :=
  ∀ (s : State) (i : Nat) (host : List Byte) (o : Op), s.findOp i = some o → o.st = .started →
    let ep : Ep := .vf (Fin.ofNat 12 o.part)
    let sv := o.le 16 8
    let dv := o.le 24 8
    let place := fun (v : Nat) => ((v / 2 ^ 48 % 512) * 288 + v / 2 ^ 32 % 512, v % 2 ^ 20)
    let src := place sv
    let dst := place dv
    (o.opcode = 0x20 → tfind s.opProg i = none →
      (o.le 32 8 = 0 → Completes (.copy i host) s (fun u => s.opEnds u i 0 0 ∧ s.memSame u ∧ u.out = s.out)) ∧
      (∀ st d, o.le 32 8 ≠ 0 → s.copyCheck o = some (st, d) → Completes (.copy i host) s (fun u => s.opEnds u i st d ∧ s.memSame u ∧ u.out = s.out)) ∧
      (o.le 32 8 = 64 → s.copyCheck o = none →
        (o.byte 40 = 2 → o.byte 41 = 2 → Completes (.copy i host) s (fun u =>
          s.opEnds u i (if s.sramBad src.1 src.2 64 then 9 else 0) 0 ∧ u.sramBytes dst.1 dst.2 64 = s.sramBytes src.1 src.2 64 ∧
          u.sramBad dst.1 dst.2 64 = s.sramBad src.1 src.2 64 ∧ u.tiles = s.tiles ∧ u.slices = s.slices ∧ u.flash = s.flash ∧ u.out = s.out)) ∧
        (o.byte 40 = 0 → o.byte 41 = 2 → s.canWrite ep = true → host.length = 64 → Completes (.copy i host) s (fun u =>
          s.opEnds u i 0 0 ∧ u.sramBytes dst.1 dst.2 64 = host ∧ u.tiles = s.tiles ∧ u.slices = s.slices ∧ u.flash = s.flash ∧ u.out = s.out)) ∧
        (o.byte 40 = 0 → o.byte 41 = 2 → s.canWrite ep = true → host.length < 64 → Completes (.copy i host) s (fun u =>
          s.memSame u ∧ u.ops = s.ops ∧ tfind u.opProg i = some {})) ∧
        (o.byte 40 = 2 → o.byte 41 = 0 → s.canWrite ep = true → s.sramBad src.1 src.2 64 = false → Completes (.copy i host) s (fun u =>
          s.opEnds u i 0 0 ∧ s.memSame u ∧ u.out = .hostWrite ep dv (s.sramBytes src.1 src.2 64) :: s.out)) ∧
        (∀ x, o.byte 40 = 0 → o.byte 41 = 4 → s.canWrite ep = true → host.length = 64 → tfind (s.pt o.part).mem.objs (dv / 2 ^ 40 % 4096) = some x →
          Completes (.copy i host) s (fun u => s.opEnds u i 0 0 ∧ u.flash.readN (x.block * 65536 + dv % 2 ^ 40) 64 = host ∧ u.sram = s.sram ∧ u.slices = s.slices)))) ∧
    (let n := o.part
     let page := sv / 2 ^ 21
     (o.opcode = 0x21 → tfind s.opProg i = none →
       ((∃ k, k < o.le 24 4 ∧ s.mapped n (page + k) = false) → Completes (.tierPrefetch i) s (fun u => s.opEnds u i 2 0 ∧ s.memSame u ∧ u.part = s.part)) ∧
       (∀ e, o.le 24 4 = 1 → s.homeOf n page = .obj e → e.ppa ≠ none → e.chunks = BitVec.allOnes 32 → Completes (.tierPrefetch i) s (fun u =>
         s.opEnds u i 0 0 ∧ s.memSame u ∧ u.pte n page = some (if o.byte 28 % 2 = 1 then { e with pin := true } else e)))) ∧
     (o.opcode = 0x22 → tfind s.opProg i = none → o.le 24 4 = 1 →
       (∀ e, s.homeOf n page = .obj e → o.byte 28 = 1 → Completes (.tierRelease i) s (fun u => s.opEnds u i 0 0 ∧ s.memSame u ∧
         u.pte n page = some { e with pin := false })) ∧
       (∀ e, s.homeOf n page = .obj e → o.byte 28 = 0 → e.ppa ≠ none → s.pageBusy n page = false → Completes (.tierRelease i) s (fun u => s.opEnds u i 0 1 ∧
         u.pte n page = some { e with ppa := none, chunks := 0, pin := false } ∧ (u.pt n).mem.discarded = (s.pt n).mem.discarded + 1)) ∧
       (∀ e, s.homeOf n page = .anon e → o.byte 28 = 2 → e.ppa ≠ none → Completes (.tierRelease i) s (fun u => s.opEnds u i 0 1 ∧
         u.pte n page = some { e with ppa := none, lost := false })) ∧
       (∀ e, s.homeOf n page = .anon e → o.byte 28 = 0 → Completes (.tierRelease i) s (fun u => s.opEnds u i 0 0 ∧ u.pte n page = s.pte n page))))

/-- 10 R317, R322, R324, R332, R333, R347, T10.3, T10.17: the private split and the quotas, and the MEM_ messages on a partition's page table, objects and
backings. Where it fixes what the spec leaves open it follows logs 10, 39. -/
def Obligations.PageTablesAndObjectsFollowTheirMessages : Prop :=
  ∀ (s : State),
    (∀ (k : Fin 4) (n : Fin 12) (v : W64),
      let m := (s.pt n).mem
      let p := v.toNat % 512
      ((s.priv ≠ .pf k ∨ (s.pt n).state = .free) → exec (.privateSlotsWrite k n v) s = .next s ∧ ∀ t3, exec (.quotaWrite k n t3 v) s = .next s) ∧
      (384 < p → exec (.privateSlotsWrite k n v) s = .next s) ∧
      (s.priv = .pf k → (s.pt n).state ≠ .free →
        (p ≤ m.privateSlots → p ≤ 384 → exec (.privateSlotsWrite k n v) s = .next (s.updM n (fun x => { x with privateSlots := p, refused := false }))) ∧
        (m.privateSlots < p → p ≤ 384 → (s.allocatedPpas n).any (withdrawn m.privateSlots p) = true →
          exec (.privateSlotsWrite k n v) s = .next (s.updM n (fun x => { x with refused := true }))) ∧
        (m.privateSlots < p → p ≤ 384 → (s.allocatedPpas n).any (withdrawn m.privateSlots p) = false → Completes (.privateSlotsWrite k n v) s (fun u =>
          (u.pt n).mem.privateSlots = p ∧ (u.pt n).mem.refused = false)) ∧
        Completes (.quotaWrite k n true v) s (fun u => (u.pt n).mem.quotaT3 = v.toNat % 2 ^ 23 ∧ (u.pt n).mem.pages = m.pages ∧ (u.pt n).mem.quotaT1 = m.quotaT1) ∧
        Completes (.quotaWrite k n false v) s (fun u => (u.pt n).mem.quotaT1 = v.toNat % 2 ^ 24 ∧ (u.pt n).mem.quotaT3 = m.quotaT3 ∧
          (u.pt n).mem.quotaT2 = (if s.hasFlash then v.toNat / 2 ^ 24 % 2 ^ 31 else m.quotaT2)))) ∧
    (∀ (m : Msg) (n : Nat), m.part = some n →
      let q := (s.pt n).mem
      let base := m.u64 8
      let count := m.u32 16
      let fits := count ≠ 0 ∧ base + count ≤ 2 ^ 27 ∧ q.pagesMeet base count = false ∧ s.grantOverlaps n base count = false ∧
        (s.pt n).mirror.reserves base count = false ∧ q.pages.length + count ≤ 4194304
      let mapped := fun (u : State) (f : Nat → Pte) => (∀ i, i < count → u.pte n (base + i) = some (f i)) ∧
        (∀ j, (j < base ∨ base + count ≤ j) → u.pte n j = s.pte n j) ∧ s.memSame u
      let h := m.u16 20
      let h2 := m.u16 2
      let b := (List.range 32).map (fun i => byteAt m.payload (8 + i))
      let d := objDesc b
      (s.canHandle .sch 0x0A01 →
        (fits → h = 0xFFFF → m.u32 24 = 0 → Completes (.memMap m) s (fun u => mapped u (fun _ => {}) ∧ s.replied u m 0x0A01 2 0 [])) ∧
        (∀ o, fits → h ≠ 0xFFFF → tfind q.objs h = some o → o.tier = 3 → m.u32 24 + count ≤ o.pages → overLimit (q.useT3 + count) q.limitT3 = false →
          Completes (.memMap m) s (fun u => mapped u (fun i => { back := 3, ref := h, opage := m.u32 24 + i }) ∧ s.replied u m 0x0A01 2 0 [])) ∧
        ((count = 0 ∨ 2 ^ 27 < base + count ∨ q.pagesMeet base count = true) → Completes (.memMap m) s (fun u => (u.pt n).mem = q ∧
          s.replied u m 0x0A01 2 1 []))) ∧
      (s.pagesInUse n base count = true → exec (.memUnmap m) s = .next s) ∧
      (s.canHandle .sch 0x0A02 → s.pagesInUse n base count = false → Completes (.memUnmap m) s (fun u =>
        (∀ j, base ≤ j → j < base + count → u.pte n j = none) ∧ (∀ j, (j < base ∨ base + count ≤ j) → u.pte n j = s.pte n j) ∧ s.memSame u ∧
        s.replied u m 0x0A02 2 0 [])) ∧
      (s.canHandle .sch 0x0A03 →
        (h2 ≤ 4095 → s.objDescOk b = true → tfind q.objs h2 = none → d.tier = 3 → Completes (.memObjCreate m) s (fun u =>
          tfind (u.pt n).mem.objs h2 = some {
            tier := 3, pages := d.pages, server := BitVec.ofNat 16 d.server, loc := BitVec.ofNat 64 d.loc, t2Bytes := 0, sealed' := true, block := 0
            blocks := 0 } ∧ s.replied u m 0x0A03 2 0 [])) ∧
        (∀ k, h2 ≤ 4095 → s.objDescOk b = true → tfind q.objs h2 = none → d.tier = 2 → q.useT2 + (d.t2Bytes + 65535) / 65536 ≤ q.quotaT2 →
          s.t2Run ((d.t2Bytes + 65535) / 65536) = some k → Completes (.memObjCreate m) s (fun u =>
            (∃ o, tfind (u.pt n).mem.objs h2 = some o ∧ o.tier = 2 ∧ o.sealed' = false ∧ o.block = k ∧ o.blocks = (d.t2Bytes + 65535) / 65536 ∧
              o.t2Bytes = d.t2Bytes ∧ o.pages = d.pages) ∧ s.replied u m 0x0A03 2 0 [])) ∧
        (h2 ≤ 4095 → s.objDescOk b = true → tfind q.objs h2 ≠ none → Completes (.memObjCreate m) s (fun u => (u.pt n).mem = q ∧ s.replied u m 0x0A03 2 4 [])) ∧
        ((4095 < h2 ∨ s.objDescOk b = false) → Completes (.memObjCreate m) s (fun u => (u.pt n).mem = q ∧ s.replied u m 0x0A03 2 1 []))) ∧
      (s.filling n h2 = true → exec (.memObjSeal m) s = .next s) ∧
      (s.canHandle .sch 0x0A04 → s.filling n h2 = false →
        (∀ o, tfind q.objs h2 = some o → o.sealed' = false → Completes (.memObjSeal m) s (fun u => tfind (u.pt n).mem.objs h2 = some { o with sealed' := true } ∧
          s.replied u m 0x0A04 2 0 [])) ∧
        (∀ o, tfind q.objs h2 = some o → o.sealed' = true → Completes (.memObjSeal m) s (fun u => (u.pt n).mem = q ∧ s.replied u m 0x0A04 2 1 []))) ∧
      (s.canHandle .sch 0x0A05 → tfind q.objs h2 ≠ none →
        (q.refers h2 = true → Completes (.memObjDestroy m) s (fun u => (u.pt n).mem = q ∧ s.replied u m 0x0A05 2 4 [])) ∧
        (q.refers h2 = false → s.filling n h2 = false → Completes (.memObjDestroy m) s (fun u => tfind (u.pt n).mem.objs h2 = none ∧
          (∀ j, j ≠ h2 → tfind (u.pt n).mem.objs j = tfind q.objs j) ∧ s.replied u m 0x0A05 2 0 [])))) ∧
    (∀ m : Msg, s.canHandle .sch 0x0A06 →
      let i := m.u8 0
      let b := (List.range 32).map (fun k => byteAt m.payload (8 + k))
      let d := objDesc b
      (s.isPriv m = false → Completes (.memSharedBack m) s (fun u => u.backing = s.backing ∧ s.replied u m 0x0A06 2 5 [])) ∧
      (∀ r, s.isPriv m = true → tfind s.sec.shared i = some r → r.home = none → m.u8 1 = 0 → s.objDescOk b = true → d.tier = 3 →
        (∀ g ∈ s.sec.grants, g.shared ≠ i) → Completes (.memSharedBack m) s (fun u =>
          tfind u.backing i = some {
            tier := 3, pages := d.pages, server := BitVec.ofNat 16 d.server, loc := BitVec.ofNat 64 d.loc, t2Bytes := 0, sealed' := true, block := 0
            blocks := 0 } ∧ s.replied u m 0x0A06 2 0 [])) ∧
      (∀ r, s.isPriv m = true → tfind s.sec.shared i = some r → r.home ≠ none → Completes (.memSharedBack m) s (fun u => u.backing = s.backing ∧
        s.replied u m 0x0A06 2 1 []))) ∧
    (∀ m : Msg, s.canHandle .sch 0x0A07 →
      let n := m.u8 0
      let l := rectRegions (m.u8 1) (m.u8 2) (m.u8 3) (m.u8 4)
      let ok' := s.isPriv m = true ∧ n ≤ 11 ∧ (s.pt n).state ≠ .free ∧ rectValid (m.u8 1) (m.u8 2) (m.u8 3) (m.u8 4) = true
      (s.isPriv m = false → Completes (.memEvacuate m) s (fun u => (∀ j, (u.pt j).mem = (s.pt j).mem) ∧ s.memSame u ∧ s.replied u m 0x0A07 2 5 [])) ∧
      (ok' → s.homePages n = [] → (s.pt n).mirror.pages = [] → ∀ page e old, (s.pt n).mem.pages = [(page, e)] → e.back = 0 → e.ppa = some old →
        (ppaRegion old ∉ l → Completes (.memEvacuate m) s (fun u => u.pte n page = some e ∧ s.memSame u ∧ s.replied u m 0x0A07 2 0 [])) ∧
        (∀ new, ppaRegion old ∈ l → s.placePage n none l = some new → Completes (.memEvacuate m) s (fun u => u.pte n page = some { e with ppa := some new } ∧
          s.replied u m 0x0A07 2 0 [])) ∧
        (ppaRegion old ∈ l → s.placePage n none l = none → Completes (.memEvacuate m) s (fun u => u.pte n page = some e ∧ s.memSame u ∧
          s.replied u m 0x0A07 2 6 []))))

/-- 11 R355-R364, R371-R376, T11.4-T11.8, T11.12, T11.14: WEIGHT_BUILD makes a slot READY, SWAP is accepted and takes effect at its point, PUBLISH writes the
table of a shared region; slots and relays are cleared and set by message. Where it fixes what the spec leaves open it follows logs 9, 10, 12, 41. -/
def Obligations.WeightSlotsBuildSwapAndPublish : Prop :=
  ∀ (s : State),
    (∀ (i : Nat) (o : Op), s.findOp i = some o → o.st = .started → tfind s.opProg i = none →
      let n := o.part
      let slot := fun (u : State) (k : Nat) => (u.pt n).slot k
      (o.opcode = 0x30 → (s.core .sch).state = .running → o.byte 17 = 0 → ∀ k, s.buildSlot n (o.byte 16) = some k →
        Completes (.weightBuild i none) s (fun u => s.opEnds u i 2 0 ∧ ∀ j, slot u j = slot s j) ∧
        (∀ b : List Byte, 64 ≤ b.length → (let c := leAt b 8 4; 1 ≤ c → c ≤ 4096 → 64 + 64 * c ≤ b.length) →
          (∀ st d e, s.buildCheck o k b = some (st, d, e) → Completes (.weightBuild i (some b)) s (fun u => s.opEnds u i st d ∧ ∀ j, slot u j = slot s j)) ∧
          (s.buildCheck o k b = none → o.byte 18 = 2 → Completes (.weightBuild i (some b)) s (fun u => s.opEnds u i 0 0 ∧ s.memSame u ∧
            (slot u k).state = .ready ∧ (slot u k).gen = BitVec.ofNat 32 (o.le 20 4) ∧ (slot u k).tag = BitVec.ofNat 64 (leAt b 16 8) ∧
            (slot u k).segs = (manEntries b).map parseSeg ∧ (slot u k).base = o.byte 19 ∧ ∀ j, j ≠ k → slot u j = slot s j)))) ∧
      (o.opcode = 0x31 → o.byte 16 = 0 →
        let k := o.byte 17
        let t := slot s k
        (k < 2 → t.state ≠ .ready → t.state ≠ .inactive → Completes (.weightSwap i) s (fun u => s.opEnds u i 8 0x138 ∧ u.part = s.part)) ∧
        (k < 2 → (t.state = .ready ∨ t.state = .inactive) → o.byte 18 = 0 → (s.pt n).wgt.batchEn = false → Completes (.weightSwap i) s (fun u =>
          s.opEnds u i 8 0x139 ∧ u.part = s.part)) ∧
        (k < 2 → (t.state = .ready ∨ t.state = .inactive) → o.byte 18 = 0 → (s.pt n).wgt.batchEn = true → (s.pt n).wgt.swap ≠ none →
          Completes (.weightSwap i) s (fun u => s.opEnds u i 8 0x13A ∧ u.part = s.part)) ∧
        (k < 2 → (t.state = .ready ∨ t.state = .inactive) → o.byte 18 = 0 → (s.pt n).wgt.batchEn = true → (s.pt n).wgt.swap = none →
          Completes (.weightSwap i) s (fun u => (u.pt n).wgt.swap = some { op := i, target := decide (k = 1), when' := 0, tick := BitVec.ofNat 48 (o.le 24 6), fired := false } ∧
            u.ops = s.ops ∧ ∀ j, slot u j = slot s j))) ∧
      (o.opcode = 0x32 → (s.core .sch).state = .running → (s.core .sec).state = .running →
        (∀ st d, s.publishCheck o = some (st, d) → Completes (.publish i) s (fun u => s.opEnds u i st d ∧ u.pubs = s.pubs ∧ s.memSame u)) ∧
        (s.publishCheck o = none → (slot s (o.byte 16)).shared = [] → Completes (.publish i) s (fun u => s.opEnds u i 0 0 ∧ s.memSame u ∧
          u.pub (o.byte 17) = { valid := true, publishing := false, gen := BitVec.ofNat 32 (o.le 20 4), tag := BitVec.ofNat 64 (o.le 24 8), entries := [] } ∧
          (∀ m k, m < 12 → k < 2 → ((s.pt m).slot k).state = .inactive → ((s.pt m).slot k).base = o.byte 17 → ((u.pt m).slot k).state = .empty) ∧
          (∀ j, j ≠ o.byte 17 → u.pub j = s.pub j))))) ∧
    (∀ (n : Fin 12),
      let p := s.pt n
      let slot := fun (u : State) (k : Nat) => (u.pt n).slot k
      (p.wgt.swap = none → exec (.swapPoint n) s = .next s) ∧
      (∀ w, p.wgt.swap = some w →
        let k := w.target.toNat
        let due := if w.when' = 1 then s.tickReached w.tick = true else w.fired = true
        let swapped := fun (u : State) => (slot u k).state = .active ∧ (slot u k).segs = (slot s k).segs ∧ (u.pt n).wgt.swap = none ∧
          (u.pt n).wgt.swaps = p.wgt.swaps + 1 ∧ (u.pt n).wgt.holdOpens = false ∧ s.memSame u
        (¬ due → exec (.swapPoint n) s = .next s) ∧
        (∀ o, due → s.slotIn n .active = none → (slot s (1 - k)).state ≠ .draining → s.findOp w.op = some o → Completes (.swapPoint n) s (fun u => swapped u ∧
          s.opEnds u w.op 0 (slot s k).gen.toNat)) ∧
        (due → s.slotIn n .active = some (1 - k) →
          ((∃ x ∈ s.insts, x.part = n.val ∧ x.slot = decide (1 - k = 1) ∧ x.ended = none) → Completes (.swapPoint n) s (fun u => swapped u ∧
            (slot u (1 - k)).state = .draining)) ∧
          ((∀ x ∈ s.insts, x.part = n.val → x.slot = decide (1 - k = 1) → x.ended ≠ none) → Completes (.swapPoint n) s (fun u => swapped u ∧
            (slot u (1 - k)).state = .inactive))))) ∧
    (∀ (m : Msg) (n : Nat) (members : Option (List W32)), m.part = some n →
      let w := (s.pt n).wgt
      let k := m.u8 1
      let h := m.u16 2
      (s.canHandle .sch 0x0B01 →
        (1 < k → Completes (.wgtSlotClear m) s (fun u => (u.pt n).wgt = w ∧ s.replied u m 0x0B01 2 1 [])) ∧
        (k ≤ 1 → ((s.pt n).slot k).state ∈ [SlotState.building, .active, .draining] → Completes (.wgtSlotClear m) s (fun u => (u.pt n).wgt = w ∧
          s.replied u m 0x0B01 2 4 [])) ∧
        (k ≤ 1 → ((s.pt n).slot k).state ∈ [SlotState.empty, .ready, .inactive] → Completes (.wgtSlotClear m) s (fun u => (u.pt n).slot k = {} ∧
          (∀ j, j ≠ k → (u.pt n).slot j = (s.pt n).slot j) ∧ s.replied u m 0x0B01 2 0 []))) ∧
      (s.canHandle .sch 0x0B02 → ∀ o, tfind (s.pt n).mem.objs h = some o →
        (o.tier = 3 → k ≤ 1 → m.u16 4 ≤ 1023 → m.u32 12 = 0 → m.u32 8 < 2 ^ 18 → m.u32 32 = 0 → m.u64 24 = 0 → m.u32 36 = 0 →
          Completes (.wgtRelaySet m members) s (fun u => tfind (u.pt n).wgt.relays h = some {
            sink := decide (k = 1), group := m.u16 4, mcast := BitVec.ofNat 16 (m.u16 6), source := BitVec.ofNat 18 (m.u32 8), members := []
            start := 0, period := 0, length := 0 } ∧ (∀ j, j ≠ h → tfind (u.pt n).wgt.relays j = tfind w.relays j) ∧ s.replied u m 0x0B02 2 0 [])) ∧
        (o.tier ≠ 3 → Completes (.wgtRelaySet m members) s (fun u => (u.pt n).wgt = w ∧ s.replied u m 0x0B02 2 1 []))) ∧
      (s.canHandle .sch 0x0B03 →
        (tfind w.relays h = none → Completes (.wgtRelayClear m) s (fun u => (u.pt n).wgt = w ∧ s.replied u m 0x0B03 2 1 [])) ∧
        (tfind w.relays h ≠ none → Completes (.wgtRelayClear m) s (fun u => tfind (u.pt n).wgt.relays h = none ∧
          (∀ j, j ≠ h → tfind (u.pt n).wgt.relays j = tfind w.relays j) ∧ s.replied u m 0x0B03 2 0 []))))

/-- 11 R356, R365-R370, R377, R378, 09 R300: a STREAM opens the instances of the ACTIVE slot and ends with the last; host frames and relayed frames answer
their fetches, a fallback turns a SINK's wait into a request, an open window sends what waited. Where it fixes what the spec leaves open it follows logs 2, 9, 41, 47. -/
def Obligations.StreamsOpenAndFramesArrive : Prop :=
  ∀ (s : State),
    (∀ (i : Nat) (o : Op), s.findOp i = some o → o.st = .started → o.opcode = 0x31 → o.byte 16 = 1 → (∀ x ∈ s.streamOps, x.op ≠ i) →
      (s.slotIn o.part .active = none → Completes (.stream i) s (fun u => s.opEnds u i 8 0x136 ∧ u.streamOps = s.streamOps)) ∧
      (s.slotIn o.part .active ≠ none → exec (.stream i) s = .next { s with
        streamOps := s.streamOps ++ [{ op := i, part := o.part, next := o.le 20 2, stop := o.le 20 2 + o.le 22 2 }] })) ∧
    (∀ (i : Nat) (x : StreamOp) (k : Nat) (g : WSeg), s.streamOps.find? (fun y => y.op == i) = some x →
      (x.halted = true ∨ x.stop ≤ x.next → exec (.streamInstanceOpen i) s = .next s) ∧
      (x.halted = false → x.next < x.stop → (s.core .sch).state = .running →
        ((s.pt x.part).wgt.holdOpens = true → Completes (.streamInstanceOpen i) s (fun u => u.insts = s.insts ∧ u.nextInst = s.nextInst)) ∧
        ((s.pt x.part).wgt.holdOpens = false → s.slotIn x.part .active = some k → ((s.pt x.part).slot k).segs[x.next]? = some g →
          (g.kind = 1 → (∀ y ∈ s.insts, y.part = x.part → y.stream = x.next → y.ended ≠ none) → s.roomFor (s.newInst x k g) = true →
            Completes (.streamInstanceOpen i) s (fun u => u.insts = s.insts ++ [s.newInst x k g] ∧ u.nextInst = s.nextInst + 1 ∧ s.memSame u ∧
              u.streamOps.find? (fun y => y.op == i) = some { x with
                next := x.next + 1, gen := ((s.pt x.part).slot k).gen, waitSince := none, heldSince := none })) ∧
          (g.kind = 1 → (∀ y ∈ s.insts, y.part = x.part → y.stream = x.next → y.ended ≠ none) → s.roomFor (s.newInst x k g) = false →
            Completes (.streamInstanceOpen i) s (fun u => u.insts = s.insts ∧ u.nextInst = s.nextInst)) ∧
          (g.kind = 0 → x.status = none → (∀ y ∈ s.insts, y.op = i → y.ended ≠ none) → (s.findOp i).isSome = true →
            Completes (.streamInstanceOpen i) s (fun u => s.opEnds u i 8 0x137 ∧ u.insts = s.insts))))) ∧
    (∀ (i : Nat) (x : Inst), s.findInst i = some x → x.gradient = false → x.ended = none →
      (x.failed = none → x.sent ≠ x.granules → exec (.streamInstanceClose i) s = .next s) ∧
      (x.failed = none → x.sent = x.granules → Completes (.streamInstanceClose i) s (fun u => (∃ y, u.findInst i = some y ∧ y.ended = some (0, x.gen)) ∧
        s.memSame u ∧ ∀ y, s.streamOps.find? (fun z => z.op == x.op) = some y → y.stop ≤ y.next → y.status = none → (s.findOp x.op).isSome = true →
          (∀ z ∈ s.insts, z.op = x.op → z.ended = none → z.id = i) → s.opEnds u x.op 0 y.gen.toNat)) ∧
      (∀ st d, x.failed = some (st, d) → st ≠ 0 → Completes (.streamInstanceClose i) s (fun u => (∃ y, u.findInst i = some y ∧ y.ended = some (st, d)) ∧
        (u.pt x.part).wgt.aborts = satInc (s.pt x.part).wgt.aborts ∧ (u.pt x.part).wgt.lastStatus = st))) ∧
    (∀ (k : ChunkKey) (len : W32) (fr : List Byte) (opened : Option (List Byte)),
      ((∀ f ∈ s.fetches, f.key ≠ k) → exec (.hostFrameReadDone k len fr opened) s = .next s) ∧
      (∀ f, s.fetches = [f] → f.key = k → f.tier ≠ 4 → exec (.hostFrameReadDone k len fr opened) s = .next s) ∧
      (∀ f j, s.fetches = [f] → f.key = k → f.tier = 4 → f.keep = none → f.waiters = [.op j] → len = 0 → Completes (.hostFrameReadDone k len fr opened) s (fun u =>
        u.fetches = [] ∧ u.passed = s.passed ++ [{ key := k, data := List.replicate chunkSize 0, waiters := [.op j] }] ∧ s.memSame u)) ∧
      (∀ f b j, s.fetches = [f] → f.key = k → f.tier = 4 → f.keep = none → f.waiters = [.op j] → len ≠ 0 → s.frameCheck f.n k fr len.toNat opened = .plain b →
        Completes (.hostFrameReadDone k len fr opened) s (fun u => u.fetches = [] ∧ u.passed = s.passed ++ [{ key := k, data := b, waiters := [.op j] }] ∧ s.memSame u))) ∧
    (∀ (n : Fin 12) (fr : List Byte) (opened : Option (List Byte)),
      (s.relayFetch n fr = none → exec (.relayFrameReceive n fr opened) s = .next (s.updP n (fun p => { p with
        wgt := { p.wgt with unsolicited := satInc p.wgt.unsolicited } }))) ∧
      (s.relayFetch n fr ≠ none → Completes (.relayFrameReceive n fr opened) s (fun u => (u.pt n).wgt.relayed = (s.pt n).wgt.relayed + 1 ∧
        (u.pt n).wgt.unsolicited = (s.pt n).wgt.unsolicited))) ∧
    (∀ (k : ChunkKey),
      ((∀ f ∈ s.fetches, f.key = k → f.relay = false) → exec (.relayFallback k) s = .next s) ∧
      (∀ f, s.fetches = [f] → f.key = k → f.relay = true → Completes (.relayFallback k) s (fun u => (u.pt f.n).wgt.fallbacks = satInc (s.pt f.n).wgt.fallbacks ∧
        ∃ g, u.fetches = [g] ∧ g.key = k ∧ g.relay = false ∧ g.waiters = f.waiters))) ∧
    (∀ (n : Fin 12) (h : Fin 4096),
      (tfind (s.pt n).wgt.relays h = none → exec (.fetchWindowOpen n h) s = .next s) ∧
      (∀ f o q, tfind (s.pt n).wgt.relays h ≠ none → s.fetches = [f] → s.srcObj f.key.src = some o → f.tier = 3 → f.sent = false → f.busy = false → f.relay = false →
        s.windowOpen f.key.src = true → s.wportFor f.n = some q → s.reqOut q < s.proto.reqMax.toNat → Completes (.fetchWindowOpen n h) s (fun u =>
          u.fetches = [{ f with sent := true, port := some q, reqId := s.nextReq }] ∧ u.nextReq = s.nextReq + 1)))

/-- 14 R441-R457, T14.5, T14.10: a COLLECTIVE on a FREE or ABORTED group ends at once; one that keeps its checks runs; on a group of one tile the five data
collectives put SRC at DST and end OK with their sequence number, and a BARRIER without children and parent ends likewise. 14 R443-R446, R463, R464, T14.2: GROUP_FORM, DESTROY and GROUP_REFORM: their refusals, a group whose root is this module and that has no children is READY
at once, a member with a parent reports and waits. Where it fixes what the spec leaves open it follows logs 29, 32, 48, 49. -/
def Obligations.CollectivesRunAndGroupsForm : Prop :=
  (
  ∀ (s : State) (i : Nat) (o : Op), s.findOp i = some o → o.st = .started → o.opcode = 0x40 → (s.core .sch).state = .running →
    let n := o.part
    let g := o.byte 16
    let x := s.grp n g
    let fresh := (∀ j ∈ x.queue, j ≠ i) ∧ (∀ c, x.run = some c → c.op ≠ i)
    let data : List (Instr × Nat) := [(.allReduce i, 0), (.reduceScatter i, 1), (.allGather i, 2), (.broadcast i, 3), (.reduce i, 4)]
    let all : List (Instr × Nat) := data ++ [(.barrier i, 5)]
    let ended := fun (u : State) => s.opEnds u i 0 (x.started + 1).toNat ∧ (u.grp n g).state = .ready ∧ (u.grp n g).run = none ∧
      (u.grp n g).seq = x.seq + 1 ∧ (u.grp n g).started = x.started + 1 ∧ (u.pt n).col.opsOk = (s.pt n).col.opsOk + 1
    (∀ e ∈ all, o.byte 17 ≠ e.2 → exec e.1 s = .next s) ∧
    (∀ e ∈ all, o.byte 17 = e.2 → fresh →
      (x.state = .free → Completes e.1 s (fun u => s.opEnds u i 8 0x148 ∧ u.part = s.part)) ∧
      (x.state = .aborted → Completes e.1 s (fun u => s.opEnds u i 1 (s.tor.id.toNat + 8 * 2 ^ 24) ∧ u.part = s.part)) ∧
      (∀ st d, x.state = .ready ∨ x.state = .running → s.collCheck o x = some (st, d) → Completes e.1 s (fun u => s.opEnds u i st d ∧ u.part = s.part)) ∧
      (x.state = .ready → x.queue = [] → x.run = none → s.collCheck o x = none → o.le 48 6 ≠ 0 → s.tickReached (BitVec.ofNat 48 (o.le 48 6)) = false →
        Completes e.1 s (fun u => (u.grp n g).state = .running ∧ (u.grp n g).queue = [] ∧ (u.grp n g).started = x.started + 1 ∧ u.ops = s.ops ∧ s.memSame u ∧
          ∃ c, (u.grp n g).run = some c ∧ c.op = i ∧ c.kind = e.2 ∧ c.launched = false ∧ c.src = o.le 24 8 ∧ c.dst = o.le 32 8 ∧ c.count = o.le 40 8)) ∧
      (x.state = .running → x.queue = [] → (∃ c, x.run = some c ∧ c.launched = false) → s.collCheck o x = none →
        (o.le 48 6 = 0 ∨ s.tickPast (BitVec.ofNat 48 (o.le 48 6)) = false) → Completes e.1 s (fun u => (u.grp n g).queue = [i] ∧ (u.grp n g).run = x.run ∧ u.ops = s.ops))) ∧
    (∀ e ∈ data, o.byte 17 = e.2 → x.state = .ready → x.queue = [] → x.run = none → x.axes = 0 → x.members = none → x.excl = [] → x.tile = true → x.w = 1 → x.h = 1 →
      s.collCheck o x = none → o.le 48 6 = 0 → o.byte 18 = 0 → o.byte 19 = 0 → o.le 20 4 = 0 → o.le 40 8 = 64 →
      let t := x.ty0 * 288 + x.tx0
      o.le 24 8 % 256 = 0 → o.le 32 8 % 256 = 0 → (s.sramPiece t (o.le 24 8) 256).checked = true → s.sramBad t (o.le 24 8) 256 = false →
      Completes e.1 s (fun u => ended u ∧ u.sramBytes t (o.le 32 8) 256 = s.sramBytes t (o.le 24 8) 256 ∧ u.tiles = s.tiles ∧ u.slices = s.slices ∧ u.flash = s.flash)) ∧
    (o.byte 17 = 5 → x.state = .ready → x.queue = [] → x.run = none → o.le 48 6 = 0 → s.kids x = [] → s.up x = none →
      Completes (.barrier i) s (fun u => ended u ∧ s.memSame u))
  ) ∧
  (
  ∀ (s : State) (i : Nat) (o : Op), s.findOp i = some o → o.st = .started → (s.core .sch).state = .running →
    let n := o.part
    (o.opcode = 0x41 → o.byte 17 = 0 →
      let g := o.byte 16
      let x := s.grp n g
      x.formOp ≠ some i →
      (x.state ≠ .free → Completes (.groupForm i) s (fun u => s.opEnds u i 8 0x141 ∧ u.part = s.part)) ∧
      (∀ st d, x.state = .free → s.formCheck n o.formGroup (o.byte 18) = some (st, d) → Completes (.groupForm i) s (fun u => s.opEnds u i st d ∧ u.part = s.part)) ∧
      (x.state = .free → s.formCheck n o.formGroup (o.byte 18) = none → s.kids o.formGroup = [] → s.up o.formGroup = none → Completes (.groupForm i) s (fun u =>
        s.opEnds u i 0 (o.le 36 4 % 2 ^ 32) ∧ (u.grp n g).state = .ready ∧ (u.grp n g).formOp = none ∧ (u.grp n g).epoch = BitVec.ofNat 32 (o.le 36 4) ∧
        (u.grp n g).seq = 0 ∧ (u.grp n g).started = 0 ∧ (u.grp n g).axes = o.byte 18 ∧ s.memSame u)) ∧
      (∀ p, x.state = .free → s.formCheck n o.formGroup (o.byte 18) = none → s.kids o.formGroup = [] → s.up o.formGroup = some p → Completes (.groupForm i) s (fun u =>
        (u.grp n g).state = .forming ∧ (u.grp n g).formOp = some i ∧ u.ops = s.ops))) ∧
    (o.opcode = 0x41 → o.byte 17 = 1 →
      let g := o.byte 16
      let x := s.grp n g
      (x.state = .free → Completes (.groupDestroy i) s (fun u => s.opEnds u i 0 0 ∧ u.part = s.part)) ∧
      (x.state ≠ .free → Completes (.groupDestroy i) s (fun u => s.opEnds u i 0 x.epoch.toNat ∧ u.grp n g = {} ∧ ∀ j, j ≠ g → u.grp n j = s.grp n j))) ∧
    (o.opcode = 0x42 →
      let g := o.byte 28
      let x := s.grp n g
      let l := o.excluded
      let turned := fun (d : Nat) (u : State) => s.opEnds u i 8 d ∧ u.part = s.part
      x.formOp ≠ some i →
      (x.state ≠ .aborted → Completes (.groupReform i) s (turned 0x148)) ∧
      (x.state = .aborted → o.le 32 4 ≠ x.epoch.toNat → Completes (.groupReform i) s (turned 0x144)) ∧
      (x.state = .aborted → o.le 32 4 = x.epoch.toNat →
        (s.tor.id.toNat ∈ l → Completes (.groupReform i) s (turned 0x145)) ∧
        (s.tor.id.toNat ∉ l → (∃ j ∈ l, j ∉ x.mods s.tor.id.toNat) → Completes (.groupReform i) s (turned 0x146)) ∧
        (l = [] → x.queue = [] → x.run = none → x.excl = [] → s.kids x = [] → s.up x = none → Completes (.groupReform i) s (fun u => s.opEnds u i 0 ((x.epoch + 1).toNat) ∧
          (u.grp n g).state = .ready ∧ (u.grp n g).epoch = x.epoch + 1 ∧ (u.grp n g).members = some (x.mods s.tor.id.toNat) ∧ (u.grp n g).seq = 0))))
  )

/-- 14 R446, R453, R455, R458-R464, T14.8, T14.9: pieces, acknowledgments and control messages reach the group of their key and epoch and act by its state;
those of no current group are discarded; LAUNCH, PROGRESS_MS and FORM_TIMEOUT_MS act when they pass; a squall ends what runs. Where it fixes what the spec leaves open it follows logs 2, 29, 48, 49. -/
def Obligations.GroupMessagesAndTimersAct : Prop :=
  ∀ (s : State) (n : Fin 12),
    let key := (s.pt n).key
    let discarded := fun (u : State) => (u.pt n).col.discards = satInc (s.pt n).col.discards ∧ u.tor.arrived = [] ∧ (u.pt n).col.groups = (s.pt n).col.groups ∧ u.ops = s.ops
    let kinds : List (Instr × Nat × Nat) := [(.piece n, 3, 0x40), (.pieceAck n, 3, 0x41), (.formUp n, 4, 1), (.formDown n, 4, 2), (.barrierUp n, 4, 3), (.barrierDown n, 4, 4),
      (.squall n, 4, 5), (.reformUp n, 4, 6), (.reformDown n, 4, 7), (.formMismatch n, 4, 8)]
    (∀ e ∈ kinds, s.tor.arrived = [] → exec e.1 s = .next s) ∧
    (∀ p : TorPkt, s.tor.arrived = [p] → p.key = key →
      (∀ e ∈ kinds, (p.ch ≠ e.2.1 ∨ p.kind ≠ e.2.2) → exec e.1 s = .next s) ∧
      (∀ e ∈ kinds, p.ch = e.2.1 → p.kind = e.2.2 → s.staleGroup n p = true → Completes e.1 s discarded) ∧
      (s.staleGroup n p = false →
        let g := p.grp
        let x := s.grp n g
        let seqIs := fun (c : CollRun) => c.seq.toNat % (if p.ch = 4 then 2 ^ 32 else 2 ^ 24) = p.seq
        let runIs := fun (u : State) (c : CollRun) => (u.grp n g).run = some c ∧ (u.grp n g).state = x.state ∧ u.ops = s.ops
        let overs := fun (u : State) (cause origin : Nat) (op : Nat) => (u.grp n g).state = .aborted ∧ (u.grp n g).run = none ∧
          (u.grp n g).squalls = satInc x.squalls ∧ s.opEnds u op 1 (origin + 2 ^ 24 * cause)
        (∀ c, x.run = some c → c.launched = false → x.state = .running → seqIs c → s.early n p = false →
          (p.ch = 3 → p.kind = 0x40 → Completes (.piece n) s (fun u => runIs u { c with inbox := c.inbox ++ [(p.src, p.tag, p.off, p.data)] })) ∧
          (p.ch = 3 → p.kind = 0x41 → Completes (.pieceAck n) s (fun u => runIs u { c with unacked := c.unacked.erase (p.src, p.tag, p.off) })) ∧
          (p.ch = 4 → p.kind = 3 → p.sign = c.signature → p.src ∉ c.ups → Completes (.barrierUp n) s (fun u => runIs u { c with ups := c.ups ++ [p.src] })) ∧
          (p.ch = 4 → p.kind = 4 → p.sign = c.signature → Completes (.barrierDown n) s (fun u => runIs u { c with down := true }))) ∧
        (∀ c o, x.run = some c → x.state = .running → ¬ seqIs c → s.early n p = false → p.src < 2 ^ 18 → s.findOp c.op = some o → o.st = .started → x.queue = [] →
          x.formOp = none → (p.ch = 3 → p.kind = 0x40 → Completes (.piece n) s (fun u => overs u 4 p.src c.op)) ∧
          (p.ch = 4 → p.kind = 3 → Completes (.barrierUp n) s (fun u => overs u 4 p.src c.op))) ∧
        (p.ch = 4 → p.kind = 5 → x.state ≠ .aborted → Completes (.squall n) s (fun u => (u.grp n g).state = .aborted ∧ (u.grp n g).run = none ∧
          (u.pt n).col.received = satInc (s.pt n).col.received ∧ ∀ c o, x.run = some c → s.findOp c.op = some o → o.st = .started → s.opEnds u c.op 1 (p.u 12 4))) ∧
        (p.ch = 4 → p.kind = 5 → x.state = .aborted → Completes (.squall n) s (fun u => u.part = s.part ∧ u.tor.arrived = [])) ∧
        (∀ (ins : Instr) (k : Nat) (st : GroupState), (ins, k, st) ∈ [(Instr.formUp n, 1, GroupState.forming), (.reformUp n, 6, .reforming)] → p.ch = 4 → p.kind = k →
          (x.state ≠ st → Completes ins s (fun u => u.part = s.part ∧ u.tor.arrived = [])) ∧
          (x.state = st → p.sign = x.sign → p.src ∉ x.ups → (∃ m ∈ s.kids x, m ∉ x.ups ∧ m ≠ p.src) → Completes ins s (fun u =>
            u.grp n g = { x with ups := x.ups ++ [p.src] } ∧ u.ops = s.ops))) ∧
        (p.ch = 4 → p.kind = 2 → x.state = .forming → p.sign = x.sign → x.queue = [] → x.run = none → Completes (.formDown n) s (fun u => (u.grp n g).state = .ready ∧
          (u.grp n g).epoch = x.epoch ∧ ∀ i o, x.formOp = some i → s.findOp i = some o → o.st = .started → s.opEnds u i 0 x.epoch.toNat)) ∧
        (p.ch = 4 → p.kind = 7 → x.state = .reforming → p.sign = x.sign → x.queue = [] → x.run = none → Completes (.reformDown n) s (fun u => (u.grp n g).state = .ready ∧
          (u.grp n g).epoch = x.epoch + 1 ∧ ∀ i o, x.formOp = some i → s.findOp i = some o → o.st = .started → s.opEnds u i 0 (x.epoch + 1).toNat)) ∧
        (p.ch = 4 → p.kind = 8 → x.state = .forming → x.queue = [] → Completes (.formMismatch n) s (fun u => u.grp n g = {} ∧
          ∀ i o, x.formOp = some i → s.findOp i = some o → o.st = .started → s.opEnds u i 8 0x143)))) ∧
    (∀ g : Fin 32,
      let x := s.grp n g
      (x.run = none → exec (.launchTick n g) s = .next s ∧ ∀ src, exec (.progressTimeout n g src) s = .next s) ∧
      (∀ c o, x.run = some c → s.findOp c.op = some o →
        (s.tickReached (BitVec.ofNat 48 (o.le 48 6)) = false → exec (.launchTick n g) s = .next s) ∧
        (s.tickReached (BitVec.ofNat 48 (o.le 48 6)) = true → x.state = .running → c.kind = 5 → (∃ m ∈ s.kids x, m ∉ c.ups) → Completes (.launchTick n g) s (fun u =>
          u.grp n g = { x with run := some { c with launched := true } } ∧ u.ops = s.ops)) ∧
        (∀ src, c.launched = true → (∃ e ∈ c.unacked, e.1 = src.toNat) → o.st = .started → x.queue = [] → x.formOp = none → Completes (.progressTimeout n g src) s (fun u =>
          (u.grp n g).state = .aborted ∧ (u.grp n g).run = none ∧ s.opEnds u c.op 1 (src.toNat + 2 ^ 24 * 2))) ∧
        (∀ src, c.launched = false → exec (.progressTimeout n g src) s = .next s)) ∧
      (x.state = .forming → Completes (.formTimeout n g) s (fun u => u.grp n g = {} ∧ ∀ i o, x.formOp = some i → s.findOp i = some o → o.st = .started → x.run = none →
        x.queue = [] → s.opEnds u i 1 (s.tor.id.toNat + 2 ^ 24 * 7))) ∧
      (x.state = .reforming → (x.formOp ≠ none ∨ x.run ≠ none) → Completes (.formTimeout n g) s (fun u => (u.grp n g).state = .aborted ∧ (u.grp n g).formOp = none)) ∧
      (x.state ≠ .forming → x.state ≠ .reforming → exec (.formTimeout n g) s = .next s))

/-- 14 R466, R467, 18 R569, R572, R573, T14.13, T18.6, T18.7: a SNAPSHOT is checked and scheduled, takes its point and ends with the granules as they stood; a
MIRROR COPY sends its granules to the twin, a COMMIT its point; the standby stores into its pending bank and swaps. Where it fixes what the spec leaves open it follows logs 2, 9, 42, 50. -/
def Obligations.SnapshotsAndMirrorsRun : Prop :=
  ∀ (s : State),
    (∀ (i : Nat), (∀ o, s.findOp i = some o → o.st ≠ .started ∨ o.opcode ≠ 0x50) → exec (.snapshot i) s = .next s ∧ exec (.snapshotPoint i) s = .next s) ∧
    (∀ (i : Nat) (o : Op), s.findOp i = some o → o.st = .started → o.opcode = 0x50 →
      let dst := o.le 32 8
      let at' := BitVec.ofNat 48 (o.le 16 6)
      (tfind s.opProg i = none → (s.core .sch).state ≠ .running → exec (.snapshot i) s = .next s) ∧
      (tfind s.opProg i = none → (s.core .sch).state = .running →
        (∀ st d, s.snapCheck o = some (st, d) → Completes (.snapshot i) s (fun u => s.opEnds u i st d ∧ s.memSame u ∧ u.snaps = s.snaps)) ∧
        (s.snapCheck o = none → Completes (.snapshot i) s (fun u => tfind u.opProg i = some {} ∧ u.ops = s.ops ∧ s.memSame u ∧ u.snaps = s.snaps))) ∧
      (tfind s.opProg i ≠ none → (∀ x ∈ s.snaps, x.op ≠ i) → s.tickReached at' = true → Completes (.snapshotPoint i) s (fun u =>
        u.snaps = s.snaps ++ [{ op := i, part := o.part, src := o.le 24 8, len := o.le 40 8, inSpec := s.cad.inSpec }] ∧ u.ops = s.ops ∧ s.memSame u)) ∧
      (tfind s.opProg i = none ∨ (∃ x ∈ s.snaps, x.op = i) ∨ s.tickReached at' = false → exec (.snapshotPoint i) s = .next s) ∧
      (∀ (y : OpProg) (x : Snap), o.id = i → tfind s.opProg i = some y → s.snaps.find? (fun z => z.op == i) = some x → o.byte 22 = 0 → s.canWrite (.vf (Fin.ofNat 12 o.part)) = true →
        (x.len ≤ x.pos → y.poison = none → Completes (.snapshot i) s (fun u => s.opEnds u i 0 x.inSpec.toNat ∧ s.memSame u)) ∧
        (∀ d, x.len ≤ x.pos → y.poison = some d → Completes (.snapshot i) s (fun u => s.opEnds u i 9 d ∧ s.memSame u)) ∧
        (∀ p : Piece, tfind x.captured x.pos = some p → p.checked = true → p.st ≠ .poisoned → x.pos + 256 = x.len → o.le 40 8 = x.len → y.poison = none →
          Completes (.snapshot i) s (fun u => s.opEnds u i 0 x.inSpec.toNat ∧ s.memSame u ∧
            Output.hostWrite (.vf (Fin.ofNat 12 o.part)) (dst + x.pos) p.data ∈ u.out)) ∧
        (∀ p : Piece, tfind x.captured x.pos = some p → p.checked = false → x.pos < x.len → Completes (.snapshot i) s (fun u =>
          s.opEnds u i 5 (x.pos / 256)))) ∧
      (tfind s.opProg i ≠ none → o.byte 22 = 0 → s.canWrite (.vf (Fin.ofNat 12 o.part)) = false → exec (.snapshot i) s = .next s)) ∧
    (s.ras.twin.handover = none →
      (∀ (i : Nat), (∀ o, s.findOp i = some o → o.st ≠ .started ∨ o.opcode ≠ 0x51) → exec (.mirrorCopy (.send i)) s = .next s ∧ exec (.mirrorCommit i) s = .next s) ∧
      (∀ (i : Nat) (o : Op), s.findOp i = some o → o.id = i → o.st = .started → o.opcode = 0x51 →
        let n := o.part
        (o.byte 16 = 0 → tfind s.opProg i = none →
          (∀ st d, s.mirrorCheck o = some (st, d) → Completes (.mirrorCopy (.send i)) s (fun u => s.opEnds u i st d ∧ s.memSame u ∧ u.out = s.out)) ∧
          (s.mirrorCheck o = none → 0 < o.le 40 8 → s.portActive 36 = false → s.portActive 37 = false → Completes (.mirrorCopy (.send i)) s (fun u =>
            tfind u.opProg i = some {} ∧ u.ops = s.ops ∧ s.memSame u ∧ u.out = s.out)) ∧
          (s.mirrorCheck o = none → o.le 40 8 = 256 → (s.portActive 36 = true ∨ s.portActive 37 = true) →
            (∀ p : Piece, (s.setProg i {}).rangeRead n (o.le 24 8) 256 (.op i) = .data p →
              let sent := fun (u : State) => Output.mirror (s.pt n).key (o.le 32 8) p.data (decide (p.st = .poisoned)) ∈ u.out ∧ s.memSame u
              (p.checked = true → Completes (.mirrorCopy (.send i)) s (fun u => s.opEnds u i (if p.st = .poisoned then 9 else 0) 0 ∧ sent u ∧
                (u.mir n).bytes = (s.mir n).bytes + 256)) ∧
              (p.checked = false → Completes (.mirrorCopy (.send i)) s (fun u => s.opEnds u i 5 0 ∧ sent u ∧ u.mir n = s.mir n))))) ∧
        (o.byte 16 = 1 → tfind s.opProg i = none →
          let earlier := ∃ e ∈ s.ops, e.part = n ∧ e.opcode = 0x51 ∧ e.id < i ∧ (e.st = .admitted ∨ e.st = .started)
          (earlier → exec (.mirrorCommit i) s = .next s) ∧
          (¬ earlier → (∀ st d, s.mirrorCheck o = some (st, d) → Completes (.mirrorCommit i) s (fun u => s.opEnds u i st d ∧ u.out = s.out)) ∧
            (s.mirrorCheck o = none → Completes (.mirrorCommit i) s (fun u => u.out = Output.mirrorPoint (s.mir n).remote.toNat o.mirLabel o.mirTick :: s.out ∧
              tfind u.opProg i = some { phase := 1 } ∧ u.ops = s.ops ∧ u.mir n = s.mir n ∧
              (u.pt n).late = (s.pt n).late + (if o.mirTick ≠ 0 ∧ s.tickPast o.mirTick = true then 1 else 0))))))) ∧
    (∀ (p : Fin 2) (key : W16) (off : W64) (data : List Byte) (check : W32) (poison : Bool),
      let port := 36 + p.val
      let takes := fun (n : Nat) => (s.mir n).bstate = .bound ∧ (s.mir n).role = 2 ∧ (s.mir n).remoteKey = key
      let cmd := Instr.mirrorCopy (.receive p key off data check poison)
      (s.portActive port = false ∨ s.ras.twin.state ≠ .paired → exec cmd s = .next s) ∧
      (s.portActive port = true → s.ras.twin.state = .paired → (∀ n, n < 12 → ¬ takes n) → Completes cmd s (fun u => s.memSame u ∧ ∀ n, u.mir n = s.mir n)) ∧
      (∀ n, n < 12 → s.portActive port = true → s.ras.twin.state = .paired → takes n → (∀ j, j < n → ¬ takes j) → data.length = 256 → off.toNat % 256 = 0 →
        off.toNat + 256 ≤ (s.mir n).bankPages.toNat * pageSize → ∀ ppa, tfind (s.mir n).pages ((1 - (s.mir n).committed.toNat) * (s.mir n).bankPages.toNat + off.toNat / pageSize) = some ppa →
        let o := off.toNat % pageSize
        Completes cmd s (fun u => u.sliceBytes (pageTile ppa o) (pageOff ppa o) 256 = data ∧ (u.mir n).bytes = (s.mir n).bytes + 256 ∧ u.sram = s.sram ∧ u.flash = s.flash ∧
          u.sgst (pageTile ppa o) (pageOff ppa o / 256) = (if poison ∨ crc32c data ≠ check then .poisoned else .held check)))) ∧
    (∀ (n : Fin 12) (label : W64) (tick : W48),
      let m := s.mir n
      let took := fun (u : State) => (u.mir n).label = label ∧ (u.mir n).tick = tick ∧ (u.mir n).commits = m.commits + 1
      (m.bstate ≠ .bound → exec (.commitPoint n label tick) s = .next s) ∧
      (m.bstate = .bound → m.role = 2 → Completes (.commitPoint n label tick) s (fun u => took u ∧ (u.mir n).committed = !m.committed ∧ (u.mir n).pages = m.pages ∧
        u.out = Output.twin 8 m.remote.toNat :: s.out ∧ s.memSame u ∧ u.ops = s.ops)) ∧
      (m.bstate = .bound → m.role ≠ 2 → s.ras.twin.handover = none →
        let mine := fun (o : Op) => o.part == n.val && o.opcode == 0x51 && o.byte 16 == 1 && (tfind s.opProg o.id).isSome && decide (o.mirLabel = label)
        (s.ops.find? mine = none → exec (.commitPoint n label tick) s = .next s) ∧
        (∀ o, s.ops.find? mine = some o → o.mirTick ≠ 0 → s.tickReached o.mirTick = false → exec (.commitPoint n label tick) s = .next s) ∧
        (∀ o, s.ops.find? mine = some o → (o.mirTick = 0 ∨ s.tickReached o.mirTick = true) → Completes (.commitPoint n label tick) s (fun u =>
          took u ∧ (u.mir n).committed = m.committed ∧ s.opEnds u o.id 0 (m.commits + 1).toNat ∧ s.memSame u))))

/-- 18 R568, R569, R574-R577, T18.8, T18.16: the pair forms, is made and undone by message, beats, loses its partner and breaks; bindings break with it or fail
over to the standby's committed bank. Where it fixes what the spec leaves open it follows logs 2, 10, 51, 52. -/
def Obligations.TwinPairsFormAndBreak : Prop :=
  ∀ (s : State),
    let w := s.ras.twin
    let up := s.portActive 36 = true ∨ s.portActive 37 = true
    let broken := fun (u : State) (c : Nat) => u.ras.twin.state = .broken ∧ u.ras.twin.breakCause = BitVec.ofNat 4 c ∧ u.ras.twin.losing = false ∧
      u.ras.twin.partner = w.partner ∧ s.eventAt u s.priv 0x1007 0 0 (pack [(4, c), (14, s.bindings.length)]) ∧
      ∀ n, n < 12 →
        let m := s.mir n
        let overs := m.role = 2 ∧ (c = 2 ∨ c = 3 ∨ c = 4)
        (m.bstate = .bound → ¬ overs → u.mir n = { m with bstate := .broken }) ∧
        (m.bstate = .bound → overs → (u.mir n).bstate = .failedOver ∧ (u.mir n).pages = [] ∧ (u.mir n).label = m.label ∧ (u.mir n).tick = m.tick ∧
          ∀ j, j < m.bankPages.toNat → u.pte n (m.base.toNat / pageSize + j) =
            some { ppa := tfind (m.pages.filter (fun e => e.1 / max 1 m.bankPages.toNat == m.committed.toNat)) (m.committed.toNat * m.bankPages.toNat + j) }) ∧
        (m.bstate = .binding → (u.mir n) = {}) ∧
        (m.bstate = .unbound ∨ m.bstate = .broken ∨ m.bstate = .failedOver → u.mir n = m)
    (∀ m : Msg,
      let rows : List (Instr × Nat) := [(.rasTwinPair m, 0x1202), (.rasTwinUnpair m, 0x1203), (.rasMirrorBind m, 0x1204), (.rasMirrorUnbind m, 0x1205), (.rasTwinHandover m, 0x1206)]
      let turned := fun (id r : Nat) (u : State) => s.replied u m id 2 r [] ∧ u.ras = s.ras ∧ u.ops = s.ops ∧ s.memSame u
      (∀ e ∈ rows, (s.core .sch).state ≠ .running → exec e.1 s = .next s) ∧
      (∀ e ∈ rows, s.canHandle .sch e.2 → s.isPriv m = false → Completes e.1 s (turned e.2 rNotPermitted)) ∧
      (∀ e ∈ rows, s.canHandle .sch e.2 → s.isPriv m = true → s.hasTwin = false → Completes e.1 s (turned e.2 rBadArgument)) ∧
      (s.isPriv m = true → s.hasTwin = true →
        (s.canHandle .sch 0x1202 →
          let free := s.tor.idValid = true ∧ (w.state = .unpaired ∨ w.state = .broken) ∧ s.bindings = [] ∧ tfind s.portOwner 36 = none ∧ tfind s.portOwner 37 = none
          (2 ^ 18 ≤ m.u32 0 → Completes (.rasTwinPair m) s (turned 0x1202 rBadArgument)) ∧
          (m.u32 0 < 2 ^ 18 → ¬ free → Completes (.rasTwinPair m) s (turned 0x1202 rBusy)) ∧
          (m.u32 0 < 2 ^ 18 → free → Completes (.rasTwinPair m) s (fun u => u.ras.twin = { state := .pairing, partner := BitVec.ofNat 18 (m.u32 0), pairMsg := some m } ∧
            Output.twin 1 (m.u32 0) ∈ u.out ∧ u.part = s.part))) ∧
        (s.canHandle .sch 0x1203 →
          ((∃ n, n < 12 ∧ (s.mir n).bstate = .bound) → Completes (.rasTwinUnpair m) s (turned 0x1203 rBusy)) ∧
          (s.bindings = [] → Completes (.rasTwinUnpair m) s (fun u =>
            u.ras.twin = { partner := w.partner, breakCause := if w.state = .paired then 5 else w.breakCause } ∧ (w.state = .paired → Output.twin 3 5 ∈ u.out) ∧
            (w.pairMsg = none → s.replied u m 0x1203 2 rOK []) ∧ ∀ y, w.pairMsg = some y → s.replied u y 0x1202 2 rNoResource []))) ∧
        (s.canHandle .sch 0x1206 →
          (w.state ≠ .paired → Completes (.rasTwinHandover m) s (turned 0x1206 rBusy)) ∧
          (w.state = .paired → ¬ up → Completes (.rasTwinHandover m) s (turned 0x1206 rNoResource)) ∧
          (w.state = .paired → up → (∃ o ∈ s.ops, o.opcode = 0x51 ∧ o.st = .started) → Completes (.rasTwinHandover m) s (fun u => u.ras.twin.state = .paired ∧
            u.ras.twin.handover = some m ∧ ∀ o ∈ s.ops, o.opcode = 0x51 → o.st = .started → o.id ∈ u.ras.twin.handoverOps)) ∧
          (w.state = .paired → up → (∀ o ∈ s.ops, o.opcode = 0x51 → o.st ≠ .started) → (∀ n, n < 12 → (s.mir n).bstate ≠ .binding) →
            Completes (.rasTwinHandover m) s (fun u => broken u 3 ∧ Output.twin 3 3 ∈ u.out ∧ s.replied u m 0x1206 2 rOK []))))) ∧
    (∀ partner : BitVec 18,
      let linked := fun (p : Nat) => s.portActive p = true ∧ (s.port p).kind = 4 ∧ (s.port p).partnerId.toNat = partner.toNat
      (w.state = .pairing → w.partner = partner → (linked 36 ∨ linked 37) → Completes (.twinPaired partner) s (fun u =>
        u.ras.twin = { w with state := .paired, pairMsg := none } ∧ s.eventAt u s.priv 0x1006 0 0 partner.toNat ∧
        ∀ m, w.pairMsg = some m → s.replied u m 0x1202 2 rOK [])) ∧
      (w.state ≠ .pairing ∨ w.partner ≠ partner ∨ (¬ linked 36 ∧ ¬ linked 37) → exec (.twinPaired partner) s = .next s)) ∧
    (w.state = .pairing → Completes .pairingTimeout s (fun u => u.ras.twin = { w with state := .unpaired, pairMsg := none } ∧
      ∀ m, w.pairMsg = some m → s.replied u m 0x1202 2 rNoResource [])) ∧
    (w.state ≠ .pairing → exec .pairingTimeout s = .next s) ∧
    (w.state ≠ .paired → exec .twinHeartbeatSend s = .next s ∧ exec .lossMsExpiry s = .next s ∧ (∀ p, exec (.twinHeartbeatReceive p) s = .next s) ∧
      (∀ b, exec (.twinLossBegin b) s = .next s) ∧ ∀ c, exec (.twinBreak c) s = .next s) ∧
    (w.losing = false → exec .lossMsExpiry s = .next s ∧ exec .twinProbeAnswer s = .next s) ∧
    (w.losing = true → Completes .twinProbeAnswer s (fun u => u.ras.twin = { w with probeAnswered := true } ∧ u.part = s.part ∧ u.ops = s.ops ∧ u.out = s.out)) ∧
    (w.state = .paired →
      (w.handover = none → Completes .twinHeartbeatSend s (fun u => u.ras = s.ras ∧ u.part = s.part ∧ ∀ p, p = 36 ∨ p = 37 → s.portActive p = true → Output.twin 2 p ∈ u.out)) ∧
      (∀ p : Fin 2, s.portActive (36 + p.val) = true → Completes (.twinHeartbeatReceive p) s (fun u => u.ras.twin = { w with losing := false, probeAnswered := false } ∧
        u.part = s.part ∧ u.out = s.out)) ∧
      (∀ b, w.losing = false → (b = true ∨ ¬ up) → Completes (.twinLossBegin b) s (fun u => u.ras.twin = { w with losing := true, probeAnswered := false } ∧
        u.out = Output.twin 7 0 :: s.out ∧ u.part = s.part)) ∧
      (w.losing = true → Completes .lossMsExpiry s (fun u => broken u (if w.probeAnswered then 1 else 2))) ∧
      (∀ c : BitVec 4, c = 3 ∨ c = 4 ∨ c = 5 → Completes (.twinBreak c) s (fun u => broken u c.toNat ∧ (c = 3 → Output.twin 8 3 ∈ u.out))) ∧
      (∀ c : BitVec 4, c ≠ 3 → c ≠ 4 → c ≠ 5 → exec (.twinBreak c) s = .next s))

/-- 18 R570, R571, R573, R577, T18.17: RAS_MIRROR_BIND is refused or begins a binding, which both modules' binds complete, or which times out; UNBIND returns it
to UNBOUND and its pages to the pool. Where it fixes what the spec leaves open it follows logs 10, 51, 52. -/
def Obligations.MirrorBindingsFollowBothModules : Prop :=
  ∀ (s : State),
    let w := s.ras.twin
    let fails := fun (u : State) (n r : Nat) => u.mir n = {} ∧ (∀ j, j ≠ n → u.mir j = s.mir j) ∧ ∀ m, (s.mir n).bindMsg = some m → s.replied u m 0x1204 2 r []
    (∀ (m : Msg), s.isPriv m = true → s.hasTwin = true →
      let n := m.u8 0
      let turned := fun (id r : Nat) (u : State) => s.replied u m id 2 r [] ∧ u.ras = s.ras ∧ u.part = s.part ∧ s.memSame u
      (s.canHandle .sch 0x1204 →
        let role := m.u8 1
        let k := m.u32 4
        let base := m.u64 8
        let fits := n ≤ 11 ∧ (s.pt n).state.isFree = false ∧ (role = 1 ∨ role = 2) ∧ m.u8 2 ≤ 11 ∧ 1 ≤ k ∧ k ≤ 2 ^ 20 ∧
          (role = 2 → base % pageSize = 0 ∧ base + 2 * k * pageSize ≤ 2 ^ 48)
        let meets := (s.pt n).mem.pagesMeet (base / pageSize) (2 * k) = true ∨ s.grantOverlaps n (base / pageSize) (2 * k) = true
        let begun : Mirror := { role := BitVec.ofNat 2 role, bstate := .binding, remote := BitVec.ofNat 4 (m.u8 2), bankPages := BitVec.ofNat 21 k
                                base := BitVec.ofNat 48 (if role = 2 then base else 0), bindMsg := some m }
        (¬ fits → Completes (.rasMirrorBind m) s (turned 0x1204 rBadArgument)) ∧
        (fits → (w.state ≠ .paired ∨ (s.mir n).bstate ≠ .unbound) → Completes (.rasMirrorBind m) s (turned 0x1204 rBusy)) ∧
        (fits → w.state = .paired → (s.mir n).bstate = .unbound → role = 2 → meets → Completes (.rasMirrorBind m) s (turned 0x1204 rBadArgument)) ∧
        (fits → w.state = .paired → (s.mir n).bstate = .unbound → (role = 2 → ¬ meets) →
          (w.binds.find? (fun b => b.ours == n && b.theirs == m.u8 2) = none → Completes (.rasMirrorBind m) s (fun u => u.mir n = begun ∧ u.ras = s.ras ∧ s.memSame u ∧
            Output.twinBind n (m.u8 2) role k (s.pt n).key false ∈ u.out ∧ ∀ j, j ≠ n → u.mir j = s.mir j)) ∧
          (∀ b, w.binds.find? (fun b => b.ours == n && b.theirs == m.u8 2) = some b → role = 1 → b.role = 2 → b.bankPages = BitVec.ofNat 21 k → b.taken = true →
            Completes (.rasMirrorBind m) s (fun u => u.mir n = { begun with bstate := .bound, remoteKey := b.key, bindMsg := none } ∧ s.replied u m 0x1204 2 rOK [])))) ∧
      (s.canHandle .sch 0x1205 →
        let x := s.mir n
        (11 < n ∨ x.bstate = .unbound → Completes (.rasMirrorUnbind m) s (turned 0x1205 rBadArgument)) ∧
        (n ≤ 11 → x.bstate = .binding → Completes (.rasMirrorUnbind m) s (turned 0x1205 rBusy)) ∧
        (n ≤ 11 → (x.bstate = .bound ∨ x.bstate = .broken ∨ x.bstate = .failedOver) → Completes (.rasMirrorUnbind m) s (fun u => u.mir n = {} ∧
          (x.bstate = .bound → Output.twin 5 x.remote.toNat ∈ u.out) ∧ s.replied u m 0x1205 2 rOK [] ∧ (∀ j, j ≠ n → u.mir j = s.mir j) ∧
          ∀ i o, s.findOp i = some o → o.id = i → o.part = n → o.opcode = 0x51 → o.st = .started → tfind s.opProg i ≠ none → s.opEnds u i 8 0x153)))) ∧
    (∀ (theirs n : Fin 12) (role : BitVec 2) (k : BitVec 21) (key : W16) (taken : Bool),
      let m := s.mir n
      let cmd := Instr.twinBindReceive theirs n role k key taken
      let waits := m.bstate = .binding ∧ m.remote.toNat = theirs.val
      let bound := fun (u : State) => (u.mir n).bstate = .bound ∧ (u.mir n).remoteKey = key ∧ (u.mir n).bindMsg = none ∧ (u.mir n).role = m.role ∧
        (u.mir n).remote = m.remote ∧ (u.mir n).bankPages = m.bankPages ∧ ∀ y, m.bindMsg = some y → s.replied u y 0x1204 2 rOK []
      (w.state ≠ .paired → exec cmd s = .next s) ∧
      (w.state = .paired → ¬ waits → Completes cmd s (fun u => u.part = s.part ∧ u.out = s.out ∧
        ({ theirs := theirs, ours := n, role := role, bankPages := k, key := key, taken := taken } : TwinBind) ∈ u.ras.twin.binds)) ∧
      (w.state = .paired → waits → (k ≠ m.bankPages ∨ role = m.role) → Completes cmd s (fun u => fails u n rBadArgument)) ∧
      (w.state = .paired → waits → k = m.bankPages → role ≠ m.role → m.role ≠ 2 → taken = true → Completes cmd s (fun u => bound u ∧ s.memSame u)) ∧
      (w.state = .paired → waits → k = m.bankPages → role ≠ m.role → m.role ≠ 2 → taken = false → Completes cmd s (fun u => fails u n rNoResource ∧
        Output.twin 5 m.remote.toNat ∈ u.out)) ∧
      (w.state = .paired → waits → k = m.bankPages → role ≠ m.role → m.role = 2 →
        let r := State.takeMirror n 0 (2 * k.toNat) (s.updTwin (fun x => { x with binds := x.binds.filter (fun y => y.ours != n.val) }))
        (r.2 = true → Completes cmd s (fun u => bound u ∧ Output.twinBind n m.remote.toNat 2 k.toNat (s.pt n).key true ∈ u.out)) ∧
        (r.2 = false → Completes cmd s (fun u => fails u n rNoResource ∧ Output.twin 5 m.remote.toNat ∈ u.out)))) ∧
    (∀ n : Fin 12,
      ((s.mir n).bstate ≠ .binding → exec (.bindTimeout n) s = .next s) ∧
      ((s.mir n).bstate = .binding → Completes (.bindTimeout n) s (fun u => fails u n rNoResource ∧ Output.twin 5 (s.mir n).remote.toNat ∈ u.out) ∧
        Completes (.unbind n) s (fun u => fails u n rNoResource)) ∧
      ((s.mir n).bstate = .bound → Completes (.unbind n) s (fun u => u.mir n = {} ∧ ∀ j, j ≠ n.val → u.mir j = s.mir j)) ∧
      ((s.mir n).bstate ≠ .binding → (s.mir n).bstate ≠ .bound → Completes (.unbind n) s (fun u => u.part = s.part ∧ s.memSame u)))

/-- 13 R414, R416, R419-R427, R432, R438, 12 R396, 14 R459: a torus packet is checked against the neighbour, the key table and its generation, goes on at the port
of its route or ends here, leaves in transit-first order with credits and the bubble, and is lost after 1 ms. Where it fixes what the spec leaves open it follows logs 2, 24, 45. -/
def Obligations.TorusPacketsArriveAndLeave : Prop :=
  ∀ (s : State) (k : Fin 12),
    let port := 24 + k.val
    let x := s.port port
    let y := s.tp k
    let cmd := Instr.torusPacketArrive k
    (x.inbox = [] → exec cmd s = .next s) ∧
    (∀ m r, x.inbox = m :: r →
      let taken := fun (u : State) => (u.port port).inbox = r ∧ s.memSame u ∧ u.ops = s.ops
      let stays := fun (u : State) => taken u ∧ u.tor.arrived = s.tor.arrived ∧ ∀ j, (u.tp j).queue = (s.tp j).queue
      let keyDropped := fun (u : State) (ch : Nat) (key : W16) => stays u ∧ (u.port port).keyDrop = satInc x.keyDrop ∧ (u.port port).keyDropLast = (ch, key)
      (y.mismatch = true ∨ s.tor.idValid = false → Completes cmd s (fun u => stays u ∧ (u.tp k).mismatchDrop = satInc y.mismatchDrop)) ∧
      (y.mismatch = false → s.tor.idValid = true →
        (torusParse m.ch m.msg.flits = none → Completes cmd s (fun u => stays u ∧ (u.port port).protoErr = satInc x.protoErr)) ∧
        (∀ p, torusParse m.ch m.msg.flits = some p →
          let mgt := p.key = 0 ∧ p.ch = 5
          let q := { p with axis := some (tAxis k) }
          let goes := (mgt ∧ s.tor.blockEdge k = false ∧ p.gen = 0) ∨ (¬ mgt ∧ ∃ e, s.torKey p.key = some e ∧ e.ports.getLsbD k.val = true ∧ e.gen = p.gen)
          (mgt → (s.tor.blockEdge k = true ∨ p.gen ≠ 0) → Completes cmd s (fun u => keyDropped u p.ch p.key)) ∧
          (¬ mgt → p.ch ≠ 3 →
            (s.torKey p.key = none → Completes cmd s (fun u => keyDropped u p.ch p.key)) ∧
            (∀ e, s.torKey p.key = some e → e.ports.getLsbD k.val = false → Completes cmd s (fun u => keyDropped u p.ch p.key)) ∧
            (∀ e, s.torKey p.key = some e → e.ports.getLsbD k.val = true → e.gen ≠ p.gen → Completes cmd s (fun u => stays u ∧
              ((p.gen - e.gen).toNat < 32768 → (u.tp k).futureGen = satInc y.futureGen ∧ (u.tp k).staleGen = y.staleGen) ∧
              (32768 ≤ (p.gen - e.gen).toNat → (u.tp k).staleGen = satInc y.staleGen ∧ (u.tp k).futureGen = y.futureGen)))) ∧
          (goes → p.hops = 255 → Completes cmd s (fun u => stays u ∧ (u.tp k).routeDrop = satInc y.routeDrop)) ∧
          (goes → p.hops ≠ 255 → p.mcast = false →
            (p.dst = s.tor.id.toNat → p.ch = 3 → (p.kind = 0x40 ∨ p.kind = 0x41) → Completes cmd s (fun u => taken u ∧ u.tor = { s.tor with arrived := s.tor.arrived ++ [p] })) ∧
            (∀ n, p.dst = s.tor.id.toNat → p.ch = 4 → s.keyOwner p.key = some n → 1 ≤ p.kind → p.kind ≤ 8 → Completes cmd s (fun u =>
              taken u ∧ u.tor = { s.tor with arrived := s.tor.arrived ++ [p] })) ∧
            (s.routeTo p.dst p.sel = .unreachable → Completes cmd s (fun u => stays u ∧ (u.tp k).routeDrop = satInc y.routeDrop)) ∧
            (∀ j, s.routeTo p.dst p.sel = .port j → Completes cmd s (fun u => taken u ∧ u.tor.arrived = s.tor.arrived ∧
              (u.tp j).queue = (s.tp j).queue ++ [q] ∧ ∀ i, i ≠ j → u.tp i = s.tp i))) ∧
          (goes → p.hops ≠ 255 → p.mcast = true →
            (tfind s.tor.mcast p.group = none → Completes cmd s stays) ∧
            (∀ g, tfind s.tor.mcast p.group = some g →
              let c := s.tor.replicate g p.src p.sel
              (c.2 = false → Completes cmd s (fun u => taken u ∧ u.tor.arrived = s.tor.arrived ∧ ∀ j ∈ c.1, s.tUsable j = true → q ∈ (u.tp j).queue)) ∧
              (c.2 = true → p.ch = 3 → p.kind = 0x40 → Completes cmd s (fun u => taken u ∧ u.tor.arrived = s.tor.arrived ++ [p] ∧
                ∀ j ∈ c.1, s.tUsable j = true → q ∈ (u.tp j).queue))))))) ∧
    (∀ ch : Fin 6,
      let cmd := Instr.torusEgressSend k ch
      (y.next ch = none → exec cmd s = .next s) ∧
      (∀ p, y.next ch = some p →
        let left := fun (u : State) => (u.tp k).queue = y.queue.erase p ∧ s.memSame u ∧ u.ops = s.ops
        let need := max (if p.axis = some (tAxis k) then 1 + p.data.length else 10) (1 + p.data.length)
        (s.keyAt p.key k = false → p.ch ≠ 3 → Completes cmd s (fun u => left u ∧ (u.port port).keyDrop = satInc x.keyDrop ∧ (u.port port).keyDropLast = (p.ch, p.key) ∧
          u.out = s.out)) ∧
        (s.keyAt p.key k = true → s.tUsable k = false →
          let e := s.routeEntry p.dst
          let j := s.fallPort k (if e / 512 % 2 = 1 ∧ !p.mcast then some (e / 32 % 16) else none)
          (j = k → exec cmd s = .next s) ∧
          (j ≠ k → Completes cmd s (fun u => left u ∧ (u.tp j).queue = (s.tp j).queue ++ [p] ∧ u.out = s.out))) ∧
        (s.keyAt p.key k = true → s.tUsable k = true → (x.phase ≠ .active ∨ x.freeCredit ch < need) → exec cmd s = .next s) ∧
        (s.keyAt p.key k = true → s.tUsable k = true → x.phase = .active → need ≤ x.freeCredit ch → x.txq = [] → x.replay.length < 480 → p.data = [] →
          let gen := match s.torKey p.key with
            | some e => e.gen
            | none => 0
          let f : Flit := { ch := p.ch, som := true, eom := true, poison := p.poison, key := p.key, check := 0
                            data := ({ p with gen := gen, hops := p.hops + 1 } : TorPkt).header ++ p.head }
          Completes cmd s (fun u => left u ∧ u.out = Output.flit port x.txSeq f :: s.out ∧ (u.port port).txSeq = (x.txSeq + 1) % 1024 ∧
            (u.port port).replay = x.replay ++ [(x.txSeq, f)] ∧ (u.tp k).transit = (if p.axis.isSome then y.transit + 1 else y.transit))))) ∧
    (∀ i : Nat,
      (y.queue[i]? = none → exec (.holdLimitExpiry k i) s = .next s) ∧
      (∀ p, y.queue[i]? = some p → p.ch ≠ 3 → Completes (.holdLimitExpiry k i) s (fun u => (u.tp k).queue = y.queue.erase p ∧
        (u.tp k).holdDrop = satInc y.holdDrop ∧ (u.tp k).routeDrop = y.routeDrop ∧ s.memSame u ∧ u.ops = s.ops)))

/-- 13 R412-R415, R423, R425, R428, R431, R437, T13.4: the torus messages are refused or set the torus; a key table takes force whole, at once or at its tick. Where it fixes what the spec leaves open it follows logs 10, 46. -/
def Obligations.TorusTablesTakeForce : Prop :=
  ∀ (s : State),
    (∀ (m : Msg) (b : Option (List Byte)),
      let rows : List (Instr × Nat) := [(.torConfig m, 0x0D01), (.torRouteSet m b, 0x0D02), (.torKeyset m, 0x0D03), (.torMcastSet m b, 0x0D04), (.torMcastClear m, 0x0D05)]
      let turned := fun (id r : Nat) (u : State) => s.replied u m id 2 r [] ∧ u.tor = s.tor ∧ s.memSame u ∧ u.ops = s.ops
      (∀ e ∈ rows, (s.core .sch).state ≠ .running → exec e.1 s = .next s) ∧
      (∀ e ∈ rows, s.canHandle .sch e.2 → m.sender ≠ .peer → s.isPriv m = false → Completes e.1 s (turned e.2 rNotPermitted)) ∧
      (m.sender = .peer ∨ s.isPriv m = true →
        (s.canHandle .sch 0x0D01 →
          let x : Torus := { s.tor with
            id := BitVec.ofNat 18 (m.u32 0), idValid := true, dx := m.u8 4, dy := m.u8 5, dz := m.u8 6, bx := m.u8 7, by' := m.u8 8, bz := m.u8 9
            ex := m.u8 10, ey := m.u8 11, ez := m.u8 12 }
          (2 ^ 18 ≤ m.u32 0 ∨ x.valid = false → Completes (.torConfig m) s (turned 0x0D01 rBadArgument)) ∧
          (m.u32 0 < 2 ^ 18 → x.valid = true → (s.tor.keys ≠ [] ∨ s.tor.mcast ≠ []) → Completes (.torConfig m) s (turned 0x0D01 rBusy)) ∧
          (m.u32 0 < 2 ^ 18 → x.valid = true → s.tor.keys = [] → s.tor.mcast = [] → Completes (.torConfig m) s (fun u => s.replied u m 0x0D01 2 rOK [] ∧
            u.tor = { x with tports := u.tor.tports } ∧ ∀ k, k < 12 → ((u.tp k).mismatch = true ↔ (x.dim (tAxis k) = 1 ∨
              (s.port (24 + k)).partnerId.toNat % 2 ^ 18 ≠ x.neighbour k ∨ (s.port (24 + k)).pport.toNat ≠ tFar k))))) ∧
        (s.canHandle .sch 0x0D02 →
          let n := m.u32 8
          let l := (List.range n).map (fun i => (leAt (b.getD []) (8 * i) 4, BitVec.ofNat 16 (leAt (b.getD []) (8 * i + 4) 2)))
          let fits := 1 ≤ n ∧ n ≤ 262144 ∧ m.u64 0 < 2 ^ 48 ∧ (m.u64 0 = 0 ∨ s.tickPast (BitVec.ofNat 48 (m.u64 0)) = false) ∧ b.isSome = true ∧
            (∀ e ∈ l, e.1 < 2 ^ 18 ∧ e.2.toNat < 2 ^ 11) ∧ ∀ i, i < n → leAt (b.getD []) (8 * i + 6) 2 = 0
          (¬ fits → Completes (.torRouteSet m b) s (turned 0x0D02 rBadArgument))) ∧
        (s.canHandle .sch 0x0D03 →
          let n := m.u32 8
          let l := (List.range n).map (fun i => ({ key := BitVec.ofNat 16 (m.u16 (16 + 8 * i)), gen := BitVec.ofNat 16 (m.u16 (18 + 8 * i))
                                                   ports := BitVec.ofNat 12 (m.u16 (20 + 8 * i)) } : TorKey))
          let fits := n ≤ 64 ∧ m.u64 0 < 2 ^ 48 ∧ (m.u64 0 = 0 ∨ s.tickPast (BitVec.ofNat 48 (m.u64 0)) = false) ∧ (∀ i, i < n → m.u16 (20 + 8 * i) < 4096) ∧
            s.keysValid l = true
          (¬ fits → Completes (.torKeyset m) s (turned 0x0D03 rBadArgument)) ∧
          (fits → m.u64 0 = 0 → Completes (.torKeyset m) s (fun u => s.replied u m 0x0D03 2 rOK [] ∧ u.tor = { s.tor with keys := l, stagedKeys := none } ∧
            s.eventAt u s.priv 0x0B03 0 0 n)) ∧
          (fits → m.u64 0 ≠ 0 → Completes (.torKeyset m) s (fun u => s.replied u m 0x0D03 2 rOK [] ∧
            u.tor = { s.tor with stagedKeys := some (BitVec.ofNat 48 (m.u64 0), l) }))) ∧
        (s.canHandle .sch 0x0D04 →
          let g := m.u16 0
          let d := b.getD []
          let ids := (List.range (m.u32 16)).map (fun i => leAt d (4 * i) 4)
          let mask : BitVec 16384 := BitVec.ofNat 16384 (leNat (d.take 2048))
          let fits := g ≤ 1023 ∧ m.u8 2 ≤ 11 ∧ b.isSome = true ∧
            ((m.u8 3 = 0 ∧ s.tor.blockSize ≤ 16384 ∧ mask.toNat < 2 ^ s.tor.blockSize) ∨
              (m.u8 3 = 1 ∧ m.u32 16 ≤ 4096 ∧ (∀ i ∈ ids, s.tor.inDims i = true ∧ s.tor.inBlock i = true) ∧ ids.Nodup))
          let queued := ∃ x, tfind s.tor.mcast g = some x ∧ ∃ e ∈ s.tor.tports, ∃ p ∈ e.2.queue, p.mcast = true ∧ p.group = g ∧ p.from' = some x.owner
          (¬ fits → Completes (.torMcastSet m b) s (turned 0x0D04 rBadArgument)) ∧
          (fits → queued → Completes (.torMcastSet m b) s (turned 0x0D04 rBusy)) ∧
          (fits → ¬ queued → Completes (.torMcastSet m b) s (fun u => s.replied u m 0x0D04 2 rOK [] ∧
            tfind u.tor.mcast g = some { owner := m.u8 2, goal := if m.u8 3 = 0 then .compact mask else .extended ids } ∧
            ∀ j, j ≠ g → tfind u.tor.mcast j = tfind s.tor.mcast j))) ∧
        (s.canHandle .sch 0x0D05 →
          (1023 < m.u16 0 → Completes (.torMcastClear m) s (turned 0x0D05 rBadArgument)) ∧
          (m.u16 0 ≤ 1023 → Completes (.torMcastClear m) s (fun u => s.replied u m 0x0D05 2 rOK [] ∧ tfind u.tor.mcast (m.u16 0) = none ∧
            ∀ j, j ≠ m.u16 0 → tfind u.tor.mcast j = tfind s.tor.mcast j))))) ∧
    (s.tor.stagedKeys = none → exec .keysetApplied s = .next s) ∧
    (∀ t l, s.tor.stagedKeys = some (t, l) →
      (s.tickReached t = false → exec .keysetApplied s = .next s) ∧
      (s.tickReached t = true →
        let keep := (l.filter (fun e => (s.keyOwner e.key).isSome)).map (fun e => { e with ports := e.ports &&& s.keyPorts e.key })
        Completes .keysetApplied s (fun u => u.tor = { s.tor with keys := keep, stagedKeys := none } ∧ s.memSame u ∧ u.ops = s.ops)))

/-- 13 R423: TOR_ROUTE_SET applies its entries together at its tick's edge, or at once with tick 0; it clears every fallback and counts in SETS; a tick already
past gives BAD_ARGUMENT and applies nothing; a later set replaces a staged one. -/
def Obligations.RouteSetsTakeForceTogether : Prop :=
  ∀ (s : State),
    let routed := fun (u : State) (l : List (Nat × W16)) => u.tor.sets = s.tor.sets + 1 ∧ u.tor.stagedRoutes = none ∧ (∀ k, (u.tp k).fallback = false) ∧
      ((l.map (·.1)).Nodup → ∀ e ∈ l, u.routeEntry e.1 = e.2.toNat) ∧ (∀ id, id ∉ l.map (·.1) → u.routeEntry id = s.routeEntry id) ∧
      u.tor.keys = s.tor.keys ∧ u.tor.mcast = s.tor.mcast
    (∀ (m : Msg) (b : List Byte), (m.sender = .peer ∨ s.isPriv m = true) → s.canHandle .sch 0x0D02 →
      let n := m.u32 8
      let l := (List.range n).map (fun i => (leAt b (8 * i) 4, BitVec.ofNat 16 (leAt b (8 * i + 4) 2)))
      let fits := 1 ≤ n ∧ n ≤ 262144 ∧ m.u64 0 < 2 ^ 48 ∧ (∀ e ∈ l, e.1 < 2 ^ 18 ∧ e.2.toNat < 2 ^ 11) ∧ ∀ i, i < n → leAt b (8 * i + 6) 2 = 0
      (m.u64 0 ≠ 0 → s.tickPast (BitVec.ofNat 48 (m.u64 0)) = true → Completes (.torRouteSet m (some b)) s (fun u =>
        s.replied u m 0x0D02 2 rBadArgument [] ∧ u.tor = s.tor)) ∧
      (fits → m.u64 0 = 0 → Completes (.torRouteSet m (some b)) s (fun u => s.replied u m 0x0D02 2 rOK [] ∧ routed u l)) ∧
      (fits → m.u64 0 ≠ 0 → s.tickPast (BitVec.ofNat 48 (m.u64 0)) = false → Completes (.torRouteSet m (some b)) s (fun u =>
        s.replied u m 0x0D02 2 rOK [] ∧ u.tor = { s.tor with stagedRoutes := some (BitVec.ofNat 48 (m.u64 0), l) }))) ∧
    (s.tor.stagedRoutes = none → exec .routeSetApply s = .next s) ∧
    (∀ t l, s.tor.stagedRoutes = some (t, l) →
      (s.tickReached t = false → exec .routeSetApply s = .next s) ∧
      (s.tickReached t = true → Completes .routeSetApply s (fun u => routed u l ∧ s.memSame u ∧ u.ops = s.ops)))

/-- 19 R586-R588, R591, R594, R597, R598, T19.3, T19.6, 18 R578, 16 R523: the input decides what runs; the wafer is powered under its conditions and goes down
fast on a bad input, a leak and the safety input; every such cause is logged. Where it fixes what the spec leaves open it follows logs 2, 57, 58. -/
def Obligations.CarrierPowersAndTripsTheWafer : Prop :=
  ∀ (s : State),
    let g := s.mgt
    let logged := fun (u : State) (kind data : Nat) => ∃ r ∈ u.mgt.log, r.seq = g.logSeq + 1 ∧ r.kind = BitVec.ofNat 16 kind ∧ r.data = BitVec.ofNat 160 data
    let goesDown := fun (u : State) (fast : Bool) (cause : Nat) => g.waferOn = true → s.pwr.down = none →
      ∃ d, u.pwr.down = some d ∧ d.fast = fast ∧ d.cause = BitVec.ofNat 3 cause ∧ d.step = 1
    let stopped := fun (u : State) => u.mgt.waferOn = false ∧ u.phase = .powerOn ∧ u.tiles = [] ∧ u.sram = [] ∧ u.slices = [] ∧ u.flash = s.flash ∧
      u.mgt.chA = true ∧ u.mgt.chB = true ∧ u.mgt.safety = .request ∧ u.mgt.root = g.root ∧ u.mgt.leak = g.leak ∧ u.mgt.log = g.log ∧ u.mgt.logSeq = g.logSeq ∧
      u.mgt.autoOn = g.autoOn ∧ u.mgt.privLinkNext = g.privLinkNext ∧ u.mgt.segs = [] ∧ u.mgt.peers = 0 ∧ u.mgt.mgmtUp = false
    (∀ (service : Bool) (mv : W16),
      (g.inputOn = true → exec (.inputPowerApplied service mv) s = .next s) ∧
      (g.inputOn = false → Completes (.inputPowerApplied service mv) s (fun u => stopped u ∧ u.mgt.inputOn = true ∧ u.mgt.mmcRunning = true ∧ u.mgt.service = service ∧
        u.mgt.inputMv10 = mv))) ∧
    Completes .inputPowerLoss s (fun u => stopped u ∧ u.mgt.inputOn = false ∧ u.mgt.mmcRunning = false) ∧
    (∀ mv : W16,
      (5000 ≤ mv.toNat → mv.toNat ≤ 6000 → exec (.inputVoltageFault mv) s = .next s) ∧
      ((mv.toNat < 5000 ∨ 6000 < mv.toNat) → Completes (.inputVoltageFault mv) s (fun u => u.mgt.inputMv10 = mv ∧ logged u 8 mv.toNat ∧ goesDown u true 6))) ∧
    (let may := g.inputOn = true ∧ g.mmcRunning = true ∧ g.waferOn = false ∧ 5000 ≤ g.inputMv10.toNat ∧ g.inputMv10.toNat ≤ 5800 ∧ g.safety = .normal ∧ g.leak = false
     (may → (g.autoOn = true ∨ g.powerOnReceived = true) → exec .autoPowerOn s = .next { s with mgt := { g with waferOn := true } }) ∧
     (¬ may ∨ (g.autoOn = false ∧ g.powerOnReceived = false) → exec .autoPowerOn s = .next s)) ∧
    Completes .leakDetect s (fun u => u.mgt.leak = true ∧ logged u 7 0 ∧ goesDown u true 5) ∧
    (g.inputOn = false → exec .moduleReset s = .next s) ∧
    (g.inputOn = true → Completes .moduleReset s (fun u => u.phase = .powerOn ∧ u.tiles = [] ∧ u.sram = [] ∧ u.slices = [] ∧ u.flash = s.flash ∧ u.ops = [] ∧
      u.sec.privLink = g.privLinkNext ∧ u.sec.fuseSvn = s.sec.fuseSvn ∧ u.fw.images = s.fw.images ∧ u.mgt = { g with powerOnReceived := false })) ∧
    (∀ a b : Bool,
      let cmd := Instr.safetySample a b
      let seen := fun (u : State) => u.mgt.chA = a ∧ u.mgt.chB = b
      (g.inputOn = false → exec cmd s = .next s) ∧
      (g.inputOn = true →
        (g.safety = .fault → Completes cmd s (fun u => seen u ∧ u.mgt.safety = .fault ∧ u.pwr = s.pwr ∧ u.mgt.count = (if a = b then 0 else g.count))) ∧
        (g.safety ≠ .fault → a ≠ b → g.count + 1 < 40 → Completes cmd s (fun u => seen u ∧ u.mgt.safety = .discrepancy ∧ u.mgt.count = g.count + 1 ∧ u.pwr = s.pwr)) ∧
        (g.safety ≠ .fault → a ≠ b → 40 ≤ g.count + 1 → Completes cmd s (fun u => seen u ∧ u.mgt.safety = .fault ∧ u.mgt.faultLatched = true ∧
          u.mgt.faults = satInc g.faults ∧ logged u 4 1 ∧ goesDown u true 3)) ∧
        (g.safety ≠ .fault → a = false → b = false → Completes cmd s (fun u => seen u ∧ u.mgt.safety = .normal ∧ u.mgt.count = 0 ∧ u.pwr = s.pwr ∧
          (0 < g.count → u.mgt.maxCount = BitVec.ofNat 6 (max g.maxCount.toNat g.count) ∧ s.eventAt u s.priv 0x1105 0 0 g.count))) ∧
        (g.safety = .request → a = true → b = true → Completes cmd s (fun u => seen u ∧ u.mgt.safety = .request ∧ u.mgt.count = 0 ∧ u.pwr = s.pwr)) ∧
        (g.safety ≠ .fault → g.safety ≠ .request → a = true → b = true → Completes cmd s (fun u => seen u ∧ u.mgt.safety = .request ∧ u.mgt.count = 0 ∧
          u.mgt.requests = satInc g.requests ∧ logged u 4 0 ∧ goesDown u true 3))))

/-- 19 R589, R592-R594, R596, R600-R602, T19.5, T19.8: the management port, its peers, pluggables and PMBus segments; the MGT_ messages act for their senders. Where it fixes what the spec leaves open it follows logs 2, 10, 57, 58. -/
def Obligations.ManagementActs : Prop :=
  ∀ (s : State),
    let g := s.mgt
    let quiet := fun (u : State) => s.memSame u ∧ u.ops = s.ops ∧ u.tiles = s.tiles ∧ u.pwr = s.pwr
    let down := fun (u : State) => u.mgt.mgmtUp = false ∧ u.mgt.peers = 0 ∧ u.mgt.ptpLocked = false ∧ quiet u ∧ (g.mgmtUp = true → s.eventAt u s.priv 0x1103 0 0 0)
    let freed := fun (u : State) (x : Nat) (k : Nat) => (u.seg x).state = .active ∧ (u.seg x).tries = 0 ∧ (u.seg x).stale = false ∧
      (u.seg x).recoveries = satInc (s.seg x).recoveries ∧ s.eventAt u s.priv 0x1102 0 0 (x + 16 * k)
    let isolated := fun (u : State) (x : Nat) (scl : Bool) => (u.seg x).state = .isolated ∧ (u.seg x).cause = scl ∧ (u.seg x).stale = true ∧
      (u.seg x).isolations = satInc (s.seg x).isolations ∧ s.eventAt u s.priv 0x1101 0 0 (x + 16 * scl.toNat) ∧
      ∃ r ∈ u.mgt.log, r.seq = g.logSeq + 1 ∧ r.kind = 5
    (g.mmcRunning = false → (∀ b, exec (.mgmtLink b) s = .next s) ∧ exec .mmcWatchdogRestart s = .next s ∧ (∀ b, exec (.peerAdmit b) s = .next s) ∧
      (∀ p w, exec (.pluggableInsert p w) s = .next s) ∧ (∀ x a r, exec (.pmbusSdaLow x a r) s = .next s ∧ exec (.sclTimeout x a) s = .next s ∧
        exec (.pmbusReselect x r) s = .next s)) ∧
    (g.mmcRunning = true →
      (g.mgmtUp = true → exec (.mgmtLink true) s = .next s) ∧
      (g.mgmtUp = false → Completes (.mgmtLink true) s (fun u => u.mgt = { g with mgmtUp := true } ∧ quiet u ∧ s.eventAt u s.priv 0x1103 0 0 1)) ∧
      Completes (.mgmtLink false) s (fun u => down u ∧ u.mgt.mmcRestarts = g.mmcRestarts ∧ (s.cad.sourceKind = 2 → s.cad.state = .locked → u.cad.state = .holdover)) ∧
      Completes .mmcWatchdogRestart s (fun u => down u ∧ u.mgt.mmcRestarts = satInc g.mmcRestarts ∧ u.mgt.mmcRunning = true) ∧
      (∀ b, (b = false ∨ g.mgmtUp = false ∨ g.root = []) → exec (.peerAdmit b) s = .next s) ∧
      (g.mgmtUp = true → g.root ≠ [] → Completes (.peerAdmit true) s (fun u => u.mgt = { g with peers := g.peers + 1, reported := g.logSeq } ∧ quiet u ∧
        ∀ r ∈ g.log, g.reported.toNat < r.seq.toNat → Output.peerReport r ∈ u.out)) ∧
      (∀ (p : Fin 38) (w : Nat),
        (s.portAbsent p = true → exec (.pluggableInsert p w) s = .next s) ∧
        (s.portAbsent p = false → 12 < w → (s.port p).phase ≠ .relocating → Completes (.pluggableInsert p w) s (fun u => u.mgt.pluggableLow.getLsbD p = true ∧
          (u.port p).phase = .disabled ∧ (u.port p).failCause = 1)) ∧
        (s.portAbsent p = false → w ≤ 12 → (s.port p).phase ≠ .disabled → Completes (.pluggableInsert p w) s (fun u => u.mgt.pluggableLow.getLsbD p = false ∧
          u.ports = s.ports))) ∧
      (∀ (x : Fin 16) (a : BitVec 7) (r : SdaResult),
        let z := s.seg x
        let stuck := r = .stuck ∨ ∃ k, r = .released k ∧ (k = 0 ∨ 9 < k)
        (z.state ≠ .active → exec (.pmbusSdaLow x a r) s = .next s ∧ exec (.sclTimeout x a) s = .next s) ∧
        (z.state = .active →
          (∀ k, r = .released k → 1 ≤ k → k ≤ 9 → Completes (.pmbusSdaLow x a r) s (fun u => freed u x k ∧ (u.seg x).lastAddr = a ∧ quiet u)) ∧
          (stuck → Completes (.pmbusSdaLow x a r) s (fun u => isolated u x false ∧ (u.seg x).lastAddr = a ∧ quiet u)) ∧
          Completes (.sclTimeout x a) s (fun u => isolated u x true ∧ (u.seg x).lastAddr = a ∧ quiet u)) ∧
        (z.state ≠ .isolated ∨ 3 ≤ z.tries.toNat → exec (.pmbusReselect x r) s = .next s) ∧
        (z.state = .isolated → z.tries.toNat < 3 →
          (∀ k, r = .released k → 1 ≤ k → k ≤ 9 → Completes (.pmbusReselect x r) s (fun u => freed u x k ∧ quiet u)) ∧
          (stuck → Completes (.pmbusReselect x r) s (fun u => isolated u x z.cause ∧ (u.seg x).tries = z.tries + 1 ∧ quiet u))))) ∧
    (∀ (m : Msg) (b : Bool) (r : SdaResult),
      let rows : List (Instr × Nat × List MgtSender) := [(.mgtStatusGet m, 0x1301, [.priv, .pf, .peer, .console]), (.mgtConfigSet m b, 0x1302, [.priv]),
        (.mgtSafetyClear m, 0x1303, [.peer, .console]), (.mgtPowerOn m b, 0x1304, [.peer, .console]), (.mgtPowerOff m, 0x1305, [.priv, .peer, .console]),
        (.mgtLogRead m, 0x1306, [.priv, .peer, .console]), (.mgtPmbusRejoin m r, 0x1307, [.priv, .peer])]
      let w := s.mgtSender m
      let may := fun (e : Instr × Nat × List MgtSender) => w ∈ e.2.2 ∧ (w = .peer → e.2.1 = 0x1301 ∨ 0 < g.peers) ∧
        (w = .console → e.2.1 = 0x1301 ∨ e.2.1 = 0x1306 ∨ g.service = true)
      let told := fun (u : State) (id res : Nat) (l : List Byte) => s.replied u m id 4 res l
      (∀ e ∈ rows, g.mmcRunning = false → exec e.1 s = .next s) ∧
      (∀ e ∈ rows, g.mmcRunning = true → ¬ may e → Completes e.1 s (fun u => told u e.2.1 rNotPermitted [] ∧ u.mgt = g ∧ quiet u)) ∧
      (g.mmcRunning = true →
        (may (.mgtStatusGet m, 0x1301, [.priv, .pf, .peer, .console]) → Completes (.mgtStatusGet m) s (fun u =>
          told u 0x1301 rOK (leBytes 8 s.mgtStatus ++ leBytes 8 s.mgtSafety ++ leBytes 8 s.pwrInput) ∧ u.mgt = g ∧ quiet u)) ∧
        (w = .priv →
          let len := m.u16 4
          let fits := m.u8 0 ≤ 1 ∧ m.u8 1 ≤ 3 ∧ m.u8 2 ≤ 1 ∧ len ≤ 2048 ∧ (0 < len → b = true)
          (¬ fits → Completes (.mgtConfigSet m b) s (fun u => told u 0x1302 rBadArgument [] ∧ u.mgt = g)) ∧
          (fits → Completes (.mgtConfigSet m b) s (fun u => told u 0x1302 rOK [] ∧ u.mgt.autoOn = decide (m.u8 0 = 1) ∧ u.mgt.privLinkNext = BitVec.ofNat 2 (m.u8 1) ∧
            u.mgt.locate = decide (m.u8 2 = 1) ∧ (len = 0 → u.mgt.root = g.root) ∧ (∀ i, i < len → u.mgt.root.getD i 0 = byteAt m.payload (8 + i)) ∧ quiet u))) ∧
        ((w = .peer ∧ 0 < g.peers) ∨ (w = .console ∧ g.service = true) →
          ((g.chA = true ∨ g.chB = true) → Completes (.mgtSafetyClear m) s (fun u => told u 0x1303 rBusy [] ∧ u.mgt = g)) ∧
          (g.chA = false → g.chB = false → g.faultLatched = false → Completes (.mgtSafetyClear m) s (fun u => told u 0x1303 rOK [] ∧ u.mgt = g)) ∧
          (g.chA = false → g.chB = false → g.faultLatched = true → Completes (.mgtSafetyClear m) s (fun u => told u 0x1303 rOK [] ∧
            u.mgt = { g with faultLatched := false, safety := .normal, count := 0 })) ∧
          (let may' := g.inputOn = true ∧ g.waferOn = false ∧ 5000 ≤ g.inputMv10.toNat ∧ g.inputMv10.toNat ≤ 5800 ∧ g.safety = .normal ∧ (g.leak = false ∨ b = true)
           (¬ may' → Completes (.mgtPowerOn m b) s (fun u => told u 0x1304 rBusy [] ∧ u.mgt = { g with leak := g.leak && !b })) ∧
           (may' → Completes (.mgtPowerOn m b) s (fun u => told u 0x1304 rOK [] ∧ u.mgt = { g with leak := false, powerOnReceived := true, waferOn := true })))) ∧
        (may (.mgtPowerOff m, 0x1305, [.priv, .peer, .console]) → s.pwr.down = none → g.waferOn = true → Completes (.mgtPowerOff m) s (fun u => (∃ d, u.pwr.down = some d ∧
          d.fast = false ∧ d.cause = 2 ∧ d.step = 1) ∧ ∃ r ∈ u.mgt.log, r.seq = g.logSeq + 1 ∧ r.kind = 2)) ∧
        (may (.mgtPowerOff m, 0x1305, [.priv, .peer, .console]) → g.waferOn = false → Completes (.mgtPowerOff m) s (fun u => told u 0x1305 rOK [] ∧ quiet u)) ∧
        (may (.mgtLogRead m, 0x1306, [.priv, .peer, .console]) →
          (128 < m.u32 4 → Completes (.mgtLogRead m) s (fun u => told u 0x1306 rBadArgument [] ∧ u.mgt = g)) ∧
          (m.u32 4 ≤ 128 → Completes (.mgtLogRead m) s (fun u =>
            let l := ((g.log.reverse).filter (fun r => decide (m.u32 0 ≤ r.seq.toNat))).take (m.u32 4)
            told u 0x1306 rOK (leBytes 8 l.length ++ (l.map LogRecord.bytes).flatten) ∧ u.mgt = g ∧ quiet u))) ∧
        (may (.mgtPmbusRejoin m r, 0x1307, [.priv, .peer]) →
          let x := m.u8 0
          (15 < x → Completes (.mgtPmbusRejoin m r) s (fun u => told u 0x1307 rBadArgument [] ∧ u.mgt = g)) ∧
          (x ≤ 15 → (s.seg x).state ≠ .isolated → Completes (.mgtPmbusRejoin m r) s (fun u => told u 0x1307 rOK [] ∧ u.mgt = g)) ∧
          (∀ k, x ≤ 15 → (s.seg x).state = .isolated → r = .released k → 1 ≤ k → k ≤ 9 → Completes (.mgtPmbusRejoin m r) s (fun u => told u 0x1307 rOK [] ∧ freed u x k)) ∧
          (x ≤ 15 → (s.seg x).state = .isolated → r = .stuck → Completes (.mgtPmbusRejoin m r) s (fun u => told u 0x1307 rNoResource [] ∧ isolated u x (s.seg x).cause)))))

/-- 19 R587: every 10 ms the effective peak limit becomes the least of PEAK_W and 600 A times the input voltage (6 W for each 10 mV); INPUT_LIMITED reads 1 while
the product binds. -/
def Obligations.PeakLimitFollowsTheInput : Prop :=
  ∀ (s : State) (mv : W16),
    let g := s.mgt
    (g.mmcRunning = false → exec (.inputLimit mv) s = .next s) ∧
    (g.mmcRunning = true → Completes (.inputLimit mv) s (fun u => u.mgt.inputMv10 = mv ∧ u.pwr.peakW = BitVec.ofNat 16 (min s.pwr.peakSet.toNat (6 * mv.toNat)) ∧
      (u.mgt.inputLimited = true ↔ 6 * mv.toNat < s.pwr.peakSet.toNat) ∧ s.memSame u ∧
      (g.inputLimited = false → 6 * mv.toNat < s.pwr.peakSet.toNat → s.eventAt u s.priv 0x1104 0 0 (mv.toNat + 2 ^ 16))))

/-- The block's step (no rule of the spec; logs 1 and 2): with a command at the front of the queue, a step is that command's effect on the state with the queue's
rest; with none, the module idles. -/
def Obligations.StepTakesTheFrontCommand : Prop :=
  (∀ (c : Instr) (s : State) (rest : List Instr), Machine.step { s with pending := c :: rest } = exec c { s with pending := rest }) ∧
  (∀ s : State, s.pending = [] → Machine.step s = .next s)

/-- The values the register tables give for reset: 04 T4.6, T4.7, T4.9, 12 T12.13, 13 T13.9, 15 T15.11, 16 T16.12, T16.13, 17 T17.5-T17.8, 18 T18.12, T18.13; the
memories hold no byte but 0 and the partitions are FREE. Where it fixes what the spec leaves open it follows logs 3, 8. -/
def Obligations.ResetLeavesTheStatedValues : Prop :=
  let s := State.reset
  s.memOk ∧ s.pending = [] ∧ s.ops = [] ∧ s.out = [] ∧
  (∀ n, (s.pt n).state = .free) ∧ (∀ t, s.tile t = {}) ∧ (∀ a, s.sram.read a = 0 ∧ s.slices.read a = 0) ∧
  s.cad.state = .unset ∧ s.cad.sourceMode = 0 ∧ s.cad.root = false ∧ s.cad.tportMask = 0xFFF ∧ s.cad.ptpDomain = 0 ∧ s.cad.rootPriority = 128 ∧
  s.cad.sourceKind = 0 ∧ s.cad.sourcePort = 0 ∧ s.cad.hops = 0 ∧ s.cad.inSpec = false ∧ s.cad.holdoverMs = 0 ∧ s.cad.sourceId = 0 ∧
  (∀ r, r < 144 → (s.rg r).osc.cls = 1 ∧ (s.rg r).osc.target = 1 ∧ (s.rg r).osc.changing = false ∧ (s.rg r).osc.elastic = 0 ∧ (s.rg r).osc.lull = false ∧
    (s.rg r).osc.pulled = false) ∧
  s.proto.gradAckMs = 1000 ∧ s.proto.reqMax = 256 ∧
  (∀ p, p < 38 → (s.port p).width = 0 ∧ (s.port p).rate = 0 ∧ (s.port p).failCause = 0 ∧ (s.port p).partnerId = 0 ∧ (s.port p).enable = true ∧ (s.port p).allowX4 = true ∧
    (s.port p).allowHalf = true ∧ ((s.port p).cur0, (s.port p).cur1) = homeWells p ∧ tfind s.portOwner p = none) ∧
  (∀ k, (s.tp k).mismatch = true ∧ (s.tp k).fallback = false) ∧ s.tor.idValid = false ∧ s.tor.sets = 0 ∧ (∀ n, (s.throttle n).thresh = 4096) ∧
  s.fw.wdogSec = 1000 ∧ s.fw.wdogPwr = 200 ∧ s.fw.wdogSch = 500 ∧ s.fw.wdogRcc = 200 ∧ s.fw.auth = 0 ∧
  s.pwr.hostW = 32000 ∧ s.pwr.rackW = 32000 ∧ s.pwr.coolantW = 32000 ∧ s.pwr.inForceW = 32000 ∧ s.pwr.peakW = 32000 ∧ s.pwr.duty = 16 ∧ s.pwr.class0En = true ∧
  s.pwr.forecastEn = true ∧ s.pwr.bondMargin = 8 ∧ s.pwr.eta = 910 ∧ s.pwr.targetC = 85 ∧
  s.bru.frontCol = 0xF ∧ s.bru.frontDone = false ∧ s.bru.startRegion = 0xFF ∧ s.bru.fwRegion = 0xFF ∧ s.bru.fabricMs = 0 ∧ s.bru.fullMs = 0 ∧
  s.ras.marginPct = 10 ∧ s.ras.priorityEn = true ∧ s.ras.lossMs = 100 ∧ s.ras.twin.state = .unpaired ∧ (∀ n, s.mir n = {})

/-- Each command answers a next state, from every state; none reads or changes the queue, the ordering code, the serial number and the other fixed fields
(00 T0.1), nor takes back what has left the module (the model's form; NOTES.md, Stops). Where it fixes what the spec leaves open it follows logs 1, 2, 3, 9. -/
def Obligations.EveryCommandAnswersAndKeepsTheQueue : Prop :=
  ∀ (c : Instr) (s : State), ∃ u, exec c s = .next u ∧ u.pending = s.pending ∧ u.fixed = s.fixed ∧ ∃ l, u.out = l ++ s.out

/-- Every step keeps the memories' canonical form: addresses rise strictly, no entry equals what an unlisted address reads as (02 R48, 17 R531, R545). Where it fixes what the spec leaves open it follows logs 8. -/
def Obligations.EveryStepKeepsTheMemoryForm : Prop := ∀ s u : State, s.memOk → Machine.step s = .next u → u.memOk
end

