-- ==== Sys2Proof/Laws/State.lean ====
section
/-! SUPPORT. One lemma per field per named update of the state: what the update leaves as it was. -/
namespace Sys2Proof.Machine

variable (s : State)

@[simp] theorem State.setR_fixed (i : Nat) (r : Region) : (s.setR i r).fixed = s.fixed := rfl
@[simp] theorem State.setR_phase (i : Nat) (r : Region) : (s.setR i r).phase = s.phase := rfl
@[simp] theorem State.setR_scratch (i : Nat) (r : Region) : (s.setR i r).scratch = s.scratch := rfl
@[simp] theorem State.setR_rsShadow (i : Nat) (r : Region) : (s.setR i r).rsShadow = s.rsShadow := rfl
@[simp] theorem State.setR_links (i : Nat) (r : Region) : (s.setR i r).links = s.links := rfl
@[simp] theorem State.setR_part (i : Nat) (r : Region) : (s.setR i r).part = s.part := rfl
@[simp] theorem State.setR_sync (i : Nat) (r : Region) : (s.setR i r).sync = s.sync := rfl
@[simp] theorem State.setR_ops (i : Nat) (r : Region) : (s.setR i r).ops = s.ops := rfl
@[simp] theorem State.setR_nextOp (i : Nat) (r : Region) : (s.setR i r).nextOp = s.nextOp := rfl
@[simp] theorem State.setR_nextEnd (i : Nat) (r : Region) : (s.setR i r).nextEnd = s.nextEnd := rfl
@[simp] theorem State.setR_rrPart (i : Nat) (r : Region) : (s.setR i r).rrPart = s.rrPart := rfl
@[simp] theorem State.setR_cad (i : Nat) (r : Region) : (s.setR i r).cad = s.cad := rfl
@[simp] theorem State.setR_fw (i : Nat) (r : Region) : (s.setR i r).fw = s.fw := rfl
@[simp] theorem State.setR_sec (i : Nat) (r : Region) : (s.setR i r).sec = s.sec := rfl
@[simp] theorem State.setR_portOwner (i : Nat) (r : Region) : (s.setR i r).portOwner = s.portOwner := rfl
@[simp] theorem State.setR_pwr (i : Nat) (r : Region) : (s.setR i r).pwr = s.pwr := rfl
@[simp] theorem State.setR_bru (i : Nat) (r : Region) : (s.setR i r).bru = s.bru := rfl
@[simp] theorem State.setR_ras (i : Nat) (r : Region) : (s.setR i r).ras = s.ras := rfl
@[simp] theorem State.setR_mgt (i : Nat) (r : Region) : (s.setR i r).mgt = s.mgt := rfl
@[simp] theorem State.setR_tiles (i : Nat) (r : Region) : (s.setR i r).tiles = s.tiles := rfl
@[simp] theorem State.setR_sram (i : Nat) (r : Region) : (s.setR i r).sram = s.sram := rfl
@[simp] theorem State.setR_sramG (i : Nat) (r : Region) : (s.setR i r).sramG = s.sramG := rfl
@[simp] theorem State.setR_slices (i : Nat) (r : Region) : (s.setR i r).slices = s.slices := rfl
@[simp] theorem State.setR_sliceG (i : Nat) (r : Region) : (s.setR i r).sliceG = s.sliceG := rfl
@[simp] theorem State.setR_flash (i : Nat) (r : Region) : (s.setR i r).flash = s.flash := rfl
@[simp] theorem State.setR_runs (i : Nat) (r : Region) : (s.setR i r).runs = s.runs := rfl
@[simp] theorem State.setR_ports (i : Nat) (r : Region) : (s.setR i r).ports = s.ports := rfl
@[simp] theorem State.setR_tor (i : Nat) (r : Region) : (s.setR i r).tor = s.tor := rfl
@[simp] theorem State.setR_routeSet (i : Nat) (r : Region) : (s.setR i r).routeSet = s.routeSet := rfl
@[simp] theorem State.setR_routeWork (i : Nat) (r : Region) : (s.setR i r).routeWork = s.routeWork := rfl
@[simp] theorem State.setR_proto (i : Nat) (r : Region) : (s.setR i r).proto = s.proto := rfl
@[simp] theorem State.setR_snaps (i : Nat) (r : Region) : (s.setR i r).snaps = s.snaps := rfl
@[simp] theorem State.setR_xfers (i : Nat) (r : Region) : (s.setR i r).xfers = s.xfers := rfl
@[simp] theorem State.setR_pkts (i : Nat) (r : Region) : (s.setR i r).pkts = s.pkts := rfl
@[simp] theorem State.setR_nextPkt (i : Nat) (r : Region) : (s.setR i r).nextPkt = s.nextPkt := rfl
@[simp] theorem State.setR_shPages (i : Nat) (r : Region) : (s.setR i r).shPages = s.shPages := rfl
@[simp] theorem State.setR_backing (i : Nat) (r : Region) : (s.setR i r).backing = s.backing := rfl
@[simp] theorem State.setR_fetches (i : Nat) (r : Region) : (s.setR i r).fetches = s.fetches := rfl
@[simp] theorem State.setR_passed (i : Nat) (r : Region) : (s.setR i r).passed = s.passed := rfl
@[simp] theorem State.setR_readSeq (i : Nat) (r : Region) : (s.setR i r).readSeq = s.readSeq := rfl
@[simp] theorem State.setR_pubs (i : Nat) (r : Region) : (s.setR i r).pubs = s.pubs := rfl
@[simp] theorem State.setR_insts (i : Nat) (r : Region) : (s.setR i r).insts = s.insts := rfl
@[simp] theorem State.setR_streamOps (i : Nat) (r : Region) : (s.setR i r).streamOps = s.streamOps := rfl
@[simp] theorem State.setR_nextInst (i : Nat) (r : Region) : (s.setR i r).nextInst = s.nextInst := rfl
@[simp] theorem State.setR_nextReq (i : Nat) (r : Region) : (s.setR i r).nextReq = s.nextReq := rfl
@[simp] theorem State.setR_opProg (i : Nat) (r : Region) : (s.setR i r).opProg = s.opProg := rfl
@[simp] theorem State.setR_out (i : Nat) (r : Region) : (s.setR i r).out = s.out := rfl
@[simp] theorem State.setR_free (i : Nat) (r : Region) : (s.setR i r).free = s.free := rfl
@[simp] theorem State.setR_pending (i : Nat) (r : Region) : (s.setR i r).pending = s.pending := rfl

@[simp] theorem State.updR_fixed (i : Nat) (f : Region → Region) : (s.updR i f).fixed = s.fixed := rfl
@[simp] theorem State.updR_phase (i : Nat) (f : Region → Region) : (s.updR i f).phase = s.phase := rfl
@[simp] theorem State.updR_scratch (i : Nat) (f : Region → Region) : (s.updR i f).scratch = s.scratch := rfl
@[simp] theorem State.updR_rsShadow (i : Nat) (f : Region → Region) : (s.updR i f).rsShadow = s.rsShadow := rfl
@[simp] theorem State.updR_links (i : Nat) (f : Region → Region) : (s.updR i f).links = s.links := rfl
@[simp] theorem State.updR_part (i : Nat) (f : Region → Region) : (s.updR i f).part = s.part := rfl
@[simp] theorem State.updR_sync (i : Nat) (f : Region → Region) : (s.updR i f).sync = s.sync := rfl
@[simp] theorem State.updR_ops (i : Nat) (f : Region → Region) : (s.updR i f).ops = s.ops := rfl
@[simp] theorem State.updR_nextOp (i : Nat) (f : Region → Region) : (s.updR i f).nextOp = s.nextOp := rfl
@[simp] theorem State.updR_nextEnd (i : Nat) (f : Region → Region) : (s.updR i f).nextEnd = s.nextEnd := rfl
@[simp] theorem State.updR_rrPart (i : Nat) (f : Region → Region) : (s.updR i f).rrPart = s.rrPart := rfl
@[simp] theorem State.updR_cad (i : Nat) (f : Region → Region) : (s.updR i f).cad = s.cad := rfl
@[simp] theorem State.updR_fw (i : Nat) (f : Region → Region) : (s.updR i f).fw = s.fw := rfl
@[simp] theorem State.updR_sec (i : Nat) (f : Region → Region) : (s.updR i f).sec = s.sec := rfl
@[simp] theorem State.updR_portOwner (i : Nat) (f : Region → Region) : (s.updR i f).portOwner = s.portOwner := rfl
@[simp] theorem State.updR_pwr (i : Nat) (f : Region → Region) : (s.updR i f).pwr = s.pwr := rfl
@[simp] theorem State.updR_bru (i : Nat) (f : Region → Region) : (s.updR i f).bru = s.bru := rfl
@[simp] theorem State.updR_ras (i : Nat) (f : Region → Region) : (s.updR i f).ras = s.ras := rfl
@[simp] theorem State.updR_mgt (i : Nat) (f : Region → Region) : (s.updR i f).mgt = s.mgt := rfl
@[simp] theorem State.updR_tiles (i : Nat) (f : Region → Region) : (s.updR i f).tiles = s.tiles := rfl
@[simp] theorem State.updR_sram (i : Nat) (f : Region → Region) : (s.updR i f).sram = s.sram := rfl
@[simp] theorem State.updR_sramG (i : Nat) (f : Region → Region) : (s.updR i f).sramG = s.sramG := rfl
@[simp] theorem State.updR_slices (i : Nat) (f : Region → Region) : (s.updR i f).slices = s.slices := rfl
@[simp] theorem State.updR_sliceG (i : Nat) (f : Region → Region) : (s.updR i f).sliceG = s.sliceG := rfl
@[simp] theorem State.updR_flash (i : Nat) (f : Region → Region) : (s.updR i f).flash = s.flash := rfl
@[simp] theorem State.updR_runs (i : Nat) (f : Region → Region) : (s.updR i f).runs = s.runs := rfl
@[simp] theorem State.updR_ports (i : Nat) (f : Region → Region) : (s.updR i f).ports = s.ports := rfl
@[simp] theorem State.updR_tor (i : Nat) (f : Region → Region) : (s.updR i f).tor = s.tor := rfl
@[simp] theorem State.updR_routeSet (i : Nat) (f : Region → Region) : (s.updR i f).routeSet = s.routeSet := rfl
@[simp] theorem State.updR_routeWork (i : Nat) (f : Region → Region) : (s.updR i f).routeWork = s.routeWork := rfl
@[simp] theorem State.updR_proto (i : Nat) (f : Region → Region) : (s.updR i f).proto = s.proto := rfl
@[simp] theorem State.updR_snaps (i : Nat) (f : Region → Region) : (s.updR i f).snaps = s.snaps := rfl
@[simp] theorem State.updR_xfers (i : Nat) (f : Region → Region) : (s.updR i f).xfers = s.xfers := rfl
@[simp] theorem State.updR_pkts (i : Nat) (f : Region → Region) : (s.updR i f).pkts = s.pkts := rfl
@[simp] theorem State.updR_nextPkt (i : Nat) (f : Region → Region) : (s.updR i f).nextPkt = s.nextPkt := rfl
@[simp] theorem State.updR_shPages (i : Nat) (f : Region → Region) : (s.updR i f).shPages = s.shPages := rfl
@[simp] theorem State.updR_backing (i : Nat) (f : Region → Region) : (s.updR i f).backing = s.backing := rfl
@[simp] theorem State.updR_fetches (i : Nat) (f : Region → Region) : (s.updR i f).fetches = s.fetches := rfl
@[simp] theorem State.updR_passed (i : Nat) (f : Region → Region) : (s.updR i f).passed = s.passed := rfl
@[simp] theorem State.updR_readSeq (i : Nat) (f : Region → Region) : (s.updR i f).readSeq = s.readSeq := rfl
@[simp] theorem State.updR_pubs (i : Nat) (f : Region → Region) : (s.updR i f).pubs = s.pubs := rfl
@[simp] theorem State.updR_insts (i : Nat) (f : Region → Region) : (s.updR i f).insts = s.insts := rfl
@[simp] theorem State.updR_streamOps (i : Nat) (f : Region → Region) : (s.updR i f).streamOps = s.streamOps := rfl
@[simp] theorem State.updR_nextInst (i : Nat) (f : Region → Region) : (s.updR i f).nextInst = s.nextInst := rfl
@[simp] theorem State.updR_nextReq (i : Nat) (f : Region → Region) : (s.updR i f).nextReq = s.nextReq := rfl
@[simp] theorem State.updR_opProg (i : Nat) (f : Region → Region) : (s.updR i f).opProg = s.opProg := rfl
@[simp] theorem State.updR_out (i : Nat) (f : Region → Region) : (s.updR i f).out = s.out := rfl
@[simp] theorem State.updR_free (i : Nat) (f : Region → Region) : (s.updR i f).free = s.free := rfl
@[simp] theorem State.updR_pending (i : Nat) (f : Region → Region) : (s.updR i f).pending = s.pending := rfl

@[simp] theorem State.setP_fixed (n : Nat) (p : Partition) : (s.setP n p).fixed = s.fixed := rfl
@[simp] theorem State.setP_phase (n : Nat) (p : Partition) : (s.setP n p).phase = s.phase := rfl
@[simp] theorem State.setP_scratch (n : Nat) (p : Partition) : (s.setP n p).scratch = s.scratch := rfl
@[simp] theorem State.setP_rsShadow (n : Nat) (p : Partition) : (s.setP n p).rsShadow = s.rsShadow := rfl
@[simp] theorem State.setP_links (n : Nat) (p : Partition) : (s.setP n p).links = s.links := rfl
@[simp] theorem State.setP_rgn (n : Nat) (p : Partition) : (s.setP n p).rgn = s.rgn := rfl
@[simp] theorem State.setP_sync (n : Nat) (p : Partition) : (s.setP n p).sync = s.sync := rfl
@[simp] theorem State.setP_ops (n : Nat) (p : Partition) : (s.setP n p).ops = s.ops := rfl
@[simp] theorem State.setP_nextOp (n : Nat) (p : Partition) : (s.setP n p).nextOp = s.nextOp := rfl
@[simp] theorem State.setP_nextEnd (n : Nat) (p : Partition) : (s.setP n p).nextEnd = s.nextEnd := rfl
@[simp] theorem State.setP_rrPart (n : Nat) (p : Partition) : (s.setP n p).rrPart = s.rrPart := rfl
@[simp] theorem State.setP_cad (n : Nat) (p : Partition) : (s.setP n p).cad = s.cad := rfl
@[simp] theorem State.setP_fw (n : Nat) (p : Partition) : (s.setP n p).fw = s.fw := rfl
@[simp] theorem State.setP_sec (n : Nat) (p : Partition) : (s.setP n p).sec = s.sec := rfl
@[simp] theorem State.setP_portOwner (n : Nat) (p : Partition) : (s.setP n p).portOwner = s.portOwner := rfl
@[simp] theorem State.setP_pwr (n : Nat) (p : Partition) : (s.setP n p).pwr = s.pwr := rfl
@[simp] theorem State.setP_bru (n : Nat) (p : Partition) : (s.setP n p).bru = s.bru := rfl
@[simp] theorem State.setP_ras (n : Nat) (p : Partition) : (s.setP n p).ras = s.ras := rfl
@[simp] theorem State.setP_mgt (n : Nat) (p : Partition) : (s.setP n p).mgt = s.mgt := rfl
@[simp] theorem State.setP_tiles (n : Nat) (p : Partition) : (s.setP n p).tiles = s.tiles := rfl
@[simp] theorem State.setP_sram (n : Nat) (p : Partition) : (s.setP n p).sram = s.sram := rfl
@[simp] theorem State.setP_sramG (n : Nat) (p : Partition) : (s.setP n p).sramG = s.sramG := rfl
@[simp] theorem State.setP_slices (n : Nat) (p : Partition) : (s.setP n p).slices = s.slices := rfl
@[simp] theorem State.setP_sliceG (n : Nat) (p : Partition) : (s.setP n p).sliceG = s.sliceG := rfl
@[simp] theorem State.setP_flash (n : Nat) (p : Partition) : (s.setP n p).flash = s.flash := rfl
@[simp] theorem State.setP_runs (n : Nat) (p : Partition) : (s.setP n p).runs = s.runs := rfl
@[simp] theorem State.setP_ports (n : Nat) (p : Partition) : (s.setP n p).ports = s.ports := rfl
@[simp] theorem State.setP_tor (n : Nat) (p : Partition) : (s.setP n p).tor = s.tor := rfl
@[simp] theorem State.setP_routeSet (n : Nat) (p : Partition) : (s.setP n p).routeSet = s.routeSet := rfl
@[simp] theorem State.setP_routeWork (n : Nat) (p : Partition) : (s.setP n p).routeWork = s.routeWork := rfl
@[simp] theorem State.setP_proto (n : Nat) (p : Partition) : (s.setP n p).proto = s.proto := rfl
@[simp] theorem State.setP_snaps (n : Nat) (p : Partition) : (s.setP n p).snaps = s.snaps := rfl
@[simp] theorem State.setP_xfers (n : Nat) (p : Partition) : (s.setP n p).xfers = s.xfers := rfl
@[simp] theorem State.setP_pkts (n : Nat) (p : Partition) : (s.setP n p).pkts = s.pkts := rfl
@[simp] theorem State.setP_nextPkt (n : Nat) (p : Partition) : (s.setP n p).nextPkt = s.nextPkt := rfl
@[simp] theorem State.setP_shPages (n : Nat) (p : Partition) : (s.setP n p).shPages = s.shPages := rfl
@[simp] theorem State.setP_backing (n : Nat) (p : Partition) : (s.setP n p).backing = s.backing := rfl
@[simp] theorem State.setP_fetches (n : Nat) (p : Partition) : (s.setP n p).fetches = s.fetches := rfl
@[simp] theorem State.setP_passed (n : Nat) (p : Partition) : (s.setP n p).passed = s.passed := rfl
@[simp] theorem State.setP_readSeq (n : Nat) (p : Partition) : (s.setP n p).readSeq = s.readSeq := rfl
@[simp] theorem State.setP_pubs (n : Nat) (p : Partition) : (s.setP n p).pubs = s.pubs := rfl
@[simp] theorem State.setP_insts (n : Nat) (p : Partition) : (s.setP n p).insts = s.insts := rfl
@[simp] theorem State.setP_streamOps (n : Nat) (p : Partition) : (s.setP n p).streamOps = s.streamOps := rfl
@[simp] theorem State.setP_nextInst (n : Nat) (p : Partition) : (s.setP n p).nextInst = s.nextInst := rfl
@[simp] theorem State.setP_nextReq (n : Nat) (p : Partition) : (s.setP n p).nextReq = s.nextReq := rfl
@[simp] theorem State.setP_opProg (n : Nat) (p : Partition) : (s.setP n p).opProg = s.opProg := rfl
@[simp] theorem State.setP_out (n : Nat) (p : Partition) : (s.setP n p).out = s.out := rfl
@[simp] theorem State.setP_free (n : Nat) (p : Partition) : (s.setP n p).free = s.free := rfl
@[simp] theorem State.setP_pending (n : Nat) (p : Partition) : (s.setP n p).pending = s.pending := rfl

@[simp] theorem State.updP_fixed (n : Nat) (f : Partition → Partition) : (s.updP n f).fixed = s.fixed := rfl
@[simp] theorem State.updP_phase (n : Nat) (f : Partition → Partition) : (s.updP n f).phase = s.phase := rfl
@[simp] theorem State.updP_scratch (n : Nat) (f : Partition → Partition) : (s.updP n f).scratch = s.scratch := rfl
@[simp] theorem State.updP_rsShadow (n : Nat) (f : Partition → Partition) : (s.updP n f).rsShadow = s.rsShadow := rfl
@[simp] theorem State.updP_links (n : Nat) (f : Partition → Partition) : (s.updP n f).links = s.links := rfl
@[simp] theorem State.updP_rgn (n : Nat) (f : Partition → Partition) : (s.updP n f).rgn = s.rgn := rfl
@[simp] theorem State.updP_sync (n : Nat) (f : Partition → Partition) : (s.updP n f).sync = s.sync := rfl
@[simp] theorem State.updP_ops (n : Nat) (f : Partition → Partition) : (s.updP n f).ops = s.ops := rfl
@[simp] theorem State.updP_nextOp (n : Nat) (f : Partition → Partition) : (s.updP n f).nextOp = s.nextOp := rfl
@[simp] theorem State.updP_nextEnd (n : Nat) (f : Partition → Partition) : (s.updP n f).nextEnd = s.nextEnd := rfl
@[simp] theorem State.updP_rrPart (n : Nat) (f : Partition → Partition) : (s.updP n f).rrPart = s.rrPart := rfl
@[simp] theorem State.updP_cad (n : Nat) (f : Partition → Partition) : (s.updP n f).cad = s.cad := rfl
@[simp] theorem State.updP_fw (n : Nat) (f : Partition → Partition) : (s.updP n f).fw = s.fw := rfl
@[simp] theorem State.updP_sec (n : Nat) (f : Partition → Partition) : (s.updP n f).sec = s.sec := rfl
@[simp] theorem State.updP_portOwner (n : Nat) (f : Partition → Partition) : (s.updP n f).portOwner = s.portOwner := rfl
@[simp] theorem State.updP_pwr (n : Nat) (f : Partition → Partition) : (s.updP n f).pwr = s.pwr := rfl
@[simp] theorem State.updP_bru (n : Nat) (f : Partition → Partition) : (s.updP n f).bru = s.bru := rfl
@[simp] theorem State.updP_ras (n : Nat) (f : Partition → Partition) : (s.updP n f).ras = s.ras := rfl
@[simp] theorem State.updP_mgt (n : Nat) (f : Partition → Partition) : (s.updP n f).mgt = s.mgt := rfl
@[simp] theorem State.updP_tiles (n : Nat) (f : Partition → Partition) : (s.updP n f).tiles = s.tiles := rfl
@[simp] theorem State.updP_sram (n : Nat) (f : Partition → Partition) : (s.updP n f).sram = s.sram := rfl
@[simp] theorem State.updP_sramG (n : Nat) (f : Partition → Partition) : (s.updP n f).sramG = s.sramG := rfl
@[simp] theorem State.updP_slices (n : Nat) (f : Partition → Partition) : (s.updP n f).slices = s.slices := rfl
@[simp] theorem State.updP_sliceG (n : Nat) (f : Partition → Partition) : (s.updP n f).sliceG = s.sliceG := rfl
@[simp] theorem State.updP_flash (n : Nat) (f : Partition → Partition) : (s.updP n f).flash = s.flash := rfl
@[simp] theorem State.updP_runs (n : Nat) (f : Partition → Partition) : (s.updP n f).runs = s.runs := rfl
@[simp] theorem State.updP_ports (n : Nat) (f : Partition → Partition) : (s.updP n f).ports = s.ports := rfl
@[simp] theorem State.updP_tor (n : Nat) (f : Partition → Partition) : (s.updP n f).tor = s.tor := rfl
@[simp] theorem State.updP_routeSet (n : Nat) (f : Partition → Partition) : (s.updP n f).routeSet = s.routeSet := rfl
@[simp] theorem State.updP_routeWork (n : Nat) (f : Partition → Partition) : (s.updP n f).routeWork = s.routeWork := rfl
@[simp] theorem State.updP_proto (n : Nat) (f : Partition → Partition) : (s.updP n f).proto = s.proto := rfl
@[simp] theorem State.updP_snaps (n : Nat) (f : Partition → Partition) : (s.updP n f).snaps = s.snaps := rfl
@[simp] theorem State.updP_xfers (n : Nat) (f : Partition → Partition) : (s.updP n f).xfers = s.xfers := rfl
@[simp] theorem State.updP_pkts (n : Nat) (f : Partition → Partition) : (s.updP n f).pkts = s.pkts := rfl
@[simp] theorem State.updP_nextPkt (n : Nat) (f : Partition → Partition) : (s.updP n f).nextPkt = s.nextPkt := rfl
@[simp] theorem State.updP_shPages (n : Nat) (f : Partition → Partition) : (s.updP n f).shPages = s.shPages := rfl
@[simp] theorem State.updP_backing (n : Nat) (f : Partition → Partition) : (s.updP n f).backing = s.backing := rfl
@[simp] theorem State.updP_fetches (n : Nat) (f : Partition → Partition) : (s.updP n f).fetches = s.fetches := rfl
@[simp] theorem State.updP_passed (n : Nat) (f : Partition → Partition) : (s.updP n f).passed = s.passed := rfl
@[simp] theorem State.updP_readSeq (n : Nat) (f : Partition → Partition) : (s.updP n f).readSeq = s.readSeq := rfl
@[simp] theorem State.updP_pubs (n : Nat) (f : Partition → Partition) : (s.updP n f).pubs = s.pubs := rfl
@[simp] theorem State.updP_insts (n : Nat) (f : Partition → Partition) : (s.updP n f).insts = s.insts := rfl
@[simp] theorem State.updP_streamOps (n : Nat) (f : Partition → Partition) : (s.updP n f).streamOps = s.streamOps := rfl
@[simp] theorem State.updP_nextInst (n : Nat) (f : Partition → Partition) : (s.updP n f).nextInst = s.nextInst := rfl
@[simp] theorem State.updP_nextReq (n : Nat) (f : Partition → Partition) : (s.updP n f).nextReq = s.nextReq := rfl
@[simp] theorem State.updP_opProg (n : Nat) (f : Partition → Partition) : (s.updP n f).opProg = s.opProg := rfl
@[simp] theorem State.updP_out (n : Nat) (f : Partition → Partition) : (s.updP n f).out = s.out := rfl
@[simp] theorem State.updP_free (n : Nat) (f : Partition → Partition) : (s.updP n f).free = s.free := rfl
@[simp] theorem State.updP_pending (n : Nat) (f : Partition → Partition) : (s.updP n f).pending = s.pending := rfl

@[simp] theorem State.updL_fixed (k : Nat) (f : HostLink → HostLink) : (s.updL k f).fixed = s.fixed := rfl
@[simp] theorem State.updL_phase (k : Nat) (f : HostLink → HostLink) : (s.updL k f).phase = s.phase := rfl
@[simp] theorem State.updL_scratch (k : Nat) (f : HostLink → HostLink) : (s.updL k f).scratch = s.scratch := rfl
@[simp] theorem State.updL_rsShadow (k : Nat) (f : HostLink → HostLink) : (s.updL k f).rsShadow = s.rsShadow := rfl
@[simp] theorem State.updL_rgn (k : Nat) (f : HostLink → HostLink) : (s.updL k f).rgn = s.rgn := rfl
@[simp] theorem State.updL_part (k : Nat) (f : HostLink → HostLink) : (s.updL k f).part = s.part := rfl
@[simp] theorem State.updL_sync (k : Nat) (f : HostLink → HostLink) : (s.updL k f).sync = s.sync := rfl
@[simp] theorem State.updL_ops (k : Nat) (f : HostLink → HostLink) : (s.updL k f).ops = s.ops := rfl
@[simp] theorem State.updL_nextOp (k : Nat) (f : HostLink → HostLink) : (s.updL k f).nextOp = s.nextOp := rfl
@[simp] theorem State.updL_nextEnd (k : Nat) (f : HostLink → HostLink) : (s.updL k f).nextEnd = s.nextEnd := rfl
@[simp] theorem State.updL_rrPart (k : Nat) (f : HostLink → HostLink) : (s.updL k f).rrPart = s.rrPart := rfl
@[simp] theorem State.updL_cad (k : Nat) (f : HostLink → HostLink) : (s.updL k f).cad = s.cad := rfl
@[simp] theorem State.updL_fw (k : Nat) (f : HostLink → HostLink) : (s.updL k f).fw = s.fw := rfl
@[simp] theorem State.updL_sec (k : Nat) (f : HostLink → HostLink) : (s.updL k f).sec = s.sec := rfl
@[simp] theorem State.updL_portOwner (k : Nat) (f : HostLink → HostLink) : (s.updL k f).portOwner = s.portOwner := rfl
@[simp] theorem State.updL_pwr (k : Nat) (f : HostLink → HostLink) : (s.updL k f).pwr = s.pwr := rfl
@[simp] theorem State.updL_bru (k : Nat) (f : HostLink → HostLink) : (s.updL k f).bru = s.bru := rfl
@[simp] theorem State.updL_ras (k : Nat) (f : HostLink → HostLink) : (s.updL k f).ras = s.ras := rfl
@[simp] theorem State.updL_mgt (k : Nat) (f : HostLink → HostLink) : (s.updL k f).mgt = s.mgt := rfl
@[simp] theorem State.updL_tiles (k : Nat) (f : HostLink → HostLink) : (s.updL k f).tiles = s.tiles := rfl
@[simp] theorem State.updL_sram (k : Nat) (f : HostLink → HostLink) : (s.updL k f).sram = s.sram := rfl
@[simp] theorem State.updL_sramG (k : Nat) (f : HostLink → HostLink) : (s.updL k f).sramG = s.sramG := rfl
@[simp] theorem State.updL_slices (k : Nat) (f : HostLink → HostLink) : (s.updL k f).slices = s.slices := rfl
@[simp] theorem State.updL_sliceG (k : Nat) (f : HostLink → HostLink) : (s.updL k f).sliceG = s.sliceG := rfl
@[simp] theorem State.updL_flash (k : Nat) (f : HostLink → HostLink) : (s.updL k f).flash = s.flash := rfl
@[simp] theorem State.updL_runs (k : Nat) (f : HostLink → HostLink) : (s.updL k f).runs = s.runs := rfl
@[simp] theorem State.updL_ports (k : Nat) (f : HostLink → HostLink) : (s.updL k f).ports = s.ports := rfl
@[simp] theorem State.updL_tor (k : Nat) (f : HostLink → HostLink) : (s.updL k f).tor = s.tor := rfl
@[simp] theorem State.updL_routeSet (k : Nat) (f : HostLink → HostLink) : (s.updL k f).routeSet = s.routeSet := rfl
@[simp] theorem State.updL_routeWork (k : Nat) (f : HostLink → HostLink) : (s.updL k f).routeWork = s.routeWork := rfl
@[simp] theorem State.updL_proto (k : Nat) (f : HostLink → HostLink) : (s.updL k f).proto = s.proto := rfl
@[simp] theorem State.updL_snaps (k : Nat) (f : HostLink → HostLink) : (s.updL k f).snaps = s.snaps := rfl
@[simp] theorem State.updL_xfers (k : Nat) (f : HostLink → HostLink) : (s.updL k f).xfers = s.xfers := rfl
@[simp] theorem State.updL_pkts (k : Nat) (f : HostLink → HostLink) : (s.updL k f).pkts = s.pkts := rfl
@[simp] theorem State.updL_nextPkt (k : Nat) (f : HostLink → HostLink) : (s.updL k f).nextPkt = s.nextPkt := rfl
@[simp] theorem State.updL_shPages (k : Nat) (f : HostLink → HostLink) : (s.updL k f).shPages = s.shPages := rfl
@[simp] theorem State.updL_backing (k : Nat) (f : HostLink → HostLink) : (s.updL k f).backing = s.backing := rfl
@[simp] theorem State.updL_fetches (k : Nat) (f : HostLink → HostLink) : (s.updL k f).fetches = s.fetches := rfl
@[simp] theorem State.updL_passed (k : Nat) (f : HostLink → HostLink) : (s.updL k f).passed = s.passed := rfl
@[simp] theorem State.updL_readSeq (k : Nat) (f : HostLink → HostLink) : (s.updL k f).readSeq = s.readSeq := rfl
@[simp] theorem State.updL_pubs (k : Nat) (f : HostLink → HostLink) : (s.updL k f).pubs = s.pubs := rfl
@[simp] theorem State.updL_insts (k : Nat) (f : HostLink → HostLink) : (s.updL k f).insts = s.insts := rfl
@[simp] theorem State.updL_streamOps (k : Nat) (f : HostLink → HostLink) : (s.updL k f).streamOps = s.streamOps := rfl
@[simp] theorem State.updL_nextInst (k : Nat) (f : HostLink → HostLink) : (s.updL k f).nextInst = s.nextInst := rfl
@[simp] theorem State.updL_nextReq (k : Nat) (f : HostLink → HostLink) : (s.updL k f).nextReq = s.nextReq := rfl
@[simp] theorem State.updL_opProg (k : Nat) (f : HostLink → HostLink) : (s.updL k f).opProg = s.opProg := rfl
@[simp] theorem State.updL_out (k : Nat) (f : HostLink → HostLink) : (s.updL k f).out = s.out := rfl
@[simp] theorem State.updL_free (k : Nat) (f : HostLink → HostLink) : (s.updL k f).free = s.free := rfl
@[simp] theorem State.updL_pending (k : Nat) (f : HostLink → HostLink) : (s.updL k f).pending = s.pending := rfl

@[simp] theorem State.emit_fixed (o : Output) : (s.emit o).fixed = s.fixed := rfl
@[simp] theorem State.emit_phase (o : Output) : (s.emit o).phase = s.phase := rfl
@[simp] theorem State.emit_scratch (o : Output) : (s.emit o).scratch = s.scratch := rfl
@[simp] theorem State.emit_rsShadow (o : Output) : (s.emit o).rsShadow = s.rsShadow := rfl
@[simp] theorem State.emit_links (o : Output) : (s.emit o).links = s.links := rfl
@[simp] theorem State.emit_rgn (o : Output) : (s.emit o).rgn = s.rgn := rfl
@[simp] theorem State.emit_part (o : Output) : (s.emit o).part = s.part := rfl
@[simp] theorem State.emit_sync (o : Output) : (s.emit o).sync = s.sync := rfl
@[simp] theorem State.emit_ops (o : Output) : (s.emit o).ops = s.ops := rfl
@[simp] theorem State.emit_nextOp (o : Output) : (s.emit o).nextOp = s.nextOp := rfl
@[simp] theorem State.emit_nextEnd (o : Output) : (s.emit o).nextEnd = s.nextEnd := rfl
@[simp] theorem State.emit_rrPart (o : Output) : (s.emit o).rrPart = s.rrPart := rfl
@[simp] theorem State.emit_cad (o : Output) : (s.emit o).cad = s.cad := rfl
@[simp] theorem State.emit_fw (o : Output) : (s.emit o).fw = s.fw := rfl
@[simp] theorem State.emit_sec (o : Output) : (s.emit o).sec = s.sec := rfl
@[simp] theorem State.emit_portOwner (o : Output) : (s.emit o).portOwner = s.portOwner := rfl
@[simp] theorem State.emit_pwr (o : Output) : (s.emit o).pwr = s.pwr := rfl
@[simp] theorem State.emit_bru (o : Output) : (s.emit o).bru = s.bru := rfl
@[simp] theorem State.emit_ras (o : Output) : (s.emit o).ras = s.ras := rfl
@[simp] theorem State.emit_mgt (o : Output) : (s.emit o).mgt = s.mgt := rfl
@[simp] theorem State.emit_tiles (o : Output) : (s.emit o).tiles = s.tiles := rfl
@[simp] theorem State.emit_sram (o : Output) : (s.emit o).sram = s.sram := rfl
@[simp] theorem State.emit_sramG (o : Output) : (s.emit o).sramG = s.sramG := rfl
@[simp] theorem State.emit_slices (o : Output) : (s.emit o).slices = s.slices := rfl
@[simp] theorem State.emit_sliceG (o : Output) : (s.emit o).sliceG = s.sliceG := rfl
@[simp] theorem State.emit_flash (o : Output) : (s.emit o).flash = s.flash := rfl
@[simp] theorem State.emit_runs (o : Output) : (s.emit o).runs = s.runs := rfl
@[simp] theorem State.emit_ports (o : Output) : (s.emit o).ports = s.ports := rfl
@[simp] theorem State.emit_tor (o : Output) : (s.emit o).tor = s.tor := rfl
@[simp] theorem State.emit_routeSet (o : Output) : (s.emit o).routeSet = s.routeSet := rfl
@[simp] theorem State.emit_routeWork (o : Output) : (s.emit o).routeWork = s.routeWork := rfl
@[simp] theorem State.emit_proto (o : Output) : (s.emit o).proto = s.proto := rfl
@[simp] theorem State.emit_snaps (o : Output) : (s.emit o).snaps = s.snaps := rfl
@[simp] theorem State.emit_xfers (o : Output) : (s.emit o).xfers = s.xfers := rfl
@[simp] theorem State.emit_pkts (o : Output) : (s.emit o).pkts = s.pkts := rfl
@[simp] theorem State.emit_nextPkt (o : Output) : (s.emit o).nextPkt = s.nextPkt := rfl
@[simp] theorem State.emit_shPages (o : Output) : (s.emit o).shPages = s.shPages := rfl
@[simp] theorem State.emit_backing (o : Output) : (s.emit o).backing = s.backing := rfl
@[simp] theorem State.emit_fetches (o : Output) : (s.emit o).fetches = s.fetches := rfl
@[simp] theorem State.emit_passed (o : Output) : (s.emit o).passed = s.passed := rfl
@[simp] theorem State.emit_readSeq (o : Output) : (s.emit o).readSeq = s.readSeq := rfl
@[simp] theorem State.emit_pubs (o : Output) : (s.emit o).pubs = s.pubs := rfl
@[simp] theorem State.emit_insts (o : Output) : (s.emit o).insts = s.insts := rfl
@[simp] theorem State.emit_streamOps (o : Output) : (s.emit o).streamOps = s.streamOps := rfl
@[simp] theorem State.emit_nextInst (o : Output) : (s.emit o).nextInst = s.nextInst := rfl
@[simp] theorem State.emit_nextReq (o : Output) : (s.emit o).nextReq = s.nextReq := rfl
@[simp] theorem State.emit_opProg (o : Output) : (s.emit o).opProg = s.opProg := rfl
@[simp] theorem State.emit_free (o : Output) : (s.emit o).free = s.free := rfl
@[simp] theorem State.emit_pending (o : Output) : (s.emit o).pending = s.pending := rfl

@[simp] theorem State.takeFree_fixed (n : Nat) : (s.takeFree n).fixed = s.fixed := rfl
@[simp] theorem State.takeFree_phase (n : Nat) : (s.takeFree n).phase = s.phase := rfl
@[simp] theorem State.takeFree_scratch (n : Nat) : (s.takeFree n).scratch = s.scratch := rfl
@[simp] theorem State.takeFree_rsShadow (n : Nat) : (s.takeFree n).rsShadow = s.rsShadow := rfl
@[simp] theorem State.takeFree_links (n : Nat) : (s.takeFree n).links = s.links := rfl
@[simp] theorem State.takeFree_rgn (n : Nat) : (s.takeFree n).rgn = s.rgn := rfl
@[simp] theorem State.takeFree_part (n : Nat) : (s.takeFree n).part = s.part := rfl
@[simp] theorem State.takeFree_sync (n : Nat) : (s.takeFree n).sync = s.sync := rfl
@[simp] theorem State.takeFree_ops (n : Nat) : (s.takeFree n).ops = s.ops := rfl
@[simp] theorem State.takeFree_nextOp (n : Nat) : (s.takeFree n).nextOp = s.nextOp := rfl
@[simp] theorem State.takeFree_nextEnd (n : Nat) : (s.takeFree n).nextEnd = s.nextEnd := rfl
@[simp] theorem State.takeFree_rrPart (n : Nat) : (s.takeFree n).rrPart = s.rrPart := rfl
@[simp] theorem State.takeFree_cad (n : Nat) : (s.takeFree n).cad = s.cad := rfl
@[simp] theorem State.takeFree_fw (n : Nat) : (s.takeFree n).fw = s.fw := rfl
@[simp] theorem State.takeFree_sec (n : Nat) : (s.takeFree n).sec = s.sec := rfl
@[simp] theorem State.takeFree_portOwner (n : Nat) : (s.takeFree n).portOwner = s.portOwner := rfl
@[simp] theorem State.takeFree_pwr (n : Nat) : (s.takeFree n).pwr = s.pwr := rfl
@[simp] theorem State.takeFree_bru (n : Nat) : (s.takeFree n).bru = s.bru := rfl
@[simp] theorem State.takeFree_ras (n : Nat) : (s.takeFree n).ras = s.ras := rfl
@[simp] theorem State.takeFree_mgt (n : Nat) : (s.takeFree n).mgt = s.mgt := rfl
@[simp] theorem State.takeFree_tiles (n : Nat) : (s.takeFree n).tiles = s.tiles := rfl
@[simp] theorem State.takeFree_sram (n : Nat) : (s.takeFree n).sram = s.sram := rfl
@[simp] theorem State.takeFree_sramG (n : Nat) : (s.takeFree n).sramG = s.sramG := rfl
@[simp] theorem State.takeFree_slices (n : Nat) : (s.takeFree n).slices = s.slices := rfl
@[simp] theorem State.takeFree_sliceG (n : Nat) : (s.takeFree n).sliceG = s.sliceG := rfl
@[simp] theorem State.takeFree_flash (n : Nat) : (s.takeFree n).flash = s.flash := rfl
@[simp] theorem State.takeFree_runs (n : Nat) : (s.takeFree n).runs = s.runs := rfl
@[simp] theorem State.takeFree_ports (n : Nat) : (s.takeFree n).ports = s.ports := rfl
@[simp] theorem State.takeFree_tor (n : Nat) : (s.takeFree n).tor = s.tor := rfl
@[simp] theorem State.takeFree_routeSet (n : Nat) : (s.takeFree n).routeSet = s.routeSet := rfl
@[simp] theorem State.takeFree_routeWork (n : Nat) : (s.takeFree n).routeWork = s.routeWork := rfl
@[simp] theorem State.takeFree_proto (n : Nat) : (s.takeFree n).proto = s.proto := rfl
@[simp] theorem State.takeFree_snaps (n : Nat) : (s.takeFree n).snaps = s.snaps := rfl
@[simp] theorem State.takeFree_xfers (n : Nat) : (s.takeFree n).xfers = s.xfers := rfl
@[simp] theorem State.takeFree_pkts (n : Nat) : (s.takeFree n).pkts = s.pkts := rfl
@[simp] theorem State.takeFree_nextPkt (n : Nat) : (s.takeFree n).nextPkt = s.nextPkt := rfl
@[simp] theorem State.takeFree_shPages (n : Nat) : (s.takeFree n).shPages = s.shPages := rfl
@[simp] theorem State.takeFree_backing (n : Nat) : (s.takeFree n).backing = s.backing := rfl
@[simp] theorem State.takeFree_fetches (n : Nat) : (s.takeFree n).fetches = s.fetches := rfl
@[simp] theorem State.takeFree_passed (n : Nat) : (s.takeFree n).passed = s.passed := rfl
@[simp] theorem State.takeFree_readSeq (n : Nat) : (s.takeFree n).readSeq = s.readSeq := rfl
@[simp] theorem State.takeFree_pubs (n : Nat) : (s.takeFree n).pubs = s.pubs := rfl
@[simp] theorem State.takeFree_insts (n : Nat) : (s.takeFree n).insts = s.insts := rfl
@[simp] theorem State.takeFree_streamOps (n : Nat) : (s.takeFree n).streamOps = s.streamOps := rfl
@[simp] theorem State.takeFree_nextInst (n : Nat) : (s.takeFree n).nextInst = s.nextInst := rfl
@[simp] theorem State.takeFree_nextReq (n : Nat) : (s.takeFree n).nextReq = s.nextReq := rfl
@[simp] theorem State.takeFree_opProg (n : Nat) : (s.takeFree n).opProg = s.opProg := rfl
@[simp] theorem State.takeFree_out (n : Nat) : (s.takeFree n).out = s.out := rfl
@[simp] theorem State.takeFree_pending (n : Nat) : (s.takeFree n).pending = s.pending := rfl

@[simp] theorem State.updOp_fixed (i : Nat) (f : Op → Op) : (s.updOp i f).fixed = s.fixed := rfl
@[simp] theorem State.updOp_phase (i : Nat) (f : Op → Op) : (s.updOp i f).phase = s.phase := rfl
@[simp] theorem State.updOp_scratch (i : Nat) (f : Op → Op) : (s.updOp i f).scratch = s.scratch := rfl
@[simp] theorem State.updOp_rsShadow (i : Nat) (f : Op → Op) : (s.updOp i f).rsShadow = s.rsShadow := rfl
@[simp] theorem State.updOp_links (i : Nat) (f : Op → Op) : (s.updOp i f).links = s.links := rfl
@[simp] theorem State.updOp_rgn (i : Nat) (f : Op → Op) : (s.updOp i f).rgn = s.rgn := rfl
@[simp] theorem State.updOp_part (i : Nat) (f : Op → Op) : (s.updOp i f).part = s.part := rfl
@[simp] theorem State.updOp_sync (i : Nat) (f : Op → Op) : (s.updOp i f).sync = s.sync := rfl
@[simp] theorem State.updOp_nextOp (i : Nat) (f : Op → Op) : (s.updOp i f).nextOp = s.nextOp := rfl
@[simp] theorem State.updOp_nextEnd (i : Nat) (f : Op → Op) : (s.updOp i f).nextEnd = s.nextEnd := rfl
@[simp] theorem State.updOp_rrPart (i : Nat) (f : Op → Op) : (s.updOp i f).rrPart = s.rrPart := rfl
@[simp] theorem State.updOp_cad (i : Nat) (f : Op → Op) : (s.updOp i f).cad = s.cad := rfl
@[simp] theorem State.updOp_fw (i : Nat) (f : Op → Op) : (s.updOp i f).fw = s.fw := rfl
@[simp] theorem State.updOp_sec (i : Nat) (f : Op → Op) : (s.updOp i f).sec = s.sec := rfl
@[simp] theorem State.updOp_portOwner (i : Nat) (f : Op → Op) : (s.updOp i f).portOwner = s.portOwner := rfl
@[simp] theorem State.updOp_pwr (i : Nat) (f : Op → Op) : (s.updOp i f).pwr = s.pwr := rfl
@[simp] theorem State.updOp_bru (i : Nat) (f : Op → Op) : (s.updOp i f).bru = s.bru := rfl
@[simp] theorem State.updOp_ras (i : Nat) (f : Op → Op) : (s.updOp i f).ras = s.ras := rfl
@[simp] theorem State.updOp_mgt (i : Nat) (f : Op → Op) : (s.updOp i f).mgt = s.mgt := rfl
@[simp] theorem State.updOp_tiles (i : Nat) (f : Op → Op) : (s.updOp i f).tiles = s.tiles := rfl
@[simp] theorem State.updOp_sram (i : Nat) (f : Op → Op) : (s.updOp i f).sram = s.sram := rfl
@[simp] theorem State.updOp_sramG (i : Nat) (f : Op → Op) : (s.updOp i f).sramG = s.sramG := rfl
@[simp] theorem State.updOp_slices (i : Nat) (f : Op → Op) : (s.updOp i f).slices = s.slices := rfl
@[simp] theorem State.updOp_sliceG (i : Nat) (f : Op → Op) : (s.updOp i f).sliceG = s.sliceG := rfl
@[simp] theorem State.updOp_flash (i : Nat) (f : Op → Op) : (s.updOp i f).flash = s.flash := rfl
@[simp] theorem State.updOp_runs (i : Nat) (f : Op → Op) : (s.updOp i f).runs = s.runs := rfl
@[simp] theorem State.updOp_ports (i : Nat) (f : Op → Op) : (s.updOp i f).ports = s.ports := rfl
@[simp] theorem State.updOp_tor (i : Nat) (f : Op → Op) : (s.updOp i f).tor = s.tor := rfl
@[simp] theorem State.updOp_routeSet (i : Nat) (f : Op → Op) : (s.updOp i f).routeSet = s.routeSet := rfl
@[simp] theorem State.updOp_routeWork (i : Nat) (f : Op → Op) : (s.updOp i f).routeWork = s.routeWork := rfl
@[simp] theorem State.updOp_proto (i : Nat) (f : Op → Op) : (s.updOp i f).proto = s.proto := rfl
@[simp] theorem State.updOp_snaps (i : Nat) (f : Op → Op) : (s.updOp i f).snaps = s.snaps := rfl
@[simp] theorem State.updOp_xfers (i : Nat) (f : Op → Op) : (s.updOp i f).xfers = s.xfers := rfl
@[simp] theorem State.updOp_pkts (i : Nat) (f : Op → Op) : (s.updOp i f).pkts = s.pkts := rfl
@[simp] theorem State.updOp_nextPkt (i : Nat) (f : Op → Op) : (s.updOp i f).nextPkt = s.nextPkt := rfl
@[simp] theorem State.updOp_shPages (i : Nat) (f : Op → Op) : (s.updOp i f).shPages = s.shPages := rfl
@[simp] theorem State.updOp_backing (i : Nat) (f : Op → Op) : (s.updOp i f).backing = s.backing := rfl
@[simp] theorem State.updOp_fetches (i : Nat) (f : Op → Op) : (s.updOp i f).fetches = s.fetches := rfl
@[simp] theorem State.updOp_passed (i : Nat) (f : Op → Op) : (s.updOp i f).passed = s.passed := rfl
@[simp] theorem State.updOp_readSeq (i : Nat) (f : Op → Op) : (s.updOp i f).readSeq = s.readSeq := rfl
@[simp] theorem State.updOp_pubs (i : Nat) (f : Op → Op) : (s.updOp i f).pubs = s.pubs := rfl
@[simp] theorem State.updOp_insts (i : Nat) (f : Op → Op) : (s.updOp i f).insts = s.insts := rfl
@[simp] theorem State.updOp_streamOps (i : Nat) (f : Op → Op) : (s.updOp i f).streamOps = s.streamOps := rfl
@[simp] theorem State.updOp_nextInst (i : Nat) (f : Op → Op) : (s.updOp i f).nextInst = s.nextInst := rfl
@[simp] theorem State.updOp_nextReq (i : Nat) (f : Op → Op) : (s.updOp i f).nextReq = s.nextReq := rfl
@[simp] theorem State.updOp_opProg (i : Nat) (f : Op → Op) : (s.updOp i f).opProg = s.opProg := rfl
@[simp] theorem State.updOp_out (i : Nat) (f : Op → Op) : (s.updOp i f).out = s.out := rfl
@[simp] theorem State.updOp_free (i : Nat) (f : Op → Op) : (s.updOp i f).free = s.free := rfl
@[simp] theorem State.updOp_pending (i : Nat) (f : Op → Op) : (s.updOp i f).pending = s.pending := rfl

@[simp] theorem State.delOp_fixed (i : Nat) : (s.delOp i).fixed = s.fixed := rfl
@[simp] theorem State.delOp_phase (i : Nat) : (s.delOp i).phase = s.phase := rfl
@[simp] theorem State.delOp_scratch (i : Nat) : (s.delOp i).scratch = s.scratch := rfl
@[simp] theorem State.delOp_rsShadow (i : Nat) : (s.delOp i).rsShadow = s.rsShadow := rfl
@[simp] theorem State.delOp_links (i : Nat) : (s.delOp i).links = s.links := rfl
@[simp] theorem State.delOp_rgn (i : Nat) : (s.delOp i).rgn = s.rgn := rfl
@[simp] theorem State.delOp_part (i : Nat) : (s.delOp i).part = s.part := rfl
@[simp] theorem State.delOp_sync (i : Nat) : (s.delOp i).sync = s.sync := rfl
@[simp] theorem State.delOp_nextOp (i : Nat) : (s.delOp i).nextOp = s.nextOp := rfl
@[simp] theorem State.delOp_nextEnd (i : Nat) : (s.delOp i).nextEnd = s.nextEnd := rfl
@[simp] theorem State.delOp_rrPart (i : Nat) : (s.delOp i).rrPart = s.rrPart := rfl
@[simp] theorem State.delOp_cad (i : Nat) : (s.delOp i).cad = s.cad := rfl
@[simp] theorem State.delOp_fw (i : Nat) : (s.delOp i).fw = s.fw := rfl
@[simp] theorem State.delOp_sec (i : Nat) : (s.delOp i).sec = s.sec := rfl
@[simp] theorem State.delOp_portOwner (i : Nat) : (s.delOp i).portOwner = s.portOwner := rfl
@[simp] theorem State.delOp_pwr (i : Nat) : (s.delOp i).pwr = s.pwr := rfl
@[simp] theorem State.delOp_bru (i : Nat) : (s.delOp i).bru = s.bru := rfl
@[simp] theorem State.delOp_ras (i : Nat) : (s.delOp i).ras = s.ras := rfl
@[simp] theorem State.delOp_mgt (i : Nat) : (s.delOp i).mgt = s.mgt := rfl
@[simp] theorem State.delOp_tiles (i : Nat) : (s.delOp i).tiles = s.tiles := rfl
@[simp] theorem State.delOp_sram (i : Nat) : (s.delOp i).sram = s.sram := rfl
@[simp] theorem State.delOp_sramG (i : Nat) : (s.delOp i).sramG = s.sramG := rfl
@[simp] theorem State.delOp_slices (i : Nat) : (s.delOp i).slices = s.slices := rfl
@[simp] theorem State.delOp_sliceG (i : Nat) : (s.delOp i).sliceG = s.sliceG := rfl
@[simp] theorem State.delOp_flash (i : Nat) : (s.delOp i).flash = s.flash := rfl
@[simp] theorem State.delOp_runs (i : Nat) : (s.delOp i).runs = s.runs := rfl
@[simp] theorem State.delOp_ports (i : Nat) : (s.delOp i).ports = s.ports := rfl
@[simp] theorem State.delOp_tor (i : Nat) : (s.delOp i).tor = s.tor := rfl
@[simp] theorem State.delOp_routeSet (i : Nat) : (s.delOp i).routeSet = s.routeSet := rfl
@[simp] theorem State.delOp_routeWork (i : Nat) : (s.delOp i).routeWork = s.routeWork := rfl
@[simp] theorem State.delOp_proto (i : Nat) : (s.delOp i).proto = s.proto := rfl
@[simp] theorem State.delOp_snaps (i : Nat) : (s.delOp i).snaps = s.snaps := rfl
@[simp] theorem State.delOp_xfers (i : Nat) : (s.delOp i).xfers = s.xfers := rfl
@[simp] theorem State.delOp_pkts (i : Nat) : (s.delOp i).pkts = s.pkts := rfl
@[simp] theorem State.delOp_nextPkt (i : Nat) : (s.delOp i).nextPkt = s.nextPkt := rfl
@[simp] theorem State.delOp_shPages (i : Nat) : (s.delOp i).shPages = s.shPages := rfl
@[simp] theorem State.delOp_backing (i : Nat) : (s.delOp i).backing = s.backing := rfl
@[simp] theorem State.delOp_fetches (i : Nat) : (s.delOp i).fetches = s.fetches := rfl
@[simp] theorem State.delOp_passed (i : Nat) : (s.delOp i).passed = s.passed := rfl
@[simp] theorem State.delOp_readSeq (i : Nat) : (s.delOp i).readSeq = s.readSeq := rfl
@[simp] theorem State.delOp_pubs (i : Nat) : (s.delOp i).pubs = s.pubs := rfl
@[simp] theorem State.delOp_insts (i : Nat) : (s.delOp i).insts = s.insts := rfl
@[simp] theorem State.delOp_streamOps (i : Nat) : (s.delOp i).streamOps = s.streamOps := rfl
@[simp] theorem State.delOp_nextInst (i : Nat) : (s.delOp i).nextInst = s.nextInst := rfl
@[simp] theorem State.delOp_nextReq (i : Nat) : (s.delOp i).nextReq = s.nextReq := rfl
@[simp] theorem State.delOp_opProg (i : Nat) : (s.delOp i).opProg = s.opProg := rfl
@[simp] theorem State.delOp_out (i : Nat) : (s.delOp i).out = s.out := rfl
@[simp] theorem State.delOp_free (i : Nat) : (s.delOp i).free = s.free := rfl
@[simp] theorem State.delOp_pending (i : Nat) : (s.delOp i).pending = s.pending := rfl

@[simp] theorem State.updCad_fixed (f : Cadence → Cadence) : (s.updCad f).fixed = s.fixed := rfl
@[simp] theorem State.updCad_phase (f : Cadence → Cadence) : (s.updCad f).phase = s.phase := rfl
@[simp] theorem State.updCad_scratch (f : Cadence → Cadence) : (s.updCad f).scratch = s.scratch := rfl
@[simp] theorem State.updCad_rsShadow (f : Cadence → Cadence) : (s.updCad f).rsShadow = s.rsShadow := rfl
@[simp] theorem State.updCad_links (f : Cadence → Cadence) : (s.updCad f).links = s.links := rfl
@[simp] theorem State.updCad_rgn (f : Cadence → Cadence) : (s.updCad f).rgn = s.rgn := rfl
@[simp] theorem State.updCad_part (f : Cadence → Cadence) : (s.updCad f).part = s.part := rfl
@[simp] theorem State.updCad_sync (f : Cadence → Cadence) : (s.updCad f).sync = s.sync := rfl
@[simp] theorem State.updCad_ops (f : Cadence → Cadence) : (s.updCad f).ops = s.ops := rfl
@[simp] theorem State.updCad_nextOp (f : Cadence → Cadence) : (s.updCad f).nextOp = s.nextOp := rfl
@[simp] theorem State.updCad_nextEnd (f : Cadence → Cadence) : (s.updCad f).nextEnd = s.nextEnd := rfl
@[simp] theorem State.updCad_rrPart (f : Cadence → Cadence) : (s.updCad f).rrPart = s.rrPart := rfl
@[simp] theorem State.updCad_fw (f : Cadence → Cadence) : (s.updCad f).fw = s.fw := rfl
@[simp] theorem State.updCad_sec (f : Cadence → Cadence) : (s.updCad f).sec = s.sec := rfl
@[simp] theorem State.updCad_portOwner (f : Cadence → Cadence) : (s.updCad f).portOwner = s.portOwner := rfl
@[simp] theorem State.updCad_pwr (f : Cadence → Cadence) : (s.updCad f).pwr = s.pwr := rfl
@[simp] theorem State.updCad_bru (f : Cadence → Cadence) : (s.updCad f).bru = s.bru := rfl
@[simp] theorem State.updCad_ras (f : Cadence → Cadence) : (s.updCad f).ras = s.ras := rfl
@[simp] theorem State.updCad_mgt (f : Cadence → Cadence) : (s.updCad f).mgt = s.mgt := rfl
@[simp] theorem State.updCad_tiles (f : Cadence → Cadence) : (s.updCad f).tiles = s.tiles := rfl
@[simp] theorem State.updCad_sram (f : Cadence → Cadence) : (s.updCad f).sram = s.sram := rfl
@[simp] theorem State.updCad_sramG (f : Cadence → Cadence) : (s.updCad f).sramG = s.sramG := rfl
@[simp] theorem State.updCad_slices (f : Cadence → Cadence) : (s.updCad f).slices = s.slices := rfl
@[simp] theorem State.updCad_sliceG (f : Cadence → Cadence) : (s.updCad f).sliceG = s.sliceG := rfl
@[simp] theorem State.updCad_flash (f : Cadence → Cadence) : (s.updCad f).flash = s.flash := rfl
@[simp] theorem State.updCad_runs (f : Cadence → Cadence) : (s.updCad f).runs = s.runs := rfl
@[simp] theorem State.updCad_ports (f : Cadence → Cadence) : (s.updCad f).ports = s.ports := rfl
@[simp] theorem State.updCad_tor (f : Cadence → Cadence) : (s.updCad f).tor = s.tor := rfl
@[simp] theorem State.updCad_routeSet (f : Cadence → Cadence) : (s.updCad f).routeSet = s.routeSet := rfl
@[simp] theorem State.updCad_routeWork (f : Cadence → Cadence) : (s.updCad f).routeWork = s.routeWork := rfl
@[simp] theorem State.updCad_proto (f : Cadence → Cadence) : (s.updCad f).proto = s.proto := rfl
@[simp] theorem State.updCad_snaps (f : Cadence → Cadence) : (s.updCad f).snaps = s.snaps := rfl
@[simp] theorem State.updCad_xfers (f : Cadence → Cadence) : (s.updCad f).xfers = s.xfers := rfl
@[simp] theorem State.updCad_pkts (f : Cadence → Cadence) : (s.updCad f).pkts = s.pkts := rfl
@[simp] theorem State.updCad_nextPkt (f : Cadence → Cadence) : (s.updCad f).nextPkt = s.nextPkt := rfl
@[simp] theorem State.updCad_shPages (f : Cadence → Cadence) : (s.updCad f).shPages = s.shPages := rfl
@[simp] theorem State.updCad_backing (f : Cadence → Cadence) : (s.updCad f).backing = s.backing := rfl
@[simp] theorem State.updCad_fetches (f : Cadence → Cadence) : (s.updCad f).fetches = s.fetches := rfl
@[simp] theorem State.updCad_passed (f : Cadence → Cadence) : (s.updCad f).passed = s.passed := rfl
@[simp] theorem State.updCad_readSeq (f : Cadence → Cadence) : (s.updCad f).readSeq = s.readSeq := rfl
@[simp] theorem State.updCad_pubs (f : Cadence → Cadence) : (s.updCad f).pubs = s.pubs := rfl
@[simp] theorem State.updCad_insts (f : Cadence → Cadence) : (s.updCad f).insts = s.insts := rfl
@[simp] theorem State.updCad_streamOps (f : Cadence → Cadence) : (s.updCad f).streamOps = s.streamOps := rfl
@[simp] theorem State.updCad_nextInst (f : Cadence → Cadence) : (s.updCad f).nextInst = s.nextInst := rfl
@[simp] theorem State.updCad_nextReq (f : Cadence → Cadence) : (s.updCad f).nextReq = s.nextReq := rfl
@[simp] theorem State.updCad_opProg (f : Cadence → Cadence) : (s.updCad f).opProg = s.opProg := rfl
@[simp] theorem State.updCad_out (f : Cadence → Cadence) : (s.updCad f).out = s.out := rfl
@[simp] theorem State.updCad_free (f : Cadence → Cadence) : (s.updCad f).free = s.free := rfl
@[simp] theorem State.updCad_pending (f : Cadence → Cadence) : (s.updCad f).pending = s.pending := rfl

@[simp] theorem State.updFw_fixed (f : Firmware → Firmware) : (s.updFw f).fixed = s.fixed := rfl
@[simp] theorem State.updFw_phase (f : Firmware → Firmware) : (s.updFw f).phase = s.phase := rfl
@[simp] theorem State.updFw_scratch (f : Firmware → Firmware) : (s.updFw f).scratch = s.scratch := rfl
@[simp] theorem State.updFw_rsShadow (f : Firmware → Firmware) : (s.updFw f).rsShadow = s.rsShadow := rfl
@[simp] theorem State.updFw_links (f : Firmware → Firmware) : (s.updFw f).links = s.links := rfl
@[simp] theorem State.updFw_rgn (f : Firmware → Firmware) : (s.updFw f).rgn = s.rgn := rfl
@[simp] theorem State.updFw_part (f : Firmware → Firmware) : (s.updFw f).part = s.part := rfl
@[simp] theorem State.updFw_sync (f : Firmware → Firmware) : (s.updFw f).sync = s.sync := rfl
@[simp] theorem State.updFw_ops (f : Firmware → Firmware) : (s.updFw f).ops = s.ops := rfl
@[simp] theorem State.updFw_nextOp (f : Firmware → Firmware) : (s.updFw f).nextOp = s.nextOp := rfl
@[simp] theorem State.updFw_nextEnd (f : Firmware → Firmware) : (s.updFw f).nextEnd = s.nextEnd := rfl
@[simp] theorem State.updFw_rrPart (f : Firmware → Firmware) : (s.updFw f).rrPart = s.rrPart := rfl
@[simp] theorem State.updFw_cad (f : Firmware → Firmware) : (s.updFw f).cad = s.cad := rfl
@[simp] theorem State.updFw_sec (f : Firmware → Firmware) : (s.updFw f).sec = s.sec := rfl
@[simp] theorem State.updFw_portOwner (f : Firmware → Firmware) : (s.updFw f).portOwner = s.portOwner := rfl
@[simp] theorem State.updFw_pwr (f : Firmware → Firmware) : (s.updFw f).pwr = s.pwr := rfl
@[simp] theorem State.updFw_bru (f : Firmware → Firmware) : (s.updFw f).bru = s.bru := rfl
@[simp] theorem State.updFw_ras (f : Firmware → Firmware) : (s.updFw f).ras = s.ras := rfl
@[simp] theorem State.updFw_mgt (f : Firmware → Firmware) : (s.updFw f).mgt = s.mgt := rfl
@[simp] theorem State.updFw_tiles (f : Firmware → Firmware) : (s.updFw f).tiles = s.tiles := rfl
@[simp] theorem State.updFw_sram (f : Firmware → Firmware) : (s.updFw f).sram = s.sram := rfl
@[simp] theorem State.updFw_sramG (f : Firmware → Firmware) : (s.updFw f).sramG = s.sramG := rfl
@[simp] theorem State.updFw_slices (f : Firmware → Firmware) : (s.updFw f).slices = s.slices := rfl
@[simp] theorem State.updFw_sliceG (f : Firmware → Firmware) : (s.updFw f).sliceG = s.sliceG := rfl
@[simp] theorem State.updFw_flash (f : Firmware → Firmware) : (s.updFw f).flash = s.flash := rfl
@[simp] theorem State.updFw_runs (f : Firmware → Firmware) : (s.updFw f).runs = s.runs := rfl
@[simp] theorem State.updFw_ports (f : Firmware → Firmware) : (s.updFw f).ports = s.ports := rfl
@[simp] theorem State.updFw_tor (f : Firmware → Firmware) : (s.updFw f).tor = s.tor := rfl
@[simp] theorem State.updFw_routeSet (f : Firmware → Firmware) : (s.updFw f).routeSet = s.routeSet := rfl
@[simp] theorem State.updFw_routeWork (f : Firmware → Firmware) : (s.updFw f).routeWork = s.routeWork := rfl
@[simp] theorem State.updFw_proto (f : Firmware → Firmware) : (s.updFw f).proto = s.proto := rfl
@[simp] theorem State.updFw_snaps (f : Firmware → Firmware) : (s.updFw f).snaps = s.snaps := rfl
@[simp] theorem State.updFw_xfers (f : Firmware → Firmware) : (s.updFw f).xfers = s.xfers := rfl
@[simp] theorem State.updFw_pkts (f : Firmware → Firmware) : (s.updFw f).pkts = s.pkts := rfl
@[simp] theorem State.updFw_nextPkt (f : Firmware → Firmware) : (s.updFw f).nextPkt = s.nextPkt := rfl
@[simp] theorem State.updFw_shPages (f : Firmware → Firmware) : (s.updFw f).shPages = s.shPages := rfl
@[simp] theorem State.updFw_backing (f : Firmware → Firmware) : (s.updFw f).backing = s.backing := rfl
@[simp] theorem State.updFw_fetches (f : Firmware → Firmware) : (s.updFw f).fetches = s.fetches := rfl
@[simp] theorem State.updFw_passed (f : Firmware → Firmware) : (s.updFw f).passed = s.passed := rfl
@[simp] theorem State.updFw_readSeq (f : Firmware → Firmware) : (s.updFw f).readSeq = s.readSeq := rfl
@[simp] theorem State.updFw_pubs (f : Firmware → Firmware) : (s.updFw f).pubs = s.pubs := rfl
@[simp] theorem State.updFw_insts (f : Firmware → Firmware) : (s.updFw f).insts = s.insts := rfl
@[simp] theorem State.updFw_streamOps (f : Firmware → Firmware) : (s.updFw f).streamOps = s.streamOps := rfl
@[simp] theorem State.updFw_nextInst (f : Firmware → Firmware) : (s.updFw f).nextInst = s.nextInst := rfl
@[simp] theorem State.updFw_nextReq (f : Firmware → Firmware) : (s.updFw f).nextReq = s.nextReq := rfl
@[simp] theorem State.updFw_opProg (f : Firmware → Firmware) : (s.updFw f).opProg = s.opProg := rfl
@[simp] theorem State.updFw_out (f : Firmware → Firmware) : (s.updFw f).out = s.out := rfl
@[simp] theorem State.updFw_free (f : Firmware → Firmware) : (s.updFw f).free = s.free := rfl
@[simp] theorem State.updFw_pending (f : Firmware → Firmware) : (s.updFw f).pending = s.pending := rfl

@[simp] theorem State.updMgt_fixed (f : Carrier → Carrier) : (s.updMgt f).fixed = s.fixed := rfl
@[simp] theorem State.updMgt_phase (f : Carrier → Carrier) : (s.updMgt f).phase = s.phase := rfl
@[simp] theorem State.updMgt_scratch (f : Carrier → Carrier) : (s.updMgt f).scratch = s.scratch := rfl
@[simp] theorem State.updMgt_rsShadow (f : Carrier → Carrier) : (s.updMgt f).rsShadow = s.rsShadow := rfl
@[simp] theorem State.updMgt_links (f : Carrier → Carrier) : (s.updMgt f).links = s.links := rfl
@[simp] theorem State.updMgt_rgn (f : Carrier → Carrier) : (s.updMgt f).rgn = s.rgn := rfl
@[simp] theorem State.updMgt_part (f : Carrier → Carrier) : (s.updMgt f).part = s.part := rfl
@[simp] theorem State.updMgt_sync (f : Carrier → Carrier) : (s.updMgt f).sync = s.sync := rfl
@[simp] theorem State.updMgt_ops (f : Carrier → Carrier) : (s.updMgt f).ops = s.ops := rfl
@[simp] theorem State.updMgt_nextOp (f : Carrier → Carrier) : (s.updMgt f).nextOp = s.nextOp := rfl
@[simp] theorem State.updMgt_nextEnd (f : Carrier → Carrier) : (s.updMgt f).nextEnd = s.nextEnd := rfl
@[simp] theorem State.updMgt_rrPart (f : Carrier → Carrier) : (s.updMgt f).rrPart = s.rrPart := rfl
@[simp] theorem State.updMgt_cad (f : Carrier → Carrier) : (s.updMgt f).cad = s.cad := rfl
@[simp] theorem State.updMgt_fw (f : Carrier → Carrier) : (s.updMgt f).fw = s.fw := rfl
@[simp] theorem State.updMgt_sec (f : Carrier → Carrier) : (s.updMgt f).sec = s.sec := rfl
@[simp] theorem State.updMgt_portOwner (f : Carrier → Carrier) : (s.updMgt f).portOwner = s.portOwner := rfl
@[simp] theorem State.updMgt_pwr (f : Carrier → Carrier) : (s.updMgt f).pwr = s.pwr := rfl
@[simp] theorem State.updMgt_bru (f : Carrier → Carrier) : (s.updMgt f).bru = s.bru := rfl
@[simp] theorem State.updMgt_ras (f : Carrier → Carrier) : (s.updMgt f).ras = s.ras := rfl
@[simp] theorem State.updMgt_tiles (f : Carrier → Carrier) : (s.updMgt f).tiles = s.tiles := rfl
@[simp] theorem State.updMgt_sram (f : Carrier → Carrier) : (s.updMgt f).sram = s.sram := rfl
@[simp] theorem State.updMgt_sramG (f : Carrier → Carrier) : (s.updMgt f).sramG = s.sramG := rfl
@[simp] theorem State.updMgt_slices (f : Carrier → Carrier) : (s.updMgt f).slices = s.slices := rfl
@[simp] theorem State.updMgt_sliceG (f : Carrier → Carrier) : (s.updMgt f).sliceG = s.sliceG := rfl
@[simp] theorem State.updMgt_flash (f : Carrier → Carrier) : (s.updMgt f).flash = s.flash := rfl
@[simp] theorem State.updMgt_runs (f : Carrier → Carrier) : (s.updMgt f).runs = s.runs := rfl
@[simp] theorem State.updMgt_ports (f : Carrier → Carrier) : (s.updMgt f).ports = s.ports := rfl
@[simp] theorem State.updMgt_tor (f : Carrier → Carrier) : (s.updMgt f).tor = s.tor := rfl
@[simp] theorem State.updMgt_routeSet (f : Carrier → Carrier) : (s.updMgt f).routeSet = s.routeSet := rfl
@[simp] theorem State.updMgt_routeWork (f : Carrier → Carrier) : (s.updMgt f).routeWork = s.routeWork := rfl
@[simp] theorem State.updMgt_proto (f : Carrier → Carrier) : (s.updMgt f).proto = s.proto := rfl
@[simp] theorem State.updMgt_snaps (f : Carrier → Carrier) : (s.updMgt f).snaps = s.snaps := rfl
@[simp] theorem State.updMgt_xfers (f : Carrier → Carrier) : (s.updMgt f).xfers = s.xfers := rfl
@[simp] theorem State.updMgt_pkts (f : Carrier → Carrier) : (s.updMgt f).pkts = s.pkts := rfl
@[simp] theorem State.updMgt_nextPkt (f : Carrier → Carrier) : (s.updMgt f).nextPkt = s.nextPkt := rfl
@[simp] theorem State.updMgt_shPages (f : Carrier → Carrier) : (s.updMgt f).shPages = s.shPages := rfl
@[simp] theorem State.updMgt_backing (f : Carrier → Carrier) : (s.updMgt f).backing = s.backing := rfl
@[simp] theorem State.updMgt_fetches (f : Carrier → Carrier) : (s.updMgt f).fetches = s.fetches := rfl
@[simp] theorem State.updMgt_passed (f : Carrier → Carrier) : (s.updMgt f).passed = s.passed := rfl
@[simp] theorem State.updMgt_readSeq (f : Carrier → Carrier) : (s.updMgt f).readSeq = s.readSeq := rfl
@[simp] theorem State.updMgt_pubs (f : Carrier → Carrier) : (s.updMgt f).pubs = s.pubs := rfl
@[simp] theorem State.updMgt_insts (f : Carrier → Carrier) : (s.updMgt f).insts = s.insts := rfl
@[simp] theorem State.updMgt_streamOps (f : Carrier → Carrier) : (s.updMgt f).streamOps = s.streamOps := rfl
@[simp] theorem State.updMgt_nextInst (f : Carrier → Carrier) : (s.updMgt f).nextInst = s.nextInst := rfl
@[simp] theorem State.updMgt_nextReq (f : Carrier → Carrier) : (s.updMgt f).nextReq = s.nextReq := rfl
@[simp] theorem State.updMgt_opProg (f : Carrier → Carrier) : (s.updMgt f).opProg = s.opProg := rfl
@[simp] theorem State.updMgt_out (f : Carrier → Carrier) : (s.updMgt f).out = s.out := rfl
@[simp] theorem State.updMgt_free (f : Carrier → Carrier) : (s.updMgt f).free = s.free := rfl
@[simp] theorem State.updMgt_pending (f : Carrier → Carrier) : (s.updMgt f).pending = s.pending := rfl

@[simp] theorem State.updPwr_fixed (f : Power → Power) : (s.updPwr f).fixed = s.fixed := rfl
@[simp] theorem State.updPwr_phase (f : Power → Power) : (s.updPwr f).phase = s.phase := rfl
@[simp] theorem State.updPwr_scratch (f : Power → Power) : (s.updPwr f).scratch = s.scratch := rfl
@[simp] theorem State.updPwr_rsShadow (f : Power → Power) : (s.updPwr f).rsShadow = s.rsShadow := rfl
@[simp] theorem State.updPwr_links (f : Power → Power) : (s.updPwr f).links = s.links := rfl
@[simp] theorem State.updPwr_rgn (f : Power → Power) : (s.updPwr f).rgn = s.rgn := rfl
@[simp] theorem State.updPwr_part (f : Power → Power) : (s.updPwr f).part = s.part := rfl
@[simp] theorem State.updPwr_sync (f : Power → Power) : (s.updPwr f).sync = s.sync := rfl
@[simp] theorem State.updPwr_ops (f : Power → Power) : (s.updPwr f).ops = s.ops := rfl
@[simp] theorem State.updPwr_nextOp (f : Power → Power) : (s.updPwr f).nextOp = s.nextOp := rfl
@[simp] theorem State.updPwr_nextEnd (f : Power → Power) : (s.updPwr f).nextEnd = s.nextEnd := rfl
@[simp] theorem State.updPwr_rrPart (f : Power → Power) : (s.updPwr f).rrPart = s.rrPart := rfl
@[simp] theorem State.updPwr_cad (f : Power → Power) : (s.updPwr f).cad = s.cad := rfl
@[simp] theorem State.updPwr_fw (f : Power → Power) : (s.updPwr f).fw = s.fw := rfl
@[simp] theorem State.updPwr_sec (f : Power → Power) : (s.updPwr f).sec = s.sec := rfl
@[simp] theorem State.updPwr_portOwner (f : Power → Power) : (s.updPwr f).portOwner = s.portOwner := rfl
@[simp] theorem State.updPwr_bru (f : Power → Power) : (s.updPwr f).bru = s.bru := rfl
@[simp] theorem State.updPwr_ras (f : Power → Power) : (s.updPwr f).ras = s.ras := rfl
@[simp] theorem State.updPwr_mgt (f : Power → Power) : (s.updPwr f).mgt = s.mgt := rfl
@[simp] theorem State.updPwr_tiles (f : Power → Power) : (s.updPwr f).tiles = s.tiles := rfl
@[simp] theorem State.updPwr_sram (f : Power → Power) : (s.updPwr f).sram = s.sram := rfl
@[simp] theorem State.updPwr_sramG (f : Power → Power) : (s.updPwr f).sramG = s.sramG := rfl
@[simp] theorem State.updPwr_slices (f : Power → Power) : (s.updPwr f).slices = s.slices := rfl
@[simp] theorem State.updPwr_sliceG (f : Power → Power) : (s.updPwr f).sliceG = s.sliceG := rfl
@[simp] theorem State.updPwr_flash (f : Power → Power) : (s.updPwr f).flash = s.flash := rfl
@[simp] theorem State.updPwr_runs (f : Power → Power) : (s.updPwr f).runs = s.runs := rfl
@[simp] theorem State.updPwr_ports (f : Power → Power) : (s.updPwr f).ports = s.ports := rfl
@[simp] theorem State.updPwr_tor (f : Power → Power) : (s.updPwr f).tor = s.tor := rfl
@[simp] theorem State.updPwr_routeSet (f : Power → Power) : (s.updPwr f).routeSet = s.routeSet := rfl
@[simp] theorem State.updPwr_routeWork (f : Power → Power) : (s.updPwr f).routeWork = s.routeWork := rfl
@[simp] theorem State.updPwr_proto (f : Power → Power) : (s.updPwr f).proto = s.proto := rfl
@[simp] theorem State.updPwr_snaps (f : Power → Power) : (s.updPwr f).snaps = s.snaps := rfl
@[simp] theorem State.updPwr_xfers (f : Power → Power) : (s.updPwr f).xfers = s.xfers := rfl
@[simp] theorem State.updPwr_pkts (f : Power → Power) : (s.updPwr f).pkts = s.pkts := rfl
@[simp] theorem State.updPwr_nextPkt (f : Power → Power) : (s.updPwr f).nextPkt = s.nextPkt := rfl
@[simp] theorem State.updPwr_shPages (f : Power → Power) : (s.updPwr f).shPages = s.shPages := rfl
@[simp] theorem State.updPwr_backing (f : Power → Power) : (s.updPwr f).backing = s.backing := rfl
@[simp] theorem State.updPwr_fetches (f : Power → Power) : (s.updPwr f).fetches = s.fetches := rfl
@[simp] theorem State.updPwr_passed (f : Power → Power) : (s.updPwr f).passed = s.passed := rfl
@[simp] theorem State.updPwr_readSeq (f : Power → Power) : (s.updPwr f).readSeq = s.readSeq := rfl
@[simp] theorem State.updPwr_pubs (f : Power → Power) : (s.updPwr f).pubs = s.pubs := rfl
@[simp] theorem State.updPwr_insts (f : Power → Power) : (s.updPwr f).insts = s.insts := rfl
@[simp] theorem State.updPwr_streamOps (f : Power → Power) : (s.updPwr f).streamOps = s.streamOps := rfl
@[simp] theorem State.updPwr_nextInst (f : Power → Power) : (s.updPwr f).nextInst = s.nextInst := rfl
@[simp] theorem State.updPwr_nextReq (f : Power → Power) : (s.updPwr f).nextReq = s.nextReq := rfl
@[simp] theorem State.updPwr_opProg (f : Power → Power) : (s.updPwr f).opProg = s.opProg := rfl
@[simp] theorem State.updPwr_out (f : Power → Power) : (s.updPwr f).out = s.out := rfl
@[simp] theorem State.updPwr_free (f : Power → Power) : (s.updPwr f).free = s.free := rfl
@[simp] theorem State.updPwr_pending (f : Power → Power) : (s.updPwr f).pending = s.pending := rfl

@[simp] theorem State.updRP_fixed (r : Nat) (f : RegionPower → RegionPower) : (s.updRP r f).fixed = s.fixed := rfl
@[simp] theorem State.updRP_phase (r : Nat) (f : RegionPower → RegionPower) : (s.updRP r f).phase = s.phase := rfl
@[simp] theorem State.updRP_scratch (r : Nat) (f : RegionPower → RegionPower) : (s.updRP r f).scratch = s.scratch := rfl
@[simp] theorem State.updRP_rsShadow (r : Nat) (f : RegionPower → RegionPower) : (s.updRP r f).rsShadow = s.rsShadow := rfl
@[simp] theorem State.updRP_links (r : Nat) (f : RegionPower → RegionPower) : (s.updRP r f).links = s.links := rfl
@[simp] theorem State.updRP_part (r : Nat) (f : RegionPower → RegionPower) : (s.updRP r f).part = s.part := rfl
@[simp] theorem State.updRP_sync (r : Nat) (f : RegionPower → RegionPower) : (s.updRP r f).sync = s.sync := rfl
@[simp] theorem State.updRP_ops (r : Nat) (f : RegionPower → RegionPower) : (s.updRP r f).ops = s.ops := rfl
@[simp] theorem State.updRP_nextOp (r : Nat) (f : RegionPower → RegionPower) : (s.updRP r f).nextOp = s.nextOp := rfl
@[simp] theorem State.updRP_nextEnd (r : Nat) (f : RegionPower → RegionPower) : (s.updRP r f).nextEnd = s.nextEnd := rfl
@[simp] theorem State.updRP_rrPart (r : Nat) (f : RegionPower → RegionPower) : (s.updRP r f).rrPart = s.rrPart := rfl
@[simp] theorem State.updRP_cad (r : Nat) (f : RegionPower → RegionPower) : (s.updRP r f).cad = s.cad := rfl
@[simp] theorem State.updRP_fw (r : Nat) (f : RegionPower → RegionPower) : (s.updRP r f).fw = s.fw := rfl
@[simp] theorem State.updRP_sec (r : Nat) (f : RegionPower → RegionPower) : (s.updRP r f).sec = s.sec := rfl
@[simp] theorem State.updRP_portOwner (r : Nat) (f : RegionPower → RegionPower) : (s.updRP r f).portOwner = s.portOwner := rfl
@[simp] theorem State.updRP_pwr (r : Nat) (f : RegionPower → RegionPower) : (s.updRP r f).pwr = s.pwr := rfl
@[simp] theorem State.updRP_bru (r : Nat) (f : RegionPower → RegionPower) : (s.updRP r f).bru = s.bru := rfl
@[simp] theorem State.updRP_ras (r : Nat) (f : RegionPower → RegionPower) : (s.updRP r f).ras = s.ras := rfl
@[simp] theorem State.updRP_mgt (r : Nat) (f : RegionPower → RegionPower) : (s.updRP r f).mgt = s.mgt := rfl
@[simp] theorem State.updRP_tiles (r : Nat) (f : RegionPower → RegionPower) : (s.updRP r f).tiles = s.tiles := rfl
@[simp] theorem State.updRP_sram (r : Nat) (f : RegionPower → RegionPower) : (s.updRP r f).sram = s.sram := rfl
@[simp] theorem State.updRP_sramG (r : Nat) (f : RegionPower → RegionPower) : (s.updRP r f).sramG = s.sramG := rfl
@[simp] theorem State.updRP_slices (r : Nat) (f : RegionPower → RegionPower) : (s.updRP r f).slices = s.slices := rfl
@[simp] theorem State.updRP_sliceG (r : Nat) (f : RegionPower → RegionPower) : (s.updRP r f).sliceG = s.sliceG := rfl
@[simp] theorem State.updRP_flash (r : Nat) (f : RegionPower → RegionPower) : (s.updRP r f).flash = s.flash := rfl
@[simp] theorem State.updRP_runs (r : Nat) (f : RegionPower → RegionPower) : (s.updRP r f).runs = s.runs := rfl
@[simp] theorem State.updRP_ports (r : Nat) (f : RegionPower → RegionPower) : (s.updRP r f).ports = s.ports := rfl
@[simp] theorem State.updRP_tor (r : Nat) (f : RegionPower → RegionPower) : (s.updRP r f).tor = s.tor := rfl
@[simp] theorem State.updRP_routeSet (r : Nat) (f : RegionPower → RegionPower) : (s.updRP r f).routeSet = s.routeSet := rfl
@[simp] theorem State.updRP_routeWork (r : Nat) (f : RegionPower → RegionPower) : (s.updRP r f).routeWork = s.routeWork := rfl
@[simp] theorem State.updRP_proto (r : Nat) (f : RegionPower → RegionPower) : (s.updRP r f).proto = s.proto := rfl
@[simp] theorem State.updRP_snaps (r : Nat) (f : RegionPower → RegionPower) : (s.updRP r f).snaps = s.snaps := rfl
@[simp] theorem State.updRP_xfers (r : Nat) (f : RegionPower → RegionPower) : (s.updRP r f).xfers = s.xfers := rfl
@[simp] theorem State.updRP_pkts (r : Nat) (f : RegionPower → RegionPower) : (s.updRP r f).pkts = s.pkts := rfl
@[simp] theorem State.updRP_nextPkt (r : Nat) (f : RegionPower → RegionPower) : (s.updRP r f).nextPkt = s.nextPkt := rfl
@[simp] theorem State.updRP_shPages (r : Nat) (f : RegionPower → RegionPower) : (s.updRP r f).shPages = s.shPages := rfl
@[simp] theorem State.updRP_backing (r : Nat) (f : RegionPower → RegionPower) : (s.updRP r f).backing = s.backing := rfl
@[simp] theorem State.updRP_fetches (r : Nat) (f : RegionPower → RegionPower) : (s.updRP r f).fetches = s.fetches := rfl
@[simp] theorem State.updRP_passed (r : Nat) (f : RegionPower → RegionPower) : (s.updRP r f).passed = s.passed := rfl
@[simp] theorem State.updRP_readSeq (r : Nat) (f : RegionPower → RegionPower) : (s.updRP r f).readSeq = s.readSeq := rfl
@[simp] theorem State.updRP_pubs (r : Nat) (f : RegionPower → RegionPower) : (s.updRP r f).pubs = s.pubs := rfl
@[simp] theorem State.updRP_insts (r : Nat) (f : RegionPower → RegionPower) : (s.updRP r f).insts = s.insts := rfl
@[simp] theorem State.updRP_streamOps (r : Nat) (f : RegionPower → RegionPower) : (s.updRP r f).streamOps = s.streamOps := rfl
@[simp] theorem State.updRP_nextInst (r : Nat) (f : RegionPower → RegionPower) : (s.updRP r f).nextInst = s.nextInst := rfl
@[simp] theorem State.updRP_nextReq (r : Nat) (f : RegionPower → RegionPower) : (s.updRP r f).nextReq = s.nextReq := rfl
@[simp] theorem State.updRP_opProg (r : Nat) (f : RegionPower → RegionPower) : (s.updRP r f).opProg = s.opProg := rfl
@[simp] theorem State.updRP_out (r : Nat) (f : RegionPower → RegionPower) : (s.updRP r f).out = s.out := rfl
@[simp] theorem State.updRP_free (r : Nat) (f : RegionPower → RegionPower) : (s.updRP r f).free = s.free := rfl
@[simp] theorem State.updRP_pending (r : Nat) (f : RegionPower → RegionPower) : (s.updRP r f).pending = s.pending := rfl

@[simp] theorem State.updBru_fixed (f : Bringup → Bringup) : (s.updBru f).fixed = s.fixed := rfl
@[simp] theorem State.updBru_phase (f : Bringup → Bringup) : (s.updBru f).phase = s.phase := rfl
@[simp] theorem State.updBru_scratch (f : Bringup → Bringup) : (s.updBru f).scratch = s.scratch := rfl
@[simp] theorem State.updBru_rsShadow (f : Bringup → Bringup) : (s.updBru f).rsShadow = s.rsShadow := rfl
@[simp] theorem State.updBru_links (f : Bringup → Bringup) : (s.updBru f).links = s.links := rfl
@[simp] theorem State.updBru_rgn (f : Bringup → Bringup) : (s.updBru f).rgn = s.rgn := rfl
@[simp] theorem State.updBru_part (f : Bringup → Bringup) : (s.updBru f).part = s.part := rfl
@[simp] theorem State.updBru_sync (f : Bringup → Bringup) : (s.updBru f).sync = s.sync := rfl
@[simp] theorem State.updBru_ops (f : Bringup → Bringup) : (s.updBru f).ops = s.ops := rfl
@[simp] theorem State.updBru_nextOp (f : Bringup → Bringup) : (s.updBru f).nextOp = s.nextOp := rfl
@[simp] theorem State.updBru_nextEnd (f : Bringup → Bringup) : (s.updBru f).nextEnd = s.nextEnd := rfl
@[simp] theorem State.updBru_rrPart (f : Bringup → Bringup) : (s.updBru f).rrPart = s.rrPart := rfl
@[simp] theorem State.updBru_cad (f : Bringup → Bringup) : (s.updBru f).cad = s.cad := rfl
@[simp] theorem State.updBru_fw (f : Bringup → Bringup) : (s.updBru f).fw = s.fw := rfl
@[simp] theorem State.updBru_sec (f : Bringup → Bringup) : (s.updBru f).sec = s.sec := rfl
@[simp] theorem State.updBru_portOwner (f : Bringup → Bringup) : (s.updBru f).portOwner = s.portOwner := rfl
@[simp] theorem State.updBru_pwr (f : Bringup → Bringup) : (s.updBru f).pwr = s.pwr := rfl
@[simp] theorem State.updBru_ras (f : Bringup → Bringup) : (s.updBru f).ras = s.ras := rfl
@[simp] theorem State.updBru_mgt (f : Bringup → Bringup) : (s.updBru f).mgt = s.mgt := rfl
@[simp] theorem State.updBru_tiles (f : Bringup → Bringup) : (s.updBru f).tiles = s.tiles := rfl
@[simp] theorem State.updBru_sram (f : Bringup → Bringup) : (s.updBru f).sram = s.sram := rfl
@[simp] theorem State.updBru_sramG (f : Bringup → Bringup) : (s.updBru f).sramG = s.sramG := rfl
@[simp] theorem State.updBru_slices (f : Bringup → Bringup) : (s.updBru f).slices = s.slices := rfl
@[simp] theorem State.updBru_sliceG (f : Bringup → Bringup) : (s.updBru f).sliceG = s.sliceG := rfl
@[simp] theorem State.updBru_flash (f : Bringup → Bringup) : (s.updBru f).flash = s.flash := rfl
@[simp] theorem State.updBru_runs (f : Bringup → Bringup) : (s.updBru f).runs = s.runs := rfl
@[simp] theorem State.updBru_ports (f : Bringup → Bringup) : (s.updBru f).ports = s.ports := rfl
@[simp] theorem State.updBru_tor (f : Bringup → Bringup) : (s.updBru f).tor = s.tor := rfl
@[simp] theorem State.updBru_routeSet (f : Bringup → Bringup) : (s.updBru f).routeSet = s.routeSet := rfl
@[simp] theorem State.updBru_routeWork (f : Bringup → Bringup) : (s.updBru f).routeWork = s.routeWork := rfl
@[simp] theorem State.updBru_proto (f : Bringup → Bringup) : (s.updBru f).proto = s.proto := rfl
@[simp] theorem State.updBru_snaps (f : Bringup → Bringup) : (s.updBru f).snaps = s.snaps := rfl
@[simp] theorem State.updBru_xfers (f : Bringup → Bringup) : (s.updBru f).xfers = s.xfers := rfl
@[simp] theorem State.updBru_pkts (f : Bringup → Bringup) : (s.updBru f).pkts = s.pkts := rfl
@[simp] theorem State.updBru_nextPkt (f : Bringup → Bringup) : (s.updBru f).nextPkt = s.nextPkt := rfl
@[simp] theorem State.updBru_shPages (f : Bringup → Bringup) : (s.updBru f).shPages = s.shPages := rfl
@[simp] theorem State.updBru_backing (f : Bringup → Bringup) : (s.updBru f).backing = s.backing := rfl
@[simp] theorem State.updBru_fetches (f : Bringup → Bringup) : (s.updBru f).fetches = s.fetches := rfl
@[simp] theorem State.updBru_passed (f : Bringup → Bringup) : (s.updBru f).passed = s.passed := rfl
@[simp] theorem State.updBru_readSeq (f : Bringup → Bringup) : (s.updBru f).readSeq = s.readSeq := rfl
@[simp] theorem State.updBru_pubs (f : Bringup → Bringup) : (s.updBru f).pubs = s.pubs := rfl
@[simp] theorem State.updBru_insts (f : Bringup → Bringup) : (s.updBru f).insts = s.insts := rfl
@[simp] theorem State.updBru_streamOps (f : Bringup → Bringup) : (s.updBru f).streamOps = s.streamOps := rfl
@[simp] theorem State.updBru_nextInst (f : Bringup → Bringup) : (s.updBru f).nextInst = s.nextInst := rfl
@[simp] theorem State.updBru_nextReq (f : Bringup → Bringup) : (s.updBru f).nextReq = s.nextReq := rfl
@[simp] theorem State.updBru_opProg (f : Bringup → Bringup) : (s.updBru f).opProg = s.opProg := rfl
@[simp] theorem State.updBru_out (f : Bringup → Bringup) : (s.updBru f).out = s.out := rfl
@[simp] theorem State.updBru_free (f : Bringup → Bringup) : (s.updBru f).free = s.free := rfl
@[simp] theorem State.updBru_pending (f : Bringup → Bringup) : (s.updBru f).pending = s.pending := rfl

@[simp] theorem State.updCal_fixed (p : Nat) (f : CalProcess → CalProcess) : (s.updCal p f).fixed = s.fixed := rfl
@[simp] theorem State.updCal_phase (p : Nat) (f : CalProcess → CalProcess) : (s.updCal p f).phase = s.phase := rfl
@[simp] theorem State.updCal_scratch (p : Nat) (f : CalProcess → CalProcess) : (s.updCal p f).scratch = s.scratch := rfl
@[simp] theorem State.updCal_rsShadow (p : Nat) (f : CalProcess → CalProcess) : (s.updCal p f).rsShadow = s.rsShadow := rfl
@[simp] theorem State.updCal_links (p : Nat) (f : CalProcess → CalProcess) : (s.updCal p f).links = s.links := rfl
@[simp] theorem State.updCal_rgn (p : Nat) (f : CalProcess → CalProcess) : (s.updCal p f).rgn = s.rgn := rfl
@[simp] theorem State.updCal_part (p : Nat) (f : CalProcess → CalProcess) : (s.updCal p f).part = s.part := rfl
@[simp] theorem State.updCal_sync (p : Nat) (f : CalProcess → CalProcess) : (s.updCal p f).sync = s.sync := rfl
@[simp] theorem State.updCal_ops (p : Nat) (f : CalProcess → CalProcess) : (s.updCal p f).ops = s.ops := rfl
@[simp] theorem State.updCal_nextOp (p : Nat) (f : CalProcess → CalProcess) : (s.updCal p f).nextOp = s.nextOp := rfl
@[simp] theorem State.updCal_nextEnd (p : Nat) (f : CalProcess → CalProcess) : (s.updCal p f).nextEnd = s.nextEnd := rfl
@[simp] theorem State.updCal_rrPart (p : Nat) (f : CalProcess → CalProcess) : (s.updCal p f).rrPart = s.rrPart := rfl
@[simp] theorem State.updCal_cad (p : Nat) (f : CalProcess → CalProcess) : (s.updCal p f).cad = s.cad := rfl
@[simp] theorem State.updCal_fw (p : Nat) (f : CalProcess → CalProcess) : (s.updCal p f).fw = s.fw := rfl
@[simp] theorem State.updCal_sec (p : Nat) (f : CalProcess → CalProcess) : (s.updCal p f).sec = s.sec := rfl
@[simp] theorem State.updCal_portOwner (p : Nat) (f : CalProcess → CalProcess) : (s.updCal p f).portOwner = s.portOwner := rfl
@[simp] theorem State.updCal_pwr (p : Nat) (f : CalProcess → CalProcess) : (s.updCal p f).pwr = s.pwr := rfl
@[simp] theorem State.updCal_ras (p : Nat) (f : CalProcess → CalProcess) : (s.updCal p f).ras = s.ras := rfl
@[simp] theorem State.updCal_mgt (p : Nat) (f : CalProcess → CalProcess) : (s.updCal p f).mgt = s.mgt := rfl
@[simp] theorem State.updCal_tiles (p : Nat) (f : CalProcess → CalProcess) : (s.updCal p f).tiles = s.tiles := rfl
@[simp] theorem State.updCal_sram (p : Nat) (f : CalProcess → CalProcess) : (s.updCal p f).sram = s.sram := rfl
@[simp] theorem State.updCal_sramG (p : Nat) (f : CalProcess → CalProcess) : (s.updCal p f).sramG = s.sramG := rfl
@[simp] theorem State.updCal_slices (p : Nat) (f : CalProcess → CalProcess) : (s.updCal p f).slices = s.slices := rfl
@[simp] theorem State.updCal_sliceG (p : Nat) (f : CalProcess → CalProcess) : (s.updCal p f).sliceG = s.sliceG := rfl
@[simp] theorem State.updCal_flash (p : Nat) (f : CalProcess → CalProcess) : (s.updCal p f).flash = s.flash := rfl
@[simp] theorem State.updCal_runs (p : Nat) (f : CalProcess → CalProcess) : (s.updCal p f).runs = s.runs := rfl
@[simp] theorem State.updCal_ports (p : Nat) (f : CalProcess → CalProcess) : (s.updCal p f).ports = s.ports := rfl
@[simp] theorem State.updCal_tor (p : Nat) (f : CalProcess → CalProcess) : (s.updCal p f).tor = s.tor := rfl
@[simp] theorem State.updCal_routeSet (p : Nat) (f : CalProcess → CalProcess) : (s.updCal p f).routeSet = s.routeSet := rfl
@[simp] theorem State.updCal_routeWork (p : Nat) (f : CalProcess → CalProcess) : (s.updCal p f).routeWork = s.routeWork := rfl
@[simp] theorem State.updCal_proto (p : Nat) (f : CalProcess → CalProcess) : (s.updCal p f).proto = s.proto := rfl
@[simp] theorem State.updCal_snaps (p : Nat) (f : CalProcess → CalProcess) : (s.updCal p f).snaps = s.snaps := rfl
@[simp] theorem State.updCal_xfers (p : Nat) (f : CalProcess → CalProcess) : (s.updCal p f).xfers = s.xfers := rfl
@[simp] theorem State.updCal_pkts (p : Nat) (f : CalProcess → CalProcess) : (s.updCal p f).pkts = s.pkts := rfl
@[simp] theorem State.updCal_nextPkt (p : Nat) (f : CalProcess → CalProcess) : (s.updCal p f).nextPkt = s.nextPkt := rfl
@[simp] theorem State.updCal_shPages (p : Nat) (f : CalProcess → CalProcess) : (s.updCal p f).shPages = s.shPages := rfl
@[simp] theorem State.updCal_backing (p : Nat) (f : CalProcess → CalProcess) : (s.updCal p f).backing = s.backing := rfl
@[simp] theorem State.updCal_fetches (p : Nat) (f : CalProcess → CalProcess) : (s.updCal p f).fetches = s.fetches := rfl
@[simp] theorem State.updCal_passed (p : Nat) (f : CalProcess → CalProcess) : (s.updCal p f).passed = s.passed := rfl
@[simp] theorem State.updCal_readSeq (p : Nat) (f : CalProcess → CalProcess) : (s.updCal p f).readSeq = s.readSeq := rfl
@[simp] theorem State.updCal_pubs (p : Nat) (f : CalProcess → CalProcess) : (s.updCal p f).pubs = s.pubs := rfl
@[simp] theorem State.updCal_insts (p : Nat) (f : CalProcess → CalProcess) : (s.updCal p f).insts = s.insts := rfl
@[simp] theorem State.updCal_streamOps (p : Nat) (f : CalProcess → CalProcess) : (s.updCal p f).streamOps = s.streamOps := rfl
@[simp] theorem State.updCal_nextInst (p : Nat) (f : CalProcess → CalProcess) : (s.updCal p f).nextInst = s.nextInst := rfl
@[simp] theorem State.updCal_nextReq (p : Nat) (f : CalProcess → CalProcess) : (s.updCal p f).nextReq = s.nextReq := rfl
@[simp] theorem State.updCal_opProg (p : Nat) (f : CalProcess → CalProcess) : (s.updCal p f).opProg = s.opProg := rfl
@[simp] theorem State.updCal_out (p : Nat) (f : CalProcess → CalProcess) : (s.updCal p f).out = s.out := rfl
@[simp] theorem State.updCal_free (p : Nat) (f : CalProcess → CalProcess) : (s.updCal p f).free = s.free := rfl
@[simp] theorem State.updCal_pending (p : Nat) (f : CalProcess → CalProcess) : (s.updCal p f).pending = s.pending := rfl

@[simp] theorem State.updTwin_fixed (f : Twin → Twin) : (s.updTwin f).fixed = s.fixed := rfl
@[simp] theorem State.updTwin_phase (f : Twin → Twin) : (s.updTwin f).phase = s.phase := rfl
@[simp] theorem State.updTwin_scratch (f : Twin → Twin) : (s.updTwin f).scratch = s.scratch := rfl
@[simp] theorem State.updTwin_rsShadow (f : Twin → Twin) : (s.updTwin f).rsShadow = s.rsShadow := rfl
@[simp] theorem State.updTwin_links (f : Twin → Twin) : (s.updTwin f).links = s.links := rfl
@[simp] theorem State.updTwin_rgn (f : Twin → Twin) : (s.updTwin f).rgn = s.rgn := rfl
@[simp] theorem State.updTwin_part (f : Twin → Twin) : (s.updTwin f).part = s.part := rfl
@[simp] theorem State.updTwin_sync (f : Twin → Twin) : (s.updTwin f).sync = s.sync := rfl
@[simp] theorem State.updTwin_ops (f : Twin → Twin) : (s.updTwin f).ops = s.ops := rfl
@[simp] theorem State.updTwin_nextOp (f : Twin → Twin) : (s.updTwin f).nextOp = s.nextOp := rfl
@[simp] theorem State.updTwin_nextEnd (f : Twin → Twin) : (s.updTwin f).nextEnd = s.nextEnd := rfl
@[simp] theorem State.updTwin_rrPart (f : Twin → Twin) : (s.updTwin f).rrPart = s.rrPart := rfl
@[simp] theorem State.updTwin_cad (f : Twin → Twin) : (s.updTwin f).cad = s.cad := rfl
@[simp] theorem State.updTwin_fw (f : Twin → Twin) : (s.updTwin f).fw = s.fw := rfl
@[simp] theorem State.updTwin_sec (f : Twin → Twin) : (s.updTwin f).sec = s.sec := rfl
@[simp] theorem State.updTwin_portOwner (f : Twin → Twin) : (s.updTwin f).portOwner = s.portOwner := rfl
@[simp] theorem State.updTwin_pwr (f : Twin → Twin) : (s.updTwin f).pwr = s.pwr := rfl
@[simp] theorem State.updTwin_bru (f : Twin → Twin) : (s.updTwin f).bru = s.bru := rfl
@[simp] theorem State.updTwin_mgt (f : Twin → Twin) : (s.updTwin f).mgt = s.mgt := rfl
@[simp] theorem State.updTwin_tiles (f : Twin → Twin) : (s.updTwin f).tiles = s.tiles := rfl
@[simp] theorem State.updTwin_sram (f : Twin → Twin) : (s.updTwin f).sram = s.sram := rfl
@[simp] theorem State.updTwin_sramG (f : Twin → Twin) : (s.updTwin f).sramG = s.sramG := rfl
@[simp] theorem State.updTwin_slices (f : Twin → Twin) : (s.updTwin f).slices = s.slices := rfl
@[simp] theorem State.updTwin_sliceG (f : Twin → Twin) : (s.updTwin f).sliceG = s.sliceG := rfl
@[simp] theorem State.updTwin_flash (f : Twin → Twin) : (s.updTwin f).flash = s.flash := rfl
@[simp] theorem State.updTwin_runs (f : Twin → Twin) : (s.updTwin f).runs = s.runs := rfl
@[simp] theorem State.updTwin_ports (f : Twin → Twin) : (s.updTwin f).ports = s.ports := rfl
@[simp] theorem State.updTwin_tor (f : Twin → Twin) : (s.updTwin f).tor = s.tor := rfl
@[simp] theorem State.updTwin_routeSet (f : Twin → Twin) : (s.updTwin f).routeSet = s.routeSet := rfl
@[simp] theorem State.updTwin_routeWork (f : Twin → Twin) : (s.updTwin f).routeWork = s.routeWork := rfl
@[simp] theorem State.updTwin_proto (f : Twin → Twin) : (s.updTwin f).proto = s.proto := rfl
@[simp] theorem State.updTwin_snaps (f : Twin → Twin) : (s.updTwin f).snaps = s.snaps := rfl
@[simp] theorem State.updTwin_xfers (f : Twin → Twin) : (s.updTwin f).xfers = s.xfers := rfl
@[simp] theorem State.updTwin_pkts (f : Twin → Twin) : (s.updTwin f).pkts = s.pkts := rfl
@[simp] theorem State.updTwin_nextPkt (f : Twin → Twin) : (s.updTwin f).nextPkt = s.nextPkt := rfl
@[simp] theorem State.updTwin_shPages (f : Twin → Twin) : (s.updTwin f).shPages = s.shPages := rfl
@[simp] theorem State.updTwin_backing (f : Twin → Twin) : (s.updTwin f).backing = s.backing := rfl
@[simp] theorem State.updTwin_fetches (f : Twin → Twin) : (s.updTwin f).fetches = s.fetches := rfl
@[simp] theorem State.updTwin_passed (f : Twin → Twin) : (s.updTwin f).passed = s.passed := rfl
@[simp] theorem State.updTwin_readSeq (f : Twin → Twin) : (s.updTwin f).readSeq = s.readSeq := rfl
@[simp] theorem State.updTwin_pubs (f : Twin → Twin) : (s.updTwin f).pubs = s.pubs := rfl
@[simp] theorem State.updTwin_insts (f : Twin → Twin) : (s.updTwin f).insts = s.insts := rfl
@[simp] theorem State.updTwin_streamOps (f : Twin → Twin) : (s.updTwin f).streamOps = s.streamOps := rfl
@[simp] theorem State.updTwin_nextInst (f : Twin → Twin) : (s.updTwin f).nextInst = s.nextInst := rfl
@[simp] theorem State.updTwin_nextReq (f : Twin → Twin) : (s.updTwin f).nextReq = s.nextReq := rfl
@[simp] theorem State.updTwin_opProg (f : Twin → Twin) : (s.updTwin f).opProg = s.opProg := rfl
@[simp] theorem State.updTwin_out (f : Twin → Twin) : (s.updTwin f).out = s.out := rfl
@[simp] theorem State.updTwin_free (f : Twin → Twin) : (s.updTwin f).free = s.free := rfl
@[simp] theorem State.updTwin_pending (f : Twin → Twin) : (s.updTwin f).pending = s.pending := rfl

@[simp] theorem State.updMirror_fixed (n : Nat) (f : Mirror → Mirror) : (s.updMirror n f).fixed = s.fixed := rfl
@[simp] theorem State.updMirror_phase (n : Nat) (f : Mirror → Mirror) : (s.updMirror n f).phase = s.phase := rfl
@[simp] theorem State.updMirror_scratch (n : Nat) (f : Mirror → Mirror) : (s.updMirror n f).scratch = s.scratch := rfl
@[simp] theorem State.updMirror_rsShadow (n : Nat) (f : Mirror → Mirror) : (s.updMirror n f).rsShadow = s.rsShadow := rfl
@[simp] theorem State.updMirror_links (n : Nat) (f : Mirror → Mirror) : (s.updMirror n f).links = s.links := rfl
@[simp] theorem State.updMirror_rgn (n : Nat) (f : Mirror → Mirror) : (s.updMirror n f).rgn = s.rgn := rfl
@[simp] theorem State.updMirror_sync (n : Nat) (f : Mirror → Mirror) : (s.updMirror n f).sync = s.sync := rfl
@[simp] theorem State.updMirror_ops (n : Nat) (f : Mirror → Mirror) : (s.updMirror n f).ops = s.ops := rfl
@[simp] theorem State.updMirror_nextOp (n : Nat) (f : Mirror → Mirror) : (s.updMirror n f).nextOp = s.nextOp := rfl
@[simp] theorem State.updMirror_nextEnd (n : Nat) (f : Mirror → Mirror) : (s.updMirror n f).nextEnd = s.nextEnd := rfl
@[simp] theorem State.updMirror_rrPart (n : Nat) (f : Mirror → Mirror) : (s.updMirror n f).rrPart = s.rrPart := rfl
@[simp] theorem State.updMirror_cad (n : Nat) (f : Mirror → Mirror) : (s.updMirror n f).cad = s.cad := rfl
@[simp] theorem State.updMirror_fw (n : Nat) (f : Mirror → Mirror) : (s.updMirror n f).fw = s.fw := rfl
@[simp] theorem State.updMirror_sec (n : Nat) (f : Mirror → Mirror) : (s.updMirror n f).sec = s.sec := rfl
@[simp] theorem State.updMirror_portOwner (n : Nat) (f : Mirror → Mirror) : (s.updMirror n f).portOwner = s.portOwner := rfl
@[simp] theorem State.updMirror_pwr (n : Nat) (f : Mirror → Mirror) : (s.updMirror n f).pwr = s.pwr := rfl
@[simp] theorem State.updMirror_bru (n : Nat) (f : Mirror → Mirror) : (s.updMirror n f).bru = s.bru := rfl
@[simp] theorem State.updMirror_ras (n : Nat) (f : Mirror → Mirror) : (s.updMirror n f).ras = s.ras := rfl
@[simp] theorem State.updMirror_mgt (n : Nat) (f : Mirror → Mirror) : (s.updMirror n f).mgt = s.mgt := rfl
@[simp] theorem State.updMirror_tiles (n : Nat) (f : Mirror → Mirror) : (s.updMirror n f).tiles = s.tiles := rfl
@[simp] theorem State.updMirror_sram (n : Nat) (f : Mirror → Mirror) : (s.updMirror n f).sram = s.sram := rfl
@[simp] theorem State.updMirror_sramG (n : Nat) (f : Mirror → Mirror) : (s.updMirror n f).sramG = s.sramG := rfl
@[simp] theorem State.updMirror_slices (n : Nat) (f : Mirror → Mirror) : (s.updMirror n f).slices = s.slices := rfl
@[simp] theorem State.updMirror_sliceG (n : Nat) (f : Mirror → Mirror) : (s.updMirror n f).sliceG = s.sliceG := rfl
@[simp] theorem State.updMirror_flash (n : Nat) (f : Mirror → Mirror) : (s.updMirror n f).flash = s.flash := rfl
@[simp] theorem State.updMirror_runs (n : Nat) (f : Mirror → Mirror) : (s.updMirror n f).runs = s.runs := rfl
@[simp] theorem State.updMirror_ports (n : Nat) (f : Mirror → Mirror) : (s.updMirror n f).ports = s.ports := rfl
@[simp] theorem State.updMirror_tor (n : Nat) (f : Mirror → Mirror) : (s.updMirror n f).tor = s.tor := rfl
@[simp] theorem State.updMirror_routeSet (n : Nat) (f : Mirror → Mirror) : (s.updMirror n f).routeSet = s.routeSet := rfl
@[simp] theorem State.updMirror_routeWork (n : Nat) (f : Mirror → Mirror) : (s.updMirror n f).routeWork = s.routeWork := rfl
@[simp] theorem State.updMirror_proto (n : Nat) (f : Mirror → Mirror) : (s.updMirror n f).proto = s.proto := rfl
@[simp] theorem State.updMirror_snaps (n : Nat) (f : Mirror → Mirror) : (s.updMirror n f).snaps = s.snaps := rfl
@[simp] theorem State.updMirror_xfers (n : Nat) (f : Mirror → Mirror) : (s.updMirror n f).xfers = s.xfers := rfl
@[simp] theorem State.updMirror_pkts (n : Nat) (f : Mirror → Mirror) : (s.updMirror n f).pkts = s.pkts := rfl
@[simp] theorem State.updMirror_nextPkt (n : Nat) (f : Mirror → Mirror) : (s.updMirror n f).nextPkt = s.nextPkt := rfl
@[simp] theorem State.updMirror_shPages (n : Nat) (f : Mirror → Mirror) : (s.updMirror n f).shPages = s.shPages := rfl
@[simp] theorem State.updMirror_backing (n : Nat) (f : Mirror → Mirror) : (s.updMirror n f).backing = s.backing := rfl
@[simp] theorem State.updMirror_fetches (n : Nat) (f : Mirror → Mirror) : (s.updMirror n f).fetches = s.fetches := rfl
@[simp] theorem State.updMirror_passed (n : Nat) (f : Mirror → Mirror) : (s.updMirror n f).passed = s.passed := rfl
@[simp] theorem State.updMirror_readSeq (n : Nat) (f : Mirror → Mirror) : (s.updMirror n f).readSeq = s.readSeq := rfl
@[simp] theorem State.updMirror_pubs (n : Nat) (f : Mirror → Mirror) : (s.updMirror n f).pubs = s.pubs := rfl
@[simp] theorem State.updMirror_insts (n : Nat) (f : Mirror → Mirror) : (s.updMirror n f).insts = s.insts := rfl
@[simp] theorem State.updMirror_streamOps (n : Nat) (f : Mirror → Mirror) : (s.updMirror n f).streamOps = s.streamOps := rfl
@[simp] theorem State.updMirror_nextInst (n : Nat) (f : Mirror → Mirror) : (s.updMirror n f).nextInst = s.nextInst := rfl
@[simp] theorem State.updMirror_nextReq (n : Nat) (f : Mirror → Mirror) : (s.updMirror n f).nextReq = s.nextReq := rfl
@[simp] theorem State.updMirror_opProg (n : Nat) (f : Mirror → Mirror) : (s.updMirror n f).opProg = s.opProg := rfl
@[simp] theorem State.updMirror_out (n : Nat) (f : Mirror → Mirror) : (s.updMirror n f).out = s.out := rfl
@[simp] theorem State.updMirror_free (n : Nat) (f : Mirror → Mirror) : (s.updMirror n f).free = s.free := rfl
@[simp] theorem State.updMirror_pending (n : Nat) (f : Mirror → Mirror) : (s.updMirror n f).pending = s.pending := rfl

@[simp] theorem State.updM_fixed (n : Nat) (f : PartMem → PartMem) : (s.updM n f).fixed = s.fixed := rfl
@[simp] theorem State.updM_phase (n : Nat) (f : PartMem → PartMem) : (s.updM n f).phase = s.phase := rfl
@[simp] theorem State.updM_scratch (n : Nat) (f : PartMem → PartMem) : (s.updM n f).scratch = s.scratch := rfl
@[simp] theorem State.updM_rsShadow (n : Nat) (f : PartMem → PartMem) : (s.updM n f).rsShadow = s.rsShadow := rfl
@[simp] theorem State.updM_links (n : Nat) (f : PartMem → PartMem) : (s.updM n f).links = s.links := rfl
@[simp] theorem State.updM_rgn (n : Nat) (f : PartMem → PartMem) : (s.updM n f).rgn = s.rgn := rfl
@[simp] theorem State.updM_sync (n : Nat) (f : PartMem → PartMem) : (s.updM n f).sync = s.sync := rfl
@[simp] theorem State.updM_ops (n : Nat) (f : PartMem → PartMem) : (s.updM n f).ops = s.ops := rfl
@[simp] theorem State.updM_nextOp (n : Nat) (f : PartMem → PartMem) : (s.updM n f).nextOp = s.nextOp := rfl
@[simp] theorem State.updM_nextEnd (n : Nat) (f : PartMem → PartMem) : (s.updM n f).nextEnd = s.nextEnd := rfl
@[simp] theorem State.updM_rrPart (n : Nat) (f : PartMem → PartMem) : (s.updM n f).rrPart = s.rrPart := rfl
@[simp] theorem State.updM_cad (n : Nat) (f : PartMem → PartMem) : (s.updM n f).cad = s.cad := rfl
@[simp] theorem State.updM_fw (n : Nat) (f : PartMem → PartMem) : (s.updM n f).fw = s.fw := rfl
@[simp] theorem State.updM_sec (n : Nat) (f : PartMem → PartMem) : (s.updM n f).sec = s.sec := rfl
@[simp] theorem State.updM_portOwner (n : Nat) (f : PartMem → PartMem) : (s.updM n f).portOwner = s.portOwner := rfl
@[simp] theorem State.updM_pwr (n : Nat) (f : PartMem → PartMem) : (s.updM n f).pwr = s.pwr := rfl
@[simp] theorem State.updM_bru (n : Nat) (f : PartMem → PartMem) : (s.updM n f).bru = s.bru := rfl
@[simp] theorem State.updM_ras (n : Nat) (f : PartMem → PartMem) : (s.updM n f).ras = s.ras := rfl
@[simp] theorem State.updM_mgt (n : Nat) (f : PartMem → PartMem) : (s.updM n f).mgt = s.mgt := rfl
@[simp] theorem State.updM_tiles (n : Nat) (f : PartMem → PartMem) : (s.updM n f).tiles = s.tiles := rfl
@[simp] theorem State.updM_sram (n : Nat) (f : PartMem → PartMem) : (s.updM n f).sram = s.sram := rfl
@[simp] theorem State.updM_sramG (n : Nat) (f : PartMem → PartMem) : (s.updM n f).sramG = s.sramG := rfl
@[simp] theorem State.updM_slices (n : Nat) (f : PartMem → PartMem) : (s.updM n f).slices = s.slices := rfl
@[simp] theorem State.updM_sliceG (n : Nat) (f : PartMem → PartMem) : (s.updM n f).sliceG = s.sliceG := rfl
@[simp] theorem State.updM_flash (n : Nat) (f : PartMem → PartMem) : (s.updM n f).flash = s.flash := rfl
@[simp] theorem State.updM_runs (n : Nat) (f : PartMem → PartMem) : (s.updM n f).runs = s.runs := rfl
@[simp] theorem State.updM_ports (n : Nat) (f : PartMem → PartMem) : (s.updM n f).ports = s.ports := rfl
@[simp] theorem State.updM_tor (n : Nat) (f : PartMem → PartMem) : (s.updM n f).tor = s.tor := rfl
@[simp] theorem State.updM_routeSet (n : Nat) (f : PartMem → PartMem) : (s.updM n f).routeSet = s.routeSet := rfl
@[simp] theorem State.updM_routeWork (n : Nat) (f : PartMem → PartMem) : (s.updM n f).routeWork = s.routeWork := rfl
@[simp] theorem State.updM_proto (n : Nat) (f : PartMem → PartMem) : (s.updM n f).proto = s.proto := rfl
@[simp] theorem State.updM_snaps (n : Nat) (f : PartMem → PartMem) : (s.updM n f).snaps = s.snaps := rfl
@[simp] theorem State.updM_xfers (n : Nat) (f : PartMem → PartMem) : (s.updM n f).xfers = s.xfers := rfl
@[simp] theorem State.updM_pkts (n : Nat) (f : PartMem → PartMem) : (s.updM n f).pkts = s.pkts := rfl
@[simp] theorem State.updM_nextPkt (n : Nat) (f : PartMem → PartMem) : (s.updM n f).nextPkt = s.nextPkt := rfl
@[simp] theorem State.updM_shPages (n : Nat) (f : PartMem → PartMem) : (s.updM n f).shPages = s.shPages := rfl
@[simp] theorem State.updM_backing (n : Nat) (f : PartMem → PartMem) : (s.updM n f).backing = s.backing := rfl
@[simp] theorem State.updM_fetches (n : Nat) (f : PartMem → PartMem) : (s.updM n f).fetches = s.fetches := rfl
@[simp] theorem State.updM_passed (n : Nat) (f : PartMem → PartMem) : (s.updM n f).passed = s.passed := rfl
@[simp] theorem State.updM_readSeq (n : Nat) (f : PartMem → PartMem) : (s.updM n f).readSeq = s.readSeq := rfl
@[simp] theorem State.updM_pubs (n : Nat) (f : PartMem → PartMem) : (s.updM n f).pubs = s.pubs := rfl
@[simp] theorem State.updM_insts (n : Nat) (f : PartMem → PartMem) : (s.updM n f).insts = s.insts := rfl
@[simp] theorem State.updM_streamOps (n : Nat) (f : PartMem → PartMem) : (s.updM n f).streamOps = s.streamOps := rfl
@[simp] theorem State.updM_nextInst (n : Nat) (f : PartMem → PartMem) : (s.updM n f).nextInst = s.nextInst := rfl
@[simp] theorem State.updM_nextReq (n : Nat) (f : PartMem → PartMem) : (s.updM n f).nextReq = s.nextReq := rfl
@[simp] theorem State.updM_opProg (n : Nat) (f : PartMem → PartMem) : (s.updM n f).opProg = s.opProg := rfl
@[simp] theorem State.updM_out (n : Nat) (f : PartMem → PartMem) : (s.updM n f).out = s.out := rfl
@[simp] theorem State.updM_free (n : Nat) (f : PartMem → PartMem) : (s.updM n f).free = s.free := rfl
@[simp] theorem State.updM_pending (n : Nat) (f : PartMem → PartMem) : (s.updM n f).pending = s.pending := rfl

@[simp] theorem State.setPte_fixed (n page : Nat) (e : Pte) : (s.setPte n page e).fixed = s.fixed := rfl
@[simp] theorem State.setPte_phase (n page : Nat) (e : Pte) : (s.setPte n page e).phase = s.phase := rfl
@[simp] theorem State.setPte_scratch (n page : Nat) (e : Pte) : (s.setPte n page e).scratch = s.scratch := rfl
@[simp] theorem State.setPte_rsShadow (n page : Nat) (e : Pte) : (s.setPte n page e).rsShadow = s.rsShadow := rfl
@[simp] theorem State.setPte_links (n page : Nat) (e : Pte) : (s.setPte n page e).links = s.links := rfl
@[simp] theorem State.setPte_rgn (n page : Nat) (e : Pte) : (s.setPte n page e).rgn = s.rgn := rfl
@[simp] theorem State.setPte_sync (n page : Nat) (e : Pte) : (s.setPte n page e).sync = s.sync := rfl
@[simp] theorem State.setPte_ops (n page : Nat) (e : Pte) : (s.setPte n page e).ops = s.ops := rfl
@[simp] theorem State.setPte_nextOp (n page : Nat) (e : Pte) : (s.setPte n page e).nextOp = s.nextOp := rfl
@[simp] theorem State.setPte_nextEnd (n page : Nat) (e : Pte) : (s.setPte n page e).nextEnd = s.nextEnd := rfl
@[simp] theorem State.setPte_rrPart (n page : Nat) (e : Pte) : (s.setPte n page e).rrPart = s.rrPart := rfl
@[simp] theorem State.setPte_cad (n page : Nat) (e : Pte) : (s.setPte n page e).cad = s.cad := rfl
@[simp] theorem State.setPte_fw (n page : Nat) (e : Pte) : (s.setPte n page e).fw = s.fw := rfl
@[simp] theorem State.setPte_sec (n page : Nat) (e : Pte) : (s.setPte n page e).sec = s.sec := rfl
@[simp] theorem State.setPte_portOwner (n page : Nat) (e : Pte) : (s.setPte n page e).portOwner = s.portOwner := rfl
@[simp] theorem State.setPte_pwr (n page : Nat) (e : Pte) : (s.setPte n page e).pwr = s.pwr := rfl
@[simp] theorem State.setPte_bru (n page : Nat) (e : Pte) : (s.setPte n page e).bru = s.bru := rfl
@[simp] theorem State.setPte_ras (n page : Nat) (e : Pte) : (s.setPte n page e).ras = s.ras := rfl
@[simp] theorem State.setPte_mgt (n page : Nat) (e : Pte) : (s.setPte n page e).mgt = s.mgt := rfl
@[simp] theorem State.setPte_tiles (n page : Nat) (e : Pte) : (s.setPte n page e).tiles = s.tiles := rfl
@[simp] theorem State.setPte_sram (n page : Nat) (e : Pte) : (s.setPte n page e).sram = s.sram := rfl
@[simp] theorem State.setPte_sramG (n page : Nat) (e : Pte) : (s.setPte n page e).sramG = s.sramG := rfl
@[simp] theorem State.setPte_slices (n page : Nat) (e : Pte) : (s.setPte n page e).slices = s.slices := rfl
@[simp] theorem State.setPte_sliceG (n page : Nat) (e : Pte) : (s.setPte n page e).sliceG = s.sliceG := rfl
@[simp] theorem State.setPte_flash (n page : Nat) (e : Pte) : (s.setPte n page e).flash = s.flash := rfl
@[simp] theorem State.setPte_runs (n page : Nat) (e : Pte) : (s.setPte n page e).runs = s.runs := rfl
@[simp] theorem State.setPte_ports (n page : Nat) (e : Pte) : (s.setPte n page e).ports = s.ports := rfl
@[simp] theorem State.setPte_tor (n page : Nat) (e : Pte) : (s.setPte n page e).tor = s.tor := rfl
@[simp] theorem State.setPte_routeSet (n page : Nat) (e : Pte) : (s.setPte n page e).routeSet = s.routeSet := rfl
@[simp] theorem State.setPte_routeWork (n page : Nat) (e : Pte) : (s.setPte n page e).routeWork = s.routeWork := rfl
@[simp] theorem State.setPte_proto (n page : Nat) (e : Pte) : (s.setPte n page e).proto = s.proto := rfl
@[simp] theorem State.setPte_snaps (n page : Nat) (e : Pte) : (s.setPte n page e).snaps = s.snaps := rfl
@[simp] theorem State.setPte_xfers (n page : Nat) (e : Pte) : (s.setPte n page e).xfers = s.xfers := rfl
@[simp] theorem State.setPte_pkts (n page : Nat) (e : Pte) : (s.setPte n page e).pkts = s.pkts := rfl
@[simp] theorem State.setPte_nextPkt (n page : Nat) (e : Pte) : (s.setPte n page e).nextPkt = s.nextPkt := rfl
@[simp] theorem State.setPte_shPages (n page : Nat) (e : Pte) : (s.setPte n page e).shPages = s.shPages := rfl
@[simp] theorem State.setPte_backing (n page : Nat) (e : Pte) : (s.setPte n page e).backing = s.backing := rfl
@[simp] theorem State.setPte_fetches (n page : Nat) (e : Pte) : (s.setPte n page e).fetches = s.fetches := rfl
@[simp] theorem State.setPte_passed (n page : Nat) (e : Pte) : (s.setPte n page e).passed = s.passed := rfl
@[simp] theorem State.setPte_readSeq (n page : Nat) (e : Pte) : (s.setPte n page e).readSeq = s.readSeq := rfl
@[simp] theorem State.setPte_pubs (n page : Nat) (e : Pte) : (s.setPte n page e).pubs = s.pubs := rfl
@[simp] theorem State.setPte_insts (n page : Nat) (e : Pte) : (s.setPte n page e).insts = s.insts := rfl
@[simp] theorem State.setPte_streamOps (n page : Nat) (e : Pte) : (s.setPte n page e).streamOps = s.streamOps := rfl
@[simp] theorem State.setPte_nextInst (n page : Nat) (e : Pte) : (s.setPte n page e).nextInst = s.nextInst := rfl
@[simp] theorem State.setPte_nextReq (n page : Nat) (e : Pte) : (s.setPte n page e).nextReq = s.nextReq := rfl
@[simp] theorem State.setPte_opProg (n page : Nat) (e : Pte) : (s.setPte n page e).opProg = s.opProg := rfl
@[simp] theorem State.setPte_out (n page : Nat) (e : Pte) : (s.setPte n page e).out = s.out := rfl
@[simp] theorem State.setPte_free (n page : Nat) (e : Pte) : (s.setPte n page e).free = s.free := rfl
@[simp] theorem State.setPte_pending (n page : Nat) (e : Pte) : (s.setPte n page e).pending = s.pending := rfl

@[simp] theorem State.setT_fixed (t : Nat) (x : TileSt) : (s.setT t x).fixed = s.fixed := rfl
@[simp] theorem State.setT_phase (t : Nat) (x : TileSt) : (s.setT t x).phase = s.phase := rfl
@[simp] theorem State.setT_scratch (t : Nat) (x : TileSt) : (s.setT t x).scratch = s.scratch := rfl
@[simp] theorem State.setT_rsShadow (t : Nat) (x : TileSt) : (s.setT t x).rsShadow = s.rsShadow := rfl
@[simp] theorem State.setT_links (t : Nat) (x : TileSt) : (s.setT t x).links = s.links := rfl
@[simp] theorem State.setT_rgn (t : Nat) (x : TileSt) : (s.setT t x).rgn = s.rgn := rfl
@[simp] theorem State.setT_part (t : Nat) (x : TileSt) : (s.setT t x).part = s.part := rfl
@[simp] theorem State.setT_sync (t : Nat) (x : TileSt) : (s.setT t x).sync = s.sync := rfl
@[simp] theorem State.setT_ops (t : Nat) (x : TileSt) : (s.setT t x).ops = s.ops := rfl
@[simp] theorem State.setT_nextOp (t : Nat) (x : TileSt) : (s.setT t x).nextOp = s.nextOp := rfl
@[simp] theorem State.setT_nextEnd (t : Nat) (x : TileSt) : (s.setT t x).nextEnd = s.nextEnd := rfl
@[simp] theorem State.setT_rrPart (t : Nat) (x : TileSt) : (s.setT t x).rrPart = s.rrPart := rfl
@[simp] theorem State.setT_cad (t : Nat) (x : TileSt) : (s.setT t x).cad = s.cad := rfl
@[simp] theorem State.setT_fw (t : Nat) (x : TileSt) : (s.setT t x).fw = s.fw := rfl
@[simp] theorem State.setT_sec (t : Nat) (x : TileSt) : (s.setT t x).sec = s.sec := rfl
@[simp] theorem State.setT_portOwner (t : Nat) (x : TileSt) : (s.setT t x).portOwner = s.portOwner := rfl
@[simp] theorem State.setT_pwr (t : Nat) (x : TileSt) : (s.setT t x).pwr = s.pwr := rfl
@[simp] theorem State.setT_bru (t : Nat) (x : TileSt) : (s.setT t x).bru = s.bru := rfl
@[simp] theorem State.setT_ras (t : Nat) (x : TileSt) : (s.setT t x).ras = s.ras := rfl
@[simp] theorem State.setT_mgt (t : Nat) (x : TileSt) : (s.setT t x).mgt = s.mgt := rfl
@[simp] theorem State.setT_sram (t : Nat) (x : TileSt) : (s.setT t x).sram = s.sram := rfl
@[simp] theorem State.setT_sramG (t : Nat) (x : TileSt) : (s.setT t x).sramG = s.sramG := rfl
@[simp] theorem State.setT_slices (t : Nat) (x : TileSt) : (s.setT t x).slices = s.slices := rfl
@[simp] theorem State.setT_sliceG (t : Nat) (x : TileSt) : (s.setT t x).sliceG = s.sliceG := rfl
@[simp] theorem State.setT_flash (t : Nat) (x : TileSt) : (s.setT t x).flash = s.flash := rfl
@[simp] theorem State.setT_runs (t : Nat) (x : TileSt) : (s.setT t x).runs = s.runs := rfl
@[simp] theorem State.setT_ports (t : Nat) (x : TileSt) : (s.setT t x).ports = s.ports := rfl
@[simp] theorem State.setT_tor (t : Nat) (x : TileSt) : (s.setT t x).tor = s.tor := rfl
@[simp] theorem State.setT_routeSet (t : Nat) (x : TileSt) : (s.setT t x).routeSet = s.routeSet := rfl
@[simp] theorem State.setT_routeWork (t : Nat) (x : TileSt) : (s.setT t x).routeWork = s.routeWork := rfl
@[simp] theorem State.setT_proto (t : Nat) (x : TileSt) : (s.setT t x).proto = s.proto := rfl
@[simp] theorem State.setT_snaps (t : Nat) (x : TileSt) : (s.setT t x).snaps = s.snaps := rfl
@[simp] theorem State.setT_xfers (t : Nat) (x : TileSt) : (s.setT t x).xfers = s.xfers := rfl
@[simp] theorem State.setT_pkts (t : Nat) (x : TileSt) : (s.setT t x).pkts = s.pkts := rfl
@[simp] theorem State.setT_nextPkt (t : Nat) (x : TileSt) : (s.setT t x).nextPkt = s.nextPkt := rfl
@[simp] theorem State.setT_shPages (t : Nat) (x : TileSt) : (s.setT t x).shPages = s.shPages := rfl
@[simp] theorem State.setT_backing (t : Nat) (x : TileSt) : (s.setT t x).backing = s.backing := rfl
@[simp] theorem State.setT_fetches (t : Nat) (x : TileSt) : (s.setT t x).fetches = s.fetches := rfl
@[simp] theorem State.setT_passed (t : Nat) (x : TileSt) : (s.setT t x).passed = s.passed := rfl
@[simp] theorem State.setT_readSeq (t : Nat) (x : TileSt) : (s.setT t x).readSeq = s.readSeq := rfl
@[simp] theorem State.setT_pubs (t : Nat) (x : TileSt) : (s.setT t x).pubs = s.pubs := rfl
@[simp] theorem State.setT_insts (t : Nat) (x : TileSt) : (s.setT t x).insts = s.insts := rfl
@[simp] theorem State.setT_streamOps (t : Nat) (x : TileSt) : (s.setT t x).streamOps = s.streamOps := rfl
@[simp] theorem State.setT_nextInst (t : Nat) (x : TileSt) : (s.setT t x).nextInst = s.nextInst := rfl
@[simp] theorem State.setT_nextReq (t : Nat) (x : TileSt) : (s.setT t x).nextReq = s.nextReq := rfl
@[simp] theorem State.setT_opProg (t : Nat) (x : TileSt) : (s.setT t x).opProg = s.opProg := rfl
@[simp] theorem State.setT_out (t : Nat) (x : TileSt) : (s.setT t x).out = s.out := rfl
@[simp] theorem State.setT_free (t : Nat) (x : TileSt) : (s.setT t x).free = s.free := rfl
@[simp] theorem State.setT_pending (t : Nat) (x : TileSt) : (s.setT t x).pending = s.pending := rfl

@[simp] theorem State.updT_fixed (t : Nat) (f : TileSt → TileSt) : (s.updT t f).fixed = s.fixed := rfl
@[simp] theorem State.updT_phase (t : Nat) (f : TileSt → TileSt) : (s.updT t f).phase = s.phase := rfl
@[simp] theorem State.updT_scratch (t : Nat) (f : TileSt → TileSt) : (s.updT t f).scratch = s.scratch := rfl
@[simp] theorem State.updT_rsShadow (t : Nat) (f : TileSt → TileSt) : (s.updT t f).rsShadow = s.rsShadow := rfl
@[simp] theorem State.updT_links (t : Nat) (f : TileSt → TileSt) : (s.updT t f).links = s.links := rfl
@[simp] theorem State.updT_rgn (t : Nat) (f : TileSt → TileSt) : (s.updT t f).rgn = s.rgn := rfl
@[simp] theorem State.updT_part (t : Nat) (f : TileSt → TileSt) : (s.updT t f).part = s.part := rfl
@[simp] theorem State.updT_sync (t : Nat) (f : TileSt → TileSt) : (s.updT t f).sync = s.sync := rfl
@[simp] theorem State.updT_ops (t : Nat) (f : TileSt → TileSt) : (s.updT t f).ops = s.ops := rfl
@[simp] theorem State.updT_nextOp (t : Nat) (f : TileSt → TileSt) : (s.updT t f).nextOp = s.nextOp := rfl
@[simp] theorem State.updT_nextEnd (t : Nat) (f : TileSt → TileSt) : (s.updT t f).nextEnd = s.nextEnd := rfl
@[simp] theorem State.updT_rrPart (t : Nat) (f : TileSt → TileSt) : (s.updT t f).rrPart = s.rrPart := rfl
@[simp] theorem State.updT_cad (t : Nat) (f : TileSt → TileSt) : (s.updT t f).cad = s.cad := rfl
@[simp] theorem State.updT_fw (t : Nat) (f : TileSt → TileSt) : (s.updT t f).fw = s.fw := rfl
@[simp] theorem State.updT_sec (t : Nat) (f : TileSt → TileSt) : (s.updT t f).sec = s.sec := rfl
@[simp] theorem State.updT_portOwner (t : Nat) (f : TileSt → TileSt) : (s.updT t f).portOwner = s.portOwner := rfl
@[simp] theorem State.updT_pwr (t : Nat) (f : TileSt → TileSt) : (s.updT t f).pwr = s.pwr := rfl
@[simp] theorem State.updT_bru (t : Nat) (f : TileSt → TileSt) : (s.updT t f).bru = s.bru := rfl
@[simp] theorem State.updT_ras (t : Nat) (f : TileSt → TileSt) : (s.updT t f).ras = s.ras := rfl
@[simp] theorem State.updT_mgt (t : Nat) (f : TileSt → TileSt) : (s.updT t f).mgt = s.mgt := rfl
@[simp] theorem State.updT_sram (t : Nat) (f : TileSt → TileSt) : (s.updT t f).sram = s.sram := rfl
@[simp] theorem State.updT_sramG (t : Nat) (f : TileSt → TileSt) : (s.updT t f).sramG = s.sramG := rfl
@[simp] theorem State.updT_slices (t : Nat) (f : TileSt → TileSt) : (s.updT t f).slices = s.slices := rfl
@[simp] theorem State.updT_sliceG (t : Nat) (f : TileSt → TileSt) : (s.updT t f).sliceG = s.sliceG := rfl
@[simp] theorem State.updT_flash (t : Nat) (f : TileSt → TileSt) : (s.updT t f).flash = s.flash := rfl
@[simp] theorem State.updT_runs (t : Nat) (f : TileSt → TileSt) : (s.updT t f).runs = s.runs := rfl
@[simp] theorem State.updT_ports (t : Nat) (f : TileSt → TileSt) : (s.updT t f).ports = s.ports := rfl
@[simp] theorem State.updT_tor (t : Nat) (f : TileSt → TileSt) : (s.updT t f).tor = s.tor := rfl
@[simp] theorem State.updT_routeSet (t : Nat) (f : TileSt → TileSt) : (s.updT t f).routeSet = s.routeSet := rfl
@[simp] theorem State.updT_routeWork (t : Nat) (f : TileSt → TileSt) : (s.updT t f).routeWork = s.routeWork := rfl
@[simp] theorem State.updT_proto (t : Nat) (f : TileSt → TileSt) : (s.updT t f).proto = s.proto := rfl
@[simp] theorem State.updT_snaps (t : Nat) (f : TileSt → TileSt) : (s.updT t f).snaps = s.snaps := rfl
@[simp] theorem State.updT_xfers (t : Nat) (f : TileSt → TileSt) : (s.updT t f).xfers = s.xfers := rfl
@[simp] theorem State.updT_pkts (t : Nat) (f : TileSt → TileSt) : (s.updT t f).pkts = s.pkts := rfl
@[simp] theorem State.updT_nextPkt (t : Nat) (f : TileSt → TileSt) : (s.updT t f).nextPkt = s.nextPkt := rfl
@[simp] theorem State.updT_shPages (t : Nat) (f : TileSt → TileSt) : (s.updT t f).shPages = s.shPages := rfl
@[simp] theorem State.updT_backing (t : Nat) (f : TileSt → TileSt) : (s.updT t f).backing = s.backing := rfl
@[simp] theorem State.updT_fetches (t : Nat) (f : TileSt → TileSt) : (s.updT t f).fetches = s.fetches := rfl
@[simp] theorem State.updT_passed (t : Nat) (f : TileSt → TileSt) : (s.updT t f).passed = s.passed := rfl
@[simp] theorem State.updT_readSeq (t : Nat) (f : TileSt → TileSt) : (s.updT t f).readSeq = s.readSeq := rfl
@[simp] theorem State.updT_pubs (t : Nat) (f : TileSt → TileSt) : (s.updT t f).pubs = s.pubs := rfl
@[simp] theorem State.updT_insts (t : Nat) (f : TileSt → TileSt) : (s.updT t f).insts = s.insts := rfl
@[simp] theorem State.updT_streamOps (t : Nat) (f : TileSt → TileSt) : (s.updT t f).streamOps = s.streamOps := rfl
@[simp] theorem State.updT_nextInst (t : Nat) (f : TileSt → TileSt) : (s.updT t f).nextInst = s.nextInst := rfl
@[simp] theorem State.updT_nextReq (t : Nat) (f : TileSt → TileSt) : (s.updT t f).nextReq = s.nextReq := rfl
@[simp] theorem State.updT_opProg (t : Nat) (f : TileSt → TileSt) : (s.updT t f).opProg = s.opProg := rfl
@[simp] theorem State.updT_out (t : Nat) (f : TileSt → TileSt) : (s.updT t f).out = s.out := rfl
@[simp] theorem State.updT_free (t : Nat) (f : TileSt → TileSt) : (s.updT t f).free = s.free := rfl
@[simp] theorem State.updT_pending (t : Nat) (f : TileSt → TileSt) : (s.updT t f).pending = s.pending := rfl

@[simp] theorem State.setGst_fixed (t g : Nat) (v : GState) : (s.setGst t g v).fixed = s.fixed := rfl
@[simp] theorem State.setGst_phase (t g : Nat) (v : GState) : (s.setGst t g v).phase = s.phase := rfl
@[simp] theorem State.setGst_scratch (t g : Nat) (v : GState) : (s.setGst t g v).scratch = s.scratch := rfl
@[simp] theorem State.setGst_rsShadow (t g : Nat) (v : GState) : (s.setGst t g v).rsShadow = s.rsShadow := rfl
@[simp] theorem State.setGst_links (t g : Nat) (v : GState) : (s.setGst t g v).links = s.links := rfl
@[simp] theorem State.setGst_rgn (t g : Nat) (v : GState) : (s.setGst t g v).rgn = s.rgn := rfl
@[simp] theorem State.setGst_part (t g : Nat) (v : GState) : (s.setGst t g v).part = s.part := rfl
@[simp] theorem State.setGst_sync (t g : Nat) (v : GState) : (s.setGst t g v).sync = s.sync := rfl
@[simp] theorem State.setGst_ops (t g : Nat) (v : GState) : (s.setGst t g v).ops = s.ops := rfl
@[simp] theorem State.setGst_nextOp (t g : Nat) (v : GState) : (s.setGst t g v).nextOp = s.nextOp := rfl
@[simp] theorem State.setGst_nextEnd (t g : Nat) (v : GState) : (s.setGst t g v).nextEnd = s.nextEnd := rfl
@[simp] theorem State.setGst_rrPart (t g : Nat) (v : GState) : (s.setGst t g v).rrPart = s.rrPart := rfl
@[simp] theorem State.setGst_cad (t g : Nat) (v : GState) : (s.setGst t g v).cad = s.cad := rfl
@[simp] theorem State.setGst_fw (t g : Nat) (v : GState) : (s.setGst t g v).fw = s.fw := rfl
@[simp] theorem State.setGst_sec (t g : Nat) (v : GState) : (s.setGst t g v).sec = s.sec := rfl
@[simp] theorem State.setGst_portOwner (t g : Nat) (v : GState) : (s.setGst t g v).portOwner = s.portOwner := rfl
@[simp] theorem State.setGst_pwr (t g : Nat) (v : GState) : (s.setGst t g v).pwr = s.pwr := rfl
@[simp] theorem State.setGst_bru (t g : Nat) (v : GState) : (s.setGst t g v).bru = s.bru := rfl
@[simp] theorem State.setGst_ras (t g : Nat) (v : GState) : (s.setGst t g v).ras = s.ras := rfl
@[simp] theorem State.setGst_mgt (t g : Nat) (v : GState) : (s.setGst t g v).mgt = s.mgt := rfl
@[simp] theorem State.setGst_tiles (t g : Nat) (v : GState) : (s.setGst t g v).tiles = s.tiles := rfl
@[simp] theorem State.setGst_sram (t g : Nat) (v : GState) : (s.setGst t g v).sram = s.sram := rfl
@[simp] theorem State.setGst_slices (t g : Nat) (v : GState) : (s.setGst t g v).slices = s.slices := rfl
@[simp] theorem State.setGst_sliceG (t g : Nat) (v : GState) : (s.setGst t g v).sliceG = s.sliceG := rfl
@[simp] theorem State.setGst_flash (t g : Nat) (v : GState) : (s.setGst t g v).flash = s.flash := rfl
@[simp] theorem State.setGst_runs (t g : Nat) (v : GState) : (s.setGst t g v).runs = s.runs := rfl
@[simp] theorem State.setGst_ports (t g : Nat) (v : GState) : (s.setGst t g v).ports = s.ports := rfl
@[simp] theorem State.setGst_tor (t g : Nat) (v : GState) : (s.setGst t g v).tor = s.tor := rfl
@[simp] theorem State.setGst_routeSet (t g : Nat) (v : GState) : (s.setGst t g v).routeSet = s.routeSet := rfl
@[simp] theorem State.setGst_routeWork (t g : Nat) (v : GState) : (s.setGst t g v).routeWork = s.routeWork := rfl
@[simp] theorem State.setGst_proto (t g : Nat) (v : GState) : (s.setGst t g v).proto = s.proto := rfl
@[simp] theorem State.setGst_snaps (t g : Nat) (v : GState) : (s.setGst t g v).snaps = s.snaps := rfl
@[simp] theorem State.setGst_xfers (t g : Nat) (v : GState) : (s.setGst t g v).xfers = s.xfers := rfl
@[simp] theorem State.setGst_pkts (t g : Nat) (v : GState) : (s.setGst t g v).pkts = s.pkts := rfl
@[simp] theorem State.setGst_nextPkt (t g : Nat) (v : GState) : (s.setGst t g v).nextPkt = s.nextPkt := rfl
@[simp] theorem State.setGst_shPages (t g : Nat) (v : GState) : (s.setGst t g v).shPages = s.shPages := rfl
@[simp] theorem State.setGst_backing (t g : Nat) (v : GState) : (s.setGst t g v).backing = s.backing := rfl
@[simp] theorem State.setGst_fetches (t g : Nat) (v : GState) : (s.setGst t g v).fetches = s.fetches := rfl
@[simp] theorem State.setGst_passed (t g : Nat) (v : GState) : (s.setGst t g v).passed = s.passed := rfl
@[simp] theorem State.setGst_readSeq (t g : Nat) (v : GState) : (s.setGst t g v).readSeq = s.readSeq := rfl
@[simp] theorem State.setGst_pubs (t g : Nat) (v : GState) : (s.setGst t g v).pubs = s.pubs := rfl
@[simp] theorem State.setGst_insts (t g : Nat) (v : GState) : (s.setGst t g v).insts = s.insts := rfl
@[simp] theorem State.setGst_streamOps (t g : Nat) (v : GState) : (s.setGst t g v).streamOps = s.streamOps := rfl
@[simp] theorem State.setGst_nextInst (t g : Nat) (v : GState) : (s.setGst t g v).nextInst = s.nextInst := rfl
@[simp] theorem State.setGst_nextReq (t g : Nat) (v : GState) : (s.setGst t g v).nextReq = s.nextReq := rfl
@[simp] theorem State.setGst_opProg (t g : Nat) (v : GState) : (s.setGst t g v).opProg = s.opProg := rfl
@[simp] theorem State.setGst_out (t g : Nat) (v : GState) : (s.setGst t g v).out = s.out := rfl
@[simp] theorem State.setGst_free (t g : Nat) (v : GState) : (s.setGst t g v).free = s.free := rfl
@[simp] theorem State.setGst_pending (t g : Nat) (v : GState) : (s.setGst t g v).pending = s.pending := rfl

@[simp] theorem State.setSgst_fixed (t g : Nat) (v : GState) : (s.setSgst t g v).fixed = s.fixed := rfl
@[simp] theorem State.setSgst_phase (t g : Nat) (v : GState) : (s.setSgst t g v).phase = s.phase := rfl
@[simp] theorem State.setSgst_scratch (t g : Nat) (v : GState) : (s.setSgst t g v).scratch = s.scratch := rfl
@[simp] theorem State.setSgst_rsShadow (t g : Nat) (v : GState) : (s.setSgst t g v).rsShadow = s.rsShadow := rfl
@[simp] theorem State.setSgst_links (t g : Nat) (v : GState) : (s.setSgst t g v).links = s.links := rfl
@[simp] theorem State.setSgst_rgn (t g : Nat) (v : GState) : (s.setSgst t g v).rgn = s.rgn := rfl
@[simp] theorem State.setSgst_part (t g : Nat) (v : GState) : (s.setSgst t g v).part = s.part := rfl
@[simp] theorem State.setSgst_sync (t g : Nat) (v : GState) : (s.setSgst t g v).sync = s.sync := rfl
@[simp] theorem State.setSgst_ops (t g : Nat) (v : GState) : (s.setSgst t g v).ops = s.ops := rfl
@[simp] theorem State.setSgst_nextOp (t g : Nat) (v : GState) : (s.setSgst t g v).nextOp = s.nextOp := rfl
@[simp] theorem State.setSgst_nextEnd (t g : Nat) (v : GState) : (s.setSgst t g v).nextEnd = s.nextEnd := rfl
@[simp] theorem State.setSgst_rrPart (t g : Nat) (v : GState) : (s.setSgst t g v).rrPart = s.rrPart := rfl
@[simp] theorem State.setSgst_cad (t g : Nat) (v : GState) : (s.setSgst t g v).cad = s.cad := rfl
@[simp] theorem State.setSgst_fw (t g : Nat) (v : GState) : (s.setSgst t g v).fw = s.fw := rfl
@[simp] theorem State.setSgst_sec (t g : Nat) (v : GState) : (s.setSgst t g v).sec = s.sec := rfl
@[simp] theorem State.setSgst_portOwner (t g : Nat) (v : GState) : (s.setSgst t g v).portOwner = s.portOwner := rfl
@[simp] theorem State.setSgst_pwr (t g : Nat) (v : GState) : (s.setSgst t g v).pwr = s.pwr := rfl
@[simp] theorem State.setSgst_bru (t g : Nat) (v : GState) : (s.setSgst t g v).bru = s.bru := rfl
@[simp] theorem State.setSgst_ras (t g : Nat) (v : GState) : (s.setSgst t g v).ras = s.ras := rfl
@[simp] theorem State.setSgst_mgt (t g : Nat) (v : GState) : (s.setSgst t g v).mgt = s.mgt := rfl
@[simp] theorem State.setSgst_tiles (t g : Nat) (v : GState) : (s.setSgst t g v).tiles = s.tiles := rfl
@[simp] theorem State.setSgst_sram (t g : Nat) (v : GState) : (s.setSgst t g v).sram = s.sram := rfl
@[simp] theorem State.setSgst_sramG (t g : Nat) (v : GState) : (s.setSgst t g v).sramG = s.sramG := rfl
@[simp] theorem State.setSgst_slices (t g : Nat) (v : GState) : (s.setSgst t g v).slices = s.slices := rfl
@[simp] theorem State.setSgst_flash (t g : Nat) (v : GState) : (s.setSgst t g v).flash = s.flash := rfl
@[simp] theorem State.setSgst_runs (t g : Nat) (v : GState) : (s.setSgst t g v).runs = s.runs := rfl
@[simp] theorem State.setSgst_ports (t g : Nat) (v : GState) : (s.setSgst t g v).ports = s.ports := rfl
@[simp] theorem State.setSgst_tor (t g : Nat) (v : GState) : (s.setSgst t g v).tor = s.tor := rfl
@[simp] theorem State.setSgst_routeSet (t g : Nat) (v : GState) : (s.setSgst t g v).routeSet = s.routeSet := rfl
@[simp] theorem State.setSgst_routeWork (t g : Nat) (v : GState) : (s.setSgst t g v).routeWork = s.routeWork := rfl
@[simp] theorem State.setSgst_proto (t g : Nat) (v : GState) : (s.setSgst t g v).proto = s.proto := rfl
@[simp] theorem State.setSgst_snaps (t g : Nat) (v : GState) : (s.setSgst t g v).snaps = s.snaps := rfl
@[simp] theorem State.setSgst_xfers (t g : Nat) (v : GState) : (s.setSgst t g v).xfers = s.xfers := rfl
@[simp] theorem State.setSgst_pkts (t g : Nat) (v : GState) : (s.setSgst t g v).pkts = s.pkts := rfl
@[simp] theorem State.setSgst_nextPkt (t g : Nat) (v : GState) : (s.setSgst t g v).nextPkt = s.nextPkt := rfl
@[simp] theorem State.setSgst_shPages (t g : Nat) (v : GState) : (s.setSgst t g v).shPages = s.shPages := rfl
@[simp] theorem State.setSgst_backing (t g : Nat) (v : GState) : (s.setSgst t g v).backing = s.backing := rfl
@[simp] theorem State.setSgst_fetches (t g : Nat) (v : GState) : (s.setSgst t g v).fetches = s.fetches := rfl
@[simp] theorem State.setSgst_passed (t g : Nat) (v : GState) : (s.setSgst t g v).passed = s.passed := rfl
@[simp] theorem State.setSgst_readSeq (t g : Nat) (v : GState) : (s.setSgst t g v).readSeq = s.readSeq := rfl
@[simp] theorem State.setSgst_pubs (t g : Nat) (v : GState) : (s.setSgst t g v).pubs = s.pubs := rfl
@[simp] theorem State.setSgst_insts (t g : Nat) (v : GState) : (s.setSgst t g v).insts = s.insts := rfl
@[simp] theorem State.setSgst_streamOps (t g : Nat) (v : GState) : (s.setSgst t g v).streamOps = s.streamOps := rfl
@[simp] theorem State.setSgst_nextInst (t g : Nat) (v : GState) : (s.setSgst t g v).nextInst = s.nextInst := rfl
@[simp] theorem State.setSgst_nextReq (t g : Nat) (v : GState) : (s.setSgst t g v).nextReq = s.nextReq := rfl
@[simp] theorem State.setSgst_opProg (t g : Nat) (v : GState) : (s.setSgst t g v).opProg = s.opProg := rfl
@[simp] theorem State.setSgst_out (t g : Nat) (v : GState) : (s.setSgst t g v).out = s.out := rfl
@[simp] theorem State.setSgst_free (t g : Nat) (v : GState) : (s.setSgst t g v).free = s.free := rfl
@[simp] theorem State.setSgst_pending (t g : Nat) (v : GState) : (s.setSgst t g v).pending = s.pending := rfl

@[simp] theorem State.updFab_fixed (r : Nat) (f : RegionFabric → RegionFabric) : (s.updFab r f).fixed = s.fixed := rfl
@[simp] theorem State.updFab_phase (r : Nat) (f : RegionFabric → RegionFabric) : (s.updFab r f).phase = s.phase := rfl
@[simp] theorem State.updFab_scratch (r : Nat) (f : RegionFabric → RegionFabric) : (s.updFab r f).scratch = s.scratch := rfl
@[simp] theorem State.updFab_rsShadow (r : Nat) (f : RegionFabric → RegionFabric) : (s.updFab r f).rsShadow = s.rsShadow := rfl
@[simp] theorem State.updFab_links (r : Nat) (f : RegionFabric → RegionFabric) : (s.updFab r f).links = s.links := rfl
@[simp] theorem State.updFab_part (r : Nat) (f : RegionFabric → RegionFabric) : (s.updFab r f).part = s.part := rfl
@[simp] theorem State.updFab_sync (r : Nat) (f : RegionFabric → RegionFabric) : (s.updFab r f).sync = s.sync := rfl
@[simp] theorem State.updFab_ops (r : Nat) (f : RegionFabric → RegionFabric) : (s.updFab r f).ops = s.ops := rfl
@[simp] theorem State.updFab_nextOp (r : Nat) (f : RegionFabric → RegionFabric) : (s.updFab r f).nextOp = s.nextOp := rfl
@[simp] theorem State.updFab_nextEnd (r : Nat) (f : RegionFabric → RegionFabric) : (s.updFab r f).nextEnd = s.nextEnd := rfl
@[simp] theorem State.updFab_rrPart (r : Nat) (f : RegionFabric → RegionFabric) : (s.updFab r f).rrPart = s.rrPart := rfl
@[simp] theorem State.updFab_cad (r : Nat) (f : RegionFabric → RegionFabric) : (s.updFab r f).cad = s.cad := rfl
@[simp] theorem State.updFab_fw (r : Nat) (f : RegionFabric → RegionFabric) : (s.updFab r f).fw = s.fw := rfl
@[simp] theorem State.updFab_sec (r : Nat) (f : RegionFabric → RegionFabric) : (s.updFab r f).sec = s.sec := rfl
@[simp] theorem State.updFab_portOwner (r : Nat) (f : RegionFabric → RegionFabric) : (s.updFab r f).portOwner = s.portOwner := rfl
@[simp] theorem State.updFab_pwr (r : Nat) (f : RegionFabric → RegionFabric) : (s.updFab r f).pwr = s.pwr := rfl
@[simp] theorem State.updFab_bru (r : Nat) (f : RegionFabric → RegionFabric) : (s.updFab r f).bru = s.bru := rfl
@[simp] theorem State.updFab_ras (r : Nat) (f : RegionFabric → RegionFabric) : (s.updFab r f).ras = s.ras := rfl
@[simp] theorem State.updFab_mgt (r : Nat) (f : RegionFabric → RegionFabric) : (s.updFab r f).mgt = s.mgt := rfl
@[simp] theorem State.updFab_tiles (r : Nat) (f : RegionFabric → RegionFabric) : (s.updFab r f).tiles = s.tiles := rfl
@[simp] theorem State.updFab_sram (r : Nat) (f : RegionFabric → RegionFabric) : (s.updFab r f).sram = s.sram := rfl
@[simp] theorem State.updFab_sramG (r : Nat) (f : RegionFabric → RegionFabric) : (s.updFab r f).sramG = s.sramG := rfl
@[simp] theorem State.updFab_slices (r : Nat) (f : RegionFabric → RegionFabric) : (s.updFab r f).slices = s.slices := rfl
@[simp] theorem State.updFab_sliceG (r : Nat) (f : RegionFabric → RegionFabric) : (s.updFab r f).sliceG = s.sliceG := rfl
@[simp] theorem State.updFab_flash (r : Nat) (f : RegionFabric → RegionFabric) : (s.updFab r f).flash = s.flash := rfl
@[simp] theorem State.updFab_runs (r : Nat) (f : RegionFabric → RegionFabric) : (s.updFab r f).runs = s.runs := rfl
@[simp] theorem State.updFab_ports (r : Nat) (f : RegionFabric → RegionFabric) : (s.updFab r f).ports = s.ports := rfl
@[simp] theorem State.updFab_tor (r : Nat) (f : RegionFabric → RegionFabric) : (s.updFab r f).tor = s.tor := rfl
@[simp] theorem State.updFab_routeSet (r : Nat) (f : RegionFabric → RegionFabric) : (s.updFab r f).routeSet = s.routeSet := rfl
@[simp] theorem State.updFab_routeWork (r : Nat) (f : RegionFabric → RegionFabric) : (s.updFab r f).routeWork = s.routeWork := rfl
@[simp] theorem State.updFab_proto (r : Nat) (f : RegionFabric → RegionFabric) : (s.updFab r f).proto = s.proto := rfl
@[simp] theorem State.updFab_snaps (r : Nat) (f : RegionFabric → RegionFabric) : (s.updFab r f).snaps = s.snaps := rfl
@[simp] theorem State.updFab_xfers (r : Nat) (f : RegionFabric → RegionFabric) : (s.updFab r f).xfers = s.xfers := rfl
@[simp] theorem State.updFab_pkts (r : Nat) (f : RegionFabric → RegionFabric) : (s.updFab r f).pkts = s.pkts := rfl
@[simp] theorem State.updFab_nextPkt (r : Nat) (f : RegionFabric → RegionFabric) : (s.updFab r f).nextPkt = s.nextPkt := rfl
@[simp] theorem State.updFab_shPages (r : Nat) (f : RegionFabric → RegionFabric) : (s.updFab r f).shPages = s.shPages := rfl
@[simp] theorem State.updFab_backing (r : Nat) (f : RegionFabric → RegionFabric) : (s.updFab r f).backing = s.backing := rfl
@[simp] theorem State.updFab_fetches (r : Nat) (f : RegionFabric → RegionFabric) : (s.updFab r f).fetches = s.fetches := rfl
@[simp] theorem State.updFab_passed (r : Nat) (f : RegionFabric → RegionFabric) : (s.updFab r f).passed = s.passed := rfl
@[simp] theorem State.updFab_readSeq (r : Nat) (f : RegionFabric → RegionFabric) : (s.updFab r f).readSeq = s.readSeq := rfl
@[simp] theorem State.updFab_pubs (r : Nat) (f : RegionFabric → RegionFabric) : (s.updFab r f).pubs = s.pubs := rfl
@[simp] theorem State.updFab_insts (r : Nat) (f : RegionFabric → RegionFabric) : (s.updFab r f).insts = s.insts := rfl
@[simp] theorem State.updFab_streamOps (r : Nat) (f : RegionFabric → RegionFabric) : (s.updFab r f).streamOps = s.streamOps := rfl
@[simp] theorem State.updFab_nextInst (r : Nat) (f : RegionFabric → RegionFabric) : (s.updFab r f).nextInst = s.nextInst := rfl
@[simp] theorem State.updFab_nextReq (r : Nat) (f : RegionFabric → RegionFabric) : (s.updFab r f).nextReq = s.nextReq := rfl
@[simp] theorem State.updFab_opProg (r : Nat) (f : RegionFabric → RegionFabric) : (s.updFab r f).opProg = s.opProg := rfl
@[simp] theorem State.updFab_out (r : Nat) (f : RegionFabric → RegionFabric) : (s.updFab r f).out = s.out := rfl
@[simp] theorem State.updFab_free (r : Nat) (f : RegionFabric → RegionFabric) : (s.updFab r f).free = s.free := rfl
@[simp] theorem State.updFab_pending (r : Nat) (f : RegionFabric → RegionFabric) : (s.updFab r f).pending = s.pending := rfl

@[simp] theorem State.updXfer_fixed (i : Nat) (f : Xfer → Xfer) : (s.updXfer i f).fixed = s.fixed := rfl
@[simp] theorem State.updXfer_phase (i : Nat) (f : Xfer → Xfer) : (s.updXfer i f).phase = s.phase := rfl
@[simp] theorem State.updXfer_scratch (i : Nat) (f : Xfer → Xfer) : (s.updXfer i f).scratch = s.scratch := rfl
@[simp] theorem State.updXfer_rsShadow (i : Nat) (f : Xfer → Xfer) : (s.updXfer i f).rsShadow = s.rsShadow := rfl
@[simp] theorem State.updXfer_links (i : Nat) (f : Xfer → Xfer) : (s.updXfer i f).links = s.links := rfl
@[simp] theorem State.updXfer_rgn (i : Nat) (f : Xfer → Xfer) : (s.updXfer i f).rgn = s.rgn := rfl
@[simp] theorem State.updXfer_part (i : Nat) (f : Xfer → Xfer) : (s.updXfer i f).part = s.part := rfl
@[simp] theorem State.updXfer_sync (i : Nat) (f : Xfer → Xfer) : (s.updXfer i f).sync = s.sync := rfl
@[simp] theorem State.updXfer_ops (i : Nat) (f : Xfer → Xfer) : (s.updXfer i f).ops = s.ops := rfl
@[simp] theorem State.updXfer_nextOp (i : Nat) (f : Xfer → Xfer) : (s.updXfer i f).nextOp = s.nextOp := rfl
@[simp] theorem State.updXfer_nextEnd (i : Nat) (f : Xfer → Xfer) : (s.updXfer i f).nextEnd = s.nextEnd := rfl
@[simp] theorem State.updXfer_rrPart (i : Nat) (f : Xfer → Xfer) : (s.updXfer i f).rrPart = s.rrPart := rfl
@[simp] theorem State.updXfer_cad (i : Nat) (f : Xfer → Xfer) : (s.updXfer i f).cad = s.cad := rfl
@[simp] theorem State.updXfer_fw (i : Nat) (f : Xfer → Xfer) : (s.updXfer i f).fw = s.fw := rfl
@[simp] theorem State.updXfer_sec (i : Nat) (f : Xfer → Xfer) : (s.updXfer i f).sec = s.sec := rfl
@[simp] theorem State.updXfer_portOwner (i : Nat) (f : Xfer → Xfer) : (s.updXfer i f).portOwner = s.portOwner := rfl
@[simp] theorem State.updXfer_pwr (i : Nat) (f : Xfer → Xfer) : (s.updXfer i f).pwr = s.pwr := rfl
@[simp] theorem State.updXfer_bru (i : Nat) (f : Xfer → Xfer) : (s.updXfer i f).bru = s.bru := rfl
@[simp] theorem State.updXfer_ras (i : Nat) (f : Xfer → Xfer) : (s.updXfer i f).ras = s.ras := rfl
@[simp] theorem State.updXfer_mgt (i : Nat) (f : Xfer → Xfer) : (s.updXfer i f).mgt = s.mgt := rfl
@[simp] theorem State.updXfer_tiles (i : Nat) (f : Xfer → Xfer) : (s.updXfer i f).tiles = s.tiles := rfl
@[simp] theorem State.updXfer_sram (i : Nat) (f : Xfer → Xfer) : (s.updXfer i f).sram = s.sram := rfl
@[simp] theorem State.updXfer_sramG (i : Nat) (f : Xfer → Xfer) : (s.updXfer i f).sramG = s.sramG := rfl
@[simp] theorem State.updXfer_slices (i : Nat) (f : Xfer → Xfer) : (s.updXfer i f).slices = s.slices := rfl
@[simp] theorem State.updXfer_sliceG (i : Nat) (f : Xfer → Xfer) : (s.updXfer i f).sliceG = s.sliceG := rfl
@[simp] theorem State.updXfer_flash (i : Nat) (f : Xfer → Xfer) : (s.updXfer i f).flash = s.flash := rfl
@[simp] theorem State.updXfer_runs (i : Nat) (f : Xfer → Xfer) : (s.updXfer i f).runs = s.runs := rfl
@[simp] theorem State.updXfer_ports (i : Nat) (f : Xfer → Xfer) : (s.updXfer i f).ports = s.ports := rfl
@[simp] theorem State.updXfer_tor (i : Nat) (f : Xfer → Xfer) : (s.updXfer i f).tor = s.tor := rfl
@[simp] theorem State.updXfer_routeSet (i : Nat) (f : Xfer → Xfer) : (s.updXfer i f).routeSet = s.routeSet := rfl
@[simp] theorem State.updXfer_routeWork (i : Nat) (f : Xfer → Xfer) : (s.updXfer i f).routeWork = s.routeWork := rfl
@[simp] theorem State.updXfer_proto (i : Nat) (f : Xfer → Xfer) : (s.updXfer i f).proto = s.proto := rfl
@[simp] theorem State.updXfer_snaps (i : Nat) (f : Xfer → Xfer) : (s.updXfer i f).snaps = s.snaps := rfl
@[simp] theorem State.updXfer_pkts (i : Nat) (f : Xfer → Xfer) : (s.updXfer i f).pkts = s.pkts := rfl
@[simp] theorem State.updXfer_nextPkt (i : Nat) (f : Xfer → Xfer) : (s.updXfer i f).nextPkt = s.nextPkt := rfl
@[simp] theorem State.updXfer_shPages (i : Nat) (f : Xfer → Xfer) : (s.updXfer i f).shPages = s.shPages := rfl
@[simp] theorem State.updXfer_backing (i : Nat) (f : Xfer → Xfer) : (s.updXfer i f).backing = s.backing := rfl
@[simp] theorem State.updXfer_fetches (i : Nat) (f : Xfer → Xfer) : (s.updXfer i f).fetches = s.fetches := rfl
@[simp] theorem State.updXfer_passed (i : Nat) (f : Xfer → Xfer) : (s.updXfer i f).passed = s.passed := rfl
@[simp] theorem State.updXfer_readSeq (i : Nat) (f : Xfer → Xfer) : (s.updXfer i f).readSeq = s.readSeq := rfl
@[simp] theorem State.updXfer_pubs (i : Nat) (f : Xfer → Xfer) : (s.updXfer i f).pubs = s.pubs := rfl
@[simp] theorem State.updXfer_insts (i : Nat) (f : Xfer → Xfer) : (s.updXfer i f).insts = s.insts := rfl
@[simp] theorem State.updXfer_streamOps (i : Nat) (f : Xfer → Xfer) : (s.updXfer i f).streamOps = s.streamOps := rfl
@[simp] theorem State.updXfer_nextInst (i : Nat) (f : Xfer → Xfer) : (s.updXfer i f).nextInst = s.nextInst := rfl
@[simp] theorem State.updXfer_nextReq (i : Nat) (f : Xfer → Xfer) : (s.updXfer i f).nextReq = s.nextReq := rfl
@[simp] theorem State.updXfer_opProg (i : Nat) (f : Xfer → Xfer) : (s.updXfer i f).opProg = s.opProg := rfl
@[simp] theorem State.updXfer_out (i : Nat) (f : Xfer → Xfer) : (s.updXfer i f).out = s.out := rfl
@[simp] theorem State.updXfer_free (i : Nat) (f : Xfer → Xfer) : (s.updXfer i f).free = s.free := rfl
@[simp] theorem State.updXfer_pending (i : Nat) (f : Xfer → Xfer) : (s.updXfer i f).pending = s.pending := rfl

@[simp] theorem State.updPkt_fixed (i : Nat) (f : Pkt → Pkt) : (s.updPkt i f).fixed = s.fixed := rfl
@[simp] theorem State.updPkt_phase (i : Nat) (f : Pkt → Pkt) : (s.updPkt i f).phase = s.phase := rfl
@[simp] theorem State.updPkt_scratch (i : Nat) (f : Pkt → Pkt) : (s.updPkt i f).scratch = s.scratch := rfl
@[simp] theorem State.updPkt_rsShadow (i : Nat) (f : Pkt → Pkt) : (s.updPkt i f).rsShadow = s.rsShadow := rfl
@[simp] theorem State.updPkt_links (i : Nat) (f : Pkt → Pkt) : (s.updPkt i f).links = s.links := rfl
@[simp] theorem State.updPkt_rgn (i : Nat) (f : Pkt → Pkt) : (s.updPkt i f).rgn = s.rgn := rfl
@[simp] theorem State.updPkt_part (i : Nat) (f : Pkt → Pkt) : (s.updPkt i f).part = s.part := rfl
@[simp] theorem State.updPkt_sync (i : Nat) (f : Pkt → Pkt) : (s.updPkt i f).sync = s.sync := rfl
@[simp] theorem State.updPkt_ops (i : Nat) (f : Pkt → Pkt) : (s.updPkt i f).ops = s.ops := rfl
@[simp] theorem State.updPkt_nextOp (i : Nat) (f : Pkt → Pkt) : (s.updPkt i f).nextOp = s.nextOp := rfl
@[simp] theorem State.updPkt_nextEnd (i : Nat) (f : Pkt → Pkt) : (s.updPkt i f).nextEnd = s.nextEnd := rfl
@[simp] theorem State.updPkt_rrPart (i : Nat) (f : Pkt → Pkt) : (s.updPkt i f).rrPart = s.rrPart := rfl
@[simp] theorem State.updPkt_cad (i : Nat) (f : Pkt → Pkt) : (s.updPkt i f).cad = s.cad := rfl
@[simp] theorem State.updPkt_fw (i : Nat) (f : Pkt → Pkt) : (s.updPkt i f).fw = s.fw := rfl
@[simp] theorem State.updPkt_sec (i : Nat) (f : Pkt → Pkt) : (s.updPkt i f).sec = s.sec := rfl
@[simp] theorem State.updPkt_portOwner (i : Nat) (f : Pkt → Pkt) : (s.updPkt i f).portOwner = s.portOwner := rfl
@[simp] theorem State.updPkt_pwr (i : Nat) (f : Pkt → Pkt) : (s.updPkt i f).pwr = s.pwr := rfl
@[simp] theorem State.updPkt_bru (i : Nat) (f : Pkt → Pkt) : (s.updPkt i f).bru = s.bru := rfl
@[simp] theorem State.updPkt_ras (i : Nat) (f : Pkt → Pkt) : (s.updPkt i f).ras = s.ras := rfl
@[simp] theorem State.updPkt_mgt (i : Nat) (f : Pkt → Pkt) : (s.updPkt i f).mgt = s.mgt := rfl
@[simp] theorem State.updPkt_tiles (i : Nat) (f : Pkt → Pkt) : (s.updPkt i f).tiles = s.tiles := rfl
@[simp] theorem State.updPkt_sram (i : Nat) (f : Pkt → Pkt) : (s.updPkt i f).sram = s.sram := rfl
@[simp] theorem State.updPkt_sramG (i : Nat) (f : Pkt → Pkt) : (s.updPkt i f).sramG = s.sramG := rfl
@[simp] theorem State.updPkt_slices (i : Nat) (f : Pkt → Pkt) : (s.updPkt i f).slices = s.slices := rfl
@[simp] theorem State.updPkt_sliceG (i : Nat) (f : Pkt → Pkt) : (s.updPkt i f).sliceG = s.sliceG := rfl
@[simp] theorem State.updPkt_flash (i : Nat) (f : Pkt → Pkt) : (s.updPkt i f).flash = s.flash := rfl
@[simp] theorem State.updPkt_runs (i : Nat) (f : Pkt → Pkt) : (s.updPkt i f).runs = s.runs := rfl
@[simp] theorem State.updPkt_ports (i : Nat) (f : Pkt → Pkt) : (s.updPkt i f).ports = s.ports := rfl
@[simp] theorem State.updPkt_tor (i : Nat) (f : Pkt → Pkt) : (s.updPkt i f).tor = s.tor := rfl
@[simp] theorem State.updPkt_routeSet (i : Nat) (f : Pkt → Pkt) : (s.updPkt i f).routeSet = s.routeSet := rfl
@[simp] theorem State.updPkt_routeWork (i : Nat) (f : Pkt → Pkt) : (s.updPkt i f).routeWork = s.routeWork := rfl
@[simp] theorem State.updPkt_proto (i : Nat) (f : Pkt → Pkt) : (s.updPkt i f).proto = s.proto := rfl
@[simp] theorem State.updPkt_snaps (i : Nat) (f : Pkt → Pkt) : (s.updPkt i f).snaps = s.snaps := rfl
@[simp] theorem State.updPkt_xfers (i : Nat) (f : Pkt → Pkt) : (s.updPkt i f).xfers = s.xfers := rfl
@[simp] theorem State.updPkt_nextPkt (i : Nat) (f : Pkt → Pkt) : (s.updPkt i f).nextPkt = s.nextPkt := rfl
@[simp] theorem State.updPkt_shPages (i : Nat) (f : Pkt → Pkt) : (s.updPkt i f).shPages = s.shPages := rfl
@[simp] theorem State.updPkt_backing (i : Nat) (f : Pkt → Pkt) : (s.updPkt i f).backing = s.backing := rfl
@[simp] theorem State.updPkt_fetches (i : Nat) (f : Pkt → Pkt) : (s.updPkt i f).fetches = s.fetches := rfl
@[simp] theorem State.updPkt_passed (i : Nat) (f : Pkt → Pkt) : (s.updPkt i f).passed = s.passed := rfl
@[simp] theorem State.updPkt_readSeq (i : Nat) (f : Pkt → Pkt) : (s.updPkt i f).readSeq = s.readSeq := rfl
@[simp] theorem State.updPkt_pubs (i : Nat) (f : Pkt → Pkt) : (s.updPkt i f).pubs = s.pubs := rfl
@[simp] theorem State.updPkt_insts (i : Nat) (f : Pkt → Pkt) : (s.updPkt i f).insts = s.insts := rfl
@[simp] theorem State.updPkt_streamOps (i : Nat) (f : Pkt → Pkt) : (s.updPkt i f).streamOps = s.streamOps := rfl
@[simp] theorem State.updPkt_nextInst (i : Nat) (f : Pkt → Pkt) : (s.updPkt i f).nextInst = s.nextInst := rfl
@[simp] theorem State.updPkt_nextReq (i : Nat) (f : Pkt → Pkt) : (s.updPkt i f).nextReq = s.nextReq := rfl
@[simp] theorem State.updPkt_opProg (i : Nat) (f : Pkt → Pkt) : (s.updPkt i f).opProg = s.opProg := rfl
@[simp] theorem State.updPkt_out (i : Nat) (f : Pkt → Pkt) : (s.updPkt i f).out = s.out := rfl
@[simp] theorem State.updPkt_free (i : Nat) (f : Pkt → Pkt) : (s.updPkt i f).free = s.free := rfl
@[simp] theorem State.updPkt_pending (i : Nat) (f : Pkt → Pkt) : (s.updPkt i f).pending = s.pending := rfl

@[simp] theorem State.delPkt_fixed (i : Nat) : (s.delPkt i).fixed = s.fixed := rfl
@[simp] theorem State.delPkt_phase (i : Nat) : (s.delPkt i).phase = s.phase := rfl
@[simp] theorem State.delPkt_scratch (i : Nat) : (s.delPkt i).scratch = s.scratch := rfl
@[simp] theorem State.delPkt_rsShadow (i : Nat) : (s.delPkt i).rsShadow = s.rsShadow := rfl
@[simp] theorem State.delPkt_links (i : Nat) : (s.delPkt i).links = s.links := rfl
@[simp] theorem State.delPkt_rgn (i : Nat) : (s.delPkt i).rgn = s.rgn := rfl
@[simp] theorem State.delPkt_part (i : Nat) : (s.delPkt i).part = s.part := rfl
@[simp] theorem State.delPkt_sync (i : Nat) : (s.delPkt i).sync = s.sync := rfl
@[simp] theorem State.delPkt_ops (i : Nat) : (s.delPkt i).ops = s.ops := rfl
@[simp] theorem State.delPkt_nextOp (i : Nat) : (s.delPkt i).nextOp = s.nextOp := rfl
@[simp] theorem State.delPkt_nextEnd (i : Nat) : (s.delPkt i).nextEnd = s.nextEnd := rfl
@[simp] theorem State.delPkt_rrPart (i : Nat) : (s.delPkt i).rrPart = s.rrPart := rfl
@[simp] theorem State.delPkt_cad (i : Nat) : (s.delPkt i).cad = s.cad := rfl
@[simp] theorem State.delPkt_fw (i : Nat) : (s.delPkt i).fw = s.fw := rfl
@[simp] theorem State.delPkt_sec (i : Nat) : (s.delPkt i).sec = s.sec := rfl
@[simp] theorem State.delPkt_portOwner (i : Nat) : (s.delPkt i).portOwner = s.portOwner := rfl
@[simp] theorem State.delPkt_pwr (i : Nat) : (s.delPkt i).pwr = s.pwr := rfl
@[simp] theorem State.delPkt_bru (i : Nat) : (s.delPkt i).bru = s.bru := rfl
@[simp] theorem State.delPkt_ras (i : Nat) : (s.delPkt i).ras = s.ras := rfl
@[simp] theorem State.delPkt_mgt (i : Nat) : (s.delPkt i).mgt = s.mgt := rfl
@[simp] theorem State.delPkt_tiles (i : Nat) : (s.delPkt i).tiles = s.tiles := rfl
@[simp] theorem State.delPkt_sram (i : Nat) : (s.delPkt i).sram = s.sram := rfl
@[simp] theorem State.delPkt_sramG (i : Nat) : (s.delPkt i).sramG = s.sramG := rfl
@[simp] theorem State.delPkt_slices (i : Nat) : (s.delPkt i).slices = s.slices := rfl
@[simp] theorem State.delPkt_sliceG (i : Nat) : (s.delPkt i).sliceG = s.sliceG := rfl
@[simp] theorem State.delPkt_flash (i : Nat) : (s.delPkt i).flash = s.flash := rfl
@[simp] theorem State.delPkt_runs (i : Nat) : (s.delPkt i).runs = s.runs := rfl
@[simp] theorem State.delPkt_ports (i : Nat) : (s.delPkt i).ports = s.ports := rfl
@[simp] theorem State.delPkt_tor (i : Nat) : (s.delPkt i).tor = s.tor := rfl
@[simp] theorem State.delPkt_routeSet (i : Nat) : (s.delPkt i).routeSet = s.routeSet := rfl
@[simp] theorem State.delPkt_routeWork (i : Nat) : (s.delPkt i).routeWork = s.routeWork := rfl
@[simp] theorem State.delPkt_proto (i : Nat) : (s.delPkt i).proto = s.proto := rfl
@[simp] theorem State.delPkt_snaps (i : Nat) : (s.delPkt i).snaps = s.snaps := rfl
@[simp] theorem State.delPkt_xfers (i : Nat) : (s.delPkt i).xfers = s.xfers := rfl
@[simp] theorem State.delPkt_nextPkt (i : Nat) : (s.delPkt i).nextPkt = s.nextPkt := rfl
@[simp] theorem State.delPkt_shPages (i : Nat) : (s.delPkt i).shPages = s.shPages := rfl
@[simp] theorem State.delPkt_backing (i : Nat) : (s.delPkt i).backing = s.backing := rfl
@[simp] theorem State.delPkt_fetches (i : Nat) : (s.delPkt i).fetches = s.fetches := rfl
@[simp] theorem State.delPkt_passed (i : Nat) : (s.delPkt i).passed = s.passed := rfl
@[simp] theorem State.delPkt_readSeq (i : Nat) : (s.delPkt i).readSeq = s.readSeq := rfl
@[simp] theorem State.delPkt_pubs (i : Nat) : (s.delPkt i).pubs = s.pubs := rfl
@[simp] theorem State.delPkt_insts (i : Nat) : (s.delPkt i).insts = s.insts := rfl
@[simp] theorem State.delPkt_streamOps (i : Nat) : (s.delPkt i).streamOps = s.streamOps := rfl
@[simp] theorem State.delPkt_nextInst (i : Nat) : (s.delPkt i).nextInst = s.nextInst := rfl
@[simp] theorem State.delPkt_nextReq (i : Nat) : (s.delPkt i).nextReq = s.nextReq := rfl
@[simp] theorem State.delPkt_opProg (i : Nat) : (s.delPkt i).opProg = s.opProg := rfl
@[simp] theorem State.delPkt_out (i : Nat) : (s.delPkt i).out = s.out := rfl
@[simp] theorem State.delPkt_free (i : Nat) : (s.delPkt i).free = s.free := rfl
@[simp] theorem State.delPkt_pending (i : Nat) : (s.delPkt i).pending = s.pending := rfl

@[simp] theorem State.updInst_fixed (i : Nat) (f : Inst → Inst) : (s.updInst i f).fixed = s.fixed := rfl
@[simp] theorem State.updInst_phase (i : Nat) (f : Inst → Inst) : (s.updInst i f).phase = s.phase := rfl
@[simp] theorem State.updInst_scratch (i : Nat) (f : Inst → Inst) : (s.updInst i f).scratch = s.scratch := rfl
@[simp] theorem State.updInst_rsShadow (i : Nat) (f : Inst → Inst) : (s.updInst i f).rsShadow = s.rsShadow := rfl
@[simp] theorem State.updInst_links (i : Nat) (f : Inst → Inst) : (s.updInst i f).links = s.links := rfl
@[simp] theorem State.updInst_rgn (i : Nat) (f : Inst → Inst) : (s.updInst i f).rgn = s.rgn := rfl
@[simp] theorem State.updInst_part (i : Nat) (f : Inst → Inst) : (s.updInst i f).part = s.part := rfl
@[simp] theorem State.updInst_sync (i : Nat) (f : Inst → Inst) : (s.updInst i f).sync = s.sync := rfl
@[simp] theorem State.updInst_ops (i : Nat) (f : Inst → Inst) : (s.updInst i f).ops = s.ops := rfl
@[simp] theorem State.updInst_nextOp (i : Nat) (f : Inst → Inst) : (s.updInst i f).nextOp = s.nextOp := rfl
@[simp] theorem State.updInst_nextEnd (i : Nat) (f : Inst → Inst) : (s.updInst i f).nextEnd = s.nextEnd := rfl
@[simp] theorem State.updInst_rrPart (i : Nat) (f : Inst → Inst) : (s.updInst i f).rrPart = s.rrPart := rfl
@[simp] theorem State.updInst_cad (i : Nat) (f : Inst → Inst) : (s.updInst i f).cad = s.cad := rfl
@[simp] theorem State.updInst_fw (i : Nat) (f : Inst → Inst) : (s.updInst i f).fw = s.fw := rfl
@[simp] theorem State.updInst_sec (i : Nat) (f : Inst → Inst) : (s.updInst i f).sec = s.sec := rfl
@[simp] theorem State.updInst_portOwner (i : Nat) (f : Inst → Inst) : (s.updInst i f).portOwner = s.portOwner := rfl
@[simp] theorem State.updInst_pwr (i : Nat) (f : Inst → Inst) : (s.updInst i f).pwr = s.pwr := rfl
@[simp] theorem State.updInst_bru (i : Nat) (f : Inst → Inst) : (s.updInst i f).bru = s.bru := rfl
@[simp] theorem State.updInst_ras (i : Nat) (f : Inst → Inst) : (s.updInst i f).ras = s.ras := rfl
@[simp] theorem State.updInst_mgt (i : Nat) (f : Inst → Inst) : (s.updInst i f).mgt = s.mgt := rfl
@[simp] theorem State.updInst_tiles (i : Nat) (f : Inst → Inst) : (s.updInst i f).tiles = s.tiles := rfl
@[simp] theorem State.updInst_sram (i : Nat) (f : Inst → Inst) : (s.updInst i f).sram = s.sram := rfl
@[simp] theorem State.updInst_sramG (i : Nat) (f : Inst → Inst) : (s.updInst i f).sramG = s.sramG := rfl
@[simp] theorem State.updInst_slices (i : Nat) (f : Inst → Inst) : (s.updInst i f).slices = s.slices := rfl
@[simp] theorem State.updInst_sliceG (i : Nat) (f : Inst → Inst) : (s.updInst i f).sliceG = s.sliceG := rfl
@[simp] theorem State.updInst_flash (i : Nat) (f : Inst → Inst) : (s.updInst i f).flash = s.flash := rfl
@[simp] theorem State.updInst_runs (i : Nat) (f : Inst → Inst) : (s.updInst i f).runs = s.runs := rfl
@[simp] theorem State.updInst_ports (i : Nat) (f : Inst → Inst) : (s.updInst i f).ports = s.ports := rfl
@[simp] theorem State.updInst_tor (i : Nat) (f : Inst → Inst) : (s.updInst i f).tor = s.tor := rfl
@[simp] theorem State.updInst_routeSet (i : Nat) (f : Inst → Inst) : (s.updInst i f).routeSet = s.routeSet := rfl
@[simp] theorem State.updInst_routeWork (i : Nat) (f : Inst → Inst) : (s.updInst i f).routeWork = s.routeWork := rfl
@[simp] theorem State.updInst_proto (i : Nat) (f : Inst → Inst) : (s.updInst i f).proto = s.proto := rfl
@[simp] theorem State.updInst_snaps (i : Nat) (f : Inst → Inst) : (s.updInst i f).snaps = s.snaps := rfl
@[simp] theorem State.updInst_xfers (i : Nat) (f : Inst → Inst) : (s.updInst i f).xfers = s.xfers := rfl
@[simp] theorem State.updInst_pkts (i : Nat) (f : Inst → Inst) : (s.updInst i f).pkts = s.pkts := rfl
@[simp] theorem State.updInst_nextPkt (i : Nat) (f : Inst → Inst) : (s.updInst i f).nextPkt = s.nextPkt := rfl
@[simp] theorem State.updInst_shPages (i : Nat) (f : Inst → Inst) : (s.updInst i f).shPages = s.shPages := rfl
@[simp] theorem State.updInst_backing (i : Nat) (f : Inst → Inst) : (s.updInst i f).backing = s.backing := rfl
@[simp] theorem State.updInst_fetches (i : Nat) (f : Inst → Inst) : (s.updInst i f).fetches = s.fetches := rfl
@[simp] theorem State.updInst_passed (i : Nat) (f : Inst → Inst) : (s.updInst i f).passed = s.passed := rfl
@[simp] theorem State.updInst_readSeq (i : Nat) (f : Inst → Inst) : (s.updInst i f).readSeq = s.readSeq := rfl
@[simp] theorem State.updInst_pubs (i : Nat) (f : Inst → Inst) : (s.updInst i f).pubs = s.pubs := rfl
@[simp] theorem State.updInst_streamOps (i : Nat) (f : Inst → Inst) : (s.updInst i f).streamOps = s.streamOps := rfl
@[simp] theorem State.updInst_nextInst (i : Nat) (f : Inst → Inst) : (s.updInst i f).nextInst = s.nextInst := rfl
@[simp] theorem State.updInst_nextReq (i : Nat) (f : Inst → Inst) : (s.updInst i f).nextReq = s.nextReq := rfl
@[simp] theorem State.updInst_opProg (i : Nat) (f : Inst → Inst) : (s.updInst i f).opProg = s.opProg := rfl
@[simp] theorem State.updInst_out (i : Nat) (f : Inst → Inst) : (s.updInst i f).out = s.out := rfl
@[simp] theorem State.updInst_free (i : Nat) (f : Inst → Inst) : (s.updInst i f).free = s.free := rfl
@[simp] theorem State.updInst_pending (i : Nat) (f : Inst → Inst) : (s.updInst i f).pending = s.pending := rfl

@[simp] theorem State.updStream_fixed (op : Nat) (f : StreamOp → StreamOp) : (s.updStream op f).fixed = s.fixed := rfl
@[simp] theorem State.updStream_phase (op : Nat) (f : StreamOp → StreamOp) : (s.updStream op f).phase = s.phase := rfl
@[simp] theorem State.updStream_scratch (op : Nat) (f : StreamOp → StreamOp) : (s.updStream op f).scratch = s.scratch := rfl
@[simp] theorem State.updStream_rsShadow (op : Nat) (f : StreamOp → StreamOp) : (s.updStream op f).rsShadow = s.rsShadow := rfl
@[simp] theorem State.updStream_links (op : Nat) (f : StreamOp → StreamOp) : (s.updStream op f).links = s.links := rfl
@[simp] theorem State.updStream_rgn (op : Nat) (f : StreamOp → StreamOp) : (s.updStream op f).rgn = s.rgn := rfl
@[simp] theorem State.updStream_part (op : Nat) (f : StreamOp → StreamOp) : (s.updStream op f).part = s.part := rfl
@[simp] theorem State.updStream_sync (op : Nat) (f : StreamOp → StreamOp) : (s.updStream op f).sync = s.sync := rfl
@[simp] theorem State.updStream_ops (op : Nat) (f : StreamOp → StreamOp) : (s.updStream op f).ops = s.ops := rfl
@[simp] theorem State.updStream_nextOp (op : Nat) (f : StreamOp → StreamOp) : (s.updStream op f).nextOp = s.nextOp := rfl
@[simp] theorem State.updStream_nextEnd (op : Nat) (f : StreamOp → StreamOp) : (s.updStream op f).nextEnd = s.nextEnd := rfl
@[simp] theorem State.updStream_rrPart (op : Nat) (f : StreamOp → StreamOp) : (s.updStream op f).rrPart = s.rrPart := rfl
@[simp] theorem State.updStream_cad (op : Nat) (f : StreamOp → StreamOp) : (s.updStream op f).cad = s.cad := rfl
@[simp] theorem State.updStream_fw (op : Nat) (f : StreamOp → StreamOp) : (s.updStream op f).fw = s.fw := rfl
@[simp] theorem State.updStream_sec (op : Nat) (f : StreamOp → StreamOp) : (s.updStream op f).sec = s.sec := rfl
@[simp] theorem State.updStream_portOwner (op : Nat) (f : StreamOp → StreamOp) : (s.updStream op f).portOwner = s.portOwner := rfl
@[simp] theorem State.updStream_pwr (op : Nat) (f : StreamOp → StreamOp) : (s.updStream op f).pwr = s.pwr := rfl
@[simp] theorem State.updStream_bru (op : Nat) (f : StreamOp → StreamOp) : (s.updStream op f).bru = s.bru := rfl
@[simp] theorem State.updStream_ras (op : Nat) (f : StreamOp → StreamOp) : (s.updStream op f).ras = s.ras := rfl
@[simp] theorem State.updStream_mgt (op : Nat) (f : StreamOp → StreamOp) : (s.updStream op f).mgt = s.mgt := rfl
@[simp] theorem State.updStream_tiles (op : Nat) (f : StreamOp → StreamOp) : (s.updStream op f).tiles = s.tiles := rfl
@[simp] theorem State.updStream_sram (op : Nat) (f : StreamOp → StreamOp) : (s.updStream op f).sram = s.sram := rfl
@[simp] theorem State.updStream_sramG (op : Nat) (f : StreamOp → StreamOp) : (s.updStream op f).sramG = s.sramG := rfl
@[simp] theorem State.updStream_slices (op : Nat) (f : StreamOp → StreamOp) : (s.updStream op f).slices = s.slices := rfl
@[simp] theorem State.updStream_sliceG (op : Nat) (f : StreamOp → StreamOp) : (s.updStream op f).sliceG = s.sliceG := rfl
@[simp] theorem State.updStream_flash (op : Nat) (f : StreamOp → StreamOp) : (s.updStream op f).flash = s.flash := rfl
@[simp] theorem State.updStream_runs (op : Nat) (f : StreamOp → StreamOp) : (s.updStream op f).runs = s.runs := rfl
@[simp] theorem State.updStream_ports (op : Nat) (f : StreamOp → StreamOp) : (s.updStream op f).ports = s.ports := rfl
@[simp] theorem State.updStream_tor (op : Nat) (f : StreamOp → StreamOp) : (s.updStream op f).tor = s.tor := rfl
@[simp] theorem State.updStream_routeSet (op : Nat) (f : StreamOp → StreamOp) : (s.updStream op f).routeSet = s.routeSet := rfl
@[simp] theorem State.updStream_routeWork (op : Nat) (f : StreamOp → StreamOp) : (s.updStream op f).routeWork = s.routeWork := rfl
@[simp] theorem State.updStream_proto (op : Nat) (f : StreamOp → StreamOp) : (s.updStream op f).proto = s.proto := rfl
@[simp] theorem State.updStream_snaps (op : Nat) (f : StreamOp → StreamOp) : (s.updStream op f).snaps = s.snaps := rfl
@[simp] theorem State.updStream_xfers (op : Nat) (f : StreamOp → StreamOp) : (s.updStream op f).xfers = s.xfers := rfl
@[simp] theorem State.updStream_pkts (op : Nat) (f : StreamOp → StreamOp) : (s.updStream op f).pkts = s.pkts := rfl
@[simp] theorem State.updStream_nextPkt (op : Nat) (f : StreamOp → StreamOp) : (s.updStream op f).nextPkt = s.nextPkt := rfl
@[simp] theorem State.updStream_shPages (op : Nat) (f : StreamOp → StreamOp) : (s.updStream op f).shPages = s.shPages := rfl
@[simp] theorem State.updStream_backing (op : Nat) (f : StreamOp → StreamOp) : (s.updStream op f).backing = s.backing := rfl
@[simp] theorem State.updStream_fetches (op : Nat) (f : StreamOp → StreamOp) : (s.updStream op f).fetches = s.fetches := rfl
@[simp] theorem State.updStream_passed (op : Nat) (f : StreamOp → StreamOp) : (s.updStream op f).passed = s.passed := rfl
@[simp] theorem State.updStream_readSeq (op : Nat) (f : StreamOp → StreamOp) : (s.updStream op f).readSeq = s.readSeq := rfl
@[simp] theorem State.updStream_pubs (op : Nat) (f : StreamOp → StreamOp) : (s.updStream op f).pubs = s.pubs := rfl
@[simp] theorem State.updStream_insts (op : Nat) (f : StreamOp → StreamOp) : (s.updStream op f).insts = s.insts := rfl
@[simp] theorem State.updStream_nextInst (op : Nat) (f : StreamOp → StreamOp) : (s.updStream op f).nextInst = s.nextInst := rfl
@[simp] theorem State.updStream_nextReq (op : Nat) (f : StreamOp → StreamOp) : (s.updStream op f).nextReq = s.nextReq := rfl
@[simp] theorem State.updStream_opProg (op : Nat) (f : StreamOp → StreamOp) : (s.updStream op f).opProg = s.opProg := rfl
@[simp] theorem State.updStream_out (op : Nat) (f : StreamOp → StreamOp) : (s.updStream op f).out = s.out := rfl
@[simp] theorem State.updStream_free (op : Nat) (f : StreamOp → StreamOp) : (s.updStream op f).free = s.free := rfl
@[simp] theorem State.updStream_pending (op : Nat) (f : StreamOp → StreamOp) : (s.updStream op f).pending = s.pending := rfl

@[simp] theorem State.updFetch_fixed (k : ChunkKey) (f : Fetch → Fetch) : (s.updFetch k f).fixed = s.fixed := rfl
@[simp] theorem State.updFetch_phase (k : ChunkKey) (f : Fetch → Fetch) : (s.updFetch k f).phase = s.phase := rfl
@[simp] theorem State.updFetch_scratch (k : ChunkKey) (f : Fetch → Fetch) : (s.updFetch k f).scratch = s.scratch := rfl
@[simp] theorem State.updFetch_rsShadow (k : ChunkKey) (f : Fetch → Fetch) : (s.updFetch k f).rsShadow = s.rsShadow := rfl
@[simp] theorem State.updFetch_links (k : ChunkKey) (f : Fetch → Fetch) : (s.updFetch k f).links = s.links := rfl
@[simp] theorem State.updFetch_rgn (k : ChunkKey) (f : Fetch → Fetch) : (s.updFetch k f).rgn = s.rgn := rfl
@[simp] theorem State.updFetch_part (k : ChunkKey) (f : Fetch → Fetch) : (s.updFetch k f).part = s.part := rfl
@[simp] theorem State.updFetch_sync (k : ChunkKey) (f : Fetch → Fetch) : (s.updFetch k f).sync = s.sync := rfl
@[simp] theorem State.updFetch_ops (k : ChunkKey) (f : Fetch → Fetch) : (s.updFetch k f).ops = s.ops := rfl
@[simp] theorem State.updFetch_nextOp (k : ChunkKey) (f : Fetch → Fetch) : (s.updFetch k f).nextOp = s.nextOp := rfl
@[simp] theorem State.updFetch_nextEnd (k : ChunkKey) (f : Fetch → Fetch) : (s.updFetch k f).nextEnd = s.nextEnd := rfl
@[simp] theorem State.updFetch_rrPart (k : ChunkKey) (f : Fetch → Fetch) : (s.updFetch k f).rrPart = s.rrPart := rfl
@[simp] theorem State.updFetch_cad (k : ChunkKey) (f : Fetch → Fetch) : (s.updFetch k f).cad = s.cad := rfl
@[simp] theorem State.updFetch_fw (k : ChunkKey) (f : Fetch → Fetch) : (s.updFetch k f).fw = s.fw := rfl
@[simp] theorem State.updFetch_sec (k : ChunkKey) (f : Fetch → Fetch) : (s.updFetch k f).sec = s.sec := rfl
@[simp] theorem State.updFetch_portOwner (k : ChunkKey) (f : Fetch → Fetch) : (s.updFetch k f).portOwner = s.portOwner := rfl
@[simp] theorem State.updFetch_pwr (k : ChunkKey) (f : Fetch → Fetch) : (s.updFetch k f).pwr = s.pwr := rfl
@[simp] theorem State.updFetch_bru (k : ChunkKey) (f : Fetch → Fetch) : (s.updFetch k f).bru = s.bru := rfl
@[simp] theorem State.updFetch_ras (k : ChunkKey) (f : Fetch → Fetch) : (s.updFetch k f).ras = s.ras := rfl
@[simp] theorem State.updFetch_mgt (k : ChunkKey) (f : Fetch → Fetch) : (s.updFetch k f).mgt = s.mgt := rfl
@[simp] theorem State.updFetch_tiles (k : ChunkKey) (f : Fetch → Fetch) : (s.updFetch k f).tiles = s.tiles := rfl
@[simp] theorem State.updFetch_sram (k : ChunkKey) (f : Fetch → Fetch) : (s.updFetch k f).sram = s.sram := rfl
@[simp] theorem State.updFetch_sramG (k : ChunkKey) (f : Fetch → Fetch) : (s.updFetch k f).sramG = s.sramG := rfl
@[simp] theorem State.updFetch_slices (k : ChunkKey) (f : Fetch → Fetch) : (s.updFetch k f).slices = s.slices := rfl
@[simp] theorem State.updFetch_sliceG (k : ChunkKey) (f : Fetch → Fetch) : (s.updFetch k f).sliceG = s.sliceG := rfl
@[simp] theorem State.updFetch_flash (k : ChunkKey) (f : Fetch → Fetch) : (s.updFetch k f).flash = s.flash := rfl
@[simp] theorem State.updFetch_runs (k : ChunkKey) (f : Fetch → Fetch) : (s.updFetch k f).runs = s.runs := rfl
@[simp] theorem State.updFetch_ports (k : ChunkKey) (f : Fetch → Fetch) : (s.updFetch k f).ports = s.ports := rfl
@[simp] theorem State.updFetch_tor (k : ChunkKey) (f : Fetch → Fetch) : (s.updFetch k f).tor = s.tor := rfl
@[simp] theorem State.updFetch_routeSet (k : ChunkKey) (f : Fetch → Fetch) : (s.updFetch k f).routeSet = s.routeSet := rfl
@[simp] theorem State.updFetch_routeWork (k : ChunkKey) (f : Fetch → Fetch) : (s.updFetch k f).routeWork = s.routeWork := rfl
@[simp] theorem State.updFetch_proto (k : ChunkKey) (f : Fetch → Fetch) : (s.updFetch k f).proto = s.proto := rfl
@[simp] theorem State.updFetch_snaps (k : ChunkKey) (f : Fetch → Fetch) : (s.updFetch k f).snaps = s.snaps := rfl
@[simp] theorem State.updFetch_xfers (k : ChunkKey) (f : Fetch → Fetch) : (s.updFetch k f).xfers = s.xfers := rfl
@[simp] theorem State.updFetch_pkts (k : ChunkKey) (f : Fetch → Fetch) : (s.updFetch k f).pkts = s.pkts := rfl
@[simp] theorem State.updFetch_nextPkt (k : ChunkKey) (f : Fetch → Fetch) : (s.updFetch k f).nextPkt = s.nextPkt := rfl
@[simp] theorem State.updFetch_shPages (k : ChunkKey) (f : Fetch → Fetch) : (s.updFetch k f).shPages = s.shPages := rfl
@[simp] theorem State.updFetch_backing (k : ChunkKey) (f : Fetch → Fetch) : (s.updFetch k f).backing = s.backing := rfl
@[simp] theorem State.updFetch_passed (k : ChunkKey) (f : Fetch → Fetch) : (s.updFetch k f).passed = s.passed := rfl
@[simp] theorem State.updFetch_readSeq (k : ChunkKey) (f : Fetch → Fetch) : (s.updFetch k f).readSeq = s.readSeq := rfl
@[simp] theorem State.updFetch_pubs (k : ChunkKey) (f : Fetch → Fetch) : (s.updFetch k f).pubs = s.pubs := rfl
@[simp] theorem State.updFetch_insts (k : ChunkKey) (f : Fetch → Fetch) : (s.updFetch k f).insts = s.insts := rfl
@[simp] theorem State.updFetch_streamOps (k : ChunkKey) (f : Fetch → Fetch) : (s.updFetch k f).streamOps = s.streamOps := rfl
@[simp] theorem State.updFetch_nextInst (k : ChunkKey) (f : Fetch → Fetch) : (s.updFetch k f).nextInst = s.nextInst := rfl
@[simp] theorem State.updFetch_nextReq (k : ChunkKey) (f : Fetch → Fetch) : (s.updFetch k f).nextReq = s.nextReq := rfl
@[simp] theorem State.updFetch_opProg (k : ChunkKey) (f : Fetch → Fetch) : (s.updFetch k f).opProg = s.opProg := rfl
@[simp] theorem State.updFetch_out (k : ChunkKey) (f : Fetch → Fetch) : (s.updFetch k f).out = s.out := rfl
@[simp] theorem State.updFetch_free (k : ChunkKey) (f : Fetch → Fetch) : (s.updFetch k f).free = s.free := rfl
@[simp] theorem State.updFetch_pending (k : ChunkKey) (f : Fetch → Fetch) : (s.updFetch k f).pending = s.pending := rfl

@[simp] theorem State.setProg_fixed (i : Nat) (x : OpProg) : (s.setProg i x).fixed = s.fixed := rfl
@[simp] theorem State.setProg_phase (i : Nat) (x : OpProg) : (s.setProg i x).phase = s.phase := rfl
@[simp] theorem State.setProg_scratch (i : Nat) (x : OpProg) : (s.setProg i x).scratch = s.scratch := rfl
@[simp] theorem State.setProg_rsShadow (i : Nat) (x : OpProg) : (s.setProg i x).rsShadow = s.rsShadow := rfl
@[simp] theorem State.setProg_links (i : Nat) (x : OpProg) : (s.setProg i x).links = s.links := rfl
@[simp] theorem State.setProg_rgn (i : Nat) (x : OpProg) : (s.setProg i x).rgn = s.rgn := rfl
@[simp] theorem State.setProg_part (i : Nat) (x : OpProg) : (s.setProg i x).part = s.part := rfl
@[simp] theorem State.setProg_sync (i : Nat) (x : OpProg) : (s.setProg i x).sync = s.sync := rfl
@[simp] theorem State.setProg_ops (i : Nat) (x : OpProg) : (s.setProg i x).ops = s.ops := rfl
@[simp] theorem State.setProg_nextOp (i : Nat) (x : OpProg) : (s.setProg i x).nextOp = s.nextOp := rfl
@[simp] theorem State.setProg_nextEnd (i : Nat) (x : OpProg) : (s.setProg i x).nextEnd = s.nextEnd := rfl
@[simp] theorem State.setProg_rrPart (i : Nat) (x : OpProg) : (s.setProg i x).rrPart = s.rrPart := rfl
@[simp] theorem State.setProg_cad (i : Nat) (x : OpProg) : (s.setProg i x).cad = s.cad := rfl
@[simp] theorem State.setProg_fw (i : Nat) (x : OpProg) : (s.setProg i x).fw = s.fw := rfl
@[simp] theorem State.setProg_sec (i : Nat) (x : OpProg) : (s.setProg i x).sec = s.sec := rfl
@[simp] theorem State.setProg_portOwner (i : Nat) (x : OpProg) : (s.setProg i x).portOwner = s.portOwner := rfl
@[simp] theorem State.setProg_pwr (i : Nat) (x : OpProg) : (s.setProg i x).pwr = s.pwr := rfl
@[simp] theorem State.setProg_bru (i : Nat) (x : OpProg) : (s.setProg i x).bru = s.bru := rfl
@[simp] theorem State.setProg_ras (i : Nat) (x : OpProg) : (s.setProg i x).ras = s.ras := rfl
@[simp] theorem State.setProg_mgt (i : Nat) (x : OpProg) : (s.setProg i x).mgt = s.mgt := rfl
@[simp] theorem State.setProg_tiles (i : Nat) (x : OpProg) : (s.setProg i x).tiles = s.tiles := rfl
@[simp] theorem State.setProg_sram (i : Nat) (x : OpProg) : (s.setProg i x).sram = s.sram := rfl
@[simp] theorem State.setProg_sramG (i : Nat) (x : OpProg) : (s.setProg i x).sramG = s.sramG := rfl
@[simp] theorem State.setProg_slices (i : Nat) (x : OpProg) : (s.setProg i x).slices = s.slices := rfl
@[simp] theorem State.setProg_sliceG (i : Nat) (x : OpProg) : (s.setProg i x).sliceG = s.sliceG := rfl
@[simp] theorem State.setProg_flash (i : Nat) (x : OpProg) : (s.setProg i x).flash = s.flash := rfl
@[simp] theorem State.setProg_runs (i : Nat) (x : OpProg) : (s.setProg i x).runs = s.runs := rfl
@[simp] theorem State.setProg_ports (i : Nat) (x : OpProg) : (s.setProg i x).ports = s.ports := rfl
@[simp] theorem State.setProg_tor (i : Nat) (x : OpProg) : (s.setProg i x).tor = s.tor := rfl
@[simp] theorem State.setProg_routeSet (i : Nat) (x : OpProg) : (s.setProg i x).routeSet = s.routeSet := rfl
@[simp] theorem State.setProg_routeWork (i : Nat) (x : OpProg) : (s.setProg i x).routeWork = s.routeWork := rfl
@[simp] theorem State.setProg_proto (i : Nat) (x : OpProg) : (s.setProg i x).proto = s.proto := rfl
@[simp] theorem State.setProg_snaps (i : Nat) (x : OpProg) : (s.setProg i x).snaps = s.snaps := rfl
@[simp] theorem State.setProg_xfers (i : Nat) (x : OpProg) : (s.setProg i x).xfers = s.xfers := rfl
@[simp] theorem State.setProg_pkts (i : Nat) (x : OpProg) : (s.setProg i x).pkts = s.pkts := rfl
@[simp] theorem State.setProg_nextPkt (i : Nat) (x : OpProg) : (s.setProg i x).nextPkt = s.nextPkt := rfl
@[simp] theorem State.setProg_shPages (i : Nat) (x : OpProg) : (s.setProg i x).shPages = s.shPages := rfl
@[simp] theorem State.setProg_backing (i : Nat) (x : OpProg) : (s.setProg i x).backing = s.backing := rfl
@[simp] theorem State.setProg_fetches (i : Nat) (x : OpProg) : (s.setProg i x).fetches = s.fetches := rfl
@[simp] theorem State.setProg_passed (i : Nat) (x : OpProg) : (s.setProg i x).passed = s.passed := rfl
@[simp] theorem State.setProg_readSeq (i : Nat) (x : OpProg) : (s.setProg i x).readSeq = s.readSeq := rfl
@[simp] theorem State.setProg_pubs (i : Nat) (x : OpProg) : (s.setProg i x).pubs = s.pubs := rfl
@[simp] theorem State.setProg_insts (i : Nat) (x : OpProg) : (s.setProg i x).insts = s.insts := rfl
@[simp] theorem State.setProg_streamOps (i : Nat) (x : OpProg) : (s.setProg i x).streamOps = s.streamOps := rfl
@[simp] theorem State.setProg_nextInst (i : Nat) (x : OpProg) : (s.setProg i x).nextInst = s.nextInst := rfl
@[simp] theorem State.setProg_nextReq (i : Nat) (x : OpProg) : (s.setProg i x).nextReq = s.nextReq := rfl
@[simp] theorem State.setProg_out (i : Nat) (x : OpProg) : (s.setProg i x).out = s.out := rfl
@[simp] theorem State.setProg_free (i : Nat) (x : OpProg) : (s.setProg i x).free = s.free := rfl
@[simp] theorem State.setProg_pending (i : Nat) (x : OpProg) : (s.setProg i x).pending = s.pending := rfl

@[simp] theorem State.setPort_fixed (p : Nat) (x : Port) : (s.setPort p x).fixed = s.fixed := rfl
@[simp] theorem State.setPort_phase (p : Nat) (x : Port) : (s.setPort p x).phase = s.phase := rfl
@[simp] theorem State.setPort_scratch (p : Nat) (x : Port) : (s.setPort p x).scratch = s.scratch := rfl
@[simp] theorem State.setPort_rsShadow (p : Nat) (x : Port) : (s.setPort p x).rsShadow = s.rsShadow := rfl
@[simp] theorem State.setPort_links (p : Nat) (x : Port) : (s.setPort p x).links = s.links := rfl
@[simp] theorem State.setPort_rgn (p : Nat) (x : Port) : (s.setPort p x).rgn = s.rgn := rfl
@[simp] theorem State.setPort_part (p : Nat) (x : Port) : (s.setPort p x).part = s.part := rfl
@[simp] theorem State.setPort_sync (p : Nat) (x : Port) : (s.setPort p x).sync = s.sync := rfl
@[simp] theorem State.setPort_ops (p : Nat) (x : Port) : (s.setPort p x).ops = s.ops := rfl
@[simp] theorem State.setPort_nextOp (p : Nat) (x : Port) : (s.setPort p x).nextOp = s.nextOp := rfl
@[simp] theorem State.setPort_nextEnd (p : Nat) (x : Port) : (s.setPort p x).nextEnd = s.nextEnd := rfl
@[simp] theorem State.setPort_rrPart (p : Nat) (x : Port) : (s.setPort p x).rrPart = s.rrPart := rfl
@[simp] theorem State.setPort_cad (p : Nat) (x : Port) : (s.setPort p x).cad = s.cad := rfl
@[simp] theorem State.setPort_fw (p : Nat) (x : Port) : (s.setPort p x).fw = s.fw := rfl
@[simp] theorem State.setPort_sec (p : Nat) (x : Port) : (s.setPort p x).sec = s.sec := rfl
@[simp] theorem State.setPort_portOwner (p : Nat) (x : Port) : (s.setPort p x).portOwner = s.portOwner := rfl
@[simp] theorem State.setPort_pwr (p : Nat) (x : Port) : (s.setPort p x).pwr = s.pwr := rfl
@[simp] theorem State.setPort_bru (p : Nat) (x : Port) : (s.setPort p x).bru = s.bru := rfl
@[simp] theorem State.setPort_ras (p : Nat) (x : Port) : (s.setPort p x).ras = s.ras := rfl
@[simp] theorem State.setPort_mgt (p : Nat) (x : Port) : (s.setPort p x).mgt = s.mgt := rfl
@[simp] theorem State.setPort_tiles (p : Nat) (x : Port) : (s.setPort p x).tiles = s.tiles := rfl
@[simp] theorem State.setPort_sram (p : Nat) (x : Port) : (s.setPort p x).sram = s.sram := rfl
@[simp] theorem State.setPort_sramG (p : Nat) (x : Port) : (s.setPort p x).sramG = s.sramG := rfl
@[simp] theorem State.setPort_slices (p : Nat) (x : Port) : (s.setPort p x).slices = s.slices := rfl
@[simp] theorem State.setPort_sliceG (p : Nat) (x : Port) : (s.setPort p x).sliceG = s.sliceG := rfl
@[simp] theorem State.setPort_flash (p : Nat) (x : Port) : (s.setPort p x).flash = s.flash := rfl
@[simp] theorem State.setPort_runs (p : Nat) (x : Port) : (s.setPort p x).runs = s.runs := rfl
@[simp] theorem State.setPort_tor (p : Nat) (x : Port) : (s.setPort p x).tor = s.tor := rfl
@[simp] theorem State.setPort_routeSet (p : Nat) (x : Port) : (s.setPort p x).routeSet = s.routeSet := rfl
@[simp] theorem State.setPort_routeWork (p : Nat) (x : Port) : (s.setPort p x).routeWork = s.routeWork := rfl
@[simp] theorem State.setPort_proto (p : Nat) (x : Port) : (s.setPort p x).proto = s.proto := rfl
@[simp] theorem State.setPort_snaps (p : Nat) (x : Port) : (s.setPort p x).snaps = s.snaps := rfl
@[simp] theorem State.setPort_xfers (p : Nat) (x : Port) : (s.setPort p x).xfers = s.xfers := rfl
@[simp] theorem State.setPort_pkts (p : Nat) (x : Port) : (s.setPort p x).pkts = s.pkts := rfl
@[simp] theorem State.setPort_nextPkt (p : Nat) (x : Port) : (s.setPort p x).nextPkt = s.nextPkt := rfl
@[simp] theorem State.setPort_shPages (p : Nat) (x : Port) : (s.setPort p x).shPages = s.shPages := rfl
@[simp] theorem State.setPort_backing (p : Nat) (x : Port) : (s.setPort p x).backing = s.backing := rfl
@[simp] theorem State.setPort_fetches (p : Nat) (x : Port) : (s.setPort p x).fetches = s.fetches := rfl
@[simp] theorem State.setPort_passed (p : Nat) (x : Port) : (s.setPort p x).passed = s.passed := rfl
@[simp] theorem State.setPort_readSeq (p : Nat) (x : Port) : (s.setPort p x).readSeq = s.readSeq := rfl
@[simp] theorem State.setPort_pubs (p : Nat) (x : Port) : (s.setPort p x).pubs = s.pubs := rfl
@[simp] theorem State.setPort_insts (p : Nat) (x : Port) : (s.setPort p x).insts = s.insts := rfl
@[simp] theorem State.setPort_streamOps (p : Nat) (x : Port) : (s.setPort p x).streamOps = s.streamOps := rfl
@[simp] theorem State.setPort_nextInst (p : Nat) (x : Port) : (s.setPort p x).nextInst = s.nextInst := rfl
@[simp] theorem State.setPort_nextReq (p : Nat) (x : Port) : (s.setPort p x).nextReq = s.nextReq := rfl
@[simp] theorem State.setPort_opProg (p : Nat) (x : Port) : (s.setPort p x).opProg = s.opProg := rfl
@[simp] theorem State.setPort_out (p : Nat) (x : Port) : (s.setPort p x).out = s.out := rfl
@[simp] theorem State.setPort_free (p : Nat) (x : Port) : (s.setPort p x).free = s.free := rfl
@[simp] theorem State.setPort_pending (p : Nat) (x : Port) : (s.setPort p x).pending = s.pending := rfl

@[simp] theorem State.updPort_fixed (p : Nat) (f : Port → Port) : (s.updPort p f).fixed = s.fixed := rfl
@[simp] theorem State.updPort_phase (p : Nat) (f : Port → Port) : (s.updPort p f).phase = s.phase := rfl
@[simp] theorem State.updPort_scratch (p : Nat) (f : Port → Port) : (s.updPort p f).scratch = s.scratch := rfl
@[simp] theorem State.updPort_rsShadow (p : Nat) (f : Port → Port) : (s.updPort p f).rsShadow = s.rsShadow := rfl
@[simp] theorem State.updPort_links (p : Nat) (f : Port → Port) : (s.updPort p f).links = s.links := rfl
@[simp] theorem State.updPort_rgn (p : Nat) (f : Port → Port) : (s.updPort p f).rgn = s.rgn := rfl
@[simp] theorem State.updPort_part (p : Nat) (f : Port → Port) : (s.updPort p f).part = s.part := rfl
@[simp] theorem State.updPort_sync (p : Nat) (f : Port → Port) : (s.updPort p f).sync = s.sync := rfl
@[simp] theorem State.updPort_ops (p : Nat) (f : Port → Port) : (s.updPort p f).ops = s.ops := rfl
@[simp] theorem State.updPort_nextOp (p : Nat) (f : Port → Port) : (s.updPort p f).nextOp = s.nextOp := rfl
@[simp] theorem State.updPort_nextEnd (p : Nat) (f : Port → Port) : (s.updPort p f).nextEnd = s.nextEnd := rfl
@[simp] theorem State.updPort_rrPart (p : Nat) (f : Port → Port) : (s.updPort p f).rrPart = s.rrPart := rfl
@[simp] theorem State.updPort_cad (p : Nat) (f : Port → Port) : (s.updPort p f).cad = s.cad := rfl
@[simp] theorem State.updPort_fw (p : Nat) (f : Port → Port) : (s.updPort p f).fw = s.fw := rfl
@[simp] theorem State.updPort_sec (p : Nat) (f : Port → Port) : (s.updPort p f).sec = s.sec := rfl
@[simp] theorem State.updPort_portOwner (p : Nat) (f : Port → Port) : (s.updPort p f).portOwner = s.portOwner := rfl
@[simp] theorem State.updPort_pwr (p : Nat) (f : Port → Port) : (s.updPort p f).pwr = s.pwr := rfl
@[simp] theorem State.updPort_bru (p : Nat) (f : Port → Port) : (s.updPort p f).bru = s.bru := rfl
@[simp] theorem State.updPort_ras (p : Nat) (f : Port → Port) : (s.updPort p f).ras = s.ras := rfl
@[simp] theorem State.updPort_mgt (p : Nat) (f : Port → Port) : (s.updPort p f).mgt = s.mgt := rfl
@[simp] theorem State.updPort_tiles (p : Nat) (f : Port → Port) : (s.updPort p f).tiles = s.tiles := rfl
@[simp] theorem State.updPort_sram (p : Nat) (f : Port → Port) : (s.updPort p f).sram = s.sram := rfl
@[simp] theorem State.updPort_sramG (p : Nat) (f : Port → Port) : (s.updPort p f).sramG = s.sramG := rfl
@[simp] theorem State.updPort_slices (p : Nat) (f : Port → Port) : (s.updPort p f).slices = s.slices := rfl
@[simp] theorem State.updPort_sliceG (p : Nat) (f : Port → Port) : (s.updPort p f).sliceG = s.sliceG := rfl
@[simp] theorem State.updPort_flash (p : Nat) (f : Port → Port) : (s.updPort p f).flash = s.flash := rfl
@[simp] theorem State.updPort_runs (p : Nat) (f : Port → Port) : (s.updPort p f).runs = s.runs := rfl
@[simp] theorem State.updPort_tor (p : Nat) (f : Port → Port) : (s.updPort p f).tor = s.tor := rfl
@[simp] theorem State.updPort_routeSet (p : Nat) (f : Port → Port) : (s.updPort p f).routeSet = s.routeSet := rfl
@[simp] theorem State.updPort_routeWork (p : Nat) (f : Port → Port) : (s.updPort p f).routeWork = s.routeWork := rfl
@[simp] theorem State.updPort_proto (p : Nat) (f : Port → Port) : (s.updPort p f).proto = s.proto := rfl
@[simp] theorem State.updPort_snaps (p : Nat) (f : Port → Port) : (s.updPort p f).snaps = s.snaps := rfl
@[simp] theorem State.updPort_xfers (p : Nat) (f : Port → Port) : (s.updPort p f).xfers = s.xfers := rfl
@[simp] theorem State.updPort_pkts (p : Nat) (f : Port → Port) : (s.updPort p f).pkts = s.pkts := rfl
@[simp] theorem State.updPort_nextPkt (p : Nat) (f : Port → Port) : (s.updPort p f).nextPkt = s.nextPkt := rfl
@[simp] theorem State.updPort_shPages (p : Nat) (f : Port → Port) : (s.updPort p f).shPages = s.shPages := rfl
@[simp] theorem State.updPort_backing (p : Nat) (f : Port → Port) : (s.updPort p f).backing = s.backing := rfl
@[simp] theorem State.updPort_fetches (p : Nat) (f : Port → Port) : (s.updPort p f).fetches = s.fetches := rfl
@[simp] theorem State.updPort_passed (p : Nat) (f : Port → Port) : (s.updPort p f).passed = s.passed := rfl
@[simp] theorem State.updPort_readSeq (p : Nat) (f : Port → Port) : (s.updPort p f).readSeq = s.readSeq := rfl
@[simp] theorem State.updPort_pubs (p : Nat) (f : Port → Port) : (s.updPort p f).pubs = s.pubs := rfl
@[simp] theorem State.updPort_insts (p : Nat) (f : Port → Port) : (s.updPort p f).insts = s.insts := rfl
@[simp] theorem State.updPort_streamOps (p : Nat) (f : Port → Port) : (s.updPort p f).streamOps = s.streamOps := rfl
@[simp] theorem State.updPort_nextInst (p : Nat) (f : Port → Port) : (s.updPort p f).nextInst = s.nextInst := rfl
@[simp] theorem State.updPort_nextReq (p : Nat) (f : Port → Port) : (s.updPort p f).nextReq = s.nextReq := rfl
@[simp] theorem State.updPort_opProg (p : Nat) (f : Port → Port) : (s.updPort p f).opProg = s.opProg := rfl
@[simp] theorem State.updPort_out (p : Nat) (f : Port → Port) : (s.updPort p f).out = s.out := rfl
@[simp] theorem State.updPort_free (p : Nat) (f : Port → Port) : (s.updPort p f).free = s.free := rfl
@[simp] theorem State.updPort_pending (p : Nat) (f : Port → Port) : (s.updPort p f).pending = s.pending := rfl

@[simp] theorem State.updTor_fixed (f : Torus → Torus) : (s.updTor f).fixed = s.fixed := rfl
@[simp] theorem State.updTor_phase (f : Torus → Torus) : (s.updTor f).phase = s.phase := rfl
@[simp] theorem State.updTor_scratch (f : Torus → Torus) : (s.updTor f).scratch = s.scratch := rfl
@[simp] theorem State.updTor_rsShadow (f : Torus → Torus) : (s.updTor f).rsShadow = s.rsShadow := rfl
@[simp] theorem State.updTor_links (f : Torus → Torus) : (s.updTor f).links = s.links := rfl
@[simp] theorem State.updTor_rgn (f : Torus → Torus) : (s.updTor f).rgn = s.rgn := rfl
@[simp] theorem State.updTor_part (f : Torus → Torus) : (s.updTor f).part = s.part := rfl
@[simp] theorem State.updTor_sync (f : Torus → Torus) : (s.updTor f).sync = s.sync := rfl
@[simp] theorem State.updTor_ops (f : Torus → Torus) : (s.updTor f).ops = s.ops := rfl
@[simp] theorem State.updTor_nextOp (f : Torus → Torus) : (s.updTor f).nextOp = s.nextOp := rfl
@[simp] theorem State.updTor_nextEnd (f : Torus → Torus) : (s.updTor f).nextEnd = s.nextEnd := rfl
@[simp] theorem State.updTor_rrPart (f : Torus → Torus) : (s.updTor f).rrPart = s.rrPart := rfl
@[simp] theorem State.updTor_cad (f : Torus → Torus) : (s.updTor f).cad = s.cad := rfl
@[simp] theorem State.updTor_fw (f : Torus → Torus) : (s.updTor f).fw = s.fw := rfl
@[simp] theorem State.updTor_sec (f : Torus → Torus) : (s.updTor f).sec = s.sec := rfl
@[simp] theorem State.updTor_portOwner (f : Torus → Torus) : (s.updTor f).portOwner = s.portOwner := rfl
@[simp] theorem State.updTor_pwr (f : Torus → Torus) : (s.updTor f).pwr = s.pwr := rfl
@[simp] theorem State.updTor_bru (f : Torus → Torus) : (s.updTor f).bru = s.bru := rfl
@[simp] theorem State.updTor_ras (f : Torus → Torus) : (s.updTor f).ras = s.ras := rfl
@[simp] theorem State.updTor_mgt (f : Torus → Torus) : (s.updTor f).mgt = s.mgt := rfl
@[simp] theorem State.updTor_tiles (f : Torus → Torus) : (s.updTor f).tiles = s.tiles := rfl
@[simp] theorem State.updTor_sram (f : Torus → Torus) : (s.updTor f).sram = s.sram := rfl
@[simp] theorem State.updTor_sramG (f : Torus → Torus) : (s.updTor f).sramG = s.sramG := rfl
@[simp] theorem State.updTor_slices (f : Torus → Torus) : (s.updTor f).slices = s.slices := rfl
@[simp] theorem State.updTor_sliceG (f : Torus → Torus) : (s.updTor f).sliceG = s.sliceG := rfl
@[simp] theorem State.updTor_flash (f : Torus → Torus) : (s.updTor f).flash = s.flash := rfl
@[simp] theorem State.updTor_runs (f : Torus → Torus) : (s.updTor f).runs = s.runs := rfl
@[simp] theorem State.updTor_ports (f : Torus → Torus) : (s.updTor f).ports = s.ports := rfl
@[simp] theorem State.updTor_routeSet (f : Torus → Torus) : (s.updTor f).routeSet = s.routeSet := rfl
@[simp] theorem State.updTor_routeWork (f : Torus → Torus) : (s.updTor f).routeWork = s.routeWork := rfl
@[simp] theorem State.updTor_proto (f : Torus → Torus) : (s.updTor f).proto = s.proto := rfl
@[simp] theorem State.updTor_snaps (f : Torus → Torus) : (s.updTor f).snaps = s.snaps := rfl
@[simp] theorem State.updTor_xfers (f : Torus → Torus) : (s.updTor f).xfers = s.xfers := rfl
@[simp] theorem State.updTor_pkts (f : Torus → Torus) : (s.updTor f).pkts = s.pkts := rfl
@[simp] theorem State.updTor_nextPkt (f : Torus → Torus) : (s.updTor f).nextPkt = s.nextPkt := rfl
@[simp] theorem State.updTor_shPages (f : Torus → Torus) : (s.updTor f).shPages = s.shPages := rfl
@[simp] theorem State.updTor_backing (f : Torus → Torus) : (s.updTor f).backing = s.backing := rfl
@[simp] theorem State.updTor_fetches (f : Torus → Torus) : (s.updTor f).fetches = s.fetches := rfl
@[simp] theorem State.updTor_passed (f : Torus → Torus) : (s.updTor f).passed = s.passed := rfl
@[simp] theorem State.updTor_readSeq (f : Torus → Torus) : (s.updTor f).readSeq = s.readSeq := rfl
@[simp] theorem State.updTor_pubs (f : Torus → Torus) : (s.updTor f).pubs = s.pubs := rfl
@[simp] theorem State.updTor_insts (f : Torus → Torus) : (s.updTor f).insts = s.insts := rfl
@[simp] theorem State.updTor_streamOps (f : Torus → Torus) : (s.updTor f).streamOps = s.streamOps := rfl
@[simp] theorem State.updTor_nextInst (f : Torus → Torus) : (s.updTor f).nextInst = s.nextInst := rfl
@[simp] theorem State.updTor_nextReq (f : Torus → Torus) : (s.updTor f).nextReq = s.nextReq := rfl
@[simp] theorem State.updTor_opProg (f : Torus → Torus) : (s.updTor f).opProg = s.opProg := rfl
@[simp] theorem State.updTor_out (f : Torus → Torus) : (s.updTor f).out = s.out := rfl
@[simp] theorem State.updTor_free (f : Torus → Torus) : (s.updTor f).free = s.free := rfl
@[simp] theorem State.updTor_pending (f : Torus → Torus) : (s.updTor f).pending = s.pending := rfl

@[simp] theorem State.updTp_fixed (k : Nat) (f : TPort → TPort) : (s.updTp k f).fixed = s.fixed := rfl
@[simp] theorem State.updTp_phase (k : Nat) (f : TPort → TPort) : (s.updTp k f).phase = s.phase := rfl
@[simp] theorem State.updTp_scratch (k : Nat) (f : TPort → TPort) : (s.updTp k f).scratch = s.scratch := rfl
@[simp] theorem State.updTp_rsShadow (k : Nat) (f : TPort → TPort) : (s.updTp k f).rsShadow = s.rsShadow := rfl
@[simp] theorem State.updTp_links (k : Nat) (f : TPort → TPort) : (s.updTp k f).links = s.links := rfl
@[simp] theorem State.updTp_rgn (k : Nat) (f : TPort → TPort) : (s.updTp k f).rgn = s.rgn := rfl
@[simp] theorem State.updTp_part (k : Nat) (f : TPort → TPort) : (s.updTp k f).part = s.part := rfl
@[simp] theorem State.updTp_sync (k : Nat) (f : TPort → TPort) : (s.updTp k f).sync = s.sync := rfl
@[simp] theorem State.updTp_ops (k : Nat) (f : TPort → TPort) : (s.updTp k f).ops = s.ops := rfl
@[simp] theorem State.updTp_nextOp (k : Nat) (f : TPort → TPort) : (s.updTp k f).nextOp = s.nextOp := rfl
@[simp] theorem State.updTp_nextEnd (k : Nat) (f : TPort → TPort) : (s.updTp k f).nextEnd = s.nextEnd := rfl
@[simp] theorem State.updTp_rrPart (k : Nat) (f : TPort → TPort) : (s.updTp k f).rrPart = s.rrPart := rfl
@[simp] theorem State.updTp_cad (k : Nat) (f : TPort → TPort) : (s.updTp k f).cad = s.cad := rfl
@[simp] theorem State.updTp_fw (k : Nat) (f : TPort → TPort) : (s.updTp k f).fw = s.fw := rfl
@[simp] theorem State.updTp_sec (k : Nat) (f : TPort → TPort) : (s.updTp k f).sec = s.sec := rfl
@[simp] theorem State.updTp_portOwner (k : Nat) (f : TPort → TPort) : (s.updTp k f).portOwner = s.portOwner := rfl
@[simp] theorem State.updTp_pwr (k : Nat) (f : TPort → TPort) : (s.updTp k f).pwr = s.pwr := rfl
@[simp] theorem State.updTp_bru (k : Nat) (f : TPort → TPort) : (s.updTp k f).bru = s.bru := rfl
@[simp] theorem State.updTp_ras (k : Nat) (f : TPort → TPort) : (s.updTp k f).ras = s.ras := rfl
@[simp] theorem State.updTp_mgt (k : Nat) (f : TPort → TPort) : (s.updTp k f).mgt = s.mgt := rfl
@[simp] theorem State.updTp_tiles (k : Nat) (f : TPort → TPort) : (s.updTp k f).tiles = s.tiles := rfl
@[simp] theorem State.updTp_sram (k : Nat) (f : TPort → TPort) : (s.updTp k f).sram = s.sram := rfl
@[simp] theorem State.updTp_sramG (k : Nat) (f : TPort → TPort) : (s.updTp k f).sramG = s.sramG := rfl
@[simp] theorem State.updTp_slices (k : Nat) (f : TPort → TPort) : (s.updTp k f).slices = s.slices := rfl
@[simp] theorem State.updTp_sliceG (k : Nat) (f : TPort → TPort) : (s.updTp k f).sliceG = s.sliceG := rfl
@[simp] theorem State.updTp_flash (k : Nat) (f : TPort → TPort) : (s.updTp k f).flash = s.flash := rfl
@[simp] theorem State.updTp_runs (k : Nat) (f : TPort → TPort) : (s.updTp k f).runs = s.runs := rfl
@[simp] theorem State.updTp_ports (k : Nat) (f : TPort → TPort) : (s.updTp k f).ports = s.ports := rfl
@[simp] theorem State.updTp_routeSet (k : Nat) (f : TPort → TPort) : (s.updTp k f).routeSet = s.routeSet := rfl
@[simp] theorem State.updTp_routeWork (k : Nat) (f : TPort → TPort) : (s.updTp k f).routeWork = s.routeWork := rfl
@[simp] theorem State.updTp_proto (k : Nat) (f : TPort → TPort) : (s.updTp k f).proto = s.proto := rfl
@[simp] theorem State.updTp_snaps (k : Nat) (f : TPort → TPort) : (s.updTp k f).snaps = s.snaps := rfl
@[simp] theorem State.updTp_xfers (k : Nat) (f : TPort → TPort) : (s.updTp k f).xfers = s.xfers := rfl
@[simp] theorem State.updTp_pkts (k : Nat) (f : TPort → TPort) : (s.updTp k f).pkts = s.pkts := rfl
@[simp] theorem State.updTp_nextPkt (k : Nat) (f : TPort → TPort) : (s.updTp k f).nextPkt = s.nextPkt := rfl
@[simp] theorem State.updTp_shPages (k : Nat) (f : TPort → TPort) : (s.updTp k f).shPages = s.shPages := rfl
@[simp] theorem State.updTp_backing (k : Nat) (f : TPort → TPort) : (s.updTp k f).backing = s.backing := rfl
@[simp] theorem State.updTp_fetches (k : Nat) (f : TPort → TPort) : (s.updTp k f).fetches = s.fetches := rfl
@[simp] theorem State.updTp_passed (k : Nat) (f : TPort → TPort) : (s.updTp k f).passed = s.passed := rfl
@[simp] theorem State.updTp_readSeq (k : Nat) (f : TPort → TPort) : (s.updTp k f).readSeq = s.readSeq := rfl
@[simp] theorem State.updTp_pubs (k : Nat) (f : TPort → TPort) : (s.updTp k f).pubs = s.pubs := rfl
@[simp] theorem State.updTp_insts (k : Nat) (f : TPort → TPort) : (s.updTp k f).insts = s.insts := rfl
@[simp] theorem State.updTp_streamOps (k : Nat) (f : TPort → TPort) : (s.updTp k f).streamOps = s.streamOps := rfl
@[simp] theorem State.updTp_nextInst (k : Nat) (f : TPort → TPort) : (s.updTp k f).nextInst = s.nextInst := rfl
@[simp] theorem State.updTp_nextReq (k : Nat) (f : TPort → TPort) : (s.updTp k f).nextReq = s.nextReq := rfl
@[simp] theorem State.updTp_opProg (k : Nat) (f : TPort → TPort) : (s.updTp k f).opProg = s.opProg := rfl
@[simp] theorem State.updTp_out (k : Nat) (f : TPort → TPort) : (s.updTp k f).out = s.out := rfl
@[simp] theorem State.updTp_free (k : Nat) (f : TPort → TPort) : (s.updTp k f).free = s.free := rfl
@[simp] theorem State.updTp_pending (k : Nat) (f : TPort → TPort) : (s.updTp k f).pending = s.pending := rfl

@[simp] theorem State.updCol_fixed (n : Nat) (f : PartCol → PartCol) : (s.updCol n f).fixed = s.fixed := rfl
@[simp] theorem State.updCol_phase (n : Nat) (f : PartCol → PartCol) : (s.updCol n f).phase = s.phase := rfl
@[simp] theorem State.updCol_scratch (n : Nat) (f : PartCol → PartCol) : (s.updCol n f).scratch = s.scratch := rfl
@[simp] theorem State.updCol_rsShadow (n : Nat) (f : PartCol → PartCol) : (s.updCol n f).rsShadow = s.rsShadow := rfl
@[simp] theorem State.updCol_links (n : Nat) (f : PartCol → PartCol) : (s.updCol n f).links = s.links := rfl
@[simp] theorem State.updCol_rgn (n : Nat) (f : PartCol → PartCol) : (s.updCol n f).rgn = s.rgn := rfl
@[simp] theorem State.updCol_sync (n : Nat) (f : PartCol → PartCol) : (s.updCol n f).sync = s.sync := rfl
@[simp] theorem State.updCol_ops (n : Nat) (f : PartCol → PartCol) : (s.updCol n f).ops = s.ops := rfl
@[simp] theorem State.updCol_nextOp (n : Nat) (f : PartCol → PartCol) : (s.updCol n f).nextOp = s.nextOp := rfl
@[simp] theorem State.updCol_nextEnd (n : Nat) (f : PartCol → PartCol) : (s.updCol n f).nextEnd = s.nextEnd := rfl
@[simp] theorem State.updCol_rrPart (n : Nat) (f : PartCol → PartCol) : (s.updCol n f).rrPart = s.rrPart := rfl
@[simp] theorem State.updCol_cad (n : Nat) (f : PartCol → PartCol) : (s.updCol n f).cad = s.cad := rfl
@[simp] theorem State.updCol_fw (n : Nat) (f : PartCol → PartCol) : (s.updCol n f).fw = s.fw := rfl
@[simp] theorem State.updCol_sec (n : Nat) (f : PartCol → PartCol) : (s.updCol n f).sec = s.sec := rfl
@[simp] theorem State.updCol_portOwner (n : Nat) (f : PartCol → PartCol) : (s.updCol n f).portOwner = s.portOwner := rfl
@[simp] theorem State.updCol_pwr (n : Nat) (f : PartCol → PartCol) : (s.updCol n f).pwr = s.pwr := rfl
@[simp] theorem State.updCol_bru (n : Nat) (f : PartCol → PartCol) : (s.updCol n f).bru = s.bru := rfl
@[simp] theorem State.updCol_ras (n : Nat) (f : PartCol → PartCol) : (s.updCol n f).ras = s.ras := rfl
@[simp] theorem State.updCol_mgt (n : Nat) (f : PartCol → PartCol) : (s.updCol n f).mgt = s.mgt := rfl
@[simp] theorem State.updCol_tiles (n : Nat) (f : PartCol → PartCol) : (s.updCol n f).tiles = s.tiles := rfl
@[simp] theorem State.updCol_sram (n : Nat) (f : PartCol → PartCol) : (s.updCol n f).sram = s.sram := rfl
@[simp] theorem State.updCol_sramG (n : Nat) (f : PartCol → PartCol) : (s.updCol n f).sramG = s.sramG := rfl
@[simp] theorem State.updCol_slices (n : Nat) (f : PartCol → PartCol) : (s.updCol n f).slices = s.slices := rfl
@[simp] theorem State.updCol_sliceG (n : Nat) (f : PartCol → PartCol) : (s.updCol n f).sliceG = s.sliceG := rfl
@[simp] theorem State.updCol_flash (n : Nat) (f : PartCol → PartCol) : (s.updCol n f).flash = s.flash := rfl
@[simp] theorem State.updCol_runs (n : Nat) (f : PartCol → PartCol) : (s.updCol n f).runs = s.runs := rfl
@[simp] theorem State.updCol_ports (n : Nat) (f : PartCol → PartCol) : (s.updCol n f).ports = s.ports := rfl
@[simp] theorem State.updCol_tor (n : Nat) (f : PartCol → PartCol) : (s.updCol n f).tor = s.tor := rfl
@[simp] theorem State.updCol_routeSet (n : Nat) (f : PartCol → PartCol) : (s.updCol n f).routeSet = s.routeSet := rfl
@[simp] theorem State.updCol_routeWork (n : Nat) (f : PartCol → PartCol) : (s.updCol n f).routeWork = s.routeWork := rfl
@[simp] theorem State.updCol_proto (n : Nat) (f : PartCol → PartCol) : (s.updCol n f).proto = s.proto := rfl
@[simp] theorem State.updCol_snaps (n : Nat) (f : PartCol → PartCol) : (s.updCol n f).snaps = s.snaps := rfl
@[simp] theorem State.updCol_xfers (n : Nat) (f : PartCol → PartCol) : (s.updCol n f).xfers = s.xfers := rfl
@[simp] theorem State.updCol_pkts (n : Nat) (f : PartCol → PartCol) : (s.updCol n f).pkts = s.pkts := rfl
@[simp] theorem State.updCol_nextPkt (n : Nat) (f : PartCol → PartCol) : (s.updCol n f).nextPkt = s.nextPkt := rfl
@[simp] theorem State.updCol_shPages (n : Nat) (f : PartCol → PartCol) : (s.updCol n f).shPages = s.shPages := rfl
@[simp] theorem State.updCol_backing (n : Nat) (f : PartCol → PartCol) : (s.updCol n f).backing = s.backing := rfl
@[simp] theorem State.updCol_fetches (n : Nat) (f : PartCol → PartCol) : (s.updCol n f).fetches = s.fetches := rfl
@[simp] theorem State.updCol_passed (n : Nat) (f : PartCol → PartCol) : (s.updCol n f).passed = s.passed := rfl
@[simp] theorem State.updCol_readSeq (n : Nat) (f : PartCol → PartCol) : (s.updCol n f).readSeq = s.readSeq := rfl
@[simp] theorem State.updCol_pubs (n : Nat) (f : PartCol → PartCol) : (s.updCol n f).pubs = s.pubs := rfl
@[simp] theorem State.updCol_insts (n : Nat) (f : PartCol → PartCol) : (s.updCol n f).insts = s.insts := rfl
@[simp] theorem State.updCol_streamOps (n : Nat) (f : PartCol → PartCol) : (s.updCol n f).streamOps = s.streamOps := rfl
@[simp] theorem State.updCol_nextInst (n : Nat) (f : PartCol → PartCol) : (s.updCol n f).nextInst = s.nextInst := rfl
@[simp] theorem State.updCol_nextReq (n : Nat) (f : PartCol → PartCol) : (s.updCol n f).nextReq = s.nextReq := rfl
@[simp] theorem State.updCol_opProg (n : Nat) (f : PartCol → PartCol) : (s.updCol n f).opProg = s.opProg := rfl
@[simp] theorem State.updCol_out (n : Nat) (f : PartCol → PartCol) : (s.updCol n f).out = s.out := rfl
@[simp] theorem State.updCol_free (n : Nat) (f : PartCol → PartCol) : (s.updCol n f).free = s.free := rfl
@[simp] theorem State.updCol_pending (n : Nat) (f : PartCol → PartCol) : (s.updCol n f).pending = s.pending := rfl

@[simp] theorem State.updGrp_fixed (n g : Nat) (f : Group → Group) : (s.updGrp n g f).fixed = s.fixed := rfl
@[simp] theorem State.updGrp_phase (n g : Nat) (f : Group → Group) : (s.updGrp n g f).phase = s.phase := rfl
@[simp] theorem State.updGrp_scratch (n g : Nat) (f : Group → Group) : (s.updGrp n g f).scratch = s.scratch := rfl
@[simp] theorem State.updGrp_rsShadow (n g : Nat) (f : Group → Group) : (s.updGrp n g f).rsShadow = s.rsShadow := rfl
@[simp] theorem State.updGrp_links (n g : Nat) (f : Group → Group) : (s.updGrp n g f).links = s.links := rfl
@[simp] theorem State.updGrp_rgn (n g : Nat) (f : Group → Group) : (s.updGrp n g f).rgn = s.rgn := rfl
@[simp] theorem State.updGrp_sync (n g : Nat) (f : Group → Group) : (s.updGrp n g f).sync = s.sync := rfl
@[simp] theorem State.updGrp_ops (n g : Nat) (f : Group → Group) : (s.updGrp n g f).ops = s.ops := rfl
@[simp] theorem State.updGrp_nextOp (n g : Nat) (f : Group → Group) : (s.updGrp n g f).nextOp = s.nextOp := rfl
@[simp] theorem State.updGrp_nextEnd (n g : Nat) (f : Group → Group) : (s.updGrp n g f).nextEnd = s.nextEnd := rfl
@[simp] theorem State.updGrp_rrPart (n g : Nat) (f : Group → Group) : (s.updGrp n g f).rrPart = s.rrPart := rfl
@[simp] theorem State.updGrp_cad (n g : Nat) (f : Group → Group) : (s.updGrp n g f).cad = s.cad := rfl
@[simp] theorem State.updGrp_fw (n g : Nat) (f : Group → Group) : (s.updGrp n g f).fw = s.fw := rfl
@[simp] theorem State.updGrp_sec (n g : Nat) (f : Group → Group) : (s.updGrp n g f).sec = s.sec := rfl
@[simp] theorem State.updGrp_portOwner (n g : Nat) (f : Group → Group) : (s.updGrp n g f).portOwner = s.portOwner := rfl
@[simp] theorem State.updGrp_pwr (n g : Nat) (f : Group → Group) : (s.updGrp n g f).pwr = s.pwr := rfl
@[simp] theorem State.updGrp_bru (n g : Nat) (f : Group → Group) : (s.updGrp n g f).bru = s.bru := rfl
@[simp] theorem State.updGrp_ras (n g : Nat) (f : Group → Group) : (s.updGrp n g f).ras = s.ras := rfl
@[simp] theorem State.updGrp_mgt (n g : Nat) (f : Group → Group) : (s.updGrp n g f).mgt = s.mgt := rfl
@[simp] theorem State.updGrp_tiles (n g : Nat) (f : Group → Group) : (s.updGrp n g f).tiles = s.tiles := rfl
@[simp] theorem State.updGrp_sram (n g : Nat) (f : Group → Group) : (s.updGrp n g f).sram = s.sram := rfl
@[simp] theorem State.updGrp_sramG (n g : Nat) (f : Group → Group) : (s.updGrp n g f).sramG = s.sramG := rfl
@[simp] theorem State.updGrp_slices (n g : Nat) (f : Group → Group) : (s.updGrp n g f).slices = s.slices := rfl
@[simp] theorem State.updGrp_sliceG (n g : Nat) (f : Group → Group) : (s.updGrp n g f).sliceG = s.sliceG := rfl
@[simp] theorem State.updGrp_flash (n g : Nat) (f : Group → Group) : (s.updGrp n g f).flash = s.flash := rfl
@[simp] theorem State.updGrp_runs (n g : Nat) (f : Group → Group) : (s.updGrp n g f).runs = s.runs := rfl
@[simp] theorem State.updGrp_ports (n g : Nat) (f : Group → Group) : (s.updGrp n g f).ports = s.ports := rfl
@[simp] theorem State.updGrp_tor (n g : Nat) (f : Group → Group) : (s.updGrp n g f).tor = s.tor := rfl
@[simp] theorem State.updGrp_routeSet (n g : Nat) (f : Group → Group) : (s.updGrp n g f).routeSet = s.routeSet := rfl
@[simp] theorem State.updGrp_routeWork (n g : Nat) (f : Group → Group) : (s.updGrp n g f).routeWork = s.routeWork := rfl
@[simp] theorem State.updGrp_proto (n g : Nat) (f : Group → Group) : (s.updGrp n g f).proto = s.proto := rfl
@[simp] theorem State.updGrp_snaps (n g : Nat) (f : Group → Group) : (s.updGrp n g f).snaps = s.snaps := rfl
@[simp] theorem State.updGrp_xfers (n g : Nat) (f : Group → Group) : (s.updGrp n g f).xfers = s.xfers := rfl
@[simp] theorem State.updGrp_pkts (n g : Nat) (f : Group → Group) : (s.updGrp n g f).pkts = s.pkts := rfl
@[simp] theorem State.updGrp_nextPkt (n g : Nat) (f : Group → Group) : (s.updGrp n g f).nextPkt = s.nextPkt := rfl
@[simp] theorem State.updGrp_shPages (n g : Nat) (f : Group → Group) : (s.updGrp n g f).shPages = s.shPages := rfl
@[simp] theorem State.updGrp_backing (n g : Nat) (f : Group → Group) : (s.updGrp n g f).backing = s.backing := rfl
@[simp] theorem State.updGrp_fetches (n g : Nat) (f : Group → Group) : (s.updGrp n g f).fetches = s.fetches := rfl
@[simp] theorem State.updGrp_passed (n g : Nat) (f : Group → Group) : (s.updGrp n g f).passed = s.passed := rfl
@[simp] theorem State.updGrp_readSeq (n g : Nat) (f : Group → Group) : (s.updGrp n g f).readSeq = s.readSeq := rfl
@[simp] theorem State.updGrp_pubs (n g : Nat) (f : Group → Group) : (s.updGrp n g f).pubs = s.pubs := rfl
@[simp] theorem State.updGrp_insts (n g : Nat) (f : Group → Group) : (s.updGrp n g f).insts = s.insts := rfl
@[simp] theorem State.updGrp_streamOps (n g : Nat) (f : Group → Group) : (s.updGrp n g f).streamOps = s.streamOps := rfl
@[simp] theorem State.updGrp_nextInst (n g : Nat) (f : Group → Group) : (s.updGrp n g f).nextInst = s.nextInst := rfl
@[simp] theorem State.updGrp_nextReq (n g : Nat) (f : Group → Group) : (s.updGrp n g f).nextReq = s.nextReq := rfl
@[simp] theorem State.updGrp_opProg (n g : Nat) (f : Group → Group) : (s.updGrp n g f).opProg = s.opProg := rfl
@[simp] theorem State.updGrp_out (n g : Nat) (f : Group → Group) : (s.updGrp n g f).out = s.out := rfl
@[simp] theorem State.updGrp_free (n g : Nat) (f : Group → Group) : (s.updGrp n g f).free = s.free := rfl
@[simp] theorem State.updGrp_pending (n g : Nat) (f : Group → Group) : (s.updGrp n g f).pending = s.pending := rfl

end Sys2Proof.Machine
end

