-- ==== Sys2Proof/Laws/FrameBase.lean ====
section
/-! SUPPORT. Frames, one lemma an operation: the lemmas a frame proof folds with: a fold and a conditional keep what their parts keep. Each lemma lists the fields of State
the operation never writes; all are simp lemmas, so a proof about a command need not unfold them. -/

namespace Sys2Proof.Machine

open Host

@[simp] theorem foldl_keep_fixed {β : Type} (g : State → β → State) (l : List β) (s : State) (h : ∀ s x, (g s x).fixed = s.fixed) : (l.foldl g s).fixed = s.fixed := by
  induction l generalizing s with
  | nil => rfl
  | cons a r ih => rw [List.foldl_cons, ih, h]
@[simp] theorem ite_keep_fixed (c : Prop) [Decidable c] (x y : State) : (if c then x else y).fixed = if c then x.fixed else y.fixed := by split <;> rfl
@[simp] theorem foldl_keep_ops {β : Type} (g : State → β → State) (l : List β) (s : State) (h : ∀ s x, (g s x).ops = s.ops) : (l.foldl g s).ops = s.ops := by
  induction l generalizing s with
  | nil => rfl
  | cons a r ih => rw [List.foldl_cons, ih, h]
@[simp] theorem ite_keep_ops (c : Prop) [Decidable c] (x y : State) : (if c then x else y).ops = if c then x.ops else y.ops := by split <;> rfl
@[simp] theorem foldl_keep_cad {β : Type} (g : State → β → State) (l : List β) (s : State) (h : ∀ s x, (g s x).cad = s.cad) : (l.foldl g s).cad = s.cad := by
  induction l generalizing s with
  | nil => rfl
  | cons a r ih => rw [List.foldl_cons, ih, h]
@[simp] theorem ite_keep_cad (c : Prop) [Decidable c] (x y : State) : (if c then x else y).cad = if c then x.cad else y.cad := by split <;> rfl
@[simp] theorem foldl_keep_fw {β : Type} (g : State → β → State) (l : List β) (s : State) (h : ∀ s x, (g s x).fw = s.fw) : (l.foldl g s).fw = s.fw := by
  induction l generalizing s with
  | nil => rfl
  | cons a r ih => rw [List.foldl_cons, ih, h]
@[simp] theorem ite_keep_fw (c : Prop) [Decidable c] (x y : State) : (if c then x else y).fw = if c then x.fw else y.fw := by split <;> rfl
@[simp] theorem foldl_keep_sec {β : Type} (g : State → β → State) (l : List β) (s : State) (h : ∀ s x, (g s x).sec = s.sec) : (l.foldl g s).sec = s.sec := by
  induction l generalizing s with
  | nil => rfl
  | cons a r ih => rw [List.foldl_cons, ih, h]
@[simp] theorem ite_keep_sec (c : Prop) [Decidable c] (x y : State) : (if c then x else y).sec = if c then x.sec else y.sec := by split <;> rfl
@[simp] theorem foldl_keep_pwr {β : Type} (g : State → β → State) (l : List β) (s : State) (h : ∀ s x, (g s x).pwr = s.pwr) : (l.foldl g s).pwr = s.pwr := by
  induction l generalizing s with
  | nil => rfl
  | cons a r ih => rw [List.foldl_cons, ih, h]
@[simp] theorem ite_keep_pwr (c : Prop) [Decidable c] (x y : State) : (if c then x else y).pwr = if c then x.pwr else y.pwr := by split <;> rfl
@[simp] theorem foldl_keep_ras {β : Type} (g : State → β → State) (l : List β) (s : State) (h : ∀ s x, (g s x).ras = s.ras) : (l.foldl g s).ras = s.ras := by
  induction l generalizing s with
  | nil => rfl
  | cons a r ih => rw [List.foldl_cons, ih, h]
@[simp] theorem ite_keep_ras (c : Prop) [Decidable c] (x y : State) : (if c then x else y).ras = if c then x.ras else y.ras := by split <;> rfl
@[simp] theorem foldl_keep_mgt {β : Type} (g : State → β → State) (l : List β) (s : State) (h : ∀ s x, (g s x).mgt = s.mgt) : (l.foldl g s).mgt = s.mgt := by
  induction l generalizing s with
  | nil => rfl
  | cons a r ih => rw [List.foldl_cons, ih, h]
@[simp] theorem ite_keep_mgt (c : Prop) [Decidable c] (x y : State) : (if c then x else y).mgt = if c then x.mgt else y.mgt := by split <;> rfl
@[simp] theorem foldl_keep_tiles {β : Type} (g : State → β → State) (l : List β) (s : State) (h : ∀ s x, (g s x).tiles = s.tiles) : (l.foldl g s).tiles = s.tiles := by
  induction l generalizing s with
  | nil => rfl
  | cons a r ih => rw [List.foldl_cons, ih, h]
@[simp] theorem ite_keep_tiles (c : Prop) [Decidable c] (x y : State) : (if c then x else y).tiles = if c then x.tiles else y.tiles := by split <;> rfl
@[simp] theorem foldl_keep_sram {β : Type} (g : State → β → State) (l : List β) (s : State) (h : ∀ s x, (g s x).sram = s.sram) : (l.foldl g s).sram = s.sram := by
  induction l generalizing s with
  | nil => rfl
  | cons a r ih => rw [List.foldl_cons, ih, h]
@[simp] theorem ite_keep_sram (c : Prop) [Decidable c] (x y : State) : (if c then x else y).sram = if c then x.sram else y.sram := by split <;> rfl
@[simp] theorem foldl_keep_sramG {β : Type} (g : State → β → State) (l : List β) (s : State) (h : ∀ s x, (g s x).sramG = s.sramG) : (l.foldl g s).sramG = s.sramG := by
  induction l generalizing s with
  | nil => rfl
  | cons a r ih => rw [List.foldl_cons, ih, h]
@[simp] theorem ite_keep_sramG (c : Prop) [Decidable c] (x y : State) : (if c then x else y).sramG = if c then x.sramG else y.sramG := by split <;> rfl
@[simp] theorem foldl_keep_slices {β : Type} (g : State → β → State) (l : List β) (s : State) (h : ∀ s x, (g s x).slices = s.slices) : (l.foldl g s).slices = s.slices := by
  induction l generalizing s with
  | nil => rfl
  | cons a r ih => rw [List.foldl_cons, ih, h]
@[simp] theorem ite_keep_slices (c : Prop) [Decidable c] (x y : State) : (if c then x else y).slices = if c then x.slices else y.slices := by split <;> rfl
@[simp] theorem foldl_keep_sliceG {β : Type} (g : State → β → State) (l : List β) (s : State) (h : ∀ s x, (g s x).sliceG = s.sliceG) : (l.foldl g s).sliceG = s.sliceG := by
  induction l generalizing s with
  | nil => rfl
  | cons a r ih => rw [List.foldl_cons, ih, h]
@[simp] theorem ite_keep_sliceG (c : Prop) [Decidable c] (x y : State) : (if c then x else y).sliceG = if c then x.sliceG else y.sliceG := by split <;> rfl
@[simp] theorem foldl_keep_flash {β : Type} (g : State → β → State) (l : List β) (s : State) (h : ∀ s x, (g s x).flash = s.flash) : (l.foldl g s).flash = s.flash := by
  induction l generalizing s with
  | nil => rfl
  | cons a r ih => rw [List.foldl_cons, ih, h]
@[simp] theorem ite_keep_flash (c : Prop) [Decidable c] (x y : State) : (if c then x else y).flash = if c then x.flash else y.flash := by split <;> rfl
@[simp] theorem foldl_keep_tor {β : Type} (g : State → β → State) (l : List β) (s : State) (h : ∀ s x, (g s x).tor = s.tor) : (l.foldl g s).tor = s.tor := by
  induction l generalizing s with
  | nil => rfl
  | cons a r ih => rw [List.foldl_cons, ih, h]
@[simp] theorem ite_keep_tor (c : Prop) [Decidable c] (x y : State) : (if c then x else y).tor = if c then x.tor else y.tor := by split <;> rfl
@[simp] theorem foldl_keep_pending {β : Type} (g : State → β → State) (l : List β) (s : State) (h : ∀ s x, (g s x).pending = s.pending) : (l.foldl g s).pending = s.pending := by
  induction l generalizing s with
  | nil => rfl
  | cons a r ih => rw [List.foldl_cons, ih, h]
@[simp] theorem ite_keep_pending (c : Prop) [Decidable c] (x y : State) : (if c then x else y).pending = if c then x.pending else y.pending := by split <;> rfl

end Sys2Proof.Machine
end

