-- ==== Sys2Proof/Laws/FrameOps.lean ====
section
/-! SUPPORT. Frames, one lemma an operation: what each operation of the shared layers (operands, links, routes, rings, torus, tiers, clock, firmware, fault taking) leaves alone. Each lemma lists the fields of State
the operation never writes; all are simp lemmas, so a proof about a command need not unfold them. -/

namespace Sys2Proof.Machine

open Host

@[simp] theorem State.updEp_keeps (s : State) (e : Ep) (f : Endpoint → Endpoint) :
    (State.updEp s e f).fixed = s.fixed ∧
    (State.updEp s e f).ops = s.ops ∧
    (State.updEp s e f).cad = s.cad ∧
    (State.updEp s e f).fw = s.fw ∧
    (State.updEp s e f).sec = s.sec ∧
    (State.updEp s e f).pwr = s.pwr ∧
    (State.updEp s e f).ras = s.ras ∧
    (State.updEp s e f).mgt = s.mgt ∧
    (State.updEp s e f).tiles = s.tiles ∧
    (State.updEp s e f).sram = s.sram ∧
    (State.updEp s e f).sramG = s.sramG ∧
    (State.updEp s e f).slices = s.slices ∧
    (State.updEp s e f).sliceG = s.sliceG ∧
    (State.updEp s e f).flash = s.flash ∧
    (State.updEp s e f).tor = s.tor ∧
    (State.updEp s e f).pending = s.pending := by
  unfold State.updEp; split <;> simp -implicitDefEqProofs

@[simp] theorem State.postTo_keeps (s : State) (ep : Ep) (e : Event) :
    (State.postTo s ep e).fixed = s.fixed ∧
    (State.postTo s ep e).ops = s.ops ∧
    (State.postTo s ep e).cad = s.cad ∧
    (State.postTo s ep e).fw = s.fw ∧
    (State.postTo s ep e).sec = s.sec ∧
    (State.postTo s ep e).pwr = s.pwr ∧
    (State.postTo s ep e).ras = s.ras ∧
    (State.postTo s ep e).mgt = s.mgt ∧
    (State.postTo s ep e).tiles = s.tiles ∧
    (State.postTo s ep e).sram = s.sram ∧
    (State.postTo s ep e).sramG = s.sramG ∧
    (State.postTo s ep e).slices = s.slices ∧
    (State.postTo s ep e).sliceG = s.sliceG ∧
    (State.postTo s ep e).flash = s.flash ∧
    (State.postTo s ep e).tor = s.tor ∧
    (State.postTo s ep e).pending = s.pending := by
  unfold State.postTo; simp -implicitDefEqProofs

@[simp] theorem State.postModule_keeps (s : State) (code : ℕ) (kind : ℕ) (src : ℕ) (data : ℕ) :
    (State.postModule s code kind src data).fixed = s.fixed ∧
    (State.postModule s code kind src data).ops = s.ops ∧
    (State.postModule s code kind src data).cad = s.cad ∧
    (State.postModule s code kind src data).fw = s.fw ∧
    (State.postModule s code kind src data).sec = s.sec ∧
    (State.postModule s code kind src data).pwr = s.pwr ∧
    (State.postModule s code kind src data).ras = s.ras ∧
    (State.postModule s code kind src data).mgt = s.mgt ∧
    (State.postModule s code kind src data).tiles = s.tiles ∧
    (State.postModule s code kind src data).sram = s.sram ∧
    (State.postModule s code kind src data).sramG = s.sramG ∧
    (State.postModule s code kind src data).slices = s.slices ∧
    (State.postModule s code kind src data).sliceG = s.sliceG ∧
    (State.postModule s code kind src data).flash = s.flash ∧
    (State.postModule s code kind src data).tor = s.tor ∧
    (State.postModule s code kind src data).pending = s.pending := by
  unfold State.postModule; simp -implicitDefEqProofs

@[simp] theorem State.postPartKind_keeps (s : State) (n : ℕ) (code : ℕ) (kind : ℕ) (src : ℕ) (data : ℕ) :
    (State.postPartKind s n code kind src data).fixed = s.fixed ∧
    (State.postPartKind s n code kind src data).ops = s.ops ∧
    (State.postPartKind s n code kind src data).cad = s.cad ∧
    (State.postPartKind s n code kind src data).fw = s.fw ∧
    (State.postPartKind s n code kind src data).sec = s.sec ∧
    (State.postPartKind s n code kind src data).pwr = s.pwr ∧
    (State.postPartKind s n code kind src data).ras = s.ras ∧
    (State.postPartKind s n code kind src data).mgt = s.mgt ∧
    (State.postPartKind s n code kind src data).tiles = s.tiles ∧
    (State.postPartKind s n code kind src data).sram = s.sram ∧
    (State.postPartKind s n code kind src data).sramG = s.sramG ∧
    (State.postPartKind s n code kind src data).slices = s.slices ∧
    (State.postPartKind s n code kind src data).sliceG = s.sliceG ∧
    (State.postPartKind s n code kind src data).flash = s.flash ∧
    (State.postPartKind s n code kind src data).tor = s.tor ∧
    (State.postPartKind s n code kind src data).pending = s.pending := by
  unfold State.postPartKind; simp -implicitDefEqProofs

@[simp] theorem State.postPart_keeps (s : State) (n : ℕ) (code : ℕ) (data : ℕ) :
    (State.postPart s n code data).fixed = s.fixed ∧
    (State.postPart s n code data).ops = s.ops ∧
    (State.postPart s n code data).cad = s.cad ∧
    (State.postPart s n code data).fw = s.fw ∧
    (State.postPart s n code data).sec = s.sec ∧
    (State.postPart s n code data).pwr = s.pwr ∧
    (State.postPart s n code data).ras = s.ras ∧
    (State.postPart s n code data).mgt = s.mgt ∧
    (State.postPart s n code data).tiles = s.tiles ∧
    (State.postPart s n code data).sram = s.sram ∧
    (State.postPart s n code data).sramG = s.sramG ∧
    (State.postPart s n code data).slices = s.slices ∧
    (State.postPart s n code data).sliceG = s.sliceG ∧
    (State.postPart s n code data).flash = s.flash ∧
    (State.postPart s n code data).tor = s.tor ∧
    (State.postPart s n code data).pending = s.pending := by
  unfold State.postPart; simp -implicitDefEqProofs

@[simp] theorem State.postLink_keeps (s : State) (k : ℕ) (code : ℕ) (data : ℕ) :
    (State.postLink s k code data).fixed = s.fixed ∧
    (State.postLink s k code data).ops = s.ops ∧
    (State.postLink s k code data).cad = s.cad ∧
    (State.postLink s k code data).fw = s.fw ∧
    (State.postLink s k code data).sec = s.sec ∧
    (State.postLink s k code data).pwr = s.pwr ∧
    (State.postLink s k code data).ras = s.ras ∧
    (State.postLink s k code data).mgt = s.mgt ∧
    (State.postLink s k code data).tiles = s.tiles ∧
    (State.postLink s k code data).sram = s.sram ∧
    (State.postLink s k code data).sramG = s.sramG ∧
    (State.postLink s k code data).slices = s.slices ∧
    (State.postLink s k code data).sliceG = s.sliceG ∧
    (State.postLink s k code data).flash = s.flash ∧
    (State.postLink s k code data).tor = s.tor ∧
    (State.postLink s k code data).pending = s.pending := by
  unfold State.postLink; simp -implicitDefEqProofs

@[simp] theorem State.writeReply_keeps (s : State) (ep : Ep) (r : Reply) :
    (State.writeReply s ep r).fixed = s.fixed ∧
    (State.writeReply s ep r).ops = s.ops ∧
    (State.writeReply s ep r).cad = s.cad ∧
    (State.writeReply s ep r).fw = s.fw ∧
    (State.writeReply s ep r).sec = s.sec ∧
    (State.writeReply s ep r).pwr = s.pwr ∧
    (State.writeReply s ep r).ras = s.ras ∧
    (State.writeReply s ep r).mgt = s.mgt ∧
    (State.writeReply s ep r).tiles = s.tiles ∧
    (State.writeReply s ep r).sram = s.sram ∧
    (State.writeReply s ep r).sramG = s.sramG ∧
    (State.writeReply s ep r).slices = s.slices ∧
    (State.writeReply s ep r).sliceG = s.sliceG ∧
    (State.writeReply s ep r).flash = s.flash ∧
    (State.writeReply s ep r).tor = s.tor ∧
    (State.writeReply s ep r).pending = s.pending := by
  unfold State.writeReply; simp -implicitDefEqProofs

@[simp] theorem State.loseReply_keeps (s : State) (ep : Ep) :
    (State.loseReply s ep).fixed = s.fixed ∧
    (State.loseReply s ep).ops = s.ops ∧
    (State.loseReply s ep).cad = s.cad ∧
    (State.loseReply s ep).fw = s.fw ∧
    (State.loseReply s ep).sec = s.sec ∧
    (State.loseReply s ep).pwr = s.pwr ∧
    (State.loseReply s ep).ras = s.ras ∧
    (State.loseReply s ep).mgt = s.mgt ∧
    (State.loseReply s ep).tiles = s.tiles ∧
    (State.loseReply s ep).sram = s.sram ∧
    (State.loseReply s ep).sramG = s.sramG ∧
    (State.loseReply s ep).slices = s.slices ∧
    (State.loseReply s ep).sliceG = s.sliceG ∧
    (State.loseReply s ep).flash = s.flash ∧
    (State.loseReply s ep).tor = s.tor ∧
    (State.loseReply s ep).pending = s.pending := by
  unfold State.loseReply; simp -implicitDefEqProofs

@[simp] theorem State.replyDue_keeps (s : State) (ep : Ep) (r : Reply) :
    (State.replyDue s ep r).fixed = s.fixed ∧
    (State.replyDue s ep r).ops = s.ops ∧
    (State.replyDue s ep r).cad = s.cad ∧
    (State.replyDue s ep r).fw = s.fw ∧
    (State.replyDue s ep r).sec = s.sec ∧
    (State.replyDue s ep r).pwr = s.pwr ∧
    (State.replyDue s ep r).ras = s.ras ∧
    (State.replyDue s ep r).mgt = s.mgt ∧
    (State.replyDue s ep r).tiles = s.tiles ∧
    (State.replyDue s ep r).sram = s.sram ∧
    (State.replyDue s ep r).sramG = s.sramG ∧
    (State.replyDue s ep r).slices = s.slices ∧
    (State.replyDue s ep r).sliceG = s.sliceG ∧
    (State.replyDue s ep r).flash = s.flash ∧
    (State.replyDue s ep r).tor = s.tor ∧
    (State.replyDue s ep r).pending = s.pending := by
  unfold State.replyDue; simp -implicitDefEqProofs

@[simp] theorem State.reply_keeps (s : State) (m : Msg) (id : ℕ) (handler : ℕ) (result : ℕ) (payload : List Sys2Proof.Byte) :
    (State.reply s m id handler result payload).fixed = s.fixed ∧
    (State.reply s m id handler result payload).ops = s.ops ∧
    (State.reply s m id handler result payload).cad = s.cad ∧
    (State.reply s m id handler result payload).fw = s.fw ∧
    (State.reply s m id handler result payload).sec = s.sec ∧
    (State.reply s m id handler result payload).pwr = s.pwr ∧
    (State.reply s m id handler result payload).ras = s.ras ∧
    (State.reply s m id handler result payload).mgt = s.mgt ∧
    (State.reply s m id handler result payload).tiles = s.tiles ∧
    (State.reply s m id handler result payload).sram = s.sram ∧
    (State.reply s m id handler result payload).sramG = s.sramG ∧
    (State.reply s m id handler result payload).slices = s.slices ∧
    (State.reply s m id handler result payload).sliceG = s.sliceG ∧
    (State.reply s m id handler result payload).flash = s.flash ∧
    (State.reply s m id handler result payload).tor = s.tor ∧
    (State.reply s m id handler result payload).pending = s.pending := by
  unfold State.reply; split <;> simp -implicitDefEqProofs

@[simp] theorem State.setCore_keeps (s : State) (c : CoreId) (x : Core) :
    (State.setCore s c x).fixed = s.fixed ∧
    (State.setCore s c x).ops = s.ops ∧
    (State.setCore s c x).cad = s.cad ∧
    (State.setCore s c x).sec = s.sec ∧
    (State.setCore s c x).pwr = s.pwr ∧
    (State.setCore s c x).ras = s.ras ∧
    (State.setCore s c x).mgt = s.mgt ∧
    (State.setCore s c x).tiles = s.tiles ∧
    (State.setCore s c x).sram = s.sram ∧
    (State.setCore s c x).sramG = s.sramG ∧
    (State.setCore s c x).slices = s.slices ∧
    (State.setCore s c x).sliceG = s.sliceG ∧
    (State.setCore s c x).flash = s.flash ∧
    (State.setCore s c x).tor = s.tor ∧
    (State.setCore s c x).pending = s.pending := by
  unfold State.setCore; split <;> simp -implicitDefEqProofs

@[simp] theorem State.takeMsg_keeps (s : State) (id : ℕ) (m : Msg) :
    (State.takeMsg s id m).fixed = s.fixed ∧
    (State.takeMsg s id m).ops = s.ops ∧
    (State.takeMsg s id m).cad = s.cad ∧
    (State.takeMsg s id m).sec = s.sec ∧
    (State.takeMsg s id m).pwr = s.pwr ∧
    (State.takeMsg s id m).ras = s.ras ∧
    (State.takeMsg s id m).mgt = s.mgt ∧
    (State.takeMsg s id m).tiles = s.tiles ∧
    (State.takeMsg s id m).sram = s.sram ∧
    (State.takeMsg s id m).sramG = s.sramG ∧
    (State.takeMsg s id m).slices = s.slices ∧
    (State.takeMsg s id m).sliceG = s.sliceG ∧
    (State.takeMsg s id m).flash = s.flash ∧
    (State.takeMsg s id m).tor = s.tor ∧
    (State.takeMsg s id m).pending = s.pending := by
  unfold State.takeMsg; simp -implicitDefEqProofs

@[simp] theorem State.syncSet_keeps (s : State) (o : ℕ) (v : Sys2Proof.W64) :
    (State.syncSet s o v).fixed = s.fixed ∧
    (State.syncSet s o v).ops = s.ops ∧
    (State.syncSet s o v).cad = s.cad ∧
    (State.syncSet s o v).fw = s.fw ∧
    (State.syncSet s o v).sec = s.sec ∧
    (State.syncSet s o v).pwr = s.pwr ∧
    (State.syncSet s o v).ras = s.ras ∧
    (State.syncSet s o v).mgt = s.mgt ∧
    (State.syncSet s o v).tiles = s.tiles ∧
    (State.syncSet s o v).sram = s.sram ∧
    (State.syncSet s o v).sramG = s.sramG ∧
    (State.syncSet s o v).slices = s.slices ∧
    (State.syncSet s o v).sliceG = s.sliceG ∧
    (State.syncSet s o v).flash = s.flash ∧
    (State.syncSet s o v).tor = s.tor ∧
    (State.syncSet s o v).pending = s.pending := by
  unfold State.syncSet; (try dsimp only); (repeat' split) <;> simp -implicitDefEqProofs

@[simp] theorem State.syncAdd_keeps (s : State) (o : ℕ) (v : Sys2Proof.W64) :
    (State.syncAdd s o v).fixed = s.fixed ∧
    (State.syncAdd s o v).ops = s.ops ∧
    (State.syncAdd s o v).cad = s.cad ∧
    (State.syncAdd s o v).fw = s.fw ∧
    (State.syncAdd s o v).sec = s.sec ∧
    (State.syncAdd s o v).pwr = s.pwr ∧
    (State.syncAdd s o v).ras = s.ras ∧
    (State.syncAdd s o v).mgt = s.mgt ∧
    (State.syncAdd s o v).tiles = s.tiles ∧
    (State.syncAdd s o v).sram = s.sram ∧
    (State.syncAdd s o v).sramG = s.sramG ∧
    (State.syncAdd s o v).slices = s.slices ∧
    (State.syncAdd s o v).sliceG = s.sliceG ∧
    (State.syncAdd s o v).flash = s.flash ∧
    (State.syncAdd s o v).tor = s.tor ∧
    (State.syncAdd s o v).pending = s.pending := by
  unfold State.syncAdd; simp -implicitDefEqProofs

@[simp] theorem State.endOp_keeps (s : State) (i : ℕ) (status : ℕ) (detail : ℕ) :
    (State.endOp s i status detail).fixed = s.fixed ∧
    (State.endOp s i status detail).cad = s.cad ∧
    (State.endOp s i status detail).fw = s.fw ∧
    (State.endOp s i status detail).sec = s.sec ∧
    (State.endOp s i status detail).pwr = s.pwr ∧
    (State.endOp s i status detail).ras = s.ras ∧
    (State.endOp s i status detail).mgt = s.mgt ∧
    (State.endOp s i status detail).tiles = s.tiles ∧
    (State.endOp s i status detail).sram = s.sram ∧
    (State.endOp s i status detail).sramG = s.sramG ∧
    (State.endOp s i status detail).slices = s.slices ∧
    (State.endOp s i status detail).sliceG = s.sliceG ∧
    (State.endOp s i status detail).flash = s.flash ∧
    (State.endOp s i status detail).tor = s.tor ∧
    (State.endOp s i status detail).pending = s.pending := by
  unfold State.endOp; simp -implicitDefEqProofs

@[simp] theorem State.rejectOp_keeps (s : State) (i : ℕ) (status : ℕ) (detail : ℕ) :
    (State.rejectOp s i status detail).fixed = s.fixed ∧
    (State.rejectOp s i status detail).cad = s.cad ∧
    (State.rejectOp s i status detail).fw = s.fw ∧
    (State.rejectOp s i status detail).sec = s.sec ∧
    (State.rejectOp s i status detail).pwr = s.pwr ∧
    (State.rejectOp s i status detail).ras = s.ras ∧
    (State.rejectOp s i status detail).mgt = s.mgt ∧
    (State.rejectOp s i status detail).tiles = s.tiles ∧
    (State.rejectOp s i status detail).sram = s.sram ∧
    (State.rejectOp s i status detail).sramG = s.sramG ∧
    (State.rejectOp s i status detail).slices = s.slices ∧
    (State.rejectOp s i status detail).sliceG = s.sliceG ∧
    (State.rejectOp s i status detail).flash = s.flash ∧
    (State.rejectOp s i status detail).tor = s.tor ∧
    (State.rejectOp s i status detail).pending = s.pending := by
  unfold State.rejectOp; simp -implicitDefEqProofs

@[simp] theorem State.drainRing_keeps (s : State) (n : ℕ) (k : ℕ) :
    (State.drainRing s n k).fixed = s.fixed ∧
    (State.drainRing s n k).ops = s.ops ∧
    (State.drainRing s n k).cad = s.cad ∧
    (State.drainRing s n k).fw = s.fw ∧
    (State.drainRing s n k).sec = s.sec ∧
    (State.drainRing s n k).pwr = s.pwr ∧
    (State.drainRing s n k).ras = s.ras ∧
    (State.drainRing s n k).mgt = s.mgt ∧
    (State.drainRing s n k).tiles = s.tiles ∧
    (State.drainRing s n k).sram = s.sram ∧
    (State.drainRing s n k).sramG = s.sramG ∧
    (State.drainRing s n k).slices = s.slices ∧
    (State.drainRing s n k).sliceG = s.sliceG ∧
    (State.drainRing s n k).flash = s.flash ∧
    (State.drainRing s n k).tor = s.tor ∧
    (State.drainRing s n k).pending = s.pending := by
  unfold State.drainRing; simp -implicitDefEqProofs

@[simp] theorem State.retireOp_keeps (s : State) (o : Op) :
    (State.retireOp s o).fixed = s.fixed ∧
    (State.retireOp s o).cad = s.cad ∧
    (State.retireOp s o).fw = s.fw ∧
    (State.retireOp s o).sec = s.sec ∧
    (State.retireOp s o).pwr = s.pwr ∧
    (State.retireOp s o).ras = s.ras ∧
    (State.retireOp s o).mgt = s.mgt ∧
    (State.retireOp s o).tiles = s.tiles ∧
    (State.retireOp s o).sram = s.sram ∧
    (State.retireOp s o).sramG = s.sramG ∧
    (State.retireOp s o).slices = s.slices ∧
    (State.retireOp s o).sliceG = s.sliceG ∧
    (State.retireOp s o).flash = s.flash ∧
    (State.retireOp s o).tor = s.tor ∧
    (State.retireOp s o).pending = s.pending := by
  unfold State.retireOp; simp -implicitDefEqProofs

@[simp] theorem State.writeCompletion_keeps (s : State) (o : Op) :
    (State.writeCompletion s o).fixed = s.fixed ∧
    (State.writeCompletion s o).cad = s.cad ∧
    (State.writeCompletion s o).fw = s.fw ∧
    (State.writeCompletion s o).sec = s.sec ∧
    (State.writeCompletion s o).pwr = s.pwr ∧
    (State.writeCompletion s o).ras = s.ras ∧
    (State.writeCompletion s o).mgt = s.mgt ∧
    (State.writeCompletion s o).tiles = s.tiles ∧
    (State.writeCompletion s o).sram = s.sram ∧
    (State.writeCompletion s o).sramG = s.sramG ∧
    (State.writeCompletion s o).slices = s.slices ∧
    (State.writeCompletion s o).sliceG = s.sliceG ∧
    (State.writeCompletion s o).flash = s.flash ∧
    (State.writeCompletion s o).tor = s.tor ∧
    (State.writeCompletion s o).pending = s.pending := by
  unfold State.writeCompletion; simp -implicitDefEqProofs

@[simp] theorem State.headerSignal_keeps (s : State) (o : Op) :
    (State.headerSignal s o).fixed = s.fixed ∧
    (State.headerSignal s o).ops = s.ops ∧
    (State.headerSignal s o).cad = s.cad ∧
    (State.headerSignal s o).fw = s.fw ∧
    (State.headerSignal s o).sec = s.sec ∧
    (State.headerSignal s o).pwr = s.pwr ∧
    (State.headerSignal s o).ras = s.ras ∧
    (State.headerSignal s o).mgt = s.mgt ∧
    (State.headerSignal s o).tiles = s.tiles ∧
    (State.headerSignal s o).sram = s.sram ∧
    (State.headerSignal s o).sramG = s.sramG ∧
    (State.headerSignal s o).slices = s.slices ∧
    (State.headerSignal s o).sliceG = s.sliceG ∧
    (State.headerSignal s o).flash = s.flash ∧
    (State.headerSignal s o).tor = s.tor ∧
    (State.headerSignal s o).pending = s.pending := by
  unfold State.headerSignal; simp -implicitDefEqProofs

@[simp] theorem State.completeOp_keeps (s : State) (i : ℕ) :
    (State.completeOp s i).fixed = s.fixed ∧
    (State.completeOp s i).cad = s.cad ∧
    (State.completeOp s i).fw = s.fw ∧
    (State.completeOp s i).sec = s.sec ∧
    (State.completeOp s i).pwr = s.pwr ∧
    (State.completeOp s i).ras = s.ras ∧
    (State.completeOp s i).mgt = s.mgt ∧
    (State.completeOp s i).tiles = s.tiles ∧
    (State.completeOp s i).sram = s.sram ∧
    (State.completeOp s i).sramG = s.sramG ∧
    (State.completeOp s i).slices = s.slices ∧
    (State.completeOp s i).sliceG = s.sliceG ∧
    (State.completeOp s i).flash = s.flash ∧
    (State.completeOp s i).tor = s.tor ∧
    (State.completeOp s i).pending = s.pending := by
  unfold State.completeOp; split <;> simp -implicitDefEqProofs

@[simp] theorem State.releaseItem_keeps (s : State) (ep : Ep) (h : Held) :
    (State.releaseItem s ep h).fixed = s.fixed ∧
    (State.releaseItem s ep h).cad = s.cad ∧
    (State.releaseItem s ep h).fw = s.fw ∧
    (State.releaseItem s ep h).sec = s.sec ∧
    (State.releaseItem s ep h).pwr = s.pwr ∧
    (State.releaseItem s ep h).ras = s.ras ∧
    (State.releaseItem s ep h).mgt = s.mgt ∧
    (State.releaseItem s ep h).tiles = s.tiles ∧
    (State.releaseItem s ep h).sram = s.sram ∧
    (State.releaseItem s ep h).sramG = s.sramG ∧
    (State.releaseItem s ep h).slices = s.slices ∧
    (State.releaseItem s ep h).sliceG = s.sliceG ∧
    (State.releaseItem s ep h).flash = s.flash ∧
    (State.releaseItem s ep h).tor = s.tor ∧
    (State.releaseItem s ep h).pending = s.pending := by
  unfold State.releaseItem; (try dsimp only); (repeat' split) <;> simp -implicitDefEqProofs

@[simp] theorem State.releaseHeld_keeps (s : State) (ep : Ep) :
    (State.releaseHeld s ep).fixed = s.fixed ∧
    (State.releaseHeld s ep).cad = s.cad ∧
    (State.releaseHeld s ep).fw = s.fw ∧
    (State.releaseHeld s ep).sec = s.sec ∧
    (State.releaseHeld s ep).pwr = s.pwr ∧
    (State.releaseHeld s ep).ras = s.ras ∧
    (State.releaseHeld s ep).mgt = s.mgt ∧
    (State.releaseHeld s ep).tiles = s.tiles ∧
    (State.releaseHeld s ep).sram = s.sram ∧
    (State.releaseHeld s ep).sramG = s.sramG ∧
    (State.releaseHeld s ep).slices = s.slices ∧
    (State.releaseHeld s ep).sliceG = s.sliceG ∧
    (State.releaseHeld s ep).flash = s.flash ∧
    (State.releaseHeld s ep).tor = s.tor ∧
    (State.releaseHeld s ep).pending = s.pending := by
  unfold State.releaseHeld; simp -implicitDefEqProofs

@[simp] theorem State.releaseAll_keeps (s : State) :
    (State.releaseAll s).fixed = s.fixed ∧
    (State.releaseAll s).cad = s.cad ∧
    (State.releaseAll s).fw = s.fw ∧
    (State.releaseAll s).sec = s.sec ∧
    (State.releaseAll s).pwr = s.pwr ∧
    (State.releaseAll s).ras = s.ras ∧
    (State.releaseAll s).mgt = s.mgt ∧
    (State.releaseAll s).tiles = s.tiles ∧
    (State.releaseAll s).sram = s.sram ∧
    (State.releaseAll s).sramG = s.sramG ∧
    (State.releaseAll s).slices = s.slices ∧
    (State.releaseAll s).sliceG = s.sliceG ∧
    (State.releaseAll s).flash = s.flash ∧
    (State.releaseAll s).tor = s.tor ∧
    (State.releaseAll s).pending = s.pending := by
  unfold State.releaseAll; simp -implicitDefEqProofs

@[simp] theorem State.beginReset_keeps (s : State) (n : ℕ) (cause : ℕ) :
    (State.beginReset s n cause).fixed = s.fixed ∧
    (State.beginReset s n cause).ops = s.ops ∧
    (State.beginReset s n cause).cad = s.cad ∧
    (State.beginReset s n cause).fw = s.fw ∧
    (State.beginReset s n cause).sec = s.sec ∧
    (State.beginReset s n cause).pwr = s.pwr ∧
    (State.beginReset s n cause).ras = s.ras ∧
    (State.beginReset s n cause).mgt = s.mgt ∧
    (State.beginReset s n cause).tiles = s.tiles ∧
    (State.beginReset s n cause).sram = s.sram ∧
    (State.beginReset s n cause).sramG = s.sramG ∧
    (State.beginReset s n cause).slices = s.slices ∧
    (State.beginReset s n cause).sliceG = s.sliceG ∧
    (State.beginReset s n cause).flash = s.flash ∧
    (State.beginReset s n cause).tor = s.tor ∧
    (State.beginReset s n cause).pending = s.pending := by
  unfold State.beginReset; simp -implicitDefEqProofs

@[simp] theorem State.unitWrite_keeps (s : State) (t : ℕ) (a : ℕ) (data : List Sys2Proof.Byte) (bad : Bool) :
    (State.unitWrite s t a data bad).fixed = s.fixed ∧
    (State.unitWrite s t a data bad).ops = s.ops ∧
    (State.unitWrite s t a data bad).cad = s.cad ∧
    (State.unitWrite s t a data bad).fw = s.fw ∧
    (State.unitWrite s t a data bad).sec = s.sec ∧
    (State.unitWrite s t a data bad).pwr = s.pwr ∧
    (State.unitWrite s t a data bad).ras = s.ras ∧
    (State.unitWrite s t a data bad).mgt = s.mgt ∧
    (State.unitWrite s t a data bad).tiles = s.tiles ∧
    (State.unitWrite s t a data bad).slices = s.slices ∧
    (State.unitWrite s t a data bad).sliceG = s.sliceG ∧
    (State.unitWrite s t a data bad).flash = s.flash ∧
    (State.unitWrite s t a data bad).tor = s.tor ∧
    (State.unitWrite s t a data bad).pending = s.pending := by
  unfold State.unitWrite; simp -implicitDefEqProofs

@[simp] theorem State.sramPut_keeps (s : State) (t : ℕ) (a : ℕ) (p : Piece) :
    (State.sramPut s t a p).fixed = s.fixed ∧
    (State.sramPut s t a p).ops = s.ops ∧
    (State.sramPut s t a p).cad = s.cad ∧
    (State.sramPut s t a p).fw = s.fw ∧
    (State.sramPut s t a p).sec = s.sec ∧
    (State.sramPut s t a p).pwr = s.pwr ∧
    (State.sramPut s t a p).ras = s.ras ∧
    (State.sramPut s t a p).mgt = s.mgt ∧
    (State.sramPut s t a p).tiles = s.tiles ∧
    (State.sramPut s t a p).slices = s.slices ∧
    (State.sramPut s t a p).sliceG = s.sliceG ∧
    (State.sramPut s t a p).flash = s.flash ∧
    (State.sramPut s t a p).tor = s.tor ∧
    (State.sramPut s t a p).pending = s.pending := by
  unfold State.sramPut; simp -implicitDefEqProofs

@[simp] theorem State.updRun_keeps (s : State) (i : ℕ) (f : RunState → RunState) :
    (State.updRun s i f).fixed = s.fixed ∧
    (State.updRun s i f).ops = s.ops ∧
    (State.updRun s i f).cad = s.cad ∧
    (State.updRun s i f).fw = s.fw ∧
    (State.updRun s i f).sec = s.sec ∧
    (State.updRun s i f).pwr = s.pwr ∧
    (State.updRun s i f).ras = s.ras ∧
    (State.updRun s i f).mgt = s.mgt ∧
    (State.updRun s i f).tiles = s.tiles ∧
    (State.updRun s i f).sram = s.sram ∧
    (State.updRun s i f).sramG = s.sramG ∧
    (State.updRun s i f).slices = s.slices ∧
    (State.updRun s i f).sliceG = s.sliceG ∧
    (State.updRun s i f).flash = s.flash ∧
    (State.updRun s i f).tor = s.tor ∧
    (State.updRun s i f).pending = s.pending := by
  unfold State.updRun; split <;> simp -implicitDefEqProofs

@[simp] theorem State.checkRun_keeps (s : State) (i : ℕ) :
    (State.checkRun s i).fixed = s.fixed ∧
    (State.checkRun s i).cad = s.cad ∧
    (State.checkRun s i).fw = s.fw ∧
    (State.checkRun s i).sec = s.sec ∧
    (State.checkRun s i).pwr = s.pwr ∧
    (State.checkRun s i).ras = s.ras ∧
    (State.checkRun s i).mgt = s.mgt ∧
    (State.checkRun s i).tiles = s.tiles ∧
    (State.checkRun s i).sram = s.sram ∧
    (State.checkRun s i).sramG = s.sramG ∧
    (State.checkRun s i).slices = s.slices ∧
    (State.checkRun s i).sliceG = s.sliceG ∧
    (State.checkRun s i).flash = s.flash ∧
    (State.checkRun s i).tor = s.tor ∧
    (State.checkRun s i).pending = s.pending := by
  unfold State.checkRun; (try dsimp only); (repeat' split) <;> simp -implicitDefEqProofs

@[simp] theorem State.haltTile_keeps (s : State) (t : ℕ) :
    (State.haltTile s t).fixed = s.fixed ∧
    (State.haltTile s t).ops = s.ops ∧
    (State.haltTile s t).cad = s.cad ∧
    (State.haltTile s t).fw = s.fw ∧
    (State.haltTile s t).sec = s.sec ∧
    (State.haltTile s t).pwr = s.pwr ∧
    (State.haltTile s t).ras = s.ras ∧
    (State.haltTile s t).mgt = s.mgt ∧
    (State.haltTile s t).sram = s.sram ∧
    (State.haltTile s t).sramG = s.sramG ∧
    (State.haltTile s t).slices = s.slices ∧
    (State.haltTile s t).sliceG = s.sliceG ∧
    (State.haltTile s t).flash = s.flash ∧
    (State.haltTile s t).tor = s.tor ∧
    (State.haltTile s t).pending = s.pending := by
  unfold State.haltTile; simp -implicitDefEqProofs

@[simp] theorem State.recordExc_keeps (s : State) (i : ℕ) (t : ℕ) (code : ℕ) (queue : ℕ) (index : ℕ) (addr : ℕ) :
    (State.recordExc s i t code queue index addr).fixed = s.fixed ∧
    (State.recordExc s i t code queue index addr).ops = s.ops ∧
    (State.recordExc s i t code queue index addr).cad = s.cad ∧
    (State.recordExc s i t code queue index addr).fw = s.fw ∧
    (State.recordExc s i t code queue index addr).sec = s.sec ∧
    (State.recordExc s i t code queue index addr).pwr = s.pwr ∧
    (State.recordExc s i t code queue index addr).ras = s.ras ∧
    (State.recordExc s i t code queue index addr).mgt = s.mgt ∧
    (State.recordExc s i t code queue index addr).tiles = s.tiles ∧
    (State.recordExc s i t code queue index addr).sram = s.sram ∧
    (State.recordExc s i t code queue index addr).sramG = s.sramG ∧
    (State.recordExc s i t code queue index addr).slices = s.slices ∧
    (State.recordExc s i t code queue index addr).sliceG = s.sliceG ∧
    (State.recordExc s i t code queue index addr).flash = s.flash ∧
    (State.recordExc s i t code queue index addr).tor = s.tor ∧
    (State.recordExc s i t code queue index addr).pending = s.pending := by
  unfold State.recordExc; split <;> simp -implicitDefEqProofs

@[simp] theorem State.blockAbort_keeps (s : State) (i : ℕ) (t : ℕ) :
    (State.blockAbort s i t).fixed = s.fixed ∧
    (State.blockAbort s i t).ops = s.ops ∧
    (State.blockAbort s i t).cad = s.cad ∧
    (State.blockAbort s i t).fw = s.fw ∧
    (State.blockAbort s i t).sec = s.sec ∧
    (State.blockAbort s i t).pwr = s.pwr ∧
    (State.blockAbort s i t).ras = s.ras ∧
    (State.blockAbort s i t).mgt = s.mgt ∧
    (State.blockAbort s i t).sram = s.sram ∧
    (State.blockAbort s i t).sramG = s.sramG ∧
    (State.blockAbort s i t).slices = s.slices ∧
    (State.blockAbort s i t).sliceG = s.sliceG ∧
    (State.blockAbort s i t).flash = s.flash ∧
    (State.blockAbort s i t).tor = s.tor ∧
    (State.blockAbort s i t).pending = s.pending := by
  unfold State.blockAbort; split <;> simp -implicitDefEqProofs

@[simp] theorem State.raise_keeps (s : State) (t : ℕ) (e : Exc) :
    (State.raise s t e).fixed = s.fixed ∧
    (State.raise s t e).cad = s.cad ∧
    (State.raise s t e).fw = s.fw ∧
    (State.raise s t e).sec = s.sec ∧
    (State.raise s t e).pwr = s.pwr ∧
    (State.raise s t e).ras = s.ras ∧
    (State.raise s t e).mgt = s.mgt ∧
    (State.raise s t e).sram = s.sram ∧
    (State.raise s t e).sramG = s.sramG ∧
    (State.raise s t e).slices = s.slices ∧
    (State.raise s t e).sliceG = s.sliceG ∧
    (State.raise s t e).flash = s.flash ∧
    (State.raise s t e).tor = s.tor ∧
    (State.raise s t e).pending = s.pending := by
  unfold State.raise; simp -implicitDefEqProofs

@[simp] theorem State.sentPoison_keeps (s : State) (t : ℕ) (off : ℕ) :
    (State.sentPoison s t off).fixed = s.fixed ∧
    (State.sentPoison s t off).ops = s.ops ∧
    (State.sentPoison s t off).cad = s.cad ∧
    (State.sentPoison s t off).fw = s.fw ∧
    (State.sentPoison s t off).sec = s.sec ∧
    (State.sentPoison s t off).pwr = s.pwr ∧
    (State.sentPoison s t off).ras = s.ras ∧
    (State.sentPoison s t off).mgt = s.mgt ∧
    (State.sentPoison s t off).tiles = s.tiles ∧
    (State.sentPoison s t off).sram = s.sram ∧
    (State.sentPoison s t off).sramG = s.sramG ∧
    (State.sentPoison s t off).slices = s.slices ∧
    (State.sentPoison s t off).sliceG = s.sliceG ∧
    (State.sentPoison s t off).flash = s.flash ∧
    (State.sentPoison s t off).tor = s.tor ∧
    (State.sentPoison s t off).pending = s.pending := by
  unfold State.sentPoison; simp -implicitDefEqProofs

@[simp] theorem State.illegal_keeps (s : State) (t : ℕ) (i : ℕ) :
    (State.illegal s t i).fixed = s.fixed ∧
    (State.illegal s t i).cad = s.cad ∧
    (State.illegal s t i).fw = s.fw ∧
    (State.illegal s t i).sec = s.sec ∧
    (State.illegal s t i).pwr = s.pwr ∧
    (State.illegal s t i).ras = s.ras ∧
    (State.illegal s t i).mgt = s.mgt ∧
    (State.illegal s t i).sram = s.sram ∧
    (State.illegal s t i).sramG = s.sramG ∧
    (State.illegal s t i).slices = s.slices ∧
    (State.illegal s t i).sliceG = s.sliceG ∧
    (State.illegal s t i).flash = s.flash ∧
    (State.illegal s t i).tor = s.tor ∧
    (State.illegal s t i).pending = s.pending := by
  unfold State.illegal; simp -implicitDefEqProofs

@[simp] theorem State.portPump_keeps (s : State) (p : ℕ) :
    (State.portPump s p).fixed = s.fixed ∧
    (State.portPump s p).ops = s.ops ∧
    (State.portPump s p).cad = s.cad ∧
    (State.portPump s p).fw = s.fw ∧
    (State.portPump s p).sec = s.sec ∧
    (State.portPump s p).pwr = s.pwr ∧
    (State.portPump s p).ras = s.ras ∧
    (State.portPump s p).mgt = s.mgt ∧
    (State.portPump s p).tiles = s.tiles ∧
    (State.portPump s p).sram = s.sram ∧
    (State.portPump s p).sramG = s.sramG ∧
    (State.portPump s p).slices = s.slices ∧
    (State.portPump s p).sliceG = s.sliceG ∧
    (State.portPump s p).flash = s.flash ∧
    (State.portPump s p).tor = s.tor ∧
    (State.portPump s p).pending = s.pending := by
  unfold State.portPump; simp -implicitDefEqProofs

@[simp] theorem State.portSend_keeps (s : State) (p : ℕ) (ch : ℕ) (key : Sys2Proof.W16) (poison : Bool) (b : List Sys2Proof.Byte) :
    (State.portSend s p ch key poison b).fixed = s.fixed ∧
    (State.portSend s p ch key poison b).ops = s.ops ∧
    (State.portSend s p ch key poison b).cad = s.cad ∧
    (State.portSend s p ch key poison b).fw = s.fw ∧
    (State.portSend s p ch key poison b).sec = s.sec ∧
    (State.portSend s p ch key poison b).pwr = s.pwr ∧
    (State.portSend s p ch key poison b).ras = s.ras ∧
    (State.portSend s p ch key poison b).mgt = s.mgt ∧
    (State.portSend s p ch key poison b).tiles = s.tiles ∧
    (State.portSend s p ch key poison b).sram = s.sram ∧
    (State.portSend s p ch key poison b).sramG = s.sramG ∧
    (State.portSend s p ch key poison b).slices = s.slices ∧
    (State.portSend s p ch key poison b).sliceG = s.sliceG ∧
    (State.portSend s p ch key poison b).flash = s.flash ∧
    (State.portSend s p ch key poison b).tor = s.tor ∧
    (State.portSend s p ch key poison b).pending = s.pending := by
  unfold State.portSend; simp -implicitDefEqProofs

@[simp] theorem State.protoSend_keeps (s : State) (p : ℕ) (ch : ℕ) (mtype : ℕ) (reqId : ℕ) (server : ℕ) (status : ℕ) (spec : List Sys2Proof.Byte) (payload : List Sys2Proof.Byte) :
    (State.protoSend s p ch mtype reqId server status spec payload).fixed = s.fixed ∧
    (State.protoSend s p ch mtype reqId server status spec payload).ops = s.ops ∧
    (State.protoSend s p ch mtype reqId server status spec payload).cad = s.cad ∧
    (State.protoSend s p ch mtype reqId server status spec payload).fw = s.fw ∧
    (State.protoSend s p ch mtype reqId server status spec payload).sec = s.sec ∧
    (State.protoSend s p ch mtype reqId server status spec payload).pwr = s.pwr ∧
    (State.protoSend s p ch mtype reqId server status spec payload).ras = s.ras ∧
    (State.protoSend s p ch mtype reqId server status spec payload).mgt = s.mgt ∧
    (State.protoSend s p ch mtype reqId server status spec payload).tiles = s.tiles ∧
    (State.protoSend s p ch mtype reqId server status spec payload).sram = s.sram ∧
    (State.protoSend s p ch mtype reqId server status spec payload).sramG = s.sramG ∧
    (State.protoSend s p ch mtype reqId server status spec payload).slices = s.slices ∧
    (State.protoSend s p ch mtype reqId server status spec payload).sliceG = s.sliceG ∧
    (State.protoSend s p ch mtype reqId server status spec payload).flash = s.flash ∧
    (State.protoSend s p ch mtype reqId server status spec payload).tor = s.tor ∧
    (State.protoSend s p ch mtype reqId server status spec payload).pending = s.pending := by
  unfold State.protoSend; simp -implicitDefEqProofs

@[simp] theorem State.countFlits_keeps (s : State) (hops : List (ℕ × ℕ)) (n : ℕ) :
    (State.countFlits s hops n).fixed = s.fixed ∧
    (State.countFlits s hops n).ops = s.ops ∧
    (State.countFlits s hops n).cad = s.cad ∧
    (State.countFlits s hops n).fw = s.fw ∧
    (State.countFlits s hops n).sec = s.sec ∧
    (State.countFlits s hops n).pwr = s.pwr ∧
    (State.countFlits s hops n).ras = s.ras ∧
    (State.countFlits s hops n).mgt = s.mgt ∧
    (State.countFlits s hops n).tiles = s.tiles ∧
    (State.countFlits s hops n).sram = s.sram ∧
    (State.countFlits s hops n).sramG = s.sramG ∧
    (State.countFlits s hops n).slices = s.slices ∧
    (State.countFlits s hops n).sliceG = s.sliceG ∧
    (State.countFlits s hops n).flash = s.flash ∧
    (State.countFlits s hops n).tor = s.tor ∧
    (State.countFlits s hops n).pending = s.pending := by
  unfold State.countFlits; simp -implicitDefEqProofs

@[simp] theorem State.ringError_keeps (s : State) (n : ℕ) (k : ℕ) (cause : ℕ) :
    (State.ringError s n k cause).fixed = s.fixed ∧
    (State.ringError s n k cause).ops = s.ops ∧
    (State.ringError s n k cause).cad = s.cad ∧
    (State.ringError s n k cause).fw = s.fw ∧
    (State.ringError s n k cause).sec = s.sec ∧
    (State.ringError s n k cause).pwr = s.pwr ∧
    (State.ringError s n k cause).ras = s.ras ∧
    (State.ringError s n k cause).mgt = s.mgt ∧
    (State.ringError s n k cause).tiles = s.tiles ∧
    (State.ringError s n k cause).sram = s.sram ∧
    (State.ringError s n k cause).sramG = s.sramG ∧
    (State.ringError s n k cause).slices = s.slices ∧
    (State.ringError s n k cause).sliceG = s.sliceG ∧
    (State.ringError s n k cause).flash = s.flash ∧
    (State.ringError s n k cause).tor = s.tor ∧
    (State.ringError s n k cause).pending = s.pending := by
  unfold State.ringError; simp -implicitDefEqProofs

@[simp] theorem State.sqEnable_keeps (s : State) (n : ℕ) (k : ℕ) :
    (State.sqEnable s n k).fixed = s.fixed ∧
    (State.sqEnable s n k).ops = s.ops ∧
    (State.sqEnable s n k).cad = s.cad ∧
    (State.sqEnable s n k).fw = s.fw ∧
    (State.sqEnable s n k).sec = s.sec ∧
    (State.sqEnable s n k).pwr = s.pwr ∧
    (State.sqEnable s n k).ras = s.ras ∧
    (State.sqEnable s n k).mgt = s.mgt ∧
    (State.sqEnable s n k).tiles = s.tiles ∧
    (State.sqEnable s n k).sram = s.sram ∧
    (State.sqEnable s n k).sramG = s.sramG ∧
    (State.sqEnable s n k).slices = s.slices ∧
    (State.sqEnable s n k).sliceG = s.sliceG ∧
    (State.sqEnable s n k).flash = s.flash ∧
    (State.sqEnable s n k).tor = s.tor ∧
    (State.sqEnable s n k).pending = s.pending := by
  unfold State.sqEnable; simp -implicitDefEqProofs

@[simp] theorem State.cancelRing_keeps (s : State) (n : ℕ) (k : ℕ) (detail : ℕ) :
    (State.cancelRing s n k detail).fixed = s.fixed ∧
    (State.cancelRing s n k detail).cad = s.cad ∧
    (State.cancelRing s n k detail).fw = s.fw ∧
    (State.cancelRing s n k detail).sec = s.sec ∧
    (State.cancelRing s n k detail).pwr = s.pwr ∧
    (State.cancelRing s n k detail).ras = s.ras ∧
    (State.cancelRing s n k detail).mgt = s.mgt ∧
    (State.cancelRing s n k detail).tiles = s.tiles ∧
    (State.cancelRing s n k detail).sram = s.sram ∧
    (State.cancelRing s n k detail).sramG = s.sramG ∧
    (State.cancelRing s n k detail).slices = s.slices ∧
    (State.cancelRing s n k detail).sliceG = s.sliceG ∧
    (State.cancelRing s n k detail).flash = s.flash ∧
    (State.cancelRing s n k detail).tor = s.tor ∧
    (State.cancelRing s n k detail).pending = s.pending := by
  unfold State.cancelRing; simp -implicitDefEqProofs

@[simp] theorem State.sqDisable_keeps (s : State) (n : ℕ) (k : ℕ) :
    (State.sqDisable s n k).fixed = s.fixed ∧
    (State.sqDisable s n k).cad = s.cad ∧
    (State.sqDisable s n k).fw = s.fw ∧
    (State.sqDisable s n k).sec = s.sec ∧
    (State.sqDisable s n k).pwr = s.pwr ∧
    (State.sqDisable s n k).ras = s.ras ∧
    (State.sqDisable s n k).mgt = s.mgt ∧
    (State.sqDisable s n k).tiles = s.tiles ∧
    (State.sqDisable s n k).sram = s.sram ∧
    (State.sqDisable s n k).sramG = s.sramG ∧
    (State.sqDisable s n k).slices = s.slices ∧
    (State.sqDisable s n k).sliceG = s.sliceG ∧
    (State.sqDisable s n k).flash = s.flash ∧
    (State.sqDisable s n k).tor = s.tor ∧
    (State.sqDisable s n k).pending = s.pending := by
  unfold State.sqDisable; simp -implicitDefEqProofs

@[simp] theorem State.dropDoorbell_keeps (s : State) (n : ℕ) (k : ℕ) (which : ℕ) (value : ℕ) :
    (State.dropDoorbell s n k which value).fixed = s.fixed ∧
    (State.dropDoorbell s n k which value).ops = s.ops ∧
    (State.dropDoorbell s n k which value).cad = s.cad ∧
    (State.dropDoorbell s n k which value).fw = s.fw ∧
    (State.dropDoorbell s n k which value).sec = s.sec ∧
    (State.dropDoorbell s n k which value).pwr = s.pwr ∧
    (State.dropDoorbell s n k which value).ras = s.ras ∧
    (State.dropDoorbell s n k which value).mgt = s.mgt ∧
    (State.dropDoorbell s n k which value).tiles = s.tiles ∧
    (State.dropDoorbell s n k which value).sram = s.sram ∧
    (State.dropDoorbell s n k which value).sramG = s.sramG ∧
    (State.dropDoorbell s n k which value).slices = s.slices ∧
    (State.dropDoorbell s n k which value).sliceG = s.sliceG ∧
    (State.dropDoorbell s n k which value).flash = s.flash ∧
    (State.dropDoorbell s n k which value).tor = s.tor ∧
    (State.dropDoorbell s n k which value).pending = s.pending := by
  unfold State.dropDoorbell; simp -implicitDefEqProofs

@[simp] theorem State.sqTail_keeps (s : State) (n : ℕ) (k : ℕ) (v : Sys2Proof.W16) :
    (State.sqTail s n k v).fixed = s.fixed ∧
    (State.sqTail s n k v).ops = s.ops ∧
    (State.sqTail s n k v).cad = s.cad ∧
    (State.sqTail s n k v).fw = s.fw ∧
    (State.sqTail s n k v).sec = s.sec ∧
    (State.sqTail s n k v).pwr = s.pwr ∧
    (State.sqTail s n k v).ras = s.ras ∧
    (State.sqTail s n k v).mgt = s.mgt ∧
    (State.sqTail s n k v).tiles = s.tiles ∧
    (State.sqTail s n k v).sram = s.sram ∧
    (State.sqTail s n k v).sramG = s.sramG ∧
    (State.sqTail s n k v).slices = s.slices ∧
    (State.sqTail s n k v).sliceG = s.sliceG ∧
    (State.sqTail s n k v).flash = s.flash ∧
    (State.sqTail s n k v).tor = s.tor ∧
    (State.sqTail s n k v).pending = s.pending := by
  unfold State.sqTail; simp -implicitDefEqProofs

@[simp] theorem State.cqHead_keeps (s : State) (n : ℕ) (k : ℕ) (v : Sys2Proof.W16) :
    (State.cqHead s n k v).fixed = s.fixed ∧
    (State.cqHead s n k v).ops = s.ops ∧
    (State.cqHead s n k v).cad = s.cad ∧
    (State.cqHead s n k v).fw = s.fw ∧
    (State.cqHead s n k v).sec = s.sec ∧
    (State.cqHead s n k v).pwr = s.pwr ∧
    (State.cqHead s n k v).ras = s.ras ∧
    (State.cqHead s n k v).mgt = s.mgt ∧
    (State.cqHead s n k v).tiles = s.tiles ∧
    (State.cqHead s n k v).sram = s.sram ∧
    (State.cqHead s n k v).sramG = s.sramG ∧
    (State.cqHead s n k v).slices = s.slices ∧
    (State.cqHead s n k v).sliceG = s.sliceG ∧
    (State.cqHead s n k v).flash = s.flash ∧
    (State.cqHead s n k v).tor = s.tor ∧
    (State.cqHead s n k v).pending = s.pending := by
  unfold State.cqHead; simp -implicitDefEqProofs

@[simp] theorem State.admitOp_keeps (s : State) (n : ℕ) (k : ℕ) (desc : BitVec 512) (ext : List Sys2Proof.Byte) :
    (State.admitOp s n k desc ext).fixed = s.fixed ∧
    (State.admitOp s n k desc ext).cad = s.cad ∧
    (State.admitOp s n k desc ext).fw = s.fw ∧
    (State.admitOp s n k desc ext).sec = s.sec ∧
    (State.admitOp s n k desc ext).pwr = s.pwr ∧
    (State.admitOp s n k desc ext).ras = s.ras ∧
    (State.admitOp s n k desc ext).mgt = s.mgt ∧
    (State.admitOp s n k desc ext).tiles = s.tiles ∧
    (State.admitOp s n k desc ext).sram = s.sram ∧
    (State.admitOp s n k desc ext).sramG = s.sramG ∧
    (State.admitOp s n k desc ext).slices = s.slices ∧
    (State.admitOp s n k desc ext).sliceG = s.sliceG ∧
    (State.admitOp s n k desc ext).flash = s.flash ∧
    (State.admitOp s n k desc ext).tor = s.tor ∧
    (State.admitOp s n k desc ext).pending = s.pending := by
  unfold State.admitOp; simp -implicitDefEqProofs

@[simp] theorem State.startOp_keeps (s : State) (o : Op) :
    (State.startOp s o).fixed = s.fixed ∧
    (State.startOp s o).cad = s.cad ∧
    (State.startOp s o).fw = s.fw ∧
    (State.startOp s o).sec = s.sec ∧
    (State.startOp s o).pwr = s.pwr ∧
    (State.startOp s o).ras = s.ras ∧
    (State.startOp s o).mgt = s.mgt ∧
    (State.startOp s o).tiles = s.tiles ∧
    (State.startOp s o).sram = s.sram ∧
    (State.startOp s o).sramG = s.sramG ∧
    (State.startOp s o).slices = s.slices ∧
    (State.startOp s o).sliceG = s.sliceG ∧
    (State.startOp s o).flash = s.flash ∧
    (State.startOp s o).tor = s.tor ∧
    (State.startOp s o).pending = s.pending := by
  unfold State.startOp; simp -implicitDefEqProofs

@[simp] theorem State.refresh_keeps (s : State) (ep : Ep) (overs : Bool) :
    (State.refresh s ep overs).fixed = s.fixed ∧
    (State.refresh s ep overs).ops = s.ops ∧
    (State.refresh s ep overs).cad = s.cad ∧
    (State.refresh s ep overs).fw = s.fw ∧
    (State.refresh s ep overs).sec = s.sec ∧
    (State.refresh s ep overs).pwr = s.pwr ∧
    (State.refresh s ep overs).ras = s.ras ∧
    (State.refresh s ep overs).mgt = s.mgt ∧
    (State.refresh s ep overs).tiles = s.tiles ∧
    (State.refresh s ep overs).sram = s.sram ∧
    (State.refresh s ep overs).sramG = s.sramG ∧
    (State.refresh s ep overs).slices = s.slices ∧
    (State.refresh s ep overs).sliceG = s.sliceG ∧
    (State.refresh s ep overs).flash = s.flash ∧
    (State.refresh s ep overs).tor = s.tor ∧
    (State.refresh s ep overs).pending = s.pending := by
  unfold State.refresh; simp -implicitDefEqProofs

@[simp] theorem State.setBme_keeps (s : State) (fn : Fn) (v : Bool) :
    (State.setBme s fn v).fixed = s.fixed ∧
    (State.setBme s fn v).ops = s.ops ∧
    (State.setBme s fn v).cad = s.cad ∧
    (State.setBme s fn v).fw = s.fw ∧
    (State.setBme s fn v).sec = s.sec ∧
    (State.setBme s fn v).pwr = s.pwr ∧
    (State.setBme s fn v).ras = s.ras ∧
    (State.setBme s fn v).mgt = s.mgt ∧
    (State.setBme s fn v).tiles = s.tiles ∧
    (State.setBme s fn v).sram = s.sram ∧
    (State.setBme s fn v).sramG = s.sramG ∧
    (State.setBme s fn v).slices = s.slices ∧
    (State.setBme s fn v).sliceG = s.sliceG ∧
    (State.setBme s fn v).flash = s.flash ∧
    (State.setBme s fn v).tor = s.tor ∧
    (State.setBme s fn v).pending = s.pending := by
  unfold State.setBme; split <;> simp -implicitDefEqProofs

@[simp] theorem State.pfFlr_keeps (s : State) (k : Fin 4) :
    (State.pfFlr s k).fixed = s.fixed ∧
    (State.pfFlr s k).ops = s.ops ∧
    (State.pfFlr s k).cad = s.cad ∧
    (State.pfFlr s k).fw = s.fw ∧
    (State.pfFlr s k).sec = s.sec ∧
    (State.pfFlr s k).pwr = s.pwr ∧
    (State.pfFlr s k).ras = s.ras ∧
    (State.pfFlr s k).mgt = s.mgt ∧
    (State.pfFlr s k).tiles = s.tiles ∧
    (State.pfFlr s k).sram = s.sram ∧
    (State.pfFlr s k).sramG = s.sramG ∧
    (State.pfFlr s k).slices = s.slices ∧
    (State.pfFlr s k).sliceG = s.sliceG ∧
    (State.pfFlr s k).flash = s.flash ∧
    (State.pfFlr s k).tor = s.tor ∧
    (State.pfFlr s k).pending = s.pending := by
  unfold State.pfFlr; (try dsimp only); (repeat' split) <;> simp -implicitDefEqProofs (disch := (intros; (try dsimp only); (repeat' split) <;> (try simp -implicitDefEqProofs)))

@[simp] theorem State.postMismatch_keeps (s : State) (k : ℕ) :
    (State.postMismatch s k).fixed = s.fixed ∧
    (State.postMismatch s k).ops = s.ops ∧
    (State.postMismatch s k).cad = s.cad ∧
    (State.postMismatch s k).fw = s.fw ∧
    (State.postMismatch s k).sec = s.sec ∧
    (State.postMismatch s k).pwr = s.pwr ∧
    (State.postMismatch s k).ras = s.ras ∧
    (State.postMismatch s k).mgt = s.mgt ∧
    (State.postMismatch s k).tiles = s.tiles ∧
    (State.postMismatch s k).sram = s.sram ∧
    (State.postMismatch s k).sramG = s.sramG ∧
    (State.postMismatch s k).slices = s.slices ∧
    (State.postMismatch s k).sliceG = s.sliceG ∧
    (State.postMismatch s k).flash = s.flash ∧
    (State.postMismatch s k).pending = s.pending := by
  unfold State.postMismatch; simp -implicitDefEqProofs

@[simp] theorem State.compareNeighbour_keeps (s : State) (k : ℕ) :
    (State.compareNeighbour s k).fixed = s.fixed ∧
    (State.compareNeighbour s k).ops = s.ops ∧
    (State.compareNeighbour s k).cad = s.cad ∧
    (State.compareNeighbour s k).fw = s.fw ∧
    (State.compareNeighbour s k).sec = s.sec ∧
    (State.compareNeighbour s k).pwr = s.pwr ∧
    (State.compareNeighbour s k).ras = s.ras ∧
    (State.compareNeighbour s k).mgt = s.mgt ∧
    (State.compareNeighbour s k).tiles = s.tiles ∧
    (State.compareNeighbour s k).sram = s.sram ∧
    (State.compareNeighbour s k).sramG = s.sramG ∧
    (State.compareNeighbour s k).slices = s.slices ∧
    (State.compareNeighbour s k).sliceG = s.sliceG ∧
    (State.compareNeighbour s k).flash = s.flash ∧
    (State.compareNeighbour s k).pending = s.pending := by
  unfold State.compareNeighbour; simp -implicitDefEqProofs

@[simp] theorem State.torusUp_keeps (s : State) (k : ℕ) :
    (State.torusUp s k).fixed = s.fixed ∧
    (State.torusUp s k).ops = s.ops ∧
    (State.torusUp s k).cad = s.cad ∧
    (State.torusUp s k).fw = s.fw ∧
    (State.torusUp s k).sec = s.sec ∧
    (State.torusUp s k).pwr = s.pwr ∧
    (State.torusUp s k).ras = s.ras ∧
    (State.torusUp s k).mgt = s.mgt ∧
    (State.torusUp s k).tiles = s.tiles ∧
    (State.torusUp s k).sram = s.sram ∧
    (State.torusUp s k).sramG = s.sramG ∧
    (State.torusUp s k).slices = s.slices ∧
    (State.torusUp s k).sliceG = s.sliceG ∧
    (State.torusUp s k).flash = s.flash ∧
    (State.torusUp s k).pending = s.pending := by
  unfold State.torusUp; simp -implicitDefEqProofs

@[simp] theorem State.releaseTport_keeps (s : State) (k : ℕ) :
    (State.releaseTport s k).fixed = s.fixed ∧
    (State.releaseTport s k).ops = s.ops ∧
    (State.releaseTport s k).cad = s.cad ∧
    (State.releaseTport s k).fw = s.fw ∧
    (State.releaseTport s k).sec = s.sec ∧
    (State.releaseTport s k).pwr = s.pwr ∧
    (State.releaseTport s k).ras = s.ras ∧
    (State.releaseTport s k).mgt = s.mgt ∧
    (State.releaseTport s k).tiles = s.tiles ∧
    (State.releaseTport s k).sram = s.sram ∧
    (State.releaseTport s k).sramG = s.sramG ∧
    (State.releaseTport s k).slices = s.slices ∧
    (State.releaseTport s k).sliceG = s.sliceG ∧
    (State.releaseTport s k).flash = s.flash ∧
    (State.releaseTport s k).pending = s.pending := by
  unfold State.releaseTport; simp -implicitDefEqProofs

@[simp] theorem State.pruneKeys_keeps (s : State) :
    (State.pruneKeys s).fixed = s.fixed ∧
    (State.pruneKeys s).ops = s.ops ∧
    (State.pruneKeys s).cad = s.cad ∧
    (State.pruneKeys s).fw = s.fw ∧
    (State.pruneKeys s).sec = s.sec ∧
    (State.pruneKeys s).pwr = s.pwr ∧
    (State.pruneKeys s).ras = s.ras ∧
    (State.pruneKeys s).mgt = s.mgt ∧
    (State.pruneKeys s).tiles = s.tiles ∧
    (State.pruneKeys s).sram = s.sram ∧
    (State.pruneKeys s).sramG = s.sramG ∧
    (State.pruneKeys s).slices = s.slices ∧
    (State.pruneKeys s).sliceG = s.sliceG ∧
    (State.pruneKeys s).flash = s.flash ∧
    (State.pruneKeys s).pending = s.pending := by
  unfold State.pruneKeys; simp -implicitDefEqProofs

@[simp] theorem State.throttleSync_keeps (s : State) (n : ℕ) :
    (State.throttleSync s n).fixed = s.fixed ∧
    (State.throttleSync s n).ops = s.ops ∧
    (State.throttleSync s n).cad = s.cad ∧
    (State.throttleSync s n).fw = s.fw ∧
    (State.throttleSync s n).sec = s.sec ∧
    (State.throttleSync s n).pwr = s.pwr ∧
    (State.throttleSync s n).ras = s.ras ∧
    (State.throttleSync s n).mgt = s.mgt ∧
    (State.throttleSync s n).tiles = s.tiles ∧
    (State.throttleSync s n).sram = s.sram ∧
    (State.throttleSync s n).sramG = s.sramG ∧
    (State.throttleSync s n).slices = s.slices ∧
    (State.throttleSync s n).sliceG = s.sliceG ∧
    (State.throttleSync s n).flash = s.flash ∧
    (State.throttleSync s n).pending = s.pending := by
  unfold State.throttleSync; (try dsimp only); (repeat' split) <;> simp -implicitDefEqProofs

@[simp] theorem State.throttleAll_keeps (s : State) :
    (State.throttleAll s).fixed = s.fixed ∧
    (State.throttleAll s).ops = s.ops ∧
    (State.throttleAll s).cad = s.cad ∧
    (State.throttleAll s).fw = s.fw ∧
    (State.throttleAll s).sec = s.sec ∧
    (State.throttleAll s).pwr = s.pwr ∧
    (State.throttleAll s).ras = s.ras ∧
    (State.throttleAll s).mgt = s.mgt ∧
    (State.throttleAll s).tiles = s.tiles ∧
    (State.throttleAll s).sram = s.sram ∧
    (State.throttleAll s).sramG = s.sramG ∧
    (State.throttleAll s).slices = s.slices ∧
    (State.throttleAll s).sliceG = s.sliceG ∧
    (State.throttleAll s).flash = s.flash ∧
    (State.throttleAll s).pending = s.pending := by
  unfold State.throttleAll; simp -implicitDefEqProofs

@[simp] theorem State.torEnqueue_keeps (s : State) (k : ℕ) (p : TorPkt) :
    (State.torEnqueue s k p).fixed = s.fixed ∧
    (State.torEnqueue s k p).ops = s.ops ∧
    (State.torEnqueue s k p).cad = s.cad ∧
    (State.torEnqueue s k p).fw = s.fw ∧
    (State.torEnqueue s k p).sec = s.sec ∧
    (State.torEnqueue s k p).pwr = s.pwr ∧
    (State.torEnqueue s k p).ras = s.ras ∧
    (State.torEnqueue s k p).mgt = s.mgt ∧
    (State.torEnqueue s k p).tiles = s.tiles ∧
    (State.torEnqueue s k p).sram = s.sram ∧
    (State.torEnqueue s k p).sramG = s.sramG ∧
    (State.torEnqueue s k p).slices = s.slices ∧
    (State.torEnqueue s k p).sliceG = s.sliceG ∧
    (State.torEnqueue s k p).flash = s.flash ∧
    (State.torEnqueue s k p).pending = s.pending := by
  unfold State.torEnqueue; split <;> simp -implicitDefEqProofs

@[simp] theorem State.torDrop_keeps (s : State) (k : ℕ) (kind : ℕ) :
    (State.torDrop s k kind).fixed = s.fixed ∧
    (State.torDrop s k kind).ops = s.ops ∧
    (State.torDrop s k kind).cad = s.cad ∧
    (State.torDrop s k kind).fw = s.fw ∧
    (State.torDrop s k kind).sec = s.sec ∧
    (State.torDrop s k kind).pwr = s.pwr ∧
    (State.torDrop s k kind).ras = s.ras ∧
    (State.torDrop s k kind).mgt = s.mgt ∧
    (State.torDrop s k kind).tiles = s.tiles ∧
    (State.torDrop s k kind).sram = s.sram ∧
    (State.torDrop s k kind).sramG = s.sramG ∧
    (State.torDrop s k kind).slices = s.slices ∧
    (State.torDrop s k kind).sliceG = s.sliceG ∧
    (State.torDrop s k kind).flash = s.flash ∧
    (State.torDrop s k kind).pending = s.pending := by
  unfold State.torDrop; simp -implicitDefEqProofs

@[simp] theorem State.portKeyDrop_keeps (s : State) (p : ℕ) (ch : ℕ) (key : Sys2Proof.W16) :
    (State.portKeyDrop s p ch key).fixed = s.fixed ∧
    (State.portKeyDrop s p ch key).ops = s.ops ∧
    (State.portKeyDrop s p ch key).cad = s.cad ∧
    (State.portKeyDrop s p ch key).fw = s.fw ∧
    (State.portKeyDrop s p ch key).sec = s.sec ∧
    (State.portKeyDrop s p ch key).pwr = s.pwr ∧
    (State.portKeyDrop s p ch key).ras = s.ras ∧
    (State.portKeyDrop s p ch key).mgt = s.mgt ∧
    (State.portKeyDrop s p ch key).tiles = s.tiles ∧
    (State.portKeyDrop s p ch key).sram = s.sram ∧
    (State.portKeyDrop s p ch key).sramG = s.sramG ∧
    (State.portKeyDrop s p ch key).slices = s.slices ∧
    (State.portKeyDrop s p ch key).sliceG = s.sliceG ∧
    (State.portKeyDrop s p ch key).flash = s.flash ∧
    (State.portKeyDrop s p ch key).tor = s.tor ∧
    (State.portKeyDrop s p ch key).pending = s.pending := by
  unfold State.portKeyDrop; simp -implicitDefEqProofs

@[simp] theorem State.torFlush_keeps (s : State) (n : ℕ) :
    (State.torFlush s n).fixed = s.fixed ∧
    (State.torFlush s n).ops = s.ops ∧
    (State.torFlush s n).cad = s.cad ∧
    (State.torFlush s n).fw = s.fw ∧
    (State.torFlush s n).sec = s.sec ∧
    (State.torFlush s n).pwr = s.pwr ∧
    (State.torFlush s n).ras = s.ras ∧
    (State.torFlush s n).mgt = s.mgt ∧
    (State.torFlush s n).tiles = s.tiles ∧
    (State.torFlush s n).sram = s.sram ∧
    (State.torFlush s n).sramG = s.sramG ∧
    (State.torFlush s n).slices = s.slices ∧
    (State.torFlush s n).sliceG = s.sliceG ∧
    (State.torFlush s n).flash = s.flash ∧
    (State.torFlush s n).pending = s.pending := by
  unfold State.torFlush; simp -implicitDefEqProofs

@[simp] theorem State.torusDown_keeps (s : State) (k : ℕ) :
    (State.torusDown s k).fixed = s.fixed ∧
    (State.torusDown s k).ops = s.ops ∧
    (State.torusDown s k).cad = s.cad ∧
    (State.torusDown s k).fw = s.fw ∧
    (State.torusDown s k).sec = s.sec ∧
    (State.torusDown s k).pwr = s.pwr ∧
    (State.torusDown s k).ras = s.ras ∧
    (State.torusDown s k).mgt = s.mgt ∧
    (State.torusDown s k).tiles = s.tiles ∧
    (State.torusDown s k).sram = s.sram ∧
    (State.torusDown s k).sramG = s.sramG ∧
    (State.torusDown s k).slices = s.slices ∧
    (State.torusDown s k).sliceG = s.sliceG ∧
    (State.torusDown s k).flash = s.flash ∧
    (State.torusDown s k).pending = s.pending := by
  unfold State.torusDown; (try dsimp only); (repeat' split) <;> simp -implicitDefEqProofs

@[simp] theorem State.applyRoutes_keeps (s : State) (l : List (ℕ × Sys2Proof.W16)) :
    (State.applyRoutes s l).fixed = s.fixed ∧
    (State.applyRoutes s l).ops = s.ops ∧
    (State.applyRoutes s l).cad = s.cad ∧
    (State.applyRoutes s l).fw = s.fw ∧
    (State.applyRoutes s l).sec = s.sec ∧
    (State.applyRoutes s l).pwr = s.pwr ∧
    (State.applyRoutes s l).ras = s.ras ∧
    (State.applyRoutes s l).mgt = s.mgt ∧
    (State.applyRoutes s l).tiles = s.tiles ∧
    (State.applyRoutes s l).sram = s.sram ∧
    (State.applyRoutes s l).sramG = s.sramG ∧
    (State.applyRoutes s l).slices = s.slices ∧
    (State.applyRoutes s l).sliceG = s.sliceG ∧
    (State.applyRoutes s l).flash = s.flash ∧
    (State.applyRoutes s l).pending = s.pending := by
  unfold State.applyRoutes; simp -implicitDefEqProofs

@[simp] theorem State.applyKeys_keeps (s : State) (tick : ℕ) (l : List TorKey) :
    (State.applyKeys s tick l).fixed = s.fixed ∧
    (State.applyKeys s tick l).ops = s.ops ∧
    (State.applyKeys s tick l).cad = s.cad ∧
    (State.applyKeys s tick l).fw = s.fw ∧
    (State.applyKeys s tick l).sec = s.sec ∧
    (State.applyKeys s tick l).pwr = s.pwr ∧
    (State.applyKeys s tick l).ras = s.ras ∧
    (State.applyKeys s tick l).mgt = s.mgt ∧
    (State.applyKeys s tick l).tiles = s.tiles ∧
    (State.applyKeys s tick l).sram = s.sram ∧
    (State.applyKeys s tick l).sramG = s.sramG ∧
    (State.applyKeys s tick l).slices = s.slices ∧
    (State.applyKeys s tick l).sliceG = s.sliceG ∧
    (State.applyKeys s tick l).flash = s.flash ∧
    (State.applyKeys s tick l).pending = s.pending := by
  unfold State.applyKeys; simp -implicitDefEqProofs

@[simp] theorem State.touchSlot_keeps (s : State) (t : ℕ) (off : ℕ) :
    (State.touchSlot s t off).fixed = s.fixed ∧
    (State.touchSlot s t off).ops = s.ops ∧
    (State.touchSlot s t off).cad = s.cad ∧
    (State.touchSlot s t off).fw = s.fw ∧
    (State.touchSlot s t off).sec = s.sec ∧
    (State.touchSlot s t off).pwr = s.pwr ∧
    (State.touchSlot s t off).ras = s.ras ∧
    (State.touchSlot s t off).mgt = s.mgt ∧
    (State.touchSlot s t off).tiles = s.tiles ∧
    (State.touchSlot s t off).sram = s.sram ∧
    (State.touchSlot s t off).sramG = s.sramG ∧
    (State.touchSlot s t off).flash = s.flash ∧
    (State.touchSlot s t off).tor = s.tor ∧
    (State.touchSlot s t off).pending = s.pending := by
  unfold State.touchSlot; simp -implicitDefEqProofs

@[simp] theorem State.slicePut_keeps (s : State) (t : ℕ) (off : ℕ) (p : Piece) :
    (State.slicePut s t off p).1.fixed = s.fixed ∧
    (State.slicePut s t off p).1.ops = s.ops ∧
    (State.slicePut s t off p).1.cad = s.cad ∧
    (State.slicePut s t off p).1.fw = s.fw ∧
    (State.slicePut s t off p).1.sec = s.sec ∧
    (State.slicePut s t off p).1.pwr = s.pwr ∧
    (State.slicePut s t off p).1.ras = s.ras ∧
    (State.slicePut s t off p).1.mgt = s.mgt ∧
    (State.slicePut s t off p).1.tiles = s.tiles ∧
    (State.slicePut s t off p).1.sram = s.sram ∧
    (State.slicePut s t off p).1.sramG = s.sramG ∧
    (State.slicePut s t off p).1.flash = s.flash ∧
    (State.slicePut s t off p).1.tor = s.tor ∧
    (State.slicePut s t off p).1.pending = s.pending := by
  unfold State.slicePut; (try dsimp only); (repeat' split) <;> simp -implicitDefEqProofs

@[simp] theorem State.zeroPage_keeps (s : State) (ppa : ℕ) :
    (State.zeroPage s ppa).fixed = s.fixed ∧
    (State.zeroPage s ppa).ops = s.ops ∧
    (State.zeroPage s ppa).cad = s.cad ∧
    (State.zeroPage s ppa).fw = s.fw ∧
    (State.zeroPage s ppa).sec = s.sec ∧
    (State.zeroPage s ppa).pwr = s.pwr ∧
    (State.zeroPage s ppa).ras = s.ras ∧
    (State.zeroPage s ppa).mgt = s.mgt ∧
    (State.zeroPage s ppa).tiles = s.tiles ∧
    (State.zeroPage s ppa).sram = s.sram ∧
    (State.zeroPage s ppa).sramG = s.sramG ∧
    (State.zeroPage s ppa).flash = s.flash ∧
    (State.zeroPage s ppa).tor = s.tor ∧
    (State.zeroPage s ppa).pending = s.pending := by
  unfold State.zeroPage; simp -implicitDefEqProofs

@[simp] theorem State.quotaCheck_keeps (s : State) (n : ℕ) :
    (State.quotaCheck s n).fixed = s.fixed ∧
    (State.quotaCheck s n).ops = s.ops ∧
    (State.quotaCheck s n).cad = s.cad ∧
    (State.quotaCheck s n).fw = s.fw ∧
    (State.quotaCheck s n).sec = s.sec ∧
    (State.quotaCheck s n).pwr = s.pwr ∧
    (State.quotaCheck s n).ras = s.ras ∧
    (State.quotaCheck s n).mgt = s.mgt ∧
    (State.quotaCheck s n).tiles = s.tiles ∧
    (State.quotaCheck s n).sram = s.sram ∧
    (State.quotaCheck s n).sramG = s.sramG ∧
    (State.quotaCheck s n).slices = s.slices ∧
    (State.quotaCheck s n).sliceG = s.sliceG ∧
    (State.quotaCheck s n).flash = s.flash ∧
    (State.quotaCheck s n).tor = s.tor ∧
    (State.quotaCheck s n).pending = s.pending := by
  unfold State.quotaCheck; simp -implicitDefEqProofs

@[simp] theorem State.freeSlot_keeps (s : State) (ppa : ℕ) :
    (State.freeSlot s ppa).fixed = s.fixed ∧
    (State.freeSlot s ppa).ops = s.ops ∧
    (State.freeSlot s ppa).cad = s.cad ∧
    (State.freeSlot s ppa).fw = s.fw ∧
    (State.freeSlot s ppa).sec = s.sec ∧
    (State.freeSlot s ppa).pwr = s.pwr ∧
    (State.freeSlot s ppa).ras = s.ras ∧
    (State.freeSlot s ppa).mgt = s.mgt ∧
    (State.freeSlot s ppa).tiles = s.tiles ∧
    (State.freeSlot s ppa).sram = s.sram ∧
    (State.freeSlot s ppa).sramG = s.sramG ∧
    (State.freeSlot s ppa).slices = s.slices ∧
    (State.freeSlot s ppa).sliceG = s.sliceG ∧
    (State.freeSlot s ppa).flash = s.flash ∧
    (State.freeSlot s ppa).tor = s.tor ∧
    (State.freeSlot s ppa).pending = s.pending := by
  unfold State.freeSlot; simp -implicitDefEqProofs

@[simp] theorem State.discardCopy_keeps (s : State) (n : ℕ) (page : ℕ) :
    (State.discardCopy s n page).fixed = s.fixed ∧
    (State.discardCopy s n page).ops = s.ops ∧
    (State.discardCopy s n page).cad = s.cad ∧
    (State.discardCopy s n page).fw = s.fw ∧
    (State.discardCopy s n page).sec = s.sec ∧
    (State.discardCopy s n page).pwr = s.pwr ∧
    (State.discardCopy s n page).ras = s.ras ∧
    (State.discardCopy s n page).mgt = s.mgt ∧
    (State.discardCopy s n page).tiles = s.tiles ∧
    (State.discardCopy s n page).sram = s.sram ∧
    (State.discardCopy s n page).sramG = s.sramG ∧
    (State.discardCopy s n page).slices = s.slices ∧
    (State.discardCopy s n page).sliceG = s.sliceG ∧
    (State.discardCopy s n page).flash = s.flash ∧
    (State.discardCopy s n page).tor = s.tor ∧
    (State.discardCopy s n page).pending = s.pending := by
  unfold State.discardCopy; (try dsimp only); (repeat' split) <;> simp -implicitDefEqProofs

@[simp] theorem State.markRead_keeps (s : State) (n : ℕ) (a : ℕ) :
    (State.markRead s n a).fixed = s.fixed ∧
    (State.markRead s n a).ops = s.ops ∧
    (State.markRead s n a).cad = s.cad ∧
    (State.markRead s n a).fw = s.fw ∧
    (State.markRead s n a).sec = s.sec ∧
    (State.markRead s n a).pwr = s.pwr ∧
    (State.markRead s n a).ras = s.ras ∧
    (State.markRead s n a).mgt = s.mgt ∧
    (State.markRead s n a).tiles = s.tiles ∧
    (State.markRead s n a).sram = s.sram ∧
    (State.markRead s n a).sramG = s.sramG ∧
    (State.markRead s n a).flash = s.flash ∧
    (State.markRead s n a).tor = s.tor ∧
    (State.markRead s n a).pending = s.pending := by
  unfold State.markRead; (try dsimp only); (repeat' split) <;> simp -implicitDefEqProofs

@[simp] theorem State.dropPassed_keeps (s : State) (w : Waiter) (keep : Option ChunkKey) :
    (State.dropPassed s w keep).fixed = s.fixed ∧
    (State.dropPassed s w keep).ops = s.ops ∧
    (State.dropPassed s w keep).cad = s.cad ∧
    (State.dropPassed s w keep).fw = s.fw ∧
    (State.dropPassed s w keep).sec = s.sec ∧
    (State.dropPassed s w keep).pwr = s.pwr ∧
    (State.dropPassed s w keep).ras = s.ras ∧
    (State.dropPassed s w keep).mgt = s.mgt ∧
    (State.dropPassed s w keep).tiles = s.tiles ∧
    (State.dropPassed s w keep).sram = s.sram ∧
    (State.dropPassed s w keep).sramG = s.sramG ∧
    (State.dropPassed s w keep).slices = s.slices ∧
    (State.dropPassed s w keep).sliceG = s.sliceG ∧
    (State.dropPassed s w keep).flash = s.flash ∧
    (State.dropPassed s w keep).tor = s.tor ∧
    (State.dropPassed s w keep).pending = s.pending := by
  unfold State.dropPassed; simp -implicitDefEqProofs

@[simp] theorem State.sendReq_keeps (s : State) (k : ChunkKey) :
    (State.sendReq s k).fixed = s.fixed ∧
    (State.sendReq s k).ops = s.ops ∧
    (State.sendReq s k).cad = s.cad ∧
    (State.sendReq s k).fw = s.fw ∧
    (State.sendReq s k).sec = s.sec ∧
    (State.sendReq s k).pwr = s.pwr ∧
    (State.sendReq s k).ras = s.ras ∧
    (State.sendReq s k).mgt = s.mgt ∧
    (State.sendReq s k).tiles = s.tiles ∧
    (State.sendReq s k).sram = s.sram ∧
    (State.sendReq s k).sramG = s.sramG ∧
    (State.sendReq s k).slices = s.slices ∧
    (State.sendReq s k).sliceG = s.sliceG ∧
    (State.sendReq s k).flash = s.flash ∧
    (State.sendReq s k).tor = s.tor ∧
    (State.sendReq s k).pending = s.pending := by
  unfold State.sendReq; (try dsimp only); (repeat' split) <;> simp -implicitDefEqProofs

@[simp] theorem State.sendWaiting_keeps (s : State) :
    (State.sendWaiting s).fixed = s.fixed ∧
    (State.sendWaiting s).ops = s.ops ∧
    (State.sendWaiting s).cad = s.cad ∧
    (State.sendWaiting s).fw = s.fw ∧
    (State.sendWaiting s).sec = s.sec ∧
    (State.sendWaiting s).pwr = s.pwr ∧
    (State.sendWaiting s).ras = s.ras ∧
    (State.sendWaiting s).mgt = s.mgt ∧
    (State.sendWaiting s).tiles = s.tiles ∧
    (State.sendWaiting s).sram = s.sram ∧
    (State.sendWaiting s).sramG = s.sramG ∧
    (State.sendWaiting s).slices = s.slices ∧
    (State.sendWaiting s).sliceG = s.sliceG ∧
    (State.sendWaiting s).flash = s.flash ∧
    (State.sendWaiting s).tor = s.tor ∧
    (State.sendWaiting s).pending = s.pending := by
  unfold State.sendWaiting; simp -implicitDefEqProofs

@[simp] theorem State.stallSync_keeps (s : State) :
    (State.stallSync s).fixed = s.fixed ∧
    (State.stallSync s).ops = s.ops ∧
    (State.stallSync s).cad = s.cad ∧
    (State.stallSync s).fw = s.fw ∧
    (State.stallSync s).sec = s.sec ∧
    (State.stallSync s).pwr = s.pwr ∧
    (State.stallSync s).ras = s.ras ∧
    (State.stallSync s).mgt = s.mgt ∧
    (State.stallSync s).tiles = s.tiles ∧
    (State.stallSync s).sram = s.sram ∧
    (State.stallSync s).sramG = s.sramG ∧
    (State.stallSync s).slices = s.slices ∧
    (State.stallSync s).sliceG = s.sliceG ∧
    (State.stallSync s).flash = s.flash ∧
    (State.stallSync s).tor = s.tor ∧
    (State.stallSync s).pending = s.pending := by
  unfold State.stallSync; simp -implicitDefEqProofs

@[simp] theorem State.stallReport_keeps (s : State) (n : ℕ) (cause : ℕ) :
    (State.stallReport s n cause).fixed = s.fixed ∧
    (State.stallReport s n cause).ops = s.ops ∧
    (State.stallReport s n cause).cad = s.cad ∧
    (State.stallReport s n cause).fw = s.fw ∧
    (State.stallReport s n cause).sec = s.sec ∧
    (State.stallReport s n cause).pwr = s.pwr ∧
    (State.stallReport s n cause).ras = s.ras ∧
    (State.stallReport s n cause).mgt = s.mgt ∧
    (State.stallReport s n cause).tiles = s.tiles ∧
    (State.stallReport s n cause).sram = s.sram ∧
    (State.stallReport s n cause).sramG = s.sramG ∧
    (State.stallReport s n cause).slices = s.slices ∧
    (State.stallReport s n cause).sliceG = s.sliceG ∧
    (State.stallReport s n cause).flash = s.flash ∧
    (State.stallReport s n cause).tor = s.tor ∧
    (State.stallReport s n cause).pending = s.pending := by
  unfold State.stallReport; simp -implicitDefEqProofs

@[simp] theorem State.snapBefore_keeps (s : State) (n : ℕ) (a : ℕ) :
    (State.snapBefore s n a).fixed = s.fixed ∧
    (State.snapBefore s n a).ops = s.ops ∧
    (State.snapBefore s n a).cad = s.cad ∧
    (State.snapBefore s n a).fw = s.fw ∧
    (State.snapBefore s n a).sec = s.sec ∧
    (State.snapBefore s n a).pwr = s.pwr ∧
    (State.snapBefore s n a).ras = s.ras ∧
    (State.snapBefore s n a).mgt = s.mgt ∧
    (State.snapBefore s n a).tiles = s.tiles ∧
    (State.snapBefore s n a).sram = s.sram ∧
    (State.snapBefore s n a).sramG = s.sramG ∧
    (State.snapBefore s n a).slices = s.slices ∧
    (State.snapBefore s n a).sliceG = s.sliceG ∧
    (State.snapBefore s n a).flash = s.flash ∧
    (State.snapBefore s n a).tor = s.tor ∧
    (State.snapBefore s n a).pending = s.pending := by
  unfold State.snapBefore; simp -implicitDefEqProofs

@[simp] theorem State.countCheck_keeps (s : State) (n : ℕ) (ok : Bool) :
    (State.countCheck s n ok).fixed = s.fixed ∧
    (State.countCheck s n ok).ops = s.ops ∧
    (State.countCheck s n ok).cad = s.cad ∧
    (State.countCheck s n ok).fw = s.fw ∧
    (State.countCheck s n ok).sec = s.sec ∧
    (State.countCheck s n ok).pwr = s.pwr ∧
    (State.countCheck s n ok).ras = s.ras ∧
    (State.countCheck s n ok).mgt = s.mgt ∧
    (State.countCheck s n ok).tiles = s.tiles ∧
    (State.countCheck s n ok).sram = s.sram ∧
    (State.countCheck s n ok).sramG = s.sramG ∧
    (State.countCheck s n ok).slices = s.slices ∧
    (State.countCheck s n ok).sliceG = s.sliceG ∧
    (State.countCheck s n ok).flash = s.flash ∧
    (State.countCheck s n ok).tor = s.tor ∧
    (State.countCheck s n ok).pending = s.pending := by
  unfold State.countCheck; simp -implicitDefEqProofs

@[simp] theorem State.failAlloc_keeps (s : State) (n : ℕ) :
    (State.failAlloc s n).fixed = s.fixed ∧
    (State.failAlloc s n).ops = s.ops ∧
    (State.failAlloc s n).cad = s.cad ∧
    (State.failAlloc s n).fw = s.fw ∧
    (State.failAlloc s n).sec = s.sec ∧
    (State.failAlloc s n).pwr = s.pwr ∧
    (State.failAlloc s n).ras = s.ras ∧
    (State.failAlloc s n).mgt = s.mgt ∧
    (State.failAlloc s n).tiles = s.tiles ∧
    (State.failAlloc s n).sram = s.sram ∧
    (State.failAlloc s n).sramG = s.sramG ∧
    (State.failAlloc s n).slices = s.slices ∧
    (State.failAlloc s n).sliceG = s.sliceG ∧
    (State.failAlloc s n).flash = s.flash ∧
    (State.failAlloc s n).tor = s.tor ∧
    (State.failAlloc s n).pending = s.pending := by
  unfold State.failAlloc; simp -implicitDefEqProofs

@[simp] theorem State.postAcquired_keeps (s : State) :
    (State.postAcquired s).fixed = s.fixed ∧
    (State.postAcquired s).ops = s.ops ∧
    (State.postAcquired s).cad = s.cad ∧
    (State.postAcquired s).fw = s.fw ∧
    (State.postAcquired s).sec = s.sec ∧
    (State.postAcquired s).pwr = s.pwr ∧
    (State.postAcquired s).ras = s.ras ∧
    (State.postAcquired s).mgt = s.mgt ∧
    (State.postAcquired s).tiles = s.tiles ∧
    (State.postAcquired s).sram = s.sram ∧
    (State.postAcquired s).sramG = s.sramG ∧
    (State.postAcquired s).slices = s.slices ∧
    (State.postAcquired s).sliceG = s.sliceG ∧
    (State.postAcquired s).flash = s.flash ∧
    (State.postAcquired s).tor = s.tor ∧
    (State.postAcquired s).pending = s.pending := by
  unfold State.postAcquired; simp -implicitDefEqProofs

@[simp] theorem State.measure_keeps (s : State) (off : ℤ) :
    (State.measure s off).fixed = s.fixed ∧
    (State.measure s off).ops = s.ops ∧
    (State.measure s off).fw = s.fw ∧
    (State.measure s off).sec = s.sec ∧
    (State.measure s off).pwr = s.pwr ∧
    (State.measure s off).ras = s.ras ∧
    (State.measure s off).mgt = s.mgt ∧
    (State.measure s off).tiles = s.tiles ∧
    (State.measure s off).sram = s.sram ∧
    (State.measure s off).sramG = s.sramG ∧
    (State.measure s off).slices = s.slices ∧
    (State.measure s off).sliceG = s.sliceG ∧
    (State.measure s off).flash = s.flash ∧
    (State.measure s off).tor = s.tor ∧
    (State.measure s off).pending = s.pending := by
  unfold State.measure; split <;> simp -implicitDefEqProofs

@[simp] theorem State.markTimely_keeps (s : State) :
    (State.markTimely s).fixed = s.fixed ∧
    (State.markTimely s).cad = s.cad ∧
    (State.markTimely s).fw = s.fw ∧
    (State.markTimely s).sec = s.sec ∧
    (State.markTimely s).pwr = s.pwr ∧
    (State.markTimely s).ras = s.ras ∧
    (State.markTimely s).mgt = s.mgt ∧
    (State.markTimely s).tiles = s.tiles ∧
    (State.markTimely s).sram = s.sram ∧
    (State.markTimely s).sramG = s.sramG ∧
    (State.markTimely s).slices = s.slices ∧
    (State.markTimely s).sliceG = s.sliceG ∧
    (State.markTimely s).flash = s.flash ∧
    (State.markTimely s).tor = s.tor ∧
    (State.markTimely s).pending = s.pending := by
  unfold State.markTimely; simp -implicitDefEqProofs

@[simp] theorem State.tickEdge_keeps (s : State) (source : Sys2Proof.W64) (residual : ℤ) :
    (State.tickEdge s source residual).fixed = s.fixed ∧
    (State.tickEdge s source residual).fw = s.fw ∧
    (State.tickEdge s source residual).sec = s.sec ∧
    (State.tickEdge s source residual).pwr = s.pwr ∧
    (State.tickEdge s source residual).ras = s.ras ∧
    (State.tickEdge s source residual).mgt = s.mgt ∧
    (State.tickEdge s source residual).tiles = s.tiles ∧
    (State.tickEdge s source residual).sram = s.sram ∧
    (State.tickEdge s source residual).sramG = s.sramG ∧
    (State.tickEdge s source residual).slices = s.slices ∧
    (State.tickEdge s source residual).sliceG = s.sliceG ∧
    (State.tickEdge s source residual).flash = s.flash ∧
    (State.tickEdge s source residual).tor = s.tor ∧
    (State.tickEdge s source residual).pending = s.pending := by
  unfold State.tickEdge; split <;> simp -implicitDefEqProofs

@[simp] theorem State.loseSource_keeps (s : State) (port : Option ℕ) :
    (State.loseSource s port).fixed = s.fixed ∧
    (State.loseSource s port).ops = s.ops ∧
    (State.loseSource s port).fw = s.fw ∧
    (State.loseSource s port).sec = s.sec ∧
    (State.loseSource s port).pwr = s.pwr ∧
    (State.loseSource s port).ras = s.ras ∧
    (State.loseSource s port).mgt = s.mgt ∧
    (State.loseSource s port).tiles = s.tiles ∧
    (State.loseSource s port).sram = s.sram ∧
    (State.loseSource s port).sramG = s.sramG ∧
    (State.loseSource s port).slices = s.slices ∧
    (State.loseSource s port).sliceG = s.sliceG ∧
    (State.loseSource s port).flash = s.flash ∧
    (State.loseSource s port).tor = s.tor ∧
    (State.loseSource s port).pending = s.pending := by
  unfold State.loseSource; (try dsimp only); (repeat' split) <;> simp -implicitDefEqProofs

@[simp] theorem State.startLocal_keeps (s : State) (v : Sys2Proof.W64) :
    (State.startLocal s v).fixed = s.fixed ∧
    (State.startLocal s v).ops = s.ops ∧
    (State.startLocal s v).fw = s.fw ∧
    (State.startLocal s v).sec = s.sec ∧
    (State.startLocal s v).pwr = s.pwr ∧
    (State.startLocal s v).ras = s.ras ∧
    (State.startLocal s v).mgt = s.mgt ∧
    (State.startLocal s v).tiles = s.tiles ∧
    (State.startLocal s v).sram = s.sram ∧
    (State.startLocal s v).sramG = s.sramG ∧
    (State.startLocal s v).slices = s.slices ∧
    (State.startLocal s v).sliceG = s.sliceG ∧
    (State.startLocal s v).flash = s.flash ∧
    (State.startLocal s v).tor = s.tor ∧
    (State.startLocal s v).pending = s.pending := by
  unfold State.startLocal; simp -implicitDefEqProofs

@[simp] theorem State.setSourceMode_keeps (s : State) (mode : BitVec 2) :
    (State.setSourceMode s mode).fixed = s.fixed ∧
    (State.setSourceMode s mode).ops = s.ops ∧
    (State.setSourceMode s mode).fw = s.fw ∧
    (State.setSourceMode s mode).sec = s.sec ∧
    (State.setSourceMode s mode).pwr = s.pwr ∧
    (State.setSourceMode s mode).ras = s.ras ∧
    (State.setSourceMode s mode).mgt = s.mgt ∧
    (State.setSourceMode s mode).tiles = s.tiles ∧
    (State.setSourceMode s mode).sram = s.sram ∧
    (State.setSourceMode s mode).sramG = s.sramG ∧
    (State.setSourceMode s mode).slices = s.slices ∧
    (State.setSourceMode s mode).sliceG = s.sliceG ∧
    (State.setSourceMode s mode).flash = s.flash ∧
    (State.setSourceMode s mode).tor = s.tor ∧
    (State.setSourceMode s mode).pending = s.pending := by
  unfold State.setSourceMode; (try dsimp only); (repeat' split) <;> simp -implicitDefEqProofs

@[simp] theorem State.setLocal_keeps (s : State) (v : Sys2Proof.W64) :
    (State.setLocal s v).fixed = s.fixed ∧
    (State.setLocal s v).ops = s.ops ∧
    (State.setLocal s v).fw = s.fw ∧
    (State.setLocal s v).sec = s.sec ∧
    (State.setLocal s v).pwr = s.pwr ∧
    (State.setLocal s v).ras = s.ras ∧
    (State.setLocal s v).mgt = s.mgt ∧
    (State.setLocal s v).tiles = s.tiles ∧
    (State.setLocal s v).sram = s.sram ∧
    (State.setLocal s v).sramG = s.sramG ∧
    (State.setLocal s v).slices = s.slices ∧
    (State.setLocal s v).sliceG = s.sliceG ∧
    (State.setLocal s v).flash = s.flash ∧
    (State.setLocal s v).tor = s.tor ∧
    (State.setLocal s v).pending = s.pending := by
  unfold State.setLocal; simp -implicitDefEqProofs

@[simp] theorem State.openCrossings_keeps (s : State) (r : ℕ) :
    (State.openCrossings s r).fixed = s.fixed ∧
    (State.openCrossings s r).ops = s.ops ∧
    (State.openCrossings s r).cad = s.cad ∧
    (State.openCrossings s r).fw = s.fw ∧
    (State.openCrossings s r).sec = s.sec ∧
    (State.openCrossings s r).pwr = s.pwr ∧
    (State.openCrossings s r).ras = s.ras ∧
    (State.openCrossings s r).mgt = s.mgt ∧
    (State.openCrossings s r).tiles = s.tiles ∧
    (State.openCrossings s r).sram = s.sram ∧
    (State.openCrossings s r).sramG = s.sramG ∧
    (State.openCrossings s r).slices = s.slices ∧
    (State.openCrossings s r).sliceG = s.sliceG ∧
    (State.openCrossings s r).flash = s.flash ∧
    (State.openCrossings s r).tor = s.tor ∧
    (State.openCrossings s r).pending = s.pending := by
  unfold State.openCrossings; (try dsimp only); (repeat' split) <;> simp -implicitDefEqProofs (disch := (intros; (try dsimp only); (repeat' split) <;> (try simp -implicitDefEqProofs)))

@[simp] theorem State.enterClass_keeps (s : State) (r : ℕ) (c : ℕ) :
    (State.enterClass s r c).fixed = s.fixed ∧
    (State.enterClass s r c).ops = s.ops ∧
    (State.enterClass s r c).cad = s.cad ∧
    (State.enterClass s r c).fw = s.fw ∧
    (State.enterClass s r c).sec = s.sec ∧
    (State.enterClass s r c).pwr = s.pwr ∧
    (State.enterClass s r c).ras = s.ras ∧
    (State.enterClass s r c).mgt = s.mgt ∧
    (State.enterClass s r c).tiles = s.tiles ∧
    (State.enterClass s r c).sram = s.sram ∧
    (State.enterClass s r c).sramG = s.sramG ∧
    (State.enterClass s r c).slices = s.slices ∧
    (State.enterClass s r c).sliceG = s.sliceG ∧
    (State.enterClass s r c).flash = s.flash ∧
    (State.enterClass s r c).tor = s.tor ∧
    (State.enterClass s r c).pending = s.pending := by
  unfold State.enterClass; simp -implicitDefEqProofs

@[simp] theorem State.pull_keeps (s : State) (r : ℕ) (lull : Bool) :
    (State.pull s r lull).fixed = s.fixed ∧
    (State.pull s r lull).ops = s.ops ∧
    (State.pull s r lull).cad = s.cad ∧
    (State.pull s r lull).fw = s.fw ∧
    (State.pull s r lull).sec = s.sec ∧
    (State.pull s r lull).pwr = s.pwr ∧
    (State.pull s r lull).ras = s.ras ∧
    (State.pull s r lull).mgt = s.mgt ∧
    (State.pull s r lull).tiles = s.tiles ∧
    (State.pull s r lull).sram = s.sram ∧
    (State.pull s r lull).sramG = s.sramG ∧
    (State.pull s r lull).slices = s.slices ∧
    (State.pull s r lull).sliceG = s.sliceG ∧
    (State.pull s r lull).flash = s.flash ∧
    (State.pull s r lull).tor = s.tor ∧
    (State.pull s r lull).pending = s.pending := by
  unfold State.pull; split <;> simp -implicitDefEqProofs

@[simp] theorem State.leaveLull_keeps (s : State) (r : ℕ) :
    (State.leaveLull s r).fixed = s.fixed ∧
    (State.leaveLull s r).ops = s.ops ∧
    (State.leaveLull s r).cad = s.cad ∧
    (State.leaveLull s r).fw = s.fw ∧
    (State.leaveLull s r).sec = s.sec ∧
    (State.leaveLull s r).pwr = s.pwr ∧
    (State.leaveLull s r).ras = s.ras ∧
    (State.leaveLull s r).mgt = s.mgt ∧
    (State.leaveLull s r).tiles = s.tiles ∧
    (State.leaveLull s r).sram = s.sram ∧
    (State.leaveLull s r).sramG = s.sramG ∧
    (State.leaveLull s r).slices = s.slices ∧
    (State.leaveLull s r).sliceG = s.sliceG ∧
    (State.leaveLull s r).flash = s.flash ∧
    (State.leaveLull s r).tor = s.tor ∧
    (State.leaveLull s r).pending = s.pending := by
  unfold State.leaveLull; simp -implicitDefEqProofs

@[simp] theorem State.updMbx_keeps (s : State) (ep : Ep) (f : Mailbox → Mailbox) :
    (State.updMbx s ep f).fixed = s.fixed ∧
    (State.updMbx s ep f).ops = s.ops ∧
    (State.updMbx s ep f).cad = s.cad ∧
    (State.updMbx s ep f).fw = s.fw ∧
    (State.updMbx s ep f).sec = s.sec ∧
    (State.updMbx s ep f).pwr = s.pwr ∧
    (State.updMbx s ep f).ras = s.ras ∧
    (State.updMbx s ep f).mgt = s.mgt ∧
    (State.updMbx s ep f).tiles = s.tiles ∧
    (State.updMbx s ep f).sram = s.sram ∧
    (State.updMbx s ep f).sramG = s.sramG ∧
    (State.updMbx s ep f).slices = s.slices ∧
    (State.updMbx s ep f).sliceG = s.sliceG ∧
    (State.updMbx s ep f).flash = s.flash ∧
    (State.updMbx s ep f).tor = s.tor ∧
    (State.updMbx s ep f).pending = s.pending := by
  unfold State.updMbx; simp -implicitDefEqProofs

@[simp] theorem State.logRecord_keeps (s : State) (kind : ℕ) (data : ℕ) :
    (State.logRecord s kind data).fixed = s.fixed ∧
    (State.logRecord s kind data).ops = s.ops ∧
    (State.logRecord s kind data).cad = s.cad ∧
    (State.logRecord s kind data).fw = s.fw ∧
    (State.logRecord s kind data).sec = s.sec ∧
    (State.logRecord s kind data).pwr = s.pwr ∧
    (State.logRecord s kind data).ras = s.ras ∧
    (State.logRecord s kind data).tiles = s.tiles ∧
    (State.logRecord s kind data).sram = s.sram ∧
    (State.logRecord s kind data).sramG = s.sramG ∧
    (State.logRecord s kind data).slices = s.slices ∧
    (State.logRecord s kind data).sliceG = s.sliceG ∧
    (State.logRecord s kind data).flash = s.flash ∧
    (State.logRecord s kind data).tor = s.tor ∧
    (State.logRecord s kind data).pending = s.pending := by
  unfold State.logRecord; simp -implicitDefEqProofs

@[simp] theorem State.enqueue_keeps (s : State) (h : Handler) (q : Queued) :
    (State.enqueue s h q).fixed = s.fixed ∧
    (State.enqueue s h q).ops = s.ops ∧
    (State.enqueue s h q).cad = s.cad ∧
    (State.enqueue s h q).sec = s.sec ∧
    (State.enqueue s h q).pwr = s.pwr ∧
    (State.enqueue s h q).ras = s.ras ∧
    (State.enqueue s h q).mgt = s.mgt ∧
    (State.enqueue s h q).tiles = s.tiles ∧
    (State.enqueue s h q).sram = s.sram ∧
    (State.enqueue s h q).sramG = s.sramG ∧
    (State.enqueue s h q).slices = s.slices ∧
    (State.enqueue s h q).sliceG = s.sliceG ∧
    (State.enqueue s h q).flash = s.flash ∧
    (State.enqueue s h q).tor = s.tor ∧
    (State.enqueue s h q).pending = s.pending := by
  unfold State.enqueue; simp -implicitDefEqProofs

@[simp] theorem State.engineReply_keeps (s : State) (ep : Ep) (id : ℕ) (disp : ℕ) (result : ℕ) (tag : Sys2Proof.W32) (reqHead : Sys2Proof.W16) (payload : List Sys2Proof.Byte) :
    (State.engineReply s ep id disp result tag reqHead payload).fixed = s.fixed ∧
    (State.engineReply s ep id disp result tag reqHead payload).ops = s.ops ∧
    (State.engineReply s ep id disp result tag reqHead payload).cad = s.cad ∧
    (State.engineReply s ep id disp result tag reqHead payload).fw = s.fw ∧
    (State.engineReply s ep id disp result tag reqHead payload).sec = s.sec ∧
    (State.engineReply s ep id disp result tag reqHead payload).pwr = s.pwr ∧
    (State.engineReply s ep id disp result tag reqHead payload).ras = s.ras ∧
    (State.engineReply s ep id disp result tag reqHead payload).mgt = s.mgt ∧
    (State.engineReply s ep id disp result tag reqHead payload).tiles = s.tiles ∧
    (State.engineReply s ep id disp result tag reqHead payload).sram = s.sram ∧
    (State.engineReply s ep id disp result tag reqHead payload).sramG = s.sramG ∧
    (State.engineReply s ep id disp result tag reqHead payload).slices = s.slices ∧
    (State.engineReply s ep id disp result tag reqHead payload).sliceG = s.sliceG ∧
    (State.engineReply s ep id disp result tag reqHead payload).flash = s.flash ∧
    (State.engineReply s ep id disp result tag reqHead payload).tor = s.tor ∧
    (State.engineReply s ep id disp result tag reqHead payload).pending = s.pending := by
  unfold State.engineReply; simp -implicitDefEqProofs

@[simp] theorem State.acceptMsg_keeps (s : State) (f : Fin 16) (bytes : Option (List Sys2Proof.Byte)) :
    (State.acceptMsg s f bytes).fixed = s.fixed ∧
    (State.acceptMsg s f bytes).ops = s.ops ∧
    (State.acceptMsg s f bytes).cad = s.cad ∧
    (State.acceptMsg s f bytes).sec = s.sec ∧
    (State.acceptMsg s f bytes).pwr = s.pwr ∧
    (State.acceptMsg s f bytes).ras = s.ras ∧
    (State.acceptMsg s f bytes).mgt = s.mgt ∧
    (State.acceptMsg s f bytes).tiles = s.tiles ∧
    (State.acceptMsg s f bytes).sram = s.sram ∧
    (State.acceptMsg s f bytes).sramG = s.sramG ∧
    (State.acceptMsg s f bytes).slices = s.slices ∧
    (State.acceptMsg s f bytes).sliceG = s.sliceG ∧
    (State.acceptMsg s f bytes).flash = s.flash ∧
    (State.acceptMsg s f bytes).tor = s.tor ∧
    (State.acceptMsg s f bytes).pending = s.pending := by
  unfold State.acceptMsg; (try dsimp only); (repeat' split) <;> simp -implicitDefEqProofs

@[simp] theorem State.runImage_keeps (s : State) (kind : ℕ) (slot : Bool) :
    (State.runImage s kind slot).fixed = s.fixed ∧
    (State.runImage s kind slot).ops = s.ops ∧
    (State.runImage s kind slot).cad = s.cad ∧
    (State.runImage s kind slot).fw = s.fw ∧
    (State.runImage s kind slot).pwr = s.pwr ∧
    (State.runImage s kind slot).ras = s.ras ∧
    (State.runImage s kind slot).mgt = s.mgt ∧
    (State.runImage s kind slot).tiles = s.tiles ∧
    (State.runImage s kind slot).sram = s.sram ∧
    (State.runImage s kind slot).sramG = s.sramG ∧
    (State.runImage s kind slot).slices = s.slices ∧
    (State.runImage s kind slot).sliceG = s.sliceG ∧
    (State.runImage s kind slot).flash = s.flash ∧
    (State.runImage s kind slot).tor = s.tor ∧
    (State.runImage s kind slot).pending = s.pending := by
  unfold State.runImage; simp -implicitDefEqProofs

@[simp] theorem State.moveAuth_keeps (s : State) (c : CoreId) (v : BitVec 2) :
    (State.moveAuth s c v).fixed = s.fixed ∧
    (State.moveAuth s c v).ops = s.ops ∧
    (State.moveAuth s c v).cad = s.cad ∧
    (State.moveAuth s c v).sec = s.sec ∧
    (State.moveAuth s c v).pwr = s.pwr ∧
    (State.moveAuth s c v).ras = s.ras ∧
    (State.moveAuth s c v).mgt = s.mgt ∧
    (State.moveAuth s c v).tiles = s.tiles ∧
    (State.moveAuth s c v).sram = s.sram ∧
    (State.moveAuth s c v).sramG = s.sramG ∧
    (State.moveAuth s c v).slices = s.slices ∧
    (State.moveAuth s c v).sliceG = s.sliceG ∧
    (State.moveAuth s c v).flash = s.flash ∧
    (State.moveAuth s c v).tor = s.tor ∧
    (State.moveAuth s c v).pending = s.pending := by
  unfold State.moveAuth; simp -implicitDefEqProofs

@[simp] theorem State.postRegion_keeps (s : State) (r : ℕ) (code : ℕ) (data : ℕ) :
    (State.postRegion s r code data).fixed = s.fixed ∧
    (State.postRegion s r code data).ops = s.ops ∧
    (State.postRegion s r code data).cad = s.cad ∧
    (State.postRegion s r code data).fw = s.fw ∧
    (State.postRegion s r code data).sec = s.sec ∧
    (State.postRegion s r code data).pwr = s.pwr ∧
    (State.postRegion s r code data).ras = s.ras ∧
    (State.postRegion s r code data).mgt = s.mgt ∧
    (State.postRegion s r code data).tiles = s.tiles ∧
    (State.postRegion s r code data).sram = s.sram ∧
    (State.postRegion s r code data).sramG = s.sramG ∧
    (State.postRegion s r code data).slices = s.slices ∧
    (State.postRegion s r code data).sliceG = s.sliceG ∧
    (State.postRegion s r code data).flash = s.flash ∧
    (State.postRegion s r code data).tor = s.tor ∧
    (State.postRegion s r code data).pending = s.pending := by
  unfold State.postRegion; simp -implicitDefEqProofs

@[simp] theorem State.addRecord_keeps (s : State) (r : ℕ) (kind : ℕ) (tile : Option (ℕ × ℕ)) (addr : ℕ) :
    (State.addRecord s r kind tile addr).fixed = s.fixed ∧
    (State.addRecord s r kind tile addr).ops = s.ops ∧
    (State.addRecord s r kind tile addr).cad = s.cad ∧
    (State.addRecord s r kind tile addr).fw = s.fw ∧
    (State.addRecord s r kind tile addr).sec = s.sec ∧
    (State.addRecord s r kind tile addr).pwr = s.pwr ∧
    (State.addRecord s r kind tile addr).ras = s.ras ∧
    (State.addRecord s r kind tile addr).mgt = s.mgt ∧
    (State.addRecord s r kind tile addr).tiles = s.tiles ∧
    (State.addRecord s r kind tile addr).sram = s.sram ∧
    (State.addRecord s r kind tile addr).sramG = s.sramG ∧
    (State.addRecord s r kind tile addr).slices = s.slices ∧
    (State.addRecord s r kind tile addr).sliceG = s.sliceG ∧
    (State.addRecord s r kind tile addr).flash = s.flash ∧
    (State.addRecord s r kind tile addr).tor = s.tor ∧
    (State.addRecord s r kind tile addr).pending = s.pending := by
  unfold State.addRecord; split <;> simp -implicitDefEqProofs

@[simp] theorem State.failCore_keeps (s : State) (c : CoreId) (cause : ℕ) :
    (State.failCore s c cause).fixed = s.fixed ∧
    (State.failCore s c cause).ops = s.ops ∧
    (State.failCore s c cause).cad = s.cad ∧
    (State.failCore s c cause).sec = s.sec ∧
    (State.failCore s c cause).pwr = s.pwr ∧
    (State.failCore s c cause).ras = s.ras ∧
    (State.failCore s c cause).mgt = s.mgt ∧
    (State.failCore s c cause).tiles = s.tiles ∧
    (State.failCore s c cause).sram = s.sram ∧
    (State.failCore s c cause).sramG = s.sramG ∧
    (State.failCore s c cause).slices = s.slices ∧
    (State.failCore s c cause).sliceG = s.sliceG ∧
    (State.failCore s c cause).flash = s.flash ∧
    (State.failCore s c cause).tor = s.tor ∧
    (State.failCore s c cause).pending = s.pending := by
  unfold State.failCore; (try dsimp only); (repeat' split) <;> simp -implicitDefEqProofs

@[simp] theorem State.beginRestart_keeps (s : State) (c : CoreId) (cause : ℕ) (ms : ℕ) (slot : Bool) (dump : Bool) (pc : Sys2Proof.W32) (cmd : Option Msg) :
    (State.beginRestart s c cause ms slot dump pc cmd).fixed = s.fixed ∧
    (State.beginRestart s c cause ms slot dump pc cmd).ops = s.ops ∧
    (State.beginRestart s c cause ms slot dump pc cmd).cad = s.cad ∧
    (State.beginRestart s c cause ms slot dump pc cmd).pwr = s.pwr ∧
    (State.beginRestart s c cause ms slot dump pc cmd).ras = s.ras ∧
    (State.beginRestart s c cause ms slot dump pc cmd).mgt = s.mgt ∧
    (State.beginRestart s c cause ms slot dump pc cmd).tiles = s.tiles ∧
    (State.beginRestart s c cause ms slot dump pc cmd).sram = s.sram ∧
    (State.beginRestart s c cause ms slot dump pc cmd).sramG = s.sramG ∧
    (State.beginRestart s c cause ms slot dump pc cmd).slices = s.slices ∧
    (State.beginRestart s c cause ms slot dump pc cmd).sliceG = s.sliceG ∧
    (State.beginRestart s c cause ms slot dump pc cmd).flash = s.flash ∧
    (State.beginRestart s c cause ms slot dump pc cmd).tor = s.tor ∧
    (State.beginRestart s c cause ms slot dump pc cmd).pending = s.pending := by
  unfold State.beginRestart; (try dsimp only); (repeat' split) <;> simp -implicitDefEqProofs

@[simp] theorem State.cause_keeps (s : State) (c : CoreId) (cause : ℕ) (ms : ℕ) (pc : Sys2Proof.W32) :
    (State.cause s c cause ms pc).fixed = s.fixed ∧
    (State.cause s c cause ms pc).ops = s.ops ∧
    (State.cause s c cause ms pc).cad = s.cad ∧
    (State.cause s c cause ms pc).pwr = s.pwr ∧
    (State.cause s c cause ms pc).ras = s.ras ∧
    (State.cause s c cause ms pc).mgt = s.mgt ∧
    (State.cause s c cause ms pc).tiles = s.tiles ∧
    (State.cause s c cause ms pc).sram = s.sram ∧
    (State.cause s c cause ms pc).sramG = s.sramG ∧
    (State.cause s c cause ms pc).slices = s.slices ∧
    (State.cause s c cause ms pc).sliceG = s.sliceG ∧
    (State.cause s c cause ms pc).flash = s.flash ∧
    (State.cause s c cause ms pc).tor = s.tor ∧
    (State.cause s c cause ms pc).pending = s.pending := by
  unfold State.cause; (try dsimp only); (repeat' split) <;> simp -implicitDefEqProofs

@[simp] theorem State.freePlaces_keeps (s : State) :
    (State.freePlaces s).fixed = s.fixed ∧
    (State.freePlaces s).ops = s.ops ∧
    (State.freePlaces s).cad = s.cad ∧
    (State.freePlaces s).sec = s.sec ∧
    (State.freePlaces s).pwr = s.pwr ∧
    (State.freePlaces s).ras = s.ras ∧
    (State.freePlaces s).mgt = s.mgt ∧
    (State.freePlaces s).tiles = s.tiles ∧
    (State.freePlaces s).sram = s.sram ∧
    (State.freePlaces s).sramG = s.sramG ∧
    (State.freePlaces s).slices = s.slices ∧
    (State.freePlaces s).sliceG = s.sliceG ∧
    (State.freePlaces s).flash = s.flash ∧
    (State.freePlaces s).tor = s.tor ∧
    (State.freePlaces s).pending = s.pending := by
  unfold State.freePlaces; simp -implicitDefEqProofs

@[simp] theorem State.flushRegion_keeps (s : State) (r : ℕ) :
    (State.flushRegion s r).fixed = s.fixed ∧
    (State.flushRegion s r).ops = s.ops ∧
    (State.flushRegion s r).cad = s.cad ∧
    (State.flushRegion s r).fw = s.fw ∧
    (State.flushRegion s r).sec = s.sec ∧
    (State.flushRegion s r).pwr = s.pwr ∧
    (State.flushRegion s r).ras = s.ras ∧
    (State.flushRegion s r).mgt = s.mgt ∧
    (State.flushRegion s r).tiles = s.tiles ∧
    (State.flushRegion s r).sram = s.sram ∧
    (State.flushRegion s r).sramG = s.sramG ∧
    (State.flushRegion s r).slices = s.slices ∧
    (State.flushRegion s r).sliceG = s.sliceG ∧
    (State.flushRegion s r).flash = s.flash ∧
    (State.flushRegion s r).tor = s.tor ∧
    (State.flushRegion s r).pending = s.pending := by
  unfold State.flushRegion; simp -implicitDefEqProofs

@[simp] theorem State.writeWdog_keeps (s : State) (v : Sys2Proof.W64) :
    (State.writeWdog s v).fixed = s.fixed ∧
    (State.writeWdog s v).ops = s.ops ∧
    (State.writeWdog s v).cad = s.cad ∧
    (State.writeWdog s v).sec = s.sec ∧
    (State.writeWdog s v).pwr = s.pwr ∧
    (State.writeWdog s v).ras = s.ras ∧
    (State.writeWdog s v).mgt = s.mgt ∧
    (State.writeWdog s v).tiles = s.tiles ∧
    (State.writeWdog s v).sram = s.sram ∧
    (State.writeWdog s v).sramG = s.sramG ∧
    (State.writeWdog s v).slices = s.slices ∧
    (State.writeWdog s v).sliceG = s.sliceG ∧
    (State.writeWdog s v).flash = s.flash ∧
    (State.writeWdog s v).tor = s.tor ∧
    (State.writeWdog s v).pending = s.pending := by
  unfold State.writeWdog; simp -implicitDefEqProofs

@[simp] theorem State.writeDumpSel_keeps (s : State) (k : ℕ) (v : Sys2Proof.W64) :
    (State.writeDumpSel s k v).fixed = s.fixed ∧
    (State.writeDumpSel s k v).ops = s.ops ∧
    (State.writeDumpSel s k v).cad = s.cad ∧
    (State.writeDumpSel s k v).fw = s.fw ∧
    (State.writeDumpSel s k v).sec = s.sec ∧
    (State.writeDumpSel s k v).pwr = s.pwr ∧
    (State.writeDumpSel s k v).ras = s.ras ∧
    (State.writeDumpSel s k v).mgt = s.mgt ∧
    (State.writeDumpSel s k v).tiles = s.tiles ∧
    (State.writeDumpSel s k v).sram = s.sram ∧
    (State.writeDumpSel s k v).sramG = s.sramG ∧
    (State.writeDumpSel s k v).slices = s.slices ∧
    (State.writeDumpSel s k v).sliceG = s.sliceG ∧
    (State.writeDumpSel s k v).flash = s.flash ∧
    (State.writeDumpSel s k v).tor = s.tor ∧
    (State.writeDumpSel s k v).pending = s.pending := by
  unfold State.writeDumpSel; simp -implicitDefEqProofs

@[simp] theorem State.readDumpData_keeps (s : State) (k : Fin 4) (off : BitVec 24) (size : ℕ) :
    (State.readDumpData s k off size).fixed = s.fixed ∧
    (State.readDumpData s k off size).ops = s.ops ∧
    (State.readDumpData s k off size).cad = s.cad ∧
    (State.readDumpData s k off size).fw = s.fw ∧
    (State.readDumpData s k off size).sec = s.sec ∧
    (State.readDumpData s k off size).pwr = s.pwr ∧
    (State.readDumpData s k off size).ras = s.ras ∧
    (State.readDumpData s k off size).mgt = s.mgt ∧
    (State.readDumpData s k off size).tiles = s.tiles ∧
    (State.readDumpData s k off size).sram = s.sram ∧
    (State.readDumpData s k off size).sramG = s.sramG ∧
    (State.readDumpData s k off size).slices = s.slices ∧
    (State.readDumpData s k off size).sliceG = s.sliceG ∧
    (State.readDumpData s k off size).flash = s.flash ∧
    (State.readDumpData s k off size).tor = s.tor ∧
    (State.readDumpData s k off size).pending = s.pending := by
  unfold State.readDumpData; simp -implicitDefEqProofs

@[simp] theorem State.addKnown_keeps (s : State) (r : ℕ) (ij : ℕ × ℕ) (row : ℕ) :
    (State.addKnown s r ij row).fixed = s.fixed ∧
    (State.addKnown s r ij row).ops = s.ops ∧
    (State.addKnown s r ij row).cad = s.cad ∧
    (State.addKnown s r ij row).fw = s.fw ∧
    (State.addKnown s r ij row).sec = s.sec ∧
    (State.addKnown s r ij row).pwr = s.pwr ∧
    (State.addKnown s r ij row).mgt = s.mgt ∧
    (State.addKnown s r ij row).tiles = s.tiles ∧
    (State.addKnown s r ij row).sram = s.sram ∧
    (State.addKnown s r ij row).sramG = s.sramG ∧
    (State.addKnown s r ij row).slices = s.slices ∧
    (State.addKnown s r ij row).sliceG = s.sliceG ∧
    (State.addKnown s r ij row).flash = s.flash ∧
    (State.addKnown s r ij row).tor = s.tor ∧
    (State.addKnown s r ij row).pending = s.pending := by
  unfold State.addKnown; simp -implicitDefEqProofs

@[simp] theorem State.tileFault_keeps (s : State) (t : ℕ) (row : ℕ) :
    (State.tileFault s t row).fixed = s.fixed ∧
    (State.tileFault s t row).ops = s.ops ∧
    (State.tileFault s t row).cad = s.cad ∧
    (State.tileFault s t row).fw = s.fw ∧
    (State.tileFault s t row).sec = s.sec ∧
    (State.tileFault s t row).pwr = s.pwr ∧
    (State.tileFault s t row).mgt = s.mgt ∧
    (State.tileFault s t row).tiles = s.tiles ∧
    (State.tileFault s t row).sram = s.sram ∧
    (State.tileFault s t row).sramG = s.sramG ∧
    (State.tileFault s t row).slices = s.slices ∧
    (State.tileFault s t row).sliceG = s.sliceG ∧
    (State.tileFault s t row).flash = s.flash ∧
    (State.tileFault s t row).tor = s.tor ∧
    (State.tileFault s t row).pending = s.pending := by
  unfold State.tileFault; simp -implicitDefEqProofs

@[simp] theorem State.sramEcc_keeps (s : State) (t : ℕ) (a : ℕ) (f : EccFind) :
    (State.sramEcc s t a f).fixed = s.fixed ∧
    (State.sramEcc s t a f).ops = s.ops ∧
    (State.sramEcc s t a f).cad = s.cad ∧
    (State.sramEcc s t a f).fw = s.fw ∧
    (State.sramEcc s t a f).sec = s.sec ∧
    (State.sramEcc s t a f).pwr = s.pwr ∧
    (State.sramEcc s t a f).mgt = s.mgt ∧
    (State.sramEcc s t a f).tiles = s.tiles ∧
    (State.sramEcc s t a f).sram = s.sram ∧
    (State.sramEcc s t a f).slices = s.slices ∧
    (State.sramEcc s t a f).sliceG = s.sliceG ∧
    (State.sramEcc s t a f).flash = s.flash ∧
    (State.sramEcc s t a f).tor = s.tor ∧
    (State.sramEcc s t a f).pending = s.pending := by
  unfold State.sramEcc; split <;> simp -implicitDefEqProofs

@[simp] theorem State.sliceEcc_keeps (s : State) (t : ℕ) (off : ℕ) (f : EccFind) :
    (State.sliceEcc s t off f).fixed = s.fixed ∧
    (State.sliceEcc s t off f).ops = s.ops ∧
    (State.sliceEcc s t off f).cad = s.cad ∧
    (State.sliceEcc s t off f).fw = s.fw ∧
    (State.sliceEcc s t off f).sec = s.sec ∧
    (State.sliceEcc s t off f).pwr = s.pwr ∧
    (State.sliceEcc s t off f).mgt = s.mgt ∧
    (State.sliceEcc s t off f).tiles = s.tiles ∧
    (State.sliceEcc s t off f).sram = s.sram ∧
    (State.sliceEcc s t off f).sramG = s.sramG ∧
    (State.sliceEcc s t off f).slices = s.slices ∧
    (State.sliceEcc s t off f).flash = s.flash ∧
    (State.sliceEcc s t off f).tor = s.tor ∧
    (State.sliceEcc s t off f).pending = s.pending := by
  unfold State.sliceEcc; (try dsimp only); (repeat' split) <;> simp -implicitDefEqProofs

@[simp] theorem State.logicFault_keeps (s : State) (t : ℕ) (a : ℕ) :
    (State.logicFault s t a).fixed = s.fixed ∧
    (State.logicFault s t a).ops = s.ops ∧
    (State.logicFault s t a).cad = s.cad ∧
    (State.logicFault s t a).fw = s.fw ∧
    (State.logicFault s t a).sec = s.sec ∧
    (State.logicFault s t a).pwr = s.pwr ∧
    (State.logicFault s t a).mgt = s.mgt ∧
    (State.logicFault s t a).tiles = s.tiles ∧
    (State.logicFault s t a).sram = s.sram ∧
    (State.logicFault s t a).sramG = s.sramG ∧
    (State.logicFault s t a).slices = s.slices ∧
    (State.logicFault s t a).sliceG = s.sliceG ∧
    (State.logicFault s t a).flash = s.flash ∧
    (State.logicFault s t a).tor = s.tor ∧
    (State.logicFault s t a).pending = s.pending := by
  unfold State.logicFault; simp -implicitDefEqProofs

end Sys2Proof.Machine
end

