-- ==== Sys2Proof/Laws/FrameStreams.lean ====
section
/-! SUPPORT. Frames, one lemma an operation: what each operation of the data-moving families leaves alone. Each lemma lists the fields of State
the operation never writes; all are simp lemmas, so a proof about a command need not unfold them. -/

namespace Sys2Proof.Machine

open Host

@[simp] theorem State.linkEcc_keeps (s : State) (e : LinkEcc) :
    (State.linkEcc s e).fixed = s.fixed ∧
    (State.linkEcc s e).ops = s.ops ∧
    (State.linkEcc s e).cad = s.cad ∧
    (State.linkEcc s e).fw = s.fw ∧
    (State.linkEcc s e).sec = s.sec ∧
    (State.linkEcc s e).pwr = s.pwr ∧
    (State.linkEcc s e).ras = s.ras ∧
    (State.linkEcc s e).mgt = s.mgt ∧
    (State.linkEcc s e).tiles = s.tiles ∧
    (State.linkEcc s e).sram = s.sram ∧
    (State.linkEcc s e).sramG = s.sramG ∧
    (State.linkEcc s e).slices = s.slices ∧
    (State.linkEcc s e).sliceG = s.sliceG ∧
    (State.linkEcc s e).flash = s.flash ∧
    (State.linkEcc s e).tor = s.tor ∧
    (State.linkEcc s e).pending = s.pending := by
  unfold State.linkEcc; split <;> simp -implicitDefEqProofs

@[simp] theorem State.keyDrop_keeps (s : State) (r : ℕ) (side : ℕ) (ch : ℕ) (key : Sys2Proof.W16) :
    (State.keyDrop s r side ch key).fixed = s.fixed ∧
    (State.keyDrop s r side ch key).ops = s.ops ∧
    (State.keyDrop s r side ch key).cad = s.cad ∧
    (State.keyDrop s r side ch key).fw = s.fw ∧
    (State.keyDrop s r side ch key).sec = s.sec ∧
    (State.keyDrop s r side ch key).pwr = s.pwr ∧
    (State.keyDrop s r side ch key).ras = s.ras ∧
    (State.keyDrop s r side ch key).mgt = s.mgt ∧
    (State.keyDrop s r side ch key).tiles = s.tiles ∧
    (State.keyDrop s r side ch key).sram = s.sram ∧
    (State.keyDrop s r side ch key).sramG = s.sramG ∧
    (State.keyDrop s r side ch key).slices = s.slices ∧
    (State.keyDrop s r side ch key).sliceG = s.sliceG ∧
    (State.keyDrop s r side ch key).flash = s.flash ∧
    (State.keyDrop s r side ch key).tor = s.tor ∧
    (State.keyDrop s r side ch key).pending = s.pending := by
  unfold State.keyDrop; simp -implicitDefEqProofs

@[simp] theorem State.failXfer_keeps (s : State) (x : Xfer) (code : ℕ) (addr : ℕ) (detail : ℕ) :
    (State.failXfer s x code addr detail).fixed = s.fixed ∧
    (State.failXfer s x code addr detail).cad = s.cad ∧
    (State.failXfer s x code addr detail).fw = s.fw ∧
    (State.failXfer s x code addr detail).sec = s.sec ∧
    (State.failXfer s x code addr detail).pwr = s.pwr ∧
    (State.failXfer s x code addr detail).ras = s.ras ∧
    (State.failXfer s x code addr detail).mgt = s.mgt ∧
    (State.failXfer s x code addr detail).sram = s.sram ∧
    (State.failXfer s x code addr detail).sramG = s.sramG ∧
    (State.failXfer s x code addr detail).slices = s.slices ∧
    (State.failXfer s x code addr detail).sliceG = s.sliceG ∧
    (State.failXfer s x code addr detail).flash = s.flash ∧
    (State.failXfer s x code addr detail).tor = s.tor ∧
    (State.failXfer s x code addr detail).pending = s.pending := by
  unfold State.failXfer; simp -implicitDefEqProofs

@[simp] theorem State.addPkt_keeps (s : State) (x : Xfer) (kind : ℕ) (places : List Place) (off : ℕ) (len : ℕ) (piece : Piece) :
    (State.addPkt s x kind places off len piece).fixed = s.fixed ∧
    (State.addPkt s x kind places off len piece).ops = s.ops ∧
    (State.addPkt s x kind places off len piece).cad = s.cad ∧
    (State.addPkt s x kind places off len piece).fw = s.fw ∧
    (State.addPkt s x kind places off len piece).sec = s.sec ∧
    (State.addPkt s x kind places off len piece).pwr = s.pwr ∧
    (State.addPkt s x kind places off len piece).ras = s.ras ∧
    (State.addPkt s x kind places off len piece).mgt = s.mgt ∧
    (State.addPkt s x kind places off len piece).tiles = s.tiles ∧
    (State.addPkt s x kind places off len piece).sram = s.sram ∧
    (State.addPkt s x kind places off len piece).sramG = s.sramG ∧
    (State.addPkt s x kind places off len piece).slices = s.slices ∧
    (State.addPkt s x kind places off len piece).sliceG = s.sliceG ∧
    (State.addPkt s x kind places off len piece).flash = s.flash ∧
    (State.addPkt s x kind places off len piece).tor = s.tor ∧
    (State.addPkt s x kind places off len piece).pending = s.pending := by
  unfold State.addPkt; simp -implicitDefEqProofs

@[simp] theorem State.endXfer_keeps (s : State) (x : Xfer) :
    (State.endXfer s x).fixed = s.fixed ∧
    (State.endXfer s x).ops = s.ops ∧
    (State.endXfer s x).cad = s.cad ∧
    (State.endXfer s x).fw = s.fw ∧
    (State.endXfer s x).sec = s.sec ∧
    (State.endXfer s x).pwr = s.pwr ∧
    (State.endXfer s x).ras = s.ras ∧
    (State.endXfer s x).mgt = s.mgt ∧
    (State.endXfer s x).tiles = s.tiles ∧
    (State.endXfer s x).slices = s.slices ∧
    (State.endXfer s x).sliceG = s.sliceG ∧
    (State.endXfer s x).flash = s.flash ∧
    (State.endXfer s x).tor = s.tor ∧
    (State.endXfer s x).pending = s.pending := by
  unfold State.endXfer; split <;> simp -implicitDefEqProofs

@[simp] theorem State.cellEcc_keeps (s : State) (pl : Place) (f : EccFind) :
    (State.cellEcc s pl f).fixed = s.fixed ∧
    (State.cellEcc s pl f).ops = s.ops ∧
    (State.cellEcc s pl f).cad = s.cad ∧
    (State.cellEcc s pl f).fw = s.fw ∧
    (State.cellEcc s pl f).sec = s.sec ∧
    (State.cellEcc s pl f).pwr = s.pwr ∧
    (State.cellEcc s pl f).mgt = s.mgt ∧
    (State.cellEcc s pl f).tiles = s.tiles ∧
    (State.cellEcc s pl f).sram = s.sram ∧
    (State.cellEcc s pl f).slices = s.slices ∧
    (State.cellEcc s pl f).flash = s.flash ∧
    (State.cellEcc s pl f).tor = s.tor ∧
    (State.cellEcc s pl f).pending = s.pending := by
  unfold State.cellEcc; (try dsimp only); (repeat' split) <;> simp -implicitDefEqProofs

@[simp] theorem State.abortWaiters_keeps (s : State) (t : ℕ) :
    (State.abortWaiters s t).fixed = s.fixed ∧
    (State.abortWaiters s t).cad = s.cad ∧
    (State.abortWaiters s t).fw = s.fw ∧
    (State.abortWaiters s t).sec = s.sec ∧
    (State.abortWaiters s t).pwr = s.pwr ∧
    (State.abortWaiters s t).ras = s.ras ∧
    (State.abortWaiters s t).mgt = s.mgt ∧
    (State.abortWaiters s t).sram = s.sram ∧
    (State.abortWaiters s t).sramG = s.sramG ∧
    (State.abortWaiters s t).slices = s.slices ∧
    (State.abortWaiters s t).sliceG = s.sliceG ∧
    (State.abortWaiters s t).flash = s.flash ∧
    (State.abortWaiters s t).tor = s.tor ∧
    (State.abortWaiters s t).pending = s.pending := by
  unfold State.abortWaiters; (try dsimp only); (repeat' split) <;> simp -implicitDefEqProofs

@[simp] theorem State.openArrive_keeps (s : State) (t : ℕ) (i : ℕ) :
    (State.openArrive s t i).fixed = s.fixed ∧
    (State.openArrive s t i).ops = s.ops ∧
    (State.openArrive s t i).cad = s.cad ∧
    (State.openArrive s t i).fw = s.fw ∧
    (State.openArrive s t i).sec = s.sec ∧
    (State.openArrive s t i).pwr = s.pwr ∧
    (State.openArrive s t i).ras = s.ras ∧
    (State.openArrive s t i).mgt = s.mgt ∧
    (State.openArrive s t i).sram = s.sram ∧
    (State.openArrive s t i).sramG = s.sramG ∧
    (State.openArrive s t i).slices = s.slices ∧
    (State.openArrive s t i).sliceG = s.sliceG ∧
    (State.openArrive s t i).flash = s.flash ∧
    (State.openArrive s t i).tor = s.tor ∧
    (State.openArrive s t i).pending = s.pending := by
  unfold State.openArrive; split <;> simp -implicitDefEqProofs

@[simp] theorem State.failInst_keeps (s : State) (i : ℕ) (st : ℕ) (detail : ℕ) :
    (State.failInst s i st detail).fixed = s.fixed ∧
    (State.failInst s i st detail).ops = s.ops ∧
    (State.failInst s i st detail).cad = s.cad ∧
    (State.failInst s i st detail).fw = s.fw ∧
    (State.failInst s i st detail).sec = s.sec ∧
    (State.failInst s i st detail).pwr = s.pwr ∧
    (State.failInst s i st detail).ras = s.ras ∧
    (State.failInst s i st detail).mgt = s.mgt ∧
    (State.failInst s i st detail).tiles = s.tiles ∧
    (State.failInst s i st detail).sram = s.sram ∧
    (State.failInst s i st detail).sramG = s.sramG ∧
    (State.failInst s i st detail).slices = s.slices ∧
    (State.failInst s i st detail).sliceG = s.sliceG ∧
    (State.failInst s i st detail).flash = s.flash ∧
    (State.failInst s i st detail).tor = s.tor ∧
    (State.failInst s i st detail).pending = s.pending := by
  unfold State.failInst; simp -implicitDefEqProofs

@[simp] theorem State.retireInst_keeps (s : State) (i : ℕ) :
    (State.retireInst s i).fixed = s.fixed ∧
    (State.retireInst s i).ops = s.ops ∧
    (State.retireInst s i).cad = s.cad ∧
    (State.retireInst s i).fw = s.fw ∧
    (State.retireInst s i).sec = s.sec ∧
    (State.retireInst s i).pwr = s.pwr ∧
    (State.retireInst s i).ras = s.ras ∧
    (State.retireInst s i).mgt = s.mgt ∧
    (State.retireInst s i).tiles = s.tiles ∧
    (State.retireInst s i).sram = s.sram ∧
    (State.retireInst s i).sramG = s.sramG ∧
    (State.retireInst s i).slices = s.slices ∧
    (State.retireInst s i).sliceG = s.sliceG ∧
    (State.retireInst s i).flash = s.flash ∧
    (State.retireInst s i).tor = s.tor ∧
    (State.retireInst s i).pending = s.pending := by
  unfold State.retireInst; split <;> simp -implicitDefEqProofs

@[simp] theorem State.endArrive_keeps (s : State) (t : ℕ) (i : ℕ) (abort : Bool) :
    (State.endArrive s t i abort).fixed = s.fixed ∧
    (State.endArrive s t i abort).cad = s.cad ∧
    (State.endArrive s t i abort).fw = s.fw ∧
    (State.endArrive s t i abort).sec = s.sec ∧
    (State.endArrive s t i abort).pwr = s.pwr ∧
    (State.endArrive s t i abort).ras = s.ras ∧
    (State.endArrive s t i abort).mgt = s.mgt ∧
    (State.endArrive s t i abort).sram = s.sram ∧
    (State.endArrive s t i abort).sramG = s.sramG ∧
    (State.endArrive s t i abort).slices = s.slices ∧
    (State.endArrive s t i abort).sliceG = s.sliceG ∧
    (State.endArrive s t i abort).flash = s.flash ∧
    (State.endArrive s t i abort).tor = s.tor ∧
    (State.endArrive s t i abort).pending = s.pending := by
  unfold State.endArrive; (try dsimp only); (repeat' split) <;> simp -implicitDefEqProofs

@[simp] theorem State.gradOpenArrive_keeps (s : State) (t : ℕ) (i : ℕ) :
    (State.gradOpenArrive s t i).fixed = s.fixed ∧
    (State.gradOpenArrive s t i).cad = s.cad ∧
    (State.gradOpenArrive s t i).fw = s.fw ∧
    (State.gradOpenArrive s t i).sec = s.sec ∧
    (State.gradOpenArrive s t i).pwr = s.pwr ∧
    (State.gradOpenArrive s t i).ras = s.ras ∧
    (State.gradOpenArrive s t i).mgt = s.mgt ∧
    (State.gradOpenArrive s t i).sram = s.sram ∧
    (State.gradOpenArrive s t i).sramG = s.sramG ∧
    (State.gradOpenArrive s t i).slices = s.slices ∧
    (State.gradOpenArrive s t i).sliceG = s.sliceG ∧
    (State.gradOpenArrive s t i).flash = s.flash ∧
    (State.gradOpenArrive s t i).tor = s.tor ∧
    (State.gradOpenArrive s t i).pending = s.pending := by
  unfold State.gradOpenArrive; split <;> simp -implicitDefEqProofs

@[simp] theorem State.sendGradData_keeps (s : State) (x : Inst) (reqId : ℕ) (first : ℕ) (count : ℕ) (frame : List Sys2Proof.Byte) :
    (State.sendGradData s x reqId first count frame).fixed = s.fixed ∧
    (State.sendGradData s x reqId first count frame).ops = s.ops ∧
    (State.sendGradData s x reqId first count frame).cad = s.cad ∧
    (State.sendGradData s x reqId first count frame).fw = s.fw ∧
    (State.sendGradData s x reqId first count frame).sec = s.sec ∧
    (State.sendGradData s x reqId first count frame).pwr = s.pwr ∧
    (State.sendGradData s x reqId first count frame).ras = s.ras ∧
    (State.sendGradData s x reqId first count frame).mgt = s.mgt ∧
    (State.sendGradData s x reqId first count frame).tiles = s.tiles ∧
    (State.sendGradData s x reqId first count frame).sram = s.sram ∧
    (State.sendGradData s x reqId first count frame).sramG = s.sramG ∧
    (State.sendGradData s x reqId first count frame).slices = s.slices ∧
    (State.sendGradData s x reqId first count frame).sliceG = s.sliceG ∧
    (State.sendGradData s x reqId first count frame).flash = s.flash ∧
    (State.sendGradData s x reqId first count frame).tor = s.tor ∧
    (State.sendGradData s x reqId first count frame).pending = s.pending := by
  unfold State.sendGradData; simp -implicitDefEqProofs

@[simp] theorem State.gradAbort_keeps (s : State) (i : ℕ) (st : ℕ) (detail : ℕ) :
    (State.gradAbort s i st detail).fixed = s.fixed ∧
    (State.gradAbort s i st detail).ops = s.ops ∧
    (State.gradAbort s i st detail).cad = s.cad ∧
    (State.gradAbort s i st detail).fw = s.fw ∧
    (State.gradAbort s i st detail).sec = s.sec ∧
    (State.gradAbort s i st detail).pwr = s.pwr ∧
    (State.gradAbort s i st detail).ras = s.ras ∧
    (State.gradAbort s i st detail).mgt = s.mgt ∧
    (State.gradAbort s i st detail).tiles = s.tiles ∧
    (State.gradAbort s i st detail).sram = s.sram ∧
    (State.gradAbort s i st detail).sramG = s.sramG ∧
    (State.gradAbort s i st detail).slices = s.slices ∧
    (State.gradAbort s i st detail).sliceG = s.sliceG ∧
    (State.gradAbort s i st detail).flash = s.flash ∧
    (State.gradAbort s i st detail).tor = s.tor ∧
    (State.gradAbort s i st detail).pending = s.pending := by
  unfold State.gradAbort; split <;> simp -implicitDefEqProofs

@[simp] theorem State.gradClose_keeps (s : State) (i : ℕ) :
    (State.gradClose s i).fixed = s.fixed ∧
    (State.gradClose s i).ops = s.ops ∧
    (State.gradClose s i).cad = s.cad ∧
    (State.gradClose s i).fw = s.fw ∧
    (State.gradClose s i).sec = s.sec ∧
    (State.gradClose s i).pwr = s.pwr ∧
    (State.gradClose s i).ras = s.ras ∧
    (State.gradClose s i).mgt = s.mgt ∧
    (State.gradClose s i).tiles = s.tiles ∧
    (State.gradClose s i).sram = s.sram ∧
    (State.gradClose s i).sramG = s.sramG ∧
    (State.gradClose s i).slices = s.slices ∧
    (State.gradClose s i).sliceG = s.sliceG ∧
    (State.gradClose s i).flash = s.flash ∧
    (State.gradClose s i).tor = s.tor ∧
    (State.gradClose s i).pending = s.pending := by
  unfold State.gradClose; split <;> simp -implicitDefEqProofs

@[simp] theorem State.gradFrame_keeps (s : State) (i : ℕ) :
    (State.gradFrame s i).fixed = s.fixed ∧
    (State.gradFrame s i).ops = s.ops ∧
    (State.gradFrame s i).cad = s.cad ∧
    (State.gradFrame s i).fw = s.fw ∧
    (State.gradFrame s i).pwr = s.pwr ∧
    (State.gradFrame s i).ras = s.ras ∧
    (State.gradFrame s i).mgt = s.mgt ∧
    (State.gradFrame s i).tiles = s.tiles ∧
    (State.gradFrame s i).sram = s.sram ∧
    (State.gradFrame s i).sramG = s.sramG ∧
    (State.gradFrame s i).slices = s.slices ∧
    (State.gradFrame s i).sliceG = s.sliceG ∧
    (State.gradFrame s i).flash = s.flash ∧
    (State.gradFrame s i).tor = s.tor ∧
    (State.gradFrame s i).pending = s.pending := by
  unfold State.gradFrame; (try dsimp only); (repeat' split) <;> simp -implicitDefEqProofs

@[simp] theorem State.gradArrive_keeps (s0 : State) (t : ℕ) (i : ℕ) (ecc : LinkEcc) :
    (State.gradArrive s0 t i ecc).fixed = s0.fixed ∧
    (State.gradArrive s0 t i ecc).ops = s0.ops ∧
    (State.gradArrive s0 t i ecc).cad = s0.cad ∧
    (State.gradArrive s0 t i ecc).fw = s0.fw ∧
    (State.gradArrive s0 t i ecc).pwr = s0.pwr ∧
    (State.gradArrive s0 t i ecc).ras = s0.ras ∧
    (State.gradArrive s0 t i ecc).mgt = s0.mgt ∧
    (State.gradArrive s0 t i ecc).sram = s0.sram ∧
    (State.gradArrive s0 t i ecc).sramG = s0.sramG ∧
    (State.gradArrive s0 t i ecc).slices = s0.slices ∧
    (State.gradArrive s0 t i ecc).sliceG = s0.sliceG ∧
    (State.gradArrive s0 t i ecc).flash = s0.flash ∧
    (State.gradArrive s0 t i ecc).tor = s0.tor ∧
    (State.gradArrive s0 t i ecc).pending = s0.pending := by
  unfold State.gradArrive; (try dsimp only); (repeat' split) <;> simp -implicitDefEqProofs

@[simp] theorem State.gradEnd_keeps (s : State) (i : ℕ) :
    (State.gradEnd s i).fixed = s.fixed ∧
    (State.gradEnd s i).cad = s.cad ∧
    (State.gradEnd s i).fw = s.fw ∧
    (State.gradEnd s i).sec = s.sec ∧
    (State.gradEnd s i).pwr = s.pwr ∧
    (State.gradEnd s i).ras = s.ras ∧
    (State.gradEnd s i).mgt = s.mgt ∧
    (State.gradEnd s i).sram = s.sram ∧
    (State.gradEnd s i).sramG = s.sramG ∧
    (State.gradEnd s i).slices = s.slices ∧
    (State.gradEnd s i).sliceG = s.sliceG ∧
    (State.gradEnd s i).flash = s.flash ∧
    (State.gradEnd s i).tor = s.tor ∧
    (State.gradEnd s i).pending = s.pending := by
  unfold State.gradEnd; (try dsimp only); (repeat' split) <;> simp -implicitDefEqProofs

@[simp] theorem State.raiseQ_keeps (s : State) (t : ℕ) (e : QEntry) (x : QExc) :
    (State.raiseQ s t e x).fixed = s.fixed ∧
    (State.raiseQ s t e x).cad = s.cad ∧
    (State.raiseQ s t e x).fw = s.fw ∧
    (State.raiseQ s t e x).sec = s.sec ∧
    (State.raiseQ s t e x).pwr = s.pwr ∧
    (State.raiseQ s t e x).ras = s.ras ∧
    (State.raiseQ s t e x).mgt = s.mgt ∧
    (State.raiseQ s t e x).sram = s.sram ∧
    (State.raiseQ s t e x).sramG = s.sramG ∧
    (State.raiseQ s t e x).slices = s.slices ∧
    (State.raiseQ s t e x).sliceG = s.sliceG ∧
    (State.raiseQ s t e x).flash = s.flash ∧
    (State.raiseQ s t e x).tor = s.tor ∧
    (State.raiseQ s t e x).pending = s.pending := by
  unfold State.raiseQ; simp -implicitDefEqProofs

@[simp] theorem State.beginRun_keeps (s : State) (o : Op) (r : RunState) :
    (State.beginRun s o r).fixed = s.fixed ∧
    (State.beginRun s o r).ops = s.ops ∧
    (State.beginRun s o r).cad = s.cad ∧
    (State.beginRun s o r).fw = s.fw ∧
    (State.beginRun s o r).sec = s.sec ∧
    (State.beginRun s o r).pwr = s.pwr ∧
    (State.beginRun s o r).ras = s.ras ∧
    (State.beginRun s o r).mgt = s.mgt ∧
    (State.beginRun s o r).sram = s.sram ∧
    (State.beginRun s o r).sramG = s.sramG ∧
    (State.beginRun s o r).slices = s.slices ∧
    (State.beginRun s o r).sliceG = s.sliceG ∧
    (State.beginRun s o r).flash = s.flash ∧
    (State.beginRun s o r).tor = s.tor ∧
    (State.beginRun s o r).pending = s.pending := by
  unfold State.beginRun; simp -implicitDefEqProofs

@[simp] theorem State.placeImage_keeps (s : State) (t : ℕ) (slot : ℕ) (img : List Sys2Proof.Byte) :
    (State.placeImage s t slot img).fixed = s.fixed ∧
    (State.placeImage s t slot img).ops = s.ops ∧
    (State.placeImage s t slot img).cad = s.cad ∧
    (State.placeImage s t slot img).fw = s.fw ∧
    (State.placeImage s t slot img).sec = s.sec ∧
    (State.placeImage s t slot img).pwr = s.pwr ∧
    (State.placeImage s t slot img).ras = s.ras ∧
    (State.placeImage s t slot img).mgt = s.mgt ∧
    (State.placeImage s t slot img).slices = s.slices ∧
    (State.placeImage s t slot img).sliceG = s.sliceG ∧
    (State.placeImage s t slot img).flash = s.flash ∧
    (State.placeImage s t slot img).tor = s.tor ∧
    (State.placeImage s t slot img).pending = s.pending := by
  unfold State.placeImage; simp -implicitDefEqProofs

@[simp] theorem State.loadImage_keeps (s : State) (o : Op) (r : RunState) (l : List Piece) :
    (State.loadImage s o r l).fixed = s.fixed ∧
    (State.loadImage s o r l).cad = s.cad ∧
    (State.loadImage s o r l).fw = s.fw ∧
    (State.loadImage s o r l).sec = s.sec ∧
    (State.loadImage s o r l).pwr = s.pwr ∧
    (State.loadImage s o r l).ras = s.ras ∧
    (State.loadImage s o r l).mgt = s.mgt ∧
    (State.loadImage s o r l).slices = s.slices ∧
    (State.loadImage s o r l).sliceG = s.sliceG ∧
    (State.loadImage s o r l).flash = s.flash ∧
    (State.loadImage s o r l).tor = s.tor ∧
    (State.loadImage s o r l).pending = s.pending := by
  unfold State.loadImage; (try dsimp only); (repeat' split) <;> simp -implicitDefEqProofs

@[simp] theorem State.withClaim_keeps (s : State) (o : Op) :
    (State.withClaim s o).fixed = s.fixed ∧
    (State.withClaim s o).ops = s.ops ∧
    (State.withClaim s o).cad = s.cad ∧
    (State.withClaim s o).fw = s.fw ∧
    (State.withClaim s o).sec = s.sec ∧
    (State.withClaim s o).pwr = s.pwr ∧
    (State.withClaim s o).ras = s.ras ∧
    (State.withClaim s o).mgt = s.mgt ∧
    (State.withClaim s o).tiles = s.tiles ∧
    (State.withClaim s o).sram = s.sram ∧
    (State.withClaim s o).sramG = s.sramG ∧
    (State.withClaim s o).slices = s.slices ∧
    (State.withClaim s o).sliceG = s.sliceG ∧
    (State.withClaim s o).flash = s.flash ∧
    (State.withClaim s o).tor = s.tor ∧
    (State.withClaim s o).pending = s.pending := by
  unfold State.withClaim; simp -implicitDefEqProofs

@[simp] theorem State.spoilFill_keeps (s : State) (o : Op) :
    (State.spoilFill s o).fixed = s.fixed ∧
    (State.spoilFill s o).ops = s.ops ∧
    (State.spoilFill s o).cad = s.cad ∧
    (State.spoilFill s o).fw = s.fw ∧
    (State.spoilFill s o).sec = s.sec ∧
    (State.spoilFill s o).pwr = s.pwr ∧
    (State.spoilFill s o).ras = s.ras ∧
    (State.spoilFill s o).mgt = s.mgt ∧
    (State.spoilFill s o).tiles = s.tiles ∧
    (State.spoilFill s o).sram = s.sram ∧
    (State.spoilFill s o).sramG = s.sramG ∧
    (State.spoilFill s o).slices = s.slices ∧
    (State.spoilFill s o).sliceG = s.sliceG ∧
    (State.spoilFill s o).tor = s.tor ∧
    (State.spoilFill s o).pending = s.pending := by
  unfold State.spoilFill; (try dsimp only); (repeat' split) <;> simp -implicitDefEqProofs

@[simp] theorem State.closeOp_keeps (s : State) (o : Op) :
    (State.closeOp s o).fixed = s.fixed ∧
    (State.closeOp s o).ops = s.ops ∧
    (State.closeOp s o).cad = s.cad ∧
    (State.closeOp s o).fw = s.fw ∧
    (State.closeOp s o).sec = s.sec ∧
    (State.closeOp s o).pwr = s.pwr ∧
    (State.closeOp s o).ras = s.ras ∧
    (State.closeOp s o).mgt = s.mgt ∧
    (State.closeOp s o).tiles = s.tiles ∧
    (State.closeOp s o).sram = s.sram ∧
    (State.closeOp s o).sramG = s.sramG ∧
    (State.closeOp s o).slices = s.slices ∧
    (State.closeOp s o).sliceG = s.sliceG ∧
    (State.closeOp s o).flash = s.flash ∧
    (State.closeOp s o).tor = s.tor ∧
    (State.closeOp s o).pending = s.pending := by
  unfold State.closeOp; simp -implicitDefEqProofs

@[simp] theorem State.setSlot_keeps (s : State) (n : ℕ) (k : ℕ) (x : WSlot) :
    (State.setSlot s n k x).fixed = s.fixed ∧
    (State.setSlot s n k x).ops = s.ops ∧
    (State.setSlot s n k x).cad = s.cad ∧
    (State.setSlot s n k x).fw = s.fw ∧
    (State.setSlot s n k x).sec = s.sec ∧
    (State.setSlot s n k x).pwr = s.pwr ∧
    (State.setSlot s n k x).ras = s.ras ∧
    (State.setSlot s n k x).mgt = s.mgt ∧
    (State.setSlot s n k x).tiles = s.tiles ∧
    (State.setSlot s n k x).sram = s.sram ∧
    (State.setSlot s n k x).sramG = s.sramG ∧
    (State.setSlot s n k x).slices = s.slices ∧
    (State.setSlot s n k x).sliceG = s.sliceG ∧
    (State.setSlot s n k x).flash = s.flash ∧
    (State.setSlot s n k x).tor = s.tor ∧
    (State.setSlot s n k x).pending = s.pending := by
  unfold State.setSlot; simp -implicitDefEqProofs

@[simp] theorem State.emptySlot_keeps (s : State) (n : ℕ) (k : ℕ) :
    (State.emptySlot s n k).fixed = s.fixed ∧
    (State.emptySlot s n k).ops = s.ops ∧
    (State.emptySlot s n k).cad = s.cad ∧
    (State.emptySlot s n k).fw = s.fw ∧
    (State.emptySlot s n k).sec = s.sec ∧
    (State.emptySlot s n k).pwr = s.pwr ∧
    (State.emptySlot s n k).ras = s.ras ∧
    (State.emptySlot s n k).mgt = s.mgt ∧
    (State.emptySlot s n k).tiles = s.tiles ∧
    (State.emptySlot s n k).sram = s.sram ∧
    (State.emptySlot s n k).sramG = s.sramG ∧
    (State.emptySlot s n k).slices = s.slices ∧
    (State.emptySlot s n k).sliceG = s.sliceG ∧
    (State.emptySlot s n k).flash = s.flash ∧
    (State.emptySlot s n k).tor = s.tor ∧
    (State.emptySlot s n k).pending = s.pending := by
  unfold State.emptySlot; simp -implicitDefEqProofs

@[simp] theorem State.failOp_keeps (s : State) (o : Op) (status : ℕ) (detail : ℕ) :
    (State.failOp s o status detail).fixed = s.fixed ∧
    (State.failOp s o status detail).cad = s.cad ∧
    (State.failOp s o status detail).fw = s.fw ∧
    (State.failOp s o status detail).sec = s.sec ∧
    (State.failOp s o status detail).pwr = s.pwr ∧
    (State.failOp s o status detail).ras = s.ras ∧
    (State.failOp s o status detail).mgt = s.mgt ∧
    (State.failOp s o status detail).tiles = s.tiles ∧
    (State.failOp s o status detail).sram = s.sram ∧
    (State.failOp s o status detail).sramG = s.sramG ∧
    (State.failOp s o status detail).slices = s.slices ∧
    (State.failOp s o status detail).sliceG = s.sliceG ∧
    (State.failOp s o status detail).tor = s.tor ∧
    (State.failOp s o status detail).pending = s.pending := by
  unfold State.failOp; simp -implicitDefEqProofs

@[simp] theorem State.putChunk_keeps (s : State) (n : ℕ) (page : ℕ) (chunk : ℕ) (plain : List Sys2Proof.Byte) :
    (State.putChunk s n page chunk plain).fixed = s.fixed ∧
    (State.putChunk s n page chunk plain).ops = s.ops ∧
    (State.putChunk s n page chunk plain).cad = s.cad ∧
    (State.putChunk s n page chunk plain).fw = s.fw ∧
    (State.putChunk s n page chunk plain).sec = s.sec ∧
    (State.putChunk s n page chunk plain).pwr = s.pwr ∧
    (State.putChunk s n page chunk plain).ras = s.ras ∧
    (State.putChunk s n page chunk plain).mgt = s.mgt ∧
    (State.putChunk s n page chunk plain).tiles = s.tiles ∧
    (State.putChunk s n page chunk plain).sram = s.sram ∧
    (State.putChunk s n page chunk plain).sramG = s.sramG ∧
    (State.putChunk s n page chunk plain).flash = s.flash ∧
    (State.putChunk s n page chunk plain).tor = s.tor ∧
    (State.putChunk s n page chunk plain).pending = s.pending := by
  unfold State.putChunk; (try dsimp only); (repeat' split) <;> simp -implicitDefEqProofs

@[simp] theorem State.quotaTrim_keeps (n : ℕ) (fuel : ℕ) (s : State) :
    (State.quotaTrim n fuel s).fixed = s.fixed ∧
    (State.quotaTrim n fuel s).ops = s.ops ∧
    (State.quotaTrim n fuel s).cad = s.cad ∧
    (State.quotaTrim n fuel s).fw = s.fw ∧
    (State.quotaTrim n fuel s).sec = s.sec ∧
    (State.quotaTrim n fuel s).pwr = s.pwr ∧
    (State.quotaTrim n fuel s).ras = s.ras ∧
    (State.quotaTrim n fuel s).mgt = s.mgt ∧
    (State.quotaTrim n fuel s).tiles = s.tiles ∧
    (State.quotaTrim n fuel s).sram = s.sram ∧
    (State.quotaTrim n fuel s).sramG = s.sramG ∧
    (State.quotaTrim n fuel s).slices = s.slices ∧
    (State.quotaTrim n fuel s).sliceG = s.sliceG ∧
    (State.quotaTrim n fuel s).flash = s.flash ∧
    (State.quotaTrim n fuel s).tor = s.tor ∧
    (State.quotaTrim n fuel s).pending = s.pending := by
  induction fuel generalizing s with
  | zero => simp [State.quotaTrim]
  | succ k ih => simp only [State.quotaTrim]; (repeat' split) <;> simp -implicitDefEqProofs [ih]

@[simp] theorem State.quotaSettle_keeps (s : State) (n : ℕ) :
    (State.quotaSettle s n).fixed = s.fixed ∧
    (State.quotaSettle s n).ops = s.ops ∧
    (State.quotaSettle s n).cad = s.cad ∧
    (State.quotaSettle s n).fw = s.fw ∧
    (State.quotaSettle s n).sec = s.sec ∧
    (State.quotaSettle s n).pwr = s.pwr ∧
    (State.quotaSettle s n).ras = s.ras ∧
    (State.quotaSettle s n).mgt = s.mgt ∧
    (State.quotaSettle s n).tiles = s.tiles ∧
    (State.quotaSettle s n).sram = s.sram ∧
    (State.quotaSettle s n).sramG = s.sramG ∧
    (State.quotaSettle s n).slices = s.slices ∧
    (State.quotaSettle s n).sliceG = s.sliceG ∧
    (State.quotaSettle s n).flash = s.flash ∧
    (State.quotaSettle s n).tor = s.tor ∧
    (State.quotaSettle s n).pending = s.pending := by
  unfold State.quotaSettle; simp -implicitDefEqProofs

@[simp] theorem State.wake_keeps (s : State) (w : Waiter) :
    (State.wake s w).fixed = s.fixed ∧
    (State.wake s w).ops = s.ops ∧
    (State.wake s w).cad = s.cad ∧
    (State.wake s w).fw = s.fw ∧
    (State.wake s w).sec = s.sec ∧
    (State.wake s w).pwr = s.pwr ∧
    (State.wake s w).ras = s.ras ∧
    (State.wake s w).mgt = s.mgt ∧
    (State.wake s w).tiles = s.tiles ∧
    (State.wake s w).sram = s.sram ∧
    (State.wake s w).sramG = s.sramG ∧
    (State.wake s w).slices = s.slices ∧
    (State.wake s w).sliceG = s.sliceG ∧
    (State.wake s w).flash = s.flash ∧
    (State.wake s w).tor = s.tor ∧
    (State.wake s w).pending = s.pending := by
  unfold State.wake; split <;> simp -implicitDefEqProofs

@[simp] theorem State.deliver_keeps (s : State) (k : ChunkKey) (plain : List Sys2Proof.Byte) :
    (State.deliver s k plain).fixed = s.fixed ∧
    (State.deliver s k plain).ops = s.ops ∧
    (State.deliver s k plain).cad = s.cad ∧
    (State.deliver s k plain).fw = s.fw ∧
    (State.deliver s k plain).sec = s.sec ∧
    (State.deliver s k plain).pwr = s.pwr ∧
    (State.deliver s k plain).ras = s.ras ∧
    (State.deliver s k plain).mgt = s.mgt ∧
    (State.deliver s k plain).tiles = s.tiles ∧
    (State.deliver s k plain).sram = s.sram ∧
    (State.deliver s k plain).sramG = s.sramG ∧
    (State.deliver s k plain).flash = s.flash ∧
    (State.deliver s k plain).tor = s.tor ∧
    (State.deliver s k plain).pending = s.pending := by
  unfold State.deliver; (try dsimp only); (repeat' split) <;> simp -implicitDefEqProofs

@[simp] theorem State.buildErr_keeps (s : State) (n : ℕ) (stream : ℕ) :
    (State.buildErr s n stream).fixed = s.fixed ∧
    (State.buildErr s n stream).ops = s.ops ∧
    (State.buildErr s n stream).cad = s.cad ∧
    (State.buildErr s n stream).fw = s.fw ∧
    (State.buildErr s n stream).sec = s.sec ∧
    (State.buildErr s n stream).pwr = s.pwr ∧
    (State.buildErr s n stream).ras = s.ras ∧
    (State.buildErr s n stream).mgt = s.mgt ∧
    (State.buildErr s n stream).tiles = s.tiles ∧
    (State.buildErr s n stream).sram = s.sram ∧
    (State.buildErr s n stream).sramG = s.sramG ∧
    (State.buildErr s n stream).slices = s.slices ∧
    (State.buildErr s n stream).sliceG = s.sliceG ∧
    (State.buildErr s n stream).flash = s.flash ∧
    (State.buildErr s n stream).tor = s.tor ∧
    (State.buildErr s n stream).pending = s.pending := by
  unfold State.buildErr; simp -implicitDefEqProofs

@[simp] theorem State.opMark_keeps (s : State) (op : ℕ) (pl : Place) :
    (State.opMark s op pl).fixed = s.fixed ∧
    (State.opMark s op pl).ops = s.ops ∧
    (State.opMark s op pl).cad = s.cad ∧
    (State.opMark s op pl).fw = s.fw ∧
    (State.opMark s op pl).sec = s.sec ∧
    (State.opMark s op pl).pwr = s.pwr ∧
    (State.opMark s op pl).ras = s.ras ∧
    (State.opMark s op pl).mgt = s.mgt ∧
    (State.opMark s op pl).tiles = s.tiles ∧
    (State.opMark s op pl).sram = s.sram ∧
    (State.opMark s op pl).sramG = s.sramG ∧
    (State.opMark s op pl).flash = s.flash ∧
    (State.opMark s op pl).tor = s.tor ∧
    (State.opMark s op pl).pending = s.pending := by
  unfold State.opMark; split <;> simp -implicitDefEqProofs

@[simp] theorem State.pinPage_keeps (s : State) (n : ℕ) (page : ℕ) :
    (State.pinPage s n page).fixed = s.fixed ∧
    (State.pinPage s n page).ops = s.ops ∧
    (State.pinPage s n page).cad = s.cad ∧
    (State.pinPage s n page).fw = s.fw ∧
    (State.pinPage s n page).sec = s.sec ∧
    (State.pinPage s n page).pwr = s.pwr ∧
    (State.pinPage s n page).ras = s.ras ∧
    (State.pinPage s n page).mgt = s.mgt ∧
    (State.pinPage s n page).tiles = s.tiles ∧
    (State.pinPage s n page).sram = s.sram ∧
    (State.pinPage s n page).sramG = s.sramG ∧
    (State.pinPage s n page).slices = s.slices ∧
    (State.pinPage s n page).sliceG = s.sliceG ∧
    (State.pinPage s n page).flash = s.flash ∧
    (State.pinPage s n page).tor = s.tor ∧
    (State.pinPage s n page).pending = s.pending := by
  unfold State.pinPage; split <;> simp -implicitDefEqProofs

@[simp] theorem State.dropWritten_keeps (s : State) (n : ℕ) (page : ℕ) (e : Pte) :
    (State.dropWritten s n page e).1.fixed = s.fixed ∧
    (State.dropWritten s n page e).1.ops = s.ops ∧
    (State.dropWritten s n page e).1.cad = s.cad ∧
    (State.dropWritten s n page e).1.fw = s.fw ∧
    (State.dropWritten s n page e).1.sec = s.sec ∧
    (State.dropWritten s n page e).1.pwr = s.pwr ∧
    (State.dropWritten s n page e).1.ras = s.ras ∧
    (State.dropWritten s n page e).1.mgt = s.mgt ∧
    (State.dropWritten s n page e).1.tiles = s.tiles ∧
    (State.dropWritten s n page e).1.sram = s.sram ∧
    (State.dropWritten s n page e).1.sramG = s.sramG ∧
    (State.dropWritten s n page e).1.slices = s.slices ∧
    (State.dropWritten s n page e).1.sliceG = s.sliceG ∧
    (State.dropWritten s n page e).1.flash = s.flash ∧
    (State.dropWritten s n page e).1.tor = s.tor ∧
    (State.dropWritten s n page e).1.pending = s.pending := by
  unfold State.dropWritten; split <;> simp -implicitDefEqProofs

@[simp] theorem State.releaseRun_keeps (o : Op) (fuel : ℕ) (s : State) :
    (State.releaseRun o fuel s).fixed = s.fixed ∧
    (State.releaseRun o fuel s).cad = s.cad ∧
    (State.releaseRun o fuel s).fw = s.fw ∧
    (State.releaseRun o fuel s).sec = s.sec ∧
    (State.releaseRun o fuel s).pwr = s.pwr ∧
    (State.releaseRun o fuel s).ras = s.ras ∧
    (State.releaseRun o fuel s).mgt = s.mgt ∧
    (State.releaseRun o fuel s).tiles = s.tiles ∧
    (State.releaseRun o fuel s).sram = s.sram ∧
    (State.releaseRun o fuel s).sramG = s.sramG ∧
    (State.releaseRun o fuel s).slices = s.slices ∧
    (State.releaseRun o fuel s).sliceG = s.sliceG ∧
    (State.releaseRun o fuel s).flash = s.flash ∧
    (State.releaseRun o fuel s).tor = s.tor ∧
    (State.releaseRun o fuel s).pending = s.pending := by
  induction fuel generalizing s with
  | zero => simp [State.releaseRun]
  | succ k ih => simp only [State.releaseRun]; (repeat' split) <;> simp -implicitDefEqProofs [ih]

@[simp] theorem State.discardWhere_keeps (s : State) (n : ℕ) (f : ℕ → Bool) :
    (State.discardWhere s n f).fixed = s.fixed ∧
    (State.discardWhere s n f).ops = s.ops ∧
    (State.discardWhere s n f).cad = s.cad ∧
    (State.discardWhere s n f).fw = s.fw ∧
    (State.discardWhere s n f).sec = s.sec ∧
    (State.discardWhere s n f).pwr = s.pwr ∧
    (State.discardWhere s n f).ras = s.ras ∧
    (State.discardWhere s n f).mgt = s.mgt ∧
    (State.discardWhere s n f).tiles = s.tiles ∧
    (State.discardWhere s n f).sram = s.sram ∧
    (State.discardWhere s n f).sramG = s.sramG ∧
    (State.discardWhere s n f).slices = s.slices ∧
    (State.discardWhere s n f).sliceG = s.sliceG ∧
    (State.discardWhere s n f).flash = s.flash ∧
    (State.discardWhere s n f).tor = s.tor ∧
    (State.discardWhere s n f).pending = s.pending := by
  unfold State.discardWhere; simp -implicitDefEqProofs

@[simp] theorem State.writeSplit_keeps (s : State) (k : ℕ) (n : ℕ) (v : ℕ) :
    (State.writeSplit s k n v).fixed = s.fixed ∧
    (State.writeSplit s k n v).ops = s.ops ∧
    (State.writeSplit s k n v).cad = s.cad ∧
    (State.writeSplit s k n v).fw = s.fw ∧
    (State.writeSplit s k n v).sec = s.sec ∧
    (State.writeSplit s k n v).pwr = s.pwr ∧
    (State.writeSplit s k n v).ras = s.ras ∧
    (State.writeSplit s k n v).mgt = s.mgt ∧
    (State.writeSplit s k n v).tiles = s.tiles ∧
    (State.writeSplit s k n v).sram = s.sram ∧
    (State.writeSplit s k n v).sramG = s.sramG ∧
    (State.writeSplit s k n v).slices = s.slices ∧
    (State.writeSplit s k n v).sliceG = s.sliceG ∧
    (State.writeSplit s k n v).flash = s.flash ∧
    (State.writeSplit s k n v).tor = s.tor ∧
    (State.writeSplit s k n v).pending = s.pending := by
  unfold State.writeSplit; simp -implicitDefEqProofs

@[simp] theorem State.writeQuota_keeps (s : State) (k : ℕ) (n : ℕ) (t3 : Bool) (v : Sys2Proof.W64) :
    (State.writeQuota s k n t3 v).fixed = s.fixed ∧
    (State.writeQuota s k n t3 v).ops = s.ops ∧
    (State.writeQuota s k n t3 v).cad = s.cad ∧
    (State.writeQuota s k n t3 v).fw = s.fw ∧
    (State.writeQuota s k n t3 v).sec = s.sec ∧
    (State.writeQuota s k n t3 v).pwr = s.pwr ∧
    (State.writeQuota s k n t3 v).ras = s.ras ∧
    (State.writeQuota s k n t3 v).mgt = s.mgt ∧
    (State.writeQuota s k n t3 v).tiles = s.tiles ∧
    (State.writeQuota s k n t3 v).sram = s.sram ∧
    (State.writeQuota s k n t3 v).sramG = s.sramG ∧
    (State.writeQuota s k n t3 v).slices = s.slices ∧
    (State.writeQuota s k n t3 v).sliceG = s.sliceG ∧
    (State.writeQuota s k n t3 v).flash = s.flash ∧
    (State.writeQuota s k n t3 v).tor = s.tor ∧
    (State.writeQuota s k n t3 v).pending = s.pending := by
  unfold State.writeQuota; simp -implicitDefEqProofs

@[simp] theorem State.unmapPage_keeps (s : State) (n : ℕ) (e : ℕ × Pte) :
    (State.unmapPage s n e).fixed = s.fixed ∧
    (State.unmapPage s n e).ops = s.ops ∧
    (State.unmapPage s n e).cad = s.cad ∧
    (State.unmapPage s n e).fw = s.fw ∧
    (State.unmapPage s n e).sec = s.sec ∧
    (State.unmapPage s n e).pwr = s.pwr ∧
    (State.unmapPage s n e).ras = s.ras ∧
    (State.unmapPage s n e).mgt = s.mgt ∧
    (State.unmapPage s n e).tiles = s.tiles ∧
    (State.unmapPage s n e).sram = s.sram ∧
    (State.unmapPage s n e).sramG = s.sramG ∧
    (State.unmapPage s n e).slices = s.slices ∧
    (State.unmapPage s n e).sliceG = s.sliceG ∧
    (State.unmapPage s n e).flash = s.flash ∧
    (State.unmapPage s n e).tor = s.tor ∧
    (State.unmapPage s n e).pending = s.pending := by
  unfold State.unmapPage; (try dsimp only); (repeat' split) <;> simp -implicitDefEqProofs

@[simp] theorem State.movePage_keeps (s : State) (old : ℕ) (new : ℕ) :
    (State.movePage s old new).fixed = s.fixed ∧
    (State.movePage s old new).ops = s.ops ∧
    (State.movePage s old new).cad = s.cad ∧
    (State.movePage s old new).fw = s.fw ∧
    (State.movePage s old new).sec = s.sec ∧
    (State.movePage s old new).pwr = s.pwr ∧
    (State.movePage s old new).ras = s.ras ∧
    (State.movePage s old new).mgt = s.mgt ∧
    (State.movePage s old new).tiles = s.tiles ∧
    (State.movePage s old new).sram = s.sram ∧
    (State.movePage s old new).sramG = s.sramG ∧
    (State.movePage s old new).flash = s.flash ∧
    (State.movePage s old new).tor = s.tor ∧
    (State.movePage s old new).pending = s.pending := by
  unfold State.movePage; simp -implicitDefEqProofs

@[simp] theorem State.setPpa_keeps (s : State) (n : ℕ) (p : PageAt) (ppa : ℕ) :
    (State.setPpa s n p ppa).fixed = s.fixed ∧
    (State.setPpa s n p ppa).ops = s.ops ∧
    (State.setPpa s n p ppa).cad = s.cad ∧
    (State.setPpa s n p ppa).fw = s.fw ∧
    (State.setPpa s n p ppa).sec = s.sec ∧
    (State.setPpa s n p ppa).pwr = s.pwr ∧
    (State.setPpa s n p ppa).ras = s.ras ∧
    (State.setPpa s n p ppa).mgt = s.mgt ∧
    (State.setPpa s n p ppa).tiles = s.tiles ∧
    (State.setPpa s n p ppa).sram = s.sram ∧
    (State.setPpa s n p ppa).sramG = s.sramG ∧
    (State.setPpa s n p ppa).slices = s.slices ∧
    (State.setPpa s n p ppa).sliceG = s.sliceG ∧
    (State.setPpa s n p ppa).flash = s.flash ∧
    (State.setPpa s n p ppa).tor = s.tor ∧
    (State.setPpa s n p ppa).pending = s.pending := by
  unfold State.setPpa; (try dsimp only); (repeat' split) <;> simp -implicitDefEqProofs

@[simp] theorem State.setGrp_keeps (s : State) (n : ℕ) (g : ℕ) (x : Group) :
    (State.setGrp s n g x).fixed = s.fixed ∧
    (State.setGrp s n g x).ops = s.ops ∧
    (State.setGrp s n g x).cad = s.cad ∧
    (State.setGrp s n g x).fw = s.fw ∧
    (State.setGrp s n g x).sec = s.sec ∧
    (State.setGrp s n g x).pwr = s.pwr ∧
    (State.setGrp s n g x).ras = s.ras ∧
    (State.setGrp s n g x).mgt = s.mgt ∧
    (State.setGrp s n g x).tiles = s.tiles ∧
    (State.setGrp s n g x).sram = s.sram ∧
    (State.setGrp s n g x).sramG = s.sramG ∧
    (State.setGrp s n g x).slices = s.slices ∧
    (State.setGrp s n g x).sliceG = s.sliceG ∧
    (State.setGrp s n g x).flash = s.flash ∧
    (State.setGrp s n g x).tor = s.tor ∧
    (State.setGrp s n g x).pending = s.pending := by
  unfold State.setGrp; simp -implicitDefEqProofs

@[simp] theorem State.updColl_keeps (s : State) (n : ℕ) (g : ℕ) (f : CollRun → CollRun) :
    (State.updColl s n g f).fixed = s.fixed ∧
    (State.updColl s n g f).ops = s.ops ∧
    (State.updColl s n g f).cad = s.cad ∧
    (State.updColl s n g f).fw = s.fw ∧
    (State.updColl s n g f).sec = s.sec ∧
    (State.updColl s n g f).pwr = s.pwr ∧
    (State.updColl s n g f).ras = s.ras ∧
    (State.updColl s n g f).mgt = s.mgt ∧
    (State.updColl s n g f).tiles = s.tiles ∧
    (State.updColl s n g f).sram = s.sram ∧
    (State.updColl s n g f).sramG = s.sramG ∧
    (State.updColl s n g f).slices = s.slices ∧
    (State.updColl s n g f).sliceG = s.sliceG ∧
    (State.updColl s n g f).flash = s.flash ∧
    (State.updColl s n g f).tor = s.tor ∧
    (State.updColl s n g f).pending = s.pending := by
  unfold State.updColl; simp -implicitDefEqProofs

@[simp] theorem State.spoilDst_keeps (s : State) (n : ℕ) (g : Group) (c : CollRun) :
    (State.spoilDst s n g c).fixed = s.fixed ∧
    (State.spoilDst s n g c).ops = s.ops ∧
    (State.spoilDst s n g c).cad = s.cad ∧
    (State.spoilDst s n g c).fw = s.fw ∧
    (State.spoilDst s n g c).sec = s.sec ∧
    (State.spoilDst s n g c).pwr = s.pwr ∧
    (State.spoilDst s n g c).ras = s.ras ∧
    (State.spoilDst s n g c).mgt = s.mgt ∧
    (State.spoilDst s n g c).tiles = s.tiles ∧
    (State.spoilDst s n g c).flash = s.flash ∧
    (State.spoilDst s n g c).tor = s.tor ∧
    (State.spoilDst s n g c).pending = s.pending := by
  unfold State.spoilDst; (try dsimp only); (repeat' split) <;> simp -implicitDefEqProofs (disch := (intros; (try dsimp only); (repeat' split) <;> (try simp -implicitDefEqProofs)))

@[simp] theorem State.sendSquall_keeps (s : State) (n : ℕ) (g : ℕ) (seq : Sys2Proof.W32) (detail : ℕ) :
    (State.sendSquall s n g seq detail).fixed = s.fixed ∧
    (State.sendSquall s n g seq detail).ops = s.ops ∧
    (State.sendSquall s n g seq detail).cad = s.cad ∧
    (State.sendSquall s n g seq detail).fw = s.fw ∧
    (State.sendSquall s n g seq detail).sec = s.sec ∧
    (State.sendSquall s n g seq detail).pwr = s.pwr ∧
    (State.sendSquall s n g seq detail).ras = s.ras ∧
    (State.sendSquall s n g seq detail).mgt = s.mgt ∧
    (State.sendSquall s n g seq detail).tiles = s.tiles ∧
    (State.sendSquall s n g seq detail).sram = s.sram ∧
    (State.sendSquall s n g seq detail).sramG = s.sramG ∧
    (State.sendSquall s n g seq detail).slices = s.slices ∧
    (State.sendSquall s n g seq detail).sliceG = s.sliceG ∧
    (State.sendSquall s n g seq detail).flash = s.flash ∧
    (State.sendSquall s n g seq detail).pending = s.pending := by
  unfold State.sendSquall; simp -implicitDefEqProofs

@[simp] theorem State.endRunning_keeps (s : State) (i : ℕ) (status : ℕ) (detail : ℕ) :
    (State.endRunning s i status detail).fixed = s.fixed ∧
    (State.endRunning s i status detail).cad = s.cad ∧
    (State.endRunning s i status detail).fw = s.fw ∧
    (State.endRunning s i status detail).sec = s.sec ∧
    (State.endRunning s i status detail).pwr = s.pwr ∧
    (State.endRunning s i status detail).ras = s.ras ∧
    (State.endRunning s i status detail).mgt = s.mgt ∧
    (State.endRunning s i status detail).tiles = s.tiles ∧
    (State.endRunning s i status detail).sram = s.sram ∧
    (State.endRunning s i status detail).sramG = s.sramG ∧
    (State.endRunning s i status detail).slices = s.slices ∧
    (State.endRunning s i status detail).sliceG = s.sliceG ∧
    (State.endRunning s i status detail).flash = s.flash ∧
    (State.endRunning s i status detail).tor = s.tor ∧
    (State.endRunning s i status detail).pending = s.pending := by
  unfold State.endRunning; split <;> simp -implicitDefEqProofs

@[simp] theorem State.squall_keeps (s : State) (n : ℕ) (g : ℕ) (seq : Sys2Proof.W32) (detail : ℕ) :
    (State.squall s n g seq detail).fixed = s.fixed ∧
    (State.squall s n g seq detail).cad = s.cad ∧
    (State.squall s n g seq detail).fw = s.fw ∧
    (State.squall s n g seq detail).sec = s.sec ∧
    (State.squall s n g seq detail).pwr = s.pwr ∧
    (State.squall s n g seq detail).ras = s.ras ∧
    (State.squall s n g seq detail).mgt = s.mgt ∧
    (State.squall s n g seq detail).tiles = s.tiles ∧
    (State.squall s n g seq detail).flash = s.flash ∧
    (State.squall s n g seq detail).pending = s.pending := by
  unfold State.squall; (try dsimp only); (repeat' split) <;> simp -implicitDefEqProofs

@[simp] theorem State.squallHere_keeps (s : State) (n : ℕ) (g : ℕ) (cause : ℕ) (origin : ℕ) :
    (State.squallHere s n g cause origin).fixed = s.fixed ∧
    (State.squallHere s n g cause origin).cad = s.cad ∧
    (State.squallHere s n g cause origin).fw = s.fw ∧
    (State.squallHere s n g cause origin).sec = s.sec ∧
    (State.squallHere s n g cause origin).pwr = s.pwr ∧
    (State.squallHere s n g cause origin).ras = s.ras ∧
    (State.squallHere s n g cause origin).mgt = s.mgt ∧
    (State.squallHere s n g cause origin).tiles = s.tiles ∧
    (State.squallHere s n g cause origin).flash = s.flash ∧
    (State.squallHere s n g cause origin).pending = s.pending := by
  unfold State.squallHere; simp -implicitDefEqProofs

@[simp] theorem State.collFail_keeps (s : State) (n : ℕ) (g : ℕ) (status : ℕ) (detail : ℕ) :
    (State.collFail s n g status detail).fixed = s.fixed ∧
    (State.collFail s n g status detail).cad = s.cad ∧
    (State.collFail s n g status detail).fw = s.fw ∧
    (State.collFail s n g status detail).sec = s.sec ∧
    (State.collFail s n g status detail).pwr = s.pwr ∧
    (State.collFail s n g status detail).ras = s.ras ∧
    (State.collFail s n g status detail).mgt = s.mgt ∧
    (State.collFail s n g status detail).tiles = s.tiles ∧
    (State.collFail s n g status detail).flash = s.flash ∧
    (State.collFail s n g status detail).pending = s.pending := by
  unfold State.collFail; split <;> simp -implicitDefEqProofs

@[simp] theorem State.colAborts_keeps (s : State) :
    (State.colAborts s).fixed = s.fixed ∧
    (State.colAborts s).cad = s.cad ∧
    (State.colAborts s).fw = s.fw ∧
    (State.colAborts s).sec = s.sec ∧
    (State.colAborts s).pwr = s.pwr ∧
    (State.colAborts s).ras = s.ras ∧
    (State.colAborts s).mgt = s.mgt ∧
    (State.colAborts s).tiles = s.tiles ∧
    (State.colAborts s).flash = s.flash ∧
    (State.colAborts s).pending = s.pending := by
  unfold State.colAborts; simp -implicitDefEqProofs

@[simp] theorem State.colPortDown_keeps (s : State) (k : ℕ) :
    (State.colPortDown s k).fixed = s.fixed ∧
    (State.colPortDown s k).cad = s.cad ∧
    (State.colPortDown s k).fw = s.fw ∧
    (State.colPortDown s k).sec = s.sec ∧
    (State.colPortDown s k).pwr = s.pwr ∧
    (State.colPortDown s k).ras = s.ras ∧
    (State.colPortDown s k).mgt = s.mgt ∧
    (State.colPortDown s k).tiles = s.tiles ∧
    (State.colPortDown s k).flash = s.flash ∧
    (State.colPortDown s k).pending = s.pending := by
  unfold State.colPortDown; split <;> simp -implicitDefEqProofs

@[simp] theorem State.colReset_keeps (s : State) (n : ℕ) :
    (State.colReset s n).fixed = s.fixed ∧
    (State.colReset s n).ops = s.ops ∧
    (State.colReset s n).cad = s.cad ∧
    (State.colReset s n).fw = s.fw ∧
    (State.colReset s n).sec = s.sec ∧
    (State.colReset s n).pwr = s.pwr ∧
    (State.colReset s n).ras = s.ras ∧
    (State.colReset s n).mgt = s.mgt ∧
    (State.colReset s n).tiles = s.tiles ∧
    (State.colReset s n).sram = s.sram ∧
    (State.colReset s n).sramG = s.sramG ∧
    (State.colReset s n).slices = s.slices ∧
    (State.colReset s n).sliceG = s.sliceG ∧
    (State.colReset s n).flash = s.flash ∧
    (State.colReset s n).pending = s.pending := by
  unfold State.colReset; simp -implicitDefEqProofs

@[simp] theorem State.collEnd_keeps (s : State) (n : ℕ) (g : ℕ) :
    (State.collEnd s n g).fixed = s.fixed ∧
    (State.collEnd s n g).cad = s.cad ∧
    (State.collEnd s n g).fw = s.fw ∧
    (State.collEnd s n g).sec = s.sec ∧
    (State.collEnd s n g).pwr = s.pwr ∧
    (State.collEnd s n g).ras = s.ras ∧
    (State.collEnd s n g).mgt = s.mgt ∧
    (State.collEnd s n g).tiles = s.tiles ∧
    (State.collEnd s n g).sram = s.sram ∧
    (State.collEnd s n g).sramG = s.sramG ∧
    (State.collEnd s n g).slices = s.slices ∧
    (State.collEnd s n g).sliceG = s.sliceG ∧
    (State.collEnd s n g).flash = s.flash ∧
    (State.collEnd s n g).tor = s.tor ∧
    (State.collEnd s n g).pending = s.pending := by
  unfold State.collEnd; (try dsimp only); (repeat' split) <;> simp -implicitDefEqProofs

@[simp] theorem State.collBegin_keeps (s : State) (n : ℕ) (g : ℕ) :
    (State.collBegin s n g).fixed = s.fixed ∧
    (State.collBegin s n g).ops = s.ops ∧
    (State.collBegin s n g).cad = s.cad ∧
    (State.collBegin s n g).fw = s.fw ∧
    (State.collBegin s n g).sec = s.sec ∧
    (State.collBegin s n g).pwr = s.pwr ∧
    (State.collBegin s n g).ras = s.ras ∧
    (State.collBegin s n g).mgt = s.mgt ∧
    (State.collBegin s n g).tiles = s.tiles ∧
    (State.collBegin s n g).sram = s.sram ∧
    (State.collBegin s n g).sramG = s.sramG ∧
    (State.collBegin s n g).slices = s.slices ∧
    (State.collBegin s n g).sliceG = s.sliceG ∧
    (State.collBegin s n g).flash = s.flash ∧
    (State.collBegin s n g).tor = s.tor ∧
    (State.collBegin s n g).pending = s.pending := by
  unfold State.collBegin; (try dsimp only); (repeat' split) <;> simp -implicitDefEqProofs

@[simp] theorem State.colDiscard_keeps (s : State) (n : ℕ) :
    (State.colDiscard s n).fixed = s.fixed ∧
    (State.colDiscard s n).ops = s.ops ∧
    (State.colDiscard s n).cad = s.cad ∧
    (State.colDiscard s n).fw = s.fw ∧
    (State.colDiscard s n).sec = s.sec ∧
    (State.colDiscard s n).pwr = s.pwr ∧
    (State.colDiscard s n).ras = s.ras ∧
    (State.colDiscard s n).mgt = s.mgt ∧
    (State.colDiscard s n).tiles = s.tiles ∧
    (State.colDiscard s n).sram = s.sram ∧
    (State.colDiscard s n).sramG = s.sramG ∧
    (State.colDiscard s n).slices = s.slices ∧
    (State.colDiscard s n).sliceG = s.sliceG ∧
    (State.colDiscard s n).flash = s.flash ∧
    (State.colDiscard s n).tor = s.tor ∧
    (State.colDiscard s n).pending = s.pending := by
  unfold State.colDiscard; simp -implicitDefEqProofs

@[simp] theorem State.buildDone_keeps (s : State) (o : Op) :
    (State.buildDone s o).fixed = s.fixed ∧
    (State.buildDone s o).cad = s.cad ∧
    (State.buildDone s o).fw = s.fw ∧
    (State.buildDone s o).sec = s.sec ∧
    (State.buildDone s o).pwr = s.pwr ∧
    (State.buildDone s o).ras = s.ras ∧
    (State.buildDone s o).mgt = s.mgt ∧
    (State.buildDone s o).tiles = s.tiles ∧
    (State.buildDone s o).sram = s.sram ∧
    (State.buildDone s o).sramG = s.sramG ∧
    (State.buildDone s o).slices = s.slices ∧
    (State.buildDone s o).sliceG = s.sliceG ∧
    (State.buildDone s o).flash = s.flash ∧
    (State.buildDone s o).tor = s.tor ∧
    (State.buildDone s o).pending = s.pending := by
  unfold State.buildDone; simp -implicitDefEqProofs

@[simp] theorem State.finishStream_keeps (s : State) (op : ℕ) :
    (State.finishStream s op).fixed = s.fixed ∧
    (State.finishStream s op).cad = s.cad ∧
    (State.finishStream s op).fw = s.fw ∧
    (State.finishStream s op).sec = s.sec ∧
    (State.finishStream s op).pwr = s.pwr ∧
    (State.finishStream s op).ras = s.ras ∧
    (State.finishStream s op).mgt = s.mgt ∧
    (State.finishStream s op).tiles = s.tiles ∧
    (State.finishStream s op).sram = s.sram ∧
    (State.finishStream s op).sramG = s.sramG ∧
    (State.finishStream s op).slices = s.slices ∧
    (State.finishStream s op).sliceG = s.sliceG ∧
    (State.finishStream s op).flash = s.flash ∧
    (State.finishStream s op).tor = s.tor ∧
    (State.finishStream s op).pending = s.pending := by
  unfold State.finishStream; split <;> simp -implicitDefEqProofs

@[simp] theorem State.openGradient_keeps (s : State) (x : Inst) :
    (State.openGradient s x).fixed = s.fixed ∧
    (State.openGradient s x).ops = s.ops ∧
    (State.openGradient s x).cad = s.cad ∧
    (State.openGradient s x).fw = s.fw ∧
    (State.openGradient s x).sec = s.sec ∧
    (State.openGradient s x).pwr = s.pwr ∧
    (State.openGradient s x).ras = s.ras ∧
    (State.openGradient s x).mgt = s.mgt ∧
    (State.openGradient s x).tiles = s.tiles ∧
    (State.openGradient s x).sram = s.sram ∧
    (State.openGradient s x).sramG = s.sramG ∧
    (State.openGradient s x).slices = s.slices ∧
    (State.openGradient s x).sliceG = s.sliceG ∧
    (State.openGradient s x).flash = s.flash ∧
    (State.openGradient s x).tor = s.tor ∧
    (State.openGradient s x).pending = s.pending := by
  unfold State.openGradient; split <;> simp -implicitDefEqProofs

@[simp] theorem State.instanceOpen_keeps (s : State) (op : ℕ) :
    (State.instanceOpen s op).fixed = s.fixed ∧
    (State.instanceOpen s op).cad = s.cad ∧
    (State.instanceOpen s op).fw = s.fw ∧
    (State.instanceOpen s op).sec = s.sec ∧
    (State.instanceOpen s op).pwr = s.pwr ∧
    (State.instanceOpen s op).ras = s.ras ∧
    (State.instanceOpen s op).mgt = s.mgt ∧
    (State.instanceOpen s op).tiles = s.tiles ∧
    (State.instanceOpen s op).sram = s.sram ∧
    (State.instanceOpen s op).sramG = s.sramG ∧
    (State.instanceOpen s op).slices = s.slices ∧
    (State.instanceOpen s op).sliceG = s.sliceG ∧
    (State.instanceOpen s op).flash = s.flash ∧
    (State.instanceOpen s op).tor = s.tor ∧
    (State.instanceOpen s op).pending = s.pending := by
  unfold State.instanceOpen; (try dsimp only); (repeat' split) <;> simp -implicitDefEqProofs

@[simp] theorem State.drainCheck_keeps (s : State) (n : ℕ) :
    (State.drainCheck s n).fixed = s.fixed ∧
    (State.drainCheck s n).cad = s.cad ∧
    (State.drainCheck s n).fw = s.fw ∧
    (State.drainCheck s n).sec = s.sec ∧
    (State.drainCheck s n).pwr = s.pwr ∧
    (State.drainCheck s n).ras = s.ras ∧
    (State.drainCheck s n).mgt = s.mgt ∧
    (State.drainCheck s n).tiles = s.tiles ∧
    (State.drainCheck s n).sram = s.sram ∧
    (State.drainCheck s n).sramG = s.sramG ∧
    (State.drainCheck s n).slices = s.slices ∧
    (State.drainCheck s n).sliceG = s.sliceG ∧
    (State.drainCheck s n).flash = s.flash ∧
    (State.drainCheck s n).tor = s.tor ∧
    (State.drainCheck s n).pending = s.pending := by
  unfold State.drainCheck; (try dsimp only); (repeat' split) <;> simp -implicitDefEqProofs

@[simp] theorem State.instanceClose_keeps (s : State) (i : ℕ) :
    (State.instanceClose s i).fixed = s.fixed ∧
    (State.instanceClose s i).cad = s.cad ∧
    (State.instanceClose s i).fw = s.fw ∧
    (State.instanceClose s i).sec = s.sec ∧
    (State.instanceClose s i).pwr = s.pwr ∧
    (State.instanceClose s i).ras = s.ras ∧
    (State.instanceClose s i).mgt = s.mgt ∧
    (State.instanceClose s i).sram = s.sram ∧
    (State.instanceClose s i).sramG = s.sramG ∧
    (State.instanceClose s i).slices = s.slices ∧
    (State.instanceClose s i).sliceG = s.sliceG ∧
    (State.instanceClose s i).flash = s.flash ∧
    (State.instanceClose s i).tor = s.tor ∧
    (State.instanceClose s i).pending = s.pending := by
  unfold State.instanceClose; (try dsimp only); (repeat' split) <;> simp -implicitDefEqProofs

@[simp] theorem State.swapPoint_keeps (s : State) (n : ℕ) :
    (State.swapPoint s n).fixed = s.fixed ∧
    (State.swapPoint s n).cad = s.cad ∧
    (State.swapPoint s n).fw = s.fw ∧
    (State.swapPoint s n).sec = s.sec ∧
    (State.swapPoint s n).pwr = s.pwr ∧
    (State.swapPoint s n).ras = s.ras ∧
    (State.swapPoint s n).mgt = s.mgt ∧
    (State.swapPoint s n).tiles = s.tiles ∧
    (State.swapPoint s n).sram = s.sram ∧
    (State.swapPoint s n).sramG = s.sramG ∧
    (State.swapPoint s n).slices = s.slices ∧
    (State.swapPoint s n).sliceG = s.sliceG ∧
    (State.swapPoint s n).flash = s.flash ∧
    (State.swapPoint s n).tor = s.tor ∧
    (State.swapPoint s n).pending = s.pending := by
  unfold State.swapPoint; (try dsimp only); (repeat' split) <;> simp -implicitDefEqProofs

@[simp] theorem State.publishBegin_keeps (s : State) (o : Op) :
    (State.publishBegin s o).fixed = s.fixed ∧
    (State.publishBegin s o).ops = s.ops ∧
    (State.publishBegin s o).cad = s.cad ∧
    (State.publishBegin s o).fw = s.fw ∧
    (State.publishBegin s o).sec = s.sec ∧
    (State.publishBegin s o).pwr = s.pwr ∧
    (State.publishBegin s o).ras = s.ras ∧
    (State.publishBegin s o).mgt = s.mgt ∧
    (State.publishBegin s o).tiles = s.tiles ∧
    (State.publishBegin s o).sram = s.sram ∧
    (State.publishBegin s o).sramG = s.sramG ∧
    (State.publishBegin s o).slices = s.slices ∧
    (State.publishBegin s o).sliceG = s.sliceG ∧
    (State.publishBegin s o).flash = s.flash ∧
    (State.publishBegin s o).tor = s.tor ∧
    (State.publishBegin s o).pending = s.pending := by
  unfold State.publishBegin; simp -implicitDefEqProofs

@[simp] theorem State.snapShared_keeps (s : State) (sh : ℕ) (page : ℕ) (off : ℕ) :
    (State.snapShared s sh page off).fixed = s.fixed ∧
    (State.snapShared s sh page off).ops = s.ops ∧
    (State.snapShared s sh page off).cad = s.cad ∧
    (State.snapShared s sh page off).fw = s.fw ∧
    (State.snapShared s sh page off).sec = s.sec ∧
    (State.snapShared s sh page off).pwr = s.pwr ∧
    (State.snapShared s sh page off).ras = s.ras ∧
    (State.snapShared s sh page off).mgt = s.mgt ∧
    (State.snapShared s sh page off).tiles = s.tiles ∧
    (State.snapShared s sh page off).sram = s.sram ∧
    (State.snapShared s sh page off).sramG = s.sramG ∧
    (State.snapShared s sh page off).slices = s.slices ∧
    (State.snapShared s sh page off).sliceG = s.sliceG ∧
    (State.snapShared s sh page off).flash = s.flash ∧
    (State.snapShared s sh page off).tor = s.tor ∧
    (State.snapShared s sh page off).pending = s.pending := by
  unfold State.snapShared; simp -implicitDefEqProofs

@[simp] theorem State.publishDone_keeps (s : State) (o : Op) (w : WSlot) :
    (State.publishDone s o w).fixed = s.fixed ∧
    (State.publishDone s o w).cad = s.cad ∧
    (State.publishDone s o w).fw = s.fw ∧
    (State.publishDone s o w).sec = s.sec ∧
    (State.publishDone s o w).pwr = s.pwr ∧
    (State.publishDone s o w).ras = s.ras ∧
    (State.publishDone s o w).mgt = s.mgt ∧
    (State.publishDone s o w).tiles = s.tiles ∧
    (State.publishDone s o w).sram = s.sram ∧
    (State.publishDone s o w).sramG = s.sramG ∧
    (State.publishDone s o w).slices = s.slices ∧
    (State.publishDone s o w).sliceG = s.sliceG ∧
    (State.publishDone s o w).flash = s.flash ∧
    (State.publishDone s o w).tor = s.tor ∧
    (State.publishDone s o w).pending = s.pending := by
  unfold State.publishDone; simp -implicitDefEqProofs

@[simp] theorem State.portEvent_keeps (s : State) (p : ℕ) (code : ℕ) (data : ℕ) (part : Bool) :
    (State.portEvent s p code data part).fixed = s.fixed ∧
    (State.portEvent s p code data part).ops = s.ops ∧
    (State.portEvent s p code data part).cad = s.cad ∧
    (State.portEvent s p code data part).fw = s.fw ∧
    (State.portEvent s p code data part).sec = s.sec ∧
    (State.portEvent s p code data part).pwr = s.pwr ∧
    (State.portEvent s p code data part).ras = s.ras ∧
    (State.portEvent s p code data part).mgt = s.mgt ∧
    (State.portEvent s p code data part).tiles = s.tiles ∧
    (State.portEvent s p code data part).sram = s.sram ∧
    (State.portEvent s p code data part).sramG = s.sramG ∧
    (State.portEvent s p code data part).slices = s.slices ∧
    (State.portEvent s p code data part).sliceG = s.sliceG ∧
    (State.portEvent s p code data part).flash = s.flash ∧
    (State.portEvent s p code data part).tor = s.tor ∧
    (State.portEvent s p code data part).pending = s.pending := by
  unfold State.portEvent; split <;> simp -implicitDefEqProofs

@[simp] theorem State.reissue_keeps (s : State) (p : ℕ) :
    (State.reissue s p).fixed = s.fixed ∧
    (State.reissue s p).ops = s.ops ∧
    (State.reissue s p).cad = s.cad ∧
    (State.reissue s p).fw = s.fw ∧
    (State.reissue s p).sec = s.sec ∧
    (State.reissue s p).pwr = s.pwr ∧
    (State.reissue s p).ras = s.ras ∧
    (State.reissue s p).mgt = s.mgt ∧
    (State.reissue s p).tiles = s.tiles ∧
    (State.reissue s p).sram = s.sram ∧
    (State.reissue s p).sramG = s.sramG ∧
    (State.reissue s p).slices = s.slices ∧
    (State.reissue s p).sliceG = s.sliceG ∧
    (State.reissue s p).flash = s.flash ∧
    (State.reissue s p).tor = s.tor ∧
    (State.reissue s p).pending = s.pending := by
  unfold State.reissue; simp -implicitDefEqProofs

@[simp] theorem State.portLost_keeps (s : State) (p : ℕ) (was : Bool) :
    (State.portLost s p was).fixed = s.fixed ∧
    (State.portLost s p was).cad = s.cad ∧
    (State.portLost s p was).fw = s.fw ∧
    (State.portLost s p was).sec = s.sec ∧
    (State.portLost s p was).pwr = s.pwr ∧
    (State.portLost s p was).ras = s.ras ∧
    (State.portLost s p was).mgt = s.mgt ∧
    (State.portLost s p was).tiles = s.tiles ∧
    (State.portLost s p was).flash = s.flash ∧
    (State.portLost s p was).pending = s.pending := by
  unfold State.portLost; simp -implicitDefEqProofs

@[simp] theorem State.portDown_keeps (s : State) (p : ℕ) (cause : ℕ) :
    (State.portDown s p cause).fixed = s.fixed ∧
    (State.portDown s p cause).cad = s.cad ∧
    (State.portDown s p cause).fw = s.fw ∧
    (State.portDown s p cause).sec = s.sec ∧
    (State.portDown s p cause).pwr = s.pwr ∧
    (State.portDown s p cause).ras = s.ras ∧
    (State.portDown s p cause).mgt = s.mgt ∧
    (State.portDown s p cause).tiles = s.tiles ∧
    (State.portDown s p cause).flash = s.flash ∧
    (State.portDown s p cause).pending = s.pending := by
  unfold State.portDown; simp -implicitDefEqProofs

@[simp] theorem State.portDisable_keeps (s : State) (p : ℕ) :
    (State.portDisable s p).fixed = s.fixed ∧
    (State.portDisable s p).cad = s.cad ∧
    (State.portDisable s p).fw = s.fw ∧
    (State.portDisable s p).sec = s.sec ∧
    (State.portDisable s p).pwr = s.pwr ∧
    (State.portDisable s p).ras = s.ras ∧
    (State.portDisable s p).mgt = s.mgt ∧
    (State.portDisable s p).tiles = s.tiles ∧
    (State.portDisable s p).flash = s.flash ∧
    (State.portDisable s p).pending = s.pending := by
  unfold State.portDisable; simp -implicitDefEqProofs

@[simp] theorem State.startMove_keeps (s : State) (p : ℕ) (q : ℕ) (target : ℕ) (msg : Option Msg) :
    (State.startMove s p q target msg).fixed = s.fixed ∧
    (State.startMove s p q target msg).ops = s.ops ∧
    (State.startMove s p q target msg).cad = s.cad ∧
    (State.startMove s p q target msg).fw = s.fw ∧
    (State.startMove s p q target msg).sec = s.sec ∧
    (State.startMove s p q target msg).pwr = s.pwr ∧
    (State.startMove s p q target msg).ras = s.ras ∧
    (State.startMove s p q target msg).mgt = s.mgt ∧
    (State.startMove s p q target msg).tiles = s.tiles ∧
    (State.startMove s p q target msg).sram = s.sram ∧
    (State.startMove s p q target msg).sramG = s.sramG ∧
    (State.startMove s p q target msg).slices = s.slices ∧
    (State.startMove s p q target msg).sliceG = s.sliceG ∧
    (State.startMove s p q target msg).flash = s.flash ∧
    (State.startMove s p q target msg).tor = s.tor ∧
    (State.startMove s p q target msg).pending = s.pending := by
  unfold State.startMove; simp -implicitDefEqProofs

@[simp] theorem State.moveQuarter_keeps (s : State) (p : ℕ) (q : ℕ) :
    (State.moveQuarter s p q).fixed = s.fixed ∧
    (State.moveQuarter s p q).ops = s.ops ∧
    (State.moveQuarter s p q).cad = s.cad ∧
    (State.moveQuarter s p q).fw = s.fw ∧
    (State.moveQuarter s p q).sec = s.sec ∧
    (State.moveQuarter s p q).pwr = s.pwr ∧
    (State.moveQuarter s p q).ras = s.ras ∧
    (State.moveQuarter s p q).mgt = s.mgt ∧
    (State.moveQuarter s p q).tiles = s.tiles ∧
    (State.moveQuarter s p q).sram = s.sram ∧
    (State.moveQuarter s p q).sramG = s.sramG ∧
    (State.moveQuarter s p q).slices = s.slices ∧
    (State.moveQuarter s p q).sliceG = s.sliceG ∧
    (State.moveQuarter s p q).flash = s.flash ∧
    (State.moveQuarter s p q).tor = s.tor ∧
    (State.moveQuarter s p q).pending = s.pending := by
  unfold State.moveQuarter; (try dsimp only); (repeat' split) <;> simp -implicitDefEqProofs

@[simp] theorem State.moveDone_keeps (s : State) (p : ℕ) :
    (State.moveDone s p).fixed = s.fixed ∧
    (State.moveDone s p).ops = s.ops ∧
    (State.moveDone s p).cad = s.cad ∧
    (State.moveDone s p).fw = s.fw ∧
    (State.moveDone s p).sec = s.sec ∧
    (State.moveDone s p).pwr = s.pwr ∧
    (State.moveDone s p).ras = s.ras ∧
    (State.moveDone s p).tiles = s.tiles ∧
    (State.moveDone s p).sram = s.sram ∧
    (State.moveDone s p).sramG = s.sramG ∧
    (State.moveDone s p).slices = s.slices ∧
    (State.moveDone s p).sliceG = s.sliceG ∧
    (State.moveDone s p).flash = s.flash ∧
    (State.moveDone s p).tor = s.tor ∧
    (State.moveDone s p).pending = s.pending := by
  unfold State.moveDone; (try dsimp only); (repeat' split) <;> simp -implicitDefEqProofs

@[simp] theorem State.wellLost_keeps (s : State) (r : ℕ) :
    (State.wellLost s r).fixed = s.fixed ∧
    (State.wellLost s r).cad = s.cad ∧
    (State.wellLost s r).fw = s.fw ∧
    (State.wellLost s r).sec = s.sec ∧
    (State.wellLost s r).pwr = s.pwr ∧
    (State.wellLost s r).ras = s.ras ∧
    (State.wellLost s r).mgt = s.mgt ∧
    (State.wellLost s r).tiles = s.tiles ∧
    (State.wellLost s r).flash = s.flash ∧
    (State.wellLost s r).pending = s.pending := by
  unfold State.wellLost; simp -implicitDefEqProofs

@[simp] theorem State.toDetect_keeps (s : State) (p : ℕ) :
    (State.toDetect s p).fixed = s.fixed ∧
    (State.toDetect s p).ops = s.ops ∧
    (State.toDetect s p).cad = s.cad ∧
    (State.toDetect s p).fw = s.fw ∧
    (State.toDetect s p).sec = s.sec ∧
    (State.toDetect s p).pwr = s.pwr ∧
    (State.toDetect s p).ras = s.ras ∧
    (State.toDetect s p).mgt = s.mgt ∧
    (State.toDetect s p).tiles = s.tiles ∧
    (State.toDetect s p).sram = s.sram ∧
    (State.toDetect s p).sramG = s.sramG ∧
    (State.toDetect s p).slices = s.slices ∧
    (State.toDetect s p).sliceG = s.sliceG ∧
    (State.toDetect s p).flash = s.flash ∧
    (State.toDetect s p).tor = s.tor ∧
    (State.toDetect s p).pending = s.pending := by
  unfold State.toDetect; simp -implicitDefEqProofs

@[simp] theorem State.retrain_keeps (s : State) (p : ℕ) (cause : ℕ) (ask : Bool) :
    (State.retrain s p cause ask).fixed = s.fixed ∧
    (State.retrain s p cause ask).ops = s.ops ∧
    (State.retrain s p cause ask).cad = s.cad ∧
    (State.retrain s p cause ask).fw = s.fw ∧
    (State.retrain s p cause ask).sec = s.sec ∧
    (State.retrain s p cause ask).pwr = s.pwr ∧
    (State.retrain s p cause ask).ras = s.ras ∧
    (State.retrain s p cause ask).mgt = s.mgt ∧
    (State.retrain s p cause ask).tiles = s.tiles ∧
    (State.retrain s p cause ask).sram = s.sram ∧
    (State.retrain s p cause ask).sramG = s.sramG ∧
    (State.retrain s p cause ask).slices = s.slices ∧
    (State.retrain s p cause ask).sliceG = s.sliceG ∧
    (State.retrain s p cause ask).flash = s.flash ∧
    (State.retrain s p cause ask).tor = s.tor ∧
    (State.retrain s p cause ask).pending = s.pending := by
  unfold State.retrain; simp -implicitDefEqProofs

@[simp] theorem State.writeCtrl_keeps (s : State) (k : ℕ) (p : ℕ) (v : Sys2Proof.W64) :
    (State.writeCtrl s k p v).fixed = s.fixed ∧
    (State.writeCtrl s k p v).cad = s.cad ∧
    (State.writeCtrl s k p v).fw = s.fw ∧
    (State.writeCtrl s k p v).sec = s.sec ∧
    (State.writeCtrl s k p v).pwr = s.pwr ∧
    (State.writeCtrl s k p v).ras = s.ras ∧
    (State.writeCtrl s k p v).mgt = s.mgt ∧
    (State.writeCtrl s k p v).tiles = s.tiles ∧
    (State.writeCtrl s k p v).flash = s.flash ∧
    (State.writeCtrl s k p v).pending = s.pending := by
  unfold State.writeCtrl; simp -implicitDefEqProofs

@[simp] theorem State.resendGrads_keeps (s : State) (p : ℕ) :
    (State.resendGrads s p).fixed = s.fixed ∧
    (State.resendGrads s p).ops = s.ops ∧
    (State.resendGrads s p).cad = s.cad ∧
    (State.resendGrads s p).fw = s.fw ∧
    (State.resendGrads s p).sec = s.sec ∧
    (State.resendGrads s p).pwr = s.pwr ∧
    (State.resendGrads s p).ras = s.ras ∧
    (State.resendGrads s p).mgt = s.mgt ∧
    (State.resendGrads s p).tiles = s.tiles ∧
    (State.resendGrads s p).sram = s.sram ∧
    (State.resendGrads s p).sramG = s.sramG ∧
    (State.resendGrads s p).slices = s.slices ∧
    (State.resendGrads s p).sliceG = s.sliceG ∧
    (State.resendGrads s p).flash = s.flash ∧
    (State.resendGrads s p).tor = s.tor ∧
    (State.resendGrads s p).pending = s.pending := by
  unfold State.resendGrads; simp -implicitDefEqProofs

@[simp] theorem State.portUp_keeps (s : State) (p : ℕ) (b : List Sys2Proof.Byte) :
    (State.portUp s p b).fixed = s.fixed ∧
    (State.portUp s p b).ops = s.ops ∧
    (State.portUp s p b).cad = s.cad ∧
    (State.portUp s p b).fw = s.fw ∧
    (State.portUp s p b).sec = s.sec ∧
    (State.portUp s p b).pwr = s.pwr ∧
    (State.portUp s p b).ras = s.ras ∧
    (State.portUp s p b).mgt = s.mgt ∧
    (State.portUp s p b).tiles = s.tiles ∧
    (State.portUp s p b).sram = s.sram ∧
    (State.portUp s p b).sramG = s.sramG ∧
    (State.portUp s p b).slices = s.slices ∧
    (State.portUp s p b).sliceG = s.sliceG ∧
    (State.portUp s p b).flash = s.flash ∧
    (State.portUp s p b).pending = s.pending := by
  unfold State.portUp; simp -implicitDefEqProofs

@[simp] theorem State.replayFrom_keeps (s : State) (p : ℕ) :
    (State.replayFrom s p).fixed = s.fixed ∧
    (State.replayFrom s p).ops = s.ops ∧
    (State.replayFrom s p).cad = s.cad ∧
    (State.replayFrom s p).fw = s.fw ∧
    (State.replayFrom s p).sec = s.sec ∧
    (State.replayFrom s p).pwr = s.pwr ∧
    (State.replayFrom s p).ras = s.ras ∧
    (State.replayFrom s p).mgt = s.mgt ∧
    (State.replayFrom s p).tiles = s.tiles ∧
    (State.replayFrom s p).sram = s.sram ∧
    (State.replayFrom s p).sramG = s.sramG ∧
    (State.replayFrom s p).slices = s.slices ∧
    (State.replayFrom s p).sliceG = s.sliceG ∧
    (State.replayFrom s p).flash = s.flash ∧
    (State.replayFrom s p).tor = s.tor ∧
    (State.replayFrom s p).pending = s.pending := by
  unfold State.replayFrom; simp -implicitDefEqProofs

@[simp] theorem State.gap_keeps (s : State) (p : ℕ) :
    (State.gap s p).fixed = s.fixed ∧
    (State.gap s p).ops = s.ops ∧
    (State.gap s p).cad = s.cad ∧
    (State.gap s p).fw = s.fw ∧
    (State.gap s p).sec = s.sec ∧
    (State.gap s p).pwr = s.pwr ∧
    (State.gap s p).ras = s.ras ∧
    (State.gap s p).mgt = s.mgt ∧
    (State.gap s p).tiles = s.tiles ∧
    (State.gap s p).sram = s.sram ∧
    (State.gap s p).sramG = s.sramG ∧
    (State.gap s p).slices = s.slices ∧
    (State.gap s p).sliceG = s.sliceG ∧
    (State.gap s p).flash = s.flash ∧
    (State.gap s p).tor = s.tor ∧
    (State.gap s p).pending = s.pending := by
  unfold State.gap; simp -implicitDefEqProofs

@[simp] theorem State.acceptFlit_keeps (s : State) (p : ℕ) (w : WireFlit) :
    (State.acceptFlit s p w).fixed = s.fixed ∧
    (State.acceptFlit s p w).ops = s.ops ∧
    (State.acceptFlit s p w).cad = s.cad ∧
    (State.acceptFlit s p w).fw = s.fw ∧
    (State.acceptFlit s p w).sec = s.sec ∧
    (State.acceptFlit s p w).pwr = s.pwr ∧
    (State.acceptFlit s p w).ras = s.ras ∧
    (State.acceptFlit s p w).mgt = s.mgt ∧
    (State.acceptFlit s p w).tiles = s.tiles ∧
    (State.acceptFlit s p w).sram = s.sram ∧
    (State.acceptFlit s p w).sramG = s.sramG ∧
    (State.acceptFlit s p w).slices = s.slices ∧
    (State.acceptFlit s p w).sliceG = s.sliceG ∧
    (State.acceptFlit s p w).flash = s.flash ∧
    (State.acceptFlit s p w).tor = s.tor ∧
    (State.acceptFlit s p w).pending = s.pending := by
  unfold State.acceptFlit; simp -implicitDefEqProofs

@[simp] theorem State.receiveFlit_keeps (s : State) (p : ℕ) (w : WireFlit) :
    (State.receiveFlit s p w).fixed = s.fixed ∧
    (State.receiveFlit s p w).ops = s.ops ∧
    (State.receiveFlit s p w).cad = s.cad ∧
    (State.receiveFlit s p w).fw = s.fw ∧
    (State.receiveFlit s p w).sec = s.sec ∧
    (State.receiveFlit s p w).pwr = s.pwr ∧
    (State.receiveFlit s p w).ras = s.ras ∧
    (State.receiveFlit s p w).mgt = s.mgt ∧
    (State.receiveFlit s p w).tiles = s.tiles ∧
    (State.receiveFlit s p w).sram = s.sram ∧
    (State.receiveFlit s p w).sramG = s.sramG ∧
    (State.receiveFlit s p w).slices = s.slices ∧
    (State.receiveFlit s p w).sliceG = s.sliceG ∧
    (State.receiveFlit s p w).flash = s.flash ∧
    (State.receiveFlit s p w).tor = s.tor ∧
    (State.receiveFlit s p w).pending = s.pending := by
  unfold State.receiveFlit; simp -implicitDefEqProofs

@[simp] theorem State.serverFault_keeps (s : State) (p : ℕ) (type : ℕ) :
    (State.serverFault s p type).fixed = s.fixed ∧
    (State.serverFault s p type).ops = s.ops ∧
    (State.serverFault s p type).cad = s.cad ∧
    (State.serverFault s p type).fw = s.fw ∧
    (State.serverFault s p type).sec = s.sec ∧
    (State.serverFault s p type).pwr = s.pwr ∧
    (State.serverFault s p type).ras = s.ras ∧
    (State.serverFault s p type).mgt = s.mgt ∧
    (State.serverFault s p type).tiles = s.tiles ∧
    (State.serverFault s p type).sram = s.sram ∧
    (State.serverFault s p type).sramG = s.sramG ∧
    (State.serverFault s p type).slices = s.slices ∧
    (State.serverFault s p type).sliceG = s.sliceG ∧
    (State.serverFault s p type).flash = s.flash ∧
    (State.serverFault s p type).tor = s.tor ∧
    (State.serverFault s p type).pending = s.pending := by
  unfold State.serverFault; simp -implicitDefEqProofs

@[simp] theorem State.unasked_keeps (s : State) (p : ℕ) :
    (State.unasked s p).fixed = s.fixed ∧
    (State.unasked s p).ops = s.ops ∧
    (State.unasked s p).cad = s.cad ∧
    (State.unasked s p).fw = s.fw ∧
    (State.unasked s p).sec = s.sec ∧
    (State.unasked s p).pwr = s.pwr ∧
    (State.unasked s p).ras = s.ras ∧
    (State.unasked s p).mgt = s.mgt ∧
    (State.unasked s p).tiles = s.tiles ∧
    (State.unasked s p).sram = s.sram ∧
    (State.unasked s p).sramG = s.sramG ∧
    (State.unasked s p).slices = s.slices ∧
    (State.unasked s p).sliceG = s.sliceG ∧
    (State.unasked s p).flash = s.flash ∧
    (State.unasked s p).tor = s.tor ∧
    (State.unasked s p).pending = s.pending := by
  unfold State.unasked; simp -implicitDefEqProofs

@[simp] theorem State.relayOn_keeps (s : State) (k : ChunkKey) (frame : List Sys2Proof.Byte) :
    (State.relayOn s k frame).fixed = s.fixed ∧
    (State.relayOn s k frame).ops = s.ops ∧
    (State.relayOn s k frame).cad = s.cad ∧
    (State.relayOn s k frame).fw = s.fw ∧
    (State.relayOn s k frame).sec = s.sec ∧
    (State.relayOn s k frame).pwr = s.pwr ∧
    (State.relayOn s k frame).ras = s.ras ∧
    (State.relayOn s k frame).mgt = s.mgt ∧
    (State.relayOn s k frame).tiles = s.tiles ∧
    (State.relayOn s k frame).sram = s.sram ∧
    (State.relayOn s k frame).sramG = s.sramG ∧
    (State.relayOn s k frame).slices = s.slices ∧
    (State.relayOn s k frame).sliceG = s.sliceG ∧
    (State.relayOn s k frame).flash = s.flash ∧
    (State.relayOn s k frame).tor = s.tor ∧
    (State.relayOn s k frame).pending = s.pending := by
  unfold State.relayOn; split <;> simp -implicitDefEqProofs

@[simp] theorem State.portRelease_keeps (s : State) (p : ℕ) :
    (State.portRelease s p).fixed = s.fixed ∧
    (State.portRelease s p).ops = s.ops ∧
    (State.portRelease s p).cad = s.cad ∧
    (State.portRelease s p).fw = s.fw ∧
    (State.portRelease s p).sec = s.sec ∧
    (State.portRelease s p).pwr = s.pwr ∧
    (State.portRelease s p).ras = s.ras ∧
    (State.portRelease s p).mgt = s.mgt ∧
    (State.portRelease s p).tiles = s.tiles ∧
    (State.portRelease s p).sram = s.sram ∧
    (State.portRelease s p).sramG = s.sramG ∧
    (State.portRelease s p).slices = s.slices ∧
    (State.portRelease s p).sliceG = s.sliceG ∧
    (State.portRelease s p).flash = s.flash ∧
    (State.portRelease s p).pending = s.pending := by
  unfold State.portRelease; (try dsimp only); (repeat' split) <;> simp -implicitDefEqProofs (disch := (intros; (try dsimp only); (repeat' split) <;> (try simp -implicitDefEqProofs)))

@[simp] theorem State.disablePorts_keeps (s : State) :
    (State.disablePorts s).fixed = s.fixed ∧
    (State.disablePorts s).ops = s.ops ∧
    (State.disablePorts s).cad = s.cad ∧
    (State.disablePorts s).fw = s.fw ∧
    (State.disablePorts s).sec = s.sec ∧
    (State.disablePorts s).pwr = s.pwr ∧
    (State.disablePorts s).ras = s.ras ∧
    (State.disablePorts s).mgt = s.mgt ∧
    (State.disablePorts s).tiles = s.tiles ∧
    (State.disablePorts s).sram = s.sram ∧
    (State.disablePorts s).sramG = s.sramG ∧
    (State.disablePorts s).slices = s.slices ∧
    (State.disablePorts s).sliceG = s.sliceG ∧
    (State.disablePorts s).flash = s.flash ∧
    (State.disablePorts s).tor = s.tor ∧
    (State.disablePorts s).pending = s.pending := by
  unfold State.disablePorts; simp -implicitDefEqProofs

@[simp] theorem State.genDrop_keeps (s : State) (k : ℕ) (p : TorPkt) (e : TorKey) :
    (State.genDrop s k p e).fixed = s.fixed ∧
    (State.genDrop s k p e).ops = s.ops ∧
    (State.genDrop s k p e).cad = s.cad ∧
    (State.genDrop s k p e).fw = s.fw ∧
    (State.genDrop s k p e).sec = s.sec ∧
    (State.genDrop s k p e).pwr = s.pwr ∧
    (State.genDrop s k p e).ras = s.ras ∧
    (State.genDrop s k p e).mgt = s.mgt ∧
    (State.genDrop s k p e).tiles = s.tiles ∧
    (State.genDrop s k p e).sram = s.sram ∧
    (State.genDrop s k p e).sramG = s.sramG ∧
    (State.genDrop s k p e).slices = s.slices ∧
    (State.genDrop s k p e).sliceG = s.sliceG ∧
    (State.genDrop s k p e).flash = s.flash ∧
    (State.genDrop s k p e).pending = s.pending := by
  unfold State.genDrop; simp -implicitDefEqProofs

@[simp] theorem State.pieceLost_keeps (s : State) (p : TorPkt) :
    (State.pieceLost s p).fixed = s.fixed ∧
    (State.pieceLost s p).cad = s.cad ∧
    (State.pieceLost s p).fw = s.fw ∧
    (State.pieceLost s p).sec = s.sec ∧
    (State.pieceLost s p).pwr = s.pwr ∧
    (State.pieceLost s p).ras = s.ras ∧
    (State.pieceLost s p).mgt = s.mgt ∧
    (State.pieceLost s p).tiles = s.tiles ∧
    (State.pieceLost s p).flash = s.flash ∧
    (State.pieceLost s p).pending = s.pending := by
  unfold State.pieceLost; split <;> simp -implicitDefEqProofs

@[simp] theorem State.torDeliver_keeps (s : State) (k : ℕ) (p : TorPkt) :
    (State.torDeliver s k p).fixed = s.fixed ∧
    (State.torDeliver s k p).ops = s.ops ∧
    (State.torDeliver s k p).cad = s.cad ∧
    (State.torDeliver s k p).fw = s.fw ∧
    (State.torDeliver s k p).sec = s.sec ∧
    (State.torDeliver s k p).pwr = s.pwr ∧
    (State.torDeliver s k p).ras = s.ras ∧
    (State.torDeliver s k p).mgt = s.mgt ∧
    (State.torDeliver s k p).tiles = s.tiles ∧
    (State.torDeliver s k p).sram = s.sram ∧
    (State.torDeliver s k p).sramG = s.sramG ∧
    (State.torDeliver s k p).slices = s.slices ∧
    (State.torDeliver s k p).sliceG = s.sliceG ∧
    (State.torDeliver s k p).flash = s.flash ∧
    (State.torDeliver s k p).pending = s.pending := by
  unfold State.torDeliver; (try dsimp only); (repeat' split) <;> simp -implicitDefEqProofs

@[simp] theorem State.torForward_keeps (s : State) (k : ℕ) (p : TorPkt) :
    (State.torForward s k p).fixed = s.fixed ∧
    (State.torForward s k p).ops = s.ops ∧
    (State.torForward s k p).cad = s.cad ∧
    (State.torForward s k p).fw = s.fw ∧
    (State.torForward s k p).sec = s.sec ∧
    (State.torForward s k p).pwr = s.pwr ∧
    (State.torForward s k p).ras = s.ras ∧
    (State.torForward s k p).mgt = s.mgt ∧
    (State.torForward s k p).tiles = s.tiles ∧
    (State.torForward s k p).sram = s.sram ∧
    (State.torForward s k p).sramG = s.sramG ∧
    (State.torForward s k p).slices = s.slices ∧
    (State.torForward s k p).sliceG = s.sliceG ∧
    (State.torForward s k p).flash = s.flash ∧
    (State.torForward s k p).pending = s.pending := by
  unfold State.torForward; (try dsimp only); (repeat' split) <;> simp -implicitDefEqProofs

@[simp] theorem State.torUnqueue_keeps (s : State) (k : ℕ) (p : TorPkt) :
    (State.torUnqueue s k p).fixed = s.fixed ∧
    (State.torUnqueue s k p).ops = s.ops ∧
    (State.torUnqueue s k p).cad = s.cad ∧
    (State.torUnqueue s k p).fw = s.fw ∧
    (State.torUnqueue s k p).sec = s.sec ∧
    (State.torUnqueue s k p).pwr = s.pwr ∧
    (State.torUnqueue s k p).ras = s.ras ∧
    (State.torUnqueue s k p).mgt = s.mgt ∧
    (State.torUnqueue s k p).tiles = s.tiles ∧
    (State.torUnqueue s k p).sram = s.sram ∧
    (State.torUnqueue s k p).sramG = s.sramG ∧
    (State.torUnqueue s k p).slices = s.slices ∧
    (State.torUnqueue s k p).sliceG = s.sliceG ∧
    (State.torUnqueue s k p).flash = s.flash ∧
    (State.torUnqueue s k p).pending = s.pending := by
  unfold State.torUnqueue; split <;> simp -implicitDefEqProofs

@[simp] theorem State.torEgress_keeps (s : State) (k : ℕ) (ch : ℕ) :
    (State.torEgress s k ch).fixed = s.fixed ∧
    (State.torEgress s k ch).cad = s.cad ∧
    (State.torEgress s k ch).fw = s.fw ∧
    (State.torEgress s k ch).sec = s.sec ∧
    (State.torEgress s k ch).pwr = s.pwr ∧
    (State.torEgress s k ch).ras = s.ras ∧
    (State.torEgress s k ch).mgt = s.mgt ∧
    (State.torEgress s k ch).tiles = s.tiles ∧
    (State.torEgress s k ch).flash = s.flash ∧
    (State.torEgress s k ch).pending = s.pending := by
  unfold State.torEgress; split <;> simp -implicitDefEqProofs

@[simp] theorem State.opLost_keeps (s : State) (o : Op) (status : ℕ) (detail : ℕ) :
    (State.opLost s o status detail).fixed = s.fixed ∧
    (State.opLost s o status detail).cad = s.cad ∧
    (State.opLost s o status detail).fw = s.fw ∧
    (State.opLost s o status detail).sec = s.sec ∧
    (State.opLost s o status detail).pwr = s.pwr ∧
    (State.opLost s o status detail).ras = s.ras ∧
    (State.opLost s o status detail).mgt = s.mgt ∧
    (State.opLost s o status detail).tiles = s.tiles ∧
    (State.opLost s o status detail).pending = s.pending := by
  unfold State.opLost; simp -implicitDefEqProofs

@[simp] theorem State.postTimeout_keeps (s : State) (n : ℕ) (sx : ℕ) (sy : ℕ) (tag : ℕ) :
    (State.postTimeout s n sx sy tag).fixed = s.fixed ∧
    (State.postTimeout s n sx sy tag).ops = s.ops ∧
    (State.postTimeout s n sx sy tag).cad = s.cad ∧
    (State.postTimeout s n sx sy tag).fw = s.fw ∧
    (State.postTimeout s n sx sy tag).sec = s.sec ∧
    (State.postTimeout s n sx sy tag).pwr = s.pwr ∧
    (State.postTimeout s n sx sy tag).ras = s.ras ∧
    (State.postTimeout s n sx sy tag).mgt = s.mgt ∧
    (State.postTimeout s n sx sy tag).tiles = s.tiles ∧
    (State.postTimeout s n sx sy tag).sram = s.sram ∧
    (State.postTimeout s n sx sy tag).sramG = s.sramG ∧
    (State.postTimeout s n sx sy tag).slices = s.slices ∧
    (State.postTimeout s n sx sy tag).sliceG = s.sliceG ∧
    (State.postTimeout s n sx sy tag).flash = s.flash ∧
    (State.postTimeout s n sx sy tag).tor = s.tor ∧
    (State.postTimeout s n sx sy tag).pending = s.pending := by
  unfold State.postTimeout; simp -implicitDefEqProofs

@[simp] theorem State.chunkLate_keeps (s : State) (k : ChunkKey) :
    (State.chunkLate s k).fixed = s.fixed ∧
    (State.chunkLate s k).ops = s.ops ∧
    (State.chunkLate s k).cad = s.cad ∧
    (State.chunkLate s k).fw = s.fw ∧
    (State.chunkLate s k).sec = s.sec ∧
    (State.chunkLate s k).pwr = s.pwr ∧
    (State.chunkLate s k).ras = s.ras ∧
    (State.chunkLate s k).mgt = s.mgt ∧
    (State.chunkLate s k).tiles = s.tiles ∧
    (State.chunkLate s k).sram = s.sram ∧
    (State.chunkLate s k).sramG = s.sramG ∧
    (State.chunkLate s k).slices = s.slices ∧
    (State.chunkLate s k).sliceG = s.sliceG ∧
    (State.chunkLate s k).flash = s.flash ∧
    (State.chunkLate s k).tor = s.tor ∧
    (State.chunkLate s k).pending = s.pending := by
  unfold State.chunkLate; split <;> simp -implicitDefEqProofs

@[simp] theorem State.failHash_keeps (s : State) (t : ℕ) (cause : ℕ) :
    (State.failHash s t cause).fixed = s.fixed ∧
    (State.failHash s t cause).cad = s.cad ∧
    (State.failHash s t cause).fw = s.fw ∧
    (State.failHash s t cause).sec = s.sec ∧
    (State.failHash s t cause).pwr = s.pwr ∧
    (State.failHash s t cause).ras = s.ras ∧
    (State.failHash s t cause).mgt = s.mgt ∧
    (State.failHash s t cause).sram = s.sram ∧
    (State.failHash s t cause).sramG = s.sramG ∧
    (State.failHash s t cause).slices = s.slices ∧
    (State.failHash s t cause).sliceG = s.sliceG ∧
    (State.failHash s t cause).flash = s.flash ∧
    (State.failHash s t cause).tor = s.tor ∧
    (State.failHash s t cause).pending = s.pending := by
  unfold State.failHash; split <;> simp -implicitDefEqProofs

@[simp] theorem State.leaveFetch_keeps (s : State) (w : Waiter) :
    (State.leaveFetch s w).fixed = s.fixed ∧
    (State.leaveFetch s w).ops = s.ops ∧
    (State.leaveFetch s w).cad = s.cad ∧
    (State.leaveFetch s w).fw = s.fw ∧
    (State.leaveFetch s w).sec = s.sec ∧
    (State.leaveFetch s w).pwr = s.pwr ∧
    (State.leaveFetch s w).ras = s.ras ∧
    (State.leaveFetch s w).mgt = s.mgt ∧
    (State.leaveFetch s w).tiles = s.tiles ∧
    (State.leaveFetch s w).sram = s.sram ∧
    (State.leaveFetch s w).sramG = s.sramG ∧
    (State.leaveFetch s w).slices = s.slices ∧
    (State.leaveFetch s w).sliceG = s.sliceG ∧
    (State.leaveFetch s w).flash = s.flash ∧
    (State.leaveFetch s w).tor = s.tor ∧
    (State.leaveFetch s w).pending = s.pending := by
  unfold State.leaveFetch; simp -implicitDefEqProofs

@[simp] theorem State.replyTimeout_keeps (s : State) (k : ChunkKey) :
    (State.replyTimeout s k).fixed = s.fixed ∧
    (State.replyTimeout s k).ops = s.ops ∧
    (State.replyTimeout s k).cad = s.cad ∧
    (State.replyTimeout s k).fw = s.fw ∧
    (State.replyTimeout s k).sec = s.sec ∧
    (State.replyTimeout s k).pwr = s.pwr ∧
    (State.replyTimeout s k).ras = s.ras ∧
    (State.replyTimeout s k).mgt = s.mgt ∧
    (State.replyTimeout s k).tiles = s.tiles ∧
    (State.replyTimeout s k).sram = s.sram ∧
    (State.replyTimeout s k).sramG = s.sramG ∧
    (State.replyTimeout s k).slices = s.slices ∧
    (State.replyTimeout s k).sliceG = s.sliceG ∧
    (State.replyTimeout s k).flash = s.flash ∧
    (State.replyTimeout s k).tor = s.tor ∧
    (State.replyTimeout s k).pending = s.pending := by
  unfold State.replyTimeout; (try dsimp only); (repeat' split) <;> simp -implicitDefEqProofs

@[simp] theorem State.writeRoutes_keeps (s : State) (cause : ℕ) :
    (State.writeRoutes s cause).fixed = s.fixed ∧
    (State.writeRoutes s cause).ops = s.ops ∧
    (State.writeRoutes s cause).cad = s.cad ∧
    (State.writeRoutes s cause).fw = s.fw ∧
    (State.writeRoutes s cause).sec = s.sec ∧
    (State.writeRoutes s cause).pwr = s.pwr ∧
    (State.writeRoutes s cause).ras = s.ras ∧
    (State.writeRoutes s cause).mgt = s.mgt ∧
    (State.writeRoutes s cause).tiles = s.tiles ∧
    (State.writeRoutes s cause).sram = s.sram ∧
    (State.writeRoutes s cause).sramG = s.sramG ∧
    (State.writeRoutes s cause).slices = s.slices ∧
    (State.writeRoutes s cause).sliceG = s.sliceG ∧
    (State.writeRoutes s cause).flash = s.flash ∧
    (State.writeRoutes s cause).tor = s.tor ∧
    (State.writeRoutes s cause).pending = s.pending := by
  unfold State.writeRoutes; simp -implicitDefEqProofs

@[simp] theorem State.routesChange_keeps (s : State) (cause : ℕ) :
    (State.routesChange s cause).fixed = s.fixed ∧
    (State.routesChange s cause).ops = s.ops ∧
    (State.routesChange s cause).cad = s.cad ∧
    (State.routesChange s cause).fw = s.fw ∧
    (State.routesChange s cause).sec = s.sec ∧
    (State.routesChange s cause).pwr = s.pwr ∧
    (State.routesChange s cause).ras = s.ras ∧
    (State.routesChange s cause).mgt = s.mgt ∧
    (State.routesChange s cause).tiles = s.tiles ∧
    (State.routesChange s cause).sram = s.sram ∧
    (State.routesChange s cause).sramG = s.sramG ∧
    (State.routesChange s cause).slices = s.slices ∧
    (State.routesChange s cause).sliceG = s.sliceG ∧
    (State.routesChange s cause).flash = s.flash ∧
    (State.routesChange s cause).tor = s.tor ∧
    (State.routesChange s cause).pending = s.pending := by
  unfold State.routesChange; simp -implicitDefEqProofs

@[simp] theorem State.fenceFabric_keeps (s : State) (r : ℕ) :
    (State.fenceFabric s r).fixed = s.fixed ∧
    (State.fenceFabric s r).ops = s.ops ∧
    (State.fenceFabric s r).cad = s.cad ∧
    (State.fenceFabric s r).fw = s.fw ∧
    (State.fenceFabric s r).sec = s.sec ∧
    (State.fenceFabric s r).pwr = s.pwr ∧
    (State.fenceFabric s r).ras = s.ras ∧
    (State.fenceFabric s r).mgt = s.mgt ∧
    (State.fenceFabric s r).tiles = s.tiles ∧
    (State.fenceFabric s r).sram = s.sram ∧
    (State.fenceFabric s r).sramG = s.sramG ∧
    (State.fenceFabric s r).slices = s.slices ∧
    (State.fenceFabric s r).sliceG = s.sliceG ∧
    (State.fenceFabric s r).flash = s.flash ∧
    (State.fenceFabric s r).tor = s.tor ∧
    (State.fenceFabric s r).pending = s.pending := by
  unfold State.fenceFabric; simp -implicitDefEqProofs

end Sys2Proof.Machine
end

