-- ==== Sys2Proof/Laws/FrameModule.lean ====
section
/-! SUPPORT. Frames, one lemma an operation: what each operation of the module, power and bring-up families leaves alone. Each lemma lists the fields of State
the operation never writes; all are simp lemmas, so a proof about a command need not unfold them. -/

namespace Sys2Proof.Machine

open Host

@[simp] theorem State.dropStreams_keeps (s : State) (n : ℕ) (status : ℕ) :
    (State.dropStreams s n status).fixed = s.fixed ∧
    (State.dropStreams s n status).ops = s.ops ∧
    (State.dropStreams s n status).cad = s.cad ∧
    (State.dropStreams s n status).fw = s.fw ∧
    (State.dropStreams s n status).sec = s.sec ∧
    (State.dropStreams s n status).pwr = s.pwr ∧
    (State.dropStreams s n status).ras = s.ras ∧
    (State.dropStreams s n status).mgt = s.mgt ∧
    (State.dropStreams s n status).tiles = s.tiles ∧
    (State.dropStreams s n status).sram = s.sram ∧
    (State.dropStreams s n status).sramG = s.sramG ∧
    (State.dropStreams s n status).slices = s.slices ∧
    (State.dropStreams s n status).sliceG = s.sliceG ∧
    (State.dropStreams s n status).flash = s.flash ∧
    (State.dropStreams s n status).tor = s.tor ∧
    (State.dropStreams s n status).pending = s.pending := by
  unfold State.dropStreams; simp -implicitDefEqProofs

@[simp] theorem State.dropWaiters_keeps (s : State) (n : ℕ) :
    (State.dropWaiters s n).fixed = s.fixed ∧
    (State.dropWaiters s n).ops = s.ops ∧
    (State.dropWaiters s n).cad = s.cad ∧
    (State.dropWaiters s n).fw = s.fw ∧
    (State.dropWaiters s n).sec = s.sec ∧
    (State.dropWaiters s n).pwr = s.pwr ∧
    (State.dropWaiters s n).ras = s.ras ∧
    (State.dropWaiters s n).mgt = s.mgt ∧
    (State.dropWaiters s n).tiles = s.tiles ∧
    (State.dropWaiters s n).sram = s.sram ∧
    (State.dropWaiters s n).sramG = s.sramG ∧
    (State.dropWaiters s n).slices = s.slices ∧
    (State.dropWaiters s n).sliceG = s.sliceG ∧
    (State.dropWaiters s n).flash = s.flash ∧
    (State.dropWaiters s n).tor = s.tor ∧
    (State.dropWaiters s n).pending = s.pending := by
  unfold State.dropWaiters; simp -implicitDefEqProofs

@[simp] theorem State.haltTiles_keeps (s : State) (n : ℕ) :
    (State.haltTiles s n).fixed = s.fixed ∧
    (State.haltTiles s n).ops = s.ops ∧
    (State.haltTiles s n).cad = s.cad ∧
    (State.haltTiles s n).fw = s.fw ∧
    (State.haltTiles s n).sec = s.sec ∧
    (State.haltTiles s n).pwr = s.pwr ∧
    (State.haltTiles s n).ras = s.ras ∧
    (State.haltTiles s n).mgt = s.mgt ∧
    (State.haltTiles s n).sram = s.sram ∧
    (State.haltTiles s n).sramG = s.sramG ∧
    (State.haltTiles s n).slices = s.slices ∧
    (State.haltTiles s n).sliceG = s.sliceG ∧
    (State.haltTiles s n).flash = s.flash ∧
    (State.haltTiles s n).tor = s.tor ∧
    (State.haltTiles s n).pending = s.pending := by
  unfold State.haltTiles; (try dsimp only); (repeat' split) <;> simp -implicitDefEqProofs

@[simp] theorem State.squallPartition_keeps (s : State) (n : ℕ) :
    (State.squallPartition s n).fixed = s.fixed ∧
    (State.squallPartition s n).ops = s.ops ∧
    (State.squallPartition s n).cad = s.cad ∧
    (State.squallPartition s n).fw = s.fw ∧
    (State.squallPartition s n).sec = s.sec ∧
    (State.squallPartition s n).pwr = s.pwr ∧
    (State.squallPartition s n).ras = s.ras ∧
    (State.squallPartition s n).mgt = s.mgt ∧
    (State.squallPartition s n).tiles = s.tiles ∧
    (State.squallPartition s n).sram = s.sram ∧
    (State.squallPartition s n).sramG = s.sramG ∧
    (State.squallPartition s n).slices = s.slices ∧
    (State.squallPartition s n).sliceG = s.sliceG ∧
    (State.squallPartition s n).flash = s.flash ∧
    (State.squallPartition s n).pending = s.pending := by
  unfold State.squallPartition; simp -implicitDefEqProofs

@[simp] theorem State.spoilSnap_keeps (s : State) (o : Op) :
    (State.spoilSnap s o).fixed = s.fixed ∧
    (State.spoilSnap s o).ops = s.ops ∧
    (State.spoilSnap s o).cad = s.cad ∧
    (State.spoilSnap s o).fw = s.fw ∧
    (State.spoilSnap s o).sec = s.sec ∧
    (State.spoilSnap s o).pwr = s.pwr ∧
    (State.spoilSnap s o).ras = s.ras ∧
    (State.spoilSnap s o).mgt = s.mgt ∧
    (State.spoilSnap s o).tiles = s.tiles ∧
    (State.spoilSnap s o).sram = s.sram ∧
    (State.spoilSnap s o).sramG = s.sramG ∧
    (State.spoilSnap s o).flash = s.flash ∧
    (State.spoilSnap s o).tor = s.tor ∧
    (State.spoilSnap s o).pending = s.pending := by
  unfold State.spoilSnap; (try dsimp only); (repeat' split) <;> simp -implicitDefEqProofs (disch := (intros; (try dsimp only); (repeat' split) <;> (try simp -implicitDefEqProofs)))

@[simp] theorem State.resetOp_keeps (s : State) (o : Op) :
    (State.resetOp s o).fixed = s.fixed ∧
    (State.resetOp s o).cad = s.cad ∧
    (State.resetOp s o).fw = s.fw ∧
    (State.resetOp s o).sec = s.sec ∧
    (State.resetOp s o).pwr = s.pwr ∧
    (State.resetOp s o).ras = s.ras ∧
    (State.resetOp s o).mgt = s.mgt ∧
    (State.resetOp s o).tiles = s.tiles ∧
    (State.resetOp s o).sram = s.sram ∧
    (State.resetOp s o).sramG = s.sramG ∧
    (State.resetOp s o).tor = s.tor ∧
    (State.resetOp s o).pending = s.pending := by
  unfold State.resetOp; simp -implicitDefEqProofs

@[simp] theorem State.clearRegions_keeps (s : State) (l : List ℕ) :
    (State.clearRegions s l).fixed = s.fixed ∧
    (State.clearRegions s l).ops = s.ops ∧
    (State.clearRegions s l).cad = s.cad ∧
    (State.clearRegions s l).fw = s.fw ∧
    (State.clearRegions s l).sec = s.sec ∧
    (State.clearRegions s l).pwr = s.pwr ∧
    (State.clearRegions s l).ras = s.ras ∧
    (State.clearRegions s l).mgt = s.mgt ∧
    (State.clearRegions s l).slices = s.slices ∧
    (State.clearRegions s l).sliceG = s.sliceG ∧
    (State.clearRegions s l).flash = s.flash ∧
    (State.clearRegions s l).tor = s.tor ∧
    (State.clearRegions s l).pending = s.pending := by
  unfold State.clearRegions; simp -implicitDefEqProofs

@[simp] theorem State.clearTiles_keeps (s : State) (n : ℕ) :
    (State.clearTiles s n).fixed = s.fixed ∧
    (State.clearTiles s n).ops = s.ops ∧
    (State.clearTiles s n).cad = s.cad ∧
    (State.clearTiles s n).fw = s.fw ∧
    (State.clearTiles s n).sec = s.sec ∧
    (State.clearTiles s n).pwr = s.pwr ∧
    (State.clearTiles s n).ras = s.ras ∧
    (State.clearTiles s n).mgt = s.mgt ∧
    (State.clearTiles s n).slices = s.slices ∧
    (State.clearTiles s n).sliceG = s.sliceG ∧
    (State.clearTiles s n).flash = s.flash ∧
    (State.clearTiles s n).tor = s.tor ∧
    (State.clearTiles s n).pending = s.pending := by
  unfold State.clearTiles; simp -implicitDefEqProofs

@[simp] theorem State.zeroRegionMemory_keeps (s : State) (l : List ℕ) :
    (State.zeroRegionMemory s l).fixed = s.fixed ∧
    (State.zeroRegionMemory s l).ops = s.ops ∧
    (State.zeroRegionMemory s l).cad = s.cad ∧
    (State.zeroRegionMemory s l).fw = s.fw ∧
    (State.zeroRegionMemory s l).sec = s.sec ∧
    (State.zeroRegionMemory s l).pwr = s.pwr ∧
    (State.zeroRegionMemory s l).ras = s.ras ∧
    (State.zeroRegionMemory s l).mgt = s.mgt ∧
    (State.zeroRegionMemory s l).flash = s.flash ∧
    (State.zeroRegionMemory s l).tor = s.tor ∧
    (State.zeroRegionMemory s l).pending = s.pending := by
  unfold State.zeroRegionMemory; simp -implicitDefEqProofs

@[simp] theorem State.discardIn_keeps (s : State) (n : ℕ) (l : List ℕ) :
    (State.discardIn s n l).fixed = s.fixed ∧
    (State.discardIn s n l).ops = s.ops ∧
    (State.discardIn s n l).cad = s.cad ∧
    (State.discardIn s n l).fw = s.fw ∧
    (State.discardIn s n l).sec = s.sec ∧
    (State.discardIn s n l).pwr = s.pwr ∧
    (State.discardIn s n l).ras = s.ras ∧
    (State.discardIn s n l).mgt = s.mgt ∧
    (State.discardIn s n l).tiles = s.tiles ∧
    (State.discardIn s n l).sram = s.sram ∧
    (State.discardIn s n l).sramG = s.sramG ∧
    (State.discardIn s n l).slices = s.slices ∧
    (State.discardIn s n l).sliceG = s.sliceG ∧
    (State.discardIn s n l).flash = s.flash ∧
    (State.discardIn s n l).tor = s.tor ∧
    (State.discardIn s n l).pending = s.pending := by
  unfold State.discardIn; simp -implicitDefEqProofs

@[simp] theorem State.dropPartition_keeps (s : State) (n : ℕ) :
    (State.dropPartition s n).fixed = s.fixed ∧
    (State.dropPartition s n).ops = s.ops ∧
    (State.dropPartition s n).cad = s.cad ∧
    (State.dropPartition s n).fw = s.fw ∧
    (State.dropPartition s n).sec = s.sec ∧
    (State.dropPartition s n).pwr = s.pwr ∧
    (State.dropPartition s n).ras = s.ras ∧
    (State.dropPartition s n).mgt = s.mgt ∧
    (State.dropPartition s n).tiles = s.tiles ∧
    (State.dropPartition s n).sram = s.sram ∧
    (State.dropPartition s n).sramG = s.sramG ∧
    (State.dropPartition s n).slices = s.slices ∧
    (State.dropPartition s n).sliceG = s.sliceG ∧
    (State.dropPartition s n).flash = s.flash ∧
    (State.dropPartition s n).pending = s.pending := by
  unfold State.dropPartition; simp -implicitDefEqProofs

@[simp] theorem State.emptySlots_keeps (s : State) (n : ℕ) (sh : ℕ) :
    (State.emptySlots s n sh).fixed = s.fixed ∧
    (State.emptySlots s n sh).ops = s.ops ∧
    (State.emptySlots s n sh).cad = s.cad ∧
    (State.emptySlots s n sh).fw = s.fw ∧
    (State.emptySlots s n sh).sec = s.sec ∧
    (State.emptySlots s n sh).pwr = s.pwr ∧
    (State.emptySlots s n sh).ras = s.ras ∧
    (State.emptySlots s n sh).mgt = s.mgt ∧
    (State.emptySlots s n sh).tiles = s.tiles ∧
    (State.emptySlots s n sh).sram = s.sram ∧
    (State.emptySlots s n sh).sramG = s.sramG ∧
    (State.emptySlots s n sh).slices = s.slices ∧
    (State.emptySlots s n sh).sliceG = s.sliceG ∧
    (State.emptySlots s n sh).flash = s.flash ∧
    (State.emptySlots s n sh).tor = s.tor ∧
    (State.emptySlots s n sh).pending = s.pending := by
  unfold State.emptySlots; simp -implicitDefEqProofs

@[simp] theorem State.weightsOnReset_keeps (s : State) (n : ℕ) :
    (State.weightsOnReset s n).fixed = s.fixed ∧
    (State.weightsOnReset s n).ops = s.ops ∧
    (State.weightsOnReset s n).cad = s.cad ∧
    (State.weightsOnReset s n).fw = s.fw ∧
    (State.weightsOnReset s n).sec = s.sec ∧
    (State.weightsOnReset s n).pwr = s.pwr ∧
    (State.weightsOnReset s n).ras = s.ras ∧
    (State.weightsOnReset s n).mgt = s.mgt ∧
    (State.weightsOnReset s n).tiles = s.tiles ∧
    (State.weightsOnReset s n).sram = s.sram ∧
    (State.weightsOnReset s n).sramG = s.sramG ∧
    (State.weightsOnReset s n).slices = s.slices ∧
    (State.weightsOnReset s n).sliceG = s.sliceG ∧
    (State.weightsOnReset s n).flash = s.flash ∧
    (State.weightsOnReset s n).tor = s.tor ∧
    (State.weightsOnReset s n).pending = s.pending := by
  unfold State.weightsOnReset; simp -implicitDefEqProofs

@[simp] theorem State.freeShared_keeps (s : State) (sh : ℕ) :
    (State.freeShared s sh).fixed = s.fixed ∧
    (State.freeShared s sh).ops = s.ops ∧
    (State.freeShared s sh).cad = s.cad ∧
    (State.freeShared s sh).fw = s.fw ∧
    (State.freeShared s sh).sec = s.sec ∧
    (State.freeShared s sh).pwr = s.pwr ∧
    (State.freeShared s sh).ras = s.ras ∧
    (State.freeShared s sh).mgt = s.mgt ∧
    (State.freeShared s sh).tiles = s.tiles ∧
    (State.freeShared s sh).sram = s.sram ∧
    (State.freeShared s sh).sramG = s.sramG ∧
    (State.freeShared s sh).flash = s.flash ∧
    (State.freeShared s sh).tor = s.tor ∧
    (State.freeShared s sh).pending = s.pending := by
  unfold State.freeShared; (try dsimp only); (repeat' split) <;> simp -implicitDefEqProofs (disch := (intros; (try dsimp only); (repeat' split) <;> (try simp -implicitDefEqProofs)))

@[simp] theorem State.markLost_keeps (s : State) (r : ℕ) :
    (State.markLost s r).fixed = s.fixed ∧
    (State.markLost s r).ops = s.ops ∧
    (State.markLost s r).cad = s.cad ∧
    (State.markLost s r).fw = s.fw ∧
    (State.markLost s r).sec = s.sec ∧
    (State.markLost s r).pwr = s.pwr ∧
    (State.markLost s r).ras = s.ras ∧
    (State.markLost s r).mgt = s.mgt ∧
    (State.markLost s r).tiles = s.tiles ∧
    (State.markLost s r).sram = s.sram ∧
    (State.markLost s r).sramG = s.sramG ∧
    (State.markLost s r).slices = s.slices ∧
    (State.markLost s r).sliceG = s.sliceG ∧
    (State.markLost s r).flash = s.flash ∧
    (State.markLost s r).tor = s.tor ∧
    (State.markLost s r).pending = s.pending := by
  unfold State.markLost; simp -implicitDefEqProofs

@[simp] theorem State.stopPorts_keeps (s : State) :
    (State.stopPorts s).fixed = s.fixed ∧
    (State.stopPorts s).ops = s.ops ∧
    (State.stopPorts s).cad = s.cad ∧
    (State.stopPorts s).fw = s.fw ∧
    (State.stopPorts s).sec = s.sec ∧
    (State.stopPorts s).pwr = s.pwr ∧
    (State.stopPorts s).ras = s.ras ∧
    (State.stopPorts s).mgt = s.mgt ∧
    (State.stopPorts s).tiles = s.tiles ∧
    (State.stopPorts s).sram = s.sram ∧
    (State.stopPorts s).sramG = s.sramG ∧
    (State.stopPorts s).slices = s.slices ∧
    (State.stopPorts s).sliceG = s.sliceG ∧
    (State.stopPorts s).flash = s.flash ∧
    (State.stopPorts s).tor = s.tor ∧
    (State.stopPorts s).pending = s.pending := by
  unfold State.stopPorts; simp -implicitDefEqProofs

@[simp] theorem State.freeMirror_keeps (s : State) (n : ℕ) :
    (State.freeMirror s n).fixed = s.fixed ∧
    (State.freeMirror s n).ops = s.ops ∧
    (State.freeMirror s n).cad = s.cad ∧
    (State.freeMirror s n).fw = s.fw ∧
    (State.freeMirror s n).sec = s.sec ∧
    (State.freeMirror s n).pwr = s.pwr ∧
    (State.freeMirror s n).ras = s.ras ∧
    (State.freeMirror s n).mgt = s.mgt ∧
    (State.freeMirror s n).tiles = s.tiles ∧
    (State.freeMirror s n).sram = s.sram ∧
    (State.freeMirror s n).sramG = s.sramG ∧
    (State.freeMirror s n).flash = s.flash ∧
    (State.freeMirror s n).tor = s.tor ∧
    (State.freeMirror s n).pending = s.pending := by
  unfold State.freeMirror; simp -implicitDefEqProofs

@[simp] theorem State.unbindFor_keeps (s : State) (n : ℕ) :
    (State.unbindFor s n).fixed = s.fixed ∧
    (State.unbindFor s n).ops = s.ops ∧
    (State.unbindFor s n).cad = s.cad ∧
    (State.unbindFor s n).fw = s.fw ∧
    (State.unbindFor s n).sec = s.sec ∧
    (State.unbindFor s n).pwr = s.pwr ∧
    (State.unbindFor s n).ras = s.ras ∧
    (State.unbindFor s n).mgt = s.mgt ∧
    (State.unbindFor s n).tiles = s.tiles ∧
    (State.unbindFor s n).sram = s.sram ∧
    (State.unbindFor s n).sramG = s.sramG ∧
    (State.unbindFor s n).flash = s.flash ∧
    (State.unbindFor s n).tor = s.tor ∧
    (State.unbindFor s n).pending = s.pending := by
  unfold State.unbindFor; (try dsimp only); (repeat' split) <;> simp -implicitDefEqProofs

@[simp] theorem State.setOwners_keeps (s : State) (l : List ℕ) (n : Option ℕ) :
    (State.setOwners s l n).fixed = s.fixed ∧
    (State.setOwners s l n).ops = s.ops ∧
    (State.setOwners s l n).cad = s.cad ∧
    (State.setOwners s l n).fw = s.fw ∧
    (State.setOwners s l n).sec = s.sec ∧
    (State.setOwners s l n).pwr = s.pwr ∧
    (State.setOwners s l n).ras = s.ras ∧
    (State.setOwners s l n).mgt = s.mgt ∧
    (State.setOwners s l n).tiles = s.tiles ∧
    (State.setOwners s l n).sram = s.sram ∧
    (State.setOwners s l n).sramG = s.sramG ∧
    (State.setOwners s l n).slices = s.slices ∧
    (State.setOwners s l n).sliceG = s.sliceG ∧
    (State.setOwners s l n).flash = s.flash ∧
    (State.setOwners s l n).tor = s.tor ∧
    (State.setOwners s l n).pending = s.pending := by
  unfold State.setOwners; simp -implicitDefEqProofs

@[simp] theorem State.zeroSync_keeps (s : State) (base : ℕ) (count : ℕ) :
    (State.zeroSync s base count).fixed = s.fixed ∧
    (State.zeroSync s base count).ops = s.ops ∧
    (State.zeroSync s base count).cad = s.cad ∧
    (State.zeroSync s base count).fw = s.fw ∧
    (State.zeroSync s base count).sec = s.sec ∧
    (State.zeroSync s base count).pwr = s.pwr ∧
    (State.zeroSync s base count).ras = s.ras ∧
    (State.zeroSync s base count).mgt = s.mgt ∧
    (State.zeroSync s base count).tiles = s.tiles ∧
    (State.zeroSync s base count).sram = s.sram ∧
    (State.zeroSync s base count).sramG = s.sramG ∧
    (State.zeroSync s base count).slices = s.slices ∧
    (State.zeroSync s base count).sliceG = s.sliceG ∧
    (State.zeroSync s base count).flash = s.flash ∧
    (State.zeroSync s base count).tor = s.tor ∧
    (State.zeroSync s base count).pending = s.pending := by
  unfold State.zeroSync; simp -implicitDefEqProofs

@[simp] theorem State.acceptResize_keeps (s : State) (n : ℕ) (m : Msg) :
    (State.acceptResize s n m).fixed = s.fixed ∧
    (State.acceptResize s n m).ops = s.ops ∧
    (State.acceptResize s n m).cad = s.cad ∧
    (State.acceptResize s n m).fw = s.fw ∧
    (State.acceptResize s n m).sec = s.sec ∧
    (State.acceptResize s n m).pwr = s.pwr ∧
    (State.acceptResize s n m).ras = s.ras ∧
    (State.acceptResize s n m).mgt = s.mgt ∧
    (State.acceptResize s n m).tiles = s.tiles ∧
    (State.acceptResize s n m).sram = s.sram ∧
    (State.acceptResize s n m).sramG = s.sramG ∧
    (State.acceptResize s n m).slices = s.slices ∧
    (State.acceptResize s n m).sliceG = s.sliceG ∧
    (State.acceptResize s n m).flash = s.flash ∧
    (State.acceptResize s n m).tor = s.tor ∧
    (State.acceptResize s n m).pending = s.pending := by
  unfold State.acceptResize; simp -implicitDefEqProofs

@[simp] theorem State.completeAll_keeps (s : State) (n : ℕ) :
    (State.completeAll s n).fixed = s.fixed ∧
    (State.completeAll s n).cad = s.cad ∧
    (State.completeAll s n).fw = s.fw ∧
    (State.completeAll s n).sec = s.sec ∧
    (State.completeAll s n).pwr = s.pwr ∧
    (State.completeAll s n).ras = s.ras ∧
    (State.completeAll s n).mgt = s.mgt ∧
    (State.completeAll s n).tiles = s.tiles ∧
    (State.completeAll s n).sram = s.sram ∧
    (State.completeAll s n).sramG = s.sramG ∧
    (State.completeAll s n).tor = s.tor ∧
    (State.completeAll s n).pending = s.pending := by
  unfold State.completeAll; (try dsimp only); (repeat' split) <;> simp -implicitDefEqProofs (disch := (intros; (try dsimp only); (repeat' split) <;> (try simp -implicitDefEqProofs)))

@[simp] theorem State.removeGrant_keeps (s : State) (sh : ℕ) (grantee : ℕ) (right : ℕ) :
    (State.removeGrant s sh grantee right).fixed = s.fixed ∧
    (State.removeGrant s sh grantee right).ops = s.ops ∧
    (State.removeGrant s sh grantee right).cad = s.cad ∧
    (State.removeGrant s sh grantee right).fw = s.fw ∧
    (State.removeGrant s sh grantee right).pwr = s.pwr ∧
    (State.removeGrant s sh grantee right).ras = s.ras ∧
    (State.removeGrant s sh grantee right).mgt = s.mgt ∧
    (State.removeGrant s sh grantee right).tiles = s.tiles ∧
    (State.removeGrant s sh grantee right).sram = s.sram ∧
    (State.removeGrant s sh grantee right).sramG = s.sramG ∧
    (State.removeGrant s sh grantee right).slices = s.slices ∧
    (State.removeGrant s sh grantee right).sliceG = s.sliceG ∧
    (State.removeGrant s sh grantee right).flash = s.flash ∧
    (State.removeGrant s sh grantee right).tor = s.tor ∧
    (State.removeGrant s sh grantee right).pending = s.pending := by
  unfold State.removeGrant; simp -implicitDefEqProofs

@[simp] theorem State.applyHeld_keeps (s : State) (n : ℕ) :
    (State.applyHeld s n).fixed = s.fixed ∧
    (State.applyHeld s n).ops = s.ops ∧
    (State.applyHeld s n).cad = s.cad ∧
    (State.applyHeld s n).fw = s.fw ∧
    (State.applyHeld s n).pwr = s.pwr ∧
    (State.applyHeld s n).ras = s.ras ∧
    (State.applyHeld s n).mgt = s.mgt ∧
    (State.applyHeld s n).tiles = s.tiles ∧
    (State.applyHeld s n).sram = s.sram ∧
    (State.applyHeld s n).sramG = s.sramG ∧
    (State.applyHeld s n).slices = s.slices ∧
    (State.applyHeld s n).sliceG = s.sliceG ∧
    (State.applyHeld s n).flash = s.flash ∧
    (State.applyHeld s n).tor = s.tor ∧
    (State.applyHeld s n).pending = s.pending := by
  unfold State.applyHeld; simp -implicitDefEqProofs

@[simp] theorem State.applyRevokes_keeps (s : State) (n : ℕ) :
    (State.applyRevokes s n).fixed = s.fixed ∧
    (State.applyRevokes s n).ops = s.ops ∧
    (State.applyRevokes s n).cad = s.cad ∧
    (State.applyRevokes s n).fw = s.fw ∧
    (State.applyRevokes s n).pwr = s.pwr ∧
    (State.applyRevokes s n).ras = s.ras ∧
    (State.applyRevokes s n).mgt = s.mgt ∧
    (State.applyRevokes s n).tiles = s.tiles ∧
    (State.applyRevokes s n).sram = s.sram ∧
    (State.applyRevokes s n).sramG = s.sramG ∧
    (State.applyRevokes s n).slices = s.slices ∧
    (State.applyRevokes s n).sliceG = s.sliceG ∧
    (State.applyRevokes s n).flash = s.flash ∧
    (State.applyRevokes s n).tor = s.tor ∧
    (State.applyRevokes s n).pending = s.pending := by
  unfold State.applyRevokes; simp -implicitDefEqProofs

@[simp] theorem State.finishReset_keeps (s : State) (n : ℕ) :
    (State.finishReset s n).fixed = s.fixed ∧
    (State.finishReset s n).ops = s.ops ∧
    (State.finishReset s n).cad = s.cad ∧
    (State.finishReset s n).fw = s.fw ∧
    (State.finishReset s n).pwr = s.pwr ∧
    (State.finishReset s n).ras = s.ras ∧
    (State.finishReset s n).mgt = s.mgt ∧
    (State.finishReset s n).tiles = s.tiles ∧
    (State.finishReset s n).sram = s.sram ∧
    (State.finishReset s n).sramG = s.sramG ∧
    (State.finishReset s n).slices = s.slices ∧
    (State.finishReset s n).sliceG = s.sliceG ∧
    (State.finishReset s n).flash = s.flash ∧
    (State.finishReset s n).tor = s.tor ∧
    (State.finishReset s n).pending = s.pending := by
  unfold State.finishReset; (try dsimp only); (repeat' split) <;> simp -implicitDefEqProofs

@[simp] theorem State.setBudget_keeps (s : State) :
    (State.setBudget s).fixed = s.fixed ∧
    (State.setBudget s).ops = s.ops ∧
    (State.setBudget s).cad = s.cad ∧
    (State.setBudget s).fw = s.fw ∧
    (State.setBudget s).sec = s.sec ∧
    (State.setBudget s).ras = s.ras ∧
    (State.setBudget s).mgt = s.mgt ∧
    (State.setBudget s).tiles = s.tiles ∧
    (State.setBudget s).sram = s.sram ∧
    (State.setBudget s).sramG = s.sramG ∧
    (State.setBudget s).slices = s.slices ∧
    (State.setBudget s).sliceG = s.sliceG ∧
    (State.setBudget s).flash = s.flash ∧
    (State.setBudget s).tor = s.tor ∧
    (State.setBudget s).pending = s.pending := by
  unfold State.setBudget; simp -implicitDefEqProofs

@[simp] theorem State.writeHostW_keeps (s : State) (w : ℕ) :
    (State.writeHostW s w).fixed = s.fixed ∧
    (State.writeHostW s w).ops = s.ops ∧
    (State.writeHostW s w).cad = s.cad ∧
    (State.writeHostW s w).fw = s.fw ∧
    (State.writeHostW s w).sec = s.sec ∧
    (State.writeHostW s w).ras = s.ras ∧
    (State.writeHostW s w).mgt = s.mgt ∧
    (State.writeHostW s w).tiles = s.tiles ∧
    (State.writeHostW s w).sram = s.sram ∧
    (State.writeHostW s w).sramG = s.sramG ∧
    (State.writeHostW s w).slices = s.slices ∧
    (State.writeHostW s w).sliceG = s.sliceG ∧
    (State.writeHostW s w).flash = s.flash ∧
    (State.writeHostW s w).tor = s.tor ∧
    (State.writeHostW s w).pending = s.pending := by
  unfold State.writeHostW; simp -implicitDefEqProofs

@[simp] theorem State.effectivePeak_keeps (s : State) :
    (State.effectivePeak s).fixed = s.fixed ∧
    (State.effectivePeak s).ops = s.ops ∧
    (State.effectivePeak s).cad = s.cad ∧
    (State.effectivePeak s).fw = s.fw ∧
    (State.effectivePeak s).sec = s.sec ∧
    (State.effectivePeak s).ras = s.ras ∧
    (State.effectivePeak s).tiles = s.tiles ∧
    (State.effectivePeak s).sram = s.sram ∧
    (State.effectivePeak s).sramG = s.sramG ∧
    (State.effectivePeak s).slices = s.slices ∧
    (State.effectivePeak s).sliceG = s.sliceG ∧
    (State.effectivePeak s).flash = s.flash ∧
    (State.effectivePeak s).tor = s.tor ∧
    (State.effectivePeak s).pending = s.pending := by
  unfold State.effectivePeak; simp -implicitDefEqProofs

@[simp] theorem State.setTarget_keeps (s : State) (i : ℕ) (capMw : ℕ) :
    (State.setTarget s i capMw).fixed = s.fixed ∧
    (State.setTarget s i capMw).ops = s.ops ∧
    (State.setTarget s i capMw).cad = s.cad ∧
    (State.setTarget s i capMw).fw = s.fw ∧
    (State.setTarget s i capMw).sec = s.sec ∧
    (State.setTarget s i capMw).pwr = s.pwr ∧
    (State.setTarget s i capMw).ras = s.ras ∧
    (State.setTarget s i capMw).mgt = s.mgt ∧
    (State.setTarget s i capMw).tiles = s.tiles ∧
    (State.setTarget s i capMw).sram = s.sram ∧
    (State.setTarget s i capMw).sramG = s.sramG ∧
    (State.setTarget s i capMw).slices = s.slices ∧
    (State.setTarget s i capMw).sliceG = s.sliceG ∧
    (State.setTarget s i capMw).flash = s.flash ∧
    (State.setTarget s i capMw).tor = s.tor ∧
    (State.setTarget s i capMw).pending = s.pending := by
  unfold State.setTarget; simp -implicitDefEqProofs

@[simp] theorem State.applyDivision_keeps (s : State) :
    (State.applyDivision s).fixed = s.fixed ∧
    (State.applyDivision s).ops = s.ops ∧
    (State.applyDivision s).cad = s.cad ∧
    (State.applyDivision s).fw = s.fw ∧
    (State.applyDivision s).sec = s.sec ∧
    (State.applyDivision s).ras = s.ras ∧
    (State.applyDivision s).mgt = s.mgt ∧
    (State.applyDivision s).tiles = s.tiles ∧
    (State.applyDivision s).sram = s.sram ∧
    (State.applyDivision s).sramG = s.sramG ∧
    (State.applyDivision s).slices = s.slices ∧
    (State.applyDivision s).sliceG = s.sliceG ∧
    (State.applyDivision s).flash = s.flash ∧
    (State.applyDivision s).tor = s.tor ∧
    (State.applyDivision s).pending = s.pending := by
  unfold State.applyDivision; simp -implicitDefEqProofs

@[simp] theorem State.bondCheck_keeps (s : State) (r : ℕ) (sensor : ℕ) (sram : Bool) (excess : ℤ) :
    (State.bondCheck s r sensor sram excess).fixed = s.fixed ∧
    (State.bondCheck s r sensor sram excess).ops = s.ops ∧
    (State.bondCheck s r sensor sram excess).cad = s.cad ∧
    (State.bondCheck s r sensor sram excess).fw = s.fw ∧
    (State.bondCheck s r sensor sram excess).sec = s.sec ∧
    (State.bondCheck s r sensor sram excess).pwr = s.pwr ∧
    (State.bondCheck s r sensor sram excess).ras = s.ras ∧
    (State.bondCheck s r sensor sram excess).mgt = s.mgt ∧
    (State.bondCheck s r sensor sram excess).tiles = s.tiles ∧
    (State.bondCheck s r sensor sram excess).sram = s.sram ∧
    (State.bondCheck s r sensor sram excess).sramG = s.sramG ∧
    (State.bondCheck s r sensor sram excess).slices = s.slices ∧
    (State.bondCheck s r sensor sram excess).sliceG = s.sliceG ∧
    (State.bondCheck s r sensor sram excess).flash = s.flash ∧
    (State.bondCheck s r sensor sram excess).tor = s.tor ∧
    (State.bondCheck s r sensor sram excess).pending = s.pending := by
  unfold State.bondCheck; simp -implicitDefEqProofs

@[simp] theorem State.gapStep_keeps (s : State) (r : ℕ) :
    (State.gapStep s r).fixed = s.fixed ∧
    (State.gapStep s r).ops = s.ops ∧
    (State.gapStep s r).cad = s.cad ∧
    (State.gapStep s r).fw = s.fw ∧
    (State.gapStep s r).sec = s.sec ∧
    (State.gapStep s r).pwr = s.pwr ∧
    (State.gapStep s r).ras = s.ras ∧
    (State.gapStep s r).mgt = s.mgt ∧
    (State.gapStep s r).tiles = s.tiles ∧
    (State.gapStep s r).sram = s.sram ∧
    (State.gapStep s r).sramG = s.sramG ∧
    (State.gapStep s r).slices = s.slices ∧
    (State.gapStep s r).sliceG = s.sliceG ∧
    (State.gapStep s r).flash = s.flash ∧
    (State.gapStep s r).tor = s.tor ∧
    (State.gapStep s r).pending = s.pending := by
  unfold State.gapStep; simp -implicitDefEqProofs

@[simp] theorem State.countThrottle_keeps (s : State) :
    (State.countThrottle s).fixed = s.fixed ∧
    (State.countThrottle s).ops = s.ops ∧
    (State.countThrottle s).cad = s.cad ∧
    (State.countThrottle s).fw = s.fw ∧
    (State.countThrottle s).sec = s.sec ∧
    (State.countThrottle s).pwr = s.pwr ∧
    (State.countThrottle s).ras = s.ras ∧
    (State.countThrottle s).mgt = s.mgt ∧
    (State.countThrottle s).tiles = s.tiles ∧
    (State.countThrottle s).sram = s.sram ∧
    (State.countThrottle s).sramG = s.sramG ∧
    (State.countThrottle s).slices = s.slices ∧
    (State.countThrottle s).sliceG = s.sliceG ∧
    (State.countThrottle s).flash = s.flash ∧
    (State.countThrottle s).tor = s.tor ∧
    (State.countThrottle s).pending = s.pending := by
  unfold State.countThrottle; simp -implicitDefEqProofs

@[simp] theorem State.applyPeriods_keeps (s : State) :
    (State.applyPeriods s).fixed = s.fixed ∧
    (State.applyPeriods s).ops = s.ops ∧
    (State.applyPeriods s).cad = s.cad ∧
    (State.applyPeriods s).fw = s.fw ∧
    (State.applyPeriods s).sec = s.sec ∧
    (State.applyPeriods s).pwr = s.pwr ∧
    (State.applyPeriods s).ras = s.ras ∧
    (State.applyPeriods s).mgt = s.mgt ∧
    (State.applyPeriods s).tiles = s.tiles ∧
    (State.applyPeriods s).sram = s.sram ∧
    (State.applyPeriods s).sramG = s.sramG ∧
    (State.applyPeriods s).slices = s.slices ∧
    (State.applyPeriods s).sliceG = s.sliceG ∧
    (State.applyPeriods s).flash = s.flash ∧
    (State.applyPeriods s).tor = s.tor ∧
    (State.applyPeriods s).pending = s.pending := by
  unfold State.applyPeriods; simp -implicitDefEqProofs

@[simp] theorem State.fence_keeps (s : State) (i : ℕ) (cause : ℕ) (collapse : Bool) :
    (State.fence s i cause collapse).fixed = s.fixed ∧
    (State.fence s i cause collapse).cad = s.cad ∧
    (State.fence s i cause collapse).sec = s.sec ∧
    (State.fence s i cause collapse).pwr = s.pwr ∧
    (State.fence s i cause collapse).ras = s.ras ∧
    (State.fence s i cause collapse).mgt = s.mgt ∧
    (State.fence s i cause collapse).flash = s.flash ∧
    (State.fence s i cause collapse).pending = s.pending := by
  unfold State.fence; (try dsimp only); (repeat' split) <;> simp -implicitDefEqProofs

@[simp] theorem State.faultFence_keeps (s : State) (i : ℕ) (collapse : Bool) :
    (State.faultFence s i collapse).fixed = s.fixed ∧
    (State.faultFence s i collapse).cad = s.cad ∧
    (State.faultFence s i collapse).sec = s.sec ∧
    (State.faultFence s i collapse).pwr = s.pwr ∧
    (State.faultFence s i collapse).mgt = s.mgt ∧
    (State.faultFence s i collapse).flash = s.flash ∧
    (State.faultFence s i collapse).pending = s.pending := by
  unfold State.faultFence; simp -implicitDefEqProofs

@[simp] theorem State.railFault_keeps (s : State) (r : ℕ) (rail : ℕ) (upStep : ℕ) :
    (State.railFault s r rail upStep).fixed = s.fixed ∧
    (State.railFault s r rail upStep).cad = s.cad ∧
    (State.railFault s r rail upStep).sec = s.sec ∧
    (State.railFault s r rail upStep).pwr = s.pwr ∧
    (State.railFault s r rail upStep).flash = s.flash ∧
    (State.railFault s r rail upStep).pending = s.pending := by
  unfold State.railFault; split <;> simp -implicitDefEqProofs

@[simp] theorem State.hottest_keeps (s : State) :
    (State.hottest s).fixed = s.fixed ∧
    (State.hottest s).ops = s.ops ∧
    (State.hottest s).cad = s.cad ∧
    (State.hottest s).fw = s.fw ∧
    (State.hottest s).sec = s.sec ∧
    (State.hottest s).ras = s.ras ∧
    (State.hottest s).mgt = s.mgt ∧
    (State.hottest s).tiles = s.tiles ∧
    (State.hottest s).sram = s.sram ∧
    (State.hottest s).sramG = s.sramG ∧
    (State.hottest s).slices = s.slices ∧
    (State.hottest s).sliceG = s.sliceG ∧
    (State.hottest s).flash = s.flash ∧
    (State.hottest s).tor = s.tor ∧
    (State.hottest s).pending = s.pending := by
  unfold State.hottest; simp -implicitDefEqProofs

@[simp] theorem State.postCoolant_keeps (s : State) (loss : Bool) :
    (State.postCoolant s loss).fixed = s.fixed ∧
    (State.postCoolant s loss).ops = s.ops ∧
    (State.postCoolant s loss).cad = s.cad ∧
    (State.postCoolant s loss).fw = s.fw ∧
    (State.postCoolant s loss).sec = s.sec ∧
    (State.postCoolant s loss).pwr = s.pwr ∧
    (State.postCoolant s loss).ras = s.ras ∧
    (State.postCoolant s loss).mgt = s.mgt ∧
    (State.postCoolant s loss).tiles = s.tiles ∧
    (State.postCoolant s loss).sram = s.sram ∧
    (State.postCoolant s loss).sramG = s.sramG ∧
    (State.postCoolant s loss).slices = s.slices ∧
    (State.postCoolant s loss).sliceG = s.sliceG ∧
    (State.postCoolant s loss).flash = s.flash ∧
    (State.postCoolant s loss).tor = s.tor ∧
    (State.postCoolant s loss).pending = s.pending := by
  unfold State.postCoolant; simp -implicitDefEqProofs

@[simp] theorem State.writeCeiling_keeps (s : State) (r : ℕ) (v : BitVec 3) :
    (State.writeCeiling s r v).fixed = s.fixed ∧
    (State.writeCeiling s r v).ops = s.ops ∧
    (State.writeCeiling s r v).cad = s.cad ∧
    (State.writeCeiling s r v).fw = s.fw ∧
    (State.writeCeiling s r v).sec = s.sec ∧
    (State.writeCeiling s r v).pwr = s.pwr ∧
    (State.writeCeiling s r v).ras = s.ras ∧
    (State.writeCeiling s r v).mgt = s.mgt ∧
    (State.writeCeiling s r v).tiles = s.tiles ∧
    (State.writeCeiling s r v).sram = s.sram ∧
    (State.writeCeiling s r v).sramG = s.sramG ∧
    (State.writeCeiling s r v).slices = s.slices ∧
    (State.writeCeiling s r v).sliceG = s.sliceG ∧
    (State.writeCeiling s r v).flash = s.flash ∧
    (State.writeCeiling s r v).tor = s.tor ∧
    (State.writeCeiling s r v).pending = s.pending := by
  unfold State.writeCeiling; simp -implicitDefEqProofs

@[simp] theorem State.clearSuspect_keeps (s : State) (r : ℕ) (bits : Sys2Proof.W16) :
    (State.clearSuspect s r bits).fixed = s.fixed ∧
    (State.clearSuspect s r bits).ops = s.ops ∧
    (State.clearSuspect s r bits).cad = s.cad ∧
    (State.clearSuspect s r bits).fw = s.fw ∧
    (State.clearSuspect s r bits).sec = s.sec ∧
    (State.clearSuspect s r bits).pwr = s.pwr ∧
    (State.clearSuspect s r bits).ras = s.ras ∧
    (State.clearSuspect s r bits).mgt = s.mgt ∧
    (State.clearSuspect s r bits).tiles = s.tiles ∧
    (State.clearSuspect s r bits).sram = s.sram ∧
    (State.clearSuspect s r bits).sramG = s.sramG ∧
    (State.clearSuspect s r bits).slices = s.slices ∧
    (State.clearSuspect s r bits).sliceG = s.sliceG ∧
    (State.clearSuspect s r bits).flash = s.flash ∧
    (State.clearSuspect s r bits).tor = s.tor ∧
    (State.clearSuspect s r bits).pending = s.pending := by
  unfold State.clearSuspect; simp -implicitDefEqProofs

@[simp] theorem State.updRB_keeps (s : State) (r : ℕ) (f : RegionBringup → RegionBringup) :
    (State.updRB s r f).fixed = s.fixed ∧
    (State.updRB s r f).ops = s.ops ∧
    (State.updRB s r f).cad = s.cad ∧
    (State.updRB s r f).fw = s.fw ∧
    (State.updRB s r f).sec = s.sec ∧
    (State.updRB s r f).pwr = s.pwr ∧
    (State.updRB s r f).ras = s.ras ∧
    (State.updRB s r f).mgt = s.mgt ∧
    (State.updRB s r f).tiles = s.tiles ∧
    (State.updRB s r f).sram = s.sram ∧
    (State.updRB s r f).sramG = s.sramG ∧
    (State.updRB s r f).slices = s.slices ∧
    (State.updRB s r f).sliceG = s.sliceG ∧
    (State.updRB s r f).flash = s.flash ∧
    (State.updRB s r f).tor = s.tor ∧
    (State.updRB s r f).pending = s.pending := by
  unfold State.updRB; simp -implicitDefEqProofs

@[simp] theorem State.restartReply_keeps (s : State) (r : ℕ) :
    (State.restartReply s r).fixed = s.fixed ∧
    (State.restartReply s r).ops = s.ops ∧
    (State.restartReply s r).cad = s.cad ∧
    (State.restartReply s r).fw = s.fw ∧
    (State.restartReply s r).sec = s.sec ∧
    (State.restartReply s r).pwr = s.pwr ∧
    (State.restartReply s r).ras = s.ras ∧
    (State.restartReply s r).mgt = s.mgt ∧
    (State.restartReply s r).tiles = s.tiles ∧
    (State.restartReply s r).sram = s.sram ∧
    (State.restartReply s r).sramG = s.sramG ∧
    (State.restartReply s r).slices = s.slices ∧
    (State.restartReply s r).sliceG = s.sliceG ∧
    (State.restartReply s r).flash = s.flash ∧
    (State.restartReply s r).tor = s.tor ∧
    (State.restartReply s r).pending = s.pending := by
  unfold State.restartReply; split <;> simp -implicitDefEqProofs

@[simp] theorem State.bringupFence_keeps (s : State) (r : ℕ) (cause : ℕ) :
    (State.bringupFence s r cause).fixed = s.fixed ∧
    (State.bringupFence s r cause).cad = s.cad ∧
    (State.bringupFence s r cause).sec = s.sec ∧
    (State.bringupFence s r cause).pwr = s.pwr ∧
    (State.bringupFence s r cause).ras = s.ras ∧
    (State.bringupFence s r cause).mgt = s.mgt ∧
    (State.bringupFence s r cause).flash = s.flash ∧
    (State.bringupFence s r cause).pending = s.pending := by
  unfold State.bringupFence; simp -implicitDefEqProofs

@[simp] theorem State.beginRegion_keeps (s : State) (r : ℕ) (ms : ℕ) :
    (State.beginRegion s r ms).fixed = s.fixed ∧
    (State.beginRegion s r ms).ops = s.ops ∧
    (State.beginRegion s r ms).cad = s.cad ∧
    (State.beginRegion s r ms).fw = s.fw ∧
    (State.beginRegion s r ms).sec = s.sec ∧
    (State.beginRegion s r ms).pwr = s.pwr ∧
    (State.beginRegion s r ms).ras = s.ras ∧
    (State.beginRegion s r ms).mgt = s.mgt ∧
    (State.beginRegion s r ms).tiles = s.tiles ∧
    (State.beginRegion s r ms).sram = s.sram ∧
    (State.beginRegion s r ms).sramG = s.sramG ∧
    (State.beginRegion s r ms).slices = s.slices ∧
    (State.beginRegion s r ms).sliceG = s.sliceG ∧
    (State.beginRegion s r ms).flash = s.flash ∧
    (State.beginRegion s r ms).tor = s.tor ∧
    (State.beginRegion s r ms).pending = s.pending := by
  unfold State.beginRegion; simp -implicitDefEqProofs

@[simp] theorem State.seekParent_keeps (s : State) (r : ℕ) :
    (State.seekParent s r).fixed = s.fixed ∧
    (State.seekParent s r).cad = s.cad ∧
    (State.seekParent s r).sec = s.sec ∧
    (State.seekParent s r).pwr = s.pwr ∧
    (State.seekParent s r).ras = s.ras ∧
    (State.seekParent s r).mgt = s.mgt ∧
    (State.seekParent s r).flash = s.flash ∧
    (State.seekParent s r).pending = s.pending := by
  unfold State.seekParent; split <;> simp -implicitDefEqProofs

@[simp] theorem State.serveWaiting_keeps (s : State) :
    (State.serveWaiting s).fixed = s.fixed ∧
    (State.serveWaiting s).cad = s.cad ∧
    (State.serveWaiting s).sec = s.sec ∧
    (State.serveWaiting s).pwr = s.pwr ∧
    (State.serveWaiting s).ras = s.ras ∧
    (State.serveWaiting s).mgt = s.mgt ∧
    (State.serveWaiting s).flash = s.flash ∧
    (State.serveWaiting s).pending = s.pending := by
  unfold State.serveWaiting; simp -implicitDefEqProofs

@[simp] theorem State.advanceFront_keeps (s : State) (ms : ℕ) :
    (State.advanceFront s ms).fixed = s.fixed ∧
    (State.advanceFront s ms).cad = s.cad ∧
    (State.advanceFront s ms).sec = s.sec ∧
    (State.advanceFront s ms).pwr = s.pwr ∧
    (State.advanceFront s ms).ras = s.ras ∧
    (State.advanceFront s ms).mgt = s.mgt ∧
    (State.advanceFront s ms).flash = s.flash ∧
    (State.advanceFront s ms).pending = s.pending := by
  unfold State.advanceFront; simp -implicitDefEqProofs

@[simp] theorem State.applyRelocation_keeps (s : State) (p : ℕ) (q : ℕ) :
    (State.applyRelocation s p q).fixed = s.fixed ∧
    (State.applyRelocation s p q).ops = s.ops ∧
    (State.applyRelocation s p q).cad = s.cad ∧
    (State.applyRelocation s p q).fw = s.fw ∧
    (State.applyRelocation s p q).sec = s.sec ∧
    (State.applyRelocation s p q).pwr = s.pwr ∧
    (State.applyRelocation s p q).ras = s.ras ∧
    (State.applyRelocation s p q).mgt = s.mgt ∧
    (State.applyRelocation s p q).tiles = s.tiles ∧
    (State.applyRelocation s p q).sram = s.sram ∧
    (State.applyRelocation s p q).sramG = s.sramG ∧
    (State.applyRelocation s p q).slices = s.slices ∧
    (State.applyRelocation s p q).sliceG = s.sliceG ∧
    (State.applyRelocation s p q).flash = s.flash ∧
    (State.applyRelocation s p q).tor = s.tor ∧
    (State.applyRelocation s p q).pending = s.pending := by
  unfold State.applyRelocation; split <;> simp -implicitDefEqProofs

@[simp] theorem State.startPort_keeps (s : State) (p : ℕ) :
    (State.startPort s p).fixed = s.fixed ∧
    (State.startPort s p).cad = s.cad ∧
    (State.startPort s p).fw = s.fw ∧
    (State.startPort s p).sec = s.sec ∧
    (State.startPort s p).pwr = s.pwr ∧
    (State.startPort s p).ras = s.ras ∧
    (State.startPort s p).mgt = s.mgt ∧
    (State.startPort s p).tiles = s.tiles ∧
    (State.startPort s p).flash = s.flash ∧
    (State.startPort s p).pending = s.pending := by
  unfold State.startPort; (try dsimp only); (repeat' split) <;> simp -implicitDefEqProofs

@[simp] theorem State.startPorts_keeps (s : State) :
    (State.startPorts s).fixed = s.fixed ∧
    (State.startPorts s).cad = s.cad ∧
    (State.startPorts s).fw = s.fw ∧
    (State.startPorts s).sec = s.sec ∧
    (State.startPorts s).pwr = s.pwr ∧
    (State.startPorts s).ras = s.ras ∧
    (State.startPorts s).mgt = s.mgt ∧
    (State.startPorts s).tiles = s.tiles ∧
    (State.startPorts s).flash = s.flash ∧
    (State.startPorts s).pending = s.pending := by
  unfold State.startPorts; simp -implicitDefEqProofs

@[simp] theorem State.rampDone_keeps (s : State) (r : ℕ) :
    (State.rampDone s r).fixed = s.fixed ∧
    (State.rampDone s r).ops = s.ops ∧
    (State.rampDone s r).cad = s.cad ∧
    (State.rampDone s r).fw = s.fw ∧
    (State.rampDone s r).sec = s.sec ∧
    (State.rampDone s r).pwr = s.pwr ∧
    (State.rampDone s r).ras = s.ras ∧
    (State.rampDone s r).mgt = s.mgt ∧
    (State.rampDone s r).tiles = s.tiles ∧
    (State.rampDone s r).sram = s.sram ∧
    (State.rampDone s r).sramG = s.sramG ∧
    (State.rampDone s r).slices = s.slices ∧
    (State.rampDone s r).sliceG = s.sliceG ∧
    (State.rampDone s r).flash = s.flash ∧
    (State.rampDone s r).tor = s.tor ∧
    (State.rampDone s r).pending = s.pending := by
  unfold State.rampDone; simp -implicitDefEqProofs

@[simp] theorem State.meshDone_keeps (s : State) (r : ℕ) :
    (State.meshDone s r).fixed = s.fixed ∧
    (State.meshDone s r).ops = s.ops ∧
    (State.meshDone s r).cad = s.cad ∧
    (State.meshDone s r).fw = s.fw ∧
    (State.meshDone s r).sec = s.sec ∧
    (State.meshDone s r).pwr = s.pwr ∧
    (State.meshDone s r).ras = s.ras ∧
    (State.meshDone s r).mgt = s.mgt ∧
    (State.meshDone s r).tiles = s.tiles ∧
    (State.meshDone s r).sram = s.sram ∧
    (State.meshDone s r).sramG = s.sramG ∧
    (State.meshDone s r).slices = s.slices ∧
    (State.meshDone s r).sliceG = s.sliceG ∧
    (State.meshDone s r).flash = s.flash ∧
    (State.meshDone s r).tor = s.tor ∧
    (State.meshDone s r).pending = s.pending := by
  unfold State.meshDone; (try dsimp only); (repeat' split) <;> simp -implicitDefEqProofs (disch := (intros; (try dsimp only); (repeat' split) <;> (try simp -implicitDefEqProofs)))

@[simp] theorem State.takeRecord_keeps (s : State) (r : ℕ) (x : Option (Sys2Proof.W128 × ℕ)) :
    (State.takeRecord s r x).fixed = s.fixed ∧
    (State.takeRecord s r x).ops = s.ops ∧
    (State.takeRecord s r x).cad = s.cad ∧
    (State.takeRecord s r x).fw = s.fw ∧
    (State.takeRecord s r x).sec = s.sec ∧
    (State.takeRecord s r x).pwr = s.pwr ∧
    (State.takeRecord s r x).ras = s.ras ∧
    (State.takeRecord s r x).mgt = s.mgt ∧
    (State.takeRecord s r x).tiles = s.tiles ∧
    (State.takeRecord s r x).sram = s.sram ∧
    (State.takeRecord s r x).sramG = s.sramG ∧
    (State.takeRecord s r x).slices = s.slices ∧
    (State.takeRecord s r x).sliceG = s.sliceG ∧
    (State.takeRecord s r x).flash = s.flash ∧
    (State.takeRecord s r x).tor = s.tor ∧
    (State.takeRecord s r x).pending = s.pending := by
  unfold State.takeRecord; split <;> simp -implicitDefEqProofs

@[simp] theorem State.repairDone_keeps (s : State) (r : ℕ) :
    (State.repairDone s r).fixed = s.fixed ∧
    (State.repairDone s r).cad = s.cad ∧
    (State.repairDone s r).sec = s.sec ∧
    (State.repairDone s r).pwr = s.pwr ∧
    (State.repairDone s r).ras = s.ras ∧
    (State.repairDone s r).mgt = s.mgt ∧
    (State.repairDone s r).flash = s.flash ∧
    (State.repairDone s r).pending = s.pending := by
  unfold State.repairDone; simp -implicitDefEqProofs

@[simp] theorem State.trainDone_keeps (s : State) (r : ℕ) (d : List (ℕ × ℕ)) :
    (State.trainDone s r d).fixed = s.fixed ∧
    (State.trainDone s r d).cad = s.cad ∧
    (State.trainDone s r d).sec = s.sec ∧
    (State.trainDone s r d).pwr = s.pwr ∧
    (State.trainDone s r d).ras = s.ras ∧
    (State.trainDone s r d).mgt = s.mgt ∧
    (State.trainDone s r d).flash = s.flash ∧
    (State.trainDone s r d).pending = s.pending := by
  unfold State.trainDone; (try dsimp only); (repeat' split) <;> simp -implicitDefEqProofs

@[simp] theorem State.regionReady_keeps (s : State) (r : ℕ) (ms : ℕ) (wellOk : Bool) :
    (State.regionReady s r ms wellOk).fixed = s.fixed ∧
    (State.regionReady s r ms wellOk).ops = s.ops ∧
    (State.regionReady s r ms wellOk).cad = s.cad ∧
    (State.regionReady s r ms wellOk).fw = s.fw ∧
    (State.regionReady s r ms wellOk).sec = s.sec ∧
    (State.regionReady s r ms wellOk).pwr = s.pwr ∧
    (State.regionReady s r ms wellOk).ras = s.ras ∧
    (State.regionReady s r ms wellOk).mgt = s.mgt ∧
    (State.regionReady s r ms wellOk).tiles = s.tiles ∧
    (State.regionReady s r ms wellOk).sram = s.sram ∧
    (State.regionReady s r ms wellOk).sramG = s.sramG ∧
    (State.regionReady s r ms wellOk).slices = s.slices ∧
    (State.regionReady s r ms wellOk).sliceG = s.sliceG ∧
    (State.regionReady s r ms wellOk).flash = s.flash ∧
    (State.regionReady s r ms wellOk).tor = s.tor ∧
    (State.regionReady s r ms wellOk).pending = s.pending := by
  unfold State.regionReady; simp -implicitDefEqProofs

@[simp] theorem State.startFront_keeps (s : State) (ms : ℕ) :
    (State.startFront s ms).fixed = s.fixed ∧
    (State.startFront s ms).ops = s.ops ∧
    (State.startFront s ms).cad = s.cad ∧
    (State.startFront s ms).fw = s.fw ∧
    (State.startFront s ms).sec = s.sec ∧
    (State.startFront s ms).pwr = s.pwr ∧
    (State.startFront s ms).ras = s.ras ∧
    (State.startFront s ms).mgt = s.mgt ∧
    (State.startFront s ms).tiles = s.tiles ∧
    (State.startFront s ms).sram = s.sram ∧
    (State.startFront s ms).sramG = s.sramG ∧
    (State.startFront s ms).slices = s.slices ∧
    (State.startFront s ms).sliceG = s.sliceG ∧
    (State.startFront s ms).flash = s.flash ∧
    (State.startFront s ms).tor = s.tor ∧
    (State.startFront s ms).pending = s.pending := by
  unfold State.startFront; simp -implicitDefEqProofs

@[simp] theorem State.imageFailed_keeps (s : State) (code : ℕ) :
    (State.imageFailed s code).fixed = s.fixed ∧
    (State.imageFailed s code).ops = s.ops ∧
    (State.imageFailed s code).cad = s.cad ∧
    (State.imageFailed s code).fw = s.fw ∧
    (State.imageFailed s code).pwr = s.pwr ∧
    (State.imageFailed s code).ras = s.ras ∧
    (State.imageFailed s code).tiles = s.tiles ∧
    (State.imageFailed s code).sram = s.sram ∧
    (State.imageFailed s code).sramG = s.sramG ∧
    (State.imageFailed s code).slices = s.slices ∧
    (State.imageFailed s code).sliceG = s.sliceG ∧
    (State.imageFailed s code).flash = s.flash ∧
    (State.imageFailed s code).tor = s.tor ∧
    (State.imageFailed s code).pending = s.pending := by
  unfold State.imageFailed; simp -implicitDefEqProofs

@[simp] theorem State.imageStarts_keeps (s : State) (kind : ℕ) (slot : Bool) (img : Image) (ms : ℕ) :
    (State.imageStarts s kind slot img ms).fixed = s.fixed ∧
    (State.imageStarts s kind slot img ms).ops = s.ops ∧
    (State.imageStarts s kind slot img ms).cad = s.cad ∧
    (State.imageStarts s kind slot img ms).pwr = s.pwr ∧
    (State.imageStarts s kind slot img ms).ras = s.ras ∧
    (State.imageStarts s kind slot img ms).mgt = s.mgt ∧
    (State.imageStarts s kind slot img ms).tiles = s.tiles ∧
    (State.imageStarts s kind slot img ms).sram = s.sram ∧
    (State.imageStarts s kind slot img ms).sramG = s.sramG ∧
    (State.imageStarts s kind slot img ms).slices = s.slices ∧
    (State.imageStarts s kind slot img ms).sliceG = s.sliceG ∧
    (State.imageStarts s kind slot img ms).flash = s.flash ∧
    (State.imageStarts s kind slot img ms).tor = s.tor ∧
    (State.imageStarts s kind slot img ms).pending = s.pending := by
  unfold State.imageStarts; split <;> simp -implicitDefEqProofs

@[simp] theorem State.moveFwRegion_keeps (s : State) :
    (State.moveFwRegion s).fixed = s.fixed ∧
    (State.moveFwRegion s).ops = s.ops ∧
    (State.moveFwRegion s).cad = s.cad ∧
    (State.moveFwRegion s).sec = s.sec ∧
    (State.moveFwRegion s).pwr = s.pwr ∧
    (State.moveFwRegion s).ras = s.ras ∧
    (State.moveFwRegion s).mgt = s.mgt ∧
    (State.moveFwRegion s).tiles = s.tiles ∧
    (State.moveFwRegion s).sram = s.sram ∧
    (State.moveFwRegion s).sramG = s.sramG ∧
    (State.moveFwRegion s).slices = s.slices ∧
    (State.moveFwRegion s).sliceG = s.sliceG ∧
    (State.moveFwRegion s).flash = s.flash ∧
    (State.moveFwRegion s).tor = s.tor ∧
    (State.moveFwRegion s).pending = s.pending := by
  unfold State.moveFwRegion; split <;> simp -implicitDefEqProofs

@[simp] theorem State.fabricIsReady_keeps (s : State) (ms : ℕ) :
    (State.fabricIsReady s ms).fixed = s.fixed ∧
    (State.fabricIsReady s ms).ops = s.ops ∧
    (State.fabricIsReady s ms).sec = s.sec ∧
    (State.fabricIsReady s ms).pwr = s.pwr ∧
    (State.fabricIsReady s ms).ras = s.ras ∧
    (State.fabricIsReady s ms).mgt = s.mgt ∧
    (State.fabricIsReady s ms).tiles = s.tiles ∧
    (State.fabricIsReady s ms).sram = s.sram ∧
    (State.fabricIsReady s ms).sramG = s.sramG ∧
    (State.fabricIsReady s ms).slices = s.slices ∧
    (State.fabricIsReady s ms).sliceG = s.sliceG ∧
    (State.fabricIsReady s ms).flash = s.flash ∧
    (State.fabricIsReady s ms).tor = s.tor ∧
    (State.fabricIsReady s ms).pending = s.pending := by
  unfold State.fabricIsReady; simp -implicitDefEqProofs

@[simp] theorem State.fullIsReady_keeps (s : State) (ms : ℕ) (incomplete : Bool) :
    (State.fullIsReady s ms incomplete).fixed = s.fixed ∧
    (State.fullIsReady s ms incomplete).ops = s.ops ∧
    (State.fullIsReady s ms incomplete).cad = s.cad ∧
    (State.fullIsReady s ms incomplete).fw = s.fw ∧
    (State.fullIsReady s ms incomplete).sec = s.sec ∧
    (State.fullIsReady s ms incomplete).pwr = s.pwr ∧
    (State.fullIsReady s ms incomplete).ras = s.ras ∧
    (State.fullIsReady s ms incomplete).mgt = s.mgt ∧
    (State.fullIsReady s ms incomplete).tiles = s.tiles ∧
    (State.fullIsReady s ms incomplete).sram = s.sram ∧
    (State.fullIsReady s ms incomplete).sramG = s.sramG ∧
    (State.fullIsReady s ms incomplete).slices = s.slices ∧
    (State.fullIsReady s ms incomplete).sliceG = s.sliceG ∧
    (State.fullIsReady s ms incomplete).flash = s.flash ∧
    (State.fullIsReady s ms incomplete).tor = s.tor ∧
    (State.fullIsReady s ms incomplete).pending = s.pending := by
  unfold State.fullIsReady; simp -implicitDefEqProofs

@[simp] theorem State.calDone_keeps (s : State) (p : ℕ) (u : ℕ) :
    (State.calDone s p u).fixed = s.fixed ∧
    (State.calDone s p u).ops = s.ops ∧
    (State.calDone s p u).cad = s.cad ∧
    (State.calDone s p u).fw = s.fw ∧
    (State.calDone s p u).sec = s.sec ∧
    (State.calDone s p u).pwr = s.pwr ∧
    (State.calDone s p u).ras = s.ras ∧
    (State.calDone s p u).mgt = s.mgt ∧
    (State.calDone s p u).tiles = s.tiles ∧
    (State.calDone s p u).sram = s.sram ∧
    (State.calDone s p u).sramG = s.sramG ∧
    (State.calDone s p u).slices = s.slices ∧
    (State.calDone s p u).sliceG = s.sliceG ∧
    (State.calDone s p u).flash = s.flash ∧
    (State.calDone s p u).tor = s.tor ∧
    (State.calDone s p u).pending = s.pending := by
  unfold State.calDone; simp -implicitDefEqProofs

@[simp] theorem State.calSkip_keeps (s : State) (p : ℕ) :
    (State.calSkip s p).fixed = s.fixed ∧
    (State.calSkip s p).ops = s.ops ∧
    (State.calSkip s p).cad = s.cad ∧
    (State.calSkip s p).fw = s.fw ∧
    (State.calSkip s p).sec = s.sec ∧
    (State.calSkip s p).pwr = s.pwr ∧
    (State.calSkip s p).ras = s.ras ∧
    (State.calSkip s p).mgt = s.mgt ∧
    (State.calSkip s p).tiles = s.tiles ∧
    (State.calSkip s p).sram = s.sram ∧
    (State.calSkip s p).sramG = s.sramG ∧
    (State.calSkip s p).slices = s.slices ∧
    (State.calSkip s p).sliceG = s.sliceG ∧
    (State.calSkip s p).flash = s.flash ∧
    (State.calSkip s p).tor = s.tor ∧
    (State.calSkip s p).pending = s.pending := by
  unfold State.calSkip; simp -implicitDefEqProofs

@[simp] theorem State.stratusFail_keeps (s : State) (r : ℕ) (tile : ℕ) :
    (State.stratusFail s r tile).fixed = s.fixed ∧
    (State.stratusFail s r tile).ops = s.ops ∧
    (State.stratusFail s r tile).cad = s.cad ∧
    (State.stratusFail s r tile).fw = s.fw ∧
    (State.stratusFail s r tile).sec = s.sec ∧
    (State.stratusFail s r tile).pwr = s.pwr ∧
    (State.stratusFail s r tile).mgt = s.mgt ∧
    (State.stratusFail s r tile).tiles = s.tiles ∧
    (State.stratusFail s r tile).sram = s.sram ∧
    (State.stratusFail s r tile).sramG = s.sramG ∧
    (State.stratusFail s r tile).slices = s.slices ∧
    (State.stratusFail s r tile).sliceG = s.sliceG ∧
    (State.stratusFail s r tile).flash = s.flash ∧
    (State.stratusFail s r tile).tor = s.tor ∧
    (State.stratusFail s r tile).pending = s.pending := by
  unfold State.stratusFail; simp -implicitDefEqProofs

@[simp] theorem State.writePeriod_keeps (s : State) (p : ℕ) (v : Sys2Proof.W32) :
    (State.writePeriod s p v).fixed = s.fixed ∧
    (State.writePeriod s p v).ops = s.ops ∧
    (State.writePeriod s p v).cad = s.cad ∧
    (State.writePeriod s p v).fw = s.fw ∧
    (State.writePeriod s p v).sec = s.sec ∧
    (State.writePeriod s p v).pwr = s.pwr ∧
    (State.writePeriod s p v).ras = s.ras ∧
    (State.writePeriod s p v).mgt = s.mgt ∧
    (State.writePeriod s p v).tiles = s.tiles ∧
    (State.writePeriod s p v).sram = s.sram ∧
    (State.writePeriod s p v).sramG = s.sramG ∧
    (State.writePeriod s p v).slices = s.slices ∧
    (State.writePeriod s p v).sliceG = s.sliceG ∧
    (State.writePeriod s p v).flash = s.flash ∧
    (State.writePeriod s p v).tor = s.tor ∧
    (State.writePeriod s p v).pending = s.pending := by
  unfold State.writePeriod; simp -implicitDefEqProofs

@[simp] theorem State.bindFails_keeps (s : State) (n : ℕ) (result : ℕ) :
    (State.bindFails s n result).fixed = s.fixed ∧
    (State.bindFails s n result).ops = s.ops ∧
    (State.bindFails s n result).cad = s.cad ∧
    (State.bindFails s n result).fw = s.fw ∧
    (State.bindFails s n result).sec = s.sec ∧
    (State.bindFails s n result).pwr = s.pwr ∧
    (State.bindFails s n result).ras = s.ras ∧
    (State.bindFails s n result).mgt = s.mgt ∧
    (State.bindFails s n result).tiles = s.tiles ∧
    (State.bindFails s n result).sram = s.sram ∧
    (State.bindFails s n result).sramG = s.sramG ∧
    (State.bindFails s n result).flash = s.flash ∧
    (State.bindFails s n result).tor = s.tor ∧
    (State.bindFails s n result).pending = s.pending := by
  unfold State.bindFails; split <;> simp -implicitDefEqProofs

@[simp] theorem State.failover_keeps (s : State) (n : ℕ) :
    (State.failover s n).fixed = s.fixed ∧
    (State.failover s n).ops = s.ops ∧
    (State.failover s n).cad = s.cad ∧
    (State.failover s n).fw = s.fw ∧
    (State.failover s n).sec = s.sec ∧
    (State.failover s n).pwr = s.pwr ∧
    (State.failover s n).ras = s.ras ∧
    (State.failover s n).mgt = s.mgt ∧
    (State.failover s n).tiles = s.tiles ∧
    (State.failover s n).sram = s.sram ∧
    (State.failover s n).sramG = s.sramG ∧
    (State.failover s n).flash = s.flash ∧
    (State.failover s n).tor = s.tor ∧
    (State.failover s n).pending = s.pending := by
  unfold State.failover; simp -implicitDefEqProofs

@[simp] theorem State.endMirrors_keeps (s : State) (n : ℕ) :
    (State.endMirrors s n).fixed = s.fixed ∧
    (State.endMirrors s n).cad = s.cad ∧
    (State.endMirrors s n).fw = s.fw ∧
    (State.endMirrors s n).sec = s.sec ∧
    (State.endMirrors s n).pwr = s.pwr ∧
    (State.endMirrors s n).ras = s.ras ∧
    (State.endMirrors s n).mgt = s.mgt ∧
    (State.endMirrors s n).tiles = s.tiles ∧
    (State.endMirrors s n).sram = s.sram ∧
    (State.endMirrors s n).sramG = s.sramG ∧
    (State.endMirrors s n).slices = s.slices ∧
    (State.endMirrors s n).sliceG = s.sliceG ∧
    (State.endMirrors s n).tor = s.tor ∧
    (State.endMirrors s n).pending = s.pending := by
  unfold State.endMirrors; simp -implicitDefEqProofs

@[simp] theorem State.breakPair_keeps (s : State) (cause : ℕ) :
    (State.breakPair s cause).fixed = s.fixed ∧
    (State.breakPair s cause).cad = s.cad ∧
    (State.breakPair s cause).fw = s.fw ∧
    (State.breakPair s cause).sec = s.sec ∧
    (State.breakPair s cause).pwr = s.pwr ∧
    (State.breakPair s cause).mgt = s.mgt ∧
    (State.breakPair s cause).tiles = s.tiles ∧
    (State.breakPair s cause).sram = s.sram ∧
    (State.breakPair s cause).sramG = s.sramG ∧
    (State.breakPair s cause).tor = s.tor ∧
    (State.breakPair s cause).pending = s.pending := by
  unfold State.breakPair; (try dsimp only); (repeat' split) <;> simp -implicitDefEqProofs (disch := (intros; (try dsimp only); (repeat' split) <;> (try simp -implicitDefEqProofs)))

@[simp] theorem State.tryHandover_keeps (s : State) :
    (State.tryHandover s).fixed = s.fixed ∧
    (State.tryHandover s).cad = s.cad ∧
    (State.tryHandover s).fw = s.fw ∧
    (State.tryHandover s).sec = s.sec ∧
    (State.tryHandover s).pwr = s.pwr ∧
    (State.tryHandover s).mgt = s.mgt ∧
    (State.tryHandover s).tiles = s.tiles ∧
    (State.tryHandover s).sram = s.sram ∧
    (State.tryHandover s).sramG = s.sramG ∧
    (State.tryHandover s).tor = s.tor ∧
    (State.tryHandover s).pending = s.pending := by
  unfold State.tryHandover; split <;> simp -implicitDefEqProofs

@[simp] theorem State.mirrorIn_keeps (s : State) (p : ℕ) (key : Sys2Proof.W16) (off : Sys2Proof.W64) (piece : Piece) :
    (State.mirrorIn s p key off piece).fixed = s.fixed ∧
    (State.mirrorIn s p key off piece).ops = s.ops ∧
    (State.mirrorIn s p key off piece).cad = s.cad ∧
    (State.mirrorIn s p key off piece).fw = s.fw ∧
    (State.mirrorIn s p key off piece).sec = s.sec ∧
    (State.mirrorIn s p key off piece).pwr = s.pwr ∧
    (State.mirrorIn s p key off piece).ras = s.ras ∧
    (State.mirrorIn s p key off piece).mgt = s.mgt ∧
    (State.mirrorIn s p key off piece).tiles = s.tiles ∧
    (State.mirrorIn s p key off piece).sram = s.sram ∧
    (State.mirrorIn s p key off piece).sramG = s.sramG ∧
    (State.mirrorIn s p key off piece).flash = s.flash ∧
    (State.mirrorIn s p key off piece).tor = s.tor ∧
    (State.mirrorIn s p key off piece).pending = s.pending := by
  unfold State.mirrorIn; (try dsimp only); (repeat' split) <;> simp -implicitDefEqProofs

@[simp] theorem State.parityTrap_keeps (s : State) (t : ℕ) (queue : ℕ) :
    (State.parityTrap s t queue).fixed = s.fixed ∧
    (State.parityTrap s t queue).cad = s.cad ∧
    (State.parityTrap s t queue).fw = s.fw ∧
    (State.parityTrap s t queue).sec = s.sec ∧
    (State.parityTrap s t queue).pwr = s.pwr ∧
    (State.parityTrap s t queue).ras = s.ras ∧
    (State.parityTrap s t queue).mgt = s.mgt ∧
    (State.parityTrap s t queue).sram = s.sram ∧
    (State.parityTrap s t queue).sramG = s.sramG ∧
    (State.parityTrap s t queue).slices = s.slices ∧
    (State.parityTrap s t queue).sliceG = s.sliceG ∧
    (State.parityTrap s t queue).flash = s.flash ∧
    (State.parityTrap s t queue).tor = s.tor ∧
    (State.parityTrap s t queue).pending = s.pending := by
  unfold State.parityTrap; simp -implicitDefEqProofs

@[simp] theorem State.parity_keeps (s : State) (t : ℕ) (u : ParityUnit) :
    (State.parity s t u).fixed = s.fixed ∧
    (State.parity s t u).cad = s.cad ∧
    (State.parity s t u).fw = s.fw ∧
    (State.parity s t u).sec = s.sec ∧
    (State.parity s t u).pwr = s.pwr ∧
    (State.parity s t u).ras = s.ras ∧
    (State.parity s t u).mgt = s.mgt ∧
    (State.parity s t u).sram = s.sram ∧
    (State.parity s t u).sramG = s.sramG ∧
    (State.parity s t u).slices = s.slices ∧
    (State.parity s t u).sliceG = s.sliceG ∧
    (State.parity s t u).flash = s.flash ∧
    (State.parity s t u).tor = s.tor ∧
    (State.parity s t u).pending = s.pending := by
  unfold State.parity; split <;> simp -implicitDefEqProofs

@[simp] theorem State.straggle_keeps (s : State) (n : ℕ) (m : ℕ) (r : ℕ) :
    (State.straggle s n m r).fixed = s.fixed ∧
    (State.straggle s n m r).ops = s.ops ∧
    (State.straggle s n m r).cad = s.cad ∧
    (State.straggle s n m r).fw = s.fw ∧
    (State.straggle s n m r).sec = s.sec ∧
    (State.straggle s n m r).pwr = s.pwr ∧
    (State.straggle s n m r).ras = s.ras ∧
    (State.straggle s n m r).mgt = s.mgt ∧
    (State.straggle s n m r).tiles = s.tiles ∧
    (State.straggle s n m r).sram = s.sram ∧
    (State.straggle s n m r).sramG = s.sramG ∧
    (State.straggle s n m r).slices = s.slices ∧
    (State.straggle s n m r).sliceG = s.sliceG ∧
    (State.straggle s n m r).flash = s.flash ∧
    (State.straggle s n m r).tor = s.tor ∧
    (State.straggle s n m r).pending = s.pending := by
  unfold State.straggle; simp -implicitDefEqProofs

@[simp] theorem State.mgmtDown_keeps (s : State) :
    (State.mgmtDown s).fixed = s.fixed ∧
    (State.mgmtDown s).ops = s.ops ∧
    (State.mgmtDown s).fw = s.fw ∧
    (State.mgmtDown s).sec = s.sec ∧
    (State.mgmtDown s).pwr = s.pwr ∧
    (State.mgmtDown s).ras = s.ras ∧
    (State.mgmtDown s).tiles = s.tiles ∧
    (State.mgmtDown s).sram = s.sram ∧
    (State.mgmtDown s).sramG = s.sramG ∧
    (State.mgmtDown s).slices = s.slices ∧
    (State.mgmtDown s).sliceG = s.sliceG ∧
    (State.mgmtDown s).flash = s.flash ∧
    (State.mgmtDown s).tor = s.tor ∧
    (State.mgmtDown s).pending = s.pending := by
  unfold State.mgmtDown; simp -implicitDefEqProofs

@[simp] theorem State.updSeg_keeps (s : State) (g : ℕ) (f : Segment → Segment) :
    (State.updSeg s g f).fixed = s.fixed ∧
    (State.updSeg s g f).ops = s.ops ∧
    (State.updSeg s g f).cad = s.cad ∧
    (State.updSeg s g f).fw = s.fw ∧
    (State.updSeg s g f).sec = s.sec ∧
    (State.updSeg s g f).pwr = s.pwr ∧
    (State.updSeg s g f).ras = s.ras ∧
    (State.updSeg s g f).tiles = s.tiles ∧
    (State.updSeg s g f).sram = s.sram ∧
    (State.updSeg s g f).sramG = s.sramG ∧
    (State.updSeg s g f).slices = s.slices ∧
    (State.updSeg s g f).sliceG = s.sliceG ∧
    (State.updSeg s g f).flash = s.flash ∧
    (State.updSeg s g f).tor = s.tor ∧
    (State.updSeg s g f).pending = s.pending := by
  unfold State.updSeg; simp -implicitDefEqProofs

@[simp] theorem State.isolate_keeps (s : State) (g : ℕ) (scl : Bool) :
    (State.isolate s g scl).fixed = s.fixed ∧
    (State.isolate s g scl).ops = s.ops ∧
    (State.isolate s g scl).cad = s.cad ∧
    (State.isolate s g scl).fw = s.fw ∧
    (State.isolate s g scl).sec = s.sec ∧
    (State.isolate s g scl).pwr = s.pwr ∧
    (State.isolate s g scl).ras = s.ras ∧
    (State.isolate s g scl).tiles = s.tiles ∧
    (State.isolate s g scl).sram = s.sram ∧
    (State.isolate s g scl).sramG = s.sramG ∧
    (State.isolate s g scl).slices = s.slices ∧
    (State.isolate s g scl).sliceG = s.sliceG ∧
    (State.isolate s g scl).flash = s.flash ∧
    (State.isolate s g scl).tor = s.tor ∧
    (State.isolate s g scl).pending = s.pending := by
  unfold State.isolate; simp -implicitDefEqProofs

@[simp] theorem State.recovered_keeps (s : State) (g : ℕ) (pulses : ℕ) :
    (State.recovered s g pulses).fixed = s.fixed ∧
    (State.recovered s g pulses).ops = s.ops ∧
    (State.recovered s g pulses).cad = s.cad ∧
    (State.recovered s g pulses).fw = s.fw ∧
    (State.recovered s g pulses).sec = s.sec ∧
    (State.recovered s g pulses).pwr = s.pwr ∧
    (State.recovered s g pulses).ras = s.ras ∧
    (State.recovered s g pulses).tiles = s.tiles ∧
    (State.recovered s g pulses).sram = s.sram ∧
    (State.recovered s g pulses).sramG = s.sramG ∧
    (State.recovered s g pulses).slices = s.slices ∧
    (State.recovered s g pulses).sliceG = s.sliceG ∧
    (State.recovered s g pulses).flash = s.flash ∧
    (State.recovered s g pulses).tor = s.tor ∧
    (State.recovered s g pulses).pending = s.pending := by
  unfold State.recovered; simp -implicitDefEqProofs

@[simp] theorem State.recover_keeps (s : State) (g : ℕ) (scl : Bool) (res : SdaResult) :
    (State.recover s g scl res).fixed = s.fixed ∧
    (State.recover s g scl res).ops = s.ops ∧
    (State.recover s g scl res).cad = s.cad ∧
    (State.recover s g scl res).fw = s.fw ∧
    (State.recover s g scl res).sec = s.sec ∧
    (State.recover s g scl res).pwr = s.pwr ∧
    (State.recover s g scl res).ras = s.ras ∧
    (State.recover s g scl res).tiles = s.tiles ∧
    (State.recover s g scl res).sram = s.sram ∧
    (State.recover s g scl res).sramG = s.sramG ∧
    (State.recover s g scl res).slices = s.slices ∧
    (State.recover s g scl res).sliceG = s.sliceG ∧
    (State.recover s g scl res).flash = s.flash ∧
    (State.recover s g scl res).tor = s.tor ∧
    (State.recover s g scl res).pending = s.pending := by
  unfold State.recover; split <;> simp -implicitDefEqProofs

@[simp] theorem State.writeRingCfg_keeps (s : State) (n : ℕ) (k : ℕ) (v : Sys2Proof.W64) :
    (State.writeRingCfg s n k v).fixed = s.fixed ∧
    (State.writeRingCfg s n k v).cad = s.cad ∧
    (State.writeRingCfg s n k v).fw = s.fw ∧
    (State.writeRingCfg s n k v).sec = s.sec ∧
    (State.writeRingCfg s n k v).pwr = s.pwr ∧
    (State.writeRingCfg s n k v).ras = s.ras ∧
    (State.writeRingCfg s n k v).mgt = s.mgt ∧
    (State.writeRingCfg s n k v).tiles = s.tiles ∧
    (State.writeRingCfg s n k v).sram = s.sram ∧
    (State.writeRingCfg s n k v).sramG = s.sramG ∧
    (State.writeRingCfg s n k v).slices = s.slices ∧
    (State.writeRingCfg s n k v).sliceG = s.sliceG ∧
    (State.writeRingCfg s n k v).flash = s.flash ∧
    (State.writeRingCfg s n k v).tor = s.tor ∧
    (State.writeRingCfg s n k v).pending = s.pending := by
  unfold State.writeRingCfg; simp -implicitDefEqProofs

@[simp] theorem State.writeRing_keeps (s : State) (n : ℕ) (k : ℕ) (reg : ℕ) (mask : Sys2Proof.W64) (v : Sys2Proof.W64) :
    (State.writeRing s n k reg mask v).fixed = s.fixed ∧
    (State.writeRing s n k reg mask v).cad = s.cad ∧
    (State.writeRing s n k reg mask v).fw = s.fw ∧
    (State.writeRing s n k reg mask v).sec = s.sec ∧
    (State.writeRing s n k reg mask v).pwr = s.pwr ∧
    (State.writeRing s n k reg mask v).ras = s.ras ∧
    (State.writeRing s n k reg mask v).mgt = s.mgt ∧
    (State.writeRing s n k reg mask v).tiles = s.tiles ∧
    (State.writeRing s n k reg mask v).sram = s.sram ∧
    (State.writeRing s n k reg mask v).sramG = s.sramG ∧
    (State.writeRing s n k reg mask v).slices = s.slices ∧
    (State.writeRing s n k reg mask v).sliceG = s.sliceG ∧
    (State.writeRing s n k reg mask v).flash = s.flash ∧
    (State.writeRing s n k reg mask v).tor = s.tor ∧
    (State.writeRing s n k reg mask v).pending = s.pending := by
  unfold State.writeRing; split <;> simp -implicitDefEqProofs

@[simp] theorem State.writeDoorbell_keeps (s : State) (n : ℕ) (k : ℕ) (mask : Sys2Proof.W64) (v : Sys2Proof.W64) :
    (State.writeDoorbell s n k mask v).fixed = s.fixed ∧
    (State.writeDoorbell s n k mask v).ops = s.ops ∧
    (State.writeDoorbell s n k mask v).cad = s.cad ∧
    (State.writeDoorbell s n k mask v).fw = s.fw ∧
    (State.writeDoorbell s n k mask v).sec = s.sec ∧
    (State.writeDoorbell s n k mask v).pwr = s.pwr ∧
    (State.writeDoorbell s n k mask v).ras = s.ras ∧
    (State.writeDoorbell s n k mask v).mgt = s.mgt ∧
    (State.writeDoorbell s n k mask v).tiles = s.tiles ∧
    (State.writeDoorbell s n k mask v).sram = s.sram ∧
    (State.writeDoorbell s n k mask v).sramG = s.sramG ∧
    (State.writeDoorbell s n k mask v).slices = s.slices ∧
    (State.writeDoorbell s n k mask v).sliceG = s.sliceG ∧
    (State.writeDoorbell s n k mask v).flash = s.flash ∧
    (State.writeDoorbell s n k mask v).tor = s.tor ∧
    (State.writeDoorbell s n k mask v).pending = s.pending := by
  unfold State.writeDoorbell; simp -implicitDefEqProofs

@[simp] theorem State.writeLimit_keeps (s : State) (n : ℕ) (w : Sys2Proof.W64) :
    (State.writeLimit s n w).fixed = s.fixed ∧
    (State.writeLimit s n w).ops = s.ops ∧
    (State.writeLimit s n w).cad = s.cad ∧
    (State.writeLimit s n w).fw = s.fw ∧
    (State.writeLimit s n w).sec = s.sec ∧
    (State.writeLimit s n w).pwr = s.pwr ∧
    (State.writeLimit s n w).ras = s.ras ∧
    (State.writeLimit s n w).mgt = s.mgt ∧
    (State.writeLimit s n w).tiles = s.tiles ∧
    (State.writeLimit s n w).sram = s.sram ∧
    (State.writeLimit s n w).sramG = s.sramG ∧
    (State.writeLimit s n w).slices = s.slices ∧
    (State.writeLimit s n w).sliceG = s.sliceG ∧
    (State.writeLimit s n w).flash = s.flash ∧
    (State.writeLimit s n w).tor = s.tor ∧
    (State.writeLimit s n w).pending = s.pending := by
  unfold State.writeLimit; simp -implicitDefEqProofs

@[simp] theorem State.writeVf_keeps (s : State) (n : Fin 12) (a : ℕ) (mask : Sys2Proof.W64) (v : Sys2Proof.W64) :
    (State.writeVf s n a mask v).fixed = s.fixed ∧
    (State.writeVf s n a mask v).cad = s.cad ∧
    (State.writeVf s n a mask v).fw = s.fw ∧
    (State.writeVf s n a mask v).sec = s.sec ∧
    (State.writeVf s n a mask v).pwr = s.pwr ∧
    (State.writeVf s n a mask v).ras = s.ras ∧
    (State.writeVf s n a mask v).mgt = s.mgt ∧
    (State.writeVf s n a mask v).tiles = s.tiles ∧
    (State.writeVf s n a mask v).sram = s.sram ∧
    (State.writeVf s n a mask v).sramG = s.sramG ∧
    (State.writeVf s n a mask v).slices = s.slices ∧
    (State.writeVf s n a mask v).sliceG = s.sliceG ∧
    (State.writeVf s n a mask v).flash = s.flash ∧
    (State.writeVf s n a mask v).tor = s.tor ∧
    (State.writeVf s n a mask v).pending = s.pending := by
  unfold State.writeVf; (try dsimp only); (repeat' split) <;> simp -implicitDefEqProofs

@[simp] theorem State.writeCadCfg_keeps (s : State) (w : Sys2Proof.W64) :
    (State.writeCadCfg s w).fixed = s.fixed ∧
    (State.writeCadCfg s w).ops = s.ops ∧
    (State.writeCadCfg s w).fw = s.fw ∧
    (State.writeCadCfg s w).sec = s.sec ∧
    (State.writeCadCfg s w).pwr = s.pwr ∧
    (State.writeCadCfg s w).ras = s.ras ∧
    (State.writeCadCfg s w).mgt = s.mgt ∧
    (State.writeCadCfg s w).tiles = s.tiles ∧
    (State.writeCadCfg s w).sram = s.sram ∧
    (State.writeCadCfg s w).sramG = s.sramG ∧
    (State.writeCadCfg s w).slices = s.slices ∧
    (State.writeCadCfg s w).sliceG = s.sliceG ∧
    (State.writeCadCfg s w).flash = s.flash ∧
    (State.writeCadCfg s w).tor = s.tor ∧
    (State.writeCadCfg s w).pending = s.pending := by
  unfold State.writeCadCfg; simp -implicitDefEqProofs

@[simp] theorem State.writeMem_keeps (s : State) (k : ℕ) (n : ℕ) (reg : ℕ) (mask : Sys2Proof.W64) (v : Sys2Proof.W64) :
    (State.writeMem s k n reg mask v).fixed = s.fixed ∧
    (State.writeMem s k n reg mask v).ops = s.ops ∧
    (State.writeMem s k n reg mask v).cad = s.cad ∧
    (State.writeMem s k n reg mask v).fw = s.fw ∧
    (State.writeMem s k n reg mask v).sec = s.sec ∧
    (State.writeMem s k n reg mask v).pwr = s.pwr ∧
    (State.writeMem s k n reg mask v).ras = s.ras ∧
    (State.writeMem s k n reg mask v).mgt = s.mgt ∧
    (State.writeMem s k n reg mask v).tiles = s.tiles ∧
    (State.writeMem s k n reg mask v).sram = s.sram ∧
    (State.writeMem s k n reg mask v).sramG = s.sramG ∧
    (State.writeMem s k n reg mask v).slices = s.slices ∧
    (State.writeMem s k n reg mask v).sliceG = s.sliceG ∧
    (State.writeMem s k n reg mask v).flash = s.flash ∧
    (State.writeMem s k n reg mask v).tor = s.tor ∧
    (State.writeMem s k n reg mask v).pending = s.pending := by
  unfold State.writeMem; split <;> simp -implicitDefEqProofs

@[simp] theorem State.writeCal_keeps (s : State) (p : ℕ) (mask : Sys2Proof.W64) (v : Sys2Proof.W64) :
    (State.writeCal s p mask v).fixed = s.fixed ∧
    (State.writeCal s p mask v).ops = s.ops ∧
    (State.writeCal s p mask v).cad = s.cad ∧
    (State.writeCal s p mask v).fw = s.fw ∧
    (State.writeCal s p mask v).sec = s.sec ∧
    (State.writeCal s p mask v).pwr = s.pwr ∧
    (State.writeCal s p mask v).ras = s.ras ∧
    (State.writeCal s p mask v).mgt = s.mgt ∧
    (State.writeCal s p mask v).tiles = s.tiles ∧
    (State.writeCal s p mask v).sram = s.sram ∧
    (State.writeCal s p mask v).sramG = s.sramG ∧
    (State.writeCal s p mask v).slices = s.slices ∧
    (State.writeCal s p mask v).sliceG = s.sliceG ∧
    (State.writeCal s p mask v).flash = s.flash ∧
    (State.writeCal s p mask v).tor = s.tor ∧
    (State.writeCal s p mask v).pending = s.pending := by
  unfold State.writeCal; simp -implicitDefEqProofs

@[simp] theorem State.writeRegion_keeps (s : State) (r : ℕ) (reg : ℕ) (v : Sys2Proof.W64) :
    (State.writeRegion s r reg v).fixed = s.fixed ∧
    (State.writeRegion s r reg v).ops = s.ops ∧
    (State.writeRegion s r reg v).cad = s.cad ∧
    (State.writeRegion s r reg v).fw = s.fw ∧
    (State.writeRegion s r reg v).sec = s.sec ∧
    (State.writeRegion s r reg v).pwr = s.pwr ∧
    (State.writeRegion s r reg v).ras = s.ras ∧
    (State.writeRegion s r reg v).mgt = s.mgt ∧
    (State.writeRegion s r reg v).tiles = s.tiles ∧
    (State.writeRegion s r reg v).sram = s.sram ∧
    (State.writeRegion s r reg v).sramG = s.sramG ∧
    (State.writeRegion s r reg v).slices = s.slices ∧
    (State.writeRegion s r reg v).sliceG = s.sliceG ∧
    (State.writeRegion s r reg v).flash = s.flash ∧
    (State.writeRegion s r reg v).tor = s.tor ∧
    (State.writeRegion s r reg v).pending = s.pending := by
  unfold State.writeRegion; split <;> simp -implicitDefEqProofs

@[simp] theorem State.writeLow_keeps (s : State) (k : Fin 4) (a : ℕ) (v : Sys2Proof.W64) :
    (State.writeLow s k a v).fixed = s.fixed ∧
    (State.writeLow s k a v).fw = s.fw ∧
    (State.writeLow s k a v).sec = s.sec ∧
    (State.writeLow s k a v).tiles = s.tiles ∧
    (State.writeLow s k a v).flash = s.flash ∧
    (State.writeLow s k a v).pending = s.pending := by
  unfold State.writeLow; simp -implicitDefEqProofs

@[simp] theorem State.writePriv_keeps (s : State) (k : Fin 4) (a : ℕ) (mask : Sys2Proof.W64) (v : Sys2Proof.W64) :
    (State.writePriv s k a mask v).fixed = s.fixed ∧
    (State.writePriv s k a mask v).sec = s.sec ∧
    (State.writePriv s k a mask v).tiles = s.tiles ∧
    (State.writePriv s k a mask v).flash = s.flash ∧
    (State.writePriv s k a mask v).pending = s.pending := by
  unfold State.writePriv; simp -implicitDefEqProofs

@[simp] theorem State.writePf_keeps (s : State) (k : Fin 4) (a : ℕ) (mask : Sys2Proof.W64) (v : Sys2Proof.W64) :
    (State.writePf s k a mask v).fixed = s.fixed ∧
    (State.writePf s k a mask v).sec = s.sec ∧
    (State.writePf s k a mask v).tiles = s.tiles ∧
    (State.writePf s k a mask v).flash = s.flash ∧
    (State.writePf s k a mask v).pending = s.pending := by
  unfold State.writePf; (try dsimp only); (repeat' split) <;> simp -implicitDefEqProofs

@[simp] theorem State.tryResume_keeps (s : State) (t : ℕ) :
    (State.tryResume s t).fixed = s.fixed ∧
    (State.tryResume s t).cad = s.cad ∧
    (State.tryResume s t).fw = s.fw ∧
    (State.tryResume s t).sec = s.sec ∧
    (State.tryResume s t).pwr = s.pwr ∧
    (State.tryResume s t).ras = s.ras ∧
    (State.tryResume s t).mgt = s.mgt ∧
    (State.tryResume s t).sram = s.sram ∧
    (State.tryResume s t).sramG = s.sramG ∧
    (State.tryResume s t).slices = s.slices ∧
    (State.tryResume s t).sliceG = s.sliceG ∧
    (State.tryResume s t).flash = s.flash ∧
    (State.tryResume s t).tor = s.tor ∧
    (State.tryResume s t).pending = s.pending := by
  unfold State.tryResume; (try dsimp only); (repeat' split) <;> simp -implicitDefEqProofs

@[simp] theorem State.holdOn_keeps (s : State) (t : ℕ) (h : Hold) :
    (State.holdOn s t h).fixed = s.fixed ∧
    (State.holdOn s t h).cad = s.cad ∧
    (State.holdOn s t h).fw = s.fw ∧
    (State.holdOn s t h).sec = s.sec ∧
    (State.holdOn s t h).pwr = s.pwr ∧
    (State.holdOn s t h).ras = s.ras ∧
    (State.holdOn s t h).mgt = s.mgt ∧
    (State.holdOn s t h).sram = s.sram ∧
    (State.holdOn s t h).sramG = s.sramG ∧
    (State.holdOn s t h).slices = s.slices ∧
    (State.holdOn s t h).sliceG = s.sliceG ∧
    (State.holdOn s t h).flash = s.flash ∧
    (State.holdOn s t h).tor = s.tor ∧
    (State.holdOn s t h).pending = s.pending := by
  unfold State.holdOn; simp -implicitDefEqProofs

@[simp] theorem State.withFetchWord_keeps (s : State) (nbits : ℕ) (w : ℕ) :
    (State.withFetchWord s nbits w).fixed = s.fixed ∧
    (State.withFetchWord s nbits w).ops = s.ops ∧
    (State.withFetchWord s nbits w).cad = s.cad ∧
    (State.withFetchWord s nbits w).fw = s.fw ∧
    (State.withFetchWord s nbits w).sec = s.sec ∧
    (State.withFetchWord s nbits w).pwr = s.pwr ∧
    (State.withFetchWord s nbits w).ras = s.ras ∧
    (State.withFetchWord s nbits w).mgt = s.mgt ∧
    (State.withFetchWord s nbits w).tiles = s.tiles ∧
    (State.withFetchWord s nbits w).sram = s.sram ∧
    (State.withFetchWord s nbits w).sramG = s.sramG ∧
    (State.withFetchWord s nbits w).slices = s.slices ∧
    (State.withFetchWord s nbits w).sliceG = s.sliceG ∧
    (State.withFetchWord s nbits w).flash = s.flash ∧
    (State.withFetchWord s nbits w).tor = s.tor := by
  unfold State.withFetchWord; split <;> simp -implicitDefEqProofs

end Sys2Proof.Machine
end

