-- ==== Sys2Proof/Laws/Store.lean ====
section
/-! SUPPORT. Laws of the sparse tables and of the byte memories: read after write, the canonical form. -/
namespace Sys2Proof.Machine

variable {α : Type}

@[simp] theorem tget_nil (d : α) (k : Nat) : tget d [] k = d := rfl
@[simp] theorem tfind_nil (k : Nat) : tfind ([] : List (Nat × α)) k = none := rfl

@[simp] theorem tget_tset_same (d : α) (l : List (Nat × α)) (k : Nat) (v : α) : tget d (tset l k v) k = v := by
  induction l with
  | nil => simp [tset, tget]
  | cons c r ih =>
    obtain ⟨j, u⟩ := c
    unfold tset
    split
    · simp [tget]
    · split
      · simp [tget]
      · have h : j ≠ k := by omega
        simp [tget, h, ih]

theorem tget_tset_other (d : α) (l : List (Nat × α)) (k m : Nat) (v : α) (h : m ≠ k) : tget d (tset l k v) m = tget d l m := by
  induction l with
  | nil => simp [tset, tget, h.symm]
  | cons c r ih =>
    obtain ⟨j, u⟩ := c
    unfold tset
    split
    · simp [tget, h.symm]
    · split
      · next hk => subst hk; simp [tget, h.symm]
      · simp [tget, ih]

@[simp] theorem tfind_tset_same (l : List (Nat × α)) (k : Nat) (v : α) : tfind (tset l k v) k = some v := by
  induction l with
  | nil => simp [tset, tfind]
  | cons c r ih =>
    obtain ⟨j, u⟩ := c
    unfold tset
    split
    · simp [tfind]
    · split
      · simp [tfind]
      · have h : j ≠ k := by omega
        simp [tfind, h, ih]

theorem tfind_tset_other (l : List (Nat × α)) (k m : Nat) (v : α) (h : m ≠ k) : tfind (tset l k v) m = tfind l m := by
  induction l with
  | nil => simp [tset, tfind, h.symm]
  | cons c r ih =>
    obtain ⟨j, u⟩ := c
    unfold tset
    split
    · simp [tfind, h.symm]
    · split
      · next hk => subst hk; simp [tfind, h.symm]
      · simp [tfind, ih]

theorem tget_tdel_other (d : α) (l : List (Nat × α)) (k m : Nat) (h : m ≠ k) : tget d (tdel l k) m = tget d l m := by
  induction l with
  | nil => rfl
  | cons c r ih =>
    obtain ⟨j, u⟩ := c
    unfold tdel
    split
    · next hk => subst hk; simp [tget, h.symm, ih]
    · simp [tget, ih]

@[simp] theorem tget_tdel_same (d : α) (l : List (Nat × α)) (k : Nat) : tget d (tdel l k) k = d := by
  induction l with
  | nil => rfl
  | cons c r ih =>
    obtain ⟨j, u⟩ := c
    unfold tdel
    split
    · exact ih
    · next hk => simp [tget, hk, ih]

@[simp] theorem tfind_tdel_same (l : List (Nat × α)) (k : Nat) : tfind (tdel l k) k = none := by
  induction l with
  | nil => rfl
  | cons c r ih =>
    obtain ⟨j, u⟩ := c
    unfold tdel
    split
    · exact ih
    · next hk => simp [tfind, hk, ih]

theorem tfind_tdel_other (l : List (Nat × α)) (k m : Nat) (h : m ≠ k) : tfind (tdel l k) m = tfind l m := by
  induction l with
  | nil => rfl
  | cons c r ih =>
    obtain ⟨j, u⟩ := c
    unfold tdel
    split
    · next hk => subst hk; simp [tfind, h.symm, ih]
    · simp [tfind, ih]

/-! ### The canonical form of a memory -/

theorem Memory.wfFrom_mono (m : Memory) (a b : Nat) (h : a ≤ b) (hm : Memory.wfFrom b m = true) : Memory.wfFrom a m = true := by
  cases m with
  | nil => rfl
  | cons c r =>
    simp only [Memory.wfFrom, Bool.and_eq_true, decide_eq_true_eq] at hm ⊢
    exact ⟨⟨by omega, hm.1.2⟩, hm.2⟩

theorem Memory.wfFrom_tset (m : Memory) (lo a : Nat) (b : Byte) (hb : b ≠ Memory.default) (ha : lo ≤ a)
    (hm : Memory.wfFrom lo m = true) : Memory.wfFrom lo (tset m a b) = true := by
  induction m generalizing lo with
  | nil => simp [tset, Memory.wfFrom, ha, hb]
  | cons c r ih =>
    obtain ⟨j, u⟩ := c
    simp only [Memory.wfFrom, Bool.and_eq_true, decide_eq_true_eq] at hm
    unfold tset
    split
    · next hlt =>
      simp only [Memory.wfFrom, Bool.and_eq_true, decide_eq_true_eq]
      exact ⟨⟨ha, hb⟩, ⟨by omega, hm.1.2⟩, hm.2⟩
    · split
      · next heq =>
        subst heq
        simp only [Memory.wfFrom, Bool.and_eq_true, decide_eq_true_eq]
        exact ⟨⟨ha, hb⟩, hm.2⟩
      · simp only [Memory.wfFrom, Bool.and_eq_true, decide_eq_true_eq]
        exact ⟨hm.1, ih (j + 1) (by omega) hm.2⟩

theorem Memory.wfFrom_tdel (m : Memory) (lo a : Nat) (hm : Memory.wfFrom lo m = true) : Memory.wfFrom lo (tdel m a) = true := by
  induction m generalizing lo with
  | nil => rfl
  | cons c r ih =>
    obtain ⟨j, u⟩ := c
    simp only [Memory.wfFrom, Bool.and_eq_true, decide_eq_true_eq] at hm
    unfold tdel
    split
    · exact Memory.wfFrom_mono _ lo (j + 1) (by omega) (ih (j + 1) hm.2)
    · simp only [Memory.wfFrom, Bool.and_eq_true, decide_eq_true_eq]
      exact ⟨hm.1, ih (j + 1) hm.2⟩

theorem Memory.wfFrom_filter (m : Memory) (lo : Nat) (p : Host.Cell → Bool) (hm : Memory.wfFrom lo m = true) :
    Memory.wfFrom lo (m.filter p) = true := by
  induction m generalizing lo with
  | nil => rfl
  | cons c r ih =>
    obtain ⟨j, u⟩ := c
    simp only [Memory.wfFrom, Bool.and_eq_true, decide_eq_true_eq] at hm
    rw [List.filter_cons]
    split
    · simp only [Memory.wfFrom, Bool.and_eq_true, decide_eq_true_eq]
      exact ⟨hm.1, ih (j + 1) hm.2⟩
    · exact Memory.wfFrom_mono _ lo (j + 1) (by omega) (ih (j + 1) hm.2)

/-- A byte stored keeps the canonical form. -/
@[simp] theorem Memory.write_wf (m : Memory) (a : Nat) (b : Byte) (hm : m.wf = true) : (m.write a b).wf = true := by
  unfold Memory.write
  split
  · exact Memory.wfFrom_tdel m 0 a hm
  · next h => exact Memory.wfFrom_tset m 0 a b h (Nat.zero_le a) hm

/-- Bytes stored keep the canonical form. -/
@[simp] theorem Memory.writeN_wf (m : Memory) (a : Nat) (l : List Byte) (hm : m.wf = true) : (m.writeN a l).wf = true := by
  induction l generalizing m a with
  | nil => exact hm
  | cons b r ih => exact ih _ _ (Memory.write_wf m a b hm)

/-- Bytes cleared keep the canonical form. -/
@[simp] theorem Memory.clear_wf (m : Memory) (a n : Nat) (hm : m.wf = true) : (m.clear a n).wf = true :=
  Memory.wfFrom_filter m 0 _ hm

@[simp] theorem Memory.wf_nil : Memory.wf [] = true := rfl

/-- The byte stored is the byte read. -/
@[simp] theorem Memory.read_write_same (m : Memory) (a : Nat) (b : Byte) : (m.write a b).read a = b := by
  unfold Memory.write
  split
  · next h => rw [h]; exact tget_tdel_same _ m a
  · simp [Memory.read]

/-- A byte stored leaves every other byte. -/
theorem Memory.read_write_other (m : Memory) (a c : Nat) (b : Byte) (h : c ≠ a) : (m.write a b).read c = m.read c := by
  unfold Memory.write
  split
  · exact tget_tdel_other _ m a c h
  · exact tget_tset_other _ m a c b h

/-- Bytes stored leave every byte outside them. -/
theorem Memory.read_writeN_other (m : Memory) (a c : Nat) (l : List Byte) (h : c < a ∨ a + l.length ≤ c) :
    (m.writeN a l).read c = m.read c := by
  induction l generalizing m a with
  | nil => rfl
  | cons b r ih =>
    simp only [List.length_cons] at h
    have h1 := ih (m.write a b) (a + 1) (by omega)
    rw [Memory.writeN, h1, Memory.read_write_other m a c b (by omega)]

/-- The bytes stored are the bytes read. -/
theorem Memory.readN_writeN_same (m : Memory) (a : Nat) (l : List Byte) : (m.writeN a l).readN a l.length = l := by
  induction l generalizing m a with
  | nil => rfl
  | cons b r ih =>
    simp only [List.length_cons, Memory.readN, Memory.writeN]
    rw [ih (m.write a b) (a + 1)]
    rw [Memory.read_writeN_other _ (a + 1) a r (by omega), Memory.read_write_same m a b]

end Sys2Proof.Machine
end

