-- ==== Sys2Proof/Laws/SoundBase.lean ====
section
/-! SUPPORT. What every operation keeps: the canonical form of the memories and the queue. Here the property, what it says of the
answers operations give, and the lemmas of the operations every layer uses; one lemma an operation in the files that import this. -/

namespace Sys2Proof.Machine

open Host

variable {pq : List Instr}

/-- The memories of the state stand in their canonical form (02 R48) and the commands waiting are `pq`: what every operation of
the block keeps, since commands come from outside. -/
def State.sound (s : State) (pq : List Instr) : Prop := s.sram.wf = true ∧ s.slices.wf = true ∧ s.flash.wf = true ∧ s.pending = pq

theorem State.sound_iff (s : State) : s.sound pq ↔ s.memOk ∧ s.pending = pq :=
  ⟨fun h => ⟨⟨h.1, h.2.1, h.2.2.1⟩, h.2.2.2⟩, fun h => ⟨h.1.1, h.1.2.1, h.1.2.2, h.2⟩⟩

/-- A state put together field by field. -/
@[simp] theorem State.sound_mk (fixed : Fixed) (phase : Phase) (scratch : W64) (rsShadow : List (Nat × W32)) (links : List (Nat × HostLink)) (rgn : List (Nat × Region)) (part : List (Nat × Partition)) (sync : List (Nat × W64)) (ops : List Op) (nextOp : Nat) (nextEnd : Nat) (rrPart : Nat) (cad : Cadence) (fw : Firmware) (sec : Sec) (portOwner : List (Nat × Nat)) (pwr : Power) (bru : Bringup) (ras : Ras) (mgt : Carrier) (tiles : List (Nat × TileSt)) (sram : Memory) (sramG : List (Nat × GState)) (slices : Memory) (sliceG : List (Nat × GState)) (flash : Memory) (runs : List (Nat × RunState)) (ports : List (Nat × Port)) (tor : Torus) (routeSet : Option (List Nat)) (routeWork : List Nat) (proto : ProtoCfg) (snaps : List Snap) (xfers : List Xfer) (pkts : List Pkt) (nextPkt : Nat) (shPages : List (Nat × SharedPage)) (backing : List (Nat × MemObj)) (fetches : List Fetch) (passed : List Passed) (readSeq : Nat) (pubs : List (Nat × PubTable)) (insts : List Inst) (streamOps : List StreamOp) (nextInst : Nat) (nextReq : Nat) (opProg : List (Nat × OpProg)) (out : List Output) (free : Nat) (pending : List Instr) :
    (State.mk fixed phase scratch rsShadow links rgn part sync ops nextOp nextEnd rrPart cad fw sec portOwner pwr bru ras mgt tiles sram sramG slices sliceG flash runs ports tor routeSet routeWork proto snaps xfers pkts nextPkt shPages backing fetches passed readSeq pubs insts streamOps nextInst nextReq opProg out free pending).sound pq ↔ sram.wf = true ∧ slices.wf = true ∧ flash.wf = true ∧ pending = pq := Iff.rfl

theorem Memory.wf_filter (m : Memory) (p : Host.Cell → Bool) (h : m.wf = true) : Memory.wf (m.filter p) = true := Memory.wfFrom_filter m 0 p h

theorem State.sound.sram {s : State} (h : s.sound pq) : s.sram.wf = true := h.1

theorem State.sound.slices {s : State} (h : s.sound pq) : s.slices.wf = true := h.2.1

theorem State.sound.flash {s : State} (h : s.sound pq) : s.flash.wf = true := h.2.2.1

theorem State.sound.pending {s : State} (h : s.sound pq) : s.pending = pq := h.2.2.2

theorem foldl_sound {β : Type} (g : State → β → State) (l : List β) (s : State) (h : s.sound pq) (hg : ∀ s x, s.sound pq → (g s x).sound pq) :
    (l.foldl g s).sound pq := by
  induction l generalizing s with
  | nil => exact h
  | cons a r ih => exact ih _ (hg s a h)

theorem sound_ite {c : Prop} [Decidable c] {x y : State} (hx : x.sound pq) (hy : y.sound pq) : (if c then x else y).sound pq := by split <;> assumption

@[simp] theorem ite_sound (c : Prop) [Decidable c] (x y : State) : (if c then x else y).sound pq ↔ (if c then x.sound pq else y.sound pq) := by split <;> rfl

theorem foldl1_sound {α β : Type} (g : State × α → β → State × α) (l : List β) (s : State × α) (h : s.1.sound pq) (hg : ∀ s x, s.1.sound pq → (g s x).1.sound pq) :
    (l.foldl g s).1.sound pq := by
  induction l generalizing s with
  | nil => exact h
  | cons a r ih => exact ih _ (hg s a h)

/-- The state an answer carries, if it carries one, is sound. -/
def optOk (o : Option State) (pq : List Instr) : Prop := ∀ u, o = some u → u.sound pq

@[simp] theorem optOk_some (s : State) : optOk (some s) pq ↔ s.sound pq := ⟨fun h => h s rfl, fun h u e => by cases e; exact h⟩

@[simp] theorem optOk_none : optOk none pq ↔ True := ⟨fun _ => trivial, fun _ u e => by cases e⟩

theorem optOk.some {o : Option State} {s : State} (h : optOk o pq) (e : o = some s) : s.sound pq := h s e

theorem optD_sound {o : Option State} {s : State} (h : optOk o pq) (hs : s.sound pq) : (o.getD s).sound pq := by
  cases o with
  | none => exact hs
  | some u => exact h u rfl

/-- The same of an answer with a value beside the state. -/
def opt1Ok {α : Type} (o : Option (State × α)) (pq : List Instr) : Prop := ∀ r, o = some r → r.1.sound pq

@[simp] theorem opt1Ok_some {α : Type} (s : State) (a : α) : opt1Ok (some (s, a)) pq ↔ s.sound pq := ⟨fun h => h _ rfl, fun h u e => by cases e; exact h⟩

@[simp] theorem opt1Ok_none {α : Type} : opt1Ok (none : Option (State × α)) pq ↔ True := ⟨fun _ => trivial, fun _ u e => by cases e⟩

theorem opt1Ok.some {α : Type} {o : Option (State × α)} {s : State} {a : α} (h : opt1Ok o pq) (e : o = some (s, a)) : s.sound pq := h _ e

theorem opt1Ok_map {α β : Type} {o : Option (State × α)} {g : State × α → State × β} (h : opt1Ok o pq) (hg : ∀ p, p.1.sound pq → (g p).1.sound pq) :
    opt1Ok (o.map g) pq := by
  intro r e
  obtain ⟨p, hp, rfl⟩ := Option.map_eq_some_iff.1 e
  exact hg p (h p hp)

theorem foldlO1_sound {α β : Type} (g : Option (State × α) → β → Option (State × α)) (l : List β) (o : Option (State × α)) (h : opt1Ok o pq)
    (hg : ∀ o x, opt1Ok o pq → opt1Ok (g o x) pq) : opt1Ok (l.foldl g o) pq := by
  induction l generalizing o with
  | nil => exact h
  | cons a r ih => exact ih _ (hg o a h)

theorem foldlO_sound {β : Type} (g : Option State → β → Option State) (l : List β) (o : Option State) (h : optOk o pq)
    (hg : ∀ o x, optOk o pq → optOk (g o x) pq) : optOk (l.foldl g o) pq := by
  induction l generalizing o with
  | nil => exact h
  | cons a r ih => exact ih _ (hg o a h)

@[simp] theorem State.setR_sound (s : State) (i : ℕ) (r : Region) : (State.setR s i r).sound pq ↔ s.sound pq := Iff.rfl

@[simp] theorem State.updR_sound (s : State) (i : ℕ) (f : Region → Region) : (State.updR s i f).sound pq ↔ s.sound pq := Iff.rfl

@[simp] theorem State.setP_sound (s : State) (n : ℕ) (p : Partition) : (State.setP s n p).sound pq ↔ s.sound pq := Iff.rfl

@[simp] theorem State.updP_sound (s : State) (n : ℕ) (f : Partition → Partition) : (State.updP s n f).sound pq ↔ s.sound pq := Iff.rfl

@[simp] theorem State.updL_sound (s : State) (k : ℕ) (f : HostLink → HostLink) : (State.updL s k f).sound pq ↔ s.sound pq := Iff.rfl

@[simp] theorem State.updEp_sound (s : State) (e : Ep) (f : Endpoint → Endpoint) : (State.updEp s e f).sound pq ↔ s.sound pq := by simp only [State.sound, State.updEp_keeps]

@[simp] theorem State.emit_sound (s : State) (o : Output) : (State.emit s o).sound pq ↔ s.sound pq := Iff.rfl

@[simp] theorem State.takeFree_sound (s : State) (n : ℕ) : (State.takeFree s n).sound pq ↔ s.sound pq := Iff.rfl

@[simp] theorem State.postTo_sound (s : State) (ep : Ep) (e : Event) : (State.postTo s ep e).sound pq ↔ s.sound pq := by simp only [State.sound, State.postTo_keeps]

@[simp] theorem State.postModule_sound (s : State) (code : ℕ) (kind : ℕ) (src : ℕ) (data : ℕ) : (State.postModule s code kind src data).sound pq ↔ s.sound pq := by simp only [State.sound, State.postModule_keeps]

@[simp] theorem State.postPartKind_sound (s : State) (n : ℕ) (code : ℕ) (kind : ℕ) (src : ℕ) (data : ℕ) : (State.postPartKind s n code kind src data).sound pq ↔ s.sound pq := by simp only [State.sound, State.postPartKind_keeps]

@[simp] theorem State.postPart_sound (s : State) (n : ℕ) (code : ℕ) (data : ℕ) : (State.postPart s n code data).sound pq ↔ s.sound pq := by simp only [State.sound, State.postPart_keeps]

@[simp] theorem State.postLink_sound (s : State) (k : ℕ) (code : ℕ) (data : ℕ) : (State.postLink s k code data).sound pq ↔ s.sound pq := by simp only [State.sound, State.postLink_keeps]

@[simp] theorem State.writeReply_sound (s : State) (ep : Ep) (r : Reply) : (State.writeReply s ep r).sound pq ↔ s.sound pq := by simp only [State.sound, State.writeReply_keeps]

@[simp] theorem State.loseReply_sound (s : State) (ep : Ep) : (State.loseReply s ep).sound pq ↔ s.sound pq := by simp only [State.sound, State.loseReply_keeps]

@[simp] theorem State.replyDue_sound (s : State) (ep : Ep) (r : Reply) : (State.replyDue s ep r).sound pq ↔ s.sound pq := by simp only [State.sound, State.replyDue_keeps]

@[simp] theorem State.reply_sound (s : State) (m : Msg) (id : ℕ) (handler : ℕ) (result : ℕ) (payload : List Byte) : (State.reply s m id handler result payload).sound pq ↔ s.sound pq := by simp only [State.sound, State.reply_keeps]

@[simp] theorem State.setCore_sound (s : State) (c : CoreId) (x : Core) : (State.setCore s c x).sound pq ↔ s.sound pq := by simp only [State.sound, State.setCore_keeps]

@[simp] theorem State.takeMsg_sound (s : State) (id : ℕ) (m : Msg) : (State.takeMsg s id m).sound pq ↔ s.sound pq := by simp only [State.sound, State.takeMsg_keeps]

@[simp] theorem State.syncSet_sound (s : State) (o : ℕ) (v : W64) : (State.syncSet s o v).sound pq ↔ s.sound pq := by simp only [State.sound, State.syncSet_keeps]

@[simp] theorem State.syncAdd_sound (s : State) (o : ℕ) (v : W64) : (State.syncAdd s o v).sound pq ↔ s.sound pq := by simp only [State.sound, State.syncAdd_keeps]

@[simp] theorem State.updOp_sound (s : State) (i : ℕ) (f : Op → Op) : (State.updOp s i f).sound pq ↔ s.sound pq := Iff.rfl

@[simp] theorem State.delOp_sound (s : State) (i : ℕ) : (State.delOp s i).sound pq ↔ s.sound pq := Iff.rfl

@[simp] theorem State.endOp_sound (s : State) (i : ℕ) (status : ℕ) (detail : ℕ) : (State.endOp s i status detail).sound pq ↔ s.sound pq := by simp only [State.sound, State.endOp_keeps]

@[simp] theorem State.rejectOp_sound (s : State) (i : ℕ) (status : ℕ) (detail : ℕ) : (State.rejectOp s i status detail).sound pq ↔ s.sound pq := by simp only [State.sound, State.rejectOp_keeps]

@[simp] theorem State.drainRing_sound (s : State) (n : ℕ) (k : ℕ) : (State.drainRing s n k).sound pq ↔ s.sound pq := by simp only [State.sound, State.drainRing_keeps]

@[simp] theorem State.retireOp_sound (s : State) (o : Op) : (State.retireOp s o).sound pq ↔ s.sound pq := by simp only [State.sound, State.retireOp_keeps]

@[simp] theorem State.writeCompletion_sound (s : State) (o : Op) : (State.writeCompletion s o).sound pq ↔ s.sound pq := by simp only [State.sound, State.writeCompletion_keeps]

@[simp] theorem State.headerSignal_sound (s : State) (o : Op) : (State.headerSignal s o).sound pq ↔ s.sound pq := by simp only [State.sound, State.headerSignal_keeps]

@[simp] theorem State.completeOp_sound (s : State) (i : ℕ) : (State.completeOp s i).sound pq ↔ s.sound pq := by simp only [State.sound, State.completeOp_keeps]

@[simp] theorem State.releaseItem_sound (s : State) (ep : Ep) (x : Held) : (State.releaseItem s ep x).sound pq ↔ s.sound pq := by simp only [State.sound, State.releaseItem_keeps]

@[simp] theorem State.releaseHeld_sound (s : State) (ep : Ep) : (State.releaseHeld s ep).sound pq ↔ s.sound pq := by simp only [State.sound, State.releaseHeld_keeps]

@[simp] theorem State.releaseAll_sound (s : State) : (State.releaseAll s).sound pq ↔ s.sound pq := by simp only [State.sound, State.releaseAll_keeps]

@[simp] theorem State.beginReset_sound (s : State) (n : ℕ) (cause : ℕ) : (State.beginReset s n cause).sound pq ↔ s.sound pq := by simp only [State.sound, State.beginReset_keeps]

end Sys2Proof.Machine
end

