-- ==== Sys2Proof/Laws/SoundOps.lean ====
section
/-! SUPPORT. Each operation keeps the canonical form of the memories and the queue: the shared layers: operands, links, routes, rings, torus, tiers, clock, firmware, faults. -/

namespace Sys2Proof.Machine

open Host

variable {pq : List Instr}

@[simp] theorem State.setT_sound (s : State) (t : ℕ) (x : TileSt) : (State.setT s t x).sound pq ↔ s.sound pq := Iff.rfl

@[simp] theorem State.updT_sound (s : State) (t : ℕ) (f : TileSt → TileSt) : (State.updT s t f).sound pq ↔ s.sound pq := Iff.rfl

@[simp] theorem State.setGst_sound (s : State) (t : ℕ) (g : ℕ) (v : GState) : (State.setGst s t g v).sound pq ↔ s.sound pq := Iff.rfl

@[simp] theorem State.unitWrite_sound (s : State) (t a : Nat) (data : List Byte) (bad : Bool) (h : s.sound pq) : (s.unitWrite t a data bad).sound pq := by
  unfold State.unitWrite
  exact foldl_sound _ _ _ ⟨by simp [h.sram], h.slices, h.flash, h.pending⟩ (fun u x hu => by simp [hu])

@[simp] theorem State.sramPut_sound (s : State) (t a : Nat) (p : Piece) (h : s.sound pq) : (s.sramPut t a p).sound pq := by
  have h1 : ({ s with sram := s.sram.writeN (sramKey t a) p.data } : State).sound pq := ⟨by simp [h.sram], h.slices, h.flash, h.pending⟩
  unfold State.sramPut
  dsimp only
  split
  · exact (State.setGst_sound _ _ _ _).2 h1
  · exact foldl_sound _ _ _ h1 (fun u x hu => (State.setGst_sound _ _ _ _).2 hu)

@[simp] theorem State.updRun_sound (s : State) (i : ℕ) (f : RunState → RunState) : (State.updRun s i f).sound pq ↔ s.sound pq := by simp only [State.sound, State.updRun_keeps]

@[simp] theorem State.checkRun_sound (s : State) (i : ℕ) : (State.checkRun s i).sound pq ↔ s.sound pq := by simp only [State.sound, State.checkRun_keeps]

@[simp] theorem State.haltTile_sound (s : State) (t : ℕ) : (State.haltTile s t).sound pq ↔ s.sound pq := by simp only [State.sound, State.haltTile_keeps]

@[simp] theorem State.recordExc_sound (s : State) (i : ℕ) (t : ℕ) (code : ℕ) (queue : ℕ) (index : ℕ) (addr : ℕ) : (State.recordExc s i t code queue index addr).sound pq ↔ s.sound pq := by simp only [State.sound, State.recordExc_keeps]

@[simp] theorem State.blockAbort_sound (s : State) (i : ℕ) (t : ℕ) : (State.blockAbort s i t).sound pq ↔ s.sound pq := by simp only [State.sound, State.blockAbort_keeps]

@[simp] theorem State.raise_sound (s : State) (t : ℕ) (e : Exc) : (State.raise s t e).sound pq ↔ s.sound pq := by simp only [State.sound, State.raise_keeps]

@[simp] theorem State.sentPoison_sound (s : State) (t : ℕ) (off : ℕ) : (State.sentPoison s t off).sound pq ↔ s.sound pq := by simp only [State.sound, State.sentPoison_keeps]

@[simp] theorem State.issue_sound (s : State) (t : Nat) (reads writes accs : List Reg) (f : State → Nat → State) (h : s.sound pq)
    (hf : ∀ u i, u.sound pq → (f u i).sound pq) : (s.issue t reads writes accs f).sound pq := by
  unfold State.issue
  dsimp only
  (repeat' split) <;> simp [h, hf]

@[simp] theorem State.clean_sound (s : State) (t i : Nat) (regs : List Nat) (f : State) (h : s.sound pq) (hf : f.sound pq) :
    (s.clean t i regs f).sound pq := by
  unfold State.clean
  split <;> simp [h, hf]

@[simp] theorem State.illegal_sound (s : State) (t : ℕ) (i : ℕ) : (State.illegal s t i).sound pq ↔ s.sound pq := by simp only [State.sound, State.illegal_keeps]

@[simp] theorem State.setPort_sound (s : State) (p : ℕ) (x : Port) : (State.setPort s p x).sound pq ↔ s.sound pq := Iff.rfl

@[simp] theorem State.updPort_sound (s : State) (p : ℕ) (f : Port → Port) : (State.updPort s p f).sound pq ↔ s.sound pq := Iff.rfl

@[simp] theorem State.portPump_sound (s : State) (p : ℕ) : (State.portPump s p).sound pq ↔ s.sound pq := by simp only [State.sound, State.portPump_keeps]

@[simp] theorem State.portSend_sound (s : State) (p : ℕ) (ch : ℕ) (key : W16) (poison : Bool) (b : List Byte) : (State.portSend s p ch key poison b).sound pq ↔ s.sound pq := by simp only [State.sound, State.portSend_keeps]

@[simp] theorem State.protoSend_sound (s : State) (p : ℕ) (ch : ℕ) (mtype : ℕ) (reqId : ℕ) (server : ℕ) (status : ℕ) (spec : List Byte) (payload : List Byte) : (State.protoSend s p ch mtype reqId server status spec payload).sound pq ↔ s.sound pq := by simp only [State.sound, State.protoSend_keeps]

@[simp] theorem State.countFlits_sound (s : State) (hops : List (ℕ × ℕ)) (n : ℕ) : (State.countFlits s hops n).sound pq ↔ s.sound pq := by simp only [State.sound, State.countFlits_keeps]

@[simp] theorem State.ringError_sound (s : State) (n : ℕ) (k : ℕ) (cause : ℕ) : (State.ringError s n k cause).sound pq ↔ s.sound pq := by simp only [State.sound, State.ringError_keeps]

@[simp] theorem State.sqEnable_sound (s : State) (n : ℕ) (k : ℕ) : (State.sqEnable s n k).sound pq ↔ s.sound pq := by simp only [State.sound, State.sqEnable_keeps]

@[simp] theorem State.cancelRing_sound (s : State) (n : ℕ) (k : ℕ) (detail : ℕ) : (State.cancelRing s n k detail).sound pq ↔ s.sound pq := by simp only [State.sound, State.cancelRing_keeps]

@[simp] theorem State.sqDisable_sound (s : State) (n : ℕ) (k : ℕ) : (State.sqDisable s n k).sound pq ↔ s.sound pq := by simp only [State.sound, State.sqDisable_keeps]

@[simp] theorem State.dropDoorbell_sound (s : State) (n : ℕ) (k : ℕ) (which : ℕ) (value : ℕ) : (State.dropDoorbell s n k which value).sound pq ↔ s.sound pq := by simp only [State.sound, State.dropDoorbell_keeps]

@[simp] theorem State.sqTail_sound (s : State) (n : ℕ) (k : ℕ) (v : W16) : (State.sqTail s n k v).sound pq ↔ s.sound pq := by simp only [State.sound, State.sqTail_keeps]

@[simp] theorem State.cqHead_sound (s : State) (n : ℕ) (k : ℕ) (v : W16) : (State.cqHead s n k v).sound pq ↔ s.sound pq := by simp only [State.sound, State.cqHead_keeps]

@[simp] theorem State.admitOp_sound (s : State) (n : ℕ) (k : ℕ) (desc : BitVec 512) (ext : List Byte) : (State.admitOp s n k desc ext).sound pq ↔ s.sound pq := by simp only [State.sound, State.admitOp_keeps]

@[simp] theorem State.startOp_sound (s : State) (o : Op) : (State.startOp s o).sound pq ↔ s.sound pq := by simp only [State.sound, State.startOp_keeps]

@[simp] theorem State.onOp_sound (s : State) (i opcode : Nat) (f : Op → State) (h : s.sound pq) (hf : ∀ o, (f o).sound pq) :
    (s.onOp i opcode f).sound pq := by
  unfold State.onOp
  (repeat' split) <;> simp [h, hf]

@[simp] theorem State.refresh_sound (s : State) (ep : Ep) (overs : Bool) : (State.refresh s ep overs).sound pq ↔ s.sound pq := by simp only [State.sound, State.refresh_keeps]

@[simp] theorem State.setBme_sound (s : State) (fn : Fn) (v : Bool) : (State.setBme s fn v).sound pq ↔ s.sound pq := by simp only [State.sound, State.setBme_keeps]

@[simp] theorem State.pfFlr_sound (s : State) (k : Fin 4) : (State.pfFlr s k).sound pq ↔ s.sound pq := by simp only [State.sound, State.pfFlr_keeps]

@[simp] theorem State.updTor_sound (s : State) (f : Torus → Torus) : (State.updTor s f).sound pq ↔ s.sound pq := Iff.rfl

@[simp] theorem State.updTp_sound (s : State) (k : ℕ) (f : TPort → TPort) : (State.updTp s k f).sound pq ↔ s.sound pq := Iff.rfl

@[simp] theorem State.postMismatch_sound (s : State) (k : ℕ) : (State.postMismatch s k).sound pq ↔ s.sound pq := by simp only [State.sound, State.postMismatch_keeps]

@[simp] theorem State.compareNeighbour_sound (s : State) (k : ℕ) : (State.compareNeighbour s k).sound pq ↔ s.sound pq := by simp only [State.sound, State.compareNeighbour_keeps]

@[simp] theorem State.torusUp_sound (s : State) (k : ℕ) : (State.torusUp s k).sound pq ↔ s.sound pq := by simp only [State.sound, State.torusUp_keeps]

@[simp] theorem State.releaseTport_sound (s : State) (k : ℕ) : (State.releaseTport s k).sound pq ↔ s.sound pq := by simp only [State.sound, State.releaseTport_keeps]

@[simp] theorem State.pruneKeys_sound (s : State) : (State.pruneKeys s).sound pq ↔ s.sound pq := by simp only [State.sound, State.pruneKeys_keeps]

@[simp] theorem State.throttleSync_sound (s : State) (n : ℕ) : (State.throttleSync s n).sound pq ↔ s.sound pq := by simp only [State.sound, State.throttleSync_keeps]

@[simp] theorem State.throttleAll_sound (s : State) : (State.throttleAll s).sound pq ↔ s.sound pq := by simp only [State.sound, State.throttleAll_keeps]

@[simp] theorem State.torEnqueue_sound (s : State) (k : ℕ) (p : TorPkt) : (State.torEnqueue s k p).sound pq ↔ s.sound pq := by simp only [State.sound, State.torEnqueue_keeps]

@[simp] theorem State.torSend_sound (s : State) (p : TorPkt) (h : s.sound pq) : optOk (State.torSend s p) pq := by
  unfold State.torSend
  repeat' first
    | with_reducible assumption
    | split
    | simp only [State.torEnqueue_sound, optOk_some, optOk_none]

@[simp] theorem State.torDrop_sound (s : State) (k : ℕ) (kind : ℕ) : (State.torDrop s k kind).sound pq ↔ s.sound pq := by simp only [State.sound, State.torDrop_keeps]

@[simp] theorem State.portKeyDrop_sound (s : State) (p : ℕ) (ch : ℕ) (key : W16) : (State.portKeyDrop s p ch key).sound pq ↔ s.sound pq := by simp only [State.sound, State.portKeyDrop_keeps]

@[simp] theorem State.torFlush_sound (s : State) (n : ℕ) : (State.torFlush s n).sound pq ↔ s.sound pq := by simp only [State.sound, State.torFlush_keeps]

@[simp] theorem State.torusDown_sound (s : State) (k : ℕ) : (State.torusDown s k).sound pq ↔ s.sound pq := by simp only [State.sound, State.torusDown_keeps]

@[simp] theorem State.applyRoutes_sound (s : State) (l : List (ℕ × W16)) : (State.applyRoutes s l).sound pq ↔ s.sound pq := by simp only [State.sound, State.applyRoutes_keeps]

@[simp] theorem State.applyKeys_sound (s : State) (tick : ℕ) (l : List TorKey) : (State.applyKeys s tick l).sound pq ↔ s.sound pq := by simp only [State.sound, State.applyKeys_keeps]

/-- The state the answer carries, if it carries one, is sound. -/
def RangeWrite.sound : RangeWrite → List Instr → Prop
  | .done s _, pq => s.sound pq
  | .quota s, pq => s.sound pq
  | .refused, _ => True

@[simp] theorem RangeWrite.sound_done (s : State) (b : Bool) : (RangeWrite.done s b).sound pq ↔ s.sound pq := Iff.rfl

@[simp] theorem RangeWrite.sound_quota (s : State) : (RangeWrite.quota s).sound pq ↔ s.sound pq := Iff.rfl

@[simp] theorem RangeWrite.sound_refused : RangeWrite.refused.sound pq ↔ True := Iff.rfl

theorem RangeWrite.sound.done {o : RangeWrite} {s : State} {b : Bool} (h : o.sound pq) (e : o = .done s b) : s.sound pq := by subst e; exact h

theorem RangeWrite.sound.quota {o : RangeWrite} {s : State} (h : o.sound pq) (e : o = .quota s) : s.sound pq := by subst e; exact h

@[simp] theorem State.setSgst_sound (s : State) (t : ℕ) (g : ℕ) (v : GState) : (State.setSgst s t g v).sound pq ↔ s.sound pq := Iff.rfl

@[simp] theorem State.touchSlot_sound (s : State) (t off : Nat) (h : s.sound pq) : (s.touchSlot t off).sound pq := by
  unfold State.touchSlot
  dsimp only
  split
  · exact h
  · exact (State.updR_sound _ _ _).2 ⟨h.sram, by simp [h.slices], h.flash, h.pending⟩

@[simp] theorem State.slicePut_sound (s : State) (t off : Nat) (p : Piece) (h : s.sound pq) : (s.slicePut t off p).1.sound pq := by
  have h0 := State.touchSlot_sound s t off h
  have h1 : ({ s.touchSlot t off with slices := (s.touchSlot t off).slices.writeN (sliceKey t off) p.data } : State).sound pq :=
    ⟨h0.sram, by simp [h0.slices], h0.flash, h0.pending⟩
  unfold State.slicePut
  dsimp only
  split
  · split <;> exact (State.setSgst_sound _ _ _ _).2 h1
  · exact foldl_sound _ _ _ h1 (fun u x hu => (State.setSgst_sound _ _ _ _).2 hu)

@[simp] theorem State.zeroPage_sound (s : State) (ppa : Nat) (h : s.sound pq) : (s.zeroPage ppa).sound pq := by
  unfold State.zeroPage
  exact foldl_sound _ _ _ h (fun u x hu => ⟨(State.touchSlot_sound u _ _ hu).sram, by simp [hu.slices], (State.touchSlot_sound u _ _ hu).flash, (State.touchSlot_sound u _ _ hu).pending⟩)

@[simp] theorem State.updM_sound (s : State) (n : ℕ) (f : PartMem → PartMem) : (State.updM s n f).sound pq ↔ s.sound pq := Iff.rfl

@[simp] theorem State.setPte_sound (s : State) (n : ℕ) (page : ℕ) (e : Pte) : (State.setPte s n page e).sound pq ↔ s.sound pq := Iff.rfl

@[simp] theorem State.quotaCheck_sound (s : State) (n : ℕ) : (State.quotaCheck s n).sound pq ↔ s.sound pq := by simp only [State.sound, State.quotaCheck_keeps]

@[simp] theorem State.freeSlot_sound (s : State) (ppa : ℕ) : (State.freeSlot s ppa).sound pq ↔ s.sound pq := by simp only [State.sound, State.freeSlot_keeps]

@[simp] theorem State.discardCopy_sound (s : State) (n : ℕ) (page : ℕ) : (State.discardCopy s n page).sound pq ↔ s.sound pq := by simp only [State.sound, State.discardCopy_keeps]

theorem State.takePage_sound (s : State) (n : Nat) (pref : Option Nat) (protect : List Nat) (h : s.sound pq) :
    opt1Ok (s.takePage n pref protect) pq := by
  intro r hu
  cases hl : (s.pt n).mem.limitT1 <;> simp only [State.takePage, hl, reduceCtorEq, or_false, or_true, if_true] at hu <;>
    (repeat' split at hu) <;>
    first
    | (obtain ⟨p, -, rfl⟩ := Option.map_eq_some_iff.1 hu
       simp [h]; done)
    | cases hu

@[simp] theorem State.markRead_sound (s : State) (n : ℕ) (a : ℕ) (h : s.sound pq) : (State.markRead s n a).sound pq := by
  unfold State.markRead
  repeat' first
    | with_reducible assumption
    | split
    | with_reducible apply State.touchSlot_sound
    | simp only [State.setPte_sound]
    | simp only [State.sound_mk]
    | with_reducible refine ⟨?_, ?_, ?_, ?_⟩
    | with_reducible refine State.sound.sram (?_ : State.sound _ pq)
    | with_reducible refine State.sound.slices (?_ : State.sound _ pq)
    | with_reducible refine State.sound.flash (?_ : State.sound _ pq)
    | with_reducible refine State.sound.pending (?_ : State.sound _ pq)

@[simp] theorem State.dropPassed_sound (s : State) (w : Waiter) (keep : Option ChunkKey) : (State.dropPassed s w keep).sound pq ↔ s.sound pq := by simp only [State.sound, State.dropPassed_keeps]

@[simp] theorem State.updFetch_sound (s : State) (k : ChunkKey) (f : Fetch → Fetch) : (State.updFetch s k f).sound pq ↔ s.sound pq := Iff.rfl

@[simp] theorem State.sendReq_sound (s : State) (k : ChunkKey) : (State.sendReq s k).sound pq ↔ s.sound pq := by simp only [State.sound, State.sendReq_keeps]

@[simp] theorem State.sendWaiting_sound (s : State) : (State.sendWaiting s).sound pq ↔ s.sound pq := by simp only [State.sound, State.sendWaiting_keeps]

@[simp] theorem State.keepPage_sound (s : State) (n page : Nat) (pref : Option Nat) (h : s.sound pq) : (s.keepPage n page pref).1.sound pq := by
  unfold State.keepPage
  split
  · split
    · exact h
    · split
      · exact h
      · split
        · next hp => exact (State.setPte_sound _ _ _ _).2 ((State.takePage_sound _ _ _ _ h).some hp)
        · exact h
  · exact h

@[simp] theorem State.stallSync_sound (s : State) : (State.stallSync s).sound pq ↔ s.sound pq := by simp only [State.sound, State.stallSync_keeps]

@[simp] theorem State.stallReport_sound (s : State) (n : ℕ) (cause : ℕ) : (State.stallReport s n cause).sound pq ↔ s.sound pq := by simp only [State.sound, State.stallReport_keeps]

@[simp] theorem State.fetchChunk_sound (s : State) (n : ℕ) (k : ChunkKey) (page : Option ℕ) (w : Waiter) (pref : Option ℕ) (h : s.sound pq) : (State.fetchChunk s n k page w pref).sound pq := by
  unfold State.fetchChunk
  repeat' first
    | with_reducible assumption
    | split
    | with_reducible apply State.keepPage_sound
    | simp only [State.sendReq_sound, State.stallSync_sound, State.updFetch_sound]
    | simp only [State.sound_mk]
    | with_reducible refine ⟨?_, ?_, ?_, ?_⟩
    | with_reducible refine State.sound.sram (?_ : State.sound _ pq)
    | with_reducible refine State.sound.slices (?_ : State.sound _ pq)
    | with_reducible refine State.sound.flash (?_ : State.sound _ pq)
    | with_reducible refine State.sound.pending (?_ : State.sound _ pq)

@[simp] theorem State.snapBefore_sound (s : State) (n : ℕ) (a : ℕ) : (State.snapBefore s n a).sound pq ↔ s.sound pq := by simp only [State.sound, State.snapBefore_keeps]

@[simp] theorem State.countCheck_sound (s : State) (n : ℕ) (ok : Bool) : (State.countCheck s n ok).sound pq ↔ s.sound pq := by simp only [State.sound, State.countCheck_keeps]

@[simp] theorem State.failAlloc_sound (s : State) (n : ℕ) : (State.failAlloc s n).sound pq ↔ s.sound pq := by simp only [State.sound, State.failAlloc_keeps]

@[simp] theorem State.rangeWrite_sound (s : State) (n a : Nat) (p : Piece) (pref : Option Nat) (h : s.sound pq) : RangeWrite.sound (State.rangeWrite s n a p pref) pq := by
  unfold State.rangeWrite
  repeat' first
    | with_reducible assumption
    | split
    | with_reducible apply State.slicePut_sound
    | with_reducible apply State.takePage_sound
    | with_reducible apply State.zeroPage_sound
    | refine opt1Ok.some ?_ (by with_reducible assumption)
    | simp only [State.countCheck_sound, State.failAlloc_sound, State.setPte_sound, State.snapBefore_sound, RangeWrite.sound_done, RangeWrite.sound_quota, RangeWrite.sound_refused]

@[simp] theorem State.updCad_sound (s : State) (f : Cadence → Cadence) : (State.updCad s f).sound pq ↔ s.sound pq := Iff.rfl

@[simp] theorem State.postAcquired_sound (s : State) : (State.postAcquired s).sound pq ↔ s.sound pq := by simp only [State.sound, State.postAcquired_keeps]

@[simp] theorem State.measure_sound (s : State) (off : ℤ) : (State.measure s off).sound pq ↔ s.sound pq := by simp only [State.sound, State.measure_keeps]

@[simp] theorem State.markTimely_sound (s : State) : (State.markTimely s).sound pq ↔ s.sound pq := by simp only [State.sound, State.markTimely_keeps]

@[simp] theorem State.tickEdge_sound (s : State) (source : W64) (residual : ℤ) : (State.tickEdge s source residual).sound pq ↔ s.sound pq := by simp only [State.sound, State.tickEdge_keeps]

@[simp] theorem State.loseSource_sound (s : State) (port : Option ℕ) : (State.loseSource s port).sound pq ↔ s.sound pq := by simp only [State.sound, State.loseSource_keeps]

@[simp] theorem State.startLocal_sound (s : State) (v : W64) : (State.startLocal s v).sound pq ↔ s.sound pq := by simp only [State.sound, State.startLocal_keeps]

@[simp] theorem State.setSourceMode_sound (s : State) (mode : BitVec 2) : (State.setSourceMode s mode).sound pq ↔ s.sound pq := by simp only [State.sound, State.setSourceMode_keeps]

@[simp] theorem State.setLocal_sound (s : State) (v : W64) : (State.setLocal s v).sound pq ↔ s.sound pq := by simp only [State.sound, State.setLocal_keeps]

@[simp] theorem State.openCrossings_sound (s : State) (r : ℕ) : (State.openCrossings s r).sound pq ↔ s.sound pq := by simp only [State.sound, State.openCrossings_keeps]

@[simp] theorem State.enterClass_sound (s : State) (r : ℕ) (c : ℕ) : (State.enterClass s r c).sound pq ↔ s.sound pq := by simp only [State.sound, State.enterClass_keeps]

@[simp] theorem State.pull_sound (s : State) (r : ℕ) (lull : Bool) : (State.pull s r lull).sound pq ↔ s.sound pq := by simp only [State.sound, State.pull_keeps]

@[simp] theorem State.ripple_sound (s : State) (lull : Bool) (n : Nat) (h : s.sound pq) : (s.ripple lull n).sound pq := by
  induction n generalizing s with
  | zero => exact h
  | succ k ih =>
    unfold State.ripple
    generalize List.range 144 = l
    exact ih _ (foldl_sound _ _ _ h (fun u x hu => (State.pull_sound _ _ _).2 hu))

@[simp] theorem State.slowTo_sound (s : State) (r : ℕ) (c : ℕ) (lull : Bool) (h : s.sound pq) : (State.slowTo s r c lull).sound pq := by
  unfold State.slowTo
  repeat' first
    | with_reducible assumption
    | with_reducible apply State.ripple_sound
    | simp only [State.enterClass_sound]

@[simp] theorem State.enterLull_sound (s : State) (r : ℕ) (h : s.sound pq) : (State.enterLull s r).sound pq := by
  unfold State.enterLull
  repeat' first
    | with_reducible assumption
    | split
    | with_reducible apply State.slowTo_sound
    | simp only [State.updR_sound]

@[simp] theorem State.leaveLull_sound (s : State) (r : ℕ) : (State.leaveLull s r).sound pq ↔ s.sound pq := by simp only [State.sound, State.leaveLull_keeps]

@[simp] theorem State.updFw_sound (s : State) (f : Firmware → Firmware) : (State.updFw s f).sound pq ↔ s.sound pq := Iff.rfl

@[simp] theorem State.updMgt_sound (s : State) (f : Carrier → Carrier) : (State.updMgt s f).sound pq ↔ s.sound pq := Iff.rfl

@[simp] theorem State.updMbx_sound (s : State) (ep : Ep) (f : Mailbox → Mailbox) : (State.updMbx s ep f).sound pq ↔ s.sound pq := by simp only [State.sound, State.updMbx_keeps]

@[simp] theorem State.logRecord_sound (s : State) (kind : ℕ) (data : ℕ) : (State.logRecord s kind data).sound pq ↔ s.sound pq := by simp only [State.sound, State.logRecord_keeps]

@[simp] theorem State.enqueue_sound (s : State) (h : Handler) (q : Queued) : (State.enqueue s h q).sound pq ↔ s.sound pq := by simp only [State.sound, State.enqueue_keeps]

@[simp] theorem State.engineReply_sound (s : State) (ep : Ep) (id : ℕ) (disp : ℕ) (result : ℕ) (tag : W32) (reqHead : W16) (payload : List Byte) : (State.engineReply s ep id disp result tag reqHead payload).sound pq ↔ s.sound pq := by simp only [State.sound, State.engineReply_keeps]

@[simp] theorem State.acceptMsg_sound (s : State) (f : Fin 16) (bytes : Option (List Byte)) : (State.acceptMsg s f bytes).sound pq ↔ s.sound pq := by simp only [State.sound, State.acceptMsg_keeps]

@[simp] theorem State.runImage_sound (s : State) (kind : ℕ) (slot : Bool) : (State.runImage s kind slot).sound pq ↔ s.sound pq := by simp only [State.sound, State.runImage_keeps]

@[simp] theorem State.moveAuth_sound (s : State) (c : CoreId) (v : BitVec 2) : (State.moveAuth s c v).sound pq ↔ s.sound pq := by simp only [State.sound, State.moveAuth_keeps]

@[simp] theorem State.postRegion_sound (s : State) (r : ℕ) (code : ℕ) (data : ℕ) : (State.postRegion s r code data).sound pq ↔ s.sound pq := by simp only [State.sound, State.postRegion_keeps]

@[simp] theorem State.addRecord_sound (s : State) (r : ℕ) (kind : ℕ) (tile : Option (ℕ × ℕ)) (addr : ℕ) : (State.addRecord s r kind tile addr).sound pq ↔ s.sound pq := by simp only [State.sound, State.addRecord_keeps]

@[simp] theorem State.failCore_sound (s : State) (c : CoreId) (cause : ℕ) : (State.failCore s c cause).sound pq ↔ s.sound pq := by simp only [State.sound, State.failCore_keeps]

@[simp] theorem State.beginRestart_sound (s : State) (c : CoreId) (cause : ℕ) (ms : ℕ) (slot : Bool) (dump : Bool) (pc : W32) (cmd : Option Msg) : (State.beginRestart s c cause ms slot dump pc cmd).sound pq ↔ s.sound pq := by simp only [State.sound, State.beginRestart_keeps]

@[simp] theorem State.cause_sound (s : State) (c : CoreId) (cause : ℕ) (ms : ℕ) (pc : W32) : (State.cause s c cause ms pc).sound pq ↔ s.sound pq := by simp only [State.sound, State.cause_keeps]

@[simp] theorem State.freePlaces_sound (s : State) : (State.freePlaces s).sound pq ↔ s.sound pq := by simp only [State.sound, State.freePlaces_keeps]

@[simp] theorem State.flushRegion_sound (s : State) (r : ℕ) : (State.flushRegion s r).sound pq ↔ s.sound pq := by simp only [State.sound, State.flushRegion_keeps]

@[simp] theorem State.writeWdog_sound (s : State) (v : W64) : (State.writeWdog s v).sound pq ↔ s.sound pq := by simp only [State.sound, State.writeWdog_keeps]

@[simp] theorem State.writeDumpSel_sound (s : State) (k : ℕ) (v : W64) : (State.writeDumpSel s k v).sound pq ↔ s.sound pq := by simp only [State.sound, State.writeDumpSel_keeps]

@[simp] theorem State.readDumpData_sound (s : State) (k : Fin 4) (off : BitVec 24) (size : ℕ) : (State.readDumpData s k off size).sound pq ↔ s.sound pq := by simp only [State.sound, State.readDumpData_keeps]

@[simp] theorem State.addKnown_sound (s : State) (r : ℕ) (ij : ℕ × ℕ) (row : ℕ) : (State.addKnown s r ij row).sound pq ↔ s.sound pq := by simp only [State.sound, State.addKnown_keeps]

@[simp] theorem State.tileFault_sound (s : State) (t : ℕ) (row : ℕ) : (State.tileFault s t row).sound pq ↔ s.sound pq := by simp only [State.sound, State.tileFault_keeps]

@[simp] theorem State.sramEcc_sound (s : State) (t : ℕ) (a : ℕ) (f : EccFind) : (State.sramEcc s t a f).sound pq ↔ s.sound pq := by simp only [State.sound, State.sramEcc_keeps]

@[simp] theorem State.sliceEcc_sound (s : State) (t : ℕ) (off : ℕ) (f : EccFind) : (State.sliceEcc s t off f).sound pq ↔ s.sound pq := by simp only [State.sound, State.sliceEcc_keeps]

@[simp] theorem State.logicFault_sound (s : State) (t : ℕ) (a : ℕ) : (State.logicFault s t a).sound pq ↔ s.sound pq := by simp only [State.sound, State.logicFault_keeps]

end Sys2Proof.Machine
end

