-- ==== Sys2Proof/Laws/SoundTile.lean ====
section
/-! SUPPORT. Each operation keeps the canonical form of the memories and the queue: the units of a tile and its queues. -/

namespace Sys2Proof.Machine

open Host

variable {pq : List Instr}

/-- The state an outcome carries, if it carries one, is sound. -/
def Eff.sound : Eff → List Instr → Prop
  | .done s _ _, pq => s.sound pq
  | .wait s, pq => s.sound pq
  | .exc _, _ => True

@[simp] theorem Eff.sound_done (s : State) (fl : Fl) (x : Option Nat) : (Eff.done s fl x).sound pq ↔ s.sound pq := Iff.rfl

@[simp] theorem Eff.sound_wait (s : State) : (Eff.wait s).sound pq ↔ s.sound pq := Iff.rfl

@[simp] theorem Eff.sound_exc (e : QExc) : (Eff.exc e).sound pq ↔ True := Iff.rfl

@[simp] theorem Eff.sound_excMisaligned (a : Nat) : (excMisaligned a).sound pq ↔ True := Iff.rfl

@[simp] theorem Eff.sound_excRange (a : Nat) : (excRange a).sound pq ↔ True := Iff.rfl

@[simp] theorem Eff.sound_excProgram (a : Nat) : (excProgram a).sound pq ↔ True := Iff.rfl

@[simp] theorem Eff.sound_excTileRange (a : Nat) : (excTileRange a).sound pq ↔ True := Iff.rfl

@[simp] theorem Eff.sound_excTapConfig (a : Nat) : (excTapConfig a).sound pq ↔ True := Iff.rfl

@[simp] theorem Eff.sound_excPoison : excPoison.sound pq ↔ True := Iff.rfl

@[simp] theorem Eff.sound_tile (s : State) (t : Nat) (r : TileSt × Fl) : (Eff.tile s t r).sound pq ↔ s.sound pq := Iff.rfl

/-- The exception a check answers, if any, carries no state. -/
def effOk (o : Option Eff) (pq : List Instr) : Prop := ∀ e, o = some e → e.sound pq

@[simp] theorem effOk_some (e : Eff) : effOk (some e) pq ↔ e.sound pq := ⟨fun h => h e rfl, fun h u q => by cases q; exact h⟩

@[simp] theorem effOk_none : effOk none pq ↔ True := ⟨fun _ => trivial, fun _ u q => by cases q⟩

theorem effOk.some {o : Option Eff} {e : Eff} (h : effOk o pq) (q : o = some e) : e.sound pq := h e q

theorem Eff.sound.done {o : Eff} {s : State} {fl : Fl} {x : Option Nat} (h : o.sound pq) (e : o = .done s fl x) : s.sound pq := by subst e; exact h

theorem Eff.sound.wait {o : Eff} {s : State} (h : o.sound pq) (e : o = .wait s) : s.sound pq := by subst e; exact h

@[simp] theorem TileSt.sramCheck_sound (x : TileSt) (a n align : Nat) (write : Bool) : effOk (TileSt.sramCheck x a n align write) pq := by
  unfold TileSt.sramCheck
  repeat' first
    | split
    | simp only [Eff.sound_excMisaligned, Eff.sound_excRange, Eff.sound_excProgram, effOk_some, effOk_none]

@[simp] theorem State.ld_sound (s : State) (t : Nat) (m : MemArgs) (h : s.sound pq) : Eff.sound (State.ld s t m) pq := by
  unfold State.ld
  repeat' first
    | with_reducible assumption
    | split
    | with_reducible apply TileSt.sramCheck_sound
    | refine effOk.some ?_ (by with_reducible assumption)
    | simp only [State.setT_sound, Eff.sound_done]

@[simp] theorem State.st_sound (s : State) (t : Nat) (m : MemArgs) (h : s.sound pq) : Eff.sound (State.st s t m) pq := by
  unfold State.st
  repeat' first
    | with_reducible assumption
    | split
    | with_reducible apply State.unitWrite_sound
    | with_reducible apply TileSt.sramCheck_sound
    | refine effOk.some ?_ (by with_reducible assumption)
    | simp only [State.setT_sound, Eff.sound_done]

@[simp] theorem State.vld_sound (s : State) (t : Nat) (m : MemArgs) (h : s.sound pq) : Eff.sound (State.vld s t m) pq := by
  unfold State.vld
  repeat' first
    | with_reducible assumption
    | split
    | with_reducible apply TileSt.sramCheck_sound
    | refine effOk.some ?_ (by with_reducible assumption)
    | simp only [State.setT_sound, Eff.sound_done]

@[simp] theorem State.vst_sound (s : State) (t : Nat) (m : MemArgs) (h : s.sound pq) : Eff.sound (State.vst s t m) pq := by
  unfold State.vst
  repeat' first
    | with_reducible assumption
    | split
    | with_reducible apply State.unitWrite_sound
    | with_reducible apply TileSt.sramCheck_sound
    | refine effOk.some ?_ (by with_reducible assumption)
    | simp only [State.setT_sound, Eff.sound_done]

@[simp] theorem operandCheck_sound (l : List (Nat × Nat)) (align : Nat) : effOk (operandCheck l align) pq := by
  unfold operandCheck
  repeat' first
    | split
    | simp only [Eff.sound_excMisaligned, Eff.sound_excRange, effOk_some, effOk_none]

@[simp] theorem State.tmma_sound (s : State) (t : Nat) (a : MmArgs) (h : s.sound pq) : Eff.sound (State.tmma s t a) pq := by
  unfold State.tmma
  repeat' first
    | with_reducible assumption
    | split
    | with_reducible apply operandCheck_sound
    | refine effOk.some ?_ (by with_reducible assumption)
    | simp only [State.setT_sound, Eff.sound_done]

@[simp] theorem State.tzero_sound (s : State) (t : Nat) (mask : BitVec 4) (h : s.sound pq) : Eff.sound (State.tzero s t mask) pq := by
  unfold State.tzero
  repeat' first
    | with_reducible assumption
    | simp only [State.updT_sound, Eff.sound_done]

@[simp] theorem State.tdrain_sound (s : State) (t : Nat) (e : QEntry) (d : DrainArgs) (h : s.sound pq) : Eff.sound (State.tdrain s t e d) pq := by
  unfold State.tdrain
  repeat' first
    | with_reducible assumption
    | split
    | with_reducible apply State.unitWrite_sound
    | with_reducible apply TileSt.sramCheck_sound
    | with_reducible refine foldl1_sound _ _ _ ?_ (fun _ _ _ => ?_)
    | refine effOk.some ?_ (by with_reducible assumption)
    | simp only [State.updT_sound, Eff.sound_done]

@[simp] theorem State.twadd_sound (s : State) (t : Nat) (aa : BitVec 4) (acc : BitVec 2) (h : s.sound pq) : Eff.sound (State.twadd s t aa acc) pq := by
  unfold State.twadd
  repeat' first
    | with_reducible assumption
    | split
    | with_reducible apply TileSt.sramCheck_sound
    | refine effOk.some ?_ (by with_reducible assumption)
    | simp only [State.setT_sound, Eff.sound_done]

@[simp] theorem State.smma_sound (s : State) (t : Nat) (a : MmArgs) (h : s.sound pq) : Eff.sound (State.smma s t a) pq := by
  unfold State.smma
  repeat' first
    | with_reducible assumption
    | split
    | with_reducible apply operandCheck_sound
    | refine effOk.some ?_ (by with_reducible assumption)
    | simp only [State.setT_sound, Eff.sound_done, Eff.sound_excRange]

@[simp] theorem State.ccfg_sound (s : State) (t : Nat) (ar : BitVec 4) (h : s.sound pq) : Eff.sound (State.ccfg s t ar) pq := by
  unfold State.ccfg
  repeat' first
    | with_reducible assumption
    | split
    | with_reducible apply TileSt.sramCheck_sound
    | refine effOk.some ?_ (by with_reducible assumption)
    | simp only [State.setT_sound, Eff.sound_done, Eff.sound_excTapConfig]

@[simp] theorem State.putLine_sound (s : State) (t : ℕ) (kind : ℕ) (a : ℕ) (d : List Byte) (bad : Bool) (h : s.sound pq) : (State.putLine s t kind a d bad).sound pq := by
  unfold State.putLine
  repeat' first
    | with_reducible assumption
    | split
    | with_reducible apply State.rangeWrite_sound
    | with_reducible apply State.slicePut_sound
    | with_reducible apply State.unitWrite_sound
    | refine RangeWrite.sound.done ?_ (by with_reducible assumption)
    | refine RangeWrite.sound.quota ?_ (by with_reducible assumption)
    | dsimp only

@[simp] theorem State.spill_sound (s : State) (t : Nat) (v : HashEntry) (h : s.sound pq) : optOk (State.spill s t v) pq := by
  unfold State.spill
  repeat' first
    | with_reducible assumption
    | split
    | with_reducible apply State.putLine_sound
    | simp only [State.updT_sound, optOk_some, optOk_none]

@[simp] theorem State.haccLane_sound (s : State) (t : Nat) (key val : W32) (bad : Bool) (h : s.sound pq) : opt1Ok (State.haccLane s t key val bad) pq := by
  unfold State.haccLane
  repeat' first
    | with_reducible assumption
    | split
    | with_reducible apply State.spill_sound
    | refine optOk.some ?_ (by with_reducible assumption)
    | simp only [State.updT_sound, opt1Ok_some, opt1Ok_none]

@[simp] theorem State.hashWait_sound (s : State) (t : Nat) (h : s.sound pq) : Eff.sound (State.hashWait s t) pq := by
  unfold State.hashWait
  repeat' first
    | with_reducible assumption
    | simp only [State.stallSync_sound, State.updT_sound, Eff.sound_wait]

@[simp] theorem State.hacc_sound (s : State) (t : Nat) (v : VArgs) (h : s.sound pq) : Eff.sound (State.hacc s t v) pq := by
  unfold State.hacc
  repeat' first
    | with_reducible assumption
    | split
    | with_reducible apply State.haccLane_sound
    | with_reducible apply State.hashWait_sound
    | with_reducible refine foldlO1_sound _ _ _ ?_ (fun _ _ _ => ?_)
    | exact (opt1Ok_some _ _).1 (by with_reducible assumption)
    | with_reducible refine opt1Ok_map ?_ (fun _ _ => ?_)
    | refine opt1Ok.some ?_ (by with_reducible assumption)
    | simp only [opt1Ok_some]

@[simp] theorem State.hget_sound (s : State) (t : Nat) (v : VArgs) (h : s.sound pq) : Eff.sound (State.hget s t v) pq := by
  unfold State.hget
  repeat' first
    | with_reducible assumption
    | split
    | with_reducible apply State.hashWait_sound
    | simp only [State.setT_sound, Eff.sound_done]

@[simp] theorem State.hcfg_sound (s : State) (t : Nat) (aa : BitVec 4) (h : s.sound pq) : Eff.sound (State.hcfg s t aa) pq := by
  unfold State.hcfg
  repeat' first
    | with_reducible assumption
    | split
    | with_reducible apply TileSt.sramCheck_sound
    | refine effOk.some ?_ (by with_reducible assumption)
    | simp only [State.setT_sound, Eff.sound_done, Eff.sound_excTapConfig]

@[simp] theorem State.hclr_sound (s : State) (t : Nat) (h : s.sound pq) : Eff.sound (State.hclr s t) pq := by
  unfold State.hclr
  repeat' first
    | with_reducible assumption
    | simp only [State.updT_sound, Eff.sound_done]

@[simp] theorem State.scratch'_sound (s : State) (t : ℕ) (kind : ℕ) (a : ℕ) (n : ℕ) (h : s.sound pq) : (State.scratch' s t kind a n).sound pq := by
  unfold State.scratch'
  repeat' first
    | with_reducible assumption
    | with_reducible apply State.putLine_sound
    | with_reducible refine foldl_sound _ _ _ ?_ (fun _ _ _ => ?_)
    | simp only [State.takeFree_sound]

@[simp] theorem State.hdrain_sound (s : State) (t : Nat) (aa : BitVec 4) (h : s.sound pq) : Eff.sound (State.hdrain s t aa) pq := by
  unfold State.hdrain
  repeat' first
    | with_reducible assumption
    | split
    | with_reducible apply State.hashWait_sound
    | with_reducible apply State.putLine_sound
    | with_reducible apply State.scratch'_sound
    | with_reducible apply State.unitWrite_sound
    | with_reducible apply TileSt.sramCheck_sound
    | with_reducible refine foldl_sound _ _ _ ?_ (fun _ _ _ => ?_)
    | refine effOk.some ?_ (by with_reducible assumption)
    | simp only [State.updT_sound, Eff.sound_done, Eff.sound_excRange, Eff.sound_excProgram, Eff.sound_excTapConfig]

@[simp] theorem State.updFab_sound (s : State) (r : ℕ) (f : RegionFabric → RegionFabric) : (State.updFab s r f).sound pq ↔ s.sound pq := Iff.rfl

@[simp] theorem State.linkEcc_sound (s : State) (e : LinkEcc) : (State.linkEcc s e).sound pq ↔ s.sound pq := by simp only [State.sound, State.linkEcc_keeps]

@[simp] theorem State.keyDrop_sound (s : State) (r : ℕ) (side : ℕ) (ch : ℕ) (key : W16) : (State.keyDrop s r side ch key).sound pq ↔ s.sound pq := by simp only [State.sound, State.keyDrop_keeps]

@[simp] theorem State.updXfer_sound (s : State) (i : ℕ) (f : Xfer → Xfer) : (State.updXfer s i f).sound pq ↔ s.sound pq := Iff.rfl

@[simp] theorem State.failXfer_sound (s : State) (x : Xfer) (code : ℕ) (addr : ℕ) (detail : ℕ) : (State.failXfer s x code addr detail).sound pq ↔ s.sound pq := by simp only [State.sound, State.failXfer_keeps]

@[simp] theorem State.addPkt_sound (s : State) (x : Xfer) (kind : ℕ) (places : List Place) (off : ℕ) (len : ℕ) (piece : Piece) : (State.addPkt s x kind places off len piece).sound pq ↔ s.sound pq := by simp only [State.sound, State.addPkt_keeps]

@[simp] theorem State.putPiece_sound (s : State) (x : Xfer) (dst : Nat) (p : Piece) (h : s.sound pq) : optOk (State.putPiece s x dst p) pq := by
  unfold State.putPiece
  repeat' first
    | with_reducible assumption
    | split
    | with_reducible apply State.slicePut_sound
    | with_reducible apply State.sramPut_sound
    | simp only [State.addPkt_sound, State.countCheck_sound, State.failXfer_sound, State.sentPoison_sound, State.updXfer_sound, optOk_some, optOk_none]

@[simp] theorem State.getPiece_sound (s : State) (x : Xfer) (c : Cut) (h : s.sound pq) : optOk (State.getPiece s x c) pq := by
  unfold State.getPiece
  repeat' first
    | with_reducible assumption
    | split
    | with_reducible apply State.touchSlot_sound
    | simp only [State.addPkt_sound, State.updXfer_sound, optOk_some, optOk_none]

@[simp] theorem State.endXfer_sound (s : State) (x : Xfer) (h : s.sound pq) : (State.endXfer s x).sound pq := by
  unfold State.endXfer
  repeat' first
    | with_reducible assumption
    | split
    | with_reducible apply State.unitWrite_sound
    | simp only [State.updXfer_sound]

@[simp] theorem State.moveStep_sound (s : State) (i : Nat) (h : s.sound pq) : optOk (State.moveStep s i) pq := by
  unfold State.moveStep
  repeat' first
    | with_reducible assumption
    | split
    | with_reducible apply State.endXfer_sound
    | with_reducible apply State.getPiece_sound
    | with_reducible apply State.putPiece_sound
    | simp only [State.failXfer_sound, State.updXfer_sound, optOk_some, optOk_none]

@[simp] theorem State.move_sound (i : ℕ) (fuel : ℕ) (s : State) (h : s.sound pq) : (State.move i fuel s).sound pq := by
  induction fuel generalizing s with
  | zero => simpa [State.move] using h
  | succ k ih =>
    unfold State.move
    repeat' first
      | with_reducible assumption
      | split
      | with_reducible apply ih
      | with_reducible apply State.moveStep_sound
      | refine optOk.some ?_ (by with_reducible assumption)

@[simp] theorem State.pumpTile_sound (s : State) (t : ℕ) (h : s.sound pq) : (State.pumpTile s t).sound pq := by
  unfold State.pumpTile
  repeat' first
    | with_reducible assumption
    | with_reducible apply State.move_sound
    | with_reducible refine foldl_sound _ _ _ ?_ (fun _ _ _ => ?_)

@[simp] theorem State.endRange_sound (s : State) (t kind : Nat) (e : MoveEnd) (stop : Nat) (h : s.sound pq) : effOk (State.endRange s t kind e stop) pq := by
  unfold State.endRange
  repeat' first
    | split
    | simp only [Eff.sound_excRange, effOk_some, effOk_none]

@[simp] theorem State.moveCheck_sound (s : State) (t : Nat) (fill : Bool) (m : MoveArgs) (x : Xfer) (sv dv : W64) (h : s.sound pq) : effOk (State.moveCheck s t fill m x sv dv) pq := by
  unfold State.moveCheck
  repeat' first
    | with_reducible assumption
    | split
    | with_reducible apply State.endRange_sound
    | refine effOk.some ?_ (by with_reducible assumption)
    | simp only [Eff.sound_excMisaligned, Eff.sound_excRange, Eff.sound_excProgram, Eff.sound_excTileRange, effOk_some, effOk_none]

@[simp] theorem State.mmove_sound (s : State) (t : Nat) (e : QEntry) (fill : Bool) (m : MoveArgs) (h : s.sound pq) : Eff.sound (State.mmove s t e fill m) pq := by
  unfold State.mmove
  repeat' first
    | with_reducible assumption
    | split
    | with_reducible apply State.moveCheck_sound
    | refine effOk.some ?_ (by with_reducible assumption)
    | simp only [Eff.sound_done, Eff.sound_excPoison]
    | simp only [State.sound_mk]
    | with_reducible refine ⟨?_, ?_, ?_, ?_⟩
    | with_reducible refine State.sound.sram (?_ : State.sound _ pq)
    | with_reducible refine State.sound.slices (?_ : State.sound _ pq)
    | with_reducible refine State.sound.flash (?_ : State.sound _ pq)
    | with_reducible refine State.sound.pending (?_ : State.sound _ pq)

@[simp] theorem State.updPkt_sound (s : State) (i : ℕ) (f : Pkt → Pkt) : (State.updPkt s i f).sound pq ↔ s.sound pq := Iff.rfl

@[simp] theorem State.delPkt_sound (s : State) (i : ℕ) : (State.delPkt s i).sound pq ↔ s.sound pq := Iff.rfl

@[simp] theorem State.failPkt_sound (s : State) (p : Pkt) (code : ℕ) (detail : ℕ) (h : s.sound pq) : (State.failPkt s p code detail).sound pq := by
  unfold State.failPkt
  repeat' first
    | with_reducible assumption
    | split
    | with_reducible apply State.pumpTile_sound
    | simp only [State.delPkt_sound, State.failXfer_sound]

@[simp] theorem State.writeAt_sound (s : State) (p : Pkt) (pl : Place) (piece : Piece) (h : s.sound pq) : (State.writeAt s p pl piece).1.sound pq := by
  unfold State.writeAt
  repeat' first
    | with_reducible assumption
    | split
    | with_reducible apply State.rangeWrite_sound
    | with_reducible apply State.slicePut_sound
    | with_reducible apply State.sramPut_sound
    | refine RangeWrite.sound.done ?_ (by with_reducible assumption)
    | refine RangeWrite.sound.quota ?_ (by with_reducible assumption)
    | simp only [State.countCheck_sound]

@[simp] theorem State.writeArrive_sound (s : State) (i : ℕ) (kind : ℕ) (ecc : LinkEcc) (h : s.sound pq) : (State.writeArrive s i kind ecc).sound pq := by
  unfold State.writeArrive
  repeat' first
    | with_reducible assumption
    | split
    | with_reducible apply State.writeAt_sound
    | with_reducible refine foldl1_sound _ _ _ ?_ (fun _ _ _ => ?_)
    | simp only [State.countFlits_sound, State.keyDrop_sound, State.linkEcc_sound, State.updPkt_sound]

@[simp] theorem State.cellEcc_sound (s : State) (pl : Place) (f : EccFind) : (State.cellEcc s pl f).sound pq ↔ s.sound pq := by simp only [State.sound, State.cellEcc_keeps]

@[simp] theorem State.readArrive_sound (s : State) (i : ℕ) (ecc : LinkEcc) (cell : EccFind) (h : s.sound pq) : (State.readArrive s i ecc cell).sound pq := by
  unfold State.readArrive
  repeat' first
    | with_reducible assumption
    | split
    | with_reducible apply State.fetchChunk_sound
    | with_reducible apply State.markRead_sound
    | simp only [State.cellEcc_sound, State.dropPassed_sound, State.keyDrop_sound, State.linkEcc_sound, State.updPkt_sound]

@[simp] theorem State.writeAck_sound (s : State) (i : ℕ) (h : s.sound pq) : (State.writeAck s i).sound pq := by
  unfold State.writeAck
  repeat' first
    | with_reducible assumption
    | split
    | with_reducible apply State.failPkt_sound
    | with_reducible apply State.pumpTile_sound
    | simp only [State.delPkt_sound]

@[simp] theorem State.readData_sound (s : State) (i : ℕ) (ecc : LinkEcc) (h : s.sound pq) : (State.readData s i ecc).sound pq := by
  unfold State.readData
  repeat' first
    | with_reducible assumption
    | split
    | with_reducible apply State.failPkt_sound
    | with_reducible apply State.pumpTile_sound
    | simp only [State.delPkt_sound, State.linkEcc_sound, State.updPkt_sound, State.updXfer_sound]

@[simp] theorem State.tapOp_sound (s : State) (t : Nat) (e : BitVec 3) (ar : BitVec 4) (h : s.sound pq) : Eff.sound (State.tapOp s t e ar) pq := by
  unfold State.tapOp
  repeat' first
    | with_reducible assumption
    | split
    | with_reducible apply TileSt.sramCheck_sound
    | refine effOk.some ?_ (by with_reducible assumption)
    | simp only [State.setT_sound, Eff.sound_done, Eff.sound_excTapConfig]

@[simp] theorem State.tapxOp_sound (s : State) (t : Nat) (e : BitVec 3) (h : s.sound pq) : Eff.sound (State.tapxOp s t e) pq := by
  unfold State.tapxOp
  repeat' first
    | with_reducible assumption
    | simp only [State.updT_sound, Eff.sound_done]

@[simp] theorem excAborted_sound (st : Byte) : Eff.sound (excAborted st) pq := by
  unfold excAborted
  repeat' simp only [Eff.sound_exc]

@[simp] theorem State.strelOp_sound (s : State) (t : Nat) (c : CountArgs) (h : s.sound pq) : Eff.sound (State.strelOp s t c) pq := by
  unfold State.strelOp
  repeat' first
    | with_reducible assumption
    | split
    | with_reducible apply excAborted_sound
    | simp only [State.setT_sound, Eff.sound_done, Eff.sound_excTapConfig]

@[simp] theorem State.egressOp_sound (s : State) (t : Nat) (e : BitVec 3) (ar : BitVec 4) (h : s.sound pq) : Eff.sound (State.egressOp s t e ar) pq := by
  unfold State.egressOp
  repeat' first
    | with_reducible assumption
    | split
    | with_reducible apply TileSt.sramCheck_sound
    | refine effOk.some ?_ (by with_reducible assumption)
    | simp only [State.setT_sound, Eff.sound_done, Eff.sound_excTapConfig]

@[simp] theorem State.contribOp_sound (s : State) (t : Nat) (c : CountArgs) (skip : Bool) (h : s.sound pq) : Eff.sound (State.contribOp s t c skip) pq := by
  unfold State.contribOp
  repeat' first
    | with_reducible assumption
    | split
    | with_reducible apply excAborted_sound
    | simp only [State.setT_sound, Eff.sound_done, Eff.sound_excTapConfig]

@[simp] theorem State.abortWaiters_sound (s : State) (t : ℕ) : (State.abortWaiters s t).sound pq ↔ s.sound pq := by simp only [State.sound, State.abortWaiters_keeps]

@[simp] theorem State.updInst_sound (s : State) (i : ℕ) (f : Inst → Inst) : (State.updInst s i f).sound pq ↔ s.sound pq := Iff.rfl

@[simp] theorem State.openArrive_sound (s : State) (t : ℕ) (i : ℕ) : (State.openArrive s t i).sound pq ↔ s.sound pq := by simp only [State.sound, State.openArrive_keeps]

@[simp] theorem State.failInst_sound (s : State) (i : ℕ) (st : ℕ) (detail : ℕ) : (State.failInst s i st detail).sound pq ↔ s.sound pq := by simp only [State.sound, State.failInst_keeps]

@[simp] theorem State.engineSend_sound (s : State) (x : Inst) (h : s.sound pq) : (State.engineSend s x).sound pq := by
  unfold State.engineSend
  repeat' first
    | with_reducible assumption
    | split
    | with_reducible apply State.fetchChunk_sound
    | with_reducible apply State.markRead_sound
    | simp only [State.dropPassed_sound, State.failInst_sound, State.updInst_sound, State.updP_sound]

@[simp] theorem State.granuleArrive_sound (s0 : State) (t : ℕ) (i : ℕ) (ecc : LinkEcc) (h : s0.sound pq) : (State.granuleArrive s0 t i ecc).sound pq := by
  unfold State.granuleArrive
  repeat' first
    | with_reducible assumption
    | split
    | with_reducible apply State.engineSend_sound
    | with_reducible apply State.sramPut_sound
    | with_reducible refine foldl_sound _ _ _ ?_ (fun _ _ _ => ?_)
    | simp only [State.linkEcc_sound, State.updInst_sound, State.updT_sound]

@[simp] theorem State.retireInst_sound (s : State) (i : ℕ) : (State.retireInst s i).sound pq ↔ s.sound pq := by simp only [State.sound, State.retireInst_keeps]

@[simp] theorem State.endArrive_sound (s : State) (t : ℕ) (i : ℕ) (abort : Bool) : (State.endArrive s t i abort).sound pq ↔ s.sound pq := by simp only [State.sound, State.endArrive_keeps]

@[simp] theorem State.gradOpenArrive_sound (s : State) (t : ℕ) (i : ℕ) : (State.gradOpenArrive s t i).sound pq ↔ s.sound pq := by simp only [State.sound, State.gradOpenArrive_keeps]

@[simp] theorem State.sendGradData_sound (s : State) (x : Inst) (reqId : ℕ) (first : ℕ) (count : ℕ) (frame : List Byte) : (State.sendGradData s x reqId first count frame).sound pq ↔ s.sound pq := by simp only [State.sound, State.sendGradData_keeps]

@[simp] theorem State.gradAbort_sound (s : State) (i : ℕ) (st : ℕ) (detail : ℕ) : (State.gradAbort s i st detail).sound pq ↔ s.sound pq := by simp only [State.sound, State.gradAbort_keeps]

@[simp] theorem State.gradClose_sound (s : State) (i : ℕ) : (State.gradClose s i).sound pq ↔ s.sound pq := by simp only [State.sound, State.gradClose_keeps]

@[simp] theorem State.gradFrame_sound (s : State) (i : ℕ) : (State.gradFrame s i).sound pq ↔ s.sound pq := by simp only [State.sound, State.gradFrame_keeps]

@[simp] theorem State.gradArrive_sound (s0 : State) (t : ℕ) (i : ℕ) (ecc : LinkEcc) : (State.gradArrive s0 t i ecc).sound pq ↔ s0.sound pq := by simp only [State.sound, State.gradArrive_keeps]

@[simp] theorem State.gradEnd_sound (s : State) (i : ℕ) : (State.gradEnd s i).sound pq ↔ s.sound pq := by simp only [State.sound, State.gradEnd_keeps]

@[simp] theorem State.runOp_sound (s : State) (t : Nat) (e : QEntry) (h : s.sound pq) : Eff.sound (State.runOp s t e) pq := by
  unfold State.runOp
  repeat' first
    | with_reducible assumption
    | split
    | with_reducible apply State.ccfg_sound
    | with_reducible apply State.contribOp_sound
    | with_reducible apply State.egressOp_sound
    | with_reducible apply State.hacc_sound
    | with_reducible apply State.hcfg_sound
    | with_reducible apply State.hclr_sound
    | with_reducible apply State.hdrain_sound
    | with_reducible apply State.hget_sound
    | with_reducible apply State.ld_sound
    | with_reducible apply State.mmove_sound
    | with_reducible apply State.smma_sound
    | with_reducible apply State.st_sound
    | with_reducible apply State.strelOp_sound
    | with_reducible apply State.tapOp_sound
    | with_reducible apply State.tapxOp_sound
    | with_reducible apply State.tdrain_sound
    | with_reducible apply State.tmma_sound
    | with_reducible apply State.twadd_sound
    | with_reducible apply State.tzero_sound
    | with_reducible apply State.vld_sound
    | with_reducible apply State.vst_sound
    | simp only [Eff.sound_wait, Eff.sound_excPoison, Eff.sound_tile]

@[simp] theorem State.raiseQ_sound (s : State) (t : ℕ) (e : QEntry) (x : QExc) : (State.raiseQ s t e x).sound pq ↔ s.sound pq := by simp only [State.sound, State.raiseQ_keeps]

@[simp] theorem State.startEntry_sound (s : State) (t : ℕ) (e : QEntry) (h : s.sound pq) : (State.startEntry s t e).sound pq := by
  unfold State.startEntry
  repeat' first
    | with_reducible assumption
    | split
    | with_reducible apply State.pumpTile_sound
    | with_reducible apply State.runOp_sound
    | refine Eff.sound.done ?_ (by with_reducible assumption)
    | refine Eff.sound.wait ?_ (by with_reducible assumption)
    | simp only [State.raiseQ_sound, State.stallSync_sound, State.updT_sound]

@[simp] theorem State.beginHead_sound (s : State) (t : ℕ) (q : Queue) (h : s.sound pq) : (State.beginHead s t q).sound pq := by
  unfold State.beginHead
  repeat' first
    | with_reducible assumption
    | split
    | with_reducible apply State.startEntry_sound
    | simp only [State.raiseQ_sound, State.updT_sound]

@[simp] theorem State.issueQ_sound (s : State) (t : ℕ) (op : QOp) (k : Tok) (h : s.sound pq) : (State.issueQ s t op k).sound pq := by
  unfold State.issueQ
  repeat' first
    | with_reducible assumption
    | split
    | with_reducible apply State.beginHead_sound
    | with_reducible refine State.issue_sound _ _ _ _ _ _ ?_ (fun _ _ _ => ?_)
    | simp only [State.illegal_sound, State.updT_sound]

@[simp] theorem State.completeEntry_sound (s : State) (t : ℕ) (q : Queue) (k : ℕ) (h : s.sound pq) : (State.completeEntry s t q k).sound pq := by
  unfold State.completeEntry
  repeat' first
    | with_reducible assumption
    | split
    | with_reducible apply State.pumpTile_sound
    | simp only [State.checkRun_sound, State.setT_sound]
    | simp only [State.sound_mk]
    | with_reducible refine ⟨?_, ?_, ?_, ?_⟩
    | with_reducible refine State.sound.sram (?_ : State.sound _ pq)
    | with_reducible refine State.sound.slices (?_ : State.sound _ pq)
    | with_reducible refine State.sound.flash (?_ : State.sound _ pq)
    | with_reducible refine State.sound.pending (?_ : State.sound _ pq)

end Sys2Proof.Machine
end

