-- ==== Sys2Proof/Laws/SoundStreams.lean ====
section
/-! SUPPORT. Each operation keeps the canonical form of the memories and the queue: programs, chunks, copies, collectives, weights, ports, the torus and the fabric. -/

namespace Sys2Proof.Machine

open Host

variable {pq : List Instr}

@[simp] theorem State.beginRun_sound (s : State) (o : Op) (r : RunState) : (State.beginRun s o r).sound pq ↔ s.sound pq := by simp only [State.sound, State.beginRun_keeps]

@[simp] theorem State.readImage_sound (s : State) (o : Op) (len fuel : Nat) (f : List Piece → State) (h : s.sound pq) (hf : ∀ p, (f p).sound pq) :
    (s.readImage o len fuel f).sound pq := by
  unfold State.readImage
  split
  · exact hf _
  · exact (State.endOp_sound _ _ _ _).2 h
  · simp [h]

@[simp] theorem State.placeImage_sound (s : State) (t : ℕ) (slot : ℕ) (img : List Byte) (h : s.sound pq) : (State.placeImage s t slot img).sound pq := by
  unfold State.placeImage
  repeat' first
    | with_reducible assumption
    | with_reducible apply State.sramPut_sound
    | with_reducible refine foldl_sound _ _ _ ?_ (fun _ _ _ => ?_)
    | simp only [State.updT_sound]

@[simp] theorem State.loadImage_sound (s : State) (o : Op) (r : RunState) (l : List Piece) (h : s.sound pq) : (State.loadImage s o r l).sound pq := by
  unfold State.loadImage
  repeat' first
    | with_reducible assumption
    | split
    | with_reducible apply State.placeImage_sound
    | with_reducible refine foldl_sound _ _ _ ?_ (fun _ _ _ => ?_)
    | simp only [State.dropPassed_sound, State.endOp_sound, State.rejectOp_sound, State.takeFree_sound, State.updT_sound]
    | simp only [State.sound_mk]
    | with_reducible refine ⟨?_, ?_, ?_, ?_⟩
    | with_reducible refine State.sound.sram (?_ : State.sound _ pq)
    | with_reducible refine State.sound.slices (?_ : State.sound _ pq)
    | with_reducible refine State.sound.flash (?_ : State.sound _ pq)
    | with_reducible refine State.sound.pending (?_ : State.sound _ pq)

@[simp] theorem State.doLoad_sound (s : State) (o : Op) (r : RunState) (host : List Byte) (h : s.sound pq) : (State.doLoad s o r host).sound pq := by
  unfold State.doLoad
  repeat' first
    | with_reducible assumption
    | split
    | with_reducible apply State.loadImage_sound
    | with_reducible refine State.readImage_sound _ _ _ _ _ ?_ (fun _ => ?_)
    | simp only [State.updRun_sound]

@[simp] theorem State.withClaim_sound (s : State) (o : Op) : (State.withClaim s o).sound pq ↔ s.sound pq := by simp only [State.sound, State.withClaim_keeps]

@[simp] theorem State.setProg_sound (s : State) (i : ℕ) (x : OpProg) : (State.setProg s i x).sound pq ↔ s.sound pq := Iff.rfl

@[simp] theorem State.spoilFill_sound (s : State) (o : Op) (h : s.sound pq) : (State.spoilFill s o).sound pq := by
  unfold State.spoilFill
  repeat' first
    | with_reducible assumption
    | split
    | simp only [State.sound_mk]
    | with_reducible refine ⟨?_, ?_, ?_, ?_⟩
    | with_reducible refine State.sound.sram (?_ : State.sound _ pq)
    | with_reducible refine State.sound.slices (?_ : State.sound _ pq)
    | with_reducible refine State.sound.flash (?_ : State.sound _ pq)
    | with_reducible refine State.sound.pending (?_ : State.sound _ pq)
    | with_reducible apply Memory.writeN_wf

@[simp] theorem State.closeOp_sound (s : State) (o : Op) : (State.closeOp s o).sound pq ↔ s.sound pq := by simp only [State.sound, State.closeOp_keeps]

@[simp] theorem State.setSlot_sound (s : State) (n : ℕ) (k : ℕ) (x : WSlot) : (State.setSlot s n k x).sound pq ↔ s.sound pq := by simp only [State.sound, State.setSlot_keeps]

@[simp] theorem State.emptySlot_sound (s : State) (n : ℕ) (k : ℕ) : (State.emptySlot s n k).sound pq ↔ s.sound pq := by simp only [State.sound, State.emptySlot_keeps]

@[simp] theorem State.failOp_sound (s : State) (o : Op) (status : ℕ) (detail : ℕ) (h : s.sound pq) : (State.failOp s o status detail).sound pq := by
  unfold State.failOp
  repeat' first
    | with_reducible assumption
    | with_reducible apply State.spoilFill_sound
    | simp only [State.closeOp_sound, State.endOp_sound]

@[simp] theorem State.putChunk_sound (s : State) (n : ℕ) (page : ℕ) (chunk : ℕ) (plain : List Byte) (h : s.sound pq) : (State.putChunk s n page chunk plain).sound pq := by
  unfold State.putChunk
  repeat' first
    | with_reducible assumption
    | split
    | with_reducible apply State.slicePut_sound
    | with_reducible refine foldl_sound _ _ _ ?_ (fun _ _ _ => ?_)
    | simp only [State.setPte_sound, State.updM_sound]

@[simp] theorem State.quotaTrim_sound (n : ℕ) (fuel : ℕ) (s : State) : (State.quotaTrim n fuel s).sound pq ↔ s.sound pq := by simp only [State.sound, State.quotaTrim_keeps]

@[simp] theorem State.quotaSettle_sound (s : State) (n : ℕ) : (State.quotaSettle s n).sound pq ↔ s.sound pq := by simp only [State.sound, State.quotaSettle_keeps]

@[simp] theorem State.wake_sound (s : State) (w : Waiter) : (State.wake s w).sound pq ↔ s.sound pq := by simp only [State.sound, State.wake_keeps]

@[simp] theorem State.deliver_sound (s : State) (k : ChunkKey) (plain : List Byte) (h : s.sound pq) : (State.deliver s k plain).sound pq := by
  unfold State.deliver
  repeat' first
    | with_reducible assumption
    | split
    | with_reducible apply State.putChunk_sound
    | with_reducible refine foldl_sound _ _ _ ?_ (fun _ _ _ => ?_)
    | simp only [State.quotaSettle_sound, State.sendWaiting_sound, State.stallSync_sound, State.updM_sound, State.wake_sound]
    | simp only [State.sound_mk]
    | with_reducible refine ⟨?_, ?_, ?_, ?_⟩
    | with_reducible refine State.sound.sram (?_ : State.sound _ pq)
    | with_reducible refine State.sound.slices (?_ : State.sound _ pq)
    | with_reducible refine State.sound.flash (?_ : State.sound _ pq)
    | with_reducible refine State.sound.pending (?_ : State.sound _ pq)

@[simp] theorem State.buildErr_sound (s : State) (n : ℕ) (stream : ℕ) : (State.buildErr s n stream).sound pq ↔ s.sound pq := by simp only [State.sound, State.buildErr_keeps]

@[simp] theorem State.endWaiter_sound (s : State) (k : ChunkKey) (kind : ℕ) (id : ℕ) (w : Waiter) (h : s.sound pq) : (State.endWaiter s k kind id w).sound pq := by
  unfold State.endWaiter
  repeat' first
    | with_reducible assumption
    | split
    | with_reducible apply State.failOp_sound
    | with_reducible apply State.failPkt_sound
    | simp only [State.buildErr_sound, State.closeOp_sound, State.emptySlot_sound, State.failInst_sound, State.rejectOp_sound, State.setProg_sound]

@[simp] theorem State.chunkEnd_sound (s : State) (f : Fetch) (kind : ℕ) (id : ℕ) (h : s.sound pq) : (State.chunkEnd s f kind id).sound pq := by
  unfold State.chunkEnd
  repeat' first
    | with_reducible assumption
    | with_reducible apply State.endWaiter_sound
    | with_reducible refine foldl_sound _ _ _ ?_ (fun _ _ _ => ?_)
    | simp only [State.postPart_sound, State.sendWaiting_sound, State.stallSync_sound, State.takeFree_sound, State.updM_sound]
    | simp only [State.sound_mk]
    | with_reducible refine ⟨?_, ?_, ?_, ?_⟩
    | with_reducible refine State.sound.sram (?_ : State.sound _ pq)
    | with_reducible refine State.sound.slices (?_ : State.sound _ pq)
    | with_reducible refine State.sound.flash (?_ : State.sound _ pq)
    | with_reducible refine State.sound.pending (?_ : State.sound _ pq)

@[simp] theorem State.chunkFail_sound (s : State) (k : ChunkKey) (kind : ℕ) (id : ℕ) (final : Bool) (h : s.sound pq) : (State.chunkFail s k kind id final).sound pq := by
  unfold State.chunkFail
  repeat' first
    | with_reducible assumption
    | split
    | with_reducible apply State.chunkEnd_sound
    | simp only [State.sendReq_sound, State.stallSync_sound, State.updFetch_sound]

@[simp] theorem State.frameArrive_sound (s : State) (k : ChunkKey) (frame : List Byte) (len : ℕ) (opened : Option (List Byte)) (h : s.sound pq) : (State.frameArrive s k frame len opened).sound pq := by
  unfold State.frameArrive
  repeat' first
    | with_reducible assumption
    | split
    | with_reducible apply State.chunkFail_sound
    | with_reducible apply State.deliver_sound

/-- The state the answer carries, if it carries one, is sound. -/
def Pref.sound : Pref → List Instr → Prop
  | .skip, _ => True
  | .full s, pq => s.sound pq
  | .wait s, pq => s.sound pq
  | .ready s, pq => s.sound pq

@[simp] theorem Pref.sound_skip : Pref.skip.sound pq ↔ True := Iff.rfl

@[simp] theorem Pref.sound_full (s : State) : (Pref.full s).sound pq ↔ s.sound pq := Iff.rfl

@[simp] theorem Pref.sound_wait (s : State) : (Pref.wait s).sound pq ↔ s.sound pq := Iff.rfl

@[simp] theorem Pref.sound_ready (s : State) : (Pref.ready s).sound pq ↔ s.sound pq := Iff.rfl

theorem Pref.sound.full {o : Pref} {s : State} (h : o.sound pq) (e : o = .full s) : s.sound pq := by subst e; exact h

theorem Pref.sound.wait {o : Pref} {s : State} (h : o.sound pq) (e : o = .wait s) : s.sound pq := by subst e; exact h

theorem Pref.sound.ready {o : Pref} {s : State} (h : o.sound pq) (e : o = .ready s) : s.sound pq := by subst e; exact h

@[simp] theorem State.opMark_sound (s : State) (op : ℕ) (pl : Place) (h : s.sound pq) : (State.opMark s op pl).sound pq := by
  unfold State.opMark
  repeat' first
    | with_reducible assumption
    | split
    | with_reducible apply State.markRead_sound
    | with_reducible apply State.touchSlot_sound
    | simp only [State.dropPassed_sound]

@[simp] theorem State.opWrite_sound (s : State) (n : Nat) (pl : Place) (p : Piece) (h : s.sound pq) : RangeWrite.sound (State.opWrite s n pl p) pq := by
  unfold State.opWrite
  repeat' first
    | with_reducible assumption
    | split
    | with_reducible apply State.rangeWrite_sound
    | with_reducible apply State.slicePut_sound
    | with_reducible apply State.sramPut_sound
    | simp only [State.countCheck_sound, RangeWrite.sound_done]

@[simp] theorem State.copyToHost_sound (s : State) (o : Op) (addr : Nat) (p : Piece) (h : s.sound pq) : optOk (State.copyToHost s o addr p) pq := by
  unfold State.copyToHost
  repeat' first
    | with_reducible assumption
    | split
    | simp only [State.emit_sound, optOk_some, optOk_none]

@[simp] theorem State.copyPut_sound (s : State) (o : Op) (pos : ℕ) (p : Piece) (h : s.sound pq) : (State.copyPut s o pos p).1.sound pq := by
  unfold State.copyPut
  repeat' first
    | with_reducible assumption
    | split
    | with_reducible apply State.copyToHost_sound
    | with_reducible apply State.failOp_sound
    | with_reducible apply State.opWrite_sound
    | refine RangeWrite.sound.done ?_ (by with_reducible assumption)
    | refine RangeWrite.sound.quota ?_ (by with_reducible assumption)
    | refine optOk.some ?_ (by with_reducible assumption)
    | simp only [State.sound_mk]
    | with_reducible refine ⟨?_, ?_, ?_, ?_⟩
    | with_reducible refine State.sound.sram (?_ : State.sound _ pq)
    | with_reducible refine State.sound.slices (?_ : State.sound _ pq)
    | with_reducible refine State.sound.flash (?_ : State.sound _ pq)
    | with_reducible refine State.sound.pending (?_ : State.sound _ pq)
    | with_reducible apply Memory.writeN_wf

@[simp] theorem State.copyRun_sound (o : Op) (fuel : ℕ) (host : List Byte) (s : State) (h : s.sound pq) : (State.copyRun o fuel host s).sound pq := by
  induction fuel generalizing host s with
  | zero => simpa [State.copyRun] using h
  | succ k ih =>
    unfold State.copyRun
    repeat' first
      | with_reducible assumption
      | split
      | with_reducible apply ih
      | with_reducible apply State.copyPut_sound
      | with_reducible apply State.failOp_sound
      | with_reducible apply State.fetchChunk_sound
      | with_reducible apply State.opMark_sound
      | simp only [State.closeOp_sound, State.endOp_sound, State.setProg_sound]

@[simp] theorem State.prefetchPage_sound (s : State) (n page op : Nat) (protect : List Nat) (h : s.sound pq) : Pref.sound (State.prefetchPage s n page op protect) pq := by
  unfold State.prefetchPage
  dsimp only
  repeat' first
    | with_reducible assumption
    | split
    | with_reducible apply State.fetchChunk_sound
    | with_reducible apply State.putChunk_sound
    | with_reducible apply State.takePage_sound
    | with_reducible refine foldl_sound _ _ _ ?_ (fun _ _ _ => ?_)
    | refine opt1Ok.some ?_ (by with_reducible assumption)
    | simp only [State.failAlloc_sound, State.setPte_sound, opt1Ok_some, opt1Ok_none, Pref.sound_skip, Pref.sound_full, Pref.sound_wait, Pref.sound_ready]

@[simp] theorem State.pinPage_sound (s : State) (n : ℕ) (page : ℕ) : (State.pinPage s n page).sound pq ↔ s.sound pq := by simp only [State.sound, State.pinPage_keeps]

@[simp] theorem State.prefetchRun_sound (o : Op) (fuel : ℕ) (s : State) (h : s.sound pq) : (State.prefetchRun o fuel s).sound pq := by
  induction fuel generalizing s with
  | zero => simpa [State.prefetchRun] using h
  | succ k ih =>
    unfold State.prefetchRun
    repeat' first
      | with_reducible assumption
      | split
      | with_reducible apply ih
      | with_reducible apply State.prefetchPage_sound
      | refine Pref.sound.full ?_ (by with_reducible assumption)
      | refine Pref.sound.wait ?_ (by with_reducible assumption)
      | refine Pref.sound.ready ?_ (by with_reducible assumption)
      | simp only [State.closeOp_sound, State.endOp_sound, State.pinPage_sound, State.quotaCheck_sound, State.setProg_sound]

@[simp] theorem State.dropWritten_sound (s : State) (n : ℕ) (page : ℕ) (e : Pte) : (State.dropWritten s n page e).1.sound pq ↔ s.sound pq := by simp only [State.sound, State.dropWritten_keeps]

@[simp] theorem State.releaseRun_sound (o : Op) (fuel : ℕ) (s : State) : (State.releaseRun o fuel s).sound pq ↔ s.sound pq := by simp only [State.sound, State.releaseRun_keeps]

@[simp] theorem State.discardWhere_sound (s : State) (n : ℕ) (f : ℕ → Bool) : (State.discardWhere s n f).sound pq ↔ s.sound pq := by simp only [State.sound, State.discardWhere_keeps]

@[simp] theorem State.writeSplit_sound (s : State) (k : ℕ) (n : ℕ) (v : ℕ) : (State.writeSplit s k n v).sound pq ↔ s.sound pq := by simp only [State.sound, State.writeSplit_keeps]

@[simp] theorem State.writeQuota_sound (s : State) (k : ℕ) (n : ℕ) (t3 : Bool) (v : W64) : (State.writeQuota s k n t3 v).sound pq ↔ s.sound pq := by simp only [State.sound, State.writeQuota_keeps]

@[simp] theorem State.unmapPage_sound (s : State) (n : ℕ) (e : ℕ × Pte) : (State.unmapPage s n e).sound pq ↔ s.sound pq := by simp only [State.sound, State.unmapPage_keeps]

@[simp] theorem State.movePage_sound (s : State) (old : ℕ) (new : ℕ) (h : s.sound pq) : (State.movePage s old new).sound pq := by
  unfold State.movePage
  repeat' first
    | with_reducible assumption
    | with_reducible apply State.touchSlot_sound
    | with_reducible refine foldl_sound _ _ _ ?_ (fun _ _ _ => ?_)
    | simp only [State.setSgst_sound]
    | simp only [State.sound_mk]
    | with_reducible refine ⟨?_, ?_, ?_, ?_⟩
    | with_reducible refine State.sound.sram (?_ : State.sound _ pq)
    | with_reducible refine State.sound.slices (?_ : State.sound _ pq)
    | with_reducible refine State.sound.flash (?_ : State.sound _ pq)
    | with_reducible refine State.sound.pending (?_ : State.sound _ pq)
    | with_reducible apply Memory.writeN_wf
    | apply Memory.wf_filter

@[simp] theorem State.setPpa_sound (s : State) (n : ℕ) (p : PageAt) (ppa : ℕ) : (State.setPpa s n p ppa).sound pq ↔ s.sound pq := by simp only [State.sound, State.setPpa_keeps]

@[simp] theorem State.evacuate_sound (n : Nat) (l : List Nat) (pages : List (PageAt × Nat)) (s : State) (h : s.sound pq) :
    (State.evacuate n l pages s).1.sound pq := by
  induction pages generalizing s with
  | nil => exact h
  | cons a r ih =>
    obtain ⟨p, old⟩ := a
    unfold State.evacuate
    split
    · exact h
    · apply ih
      simp [h]

/-- The state the answer carries, if it carries one, is sound. -/
def ActOut.sound : ActOut → List Instr → Prop
  | .next s _, pq => s.sound pq
  | .block s, pq => s.sound pq
  | .fail s _ _, pq => s.sound pq

@[simp] theorem ActOut.sound_next (s : State) (a : List Piece) : (ActOut.next s a).sound pq ↔ s.sound pq := Iff.rfl

@[simp] theorem ActOut.sound_block (s : State) : (ActOut.block s).sound pq ↔ s.sound pq := Iff.rfl

@[simp] theorem ActOut.sound_fail (s : State) (a b : Nat) : (ActOut.fail s a b).sound pq ↔ s.sound pq := Iff.rfl

theorem ActOut.sound.next {o : ActOut} {s : State} {a : List Piece} (h : o.sound pq) (e : o = .next s a) : s.sound pq := by subst e; exact h

theorem ActOut.sound.block {o : ActOut} {s : State} (h : o.sound pq) (e : o = .block s) : s.sound pq := by subst e; exact h

theorem ActOut.sound.fail {o : ActOut} {s : State} {a b : Nat} (h : o.sound pq) (e : o = .fail s a b) : s.sound pq := by subst e; exact h

@[simp] theorem State.updCol_sound (s : State) (n : ℕ) (f : PartCol → PartCol) : (State.updCol s n f).sound pq ↔ s.sound pq := Iff.rfl

@[simp] theorem State.setGrp_sound (s : State) (n : ℕ) (g : ℕ) (x : Group) : (State.setGrp s n g x).sound pq ↔ s.sound pq := by simp only [State.sound, State.setGrp_keeps]

@[simp] theorem State.updGrp_sound (s : State) (n : ℕ) (g : ℕ) (f : Group → Group) : (State.updGrp s n g f).sound pq ↔ s.sound pq := Iff.rfl

@[simp] theorem State.updColl_sound (s : State) (n : ℕ) (g : ℕ) (f : CollRun → CollRun) : (State.updColl s n g f).sound pq ↔ s.sound pq := by simp only [State.sound, State.updColl_keeps]

@[simp] theorem State.torVia_sound (s : State) (p : TorPkt) (prefer : Nat) (h : s.sound pq) : optOk (State.torVia s p prefer) pq := by
  unfold State.torVia
  repeat' first
    | with_reducible assumption
    | split
    | with_reducible apply State.torSend_sound
    | simp only [State.torEnqueue_sound, optOk_some, optOk_none]

@[simp] theorem State.sendCtl_sound (s : State) (n : ℕ) (g : ℕ) (kind : ℕ) (dst : ℕ) (seq : W32) (sign : W64) (h : s.sound pq) : (State.sendCtl s n g kind dst seq sign).sound pq := by
  unfold State.sendCtl
  repeat' first
    | with_reducible assumption
    | with_reducible apply State.torVia_sound
    | with_reducible apply optD_sound

@[simp] theorem State.spoilDst_sound (s : State) (n : ℕ) (g : Group) (c : CollRun) (h : s.sound pq) : (State.spoilDst s n g c).sound pq := by
  unfold State.spoilDst
  repeat' first
    | with_reducible assumption
    | split
    | with_reducible apply State.slicePut_sound
    | with_reducible apply State.sramPut_sound
    | with_reducible refine foldl_sound _ _ _ ?_ (fun _ _ _ => ?_)
    | simp only [State.takeFree_sound]

@[simp] theorem State.sendSquall_sound (s : State) (n : ℕ) (g : ℕ) (seq : W32) (detail : ℕ) : (State.sendSquall s n g seq detail).sound pq ↔ s.sound pq := by simp only [State.sound, State.sendSquall_keeps]

@[simp] theorem State.endRunning_sound (s : State) (i : ℕ) (status : ℕ) (detail : ℕ) : (State.endRunning s i status detail).sound pq ↔ s.sound pq := by simp only [State.sound, State.endRunning_keeps]

@[simp] theorem State.squall_sound (s : State) (n : ℕ) (g : ℕ) (seq : W32) (detail : ℕ) (h : s.sound pq) : (State.squall s n g seq detail).sound pq := by
  unfold State.squall
  repeat' first
    | with_reducible assumption
    | split
    | with_reducible apply State.spoilDst_sound
    | with_reducible refine foldl_sound _ _ _ ?_ (fun _ _ _ => ?_)
    | simp only [State.endRunning_sound, State.postPart_sound, State.sendSquall_sound, State.setGrp_sound]

@[simp] theorem State.squallHere_sound (s : State) (n : ℕ) (g : ℕ) (cause : ℕ) (origin : ℕ) (h : s.sound pq) : (State.squallHere s n g cause origin).sound pq := by
  unfold State.squallHere
  repeat' first
    | with_reducible assumption
    | split
    | with_reducible apply State.squall_sound
    | simp only [State.updCol_sound]

@[simp] theorem State.collFail_sound (s : State) (n : ℕ) (g : ℕ) (status : ℕ) (detail : ℕ) (h : s.sound pq) : (State.collFail s n g status detail).sound pq := by
  unfold State.collFail
  repeat' first
    | with_reducible assumption
    | split
    | with_reducible apply State.squallHere_sound
    | simp only [State.endRunning_sound]

@[simp] theorem State.colAborts_sound (s : State) (h : s.sound pq) : (State.colAborts s).sound pq := by
  unfold State.colAborts
  repeat' first
    | with_reducible assumption
    | split
    | with_reducible apply State.squallHere_sound
    | with_reducible refine foldl_sound _ _ _ ?_ (fun _ _ _ => ?_)
    | simp only [State.updGrp_sound]

@[simp] theorem State.colPortDown_sound (s : State) (k : ℕ) (h : s.sound pq) : (State.colPortDown s k).sound pq := by
  unfold State.colPortDown
  repeat' first
    | with_reducible assumption
    | split
    | with_reducible apply State.squallHere_sound
    | with_reducible refine foldl_sound _ _ _ ?_ (fun _ _ _ => ?_)
    | dsimp only

@[simp] theorem State.colReset_sound (s : State) (n : ℕ) : (State.colReset s n).sound pq ↔ s.sound pq := by simp only [State.sound, State.colReset_keeps]

@[simp] theorem State.collPut_sound (s : State) (n : ℕ) (g : ℕ) (x : Group) (c : CollRun) (o : ℕ) (p : Piece) (h : s.sound pq) : (State.collPut s n g x c o p).1.sound pq := by
  unfold State.collPut
  repeat' first
    | with_reducible assumption
    | split
    | with_reducible apply State.rangeWrite_sound
    | with_reducible apply State.sramPut_sound
    | with_reducible refine foldl1_sound _ _ _ ?_ (fun _ _ _ => ?_)
    | refine RangeWrite.sound.done ?_ (by with_reducible assumption)
    | refine RangeWrite.sound.quota ?_ (by with_reducible assumption)
    | simp only [State.updColl_sound]

@[simp] theorem State.act_sound (s : State) (n g : Nat) (x : Group) (c : CollRun) (p : PieceRun) (a : Act) (h : s.sound pq) : ActOut.sound (State.act s n g x c p a) pq := by
  unfold State.act
  repeat' first
    | with_reducible assumption
    | split
    | with_reducible apply State.collPut_sound
    | with_reducible apply State.fetchChunk_sound
    | with_reducible apply State.markRead_sound
    | with_reducible apply State.torVia_sound
    | with_reducible refine foldl_sound _ _ _ ?_ (fun _ _ _ => ?_)
    | with_reducible refine foldl1_sound _ _ _ ?_ (fun _ _ _ => ?_)
    | refine optOk.some ?_ (by with_reducible assumption)
    | simp only [State.dropPassed_sound, State.updColl_sound, State.updGrp_sound, ActOut.sound_next, ActOut.sound_block, ActOut.sound_fail]

@[simp] theorem State.runPiece_sound (n : ℕ) (g : ℕ) (i : ℕ) (fuel : ℕ) (s : State) (h : s.sound pq) : (State.runPiece n g i fuel s).sound pq := by
  induction fuel generalizing s with
  | zero => simpa [State.runPiece] using h
  | succ k ih =>
    unfold State.runPiece
    repeat' first
      | with_reducible assumption
      | split
      | with_reducible apply ih
      | with_reducible apply State.act_sound
      | with_reducible apply State.collFail_sound
      | refine ActOut.sound.next ?_ (by with_reducible assumption)
      | refine ActOut.sound.block ?_ (by with_reducible assumption)
      | refine ActOut.sound.fail ?_ (by with_reducible assumption)
      | simp only [State.updColl_sound]

@[simp] theorem State.collEnd_sound (s : State) (n : ℕ) (g : ℕ) : (State.collEnd s n g).sound pq ↔ s.sound pq := by simp only [State.sound, State.collEnd_keeps]

@[simp] theorem State.barrier_sound (s : State) (n : ℕ) (g : ℕ) (c : CollRun) (h : s.sound pq) : (State.barrier s n g c).sound pq := by
  unfold State.barrier
  repeat' first
    | with_reducible assumption
    | split
    | with_reducible apply State.sendCtl_sound
    | with_reducible refine foldl_sound _ _ _ ?_ (fun _ _ _ => ?_)
    | simp only [State.collEnd_sound, State.updColl_sound]

@[simp] theorem State.collGo_sound (s : State) (n : ℕ) (g : ℕ) (h : s.sound pq) : (State.collGo s n g).sound pq := by
  unfold State.collGo
  repeat' first
    | with_reducible assumption
    | split
    | with_reducible apply State.barrier_sound
    | with_reducible apply State.runPiece_sound
    | with_reducible refine foldl_sound _ _ _ ?_ (fun _ _ _ => ?_)
    | simp only [State.collEnd_sound]

@[simp] theorem State.collBegin_sound (s : State) (n : ℕ) (g : ℕ) : (State.collBegin s n g).sound pq ↔ s.sound pq := by simp only [State.sound, State.collBegin_keeps]

@[simp] theorem State.collPump_sound (n : ℕ) (g : ℕ) (fuel : ℕ) (s : State) (h : s.sound pq) : (State.collPump n g fuel s).sound pq := by
  induction fuel generalizing s with
  | zero => simpa [State.collPump] using h
  | succ k ih =>
    unfold State.collPump
    repeat' first
      | with_reducible assumption
      | split
      | with_reducible apply ih
      | with_reducible apply State.collGo_sound
      | simp only [State.collBegin_sound]

@[simp] theorem State.pumpGroup_sound (s : State) (n : ℕ) (g : ℕ) (h : s.sound pq) : (State.pumpGroup s n g).sound pq := by
  unfold State.pumpGroup
  repeat' first
    | with_reducible assumption
    | with_reducible apply State.collPump_sound

@[simp] theorem State.collective_sound (s : State) (op : ℕ) (kind : ℕ) (h : s.sound pq) : (State.collective s op kind).sound pq := by
  unfold State.collective
  repeat' first
    | with_reducible assumption
    | split
    | with_reducible refine State.onOp_sound _ _ _ _ ?_ (fun _ => ?_)
    | with_reducible apply State.pumpGroup_sound
    | simp only [State.endOp_sound, State.rejectOp_sound, State.updGrp_sound, State.updP_sound]

@[simp] theorem State.groupReady_sound (s : State) (n : ℕ) (g : ℕ) (h : s.sound pq) : (State.groupReady s n g).sound pq := by
  unfold State.groupReady
  repeat' first
    | with_reducible assumption
    | split
    | with_reducible apply State.pumpGroup_sound
    | with_reducible apply State.sendCtl_sound
    | with_reducible refine foldl_sound _ _ _ ?_ (fun _ _ _ => ?_)
    | simp only [State.endRunning_sound, State.postPart_sound, State.setGrp_sound]

@[simp] theorem State.formGo_sound (s : State) (n : ℕ) (g : ℕ) (h : s.sound pq) : (State.formGo s n g).sound pq := by
  unfold State.formGo
  repeat' first
    | with_reducible assumption
    | split
    | with_reducible apply State.groupReady_sound
    | with_reducible apply State.sendCtl_sound
    | dsimp only

@[simp] theorem State.formFail_sound (s : State) (n : ℕ) (g : ℕ) (h : s.sound pq) : (State.formFail s n g).sound pq := by
  unfold State.formFail
  repeat' first
    | with_reducible assumption
    | split
    | with_reducible apply State.sendCtl_sound
    | with_reducible refine foldl_sound _ _ _ ?_ (fun _ _ _ => ?_)
    | simp only [State.closeOp_sound, State.endRunning_sound, State.rejectOp_sound, State.setGrp_sound]

@[simp] theorem State.colDiscard_sound (s : State) (n : ℕ) : (State.colDiscard s n).sound pq ↔ s.sound pq := by simp only [State.sound, State.colDiscard_keeps]

@[simp] theorem State.withRun_sound (s : State) (n g : Nat) (p : TorPkt) (f : CollRun → State) (h : s.sound pq) (hf : ∀ c, (f c).sound pq) :
    (s.withRun n g p f).sound pq := by
  unfold State.withRun
  (repeat' split) <;> simp [h, hf]

@[simp] theorem State.formUp_sound (s : State) (n : ℕ) (g : ℕ) (p : TorPkt) (st : GroupState) (h : s.sound pq) : (State.formUp s n g p st).sound pq := by
  unfold State.formUp
  repeat' first
    | with_reducible assumption
    | split
    | with_reducible apply State.formFail_sound
    | with_reducible apply State.formGo_sound
    | simp only [State.updGrp_sound]

@[simp] theorem State.formDown_sound (s : State) (n : ℕ) (g : ℕ) (p : TorPkt) (st : GroupState) (h : s.sound pq) : (State.formDown s n g p st).sound pq := by
  unfold State.formDown
  repeat' first
    | with_reducible assumption
    | split
    | with_reducible apply State.formFail_sound
    | with_reducible apply State.groupReady_sound
    | dsimp only

@[simp] theorem State.barrierMsg_sound (s : State) (n : ℕ) (g : ℕ) (p : TorPkt) (f : CollRun → CollRun) (h : s.sound pq) : (State.barrierMsg s n g p f).sound pq := by
  unfold State.barrierMsg
  repeat' first
    | with_reducible assumption
    | split
    | with_reducible apply State.pumpGroup_sound
    | with_reducible apply State.squallHere_sound
    | with_reducible refine State.withRun_sound _ _ _ _ _ ?_ (fun _ => ?_)
    | simp only [State.updColl_sound]

/-- The state the answer carries, if it carries one, is sound. -/
def ManRead.sound : ManRead → List Instr → Prop
  | .later s, pq => s.sound pq
  | _, _ => True

@[simp] theorem ManRead.sound_later (s : State) : (ManRead.later s).sound pq ↔ s.sound pq := Iff.rfl

@[simp] theorem ManRead.sound_failed : ManRead.failed.sound pq ↔ True := Iff.rfl

@[simp] theorem ManRead.sound_got (b : List Byte) : (ManRead.got b).sound pq ↔ True := Iff.rfl

theorem ManRead.sound.later {o : ManRead} {s : State} (h : o.sound pq) (e : o = .later s) : s.sound pq := by subst e; exact h

@[simp] theorem State.readManifest_sound (s : State) (o : Op) (host : Option (List Byte)) (h : s.sound pq) : ManRead.sound (State.readManifest s o host) pq := by
  unfold State.readManifest
  repeat' first
    | with_reducible assumption
    | split
    | with_reducible apply State.fetchChunk_sound
    | simp only [ManRead.sound_later, ManRead.sound_failed, ManRead.sound_got]

@[simp] theorem State.buildPin_sound (o : Op) (fuel : ℕ) (s : State) (h : s.sound pq) : (State.buildPin o fuel s).sound pq := by
  induction fuel generalizing s with
  | zero => simpa [State.buildPin] using h
  | succ k ih =>
    unfold State.buildPin
    repeat' first
      | with_reducible assumption
      | split
      | with_reducible apply ih
      | with_reducible apply State.prefetchPage_sound
      | refine Pref.sound.full ?_ (by with_reducible assumption)
      | refine Pref.sound.wait ?_ (by with_reducible assumption)
      | refine Pref.sound.ready ?_ (by with_reducible assumption)
      | simp only [State.pinPage_sound, State.setProg_sound, State.setSlot_sound]

@[simp] theorem State.buildVerify_sound (o : Op) (fuel : ℕ) (s : State) (h : s.sound pq) : (State.buildVerify o fuel s).sound pq := by
  induction fuel generalizing s with
  | zero => simpa [State.buildVerify] using h
  | succ k ih =>
    unfold State.buildVerify
    repeat' first
      | with_reducible assumption
      | split
      | with_reducible apply ih
      | with_reducible apply State.fetchChunk_sound
      | simp only [State.dropPassed_sound, State.setProg_sound]

@[simp] theorem State.buildDone_sound (s : State) (o : Op) : (State.buildDone s o).sound pq ↔ s.sound pq := by simp only [State.sound, State.buildDone_keeps]

@[simp] theorem State.buildRun_sound (s : State) (o : Op) (h : s.sound pq) : (State.buildRun s o).sound pq := by
  unfold State.buildRun
  repeat' first
    | with_reducible assumption
    | split
    | with_reducible apply State.buildPin_sound
    | with_reducible apply State.buildVerify_sound
    | simp only [State.buildDone_sound, State.setProg_sound]

@[simp] theorem State.buildBegin_sound (s : State) (o : Op) (k : ℕ) (b : List Byte) (h : s.sound pq) : (State.buildBegin s o k b).sound pq := by
  unfold State.buildBegin
  repeat' first
    | with_reducible assumption
    | with_reducible apply State.buildRun_sound
    | simp only [State.dropPassed_sound, State.emptySlot_sound, State.setProg_sound, State.setSlot_sound]

@[simp] theorem State.updStream_sound (s : State) (op : ℕ) (f : StreamOp → StreamOp) : (State.updStream s op f).sound pq ↔ s.sound pq := Iff.rfl

@[simp] theorem State.finishStream_sound (s : State) (op : ℕ) : (State.finishStream s op).sound pq ↔ s.sound pq := by simp only [State.sound, State.finishStream_keeps]

@[simp] theorem State.openGradient_sound (s : State) (x : Inst) : (State.openGradient s x).sound pq ↔ s.sound pq := by simp only [State.sound, State.openGradient_keeps]

@[simp] theorem State.instanceOpen_sound (s : State) (op : ℕ) : (State.instanceOpen s op).sound pq ↔ s.sound pq := by simp only [State.sound, State.instanceOpen_keeps]

@[simp] theorem State.drainCheck_sound (s : State) (n : ℕ) : (State.drainCheck s n).sound pq ↔ s.sound pq := by simp only [State.sound, State.drainCheck_keeps]

@[simp] theorem State.instanceClose_sound (s : State) (i : ℕ) : (State.instanceClose s i).sound pq ↔ s.sound pq := by simp only [State.sound, State.instanceClose_keeps]

@[simp] theorem State.swapPoint_sound (s : State) (n : ℕ) : (State.swapPoint s n).sound pq ↔ s.sound pq := by simp only [State.sound, State.swapPoint_keeps]

@[simp] theorem State.publishBegin_sound (s : State) (o : Op) : (State.publishBegin s o).sound pq ↔ s.sound pq := by simp only [State.sound, State.publishBegin_keeps]

@[simp] theorem State.snapShared_sound (s : State) (sh : ℕ) (page : ℕ) (off : ℕ) : (State.snapShared s sh page off).sound pq ↔ s.sound pq := by simp only [State.sound, State.snapShared_keeps]

@[simp] theorem State.publishPut_sound (s : State) (n sh a : Nat) (p : Piece) (h : s.sound pq) : RangeWrite.sound (State.publishPut s n sh a p) pq := by
  unfold State.publishPut
  repeat' first
    | with_reducible assumption
    | split
    | with_reducible apply State.slicePut_sound
    | with_reducible apply State.takePage_sound
    | with_reducible apply State.zeroPage_sound
    | refine opt1Ok.some ?_ (by with_reducible assumption)
    | simp only [State.countCheck_sound, State.failAlloc_sound, State.snapShared_sound, RangeWrite.sound_done, RangeWrite.sound_quota, RangeWrite.sound_refused]
    | simp only [State.sound_mk]
    | with_reducible refine ⟨?_, ?_, ?_, ?_⟩
    | with_reducible refine State.sound.sram (?_ : State.sound _ pq)
    | with_reducible refine State.sound.slices (?_ : State.sound _ pq)
    | with_reducible refine State.sound.flash (?_ : State.sound _ pq)
    | with_reducible refine State.sound.pending (?_ : State.sound _ pq)

@[simp] theorem State.publishDone_sound (s : State) (o : Op) (w : WSlot) : (State.publishDone s o w).sound pq ↔ s.sound pq := by simp only [State.sound, State.publishDone_keeps]

@[simp] theorem State.publishRun_sound (o : Op) (fuel : ℕ) (s : State) (h : s.sound pq) : (State.publishRun o fuel s).sound pq := by
  induction fuel generalizing s with
  | zero => simpa [State.publishRun] using h
  | succ k ih =>
    unfold State.publishRun
    repeat' first
      | with_reducible assumption
      | split
      | with_reducible apply ih
      | with_reducible apply State.failOp_sound
      | with_reducible apply State.fetchChunk_sound
      | with_reducible apply State.markRead_sound
      | with_reducible apply State.publishPut_sound
      | refine RangeWrite.sound.done ?_ (by with_reducible assumption)
      | refine RangeWrite.sound.quota ?_ (by with_reducible assumption)
      | simp only [State.dropPassed_sound, State.publishDone_sound, State.quotaCheck_sound, State.setProg_sound]

@[simp] theorem State.portEvent_sound (s : State) (p : ℕ) (code : ℕ) (data : ℕ) (part : Bool) : (State.portEvent s p code data part).sound pq ↔ s.sound pq := by simp only [State.sound, State.portEvent_keeps]

@[simp] theorem State.reissue_sound (s : State) (p : ℕ) : (State.reissue s p).sound pq ↔ s.sound pq := by simp only [State.sound, State.reissue_keeps]

@[simp] theorem State.portLost_sound (s : State) (p : ℕ) (was : Bool) (h : s.sound pq) : (State.portLost s p was).sound pq := by
  unfold State.portLost
  repeat' first
    | with_reducible assumption
    | split
    | with_reducible apply State.colPortDown_sound
    | simp only [State.reissue_sound, State.torusDown_sound]

@[simp] theorem State.portDown_sound (s : State) (p : ℕ) (cause : ℕ) (h : s.sound pq) : (State.portDown s p cause).sound pq := by
  unfold State.portDown
  repeat' first
    | with_reducible assumption
    | with_reducible apply State.portLost_sound
    | simp only [State.portEvent_sound, State.updPort_sound]

@[simp] theorem State.portDisable_sound (s : State) (p : ℕ) (h : s.sound pq) : (State.portDisable s p).sound pq := by
  unfold State.portDisable
  repeat' first
    | with_reducible assumption
    | with_reducible apply State.portLost_sound
    | simp only [State.updPort_sound]

@[simp] theorem State.startMove_sound (s : State) (p : ℕ) (q : ℕ) (target : ℕ) (msg : Option Msg) : (State.startMove s p q target msg).sound pq ↔ s.sound pq := by simp only [State.sound, State.startMove_keeps]

@[simp] theorem State.moveQuarter_sound (s : State) (p : ℕ) (q : ℕ) : (State.moveQuarter s p q).sound pq ↔ s.sound pq := by simp only [State.sound, State.moveQuarter_keeps]

@[simp] theorem State.moveDone_sound (s : State) (p : ℕ) : (State.moveDone s p).sound pq ↔ s.sound pq := by simp only [State.sound, State.moveDone_keeps]

@[simp] theorem State.wellLost_sound (s : State) (r : ℕ) (h : s.sound pq) : (State.wellLost s r).sound pq := by
  unfold State.wellLost
  repeat' first
    | with_reducible assumption
    | split
    | with_reducible apply State.portDown_sound
    | simp only [State.moveQuarter_sound]

@[simp] theorem State.toDetect_sound (s : State) (p : ℕ) : (State.toDetect s p).sound pq ↔ s.sound pq := by simp only [State.sound, State.toDetect_keeps]

@[simp] theorem State.retrain_sound (s : State) (p : ℕ) (cause : ℕ) (ask : Bool) : (State.retrain s p cause ask).sound pq ↔ s.sound pq := by simp only [State.sound, State.retrain_keeps]

@[simp] theorem State.writeCtrl_sound (s : State) (k : ℕ) (p : ℕ) (v : W64) (h : s.sound pq) : (State.writeCtrl s k p v).sound pq := by
  unfold State.writeCtrl
  repeat' first
    | with_reducible assumption
    | split
    | with_reducible apply State.portDisable_sound
    | simp only [State.retrain_sound, State.toDetect_sound, State.updPort_sound]

@[simp] theorem State.resendGrads_sound (s : State) (p : ℕ) : (State.resendGrads s p).sound pq ↔ s.sound pq := by simp only [State.sound, State.resendGrads_keeps]

@[simp] theorem State.portUp_sound (s : State) (p : ℕ) (b : List Byte) : (State.portUp s p b).sound pq ↔ s.sound pq := by simp only [State.sound, State.portUp_keeps]

@[simp] theorem State.replayFrom_sound (s : State) (p : ℕ) : (State.replayFrom s p).sound pq ↔ s.sound pq := by simp only [State.sound, State.replayFrom_keeps]

@[simp] theorem State.gap_sound (s : State) (p : ℕ) : (State.gap s p).sound pq ↔ s.sound pq := by simp only [State.sound, State.gap_keeps]

@[simp] theorem State.acceptFlit_sound (s : State) (p : ℕ) (w : WireFlit) : (State.acceptFlit s p w).sound pq ↔ s.sound pq := by simp only [State.sound, State.acceptFlit_keeps]

@[simp] theorem State.receiveFlit_sound (s : State) (p : ℕ) (w : WireFlit) : (State.receiveFlit s p w).sound pq ↔ s.sound pq := by simp only [State.sound, State.receiveFlit_keeps]

@[simp] theorem State.serverFault_sound (s : State) (p : ℕ) (type : ℕ) : (State.serverFault s p type).sound pq ↔ s.sound pq := by simp only [State.sound, State.serverFault_keeps]

@[simp] theorem State.unasked_sound (s : State) (p : ℕ) : (State.unasked s p).sound pq ↔ s.sound pq := by simp only [State.sound, State.unasked_keeps]

@[simp] theorem State.relayOn_sound (s : State) (k : ChunkKey) (frame : List Byte) : (State.relayOn s k frame).sound pq ↔ s.sound pq := by simp only [State.sound, State.relayOn_keeps]

@[simp] theorem State.portRelease_sound (s : State) (p : ℕ) : (State.portRelease s p).sound pq ↔ s.sound pq := by simp only [State.sound, State.portRelease_keeps]

@[simp] theorem State.disablePorts_sound (s : State) : (State.disablePorts s).sound pq ↔ s.sound pq := by simp only [State.sound, State.disablePorts_keeps]

/-- The same of an answer with a value before the state. -/
def opt2Ok {α : Type} (o : Option (α × State)) (pq : List Instr) : Prop := ∀ r, o = some r → r.2.sound pq

@[simp] theorem opt2Ok_some {α : Type} (s : State) (a : α) : opt2Ok (some (a, s)) pq ↔ s.sound pq := ⟨fun h => h _ rfl, fun h u e => by cases e; exact h⟩

@[simp] theorem opt2Ok_none {α : Type} : opt2Ok (none : Option (α × State)) pq ↔ True := ⟨fun _ => trivial, fun _ u e => by cases e⟩

theorem opt2Ok.some {α : Type} {o : Option (α × State)} {s : State} {a : α} (h : opt2Ok o pq) (e : o = some (a, s)) : s.sound pq := h _ e

@[simp] theorem State.takeInbox_sound (s : State) (k : Nat) (h : s.sound pq) : opt2Ok (s.takeInbox k) pq := by
  unfold State.takeInbox
  (repeat' split) <;> simp [h]

@[simp] theorem State.genDrop_sound (s : State) (k : ℕ) (p : TorPkt) (e : TorKey) : (State.genDrop s k p e).sound pq ↔ s.sound pq := by simp only [State.sound, State.genDrop_keeps]

@[simp] theorem State.pieceLost_sound (s : State) (p : TorPkt) (h : s.sound pq) : (State.pieceLost s p).sound pq := by
  unfold State.pieceLost
  repeat' first
    | with_reducible assumption
    | split
    | with_reducible apply State.squallHere_sound

@[simp] theorem State.torDeliver_sound (s : State) (k : ℕ) (p : TorPkt) : (State.torDeliver s k p).sound pq ↔ s.sound pq := by simp only [State.sound, State.torDeliver_keeps]

@[simp] theorem State.torForward_sound (s : State) (k : ℕ) (p : TorPkt) : (State.torForward s k p).sound pq ↔ s.sound pq := by simp only [State.sound, State.torForward_keeps]

@[simp] theorem State.torArrive_sound (s : State) (k : ℕ) (h : s.sound pq) : (State.torArrive s k).sound pq := by
  unfold State.torArrive
  repeat' first
    | with_reducible assumption
    | split
    | with_reducible apply State.pieceLost_sound
    | with_reducible apply State.takeInbox_sound
    | refine opt2Ok.some ?_ (by with_reducible assumption)
    | simp only [State.genDrop_sound, State.portKeyDrop_sound, State.torForward_sound, State.updPort_sound, State.updTp_sound]

@[simp] theorem State.torUnqueue_sound (s : State) (k : ℕ) (p : TorPkt) : (State.torUnqueue s k p).sound pq ↔ s.sound pq := by simp only [State.sound, State.torUnqueue_keeps]

@[simp] theorem State.torEgress_sound (s : State) (k : ℕ) (ch : ℕ) (h : s.sound pq) : (State.torEgress s k ch).sound pq := by
  unfold State.torEgress
  repeat' first
    | with_reducible assumption
    | split
    | with_reducible apply State.pieceLost_sound
    | simp only [State.portKeyDrop_sound, State.portPump_sound, State.torEnqueue_sound, State.torUnqueue_sound, State.updPort_sound, State.updTp_sound]

@[simp] theorem State.opLost_sound (s : State) (o : Op) (status : ℕ) (detail : ℕ) (h : s.sound pq) : (State.opLost s o status detail).sound pq := by
  unfold State.opLost
  repeat' first
    | with_reducible assumption
    | split
    | with_reducible apply State.failOp_sound
    | with_reducible apply State.squallHere_sound
    | simp only [State.emptySlot_sound]

@[simp] theorem State.postTimeout_sound (s : State) (n : ℕ) (sx : ℕ) (sy : ℕ) (tag : ℕ) : (State.postTimeout s n sx sy tag).sound pq ↔ s.sound pq := by simp only [State.sound, State.postTimeout_keeps]

@[simp] theorem State.chunkLate_sound (s : State) (k : ChunkKey) : (State.chunkLate s k).sound pq ↔ s.sound pq := by simp only [State.sound, State.chunkLate_keeps]

@[simp] theorem State.failHash_sound (s : State) (t : ℕ) (cause : ℕ) : (State.failHash s t cause).sound pq ↔ s.sound pq := by simp only [State.sound, State.failHash_keeps]

@[simp] theorem State.leaveFetch_sound (s : State) (w : Waiter) : (State.leaveFetch s w).sound pq ↔ s.sound pq := by simp only [State.sound, State.leaveFetch_keeps]

@[simp] theorem State.stallEnd_sound (s : State) (n : ℕ) (w : Waiter) (h : s.sound pq) : (State.stallEnd s n w).sound pq := by
  unfold State.stallEnd
  repeat' first
    | with_reducible assumption
    | split
    | with_reducible apply State.failOp_sound
    | with_reducible apply State.failPkt_sound
    | simp only [State.emptySlot_sound, State.failHash_sound, State.failInst_sound, State.leaveFetch_sound, State.stallReport_sound, State.stallSync_sound, State.updM_sound]

@[simp] theorem State.replyTimeout_sound (s : State) (k : ChunkKey) : (State.replyTimeout s k).sound pq ↔ s.sound pq := by simp only [State.sound, State.replyTimeout_keeps]

@[simp] theorem State.writeRoutes_sound (s : State) (cause : ℕ) : (State.writeRoutes s cause).sound pq ↔ s.sound pq := by simp only [State.sound, State.writeRoutes_keeps]

@[simp] theorem State.routesChange_sound (s : State) (cause : ℕ) : (State.routesChange s cause).sound pq ↔ s.sound pq := by simp only [State.sound, State.routesChange_keeps]

@[simp] theorem State.fenceFabric_sound (s : State) (r : ℕ) : (State.fenceFabric s r).sound pq ↔ s.sound pq := by simp only [State.sound, State.fenceFabric_keeps]

end Sys2Proof.Machine
end

