-- ==== Sys2Proof/Laws/SoundModule.lean ====
section
/-! SUPPORT. Each operation keeps the canonical form of the memories and the queue: snapshots, the lifecycle, partitions, power, bring-up, twins, the carrier, registers and the sequencer. -/

namespace Sys2Proof.Machine

open Host

variable {pq : List Instr}

@[simp] theorem State.snapRun_sound (o : Op) (fuel : ℕ) (s : State) (h : s.sound pq) : (State.snapRun o fuel s).sound pq := by
  induction fuel generalizing s with
  | zero => simpa [State.snapRun] using h
  | succ k ih =>
    unfold State.snapRun
    repeat' first
      | with_reducible assumption
      | split
      | with_reducible apply ih
      | with_reducible apply State.copyToHost_sound
      | with_reducible apply State.failOp_sound
      | with_reducible apply State.fetchChunk_sound
      | with_reducible apply State.markRead_sound
      | with_reducible apply State.rangeWrite_sound
      | refine RangeWrite.sound.done ?_ (by with_reducible assumption)
      | refine RangeWrite.sound.quota ?_ (by with_reducible assumption)
      | refine optOk.some ?_ (by with_reducible assumption)
      | simp only [State.closeOp_sound, State.dropPassed_sound, State.endOp_sound, State.setProg_sound]
      | simp only [State.sound_mk]
      | with_reducible refine ⟨?_, ?_, ?_, ?_⟩
      | with_reducible refine State.sound.sram (?_ : State.sound _ pq)
      | with_reducible refine State.sound.slices (?_ : State.sound _ pq)
      | with_reducible refine State.sound.flash (?_ : State.sound _ pq)
      | with_reducible refine State.sound.pending (?_ : State.sound _ pq)

@[simp] theorem State.dropStreams_sound (s : State) (n : ℕ) (status : ℕ) : (State.dropStreams s n status).sound pq ↔ s.sound pq := by simp only [State.sound, State.dropStreams_keeps]

@[simp] theorem State.dropWaiters_sound (s : State) (n : ℕ) : (State.dropWaiters s n).sound pq ↔ s.sound pq := by simp only [State.sound, State.dropWaiters_keeps]

@[simp] theorem State.haltTiles_sound (s : State) (n : ℕ) : (State.haltTiles s n).sound pq ↔ s.sound pq := by simp only [State.sound, State.haltTiles_keeps]

@[simp] theorem State.squallPartition_sound (s : State) (n : ℕ) : (State.squallPartition s n).sound pq ↔ s.sound pq := by simp only [State.sound, State.squallPartition_keeps]

@[simp] theorem State.spoilSnap_sound (s : State) (o : Op) (h : s.sound pq) : (State.spoilSnap s o).sound pq := by
  unfold State.spoilSnap
  repeat' first
    | with_reducible assumption
    | split
    | with_reducible apply State.slicePut_sound
    | with_reducible refine foldl_sound _ _ _ ?_ (fun _ _ _ => ?_)
    | simp only [State.takeFree_sound]

@[simp] theorem State.resetOp_sound (s : State) (o : Op) (h : s.sound pq) : (State.resetOp s o).sound pq := by
  unfold State.resetOp
  repeat' first
    | with_reducible assumption
    | with_reducible apply State.spoilFill_sound
    | with_reducible apply State.spoilSnap_sound
    | simp only [State.closeOp_sound, State.endOp_sound]

@[simp] theorem State.clearRegions_sound (s : State) (l : List ℕ) (h : s.sound pq) : (State.clearRegions s l).sound pq := by
  unfold State.clearRegions
  repeat' first
    | with_reducible assumption
    | simp only [State.sound_mk]
    | with_reducible refine ⟨?_, ?_, ?_, ?_⟩
    | with_reducible refine State.sound.sram (?_ : State.sound _ pq)
    | with_reducible refine State.sound.slices (?_ : State.sound _ pq)
    | with_reducible refine State.sound.flash (?_ : State.sound _ pq)
    | with_reducible refine State.sound.pending (?_ : State.sound _ pq)
    | apply Memory.wf_filter

@[simp] theorem State.clearTiles_sound (s : State) (n : ℕ) (h : s.sound pq) : (State.clearTiles s n).sound pq := by
  unfold State.clearTiles
  repeat' first
    | with_reducible assumption
    | with_reducible apply State.clearRegions_sound

@[simp] theorem State.zeroRegionMemory_sound (s : State) (l : List ℕ) (h : s.sound pq) : (State.zeroRegionMemory s l).sound pq := by
  unfold State.zeroRegionMemory
  repeat' first
    | with_reducible assumption
    | with_reducible apply State.clearRegions_sound
    | simp only [State.sound_mk]
    | with_reducible refine ⟨?_, ?_, ?_, ?_⟩
    | with_reducible refine State.sound.sram (?_ : State.sound _ pq)
    | with_reducible refine State.sound.slices (?_ : State.sound _ pq)
    | with_reducible refine State.sound.flash (?_ : State.sound _ pq)
    | with_reducible refine State.sound.pending (?_ : State.sound _ pq)
    | apply Memory.wf_filter

@[simp] theorem State.discardIn_sound (s : State) (n : ℕ) (l : List ℕ) : (State.discardIn s n l).sound pq ↔ s.sound pq := by simp only [State.sound, State.discardIn_keeps]

@[simp] theorem State.dropPartition_sound (s : State) (n : ℕ) : (State.dropPartition s n).sound pq ↔ s.sound pq := by simp only [State.sound, State.dropPartition_keeps]

@[simp] theorem State.emptySlots_sound (s : State) (n : ℕ) (sh : ℕ) : (State.emptySlots s n sh).sound pq ↔ s.sound pq := by simp only [State.sound, State.emptySlots_keeps]

@[simp] theorem State.weightsOnReset_sound (s : State) (n : ℕ) : (State.weightsOnReset s n).sound pq ↔ s.sound pq := by simp only [State.sound, State.weightsOnReset_keeps]

@[simp] theorem State.freeShared_sound (s : State) (sh : ℕ) (h : s.sound pq) : (State.freeShared s sh).sound pq := by
  unfold State.freeShared
  repeat' first
    | with_reducible assumption
    | split
    | with_reducible apply State.zeroPage_sound
    | with_reducible refine foldl_sound _ _ _ ?_ (fun _ _ _ => ?_)
    | simp only [State.freeSlot_sound, State.quotaCheck_sound]
    | simp only [State.sound_mk]
    | with_reducible refine ⟨?_, ?_, ?_, ?_⟩
    | with_reducible refine State.sound.sram (?_ : State.sound _ pq)
    | with_reducible refine State.sound.slices (?_ : State.sound _ pq)
    | with_reducible refine State.sound.flash (?_ : State.sound _ pq)
    | with_reducible refine State.sound.pending (?_ : State.sound _ pq)

@[simp] theorem State.markLost_sound (s : State) (r : ℕ) : (State.markLost s r).sound pq ↔ s.sound pq := by simp only [State.sound, State.markLost_keeps]

@[simp] theorem State.stopPorts_sound (s : State) : (State.stopPorts s).sound pq ↔ s.sound pq := by simp only [State.sound, State.stopPorts_keeps]

@[simp] theorem State.freeMirror_sound (s : State) (n : ℕ) (h : s.sound pq) : (State.freeMirror s n).sound pq := by
  unfold State.freeMirror
  repeat' first
    | with_reducible assumption
    | split
    | with_reducible apply State.zeroPage_sound
    | with_reducible refine foldl_sound _ _ _ ?_ (fun _ _ _ => ?_)
    | simp only [State.freeSlot_sound, State.quotaCheck_sound, State.updP_sound]

@[simp] theorem State.unbindFor_sound (s : State) (n : ℕ) (h : s.sound pq) : (State.unbindFor s n).sound pq := by
  unfold State.unbindFor
  repeat' first
    | with_reducible assumption
    | split
    | with_reducible apply State.freeMirror_sound
    | simp only [State.emit_sound, State.reply_sound, State.updP_sound]

@[simp] theorem State.setOwners_sound (s : State) (l : List ℕ) (n : Option ℕ) : (State.setOwners s l n).sound pq ↔ s.sound pq := by simp only [State.sound, State.setOwners_keeps]

@[simp] theorem State.zeroSync_sound (s : State) (base : ℕ) (count : ℕ) : (State.zeroSync s base count).sound pq ↔ s.sound pq := by simp only [State.sound, State.zeroSync_keeps]

@[simp] theorem State.acceptResize_sound (s : State) (n : ℕ) (m : Msg) : (State.acceptResize s n m).sound pq ↔ s.sound pq := by simp only [State.sound, State.acceptResize_keeps]

@[simp] theorem State.completeAll_sound (s : State) (n : ℕ) (h : s.sound pq) : (State.completeAll s n).sound pq := by
  unfold State.completeAll
  repeat' first
    | with_reducible assumption
    | split
    | with_reducible apply State.resetOp_sound
    | with_reducible refine foldl_sound _ _ _ ?_ (fun _ _ _ => ?_)
    | simp only [State.completeOp_sound, State.rejectOp_sound]

@[simp] theorem State.removeGrant_sound (s : State) (sh : ℕ) (grantee : ℕ) (right : ℕ) : (State.removeGrant s sh grantee right).sound pq ↔ s.sound pq := by simp only [State.sound, State.removeGrant_keeps]

@[simp] theorem State.applyHeld_sound (s : State) (n : ℕ) : (State.applyHeld s n).sound pq ↔ s.sound pq := by simp only [State.sound, State.applyHeld_keeps]

@[simp] theorem State.applyRevokes_sound (s : State) (n : ℕ) : (State.applyRevokes s n).sound pq ↔ s.sound pq := by simp only [State.sound, State.applyRevokes_keeps]

@[simp] theorem State.finishReset_sound (s : State) (n : ℕ) : (State.finishReset s n).sound pq ↔ s.sound pq := by simp only [State.sound, State.finishReset_keeps]

@[simp] theorem State.updPwr_sound (s : State) (f : Power → Power) : (State.updPwr s f).sound pq ↔ s.sound pq := Iff.rfl

@[simp] theorem State.updRP_sound (s : State) (r : ℕ) (f : RegionPower → RegionPower) : (State.updRP s r f).sound pq ↔ s.sound pq := Iff.rfl

@[simp] theorem State.setBudget_sound (s : State) : (State.setBudget s).sound pq ↔ s.sound pq := by simp only [State.sound, State.setBudget_keeps]

@[simp] theorem State.writeHostW_sound (s : State) (w : ℕ) : (State.writeHostW s w).sound pq ↔ s.sound pq := by simp only [State.sound, State.writeHostW_keeps]

@[simp] theorem State.effectivePeak_sound (s : State) : (State.effectivePeak s).sound pq ↔ s.sound pq := by simp only [State.sound, State.effectivePeak_keeps]

@[simp] theorem State.setTarget_sound (s : State) (i : ℕ) (capMw : ℕ) : (State.setTarget s i capMw).sound pq ↔ s.sound pq := by simp only [State.sound, State.setTarget_keeps]

@[simp] theorem State.applyDivision_sound (s : State) : (State.applyDivision s).sound pq ↔ s.sound pq := by simp only [State.sound, State.applyDivision_keeps]

@[simp] theorem State.bondCheck_sound (s : State) (r : ℕ) (sensor : ℕ) (sram : Bool) (excess : ℤ) : (State.bondCheck s r sensor sram excess).sound pq ↔ s.sound pq := by simp only [State.sound, State.bondCheck_keeps]

@[simp] theorem State.bondWindow_sound (s : State) (w : RegionWindow) (h : s.sound pq) : (State.bondWindow s w).sound pq := by
  unfold State.bondWindow
  repeat' first
    | with_reducible assumption
    | split
    | with_reducible refine foldl_sound _ _ _ ?_ (fun _ _ _ => ?_)
    | simp only [State.bondCheck_sound, State.updR_sound]

@[simp] theorem State.takeWindow_sound (s : State) (w : RegionWindow) (h : s.sound pq) : (State.takeWindow s w).sound pq := by
  unfold State.takeWindow
  repeat' first
    | with_reducible assumption
    | split
    | with_reducible apply State.bondWindow_sound
    | simp only [State.updRP_sound]

@[simp] theorem State.gapStep_sound (s : State) (r : ℕ) : (State.gapStep s r).sound pq ↔ s.sound pq := by simp only [State.sound, State.gapStep_keeps]

@[simp] theorem State.countThrottle_sound (s : State) : (State.countThrottle s).sound pq ↔ s.sound pq := by simp only [State.sound, State.countThrottle_keeps]

@[simp] theorem State.applyPeriods_sound (s : State) : (State.applyPeriods s).sound pq ↔ s.sound pq := by simp only [State.sound, State.applyPeriods_keeps]

@[simp] theorem State.fence_sound (s : State) (i : ℕ) (cause : ℕ) (collapse : Bool) (h : s.sound pq) : (State.fence s i cause collapse).sound pq := by
  unfold State.fence
  repeat' first
    | with_reducible assumption
    | split
    | with_reducible apply State.wellLost_sound
    | with_reducible apply State.zeroRegionMemory_sound
    | simp only [State.beginReset_sound, State.fenceFabric_sound, State.markLost_sound, State.postPart_sound, State.routesChange_sound, State.updR_sound]
    | simp only [State.sound_mk]
    | with_reducible refine ⟨?_, ?_, ?_, ?_⟩
    | with_reducible refine State.sound.sram (?_ : State.sound _ pq)
    | with_reducible refine State.sound.slices (?_ : State.sound _ pq)
    | with_reducible refine State.sound.flash (?_ : State.sound _ pq)
    | with_reducible refine State.sound.pending (?_ : State.sound _ pq)

@[simp] theorem State.faultFence_sound (s : State) (i : ℕ) (collapse : Bool) (h : s.sound pq) : (State.faultFence s i collapse).sound pq := by
  unfold State.faultFence
  repeat' first
    | with_reducible assumption
    | with_reducible apply State.fence_sound
    | simp only [State.postModule_sound]
    | simp only [State.sound_mk]
    | with_reducible refine ⟨?_, ?_, ?_, ?_⟩
    | with_reducible refine State.sound.sram (?_ : State.sound _ pq)
    | with_reducible refine State.sound.slices (?_ : State.sound _ pq)
    | with_reducible refine State.sound.flash (?_ : State.sound _ pq)
    | with_reducible refine State.sound.pending (?_ : State.sound _ pq)

@[simp] theorem State.waferOff_sound (s : State) (h : s.sound pq) : s.waferOff.sound pq := ⟨rfl, rfl, h.flash, h.pending⟩

@[simp] theorem State.powerDown_sound (s : State) (fast : Bool) (cause : ℕ) (h : s.sound pq) : (State.powerDown s fast cause).sound pq := by
  unfold State.powerDown
  repeat' first
    | with_reducible assumption
    | split
    | with_reducible apply State.enterLull_sound
    | with_reducible refine foldl_sound _ _ _ ?_ (fun _ _ _ => ?_)
    | simp only [State.beginReset_sound, State.disablePorts_sound, State.emit_sound, State.logRecord_sound, State.postModule_sound, State.stopPorts_sound, State.updPwr_sound]

@[simp] theorem State.railFault_sound (s : State) (r : ℕ) (rail : ℕ) (upStep : ℕ) (h : s.sound pq) : (State.railFault s r rail upStep).sound pq := by
  unfold State.railFault
  repeat' first
    | with_reducible assumption
    | split
    | with_reducible apply State.faultFence_sound
    | with_reducible apply State.fence_sound
    | simp only [State.addRecord_sound, State.logRecord_sound, State.postModule_sound, State.updRP_sound, State.updR_sound]

@[simp] theorem State.hottest_sound (s : State) : (State.hottest s).sound pq ↔ s.sound pq := by simp only [State.sound, State.hottest_keeps]

@[simp] theorem State.postCoolant_sound (s : State) (loss : Bool) : (State.postCoolant s loss).sound pq ↔ s.sound pq := by simp only [State.sound, State.postCoolant_keeps]

@[simp] theorem State.writeCeiling_sound (s : State) (r : ℕ) (v : BitVec 3) : (State.writeCeiling s r v).sound pq ↔ s.sound pq := by simp only [State.sound, State.writeCeiling_keeps]

@[simp] theorem State.clearSuspect_sound (s : State) (r : ℕ) (bits : W16) : (State.clearSuspect s r bits).sound pq ↔ s.sound pq := by simp only [State.sound, State.clearSuspect_keeps]

@[simp] theorem State.updBru_sound (s : State) (f : Bringup → Bringup) : (State.updBru s f).sound pq ↔ s.sound pq := Iff.rfl

@[simp] theorem State.updRB_sound (s : State) (r : ℕ) (f : RegionBringup → RegionBringup) : (State.updRB s r f).sound pq ↔ s.sound pq := by simp only [State.sound, State.updRB_keeps]

@[simp] theorem State.restartReply_sound (s : State) (r : ℕ) : (State.restartReply s r).sound pq ↔ s.sound pq := by simp only [State.sound, State.restartReply_keeps]

@[simp] theorem State.bringupFence_sound (s : State) (r : ℕ) (cause : ℕ) (h : s.sound pq) : (State.bringupFence s r cause).sound pq := by
  unfold State.bringupFence
  repeat' first
    | with_reducible assumption
    | with_reducible apply State.fence_sound
    | simp only [State.postModule_sound, State.restartReply_sound, State.updRB_sound]

@[simp] theorem State.beginRegion_sound (s : State) (r : ℕ) (ms : ℕ) : (State.beginRegion s r ms).sound pq ↔ s.sound pq := by simp only [State.sound, State.beginRegion_keeps]

@[simp] theorem State.seekParent_sound (s : State) (r : ℕ) (h : s.sound pq) : (State.seekParent s r).sound pq := by
  unfold State.seekParent
  repeat' first
    | with_reducible assumption
    | split
    | with_reducible apply State.bringupFence_sound
    | simp only [State.updRB_sound]

@[simp] theorem State.serveWaiting_sound (s : State) (h : s.sound pq) : (State.serveWaiting s).sound pq := by
  unfold State.serveWaiting
  repeat' first
    | with_reducible assumption
    | split
    | with_reducible apply State.seekParent_sound
    | with_reducible refine foldl_sound _ _ _ ?_ (fun _ _ _ => ?_)

@[simp] theorem State.advanceFront_sound (s : State) (ms : ℕ) (h : s.sound pq) : (State.advanceFront s ms).sound pq := by
  unfold State.advanceFront
  repeat' first
    | with_reducible assumption
    | split
    | with_reducible apply State.bringupFence_sound
    | with_reducible apply State.serveWaiting_sound
    | with_reducible refine foldl_sound _ _ _ ?_ (fun _ _ _ => ?_)
    | simp only [State.beginRegion_sound, State.updBru_sound]

@[simp] theorem State.applyRelocation_sound (s : State) (p : ℕ) (q : ℕ) : (State.applyRelocation s p q).sound pq ↔ s.sound pq := by simp only [State.sound, State.applyRelocation_keeps]

@[simp] theorem State.startPort_sound (s : State) (p : ℕ) (h : s.sound pq) : (State.startPort s p).sound pq := by
  unfold State.startPort
  repeat' first
    | with_reducible assumption
    | split
    | with_reducible apply State.portDown_sound
    | simp only [State.startMove_sound, State.toDetect_sound, State.updPort_sound]

@[simp] theorem State.startPorts_sound (s : State) (h : s.sound pq) : (State.startPorts s).sound pq := by
  unfold State.startPorts
  repeat' first
    | with_reducible assumption
    | with_reducible apply State.startPort_sound
    | with_reducible refine foldl_sound _ _ _ ?_ (fun _ _ _ => ?_)
    | simp only [State.applyRelocation_sound]

@[simp] theorem State.rampDone_sound (s : State) (r : ℕ) : (State.rampDone s r).sound pq ↔ s.sound pq := by simp only [State.sound, State.rampDone_keeps]

@[simp] theorem State.lockDone_sound (s : State) (r : ℕ) (trims : BitVec 12) (h : s.sound pq) : (State.lockDone s r trims).sound pq := by
  unfold State.lockDone
  repeat' first
    | with_reducible assumption
    | with_reducible apply State.ripple_sound
    | simp only [State.openCrossings_sound, State.updFw_sound, State.updR_sound]

@[simp] theorem State.meshDone_sound (s : State) (r : ℕ) : (State.meshDone s r).sound pq ↔ s.sound pq := by simp only [State.sound, State.meshDone_keeps]

@[simp] theorem State.takeRecord_sound (s : State) (r : ℕ) (x : Option (W128 × ℕ)) : (State.takeRecord s r x).sound pq ↔ s.sound pq := by simp only [State.sound, State.takeRecord_keeps]

@[simp] theorem State.repairDone_sound (s : State) (r : ℕ) (h : s.sound pq) : (State.repairDone s r).sound pq := by
  unfold State.repairDone
  repeat' first
    | with_reducible assumption
    | split
    | with_reducible apply State.bringupFence_sound
    | simp only [State.postModule_sound, State.takeRecord_sound, State.updRB_sound]

@[simp] theorem State.trainDone_sound (s : State) (r : ℕ) (d : List (ℕ × ℕ)) (h : s.sound pq) : (State.trainDone s r d).sound pq := by
  unfold State.trainDone
  repeat' first
    | with_reducible assumption
    | split
    | with_reducible apply State.bringupFence_sound
    | simp only [State.postModule_sound, State.updRB_sound, State.updR_sound]

@[simp] theorem State.regionReady_sound (s : State) (r : ℕ) (ms : ℕ) (wellOk : Bool) : (State.regionReady s r ms wellOk).sound pq ↔ s.sound pq := by simp only [State.sound, State.regionReady_keeps]

@[simp] theorem State.stepDone_sound (s : State) (r : ℕ) (ms : ℕ) (d : List (ℕ × ℕ)) (trims : BitVec 12) (h : s.sound pq) : (State.stepDone s r ms d trims).sound pq := by
  unfold State.stepDone
  repeat' first
    | with_reducible assumption
    | split
    | with_reducible apply State.lockDone_sound
    | with_reducible apply State.repairDone_sound
    | with_reducible apply State.seekParent_sound
    | with_reducible apply State.trainDone_sound
    | with_reducible apply State.zeroRegionMemory_sound
    | simp only [State.meshDone_sound, State.rampDone_sound, State.regionReady_sound, State.updRB_sound, State.updR_sound]

@[simp] theorem State.startFront_sound (s : State) (ms : ℕ) : (State.startFront s ms).sound pq ↔ s.sound pq := by simp only [State.sound, State.startFront_keeps]

@[simp] theorem State.imageFailed_sound (s : State) (code : ℕ) : (State.imageFailed s code).sound pq ↔ s.sound pq := by simp only [State.sound, State.imageFailed_keeps]

@[simp] theorem State.imageStarts_sound (s : State) (kind : ℕ) (slot : Bool) (img : Image) (ms : ℕ) : (State.imageStarts s kind slot img ms).sound pq ↔ s.sound pq := by simp only [State.sound, State.imageStarts_keeps]

@[simp] theorem State.moveFwRegion_sound (s : State) : (State.moveFwRegion s).sound pq ↔ s.sound pq := by simp only [State.sound, State.moveFwRegion_keeps]

@[simp] theorem State.fabricIsReady_sound (s : State) (ms : ℕ) : (State.fabricIsReady s ms).sound pq ↔ s.sound pq := by simp only [State.sound, State.fabricIsReady_keeps]

@[simp] theorem State.fullIsReady_sound (s : State) (ms : ℕ) (incomplete : Bool) : (State.fullIsReady s ms incomplete).sound pq ↔ s.sound pq := by simp only [State.sound, State.fullIsReady_keeps]

@[simp] theorem State.updCal_sound (s : State) (p : ℕ) (f : CalProcess → CalProcess) : (State.updCal s p f).sound pq ↔ s.sound pq := Iff.rfl

@[simp] theorem State.calDone_sound (s : State) (p : ℕ) (u : ℕ) : (State.calDone s p u).sound pq ↔ s.sound pq := by simp only [State.sound, State.calDone_keeps]

@[simp] theorem State.calSkip_sound (s : State) (p : ℕ) : (State.calSkip s p).sound pq ↔ s.sound pq := by simp only [State.sound, State.calSkip_keeps]

@[simp] theorem State.stratusFail_sound (s : State) (r : ℕ) (tile : ℕ) : (State.stratusFail s r tile).sound pq ↔ s.sound pq := by simp only [State.sound, State.stratusFail_keeps]

@[simp] theorem State.writePeriod_sound (s : State) (p : ℕ) (v : W32) : (State.writePeriod s p v).sound pq ↔ s.sound pq := by simp only [State.sound, State.writePeriod_keeps]

@[simp] theorem State.updTwin_sound (s : State) (f : Twin → Twin) : (State.updTwin s f).sound pq ↔ s.sound pq := Iff.rfl

@[simp] theorem State.updMirror_sound (s : State) (n : ℕ) (f : Mirror → Mirror) : (State.updMirror s n f).sound pq ↔ s.sound pq := Iff.rfl

@[simp] theorem State.bindFails_sound (s : State) (n : ℕ) (result : ℕ) (h : s.sound pq) : (State.bindFails s n result).sound pq := by
  unfold State.bindFails
  repeat' first
    | with_reducible assumption
    | split
    | with_reducible apply State.freeMirror_sound
    | simp only [State.reply_sound]

@[simp] theorem State.failover_sound (s : State) (n : ℕ) (h : s.sound pq) : (State.failover s n).sound pq := by
  unfold State.failover
  repeat' first
    | with_reducible assumption
    | with_reducible apply State.zeroPage_sound
    | with_reducible refine foldl_sound _ _ _ ?_ (fun _ _ _ => ?_)
    | simp only [State.freeSlot_sound, State.postPart_sound, State.quotaCheck_sound, State.updM_sound, State.updMirror_sound]

@[simp] theorem State.endMirrors_sound (s : State) (n : ℕ) (h : s.sound pq) : (State.endMirrors s n).sound pq := by
  unfold State.endMirrors
  repeat' first
    | with_reducible assumption
    | with_reducible apply State.failOp_sound
    | with_reducible refine foldl_sound _ _ _ ?_ (fun _ _ _ => ?_)

@[simp] theorem State.breakPair_sound (s : State) (cause : ℕ) (h : s.sound pq) : (State.breakPair s cause).sound pq := by
  unfold State.breakPair
  repeat' first
    | with_reducible assumption
    | split
    | with_reducible apply State.bindFails_sound
    | with_reducible apply State.endMirrors_sound
    | with_reducible apply State.failover_sound
    | with_reducible refine foldl_sound _ _ _ ?_ (fun _ _ _ => ?_)
    | simp only [State.postModule_sound, State.updMirror_sound, State.updTwin_sound]

@[simp] theorem State.tryHandover_sound (s : State) (h : s.sound pq) : (State.tryHandover s).sound pq := by
  unfold State.tryHandover
  repeat' first
    | with_reducible assumption
    | split
    | with_reducible apply State.breakPair_sound
    | simp only [State.emit_sound, State.reply_sound, State.updTwin_sound]

@[simp] theorem State.takeMirror_sound (n : ℕ) (fuel : ℕ) (fuel' : ℕ) (s : State) (h : s.sound pq) : (State.takeMirror n fuel fuel' s).1.sound pq := by
  induction fuel' generalizing fuel s with
  | zero => simpa [State.takeMirror] using h
  | succ k ih =>
    unfold State.takeMirror
    repeat' first
      | with_reducible assumption
      | split
      | with_reducible apply ih
      | with_reducible apply State.takePage_sound
      | with_reducible apply State.zeroPage_sound
      | refine opt1Ok.some ?_ (by with_reducible assumption)
      | simp only [State.updMirror_sound]

@[simp] theorem State.completeBind_sound (s : State) (n : ℕ) (b : TwinBind) (h : s.sound pq) : (State.completeBind s n b).sound pq := by
  unfold State.completeBind
  repeat' first
    | with_reducible assumption
    | split
    | with_reducible apply State.bindFails_sound
    | with_reducible apply State.takeMirror_sound
    | simp only [State.emit_sound, State.quotaCheck_sound, State.reply_sound, State.updMirror_sound, State.updTwin_sound]

@[simp] theorem State.mirrorRun_sound (o : Op) (fuel : ℕ) (s : State) (h : s.sound pq) : (State.mirrorRun o fuel s).sound pq := by
  induction fuel generalizing s with
  | zero => simpa [State.mirrorRun] using h
  | succ k ih =>
    unfold State.mirrorRun
    repeat' first
      | with_reducible assumption
      | split
      | with_reducible apply ih
      | with_reducible apply State.failOp_sound
      | with_reducible apply State.fetchChunk_sound
      | with_reducible apply State.markRead_sound
      | simp only [State.closeOp_sound, State.dropPassed_sound, State.emit_sound, State.endOp_sound, State.setProg_sound, State.updMirror_sound]

@[simp] theorem State.mirrorIn_sound (s : State) (p : ℕ) (key : W16) (off : W64) (piece : Piece) (h : s.sound pq) : (State.mirrorIn s p key off piece).sound pq := by
  unfold State.mirrorIn
  repeat' first
    | with_reducible assumption
    | split
    | with_reducible apply State.slicePut_sound
    | simp only [State.portKeyDrop_sound, State.updM_sound, State.updMirror_sound]

@[simp] theorem State.parityTrap_sound (s : State) (t : ℕ) (queue : ℕ) : (State.parityTrap s t queue).sound pq ↔ s.sound pq := by simp only [State.sound, State.parityTrap_keeps]

@[simp] theorem State.parity_sound (s : State) (t : ℕ) (u : ParityUnit) : (State.parity s t u).sound pq ↔ s.sound pq := by simp only [State.sound, State.parity_keeps]

@[simp] theorem State.straggle_sound (s : State) (n : ℕ) (m : ℕ) (r : ℕ) : (State.straggle s n m r).sound pq ↔ s.sound pq := by simp only [State.sound, State.straggle_keeps]

@[simp] theorem State.carrierReset_sound (s : State) (h : s.sound pq) : (State.carrierReset s).sound pq := by
  unfold State.carrierReset
  repeat' first
    | with_reducible assumption
    | with_reducible apply State.waferOff_sound
    | simp only [State.sound_mk]
    | with_reducible refine ⟨?_, ?_, ?_, ?_⟩
    | with_reducible refine State.sound.sram (?_ : State.sound _ pq)
    | with_reducible refine State.sound.slices (?_ : State.sound _ pq)
    | with_reducible refine State.sound.flash (?_ : State.sound _ pq)
    | with_reducible refine State.sound.pending (?_ : State.sound _ pq)

@[simp] theorem State.mgmtDown_sound (s : State) : (State.mgmtDown s).sound pq ↔ s.sound pq := by simp only [State.sound, State.mgmtDown_keeps]

@[simp] theorem State.updSeg_sound (s : State) (g : ℕ) (f : Segment → Segment) : (State.updSeg s g f).sound pq ↔ s.sound pq := by simp only [State.sound, State.updSeg_keeps]

@[simp] theorem State.isolate_sound (s : State) (g : ℕ) (scl : Bool) : (State.isolate s g scl).sound pq ↔ s.sound pq := by simp only [State.sound, State.isolate_keeps]

@[simp] theorem State.recovered_sound (s : State) (g : ℕ) (pulses : ℕ) : (State.recovered s g pulses).sound pq ↔ s.sound pq := by simp only [State.sound, State.recovered_keeps]

@[simp] theorem State.recover_sound (s : State) (g : ℕ) (scl : Bool) (res : SdaResult) : (State.recover s g scl res).sound pq ↔ s.sound pq := by simp only [State.sound, State.recover_keeps]

@[simp] theorem State.safetyTrip_sound (s : State) (fault : Bool) (h : s.sound pq) : (State.safetyTrip s fault).sound pq := by
  unfold State.safetyTrip
  repeat' first
    | with_reducible assumption
    | with_reducible apply State.powerDown_sound
    | simp only [State.logRecord_sound]

@[simp] theorem State.safetySample_sound (s : State) (a : Bool) (b : Bool) (h : s.sound pq) : (State.safetySample s a b).sound pq := by
  unfold State.safetySample
  repeat' first
    | with_reducible assumption
    | split
    | with_reducible apply State.safetyTrip_sound
    | simp only [State.postModule_sound, State.updMgt_sound]

@[simp] theorem State.writeRingCfg_sound (s : State) (n : ℕ) (k : ℕ) (v : W64) : (State.writeRingCfg s n k v).sound pq ↔ s.sound pq := by simp only [State.sound, State.writeRingCfg_keeps]

@[simp] theorem State.writeRing_sound (s : State) (n : ℕ) (k : ℕ) (reg : ℕ) (mask : W64) (v : W64) : (State.writeRing s n k reg mask v).sound pq ↔ s.sound pq := by simp only [State.sound, State.writeRing_keeps]

@[simp] theorem State.writeDoorbell_sound (s : State) (n : ℕ) (k : ℕ) (mask : W64) (v : W64) : (State.writeDoorbell s n k mask v).sound pq ↔ s.sound pq := by simp only [State.sound, State.writeDoorbell_keeps]

@[simp] theorem State.writeLimit_sound (s : State) (n : ℕ) (w : W64) : (State.writeLimit s n w).sound pq ↔ s.sound pq := by simp only [State.sound, State.writeLimit_keeps]

@[simp] theorem State.writeVf_sound (s : State) (n : Fin 12) (a : ℕ) (mask : W64) (v : W64) : (State.writeVf s n a mask v).sound pq ↔ s.sound pq := by simp only [State.sound, State.writeVf_keeps]

@[simp] theorem State.writeCadCfg_sound (s : State) (w : W64) : (State.writeCadCfg s w).sound pq ↔ s.sound pq := by simp only [State.sound, State.writeCadCfg_keeps]

@[simp] theorem State.writeMem_sound (s : State) (k : ℕ) (n : ℕ) (reg : ℕ) (mask : W64) (v : W64) : (State.writeMem s k n reg mask v).sound pq ↔ s.sound pq := by simp only [State.sound, State.writeMem_keeps]

@[simp] theorem State.writeCal_sound (s : State) (p : ℕ) (mask : W64) (v : W64) : (State.writeCal s p mask v).sound pq ↔ s.sound pq := by simp only [State.sound, State.writeCal_keeps]

@[simp] theorem State.writeRegion_sound (s : State) (r : ℕ) (reg : ℕ) (v : W64) : (State.writeRegion s r reg v).sound pq ↔ s.sound pq := by simp only [State.sound, State.writeRegion_keeps]

@[simp] theorem State.writeLow_sound (s : State) (k : Fin 4) (a : ℕ) (v : W64) (h : s.sound pq) : (State.writeLow s k a v).sound pq := by
  unfold State.writeLow
  repeat' first
    | with_reducible assumption
    | with_reducible refine sound_ite ?_ ?_
    | with_reducible apply State.writeCtrl_sound
    | simp only [State.throttleSync_sound, State.updP_sound, State.updPwr_sound, State.updTor_sound, State.writeCadCfg_sound, State.writeHostW_sound, State.writeLimit_sound, State.writeRegion_sound]
    | simp only [State.sound_mk]
    | with_reducible refine ⟨?_, ?_, ?_, ?_⟩
    | with_reducible refine State.sound.sram (?_ : State.sound _ pq)
    | with_reducible refine State.sound.slices (?_ : State.sound _ pq)
    | with_reducible refine State.sound.flash (?_ : State.sound _ pq)
    | with_reducible refine State.sound.pending (?_ : State.sound _ pq)

@[simp] theorem State.writePriv_sound (s : State) (k : Fin 4) (a : ℕ) (mask : W64) (v : W64) (h : s.sound pq) : (State.writePriv s k a mask v).sound pq := by
  unfold State.writePriv
  repeat' first
    | with_reducible assumption
    | split
    | with_reducible apply State.writeLow_sound
    | simp only [State.setLocal_sound, State.writeCal_sound, State.writeMem_sound, State.writeWdog_sound]
    | simp only [State.sound_mk]
    | with_reducible refine ⟨?_, ?_, ?_, ?_⟩
    | with_reducible refine State.sound.sram (?_ : State.sound _ pq)
    | with_reducible refine State.sound.slices (?_ : State.sound _ pq)
    | with_reducible refine State.sound.flash (?_ : State.sound _ pq)
    | with_reducible refine State.sound.pending (?_ : State.sound _ pq)

@[simp] theorem State.writePf_sound (s : State) (k : Fin 4) (a : ℕ) (mask : W64) (v : W64) (h : s.sound pq) : (State.writePf s k a mask v).sound pq := by
  unfold State.writePf
  repeat' first
    | with_reducible assumption
    | split
    | with_reducible apply State.writePriv_sound
    | simp only [State.updEp_sound, State.writeDumpSel_sound]

@[simp] theorem State.alu_sound (s : State) (t : ℕ) (fn : ℕ) (d : BitVec 5) (a : BitVec 5) (b : BitVec 5) (w32 : Bool) (h : s.sound pq) : (State.alu s t fn d a b w32).sound pq := by
  unfold State.alu
  repeat' first
    | with_reducible assumption
    | with_reducible refine State.issue_sound _ _ _ _ _ _ ?_ (fun _ _ _ => ?_)
    | simp only [State.updT_sound]

@[simp] theorem State.alui_sound (s : State) (t : ℕ) (fn : ℕ) (d : BitVec 5) (a : BitVec 5) (imm : W32) (h : s.sound pq) : (State.alui s t fn d a imm).sound pq := by
  unfold State.alui
  repeat' first
    | with_reducible assumption
    | split
    | with_reducible refine State.issue_sound _ _ _ _ _ _ ?_ (fun _ _ _ => ?_)
    | simp only [State.illegal_sound, State.updT_sound]

@[simp] theorem State.mulOp_sound (s : State) (t : ℕ) (fn : ℕ) (d : BitVec 5) (a : BitVec 5) (b : BitVec 5) (w32 : Bool) (h : s.sound pq) : (State.mulOp s t fn d a b w32).sound pq := by
  unfold State.mulOp
  repeat' first
    | with_reducible assumption
    | with_reducible refine State.issue_sound _ _ _ _ _ _ ?_ (fun _ _ _ => ?_)
    | simp only [State.updT_sound]

@[simp] theorem State.setScalar_sound (s : State) (t : ℕ) (reads : List Reg) (d : BitVec 5) (f : TileSt → W64) (h : s.sound pq) : (State.setScalar s t reads d f).sound pq := by
  unfold State.setScalar
  repeat' first
    | with_reducible assumption
    | with_reducible refine State.issue_sound _ _ _ _ _ _ ?_ (fun _ _ _ => ?_)
    | simp only [State.updT_sound]

@[simp] theorem State.setAddr_sound (s : State) (t : ℕ) (reads : List Reg) (d : BitVec 4) (f : TileSt → W64) (h : s.sound pq) : (State.setAddr s t reads d f).sound pq := by
  unfold State.setAddr
  repeat' first
    | with_reducible assumption
    | with_reducible refine State.issue_sound _ _ _ _ _ _ ?_ (fun _ _ _ => ?_)
    | simp only [State.updT_sound]

@[simp] theorem State.pop_sound (s : State) (t : ℕ) (d : BitVec 3) (a : BitVec 3) (b : BitVec 3) (f : W64 → W64 → W64) (h : s.sound pq) : (State.pop s t d a b f).sound pq := by
  unfold State.pop
  repeat' first
    | with_reducible assumption
    | with_reducible refine State.issue_sound _ _ _ _ _ _ ?_ (fun _ _ _ => ?_)
    | simp only [State.updT_sound]

@[simp] theorem State.tryResume_sound (s : State) (t : ℕ) : (State.tryResume s t).sound pq ↔ s.sound pq := by simp only [State.sound, State.tryResume_keeps]

@[simp] theorem State.holdOn_sound (s : State) (t : ℕ) (h : Hold) : (State.holdOn s t h).sound pq ↔ s.sound pq := by simp only [State.sound, State.holdOn_keeps]

@[simp] theorem State.syncCheck_sound (s : State) (t i off : Nat) (f : State) (h : s.sound pq) (hf : f.sound pq) : (s.syncCheck t i off f).sound pq := by
  unfold State.syncCheck
  split <;> simp [h, hf]

@[simp] theorem State.ssig_sound (s : State) (t : ℕ) (set : Bool) (off : SyncOff) (val : SyncVal) (h : s.sound pq) : (State.ssig s t set off val).sound pq := by
  unfold State.ssig
  repeat' first
    | with_reducible assumption
    | with_reducible apply State.clean_sound
    | with_reducible refine State.issue_sound _ _ _ _ _ _ ?_ (fun _ _ _ => ?_)
    | with_reducible apply State.syncCheck_sound
    | simp only [State.updT_sound]

/-! ### What a command answers through the shared ways of taking it -/

/-- The next state of an outcome, if there is one, is sound. -/
def outOk (o : Host.Outcome State Fault Refusal) (pq : List Instr) : Prop := ∀ u, o = .next u → u.sound pq

theorem ok_outOk {s : State} (h : s.sound pq) : outOk (ok s) pq := fun u e => by cases e; exact h

theorem next_outOk {s : State} (h : s.sound pq) : outOk (.next s) pq := fun u e => by cases e; exact h

theorem fault_outOk (f : Fault) : outOk (.fault f) pq := fun u e => by cases e

theorem refused_outOk (f : Refusal) : outOk (.refused f) pq := fun u e => by cases e

theorem handle_outOk (s : State) (c : CoreId) (id : Nat) (m : Msg) (f : State → State) (h : s.sound pq) (hf : ∀ u, u.sound pq → (f u).sound pq) :
    outOk (s.handle c id m f) pq := by
  unfold State.handle
  split <;> apply ok_outOk
  · exact hf _ ((State.takeMsg_sound _ _ _).2 h)
  · exact h

theorem arrived_outOk (s : State) (n ch kind : Nat) (waits : Bool) (f : State → Nat → TorPkt → State) (h : s.sound pq)
    (hf : ∀ u g p, u.sound pq → (f u g p).sound pq) : outOk (s.arrived n ch kind waits f) pq := by
  unfold State.arrived
  apply ok_outOk
  (repeat' split) <;> simp [h, hf]

theorem memMsg_outOk (s : State) (m : Msg) (id : Nat) (f : State → Nat → State) (h : s.sound pq) (hf : ∀ u n, u.sound pq → (f u n).sound pq) :
    outOk (s.memMsg m id f) pq := by
  unfold State.memMsg
  refine handle_outOk _ _ _ _ _ h (fun u hu => ?_)
  split <;> simp [hu, hf]

theorem mmcMsg_outOk (s : State) (id : Nat) (m : Msg) (who : List MgtSender) (f : State → State) (h : s.sound pq) (hf : ∀ u, u.sound pq → (f u).sound pq) :
    outOk (s.mmcMsg id m who f) pq := by
  unfold State.mmcMsg
  dsimp only
  split <;> apply ok_outOk
  · exact h
  · apply sound_ite
    · exact hf _ ((State.takeMsg_sound _ _ _).2 h)
    · simp [h]

theorem twinMsg_outOk (s : State) (id : Nat) (m : Msg) (f : State → State) (h : s.sound pq) (hf : ∀ u, u.sound pq → (f u).sound pq) :
    outOk (s.twinMsg id m f) pq := by
  unfold State.twinMsg
  refine handle_outOk _ _ _ _ _ h (fun u hu => ?_)
  (repeat' split) <;> simp [hu, hf]

theorem torMsg_outOk (s : State) (id : Nat) (m : Msg) (f : State → State) (h : s.sound pq) (hf : ∀ u, u.sound pq → (f u).sound pq) :
    outOk (s.torMsg id m f) pq := by
  unfold State.torMsg
  refine handle_outOk _ _ _ _ _ h (fun u hu => ?_)
  dsimp only
  apply sound_ite
  · exact hf _ hu
  · simp [hu]

theorem inPhase_outOk (s : State) (p : Nat) (ph : PortPhase) (f : State → State) (h : s.sound pq) (hf : ∀ u, u.sound pq → (f u).sound pq) :
    outOk (s.inPhase p ph f) pq := by
  unfold State.inPhase
  exact ok_outOk (sound_ite (hf _ h) h)

theorem takeProto_outOk (s : State) (p type : Nat) (f : State → List Byte → Bool → State) (h : s.sound pq) (hf : ∀ u b x, u.sound pq → (f u b x).sound pq) :
    outOk (s.takeProto p type f) pq := by
  unfold State.takeProto
  apply ok_outOk
  (repeat' split) <;> simp [h, hf]

end Sys2Proof.Machine
end

