-- ==== Sys2Proof/Laws/Tile.lean ====
section
/-! SUPPORT. Laws of a tile: reading what was written, and the issue of an instruction that nothing stops. -/
namespace Sys2Proof.Machine

@[simp] theorem State.tile_setT_same (s : State) (t : Nat) (x : TileSt) : (s.setT t x).tile t = x := by
  simp [State.tile, State.setT]

theorem State.tile_setT_other (s : State) (t u : Nat) (x : TileSt) (h : u ≠ t) : (s.setT t x).tile u = s.tile u := by
  simp [State.tile, State.setT, tget_tset_other _ _ _ _ _ h]

@[simp] theorem State.tile_updT_same (s : State) (t : Nat) (f : TileSt → TileSt) : (s.updT t f).tile t = f (s.tile t) := by
  simp [State.updT]

theorem tset_tset {α : Type} (l : List (Nat × α)) (k : Nat) (v w : α) : tset (tset l k v) k w = tset l k w := by
  induction l with
  | nil => simp [tset]
  | cons c r ih =>
    obtain ⟨j, u⟩ := c
    by_cases h : k < j
    · simp [tset, h]
    · by_cases e : k = j
      · simp [tset, e]
      · simp [tset, if_neg h, if_neg e, ih]

@[simp] theorem State.setT_setT (s : State) (t : Nat) (x y : TileSt) : (s.setT t x).setT t y = s.setT t y := by
  simp [State.setT, tset_tset]

@[simp] theorem State.updT_eq (s : State) (t : Nat) (f : TileSt → TileSt) : s.updT t f = s.setT t (f (s.tile t)) := rfl

@[simp] theorem TileSt.issued1_sGet (x : TileSt) (r : Nat) : x.issued1.sGet r = x.sGet r := rfl
@[simp] theorem TileSt.issued1_sBad (x : TileSt) (r : Nat) : x.issued1.sBad r = x.sBad r := rfl
@[simp] theorem TileSt.issued1_aGet (x : TileSt) (r : Nat) : x.issued1.aGet r = x.aGet r := rfl
@[simp] theorem TileSt.issued1_aBad (x : TileSt) (r : Nat) : x.issued1.aBad r = x.aBad r := rfl
@[simp] theorem TileSt.issued1_pGet (x : TileSt) (r : Nat) : x.issued1.pGet r = x.pGet r := rfl
@[simp] theorem TileSt.issued1_pBad (x : TileSt) (r : Nat) : x.issued1.pBad r = x.pBad r := rfl
@[simp] theorem TileSt.issued1_vGet (x : TileSt) (r : Nat) : x.issued1.vGet r = x.vGet r := rfl
@[simp] theorem TileSt.issued1_vBad (x : TileSt) (r : Nat) : x.issued1.vBad r = x.vBad r := rfl
@[simp] theorem TileSt.issued1_tokGet (x : TileSt) (r : Nat) : x.issued1.tokGet r = x.tokGet r := rfl
@[simp] theorem TileSt.issued1_run (x : TileSt) : x.issued1.run = x.run := rfl
@[simp] theorem TileSt.issued1_hold (x : TileSt) : x.issued1.hold = x.hold := rfl
@[simp] theorem TileSt.issued1_index (x : TileSt) : x.issued1.index = x.index + 1 := rfl
@[simp] theorem TileSt.issued1_issued (x : TileSt) : x.issued1.issued = x.issued + 1 := rfl
@[simp] theorem TileSt.issued1_vq (x : TileSt) : x.issued1.vq = x.vq := rfl
@[simp] theorem TileSt.issued1_tq (x : TileSt) : x.issued1.tq = x.tq := rfl
@[simp] theorem TileSt.issued1_sq (x : TileSt) : x.issued1.sq = x.sq := rfl
@[simp] theorem TileSt.issued1_mq (x : TileSt) : x.issued1.mq = x.mq := rfl
@[simp] theorem TileSt.issued1_xq (x : TileSt) : x.issued1.xq = x.xq := rfl

/-- What the sequencer does with an instruction that nothing stops: it counts the issue, advances and gives the effect. -/
theorem State.issue_ready (s : State) (t : Nat) (reads writes accs : List Reg) (f : State → Nat → State)
    (h : s.canIssue t reads writes accs) :
    s.issue t reads writes accs f = f (s.setT t (s.tile t).issued1) (s.tile t).index := by
  obtain ⟨h1, h2, h3, h4, h5⟩ := h
  simp only [State.issue, h1, h2, h4]
  rw [if_neg (by simp), if_neg (by omega), if_neg (by simp), if_neg]
  · rfl
  · simp only [List.any_eq_true, not_exists, not_and]
    intro r hr
    cases r with
    | a n => simp [h5 n hr]
    | _ => simp

/-- The scalars an instruction must find clean are clean: its effect follows. -/
theorem State.clean_ready (s : State) (t i : Nat) (regs : List Nat) (f : State) (h : ∀ r ∈ regs, (s.tile t).sBad r = false) :
    s.clean t i regs f = f := by
  rw [State.clean, if_neg]
  simp only [List.any_eq_true, not_exists, not_and, Bool.not_eq_true]
  exact h

end Sys2Proof.Machine
end

