-- ==== Sys2Proof/Laws/Vector.lean ====
section
/-! SUPPORT. Laws of vector lanes and masks: a register put together from lanes gives them back. -/
namespace Sys2Proof.Machine

/-- Fields of one width packed lowest first come back by shift and mask. -/
theorem pack_field {α : Type} (w : Nat) (f : α → Nat) (l : List α) (k : Nat) (a : α) (h : l[k]? = some a) :
    pack (l.map (fun x => (w, f x))) >>> (w * k) % 2 ^ w = f a % 2 ^ w := by
  induction l generalizing k with
  | nil => simp at h
  | cons b r ih =>
    cases k with
    | zero =>
      simp only [List.getElem?_cons_zero, Option.some.injEq] at h
      subst h
      simp [pack]
    | succ k =>
      simp only [List.getElem?_cons_succ] at h
      have e : w * (k + 1) = w + w * k := by ring
      rw [List.map_cons, pack, e, Nat.shiftRight_add]
      have d : (f b % 2 ^ w + 2 ^ w * pack (r.map (fun x => (w, f x)))) / 2 ^ w = pack (r.map (fun x => (w, f x))) := by
        rw [Nat.add_mul_div_left _ _ (Nat.two_pow_pos w), Nat.div_eq_of_lt (Nat.mod_lt _ (Nat.two_pow_pos w)), Nat.zero_add]
      rw [Nat.shiftRight_eq_div_pow _ w, d]
      exact ih k h

theorem lane_ofLanes (l : List W32) (k : Nat) (a : W32) (hk : k < 64) (h : l[k]? = some a) : lane (ofLanes l) k = a := by
  apply BitVec.eq_of_toNat_eq
  have e := pack_field 32 (fun x : W32 => x.toNat) l k a h
  rw [lane, ofLanes, BitVec.extractLsb'_toNat, BitVec.toNat_ofNat]
  have m : (pack (l.map (fun x => (32, x.toNat))) % 2 ^ 2048) >>> (32 * k) % 2 ^ 32 = pack (l.map (fun x => (32, x.toNat))) >>> (32 * k) % 2 ^ 32 := by
    simp only [Nat.shiftRight_eq_div_pow]
    have s : (2 : Nat) ^ 2048 = 2 ^ (32 * k) * 2 ^ (2048 - 32 * k) := by rw [← Nat.pow_add]; congr 1; omega
    rw [s, Nat.mod_mul_right_div_self, Nat.mod_mod_of_dvd]
    exact Nat.pow_dvd_pow 2 (by omega)
  rw [m, e]
  exact Nat.mod_eq_of_lt a.isLt

theorem maskOf_bit (l : List Bool) (k : Nat) (a : Bool) (hk : k < 64) (h : l[k]? = some a) : (maskOf l).getLsbD k = a := by
  have e := pack_field 1 (fun b : Bool => b.toNat) l k a h
  rw [maskOf, BitVec.getLsbD_ofNat, Nat.testBit_eq_decide_div_mod_eq]
  rw [Nat.one_mul, Nat.shiftRight_eq_div_pow, Nat.pow_one] at e
  rw [e]
  cases a <;> simp [hk]

end Sys2Proof.Machine
end

