-- ==== Sys2Proof/Tests/Base.lean ====
section
/-! SUPPORT. Helpers of the tests: small states, what a command answers. -/
namespace Sys2Proof.Tests
open Sys2Proof.Machine

/-- The command answers a next state that passes a check. -/
def yields (i : Instr) (s : State) (p : State → Bool) : Bool :=
  match exec i s with
  | .next u => p u
  | _ => false

/-- The command leaves the state as it is. -/
def still (i : Instr) (s : State) : Bool := yields i s (fun u => decide (u = s))

/-- A register list without a poisoned address register. -/
def cleanA (x : TileSt) (l : List Reg) : Bool := l.all (fun r => match r with
  | .a n => !x.aBad n
  | _ => true)

def issues (s : State) (t : Nat) (r w a : List Reg) : Bool :=
  decide ((s.tile t).run = .running) && decide ((s.tile t).hold = none) && decide ((s.tile t).index < (s.tile t).progCount) &&
    !(s.tile t).hazard r w a && cleanA (s.tile t) r

theorem canIssue_of {s : State} {t : Nat} {r w a : List Reg} (h : issues s t r w a = true) : s.canIssue t r w a := by
  simp only [issues, cleanA, Bool.and_eq_true, decide_eq_true_eq, Bool.not_eq_true', List.all_eq_true] at h
  refine ⟨h.1.1.1.1, h.1.1.1.2, h.1.1.2, h.1.2, fun n hn => ?_⟩
  have := h.2 _ hn
  simpa using this

theorem canQueue_of {s : State} {t : Nat} {op : QOp} {k : Tok}
    (h : issues s t (op.reads ++ if k.we then [rs k.ws] else []) op.writes op.accs = true)
    (h' : op.fieldsOk = true ∧ k.ok = true ∧ ((s.tile t).queue op.queue).length < op.queue.depth ∧
      (∀ e ∈ (s.tile t).queue op.queue, e.begun = true) ∧
      (k.we = true → s.sP t k.ws = false ∧ (s.tile t).abortedToken k.wt = none ∧
        tokenMet ((s.tile t).tokGet k.wt.toNat) ((s.sR t k.ws).setWidth 16)) ∧
      (op.queue = .mq → (s.xfers.filter (fun y => decide (y.t = t) && !y.finished)).length < 8)) : s.canQueue t op k :=
  ⟨canIssue_of h, h'⟩

/-- `State.canQueue` of operations without a token wait, as a check. -/
def queues (s : State) (t : Nat) (op : QOp) : Bool :=
  issues s t (op.reads ++ []) op.writes op.accs && op.fieldsOk && decide (((s.tile t).queue op.queue).length < op.queue.depth) &&
    ((s.tile t).queue op.queue).all (fun e => e.begun) && decide ((s.xfers.filter (fun y => decide (y.t = t) && !y.finished)).length < 8)

theorem canQueue_all {s : State} {t : Nat} {l : List QOp} (h : l.all (queues s t) = true) : ∀ op ∈ l, s.canQueue t op {} := by
  intro op hop
  have h := List.all_eq_true.mp h op hop
  simp only [queues, Bool.and_eq_true, decide_eq_true_eq, List.all_eq_true] at h
  exact ⟨canIssue_of (by simpa using h.1.1.1.1), h.1.1.1.2, rfl, h.1.1.2, h.1.2, by simp, fun _ => h.2⟩

theorem canQueue_one {s : State} {t : Nat} {op : QOp} (h : queues s t op = true) : s.canQueue t op {} :=
  canQueue_all (l := [op]) (by simp [h]) op (by simp)

/-! ### A tile that runs -/

/-- s1 = 7, s2 = −2, s3 poisoned 5, s4 = 2^32 + 4; p1 lanes 0 and 5, p2 none; a1 = 0x1000, a2 = 0x2000. -/
def T1 : TileSt := { ({} : TileSt) with
  run := .running, progs := [(0, { banks := 1, count := 100 })], index := 10
  s := [(1, 7), (2, 0xFFFFFFFFFFFFFFFE), (3, 5), (4, 0x100000004)], sPoison := withBit 0 3 true
  a := [(1, 0x1000), (2, 0x2000)], p := [(1, 0x21)] }

def S1 : State := { State.reset with tiles := [(0, T1)] }

/-! ### A module that takes messages -/

/-- Every core runs; host link 0 is up with its mailbox enabled; partition 0 is active at region 0. -/
def M0 : State := { State.reset with
  phase := .fullReady, fw := { State.reset.fw with sec := { state := .running }, pwr := { state := .running }, sch := { state := .running } }
  links := [(0, { up := true, bme := true, vfEnable := true, numVfs := 12, vfBme := 0xFFF, ep := { mbx := { en := true, log2 := 4, reserved := 1 } } })]
  rgn := [(0, { Region.reset 0 with state := .ready, partition := some 0 }), (1, { Region.reset 1 with state := .ready })]
  part := [(0, { ({} : Partition) with state := .active, w := 1, h := 1, key := 5, syncCount := 256 })] }

/-- A message from the privileged function on PF 0, or from VF 0. -/
def pm (p : List Byte) : Msg := { sender := .mbx 0, tag := 7, reqHead := 0, payload := p }
def vm (p : List Byte) : Msg := { sender := .mbx 4, tag := 7, reqHead := 0, payload := p }

/-- The result of the newest reply on PF 0. -/
def resultOf (u : State) : Option Byte := u.out.findSome? (fun o => match o with
  | .hostWrite (.pf 0) _ b => if 60 ≤ b.length then b[16]? else none
  | _ => none)

/-- The message changes the state as told and is answered with a result on PF 0. -/
def replies (i : Instr) (s : State) (r : Byte) (p : State → Bool) : Bool := yields i s (fun u => decide (resultOf u = some r) && p u)

end Sys2Proof.Tests
end

