-- ==== Sys2Proof/Tests/Firmware.lean ====
section
/-! SUPPORT. Tests of mailboxes, firmware cores, partitions and security messages (02, 15), witnesses of their statements. -/
namespace Sys2Proof.Tests
set_option Elab.async false
open Sys2Proof.Machine

def runs (s : State) (c : CoreId) (id : Nat) : Bool := decide ((s.core c).state = .running) && decide (s.phase = .fullReady) && decide (id < 65536)
theorem canHandle_of {s : State} {c : CoreId} {id : Nat} (h : runs s c id = true) : s.canHandle c id := by
  simp only [runs, Bool.and_eq_true, decide_eq_true_eq] at h; exact ⟨h.1.1, .inr (.inl h.1.2)⟩

/-! ### Mailboxes -/

/-- M0 with PF 0's mailbox as given. -/
def box (x : Mailbox) : State := { M0 with links := [(0, { (M0.lk 0) with ep := { mbx := x } })] }
def B1 : Mailbox := { en := true, log2 := 8, reqTail := 1, rspHead := 255, rspUsed := 2 }
def boxAfter (i : Instr) (b c : Mailbox) : Bool := yields i (box b) (fun u => decide ((u.lk 0).ep.mbx = c))
theorem test_mbx : boxAfter (.mbxEnable 0) { log2 := 8, reqTail := 3 } { log2 := 8, en := true } && boxAfter (.mbxDisable 0) B1 { B1 with en := false } && boxAfter (.mbxReqTail 0 255) B1 { B1 with reqTail := 255 } &&
  boxAfter (.mbxReqTail 0 256) B1 { B1 with doorbellDrop := 1 } && boxAfter (.mbxRspHead 0 1) B1 { B1 with rspHead := 1, rspUsed := 0 } && boxAfter (.mbxRspHead 0 256) B1 { B1 with doorbellDrop := 1 } = true := by
  decide +kernel
/-- A request with MSG_ID `id`. -/
def req (id : Nat) : List Byte := leBytes 2 0x4D55 ++ [1, 0] ++ leBytes 2 id ++ List.replicate 58 0
theorem wit_mbx : (box B1).nextMbx = some 0 ∧ leAt (req 0x0201) 0 2 = 0x4D55 ∧ leAt (req 0x0201) 2 1 = 1 ∧ leAt (req 0x0201) 12 4 ≤ 4096 ∧ reservedClean (req 0x0201) = true ∧
    leAt (req 0x0201) 4 2 / 256 = 0x02 ∧ leAt (req 0x1301) 4 2 / 256 = 0x13 ∧ (box B1).vfLive 0 = true := by decide +kernel
def queuesAfter (s : State) (r : Option (List Byte)) (a b c d : Nat) : Bool :=
  yields (.mailboxAccept 0 r) s (fun u => decide (u.fw.qSec.length = a) && decide (u.fw.qPwr.length = b) && decide (u.fw.qSch.length = c) && decide (u.fw.qMmc.length = d))
theorem test_mbx_accept : queuesAfter (box B1) (some (req 0x0201)) 1 0 0 0 && queuesAfter (box B1) (some (req 0x1001)) 0 1 0 0 && queuesAfter (box B1) (some (req 0x0A01)) 0 0 1 0 &&
  queuesAfter (box B1) (some (req 0x1301)) 0 0 0 1 && queuesAfter (box B1) (some (0 :: req 0x0201)) 0 0 0 0 && boxAfter (.mailboxAccept 0 none) B1 { B1 with en := false, fetchFault := 1 } &&
  boxAfter (.mailboxAccept 0 (some (req 0x0201))) B1 { B1 with reqHead := 1, reserved := 1, accepted := 1 } = true := by decide +kernel

/-! ### Cores -/

def C0 (x : Core) : State := { M0 with fw := { M0.fw with pwr := x } }
def coreAfter (i : Instr) (x : Core) (p : Core → Bool) : Bool := yields i (C0 x) (fun u => p u.fw.pwr)
theorem wit_core : (C0 { state := .frost }).mayReload .pwr = true ∧ ({ state := .running, loads := [(false, 1), (false, 2), (false, 3), (true, 1), (true, 1), (true, 1)] } : Core).loadsOf false 60001 = 3 ∧
    ({ state := .running, loads := [(false, 1)] } : Core).loadsOf false 60002 = 0 ∧ (∀ e ∈ M0.fw.rcc, e.2.waiting = false) := by decide +kernel
theorem test_core : coreAfter (.watchdogExpiry .pwr 9 0) { state := .running } (fun y => decide (y.state = .frost) && decide (y.lastCause = 1) && decide (y.restarts = 1)) &&
  coreAfter (.coreException .pwr 9 0) { state := .running, loads := [(false, 1), (false, 2), (false, 3), (true, 1), (true, 1), (true, 1)] } (fun y => decide (y.state = .failed) && decide (y.lastCause = 2)) &&
  still (.coreMemoryError .pwr 9 0) (C0 { state := .failed }) && coreAfter (.thawTimeout .pwr 9) { state := .thawing } (fun y => decide (y.state = .frost) && decide (y.lastCause = 5)) = true := by decide +kernel
theorem test_reload : coreAfter (.coreReloadDone .pwr true false) { state := .frost, loadSlot := true } (fun y => decide (y = { state := .thawing, slot := true, loadSlot := true })) &&
  still (.coreReloadDone .pwr false false) (C0 { state := .frost }) && coreAfter (.coreThawed .pwr 90) { state := .thawing, causeMs := 50 } (fun y => decide (y.state = .running) && decide (y.lastMs = 40)) = true := by decide +kernel
def T0 : State := { M0 with fw := { M0.fw with sec := { state := .frost }, sch := { state := .frost } }, mgt := { M0.mgt with mmcRunning := true } }
theorem wit_takeover : T0.fw.sec.frost = true ∧ T0.fw.sch.frost = true ∧ T0.mgt.mmcRunning = true ∧ T0.fw.auth ≠ 2 := by decide +kernel
theorem test_takeover : yields (.mmcTakeover 5) T0 (fun u => decide (u.fw.auth = 2) && u.fw.mmcQuiesce) = true := by decide +kernel

/-! ### Registers and messages of the firmware -/

theorem wit_fw : M0.priv = .pf 0 ∧ M0.priv ≠ .pf 1 ∧ coreOf 159 = some (.rcc 143) ∧ M0.rccAbsent .pwr = false ∧ M0.rccAbsent (.rcc 143) = true ∧ M0.isPriv (pm []) = true ∧ M0.isPriv (vm []) = false ∧ M0.authorityActs = true := by decide +kernel
theorem wit_handle : M0.canHandle .sec 0x0F04 ∧ M0.canHandle .pwr 0x0F01 := ⟨canHandle_of (by decide +kernel), canHandle_of (by decide +kernel)⟩
theorem test_fw_registers : yields (.wdogWrite 0 0x271000090000000A) M0 (fun u => decide (u.fw.wdogSec = 10) && decide (u.fw.wdogPwr = 200) && decide (u.fw.wdogSch = 500) && decide (u.fw.wdogRcc = 10000)) &&
  still (.wdogWrite 1 100) M0 && yields (.dumpSelWrite 2 0x7FFF9F) M0 (fun u => decide ((u.lk 2).dumpCore = 0x9F) && decide ((u.lk 2).dumpOffset = 0x7FFF)) &&
  yields (.dumpDataRead 0 0x40608 8) M0 (fun u => decide (u.out = [.readValue (.pf 0) 0x40608 0]) && decide ((u.lk 0).dumpOffset = 1)) = true := by decide +kernel
def FI : State := { M0 with fw := { M0.fw with images := [(3, { version := 9, svn := 0, root := 0, hash := 0 })] } }
theorem test_fw_messages : replies (.fwPing (pm [1]) 9) M0 0 (fun u => decide (u.fw = M0.fw)) && yields (.fwRestart (pm [1, 2]) 9 0) FI (fun u => decide (u.fw.pwr.state = .frost) && u.fw.pwr.loadSlot && decide (u.fw.pwr.lastCause = 4)) &&
  replies (.fwDumpClear (pm [1])) M0 0 (fun u => !u.fw.pwr.dumpValid) = true := by decide +kernel
def IM (root : BitVec 384) : ImageIn := { header := List.replicate 256 0, rootKeyHash := root, sigOk := true, bodyHash := 0 }
theorem wit_stage : M0.slotInUse 1 true = false ∧ M0.sec.verify 1 (IM 0) ≠ 0 := by decide +kernel
theorem test_stage : replies (.fwImageStage (pm ([1, 1] ++ List.replicate 14 0 ++ leBytes 4 256)) (IM 0)) M0 7 (fun u => decide (u.fw = { M0.fw with images := [] }) && decide (u.sec.failCode = 1)) = true := by decide +kernel

/-! ### Partitions -/

def create (n x y w h : Byte) (key base count : Nat) : Msg := pm ([n, x, y, w, h, 0] ++ leBytes 2 key ++ leBytes 4 base ++ leBytes 4 count ++ [0])
theorem wit_create : M0.canHandle .sec 0x0201 ∧ (M0.pt 1).state = .free ∧ M0.keyFree 6 = true ∧ M0.keyFree 5 = false ∧ M0.syncFree 256 256 = true ∧ (M0.rg 1).state = .ready ∧ (M0.rg 1).partition = none ∧ rectRegions 1 0 1 1 = [1] :=
  ⟨canHandle_of (by decide +kernel), by decide +kernel⟩
theorem test_create : replies (.partCreate (create 1 1 0 1 1 6 256 256) []) M0 0 (fun u => decide ((u.pt 1).state = .active) && decide ((u.rg 1).partition = some 1) && decide ((u.pt 1).key = 6)) &&
  replies (.partCreate (create 1 1 0 0 1 6 256 256) []) M0 2 (fun u => decide ((u.pt 1).state = .free)) && replies (.partCreate (create 1 1 0 1 1 5 256 256) []) M0 3 (fun u => decide ((u.pt 1).state = .free)) = true := by decide +kernel
theorem wit_resize : M0.resizeRefusal 0 (pm [0, 0, 0, 2, 1]).resize = none ∧ (M0.pt 0).added (pm [0, 0, 0, 2, 1]).resize = [1] ∧ M0.isHome 0 = false ∧ { M0 with sec := { M0.sec with shared := [(0, { key := 0xF000, home := some 0, pages := 1 })] } }.isHome 0 = true := by
  decide +kernel
theorem test_resize_reset : replies (.partResize (pm [0, 0, 0, 2, 1])) M0 0 (fun u => decide ((u.rg 1).partition = some 0) && decide ((u.pt 0).state = .resetting)) && replies (.partReset (pm [0])) M0 0 (fun u => decide ((u.pt 0).resetStep = 1)) &&
  yields (.partDestroy (pm [0])) M0 (fun u => decide ((u.pt 0).destroy = some (pm [0]))) = true := by decide +kernel
theorem test_port_assign : replies (.portAssign (pm [1, 23, 0])) M0 0 (fun u => decide (u.portOwner = [(23, 0)])) && replies (.portAssign (pm [1, 23, 15])) { M0 with portOwner := [(23, 0)] } 0 (fun u => decide (u.portOwner = [])) &&
  replies (.portAssign (pm [1, 23, 0])) { M0 with portOwner := [(23, 3)] } 4 (fun u => decide (u.portOwner = [(23, 3)])) = true := by decide +kernel
/-- Partition 0 in a state of its reset, with a tile that runs. -/
def PR (st : PartState) (k : Nat) (r : Option Resize) (d : Option Msg) : State := { M0 with
  part := [(0, { (M0.pt 0) with state := st, resetStep := k, resize := r, destroy := d })], tiles := [(0, T1)], sram := [(5, 1)], sync := [(255, 4), (256, 3)], portOwner := [(1, 0)] }
theorem test_reset_steps : yields (.partitionResetProgress 0) (PR .resetting 1 none none) (fun u => decide ((u.pt 0).resetStep = 2) && decide ((u.tile 0).run = .halted)) &&
  yields (.partitionResetProgress 0) (PR .resetting 2 none none) (fun u => decide ((u.pt 0).resetStep = 3)) &&
  yields (.partitionResetProgress 0) (PR .resetting 4 none none) (fun u => decide ((u.pt 0).state = .active)) = true := by decide +kernel
theorem test_resize_end : yields (.partResizeComplete 0) (PR .scrubbing 0 (some { rx0 := 1, ry0 := 0, w := 1, h := 1 }) none) (fun u => decide ((u.pt 0).rx0 = 1) && decide ((u.rg 0).partition = none) && decide ((u.pt 0).state = .active)) &&
  yields (.partDestroyComplete 0) (PR .scrubbing 0 none (some (pm [0]))) (fun u => decide ((u.pt 0).state = .free) && decide (u.portOwner = []) && decide ((u.rg 0).partition = none)) = true := by decide +kernel

/-! ### Security -/

/-- Shared region 63 homed in partition 0 under key 0xF000; the grants as given. -/
def SH (g : List Grant) : State := { M0 with sec := { M0.sec with shared := [(63, { key := 0xF000, home := some 0, pages := 1 })], grants := g, fuseSvn := 2 } }
def G0 : Grant := { shared := 63, grantee := 0, right := 0, base := 0 }
def create2 (i h : Byte) (key pages : Nat) : Msg := pm ([i, 0] ++ leBytes 2 key ++ [h, 0, 0, 0] ++ leBytes 4 pages)
theorem wit_shared : tfind (SH []).sec.shared 62 = none ∧ (∀ e ∈ (SH []).sec.shared, e.2.key.toNat ≠ 0xFFFE) ∧ (SH []).grantRefusal (pm [63, 0, 1]) = none ∧ ¬ (SH [G0]).slotsRefer 0 63 = true ∧
    (∀ x ∈ (SH []).sec.running, 63 ≤ x.2.svn.toNat) ∧ (vm [0]).part = some 0 := by decide +kernel
theorem test_shared : replies (.sharedCreate (create2 62 15 0xFFFE 0x200000)) (SH []) 0 (fun u => decide (tfind u.sec.shared 62 = some { key := 0xFFFE, home := none, pages := 0x200000 })) &&
  replies (.sharedDestroy (pm [63])) (SH []) 0 (fun u => decide (u.sec.shared = [])) && replies (.sharedDestroy (pm [63])) (SH [G0]) 4 (fun u => decide (u.sec = (SH [G0]).sec)) = true := by decide +kernel
theorem test_grant : replies (.grant (pm [63, 0, 0])) (SH []) 0 (fun u => decide (u.sec.grants = [G0])) && replies (.revoke (pm [63, 0, 0, 0])) (SH [G0]) 0 (fun u => decide (u.sec.grants = [])) &&
  yields (.revoke (pm [63, 0, 0, 1])) (SH [G0]) (fun u => decide ((u.pt 0).state = .resetting) && decide ((u.pt 0).revokes = [{ shared := 63, right := 0, msg := pm [63, 0, 0, 1] }])) = true := by decide +kernel
theorem test_keys : yields (.keyLoad (vm [0, 15, 0, 0, 9]) (some 5)) M0 (fun u => decide (u.sec.privateKeys.map (fun e => (e.1, e.2.keyId, e.2.key)) = [(15, 9, 5)])) && yields (.keyLoad (vm [0, 15, 0, 0, 9]) none) M0 (fun u => decide (u.sec.keyLoadFail = 1)) &&
  yields (.keyErase (vm [0, 15])) { M0 with sec := { M0.sec with privateKeys := [(15, { keyId := 9, key := 5, bound := 0 })] } } (fun u => decide (u.sec.privateKeys = [])) = true := by decide +kernel
theorem test_svn : replies (.svnCommit (pm [63])) (SH []) 0 (fun u => decide (u.sec.fuseSvn = 63)) && replies (.svnCommit (pm [1])) (SH []) 1 (fun u => decide (u.sec.fuseSvn = 2)) && still (.deviceCert (vm [])) { M0 with links := [] } = false := by
  decide +kernel

end Sys2Proof.Tests
end

