-- ==== Sys2Proof/Tests/Bringup.lean ====
section
/-! SUPPORT. Tests of registers, programs, bring-up and calibration (00, 05, 17, 18), witnesses of their statements. -/
namespace Sys2Proof.Tests
set_option Elab.async false
open Sys2Proof.Machine

/-! ### Registers and programs -/

theorem wit_registers : M0.priv = .pf 0 ∧ (90 : W64).toNat % 256 = 90 ∧ (70 : W64).toNat % 256 = 70 ∧ (0x3C : BitVec 24).toNat % 8 ≠ 0 ∧ (0x32 : BitVec 24).toNat % 4 ≠ 0 := by decide +kernel
def SC : State := { M0 with scratch := 0x1111111122222222 }
theorem test_registers : yields (.registerWrite (.pf 0) 0x30 8 9) SC (fun u => decide (u.scratch = 9)) && yields (.registerWrite (.pf 0) 0x30 4 9) SC (fun u => decide (u.scratch = 0x1111111100000009)) &&
  yields (.registerWrite (.pf 0) 0x34 4 9) SC (fun u => decide (u.scratch = 0x922222222)) && still (.registerWrite (.pf 0) 0x34 8 9) SC && still (.registerWrite (.pf 1) 0x30 8 9) SC && still (.registerWrite (.pf 0) 0x30 2 9) SC &&
  yields (.registerWrite (.pf 0) 0xC0008 8 90) SC (fun u => decide (u.pwr.targetC = 90)) && still (.registerWrite (.pf 0) 0xC0008 8 91) SC && still (.registerWrite (.pf 0) 0xC0008 8 69) SC = true := by decide +kernel
theorem test_low_half : yields (.rsLowHalfRead (.pf 0) 0x28) { M0 with cad := { M0.cad with count := 0x500000003 } } (fun u => decide (u.rsShadow = [(0x28, 5)]) && decide (u.out = [.readValue (.pf 0) 0x28 3])) && still (.rsLowHalfRead (.pf 0) 0x30) M0 = true := by
  decide +kernel

/-- Operation 0 on the one tile (1, 0); tile 1 holds a program of `n` instructions in slot 0; other claims as given. -/
def run1 (d : BitVec 512) : Op := { id := 0, part := 0, ring := 0, slot := 0, desc := d, ext := [], cq := 1, st := .started, status := 0, detail := 0, doneTick := 0, ended := 0, noSignal := false, timely := false }
def RS (d : BitVec 512) (n : Nat) (l : List (Nat × RunState)) : State := { M0 with
  ops := [run1 d], runs := l, tiles := [(1, { ({} : TileSt) with progs := if n = 0 then [] else [(0, { banks := 1, count := n })] })] }
/-- RUN at entry 4 of the block of tile (1, 0). -/
def runD : BitVec 512 := BitVec.ofNat 512 (0x11 + 2 ^ (8 * 28) * (1 + 2 ^ 32 + 2 ^ 48) + 4 * 2 ^ (8 * 38))
def loadD (len : Nat) : BitVec 512 := BitVec.ofNat 512 (0x10 + 2 ^ (8 * 28) * (1 + 2 ^ 32 + 2 ^ 48) + 2 ^ (8 * 37) + len * 2 ^ (8 * 48))
/-- A claim on tile (1, 0) held by operation 7. -/
def held : RunState := { granted := true, tx0 := 1, ty0 := 0, w := 1, h := 1, slot := 0 }
/-- An image of one instruction, its check `c`. -/
def image (c : Nat) : List Byte := leBytes 4 0x5052474B ++ [1, 0, 1, 0] ++ leBytes 4 1 ++ leBytes 4 c ++ List.replicate 48 0 ++ leBytes 8 9
def goodImage : List Byte := image (crc32c (leBytes 8 9)).toNat

theorem wit_run : (RS runD 5 []).findOp 0 = some (run1 runD) ∧ (run1 runD).claim.tiles = [1] ∧ (run1 runD).claim.entry = 4 ∧ (run1 runD).opcode = 0x11 ∧ (run1 (loadD 72)).opcode = 0x10 ∧ (run1 (loadD 72)).le 48 4 = 72 ∧ (run1 (loadD 72)).byte 37 % 2 = 1 ∧
    held.meets (run1 runD).claim = true ∧ goodImage.length = 72 ∧ imageCheck goodImage 72 = none ∧ (crc32c (goodImage.drop 64)).toNat = leAt goodImage 12 4 ∧ (crc32c ((image 0).drop 64)).toNat ≠ leAt (image 0) 12 4 := by decide +kernel
def ended (u : State) (st : Byte) (d : W32) : Bool := decide (u.ops.map (fun o => (o.status, o.detail)) = [(st, d)])
theorem test_run : yields (.run 0) (RS runD 5 []) (fun u => decide ((u.tile 1).run = .running) && decide ((u.tile 1).index = 4) && decide (u.runs = [(0, { (run1 runD).claim with granted := true })])) &&
  yields (.run 0) (RS runD 0 []) (fun u => ended u 8 0x105) && yields (.run 0) (RS runD 4 []) (fun u => ended u 8 0x106) && yields (.run 0) (RS runD 5 [(7, held)]) (fun u => decide (u.runs = [(0, (run1 runD).claim), (7, held)])) = true := by decide +kernel
theorem test_claim : yields (.runClaimGranted 0 []) (RS runD 5 [(0, (run1 runD).claim)]) (fun u => decide ((u.tile 1).run = .running)) && still (.runClaimGranted 0 []) (RS runD 5 [(0, (run1 runD).claim), (7, held)]) = true := by decide +kernel
theorem test_load : yields (.loadProgram 0 goodImage) (RS (loadD 72) 0 []) (fun u => ended u 0 1 && decide ((u.tile 1).progs = [(0, { banks := 1, count := 1 })])) && yields (.loadProgram 0 (image 0)) (RS (loadD 72) 5 []) (fun u => decide ((u.tile 1).progs = []) && decide (u.ops.map (fun o => o.status) = [5])) &&
  yields (.loadProgram 0 []) (RS (loadD 0) 5 []) (fun u => ended u 0 0 && decide ((u.tile 1).progs = [])) = true := by decide +kernel

/-- Regions 0, 1 and 2 of partition 0 with rates, region 0 with counts. -/
def RT (a : Nat) (f : RegionFaults) : State := { M0 with
  part := [(0, { (M0.pt 0) with w := 3 })], rgn := [(0, { (M0.rg 0) with flt := { f with rate100 := BitVec.ofNat 11 a } }), (1, { (M0.rg 1) with flt := { rate100 := 1000 } }), (2, { (M0.rg 1) with flt := { rate100 := 1000 } })] }
theorem wit_straggler : (RT 900 {}).readyRegions 0 = [0, 1, 2] ∧ median ([900, 1000, 1000] : List Nat) = 1000 ∧ (RT 900 {}).ras.marginPct.toNat = 10 ∧ 2 ≤ ((RT 900 {}).pt 0).regions.length := by decide +kernel
theorem test_rate : yields (.rateWindow 0) (RT 0 { rateSum := 240, rateN := 2 }) (fun u => decide ((u.rg 0).flt.rate1 = 512) && decide ((u.rg 0).flt.rateN = 0)) && yields (.stragglerCheck 0) (RT 899 { below := 2 }) (fun u => (u.rg 0).flt.straggler) &&
  yields (.stragglerCheck 0) (RT 900 { below := 2 }) (fun u => !(u.rg 0).flt.straggler) && yields (.stragglerCheck 0) (RT 950 { straggler := true, above := 2 }) (fun u => !(u.rg 0).flt.straggler) && still (.stragglerCheck 0) M0 = true := by decide +kernel
theorem test_ras_fence : replies (.rasFence (pm [0])) M0 0 (fun u => decide ((u.rg 0).state = .fenced)) && replies (.rasFence (pm [2])) M0 4 (fun u => decide (u.rgn = M0.rgn)) && replies (.rasFence (pm [144])) M0 1 (fun u => decide (u.rgn = M0.rgn)) = true := by decide +kernel

/-! ### Bring-up -/

/-- Region 1 in bring-up step `k`, region 0 READY. -/
def BU (k : BitVec 4) (x : Placement) : State := { M0 with rgn := [(0, M0.rg 0), (1, { ({} : Region) with state := .bringup, bru := { step := k }, place := x })], tiles := [(24, T1)], sram := [(24 * 0xC0000, 7)] }
def brought (k : BitVec 4) (x : Placement) (i : Instr) (p : Region → Bool) : Bool := yields i (BU k x) (fun u => p (u.rg 1))
theorem wit_bringup : ((BU 1 {}).rg 1).state = .bringup ∧ (BU 2 {}).parentOf 1 = some 0 ∧ recordValid plainRecord = true ∧ recordFenced plainRecord = false ∧ placementValid plainRecord [] = true ∧ recordValid 0 = false ∧
    derivePlacement [(0, 0), (1, 0), (0, 1), (1, 1)] = none ∧ { BU 2 {} with rgn := [(1, (BU 2 {}).rg 1)] }.parentOf 1 = none := by decide +kernel
set_option maxRecDepth 100000 in
theorem test_bringup : brought 1 {} (.regionBringupStep 1 (.done [] 0) 77) (fun g => decide (g.bru.step = 2) && g.pwr.rails.vlog && decide (g.pwr.vlogSet = 2480)) && brought 2 {} (.regionBringupStep 1 (.done [] 0) 77) (fun g => decide (g.bru.step = 3) && decide (g.bru.parent = 0)) &&
  brought 3 {} (.regionBringupStep 1 (.done [] 5) 77) (fun g => decide (g.bru.step = 4) && decide (g.osc.cls = 7) && decide (g.bru.vlogTrim = 5)) && brought 5 { stored := plainRecord } (.regionBringupStep 1 (.done [] 0) 77) (fun g => decide (g.bru.step = 6) && decide (g.place.source = 2)) = true := by decide +kernel
theorem test_bringup_end : brought 5 { fuseRecord := 0, known := [(0, 0), (1, 0), (0, 1), (1, 1)] } (.regionBringupStep 1 (.done [] 0) 77) (fun g => decide (g.fenceCause = 1) && decide (g.bru.failedStep = 5)) && brought 6 {} (.regionBringupStep 1 (.done [] 0) 77) (fun g => g.fab.svcUp) &&
  brought 7 { record := plainRecord } (.regionBringupStep 1 (.done [] 0) 77) (fun g => decide (g.bru.step = 8)) && brought 8 {} (.regionBringupStep 1 (.done [] 0) 77) (fun g => decide (g.state = .ready) && g.bru.wellReady && decide (g.bru.readyMs = 77)) && brought 8 {} (.regionBringupStep 1 (.failed 6 []) 77) (fun g => decide (g.state = .ready) && g.bru.wellFailed) = true := by decide +kernel
theorem test_bringup_fails : brought 1 {} (.regionBringupStep 1 (.failed 3 []) 77) (fun g => decide (g.fenceCause = 3)) && brought 3 {} (.regionBringupStep 1 (.failed 2 []) 77) (fun g => decide (g.fenceCause = 2)) && yields (.bringupStepTimeout 1 9) (BU 7 {}) (fun u => decide ((u.rg 1).fenceCause = 5)) &&
  yields (.bringupStepTimeout 1 9) (BU 8 {}) (fun u => decide ((u.rg 1).state = .ready)) && still (.bringupStepTimeout 0 9) (BU 8 {}) = true := by decide +kernel

/-! ### Start-up -/

/-- The wafer is on; the phase and SEC's boot as given. -/
def SU (p : Phase) (k : Nat) (b : Bool) : State := { State.reset with phase := p, mgt := { State.reset.mgt with waferOn := true }, sec := { State.reset.sec with awaiting := k, awaitB := b, rootHash := [5] } }
/-- A good image of a KIND under root 0. -/
def goodFw (k : Nat) : ImageIn := { header := leBytes 4 0x4639574B ++ leBytes 2 k ++ List.replicate 10 0 ++ leBytes 8 1 ++ List.replicate 232 0, rootKeyHash := 5, sigOk := true, bodyHash := 0 }
theorem wit_boot : (SU .boot 1 false).sec.verify 1 (goodFw 1) = 0 ∧ (SU .boot 4 true).sec.verify 4 (goodFw 4) = 0 ∧ (SU .boot 1 false).sec.verify 1 (goodFw 2) = 1 ∧ (SU .powerOn 0 false).mgt.waferOn = true := by decide +kernel
theorem test_boot : yields (.secRelease 0x804) (SU .powerOn 0 false) (fun u => decide (u.phase = .boot) && decide (u.bru.startRegion = 24) && decide (u.sec.awaiting = 1)) && still (.secRelease 1) State.reset &&
  yields (.bootImageReceive 0 false (goodFw 1) 5) (SU .boot 1 false) (fun u => decide (u.sec.boot = .verify) && decide (u.fw.sec.state = .running) && decide (u.sec.awaiting = 2)) &&
  yields (.bootImageReceive 0 false (goodFw 2) 5) (SU .boot 1 false) (fun u => decide (u.sec.failCode = 1) && u.sec.awaitB) && yields (.bootLinkTimeout 0 true) (SU .boot 1 true) (fun u => decide (u.phase = .bootFail) && decide (u.sec.failCode = 7)) = true := by decide +kernel
theorem test_front : yields (.bootImageReceive 3 false (goodFw 4) 5) (SU .boot 4 false) (fun u => decide (u.phase = .front) && decide ((u.rg 132).state = .bringup) && decide ((u.rg 1).state = .off)) = true := by decide +kernel
/-- Every region FENCED but region 0. -/
def FR (p : Phase) : State := { M0 with phase := p, rgn := (List.range 144).map (fun i => (i, { Region.reset i with state := if i = 0 then .ready else .fenced, bru := { scrubDone := true } })), links := [] }
theorem wit_ready : (∀ i, i < 144 → ((FR .front).rg i).state = .ready ∨ ((FR .front).rg i).state = .fenced) ∧ (FR .fabricReady).linksDone 30000 = true ∧ M0.hasFlash = true := by decide +kernel
theorem test_ready : yields (.fabricReady 9) (FR .front) (fun u => decide (u.phase = .fabricReady) && decide (u.routeSet = some [0])) && yields (.fullReady 30000) (FR .fabricReady) (fun u => decide (u.phase = .fullReady) && !u.bru.incomplete) &&
  yields .fullReadyTimeout (FR .front) (fun u => decide (u.phase = .fullReady) && u.bru.incomplete) && still .fullReadyTimeout M0 && still (.fabricReady 9) M0 = true := by decide +kernel
theorem test_flash : yields (.flashLinkUp 7) { M0 with rgn := (wellsOf 5 (some 7)).map (fun i => (i, { Region.reset i with bru := { wellReady := true } })) } (fun u => decide (u.bru.flashUp = 0x80)) && yields (.flashLinkDown 7) { M0 with bru := { M0.bru with flashUp := 0xFF } } (fun u => decide (u.bru.flashUp = 0x7F)) = true := by
  decide +kernel

/-! ### Scrub and calibration -/

/-- Region 0 READY with its RCC running; its bring-up state as given. -/
def CA (b : RegionBringup) : State := { M0 with fw := { M0.fw with rcc := [(0, { state := .running })] }, rgn := [(0, { (M0.rg 0) with bru := b })], ports := [(37, { phase := .active })] }
theorem test_scrub : yields (.scrubBackground 0 0 383) (CA { scrubLeft := 1, scrubbed := List.range 383 }) (fun u => (u.rg 0).bru.scrubDone && decide ((u.rg 0).bru.scrubLeft = 0)) && still (.scrubBackground 5 0 0) (CA {}) = true := by decide +kernel
theorem test_cal : yields (.stratusCalSlot 0 9 true []) (CA {}) (fun u => decide ((u.cal 0).slots = 1) && decide ((u.rg 0).bru.marginMin = 9) && decide ((u.rg 0).bru.applied = 1)) && yields (.stratusCalSlot 1 9 true []) (CA {}) (fun u => decide ((u.cal 0).skipped = 1)) &&
  yields (.serdesCalSlot 37 []) (CA {}) (fun u => decide ((u.cal 1).slots = 1)) && yields (.serdesCalSlot 45 []) (CA {}) (fun u => decide ((u.cal 1).skipped = 1)) &&
  yields (.serdesCalSlot 37 [7]) { CA {} with bru := { (CA {}).bru with serdesLow := [(303, 2)] } } (fun u => decide ((u.port 37).phase = .retrain)) = true := by decide +kernel
theorem test_cal2 : yields (.vsenseCalSlot 0 0xFF) (CA { offsets := [(15, 1)], lastSensor := 15 }) (fun u => decide ((u.rg 0).bru.offsets = [(0, -1), (15, 1)]) && decide ((u.rg 0).bru.lastSensor = 0)) && yields (.oscCalSlot 0 10) (CA {}) (fun u => decide ((u.rg 0).bru.trim = 10) && decide ((u.rg 0).bru.trimSteps = 1)) &&
  yields (.calStale 1 45) (CA {}) (fun u => (u.cal 1).stale && decide ((u.cal 1).staleUnits = [45])) && yields (.periodCtWrite 0 0 1000000) M0 (fun u => decide ((u.cal 0).nextPeriod = some 1000000)) && still (.periodCtWrite 0 0 1000001) M0 && still (.periodCtWrite 1 0 10000) M0 = true := by decide +kernel
theorem wit_cal : ((CA {}).rg 0).state = .ready ∧ (tget {} (CA {}).fw.rcc 0).state = .running ∧ ((CA {}).cal 3).en = true ∧ (10 : BitVec 16).toInt.natAbs ≤ 10 ∧ ((CA {}).rg 0).osc.changing = false := by decide +kernel

def repair (r : Byte) (rec : W128) : Msg := pm ([r, 1, 0, 0, 0, 0, 0, 0] ++ leBytes 16 rec.toNat)
theorem wit_repair : bitAt (2 ^ 127 + 31 : W128) 127 = true ∧ recordValid (2 ^ 127 + 31) = false ∧ (repair 0 plainRecord).u8 24 = 0 ∧ (repair 0 plainRecord).u8 1 = 1 := by decide +kernel
theorem test_repair : replies (.bruRepairSet (repair 1 plainRecord)) M0 0 (fun u => decide ((u.rg 1).place.stored = plainRecord)) && replies (.bruRepairSet (repair 1 (2 ^ 127 + 31))) M0 1 (fun u => decide (u.rgn = M0.rgn)) && replies (.bruRepairGet (pm [143])) M0 0 (fun u => decide (u.rgn = M0.rgn)) &&
  replies (.bruRepairGet (pm [144])) M0 1 (fun u => decide (u.rgn = M0.rgn)) = true := by decide +kernel
theorem test_restart : yields (.bruRegionRestart (pm [1]) 9) { M0 with rgn := [(1, { Region.reset 1 with state := .fenced, fenceCause := 3 })] } (fun u => decide ((u.rg 1).state = .bringup) && decide ((u.rg 1).bru.step = 1)) && replies (.bruRegionRestart (pm [0]) 9) M0 4 (fun u => decide (u.rgn = M0.rgn)) &&
  replies (.bruRcalReset (pm [0])) (CA { rcalFrozen := true }) 0 (fun u => !(u.rg 0).bru.rcalFrozen) && replies (.bruRcalReset (pm [255])) (CA { rcalFrozen := true }) 0 (fun u => !(u.rg 0).bru.rcalFrozen) = true := by decide +kernel

end Sys2Proof.Tests
end

