-- ==== Sys2Proof/Tests/Carrier.lean ====
section
/-! SUPPORT. Tests of the carrier and its management controller (19), witnesses of their statements. -/
namespace Sys2Proof.Tests
set_option Elab.async false
open Sys2Proof.Machine

/-- The safety input is clear, the input at 54 V, the wafer on or off; then as given. -/
def CR (on : Bool) (f : Carrier → Carrier) : State := { M0 with
  mgt := f { M0.mgt with inputMv10 := 5400, chA := false, chB := false, safety := .normal, waferOn := on, autoOn := false }, sram := [(0, 9)], tiles := [(0, T1)] }
/-- A power-down with its speed and cause has begun. -/
def fell (u : State) (fast : Bool) (c : BitVec 3) : Bool := decide (u.pwr.down.map (fun d => (d.fast, d.cause, d.step)) = some (fast, c, 1))
/-- The first record that a trip adds to the log. -/
def record (u : State) (k d : Nat) : Bool := u.mgt.log.any (fun r => decide ((r.seq, r.kind, r.data) = (1, BitVec.ofNat 16 k, BitVec.ofNat 160 d)))

/-! ### Power and safety -/

theorem wit_power : (CR true id).pwr.down = none ∧ (CR false id).mayPower = true ∧ (CR true id).mayPower = false ∧ (CR false id).mgt.log = [] ∧ (5400 : W16).toNat ≤ 5800 := by decide +kernel
theorem test_inputa : yields (.inputPowerApplied true 5400) (CR false (fun g => { g with inputOn := false, root := [7] })) (fun u => u.mgt.inputOn && u.mgt.service && decide (u.mgt.safety = .request) && decide (u.mgt.root = [7]) && decide (u.sram = [])) = true := by decide +kernel
theorem test_inputb : still (.inputPowerApplied true 5400) (CR true id) = true := by decide +kernel
theorem test_inputc : still (.inputVoltageFault 5000) (CR true id) = true := by decide +kernel
theorem test_inputd : still (.inputVoltageFault 6000) (CR true id) = true := by decide +kernel
theorem test_inpute : yields (.inputVoltageFault 6001) (CR true id) (fun u => record u 8 6001) = true := by decide +kernel
theorem test_inpute' : yields (.inputVoltageFault 6001) (CR true id) (fun u => fell u true 6) = true := by decide +kernel
theorem test_inputf : yields (.inputVoltageFault 4999) (CR false id) (fun u => decide (u.pwr.down = none)) = true := by decide +kernel
theorem test_loss : yields .inputPowerLoss (CR true (fun g => { g with leak := true })) (fun u => decide (u.mgt.inputOn = false) && u.mgt.leak && decide (u.phase = .powerOn)) = true := by decide +kernel
theorem test_powera : still .autoPowerOn (CR false id) = true := by decide +kernel
theorem test_powerb : yields .autoPowerOn (CR false (fun g => { g with autoOn := true })) (fun u => u.mgt.waferOn) = true := by decide +kernel
theorem test_powerc : still .autoPowerOn (CR false (fun g => { g with autoOn := true, inputMv10 := 5801 })) = true := by decide +kernel
theorem test_powerd : still .autoPowerOn (CR false (fun g => { g with autoOn := true, leak := true })) = true := by decide +kernel
theorem test_powere : yields .leakDetect (CR true id) (fun u => u.mgt.leak && record u 7 0) = true := by decide +kernel
theorem test_powere' : yields .leakDetect (CR true id) (fun u => fell u true 5) = true := by decide +kernel
theorem test_powerf : yields .moduleReset (CR true (fun g => { g with privLinkNext := 2 })) (fun u => decide (u.phase = .powerOn) && u.mgt.waferOn && decide (u.sram = []) && decide (u.sec.privLink = 2)) = true := by decide +kernel
theorem test_powerg : still .moduleReset (CR true (fun g => { g with inputOn := false })) = true := by decide +kernel
theorem test_safetya : yields (.safetySample true false) (CR true (fun g => { g with count := 38 })) (fun u => decide (u.mgt.safety = .discrepancy) && decide (u.mgt.count = 39)) = true := by decide +kernel
theorem test_safetyb : yields (.safetySample true false) (CR true (fun g => { g with count := 39 })) (fun u => decide (u.mgt.safety = .fault) && u.mgt.faultLatched && record u 4 1) = true := by decide +kernel
theorem test_safetyb' : yields (.safetySample true false) (CR true (fun g => { g with count := 39 })) (fun u => fell u true 3) = true := by decide +kernel
theorem test_safetyc : yields (.safetySample false false) (CR true (fun g => { g with count := 39, safety := .discrepancy })) (fun u => decide (u.mgt.safety = .normal) && decide (u.mgt.maxCount = 39)) = true := by decide +kernel
theorem test_safetyd : yields (.safetySample true true) (CR true id) (fun u => decide (u.mgt.safety = .request) && decide (u.mgt.requests = 1) && record u 4 0) = true := by decide +kernel
theorem test_safetyd' : yields (.safetySample true true) (CR true id) (fun u => fell u true 3) = true := by decide +kernel
theorem test_safetye : yields (.safetySample true true) (CR true (fun g => { g with safety := .request })) (fun u => decide (u.mgt.requests = 0) && decide (u.pwr.down = none)) = true := by decide +kernel
theorem test_safetyf : yields (.safetySample false false) (CR true (fun g => { g with safety := .fault, faultLatched := true })) (fun u => decide (u.mgt.safety = .fault)) = true := by decide +kernel
theorem test_safetyg : still (.safetySample true true) (CR true (fun g => { g with inputOn := false })) = true := by decide +kernel
theorem test_limit : yields (.inputLimit 100) (CR true id) (fun u => decide (u.pwr.peakW = 600) && u.mgt.inputLimited) && yields (.inputLimit 5400) (CR true id) (fun u => decide (u.pwr.peakW = u.pwr.peakSet) && !u.mgt.inputLimited) && still (.inputLimit 100) (CR true (fun g => { g with mmcRunning := false })) = true := by decide +kernel

/-! ### The management port, pluggables, PMBus -/

theorem wit_mgmt : (CR true id).mgt.mmcRunning = true ∧ (CR true id).portAbsent (3 : Fin 38).val = false ∧ ((CR true id).port 3).phase ≠ .relocating ∧ ((CR true id).seg 4).state = .active ∧ (4 : Fin 16).val ≤ 15 := by decide +kernel
theorem test_mgmt : yields (.mgmtLink true) (CR true id) (fun u => u.mgt.mgmtUp) && still (.mgmtLink true) (CR true (fun g => { g with mgmtUp := true })) && yields (.mgmtLink false) (CR true (fun g => { g with mgmtUp := true, peers := 2 })) (fun u => !u.mgt.mgmtUp && decide (u.mgt.peers = 0)) &&
  yields .mmcWatchdogRestart (CR true (fun g => { g with peers := 2 })) (fun u => decide (u.mgt.mmcRestarts = 1) && decide (u.mgt.peers = 0)) && still .mmcWatchdogRestart (CR true (fun g => { g with mmcRunning := false })) && still (.peerAdmit true) (CR true (fun g => { g with mgmtUp := true })) &&
  yields (.peerAdmit true) (CR true (fun g => { g with mgmtUp := true, root := [1], logSeq := 6, log := [{ seq := 6, tick := 0, kind := 2, data := 0 }] })) (fun u => decide (u.mgt.peers = 1) && decide (u.out = [.peerReport { seq := 6, tick := 0, kind := 2, data := 0 }])) = true := by decide +kernel
theorem test_pluggable : yields (.pluggableInsert 3 13) { CR true id with ports := [(3, { phase := .active })] } (fun u => decide ((u.port 3).phase = .disabled) && decide ((u.port 3).failCause = 1) && u.mgt.pluggableLow.getLsbD 3) && yields (.pluggableInsert 3 12) { CR true id with ports := [(3, { phase := .active })] } (fun u => decide ((u.port 3).phase = .active) && !u.mgt.pluggableLow.getLsbD 3) = true := by decide +kernel
def sg (s : State) : Segment := s.seg 4
def SG (x : Segment) : State := CR true (fun g => { g with segs := [(4, x)] })
theorem test_pmbus : yields (.pmbusSdaLow 4 9 (.released 9)) (SG {}) (fun u => decide (sg u = { recoveries := 1, lastAddr := 9 })) && yields (.pmbusSdaLow 4 9 (.released 10)) (SG {}) (fun u => decide (sg u = { state := .isolated, stale := true, isolations := 1, lastAddr := 9 })) &&
  yields (.sclTimeout 4 9) (SG {}) (fun u => decide (sg u = { state := .isolated, cause := true, stale := true, isolations := 1, lastAddr := 9 }) && record u 5 0x14) && still (.sclTimeout 4 9) (SG { state := .isolated }) && yields (.pmbusReselect 4 .stuck) (SG { state := .isolated, tries := 2 }) (fun u => decide ((sg u).tries = 3)) &&
  still (.pmbusReselect 4 (.released 1)) (SG { state := .isolated, tries := 3 }) && yields (.pmbusReselect 4 (.released 1)) (SG { state := .isolated, tries := 2, stale := true }) (fun u => decide (sg u = { recoveries := 1 })) = true := by decide +kernel

/-! ### Messages -/

def peer (p : List Byte) : Msg := { sender := .peer, tag := 7, reqHead := 0, payload := p }
def console (p : List Byte) : Msg := { sender := .console, tag := 7, reqHead := 0, payload := p }
/-- The result of the newest reply to a peer or the console. -/
def answered (u : State) (r : Byte) : Bool := decide (u.out.findSome? (fun o => match o with
  | .peerReply _ x => some x.result
  | _ => none) = some r)
theorem wit_mgt : (CR true id).mgtSender (pm []) = .priv ∧ (CR true id).mgtSender (peer []) = .peer ∧ (CR true id).mgtSender (console []) = .console ∧ (CR true id).mgtSender (vm []) = .vf ∧ (pm [1, 3, 1, 0, 2, 0]).u16 4 = 2 := by decide +kernel
theorem test_mgt_status : replies (.mgtStatusGet (pm [])) (CR true id) 0 (fun u => decide (u.mgt = (CR true id).mgt)) && yields (.mgtStatusGet (peer [])) (CR true id) (fun u => answered u 0) && yields (.mgtPowerOff (peer [])) (CR true id) (fun u => answered u 5 && decide (u.pwr.down = none)) &&
  still (.mgtStatusGet (pm [])) (CR true (fun g => { g with mmcRunning := false })) = true := by decide +kernel
theorem test_config_set : replies (.mgtConfigSet (pm [1, 3, 1, 0, 2, 0, 0, 0, 8, 9]) true) (CR true id) 0 (fun u => u.mgt.autoOn && decide (u.mgt.privLinkNext = 3) && decide (u.mgt.root = [8, 9]) && u.mgt.locate) && replies (.mgtConfigSet (pm [1, 4, 1, 0, 0, 0]) true) (CR true id) 1 (fun u => decide (u.mgt = (CR true id).mgt)) &&
  replies (.mgtConfigSet (pm [1, 3, 1, 0, 2, 0]) false) (CR true id) 1 (fun u => decide (u.mgt = (CR true id).mgt)) = true := by decide +kernel
theorem test_clear : yields (.mgtSafetyClear (peer [])) (CR true (fun g => { g with peers := 1, faultLatched := true, safety := .fault })) (fun u => answered u 0 && decide (u.mgt.safety = .normal) && !u.mgt.faultLatched) && yields (.mgtSafetyClear (peer [])) (CR true (fun g => { g with peers := 1, chB := true })) (fun u => answered u 4) &&
  yields (.mgtPowerOn (console []) true) (CR false (fun g => { g with service := true, leak := true })) (fun u => answered u 0 && u.mgt.waferOn && !u.mgt.leak) && yields (.mgtPowerOn (console []) false) (CR false (fun g => { g with service := true, leak := true })) (fun u => answered u 4 && u.mgt.leak && !u.mgt.waferOn) &&
  yields (.mgtPowerOn (console []) true) (CR false id) (fun u => answered u 5) = true := by decide +kernel
theorem test_off : replies (.mgtPowerOff (pm [])) (CR true id) 0 (fun u => fell u false 2 && decide (u.mgt.log.map (fun r => r.kind) = [2])) && replies (.mgtPowerOff (pm [])) (CR false id) 0 (fun u => decide (u.pwr.down = none)) && replies (.mgtLogRead (pm (leBytes 4 0 ++ leBytes 4 129))) (CR true id) 1 (fun u => decide (u.mgt = (CR true id).mgt)) &&
  replies (.mgtLogRead (pm (leBytes 4 0 ++ leBytes 4 128))) (CR true id) 0 (fun u => decide (u.mgt = (CR true id).mgt)) = true := by decide +kernel
theorem test_rejoin : replies (.mgtPmbusRejoin (pm [4]) (.released 3)) (SG { state := .isolated }) 0 (fun u => decide ((sg u).state = .active)) && replies (.mgtPmbusRejoin (pm [4]) .stuck) (SG { state := .isolated }) 6 (fun u => decide ((sg u).isolations = 1)) && replies (.mgtPmbusRejoin (pm [4]) .stuck) (SG {}) 0 (fun u => decide (sg u = {})) &&
  replies (.mgtPmbusRejoin (pm [16]) .stuck) (SG {}) 1 (fun u => decide (sg u = {})) = true := by decide +kernel

end Sys2Proof.Tests
end

