-- ==== Sys2Proof/Tests/Collectives.lean ====
section
/-! SUPPORT. Tests of groups and collectives (14), witnesses of their statements. -/
namespace Sys2Proof.Tests
set_option Elab.async false
open Sys2Proof.Machine

def gOp (d : Nat) (ext : List Byte) : Op := { id := 0, part := 0, ring := 0, slot := 0, desc := BitVec.ofNat 512 d, ext := ext, cq := 1, st := .started, status := 0, detail := 0, doneTick := 0, ended := 0, noSignal := false, timely := false }
/-- Operation 0 started; group 0 of partition 0; the module is `me` of a line of two; 9 and 5 at the ends of the granule at 0x1000 of tile 0. -/
def GS (d : Nat) (x : Group) (me : Nat) : State := { M0 with
  part := [(0, { (M0.pt 0) with col := { groups := [(0, x)] } })], ops := [gOp d []], sram := [(0x1000, 9), (0x10FF, 5)], portOwner := (List.range 12).map (fun i => (24 + i, 0)),
  cad := { M0.cad with state := .locked, count := 100 }
  tor := { M0.tor with id := BitVec.ofNat 18 me, idValid := true, dx := 2, ex := 2, keys := [{ key := 5, gen := 0, ports := 0xFFF }] } }
def gEnds (u : State) (st : Byte) (d : W32) : Bool := decide (u.ops.map (fun o => (o.st, o.status, o.detail)) = [(.ended, st, d)])

/-! ### COLLECTIVE -/

/-- Kind `k` on group 0: 64 elements from 0x1000 to 0x2000, at tick `t`. -/
def collD (k t : Nat) : Nat := 0x40 + k * 2 ^ 136 + 0x1000 * 2 ^ 192 + 0x2000 * 2 ^ 256 + 64 * 2 ^ 320 + t * 2 ^ 384
def one (st : GroupState) : Group := { state := st, tile := true, w := 1, h := 1, epoch := 6 }
def line (st : GroupState) : Group := { state := st, axes := 1, ge := [2, 0, 0], epoch := 6, sign := 11 }
def crun (k : Nat) : CollRun := { op := 0, seq := 1, kind := k, red := 0, dtype := 0, root := 0, src := 0x1000, dst := 0x2000, count := 64, launched := false }
def C1 (k t : Nat) (st : GroupState) : State := GS (collD k t) (one st) 0
theorem wit_collective : (C1 0 0 .ready).findOp 0 = some (gOp (collD 0 0) []) ∧ (gOp (collD 4 0) []).opcode = 0x40 ∧ (gOp (collD 4 0) []).byte 17 = 4 ∧ (gOp (collD 4 9) []).le 48 6 = 9 ∧ (gOp (collD 0 0) []).le 40 8 = 64 ∧
    (C1 0 0 .ready).collCheck (gOp (collD 0 0) []) (one .ready) = none ∧ (C1 1 0 .ready).collCheck (gOp (collD 1 0) []) (one .ready) = none ∧ (C1 2 0 .ready).collCheck (gOp (collD 2 0) []) (one .ready) = none ∧
    (C1 3 0 .ready).collCheck (gOp (collD 3 0) []) (one .ready) = none ∧ (C1 4 0 .ready).collCheck (gOp (collD 4 0) []) (one .ready) = none := by decide +kernel
set_option maxRecDepth 100000 in
theorem wit_collective_data : ((C1 0 0 .ready).sramPiece 0 0x1000 256).checked = true ∧ (C1 0 0 .ready).sramBad 0 0x1000 256 = false ∧ (C1 5 0 .ready).kids (one .ready) = [] ∧ (C1 5 0 .ready).up (one .ready) = none ∧
    (C1 0 101 .ready).tickReached 101 = false ∧ (C1 0 100 .ready).tickReached 100 = true ∧ (GS 0 (line .ready) 1).kids (line .ready) = [0] ∧ (GS 0 (line .ready) 0).up (line .ready) = some 1 := by decide +kernel
/-- The operation ends OK with the granule copied. -/
def moved (i : Instr) (k : Nat) : Bool := yields i (C1 k 0 .ready) (fun u => gEnds u 0 1 && decide (u.sramBytes 0 0x2000 256 = (C1 0 0 .ready).sramBytes 0 0x1000 256) && decide ((u.grp 0 0).seq = 1) && decide ((u.grp 0 0).state = .ready))
set_option maxRecDepth 100000 in
theorem test_data : moved (.allReduce 0) 0 && moved (.reduceScatter 0) 1 && moved (.allGather 0) 2 && moved (.broadcast 0) 3 && moved (.reduce 0) 4 = true := by decide +kernel
theorem test_collective : yields (.barrier 0) (C1 5 0 .ready) (fun u => gEnds u 0 1 && decide ((u.grp 0 0).seq = 1)) && still (.barrier 0) (C1 4 0 .ready) && yields (.reduce 0) (C1 4 0 .free) (fun u => gEnds u 8 0x148) && yields (.reduce 0) (C1 4 0 .aborted) (fun u => gEnds u 1 0x8000000) &&
  yields (.allReduce 0) (GS (collD 0 0 + 2 ^ 320) (one .ready) 0) (fun u => gEnds u 8 0x14A) && yields (.allReduce 0) (C1 0 101 .ready) (fun u => decide ((u.grp 0 0).run = some { crun 0 with pieces := [{ off := 0, n := 1, acts := [.own, .write] }] }) && decide ((u.grp 0 0).state = .running) && decide (u.ops = (C1 0 101 .ready).ops)) &&
  yields (.allReduce 0) (GS (collD 0 0) { one .running with run := some { crun 0 with op := 7 } } 0) (fun u => decide ((u.grp 0 0).queue = [0])) = true := by decide +kernel

/-! ### Forming -/

/-- GROUP_FORM of tile (0, 0) on axes `a` with two modules, epoch 6. -/
def formD (axes : Nat) : Nat := 0x41 + axes * 2 ^ 144 + (2 * axes) * 2 ^ 192 + 2 ^ 216 + 2 ^ 256 + 2 ^ 272 + 6 * 2 ^ 288
def FD (axes : Nat) (st : GroupState) : State := GS (formD axes) { state := st } 0
theorem wit_form : (FD 0 .free).formCheck 0 (gOp (formD 0) []).formGroup ((gOp (formD 0) []).byte 18) = none ∧ (FD 1 .free).formCheck 0 (gOp (formD 1) []).formGroup ((gOp (formD 1) []).byte 18) = none ∧ (FD 0 .free).kids (gOp (formD 0) []).formGroup = [] ∧ (FD 0 .free).up (gOp (formD 0) []).formGroup = none ∧
    (FD 1 .free).up (gOp (formD 1) []).formGroup = some 1 ∧ (FD 1 .free).kids (gOp (formD 1) []).formGroup = [] ∧ (FD 2 .free).formCheck 0 (gOp (formD 2) []).formGroup ((gOp (formD 2) []).byte 18) = some (8, 0x142) := by decide +kernel
theorem test_form : yields (.groupForm 0) (FD 0 .free) (fun u => gEnds u 0 6 && decide ((u.grp 0 0).state = .ready) && decide ((u.grp 0 0).epoch = 6)) && yields (.groupForm 0) (FD 0 .ready) (fun u => gEnds u 8 0x141) && yields (.groupForm 0) (FD 2 .free) (fun u => gEnds u 8 0x142) &&
  yields (.groupForm 0) (FD 1 .free) (fun u => decide ((u.grp 0 0).state = .forming) && decide ((u.grp 0 0).formOp = some 0) && decide (u.ops.map (fun o => o.st) = [.started])) = true := by decide +kernel
def destroyD : Nat := 0x41 + 2 ^ 136
theorem test_destroy : yields (.groupDestroy 0) (GS destroyD (one .ready) 0) (fun u => gEnds u 0 6 && decide (u.grp 0 0 = {})) && yields (.groupDestroy 0) (GS destroyD {} 0) (fun u => gEnds u 0 0) && still (.groupDestroy 0) (FD 0 .free) = true := by decide +kernel
/-- GROUP_REFORM of group 0 at epoch `e` excluding `n` modules. -/
def reformD (e n : Nat) : Nat := 0x42 + e * 2 ^ 256 + n * 2 ^ 288
def RF (e n : Nat) (ext : List Byte) (x : Group) : State := { GS 0 x 0 with ops := [gOp (reformD e n) ext] }
theorem wit_reform : (gOp (reformD 6 1) [1, 0, 0, 0]).excluded = [1] ∧ (gOp (reformD 6 0) []).le 32 4 = 6 ∧ (gOp (reformD 6 0) []).opcode = 0x42 ∧ (GS 0 (line .ready) 0).tor.id.toNat ∉ [1] ∧ (1 ∈ (line .aborted).mods 0) ∧ (2 ∉ (line .aborted).mods 0) := by decide +kernel
theorem test_reform : yields (.groupReform 0) (RF 6 0 [] (one .ready)) (fun u => gEnds u 8 0x148) && yields (.groupReform 0) (RF 5 0 [] (one .aborted)) (fun u => gEnds u 8 0x144) && yields (.groupReform 0) (RF 6 1 [0, 0, 0, 0] (line .aborted)) (fun u => gEnds u 8 0x145) &&
  yields (.groupReform 0) (RF 6 1 [2, 0, 0, 0] (line .aborted)) (fun u => gEnds u 8 0x146) && yields (.groupReform 0) (RF 6 0 [] (one .aborted)) (fun u => gEnds u 0 7 && decide ((u.grp 0 0).state = .ready) && decide ((u.grp 0 0).members = some [0])) &&
  yields (.groupReform 0) (RF 6 1 [1, 0, 0, 0] (line .aborted)) (fun u => gEnds u 0 7 && decide ((u.grp 0 0).members = some [0])) = true := by decide +kernel

/-! ### Messages and timers -/

/-- A control message of kind `k` and a piece packet of type `k`, from module `src`. -/
def ctl (k src seq epoch sign : Nat) : TorPkt := { dst := 0, src := src, key := 5, gen := 0, ch := 4, mcast := false, group := 0, sel := 0, hops := 0, head := [BitVec.ofNat 8 k, 0, 0, 0] ++ leBytes 4 epoch ++ leBytes 4 seq ++ leBytes 4 77 ++ leBytes 8 sign ++ List.replicate 40 0, data := [] }
def pie (k seq : Nat) : TorPkt := { ctl 0 1 0 0 0 with ch := 3, head := [0, BitVec.ofNat 8 k] ++ List.replicate 30 0 ++ [0x20] ++ leBytes 3 seq ++ leBytes 4 6 ++ leBytes 4 2 ++ List.replicate 20 0 }
def AR (p : TorPkt) (x : Group) : State := { GS (collD 5 0) x 1 with tor := { (GS 0 x 1).tor with arrived := [p] } }
/-- The group of two runs a barrier. -/
def busy : Group := { line .running with started := 1, run := some (crun 5) }
theorem wit_messages : (AR (pie 0x40 1) busy).staleGroup 0 (pie 0x40 1) = false ∧ (AR (pie 0x40 1) busy).early 0 (pie 0x40 1) = false ∧ (pie 0x40 1).seq = 1 ∧ (pie 0x41 1).kind = 0x41 ∧ (pie 0x40 1).grp = 0 ∧ (pie 0x40 1).off = 2 ∧ (pie 0x40 1).tag = 1 ∧ (ctl 3 0 1 6 11).kind = 3 ∧ (ctl 3 0 1 6 11).seq = 1 ∧
    (ctl 3 0 1 6 11).sign = 11 ∧ (ctl 3 0 1 5 11).epoch = 5 ∧ (AR (ctl 3 0 1 5 11) busy).staleGroup 0 (ctl 3 0 1 5 11) = true ∧ (AR (ctl 3 0 3 6 11) busy).early 0 (ctl 3 0 3 6 11) = false ∧ (AR (ctl 3 0 2 6 11) busy).early 0 (ctl 3 0 2 6 11) = true ∧
    (ctl 5 0 1 6 0).u 12 4 = 77 := by decide +kernel
def grun (u : State) : Option CollRun := (u.grp 0 0).run
theorem test_pieces : yields (.piece 0) (AR (pie 0x40 1) busy) (fun u => decide (grun u = some { crun 5 with inbox := [(1, 1, 2, [])] }) && decide (u.tor.arrived = [])) && yields (.pieceAck 0) (AR (pie 0x41 1) { busy with run := some { crun 5 with unacked := [(1, 1, 2)] } }) (fun u => decide (grun u = some (crun 5))) &&
  still (.piece 0) (AR (pie 0x41 1) busy) && still (.pieceAck 0) M0 && yields (.piece 0) (AR (pie 0x40 1) { busy with epoch := 9 }) (fun u => decide ((u.pt 0).col.discards = 1) && decide (u.tor.arrived = [])) &&
  yields (.piece 0) (AR (pie 0x40 9) busy) (fun u => decide ((u.grp 0 0).state = .aborted) && gEnds u 1 0x4000001) = true := by decide +kernel
theorem test_barrier : yields (.barrierUp 0) (AR (ctl 3 0 3 6 0) busy) (fun u => decide ((u.grp 0 0).state = .aborted) && gEnds u 1 0x4000000) && still (.barrierUp 0) (AR (ctl 3 0 2 6 0) busy) && still (.barrierDown 0) (AR (ctl 3 0 1 6 0) busy) &&
  yields (.squall 0) (AR (ctl 5 0 1 6 0) busy) (fun u => decide ((u.grp 0 0).state = .aborted) && gEnds u 1 77 && decide ((u.pt 0).col.received = 1)) && yields (.squall 0) (AR (ctl 5 0 1 6 0) (line .aborted)) (fun u => decide (u.part = (AR (ctl 5 0 1 6 0) (line .aborted)).part)) = true := by decide +kernel
/-- The signature of an operation is a free value: the message carries it. -/
theorem wit_barrier : (ctl 3 0 1 6 (crun 5).signature.toNat).sign = BitVec.ofNat 64 (leAt (ctl 3 0 1 6 (crun 5).signature.toNat).head 16 8) ∧ (ctl 3 0 1 6 11).src ∉ (crun 5).ups := ⟨rfl, by decide +kernel⟩
def G3 (st : GroupState) (ups : List Nat) : Group := { state := st, axes := 1, ge := [3, 0, 0], epoch := 6, sign := 11, ups := ups, formOp := some 0 }
def A3g (p : TorPkt) (x : Group) : State := { AR p x with tor := { (AR p x).tor with dx := 3, ex := 3 } }
theorem wit_forming : (A3g (ctl 1 0 0 6 11) (G3 .forming [])).kids (G3 .forming []) = [2, 0] ∧ 2 ∉ (G3 .forming []).ups ∧ (ctl 1 0 0 6 11).src = 0 ∧ (ctl 1 0 0 6 11).sign = (G3 .forming []).sign := by decide +kernel
theorem test_forming : yields (.formUp 0) (A3g (ctl 1 0 0 6 11) (G3 .forming [])) (fun u => decide (u.grp 0 0 = G3 .forming [0])) && yields (.reformUp 0) (A3g (ctl 6 0 0 6 11) (G3 .reforming [])) (fun u => decide (u.grp 0 0 = G3 .reforming [0])) &&
  yields (.formUp 0) (A3g (ctl 1 2 0 6 11) (G3 .forming [0])) (fun u => decide ((u.grp 0 0).state = .ready) && gEnds u 0 6) && yields (.formUp 0) (A3g (ctl 1 0 0 6 12) (G3 .forming [])) (fun u => decide (u.grp 0 0 = {}) && gEnds u 8 0x143) &&
  yields (.formDown 0) (AR (ctl 2 0 0 6 11) { line .forming with formOp := some 0 }) (fun u => decide ((u.grp 0 0).state = .ready) && gEnds u 0 6) && yields (.reformDown 0) (AR (ctl 7 0 0 6 11) { line .reforming with formOp := some 0 }) (fun u => decide ((u.grp 0 0).epoch = 7) && gEnds u 0 7) &&
  yields (.formMismatch 0) (AR (ctl 8 0 0 6 11) { line .forming with formOp := some 0 }) (fun u => decide (u.grp 0 0 = {}) && gEnds u 8 0x143) = true := by decide +kernel
theorem test_timers : yields (.launchTick 0 0) (GS (collD 5 100) busy 1) (fun u => decide (grun u = some { crun 5 with launched := true })) && still (.launchTick 0 0) (GS (collD 5 101) busy 1) && still (.launchTick 0 0) M0 && still (.progressTimeout 0 0 3) (GS (collD 5 0) busy 1) &&
  yields (.progressTimeout 0 0 3) (GS (collD 5 0) { busy with run := some { crun 5 with launched := true, unacked := [(3, 1, 0)] } } 1) (fun u => decide ((u.grp 0 0).state = .aborted) && gEnds u 1 0x2000003) && still (.formTimeout 0 0) (GS 0 busy 1) &&
  yields (.formTimeout 0 0) (GS 0 { line .forming with formOp := some 0 } 1) (fun u => decide (u.grp 0 0 = {}) && gEnds u 1 0x7000001) && yields (.formTimeout 0 0) (GS 0 { line .reforming with formOp := some 0 } 1) (fun u => decide ((u.grp 0 0).state = .aborted)) = true := by decide +kernel

end Sys2Proof.Tests
end

