-- ==== Sys2Proof/Tests/Fabric.lean ====
section
/-! SUPPORT. Tests of the fabric's packets and of chunk fetches (09, 10), witnesses of their statements. -/
namespace Sys2Proof.Tests
set_option Elab.async false
open Sys2Proof.Machine

/-- A raw weight-pack body decodes to its data (10 T10.7). -/
def rawBody (d : List Byte) : List Byte := 0x57 :: 0x4B :: 0 :: 0 :: (leBytes 4 (crc32c d).toNat ++ (leBytes 8 0 ++ d))
theorem packDecode_raw (d : List Byte) (h : d.length = 65536) : packDecode (rawBody d) = some d := by
  generalize hc : (crc32c d).toNat = c
  have hlt : c < 2 ^ 32 := by rw [← hc]; exact (crc32c d).isLt
  have h0 : leAt (rawBody d) 0 2 = 0x4B57 := by simp [rawBody, leAt, byteAt, leNat, List.range_succ]
  have h3 : leAt (rawBody d) 3 1 = 0 := by simp [rawBody, leAt, byteAt, leNat]
  have h2 : leAt (rawBody d) 2 1 = 0 := by simp [rawBody, leAt, byteAt, leNat]
  have h12 : leAt (rawBody d) 12 4 = 0 := by simp [rawBody, leAt, byteAt, leNat, leBytes, List.range_succ]
  have h4 : leAt (rawBody d) 4 4 = c := by
    simp [rawBody, leAt, byteAt, leNat, leBytes, List.range_succ, hc]; omega
  have hl : (rawBody d).length = 16 + 65536 := by simp [rawBody, leBytes, h]
  have hd : ((rawBody d).drop 16).take 65536 = d := by simp [rawBody, leBytes, List.take_of_length_le, h]
  unfold packDecode
  simp only [h0, h3, h2, h12, h4, hl, hd]
  simp [hc]

/-! ### Packets -/

/-- Packet 3 of tile 0, with `n` bytes of 7, to places; module with tiles 0 and 1 running. -/
def P3 (k : Nat) (l : List Place) (n : Nat) : Pkt := { id := 3, xfer := 8, t := 0, part := 0, kind := k, places := l, off := 0, len := n, piece := { data := List.replicate n 7, st := .poisoned } }
def X8 : Xfer := { id := 8, t := 0, entry := 0, index := 4, fill := none, src := .sram 1 0, dsts := [.sram 0 0x2000], rows := 1, rowLen := 64, sStride := 0, dStride := 0, comp := none, issued := 1 }
def S11 (p : Pkt) (l : List Xfer) : State := { State.reset with
  tiles := [(0, T1), (1, T1)], pkts := [p], xfers := l, sram := [(0xC1000, 9)]
  rgn := [(0, { Region.reset 0 with state := .ready, partition := some 0 })], part := [(0, { ({} : Partition) with state := .active, w := 1, h := 1 })] }

theorem wit_write : (S11 (P3 1 [.sram 1 0x1000] 64) []).findPkt 3 = some (P3 1 [.sram 1 0x1000] 64) ∧ (S11 (P3 1 [.sram 1 0x1000] 64) []).keyBlock 0 (tileRegion 0) (tileRegion 1) = none ∧
    ((S11 (P3 1 [.sram 1 0x1000] 64) []).tile 1).inProgram 0x1000 64 = false ∧ ((S11 (P3 1 [.sram 1 0xBFFC0] 64) []).tile 1).inProgram 0xBFFC0 64 = true := by decide +kernel
def answers (i : Instr) (p : Pkt) (st : Nat) (l : List (Nat × Nat × Byte)) : Bool :=
  yields i (S11 p []) (fun u => decide (u.pkts.map (fun q => (q.answered, q.status)) = [(true, st)]) && l.all (fun e => decide (u.sramAt e.1 e.2.1 = e.2.2)))
theorem test_write : answers (.write 3 .clean) (P3 1 [.sram 1 0x1000] 64) 0 [(1, 0x1000, 7), (1, 0x103F, 7), (1, 0x1040, 0), (1, 0xFFF, 0)] &&
  answers (.write 3 .clean) (P3 1 [.sram 1 0xBFFC0] 64) 1 [(1, 0xBFFC0, 0)] && answers (.write 3 .clean) (P3 1 [.sram 1 0xBFFC1] 64) 2 [(1, 0xBFFC1, 0)] = true := by decide +kernel
theorem test_write_cast : answers (.writeCast 3 .clean) (P3 3 [.sram 0 0x1000, .sram 1 0x1000] 64) 0 [(0, 0x1000, 7), (1, 0x1000, 7), (1, 0x1040, 0)] = true := by decide +kernel
theorem test_read : yields (.read 3 .clean .none) (S11 (P3 2 [.sram 1 0x1000] 2) []) (fun u => decide (u.pkts.map (fun q => (q.status, q.piece.data)) = [(0, [9, 0])])) = true := by decide +kernel

/-- The packet answered, with a STATUS. -/
def A3 (k st : Nat) : Pkt := { P3 k [.sram 1 0] 64 with answered := true, status := st }
theorem wit_ack : (S11 (A3 1 1) [X8]).findXfer 8 = some X8 ∧ ((S11 (A3 1 1) [X8]).tile 0).run = .running ∧ X8.cuts = [{ off := 0, src := 0, dst := 0, len := 64 }] := by decide +kernel
theorem test_ack : yields (.writeAck 3) (S11 (A3 1 0) []) (fun u => decide (u.pkts = [])) && yields (.writeAck 3) (S11 (A3 1 1) [X8]) (fun u => decide ((u.tile 0).run = .halted)) &&
  yields (.readData 3 .clean) (S11 (A3 2 0) [X8]) (fun u => decide (u.sramAt 0 0x203F = 7) && decide (u.gst 0 0x20 = .poisoned) && decide (u.xfers = [{ X8 with finished := true }])) = true := by
  decide +kernel
theorem test_lost : yields (.dropNotice (.pkt 3)) (S11 { P3 1 [.sram 1 0] 64 with lost := true, keyDropped := true } [X8]) (fun u => decide ((u.tile 0).run = .halted)) &&
  yields (.fabricTimeout (.pkt 3)) (S11 (P3 1 [.sram 1 0] 64) [X8]) (fun u => decide ((u.tile 0).run = .halted) && decide ((u.rg 0).fab.timeouts = 1)) = true := by decide +kernel

/-! ### Routes and fetches -/

def K1 : ChunkKey := { src := .obj 0 4, page := 0, chunk := 0 }
def F1 (tier : Nat) : Fetch := { key := K1, n := 0, tier := tier, keep := none, waiters := [.pkt 3], port := some 5, reqId := 1, sent := true, cause := 0, failDec := false, failChk := false, relay := false, busy := false }
/-- Object 4 of partition 0 in a tier; its chunk's frame under key 9 stands at 0x100 of its block; instance 5 stalled. -/
def S12 (f : Fetch) : State := { State.reset with
  fetches := [f], routeWork := [7], fw := { State.reset.fw with sch := { state := .running } }, bru := { State.reset.bru with flashUp := 1 }
  portOwner := [(5, 0)], ports := [(5, { phase := .active })], pkts := [{ P3 2 [.range 0 0] 64 with waiting := true }]
  sec := { State.reset.sec with privateKeys := [(0, { keyId := 9, key := 0, bound := 0 })] }
  part := [(0, { ({} : Partition) with state := .active, mem := { objs := [(4, { tier := f.tier, pages := 1, server := 1, loc := 0, t2Bytes := 0, sealed' := true, block := 0, blocks := 1 })], stalled := [(.inst 5, 2)] } })]
  flash := [(1, 1), (5, 80), (0x100, 0x4B), (0x101, 0x57), (0x102, 0x52), (0x103, 0x46), (0x104, 1), (0x108, 9), (0x10C, 16)] }

theorem wit_routes : ((S12 (F1 2)).core .sch).state = .running ∧ (S12 (F1 2)).routeWork = 7 :: [] := by decide +kernel
theorem test_routes : yields .routesChanged (S12 (F1 2)) (fun u => decide (u.routeSet = some []) && decide (u.routeWork = []) && decide ((u.rg 143).fab.routeGen = 1)) = true := by decide +kernel
theorem wit_fetch : let s := S12 (F1 2)
    s.fetches.find? (fun g => decide (g.key = K1)) = some (F1 2) ∧ (s.srcObj K1.src).isSome = true ∧ (F1 2).waiters = [.pkt 3] ∧ s.bru.flashUp ≠ 0 ∧ (∀ o, s.srcObj K1.src = some o → s.t2Index o 0 0 = (0x100, 80)) := by
  decide +kernel
theorem wit_no_run : ∀ n g, ((S12 (F1 2)).grp n g).run = none ∧ ((S12 (F1 2)).grp n g).formOp = none := by
  intro n g
  simp only [State.grp, State.pt, S12, tget]
  split <;> exact ⟨rfl, rfl⟩
theorem wit_frame : (S12 (F1 2)).frameCheck 0 K1 ((S12 (F1 2)).flash.readN 0x100 80) 80 (some (rawBody (List.replicate 65536 0))) = .plain (List.replicate 65536 0) := by
  have h := packDecode_raw (List.replicate 65536 0) List.length_replicate
  have g : ∀ o, (S12 (F1 2)).frameCheck 0 K1 ((S12 (F1 2)).flash.readN 0x100 80) 80 (some o) = (match packDecode o with | some p => .plain p | none => .bad) := by
    intro o
    simp only [State.frameCheck]
    rw [if_neg (by decide +kernel), if_neg (by decide +kernel), if_neg (by decide +kernel)]
    all_goals (cases packDecode o <;> rfl)
  rw [g, h]
theorem wit_request : (S12 (F1 3)).windowOpen K1.src = true ∧ (S12 (F1 3)).wportFor 0 = some 5 ∧ (S12 (F1 3)).reqOut 5 < (S12 (F1 3)).proto.reqMax.toNat := by decide +kernel
theorem test_fetch : yields (.chunkLate K1) (S12 (F1 2)) (fun u => decide (u.fetches.map (fun f => f.cause) = [1])) && yields (.chunkLate K1) (S12 (F1 3)) (fun u => decide (u.fetches.map (fun f => f.cause) = [2])) &&
  yields (.chunkReplyTimeout K1) (S12 (F1 3)) (fun u => decide (u.fetches.map (fun f => f.reqId) = [0]) && decide (u.nextReq = 1)) &&
  yields (.chunkBusyRetry K1) (S12 { F1 3 with busy := true }) (fun u => decide (u.fetches.map (fun f => f.busy) = [false]) && decide (u.nextReq = 1)) = true := by decide +kernel
theorem wit_stall : ((S12 (F1 2)).pt 0).mem.stalled.find? (fun e => e.1 == .inst 5) = some (.inst 5, 2) ∧ ((S12 (F1 2)).pt 0).mem.timeoutMs ≠ 0 := by decide +kernel

end Sys2Proof.Tests
end

