-- ==== Sys2Proof/Tests/Host.lean ====
section
/-! SUPPORT. Tests of rings, descriptors, functions and links (03), witnesses of their statements. -/
namespace Sys2Proof.Tests
set_option Elab.async false
open Sys2Proof.Machine

/-- VF 0 is live on link 0, which may be written to; the ring as given, completion ring 1 enabled for it. -/
def L0 : HostLink := { up := true, vfEnable := true, numVfs := 1, bme := true, vfBme := 1, ep := { evq := { en := true, log2 := 4 } } }
def H (r : Ring) (l : List Op) : State := { State.reset with
  links := [(0, L0)], ops := l, fw := { State.reset.fw with sch := { state := .running } }, phase := .fullReady
  part := [(0, { ({} : Partition) with
    state := .active, w := 1, h := 1, syncCount := 256, rings := [(0, r), (1, { cqEn := true, cqLog2 := 4, cqHead := 14, cqUsed := 3 })]
    ep := { evq := { en := true, log2 := 4, head := 15, used := 2 }, status := { en := true, base := 5 } } })] }
def opOf (d : BitVec 512) (st : OpState) (a : Byte) : Op :=
  { id := 0, part := 0, ring := 0, slot := 0, desc := d, ext := [], cq := 1, st := st, status := a, detail := 0, doneTick := 0, ended := 0, noSignal := false, timely := false }
def R0 (x : SqState) : Ring := { sqLog2 := 4, cqIndex := 1, sqState := x, sqTail := 1 }
def ringAfter (i : Instr) (s : State) (r : Ring) : Bool := yields i s (fun u => decide ((u.pt 0).ring 0 = r))

theorem wit_live : (H (R0 .disabled) []).vfLive 0 = true ∧ (H (R0 .disabled) []).vfLive 1 = false ∧ State.reset.vfLive 0 = false ∧ ((H (R0 .disabled) []).pt 0).ring 0 = R0 .disabled ∧
    (((H (R0 .disabled) []).pt 0).ring 1).cqEn = true ∧ (H (R0 .disabled) []).hears (.vf 0) ∧ (H (R0 .enabled) []).canWrite (.vf 0) = true := by
  simp only [State.hears]; decide +kernel
theorem wit_cq : (∃ e ∈ ((H (R0 .enabled) []).pt 0).rings, e.2.sqState ≠ .disabled ∧ e.2.cqIndex.toNat = 1) ∧
    (∀ e ∈ ((H (R0 .disabled) []).pt 0).rings, e.2.sqState ≠ .disabled → e.2.cqIndex.toNat ≠ 1) := by decide +kernel
theorem test_not_live : still (.sqEnable 1 0) (H (R0 .disabled) []) && still (.doorbellSqTail 1 0 3) (H (R0 .enabled) []) = true := by decide +kernel
theorem test_sq_enable : ringAfter (.sqEnable 0 0) (H (R0 .disabled) []) { R0 .enabled with sqTail := 0 } && ringAfter (.sqEnable 0 0) (H { R0 .disabled with sqLog2 := 13 } []) { R0 .error with sqLog2 := 13, errCause := 2 } &&
  ringAfter (.sqEnable 0 0) (H { R0 .disabled with cqIndex := 2 } []) { R0 .error with cqIndex := 2, errCause := 3 } = true := by decide +kernel
theorem test_sq_disable : ringAfter (.sqDisable 0 0) (H (R0 .enabled) []) (R0 .disabled) && ringAfter (.sqDisable 0 0) (H (R0 .error) [opOf 1 .admitted 0]) (R0 .draining) &&
  yields (.sqDisable 0 0) (H (R0 .enabled) [opOf 1 .admitted 0]) (fun u => decide (u.ops.map (fun o => (o.status, o.detail)) = [(11, 1)])) = true := by decide +kernel
theorem test_cq : ringAfter (.cqEnable 0 0) (H { R0 .disabled with cqLog2 := 16, cqTail := 3 } []) { R0 .disabled with cqLog2 := 16, cqEn := true } && still (.cqDisable 0 1) (H (R0 .enabled) []) &&
  yields (.cqDisable 0 1) (H (R0 .disabled) []) (fun u => !((u.pt 0).ring 1).cqEn) = true := by decide +kernel
theorem test_doorbell : ringAfter (.doorbellSqTail 0 0 15) (H (R0 .enabled) []) { R0 .enabled with sqTail := 15 } &&
  yields (.doorbellSqTail 0 0 16) (H (R0 .enabled) []) (fun u => decide ((u.pt 0).doorbellDrop = 1) && decide ((u.pt 0).ring 0 = R0 .enabled) && decide (u.out.length = 4)) &&
  yields (.doorbellCqHead 0 1 1) (H (R0 .enabled) []) (fun u => decide (((u.pt 0).ring 1).cqUsed = 0) && decide (((u.pt 0).ring 1).cqHead = 1)) &&
  yields (.doorbellCqHead 0 1 2) (H (R0 .enabled) []) (fun u => decide (((u.pt 0).ring 1).cqUsed = 3) && decide ((u.pt 0).doorbellDrop = 1)) = true := by decide +kernel
theorem test_cancel : yields (.ringCancel 0 0) (H (R0 .enabled) [opOf 1 .admitted 0, { opOf 1 .started 0 with id := 1 }]) (fun u => decide (u.ops.map (fun o => o.status) = [11, 0])) = true := by decide +kernel

/-! ### Descriptors -/

theorem wit_admission : (H (R0 .enabled) []).nextAdmission = some (0, 0) ∧ (H (R0 .enabled) []).admissionCheck (opOf 1 .admitted 0) none = none ∧ (1 : BitVec 512).toNat / 2 ^ 11 % 2 = 0 ∧ (5 : BitVec 512).toNat % 256 ∉ opcodes := by
  decide +kernel
theorem test_admission : yields (.descriptorFetch 0 0 (.got 1 none)) (H (R0 .enabled) []) (fun u => decide (u.ops = [opOf 1 .admitted 0]) && decide (((u.pt 0).ring 0).sqHead = 1) && decide (((u.pt 0).ring 1).cqReserved = 1)) &&
  yields (.descriptorFetch 0 0 (.got 5 none)) (H (R0 .enabled) []) (fun u => decide (u.ops.map (fun o => (o.status, o.detail)) = [(8, 1)])) &&
  ringAfter (.descriptorFetch 0 0 .fault) (H (R0 .enabled) []) { R0 .error with errCause := 1 } = true := by decide +kernel
theorem wit_start : (H (R0 .enabled) [opOf 1 .admitted 0]).findOp 0 = some (opOf 1 .admitted 0) ∧ ((H (R0 .enabled) []).core .sch).state = .running ∧ (opOf 1 .admitted 0).notBefore = 0 ∧ (opOf 1 .admitted 0).waitEn = false := by
  decide +kernel
theorem test_start : yields (.descriptorStart 0) (H (R0 .enabled) [opOf 1 .admitted 0]) (fun u => decide (u.ops = [opOf 1 .started 0])) = true := by decide +kernel
/-- SIGNAL_EN with INCR 3 on object 2; QUIET. -/
theorem test_record : yields (.descriptorComplete 0) (H (R0 .enabled) [opOf (0x201 + 3 * 2 ^ 24 + 2 * 2 ^ 96) .ended 0]) (fun u => decide (u.ops = []) && decide (u.syncGet 2 = 3) && decide (u.out.length = 2)) &&
  yields (.descriptorComplete 0) (H (R0 .enabled) [opOf (0x201 + 3 * 2 ^ 24 + 2 * 2 ^ 96) .ended 4]) (fun u => decide (u.sync = []) && decide (u.out.length = 2)) &&
  yields (.descriptorComplete 0) (H (R0 .enabled) [opOf 0x1001 .ended 0]) (fun u => decide (u.ops = []) && decide (u.out = [])) = true := by decide +kernel

/-- The operation ends with a status. -/
def endsWith (i : Instr) (d : BitVec 512) (st : Byte) (l : List (Nat × W64)) : Bool :=
  yields i { H (R0 .enabled) [opOf d .started 0] with sync := [(2, 9)] } (fun u => decide (u.ops.map (fun o => (o.st, o.status)) = [(.ended, st)]) && decide (u.sync = l))
theorem test_ordering : endsWith (.nop 0) 1 0 [(2, 9)] && endsWith (.fence 0) 2 0 [(2, 9)] && endsWith (.fencePartition 0) (2 + 2 ^ 128) 0 [(2, 9)] &&
  endsWith (.syncSignal 0) (3 + 2 * 2 ^ 128 + 5 * 2 ^ 192) 0 [(2, 14)] && endsWith (.syncSignalSet 0) (3 + 2 * 2 ^ 128 + 2 ^ 144 + 5 * 2 ^ 192) 0 [(2, 5)] = true := by decide +kernel
theorem test_sync_wait : endsWith (.syncWait 0) (4 + 2 * 2 ^ 128 + 9 * 2 ^ 192) 0 [(2, 9)] && endsWith (.syncWaitTimeout 0) (4 + 2 * 2 ^ 128 + 2 ^ 160 + 10 * 2 ^ 192) 11 [(2, 9)] &&
  still (.syncWait 0) (H (R0 .enabled) [opOf (4 + 2 * 2 ^ 128 + 9 * 2 ^ 192) .started 0]) && still (.fence 1) (H (R0 .enabled) [opOf 1 .started 0, { opOf 2 .started 0 with id := 1 }]) = true := by decide +kernel
theorem wit_sync_wait : compares ((opOf (4 + 2 * 2 ^ 128 + 9 * 2 ^ 192) .started 0).byte 18) 9 (BitVec.ofNat 64 ((opOf (4 + 2 * 2 ^ 128 + 9 * 2 ^ 192) .started 0).le 24 8)) ∧
    ¬ compares ((opOf (4 + 2 * 2 ^ 128 + 2 ^ 160 + 10 * 2 ^ 192) .started 0).byte 18) 9 (BitVec.ofNat 64 ((opOf (4 + 2 * 2 ^ 128 + 2 ^ 160 + 10 * 2 ^ 192) .started 0).le 24 8)) := by
  simp only [compares]; decide +kernel

/-! ### Functions and links -/

theorem test_evq : yields (.evqEnable (.pf 1)) { State.reset with links := [(1, { ep := { evq := { log2 := 12, tail := 3 } } })] } (fun u => decide ((u.lk 1).ep.evq = { log2 := 12, en := true })) &&
  yields (.evqHeadWrite (.vf 0) 1) (H (R0 .disabled) []) (fun u => decide ((u.pt 0).ep.evq = { en := true, log2 := 4, head := 1, used := 0 })) &&
  yields (.evqHeadWrite (.vf 0) 16) (H (R0 .disabled) []) (fun u => decide ((u.pt 0).ep = ((H (R0 .disabled) []).pt 0).ep)) = true := by decide +kernel
theorem test_status : yields (.statusEnable (.pf 0)) (H (R0 .disabled) []) (fun u => (u.lk 0).ep.status.en) &&
  yields (.statusPageRefresh (.vf 0)) (H (R0 .disabled) []) (fun u => decide ((u.pt 0).ep.status = { en := true, base := 5, seq := 2, heartbeat := 1 })) = true := by decide +kernel
theorem wit_links : ((H (R0 .disabled) []).lk 0).ep.held = [] ∧ ((H (R0 .disabled) []).lk 1).bme = false ∧ ((H (R0 .disabled) []).pt 0).hostLink = (0 : Fin 4).val ∧ (12 : BitVec 4).toNat ≤ 12 := by decide +kernel
theorem test_links : yields (.hostLinkUp 1 5 16 true) (H (R0 .disabled) []) (fun u => decide (u.lk 1 = { up := true, speed := 5, width := 16, flit := true })) &&
  yields (.hostLinkDown 0) (H (R0 .disabled) []) (fun u => decide ((u.pt 0).state = .resetting) && decide ((u.lk 0).linkResets = 1)) &&
  yields (.busMasterEnableSet (.pf 1)) (H (R0 .disabled) []) (fun u => (u.lk 1).bme) && yields (.busMasterEnableClear (.pf 0)) (H (R0 .disabled) []) (fun u => !(u.lk 0).bme) = true := by decide +kernel
theorem test_resets : yields (.pfFlr 0) (H (R0 .disabled) []) (fun u => decide ((u.pt 0).state = .resetting) && !(u.lk 0).ep.evq.en) && yields (.vfFlr 0 0) (H (R0 .disabled) []) (fun u => decide ((u.pt 0).resetStep = 1)) &&
  yields (.vfEnableChange 0 false 12) (H (R0 .disabled) []) (fun u => decide ((u.pt 0).state = .resetting) && decide ((u.lk 0).numVfs = 12)) = true := by decide +kernel

end Sys2Proof.Tests
end

