-- ==== Sys2Proof/Tests/Ports.lean ====
section
/-! SUPPORT. Tests of the Barior ports and the W-port protocol (12), witnesses of their statements. -/
namespace Sys2Proof.Tests
set_option Elab.async false
open Sys2Proof.Machine

/-- M0 with one port as given. -/
def PT (p : Nat) (x : Port) : State := { M0 with ports := [(p, x)] }
def portAfter (i : Instr) (p : Nat) (x : Port) (f : Port → Bool) : Bool := yields i (PT p x) (fun u => f (u.port p))
def PX (k : PortPhase) : Port := { phase := k, cur0 := 2, cur1 := 3 }
def isPhase (k : PortPhase) (y : Port) : Bool := decide (y.phase = k)

/-! ### Training -/

/-- 12 R391, 09 T9.4: with every channel ready, CTL goes first; without CTL and MGT, REQ sends 2 flits in its turn, RSP, STR and COL 4. -/
theorem test_channel_turns : nextChannel (fun _ => true) 2 1 = some (4, 2, 1) ∧ nextChannel (fun c => decide (c < 4)) 3 0 = some (0, 0, 1) ∧
    nextChannel (fun c => decide (c < 4)) 0 0 = some (1, 1, 3) ∧ nextChannel (fun c => decide (c = 3)) 1 2 = some (3, 3, 3) := by decide

/-- PARAMS of a server: major 1, kind 2, width 8, rate 2, ample credits. -/
def params (major kind : Byte) : List Byte := [0, major, 0, kind, 9, 0, 0, 0, 5, 8, 2, 0] ++ List.replicate 12 0xFF
theorem wit_params : (PT 0 (PX .params)).paramsCheck 0 (params 1 2) = 0 ∧ (PT 0 (PX .params)).paramsCheck 0 (params 2 2) = 6 ∧ M0.portAbsent 37 = false ∧ { M0 with fixed := { M0.fixed with order := .kw9F } }.portAbsent 36 = true := by decide +kernel
theorem test_enable : portAfter (.portEnableWrite 0 37 7) 37 (PX .disabled) (isPhase .detect) && portAfter (.portEnableWrite 0 37 6) 37 (PX .active) (fun y => isPhase .disabled y && !y.enable) && still (.portEnableWrite 1 37 7) (PT 37 (PX .disabled)) &&
  portAfter (.ctrlRetrain 0 5) 5 (PX .active) (fun y => isPhase .retrain y && decide (y.retrains = 1)) && still (.ctrlRetrain 0 5) (PT 5 (PX .detect)) = true := by decide +kernel
theorem test_detect : portAfter (.partnerSignalDetect 0) 0 (PX .detect) (isPhase .equalize) && portAfter (.narrowDetectTimeout 0 1) 0 (PX .detect) (fun y => isPhase .equalize y && decide (y.narrow = some 1)) &&
  still (.narrowDetectTimeout 0 1) (PT 0 { PX .detect with allowX4 := false }) && portAfter (.noPartnerTimeout 0) 0 (PX .detect) (fun y => decide (y.failCause = 1)) && still (.partnerSignalDetect 0) (PT 0 (PX .align)) = true := by decide +kernel
theorem test_equalize : portAfter (.equalizeDone 0) 0 (PX .equalize) (isPhase .align) && portAfter (.equalizeTimeout 0) 0 (PX .equalize) (fun y => isPhase .equalize y && y.half) &&
  portAfter (.equalizeTimeout 0) 0 { PX .equalize with half := true } (fun y => isPhase .down y && decide (y.failCause = 2)) && portAfter (.alignDone 0) 0 (PX .align) (isPhase .params) &&
  portAfter (.alignTimeout 0 none) 0 (PX .align) (fun y => isPhase .down y && decide (y.failCause = 3)) && portAfter (.alignTimeout 0 (some 1)) 0 { PX .align with laneQ := 1, laneFaults := 1 } (fun y => isPhase .down y && decide (y.laneFaults = 2)) = true := by decide +kernel
/-- The third failure of quarter 1 of W-port 0: a spare well takes it. -/
def third : State := { M0 with ports := [(0, { PX .align with laneQ := 1, laneFaults := 2 })], rgn := [16].map (fun i => (i, { ({} : Region) with bru := { wellReady := true }, pwr := { rails := { vmif := true } } })) }
theorem wit_third : (third.candidate 0 1).isSome = true ∧ (third.core .sch).state = .running := by decide +kernel
theorem test_third : yields (.alignTimeout 0 (some 1)) third (fun u => isPhase .relocating (u.port 0) && decide ((u.port 0).reloc.map (fun m => some m.target) = some (third.candidate 0 1))) = true := by decide +kernel
theorem test_params : portAfter (.params 0 (params 1 2)) 0 (PX .params) (fun y => decide (y.lastParams = some (params 1 2)) && isPhase .params y) &&
  portAfter (.params 0 (params 1 2)) 0 { PX .params with lastParams := some (params 1 2) } (fun y => isPhase .active y && decide (y.width = 8) && decide (y.rate = 2) && decide (y.partnerId = 9) && decide (y.pport = 5)) &&
  portAfter (.params 0 (params 2 2)) 0 { PX .params with lastParams := some (params 2 2) } (fun y => isPhase .down y && decide (y.failCause = 6)) && portAfter (.paramsTimeout 0) 0 (PX .params) (isPhase .down) = true := by decide +kernel
def FL : Flit := { ch := 1, som := true, eom := true, poison := false, key := 0, check := 0, data := [] }
theorem test_retrain : portAfter (.portRetrained 0 5) 0 (PX .retrain) (isPhase .active) && portAfter (.portRetrained 0 5) 0 { PX .retrain with replay := [(3, FL)], replaysRow := 7 } (fun y => isPhase .active y && decide (y.replays = 1)) &&
  portAfter (.retrainTimeout 0) 0 (PX .retrain) (fun y => isPhase .down y && decide (y.failCause = 10)) && portAfter (.partnerReset 0) 0 (PX .active) (fun y => decide (y.failCause = 11)) && still (.partnerReset 0) (PT 0 (PX .down)) &&
  yields (.downRetryTimer 0) { PT 0 { PX .down with laneFaults := 2 } with rgn := [(2, { ({} : Region) with wellPowered := true }), (3, { ({} : Region) with wellPowered := true })] } (fun u => isPhase .detect (u.port 0)) = true := by decide +kernel

/-! ### Relocation -/

def RL (k : PortPhase) (c : Nat) (use : Nat) : State := { PT 0 { PX k with cur1 := c } with rgn := [(3, { ({} : Region) with well := { use := use } })] }
theorem wit_relocate : homeQuarter 0 1 = 3 ∧ M0.canHandle .sch 0x0C01 ∧ ((RL .down 4 0).rg 3).well.use = 0 ∧ ((RL .down 4 1).rg 3).well.use ≠ 0 := ⟨by decide +kernel, canHandle_of (by decide +kernel), by decide +kernel, by decide +kernel⟩
theorem test_relocate : replies (.bptRelocate (pm [0, 1, 0xFE, 0])) (RL .down 3 0) 0 (fun u => decide (u.ports = (RL .down 3 0).ports)) && replies (.bptRelocate (pm [0, 1, 0xFE, 0])) (RL .active 4 0) 4 (fun u => decide (u.ports = (RL .active 4 0).ports)) &&
  replies (.bptRelocate (pm [0, 1, 0xFE, 0])) (RL .down 4 1) 4 (fun u => decide (u.ports = (RL .down 4 1).ports)) && replies (.bptRelocate (pm [38])) M0 1 (fun u => decide (u.ports = [])) &&
  yields (.bptRelocate (pm [0, 1, 0xFE, 0])) (RL .down 4 0) (fun u => isPhase .relocating (u.port 0) && decide ((u.port 0).reloc = some { quarter := 1, target := 3, old := 4, msg := some (pm [0, 1, 0xFE, 0]), home := true })) = true := by decide +kernel
theorem test_relocated : yields (.portRelocated 0) { RL .relocating 4 0 with ports := [(0, { PX .relocating with cur1 := 4, reloc := some { quarter := 1, target := 3, old := 4, msg := none, home := true } })] } (fun u =>
  isPhase .detect (u.port 0) && decide ((u.port 0).cur1 = 3) && (u.rg 3).wellPowered && decide ((u.rg 3).well.quarter = 1) && decide ((u.rg 4).well = {})) = true := by decide +kernel

/-! ### Flits -/

def wire (ok : Bool) (seq : BitVec 10) (c : W32) : WireFlit := { ok := ok, ch := 1, som := true, eom := true, poison := false, key := 0, check := c, seq := seq, ack := 0, crCh := 0, crCount := 0, data := [5] }
def goodCheck : W32 := crc32c ([5] ++ List.replicate 255 0)
def AP (n : Nat) : State := { PT 0 { PX .active with rxExp := n } with portOwner := [(0, 0)] }
set_option maxRecDepth 100000 in
theorem wit_flit : (wire true 1023 goodCheck).check = crc32c ((wire true 1023 goodCheck).data ++ List.replicate (256 - (wire true 1023 goodCheck).data.length) 0) ∧ (0 : W32) ≠ goodCheck ∧ (tfind (AP 0).portOwner 0).isSome = true ∧ tfind ((AP 0).port 0).rxOpen 1 = none := by decide +kernel
set_option maxRecDepth 100000 in
theorem test_flit : yields (.dataFlitReceive 0 (wire true 1023 goodCheck)) (AP 1023) (fun u => decide ((u.port 0).rxExp = 0) && decide ((u.port 0).inbox.length = 1)) &&
  yields (.dataFlitReceive 0 (wire false 1023 0)) (AP 1023) (fun u => (u.port 0).nakSent && decide ((u.port 0).lcrcFail = 1) && decide (u.out = [.linkctl 0 1 1023])) &&
  yields (.dataFlitReceive 0 (wire true 1023 0)) (AP 1023) (fun u => decide ((u.port 0).entryCheck = 1)) && yields (.dataFlitReceive 0 (wire true 5 goodCheck)) (AP 1023) (fun u => (u.port 0).nakSent && decide ((u.port 0).inbox = [])) = true := by decide +kernel
theorem test_replay : portAfter (.nak 0 5) 0 { PX .active with replay := [(5, FL)] } (fun y => decide (y.replays = 1)) && portAfter (.replayTimeout 0) 0 { PX .active with replay := [(5, FL)], replaysRow := 8 } (fun y => isPhase .retrain y && decide (y.retrainCause = 9)) &&
  still (.replayTimeout 0) (PT 0 (PX .active)) && portAfter (.retrainReq 0) 0 (PX .active) (isPhase .retrain) && portAfter (.codewordBurst 0 4 16) 0 (PX .active) (fun y => isPhase .active y && decide (y.fecUncorr = 16)) &&
  portAfter (.codewordBurst 0 4 17) 0 (PX .active) (fun y => isPhase .retrain y && decide (y.fecCorrected = 4)) = true := by decide +kernel
theorem test_echo : yields (.echoReq 0 9) (PT 0 (PX .align)) (fun u => decide (u.out = [.linkctl 0 5 9])) && still (.echoReq 0 9) (PT 0 (PX .down)) && portAfter (.echoRsp 0 9) 0 (PX .retrain) (fun y => decide (y.loopNs = 9)) && still (.echoRsp 0 9) (PT 0 (PX .active)) = true := by
  decide +kernel

/-! ### Servers -/

/-- A header-only answer of a server to request 7. -/
def answer (t : Nat) (st : Byte) : InMsg := { ch := 1, msg := { flits := [{ FL with data := leBytes 2 t ++ [1, 0] ++ leBytes 4 64 ++ leBytes 8 7 ++ [0, 0, 0, st] ++ List.replicate 44 0 }] } }
def FE : Fetch := { key := { src := .obj 0 4, page := 0, chunk := 0 }, n := 0, tier := 3, keep := none, waiters := [], port := some 0, reqId := 7, sent := true, cause := 0, failDec := false, failChk := false, relay := false, busy := false }
def GI : Inst := {
  id := 5, part := 0, op := 1, stream := 3, gradient := true, slot := true, gen := 9, granules := 2, seg := { kind := 2, src := 0, pin := false, share := false, well := 0, svcRow := 0, ec := 1, ty0 := 0, ty1 := 0, granules := 2, addr := 0, wport := 0, red := 1, server := 0, keyId := 0, destId := 0 }, base := 0, well := 0, ec := 1, row0 := 0, x0 := 0, x1 := 0, openReq := 7 }
def SV (m : InMsg) (l : List Fetch) (k : List Inst) : State := { PT 0 { PX .active with inbox := [m] } with fetches := l, insts := k }
theorem wit_server : protoBad 1 (answer 2 3).bytes = false ∧ protoBad 1 (answer 0x20 0).bytes = false ∧ protoBad 1 (answer 0x21 2).bytes = false ∧ protoBad 1 (answer 0x22 2).bytes = true ∧ leAt (answer 2 1).bytes 8 8 = 7 ∧ leAt (answer 2 1).bytes 19 1 = 1 ∧ leAt (answer 2 1).bytes 32 4 = 0 := by decide +kernel
theorem test_chunk_data : yields (.chunkData 0 none) (SV (answer 2 3) [FE] []) (fun u => decide (u.fetches.map (fun f => (f.busy, f.sent)) = [(true, false)])) && yields (.chunkData 0 none) (SV (answer 2 1) [FE] []) (fun u => decide (u.fetches = [])) &&
  yields (.chunkData 0 none) (SV (answer 2 1) [] []) (fun u => decide ((u.port 0).unsolicited = 1)) && yields (.chunkData 0 none) (SV (answer 0x22 1) [FE] []) (fun u => decide ((u.port 0).protoErr = 1) && decide (u.fetches = [FE])) && still (.chunkData 1 none) M0 = true := by decide +kernel
def GF : GradFrame := { reqId := 7, first := 0, data := [] }
theorem test_grad_ack : yields (.gradAck 0) (SV (answer 0x20 0) [] [{ GI with frames := [GF] }]) (fun u => decide (u.insts.map (fun x => x.frames) = [[]])) && yields (.gradAck 0) (SV (answer 0x20 2) [] [{ GI with frames := [GF] }]) (fun u => decide (u.insts.map (fun x => x.frames) = [[{ GF with busy := true }]])) &&
  yields (.gradAck 0) (SV (answer 0x20 0) [] [GI]) (fun u => decide ((u.port 0).unsolicited = 1)) = true := by decide +kernel
theorem test_grad_done : yields (.gradDone 0) (SV (answer 0x21 0) [] [{ GI with closeSent := true }]) (fun u => decide (u.insts.map (fun x => x.done) = [true])) && yields (.gradDone 0) (SV (answer 0x21 2) [] [{ GI with closeSent := true }]) (fun u => decide (u.insts.map (fun x => x.closeBusy) = [true])) &&
  yields (.gradDone 0) (SV (answer 0x21 0) [] [GI]) (fun u => decide ((u.port 0).unsolicited = 1)) = true := by decide +kernel
theorem test_grad_timeout : yields (.gradAckTimeout 5) (SV (answer 0x21 0) [] [{ GI with frames := [GF] }]) (fun u => decide (u.insts.map (fun x => x.failed) = [some (4, 2)])) && still (.gradAckTimeout 5) (SV (answer 0x21 0) [] [GI]) &&
  yields (.gradBusyResend 5) (SV (answer 0x21 0) [] [{ GI with frames := [{ GF with busy := true }] }]) (fun u => decide (u.insts.map (fun x => x.frames) = [[GF]])) && still (.gradBusyResend 5) (SV (answer 0x21 0) [] [{ GI with frames := [GF] }]) = true := by decide +kernel

end Sys2Proof.Tests
end

