-- ==== Sys2Proof/Tests/Power.lean ====
section
/-! SUPPORT. Tests of the cadence, the region clocks and power (04, 16), witnesses of their statements. -/
namespace Sys2Proof.Tests
set_option Elab.async false
open Sys2Proof.Machine

/-! ### Cadence -/

def CS (c : Cadence) : State := { M0 with cad := c }
def cadAfter (i : Instr) (c : Cadence) (p : Cadence → Bool) : Bool := yields i (CS c) (fun u => p u.cad)
def TF (echo : W64) : TimingFlit := { sourceId := 8, priority := 3, hops := 126, edge := 0, tx := 1000, echoTx := echo, echoRx := 900 }
def CL : Cadence := { state := .locked, sourceKind := 1, sourcePort := 11, count := 64, inputs := [(11, { priority := 3, rootId := 8, hops := 2 })], better := some 11 }
theorem wit_cadence : CL.state = .locked ∧ CL.stepping = false ∧ CL.sourcePort.toNat = (11 : Fin 12).val ∧ CL.tportMask.getLsbD 11 = true ∧ ({} : Cadence).inputs = [] ∧ ({} : Cadence).sourceKind = 0 ∧
    ¬ ((TF 5).sourceId = 0 ∧ (TF 5).hops = 127) ∧ tfind CL.inputs 11 = some { priority := 3, rootId := 8, hops := 2 } := by decide +kernel
theorem test_tick : cadAfter (.tickEdge 7 0) CL (fun c => decide (c.count = 65) && decide (c.state = .locked)) && cadAfter (.tickEdge 7 15) { acquiring := true } (fun c => decide (c.count = 7) && decide (c.state = .locked)) &&
  cadAfter (.tickEdge 7 (-16)) { acquiring := true } (fun c => decide (c.state = .slewing)) && cadAfter (.tickEdge 7 0) {} (fun c => decide (c = {})) = true := by decide +kernel
/-- Delay ((2000 − 500) − (1000 − 900)) / 2 = 700; offset ((2000 − 1000) − 700) / 256 = 1. -/
theorem test_timing : cadAfter (.timingFlitReceive 11 true (TF 500) 2000) CL (fun c => decide (c.offset = 1) && decide (c.state = .locked)) && still (.timingFlitReceive 0 false (TF 500) 2000) (CS CL) &&
  cadAfter (.timingFlitReceive 11 true (TF 500) 2000) {} (fun c => decide (c.sourceKind = 1) && decide (c.sourcePort = 11) && c.acquiring) &&
  cadAfter (.timingFlitReceive 11 true { TF 500 with sourceId := 0, hops := 127 } 2000) CL (fun c => decide (c.inputs = [])) = true := by decide +kernel
theorem test_ptp : still (.ptpSyncReceive 16 9 1 true) (CS { CL with sourceKind := 2, sourceMode := 2 }) && cadAfter (.ptpSyncReceive 16 9 0 true) { CL with sourceKind := 2, sourceMode := 2 } (fun c => decide (c.state = .slewing) && decide (c.sourceId = 9)) = true := by
  decide +kernel
theorem test_source : cadAfter .bestInputHoldExpiry { CL with sourceKind := 0 } (fun c => decide (c.sourceKind = 1) && decide (c.sourceId = 8)) && cadAfter (.sourceLoss (some 11)) CL (fun c => decide (c.state = .holdover) && decide (c.holdovers = 1) && decide (c.inputs = [])) &&
  cadAfter (.cadenceOutOfSpec 3) { CL with state := .holdover, inSpec := true } (fun c => !c.inSpec) && still (.cadenceOutOfSpec 3) (CS CL) = true := by decide +kernel
theorem test_mode : cadAfter (.sourceModeWrite 0 3) CL (fun c => decide (c.state = .localMode)) && cadAfter (.sourceModeWrite 0 2) CL (fun c => decide (c.sourceMode = 2) && decide (c.state = .locked)) && still (.sourceModeWrite 1 3) (CS CL) &&
  cadAfter (.localSetWrite 0 9) { sourceMode := 3 } (fun c => decide (c.count = 9) && decide (c.state = .localMode)) && still (.localSetWrite 0 9) (CS CL) = true := by decide +kernel
/-- CL's source is heard on T-port 11 and goes out on T-port 0. -/
theorem test_send : yields (.timingFlitSend 0 5) { CS { CL with hops := 2 } with ports := [(24, { phase := .active, caps := 2 })] } (fun u => match u.out with
  | [.timing 24 f] => decide (f.tx = 5) && decide (f.hops = 3)
  | _ => false) = true := by decide +kernel

/-! ### Region clocks -/

/-- Regions 0 and 1 READY and running, of classes `a` and `b`, region 0 wanting `w`, its setpoints as given. -/
def OC (a b w : BitVec 3) (vl vs : BitVec 12) : State := { M0 with rgn := [
  (0, { (M0.rg 0) with osc := { cls := a, target := w, decided := w, running := true }, pwr := { vlogSet := vl, vsramSet := vs } }),
  (1, { (M0.rg 1) with osc := { cls := b, target := b, decided := b, running := true } })] }
theorem wit_class : (OC 3 1 0 3280 3400).wantedClass 0 = 0 ∧ ((OC 3 1 0 3280 3400).rg 0).pwr.inWindow 0 = true ∧ ((OC 3 1 0 3279 3400).rg 0).pwr.inWindow 0 = false ∧ (OC 1 1 3 0 0).wantedClass 0 = 3 ∧
    neighbour 0 0 = some 1 ∧ neighbour 0 2 = none ∧ neighbour 143 1 = none := by decide +kernel
set_option maxRecDepth 100000 in
theorem test_class : yields (.classChange 0) (OC 3 1 0 3280 3400) (fun u => decide ((u.rg 0).osc.cls = 0) && (u.rg 0).osc.elastic.getLsbD 0 && (u.rg 1).osc.elastic.getLsbD 2) &&
  yields (.classChange 0) (OC 3 1 0 3279 3400) (fun u => decide ((u.rg 0).osc.cls = 3)) && yields (.classChange 0) (OC 1 1 3 0 0) (fun u => decide ((u.rg 0).osc.cls = 3)) && still (.classChange 1) M0 &&
  yields (.crossingRelock 0 0) (OC 1 1 1 0 0) (fun u => (u.rg 0).osc.coupled.getLsbD 0 && !(u.rg 1).osc.elastic.getLsbD 2) && still (.crossingRelock 0 2) (OC 1 1 1 0 0) = true := by decide +kernel

/-! ### Power -/

def regAfter (i : Instr) (g : Region) (p : Region → Bool) : Bool := yields i { M0 with rgn := [(0, g)] } (fun u => p (u.rg 0))
/-- A running region with its rails up, VLOG window 3200-3280. -/
def PG : Region := { (M0.rg 0) with pwr := { rails := { vlog := true, vsram := true, vstr := true }, vlogLo := 3200, vlogHi := 3280, vlogSet := 3275, vsramLo := 3400, vsramHi := 3600, vsramSet := 3400 }, osc := { running := true } }
theorem test_voltage : regAfter (.voltageLoopStep 0 [3039] []) PG (fun g => decide (g.pwr.vlogSet = 3280)) && regAfter (.voltageLoopStep 0 [3101] []) PG (fun g => decide (g.pwr.vlogSet = 3265)) && regAfter (.voltageLoopStep 0 [3100] []) PG (fun g => decide (g.pwr.vlogSet = 3275)) &&
  regAfter (.droopEngage 0 [2939]) PG (fun g => g.pwr.droop) && regAfter (.droopEngage 0 [2940]) PG (fun g => !g.pwr.droop) && regAfter (.droopRelease 0 [3000] 10) { PG with pwr := { PG.pwr with droop := true } } (fun g => !g.pwr.droop) = true := by decide +kernel
theorem test_limiter : yields .peakLimiterStep { M0 with rgn := [], pwr := { M0.pwr with vlnkMw := 910000 * 98 / 1000, peakW := 100 } } (fun u => decide (u.pwr.duty = 16) && decide (u.pwr.samples = [98000])) &&
  yields .peakLimiterStep { M0 with rgn := [], pwr := { M0.pwr with carrierMw := 91000, peakW := 100 } } (fun u => decide (u.pwr.duty = 15)) && yields .peakLimiterStep { M0 with rgn := [], pwr := { M0.pwr with duty := 4, raiseWait := 9, peakW := 100 } } (fun u => decide (u.pwr.duty = 5)) = true := by
  decide +kernel
theorem test_division : yields (.pwrDivision [] 1 2 3 0 0) M0 (fun u => decide (u.pwr.energyMj = 3) && decide (u.pwr.inCurrent = 2)) && yields (.forecastClassify 0 300 0 0 true 0) M0 (fun u => decide ((u.pt 0).pwr.phase = 3)) &&
  yields (.forecastClassify 0 49 49 49 true 0) { M0 with part := [(0, { (M0.pt 0) with pwr := { phase := 2 } })] } (fun u => decide ((u.pt 0).pwr.phase = 0)) = true := by decide +kernel
def PP : State := { CS CL with part := [(0, { (M0.pt 0) with pwr := { plans := [{ phase := 2, tick := 264 }, { phase := 1, tick := 265 }] } })] }
theorem wit_plan : (∃ y ∈ (PP.pt 0).pwr.plans, y.tick = 264) ∧ resolveTick PP.cad.count 264 ≤ PP.cad.count.toNat + 200 := by decide +kernel
theorem test_plan : yields (.phasePlanStep 0 264) PP (fun u => decide ((u.pt 0).pwr.plans = [{ phase := 1, tick := 265 }])) = true := by decide +kernel

theorem test_settings : yields (.hostWWrite 0 8000) M0 (fun u => decide (u.pwr.hostW = 8000) && decide (u.pwr.inForceW = 8000)) && still (.hostWWrite 0 7999) M0 && still (.hostWWrite 1 9000) M0 &&
  yields (.ceilingWrite 0 143 6) M0 (fun u => decide ((u.rg 143).pwr.ceiling = 6)) && still (.ceilingWrite 0 143 7) M0 && regAfter (.suspectClear 0 0 0xFFF0) { PG with pwr := { PG.pwr with suspect := 0x11 } } (fun g => decide (g.pwr.suspect = 1)) = true := by decide +kernel
def word (x : Byte) (n : Nat) : List Byte := [0, x, 0, 0] ++ leBytes 4 n
theorem test_budget : replies (.pwrBudgetSet (pm (word 0 32000))) M0 0 (fun u => decide (u.pwr.hostW = 32000)) && replies (.pwrBudgetSet (pm (1 :: word 0 8000))) M0 5 (fun u => decide (u.pwr = M0.pwr)) &&
  yields (.pwrBudgetSet { pm ([1, 0, 0, 0] ++ leBytes 4 8000) with sender := .peer }) M0 (fun u => decide (u.pwr.rackW = 8000) && decide (u.pwr.inForceW = 8000)) = true := by decide +kernel
theorem test_power_messages : replies (.pwrShareSet (pm (word 0 100))) M0 1 (fun u => decide ((u.pt 0).pwr = {})) && replies (.pwrShareSet (pm (word 0 100))) { M0 with part := [(0, { (M0.pt 0) with powerGuaranteed := true })] } 0 (fun u => decide ((u.pt 0).pwr.guaranteeW = 100)) &&
  replies (.pwrPhasePlan (pm ([0, 4] ++ List.replicate 6 0 ++ leBytes 8 77))) M0 0 (fun u => decide ((u.pt 0).pwr.plans = [{ phase := 4, tick := 77 }])) && replies (.pwrCeilingSet (pm [143, 6])) M0 0 (fun u => decide ((u.rg 143).pwr.ceiling = 6)) = true := by decide +kernel
def WO (d : Option PowerDown) : State := { M0 with mgt := { M0.mgt with waferOn := true }, pwr := { M0.pwr with down := d }, rgn := [(0, PG)], tiles := [(0, T1)], flash := [(9, 1)] }
theorem test_power_off : replies (.pwrOff (pm [])) (WO none) 0 (fun u => decide (u.pwr.down = some { fast := false, cause := 1, step := 1 }) && decide ((u.pt 0).state = .resetting)) && yields (.pwrOff (vm [])) (WO none) (fun u => decide (u.pwr.down = none)) = true := by decide +kernel

/-! ### Alerts and the power-down -/

def AL : Region := { PG with pwr := { PG.pwr with alertOn := true, alertLull := true } }
set_option maxRecDepth 100000 in
theorem test_alert : regAfter (.regulatorAlert 0 2) PG (fun g => g.pwr.alertOn && g.osc.lull && decide (g.osc.cls = 7) && decide (g.pwr.alertCause = 2)) && regAfter (.regulatorAlertDeassert 0) AL (fun g => !g.pwr.alertOn && g.pwr.alertLull) &&
  regAfter (.lullRelease 0) AL (fun g => g.pwr.alertLull) && regAfter (.lullRelease 0) { AL with pwr := { AL.pwr with alertOn := false } } (fun g => !g.pwr.alertLull) && regAfter (.alertHeldTimeout 0 0) AL (fun g => decide (g.state = .fenced) && decide (g.fenceCause = 8) && !g.pwr.rails.vlog) = true := by
  decide +kernel
theorem test_rails : regAfter (.railCollapse 0 0 0) PG (fun g => decide (g.state = .fenced) && g.pwr.collapsed) && regAfter (.linkGroupAlert 0 1) PG (fun g => !g.wellPowered && decide (g.state = .ready)) && still (.railCollapse 5 0 0) M0 = true := by decide +kernel
set_option maxRecDepth 100000 in
theorem test_thermal : regAfter (.thermalSample 0 [371, 300]) PG (fun g => decide (g.pwr.tempMax = 371) && !g.pwr.thermalLull) && regAfter (.thermalSample 0 [300, 372]) PG (fun g => g.pwr.thermalLull && decide (g.osc.cls = 7)) &&
  regAfter (.thermalLullRelease 0) { PG with pwr := { PG.pwr with thermalLull := true, tempMax := 352 } } (fun g => !g.pwr.thermalLull) && yields (.thermalTrip 0 [400]) (WO none) (fun u => decide (u.pwr.down = some { fast := true, cause := 4, step := 1 })) && still (.thermalTrip 0 [399]) (WO none) = true := by
  decide +kernel
set_option maxRecDepth 100000 in
theorem test_coolant : yields (.coolantSample 2500 0 4800) M0 (fun u => decide (u.pwr.coolantW = 32000)) && yields (.coolantSample 4600 0 4800) M0 (fun u => decide (u.pwr.coolantW = 8000)) && yields (.coolantLoss 5001 1200) (WO none) (fun u => decide (u.pwr.down = some { fast := true, cause := 5, step := 1 })) &&
  still (.coolantLoss 5000 1200) (WO none) && still .powerDownStep (WO none) = true := by decide +kernel
def stepDown (k : Nat) (p : State → Bool) : Bool := yields .powerDownStep (WO (some { fast := false, cause := 1, step := k })) p
theorem test_power_down : stepDown 1 (fun u => decide (u.pwr.down = some { fast := false, cause := 1, step := 2 })) && stepDown 2 (fun u => !(u.rg 0).pwr.rails.vlog && (u.rg 0).pwr.rails.vsram) && stepDown 3 (fun u => !(u.rg 0).pwr.rails.vsram) &&
  stepDown 5 (fun u => decide (u.phase = .powerOn) && decide (u.tiles = []) && decide (u.flash = [(9, 1)]) && decide ((u.rg 0).state = .off)) = true := by decide +kernel

end Sys2Proof.Tests
end

