-- ==== Sys2Proof/Tests/Scalar.lean ====
section
/-! SUPPORT. Tests of the scalar, address, predicate and control-flow instructions (06 T6.6-T6.9), witnesses of their statements. -/
namespace Sys2Proof.Tests
set_option Elab.async false
open Sys2Proof.Machine

/-! ### Table 6.6 -/

theorem wit_alu : S1.canIssue 0 [rs 1, rs 3] [rs 5] [] := canIssue_of (by decide +kernel)
theorem wit_alui : S1.canIssue 0 [rs 1] [rs 5] [] ∧ (63 : W32).toNat < 64 := ⟨canIssue_of (by decide +kernel), by decide⟩
theorem wit_li : S1.canIssue 0 [] [rs 5] [] := canIssue_of (by decide +kernel)
theorem wit_lih : S1.canIssue 0 [rs 3] [rs 3] [] := canIssue_of (by decide +kernel)

/-- The value a command leaves in s5 of tile 0, clean. -/
def s5 (i : Instr) (v : W64) : Bool := yields i S1 (fun u => decide (u = S1.scalarTo 0 5 v false))

theorem test_add : s5 (.add 0 5 1 2 false) 5 && s5 (.add 0 5 4 1 true) 11 = true := by decide +kernel
theorem test_add_poison : yields (.add 0 5 1 3 false) S1 (fun u => decide (u = S1.scalarTo 0 5 12 true)) = true := by decide +kernel
theorem test_sub : s5 (.sub 0 5 1 2 false) 9 && s5 (.sub 0 5 2 1 true) 0xFFFFFFFFFFFFFFF7 = true := by decide +kernel
theorem test_and : s5 (.and 0 5 1 2 false) 6 && s5 (.and 0 5 2 4 true) 4 = true := by decide +kernel
theorem test_or : s5 (.or 0 5 1 4 false) 0x100000007 && s5 (.or 0 5 1 4 true) 7 = true := by decide +kernel
theorem test_xor : s5 (.xor 0 5 1 4 false) 0x100000003 && s5 (.xor 0 5 2 1 true) 0xFFFFFFFFFFFFFFF9 = true := by decide +kernel
theorem test_shl : s5 (.shl 0 5 1 1 false) 896 && s5 (.shl 0 5 4 2 true) 0 = true := by decide +kernel
theorem test_shr : s5 (.shr 0 5 2 1 false) 0x1FFFFFFFFFFFFFF && s5 (.shr 0 5 2 1 true) 0x1FFFFFF = true := by decide +kernel
theorem test_sar : s5 (.sar 0 5 2 1 false) 0xFFFFFFFFFFFFFFFF && s5 (.sar 0 5 4 1 true) 0 = true := by decide +kernel
theorem test_min : s5 (.min 0 5 1 2 false) 0xFFFFFFFFFFFFFFFE && s5 (.max 0 5 1 2 true) 7 = true := by decide +kernel
theorem test_minu : s5 (.minu 0 5 1 2 false) 7 && s5 (.maxu 0 5 1 4 true) 7 = true := by decide +kernel
theorem test_max_unsigned : s5 (.max 0 5 1 2 false) 7 && s5 (.maxu 0 5 1 2 false) 0xFFFFFFFFFFFFFFFE = true := by decide +kernel
theorem test_compare : s5 (.seq 0 5 1 1 false) 1 && s5 (.slt 0 5 2 1 false) 1 && s5 (.sltu 0 5 2 1 false) 0 = true := by decide +kernel
theorem test_compare32 : s5 (.seq 0 5 1 4 true) 0 && s5 (.slt 0 5 1 4 true) 0 && s5 (.sltu 0 5 4 1 true) 1 = true := by decide +kernel
theorem test_mul : s5 (.mul 0 5 1 2 false) 0xFFFFFFFFFFFFFFF2 && s5 (.mul 0 5 4 4 true) 16 = true := by decide +kernel
theorem test_mulh : s5 (.mulh 0 5 1 2 false) 0xFFFFFFFFFFFFFFFF && s5 (.mulh 0 5 2 2 true) 0 = true := by decide +kernel
theorem test_mulhu : s5 (.mulhu 0 5 1 2 false) 6 && s5 (.mulhu 0 5 1 2 true) 6 = true := by decide +kernel
theorem test_alui_add : s5 (.aluiAdd 0 5 1 0xFFFFFFFF) 6 && s5 (.aluiSub 0 5 1 1) 6 = true := by decide +kernel
theorem test_alui_logic : s5 (.aluiAnd 0 5 1 0xFFFFFFFE) 6 && s5 (.aluiOr 0 5 1 8) 15 && s5 (.aluiXor 0 5 1 1) 6 = true := by decide +kernel
theorem test_alui_shift : s5 (.aluiShl 0 5 1 63) 0x8000000000000000 && s5 (.aluiShr 0 5 2 63) 1 && s5 (.aluiSar 0 5 2 63) 0xFFFFFFFFFFFFFFFF = true := by
  decide +kernel
theorem test_alui_minmax : s5 (.aluiMin 0 5 1 0xFFFFFFFF) 0xFFFFFFFFFFFFFFFF && s5 (.aluiMax 0 5 1 8) 8 && s5 (.aluiMinu 0 5 1 0xFFFFFFFF) 7 &&
  s5 (.aluiMaxu 0 5 1 8) 8 = true := by decide +kernel
theorem test_alui_compare : s5 (.aluiSeq 0 5 1 7) 1 && s5 (.aluiSlt 0 5 1 0xFFFFFFFF) 0 && s5 (.aluiSltu 0 5 1 0xFFFFFFFF) 1 = true := by decide +kernel
theorem test_li : s5 (.li 0 5 0x80000000) 0xFFFFFFFF80000000 && s5 (.liu 0 5 0x80000000) 0x80000000 = true := by decide +kernel
theorem test_lih : yields (.lih 0 3 9) S1 (fun u => decide (u = S1.scalarTo 0 3 0x900000005 true)) = true := by decide +kernel

/-! ### Tables 6.7 and 6.8 -/

theorem wit_aset : S1.canIssue 0 [] [ra 1] [] := canIssue_of (by decide +kernel)
theorem wit_aadd : S1.canIssue 0 [ra 1] [ra 2] [] := canIssue_of (by decide +kernel)
theorem wit_afroms : S1.canIssue 0 [rs 1] [ra 1] [] ∧ S1.sP 0 1 = false := ⟨canIssue_of (by decide +kernel), by decide +kernel⟩
theorem wit_atos : S1.canIssue 0 [ra 1] [rs 5] [] := canIssue_of (by decide +kernel)
theorem wit_awrap : S1.canIssue 0 [ra 2, ra 1, rs 1] [ra 2] [] ∧ S1.sP 0 1 = false := ⟨canIssue_of (by decide +kernel), by decide +kernel⟩
theorem wit_pand : S1.canIssue 0 [rp 1, rp 2] [rp 3] [] := canIssue_of (by decide +kernel)
theorem wit_pnot : S1.canIssue 0 [rp 1] [rp 3] [] := canIssue_of (by decide +kernel)
theorem wit_pfroms : S1.canIssue 0 [rs 3] [rp 3] [] := canIssue_of (by decide +kernel)
theorem wit_ptos : S1.canIssue 0 [rp 1] [rs 5] [] := canIssue_of (by decide +kernel)

def a3 (i : Instr) (v : W64) : Bool := yields i S1 (fun u => decide (u = S1.addrTo 0 3 v))
def p3 (i : Instr) (v : W64) (bad : Bool) : Bool := yields i S1 (fun u => decide (u = S1.predTo 0 3 v bad))

theorem test_address : a3 (.aset 0 3 0xFFFFFFFF) 0xFFFFFFFFFFFFFFFF && a3 (.aadd 0 3 1 0x10) 0x1010 && a3 (.afroms 0 3 1 1) 8 && s5 (.atos 0 5 1 4) 0x1004 = true := by
  decide +kernel
/-- a1 + (a2 − a1 + 2) mod 16, with size 16 and step 2 in s1. -/
theorem test_awrap : yields (.awrap 0 2 1 1) { S1 with tiles := [(0, { T1 with s := [(1, 0x200000010)], a := [(1, 0x1000), (2, 0x100F)] })] }
  (fun u => decide (u.aR 0 2 = 0x1001)) = true := by decide +kernel
theorem test_predicates : p3 (.pand 0 3 1 1) 0x21 false && p3 (.por 0 3 1 2) 0x21 false && p3 (.pxor 0 3 1 1) 0 false && p3 (.pandn 0 3 1 2) 0x21 false &&
  p3 (.pnot 0 3 1) 0xFFFFFFFFFFFFFFDE false && p3 (.pfroms 0 3 3) 5 true = true := by decide +kernel
theorem test_pfirst : p3 (.pfirst 0 3 1) 0x7F false && p3 (.pfirst 0 3 2) 0xFFFFFFFFFFFFFFFF false && s5 (.ptos 0 5 1) 0x21 = true := by decide +kernel

/-! ### Table 6.9, R198-R201 -/

theorem wit_br : S1.canIssue 0 [] [] [] ∧ S1.canIssue 0 [rs 1, rs 2] [] [] ∧ S1.scalarsClean 0 [1, 2] ∧ S1.canIssue 0 [rs 1] [] [] ∧ S1.scalarsClean 0 [1] ∧
    S1.canIssue 0 [rp 1] [] [] ∧ S1.pP 0 1 = false :=
  ⟨canIssue_of (by decide +kernel), canIssue_of (by decide +kernel), by decide +kernel, canIssue_of (by decide +kernel), by decide +kernel,
    canIssue_of (by decide +kernel), by decide +kernel⟩

def goes (i : Instr) (n : Nat) : Bool := yields i S1 (fun u => decide (u = S1.jumpTo 0 n))
def falls (i : Instr) : Bool := yields i S1 (fun u => decide (u = S1.onlyIssued 0))

theorem test_br : goes (.br 0 0 0 0 0) 10 && falls (.br 0 1 1 2 5) && goes (.br 0 2 1 2 5) 15 && falls (.br 0 3 1 2 5) && goes (.br 0 4 1 2 0xFFFFFFFF) 9 &&
  goes (.br 0 5 1 2 5) 15 && falls (.br 0 6 1 2 5) = true := by decide +kernel
theorem test_br_zero : falls (.br 0 7 1 0 5) && goes (.br 0 8 1 0 5) 15 && goes (.br 0 9 1 0 5) 15 && falls (.br 0 10 1 0 5) && goes (.br 0 11 2 0 5) 15 = true := by
  decide +kernel
theorem test_jal : yields (.jal 0 5 3) S1 (fun u => decide ((u.tile 0).index = 13) && decide (u.sR 0 5 = 11)) && goes (.jr 0 1) 7 = true := by decide +kernel

theorem test_crd : s5 (.crd 0 5 0) 0 && s5 (.crd 0 5 3) 0 && s5 (.crd 0 5 0x42) 0 && s5 (.crd 0 5 0x100) 0 && s5 (.trd 0 5 3) 0 && falls (.tileNop 0) = true := by
  decide +kernel
theorem test_cwr : yields (.cwr 0 2 3) S1 (fun u => decide ((u.tile 0).rmode = 0) && (u.tile 0).rsat) && yields (.cwr 0 1 4) S1 (fun u => decide ((u.tile 0).srseed = 7)) &&
  yields (.cwr 0 1 5) S1 (fun u => decide ((u.tile 0).srctr = 7)) && yields (.cwr 0 2 6) S1 (fun u => decide ((u.tile 0).fstat = 0x7E)) = true := by decide +kernel

/-- A tile with an entry in VQ, an SSIG to come, sync objects of a partition that owns its region. -/
def Q1 : QEntry := { id := 0, op := .tzero 1, tok := {}, index := 9, mode := 0, sat := false, seed := 0, ctr := 0, begun := true }
def T2 : TileSt := { T1 with tq := [Q1] }
def S2 : State := { State.reset with
  tiles := [(0, T2)], rgn := [(0, { Region.reset 0 with state := .ready, partition := some 0 })], part := [(0, { ({} : Partition) with state := .active, syncBase := 256, syncCount := 256 })] }

theorem wit_halt : S2.canIssue 0 [] [] [] ∧ ¬ S2.drains 0 0x1F ∧ S1.drains 0 0x1F ∧ S2.drains 0 0x1D ∧ S1.canIssue 0 [rs 1] [] [] ∧ S1.sP 0 1 = false := by
  refine ⟨canIssue_of (by decide +kernel), ?_, ?_, ?_, canIssue_of (by decide +kernel), by decide +kernel⟩ <;> simp only [State.drains] <;> decide +kernel

theorem test_halt : yields (.halt 0 false 0 9) S1 (fun u => decide ((u.tile 0).run = .halted) && decide ((u.tile 0).exitCode = 9)) &&
  yields (.halt 0 true 1 0) S2 (fun u => decide (u = S2.heldOn 0 (.halt 7))) = true := by decide +kernel
theorem test_qsync : yields (.qsync 0 0x1D) S2 (fun u => decide (u = S2.onlyIssued 0)) && yields (.qsync 0 2) S2 (fun u => decide (u = S2.heldOn 0 (.qsync 2))) = true := by
  decide +kernel
theorem test_twait : falls (.twait 0 false 3 0 0) && yields (.twait 0 true 3 1 0) S1 (fun u => decide (u = S1.heldOn 0 (.twait 3 7))) = true := by decide +kernel

theorem wit_swait : S2.canIssue 0 [rs 1, rs 4, rs 2] [rs 5] [] ∧ S2.scalarsClean 0 [1, 4, 2] ∧ (S2.sR 0 1).toNat % 2 ^ 15 < S2.tileSyncCount 0 ∧ (255 : Nat) < S2.tileSyncCount 0 :=
  ⟨canIssue_of (by decide +kernel), by decide +kernel, by decide +kernel, by decide +kernel⟩
theorem test_swait : yields (.swait 0 5 1 4 1 0) S2 (fun u => decide (u = S2.heldOn 0 (.swait 7 0 0x100000004 7 5))) &&
  yields (.swait 0 5 1 4 1 2) S2 (fun u => decide (u = S2.scalarTo 0 5 0 false)) && yields (.srd 0 5 1) S2 (fun u => decide (u = S2.heldOn 0 (.srd 7 5))) = true := by
  decide +kernel

theorem wit_stwait : S1.canIssue 0 [] [rs 5] [] ∧ ((S1.tile 0).eg 3).state = .idle ∧ ((S1.tile 0).tap 7).state = .idle :=
  ⟨canIssue_of (by decide +kernel), by decide +kernel, by decide +kernel⟩
/-- T1 with tap entries DONE (0), ABORTED with STATUS 9 (1), ARMED (2). -/
def S3 : State := { State.reset with tiles := [(0, { T1 with
  taps := [(0, { state := .done, gen := 5, seen := true, slot := true }), (1, { state := .aborted, status := 9, count := 3 }), (2, { state := .armed })] })] }
theorem test_stwait : s5 (.stwait 0 5 3 true) 0x100 && yields (.stwait 0 5 0 false) S3 (fun u => decide (u = S3.scalarTo 0 5 0 false)) &&
  yields (.stwait 0 5 1 false) S3 (fun u => decide (u = S3.scalarTo 0 5 9 false)) &&
  yields (.stwait 0 5 2 false) S3 (fun u => decide (u = S3.heldOn 0 (.stwait false 2 5))) = true := by decide +kernel
theorem test_stgen : yields (.stgen 0 5 0) S3 (fun u => decide (u = S3.scalarTo 0 5 0x100000005 false)) && s5 (.stgen 0 5 0) 0x8000000000000000 &&
  yields (.ststat 0 5 1 false) S3 (fun u => decide (u = S3.scalarTo 0 5 0x300000904 false)) = true := by decide +kernel

/-! ### How a hold ends -/

/-- Tile 0 of S3's module holds issue. -/
def holding (h : Hold) : State := { S3 with tiles := [(0, { (S3.tile 0) with hold := some h })], sync := [(7, 40)] }

theorem wit_holds : ((holding (.halt 3)).tile 0).hold = some (.halt 3) ∧ (holding (.halt 3)).drains 0 0x1F ∧ (holding (.qsync 31)).drains 0 31 ∧
    tokenMet (((holding (.twait 3 0)).tile 0).tokGet 3) 0 ∧ ¬ tokenMet (((holding (.twait 3 1)).tile 0).tokGet 3) 1 ∧
    (((holding (.stwait false 0 5)).tile 0).tap 0).state = .done ∧ (((holding (.stwait false 1 5)).tile 0).tap 1).state = .aborted := by
  refine ⟨by decide +kernel, ?_, ?_, by decide +kernel, by decide +kernel, by decide +kernel, by decide +kernel⟩ <;> simp only [State.drains] <;> decide +kernel
theorem wit_swait_met : ((holding (.swait 7 1 40 9 5)).tile 0).ssigs = [] ∧ compares 1 ((holding (.swait 7 1 40 9 5)).objOf 0 7) 40 ∧
    ¬ compares 2 ((holding (.swait 7 2 40 9 5)).objOf 0 7) 40 ∧ (9 : W32) ≠ 0 := by
  simp only [compares]; decide +kernel

theorem test_hold_none : still (.issueResume 0) S3 && still (.swaitTimeout 0) S3 = true := by decide +kernel
theorem test_resume : yields (.issueResume 0) (holding (.halt 3)) (fun u => decide ((u.tile 0).run = .halted) && decide ((u.tile 0).exitCode = 3)) &&
  yields (.issueResume 0) (holding (.qsync 31)) (fun u => decide (u = (holding (.qsync 31)).released 0)) &&
  yields (.issueResume 0) (holding (.twait 3 0)) (fun u => decide (u = (holding (.twait 3 0)).released 0)) &&
  yields (.issueResume 0) (holding (.srd 7 5)) (fun u => decide (u = (holding (.srd 7 5)).releasedTo 0 5 40)) = true := by decide +kernel
theorem test_resume_entry : yields (.issueResume 0) (holding (.stwait false 0 5)) (fun u => decide (u = (holding (.stwait false 0 5)).releasedTo 0 5 0)) &&
  yields (.issueResume 0) (holding (.stwait false 1 5)) (fun u => decide (u = (holding (.stwait false 1 5)).releasedTo 0 5 9)) &&
  yields (.issueResume 0) (holding (.twait 3 1)) (fun u => decide (u = (holding (.twait 3 1)).setT 0 (((holding (.twait 3 1)).tile 0).count 3 1))) = true := by decide +kernel
theorem test_swait_timeout : yields (.issueResume 0) (holding (.swait 7 1 40 9 5)) (fun u => decide (u = (holding (.swait 7 1 40 9 5)).releasedTo 0 5 0)) &&
  yields (.swaitTimeout 0) (holding (.swait 7 1 40 9 5)) (fun u => decide (u = (holding (.swait 7 1 40 9 5)).releasedTo 0 5 0)) &&
  yields (.swaitTimeout 0) (holding (.swait 7 2 40 9 5)) (fun u => decide (u = (holding (.swait 7 2 40 9 5)).releasedTo 0 5 1)) = true := by decide +kernel

/-! ### SSIG -/

theorem wit_ssig : S2.canIssue 0 [] [] [] ∧ (255 : BitVec 15).toNat < S2.tileSyncCount 0 ∧ S2.canIssue 0 [rs 1] [] [] ∧ S2.sP 0 1 = false ∧
    (S2.sR 0 1).toNat % 2 ^ 15 < S2.tileSyncCount 0 ∧ S2.canIssue 0 [rs 1, rs 4] [] [] ∧ S2.scalarsClean 0 [1, 4] :=
  ⟨canIssue_of (by decide +kernel), by decide +kernel, canIssue_of (by decide +kernel), by decide +kernel, by decide +kernel, canIssue_of (by decide +kernel), by decide +kernel⟩
/-- S2 with an SSIG whose earlier instructions are done. -/
def S4 (set : Bool) : State := { S2 with tiles := [(0, { T1 with ssigs := [{ obj := 255, set := set, value := 3, after := 0 }] })], sync := [(511, 4)] }
theorem wit_ssig_release : ((S4 true).tile 0).ssigs = [{ obj := 255, set := true, value := 3, after := 0 }] ∧ ∀ e ∈ ((S4 true).tile 0).entries, 0 ≤ e.id := by decide +kernel
theorem test_ssig : yields (.ssig 0 (.imm 255) .one) S2 (fun u => decide ((u.tile 0).ssigs = [{ obj := 255, set := false, value := 1, after := 0 }])) &&
  yields (.ssigSet 0 (.reg 1) (.reg 4)) S2 (fun u => decide ((u.tile 0).ssigs = [{ obj := 7, set := true, value := 0x100000004, after := 0 }])) = true := by decide +kernel
theorem test_ssig_release : yields (.ssigRelease 0) (S4 true) (fun u => decide (u.objOf 0 255 = 3)) && yields (.ssigRelease 0) (S4 false) (fun u => decide (u.objOf 0 255 = 7)) = true := by
  decide +kernel

end Sys2Proof.Tests
end

