-- ==== Sys2Proof/Tests/Streams.lean ====
section
/-! SUPPORT. Tests of the mover, stream and fabric commands (05, 06 T6.20-T6.24, 09), witnesses of their statements. -/
namespace Sys2Proof.Tests
set_option Elab.async false
open Sys2Proof.Machine

/-! ### Mover and entries -/

/-- a1 = 0x1000, a2 = tile (1, 0), a3: a TAP record, a4: an EGRESS record, a5: a CCFG record of zeros; s1 = 64, s2 = a pattern, s3 = 0. -/
def S8 : State := { State.reset with
  tiles := [(0, { T1 with
    s := [(1, 0x2000040), (2, 0x0807060504030201)], sPoison := 0, a := [(1, 0x1000), (2, 0x100002000), (3, 0x3000), (4, 0x3020), (5, 0x3100), (6, 0x1040)]
    taps := [(1, { state := .armed, fill := 2 }), (2, { state := .aborted })]
    egress := [(1, { state := .armed, first := 4, last := 5, ringSize := 512, next := 4 }), (2, { state := .attached, last := 9 })] })]
  rgn := [(0, { Region.reset 0 with state := .ready, partition := some 0 })], part := [(0, { ({} : Partition) with state := .active, w := 1, h := 1 })]
  sram := [(0x1000, 9), (0x103F, 5), (0x3000, 3), (0x3002, 15), (0x3004, 2), (0x3008, 7), (0x300C, 2), (0x3010, 1), (0x3016, 1), (0x3019, 2),
    (0x3020, 0xFF), (0x3021, 0x0F), (0x3023, 2), (0x3028, 7), (0x3032, 1), (0x3035, 1)] }

def mv : MoveArgs := { sl := 1, ad := 6, asr := 1, dk := 0 }
theorem wit_mover : (∀ op ∈ [QOp.mcopy mv, .mcopy { mv with ad := 2, dk := 1 }, .mfill { mv with asr := 0, sst := 2 }], S8.canQueue 0 op {}) ∧
    (S8.sR 0 1).toNat % 2 ^ 25 = 64 ∧ S8.sramOk 0 0x1000 64 64 false ∧ S8.sramOk 0 0x1040 64 64 true ∧ S8.inRect (S8.partOf 0) (1, 0) = true := by
  refine ⟨canQueue_all (by decide +kernel), ?_⟩; simp only [State.sramOk]; decide +kernel
theorem test_mcopy : yields (.mcopy 0 mv {}) S8 (fun u => decide (u.sramAt 0 0x1040 = 9) && decide (u.sramAt 0 0x107F = 5) && decide (u.sramAt 0 0x1000 = 9)) &&
  yields (.mcopy 0 { mv with ad := 2, dk := 1 } {}) S8 (fun u => decide (u.sram = S8.sram) && decide (u.pkts.map (fun p => (p.kind, p.places, p.len)) = [(1, [.sram 1 0x2000], 64)])) &&
  yields (.mfill 0 { mv with asr := 0, sst := 2 } {}) S8 (fun u => decide (u.sramAt 0 0x1040 = 1) && decide (u.sramAt 0 0x107F = 8)) = true := by decide +kernel

theorem wit_entries : ∀ op ∈ [QOp.ccfg 5, .tap 0 3, .tapx 1, .strel { e := 1, immf := true, imm := 2 }, .strel { e := 1, n := 3 }, .egress 3 4,
    .econtrib { e := 1, immf := true, imm := 2 }, .eskip { e := 2, immf := true, imm := 10 }], S8.canQueue 0 op {} := canQueue_all (by decide +kernel)
theorem wit_ccfg : S8.sramOk 0 0x3100 64 64 false ∧ ((S8.tile 0).compRecord (S8.sramBytes 0 0x3100 64)).isSome = true ∧ (∀ y ∈ S8.xfers, y.t ≠ 0) := by
  simp only [State.sramOk]; decide +kernel
theorem wit_tap : let b := S8.sramBytes 0 0x3000 32
    S8.sramOk 0 0x3000 32 32 false ∧ leAt b 0 2 < 4096 ∧ leAt b 2 1 < 16 ∧ leAt b 3 1 = 0 ∧ leAt b 4 4 ≤ leAt b 8 4 ∧ 1 ≤ leAt b 16 4 ∧ leAt b 16 4 ≤ leAt b 12 4 ∧
    leAt b 12 4 ≤ 65536 ∧ leAt b 20 4 = 0x10000 ∧ leAt b 24 4 = 512 ∧ (S8.tile 0).inProgram 0x10000 512 = false ∧ leAt b 28 4 = 0 ∧ ((S8.tile 0).tap 0).state ≠ .attached := by
  simp only [State.sramOk]; decide +kernel
theorem wit_egress : let b := S8.sramBytes 0 0x3020 32
    S8.sramOk 0 0x3020 32 32 false ∧ leAt b 0 2 = 4095 ∧ leAt b 2 1 < 16 ∧ leAt b 3 1 = 2 ∧ leAt b 4 4 ≤ leAt b 8 4 ∧ leAt b 12 4 = 0 ∧ leAt b 16 4 = 0x10000 ∧
    leAt b 20 4 = 256 ∧ leAt b 24 8 = 0 ∧ ((S8.tile 0).eg 3).state ≠ .attached ∧ (S8.tile 0).comp.egressOk 2 = true := by
  simp only [State.sramOk]; decide +kernel
theorem test_ccfg : yields (.ccfg 0 5 {}) S8 (fun u => decide ((u.tile 0).comp.mode = 0)) && yields (.tapx 0 1 {}) S8 (fun u => decide (((u.tile 0).tap 1).state = .idle)) &&
  yields (.tap 0 0 3 {}) S8 (fun u => decide ((u.tile 0).tap 0 = { state := .armed, stream := 3, token := 15, first := 2, last := 7, period := 2, take := 1, ringBase := 0x10000, ringSize := 512 })) = true := by
  decide +kernel
theorem test_strel : yields (.strel 0 { e := 1, immf := true, imm := 2 } {}) S8 (fun u => decide (((u.tile 0).tap 1).fill = 0)) &&
  yields (.egress 0 3 4 {}) S8 (fun u => decide (((u.tile 0).eg 3).stream = 4095) && decide (((u.tile 0).eg 3).state = .armed) && decide (((u.tile 0).eg 3).red = 2)) &&
  yields (.econtrib 0 { e := 1, immf := true, imm := 2 } {}) S8 (fun u => decide (((u.tile 0).eg 1).next = 6) && decide (((u.tile 0).eg 1).fill = 2)) &&
  yields (.eskip 0 { e := 2, immf := true, imm := 10 } {}) S8 (fun u => decide (((u.tile 0).eg 2).next = 10) && decide (((u.tile 0).eg 2).fill = 0)) = true := by decide +kernel

/-! ### Queues and faults -/

def E1 : QEntry := { id := 3, op := .tzero 2, tok := { ws := 1, wt := 2, we := true, dt := 4, de := true }, index := 9, mode := 0, sat := false, seed := 0, ctr := 0 }
/-- TQ holds E1; `b`: its token condition holds and it has begun. -/
def S9 (b : Bool) : State := { S8 with tiles := [(0, { (S8.tile 0) with tq := [{ E1 with begun := b, flags := 5 }], tok := [(2, 64), (4, 0xFFFF)], fstat := 2, s := [(1, if b then 64 else 65)] })] }
theorem wit_begin : ((S9 false).tile 0).tq.find? (fun z => !z.begun) = some { E1 with flags := 5 } ∧ ¬ tokenMet (((S9 false).tile 0).tokGet 2) 65 ∧ tokenMet (((S9 false).tile 0).tokGet 2) 64 ∧
    ((S9 false).tile 0).abortedToken 2 = none ∧ ((((S9 true).tile 0).queue .tq).filter (fun z => z.begun))[0]? = some { E1 with begun := true, flags := 5 } := by decide +kernel
theorem test_begin : yields (.queueBegin 0 .tq) (S9 false) (fun u => decide ((u.tile 0).tq = [{ E1 with flags := 5, waitV := some 65 }])) = true := by decide +kernel
theorem test_complete : yields (.instructionComplete 0 .tq 0) (S9 true) (fun u => decide ((u.tile 0).tq = []) && decide ((u.tile 0).fstat = 7) && decide ((u.tile 0).tokGet 4 = 0)) = true := by
  decide +kernel
theorem wit_illegal : (S8.tile 0).run = .running ∧ (S8.tile 0).hold = none ∧ legalWord 0xFFFFFFFFFFFFFFFF = false ∧ (S8.rg (tileRegion 0)).state = .ready := by decide +kernel
theorem test_illegal : yields (.illegalInstruction 0 0xFFFFFFFFFFFFFFFF) S8 (fun u => decide ((u.tile 0).run = .halted)) &&
  yields (.eccScrub 0 8 .double) S8 (fun u => decide (u.gst 0 0 = .poisoned) && decide (u.sram = S8.sram)) && still (.eccScrub 0 8 .none) S8 &&
  yields (.eccScrub 0 8 .single) S8 (fun u => decide ((u.rg 0).flt.sramCe = 1)) = true := by decide +kernel
theorem test_parity : yields (.tileParityError 0 (.scalar 31)) S8 (fun u => decide ((u.tile 0).sPoison = 0x80000000)) && yields (.tileParityError 0 (.vector 2)) S8 (fun u => decide ((u.tile 0).vBad 2 = 0xFFFFFFFFFFFFFFFF)) &&
  yields (.tileParityError 0 .scoreboard) S8 (fun u => decide ((u.tile 0).run = .halted)) && yields (.tileParityError 0 (.bank 3)) S8 (fun u => decide ((u.tile 0).accPoison = 8)) = true := by decide +kernel

/-! ### Streams -/

/-- Instance 5 of stream 3 over tile 0; `k` its progress there, `gr` gradient. -/
def I5 (gr : Bool) (k : Nat) : Inst := {
  id := 5, part := 0, op := 1, stream := 3, gradient := gr, slot := true, gen := 9, granules := 2, seg := { kind := 0, src := 0, pin := false, share := false, well := 0, svcRow := 0, ec := 1, ty0 := 0, ty1 := 0, granules := 2, addr := 0, wport := 0, red := 1, server := 0, keyId := 0, destId := 0 }, base := 0, well := 0, ec := if gr then 1 else 0, row0 := 0, x0 := 0, x1 := 0, prog := [(0, k), (1, 5)], units := [(0, { data := List.replicate 256 7, st := .poisoned })] }
/-- Tap entry 2 and egress entry 1 of tile 0 in a state. -/
def S10 (x : Inst) (e : EntryState) (fill : Nat) : State := { S8 with
  insts := [x], tiles := [(0, { T1 with
    taps := [(2, { state := e, stream := 3, inst := 5, last := 1, ringBase := 0x10000, ringSize := 512, token := 1, tail := 1, fill := fill })]
    egress := [(1, { state := e, stream := 3, red := 1, inst := 5, last := 1, next := 2, ringBase := 0x1000, runs := [{ first := 0, count := 2, skip := false }], fill := 2, token := 2 })] })] }
theorem wit_open : (S10 (I5 false 0) .armed 0).findInst 5 = some (I5 false 0) ∧ (I5 false 0).has 0 = true ∧ (I5 false 0).progOf 0 = 0 ∧ (I5 false 0).reached 0 1 = true ∧ (I5 true 0).reached 0 1 = true ∧
    (∀ p ∈ ((S10 (I5 true 0) .armed 0).tile 0).egress, p.2.state = .armed → p.2.stream.toNat = (I5 true 0).stream → p.2.red = (I5 true 0).seg.red) := by decide +kernel
theorem test_open : yields (.streamOpenArrive 0 5) (S10 (I5 false 0) .armed 0) (fun u => decide (((u.tile 0).tap 2).state = .attached) && decide (((u.tile 0).tap 2).gen = 9)) &&
  yields (.gradOpenArrive 0 5) (S10 (I5 true 0) .armed 0) (fun u => decide (((u.tile 0).eg 1).state = .attached)) = true := by decide +kernel
theorem wit_granule : let x := I5 false 1
    x.progOf 0 = 0 + 1 ∧ x.reached 0 2 = true ∧ ({ x with sent := 1 } : Inst).sent ≠ 0 ∧ (tfind x.units 0).isSome = true ∧
    (((S10 x .attached 1).tile 0).tap 2).takes 5 0 = true := by decide +kernel
theorem test_granule : yields (.streamGranuleArrive 0 5 .clean) (S10 { (I5 false 1) with sent := 1 } .attached 1) (fun u => decide (u.sramBytes 0 0x10100 256 = List.replicate 256 7) && decide (u.gst 0 0x101 = .poisoned) &&
  decide (((u.tile 0).tap 2).fill = 2) && decide ((u.tile 0).tokGet 1 = 1)) = true := by decide +kernel
theorem test_granule_full : yields (.streamGranuleArrive 0 5 .clean) (S10 { (I5 false 1) with sent := 1 } .attached 2) (fun u => decide (u.sram = S8.sram) && decide (((u.tile 0).tap 2).fill = 2)) = true := by decide +kernel
theorem wit_end : let x := { (I5 false 3) with sent := 2, ended := some (0, 0) }
    x.drainedAt 0 = true ∧ x.endReached 0 = true ∧ ((S10 x .attached 0).tile 0).entries = [] := by decide +kernel
theorem test_end : yields (.streamCloseArrive 0 5) (S10 { (I5 false 3) with sent := 2, ended := some (0, 0) } .attached 0) (fun u => decide (((u.tile 0).tap 2).state = .done)) &&
  yields (.streamAbortArrive 0 5) (S10 { (I5 false 3) with sent := 2, ended := some (8, 0) } .attached 0) (fun u => decide (((u.tile 0).tap 2).state = .aborted) && decide (((u.tile 0).tap 2).status = 8)) = true := by
  decide +kernel
theorem wit_gradient : let x := I5 true 2
    x.progOf 0 = 1 + 1 ∧ tileX 0 < x.ec ∧ tileX 0 ≤ x.x0 ∧ ((((S10 x .attached 0).tile 0).eg 1).runOf 1).isSome = true ∧ x.failed = none ∧ ((S10 x .attached 0).tile 0).gone = [] := by decide +kernel
theorem test_gradient : yields (.gradientGranuleArrive 0 5 .clean) (S10 (I5 true 2) .attached 0) (fun u => decide (((u.tile 0).eg 1).state = .done) && decide ((u.tile 0).tokGet 2 = 1) &&
  decide ((u.findInst 5).any (fun y => (y.outOf 0 1).isSome && decide (y.progOf 0 = 3)))) = true := by decide +kernel

end Sys2Proof.Tests
end

