-- ==== Sys2Proof/Tests/Tensor.lean ====
section
/-! SUPPORT. Tests of loads and stores, the tensor and the hash instructions (06 T6.14-T6.19, 08), witnesses of their statements. -/
namespace Sys2Proof.Tests
set_option Elab.async false
open Sys2Proof.Machine

/-- E4M3 1.0 and 2.0 at 0x40000, 3.0 at 0x40040; at 0x48000 a sparse operand of K = 1 whose group 0 holds 1.0; at 0x60000 a
drain record: flags 3, destination 0x70000, capacity 8, result 0x71000. s6 = 1, s7 = FP32 1.0, s8 = 0. -/
def S6 : State := { State.reset with
  tiles := [(0, { T1 with
    s := [(1, 7), (6, 1), (7, 0x3F800000)], p := [(0, 0xFFFFFFFFFFFFFFFF), (1, 1), (2, 0x21)]
    a := [(1, 0xBFFF8), (2, 0xBFF00), (3, 0x40000), (4, 0x40040), (5, 0x50000), (6, 0x48000), (7, 0x60000), (8, 0x58000)]
    v := [(1, 0x3800000009), (2, 0x4040000040400000)]
    hash := { sets := [(hashSet 9, [{ key := 9, value := 0x3F800000, poison := false }])], dropped := 6 } })]
  sram := [(0x40000, 0x38), (0x40001, 0x40), (0x40040, 0x44), (0x48000, 0x4B), (0x48001, 0x50), (0x48002, 0x53), (0x48003, 0x50),
    (0x48008, 1), (0x4800C, 0x40), (0x4800D, 4), (0x48010, 64), (0x48014, 64), (0x48018, 64), (0x4801C, 64),
    (0x48040, 1), (0x48048, 1), (0x48050, 0x38), (0x60001, 3), (0x6000A, 7), (0x60010, 8), (0x60015, 0x10), (0x60016, 7), (0xBFFFF, 0x80)] }

/-! ### Loads and stores -/

def m1 : MemArgs := { d := 5, a := 1, size := 3 }
theorem wit_access : (∀ op ∈ [QOp.ld m1, .st m1, .vld { m1 with a := 2, size := 2 }, .vst { m1 with a := 3, size := 2, postinc := true, off := 1 }], S6.canQueue 0 op {}) := by
  apply canQueue_all; decide +kernel
theorem wit_access_place : S6.sramOk 0 (S6.accessAddr 0 m1) 8 8 false ∧ S6.sramOk 0 (S6.accessAddr 0 { m1 with a := 2, size := 2 }) 256 64 false ∧
    S6.sramOk 0 (S6.accessAddr 0 { m1 with a := 3, size := 2, postinc := true, off := 1 }) 256 64 true ∧ S6.sramOk 0 (S6.accessAddr 0 { m1 with a := 3 }) 8 8 true := by
  simp only [State.sramOk]; decide +kernel
theorem test_ld : yields (.ld 0 m1 {}) S6 (fun u => decide (u.sR 0 5 = 0x8000000000000000)) &&
  yields (.ld 0 { m1 with size := 0, sext := true, off := 7, postinc := false } {}) S6 (fun u => decide (u.sR 0 5 = 0xFFFFFFFFFFFFFF80)) &&
  yields (.ld 0 { m1 with a := 3, size := 1, postinc := true, off := 1 } {}) S6 (fun u => decide (u.sR 0 5 = 0x4038) && decide (u.aR 0 3 = 0x40001)) = true := by decide +kernel
theorem test_st : yields (.st 0 { m1 with d := 1, a := 3, size := 1 } {}) S6 (fun u => decide (u.sramAt 0 0x40000 = 7) && decide (u.sramAt 0 0x40001 = 0) && decide (u.sramAt 0 0x40040 = 0x44)) &&
  yields (.vld 0 { m1 with a := 2, size := 2 } {}) S6 (fun u => decide (((u.tile 0).vGet 5).toNat = 0x80 * 2 ^ 2040)) &&
  yields (.vst 0 { m1 with d := 1, a := 3, size := 0, part := 0 } {}) S6 (fun u => decide (u.sramAt 0 0x40000 = 9) && decide (u.sramAt 0 0x40004 = 0x38) && decide (u.sramAt 0 0x40040 = 0x44)) = true := by
  decide +kernel

/-! ### Tensor -/

def mm : MmArgs := { k := 6, aa := 3, ab := 4, fmt := 0, acc := 0, zero := false }
def sm : MmArgs := { mm with aa := 6 }
def dr : DrainArgs := { s := 7, ad := 5, mask := 1, ofmt := 2 }
theorem wit_tensor : ∀ op ∈ [QOp.tmma mm, .tzero 0xF, .twadd 8 3, .smma sm, .smma { sm with k := 8 }, .smma { sm with fmt := 1 }, .tdrain dr, .tdrain { dr with mask := 0xF, ofmt := 5 }],
    S6.canQueue 0 op {} := by apply canQueue_all; decide +kernel
def S6z : State := { S6 with tiles := [(0, { (S6.tile 0) with accPoison := 3, acc := [(5, { cls := 3 }), (1030, { cls := 3 })] })] }
theorem test_tzero : yields (.tzero 0 {} 1) S6z (fun u => decide ((u.tile 0).accPoison = 2) && decide ((u.tile 0).accGet 0 0 5 = {}) && decide ((u.tile 0).accGet 1 0 6 = { cls := 3 })) && yields (.tzero 0 {} 0) S6z (fun u => decide ((u.tile 0).run = .halted) && decide ((u.tile 0).accPoison = 3)) = true := by decide +kernel
theorem wit_tzero : (S6z.tile 0).run = .running ∧ (S6z.tile 0).hold = none ∧ (S6z.tile 0).index < (S6z.tile 0).progCount := by decide +kernel
theorem wit_operands : operandsOk ((S6.tile 0).mmRegions mm) 32 ∧ S6.sramOk 0 0x58000 16384 32 false ∧ S6.sramOk 0 0x50000 4096 64 true ∧ S6.sramOk 0 0x50000 (4 * 16384) 64 true := by
  simp only [operandsOk, State.sramOk]; decide +kernel
theorem wit_sparse : let h := CHead.parse (S6.sramBytes 0 0x48000 64)
    operandsOk [(0x48000, 64), (0x40040, 32)] 32 ∧ h.length = 1088 ∧ h.ok 0 1 = true ∧ h.ok 1 1 = false ∧ (S6.parseOperand 0 h 0x48000).2 = false := by
  simp only [operandsOk]; decide +kernel

/-- One accumulator takes 1.0 · 3.0 and -2.0 · 3.0 of E4M3 and drains as FP32 and INT32; an infinity times 0 is NaN (07 R238-R243). -/
theorem test_accumulate : let c := ({} : Acc).plus [product (elemVal 0 0x38) (elemVal 0 0x44) (some 0), product (elemVal 0 0xC0) (elemVal 0 0x44) (some 0)]
    c.value.toInt = -3 * 2 ^ 52 ∧ (drainCode 2 0 false 0 c (.ofWord 0x3F800000)).1 = 0xC0400000 ∧ (drainCode 6 0 false 0 c (.ofWord 0x3F800000)).1 = 0xFFFFFFFD ∧
    (({} : Acc).plus [product (elemVal 1 0x7C) (elemVal 1 0) (some 0)]).cls = 3 ∧ ((c.addPartial 5).1.value.toInt = -3 * 2 ^ 52 + 5) := by decide +kernel

/-! ### Hash -/

def hv : VArgs := { vd := 0, va := 1, vb := 2 }
theorem wit_hash : ∀ op ∈ [QOp.hacc { hv with pg := 1 }, .hget { hv with vd := 3, vb := 0, vc := 4 }, .hcfg 8, .hdrain 7, .hclr], S6.canQueue 0 op {} := by
  apply canQueue_all; decide +kernel
theorem wit_hacc : (∀ j, j < 64 → ((S6.pR 0 1).getLsbD j = true ↔ j = 0)) ∧ (((S6.tile 0).hash.ways (hashSet 9)).find? (fun w => w.key == 9)).isSome = true ∧
    ((S6.tile 0).hash.ways (hashSet 8)).find? (fun w => w.key == 8) = none ∧ ((S6.tile 0).hash.ways (hashSet 8)).length < 4 := by decide +kernel
theorem wit_hash_records : S6.sramOk 0 0x58000 64 64 false ∧ S6.spillRecordOk 0 (S6.sramBytes 0 0x58000 64) = true ∧ S6.sramOk 0 0x60000 64 64 false ∧
    S6.drainRecordOk 0 (S6.sramBytes 0 0x60000 64) = true ∧ leAt (S6.sramBytes 0 0x60000 64) 0 1 = 0 ∧ (S6.tile 0).inProgram 0x70000 64 = false := by
  simp only [State.sramOk]; decide +kernel
theorem wit_hdrain_empty : ({ S6 with tiles := [(0, { (S6.tile 0) with hash := {} })] }).canQueue 0 (.hdrain 7) {} := canQueue_one (by decide +kernel)
theorem test_hacc : yields (.hacc 0 { hv with pg := 1 } {}) S6 (fun u => decide ((u.tile 0).hash.ways (hashSet 9) = [{ key := 9, value := 0x40800000, poison := false }])) &&
  yields (.hget 0 { hv with vd := 3, vb := 0, vc := 4 } {}) S6 (fun u => decide (u.vR 0 3 0 = 0x3F800000) && decide (u.vR 0 3 1 = 0) && decide ((u.tile 0).pGet 4 = 1)) = true := by
  decide +kernel
theorem test_hclr : yields (.hclr 0 {}) S6 (fun u => decide ((u.tile 0).hash = {})) = true := by decide +kernel
theorem test_hcfg : yields (.hcfg 0 {} 8) S6 (fun u => decide ((u.tile 0).hash.dropped = 0)) = true := by decide +kernel

end Sys2Proof.Tests
end

