-- ==== Sys2Proof/Tests/Tiers.lean ====
section
/-! SUPPORT. Tests of copies, the memory tiers and their messages (10), witnesses of their statements. -/
namespace Sys2Proof.Tests
set_option Elab.async false
open Sys2Proof.Machine

/-! ### Operations -/

/-- Partition 0 with its pages and objects; operation 0 started with the descriptor; 9 and 5 at the ends of 64 bytes at 0x1000 of tile 0. -/
def TS (d : Nat) (pages : List (Nat × Pte)) (objs : List (Nat × MemObj)) : State := { M0 with
  part := [(0, { (M0.pt 0) with mem := { pages := pages, objs := objs, quotaT2 := 1 } })], sram := [(0x1000, 9), (0x103F, 5)]
  ops := [{ id := 0, part := 0, ring := 0, slot := 0, desc := BitVec.ofNat 512 d, ext := [], cq := 1, st := .started, status := 0, detail := 0, doneTick := 0, ended := 0, noSignal := false, timely := false }] }
/-- COPY of 64 bytes between places of kinds `a` and `b`. -/
def copyD (len a b src dst : Nat) : Nat := 0x20 + src * 2 ^ 128 + dst * 2 ^ 192 + len * 2 ^ 256 + a * 2 ^ 320 + b * 2 ^ 328
/-- An operation on one page from address `v` with byte 28. -/
def tierD (op v f : Nat) : Nat := op + v * 2 ^ 128 + 2 ^ 192 + f * 2 ^ 224
def O2 (done : Bool) : MemObj := { tier := 2, pages := 1, server := 0, loc := 0, t2Bytes := 65536, sealed' := done, block := 3, blocks := 1 }
def O3 : MemObj := { tier := 3, pages := 4, server := 1, loc := 0, t2Bytes := 0, sealed' := true, block := 0, blocks := 0 }
def opOf0 (s : State) : Op := s.ops.getD 0 { id := 9, part := 0, ring := 0, slot := 0, desc := 0, ext := [], cq := 1, st := .ended, status := 0, detail := 0, doneTick := 0, ended := 0, noSignal := false, timely := false }
theorem wit_copy : (TS (copyD 64 2 2 0x1000 0x100002000) [] []).findOp 0 = some (opOf0 (TS (copyD 64 2 2 0x1000 0x100002000) [] [])) ∧ (TS (copyD 64 2 2 0x1000 0x100002000) [] []).copyCheck (opOf0 (TS (copyD 64 2 2 0x1000 0x100002000) [] [])) = none ∧
    (TS (copyD 64 2 2 0x1000 0xBFFD0) [] []).copyCheck (opOf0 (TS (copyD 64 2 2 0x1000 0xBFFD0) [] [])) ≠ none ∧ (TS (copyD 64 0 4 0 0x40000000000) [] [(4, O2 false)]).copyCheck (opOf0 (TS (copyD 64 0 4 0 0x40000000000) [] [(4, O2 false)])) = none ∧
    M0.canWrite (.vf 0) = true := by decide +kernel
def ends (u : State) (st : Byte) (d : W32) : Bool := decide (u.ops.map (fun o => (o.st, o.status, o.detail)) = [(.ended, st, d)])
theorem test_copy : yields (.copy 0 []) (TS (copyD 64 2 2 0x1000 0x100002000) [] []) (fun u => ends u 0 0 && decide (u.sramAt 1 0x2000 = 9) && decide (u.sramAt 1 0x203F = 5)) &&
  yields (.copy 0 []) (TS (copyD 0 2 2 0x1000 0x100002000) [] []) (fun u => ends u 0 0 && decide (u.sram = M0.sram ++ [(0x1000, 9), (0x103F, 5)])) = true := by decide +kernel
theorem test_copy_host : yields (.copy 0 (List.replicate 64 3)) (TS (copyD 64 0 2 0 0x1000) [] []) (fun u => ends u 0 0 && decide (u.sramBytes 0 0x1000 64 = List.replicate 64 3)) && yields (.copy 0 [1]) (TS (copyD 64 0 2 0 0x1000) [] []) (fun u => decide (u.opProg = [(0, {})])) &&
  yields (.copy 0 []) (TS (copyD 64 2 0 0x1000 0x777000) [] []) (fun u => ends u 0 0 && decide (u.out = [.hostWrite (.vf 0) 0x777000 ((TS 0 [] []).sramBytes 0 0x1000 64)])) &&
  yields (.copy 0 (List.replicate 64 3)) (TS (copyD 64 0 4 0 0x40000000000) [] [(4, O2 false)]) (fun u => ends u 0 0 && decide (u.flash.readN (3 * 65536) 64 = List.replicate 64 3)) = true := by decide +kernel

def PO : Pte := { back := 3, ref := 4, ppa := some 0x20000, chunks := 0xFFFFFFFF }
def PA : Pte := { ppa := some 0x20000 }
theorem wit_tier : (TS 0 [(5, PO)] [(4, O3)]).homeOf 0 5 = .obj PO ∧ (TS 0 [(5, PA)] []).homeOf 0 5 = .anon PA ∧ (TS 0 [] []).mapped 0 5 = false ∧ (TS 0 [(5, PO)] []).pageBusy 0 5 = false ∧ PO.chunks = BitVec.allOnes 32 := by decide +kernel
theorem test_prefetch : yields (.tierPrefetch 0) (TS (tierD 0x21 (5 * 2 ^ 21) 1) [(5, PO)] [(4, O3)]) (fun u => ends u 0 0 && decide (u.pte 0 5 = some { PO with pin := true })) && yields (.tierPrefetch 0) (TS (tierD 0x21 (5 * 2 ^ 21) 0) [] []) (fun u => ends u 2 0) = true := by decide +kernel
theorem test_release : yields (.tierRelease 0) (TS (tierD 0x22 (5 * 2 ^ 21) 1) [(5, { PO with pin := true })] [(4, O3)]) (fun u => ends u 0 0 && decide (u.pte 0 5 = some PO)) &&
  yields (.tierRelease 0) (TS (tierD 0x22 (5 * 2 ^ 21) 0) [(5, PA)] []) (fun u => ends u 0 0 && decide (u.pte 0 5 = some PA)) = true := by decide +kernel

/-! ### Page tables and objects -/

def S0 (pages : List (Nat × Pte)) (objs : List (Nat × MemObj)) : State := { TS 0 pages objs with ops := [] }
theorem wit_split : (S0 [(5, PA)] []).allocatedPpas 0 = [0x20000] ∧ [0x20000].any (withdrawn 32 384) = true ∧ [0x20000].any (withdrawn 33 384) = false := by decide +kernel
theorem test_split : yields (.privateSlotsWrite 0 0 32) (S0 [] []) (fun u => decide ((u.pt 0).mem.privateSlots = 32)) && yields (.privateSlotsWrite 0 0 384) (S0 [(5, PA)] []) (fun u => (u.pt 0).mem.refused && decide ((u.pt 0).mem.privateSlots = 32)) &&
  yields (.privateSlotsWrite 0 0 384) (S0 [] []) (fun u => decide ((u.pt 0).mem.privateSlots = 384)) && still (.privateSlotsWrite 0 0 385) (S0 [] []) && still (.privateSlotsWrite 1 0 33) (S0 [] []) && still (.quotaWrite 0 5 true 1) (S0 [] []) &&
  yields (.quotaWrite 0 0 true 0x7FFFFF) (S0 [] []) (fun u => decide ((u.pt 0).mem.quotaT3 = 0x7FFFFF)) && yields (.quotaWrite 0 0 false 0x2000005) (S0 [] []) (fun u => decide ((u.pt 0).mem.quotaT1 = 5) && decide ((u.pt 0).mem.quotaT2 = 2)) = true := by decide +kernel

def mapM (base count h first : Nat) : Msg := vm (List.replicate 8 0 ++ leBytes 8 base ++ leBytes 4 count ++ leBytes 2 h ++ [0, 0] ++ leBytes 4 first)
theorem wit_map : (S0 [] []).canHandle .sch 0x0A01 ∧ ((S0 [(5, PA)] []).pt 0).mem.pagesMeet (2 ^ 27 - 2) 2 = false ∧ (S0 [] []).grantOverlaps 0 (2 ^ 27 - 2) 2 = false ∧ ((S0 [] []).pt 0).mirror.reserves (2 ^ 27 - 2) 2 = false ∧
    ((S0 [(5, PA)] []).pt 0).mem.pagesMeet 4 2 = true ∧ (mapM 4 2 0xFFFF 0).part = some 0 := ⟨canHandle_of (by decide +kernel), by decide +kernel⟩
theorem test_map : yields (.memMap (mapM (2 ^ 27 - 2) 2 0xFFFF 0)) (S0 [] []) (fun u => decide (((u.pt 0).mem.pages).map (fun e => (e.1, e.2.back)) = [(2 ^ 27 - 2, 0), (2 ^ 27 - 1, 0)])) &&
  yields (.memMap (mapM 6 2 4 2)) (S0 [] [(4, O3)]) (fun u => decide (u.pte 0 7 = some { back := 3, ref := 4, opage := 3 })) && yields (.memMap (mapM 4 2 0xFFFF 0)) (S0 [(5, PA)] []) (fun u => decide ((u.pt 0).mem.pages = [(5, PA)])) &&
  yields (.memUnmap (mapM 5 1 0 0)) (S0 [(5, { PA with ppa := none }), (6, PA)] []) (fun u => decide ((u.pt 0).mem.pages = [(6, PA)])) = true := by decide +kernel
def objM (h tier pages bytes : Nat) : Msg := vm ([0, 0] ++ leBytes 2 h ++ List.replicate 4 0 ++ [BitVec.ofNat 8 tier, 0, 0, 0] ++ leBytes 4 pages ++ List.replicate 16 0 ++ leBytes 8 bytes)
def descOf (m : Msg) : List Byte := (List.range 32).map (fun i => byteAt m.payload (8 + i))
theorem wit_object : (S0 [] []).objDescOk (descOf (objM 9 3 4 0)) = true ∧ (S0 [] []).objDescOk (descOf (objM 9 2 4 65536)) = true ∧ (S0 [] []).objDescOk (descOf (objM 9 2 4 1023)) = false ∧ (S0 [] []).t2Run 1 = some 0 ∧ (S0 [] [(4, O2 false)]).t2Run 1 = some 0 ∧
    ((S0 [] []).pt 0).mem.useT2 + (65536 + 65535) / 65536 ≤ ((S0 [] []).pt 0).mem.quotaT2 ∧ (S0 [] [(4, O2 false)]).filling 0 4 = false ∧ ((S0 [(5, PO)] [(4, O3)]).pt 0).mem.refers 4 = true := by decide +kernel
theorem test_object : yields (.memObjCreate (objM 4095 3 4 0)) (S0 [] []) (fun u => decide (tfind (u.pt 0).mem.objs 4095 = some { O3 with server := 0 })) && yields (.memObjCreate (objM 9 2 4 65536)) (S0 [] []) (fun u => decide ((tfind (u.pt 0).mem.objs 9).map (fun o => (o.sealed', o.block, o.blocks)) = some (false, 0, 1))) &&
  yields (.memObjCreate (objM 4096 3 4 0)) (S0 [] []) (fun u => decide ((u.pt 0).mem.objs = [])) && yields (.memObjSeal (objM 4 0 0 0)) (S0 [] [(4, O2 false)]) (fun u => decide ((u.pt 0).mem.objs = [(4, O2 true)])) &&
  yields (.memObjDestroy (objM 4 0 0 0)) (S0 [(5, PO)] [(4, O3)]) (fun u => decide ((u.pt 0).mem.objs = [(4, O3)])) && yields (.memObjDestroy (objM 4 0 0 0)) (S0 [] [(4, O3)]) (fun u => decide ((u.pt 0).mem.objs = [])) = true := by decide +kernel
def backM (i : Byte) : Msg := pm ([i, 0, 0, 0, 0, 0, 0, 0, 3, 0, 0, 0] ++ leBytes 4 4)
def SB (h : Option Nat) : State := { S0 [] [] with sec := { M0.sec with shared := [(63, { key := 0xF000, home := h, pages := 4 })] } }
theorem test_shared_back : replies (.memSharedBack (backM 63)) (SB none) 0 (fun u => decide (u.backing = [(63, { O3 with server := 0 })])) && replies (.memSharedBack (backM 63)) (SB (some 0)) 1 (fun u => decide (u.backing = [])) = true := by decide +kernel
theorem wit_evacuate : ppaRegion 0x20000 = 0 ∧ (0 : Nat) ∈ rectRegions 0 0 1 1 ∧ (0 : Nat) ∉ rectRegions 1 0 1 1 ∧ (S0 [(5, PA)] []).homePages 0 = [] ∧ (S0 [(5, PA)] []).placePage 0 none [0] = none := by decide +kernel
theorem wit_evacuate_to : ({ S0 [(5, PA)] [] with part := [(0, { ((S0 [(5, PA)] []).pt 0) with w := 2 })] }).placePage 0 none [0] = some (mkPpa 1 0 32) := by decide +kernel
theorem test_evacuate : replies (.memEvacuate (pm [0, 1, 0, 1, 1])) (S0 [(5, PA)] []) 0 (fun u => decide (u.pte 0 5 = some PA)) && replies (.memEvacuate (pm [0, 0, 0, 1, 1])) (S0 [(5, PA)] []) 6 (fun u => decide (u.pte 0 5 = some PA)) = true := by decide +kernel

end Sys2Proof.Tests
end

