-- ==== Sys2Proof/Tests/Torus.lean ====
section
/-! SUPPORT. Tests of the torus router (13), witnesses of its statements. -/
namespace Sys2Proof.Tests
set_option Elab.async false
open Sys2Proof.Machine

/-! ### Packets -/

/-- A packet of a group message with key 5, generation 3, from module 3 to `dst`. -/
def tp (dst hops : Nat) : TorPkt := { dst := dst, src := 3, key := 5, gen := 3, ch := 4, mcast := false, group := 0, sel := 0, hops := hops, head := 5 :: List.replicate 63 0, data := [] }
def inMsg (p : TorPkt) : InMsg := { ch := p.ch, msg := { flits := p.toFlits } }
/-- Module 0 of a ring of four; T-ports 0 (+) and 2 (−) are up with their neighbours; key 5 on both; a message waits at T-port 2. -/
def TO (l : List InMsg) (q : List TorPkt) : State := { M0 with
  cad := { M0.cad with state := .locked, count := 100 }, portOwner := [(24, 0), (26, 0)], ports := [(24, { phase := .active, txCredit := [(4, 20)] }), (26, { phase := .active, inbox := l })]
  tor := { M0.tor with idValid := true, dx := 4, ex := 4, keys := [{ key := 5, gen := 3, ports := 5 }], tports := [(0, { mismatch := false, queue := q }), (2, { mismatch := false })] } }
set_option maxRecDepth 100000 in
theorem wit_arrive : torusParse 4 (tp 1 0).toFlits = some (tp 1 0) ∧ (TO [] []).torKey (tp 1 0).key = some { key := 5, gen := 3, ports := 5 } ∧ (5 : BitVec 12).getLsbD 2 = true ∧ (TO [] []).routeTo 1 0 = .port 0 ∧ (TO [] []).routeTo 3 0 = .port 2 ∧ (TO [] []).routeTo 4 0 = .unreachable ∧
    (TO [] []).keyOwner 5 = some 0 ∧ (tp 0 0).kind = 5 ∧ (TO [] []).tor.id.toNat = 0 ∧ (TO [] []).tUsable 0 = true ∧ (TO [] []).tor.blockEdge 2 = false ∧ torusParse 4 [] = none := by decide +kernel
def arr (i : Instr) (p : TorPkt) (f : State → State) (c : State → Bool) : Bool := yields i (f (TO [inMsg p] [])) c
set_option maxRecDepth 100000 in
theorem test_arrive : arr (.torusPacketArrive 2) (tp 1 0) id (fun u => decide ((u.tp 0).queue = [{ tp 1 0 with axis := some 0 }]) && decide ((u.port 26).inbox = [])) && arr (.torusPacketArrive 2) (tp 0 0) id (fun u => decide (u.tor.arrived = [tp 0 0])) && arr (.torusPacketArrive 2) (tp 1 255) id (fun u => decide ((u.tp 2).routeDrop = 1)) && arr (.torusPacketArrive 2) (tp 9 0) id (fun u => decide ((u.tp 2).routeDrop = 1)) &&
  arr (.torusPacketArrive 2) { tp 1 0 with key := 6 } id (fun u => decide ((u.port 26).keyDrop = 1) && decide ((u.port 26).keyDropLast = (4, 6))) && arr (.torusPacketArrive 2) { tp 1 0 with gen := 2 } id (fun u => decide ((u.tp 2).staleGen = 1)) && arr (.torusPacketArrive 2) { tp 1 0 with gen := 4 } id (fun u => decide ((u.tp 2).futureGen = 1)) = true := by decide +kernel
set_option maxRecDepth 100000 in
theorem test_arrive2 : arr (.torusPacketArrive 2) (tp 1 0) (fun s => { s with tor := { s.tor with idValid := false } }) (fun u => decide ((u.tp 2).mismatchDrop = 1)) && arr (.torusPacketArrive 2) { tp 1 0 with ch := 3 } (fun s => { s with ports := [(26, { phase := .active, inbox := [{ ch := 4, msg := { flits := (tp 1 0).toFlits.drop 1 } }] })] }) (fun u => decide ((u.port 26).protoErr = 1)) &&
  still (.torusPacketArrive 0) (TO [] []) && arr (.torusPacketArrive 2) { tp 0 0 with mcast := true, group := 7 } id (fun u => decide (u.tor.arrived = []) && decide ((u.port 26).inbox = [])) &&
  arr (.torusPacketArrive 2) { tp 0 0 with ch := 3, mcast := true, group := 7, head := [0, 0x40] ++ List.replicate 62 0 } (fun s => { s with tor := { s.tor with mcast := [(7, { owner := 0, goal := .extended [0, 1] })] } }) (fun u => decide (u.tor.arrived.length = 1) && decide ((u.tp 0).queue.length = 1)) = true := by decide +kernel

/-- The flit a packet leaves as. -/
def outFlit : Flit := { ch := 4, som := true, eom := true, poison := false, key := 5, check := 0, data := (tp 1 1).header ++ (tp 1 0).head }
theorem wit_send : ((TO [] [tp 1 0]).tp 0).next 4 = some (tp 1 0) ∧ (TO [] []).keyAt 5 0 = true ∧ (TO [] []).tUsable 0 = true ∧ (TO [] []).tUsable 1 = false ∧ 10 ≤ ((TO [] []).port 24).freeCredit 4 ∧ ((TO [] []).port 24).txq = [] := by decide +kernel
set_option maxRecDepth 100000 in
theorem test_torus_send : yields (.torusEgressSend 0 4) (TO [] [tp 1 0]) (fun u => decide (u.out = [.flit 24 0 outFlit]) && decide ((u.tp 0).queue = []) && decide ((u.port 24).replay = [(0, outFlit)]) && decide ((u.tp 0).transit = 0)) && still (.torusEgressSend 0 3) (TO [] [tp 1 0]) &&
  yields (.torusEgressSend 0 4) (TO [] [{ tp 1 0 with key := 6 }]) (fun u => decide ((u.port 24).keyDrop = 1) && decide (u.out = []) && decide ((u.tp 0).queue = [])) && yields (.torusEgressSend 0 4) (TO [] [tp 1 0, { tp 2 0 with axis := some 0 }]) (fun u => decide ((u.tp 0).queue = [tp 1 0]) && decide ((u.tp 0).transit = 1)) &&
  still (.torusEgressSend 0 4) { TO [] [tp 1 0] with ports := [(24, { phase := .active, txCredit := [(4, 9)] })] } && yields (.holdLimitExpiry 0 0) (TO [] [tp 1 0]) (fun u => decide ((u.tp 0).queue = []) && decide ((u.tp 0).holdDrop = 1)) && still (.holdLimitExpiry 0 1) (TO [] [tp 1 0]) = true := by decide +kernel

/-! ### Tables -/

def configM (id dx ex : Nat) : Msg := pm (leBytes 4 id ++ [BitVec.ofNat 8 dx, 1, 1, 0, 0, 0, BitVec.ofNat 8 ex, 1, 1])
def TFt : State := { TO [] [] with tor := { (TO [] []).tor with keys := [] } }
theorem wit_torus_messages : TFt.canHandle .sch 0x0D01 ∧ TFt.canHandle .sch 0x0D02 ∧ TFt.canHandle .sch 0x0D03 ∧ TFt.canHandle .sch 0x0D04 ∧ TFt.canHandle .sch 0x0D05 ∧ TFt.isPriv (configM 1 4 4) = true ∧
    ({ TFt.tor with id := 1, dx := 4, dy := 1, dz := 1, ex := 4, ey := 1, ez := 1 } : Torus).valid = true ∧ ({ TFt.tor with id := 1, dx := 3, ex := 3 } : Torus).valid = false :=
  ⟨canHandle_of (by decide +kernel), canHandle_of (by decide +kernel), canHandle_of (by decide +kernel), canHandle_of (by decide +kernel), canHandle_of (by decide +kernel), by decide +kernel⟩
theorem test_config : replies (.torConfig (configM 1 4 4)) TFt 0 (fun u => decide (u.tor.id = 1) && (u.tp 0).mismatch) && replies (.torConfig (configM 1 4 4)) { TFt with ports := [(24, { partnerId := 2, pport := 2 })] } 0 (fun u => !(u.tp 0).mismatch && (u.tp 1).mismatch) &&
  replies (.torConfig (configM 1 3 3)) TFt 1 (fun u => decide (u.tor = TFt.tor)) && replies (.torConfig (configM 1 4 4)) (TO [] []) 4 (fun u => decide (u.tor = (TO [] []).tor)) = true := by decide +kernel

/-- A key table of one entry at tick `t`. -/
def keyM (t ports : Nat) : Msg := pm (leBytes 8 t ++ leBytes 4 1 ++ leBytes 4 0 ++ leBytes 2 5 ++ leBytes 2 9 ++ leBytes 2 ports ++ [0, 0])
def entry (g p : Nat) : TorKey := { key := 5, gen := BitVec.ofNat 16 g, ports := BitVec.ofNat 12 p }
theorem wit_keys : TFt.keysValid [entry 9 5] = true ∧ TFt.keysValid [entry 9 2] = false ∧ TFt.keyPorts 5 = 5 ∧ TFt.tickPast 99 = true ∧ TFt.tickPast 101 = false := by decide +kernel
theorem test_torus_keys : replies (.torKeyset (keyM 0 5)) (TO [] []) 0 (fun u => decide (u.tor.keys = [entry 9 5])) && replies (.torKeyset (keyM 101 5)) TFt 0 (fun u => decide (u.tor.stagedKeys = some (101, [entry 9 5])) && decide (u.tor.keys = [])) && replies (.torKeyset (keyM 0 2)) TFt 1 (fun u => decide (u.tor = TFt.tor)) &&
  replies (.torKeyset (keyM 99 5)) TFt 1 (fun u => decide (u.tor = TFt.tor)) && yields .keysetApplied { TFt with tor := { TFt.tor with stagedKeys := some (100, [entry 9 7]) } } (fun u => decide (u.tor.keys = [entry 9 5])) && still .keysetApplied { TFt with tor := { TFt.tor with stagedKeys := some (101, [entry 9 7]) } } && still .keysetApplied TFt = true := by decide +kernel

def groupM (g : Nat) (mode : Byte) (n : Nat) : Msg := pm (leBytes 2 g ++ [0, mode, 0, 0, 0, 0] ++ leBytes 8 0 ++ leBytes 4 n)
theorem wit_mcast : TFt.tor.blockSize = 4 ∧ TFt.tor.inDims 3 = true ∧ TFt.tor.inBlock 3 = true ∧ ([3, 0] : List Nat).Nodup ∧ (BitVec.ofNat 16384 (leNat (List.take 2048 [9])) : BitVec 16384).toNat < 2 ^ 4 := by decide +kernel
theorem test_mcast : replies (.torMcastSet (groupM 7 0 0) (some [9])) TFt 0 (fun u => decide (u.tor.mcast = [(7, { owner := 0, goal := .compact 9 })])) && replies (.torMcastSet (groupM 7 1 2) (some (leBytes 4 3 ++ leBytes 4 0))) TFt 0 (fun u => decide (u.tor.mcast = [(7, { owner := 0, goal := .extended [3, 0] })])) &&
  replies (.torMcastSet (groupM 7 0 0) (some [16])) TFt 1 (fun u => decide (u.tor.mcast = [])) && replies (.torMcastSet (groupM 7 0 0) none) TFt 1 (fun u => decide (u.tor.mcast = [])) && replies (.torMcastClear (groupM 7 0 0)) { TFt with tor := { TFt.tor with mcast := [(7, { owner := 0, goal := .extended [] })] } } 0 (fun u => decide (u.tor.mcast = [])) &&
  replies (.torMcastClear (groupM 1024 0 0)) TFt 1 (fun u => decide (u.tor = TFt.tor)) = true := by decide +kernel

/-- A route set of two entries at tick `t`. -/
def routeM (t : Nat) : Msg := pm (leBytes 8 t ++ leBytes 4 2 ++ leBytes 12 0)
def routeB : List Byte := leBytes 4 3 ++ leBytes 2 0x401 ++ [0, 0] ++ leBytes 4 1 ++ leBytes 2 5 ++ [0, 0]
def TG : State := { TFt with tor := { TFt.tor with routes := [(1, 7), (2, 9)], tports := [(0, { fallback := true })] } }
theorem wit_torus_routes : (routeM 0).u32 8 = 2 ∧ leAt routeB 0 4 = 3 ∧ leAt routeB 12 2 = 5 ∧ TG.routeEntry 1 = 7 ∧ TG.routeEntry 3 = 0 := by decide +kernel
theorem test_torus_routes : replies (.torRouteSet (routeM 0) (some routeB)) TG 0 (fun u => decide ((u.routeEntry 1, u.routeEntry 2, u.routeEntry 3) = (5, 9, 0x401)) && decide (u.tor.sets = 1) && !(u.tp 0).fallback) && replies (.torRouteSet (routeM 101) (some routeB)) TG 0 (fun u => decide (u.tor.routes = TG.tor.routes) && u.tor.stagedRoutes.isSome) &&
  replies (.torRouteSet (routeM 99) (some routeB)) TG 1 (fun u => decide (u.tor = TG.tor)) && replies (.torRouteSet (routeM 0) none) TG 1 (fun u => decide (u.tor = TG.tor)) && yields .routeSetApply { TG with tor := { TG.tor with stagedRoutes := some (100, [(1, 0)]) } } (fun u => decide (u.tor.routes = [(2, 9)]) && decide (u.tor.stagedRoutes = none)) &&
  still .routeSetApply { TG with tor := { TG.tor with stagedRoutes := some (101, [(1, 0)]) } } && still .routeSetApply TG = true := by decide +kernel

end Sys2Proof.Tests
end

