-- ==== Sys2Proof/Tests/Twin.lean ====
section
/-! SUPPORT. Tests of snapshots (14), the twin pair and mirrors (18), witnesses of their statements. -/
namespace Sys2Proof.Tests
set_option Elab.async false
open Sys2Proof.Machine

def sOp (d : Nat) : Op := { id := 0, part := 0, ring := 0, slot := 0, desc := BitVec.ofNat 512 d, ext := [], cq := 1, st := .started, status := 0, detail := 0, doneTick := 0, ended := 0, noSignal := false, timely := false }
def sEnds (u : State) (st : Byte) (d : W32) : Bool := decide (u.ops.map (fun o => (o.st, o.status, o.detail)) = [(.ended, st, d)])
/-- A module with a twin, its pair and the mirror of partition 0 as given; page 5 of partition 0 lies in slot 0x20000. -/
def TW (d : Nat) (w : Twin) (m : Mirror) : State := { M0 with
  fixed := { M0.fixed with order := .kw9T }, ras := { M0.ras with twin := w }, cad := { M0.cad with state := .locked, count := 100 }, ports := [(36, { phase := .active, kind := 4, partnerId := 9 })]
  part := [(0, { (M0.pt 0) with mirror := m, mem := { pages := [(5, { ppa := some 0x20000 })], quotaT1 := 8 } })], ops := [sOp d], tor := { M0.tor with idValid := true } }

/-! ### SNAPSHOT -/

/-- SNAPSHOT of one granule of page `v` to the host at tick `t`. -/
def snapD (v t : Nat) : Nat := 0x50 + t * 2 ^ 128 + v * 2 ^ 213 + 0x777000 * 2 ^ 256 + 256 * 2 ^ 320
def granule : Piece := { data := List.replicate 256 3, st := .held (crc32c (List.replicate 256 3)) }
def SN (v t : Nat) (p : Option OpProg) (l : List Snap) : State := { TW (snapD v t) {} {} with opProg := p.toList.map (fun y => (0, y)), snaps := l }
def snap (pos : Nat) (c : List (Nat × Piece)) : Snap := { op := 0, part := 0, src := 5 * 2 ^ 21, len := 256, pos := pos, captured := c }
theorem wit_snapshot : (SN 5 200 none []).findOp 0 = some (sOp (snapD 5 200)) ∧ (sOp (snapD 5 200)).opcode = 0x50 ∧ (SN 5 200 none []).snapCheck (sOp (snapD 5 200)) = none ∧ (SN 6 200 none []).snapCheck (sOp (snapD 6 200)) = some (2, 0) ∧ (SN 5 100 none []).tickReached 100 = true ∧
    (sOp (snapD 5 200)).byte 22 = 0 ∧ (SN 5 200 none []).canWrite (.vf 0) = true ∧ (snap 0 []).len = 256 ∧ (SN 5 99 none []).snapCheck (sOp (snapD 5 99)) = some (8, 0x14C) ∧ (sOp (snapD 5 200)).le 40 8 = 256 := by decide +kernel
set_option maxRecDepth 100000 in
theorem wit_snap_granule : granule.checked = true ∧ { granule with st := .held 0 }.checked = false := by decide +kernel
theorem test_snapshot : yields (.snapshot 0) (SN 5 200 none []) (fun u => decide (u.opProg = [(0, {})]) && decide (u.ops.map (fun o => o.st) = [.started])) && yields (.snapshot 0) (SN 6 200 none []) (fun u => sEnds u 2 0) && yields (.snapshot 0) (SN 5 99 none []) (fun u => sEnds u 8 0x14C) &&
  yields (.snapshotPoint 0) (SN 5 100 (some {}) []) (fun u => decide (u.snaps = [snap 0 []])) && still (.snapshotPoint 0) (SN 5 101 (some {}) []) && still (.snapshotPoint 0) (SN 5 100 none []) = true := by decide +kernel
set_option maxRecDepth 100000 in
theorem test_snapshot_copy : yields (.snapshot 0) (SN 5 100 (some {}) [snap 0 [(0, granule)]]) (fun u => sEnds u 0 0 && u.out.contains (.hostWrite (.vf 0) 0x777000 (List.replicate 256 3))) && yields (.snapshot 0) (SN 5 100 (some { poison := some 7 }) [snap 256 []]) (fun u => sEnds u 9 7) &&
  yields (.snapshot 0) (SN 5 100 (some {}) [snap 0 [(0, { granule with st := .held 0 })]]) (fun u => sEnds u 5 0) && still (.snapshot 0) { SN 5 100 (some {}) [snap 0 []] with links := [] } = true := by decide +kernel

/-! ### Mirrors -/

/-- COPY of one granule of page 5 to offset 512; COMMIT of label 7 at tick `t`. -/
def mcopyD (off : Nat) : Nat := 0x51 + 5 * 2 ^ 213 + off * 2 ^ 256 + 256 * 2 ^ 320
def commitD (t : Nat) : Nat := 0x51 + 2 ^ 128 + 7 * 2 ^ 384 + t * 2 ^ 448
def primary : Mirror := { role := 1, bstate := .bound, remote := 3, bankPages := 1, remoteKey := 8 }
def standby : Mirror := { role := 2, bstate := .bound, remote := 3, bankPages := 1, remoteKey := 8, base := 0x2000000, pages := [(0, 0x20001), (1, 0x20002)], label := 4 }
def paired : Twin := { state := .paired, partner := 9 }
theorem wit_mirror : (TW (mcopyD 512) paired primary).findOp 0 = some (sOp (mcopyD 512)) ∧ (TW (mcopyD 512) paired primary).mirrorCheck (sOp (mcopyD 512)) = none ∧ (sOp (mcopyD 512)).opcode = 0x51 ∧ (sOp (mcopyD 512)).byte 16 = 0 ∧ (TW (mcopyD 512) paired primary).portActive 36 = true ∧ (sOp (mcopyD 512)).le 40 8 = 256 ∧
    (TW (mcopyD (2 ^ 21)) paired primary).mirrorCheck (sOp (mcopyD (2 ^ 21))) = some (8, 0x151) ∧ (sOp (commitD 9)).byte 16 = 1 ∧ (sOp (commitD 9)).mirLabel = 7 ∧ (sOp (commitD 9)).mirTick = 9 ∧ (TW (commitD 0) paired primary).mirrorCheck (sOp (commitD 0)) = none := by decide +kernel
set_option maxRecDepth 100000 in
theorem test_mirror : yields (.mirrorCopy (.send 0)) (TW (mcopyD 512) paired primary) (fun u => sEnds u 0 0 && decide ((u.mir 0).bytes = 256) && decide (u.out.length = 1)) && yields (.mirrorCopy (.send 0)) (TW (mcopyD (2 ^ 21)) paired primary) (fun u => sEnds u 8 0x151) &&
  yields (.mirrorCopy (.send 0)) (TW (mcopyD 0) paired standby) (fun u => sEnds u 8 0x152) && yields (.mirrorCopy (.send 0)) { TW (mcopyD 0) paired primary with ports := [] } (fun u => decide (u.out = []) && decide (u.opProg = [(0, {})])) && still (.mirrorCopy (.send 0)) (TW (commitD 0) paired primary) = true := by decide +kernel
theorem test_commit : yields (.mirrorCommit 0) (TW (commitD 9) paired primary) (fun u => decide (u.out = [.mirrorPoint 3 7 9]) && decide ((u.pt 0).late = 1) && decide (u.opProg = [(0, { phase := 1 })])) && still (.mirrorCommit 0) (TW (mcopyD 0) paired primary) &&
  yields (.commitPoint 0 7 9) { TW (commitD 9) paired primary with opProg := [(0, { phase := 1 })] } (fun u => sEnds u 0 1 && decide ((u.mir 0).label = 7)) && still (.commitPoint 0 7 101) { TW (commitD 101) paired primary with opProg := [(0, { phase := 1 })] } && still (.commitPoint 0 8 9) (TW (commitD 9) paired primary) &&
  yields (.commitPoint 0 7 9) (TW 0 paired standby) (fun u => decide (u.mir 0 = { standby with committed := true, label := 7, tick := 9, commits := 1 }) && decide (u.out = [.twin 8 3])) && still (.commitPoint 0 7 9) M0 = true := by decide +kernel
theorem wit_receive : (TW 0 paired standby).portActive (36 + (0 : Fin 2).val) = true ∧ tfind standby.pages ((1 - standby.committed.toNat) * standby.bankPages.toNat + 512 / pageSize) = some 0x20002 ∧ (512 : W64).toNat + 256 ≤ standby.bankPages.toNat * pageSize ∧ standby.remoteKey = 8 := by decide +kernel
set_option maxRecDepth 100000 in
theorem test_receive : yields (.mirrorCopy (.receive 0 8 512 granule.data (crc32c granule.data) false)) (TW 0 paired standby) (fun u => decide ((u.mir 0).bytes = 256) && decide (u.sliceBytes (pageTile 0x20002 512) (pageOff 0x20002 512) 256 = granule.data)) &&
  yields (.mirrorCopy (.receive 0 7 512 granule.data 0 false)) (TW 0 paired standby) (fun u => decide (u.mir 0 = standby)) && still (.mirrorCopy (.receive 1 8 512 granule.data 0 false)) (TW 0 paired standby) && still (.mirrorCopy (.receive 0 8 512 granule.data 0 false)) (TW 0 {} standby) = true := by decide +kernel

/-! ### The pair -/

def idM (p : Nat) : Msg := pm (leBytes 4 p)
theorem wit_twin_messages : (TW 0 {} {}).canHandle .sch 0x1202 ∧ (TW 0 {} {}).canHandle .sch 0x1203 ∧ (TW 0 {} {}).canHandle .sch 0x1204 ∧ (TW 0 {} {}).canHandle .sch 0x1205 ∧ (TW 0 {} {}).canHandle .sch 0x1206 ∧ (TW 0 {} {}).isPriv (idM 9) = true ∧ (TW 0 {} {}).hasTwin = true ∧ (TW 0 {} {}).bindings = [] ∧ { M0 with fixed := { M0.fixed with order := .kw9A } }.hasTwin = false :=
  ⟨canHandle_of (by decide +kernel), canHandle_of (by decide +kernel), canHandle_of (by decide +kernel), canHandle_of (by decide +kernel), canHandle_of (by decide +kernel), by decide +kernel⟩
theorem test_pair : yields (.rasTwinPair (idM 9)) (TW 0 {} {}) (fun u => decide (u.ras.twin = { state := .pairing, partner := 9, pairMsg := some (idM 9) }) && decide (u.out = [.twin 1 9])) && replies (.rasTwinPair (idM 9)) (TW 0 paired {}) 4 (fun u => decide (u.ras.twin = paired)) &&
  replies (.rasTwinPair (idM (2 ^ 18))) (TW 0 {} {}) 1 (fun u => decide (u.ras.twin = {})) && yields (.twinPaired 9) (TW 0 { state := .pairing, partner := 9 } {}) (fun u => decide (u.ras.twin = paired)) && still (.twinPaired 8) (TW 0 { state := .pairing, partner := 9 } {}) &&
  yields .pairingTimeout (TW 0 { state := .pairing, partner := 9 } {}) (fun u => decide (u.ras.twin = { partner := 9 })) && still .pairingTimeout (TW 0 paired {}) = true := by decide +kernel
theorem test_unpair : replies (.rasTwinUnpair (idM 0)) (TW 0 paired {}) 0 (fun u => decide (u.ras.twin = { partner := 9, breakCause := 5 }) && u.out.contains (.twin 3 5)) && replies (.rasTwinUnpair (idM 0)) (TW 0 paired primary) 4 (fun u => decide (u.ras.twin = paired)) &&
  replies (.rasTwinHandover (idM 0)) (TW 0 paired standby) 0 (fun u => decide (u.ras.twin.breakCause = 3) && decide ((u.mir 0).bstate = .failedOver) && decide (u.pte 0 16 = some { ppa := some 0x20001 })) && replies (.rasTwinHandover (idM 0)) (TW 0 {} standby) 4 (fun u => decide (u.mir 0 = standby)) &&
  replies (.rasTwinHandover (idM 0)) { TW 0 paired standby with ports := [] } 6 (fun u => decide (u.mir 0 = standby)) = true := by decide +kernel
theorem test_beats : yields .twinHeartbeatSend (TW 0 paired {}) (fun u => decide (u.out = [.twin 2 36])) && yields (.twinHeartbeatReceive 0) (TW 0 { paired with losing := true } {}) (fun u => decide (u.ras.twin = paired)) && still (.twinHeartbeatReceive 1) (TW 0 { paired with losing := true } {}) &&
  yields (.twinLossBegin true) (TW 0 paired {}) (fun u => decide (u.ras.twin = { paired with losing := true }) && decide (u.out = [.twin 7 0])) && still (.twinLossBegin false) (TW 0 paired {}) && yields .twinProbeAnswer (TW 0 { paired with losing := true } {}) (fun u => u.ras.twin.probeAnswered) &&
  still .twinProbeAnswer (TW 0 paired {}) && yields .lossMsExpiry (TW 0 { paired with losing := true } primary) (fun u => decide (u.ras.twin = { paired with state := .broken, breakCause := 2 }) && decide (u.mir 0 = { primary with bstate := .broken })) && still .lossMsExpiry (TW 0 paired {}) = true := by decide +kernel
theorem test_break : yields (.twinBreak 5) (TW 0 paired standby) (fun u => decide (u.mir 0 = { standby with bstate := .broken })) && still (.twinBreak 6) (TW 0 paired standby) && still (.twinBreak 4) (TW 0 {} standby) &&
  yields (.twinBreak 4) (TW 0 paired { standby with committed := true }) (fun u => decide (u.pte 0 16 = some { ppa := some 0x20002 })) = true := by decide +kernel

/-! ### Bindings -/

def bindM (role k base : Nat) : Msg := pm ([0, BitVec.ofNat 8 role, 3, 0] ++ leBytes 4 k ++ leBytes 8 base)
def begun (role : BitVec 2) (m : Msg) (base : W48) : Mirror := { role := role, bstate := .binding, remote := 3, bankPages := 1, base := base, bindMsg := some m }
def theirs (t : Bool) : TwinBind := { theirs := 3, ours := 0, role := 2, bankPages := 1, key := 8, taken := t }
theorem wit_bind : (bindM 2 1 0x2000000).u32 4 = 1 ∧ (bindM 2 1 0x2000000).u64 8 = 0x2000000 ∧ (TW 0 paired {}).grantOverlaps 0 16 2 = false ∧ ((TW 0 paired {}).pt 0).mem.pagesMeet 16 2 = false ∧ ((TW 0 paired {}).pt 0).mem.pagesMeet 4 2 = true ∧ 0x2000000 % pageSize = 0 ∧
    (State.takeMirror 0 0 2 ((TW 0 paired (begun 2 (bindM 2 1 0x2000000) 0x2000000)).updTwin (fun x => { x with binds := x.binds.filter (fun y => y.ours != 0) }))).2 = true := by decide +kernel
theorem test_bind : yields (.rasMirrorBind (bindM 1 1 0)) (TW 0 paired {}) (fun u => decide (u.mir 0 = begun 1 (bindM 1 1 0) 0)) && yields (.rasMirrorBind (bindM 2 1 0x2000000)) (TW 0 paired {}) (fun u => decide (u.mir 0 = begun 2 (bindM 2 1 0x2000000) 0x2000000)) && replies (.rasMirrorBind (bindM 1 1 0)) (TW 0 {} {}) 4 (fun u => decide (u.mir 0 = {})) &&
  replies (.rasMirrorBind (bindM 2 1 0x800000)) (TW 0 paired {}) 1 (fun u => decide (u.mir 0 = {})) && replies (.rasMirrorBind (bindM 3 1 0)) (TW 0 paired {}) 1 (fun u => decide (u.mir 0 = {})) &&
  replies (.rasMirrorBind (bindM 1 1 0)) (TW 0 { paired with binds := [theirs true] } {}) 0 (fun u => decide (u.mir 0 = { begun 1 (bindM 1 1 0) 0 with bstate := .bound, remoteKey := 8, bindMsg := none })) = true := by decide +kernel
theorem test_unbind : replies (.rasMirrorUnbind (bindM 0 0 0)) (TW 0 paired primary) 0 (fun u => decide (u.mir 0 = {})) && replies (.rasMirrorUnbind (bindM 0 0 0)) (TW 0 paired {}) 1 (fun u => decide (u.mir 0 = {})) && replies (.rasMirrorUnbind (bindM 0 0 0)) (TW 0 paired { bstate := .binding }) 4 (fun u => decide (u.mir 0 = { bstate := .binding })) &&
  yields (.unbind 0) (TW 0 paired primary) (fun u => decide (u.mir 0 = {})) && replies (.bindTimeout 0) (TW 0 paired (begun 1 (bindM 1 1 0) 0)) 6 (fun u => decide (u.mir 0 = {})) && still (.bindTimeout 0) (TW 0 paired primary) = true := by decide +kernel
theorem test_bind_receive : replies (.twinBindReceive 3 0 2 1 8 true) (TW 0 paired (begun 1 (bindM 1 1 0) 0)) 0 (fun u => decide ((u.mir 0).bstate = .bound) && decide ((u.mir 0).remoteKey = 8)) && replies (.twinBindReceive 3 0 2 1 8 false) (TW 0 paired (begun 1 (bindM 1 1 0) 0)) 6 (fun u => decide (u.mir 0 = {})) &&
  replies (.twinBindReceive 3 0 1 1 8 true) (TW 0 paired (begun 1 (bindM 1 1 0) 0)) 1 (fun u => decide (u.mir 0 = {})) && yields (.twinBindReceive 3 0 2 1 8 true) (TW 0 paired {}) (fun u => decide (u.ras.twin.binds = [theirs true])) && still (.twinBindReceive 3 0 2 1 8 true) (TW 0 {} {}) &&
  replies (.twinBindReceive 3 0 1 1 8 false) (TW 0 paired (begun 2 (bindM 2 1 0x2000000) 0x2000000)) 0 (fun u => decide ((u.mir 0).bstate = .bound) && decide ((u.mir 0).pages.length = 2)) = true := by decide +kernel

end Sys2Proof.Tests
end

