-- ==== Sys2Proof/Tests/Vector.lean ====
section
/-! SUPPORT. Tests of the vector instructions (06 T6.11-T6.13), witnesses of their statements. -/
namespace Sys2Proof.Tests
set_option Elab.async false
open Sys2Proof.Machine

def vec (f : Nat → W32) : BitVec 2048 := BitVec.ofNat 2048 ((List.range 64).foldl (fun n l => n + (f l).toNat * 2 ^ (32 * l)) 0)

/-- v1 = 1.0, -2.0, +inf, 0, -0, 5, 6, …; v2 = 3.0, 1.0, 1.0, -1, 2, 2, …; lane 3 of v2 is poisoned. p3: lanes 0 and 1. -/
def S5 : State := { State.reset with tiles := [(0, { T1 with
  v := [(1, vec (fun l => [0x3F800000, 0xC0000000, 0x7F800000, 0, 0x80000000].getD l (BitVec.ofNat 32 l))),
        (2, vec (fun l => [0x40400000, 0x3F800000, 0x3F800000, 0xFFFFFFFF].getD l 2))]
  vPoison := [(2, 8)], p := [(0, 0xFFFFFFFFFFFFFFFF), (1, 0x21), (3, 3), (4, 0x1C), (5, 0x1E)] })] }

def v3 : VArgs := { vd := 3, va := 1, vb := 2 }
def v4 : VArgs := { vd := 3, va := 1 }
def vs : VArgs := { vd := 5, va := 1, pg := 3 }

theorem wit_vector : ∀ op ∈ [QOp.vf 0 v3, .vf 3 { v3 with vc := 1 }, .vf 8 v4, .vsf 0 v4, .vsf 5 v4, .vi 0 v3, .vi 12 v3, .vcmp 5 0 v3, .vcmp 5 2 v3,
    .vsel { v3 with pg := 3 }, .vred 0 vs, .vred 3 vs, .vperm 0 v3 0, .vperm 2 v4 63, .vmov 0 v4 0, .vmov 1 v4 63, .vmov 2 v4 63, .vmov 3 { vd := 3, va := 0 } 0,
    .vcvt 0 {} v4, .vcvt 3 { rnd := 1 } v4, .vwiden 1 v4 3, .vwiden 9 v4 1, .vmxdq 6 v4 7, .vnarrow 1 {} v4 3, .vnarrow 9 { rnd := 3 } v4 1, .vmxq 4 {} v4 3], S5.canQueue 0 op {} := by
  apply canQueue_all; decide +kernel
theorem wit_rot : S5.canQueue 0 (.vperm 1 { vd := 3, va := 1, vb := 1 } 0) {} ∧ S5.sP 0 1 = false := ⟨canQueue_one (by decide +kernel), by decide +kernel⟩

/-- Lane `l` of v3 after the command. -/
def lane (i : Instr) (l : Nat) (x : W32) : Bool := yields i S5 (fun u => decide (u.vR 0 3 l = x))
def lanes (i : Instr) (x y z : W32) : Bool := yields i S5 (fun u => decide (u.vR 0 3 0 = x) && decide (u.vR 0 3 1 = y) && decide (u.vR 0 3 5 = z))

theorem test_vf_add : lanes (.vadd 0 v3 {}) 0x40800000 0xBF800000 7 && lanes (.vsub 0 v3 {}) 0xC0000000 0xC0400000 3 &&
  lanes (.vmul 0 v3 {}) 0x40400000 0xC0000000 0 = true := by decide +kernel
theorem test_vf_poison : yields (.vadd 0 v3 {}) S5 (fun u => u.vP 0 3 3 && !u.vP 0 3 2 && decide (((u.tile 0).queue .vq).map (fun e => e.flags) = [0])) = true := by decide +kernel
theorem test_vf_fma : lane (.vfma 0 { v3 with vc := 1 } {}) 0 0x40800000 && lane (.vfms 0 { v3 with vc := 1 } {}) 0 0xC0000000 && lane (.vfma 0 { v3 with vc := 1 } {}) 1 0xC0800000 = true := by
  decide +kernel
theorem test_vf_minmax : lanes (.vfVmin 0 v3 {}) 0x3F800000 0xC0000000 2 && lanes (.vfVmax 0 v3 {}) 0x40400000 0x3F800000 5 && lane (.vabs 0 v4 {}) 1 0x40000000 &&
  lane (.vneg 0 v4 {}) 4 0 = true := by decide +kernel
theorem test_vsf : lane (.vexp2 0 { v4 with pg := 4 } {}) 2 0x7F800000 && lane (.vexp2 0 { v4 with pg := 4 } {}) 4 0x3F800000 && lane (.vexp 0 { v4 with pg := 4 } {}) 3 0x3F800000 && lane (.vlog2 0 { v4 with pg := 5 } {}) 3 0xFF800000 &&
  lane (.vlog2 0 { v4 with pg := 5 } {}) 1 0x7FC00000 = true := by decide +kernel
theorem test_vsf_root : lane (.vrcp 0 { v4 with pg := 4 } {}) 2 0 && lane (.vrcp 0 { v4 with pg := 4 } {}) 4 0xFF800000 && lane (.vrsqrt 0 { v4 with pg := 5 } {}) 3 0x7F800000 && lane (.vrsqrt 0 { v4 with pg := 5 } {}) 1 0x7FC00000 &&
  lane (.vsqrt 0 { v4 with pg := 5 } {}) 4 0x80000000 && lane (.vsqrt 0 { v4 with pg := 5 } {}) 2 0x7F800000 = true := by decide +kernel

theorem test_vi : lanes (.viadd 0 v3 {}) 0x7FC00000 0xFF800000 7 && lanes (.visub 0 v3 {}) 0xFF400000 0x80800000 3 && lane (.vimul 0 v3 {}) 5 10 &&
  lane (.vand 0 v3 {}) 0 0 && lane (.vor 0 v3 {}) 5 7 && lane (.vxor 0 v3 {}) 6 4 = true := by decide +kernel
theorem test_vi_shift : lane (.vshl 0 v3 {}) 5 20 && lane (.vshr 0 v3 {}) 4 0x20000000 && lane (.vsar 0 v3 {}) 4 0xE0000000 && lane (.vshl 0 v3 {}) 3 0 = true := by decide +kernel
theorem test_vi_minmax : lane (.viVmin 0 v3 {}) 1 0xC0000000 && lane (.viVmax 0 v3 {}) 1 0x3F800000 && lane (.vminu 0 v3 {}) 1 0x3F800000 && lane (.vmaxu 0 v3 {}) 1 0xC0000000 &&
  lane (.viVmin 0 v3 {}) 3 0xFFFFFFFF = true := by decide +kernel

def preds (i : Instr) (x : W64) (bad : Bool) : Bool := yields i S5 (fun u => decide ((u.tile 0).pGet 3 = x) && decide (u.pP 0 3 = bad))
theorem test_vcmp : preds (.vcmp 0 { v3 with pg := 1 } {} 2 0) 0x1 false && preds (.vcmp 0 { v3 with pg := 1 } {} 5 1) 0x20 false &&
  preds (.vcmp 0 { v3 with pg := 1 } {} 4 2) 0x20 false && preds (.vcmp 0 v3 {} 0 1) 0 true = true := by decide +kernel
theorem test_vsel : lanes (.vsel 0 { v3 with pg := 3 } {}) 0x3F800000 0xC0000000 2 = true := by decide +kernel
def reduces (i : Instr) (x : W64) : Bool := yields i S5 (fun u => decide (u.sR 0 5 = x) && !u.sP 0 5)
theorem test_vred : reduces (.rsum 0 vs {}) 0xBF800000 && reduces (.rmax 0 vs {}) 0x3F800000 && reduces (.rmin 0 vs {}) 0xC0000000 && reduces (.risum 0 vs {}) 0xFF800000 &&
  reduces (.rmax 0 { vs with pg := 2 } {}) 0xFF800000 && reduces (.rmin 0 { vs with pg := 2 } {}) 0x7F800000 = true := by decide +kernel
theorem test_perm : lane (.perm 0 v3 {}) 5 0x7F800000 && lane (.perm 0 v3 {}) 3 63 && lane (.rot 0 { vd := 3, va := 1, vb := 1 } {}) 0 7 && lane (.rot 0 { vd := 3, va := 1, vb := 1 } {}) 60 0 &&
  lane (.bcast 0 v4 {} 63) 0 63 = true := by decide +kernel
theorem test_vmov : lane (.froms 0 v4 {}) 9 7 && reduces (.tos 0 { vs with pg := 0 } {} 1) 0xC0000000 && lane (.insert 0 v4 {} 63) 63 7 && lane (.iota 0 { vd := 3, va := 0 } {}) 63 63 = true := by
  decide +kernel
theorem test_vcvt : lanes (.vcvtF2i 0 v4 {} {}) 1 0xFFFFFFFE 0 && lane (.vcvtF2i 0 v4 {} {}) 2 0x7FFFFFFF && lane (.vcvtF2u 0 v4 {} {}) 1 0 && lane (.vcvtI2f 0 v4 {} {}) 5 0x40A00000 &&
  lane (.vcvtU2f 0 v4 {} {}) 4 0x4F000000 = true := by decide +kernel
/-- BF16 parts: the upper 64 elements of v3 are those of v1, rounded; widening gives them back (07 T7.1). -/
theorem test_vnarrow : yields (.vnarrow 0 v4 {} {} 8 1) S5 (fun u => decide (((u.tile 0).vGet 3).extractLsb' 1024 32 = 0xC0003F80) && decide (((u.tile 0).vGet 3).extractLsb' 0 1024 = 0)) &&
  yields (.vwiden 0 v4 {} 8 0) S5 (fun u => decide (u.vR 0 3 1 = 0x3F800000)) && yields (.vnarrow 0 v4 { rnd := 3 } {} 9 1) S5 (fun u => decide ((u.tile 0).srctr = 64)) = true := by
  decide +kernel
theorem test_vmx : yields (.vmxdq 0 { v4 with vb := 1 } {} 5 0) S5 (fun u => decide (u.vR 0 3 40 = 0)) && yields (.vmxq 0 v4 {} {} 4 0) S5 (fun u => decide (u.sR 0 0 = 0xFF)) = true := by
  decide +kernel

end Sys2Proof.Tests
end

