-- ==== Sys2Proof/Tests/Weights.lean ====
section
/-! SUPPORT. Tests of weight sets (11), witnesses of their statements. -/
namespace Sys2Proof.Tests
set_option Elab.async false
open Sys2Proof.Machine

/-! ### Slots -/

def wOp (d : Nat) : Op := { id := 0, part := 0, ring := 0, slot := 0, desc := BitVec.ofNat 512 d, ext := [], cq := 1, st := .started, status := 0, detail := 0, doneTick := 0, ended := 0, noSignal := false, timely := false }
/-- Operation 0 is started; partition 0 with its weight slots, its swap and the batch boundary armed. -/
def WT (d : Nat) (l : List (Nat × WSlot)) (w : Option Swap) : State := { M0 with
  part := [(0, { (M0.pt 0) with wgt := { slots := l, swap := w, batchEn := true } })], ops := [wOp d] }
/-- WEIGHT_BUILD of slot A from the host, no verify, no base, generation 9. -/
def buildD (slot : Nat) : Nat := 0x30 + slot * 2 ^ 128 + 2 * 2 ^ 144 + 0xFF * 2 ^ 152 + 9 * 2 ^ 160
def manifest (v : Byte) (entry : List Byte) : List Byte := leBytes 4 0x4E414D57 ++ [v, 0, 0, 0] ++ leBytes 4 1 ++ leBytes 4 0 ++ leBytes 8 77 ++ List.replicate 40 0 ++ entry
/-- Four rows of the rectangle from frames of one granule; `x` lies outside the rectangle. -/
def entryB (ty1 : Nat) : List Byte := [1, 1, 0, 0, 0, 0] ++ leBytes 2 0xFFFF ++ leBytes 2 0 ++ leBytes 2 ty1 ++ leBytes 4 1 ++ List.replicate 48 0
def wEnds (u : State) (st : Byte) (d : W32) : Bool := decide (u.ops.map (fun o => (o.st, o.status, o.detail)) = [(.ended, st, d)])

theorem wit_build : (WT (buildD 2) [] none).findOp 0 = some (wOp (buildD 2)) ∧ (wOp (buildD 2)).opcode = 0x30 ∧ (wOp (buildD 2)).byte 17 = 0 ∧ (wOp (buildD 2)).byte 18 = 2 ∧ (WT (buildD 2) [] none).buildSlot 0 2 = some 0 ∧
    (manifest 1 (entryB 3)).length = 128 ∧ (WT (buildD 2) [] none).buildCheck (wOp (buildD 2)) 0 (manifest 1 (entryB 3)) = none ∧ (WT (buildD 2) [] none).buildCheck (wOp (buildD 2)) 0 (manifest 1 (entryB 24)) = some (8, 0x133, some 0) := by decide +kernel
theorem test_build : yields (.weightBuild 0 (some (manifest 1 (entryB 23)))) (WT (buildD 2) [] none) (fun u => wEnds u 0 0 && decide (((u.pt 0).slot 0).state = .ready) && decide (((u.pt 0).slot 0).gen = 9) && decide (((u.pt 0).slot 0).tag = 77) && decide (((u.pt 0).slot 0).segs.map (fun g => (g.kind, g.ty1, g.granules)) = [(1, 23, 1)])) &&
  yields (.weightBuild 0 (some (manifest 1 (entryB 24)))) (WT (buildD 2) [] none) (fun u => wEnds u 8 0x133 && decide (((u.pt 0).slot 0).state = .empty)) && yields (.weightBuild 0 (some (manifest 2 (entryB 3)))) (WT (buildD 0) [] none) (fun u => wEnds u 7 2) &&
  yields (.weightBuild 0 (some (manifest 1 (entryB 3)))) (WT (buildD 1) [(1, { state := .active })] none) (fun u => wEnds u 8 0x131) && yields (.weightBuild 0 none) (WT (buildD 0) [] none) (fun u => wEnds u 2 0) = true := by decide +kernel

/-- SWAP to slot `k`, WHEN `w`. -/
def swapD (k w : Nat) : Nat := 0x31 + k * 2 ^ 136 + w * 2 ^ 144 + 5 * 2 ^ 192
theorem wit_swap : (wOp (swapD 1 0)).opcode = 0x31 ∧ (wOp (swapD 1 0)).byte 16 = 0 ∧ (wOp (swapD 1 0)).byte 17 = 1 ∧ (wOp (swapD 1 0)).byte 18 = 0 ∧ tfind (WT (swapD 1 0) [] none).opProg 0 = none := by decide +kernel
theorem test_swap : yields (.weightSwap 0) (WT (swapD 1 0) [(1, { state := .ready })] none) (fun u => decide ((u.pt 0).wgt.swap = some { op := 0, target := true, when' := 0, tick := 5, fired := false }) && decide (u.ops.map (fun o => o.st) = [.started])) &&
  yields (.weightSwap 0) (WT (swapD 0 0) [(1, { state := .ready })] none) (fun u => wEnds u 8 0x138) && yields (.weightSwap 0) { WT (swapD 1 0) [] none with part := [(0, { (M0.pt 0) with wgt := { slots := [(1, { state := .ready })] } })] } (fun u => wEnds u 8 0x139) &&
  yields (.weightSwap 0) (WT (swapD 1 0) [(1, { state := .ready })] (some { op := 3, target := false, when' := 0, tick := 0, fired := false })) (fun u => wEnds u 8 0x13A) = true := by decide +kernel

/-- A swap to slot B whose boundary has fired, or not. -/
def SP (l : List (Nat × WSlot)) (fired : Bool) : State := WT (swapD 1 0) l (some { op := 0, target := true, when' := 0, tick := 5, fired := fired })
def openInst (ended : Option (Byte × W32)) : Inst := {
  id := 0, part := 0, op := 8, stream := 0, gradient := false, slot := false, gen := 3, granules := 1, seg := parseSeg (entryB 0), base := 0, well := 0, ec := 0, row0 := 0, x0 := 0, x1 := 23, ended := ended }
theorem wit_swap_point : (SP [(1, { state := .ready, gen := 6 })] true).slotIn 0 .active = none ∧ ((SP [] true).pt 0).wgt.swap ≠ none ∧ (SP [(0, { state := .active }), (1, { state := .ready })] true).slotIn 0 .active = some (1 - 1) ∧ (SP [] true).insts = [] := by decide +kernel
theorem test_swap_point : yields (.swapPoint 0) (SP [(1, { state := .ready, gen := 6 })] true) (fun u => wEnds u 0 6 && decide (((u.pt 0).slot 1).state = .active) && decide ((u.pt 0).wgt.swap = none)) && still (.swapPoint 0) (SP [(1, { state := .ready })] false) && still (.swapPoint 0) M0 &&
  yields (.swapPoint 0) (SP [(0, { state := .active }), (1, { state := .ready, gen := 6 })] true) (fun u => wEnds u 0 6 && decide (((u.pt 0).slot 0).state = .inactive) && decide (((u.pt 0).slot 1).state = .active)) &&
  yields (.swapPoint 0) { SP [(0, { state := .active }), (1, { state := .ready })] true with insts := [openInst none] } (fun u => decide (((u.pt 0).slot 0).state = .draining) && decide (((u.pt 0).slot 1).state = .active) && decide (u.ops.map (fun o => o.st) = [.started])) = true := by decide +kernel

/-- PUBLISH of slot A to shared region 5. -/
def pubD : Nat := 0x32 + 5 * 2 ^ 136 + 4 * 2 ^ 160 + 6 * 2 ^ 192
def PB (l : List (Nat × WSlot)) (r : Nat) : State := { WT pubD l none with sec := { M0.sec with shared := [(5, { key := 0xF000, home := some 0, pages := 4 })], grants := [{ shared := 5, grantee := 0, right := r, base := 0 }] } }
theorem wit_publish : (PB [(0, { state := .ready })] 1).publishCheck (wOp pubD) = none ∧ (PB [] 1).publishCheck (wOp pubD) = some (8, 0x131) ∧ (((PB [(0, { state := .ready })] 1).pt 0).slot ((wOp pubD).byte 16)).shared = [] ∧ (PB [] 0).publishCheck (wOp pubD) = some (2, 0) := by decide +kernel
theorem test_publish : yields (.publish 0) (PB [(0, { state := .ready }), (1, { state := .inactive, base := 5 })] 1) (fun u => wEnds u 0 0 && decide (u.pubs = [(5, { valid := true, gen := 4, tag := 6 })]) && decide (((u.pt 0).slot 1).state = .empty)) &&
  yields (.publish 0) (PB [(0, { state := .ready })] 0) (fun u => wEnds u 2 0) && yields (.publish 0) (PB [(0, { state := .building })] 1) (fun u => wEnds u 8 0x131) = true := by decide +kernel

def WO3 (loc : Nat) : MemObj := { tier := 3, pages := 4, server := 1, loc := BitVec.ofNat 64 loc, t2Bytes := 0, sealed' := true, block := 0, blocks := 0 }
/-- Partition 0 with object 4 on T3 and its relays. -/
def RY (l : List (Nat × Relay)) : State := { M0 with part := [(0, { (M0.pt 0) with mem := { objs := [(4, WO3 0)] }, wgt := { relays := l, slots := [(1, { state := .ready })] } })] }
def relM (b h : Nat) (g : Nat) : Msg := vm ([0, BitVec.ofNat 8 b] ++ leBytes 2 h ++ leBytes 2 g ++ List.replicate 40 0)
def sink : Relay := { sink := true, group := 7, mcast := 0, source := 0, members := [], start := 0, period := 0, length := 0 }
theorem wit_weight_messages : (RY []).canHandle .sch 0x0B01 ∧ (RY []).canHandle .sch 0x0B02 ∧ (RY []).canHandle .sch 0x0B03 ∧ (relM 1 4 7).part = some 0 ∧ (relM 1 4 7).u16 4 = 7 ∧ (relM 1 4 7).u32 36 = 0 ∧ ((RY []).pt 0).slot 0 = {} :=
  ⟨canHandle_of (by decide +kernel), canHandle_of (by decide +kernel), canHandle_of (by decide +kernel), by decide +kernel⟩
theorem test_weight_messages : yields (.wgtSlotClear (relM 1 0 0)) (RY []) (fun u => decide (((u.pt 0).slot 1).state = .empty)) && yields (.wgtSlotClear (relM 2 0 0)) (RY []) (fun u => decide (((u.pt 0).slot 1).state = .ready)) &&
  yields (.wgtRelaySet (relM 1 4 7) none) (RY []) (fun u => decide ((u.pt 0).wgt.relays = [(4, sink)])) && yields (.wgtRelaySet (relM 1 4 1024) none) (RY []) (fun u => decide ((u.pt 0).wgt.relays = [])) && yields (.wgtRelaySet (relM 1 5 7) none) (RY []) (fun u => decide ((u.pt 0).wgt.relays = [])) &&
  yields (.wgtRelayClear (relM 0 4 0)) (RY [(4, sink)]) (fun u => decide ((u.pt 0).wgt.relays = [])) = true := by decide +kernel

/-! ### Streams and frames -/

/-- STREAM of IDs 2 and 3. -/
def streamD : Nat := 0x31 + 2 ^ 128 + 2 * 2 ^ 160 + 2 * 2 ^ 176
def sx (next : Nat) : StreamOp := { op := 0, part := 0, next := next, stop := 3, gen := 2 }
/-- Slot A is ACTIVE with one unused, one weight segment; the operation streams; instances as given. -/
def ST (next : Nat) (l : List Inst) : State := { WT streamD [(0, { state := .active, gen := 3, segs := [parseSeg (List.replicate 64 0), parseSeg (entryB 3)] })] none with streamOps := [sx next], insts := l, nextInst := 1 }
theorem wit_stream : (WT streamD [] none).findOp 0 = some (wOp streamD) ∧ (wOp streamD).opcode = 0x31 ∧ (wOp streamD).byte 16 = 1 ∧ (ST 1 []).slotIn 0 .active = some 0 ∧ (((ST 1 []).pt 0).slot 0).segs[1]? = some (parseSeg (entryB 3)) ∧ (parseSeg (entryB 3)).kind = 1 ∧
    (ST 1 []).roomFor ((ST 1 []).newInst (sx 1) 0 (parseSeg (entryB 3))) = true ∧ ((ST 0 []).pt 0).wgt.holdOpens = false ∧ (ST 1 (List.replicate 8 (openInst none))).roomFor ((ST 1 []).newInst (sx 1) 0 (parseSeg (entryB 3))) = false ∧ (ST 0 []).streamOps.find? (fun y => y.op == 0) = some (sx 0) := by decide +kernel
theorem test_stream : yields (.stream 0) { ST 1 [] with streamOps := [] } (fun u => decide (u.streamOps = [{ op := 0, part := 0, next := 2, stop := 4 }])) && yields (.stream 0) (WT streamD [] none) (fun u => wEnds u 8 0x136) &&
  yields (.streamInstanceOpen 0) (ST 1 []) (fun u => decide (u.insts.map (fun x => (x.id, x.stream, x.gen, x.granules, x.x1)) = [(1, 1, 3, 1, 23)]) && decide (u.streamOps = [{ sx 2 with gen := 3 }])) &&
  yields (.streamInstanceOpen 0) (ST 0 []) (fun u => wEnds u 8 0x137) && still (.streamInstanceOpen 0) (ST 3 []) && yields (.streamInstanceOpen 0) (ST 1 (List.replicate 8 (openInst none))) (fun u => decide (u.insts.length = 8)) = true := by decide +kernel
def ownInst (sent : Nat) (f : Option (Byte × W32)) : Inst := { openInst none with op := 0, sent := sent, failed := f }
theorem wit_close : (ST 3 [ownInst 1 none]).findInst 0 = some (ownInst 1 none) ∧ (ownInst 1 none).sent = (ownInst 1 none).granules ∧ (ownInst 0 none).sent ≠ (ownInst 0 none).granules := by decide +kernel
theorem test_close : yields (.streamInstanceClose 0) (ST 3 [ownInst 1 none]) (fun u => wEnds u 0 2 && decide (u.insts.map (fun x => x.ended) = [some (0, 3)])) && still (.streamInstanceClose 0) (ST 3 [ownInst 0 none]) &&
  yields (.streamInstanceClose 0) (ST 3 [ownInst 0 (some (9, 4))]) (fun u => wEnds u 9 4 && decide ((u.pt 0).wgt.aborts = 1)) = true := by decide +kernel

def hkey : ChunkKey := { src := .host (.op 0), page := 0, chunk := 0 }
def okey : ChunkKey := { src := .obj 0 4, page := 0, chunk := 3 }
def fetchOf (k : ChunkKey) (tier : Nat) (relay : Bool) : Fetch := { key := k, n := 0, tier := tier, keep := none, waiters := [.op 0], port := none, reqId := 0, sent := false, cause := 0, failDec := false, failChk := false, relay := relay, busy := false }
def FW1 (f : List Fetch) (l : List (Nat × Relay)) : State := { RY l with fetches := f, portOwner := [(5, 0)], ports := [(5, { phase := .active })] }
/-- A frame of chunk 3 with a raw body of one chunk under no key. -/
def relayFrame (chunk : Nat) : List Byte := List.replicate 28 0 ++ leBytes 4 chunk ++ List.replicate 32 0
theorem wit_frames : (FW1 [fetchOf okey 3 true] [(4, sink)]).relayFetch 0 (relayFrame 3) ≠ none ∧ (FW1 [fetchOf okey 3 true] [(4, sink)]).relayFetch 0 (relayFrame 2) = none ∧ (fetchOf okey 3 true).relay = true ∧ (FW1 [] []).wportFor 0 = some 5 ∧ (FW1 [] [(4, sink)]).windowOpen okey.src = true ∧
    (FW1 [] []).reqOut 5 < (FW1 [] []).proto.reqMax.toNat ∧ ((FW1 [] []).srcObj okey.src).isSome = true ∧ tfind ((FW1 [] [(4, sink)]).pt 0).wgt.relays (4 : Fin 4096).val ≠ none ∧ (fetchOf hkey 4 false).tier = 4 := by decide +kernel
theorem test_frames : yields (.hostFrameReadDone hkey 0 [] none) (FW1 [fetchOf hkey 4 false] []) (fun u => decide (u.fetches = []) && decide (u.passed.map (fun p => (p.key, p.data.length)) = [(hkey, 65536)])) && still (.hostFrameReadDone okey 0 [] none) (FW1 [fetchOf okey 3 false] []) &&
  still (.hostFrameReadDone okey 0 [] none) (FW1 [fetchOf hkey 4 false] []) && yields (.relayFrameReceive 0 (relayFrame 2) none) (FW1 [fetchOf okey 3 true] [(4, sink)]) (fun u => decide ((u.pt 0).wgt.unsolicited = 1) && decide (u.fetches = [fetchOf okey 3 true])) &&
  yields (.relayFrameReceive 0 (relayFrame 3) none) (FW1 [fetchOf okey 3 true] [(4, sink)]) (fun u => decide ((u.pt 0).wgt.relayed = 1)) = true := by decide +kernel
theorem test_relays : yields (.relayFallback okey) (FW1 [fetchOf okey 3 true] [(4, sink)]) (fun u => decide ((u.pt 0).wgt.fallbacks = 1) && decide (u.fetches.map (fun f => (f.relay, f.sent)) = [(false, true)])) && still (.relayFallback okey) (FW1 [fetchOf okey 3 false] []) &&
  yields (.fetchWindowOpen 0 4) (FW1 [fetchOf okey 3 false] [(4, { sink with sink := false })]) (fun u => decide (u.fetches = [{ fetchOf okey 3 false with sent := true, port := some 5, reqId := (FW1 [] []).nextReq }])) && still (.fetchWindowOpen 0 5) (FW1 [fetchOf okey 3 false] [(4, sink)]) = true := by decide +kernel

end Sys2Proof.Tests
end

