-- ==== Sys2Proof/Tests/Slice0.lean ====
section
/-! SUPPORT. Well-formedness refuses an ill-formed command for each check; the step and the state after reset. -/
namespace Sys2Proof.Tests
set_option Elab.async false
open Sys2Proof.Machine

/-! ### Well-formedness: what the spec's size admits, what exceeds it is refused -/

theorem wf_size : WellFormed (.registerWrite (.pf 0) 0x30 8 1) = true ∧ WellFormed (.registerWrite (.pf 0) 0x30 0 1) = false ∧ WellFormed (.registerWrite (.pf 0) 0x30 9 1) = false ∧
    WellFormed (.dumpDataRead 0 0 9) = false := by decide +kernel
theorem wf_message : WellFormed (.rasFence (pm (List.replicate 4096 0))) = true ∧ WellFormed (.rasFence (pm (List.replicate 4097 0))) = false := by decide +kernel
theorem wf_mailbox : WellFormed (.mailboxAccept 0 (some (List.replicate 4160 0))) = true ∧ WellFormed (.mailboxAccept 0 (some (List.replicate 4161 0))) = false := by decide +kernel
theorem wf_payload : WellFormed (.descriptorFetch 0 0 (.got 0 (some (List.replicate 4096 0)))) = true ∧ WellFormed (.descriptorFetch 0 0 (.got 0 (some (List.replicate 4097 0)))) = false := by decide +kernel
def imageOf (n : Nat) : ImageIn := { header := List.replicate n 0, rootKeyHash := 0, sigOk := true, bodyHash := 0 }
theorem wf_image : WellFormed (.bootImageReceive 0 false (imageOf 256) 0) = true ∧ WellFormed (.bootImageReceive 0 false (imageOf 255) 0) = false := by decide +kernel
theorem wf_mirror : WellFormed (.mirrorCopy (.receive 0 0 0 (List.replicate 256 0) 0 false)) = true ∧ WellFormed (.mirrorCopy (.receive 0 0 0 (List.replicate 255 0) 0 false)) = false := by decide +kernel
theorem wf_pulses : WellFormed (.pmbusSdaLow 0 0 (.released 9)) = true ∧ WellFormed (.pmbusSdaLow 0 0 (.released 0)) = false ∧ WellFormed (.pmbusReselect 0 (.released 10)) = false := by decide +kernel
theorem wf_array : WellFormed (.regionBringupStep 0 (.done [(24, 24)] 0) 0) = true ∧ WellFormed (.regionBringupStep 0 (.done [(25, 0)] 0) 0) = false ∧ WellFormed (.regionBringupStep 0 (.failed 1 [(0, 25)]) 0) = false := by decide +kernel
def windowOf (a b : Nat) : RegionWindow := { region := 0, pLog := 0, pSram := 0, pStr := 0, pMif := 0, currents := List.replicate a 0, lnkCurrents := List.replicate b 0, minLog := 0, minLogTick := 0, minSram := 0, minSramTick := 0, means := [] }
theorem wf_window : WellFormed (.pwrDivision [windowOf 4 2] 0 0 0 0 0) = true ∧ WellFormed (.pwrDivision [windowOf 3 2] 0 0 0 0 0) = false ∧ WellFormed (.pwrDivision [windowOf 4 3] 0 0 0 0 0) = false := by decide +kernel
theorem wf_sensors : WellFormed (.voltageLoopStep 0 (List.replicate 16 0) (List.replicate 16 0)) = true ∧ WellFormed (.voltageLoopStep 0 (List.replicate 16 0) []) = false ∧ WellFormed (.droopEngage 0 []) = false ∧
    WellFormed (.thermalSample 0 [0, 0, 0, 0]) = true ∧ WellFormed (.thermalTrip 0 [0, 0, 0]) = false ∧ WellFormed (.params 0 (List.replicate 31 0)) = false := by decide +kernel
def wireOf (n : Nat) : WireFlit := { ok := true, ch := 0, som := true, eom := true, poison := false, key := 0, check := 0, seq := 0, ack := 0, crCh := 0, crCount := 0, data := List.replicate n 0 }
theorem wf_flit : WellFormed (.dataFlitReceive 0 (wireOf 256)) = true ∧ WellFormed (.dataFlitReceive 0 (wireOf 257)) = false := by decide +kernel

/-! ### The step and the state after reset -/

theorem test_step_front : (match Machine.step { M0 with pending := [.pairingTimeout, .leakDetect] } with
    | .next u => decide (u.pending = [.leakDetect]) && !u.mgt.leak
    | _ => false) = true := by decide +kernel
theorem test_step_leak : (match Machine.step { M0 with pending := [.leakDetect] } with
    | .next u => decide (u.pending = []) && u.mgt.leak
    | _ => false) = true := by decide +kernel
theorem test_idle (s : State) (h : s.pending = []) : Machine.step s = .next s := by
  simp [Machine.step, h]
theorem wit_idle : State.reset.pending = [] := rfl
theorem wit_memory_form : State.reset.memOk := by
  unfold State.memOk
  decide +kernel
theorem wit_memory_step : ∃ u, State.reset.memOk ∧ Machine.step State.reset = .next u := ⟨_, wit_memory_form, rfl⟩
theorem test_host_core : Sys2Proof.core.reset = State.reset := rfl
theorem test_no_bits (n w : Nat) : decodeTableWord n w = none := rfl
/-- Two bytes stored out of order stand in the canonical form; 0 removes an entry. -/
theorem test_memory_form : Memory.wf (Memory.writeN [] 7 [3, 0, 5]) = true ∧ Memory.writeN [] 7 [3, 0, 5] = [(7, 3), (9, 5)] ∧ Memory.wf [(9, 5), (7, 3)] = false ∧ Memory.wf [(7, 0)] = false ∧ Memory.write [(7, 3)] 7 0 = [] := by decide +kernel

end Sys2Proof.Tests
end

section
/-! PROOFS. O32: what stands of a region, a mailbox and its function while a region is fenced; rates and stragglers; register accesses. -/
namespace Sys2Proof.Machine

open Host

/-! ### Reading the tables of regions, partitions and links after an update -/

@[simp] theorem State.rg_setR_same (s : State) (i : Nat) (x : Region) : (s.setR i x).rg i = x := tget_tset_same _ _ _ _
theorem State.rg_setR_other (s : State) (i j : Nat) (x : Region) (h : j ≠ i) : (s.setR i x).rg j = s.rg j := by
  simp [State.rg, State.setR, tget_tset_other _ _ _ _ _ h]
@[simp] theorem State.rg_updR_same (s : State) (i : Nat) (f : Region → Region) : (s.updR i f).rg i = f (s.rg i) :=
  s.rg_setR_same i _
theorem State.rg_updR_other (s : State) (i j : Nat) (f : Region → Region) (h : j ≠ i) : (s.updR i f).rg j = s.rg j :=
  s.rg_setR_other i j _ h

@[simp] theorem State.pt_setP_same (s : State) (n : Nat) (x : Partition) : (s.setP n x).pt n = x := tget_tset_same _ _ _ _
theorem State.pt_setP_other (s : State) (n k : Nat) (x : Partition) (h : k ≠ n) : (s.setP n x).pt k = s.pt k := by
  simp [State.pt, State.setP, tget_tset_other _ _ _ _ _ h]

@[simp] theorem State.lk_updL_same (s : State) (k : Nat) (f : HostLink → HostLink) : (s.updL k f).lk k = f (s.lk k) :=
  tget_tset_same _ _ _ _
theorem State.lk_updL_other (s : State) (k j : Nat) (f : HostLink → HostLink) (h : j ≠ k) : (s.updL k f).lk j = s.lk j := by
  simp [State.lk, State.updL, tget_tset_other _ _ _ _ _ h]

/-! ### What stands: the state of each region, the mailbox of each function and whether it may be written to

A fence changes much, but after the region's own record nothing of this. An operation that keeps it has a `standing` lemma. -/

/-- Whether a region is READY or FENCED, and why. -/
def Region.standing (g : Region) : RegionState × BitVec 4 := (g.state, g.fenceCause)

/-- A partition's mailbox, and what makes its function live (02 R68). -/
def Partition.standing (p : Partition) : Mailbox × Bool × Nat := (p.ep.mbx, p.state.isFree, p.hostLink)

/-- A link's mailbox, and what lets its functions write (03 R89). -/
def HostLink.standing (l : HostLink) : Mailbox × Bool × Bool × Bool × BitVec 4 × BitVec 12 :=
  (l.ep.mbx, l.up, l.bme, l.vfEnable, l.numVfs, l.vfBme)

/-- What stands of every region, partition and link. -/
def State.standing (s : State) : (Nat → RegionState × BitVec 4) × (Nat → Mailbox × Bool × Nat) ×
    (Nat → Mailbox × Bool × Bool × Bool × BitVec 4 × BitVec 12) :=
  (fun i => (s.rg i).standing, fun n => (s.pt n).standing, fun k => (s.lk k).standing)

section
variable {s u : State}

theorem State.rg_of_standing (h : u.standing = s.standing) (i : Nat) :
    (u.rg i).state = (s.rg i).state ∧ (u.rg i).fenceCause = (s.rg i).fenceCause :=
  Prod.mk.inj (congrFun (Prod.mk.inj h).1 i)

theorem State.pt_of_standing (h : u.standing = s.standing) (n : Nat) : (u.pt n).standing = (s.pt n).standing :=
  congrFun (Prod.mk.inj (Prod.mk.inj h).2).1 n

theorem State.lk_of_standing (h : u.standing = s.standing) (k : Nat) : (u.lk k).standing = (s.lk k).standing :=
  congrFun (Prod.mk.inj (Prod.mk.inj h).2).2 k

/-- Where the same stands, a function has the same mailbox. -/
theorem State.mbx_of_standing (h : u.standing = s.standing) (ep : Ep) : (u.endpoint ep).mbx = (s.endpoint ep).mbx := by
  cases ep with
  | pf k => exact (Prod.mk.inj (State.lk_of_standing h k)).1
  | vf n => exact (Prod.mk.inj (State.pt_of_standing h n)).1

/-- Where the same stands, the module may write for the same functions. -/
theorem State.canWrite_of_standing (h : u.standing = s.standing) (ep : Ep) : u.canWrite ep = s.canWrite ep := by
  have hl : ∀ k, (u.lk k).standing = (s.lk k).standing := State.lk_of_standing h
  simp only [HostLink.standing, Prod.mk.injEq] at hl
  cases ep with
  | pf k => simp only [State.canWrite, hl]
  | vf n =>
    have hp := State.pt_of_standing h n
    simp only [Partition.standing, Prod.mk.injEq] at hp
    obtain ⟨-, hfree, hlink⟩ := hp
    simp only [State.canWrite, State.vfLive, hl, hfree, hlink]

end

theorem State.setR_standing (s : State) (i : Nat) (x : Region) (h : x.standing = (s.rg i).standing) :
    (s.setR i x).standing = s.standing := by
  refine Prod.ext (funext fun j => ?_) rfl
  by_cases e : j = i
  · subst e; simpa [State.standing] using h
  · simp [State.standing, s.rg_setR_other i j x e]

theorem State.updR_standing (s : State) (i : Nat) (f : Region → Region) (h : (f (s.rg i)).standing = (s.rg i).standing) :
    (s.updR i f).standing = s.standing := s.setR_standing i _ h

theorem State.setP_standing (s : State) (n : Nat) (x : Partition) (h : x.standing = (s.pt n).standing) :
    (s.setP n x).standing = s.standing := by
  refine Prod.ext rfl (Prod.ext (funext fun k => ?_) rfl)
  by_cases e : k = n
  · subst e; simpa [State.standing] using h
  · simp [State.standing, s.pt_setP_other n k x e]

theorem State.updP_standing (s : State) (n : Nat) (f : Partition → Partition) (h : (f (s.pt n)).standing = (s.pt n).standing) :
    (s.updP n f).standing = s.standing := s.setP_standing n _ h

theorem State.updL_standing (s : State) (k : Nat) (f : HostLink → HostLink) (h : (f (s.lk k)).standing = (s.lk k).standing) :
    (s.updL k f).standing = s.standing := by
  refine Prod.ext rfl (Prod.ext rfl (funext fun j => ?_))
  by_cases e : j = k
  · subst e; simp [State.standing, h]
  · simp [State.standing, s.lk_updL_other k j f e]

theorem State.updEp_standing (s : State) (ep : Ep) (f : Endpoint → Endpoint) (h : ∀ x, (f x).mbx = x.mbx) :
    (s.updEp ep f).standing = s.standing := by
  cases ep with
  | pf k => exact s.updL_standing k _ (by simp [HostLink.standing, h])
  | vf n => exact s.updP_standing n _ (by simp [Partition.standing, h])

theorem foldl_keep_standing {β : Type} (g : State → β → State) (l : List β) (s : State)
    (h : ∀ s x, (g s x).standing = s.standing) : (l.foldl g s).standing = s.standing := by
  induction l generalizing s with
  | nil => rfl
  | cons a r ih => rw [List.foldl_cons, ih, h]

/-! ### Operations that keep what stands -/

@[simp] theorem State.postTo_standing (s : State) (ep : Ep) (e : Event) : (s.postTo ep e).standing = s.standing := by
  simp only [State.postTo]
  split
  · split
    · exact s.updEp_standing ep _ (fun _ => rfl)
    · split <;> exact s.updEp_standing ep _ (fun _ => rfl)
  · rfl

@[simp] theorem State.postModule_standing (s : State) (code kind src data : Nat) :
    (s.postModule code kind src data).standing = s.standing := s.postTo_standing _ _

@[simp] theorem State.postPart_standing (s : State) (n code data : Nat) : (s.postPart n code data).standing = s.standing := by
  simp [State.postPart, State.postPartKind]

/-- A reset that begins leaves the partition held, its mailbox and its link (02 R49). -/
@[simp] theorem State.beginReset_standing (s : State) (n cause : Nat) : (s.beginReset n cause).standing = s.standing := by
  simp only [State.beginReset]
  split
  · next h =>
    rw [State.postPart_standing]
    exact s.setP_standing n _ (by simp [Partition.standing, h, PartState.isFree])
  · rfl

@[simp] theorem State.updM_standing (s : State) (n : Nat) (f : PartMem → PartMem) : (s.updM n f).standing = s.standing :=
  s.updP_standing n _ rfl

@[simp] theorem State.updCol_standing (s : State) (n : Nat) (f : PartCol → PartCol) : (s.updCol n f).standing = s.standing :=
  s.updP_standing n _ rfl

@[simp] theorem State.updFab_standing (s : State) (r : Nat) (f : RegionFabric → RegionFabric) :
    (s.updFab r f).standing = s.standing := s.updR_standing r _ rfl

/-! Pages: what a lost region's discards and the quotas keep. -/

@[simp] theorem State.freeSlot_standing (s : State) (ppa : Nat) : (s.freeSlot ppa).standing = s.standing :=
  s.updR_standing _ _ (by dsimp only; split <;> rfl)

@[simp] theorem State.discardCopy_standing (s : State) (n page : Nat) : (s.discardCopy n page).standing = s.standing := by
  unfold State.discardCopy
  split
  · split
    · rw [State.freeSlot_standing]
      exact (State.updP_standing _ _ _ rfl).trans (s.updM_standing n _)
    · rfl
  · rfl

@[simp] theorem State.discardIn_standing (s : State) (n : Nat) (l : List Nat) : (s.discardIn n l).standing = s.standing :=
  foldl_keep_standing _ _ s (fun u e => u.discardCopy_standing n e.1)

@[simp] theorem State.quotaCheck_standing (s : State) (n : Nat) : (s.quotaCheck n).standing = s.standing := by
  refine foldl_keep_standing _ _ s (fun u k => ?_)
  dsimp only
  split
  · rfl
  · split <;> simp

theorem State.withShPages_standing (s : State) (l : List (Nat × SharedPage)) :
    ({ s with shPages := l } : State).standing = s.standing := rfl

@[simp] theorem State.markLost_standing (s : State) (r : Nat) : (s.markLost r).standing = s.standing := by
  simp only [State.markLost]
  rw [foldl_keep_standing State.quotaCheck _ _ State.quotaCheck_standing, State.withShPages_standing]
  refine foldl_keep_standing _ _ s (fun u n => ?_)
  split
  · rfl
  · rw [State.updM_standing, State.discardIn_standing]

@[simp] theorem State.zeroRegionMemory_standing (s : State) (l : List Nat) : (s.zeroRegionMemory l).standing = s.standing := rfl

/-! Ports: what a lost well, its port's requests and the torus keep. -/

@[simp] theorem State.portPump_standing (s : State) (p : Nat) : (s.portPump p).standing = s.standing :=
  foldl_keep_standing _ _ _ (fun _ _ => rfl)

@[simp] theorem State.protoSend_standing (s : State) (p ch mtype reqId server status : Nat) (spec payload : List Byte) :
    (s.protoSend p ch mtype reqId server status spec payload).standing = s.standing := State.portPump_standing _ _

@[simp] theorem State.sendReq_standing (s : State) (k : ChunkKey) : (s.sendReq k).standing = s.standing := by
  unfold State.sendReq
  split
  · split
    · rfl
    · split
      · rfl
      · split
        · rfl
        · exact State.protoSend_standing _ _ _ _ _ _ _ _ _
  · rfl

@[simp] theorem State.stallSync_standing (s : State) : (s.stallSync).standing = s.standing := by
  refine foldl_keep_standing _ _ s (fun u n => ?_)
  dsimp only
  split
  · rfl
  · simp

@[simp] theorem State.reissue_standing (s : State) (p : Nat) : (s.reissue p).standing = s.standing := by
  unfold State.reissue State.sendWaiting
  rw [State.stallSync_standing]
  exact foldl_keep_standing _ _ _ (fun u f => u.sendReq_standing f.key)

@[simp] theorem State.torusDown_standing (s : State) (k : Nat) : (s.torusDown k).standing = s.standing := by
  have h : ∀ f, (s.updTp k f).standing = s.standing := fun _ => rfl
  unfold State.torusDown
  split
  · rfl
  · dsimp only
    split
    · exact h _
    · split <;> simp [h]

@[simp] theorem State.portEvent_standing (s : State) (p code data : Nat) (part : Bool) :
    (s.portEvent p code data part).standing = s.standing := by
  unfold State.portEvent
  dsimp only
  split <;> simp

/-! Collectives: what a squall keeps. -/

@[simp] theorem State.closeOp_standing (s : State) (o : Op) : (s.closeOp o).standing = s.standing := by
  unfold State.closeOp
  rw [State.stallSync_standing]
  dsimp only
  split <;> rfl

@[simp] theorem State.endOp_standing (s : State) (i status detail : Nat) : (s.endOp i status detail).standing = s.standing := rfl

@[simp] theorem State.endRunning_standing (s : State) (i status detail : Nat) :
    (s.endRunning i status detail).standing = s.standing := by
  unfold State.endRunning
  split
  · next o _ =>
    split
    · rw [State.endOp_standing, State.closeOp_standing]
    · rfl
  · rfl

@[simp] theorem State.sramPut_standing (s : State) (t a : Nat) (p : Piece) : (s.sramPut t a p).standing = s.standing := by
  unfold State.sramPut
  dsimp only
  split
  · rfl
  · exact foldl_keep_standing _ _ _ (fun _ _ => rfl)

@[simp] theorem State.touchSlot_standing (s : State) (t off : Nat) : (s.touchSlot t off).standing = s.standing := by
  unfold State.touchSlot
  dsimp only
  split
  · rfl
  · exact State.updR_standing _ _ _ rfl

@[simp] theorem State.slicePut_standing (s : State) (t off : Nat) (p : Piece) : (s.slicePut t off p).1.standing = s.standing := by
  rw [← s.touchSlot_standing t off]
  unfold State.slicePut
  dsimp only
  split
  · split <;> rfl
  · exact foldl_keep_standing _ _ _ (fun _ _ => rfl)

@[simp] theorem State.spoilDst_standing (s : State) (n : Nat) (g : Group) (c : CollRun) :
    (s.spoilDst n g c).standing = s.standing := by
  unfold State.spoilDst
  dsimp only
  split
  · refine foldl_keep_standing _ _ s (fun u i => ?_)
    exact foldl_keep_standing _ _ u (fun v _ => v.sramPut_standing _ _ _)
  · refine foldl_keep_standing _ _ s (fun v k => ?_)
    split
    · split <;> simp
    · rfl

@[simp] theorem State.torEnqueue_standing (s : State) (k : Nat) (p : TorPkt) : (s.torEnqueue k p).standing = s.standing := by
  have h : ∀ (u : State) n, (u.throttleSync n).standing = u.standing := fun u n => by
    unfold State.throttleSync
    dsimp only
    split <;> split <;> rfl
  unfold State.torEnqueue
  dsimp only
  split
  · rw [h]; rfl
  · rfl

@[simp] theorem State.sendSquall_standing (s : State) (n g : Nat) (seq : W32) (detail : Nat) :
    (s.sendSquall n g seq detail).standing = s.standing := by
  refine foldl_keep_standing _ _ s (fun u k => ?_)
  split
  · simp
  · rfl

@[simp] theorem State.squall_standing (s : State) (n g : Nat) (seq : W32) (detail : Nat) :
    (s.squall n g seq detail).standing = s.standing := by
  unfold State.squall
  dsimp only
  rw [State.postPart_standing, State.setGrp, State.updCol_standing, State.sendSquall_standing,
    foldl_keep_standing _ _ _ (fun u i => u.endRunning_standing i _ _)]
  split <;> split <;> simp

@[simp] theorem State.colPortDown_standing (s : State) (k : Nat) : (s.colPortDown k).standing = s.standing := by
  unfold State.colPortDown
  split
  · rfl
  · refine foldl_keep_standing _ _ s (fun u g => ?_)
    dsimp only
    split
    · unfold State.squallHere
      dsimp only
      split
      · rfl
      · simp
    · rfl

/-! Fencing: a port that goes down with its well, the fabric, the routes. -/

@[simp] theorem State.portDown_standing (s : State) (p cause : Nat) : (s.portDown p cause).standing = s.standing := by
  have h : ∀ f, (s.updPort p f).standing = s.standing := fun _ => rfl
  unfold State.portDown State.portLost
  dsimp only
  rw [State.portEvent_standing]
  split
  · rfl
  · split
    · simp [h]
    · split <;> simp [h]

@[simp] theorem State.moveQuarter_standing (s : State) (p q : Nat) : (s.moveQuarter p q).standing = s.standing := by
  unfold State.moveQuarter
  split
  · rfl
  · split <;> rfl

@[simp] theorem State.wellLost_standing (s : State) (r : Nat) : (s.wellLost r).standing = s.standing := by
  simp only [State.wellLost]
  generalize (if (s.rg r).well.use = 1 then (s.rg r).well.port else _) = p
  split
  · rfl
  · split
    · rfl
    · simp

@[simp] theorem State.gradAbort_standing (s : State) (i st detail : Nat) : (s.gradAbort i st detail).standing = s.standing := by
  unfold State.gradAbort
  split
  · split
    · rfl
    · exact State.protoSend_standing _ _ _ _ _ _ _ _ _
  · rfl

@[simp] theorem State.fenceFabric_standing (s : State) (r : Nat) : (s.fenceFabric r).standing = s.standing := by
  unfold State.fenceFabric
  dsimp only
  rw [foldl_keep_standing]
  · split
    · exact State.updFab_standing _ _ _
    · rfl
  · intro u x
    split
    · split
      · simp
      · rfl
    · rfl

@[simp] theorem State.routesChange_standing (s : State) (cause : Nat) : (s.routesChange cause).standing = s.standing := by
  unfold State.routesChange
  split <;> rfl

/-! ### A fence and its reply (01 R33, 18 R561; 15 R476, R481) -/

/-- The record a region takes as it becomes FENCED. -/
def Region.fencedAs (g : Region) (cause : Nat) (rails : Rails) : Region :=
  { g with
    state := .fenced, fenceCause := BitVec.ofNat 4 cause,
    osc := { ({} : Osc) with classChanges := g.osc.classChanges, pulls := g.osc.pulls },
    pwr := { g.pwr with rails := rails, alertLull := false, thermalLull := false },
    wellPowered := g.wellPowered && rails.vlnk,
    flt := { g.flt with straggler := false, below := 0, above := 0, rate1 := 0, rate100 := 0, windows := [], rateSum := 0, rateN := 0 } }

/-- After the region's own record, a fence changes nothing that stands. -/
theorem State.fence_standing (s : State) (i cause : Nat) (collapse : Bool) :
    (s.fence i cause collapse).standing =
      (s.updR i (fun x => x.fencedAs cause ((s.rg i).fencedRails cause collapse))).standing := by
  unfold State.fence
  dsimp only
  (repeat' split) <;>
    simp only [State.routesChange_standing, State.fenceFabric_standing, State.postPart_standing, State.beginReset_standing,
      State.wellLost_standing, State.markLost_standing, State.zeroRegionMemory_standing] <;> rfl

theorem State.fence_minor (s : State) (i cause : Nat) (collapse : Bool) :
    (s.fence i cause collapse).fw.minor = s.fw.minor := by
  unfold State.fence
  dsimp only
  (repeat' split) <;> simp

/-- A fenced region is FENCED for that cause. -/
theorem State.fence_rg (s : State) (i cause : Nat) (collapse : Bool) :
    ((s.fence i cause collapse).rg i).state = .fenced ∧ ((s.fence i cause collapse).rg i).fenceCause = BitVec.ofNat 4 cause := by
  have h := State.rg_of_standing (s.fence_standing i cause collapse) i
  rwa [State.rg_updR_same] at h

/-- A fence leaves every mailbox, and the functions the module may write for. -/
theorem State.fence_reaches (s : State) (i cause : Nat) (collapse : Bool) (ep : Ep) :
    ((s.fence i cause collapse).endpoint ep).mbx = (s.endpoint ep).mbx ∧ (s.fence i cause collapse).canWrite ep = s.canWrite ep := by
  have h := s.fence_standing i cause collapse
  refine ⟨(State.mbx_of_standing h ep).trans ?_, (State.canWrite_of_standing h ep).trans ?_⟩ <;> cases ep <;> rfl

/-- A reply sent from `u` goes where, and says what, it would from `s`. -/
def State.repliesAs (u s : State) : Prop :=
  (∀ ep, (u.endpoint ep).mbx = (s.endpoint ep).mbx ∧ u.canWrite ep = s.canWrite ep) ∧ u.fw.minor = s.fw.minor ∧ u.tick = s.tick

theorem State.takeMsg_repliesAs (s : State) (id : Nat) (m : Msg) : (s.takeMsg id m).repliesAs s :=
  ⟨fun ep => by cases ep <;> exact ⟨rfl, rfl⟩, rfl, rfl⟩

theorem State.faultFence_repliesAs {s u : State} (h : u.repliesAs s) (i : Nat) (collapse : Bool) :
    (u.faultFence i collapse).repliesAs s := by
  obtain ⟨hep, hminor, htick⟩ := h
  refine ⟨fun ep => ?_, ?_, ?_⟩
  · have hpost := State.postModule_standing { u with ras := { u.ras with faultFenced := satInc u.ras.faultFenced } }
    obtain ⟨hmbx, hcan⟩ := State.fence_reaches _ i 8 collapse ep
    refine ⟨(hmbx.trans (State.mbx_of_standing (hpost ..) ep)).trans ((?_ : _ = _).trans (hep ep).1),
      (hcan.trans (State.canWrite_of_standing (hpost ..) ep)).trans ((?_ : _ = _).trans (hep ep).2)⟩ <;> cases ep <;> rfl
  · simp [State.faultFence, State.fence_minor, hminor]
  · simpa [State.tick] using htick

/-- What a reply does: it stands where the message's sender reads it. -/
theorem State.reply_replied {s u : State} (h : u.repliesAs s) (m : Msg) (id handler result : Nat) (payload : List Byte) :
    s.replied (u.reply m id handler result payload) m id handler result payload := by
  obtain ⟨hep, hminor, htick⟩ := h
  unfold State.replied State.reply
  dsimp only
  cases m.sender with
  | mbx f =>
    obtain ⟨hmbx, hcan⟩ := hep (mbxEp f)
    intro hen hwrite
    simp [State.replyDue, State.writeReply, hmbx, hcan, hen, hwrite, hminor, htick]
  | _ => exact List.mem_cons_self

theorem State.updEp_rgn (s : State) (ep : Ep) (f : Endpoint → Endpoint) : (s.updEp ep f).rgn = s.rgn := by cases ep <;> rfl

theorem State.postTo_rgn (s : State) (ep : Ep) (e : Event) : (s.postTo ep e).rgn = s.rgn := by
  simp only [State.postTo]
  split
  · split
    · exact s.updEp_rgn ep _
    · split <;> exact s.updEp_rgn ep _
  · rfl

theorem State.postPart_rgn (s : State) (n code data : Nat) : (s.postPart n code data).rgn = s.rgn := by
  simp [State.postPart, State.postPartKind, State.postTo_rgn]

/-- A reply leaves every region. -/
theorem State.reply_rgn (s : State) (m : Msg) (id handler result : Nat) (payload : List Byte) :
    (s.reply m id handler result payload).rgn = s.rgn := by
  unfold State.reply
  dsimp only
  split
  · unfold State.replyDue
    split
    · split
      · exact s.updEp_rgn _ _
      · exact s.updEp_rgn _ _
    · exact (State.postTo_rgn _ _ _).trans (s.updEp_rgn _ _)
  · rfl

theorem State.reply_rg (s : State) (m : Msg) (id handler result : Nat) (payload : List Byte) (i : Nat) :
    (s.reply m id handler result payload).rg i = s.rg i := by
  rw [State.rg, State.reply_rgn, ← State.rg]

/-- A core that can handle a message takes it from its queue and acts. -/
theorem State.handle_ready (s : State) (c : CoreId) (id : Nat) (m : Msg) (f : State → State) (h : s.canHandle c id) :
    s.handle c id m f = .next (f (s.takeMsg id m)) := by
  obtain ⟨hrun, hphase⟩ := h
  have hready : (s.fabricReady || !heldBlock id) = true := by
    rcases hphase with h | h | h | h | h <;> simp [State.fabricReady, heldBlock, h]
  rw [State.handle, if_pos]
  · rfl
  · simp [State.coreRuns, hrun, hready]

/-- RAS_FENCE's effect once SCH has taken it, case by case in the order of its checks (18 R561). -/
def State.rasFenceEffect (t : State) (m : Msg) : State :=
  if !t.isPriv m then t.reply m 0x1201 2 rNotPermitted []
  else if 143 < m.u8 0 then t.reply m 0x1201 2 rBadArgument []
  else if (t.rg (m.u8 0)).state ≠ .ready then t.reply m 0x1201 2 rBusy []
  else (t.faultFence (m.u8 0) false).reply m 0x1201 2 rOK []

theorem exec_rasFence (s : State) (m : Msg) (h : s.canHandle .sch 0x1201) :
    exec (.rasFence m) s = .next ((s.takeMsg 0x1201 m).rasFenceEffect m) :=
  s.handle_ready .sch 0x1201 m (fun t => t.rasFenceEffect m) h

/-- RAS_FENCE answered with a result alone: nothing of the regions changes. -/
theorem rasFence_answers (s : State) (m : Msg) (result : Nat) (h : s.canHandle .sch 0x1201)
    (he : (s.takeMsg 0x1201 m).rasFenceEffect m = (s.takeMsg 0x1201 m).reply m 0x1201 2 result []) :
    Completes (.rasFence m) s (fun u => u.rgn = s.rgn ∧ s.replied u m 0x1201 2 result []) :=
  ⟨_, exec_rasFence s m h, by rw [he]; exact ⟨State.reply_rgn .., State.reply_replied (s.takeMsg_repliesAs _ m) ..⟩⟩

/-- RAS_FENCE from the privileged host for a READY region: it is fenced with FAULT_FENCE and the sender learns it. -/
theorem rasFence_fences (s : State) (m : Msg) (h : s.canHandle .sch 0x1201) (hpriv : s.isPriv m = true) (hr : m.u8 0 ≤ 143)
    (hready : (s.rg (m.u8 0)).state = .ready) :
    Completes (.rasFence m) s (fun u => (u.rg (m.u8 0)).state = .fenced ∧ (u.rg (m.u8 0)).fenceCause = 8 ∧
      u.ras.faultFenced = satInc s.ras.faultFenced ∧ s.replied u m 0x1201 2 0 []) := by
  have hpriv' : (s.takeMsg 0x1201 m).isPriv m = true := hpriv
  have hready' : ((s.takeMsg 0x1201 m).rg (m.u8 0)).state = .ready := hready
  have he : (s.takeMsg 0x1201 m).rasFenceEffect m = ((s.takeMsg 0x1201 m).faultFence (m.u8 0) false).reply m 0x1201 2 rOK [] := by
    simp [State.rasFenceEffect, hpriv', hready', Nat.not_lt.mpr hr]
  refine ⟨_, exec_rasFence s m h, ?_⟩
  simp only [he, State.reply_rg]
  obtain ⟨hstate, hcause⟩ := State.fence_rg _ (m.u8 0) 8 false
  refine ⟨hstate, hcause, ?_, State.reply_replied (State.faultFence_repliesAs (s.takeMsg_repliesAs _ m) _ _) ..⟩
  simp [State.faultFence]

/-! ### A region's window (18 R564) -/

theorem exec_rateWindow (s : State) (r : Fin 144) : exec (.rateWindow r) s = .next (s.updR r (fun g => g.window (s.duty r))) := rfl

/-- The mean of one window. -/
theorem meanRate_singleton (a b : Nat) : meanRate [(a, b)] = a * 1024 / (b * 240) := by
  simp [meanRate, addFrac]

theorem Region.window_not_ready (g : Region) (duty : Nat) (h : g.state ≠ .ready) :
    g.window duty = { g with
      osc := { g.osc with pullPosted := false }, pwr := { g.pwr with alertPosted := false, thermalPosted := false } } := by
  simp [Region.window, h]

/-- A window of a READY region that counted: its rate, one window more of at most 100, the sums begin again. -/
theorem Region.window_ready (g : Region) (duty : Nat) (h : g.state = .ready) (hn : 0 < g.flt.rateN) :
    (g.window duty).flt.rate1 = BitVec.ofNat 11 (g.flt.rateSum * 1024 / (g.flt.rateN * 240)) ∧
    (g.window duty).flt.windows.length = min 100 (g.flt.windows.length + 1) ∧ (g.window duty).flt.rateSum = 0 ∧
    (g.window duty).flt.rateN = 0 ∧ (g.window duty).flt.straggler = g.flt.straggler ∧ (g.window duty).state = .ready := by
  have hlen : g.flt.windows.length + 1 - (g.flt.windows.length - 99) = min 100 (g.flt.windows.length + 1) := by omega
  simp [Region.window, h, Nat.ne_of_gt hn, meanRate_singleton, hlen]

/-! ### Stragglers (18 R565) -/

/-- A region judged against the median `m` with a margin of `pct` per cent. -/
def Region.judged (m pct : Nat) (g : Region) : Region :=
  let v := g.flt.rate100.toNat
  let below := if v * 100 < m * (100 - pct) then g.flt.below + 1 else 0
  let above := if m * (200 - pct) ≤ v * 200 then g.flt.above + 1 else 0
  { g with flt :=
      if g.flt.straggler = false ∧ 3 ≤ below then { g.flt with straggler := true, below := 0, above := 0 }
      else if g.flt.straggler = true ∧ 3 ≤ above then { g.flt with straggler := false, below := 0, above := 0 }
      else { g.flt with below := below, above := above } }

theorem State.rg_postPart (s : State) (n code data i : Nat) : (s.postPart n code data).rg i = s.rg i := by
  rw [State.rg, State.postPart_rgn, ← State.rg]

theorem State.straggle_rg_same (s : State) (n m r : Nat) :
    (s.straggle n m r).rg r = (s.rg r).judged m s.ras.marginPct.toNat := by
  simp only [State.straggle, Region.judged, Bool.not_eq_true']
  generalize (if (_ : Nat) < _ then (s.rg r).flt.below + 1 else 0) = below
  generalize (if (_ : Nat) ≤ _ then (s.rg r).flt.above + 1 else 0) = above
  split
  · rw [State.rg_postPart, State.rg_updR_same]
  · split
    · rw [State.rg_postPart, State.rg_updR_same]
    · rw [State.rg_updR_same]

theorem State.straggle_rg_other (s : State) (n m r i : Nat) (h : i ≠ r) : (s.straggle n m r).rg i = s.rg i := by
  simp only [State.straggle]
  generalize (if (_ : Nat) < _ then (s.rg r).flt.below + 1 else 0) = below
  generalize (if (_ : Nat) ≤ _ then (s.rg r).flt.above + 1 else 0) = above
  split
  · rw [State.rg_postPart, State.rg_updR_other _ _ _ _ h]
  · split
    · rw [State.rg_postPart, State.rg_updR_other _ _ _ _ h]
    · rw [State.rg_updR_other _ _ _ _ h]

/-- A check judges each region as often as it is listed. -/
theorem foldl_straggle_rg (n m : Nat) (l : List Nat) (s : State) (i : Nat) :
    (l.foldl (fun (u : State) r => u.straggle n m r) s).rg i = (Region.judged m s.ras.marginPct.toNat)^[l.count i] (s.rg i) := by
  induction l generalizing s with
  | nil => rfl
  | cons r l ih =>
    have hras : (s.straggle n m r).ras = s.ras := by simp
    rw [List.foldl_cons, ih, hras]
    by_cases e : r = i
    · subst e
      rw [State.straggle_rg_same, List.count_cons_self, Function.iterate_succ_apply]
    · rw [State.straggle_rg_other _ _ _ _ _ (Ne.symm e), List.count_cons_of_ne e]

theorem foldl_straggle_memSame (n m : Nat) (l : List Nat) (s : State) :
    s.memSame (l.foldl (fun (u : State) r => u.straggle n m r) s) := by
  simp [State.memSame]

section
variable {m pct : Nat} {g : Region}

theorem Region.judged_keeps : (g.judged m pct).flt.rate100 = g.flt.rate100 ∧ (g.judged m pct).state = g.state := by
  simp only [Region.judged, and_true]
  generalize (if (_ : Nat) < _ then g.flt.below + 1 else 0) = below
  generalize (if (_ : Nat) ≤ _ then g.flt.above + 1 else 0) = above
  split
  · rfl
  · split <;> rfl

theorem Region.judged_falls (hs : g.flt.straggler = false) (hv : g.flt.rate100.toNat * 100 < m * (100 - pct)) (hb : 2 ≤ g.flt.below) :
    (g.judged m pct).flt.straggler = true := by
  simp [Region.judged, hs, hv, hb]

theorem Region.judged_healthy (hs : g.flt.straggler = false) (hv : m * (100 - pct) ≤ g.flt.rate100.toNat * 100) :
    (g.judged m pct).flt.straggler = false ∧ (g.judged m pct).flt.below = 0 := by
  simp [Region.judged, hs, Nat.not_lt.mpr hv]

theorem Region.judged_recovers (hs : g.flt.straggler = true) (hv : m * (200 - pct) ≤ g.flt.rate100.toNat * 200) (ha : 2 ≤ g.flt.above) :
    (g.judged m pct).flt.straggler = false := by
  simp [Region.judged, hs, hv, ha]

theorem Region.judged_slow (hs : g.flt.straggler = true) (hv : g.flt.rate100.toNat * 200 < m * (200 - pct)) :
    (g.judged m pct).flt.straggler = true ∧ (g.judged m pct).flt.above = 0 := by
  simp [Region.judged, hs, Nat.not_le.mpr hv]

end

/-- Judging once or more, where judging keeps what it establishes: the region's rate is its own throughout. -/
theorem judged_iterate {m pct k : Nat} {g : Region} (P : Region → Prop) (hk : 0 < k) (h1 : P (g.judged m pct))
    (hP : ∀ x : Region, x.flt.rate100 = g.flt.rate100 → P x → P (x.judged m pct)) : P ((Region.judged m pct)^[k] g) := by
  obtain ⟨k, rfl⟩ := Nat.exists_eq_succ_of_ne_zero hk.ne'
  rw [Function.iterate_succ_apply]
  have h : ∀ x : Region, x.flt.rate100 = g.flt.rate100 ∧ P x →
      (x.judged m pct).flt.rate100 = g.flt.rate100 ∧ P (x.judged m pct) :=
    fun x ⟨hr, hx⟩ => ⟨Region.judged_keeps.1.trans hr, hP x hr hx⟩
  exact (Function.Iterate.rec (fun x => x.flt.rate100 = g.flt.rate100 ∧ P x) ⟨Region.judged_keeps.1, h1⟩ h k).2

/-- What a check leaves in a READY region's record `x`, which was `g` (18 R565). -/
def stragglerOutcome (m pct : Nat) (g x : Region) : Prop :=
  let rate := g.flt.rate100.toNat
  (g.flt.straggler = false → rate * 100 < m * (100 - pct) → 2 ≤ g.flt.below → x.flt.straggler = true) ∧
  (g.flt.straggler = false → m * (100 - pct) ≤ rate * 100 → x.flt.straggler = false ∧ x.flt.below = 0) ∧
  (g.flt.straggler = true → m * (200 - pct) ≤ rate * 200 → 2 ≤ g.flt.above → x.flt.straggler = false) ∧
  (g.flt.straggler = true → rate * 200 < m * (200 - pct) → x.flt.straggler = true ∧ x.flt.above = 0) ∧
  x.flt.rate100 = g.flt.rate100 ∧ x.state = g.state

/-- A region listed more than once is judged again, and the later verdicts agree with the first: a region that falls stays below
half the margin, one that recovers stays above the whole margin. -/
theorem stragglerOutcome_iterate {m pct k : Nat} (hk : 0 < k) (g : Region) :
    stragglerOutcome m pct g ((Region.judged m pct)^[k] g) := by
  have hmargins : 2 * (m * (100 - pct)) ≤ m * (200 - pct) := by
    rw [Nat.mul_left_comm]
    exact Nat.mul_le_mul_left m (by omega)
  refine ⟨fun hs hv hb => ?_, fun hs hv => ?_, fun hs hv ha => ?_, fun hs hv => ?_, ?_, ?_⟩
  · exact judged_iterate (fun x => x.flt.straggler = true) hk (Region.judged_falls hs hv hb)
      (fun x hr hx => (Region.judged_slow hx (by rw [hr]; omega)).1)
  · exact judged_iterate (fun x => x.flt.straggler = false ∧ x.flt.below = 0) hk (Region.judged_healthy hs hv)
      (fun x hr hx => Region.judged_healthy hx.1 (by rwa [hr]))
  · exact judged_iterate (fun x => x.flt.straggler = false) hk (Region.judged_recovers hs hv ha)
      (fun x hr hx => (Region.judged_healthy hx (by rw [hr]; omega)).1)
  · exact judged_iterate (fun x => x.flt.straggler = true ∧ x.flt.above = 0) hk (Region.judged_slow hs hv)
      (fun x hr hx => Region.judged_slow hx.1 (by rwa [hr]))
  · exact judged_iterate (fun x => x.flt.rate100 = g.flt.rate100) hk Region.judged_keeps.1
      (fun _ _ hx => Region.judged_keeps.1.trans hx)
  · exact judged_iterate (fun x => x.state = g.state) hk Region.judged_keeps.2 (fun _ _ hx => Region.judged_keeps.2.trans hx)

/-- The state after a check that judges. -/
def State.stragglersJudged (s : State) (n : Nat) : State :=
  (s.readyRegions n).foldl (fun (u : State) r => u.straggle n (median ((s.readyRegions n).map (fun i => (s.rg i).flt.rate100.toNat))) r) s

/-- A partition held by nobody, of fewer than two regions or with none READY is not judged. -/
theorem exec_stragglerCheck_idle (s : State) (n : Fin 12)
    (h : (s.pt n).state = .free ∨ (s.pt n).regions.length < 2 ∨ s.readyRegions n = []) : exec (.stragglerCheck n) s = .next s := by
  have hc : (s.pt n).state.isFree = true ∨ (s.pt n).regions.length < 2 ∨ (s.readyRegions n).isEmpty = true := by
    rcases h with h | h | h <;> simp [h, PartState.isFree]
  exact congrArg Outcome.next (if_pos hc)

theorem exec_stragglerCheck (s : State) (n : Fin 12) (hfree : (s.pt n).state ≠ .free) (hlen : 2 ≤ (s.pt n).regions.length)
    (hl : s.readyRegions n ≠ []) : exec (.stragglerCheck n) s = .next (s.stragglersJudged n) := by
  have hheld : (s.pt n).state.isFree = false := by
    cases h : (s.pt n).state with
    | free => exact absurd h hfree
    | _ => rfl
  have hc : ¬ ((s.pt n).state.isFree = true ∨ (s.pt n).regions.length < 2 ∨ (s.readyRegions n).isEmpty = true) := by
    simp [hheld, hl, Nat.lt_iff_add_one_le, hlen]
  exact congrArg Outcome.next (if_neg hc)

theorem State.readyRegions_ready (s : State) (n i : Nat) (h : i ∈ s.readyRegions n) : (s.rg i).state = .ready := by
  simpa using (List.mem_filter.mp h).2

/-! ### Accesses of registers (00 R14-R18) -/

theorem exec_registerWrite_pf (s : State) (k : Fin 4) (off : BitVec 24) (size : Nat) (v : W64) (a : Nat) (mask : W64)
    (h : accessOf off.toNat size = some (a, mask)) :
    exec (.registerWrite (.pf k) off size v) s = .next (s.writePf k a mask (if off.toNat % 8 = 4 then v <<< 32 else v)) := by
  refine congrArg Outcome.next ?_
  rw [h]

/-- An access that is not 32 or 64 bits, naturally aligned, writes nothing (00 R18). -/
theorem exec_registerWrite_misfit (s : State) (fn : Fn) (off : BitVec 24) (size : Nat) (v : W64) (h : accessOf off.toNat size = none) :
    exec (.registerWrite fn off size v) s = .next s := by
  refine congrArg Outcome.next ?_
  rw [h]

theorem accessOf_eight (off : Nat) (h : off % 8 ≠ 0) : accessOf off 8 = none := by simp [accessOf, h]
theorem accessOf_two (off : Nat) : accessOf off 2 = none := by simp [accessOf]
theorem accessOf_four (off : Nat) (h : off % 4 ≠ 0) : accessOf off 4 = none := by
  have h0 : off % 8 ≠ 0 := by omega
  have h4 : off % 8 ≠ 4 := by omega
  simp [accessOf, h0, h4]

theorem State.writePf_scratch (s : State) (k : Fin 4) (mask v : W64) (h : s.priv = .pf k) :
    s.writePf k 0x30 mask v = { s with scratch := mergeBits s.scratch mask v } := by
  simp [State.writePf, State.writePriv, h]

theorem State.writePf_target (s : State) (k : Fin 4) (v : W64) (h : s.priv = .pf k) :
    s.writePf k 0xC0008 (BitVec.allOnes 64) v =
      if 70 ≤ v.toNat % 256 ∧ v.toNat % 256 ≤ 90 then s.updPwr (fun p => { p with targetC := v.extractLsb' 0 8 }) else s := by
  simp [State.writePf, State.writePriv, State.writeLow, field, h]

/-- A physical function that is not the privileged one writes nothing outside the blocks of endpoints and firmware. -/
theorem State.writePf_other (s : State) (k : Fin 4) (a : Nat) (mask v : W64) (h : s.priv ≠ .pf k)
    (ha : a < 0x10000 ∨ 0x50000 ≤ a) : s.writePf k a mask v = s := by
  rw [State.writePf, if_neg (by omega), if_neg (by omega), if_neg (by simpa using h)]

theorem exec_rsLowHalfRead_none (s : State) (fn : Fn) (off : BitVec 24) (h : off.toNat % 8 ≠ 0 ∨ s.rsSeen fn off.toNat = none) :
    exec (.rsLowHalfRead fn off) s = .next s := by
  refine congrArg Outcome.next ?_
  rcases h with h | h
  · rw [if_pos h]
  · rw [h]; simp

theorem exec_rsLowHalfRead (s : State) (fn : Fn) (off : BitVec 24) (v : Nat) (ha : off.toNat % 8 = 0) (h : s.rsSeen fn off.toNat = some v) :
    exec (.rsLowHalfRead fn off) s = .next { s with
      rsShadow := tset s.rsShadow (fn.index * 2 ^ 25 + off.toNat) ((BitVec.ofNat 64 v).extractLsb' 32 32)
      out := .readValue fn off (BitVec.ofNat 64 v &&& 0xFFFFFFFF) :: s.out } := by
  refine congrArg Outcome.next ?_
  rw [if_neg (by simpa using ha), h]
  rfl

/-- A write of the privileged host to SCRATCH, whole or by halves, and to TARGET_C (00 R14, R18; 16 T16.5). -/
theorem exec_registerWrite_privileged (s : State) (k : Fin 4) (v : W64) (h : s.priv = .pf k) :
    exec (.registerWrite (.pf k) 0x30 8 v) s = .next { s with scratch := v } ∧
    exec (.registerWrite (.pf k) 0x30 4 v) s =
      .next { s with scratch := (s.scratch &&& 0xFFFFFFFF00000000) ||| (v &&& 0xFFFFFFFF) } ∧
    exec (.registerWrite (.pf k) 0x34 4 v) s = .next { s with scratch := (s.scratch &&& 0xFFFFFFFF) ||| (v <<< 32) } ∧
    exec (.registerWrite (.pf k) 0xC0008 8 v) s =
      .next (if 70 ≤ v.toNat % 256 ∧ v.toNat % 256 ≤ 90 then s.updPwr (fun p => { p with targetC := v.extractLsb' 0 8 }) else s) := by
  have hhalf : (0xFFFFFFFF00000000 : W64) = BitVec.allOnes 64 <<< 32 := by decide
  have hshift : v <<< 32 &&& (0xFFFFFFFF00000000 : W64) = v <<< 32 := by
    rw [hhalf, ← BitVec.shiftLeft_and_distrib, BitVec.and_allOnes]
  refine ⟨?_, ?_, ?_, ?_⟩
  · rw [exec_registerWrite_pf s k 0x30 8 v 0x30 (BitVec.allOnes 64) rfl, State.writePf_scratch s k _ _ h]
    rw [if_neg (by decide), mergeBits, BitVec.not_allOnes, BitVec.and_zero, BitVec.zero_or, BitVec.and_allOnes]
  · rw [exec_registerWrite_pf s k 0x30 4 v 0x30 0xFFFFFFFF rfl, State.writePf_scratch s k _ _ h]
    rfl
  · rw [exec_registerWrite_pf s k 0x34 4 v 0x30 0xFFFFFFFF00000000 rfl, State.writePf_scratch s k _ _ h,
      if_pos (by decide), mergeBits, hshift]
    rfl
  · rw [exec_registerWrite_pf s k 0xC0008 8 v 0xC0008 (BitVec.allOnes 64) rfl, if_neg (by decide), State.writePf_target s k v h]

theorem exec_registerWrite_unprivileged (s : State) (k : Fin 4) (v : W64) (h : s.priv ≠ .pf k) :
    exec (.registerWrite (.pf k) 0x30 8 v) s = .next s ∧ exec (.registerWrite (.pf k) 0xC0008 8 v) s = .next s := by
  constructor
  · rw [exec_registerWrite_pf s k 0x30 8 v 0x30 (BitVec.allOnes 64) rfl, State.writePf_other s k _ _ _ h (by decide)]
  · rw [exec_registerWrite_pf s k 0xC0008 8 v 0xC0008 (BitVec.allOnes 64) rfl, State.writePf_other s k _ _ _ h (by decide)]

/-- A read of the low half of the cadence count gives it and latches the high half (00 R15). -/
theorem exec_rsLowHalfRead_cadence (s : State) (k : Fin 4) :
    exec (.rsLowHalfRead (.pf k) 0x28) s = .next { s with
      rsShadow := tset s.rsShadow (k.val * 2 ^ 25 + 0x28) ((s.cad.count.setWidth 64 >>> 32).setWidth 32)
      out := .readValue (.pf k) 0x28 (s.cad.count.setWidth 64 &&& 0xFFFFFFFF) :: s.out } := by
  have hhigh : s.cad.count.extractLsb' 32 32 = (s.cad.count >>> 32).setWidth 32 := BitVec.eq_of_toNat_eq (by simp)
  rw [exec_rsLowHalfRead s (.pf k) 0x28 s.cad.count.toNat rfl rfl, BitVec.ofNat_toNat, BitVec.setWidth_eq, hhigh]
  rfl

theorem exec_rateWindow_ready (s : State) (r : Fin 144) (h : (s.rg r).state = .ready) (hn : 0 < (s.rg r).flt.rateN) :
    Completes (.rateWindow r) s (fun u =>
      (u.rg r).flt.rate1 = BitVec.ofNat 11 ((s.rg r).flt.rateSum * 1024 / ((s.rg r).flt.rateN * 240)) ∧
      (u.rg r).flt.windows.length = min 100 ((s.rg r).flt.windows.length + 1) ∧ (u.rg r).flt.rateSum = 0 ∧ (u.rg r).flt.rateN = 0 ∧
      (u.rg r).flt.straggler = (s.rg r).flt.straggler ∧ (u.rg r).state = .ready ∧ ∀ j, j ≠ r.val → u.rg j = s.rg j) := by
  obtain ⟨hrate, hlen, hsum, hcount, hslow, hstate⟩ := Region.window_ready (s.rg r) (s.duty r) h hn
  refine ⟨_, exec_rateWindow s r, ?_⟩
  simp only [State.rg_updR_same]
  exact ⟨hrate, hlen, hsum, hcount, hslow, hstate, fun j hj => State.rg_updR_other _ _ _ _ hj⟩

theorem exec_rateWindow_not_ready (s : State) (r : Fin 144) (h : (s.rg r).state ≠ .ready) :
    exec (.rateWindow r) s = .next (s.updR r (fun x => { x with
      osc := { x.osc with pullPosted := false }, pwr := { x.pwr with alertPosted := false, thermalPosted := false } })) := by
  rw [exec_rateWindow]
  exact congrArg (fun x => Outcome.next (s.setR r x)) (Region.window_not_ready (s.rg r) (s.duty r) h)

/-- A check of a partition: every READY region judged against the median, the others and the memories as they were (18 R565). -/
theorem stragglersJudged_outcome (s : State) (n : Nat) :
    let l := s.readyRegions n
    (∀ i ∈ l, stragglerOutcome (median (l.map (fun i => (s.rg i).flt.rate100.toNat))) s.ras.marginPct.toNat (s.rg i)
      ((s.stragglersJudged n).rg i)) ∧
    (∀ i, i ∉ l → (s.stragglersJudged n).rg i = s.rg i) ∧ s.memSame (s.stragglersJudged n) := by
  refine ⟨fun i hi => ?_, fun i hi => ?_, foldl_straggle_memSame _ _ _ s⟩
  · rw [State.stragglersJudged, foldl_straggle_rg]
    exact stragglerOutcome_iterate (List.count_pos_iff.mpr hi) (s.rg i)
  · rw [State.stragglersJudged, foldl_straggle_rg, List.count_eq_zero_of_not_mem hi]
    rfl

/-- Settles O32: register accesses by the access and the register it touches, a window by its lengths and sums, stragglers by the
repeated judgement of one region, RAS_FENCE by what stands through a fence. -/
theorem registersRatesAndFences : Obligations.RegistersRatesAndFences := by
  refine ⟨fun s k v => ⟨fun h => ?_, exec_registerWrite_unprivileged s k v, fun fn off => ?_, exec_rsLowHalfRead_cadence s k, ?_⟩,
    fun s => ⟨fun r => ⟨exec_rateWindow_not_ready s r, exec_rateWindow_ready s r⟩,
      fun n => ⟨exec_stragglerCheck_idle s n, fun hfree hlen hl => ?_⟩,
      fun m h => ⟨fun hp hr hg => ?_, fun hp hr hg => ?_, fun hp hr => ?_, fun hp => ?_⟩⟩⟩
  · obtain ⟨hwhole, hlow, hhigh, htarget⟩ := exec_registerWrite_privileged s k v h
    refine ⟨hwhole, hlow, hhigh, fun h70 h90 => ?_, fun hout => ?_⟩
    · rw [htarget, if_pos ⟨h70, h90⟩]
      rfl
    · rw [htarget, if_neg (by omega)]
  · exact ⟨fun h => exec_registerWrite_misfit s fn off 8 v (accessOf_eight _ h),
      fun h => exec_registerWrite_misfit s fn off 4 v (accessOf_four _ h),
      exec_registerWrite_misfit s fn off 2 v (accessOf_two _), fun h => exec_rsLowHalfRead_none s fn off (.inl h)⟩
  · exact exec_rsLowHalfRead_none s (.pf k) 0x30 (.inr rfl)
  · obtain ⟨hlisted, hothers, hmem⟩ := stragglersJudged_outcome s n
    refine ⟨_, exec_stragglerCheck s n hfree hlen hl, fun i hi => ?_, hothers, hmem⟩
    obtain ⟨hfalls, hhealthy, hrecovers, hslow, hrate, hstate⟩ := hlisted i hi
    exact ⟨hfalls, hhealthy, hrecovers, hslow, hrate, hstate.trans (s.readyRegions_ready n i hi)⟩
  · exact rasFence_fences s m h hp hr hg
  all_goals have hp' : (s.takeMsg 0x1201 m).isPriv m = s.isPriv m := rfl
  · refine rasFence_answers s m 4 h ?_
    have hg' : ((s.takeMsg 0x1201 m).rg (m.u8 0)).state ≠ .ready := hg
    simp [State.rasFenceEffect, hp', hp, Nat.not_lt.mpr hr, hg', rBusy]
  · exact rasFence_answers s m 1 h (by simp [State.rasFenceEffect, hp', hp, hr, rBadArgument])
  · exact rasFence_answers s m 5 h (by simp [State.rasFenceEffect, hp', hp, rNotPermitted])

end Sys2Proof.Machine
end

section
/-! PROOFS. O34: the scrub that begins as a region becomes READY, the squall that a fence of the front starts, and the state in which the
squall ends the scrub. -/
namespace Sys2Proof.Machine

open Host

/-! ### The scrub of a region (17 R545) -/

theorem insertNat_perm (l : List Nat) (k : Nat) (h : k ∉ l) : (insertNat l k).Perm (k :: l) := by
  induction l with
  | nil => exact .refl _
  | cons j l ih =>
    obtain ⟨hkj, hkl⟩ := not_or.mp (mt List.mem_cons.mpr h)
    rw [insertNat, if_neg hkj]
    split
    · exact .refl _
    · exact ((ih hkl).cons j).trans (.swap k j l)

/-- What an access to slot `k` makes of the scrub of its region (17 R545). -/
def RegionBringup.scrubSlot (b : RegionBringup) (k : Nat) : RegionBringup :=
  if b.scrubLeft = 0 ∨ b.scrubbed.contains k then b
  else { b with
    scrubLeft := b.scrubLeft - 1, scrubDone := decide (b.scrubLeft = 1)
    scrubbed := if b.scrubLeft = 1 then [] else insertNat b.scrubbed k }

/-- The scrub of `n` slots is over and done, or goes on with every slot scrubbed listed once. -/
def RegionBringup.tallied (b : RegionBringup) (n : Nat) : Prop :=
  b.scrubLeft = 0 ∧ b.scrubDone = true ∨
  b.scrubLeft ≠ 0 ∧ b.scrubbed.Nodup ∧ b.scrubbed.length + b.scrubLeft.toNat = n

/-- Slot `k` needs no scrub any more. -/
def RegionBringup.clean (b : RegionBringup) (k : Nat) : Prop := b.scrubLeft = 0 ∨ k ∈ b.scrubbed

section
variable {b : RegionBringup} {k j n : Nat}

theorem RegionBringup.scrubSlot_of_clean (h : b.clean k) : b.scrubSlot k = b := by
  simp only [RegionBringup.scrubSlot, List.contains_iff_mem]
  exact if_pos h

/-- The last slot ends the scrub. -/
theorem RegionBringup.scrubSlot_last (h : ¬ b.clean k) (hl : b.scrubLeft = 1) :
    (b.scrubSlot k).scrubLeft = 0 ∧ (b.scrubSlot k).scrubDone = true := by
  rw [RegionBringup.scrubSlot, if_neg (by simpa [RegionBringup.clean] using h)]
  exact ⟨by rw [hl]; rfl, decide_eq_true hl⟩

/-- A slot before the last joins the list. -/
theorem RegionBringup.scrubSlot_next (h : ¬ b.clean k) (hl : b.scrubLeft ≠ 1) :
    (b.scrubSlot k).scrubLeft = b.scrubLeft - 1 ∧ (b.scrubSlot k).scrubbed = insertNat b.scrubbed k := by
  rw [RegionBringup.scrubSlot, if_neg (by simpa [RegionBringup.clean] using h)]
  exact ⟨rfl, if_neg hl⟩

theorem RegionBringup.scrubSlot_tallied (h : b.tallied n) : (b.scrubSlot k).tallied n := by
  by_cases hc : b.clean k
  · rwa [RegionBringup.scrubSlot_of_clean hc]
  · by_cases hl : b.scrubLeft = 1
    · exact .inl (RegionBringup.scrubSlot_last hc hl)
    · obtain ⟨h0, hk⟩ := not_or.mp hc
      obtain ⟨hleft, hlist⟩ := RegionBringup.scrubSlot_next hc hl
      obtain ⟨hz, -⟩ | ⟨-, hnodup, hlen⟩ := h
      · exact absurd hz h0
      · have hperm := insertNat_perm b.scrubbed k hk
        refine .inr ⟨?_, ?_, ?_⟩
        · rw [hleft]; bv_omega
        · rw [hlist, hperm.nodup_iff]
          exact List.nodup_cons.mpr ⟨hk, hnodup⟩
        · rw [hlist, hleft, hperm.length_eq, List.length_cons]
          bv_omega

theorem RegionBringup.scrubSlot_clean_same : (b.scrubSlot k).clean k := by
  by_cases hc : b.clean k
  · rwa [RegionBringup.scrubSlot_of_clean hc]
  · by_cases hl : b.scrubLeft = 1
    · exact .inl (RegionBringup.scrubSlot_last hc hl).1
    · refine .inr ?_
      rw [(RegionBringup.scrubSlot_next hc hl).2, (insertNat_perm _ _ (not_or.mp hc).2).mem_iff]
      exact List.mem_cons_self

theorem RegionBringup.scrubSlot_clean (h : b.clean j) : (b.scrubSlot k).clean j := by
  by_cases hc : b.clean k
  · rwa [RegionBringup.scrubSlot_of_clean hc]
  · by_cases hl : b.scrubLeft = 1
    · exact .inl (RegionBringup.scrubSlot_last hc hl).1
    · refine .inr ?_
      rw [(RegionBringup.scrubSlot_next hc hl).2, (insertNat_perm _ _ (not_or.mp hc).2).mem_iff]
      exact List.mem_cons_of_mem k (h.resolve_left (not_or.mp hc).1)

/-- Once every slot is clean the scrub is over. -/
theorem RegionBringup.scrubDone_of_clean (h : b.tallied n) (hc : ∀ k, k < n → b.clean k) : b.scrubDone = true := by
  obtain ⟨-, hdone⟩ | ⟨h0, -, hlen⟩ := h
  · exact hdone
  · have hsub : List.range n ⊆ b.scrubbed := fun k hk => (hc k (List.mem_range.mp hk)).resolve_left h0
    have hle := (List.subperm_of_subset List.nodup_range hsub).length_le
    rw [List.length_range] at hle
    bv_omega

end

/-! ### What an access to a slice leaves of the regions -/

theorem State.rg_touchSlot_bru (s : State) (t off : Nat) :
    ((s.touchSlot t off).rg (tileRegion t)).bru = (s.rg (tileRegion t)).bru.scrubSlot (tileInRegion t * 384 + off / 0x8000) := by
  simp only [State.touchSlot, RegionBringup.scrubSlot]
  split
  · rfl
  · rw [State.rg_updR_same]
    rfl

theorem State.touchSlot_part (s : State) (t off : Nat) : (s.touchSlot t off).part = s.part := by
  simp only [State.touchSlot]
  split <;> rfl

theorem foldl_setSgst_frame (f : State → Nat → GState) (t : Nat) (l : List Nat) (s : State) :
    (l.foldl (fun (u : State) g => u.setSgst t g (f u g)) s).rgn = s.rgn ∧
    (l.foldl (fun (u : State) g => u.setSgst t g (f u g)) s).part = s.part := by
  induction l generalizing s with
  | nil => exact ⟨rfl, rfl⟩
  | cons g l ih => exact ih (s.setSgst t g (f s g))

/-- A piece put into a slice leaves regions and partitions as the access to its slot does. -/
theorem State.slicePut_frame (s : State) (t off : Nat) (p : Piece) :
    (s.slicePut t off p).1.rgn = (s.touchSlot t off).rgn ∧ (s.slicePut t off p).1.part = s.part := by
  rw [← s.touchSlot_part t off]
  simp only [State.slicePut]
  split
  · split <;> exact ⟨rfl, rfl⟩
  · exact foldl_setSgst_frame _ t _ _

theorem State.rg_slicePut_bru (s : State) (t off : Nat) (p : Piece) :
    ((s.slicePut t off p).1.rg (tileRegion t)).bru = (s.rg (tileRegion t)).bru.scrubSlot (tileInRegion t * 384 + off / 0x8000) := by
  rw [← State.rg_touchSlot_bru, State.rg, (s.slicePut_frame t off p).1, ← State.rg]

/-- A fold over a range, one step at a time. -/
theorem foldl_range_induction {α : Type} (P : Nat → α → Prop) (f : α → Nat → α) (n : Nat) (a : α) (h0 : P 0 a)
    (hstep : ∀ k x, k < n → P k x → P (k + 1) (f x k)) : P n ((List.range n).foldl f a) := by
  induction n with
  | zero => exact h0
  | succ n ih =>
    rw [List.range_succ, List.foldl_append]
    exact hstep n _ n.lt_succ_self (ih fun k x hk => hstep k x (hk.trans n.lt_succ_self))

/-! ### Bring-up: what leaves the regions -/

theorem State.postModule_rgn (s : State) (code kind src data : Nat) : (s.postModule code kind src data).rgn = s.rgn :=
  s.postTo_rgn _ _

theorem State.portEvent_rgn (s : State) (p code data : Nat) (part : Bool) : (s.portEvent p code data part).rgn = s.rgn := by
  simp only [State.portEvent]
  split
  · rw [State.postTo_rgn, State.postModule_rgn]
  · exact State.postModule_rgn _ _ _ _ _

theorem State.moveQuarter_rgn (s : State) (p q : Nat) : (s.moveQuarter p q).rgn = s.rgn := by
  simp only [State.moveQuarter]
  split
  · rfl
  · split <;> rfl

theorem State.toDetect_rgn (s : State) (p : Nat) : (s.toDetect p).rgn = s.rgn := by
  simp only [State.toDetect]
  split <;> rfl

/-- A port that carries no DATA goes DOWN without a squall. -/
theorem State.portDown_rgn_of_unlinked (s : State) (p cause : Nat) (h : (s.port p).linked = false) :
    (s.portDown p cause).rgn = s.rgn := by
  simp only [State.portDown, State.portLost, h]
  exact State.portEvent_rgn _ _ _ _ _

/-- A port starts from DISABLED: no region changes. -/
theorem State.startPort_rgn (s : State) (p : Nat) : (s.startPort p).rgn = s.rgn := by
  simp only [State.startPort]
  split
  · rfl
  · next h =>
    have hphase : (s.port p).phase = .disabled := by
      by_contra hne
      exact h (.inr (.inl hne))
    have hlinked : (s.port p).linked = false := by simp [Port.linked, hphase]
    generalize (if s.wellGood (s.port p).cur0 = true then 1 else 0) = q
    split
    · exact s.toDetect_rgn p
    · split
      · rfl
      · split
        · split <;> rfl
        · split
          · rfl
          · split
            · exact State.toDetect_rgn _ p
            · exact s.portDown_rgn_of_unlinked p 4 hlinked

/-- An update of a region's other fields leaves the bring-up of every region. -/
theorem State.updR_bru_other_fields (s : State) (i j : Nat) (f : Region → Region) (h : (f (s.rg j)).bru = (s.rg j).bru) :
    ((s.updR j f).rg i).bru = (s.rg i).bru := by
  by_cases e : i = j
  · subst e
    rw [State.rg_updR_same, h]
  · rw [State.rg_updR_other _ _ _ _ e]

/-- A relocation that is applied moves a well, and leaves the bring-up of every region. -/
theorem State.applyRelocation_bru (s : State) (p q i : Nat) : ((s.applyRelocation p q).rg i).bru = (s.rg i).bru := by
  unfold State.applyRelocation
  split
  · rfl
  · dsimp only
    split
    · rfl
    · rw [State.rg, State.updPort_rgn, ← State.rg, State.updR_bru_other_fields, State.updR_bru_other_fields] <;> rfl

theorem State.startPorts_bru (s : State) (i : Nat) : (s.startPorts.rg i).bru = (s.rg i).bru := by
  refine foldl_range_induction (fun _ u => (u.rg i).bru = (s.rg i).bru) _ 38 s rfl fun p u _ hu => ?_
  rw [State.rg, State.startPort_rgn, ← State.rg, State.applyRelocation_bru, State.applyRelocation_bru, hu]

theorem State.restartReply_rg_other (s : State) (r i : Nat) (h : i ≠ r) : (s.restartReply r).rg i = s.rg i := by
  unfold State.restartReply
  split
  · rw [State.reply_rg]
    exact State.rg_updR_other _ _ _ _ h
  · rfl

/-! ### A squall that ends a collective -/

theorem State.endRunning_of_no_ops (s : State) (i status detail : Nat) (h : s.ops = []) : s.endRunning i status detail = s := by
  have hfind : s.findOp i = none := by rw [State.findOp, h]; rfl
  rw [State.endRunning, hfind]

theorem State.throttleSync_rgn (s : State) (n : Nat) : (s.throttleSync n).rgn = s.rgn := by
  simp only [State.throttleSync]
  (repeat' split) <;> rfl

theorem State.torEnqueue_rgn (s : State) (k : Nat) (p : TorPkt) : (s.torEnqueue k p).rgn = s.rgn := by
  simp only [State.torEnqueue]
  split
  · rw [State.throttleSync_rgn]; rfl
  · rfl

theorem State.sendSquall_rgn (s : State) (n g : Nat) (seq : W32) (detail : Nat) : (s.sendSquall n g seq detail).rgn = s.rgn := by
  refine foldl_range_induction (fun _ u => u.rgn = s.rgn) _ 12 s rfl fun k u _ hu => ?_
  split
  · rw [State.torEnqueue_rgn, hu]
  · exact hu

/-- The regions after a squall of a group that runs one collective and queues none, its operation gone. -/
theorem State.squall_rgn (s : State) (n g : Nat) (seq : W32) (detail : Nat) (c : CollRun) (hops : s.ops = [])
    (hrun : (s.grp n g).run = some c) (hform : (s.grp n g).formOp = none) (hqueue : (s.grp n g).queue = []) :
    (s.squall n g seq detail).rgn = (s.spoilDst n (s.grp n g) c).rgn := by
  have hops' : (s.spoilDst n (s.grp n g) c).ops = [] := by simp [hops]
  simp only [State.squall, hrun, hform, hqueue, List.foldl_nil, State.postPart_rgn, State.setGrp, State.updCol, State.updP_rgn,
    State.sendSquall_rgn, State.endRunning_of_no_ops _ _ _ _ hops']

/-- One squall more has begun. -/
def PartCol.squallBegun (c : PartCol) : PartCol := { c with begun := satInc c.begun }

/-- The regions after a squall that begins here. -/
theorem State.squallHere_rgn (s : State) (n g cause origin : Nat) (x : Group) (c : CollRun) (hops : s.ops = []) (hx : s.grp n g = x)
    (hrun : x.run = some c) (hform : x.formOp = none) (hqueue : x.queue = []) :
    (s.squallHere n g cause origin).rgn = ((s.updCol n PartCol.squallBegun).spoilDst n x c).rgn := by
  have hx' : (s.updCol n PartCol.squallBegun).grp n g = x := by
    rw [State.grp, State.updCol, State.updP, State.pt_setP_same]
    exact hx
  simp only [State.squallHere, hx, hrun, Option.isNone_some, Bool.false_eq_true, false_and, if_false]
  rw [← hx'] at hrun hform hqueue ⊢
  exact State.squall_rgn (s.updCol n PartCol.squallBegun) n g _ _ c hops hrun hform hqueue

/-- A T-port goes down whose partition has one group, which spans modules along the port's axis: the squall begins here. -/
theorem State.colPortDown_one_group (s : State) (k n g : Nat) (x : Group) (howner : tfind s.portOwner (24 + k) = some n)
    (hgroups : (s.pt n).col.groups = [(g, x)]) (hstate : x.state ≠ .free) (haxis : x.onAxis (tAxis k) = true)
    (hlen : 1 < x.len (tAxis k)) : s.colPortDown k = s.squallHere n g 1 (s.tor.neighbour k) := by
  have hall : s.groupsOf n = [g] := by simp [State.groupsOf, hgroups, hstate]
  have hgrp : s.grp n g = x := by simp [State.grp, hgroups, tget]
  simp [State.colPortDown, howner, hall, hgrp, haxis, hlen]

/-! ### The slots that a spoilt destination touches -/

/-- The slot of its region, row by row, that byte `off` of a page lies in. -/
def pageSlot (ppa off : Nat) : Nat := tileInRegion (pageTile ppa off) * 384 + pageOff ppa off / 0x8000

/-- A pass over pieces that leaves the partitions and accesses one slot of region `r` for each: every slot of it is clean in the end. -/
theorem foldl_scrubs (f : State → Nat → State) (slot : Nat → Nat) (r total count : Nat) (s : State)
    (hf : ∀ v k, k < count → v.part = s.part → (f v k).part = s.part ∧ ((f v k).rg r).bru = (v.rg r).bru.scrubSlot (slot k))
    (hscrub : (s.rg r).bru.tallied total) :
    (((List.range count).foldl f s).rg r).bru.tallied total ∧
    ∀ k, k < count → (((List.range count).foldl f s).rg r).bru.clean (slot k) := by
  refine (foldl_range_induction (fun m v => v.part = s.part ∧ (v.rg r).bru.tallied total ∧ ∀ k, k < m → (v.rg r).bru.clean (slot k))
    f count s ⟨rfl, hscrub, fun k hk => absurd hk k.not_lt_zero⟩ fun m v hm ⟨hpart, htally, hclean⟩ => ?_).2
  obtain ⟨hpart', hbru⟩ := hf v m hm hpart
  rw [hbru]
  refine ⟨hpart', RegionBringup.scrubSlot_tallied htally, fun k hk => ?_⟩
  obtain hk | rfl := Nat.lt_succ_iff_lt_or_eq.mp hk
  · exact RegionBringup.scrubSlot_clean (hclean k hk)
  · exact RegionBringup.scrubSlot_clean_same

/-- A spoilt destination in pages of one region: every slot it lies in is scrubbed first (14 R462, 17 R545). -/
theorem State.spoilDst_scrubs (s : State) (n r total : Nat) (g : Group) (c : CollRun) (ppa : Nat → Nat) (htile : g.tile = false)
    (hkind : c.kind = 0)
    (hpte : ∀ k, k < c.count * resultSize 0 c.red c.dtype / 256 → (s.pte n ((c.dst + 256 * k) / pageSize)).bind Pte.ppa = some (ppa k))
    (hregion : ∀ k, k < c.count * resultSize 0 c.red c.dtype / 256 → tileRegion (pageTile (ppa k) ((c.dst + 256 * k) % pageSize)) = r)
    (hscrub : (s.rg r).bru.tallied total) :
    ((s.spoilDst n g c).rg r).bru.tallied total ∧ ∀ k, k < c.count * resultSize 0 c.red c.dtype / 256 →
      ((s.spoilDst n g c).rg r).bru.clean (pageSlot (ppa k) ((c.dst + 256 * k) % pageSize)) := by
  simp only [State.spoilDst, htile, hkind, Bool.false_eq_true, if_false, dstBytes, zero_ne_one, OfNat.zero_ne_ofNat]
  refine foldl_scrubs _ (fun k => pageSlot (ppa k) ((c.dst + 256 * k) % pageSize)) r total _ s (fun v k hk hpart => ?_) hscrub
  have hv : v.pte n = s.pte n := by
    funext page
    rw [State.pte, State.pt, hpart]
    rfl
  simp only [false_and, or_self, if_false] at hk
  obtain ⟨e, he, hp⟩ := Option.bind_eq_some_iff.mp (hpte k hk)
  simp only [hv, he, hp]
  rw [(v.slicePut_frame _ _ _).2, ← hregion k hk]
  exact ⟨hpart, State.rg_slicePut_bru _ _ _ _⟩

/-! ### A region that fails with its T-port -/

/-- A port as it goes DOWN. -/
def Port.goneDown (x : Port) (cause : Nat) : Port :=
  { x.clearLink with phase := .down, failCause := BitVec.ofNat 4 cause, downs := satInc x.downs, half := false, narrow := none }

/-- A linked T-port with MISMATCH set goes DOWN: no fallback begins, and only what its groups do changes a region (14 R460). -/
theorem State.portDown_tport_rgn (s : State) (k cause : Nat) (hk : k < 12) (hlinked : (s.port (24 + k)).linked = true)
    (hmismatch : (s.tp k).mismatch = true) :
    (s.portDown (24 + k) cause).rgn = ((s.updPort (24 + k) (fun x => x.goneDown cause)).colPortDown k).rgn := by
  have hw : ¬ 24 + k < 24 := by omega
  have ht : 24 + k < 36 := by omega
  have htorus : (s.updPort (24 + k) (fun x => x.goneDown cause)).torusDown k = s.updPort (24 + k) (fun x => x.goneDown cause) :=
    if_pos (.inr (.inl hmismatch))
  rw [State.portDown, State.portEvent_rgn]
  simp only [State.portLost, hlinked, Bool.not_true, Bool.false_eq_true, if_false, if_neg hw, if_pos ht, Nat.add_sub_cancel_left]
  exact congrArg (fun u => (State.colPortDown u k).rgn) htorus

/-- The well of a T-port's quarter is lost while the port is ACTIVE. -/
theorem State.wellLost_tport_rgn (s : State) (r k : Nat) (hk : k < 12) (huse : (s.rg r).well.use = 2) (hport : (s.rg r).well.port = k)
    (hphase : (s.port (24 + k)).phase = .active) (hmismatch : (s.tp k).mismatch = true) :
    (s.wellLost r).rgn = ((s.updPort (24 + k) (fun x => x.goneDown 4)).colPortDown k).rgn := by
  have hlinked : (s.port (24 + k)).linked = true := by simp [Port.linked, hphase]
  rw [← s.portDown_tport_rgn k 4 hk hlinked hmismatch]
  simp [State.wellLost, huse, hport, hphase, State.moveQuarter_rgn]

/-- A fence up to the loss of the region's memory (01 R33-R35). -/
def State.fenceBegun (s : State) (i cause : Nat) (collapse : Bool) : State :=
  let s1 := s.updR i (fun x => x.fencedAs cause ((s.rg i).fencedRails cause collapse))
  ({ s1 with fw := { s1.fw with rcc := tdel s1.fw.rcc i } }.zeroRegionMemory [i]).markLost i

/-- The fence of a region that was not READY, of no partition, whose well loses its rail. -/
theorem State.fence_well_lost (s : State) (i cause : Nat) (collapse : Bool) (hstate : (s.rg i).state ≠ .ready)
    (hpart : (s.rg i).partition = none) (hpower : (s.rg i).wellPowered = true)
    (hrail : ((s.rg i).fencedRails cause collapse).vlnk = false) :
    s.fence i cause collapse = (s.fenceBegun i cause collapse).wellLost i := by
  have hready : ¬ decide ((s.rg i).state = .ready) = true := by simpa using hstate
  have hwell : (s.rg i).wellPowered = true ∧ (!((s.rg i).fencedRails cause collapse).vlnk) = true := ⟨hpower, by rw [hrail]; rfl⟩
  unfold State.fence
  dsimp only
  rw [if_neg hready, if_pos hwell, hpart]
  cases (s.rg i).flt.straggler <;> rfl

/-- The bring-up of a region as it fails in the step it is in; WAITING counts as step 3 (17 R531). -/
def RegionBringup.failed (b : RegionBringup) : RegionBringup :=
  { b with failedStep := BitVec.ofNat 4 (if b.step.toNat = 10 then 3 else b.step.toNat), step := 9 }

/-- A region that fails at its bring-up leaves every other as the fence does (17 R531). -/
theorem State.bringupFence_rg_other (s : State) (r cause i : Nat) (h : i ≠ r) :
    (s.bringupFence r cause).rg i = ((s.updRB r RegionBringup.failed).fence r cause false).rg i := by
  rw [State.bringupFence, State.restartReply_rg_other _ _ _ h, State.rg, State.postModule_rgn]
  rfl

/-! ### The front -/

theorem foldl_eq_self {α β : Type} (f : α → β → α) (a : α) (l : List β) (h : ∀ x ∈ l, f a x = a) : l.foldl f a = a := by
  induction l with
  | nil => rfl
  | cons x l ih =>
    rw [List.foldl_cons, h x List.mem_cons_self]
    exact ih fun y hy => h y (List.mem_cons_of_mem x hy)

/-- A region is WAITING for a parent. -/
def State.waits (s : State) (r : Nat) : Prop := (s.rg r).state = .bringup ∧ (s.rg r).bru.step = 10

/-- Where no WAITING region has a parent yet, none is served (17 R532). -/
theorem State.serveWaiting_idle (s : State) (h : ∀ r, r < 144 → s.waits r → s.parentOf r = none) : s.serveWaiting = s := by
  refine foldl_eq_self _ s _ fun r hr => if_neg fun ⟨hstate, hstep, hp⟩ => ?_
  simp [h r (List.mem_range.mp hr) ⟨hstate, hstep⟩] at hp

/-- The front is past column 11 and the last region alone still waits for a parent: it is fenced (17 R532). -/
theorem State.advanceFront_last (s : State) (ms : Nat) (hphase : s.phase = .front) (hcol : s.bru.frontCol = 11)
    (hparent : ∀ r, r < 144 → s.waits r → s.parentOf r = none)
    (hpassed : ∀ r ∈ columnRegions 11, (s.rg r).passed = true)
    (hlate : ∀ r, r < 144 → (s.rg r).state = .bringup → 3 < (s.rg r).bru.step.toNat)
    (halone : ∀ r, r < 143 → ¬ s.waits r) (hwait : s.waits 143) :
    s.advanceFront ms = (s.updBru (fun b => { b with frontDone := true })).bringupFence 143 4 := by
  have hall : (columnRegions 11).all (fun r => (s.rg r).passed) = true := List.all_eq_true.mpr hpassed
  have hnone : (List.range 144).any (fun r => decide ((s.rg r).state = .bringup) && decide ((s.rg r).bru.step.toNat ≤ 3)) = false := by
    refine List.any_eq_false.mpr fun r hr => ?_
    have := hlate r (List.mem_range.mp hr)
    simp only [Bool.and_eq_true, decide_eq_true_eq, not_and, not_le]
    exact this
  have hcol' : s.bru.frontCol.toNat = 11 := by rw [hcol]; rfl
  simp only [State.advanceFront, hphase, s.serveWaiting_idle hparent, hcol', hall, ne_eq, not_true_eq_false, if_false, Bool.not_true,
    Bool.false_eq_true, Nat.lt_irrefl]
  rw [if_neg (by exact Bool.eq_false_iff.mp hnone), List.range_succ, List.foldl_append,
    foldl_eq_self _ _ (List.range 143) fun r hr => if_neg (by exact halone r (List.mem_range.mp hr))]
  exact if_pos hwait

/-! ### The places of a page group's pages -/

section
variable {k j off : Nat}

theorem pageTile_mkPpa (hk : k < 9) : pageTile (mkPpa 0 k j) off =
    (k / 3 * 8 + off / 256 % 64 / 8) * 288 + (k % 3 * 8 + off / 256 % 64 % 8) := by
  simp only [pageTile, granTile, mkPpa, ppaRegion, ppaGroup]
  omega

theorem pageOff_mkPpa (hk : k < 9) (hj : j < 384) (hoff : off < pageSize) : pageOff (mkPpa 0 k j) off / 0x8000 = j := by
  simp only [pageOff, granOff, mkPpa, ppaSlot, pageSize] at hoff ⊢
  omega

theorem tileRegion_pageTile (hk : k < 9) : tileRegion (pageTile (mkPpa 0 k j) off) = 0 := by
  rw [pageTile_mkPpa hk]
  simp only [tileRegion]
  omega

theorem pageSlot_mkPpa (hk : k < 9) (hj : j < 384) (hoff : off < pageSize) : pageSlot (mkPpa 0 k j) off =
    ((k / 3 * 8 + off / 256 % 64 / 8) * 24 + (k % 3 * 8 + off / 256 % 64 % 8)) * 384 + j := by
  rw [pageSlot, pageOff_mkPpa hk hj hoff, pageTile_mkPpa hk]
  simp only [tileInRegion, tileX, tileY]
  omega

end

/-! ### The counterexample -/

/-- An all-reduce over FP32 whose destination is 3456 pages. -/
def bigRun : CollRun :=
  { op := 0, seq := 0, kind := 0, red := 0, dtype := 0, root := 0, src := 0, dst := 0, count := 3456 * pageSize / 4, launched := true }

/-- A memory group that spans two modules along X and runs it. -/
def bigGroup : Group := { state := .running, axes := 1, ge := [2, 0, 0], run := some bigRun }

/-- Page `n` in page group `n / 384` of region 0, slot `n % 384`. -/
def bigPages : List (Nat × Pte) := (List.range 3456).map (fun n => (n, { ppa := some (mkPpa 0 (n / 384) (n % 384)) }))

/-- The front is past column 11. Region 0 ends step 8; region 143 waits for a parent, and its well, powered but with VLNK off, carries
T-port 0, ACTIVE, of a partition whose group runs a collective into every slot of region 0. -/
def lateFront : State := { State.reset with
  phase := .front, bru := { frontCol := 11 }, portOwner := [(24, 0)], ports := [(24, { phase := .active })]
  part := [(0, { mem := { pages := bigPages }, col := { groups := [(0, bigGroup)] } })]
  rgn := (0, { state := .bringup, bru := { step := 8 } }) :: (List.range 11).map (fun y => (12 * y + 11, { state := .fenced })) ++
    [(143, { state := .bringup, bru := { step := 10 }, well := { use := 2 }, wellPowered := true })] }

/-- Region 0 READY, its scrub begun. -/
def lateReady : State := lateFront.regionReady 0 0 true

theorem lateReady_advanceFront : lateReady.advanceFront 0 = (lateReady.updBru (fun b => { b with frontDone := true })).bringupFence 143 4 := by
  have hwaits : ∀ r, r < 144 → (lateReady.rg r).state = .bringup → r = 143 := by decide +kernel
  have hstep : (lateReady.rg 143).bru.step = 10 := by decide +kernel
  refine lateReady.advanceFront_last 0 rfl rfl (fun r hr hw => ?_) (by decide +kernel) (fun r hr hb => ?_) (fun r hr hw => ?_)
    ⟨by decide +kernel, hstep⟩
  · rw [hwaits r hr hw.1]
    decide +kernel
  · rw [hwaits r hr hb, hstep]
    decide
  · exact hr.ne (hwaits r (hr.trans (Nat.lt_succ_self 143)) hw.1)

/-- Region 143 fenced, its port told. -/
def lateSquall : State :=
  ((((lateReady.updBru (fun b => { b with frontDone := true })).updRB 143 RegionBringup.failed).fenceBegun 143 4 false).updPort 24
    (fun x => x.goneDown 4)).updCol 0 PartCol.squallBegun

theorem lateSquall_bru : ((lateSquall.rg 0).bru.scrubLeft = 221184 ∧ (lateSquall.rg 0).bru.scrubbed = []) := by decide +kernel

theorem lateSquall_mem : (lateSquall.pt 0).mem = { pages := bigPages } := rfl

theorem lateFront_squalls : ((lateReady.advanceFront 0).rg 0) = (lateSquall.spoilDst 0 bigGroup bigRun).rg 0 := by
  rw [lateReady_advanceFront, State.bringupFence_rg_other _ _ _ _ (by decide),
    State.fence_well_lost _ _ _ _ (by decide +kernel) (by decide +kernel) (by decide +kernel) (by decide +kernel),
    State.rg, State.wellLost_tport_rgn _ 143 0 (by decide) (by decide +kernel) (by decide +kernel) (by decide +kernel) (by decide +kernel),
    State.colPortDown_one_group _ 0 0 0 bigGroup rfl rfl (by decide) (by decide) (by decide),
    State.squallHere_rgn _ 0 0 1 _ bigGroup bigRun rfl rfl rfl rfl rfl]
  rfl

theorem tfind_map_key {α : Type} (f : Nat → α) (l : List Nat) (k : Nat) (h : k ∈ l) : tfind (l.map (fun n => (n, f n))) k = some (f k) := by
  induction l with
  | nil => cases h
  | cons j l ih =>
    by_cases e : j = k
    · simp [tfind, e]
    · simpa [tfind, e] using ih ((List.mem_cons.mp h).resolve_left (Ne.symm e))

theorem lateSquall_pte (n : Nat) (h : n < 3456) : (lateSquall.pte 0 n).bind Pte.ppa = some (mkPpa 0 (n / 384) (n % 384)) := by
  rw [State.pte, lateSquall_mem, bigPages, tfind_map_key _ _ _ (List.mem_range.mpr h)]
  rfl

/-- Granule `i` of pages laid end to end: its page, its place in the page. -/
theorem granule_page (i : Nat) : 256 * i / pageSize = i / 8192 ∧ 256 * i % pageSize / 256 = i % 8192 ∧ 256 * i % pageSize < pageSize := by
  simp only [pageSize]
  omega

/-- A slot of a region by its page group `g`, its tile `(x, y)` in the group and its number `j` in the slice. -/
theorem slot_of_group (k : Nat) (hk : k < 221184) : ∃ g x y j, g < 9 ∧ x < 8 ∧ y < 8 ∧ j < 384 ∧
    ((g / 3 * 8 + y) * 24 + (g % 3 * 8 + x)) * 384 + j = k := by
  have hrow : k / 384 / 24 / 8 < 3 := by omega
  have hcol : k / 384 % 24 / 8 < 3 := by omega
  refine ⟨k / 384 / 24 / 8 * 3 + k / 384 % 24 / 8, k / 384 % 24 % 8, k / 384 / 24 % 8, k % 384, by omega, by omega, by omega, by omega, ?_⟩
  have hdiv : (k / 384 / 24 / 8 * 3 + k / 384 % 24 / 8) / 3 = k / 384 / 24 / 8 := by omega
  have hmod : (k / 384 / 24 / 8 * 3 + k / 384 % 24 / 8) % 3 = k / 384 % 24 / 8 := by omega
  rw [hdiv, hmod]
  omega

/-- The granule of a destination that stands for a slot: its page, page group, slot and tile. -/
theorem granule_of_slot {g x y j i : Nat} (hg : g < 9) (hx : x < 8) (hy : y < 8) (hj : j < 384) (hi : i = (g * 384 + j) * 8192 + (y * 8 + x)) :
    i < 28311552 ∧ i / 8192 / 384 = g ∧ i / 8192 % 384 = j ∧ i % 8192 % 64 / 8 = y ∧ i % 8192 % 64 % 8 = x := by
  have hpage : i / 8192 = g * 384 + j := by omega
  have htile : i % 8192 % 64 = y * 8 + x := by omega
  rw [hpage, htile]
  omega

/-- Every slot of region 0 holds a granule of the destination. -/
theorem bigRun_covers (k : Nat) (hk : k < 221184) : ∃ i, i < 28311552 ∧
    pageSlot (mkPpa 0 (i / 8192 / 384) (i / 8192 % 384)) (256 * i % pageSize) = k := by
  obtain ⟨g, x, y, j, hg, hx, hy, hj, hslot⟩ := slot_of_group k hk
  obtain ⟨i, hi⟩ : ∃ i, i = (g * 384 + j) * 8192 + (y * 8 + x) := ⟨_, rfl⟩
  obtain ⟨hlt, hgroup, hnumber, hrow, hcol⟩ := granule_of_slot hg hx hy hj hi
  obtain ⟨-, hgran, hoff⟩ := granule_page i
  exact ⟨i, hlt, by rw [hgroup, hnumber, pageSlot_mkPpa hg hj hoff, hgran, hrow, hcol, hslot]⟩

/-- The squall scrubs every slot of region 0 as it spoils the destination. -/
theorem lateSquall_scrubs : ((lateSquall.spoilDst 0 bigGroup bigRun).rg 0).bru.scrubDone = true := by
  have hcount : bigRun.count * resultSize 0 bigRun.red bigRun.dtype / 256 = 28311552 := by decide +kernel
  have hdst : bigRun.dst = 0 := rfl
  have htally : (lateSquall.rg 0).bru.tallied 221184 := by
    obtain ⟨hleft, hlist⟩ := lateSquall_bru
    exact .inr (by rw [hleft, hlist]; decide)
  have hspoil := lateSquall.spoilDst_scrubs 0 0 221184 bigGroup bigRun (fun i => mkPpa 0 (i / 8192 / 384) (i / 8192 % 384)) rfl rfl
  simp only [hcount, hdst, Nat.zero_add] at hspoil
  obtain ⟨htally', hclean⟩ := hspoil
    (fun i hi => by
      rw [(granule_page i).1]
      exact lateSquall_pte _ (by omega))
    (fun i hi => tileRegion_pageTile (by omega)) htally
  refine RegionBringup.scrubDone_of_clean htally' fun k hk => ?_
  obtain ⟨i, hi, rfl⟩ := bigRun_covers k hk
  exact hclean i hi

/-- Refutes O34: as region 0 ends step 8 the front fences region 143, whose T-port goes down with a collective into region 0; each slot
of its destination is scrubbed as it is spoilt, so the scrub is over in the state that step 8 leaves. -/
theorem not_regionsComeUpStepByStep : ¬ Obligations.RegionsComeUpStepByStep := by
  intro h
  obtain ⟨-, hup⟩ := h lateFront 0 [] 0 0
  obtain ⟨-, -, -, -, -, -, -, -, -, hready, -⟩ := hup (by decide +kernel) (by decide +kernel)
  obtain ⟨u, hu, -, -, -, hscrub, -⟩ := hready (by decide +kernel)
  have hexec : exec (.regionBringupStep 0 (.done [] 0) 0) lateFront = .next (lateReady.advanceFront 0).startPorts := rfl
  have hu' : u = (lateReady.advanceFront 0).startPorts := Host.Outcome.next.inj (hu.symm.trans hexec)
  have hdone : (u.rg (0 : Fin 144).val).bru.scrubDone = true := by
    rw [hu', State.startPorts_bru, Fin.val_zero, lateFront_squalls]
    exact lateSquall_scrubs
  exact Bool.false_ne_true (hscrub.symm.trans hdone)

end Sys2Proof.Machine
end

section
/-! PROOFS. O60: every command keeps the memories' canonical form and the queue. The commands stand in `exec_outOk` by the shape of their
meaning: one shared operation, an operation begun, a message taken by a core, a packet that arrives. A command whose meaning is put together
in its own way has a lemma of its own before. -/
namespace Sys2Proof.Machine

open Host

variable {pq : List Instr} {s : State}

/-- What `State.sound_mk` leaves of a record update that touches no memory is the property of the state it began with. -/
@[simp] theorem State.sound_fields (s : State) :
    (s.sram.wf = true ∧ s.slices.wf = true ∧ s.flash.wf = true ∧ s.pending = pq) ↔ s.sound pq := Iff.rfl

theorem ite_outOk {c : Prop} [Decidable c] {x y : Outcome State Fault Refusal} (hx : outOk x pq) (hy : outOk y pq) :
    outOk (if c then x else y) pq := by
  split <;> assumption

/-- What is held for the VFs of a link is written (03 R89). -/
theorem State.releaseHeldAll_sound (h : s.sound pq) (l : List Nat) :
    (l.foldl (fun t n => t.releaseHeld (.vf (Fin.ofNat 12 n))) s).sound pq :=
  foldl_sound _ _ _ h (fun u n hu => by simp [hu])

/-! ### Commands put together in their own way -/

section
variable (h : s.sound pq)
include h

theorem execHostLinkUp_outOk (k : Fin 4) (speed : BitVec 3) (width : BitVec 5) (flit : Bool) :
    outOk (execHostLinkUp k speed width flit s) pq :=
  ok_outOk (State.releaseHeldAll_sound (by simp [h]) _)

theorem execVfEnableChange_outOk (k : Fin 4) (enable : Bool) (numVfs : BitVec 4) :
    outOk (execVfEnableChange k enable numVfs s) pq :=
  ok_outOk (State.releaseHeldAll_sound (foldl_sound _ _ _ (by simp [h]) (fun u n hu => by simp [hu])) _)

theorem execPartCreate_outOk (m : Msg) (meanwhile : List CfgEvent) : outOk (execPartCreate m meanwhile s) pq :=
  handle_outOk _ _ _ _ _ h (fun u hu => by
    split
    · simp [hu]
    · split
      · simp [hu]
      · exact foldl_sound _ _ _ (by simp [hu]) (fun v e hv => by split <;> simp [hv]))

theorem execPartDestroyComplete_outOk (n : Fin 12) : outOk (execPartDestroyComplete n s) pq :=
  ok_outOk (by
    dsimp only
    split
    · have hz := State.zeroRegionMemory_sound s (s.pt n).regions h
      have hu := State.unbindFor_sound _ n.val hz
      split
      · exact h
      · simp [hz.sram, hu.slices, h.flash, h.pending]
    · exact h)

theorem execSharedDestroy_outOk (m : Msg) : outOk (execSharedDestroy m s) pq :=
  handle_outOk _ _ _ _ _ h (fun u hu => by
    have hfree := State.freeShared_sound u (m.u8 0) hu
    dsimp only
    (repeat' split) <;> rw [State.reply_sound]
    · exact hu
    · exact hu
    · exact hu
    · exact hfree)

theorem execTimingFlitReceive_outOk (k : Fin 12) (lcrcOk : Bool) (f : TimingFlit) (rx : W64) :
    outOk (execTimingFlitReceive k lcrcOk f rx s) pq := by
  unfold execTimingFlitReceive
  dsimp only
  refine ite_outOk (ok_outOk h) (ite_outOk (ok_outOk (by simp [h])) (ok_outOk ?_))
  (repeat' split) <;> simp [h]

theorem execPtpSyncReceive_outOk (offset : Int) (clockId : W64) (domain : Byte) (timed : Bool) :
    outOk (execPtpSyncReceive offset clockId domain timed s) pq := by
  unfold execPtpSyncReceive
  dsimp only
  refine ite_outOk (ok_outOk h) (ite_outOk (ok_outOk (by simp [h])) (ite_outOk (ok_outOk (by simp [h])) (ite_outOk (ok_outOk (by simp [h])) (ok_outOk (by simp [h])))))

theorem execClassChange_outOk (r : Fin 144) : outOk (execClassChange r s) pq := by
  unfold execClassChange
  (repeat' refine ite_outOk ?_ ?_) <;> exact ok_outOk (by simp [h])

theorem execWeightBuild_outOk (op : Nat) (host : Option (List Byte)) : outOk (execWeightBuild op host s) pq :=
  ok_outOk (State.onOp_sound _ _ _ _ h (fun o => by
    dsimp only
    split
    · simp [h]
    · split
      · exact h
      · split
        · exact h
        · split
          · next hm => exact (State.readManifest_sound _ _ _ (by simp [h])).later hm
          · simp [h]
          · (repeat' split) <;> simp [h]))

theorem execMirrorCopy_outOk (x : MirrorEnd) : outOk (execMirrorCopy x s) pq :=
  ok_outOk (by
    cases x with
    | send op =>
      exact State.tryHandover_sound _ (State.onOp_sound _ _ _ _ h (fun o => by (repeat' split) <;> simp [h]))
    | receive p key off data check poison => simp [h])

theorem execRoutesChanged_outOk : outOk (execRoutesChanged s) pq :=
  ok_outOk (by
    split
    · exact sound_ite ((State.writeRoutes_sound _ _).2 h) h
    · exact h)

theorem execMemUnmap_outOk (m : Msg) : outOk (execMemUnmap m s) pq := by
  unfold execMemUnmap
  split
  · exact ite_outOk (ok_outOk h) (memMsg_outOk _ _ _ _ h (fun u n hu =>
      (State.reply_sound _ _ _ _ _ _).2 ((State.quotaCheck_sound _ _).2 (foldl_sound _ _ _ hu (fun v e hv => by simp [hv])))))
  · exact memMsg_outOk _ _ _ _ h (fun u n hu => hu)

theorem execMemObjSeal_outOk (m : Msg) : outOk (execMemObjSeal m s) pq := by
  unfold execMemObjSeal
  split
  · exact ite_outOk (ok_outOk h) (memMsg_outOk _ _ _ _ h (fun u n hu => by (repeat' split) <;> simp [hu]))
  · exact memMsg_outOk _ _ _ _ h (fun u n hu => hu)

theorem execTorConfig_outOk (m : Msg) : outOk (execTorConfig m s) pq :=
  torMsg_outOk _ _ _ _ h (fun u hu => by
    dsimp only
    (repeat' split) <;> rw [State.reply_sound]
    · exact hu
    · exact hu
    · exact foldl_sound _ _ _ hu (fun v k hv => by simp [hv]))

theorem execPiece_outOk (n : Fin 12) : outOk (execPiece n s) pq :=
  arrived_outOk _ _ _ _ _ _ h (fun u g p hu => State.withRun_sound _ _ _ _ _ hu (fun c =>
    State.pumpGroup_sound _ _ _ (optD_sound (State.torSend_sound _ _ (by simp [hu])) (by simp [hu]))))

theorem execCoreThawed_outOk (c : CoreId) (ms : Nat) : outOk (execCoreThawed c ms s) pq :=
  ite_outOk (ok_outOk h) (ok_outOk (by dsimp only; (repeat' split) <;> simp [h]))

theorem execFwPing_outOk (m : Msg) (ms : Nat) : outOk (execFwPing m ms s) pq := by
  unfold execFwPing
  split
  · exact handle_outOk _ _ _ _ _ h (fun u hu => by simp [hu])
  · exact ite_outOk (handle_outOk _ _ _ _ _ h (fun u hu => by simp [hu])) (handle_outOk _ _ _ _ _ h (fun u hu => by simp [hu]))

theorem execFwRestart_outOk (m : Msg) (ms : Nat) (pc : W32) : outOk (execFwRestart m ms pc s) pq := by
  unfold execFwRestart
  dsimp only
  (repeat' split) <;> exact ok_outOk (by simp [h])

theorem execPwrDivision_outOk (windows : List RegionWindow) (volts amps watts : W16) (vlnkMw carrierMw : Nat) :
    outOk (execPwrDivision windows volts amps watts vlnkMw carrierMw s) pq := by
  unfold execPwrDivision
  have hw := foldl_sound (fun t w => t.takeWindow w) windows (s.updPwr (fun p => { p with
    inVoltage := volts, inCurrent := amps, inPower := watts, energyMj := p.energyMj + watts.setWidth 64,
    vlnkMw := vlnkMw, carrierMw := carrierMw })) ((State.updPwr_sound _ _).2 h) (fun t w ht => State.takeWindow_sound _ _ ht)
  refine ite_outOk (ok_outOk hw) (ok_outOk ?_)
  dsimp only
  rw [State.applyDivision_sound]
  refine foldl_sound _ _ _ (foldl_sound _ _ _ (sound_ite hw hw) (fun t r ht => ?_)) (fun t n ht => ht)
  exact sound_ite (by simp [ht]) ht

theorem execPowerDownStep_outOk : outOk (execPowerDownStep s) pq :=
  ok_outOk (by
    dsimp only
    split
    · exact h
    · exact sound_ite (State.waferOff_sound _ h) h)

theorem execRegionBringupStep_outOk (r : Fin 144) (res : StepResult) (ms : Nat) : outOk (execRegionBringupStep r res ms s) pq :=
  ite_outOk (ok_outOk h) (ok_outOk (State.startPorts_sound _ (State.advanceFront_sound _ _ (by
    split
    · simp [h]
    · simp [h]))))

theorem execBringupStepTimeout_outOk (r : Fin 144) (ms : Nat) : outOk (execBringupStepTimeout r ms s) pq :=
  ite_outOk (ok_outOk h) (ok_outOk (State.startPorts_sound _ (State.advanceFront_sound _ _ (by (repeat' split) <;> simp [h]))))

theorem execStratusCalSlot_outOk (r : Fin 144) (margin : W16) (applied : Bool) (failing : List (Fin 576)) :
    outOk (execStratusCalSlot r margin applied failing s) pq :=
  ok_outOk (sound_ite h (sound_ite (by simp [h]) (foldl_sound _ _ _ (by simp [h]) (fun t i ht => by simp [ht]))))

theorem execBruRcalReset_outOk (m : Msg) : outOk (execBruRcalReset m s) pq :=
  handle_outOk _ _ _ _ _ h (fun u hu => by
    dsimp only
    (repeat' split) <;> rw [State.reply_sound]
    · exact hu
    · exact hu
    all_goals exact foldl_sound _ _ _ hu (fun v i hv => hv))

theorem execStragglerCheck_outOk (n : Fin 12) : outOk (execStragglerCheck n s) pq :=
  ok_outOk (sound_ite h (foldl_sound _ _ _ h (fun u r hu => by simp [hu])))

theorem execRasTwinUnpair_outOk (m : Msg) : outOk (execRasTwinUnpair m s) pq :=
  twinMsg_outOk _ _ _ _ h (fun u hu => by
    have hf := foldl_sound (fun (u : State) n => u.bindFails n rBusy) u.bindings u hu (fun v n hv => State.bindFails_sound _ _ _ hv)
    dsimp only
    (repeat' split) <;> simp [hu, hf])

theorem execPeerAdmit_outOk (chains : Bool) : outOk (execPeerAdmit chains s) pq :=
  ok_outOk (sound_ite (foldl_sound _ _ _ (by simp [h]) (fun u r hu => by simp [hu])) h)

theorem execRsLowHalfRead_outOk (fn : Fn) (off : BitVec 24) : outOk (execRsLowHalfRead fn off s) pq :=
  ok_outOk (by
    split
    · exact h
    · split
      · exact h
      · exact h)

theorem execSnapshotPoint_outOk (op : Nat) : outOk (execSnapshotPoint op s) pq :=
  ok_outOk (State.onOp_sound _ _ _ _ h (fun _ => sound_ite h h))
end

/-! ### Every command -/

/-- The next state of a command is sound where the state before it is. -/
theorem exec_outOk (h : s.sound pq) (c : Instr) : outOk (exec c s) pq := by
  cases c with
  | add | sub | and | or | xor | shl | shr | sar | min | max | minu | maxu | seq | slt | sltu =>
    exact ok_outOk (State.alu_sound _ _ _ _ _ _ _ h)
  | aluiAdd | aluiSub | aluiAnd | aluiOr | aluiXor | aluiShl | aluiShr | aluiSar | aluiMin | aluiMax | aluiMinu | aluiMaxu | aluiSeq | aluiSlt |
      aluiSltu =>
    exact ok_outOk (State.alui_sound _ _ _ _ _ _ h)
  | mul | mulh | mulhu =>
    exact ok_outOk (State.mulOp_sound _ _ _ _ _ _ _ h)
  | trd | li | liu | atos | stgen =>
    exact ok_outOk (State.setScalar_sound _ _ _ _ _ h)
  | aset | aadd =>
    exact ok_outOk (State.setAddr_sound _ _ _ _ _ h)
  | pand | por | pxor | pandn | pnot =>
    exact ok_outOk (State.pop_sound _ _ _ _ _ _ h)
  | vadd | vsub | vmul | vfma | vfms | vfVmin | vfVmax | vabs | vneg | vexp2 | vlog2 | vrcp | vrsqrt | vsqrt | vexp | viadd | visub | vimul | vand |
      vor | vxor | vshl | vshr | vsar | viVmin | viVmax | vminu | vmaxu | vcmp | vsel | rsum | rmax | rmin | risum | perm | rot | bcast | froms | tos
      | insert | iota | vcvtF2i | vcvtI2f | vcvtU2f | vcvtF2u | vnarrow | vwiden | vmxq | vmxdq | ld | st | vld | vst | tmma | tzero | tdrain | twadd
      | smma | hacc | hget | hcfg | hdrain | hclr | mcopy | mfill | ccfg | tap | tapx | strel | egress | econtrib | eskip =>
    exact ok_outOk (State.issueQ_sound _ _ _ _ h)
  | allReduce | reduceScatter | allGather | broadcast | reduce | barrier =>
    exact ok_outOk (State.collective_sound _ _ _ h)
  | tileNop | qsync | crd | jal | lih | pfroms | ptos | pfirst | stwait | ststat =>
    exact ok_outOk (State.issue_sound _ _ _ _ _ _ h (fun u i hu => by simp [hu]))
  | halt | twait | cwr | jr | br | afroms | awrap | swait | srd =>
    exact ok_outOk (State.issue_sound _ _ _ _ _ _ h (fun u i hu => by (repeat' split) <;> simp [hu]))
  | nop | fence | fencePartition | syncSignal | syncSignalSet | syncWait | syncWaitTimeout | tierPrefetch | tierRelease | weightSwap | groupDestroy |
      groupReform =>
    exact ok_outOk (State.onOp_sound _ _ _ _ h (fun o => by simp [h]))
  | run | stream | publish | snapshot | mirrorCommit =>
    exact ok_outOk (State.onOp_sound _ _ _ _ h (fun o => by (repeat' split) <;> simp [h]))
  | loadProgram | copy | groupForm =>
    exact ok_outOk (State.onOp_sound _ _ _ _ h (fun o => by dsimp only; (repeat' split) <;> simp [h]))
  | partReset | sharedCreate | attest | deviceCert | svnCommit | memEvacuate | fwImageStage | pwrShareSet | pwrPhasePlan | pwrCeilingSet | pwrOff |
      bruRepairSet | bruRepairGet | bruRegionRestart | rasFence =>
    dsimp only [exec]
    exact handle_outOk _ _ _ _ _ h (fun u hu => by simp [hu])
  | fwDumpRead | fwDumpClear =>
    dsimp only [exec]
    exact handle_outOk _ _ _ _ _ h (fun u hu => by (repeat' split) <;> simp [hu])
  | partResize | partDestroy | portAssign | grant | revoke | keyLoad | keyErase | memSharedBack | bptRelocate | pwrBudgetSet =>
    dsimp only [exec]
    exact handle_outOk _ _ _ _ _ h (fun u hu => by dsimp only; (repeat' split) <;> simp [hu])
  | memObjDestroy | wgtSlotClear | wgtRelaySet | wgtRelayClear =>
    dsimp only [exec]
    exact memMsg_outOk _ _ _ _ h (fun u n hu => by simp [hu])
  | memMap | memObjCreate =>
    dsimp only [exec]
    exact memMsg_outOk _ _ _ _ h (fun u n hu => by dsimp only; (repeat' split) <;> simp [hu])
  | mgtStatusGet | mgtConfigSet | mgtSafetyClear | mgtPowerOn | mgtPowerOff | mgtLogRead | mgtPmbusRejoin =>
    dsimp only [exec]
    exact mmcMsg_outOk _ _ _ _ _ h (fun u hu => by simp [hu])
  | rasTwinPair | rasMirrorUnbind | rasTwinHandover =>
    dsimp only [exec]
    exact twinMsg_outOk _ _ _ _ h (fun u hu => by simp [hu])
  | rasMirrorBind =>
    dsimp only [exec]
    exact twinMsg_outOk _ _ _ _ h (fun u hu => by dsimp only; (repeat' split) <;> simp [hu])
  | torRouteSet | torKeyset | torMcastSet | torMcastClear =>
    dsimp only [exec]
    exact torMsg_outOk _ _ _ _ h (fun u hu => by simp [hu])
  | partnerSignalDetect | narrowDetectTimeout | noPartnerTimeout | equalizeDone | equalizeTimeout | alignDone | paramsTimeout | portRetrained |
      retrainTimeout | nak | replayTimeout | codewordBurst =>
    dsimp only [exec]
    exact inPhase_outOk _ _ _ _ h (fun u hu => by simp [hu])
  | alignTimeout | params =>
    dsimp only [exec]
    exact inPhase_outOk _ _ _ _ h (fun u hu => by (repeat' split) <;> simp [hu])
  | downRetryTimer =>
    dsimp only [exec]
    exact inPhase_outOk _ _ _ _ h (fun u hu => by dsimp only; (repeat' split) <;> simp [hu])
  | chunkData =>
    dsimp only [exec]
    exact takeProto_outOk _ _ _ _ h (fun u b x hu => by (repeat' split) <;> simp [hu])
  | gradAck | gradDone =>
    dsimp only [exec]
    exact takeProto_outOk _ _ _ _ h (fun u b x hu => by dsimp only; (repeat' split) <;> simp [hu])
  | pieceAck | formUp | formDown | formMismatch | barrierUp | barrierDown | squall | reformUp | reformDown =>
    dsimp only [exec]
    exact arrived_outOk _ _ _ _ _ _ h (fun u g p hu => by (repeat' split) <;> simp [hu])
  | secRelease | bootImageReceive | regulatorAlert | coolantSample | calStale | inputLimit =>
    dsimp only [exec]
    exact ite_outOk (ok_outOk h) (ok_outOk (by simp [h]))
  | sqEnable | sqDisable | cqEnable | cqDisable | doorbellSqTail | doorbellCqHead | ringCancel | descriptorComplete | evqEnable | evqHeadWrite |
      statusEnable | busMasterEnableClear | hostLinkDown | vfFlr | pfFlr | mbxEnable | mbxDisable | mbxReqTail | mbxRspHead | mailboxAccept |
      bootLinkTimeout | tickEdge | timingFlitSend | sourceLoss | cadenceOutOfSpec | sourceModeWrite | localSetWrite | queueBegin | instructionComplete
      | eccScrub | ssig | ssigSet | streamOpenArrive | streamGranuleArrive | streamCloseArrive | streamAbortArrive | gradOpenArrive |
      gradientGranuleArrive | write | read | writeCast | writeAck | readData | streamInstanceOpen | streamInstanceClose | swapPoint | chunkLate |
      stallTimeout | chunkReplyTimeout | chunkBusyRetry | fetchWindowOpen | privateSlotsWrite | quotaWrite | portEnableWrite | ctrlRetrain |
      portRelocated | dataFlitReceive | retrainReq | echoReq | echoRsp | torusPacketArrive | torusEgressSend | watchdogExpiry | coreException |
      coreMemoryError | coreReloadDone | thawTimeout | mmcTakeover | wdogWrite | dumpSelWrite | dumpDataRead | voltageLoopStep | droopEngage |
      droopRelease | activityEstimate | peakLimiterStep | forecastClassify | lullRelease | alertHeldTimeout | linkGroupAlert | railCollapse |
      thermalSample | thermalLullRelease | thermalTrip | coolantLoss | hostWWrite | ceilingWrite | suspectClear | fabricReady | fullReady |
      fullReadyTimeout | scrubBackground | serdesCalSlot | vsenseCalSlot | oscCalSlot | periodCtWrite | tileParityError | rateWindow | twinBindReceive
      | bindTimeout | twinHeartbeatSend | twinLossBegin | twinProbeAnswer | lossMsExpiry | twinBreak | inputVoltageFault | autoPowerOn | leakDetect |
      mmcWatchdogRestart | mgmtLink | pluggableInsert | pmbusSdaLow | sclTimeout | pmbusReselect | safetySample | partnerReset | flashLinkUp |
      flashLinkDown | twinHeartbeatReceive | regulatorAlertDeassert | illegalInstruction | inputPowerApplied | inputPowerLoss | moduleReset =>
    exact ok_outOk (by simp [h])
  | registerWrite | descriptorStart | statusPageRefresh | busMasterEnableSet | partResizeComplete | partitionResetProgress | bestInputHoldExpiry |
      crossingRelock | runClaimGranted | commitPoint | issueResume | swaitTimeout | ssigRelease | dropNotice | fabricTimeout | t2ChunkReadDone |
      hostFrameReadDone | relayFrameReceive | relayFallback | gradAckTimeout | gradBusyResend | holdLimitExpiry | routeSetApply | keysetApplied |
      formTimeout | progressTimeout | launchTick | phasePlanStep | twinPaired | pairingTimeout | unbind =>
    exact ok_outOk (by (repeat' split) <;> simp [h])
  | descriptorFetch =>
    exact ok_outOk (by dsimp only; (repeat' split) <;> simp [h])
  | rsLowHalfRead fn off => exact execRsLowHalfRead_outOk h fn off
  | hostLinkUp k speed width flit => exact execHostLinkUp_outOk h k speed width flit
  | vfEnableChange k enable numVfs => exact execVfEnableChange_outOk h k enable numVfs
  | partCreate m meanwhile => exact execPartCreate_outOk h m meanwhile
  | partDestroyComplete n => exact execPartDestroyComplete_outOk h n
  | sharedDestroy m => exact execSharedDestroy_outOk h m
  | timingFlitReceive k lcrcOk f rx => exact execTimingFlitReceive_outOk h k lcrcOk f rx
  | ptpSyncReceive offset clockId domain timed => exact execPtpSyncReceive_outOk h offset clockId domain timed
  | classChange r => exact execClassChange_outOk h r
  | weightBuild op host => exact execWeightBuild_outOk h op host
  | snapshotPoint op => exact execSnapshotPoint_outOk h op
  | mirrorCopy x => exact execMirrorCopy_outOk h x
  | routesChanged => exact execRoutesChanged_outOk h
  | memUnmap m => exact execMemUnmap_outOk h m
  | memObjSeal m => exact execMemObjSeal_outOk h m
  | torConfig m => exact execTorConfig_outOk h m
  | piece n => exact execPiece_outOk h n
  | coreThawed c ms => exact execCoreThawed_outOk h c ms
  | fwPing m ms => exact execFwPing_outOk h m ms
  | fwRestart m ms pc => exact execFwRestart_outOk h m ms pc
  | pwrDivision windows volts amps watts vlnkMw carrierMw => exact execPwrDivision_outOk h windows volts amps watts vlnkMw carrierMw
  | powerDownStep => exact execPowerDownStep_outOk h
  | regionBringupStep r res ms => exact execRegionBringupStep_outOk h r res ms
  | bringupStepTimeout r ms => exact execBringupStepTimeout_outOk h r ms
  | stratusCalSlot r margin applied failing => exact execStratusCalSlot_outOk h r margin applied failing
  | bruRcalReset m => exact execBruRcalReset_outOk h m
  | stragglerCheck n => exact execStragglerCheck_outOk h n
  | rasTwinUnpair m => exact execRasTwinUnpair_outOk h m
  | peerAdmit chains => exact execPeerAdmit_outOk h chains

/-- Settles O60: a step idles or takes the front command in a state whose queue is the rest, and the command keeps the memories' form. -/
theorem everyStepKeepsTheMemoryForm : Obligations.EveryStepKeepsTheMemoryForm := by
  intro s u hmem hstep
  unfold Machine.step at hstep
  split at hstep
  · exact Outcome.next.inj hstep ▸ hmem
  · next c r hq =>
    have hs : ({ s with pending := r } : State).sound r := (State.sound_iff _).2 ⟨hmem, rfl⟩
    exact ((State.sound_iff u).1 (exec_outOk hs c u hstep)).1

end Sys2Proof.Machine
end

section
/-! PROOFS. What the families' commands share: a message is taken by its core; events and replies change endpoints and outputs only; a reset
begins. -/
namespace Sys2Proof.Machine

open Host

/-! ### Messages -/

/-- A message that its core can handle completes with the effect of its handler on the state without the message in the queue. -/
theorem State.handle_completes {s v : State} {c : CoreId} {id : Nat} {m : Msg} {f : State → State} {P : State → Prop}
    (h : s.canHandle c id) (hv : f (s.takeMsg id m) = v) (hP : P v) : ∃ u, s.handle c id m f = .next u ∧ P u :=
  ⟨v, hv ▸ s.handle_ready c id m f h, hP⟩

section
variable (s : State) (id : Nat) (m x : Msg)

@[simp] theorem State.takeMsg_isPriv : (s.takeMsg id m).isPriv x = s.isPriv x := rfl
@[simp] theorem State.takeMsg_pt (n : Nat) : (s.takeMsg id m).pt n = s.pt n := rfl

end

theorem PartState.isFree_iff (x : PartState) : x.isFree = true ↔ x = .free := by cases x <;> simp [PartState.isFree]

/-! ### Where a reply goes -/

theorem State.repliesAs_of_standing {s u : State} (h : u.standing = s.standing) (hminor : u.fw.minor = s.fw.minor)
    (hcad : u.cad = s.cad) : u.repliesAs s :=
  ⟨fun ep => ⟨State.mbx_of_standing h ep, State.canWrite_of_standing h ep⟩, hminor, by rw [State.tick, hcad, State.tick]⟩

/-- The reply to a taken message, before anything else has happened. -/
theorem State.replied_alone (s : State) (id : Nat) (m : Msg) (i handler result : Nat) (payload : List Byte) :
    s.replied ((s.takeMsg id m).reply m i handler result payload) m i handler result payload :=
  State.reply_replied (s.takeMsg_repliesAs id m) ..

/-- The reply from a state in which the same mailboxes and links stand. -/
theorem State.replied_after {s u : State} (m : Msg) (hs : u.standing = s.standing) (hminor : u.fw.minor = s.fw.minor)
    (hcad : u.cad = s.cad) (i handler result : Nat) (payload : List Byte) :
    s.replied (u.reply m i handler result payload) m i handler result payload :=
  State.reply_replied (State.repliesAs_of_standing hs hminor hcad) ..

/-- What has been replied stays replied while outputs are only added. -/
theorem State.replied.mono {s u v : State} {m : Msg} {id handler result : Nat} {payload : List Byte}
    (h : s.replied u m id handler result payload) (hout : u.out ⊆ v.out) : s.replied v m id handler result payload := by
  unfold State.replied at h ⊢
  cases hm : m.sender with
  | mbx f => simp only [hm] at h ⊢; exact fun hen hcan => hout (h hen hcan)
  | _ => simp only [hm] at h ⊢; exact hout h

/-! ### What events and replies change -/

theorem foldl_keep {α β γ : Type} (f : α → γ) (g : α → β → α) (l : List β) (a : α) (h : ∀ a b, f (g a b) = f a) :
    f (l.foldl g a) = f a := by
  induction l generalizing a with
  | nil => rfl
  | cons b r ih => exact (ih _).trans (h a b)

/-- A partition, a host link, without its endpoint. -/
def Partition.body (p : Partition) : Partition := { p with ep := {} }
def HostLink.body (l : HostLink) : HostLink := { l with ep := {} }

/-- `u` differs from `s` in endpoints and in outputs added. -/
structure State.OnlyTells (u s : State) : Prop where
  rest : u = { s with links := u.links, part := u.part, out := u.out }
  pt (n : Nat) : (u.pt n).body = (s.pt n).body
  lk (k : Nat) : (u.lk k).body = (s.lk k).body
  out : s.out ⊆ u.out

section
variable {s t u : State}

theorem State.OnlyTells.refl (s : State) : s.OnlyTells s := ⟨rfl, fun _ => rfl, fun _ => rfl, fun _ h => h⟩

theorem State.OnlyTells.trans (h : u.OnlyTells t) (k : t.OnlyTells s) : u.OnlyTells s :=
  ⟨h.rest.trans (by rw [k.rest]), fun n => (h.pt n).trans (k.pt n), fun n => (h.lk n).trans (k.lk n), fun _ x => h.out (k.out x)⟩

theorem State.OnlyTells.foldl {β : Type} (g : State → β → State) (l : List β) (s : State) (h : ∀ t x, (g t x).OnlyTells t) :
    (l.foldl g s).OnlyTells s := by
  induction l generalizing s with
  | nil => exact .refl s
  | cons a r ih => exact (ih _).trans (h s a)

/-- A field other than the endpoints' tables and the outputs. -/
theorem State.OnlyTells.field {α : Type} (h : u.OnlyTells s) (f : State → α)
    (hf : ∀ (x : State) a b c, f { x with links := a, part := b, out := c } = f x := by intros; rfl) : f u = f s := by
  rw [h.rest, hf]

theorem State.OnlyTells.pt_field {α : Type} (h : u.OnlyTells s) (n : Nat) (f : Partition → α)
    (hf : ∀ (p : Partition) e, f { p with ep := e } = f p := by intros; rfl) : f (u.pt n) = f (s.pt n) := by
  rw [← hf (u.pt n) {}, ← hf (s.pt n) {}]
  exact congrArg f (h.pt n)

end

theorem State.updEp_tells (s : State) (ep : Ep) (f : Endpoint → Endpoint) : (s.updEp ep f).OnlyTells s := by
  cases ep with
  | pf k =>
    refine ⟨rfl, fun _ => rfl, fun j => ?_, fun _ h => h⟩
    by_cases e : j = k
    · subst e; simp [State.updEp, HostLink.body]
    · simp [State.updEp, s.lk_updL_other k j _ e]
  | vf n =>
    refine ⟨rfl, fun j => ?_, fun _ => rfl, fun _ h => h⟩
    by_cases e : j = n
    · subst e; simp [State.updEp, State.updP, Partition.body]
    · simp [State.updEp, State.updP, s.pt_setP_other n j _ e]

theorem State.addOut_tells (s : State) (l : List Output) : ({ s with out := l ++ s.out } : State).OnlyTells s :=
  ⟨rfl, fun _ => rfl, fun _ => rfl, fun _ h => List.mem_append_right l h⟩

theorem State.updEp_addOut_tells (s : State) (ep : Ep) (f : Endpoint → Endpoint) (l : List Output) :
    ({ s.updEp ep f with out := l ++ s.out } : State).OnlyTells s := by
  have h : ({ s.updEp ep f with out := l ++ s.out } : State) = { s.updEp ep f with out := l ++ (s.updEp ep f).out } := by
    cases ep <;> rfl
  exact h ▸ ((s.updEp ep f).addOut_tells l).trans (s.updEp_tells ep f)

theorem State.postTo_tells (s : State) (ep : Ep) (e : Event) : (s.postTo ep e).OnlyTells s := by
  unfold State.postTo
  dsimp only
  split
  · split
    · exact s.updEp_addOut_tells ep _ _
    · split <;> exact s.updEp_tells ep _
  · exact .refl s

theorem State.postModule_tells (s : State) (code kind src data : Nat) : (s.postModule code kind src data).OnlyTells s :=
  s.postTo_tells _ _

theorem State.postPart_tells (s : State) (n code data : Nat) : (s.postPart n code data).OnlyTells s :=
  (State.postTo_tells _ _ _).trans (s.postTo_tells _ _)

theorem State.loseReply_tells (s : State) (ep : Ep) : (s.loseReply ep).OnlyTells s :=
  (State.postModule_tells _ _ _ _ _).trans (s.updEp_tells ep _)

theorem State.reply_tells (s : State) (m : Msg) (id handler result : Nat) (payload : List Byte) :
    (s.reply m id handler result payload).OnlyTells s := by
  unfold State.reply
  dsimp only
  split
  · unfold State.replyDue
    split
    · split
      · exact s.updEp_addOut_tells _ _ [_, _, _]
      · exact s.updEp_tells _ _
    · exact s.loseReply_tells _
  · exact s.addOut_tells [_]

/-! ### A reset that begins -/

/-- A partition as step 1 of its reset makes it (02 T2.4, 03 R102). -/
def Partition.resetBegun (p : Partition) : Partition :=
  { p with
    state := .resetting, resetStep := 1, skipped := (p.rings.map (fun r => r.2.skipped)).foldl (· + ·) 0, pwr := { p.pwr with plans := [] }
    rings := p.rings.map (fun r => (r.1, r.2.skip)) }

theorem State.beginReset_active (s : State) (n cause : Nat) (h : (s.pt n).state = .active) :
    (s.beginReset n cause).OnlyTells (s.updP n Partition.resetBegun) := by
  unfold State.beginReset
  rw [if_pos h]
  exact State.postPart_tells _ _ _ _

theorem State.beginReset_idle (s : State) (n cause : Nat) (h : (s.pt n).state ≠ .active) : s.beginReset n cause = s := if_neg h

@[simp] theorem State.pt_updP_same (s : State) (n : Nat) (f : Partition → Partition) : (s.updP n f).pt n = f (s.pt n) :=
  s.pt_setP_same n _

theorem State.pt_updP_other (s : State) (n k : Nat) (f : Partition → Partition) (h : k ≠ n) : (s.updP n f).pt k = s.pt k :=
  s.pt_setP_other n k _ h

end Sys2Proof.Machine
end

section
/-! PROOFS. The security messages (02 R61-R65, R77-R82, T2.18). -/
namespace Sys2Proof.Machine

open Host

variable {s : State} {m : Msg}

/-- The reply after an effect on SEC's own state. -/
theorem State.replied_sec {s t : State} (m : Msg) (x : Sec) (hs : t.standing = s.standing) (hminor : t.fw.minor = s.fw.minor)
    (hcad : t.cad = s.cad) (i handler result : Nat) (payload : List Byte) :
    s.replied (({ t with sec := x } : State).reply m i handler result payload) m i handler result payload :=
  State.replied_after (u := { t with sec := x }) m hs hminor hcad ..

theorem State.replied_sec_alone (s : State) (id : Nat) (m : Msg) (x : Sec) (i handler result : Nat) (payload : List Byte) :
    s.replied (({ s.takeMsg id m with sec := x } : State).reply m i handler result payload) m i handler result payload :=
  State.replied_sec m x (t := s.takeMsg id m) rfl rfl rfl ..

/-! ### Shared regions -/

theorem sharedCreate_refuses (h : s.canHandle .sec 0x0210) (hp : s.isPriv m = false) :
    Completes (.sharedCreate m) s (fun u => u.sec = s.sec ∧ s.replied u m 0x0210 0 5 []) := by
  dsimp only [Completes, exec]
  exact State.handle_completes h (if_pos (by simp [hp])) ⟨by simp, s.replied_alone ..⟩

theorem sharedCreate_creates (h : s.canHandle .sec 0x0210) (hp : s.isPriv m = true) (hi : m.u8 0 ≤ 63) (hlo : 0xF000 ≤ m.u16 2)
    (hhi : m.u16 2 ≤ 0xFFFE) (hpl : 1 ≤ m.u32 8) (hph : m.u32 8 ≤ 2 ^ 21)
    (hhome : m.u8 4 = 0xF ∨ (m.u8 4 ≤ 11 ∧ (s.pt (m.u8 4)).state ≠ .free)) (hnew : tfind s.sec.shared (m.u8 0) = none)
    (hkey : ∀ e ∈ s.sec.shared, e.2.key.toNat ≠ m.u16 2) :
    Completes (.sharedCreate m) s (fun u =>
      tfind u.sec.shared (m.u8 0) = some { key := BitVec.ofNat 16 (m.u16 2), home := if m.u8 4 = 0xF then none else some (m.u8 4), pages := m.u32 8 } ∧
      (∀ j, j ≠ m.u8 0 → tfind u.sec.shared j = tfind s.sec.shared j) ∧ u.sec.grants = s.sec.grants ∧ s.replied u m 0x0210 0 0 []) := by
  have hargs : ¬ (63 < m.u8 0 ∨ m.u16 2 < 0xF000 ∨ 0xFFFE < m.u16 2 ∨ m.u32 8 < 1 ∨ 2 ^ 21 < m.u32 8 ∨
      (m.u8 4 ≠ 0xF ∧ (11 < m.u8 4 ∨ (s.pt (m.u8 4)).state.isFree = true))) := by
    rw [PartState.isFree_iff]
    rcases hhome with hn | ⟨hn, hlive⟩
    · omega
    · simp only [hlive, or_false]; omega
  dsimp only [Completes, exec]
  refine State.handle_completes h (v := State.reply { s.takeMsg 0x0210 m with sec := { s.sec with
    shared := tset s.sec.shared (m.u8 0)
      { key := BitVec.ofNat 16 (m.u16 2), home := if m.u8 4 = 0xF then none else some (m.u8 4), pages := m.u32 8 } } } m 0x0210 0 rOK []) ?_ ?_
  · exact (if_neg (by simp [hp])).trans ((if_neg hargs).trans ((if_neg (by simp [hnew])).trans (if_neg (by simpa using hkey))))
  · refine ⟨?_, fun j hj => ?_, ?_, s.replied_sec_alone ..⟩
    · simp
    · simpa using tfind_tset_other _ _ _ _ hj
    · simp

theorem State.zeroPage_standing (s : State) (ppa : Nat) : (s.zeroPage ppa).standing = s.standing :=
  foldl_keep_standing _ _ _ fun t k => t.touchSlot_standing k _

theorem State.quotaCheck_shPages (s : State) (n : Nat) : (s.quotaCheck n).shPages = s.shPages := by
  refine foldl_keep State.shPages _ _ _ fun t k => ?_
  dsimp only
  split
  · rfl
  · split <;> exact (State.postPart_tells _ _ _ _).field State.shPages

theorem State.quotaCheck_backing (s : State) (n : Nat) : (s.quotaCheck n).backing = s.backing := by
  refine foldl_keep State.backing _ _ _ fun t k => ?_
  dsimp only
  split
  · rfl
  · split <;> exact (State.postPart_tells _ _ _ _).field State.backing

theorem State.freeShared_standing (s : State) (i : Nat) : (s.freeShared i).standing = s.standing := by
  have hpages : (((s.shPages.filter (fun e => decide (e.1 / 2 ^ 21 = i))).foldl (fun (u : State) (e : Nat × SharedPage) => match e.2.ppa with
      | some p => (u.zeroPage p).freeSlot p
      | none => u) s).standing) = s.standing := by
    refine foldl_keep_standing _ _ _ fun t e => ?_
    split
    · rw [State.freeSlot_standing, State.zeroPage_standing]
    · rfl
  unfold State.freeShared
  dsimp only
  split
  · split
    · rw [State.quotaCheck_standing]; exact hpages
    · exact hpages
  · exact hpages

/-- No page of the region remains, and no backing store. -/
theorem State.freeShared_frees (s : State) (i : Nat) :
    (∀ e ∈ (s.freeShared i).shPages, e.1 / 2 ^ 21 ≠ i) ∧ tfind (s.freeShared i).backing i = none := by
  have h (l : List (Nat × SharedPage)) : ∀ e ∈ l.filter (fun e => decide (e.1 / 2 ^ 21 ≠ i)), e.1 / 2 ^ 21 ≠ i := by
    intro e he
    simpa using (List.mem_filter.1 he).2
  unfold State.freeShared
  dsimp only
  split
  · split
    · rw [State.quotaCheck_shPages, State.quotaCheck_backing]
      exact ⟨h _, tfind_tdel_same ..⟩
    · exact ⟨h _, tfind_tdel_same ..⟩
  · exact ⟨h _, tfind_tdel_same ..⟩

theorem sharedDestroy_destroys (h : s.canHandle .sec 0x0211) (hp : s.isPriv m = true) (hi : (tfind s.sec.shared (m.u8 0)).isSome = true)
    (hg : ∀ g ∈ s.sec.grants, g.shared ≠ m.u8 0) :
    Completes (.sharedDestroy m) s (fun u => tfind u.sec.shared (m.u8 0) = none ∧ (∀ k ∈ u.sec.sharedKeys, k.2.bound ≠ m.u8 0) ∧
      (∀ e ∈ u.shPages, e.1 / 2 ^ 21 ≠ m.u8 0) ∧ tfind u.backing (m.u8 0) = none ∧ s.replied u m 0x0211 0 0 []) := by
  obtain ⟨hpages, hback⟩ := (s.takeMsg 0x0211 m).freeShared_frees (m.u8 0)
  generalize hf : (s.takeMsg 0x0211 m).freeShared (m.u8 0) = f at hpages hback
  have hfst : f.standing = s.standing := hf ▸ State.freeShared_standing ..
  have hfw : f.fw = (s.takeMsg 0x0211 m).fw := by rw [← hf]; simp
  have hcad : f.cad = s.cad := by rw [← hf]; simp
  dsimp only [Completes, exec]
  refine State.handle_completes h (v := State.reply { f with sec := { f.sec with
    shared := tdel f.sec.shared (m.u8 0), sharedKeys := f.sec.sharedKeys.filter (fun k => k.2.bound != m.u8 0) } } m 0x0211 0 rOK []) ?_ ?_
  · subst hf
    exact (if_neg (by simp [hp])).trans ((if_neg (by simpa [Option.isSome_iff_ne_none] using hi)).trans (if_neg (by simpa using hg)))
  · have ht := State.reply_tells { f with sec := { f.sec with
      shared := tdel f.sec.shared (m.u8 0), sharedKeys := f.sec.sharedKeys.filter (fun k => k.2.bound != m.u8 0) } } m 0x0211 0 rOK []
    refine ⟨?_, ?_, ?_, ?_, State.replied_sec m _ hfst (congrArg (·.minor) hfw) hcad ..⟩
    · rw [ht.field State.sec]; exact tfind_tdel_same ..
    · rw [ht.field State.sec]; intro k hk; simpa using (List.mem_filter.1 hk).2
    · rw [ht.field State.shPages]; exact hpages
    · rw [ht.field State.backing]; exact hback

theorem sharedDestroy_busy (h : s.canHandle .sec 0x0211) (hp : s.isPriv m = true) (hi : (tfind s.sec.shared (m.u8 0)).isSome = true)
    (hg : ∃ g ∈ s.sec.grants, g.shared = m.u8 0) :
    Completes (.sharedDestroy m) s (fun u => u.sec = s.sec ∧ s.replied u m 0x0211 0 4 []) := by
  dsimp only [Completes, exec]
  exact State.handle_completes h ((if_neg (by simp [hp])).trans ((if_neg (by simpa [Option.isSome_iff_ne_none] using hi)).trans (if_pos (by simpa using hg))))
    ⟨by simp, s.replied_alone ..⟩

/-! ### Grants -/

section
variable (h : s.canHandle .sec 0x0212) (hp : s.isPriv m = true) (hr : s.grantRefusal m = none)
include h hp hr

theorem grant_gives (hst : (s.pt (m.u8 1)).state ≠ .resetting) :
    let g : Grant := { shared := m.u8 0, grantee := m.u8 1, right := m.u8 2, base := BitVec.ofNat 48 (m.u64 8) }
    Completes (.grant m) s (fun u => u.sec = { s.sec with grants := s.sec.grants ++ [g] } ∧ s.replied u m 0x0212 0 0 []) := by
  have hr' : (s.takeMsg 0x0212 m).grantRefusal m = none := hr
  dsimp only [Completes, exec]
  refine State.handle_completes h (v := State.reply { s.takeMsg 0x0212 m with sec := { s.sec with
    grants := s.sec.grants ++ [{ shared := m.u8 0, grantee := m.u8 1, right := m.u8 2, base := BitVec.ofNat 48 (m.u64 8) }] } }
    m 0x0212 0 rOK []) ?_ ⟨by simp, s.replied_sec_alone ..⟩
  refine (if_neg (by simp [hp])).trans ?_
  rw [hr']
  exact congrArg (State.reply · m 0x0212 0 rOK []) (if_neg hst)

/-- A partition in a reset gets the grant at the reset's end. -/
theorem grant_held (hst : (s.pt (m.u8 1)).state = .resetting) :
    let g : Grant := { shared := m.u8 0, grantee := m.u8 1, right := m.u8 2, base := BitVec.ofNat 48 (m.u64 8) }
    Completes (.grant m) s (fun u => u.sec = s.sec ∧ g ∈ (u.pt (m.u8 1)).heldGrants ∧ s.replied u m 0x0212 0 0 []) := by
  intro g
  have hr' : (s.takeMsg 0x0212 m).grantRefusal m = none := hr
  dsimp only [Completes, exec]
  refine State.handle_completes h (v := ((s.takeMsg 0x0212 m).updP (m.u8 1)
    (fun p => { p with heldGrants := p.heldGrants ++ [g] })).reply m 0x0212 0 rOK []) ?_ ⟨?_, ?_, ?_⟩
  · refine (if_neg (by simp [hp])).trans ?_
    rw [hr']
    exact congrArg (State.reply · m 0x0212 0 rOK []) (if_pos hst)
  · simp
  · rw [(State.reply_tells ..).pt_field _ Partition.heldGrants, State.pt_updP_same]
    simp
  · exact State.replied_after m ((s.takeMsg 0x0212 m).updP_standing _ _ (by rfl)) rfl rfl ..

end

theorem revoke_known (hg : ∃ g ∈ s.sec.grants, g.shared = m.u8 0 ∧ g.grantee = m.u8 1 ∧ g.right = m.u8 2) (hforce : m.u8 3 ≤ 1) :
    ¬ (1 < m.u8 3 ∨ !(s.sec.grants.any (fun g => g.shared == m.u8 0 && g.grantee == m.u8 1 && g.right == m.u8 2))) := by
  obtain ⟨g, hmem, hsh, hn, hright⟩ := hg
  have hany : s.sec.grants.any (fun g => g.shared == m.u8 0 && g.grantee == m.u8 1 && g.right == m.u8 2) = true :=
    List.any_eq_true.2 ⟨g, hmem, by simp [hsh, hn, hright]⟩
  simp [hany, hforce]

section
variable (h : s.canHandle .sec 0x0213) (hp : s.isPriv m = true)
  (hg : ∃ g ∈ s.sec.grants, g.shared = m.u8 0 ∧ g.grantee = m.u8 1 ∧ g.right = m.u8 2)
include h hp hg

theorem revoke_removes (hforce : m.u8 3 = 0) (hslots : s.slotsRefer (m.u8 1) (m.u8 0) = false) :
    Completes (.revoke m) s (fun u =>
      (∀ g, g ∈ u.sec.grants ↔ g ∈ s.sec.grants ∧ ¬ (g.shared = m.u8 0 ∧ g.grantee = m.u8 1 ∧ g.right = m.u8 2)) ∧
      s.replied u m 0x0213 0 0 []) := by
  dsimp only [Completes, exec]
  refine State.handle_completes h (v := ((s.takeMsg 0x0213 m).removeGrant (m.u8 0) (m.u8 1) (m.u8 2)).reply m 0x0213 0 rOK [])
    ?_ ⟨fun g => ?_, s.replied_sec_alone ..⟩
  · exact (if_neg (by simp [hp])).trans ((if_neg (revoke_known hg (by omega))).trans
      ((if_neg (by omega)).trans (if_neg (Bool.eq_false_iff.1 hslots))))
  · simp only [State.reply_keeps, State.removeGrant, List.mem_filter, Bool.not_eq_true', ← Bool.not_eq_true]
    simp

theorem revoke_busy (hforce : m.u8 3 = 0) (hslots : s.slotsRefer (m.u8 1) (m.u8 0) = true) :
    Completes (.revoke m) s (fun u => u.sec = s.sec ∧ s.replied u m 0x0213 0 4 []) := by
  dsimp only [Completes, exec]
  refine State.handle_completes h (v := (s.takeMsg 0x0213 m).reply m 0x0213 0 rBusy []) ?_ ⟨?_, s.replied_alone ..⟩
  · exact (if_neg (by simp [hp])).trans ((if_neg (revoke_known hg (by omega))).trans
      ((if_neg (by omega)).trans (if_pos hslots)))
  · simp

/-- FORCE revokes by a reset of the grantee. -/
theorem revoke_forces (hforce : m.u8 3 = 1) (hst : (s.pt (m.u8 1)).state = .active) :
    Completes (.revoke m) s (fun u => (u.pt (m.u8 1)).state = .resetting ∧
      (u.pt (m.u8 1)).revokes = (s.pt (m.u8 1)).revokes ++ [{ shared := m.u8 0, right := m.u8 2, msg := m }]) := by
  have hst' : ((s.takeMsg 0x0213 m).pt (m.u8 1)).state = .active := hst
  generalize ht : (s.takeMsg 0x0213 m).updP (m.u8 1) (fun p => { p with revokes := p.revokes ++
    [{ shared := m.u8 0, right := m.u8 2, msg := m }] }) = t
  have hpt : t.pt (m.u8 1) = { s.pt (m.u8 1) with revokes := (s.pt (m.u8 1)).revokes ++
    [{ shared := m.u8 0, right := m.u8 2, msg := m }] } := by rw [← ht, State.pt_updP_same, State.takeMsg_pt]
  have hbegin := t.beginReset_active (m.u8 1) 7 (by rw [hpt]; exact hst)
  dsimp only [Completes, exec]
  refine State.handle_completes h (v := t.beginReset (m.u8 1) 7) ?_ ⟨?_, ?_⟩
  · refine (if_neg (by simp [hp])).trans ((if_neg (revoke_known hg (by omega))).trans ((if_pos hforce).trans ?_))
    rw [hst', ← ht]
  · rw [hbegin.pt_field _ Partition.state, State.pt_updP_same]
    rfl
  · rw [hbegin.pt_field _ Partition.revokes, State.pt_updP_same, Partition.resetBegun, hpt]

end

/-! ### Keys -/

theorem leNat_lt (l : List Byte) : leNat l < 256 ^ l.length := by
  induction l with
  | nil => simp [leNat]
  | cons b r ih =>
    have hb := b.isLt
    simp only [leNat, List.length_cons, pow_succ]
    omega

theorem leBytes_length (n v : Nat) : (leBytes n v).length = n := by
  induction n generalizing v with
  | zero => rfl
  | succ n ih => simp [leBytes, ih]

theorem leAt_lt (l : List Byte) (i n : Nat) : leAt l i n < 256 ^ n := by
  refine lt_of_lt_of_eq (leNat_lt _) ?_
  simp

theorem Msg.u32_lt (m : Msg) (i : Nat) : m.u32 i < 2 ^ 32 := leAt_lt _ _ _

section
variable (h : s.canHandle .sec 0x0220) (n : Nat) (hn : m.part = some n) (h0 : m.u8 0 = 0) (hid : m.u32 4 ≠ 0) (hslot : m.u8 1 < 16)
  (hheld : (s.pt n).heldKeys = [])
  (hkeys : ∀ e ∈ s.sec.privateKeys, e.1 / 16 = n → e.1 % 16 ≠ m.u8 1 → e.2.keyId.toNat ≠ m.u32 4)

theorem State.keySlotFor_private (hslot : m.u8 1 < 16) : (s.keySlotFor false n (m.u8 1)) = .inr (m.u8 1) := by
  unfold State.keySlotFor
  exact (if_neg (by omega)).trans (if_pos hslot)

include hheld hkeys in
theorem State.keySet_unused : ((s.keySet false n).any (fun e => e.1 != m.u8 1 && e.2.keyId.toNat == m.u32 4)) = false := by
  simp only [State.keySet, hheld, List.append_nil, Bool.false_eq_true, if_false, List.any_eq_false, List.mem_map, List.mem_filter]
  rintro _ ⟨e, ⟨hmem, hown⟩, rfl⟩ hany
  simp only [Bool.and_eq_true, bne_iff_ne, beq_iff_eq] at hown hany
  exact hkeys e hmem hown hany.1 hany.2

include h hn h0 hid hslot hheld hkeys

theorem keyLoad_loads (key : BitVec 256) (hst : (s.pt n).state = .active) :
    Completes (.keyLoad m (some key)) s (fun u =>
      (∃ e, tfind u.sec.privateKeys (16 * n + m.u8 1) = some e ∧ e.keyId.toNat = m.u32 4 ∧ e.key = key) ∧
      (∀ j, j ≠ 16 * n + m.u8 1 → tfind u.sec.privateKeys j = tfind s.sec.privateKeys j) ∧ s.replied u m 0x0220 0 0 []) := by
  let e : KeySlot := { keyId := BitVec.ofNat 32 (m.u32 4), key := key, bound := m.u8 2, counter := Config.freeBits 64 s.free }
  have h01 : ((0 : Nat) == 1) = false := rfl
  have hfor : (s.takeMsg 0x0220 m).keySlotFor false n (m.u8 1) = .inr (m.u8 1) := State.keySlotFor_private n hslot
  have hset : ((s.takeMsg 0x0220 m).keySet false n).any (fun e => e.1 != m.u8 1 && e.2.keyId.toNat == m.u32 4) = false :=
    State.keySet_unused n hheld hkeys
  have hactive : ((s.takeMsg 0x0220 m).takeFree 1).pt n = s.pt n := rfl
  dsimp only [Completes, exec]
  refine State.handle_completes h (v := State.reply { (s.takeMsg 0x0220 m).takeFree 1 with sec := { s.sec with
    privateKeys := tset s.sec.privateKeys (16 * n + m.u8 1) e } } m 0x0220 0 rOK []) ?_ ⟨⟨e, ?_, ?_, rfl⟩, fun j hj => ?_, ?_⟩
  · simp only [hn, h0, hid, h01, hfor, hset, hactive, hst]
    rfl
  · simp
  · simpa [e] using Nat.mod_eq_of_lt (m.u32_lt 4)
  · simpa using tfind_tset_other _ _ _ _ hj
  · exact State.replied_sec m _ (t := (s.takeMsg 0x0220 m).takeFree 1) rfl rfl rfl ..

theorem keyLoad_fails : Completes (.keyLoad m none) s (fun u =>
    u.sec = { s.sec with keyLoadFail := satInc s.sec.keyLoadFail } ∧ s.replied u m 0x0220 0 7 []) := by
  have h01 : ((0 : Nat) == 1) = false := rfl
  have hfor : (s.takeMsg 0x0220 m).keySlotFor false n (m.u8 1) = .inr (m.u8 1) := State.keySlotFor_private n hslot
  have hset : ((s.takeMsg 0x0220 m).keySet false n).any (fun e => e.1 != m.u8 1 && e.2.keyId.toNat == m.u32 4) = false :=
    State.keySet_unused n hheld hkeys
  dsimp only [Completes, exec]
  refine State.handle_completes h (v := State.reply { s.takeMsg 0x0220 m with sec := { s.sec with
    keyLoadFail := satInc s.sec.keyLoadFail } } m 0x0220 0 rVerifyFail []) ?_ ⟨by simp, s.replied_sec_alone ..⟩
  simp only [hn, h0, hid, h01, hfor, hset]
  rfl

end

theorem keyErase_erases (h : s.canHandle .sec 0x0221) (n : Nat) (hn : m.part = some n) (h0 : m.u8 0 = 0) (hslot : m.u8 1 < 16) :
    Completes (.keyErase m) s (fun u => tfind u.sec.privateKeys (16 * n + m.u8 1) = none ∧
      (∀ j, j ≠ 16 * n + m.u8 1 → tfind u.sec.privateKeys j = tfind s.sec.privateKeys j) ∧ s.replied u m 0x0221 0 0 []) := by
  let t : State := { s.takeMsg 0x0221 m with sec := { s.sec with privateKeys := tdel s.sec.privateKeys (16 * n + m.u8 1) } }
  dsimp only [Completes, exec]
  refine State.handle_completes h (v := (t.updP n (fun p => { p with heldKeys := tdel p.heldKeys (m.u8 1) })).reply m 0x0221 0 rOK [])
    ?_ ⟨?_, fun j hj => ?_, ?_⟩
  · simp only [hn, h0]
    exact (if_neg (by simp)).trans ((if_neg (by simp)).trans (if_neg (by omega)))
  · rw [(State.reply_tells ..).field State.sec]; exact tfind_tdel_same ..
  · rw [(State.reply_tells ..).field State.sec]; exact tfind_tdel_other _ _ _ hj
  · exact State.replied_after m (t.updP_standing _ _ (by rfl)) rfl rfl ..

/-! ### Attestation and the SVN -/

theorem State.attestImage_length (s : State) (kind : Nat) (slot : Bool) : (s.attestImage kind slot).length = 64 := by
  unfold State.attestImage
  split <;> simp [leBytes_length]

theorem State.attestBody_length (s : State) (m : Msg) : (s.attestBody m).length = 328 := by
  unfold State.attestBody
  dsimp only
  split <;> simp [leBytes_length, State.attestImage_length]

theorem State.attestBody_take (s : State) (m : Msg) : (s.attestBody m).take 48 = (List.range 48).map (byteAt m.payload) := by
  unfold State.attestBody
  simp only [List.append_assoc]
  exact List.take_left' (by simp)

theorem attest_reports (h : s.canHandle .sec 0x0230) :
    ∃ report : List Byte, report.length = 424 ∧ report.take 48 = (List.range 48).map (byteAt m.payload) ∧
      Completes (.attest m) s (fun u => s.replied u m 0x0230 0 0 report ∧ u.sec = s.sec) := by
  let body := (s.takeMsg 0x0230 m).attestBody m
  refine ⟨body ++ leBytes 96 (Config.attestSignature body).toNat, ?_, ?_, ?_⟩
  · rw [List.length_append, leBytes_length, State.attestBody_length]
  · rw [List.take_append_of_le_length (by rw [State.attestBody_length]; omega), State.attestBody_take]
  · dsimp only [Completes, exec]
    exact State.handle_completes h rfl ⟨s.replied_alone .., by simp⟩

theorem deviceCert_replies (h : s.canHandle .sec 0x0231) : Completes (.deviceCert m) s (fun u =>
    s.replied u m 0x0231 0 0 (s.fixed.certs.flatMap (fun c => leBytes 4 c.length ++ c)) ∧ u.sec = s.sec) := by
  dsimp only [Completes, exec]
  exact State.handle_completes h rfl ⟨s.replied_alone .., by simp⟩

theorem svnCommit_commits (h : s.canHandle .sec 0x0232) (hp : s.isPriv m = true) (hlo : s.sec.fuseSvn.toNat ≤ m.u8 0)
    (hhi : m.u8 0 ≤ 63) (hrun : ∀ x ∈ s.sec.running, m.u8 0 ≤ x.2.svn.toNat) : Completes (.svnCommit m) s (fun u =>
      u.sec = { s.sec with fuseSvn := BitVec.ofNat 6 (m.u8 0) } ∧ s.replied u m 0x0232 0 0 []) := by
  have hargs : ¬ (m.u8 0 < s.sec.fuseSvn.toNat ∨ 63 < m.u8 0 ∨ s.sec.running.any (fun i => decide (i.2.svn.toNat < m.u8 0))) := by
    simp only [List.any_eq_true, decide_eq_true_eq, not_or, not_lt, not_exists, not_and]
    exact ⟨hlo, hhi, hrun⟩
  dsimp only [Completes, exec]
  refine State.handle_completes h (v := State.reply { s.takeMsg 0x0232 m with sec := { s.sec with fuseSvn := BitVec.ofNat 6 (m.u8 0) } }
    m 0x0232 0 rOK []) ?_ ⟨by simp, s.replied_sec_alone ..⟩
  exact (if_neg (by simp [hp])).trans (if_neg hargs)

theorem svnCommit_refuses_lower (h : s.canHandle .sec 0x0232) (hp : s.isPriv m = true) (hlo : m.u8 0 < s.sec.fuseSvn.toNat) :
    Completes (.svnCommit m) s (fun u => u.sec = s.sec ∧ s.replied u m 0x0232 0 1 []) := by
  dsimp only [Completes, exec]
  exact State.handle_completes h (v := (s.takeMsg 0x0232 m).reply m 0x0232 0 rBadArgument [])
    ((if_neg (by simp [hp])).trans (if_pos (.inl hlo))) ⟨by simp, s.replied_alone ..⟩

theorem svnCommit_refuses_others (h : s.canHandle .sec 0x0232) (hp : s.isPriv m = false) :
    Completes (.svnCommit m) s (fun u => u.sec = s.sec ∧ s.replied u m 0x0232 0 5 []) := by
  dsimp only [Completes, exec]
  exact State.handle_completes h (v := (s.takeMsg 0x0232 m).reply m 0x0232 0 rNotPermitted []) (if_pos (by simp [hp]))
    ⟨by simp, s.replied_alone ..⟩

/-- Settles O26, message by message. -/
theorem securityMessagesActForTheirSenders : Obligations.SecurityMessagesActForTheirSenders := by
  unfold Obligations.SecurityMessagesActForTheirSenders
  intro s m i
  refine ⟨fun h => ⟨sharedCreate_refuses h, sharedCreate_creates h⟩, fun h hp hi => ⟨sharedDestroy_destroys h hp hi, sharedDestroy_busy h hp hi⟩,
    fun h hp hr => ⟨grant_gives h hp hr, grant_held h hp hr⟩,
    fun h hp hg => ⟨revoke_removes h hp hg, revoke_busy h hp hg, revoke_forces h hp hg⟩,
    fun h n hn h0 hid hslot hheld hkeys => ⟨keyLoad_loads h n hn h0 hid hslot hheld hkeys, keyLoad_fails h n hn h0 hid hslot hheld hkeys⟩,
    keyErase_erases, attest_reports, deviceCert_replies,
    fun h => ⟨svnCommit_commits h, svnCommit_refuses_lower h, svnCommit_refuses_others h⟩⟩

end Sys2Proof.Machine
end

section
/-! PROOFS. The start-up: SEC, the images, the front, FABRIC_READY, FULL_READY and the flash links (02 R73-R75, 17 R530, R534, R535). -/
namespace Sys2Proof.Machine

open Host

/-! ### Events at a function that hears them -/

/-- The same event ring, open to the module alike, at the same tick. -/
def State.hearsAs (u s : State) (ep : Ep) : Prop :=
  (u.endpoint ep).evq = (s.endpoint ep).evq ∧ u.canWrite ep = s.canWrite ep ∧ u.tick = s.tick

/-- A ring with more than one free slot takes the record at its tail. -/
theorem EventRing.post_room (q : EventRing) (ep : Ep) (e : Event) (hl : q.losing = false) (hroom : q.used + 1 < 2 ^ q.log2.toNat) :
    q.post ep e = q.write ep e :=
  (if_neg (by simp [hl])).trans (if_pos hroom)

theorem State.postTo_eventAt {s u : State} {ep : Ep} (h : u.hearsAs s ep) (code kind src data : Nat) :
    s.eventAt (u.postTo ep (u.mkEvent code kind src data)) ep code kind src data := by
  obtain ⟨hq, hcan, htick⟩ := h
  rintro ⟨hen, hwrite, hlosing, hroom⟩
  have hev : u.mkEvent code kind src data = s.mkEvent code kind src data := by simp only [State.mkEvent, htick]
  rw [hev]
  unfold State.postTo
  simp only [hq, hen, hcan, hwrite, if_true, EventRing.post_room _ _ _ hlosing hroom]
  simp [EventRing.write]

theorem State.hearsAs_pf {s u : State} (k : Fin 4) (hl : u.lk k = s.lk k) (hcad : u.cad = s.cad) : u.hearsAs s (.pf k) :=
  ⟨by simp only [State.endpoint, hl], by simp only [State.canWrite, hl], by simp only [State.tick, hcad]⟩

/-! ### SEC and its images -/

section
variable {s : State}

theorem secRelease_boots (a : BitVec 12) (hon : s.mgt.waferOn = true) (hph : s.phase = .powerOn) :
    Completes (.secRelease a) s (fun u : State => u.phase = .boot ∧ u.sec.boot = .rom ∧ u.sec.awaiting = 1 ∧
      u.sec.awaitB = false ∧ u.bru.fwRegion = u.bru.startRegion ∧
      (∀ y, y < 12 → a.getLsbD y = true → (∀ z, z < y → a.getLsbD z = false) → u.bru.startRegion = BitVec.ofNat 8 (12 * y)) ∧ u.rgn = s.rgn) := by
  refine ⟨_, if_neg (by simp [hon, hph]), rfl, rfl, rfl, rfl, rfl, fun y hy hset hbelow => ?_, rfl⟩
  have hfind : (List.range 12).find? (fun y => bitAt a y) = some y := by
    rw [List.find?_range_eq_some]
    exact ⟨by simpa [bitAt] using hset, List.mem_range.2 hy, fun z hz => by simpa [bitAt] using hbelow z hz⟩
  simp only [hfind]

theorem secRelease_waits (a : BitVec 12) (h : s.mgt.waferOn = false ∨ s.phase ≠ .powerOn) : exec (.secRelease a) s = .next s :=
  if_pos (by simpa using h)

theorem State.logRecord_phase (s : State) (kind data : Nat) : (s.logRecord kind data).phase = s.phase :=
  (apply_ite State.phase _ _ _).trans (ite_self _)

theorem State.logRecord_sec (s : State) (kind data : Nat) : (s.logRecord kind data).sec = s.sec := by simp

/-- An image is due in the slot that SEC awaits (02 R73). -/
theorem bootImage_notDue (kind : Fin 4) (slot : Bool) (img : ImageIn) (ms : Nat)
    (h : ¬ (s.phase = .boot ∧ s.sec.awaiting = kind.val + 1 ∧ s.sec.awaitB = slot)) :
    exec (.bootImageReceive kind slot img ms) s = .next s ∧ exec (.bootLinkTimeout kind slot) s = .next s := by
  refine ⟨if_pos ?_, congrArg Outcome.next (if_neg h)⟩
  by_contra hdue
  simp only [not_or, not_not] at hdue
  exact h hdue

section
variable {kind : Fin 4} {slot : Bool} (hdue : s.phase = .boot ∧ s.sec.awaiting = kind.val + 1 ∧ s.sec.awaitB = slot)
include hdue

/-- After slot A fails slot B is due; after slot B fails SEC ends in BOOT_FAIL (02 R74). -/
theorem State.imageFailed_fails (code : Nat) : (s.imageFailed code).sec.failCode = BitVec.ofNat 8 code ∧
    (slot = false → (s.imageFailed code).sec.awaitB = true ∧ (s.imageFailed code).phase = .boot ∧
      (s.imageFailed code).sec.awaiting = kind.val + 1) ∧
    (slot = true → (s.imageFailed code).phase = .bootFail ∧ (s.imageFailed code).sec.boot = .bootFail) := by
  obtain ⟨hph, hkind, hslot⟩ := hdue
  unfold State.imageFailed
  cases slot with
  | false =>
    rw [if_pos (by simp [hslot])]
    exact ⟨rfl, fun _ => ⟨rfl, hph, hkind⟩, fun h => Bool.noConfusion h⟩
  | true =>
    rw [if_neg (by simp [hslot]), State.logRecord_phase, State.logRecord_sec]
    exact ⟨rfl, fun h => Bool.noConfusion h, fun _ => ⟨rfl, rfl⟩⟩

theorem bootImageReceive_due (img : ImageIn) (ms : Nat) : exec (.bootImageReceive kind slot img ms) s =
    .next (if s.sec.verify (kind.val + 1) img = 0 then s.imageStarts (kind.val + 1) slot img.image ms
      else s.imageFailed (s.sec.verify (kind.val + 1) img)) := by
  obtain ⟨hph, hkind, hslot⟩ := hdue
  exact if_neg (by simp [hph, hkind, hslot])

theorem bootLinkTimeout_due : exec (.bootLinkTimeout kind slot) s = .next (s.imageFailed 7) :=
  congrArg Outcome.next (if_pos hdue)

end

/-! ### The front starts -/

/-- A region in step 1 of its bring-up. -/
def Region.begun (g : Region) : Prop := g.state = .bringup ∧ g.bru.step = 1

theorem State.beginRegion_begun (s : State) (r ms : Nat) : ((s.beginRegion r ms).rg r).begun := by
  rw [State.beginRegion, State.rg_updR_same]
  exact ⟨rfl, rfl⟩

theorem State.beginRegion_keepsBegun (s : State) (r ms j : Nat) (h : (s.rg j).begun) : ((s.beginRegion r ms).rg j).begun := by
  by_cases e : j = r
  · exact e ▸ s.beginRegion_begun j ms
  · rwa [State.beginRegion, State.rg_updR_other _ _ _ _ e]

theorem foldl_beginRegion_begun (l : List Nat) (ms : Nat) (s : State) (j : Nat) (h : (s.rg j).begun ∨ j ∈ l) :
    ((l.foldl (fun t r => t.beginRegion r ms) s).rg j).begun := by
  induction l generalizing s with
  | nil => exact h.resolve_right List.not_mem_nil
  | cons r l ih =>
    refine ih _ ?_
    rcases h with h | h
    · exact .inl (s.beginRegion_keepsBegun r ms j h)
    · rcases List.mem_cons.1 h with rfl | h
      · exact .inl (s.beginRegion_begun j ms)
      · exact .inr h

theorem State.startFront_begun (s : State) (ms y : Nat) (hy : y < 12) : ((s.startFront ms).rg (12 * y)).begun :=
  foldl_beginRegion_begun _ ms _ _ (.inr (List.mem_map.2 ⟨y, List.mem_range.2 hy, rfl⟩))

theorem State.startFront_phase (s : State) (ms : Nat) : (s.startFront ms).phase = .front :=
  foldl_keep State.phase _ _ _ fun _ _ => rfl

theorem State.startFront_sec (s : State) (ms : Nat) : (s.startFront ms).sec = s.sec := foldl_keep State.sec _ _ _ fun _ _ => rfl

theorem State.startFront_fw (s : State) (ms : Nat) : (s.startFront ms).fw = s.fw := foldl_keep State.fw _ _ _ fun _ _ => rfl

/-- The state from which the last image starts the front. -/
def State.lastImage (s : State) (slot : Bool) (img : Image) : State :=
  let t := State.runImage { s with fw := { s.fw with images := tset s.fw.images (imageKey 4 slot) img } } 4 slot
  { t with sec := { t.sec with boot := .running, awaiting := 0, awaitB := false } }

theorem State.imageStarts_last (s : State) (slot : Bool) (img : Image) (ms : Nat) :
    s.imageStarts 4 slot img ms = (s.lastImage slot img).startFront ms := rfl

/-- An accepted image runs: the first three bring up SEC, PWR and SCH, the last one starts the front (17 R530). -/
theorem State.imageStarts_runs (s : State) (kind : Fin 4) (slot : Bool) (img : Image) (ms : Nat) (hph : s.phase = .boot) :
    let u := s.imageStarts (kind.val + 1) slot img ms
    u.sec.awaitB = false ∧ tfind u.fw.images (2 * kind.val + slot.toNat) = some img ∧
    (kind = 0 → u.sec.boot = .verify ∧ u.fw.sec.state = .running ∧ u.fw.sec.slot = slot ∧ u.sec.awaiting = 2 ∧ u.phase = .boot) ∧
    (kind = 1 → u.fw.pwr.state = .running ∧ u.fw.pwr.slot = slot ∧ u.sec.awaiting = 3 ∧ u.phase = .boot) ∧
    (kind = 2 → u.fw.sch.state = .running ∧ u.fw.sch.slot = slot ∧ u.sec.awaiting = 4 ∧ u.phase = .boot) ∧
    (kind = 3 → u.sec.boot = .running ∧ u.phase = .front ∧ ∀ y, y < 12 → (u.rg (12 * y)).state = .bringup ∧ (u.rg (12 * y)).bru.step = 1) := by
  have hne {j k : Fin 4} (h : j ≠ k) {P : Prop} : j = k → P := fun e => absurd e h
  match kind with
  | 0 => exact ⟨rfl, tfind_tset_same .., fun _ => ⟨rfl, rfl, rfl, rfl, hph⟩, hne (by decide), hne (by decide), hne (by decide)⟩
  | 1 => exact ⟨rfl, tfind_tset_same .., hne (by decide), fun _ => ⟨rfl, rfl, rfl, hph⟩, hne (by decide), hne (by decide)⟩
  | 2 => exact ⟨rfl, tfind_tset_same .., hne (by decide), hne (by decide), fun _ => ⟨rfl, rfl, rfl, hph⟩, hne (by decide)⟩
  | 3 =>
    have hu : s.imageStarts ((3 : Fin 4).val + 1) slot img ms = _ := s.imageStarts_last slot img ms
    dsimp only
    rw [hu, State.startFront_sec, State.startFront_fw]
    exact ⟨rfl, tfind_tset_same .., hne (by decide), hne (by decide), hne (by decide),
      fun _ => ⟨rfl, State.startFront_phase .., State.startFront_begun _ ms⟩⟩

/-! ### FABRIC_READY and FULL_READY -/

/-- An event changes endpoints and outputs only: the regions stay. -/
theorem State.fullIsReady_eq (s : State) (ms : Nat) (incomplete : Bool) : (s.fullIsReady ms incomplete).phase = .fullReady ∧
    (s.fullIsReady ms incomplete).bru = { s.bru with fullMs := BitVec.ofNat 32 ms, incomplete := incomplete } ∧
    (s.fullIsReady ms incomplete).rgn = s.rgn := by
  have h : (s.fullIsReady ms incomplete).OnlyTells { s with
    phase := .fullReady, bru := { s.bru with fullMs := BitVec.ofNat 32 ms, incomplete := incomplete } } := State.postModule_tells ..
  exact ⟨h.field State.phase, h.field State.bru, h.field State.rgn⟩

theorem fullReady_reached (ms : Nat) (hph : s.phase = .fabricReady) (hlinks : s.linksDone ms = true)
    (hscrub : ∀ i, i < 144 → (s.rg i).state = .ready → (s.rg i).bru.scrubDone = true) :
    Completes (.fullReady ms) s (fun u : State => u.phase = .fullReady ∧ u.bru.fullMs = BitVec.ofNat 32 ms ∧ u.bru.incomplete = false ∧
      u.rgn = s.rgn) := by
  obtain ⟨hphase, hbru, hrgn⟩ := s.fullIsReady_eq ms false
  have hall : (List.range 144).all (fun r => decide ((s.rg r).state ≠ .ready) || (s.rg r).bru.scrubDone) = true := by
    simp only [List.all_eq_true, List.mem_range, Bool.or_eq_true, decide_eq_true_eq]
    exact fun i hi => or_iff_not_imp_left.2 fun hready => hscrub i hi (not_not.1 hready)
  refine ⟨_, congrArg Outcome.next (if_pos ⟨hph, hlinks, hall⟩), hphase, ?_, ?_, hrgn⟩ <;> rw [hbru]

theorem fullReadyTimeout_reached (hph : s.phase = .front ∨ s.phase = .fabricReady) :
    Completes .fullReadyTimeout s (fun u : State => u.phase = .fullReady ∧ u.bru.incomplete = true ∧ u.rgn = s.rgn) := by
  obtain ⟨hphase, hbru, hrgn⟩ := s.fullIsReady_eq 90000 true
  refine ⟨_, congrArg Outcome.next (if_pos hph), hphase, ?_, hrgn⟩
  rw [hbru]

theorem fullReadyTimeout_waits (hfront : s.phase ≠ .front) (hready : s.phase ≠ .fabricReady) :
    exec .fullReadyTimeout s = .next s :=
  congrArg Outcome.next (if_neg (not_or.2 ⟨hfront, hready⟩))

/-- The state that FABRIC_READY's event is posted from: the routes of the READY regions, the dumps in a READY region. -/
def State.fabricSet (s : State) (ms : Nat) : State :=
  State.moveFwRegion ((List.range 144).foldl (fun (u : State) r => u.updFab r (fun f => { f with routeGen := f.routeGen + 1 })) { s with
    routeSet := some ((List.range 144).filter (fun r => decide ((s.rg r).state = .ready))), phase := .fabricReady
    bru := { s.bru with fabricMs := BitVec.ofNat 32 ms } })

/-- What FABRIC_READY and the choice of the dumps' region leave unchanged. -/
structure State.SameFront (u s : State) : Prop where
  phase : u.phase = s.phase
  fabricMs : u.bru.fabricMs = s.bru.fabricMs
  routeSet : u.routeSet = s.routeSet
  links : u.links = s.links
  cad : u.cad = s.cad
  privLink : u.sec.privLink = s.sec.privLink

theorem State.moveFwRegion_sameFront (s : State) : s.moveFwRegion.SameFront s := by
  unfold State.moveFwRegion
  dsimp only
  split
  · exact ⟨rfl, rfl, rfl, rfl, rfl, rfl⟩
  · split <;> exact ⟨rfl, rfl, rfl, rfl, rfl, rfl⟩

theorem foldl_updFab_sameFront (f : RegionFabric → RegionFabric) (l : List Nat) (s : State) :
    (l.foldl (fun (u : State) r => u.updFab r f) s).SameFront s :=
  ⟨foldl_keep State.phase _ _ _ fun _ _ => rfl, foldl_keep (fun u : State => u.bru.fabricMs) _ _ _ fun _ _ => rfl,
    foldl_keep State.routeSet _ _ _ fun _ _ => rfl, foldl_keep State.links _ _ _ fun _ _ => rfl,
    foldl_keep State.cad _ _ _ fun _ _ => rfl, foldl_keep (fun u : State => u.sec.privLink) _ _ _ fun _ _ => rfl⟩

theorem State.SameFront.trans {s t u : State} (h : u.SameFront t) (k : t.SameFront s) : u.SameFront s :=
  ⟨h.phase.trans k.phase, h.fabricMs.trans k.fabricMs, h.routeSet.trans k.routeSet, h.links.trans k.links, h.cad.trans k.cad,
    h.privLink.trans k.privLink⟩

theorem State.fabricIsReady_reaches (s : State) (ms : Nat) : (s.fabricIsReady ms).phase = .fabricReady ∧
    (s.fabricIsReady ms).bru.fabricMs = BitVec.ofNat 32 ms ∧
    (s.fabricIsReady ms).routeSet = some ((List.range 144).filter (fun i => decide ((s.rg i).state = .ready))) ∧
    s.eventAt (s.fabricIsReady ms) s.priv 0x0F01 0 0 ms := by
  have hset : (s.fabricSet ms).SameFront { s with
      routeSet := some ((List.range 144).filter (fun r => decide ((s.rg r).state = .ready))), phase := .fabricReady
      bru := { s.bru with fabricMs := BitVec.ofNat 32 ms } } :=
    (State.moveFwRegion_sameFront _).trans (foldl_updFab_sameFront ..)
  generalize ht : (s.fabricSet ms).postModule 0x0F01 0 0 ms = t
  have htell : t.OnlyTells (s.fabricSet ms) := ht ▸ State.postModule_tells ..
  have hlk : ∀ k, (s.fabricSet ms).lk k = s.lk k := fun k => by simp only [State.lk, hset.links]
  have hevent : s.eventAt t s.priv 0x0F01 0 0 ms := by
    have hpriv : (s.fabricSet ms).priv = s.priv := by simp only [State.priv, hset.privLink]
    rw [← ht, State.postModule, hpriv]
    exact State.postTo_eventAt (State.hearsAs_pf _ (hlk _) hset.cad) _ _ _ _
  have ht' : t.phase = .fabricReady ∧ t.bru.fabricMs = BitVec.ofNat 32 ms ∧
      t.routeSet = some ((List.range 144).filter (fun i => decide ((s.rg i).state = .ready))) ∧ s.eventAt t s.priv 0x0F01 0 0 ms :=
    ⟨(htell.field State.phase).trans hset.phase, (htell.field (fun u : State => u.bru.fabricMs)).trans hset.fabricMs,
      (htell.field State.routeSet).trans hset.routeSet, hevent⟩
  have hend : s.fabricIsReady ms = if t.cad.state = .unset ∧ t.cad.sourceMode = 3 then t.startLocal 0 else t := ht ▸ rfl
  rw [hend]
  split
  · exact ht'
  · exact ht'

theorem fabricReady_reached (ms : Nat) (hph : s.phase = .front) (hsch : (s.core .sch).state = .running)
    (hall : ∀ i, i < 144 → (s.rg i).state = .ready ∨ (s.rg i).state = .fenced) :
    Completes (.fabricReady ms) s (fun u => u.phase = .fabricReady ∧ u.bru.fabricMs = BitVec.ofNat 32 ms ∧
      u.routeSet = some ((List.range 144).filter (fun i => decide ((s.rg i).state = .ready))) ∧ s.eventAt u s.priv 0x0F01 0 0 ms) := by
  have hregions : (List.range 144).all (fun r => decide ((s.rg r).state = .ready) || decide ((s.rg r).state = .fenced)) = true := by
    simpa using hall
  exact ⟨_, congrArg Outcome.next (if_pos ⟨hph, by simp [State.schRuns, State.coreRuns, hsch], hregions⟩), s.fabricIsReady_reaches ms⟩

theorem fabricReady_waits (ms : Nat)
    (h : s.phase ≠ .front ∨ ∃ i, i < 144 ∧ (s.rg i).state ≠ .ready ∧ (s.rg i).state ≠ .fenced) : exec (.fabricReady ms) s = .next s := by
  refine congrArg Outcome.next (if_neg ?_)
  rintro ⟨hph, -, hregions⟩
  rcases h with h | ⟨i, hi, hready, hfenced⟩
  · exact h hph
  · have := List.all_eq_true.1 hregions i (List.mem_range.2 hi)
    simp [hready, hfenced] at this

/-! ### Flash links -/

theorem getLsbD_withBit {w : Nat} (x : BitVec w) (k : Nat) (v : Bool) (j : Nat) (hj : j < w) :
    (withBit x k v).getLsbD j = if j = k then v else x.getLsbD j := by
  unfold withBit
  by_cases e : j = k
  · subst e; cases v <;> simp [hj]
  · cases v <;> simp [e, hj]

theorem flashLinkUp_up (f : Fin 8) (h : s.hasFlash = true)
    (hwells : ∀ r ∈ wellsOf 5 (some f.val), (s.rg r).bru.wellReady = true ∧ (s.rg r).bru.wellFailed = false) :
    Completes (.flashLinkUp f) s (fun u => u.bru.flashUp.getLsbD f.val = true ∧
      (∀ j, j < 8 → j ≠ f.val → u.bru.flashUp.getLsbD j = s.bru.flashUp.getLsbD j) ∧ u.rgn = s.rgn) := by
  have hgood : (wellsOf 5 (some f.val)).all (fun r => s.wellGood r) = true := by
    simpa [State.wellGood] using hwells
  refine ⟨_, congrArg Outcome.next (if_pos ⟨h, hgood⟩), ?_, fun j hj hne => ?_, rfl⟩
  · exact (getLsbD_withBit _ _ _ _ f.isLt).trans (if_pos rfl)
  · exact (getLsbD_withBit _ _ _ _ hj).trans (if_neg hne)

theorem flashLinkDown_down (f : Fin 8) (h : s.hasFlash = true) :
    Completes (.flashLinkDown f) s (fun u => u.bru.flashUp.getLsbD f.val = false ∧
      (∀ j, j < 8 → j ≠ f.val → u.bru.flashUp.getLsbD j = s.bru.flashUp.getLsbD j) ∧ u.rgn = s.rgn) := by
  refine ⟨_, congrArg Outcome.next (if_pos h), ?_, fun j hj hne => ?_, rfl⟩
  · exact (getLsbD_withBit _ _ _ _ f.isLt).trans (if_pos rfl)
  · exact (getLsbD_withBit _ _ _ _ hj).trans (if_neg hne)

end

/-- Settles O35, phase by phase: SEC and its images, the front, FABRIC_READY, FULL_READY, the flash links. -/
theorem startUpReachesFullReady : Obligations.StartUpReachesFullReady := by
  unfold Obligations.StartUpReachesFullReady
  intro s ms
  refine ⟨fun a => ⟨secRelease_boots a, secRelease_waits a⟩,
    fun kind slot img => ⟨bootImage_notDue kind slot img ms, fun hdue hbad => ?_, fun hdue => ?_, fun hdue hgood => ?_⟩,
    fabricReady_reached ms, fabricReady_waits ms, fullReady_reached ms, fullReadyTimeout_reached, fullReadyTimeout_waits,
    fun f h => ⟨flashLinkUp_up f h, flashLinkDown_down f h⟩⟩
  · exact ⟨_, (bootImageReceive_due hdue img ms).trans (congrArg Outcome.next (if_neg hbad)), State.imageFailed_fails hdue _⟩
  · exact ⟨_, bootLinkTimeout_due hdue, State.imageFailed_fails hdue 7⟩
  · exact ⟨_, (bootImageReceive_due hdue img ms).trans (congrArg Outcome.next (if_pos hgood)), s.imageStarts_runs kind slot img.image ms hdue.1⟩

end Sys2Proof.Machine
end

section
/-! PROOFS. Event rings, status pages, Bus Master Enable, host links and resets of functions (02 R68, R69, 03 R88, R89, R116-R121). -/
namespace Sys2Proof.Machine

open Host

variable {s : State}

/-! ### Endpoints -/

theorem State.updEp_congr (ep : Ep) {f g : Endpoint → Endpoint} (h : f (s.endpoint ep) = g (s.endpoint ep)) :
    s.updEp ep f = s.updEp ep g := by
  cases ep with
  | pf k => simp only [State.updEp, State.updL, show f (s.lk k).ep = g (s.lk k).ep from h]
  | vf n => simp only [State.updEp, State.updP, show f (s.pt n).ep = g (s.pt n).ep from h]

@[simp] theorem State.endpoint_updEp_same (s : State) (ep : Ep) (f : Endpoint → Endpoint) :
    (s.updEp ep f).endpoint ep = f (s.endpoint ep) := by
  cases ep with
  | pf k => simp [State.endpoint, State.updEp]
  | vf n => simp [State.endpoint, State.updEp]

theorem State.epOpen_of_open (ep : Ep) (h : match ep with | .pf _ => True | .vf n => s.vfLive n = true) : s.epOpen ep = true := by
  cases ep with
  | pf k => rfl
  | vf n => exact h

/-! ### Event rings (03 R116, R117) -/

section
variable (q : EventRing) (v : W16)

theorem EventRing.enable_off (hen : q.en = false) (hlo : 4 ≤ q.log2.toNat) (hhi : q.log2.toNat ≤ 12) :
    q.enable = { q with en := true, tail := 0, head := 0, phase := true, seq := 0, used := 0, losing := false } :=
  if_pos (by rw [hen, decide_eq_true hlo, decide_eq_true hhi]; rfl)

theorem EventRing.consume_inside (hv : v.toNat < 2 ^ q.log2.toNat)
    (hused : (v.toNat + 2 ^ q.log2.toNat - q.head.toNat) % 2 ^ q.log2.toNat ≤ q.used) :
    q.consume v = { q with head := v, used := q.used - (v.toNat + 2 ^ q.log2.toNat - q.head.toNat) % 2 ^ q.log2.toNat } :=
  if_neg (not_or.2 ⟨not_le.2 hv, not_lt.2 hused⟩)

theorem EventRing.consume_outside (hv : 2 ^ q.log2.toNat ≤ v.toNat) : q.consume v = q := if_pos (Or.inl hv)

end

theorem StatusPage.enable_off (p : StatusPage) (hen : p.en = false) : p.enable = { p with en := true, heartbeat := 0 } :=
  if_neg (by simp [hen])

theorem evqEnable_enables (ep : Ep) (hopen : s.epOpen ep = true) (hen : (s.endpoint ep).evq.en = false)
    (hlo : 4 ≤ (s.endpoint ep).evq.log2.toNat) (hhi : (s.endpoint ep).evq.log2.toNat ≤ 12) :
    exec (.evqEnable ep) s = .next (s.updEp ep (fun x => { x with evq := { (s.endpoint ep).evq with
      en := true, tail := 0, head := 0, phase := true, seq := 0, used := 0, losing := false } })) := by
  refine congrArg Outcome.next ((if_pos hopen).trans (State.updEp_congr ep ?_))
  exact congrArg (fun q => { s.endpoint ep with evq := q }) (EventRing.enable_off _ hen hlo hhi)

theorem evqHeadWrite_consumes (ep : Ep) (hopen : s.epOpen ep = true) (v : W16) (hv : v.toNat < 2 ^ (s.endpoint ep).evq.log2.toNat)
    (hused : (v.toNat + 2 ^ (s.endpoint ep).evq.log2.toNat - (s.endpoint ep).evq.head.toNat) % 2 ^ (s.endpoint ep).evq.log2.toNat ≤
      (s.endpoint ep).evq.used) :
    exec (.evqHeadWrite ep v) s = .next (s.updEp ep (fun x => { x with evq := { (s.endpoint ep).evq with
      head := v
      used := (s.endpoint ep).evq.used - (v.toNat + 2 ^ (s.endpoint ep).evq.log2.toNat - (s.endpoint ep).evq.head.toNat) %
        2 ^ (s.endpoint ep).evq.log2.toNat } })) := by
  refine congrArg Outcome.next ((if_pos hopen).trans (State.updEp_congr ep ?_))
  exact congrArg (fun q => { s.endpoint ep with evq := q }) (EventRing.consume_inside _ v hv hused)

theorem evqHeadWrite_outside (ep : Ep) (hopen : s.epOpen ep = true) (v : W16) (hv : 2 ^ (s.endpoint ep).evq.log2.toNat ≤ v.toNat) :
    Completes (.evqHeadWrite ep v) s (fun u => u.endpoint ep = s.endpoint ep) := by
  refine ⟨_, congrArg Outcome.next (if_pos hopen), (State.endpoint_updEp_same ..).trans ?_⟩
  exact congrArg (fun q => { s.endpoint ep with evq := q }) (EventRing.consume_outside _ v hv)

/-! ### Status pages (03 R118-R121) -/

theorem statusEnable_enables (ep : Ep) (hopen : s.epOpen ep = true) (hen : (s.endpoint ep).status.en = false) :
    exec (.statusEnable ep) s =
      .next (s.updEp ep (fun x => { x with status := { (s.endpoint ep).status with en := true, heartbeat := 0 } })) := by
  refine congrArg Outcome.next ((if_pos hopen).trans (State.updEp_congr ep ?_))
  exact congrArg (fun q => { s.endpoint ep with status := q }) (StatusPage.enable_off _ hen)

/-- The page's first three words: HEARTBEAT, the cadence count, GEN_STATE (03 T3.14). -/
theorem State.statusBody_head (s : State) (ep : Ep) (heartbeat : W64) (overs : Bool) : ∃ rest, rest.length = 4064 ∧
    s.statusBody ep heartbeat overs = leBytes 8 heartbeat.toNat ++ (leBytes 8 s.cad.count.toNat ++ (leBytes 8 s.genState ++ rest)) := by
  unfold State.statusBody
  cases ep <;> simp only [List.append_assoc] <;> refine ⟨_, ?_, rfl⟩
  · simp only [List.length_append, leBytes_length, List.length_replicate]
  · simp only [List.length_append, leBytes_length, List.length_replicate, List.length_flatMap, List.map_const', List.length_range,
      List.sum_replicate_nat]

theorem State.refresh_writes (ep : Ep) (overs : Bool) (hen : (s.endpoint ep).status.en = true) (hcan : s.canWrite ep = true) :
    let p := (s.endpoint ep).status
    ((s.refresh ep overs).endpoint ep).status = { p with seq := p.seq + 2, heartbeat := p.heartbeat + 1 } ∧
    ∃ body, body.length = 4088 ∧ body.take 8 = leBytes 8 p.heartbeat.toNat ∧ (body.drop 8).take 8 = leBytes 8 s.cad.count.toNat ∧
      (body.drop 16).take 8 = leBytes 8 s.genState ∧
      (s.refresh ep overs).out = Output.hostWrite ep (4096 * p.base.toNat) (leBytes 8 (p.seq + 2).toNat) ::
        Output.hostWrite ep (4096 * p.base.toNat + 8) body :: Output.hostWrite ep (4096 * p.base.toNat) (leBytes 8 (p.seq + 1).toNat) :: s.out := by
  intro p
  obtain ⟨rest, hlen, hbody⟩ := s.statusBody_head ep p.heartbeat overs
  have h8 (v : Nat) (l : List Byte) : (leBytes 8 v ++ l).take 8 = leBytes 8 v := List.take_left' (leBytes_length 8 v)
  have hdrop (v : Nat) (l : List Byte) : (leBytes 8 v ++ l).drop 8 = l := List.drop_left' (leBytes_length 8 v)
  have href : s.refresh ep overs = { s.updEp ep (fun y => { y with status := { y.status with
      seq := p.seq + 2, heartbeat := y.status.heartbeat + 1 } }) with
      out := .hostWrite ep (4096 * p.base.toNat) (leBytes 8 (p.seq + 2).toNat) ::
        .hostWrite ep (4096 * p.base.toNat + 8) (s.statusBody ep p.heartbeat overs) ::
        .hostWrite ep (4096 * p.base.toNat) (leBytes 8 (p.seq + 1).toNat) :: s.out } := if_pos (by simp [hen, hcan])
  rw [href]
  refine ⟨?_, s.statusBody ep p.heartbeat overs, ?_, ?_, ?_, ?_, rfl⟩
  · exact congrArg Endpoint.status (State.endpoint_updEp_same ..)
  · simp [hbody, leBytes_length, hlen]
  · rw [hbody, h8]
  · rw [hbody, hdrop, h8]
  · rw [hbody, show 16 = 8 + 8 from rfl, ← List.drop_drop, hdrop, hdrop, h8]

theorem statusPageRefresh_writes (ep : Ep) (hen : (s.endpoint ep).status.en = true) (hcan : s.canWrite ep = true)
    (hlive : ∀ n, ep = .vf n → (s.pt n).state ≠ .free) :
    let p := (s.endpoint ep).status
    Completes (.statusPageRefresh ep) s (fun u =>
      (u.endpoint ep).status = { p with seq := p.seq + 2, heartbeat := p.heartbeat + 1 } ∧
      ∃ body, body.length = 4088 ∧ body.take 8 = leBytes 8 p.heartbeat.toNat ∧ (body.drop 8).take 8 = leBytes 8 s.cad.count.toNat ∧
        (body.drop 16).take 8 = leBytes 8 s.genState ∧
        u.out = Output.hostWrite ep (4096 * p.base.toNat) (leBytes 8 (p.seq + 2).toNat) :: Output.hostWrite ep (4096 * p.base.toNat + 8) body ::
          Output.hostWrite ep (4096 * p.base.toNat) (leBytes 8 (p.seq + 1).toNat) :: s.out) := by
  cases ep with
  | pf k => exact ⟨_, rfl, State.refresh_writes (.pf k) _ hen hcan⟩
  | vf n =>
    exact ⟨_, congrArg Outcome.next (if_neg (mt (PartState.isFree_iff _).1 (hlive n rfl))), State.refresh_writes (.vf n) _ hen hcan⟩

/-! ### Bus Master Enable and links (03 R88, R89) -/

theorem busMasterEnableSet_opens (k : Fin 4) (hheld : (s.lk k).ep.held = []) :
    Completes (.busMasterEnableSet (.pf k)) s (fun u => (u.lk k).bme = true ∧ (u.lk k).vfBme = (s.lk k).vfBme ∧ u.out = s.out) := by
  let t := s.updL k (fun x => { x with bme := true })
  have hlk : t.lk k = { s.lk k with bme := true } := State.lk_updL_same ..
  have hitems : (t.endpoint (.pf k)).held = [] := by simp only [State.endpoint, hlk, hheld]
  refine ⟨t.releaseHeld (.pf k), rfl, ?_⟩
  unfold State.releaseHeld
  split
  · rw [hitems]
    simp [State.updEp, hlk, t]
  · exact ⟨by rw [hlk], by rw [hlk], rfl⟩

/-- What a function holds stays while the module may not write for it. -/
theorem State.releaseHeld_closed (s : State) (ep : Ep) (h : s.canWrite ep = false) : s.releaseHeld ep = s :=
  if_neg (by simp [h])

theorem hostLinkUp_trains (k : Fin 4) (sp : BitVec 3) (w : BitVec 5) (fl : Bool) (hbme : (s.lk k).bme = false)
    (hparts : ∀ n, n < 12 → (s.pt n).state = .free ∨ (s.pt n).hostLink ≠ k.val) :
    Completes (.hostLinkUp k sp w fl) s (fun u =>
      u.lk k = { s.lk k with up := true, speed := sp, width := w, flit := fl } ∧ u.out = s.out) := by
  let f : HostLink → HostLink := fun l => { l with up := true, speed := sp, width := w, flit := fl }
  let t1 := s.updL k f
  let t : State := { t1 with bru := { t1.bru with hostDone := withBit t1.bru.hostDone k.val true } }
  have hlk : t.lk k = { s.lk k with up := true, speed := sp, width := w, flit := fl } := s.lk_updL_same k.val f
  have hnone : t.linkParts k = [] := by
    refine List.filter_eq_nil_iff.2 fun n hn => ?_
    rcases hparts n (List.mem_range.1 hn) with h | h
    · simp [show t.pt n = s.pt n from rfl, h, PartState.isFree]
    · simp [show t.pt n = s.pt n from rfl, h]
  have hclosed : t.releaseHeld (.pf k) = t := State.releaseHeld_closed t _ (by simp [State.canWrite, hlk, hbme])
  refine ⟨t, congrArg Outcome.next ?_, hlk, rfl⟩
  exact (congrArg (List.foldl _ _) hnone).trans hclosed

/-! ### Resets that a function's reset begins (02 R69) -/

theorem State.beginReset_hostLink (s : State) (n cause j : Nat) : ((s.beginReset n cause).pt j).hostLink = (s.pt j).hostLink := by
  by_cases h : (s.pt n).state = .active
  · rw [(s.beginReset_active n cause h).pt_field j Partition.hostLink]
    by_cases e : j = n
    · subst e; rw [State.pt_updP_same]; rfl
    · rw [State.pt_updP_other _ _ _ _ e]
  · rw [s.beginReset_idle n cause h]

theorem State.beginReset_lk (s : State) (n cause k : Nat) : ((s.beginReset n cause).lk k).body = (s.lk k).body := by
  by_cases h : (s.pt n).state = .active
  · exact (s.beginReset_active n cause h).lk k
  · rw [s.beginReset_idle n cause h]

theorem State.beginReset_begins (s : State) (n cause : Nat) (h : (s.pt n).state = .active) :
    ((s.beginReset n cause).pt n).state = .resetting ∧ ((s.beginReset n cause).pt n).resetStep = 1 := by
  have ht := s.beginReset_active n cause h
  rw [ht.pt_field n Partition.state, ht.pt_field n Partition.resetStep, State.pt_updP_same]
  exact ⟨rfl, rfl⟩

theorem State.beginReset_other (s : State) (n cause j : Nat) (hj : j ≠ n) :
    ((s.beginReset n cause).pt j).state = (s.pt j).state := by
  by_cases h : (s.pt n).state = .active
  · rw [(s.beginReset_active n cause h).pt_field j Partition.state, State.pt_updP_other _ _ _ _ hj]
  · rw [s.beginReset_idle n cause h]

theorem State.beginReset_resetting (s : State) (n cause j : Nat) (h : (s.pt j).state = .resetting) :
    ((s.beginReset n cause).pt j).state = .resetting := by
  by_cases e : j = n
  · subst e; rw [s.beginReset_idle j cause (by simp [h])]; exact h
  · rw [s.beginReset_other n cause j e, h]

/-- Resets begin at the active partitions of a list; the links stay apart from their endpoints. -/
theorem foldl_beginReset (l : List Nat) (cause : Nat) (s : State) :
    let u := l.foldl (fun t n => t.beginReset n cause) s
    (∀ k, (u.lk k).body = (s.lk k).body) ∧ (∀ j, (s.pt j).state = .resetting ∨ (j ∈ l ∧ (s.pt j).state = .active) → (u.pt j).state = .resetting) := by
  induction l generalizing s with
  | nil => exact ⟨fun _ => rfl, fun j h => h.resolve_right fun h => List.not_mem_nil h.1⟩
  | cons n l ih =>
    obtain ⟨hlk, hpt⟩ := ih (s.beginReset n cause)
    refine ⟨fun k => (hlk k).trans (s.beginReset_lk n cause k), fun j h => hpt j ?_⟩
    rcases h with h | ⟨hmem, hact⟩
    · exact .inl (s.beginReset_resetting n cause j h)
    · by_cases e : j = n
      · subst e; exact .inl (s.beginReset_begins j cause hact).1
      · exact .inr ⟨(List.mem_cons.1 hmem).resolve_left e, (s.beginReset_other n cause j e).trans hact⟩

theorem State.mem_linkParts (s : State) (k n : Nat) (hn : n < 12) (hlink : (s.pt n).hostLink = k) (hact : (s.pt n).state = .active) :
    n ∈ s.linkParts k :=
  List.mem_filter.2 ⟨List.mem_range.2 hn, by simp [hlink, hact, PartState.isFree]⟩

/-! ### The reset of a physical function -/

/-- A link whose function is off: its rings disabled, nothing held. -/
structure HostLink.Off (l : HostLink) : Prop where
  bme : l.bme = false
  status : l.ep.status.en = false
  evq : l.ep.evq.en = false
  mbx : l.ep.mbx.en = false
  held : l.ep.held = []

/-- A link as the reset of its PF leaves it. -/
def HostLink.turnOff (l : HostLink) : HostLink :=
  { l with
    bme := false
    ep := { l.ep with
      evq := { l.ep.evq with en := false }
      status := { l.ep.status with en := false }
      mbx := { l.ep.mbx with en := false }
      held := [] } }

theorem HostLink.turnOff_off (l : HostLink) : l.turnOff.Off := ⟨rfl, rfl, rfl, rfl, rfl⟩

theorem State.lk_updEp_other (s : State) (ep : Ep) (k : Fin 4) (f : Endpoint → Endpoint) (h : ep ≠ .pf k) :
    (s.updEp ep f).lk k = s.lk k := by
  cases ep with
  | pf j => exact s.lk_updL_other j k _ fun e => h (congrArg Ep.pf (Fin.ext e.symm))
  | vf n => rfl

/-- No event reaches a function whose event ring is disabled. -/
theorem State.postTo_lk_disabled (s : State) (ep : Ep) (e : Event) (k : Fin 4) (h : (s.lk k).ep.evq.en = false) :
    (s.postTo ep e).lk k = s.lk k := by
  by_cases hep : ep = .pf k
  · subst hep
    exact congrArg (State.lk · k) (if_neg (by simp [State.endpoint, h]))
  · unfold State.postTo
    dsimp only
    split
    · split
      · exact s.lk_updEp_other ep k _ hep
      · split <;> exact s.lk_updEp_other ep k _ hep
    · rfl

theorem State.loseReply_off (s : State) (k : Fin 4) (h : (s.lk k).Off) : ((s.loseReply (.pf k)).lk k).Off := by
  have hlk : ((s.updEp (.pf k) (fun y => { y with mbx := { y.mbx with lost := satInc y.mbx.lost } })).lk k).Off := by
    rw [State.updEp, State.lk_updL_same]
    exact ⟨h.bme, h.status, h.evq, h.mbx, h.held⟩
  unfold State.loseReply State.postModule
  rw [State.postTo_lk_disabled _ _ _ k hlk.evq]
  exact hlk

/-- The replies a function loses when it is reset. -/
def State.loseHeld (s : State) (k : Fin 4) (l : List Held) : State :=
  l.foldl (fun t h => match h with
    | .reply _ => t.loseReply (.pf k)
    | _ => t) s

theorem State.loseHeld_tells (s : State) (k : Fin 4) (l : List Held) : (s.loseHeld k l).OnlyTells s :=
  .foldl _ _ _ fun t h => by
    cases h with
    | reply r => exact t.loseReply_tells _
    | completion i => exact .refl t
    | event e => exact .refl t

theorem State.loseHeld_off (s : State) (k : Fin 4) (l : List Held) (h : (s.lk k).Off) : ((s.loseHeld k l).lk k).Off := by
  induction l generalizing s with
  | nil => exact h
  | cons x l ih =>
    refine ih _ ?_
    cases x with
    | reply r => exact s.loseReply_off k h
    | completion i => exact h
    | event e => exact h

/-- The reset of a PF (02 R69): the active partitions of its link reset, its link is off, the rest of the link stays. -/
theorem State.pfFlr_resets (s : State) (k : Fin 4) : ((s.pfFlr k).lk k).Off ∧
    ((s.pfFlr k).lk k).body = { (s.lk k).body with bme := false } ∧
    ∀ n, n < 12 → (s.pt n).hostLink = k.val → (s.pt n).state = .active → ((s.pfFlr k).pt n).state = .resetting := by
  obtain ⟨hlk, hpt⟩ := foldl_beginReset (s.linkParts k) 2 s
  generalize ha : (s.linkParts k).foldl (fun t n => t.beginReset n 2) s = a at hlk hpt
  have hu : s.pfFlr k = (a.updL k HostLink.turnOff).loseHeld k (a.lk k).ep.held := ha ▸ rfl
  have hk : (a.updL k HostLink.turnOff).lk k = (a.lk k).turnOff := State.lk_updL_same ..
  have htell := (a.updL k HostLink.turnOff).loseHeld_tells k (a.lk k).ep.held
  rw [hu]
  refine ⟨State.loseHeld_off _ k _ (hk ▸ HostLink.turnOff_off _), ?_, fun n hn hlink hact => ?_⟩
  · rw [htell.lk k, hk, ← hlk k]
    rfl
  · rw [htell.pt_field n Partition.state]
    exact hpt n (.inr ⟨s.mem_linkParts k n hn hlink hact, hact⟩)

theorem pfFlr_completes (k : Fin 4) : Completes (.pfFlr k) s (fun u => (u.lk k).bme = false ∧ (u.lk k).ep.status.en = false ∧
    (u.lk k).ep.evq.en = false ∧ (u.lk k).ep.mbx.en = false ∧ (u.lk k).ep.held = [] ∧
    ∀ n, n < 12 → (s.pt n).hostLink = k.val → (s.pt n).state = .active → (u.pt n).state = .resetting) := by
  obtain ⟨hoff, -, hparts⟩ := s.pfFlr_resets k
  exact ⟨_, rfl, hoff.bme, hoff.status, hoff.evq, hoff.mbx, hoff.held, hparts⟩

theorem hostLinkDown_completes (k : Fin 4) : Completes (.hostLinkDown k) s (fun u => (u.lk k).up = false ∧ (u.lk k).speed = 0 ∧
    (u.lk k).width = 0 ∧ (u.lk k).linkResets = satInc (s.lk k).linkResets ∧ (u.lk k).bme = false ∧
    ∀ n, n < 12 → (s.pt n).hostLink = k.val → (s.pt n).state = .active → (u.pt n).state = .resetting) := by
  let f : HostLink → HostLink := fun l => { l with up := false, speed := 0, width := 0, flit := false, linkResets := satInc l.linkResets }
  obtain ⟨hoff, hbody, hparts⟩ := (s.updL k f).pfFlr_resets k
  have hlk : (s.updL k f).lk k = f (s.lk k) := State.lk_updL_same ..
  rw [hlk] at hbody
  exact ⟨_, rfl, (congrArg HostLink.up hbody :), (congrArg HostLink.speed hbody :), (congrArg HostLink.width hbody :),
    (congrArg HostLink.linkResets hbody :), hoff.bme, hparts⟩

/-! ### Virtual functions -/

theorem vfFlr_completes (k : Fin 4) (n : Fin 12) (hlink : (s.pt n).hostLink = k.val) (hlive : s.vfLive n = true)
    (hact : (s.pt n).state = .active) : Completes (.vfFlr k n) s (fun u =>
      (u.pt n).state = .resetting ∧ (u.pt n).resetStep = 1 ∧ (u.lk k).vfBme.getLsbD n.val = false ∧
      ∀ j, j ≠ n.val → (u.pt j).state = (s.pt j).state) := by
  let t := s.setBme (.vf k n) false
  have hlk : t.lk k = { s.lk k with vfBme := withBit (s.lk k).vfBme n.val false } := State.lk_updL_same ..
  obtain ⟨hst, hstep⟩ := t.beginReset_begins n 2 hact
  refine ⟨_, congrArg Outcome.next (if_pos ⟨hlink, hlive⟩), hst, hstep, ?_, fun j hj => t.beginReset_other n 2 j hj⟩
  have hbme : ((t.beginReset n 2).lk k).vfBme = (t.lk k).vfBme := (congrArg HostLink.vfBme (t.beginReset_lk n 2 k) :)
  rw [hbme, hlk]
  exact (getLsbD_withBit _ _ _ _ n.isLt).trans (if_pos rfl)

/-- Without VF Enable no function of the link is live. -/
theorem State.vfLive_disabled (s : State) (n : Nat) (h : (s.lk (s.pt n).hostLink).vfEnable = false) : s.vfLive n = false := by
  simp [State.vfLive, h]

theorem State.canWrite_notLive (s : State) (n : Fin 12) (h : s.vfLive n = false) : s.canWrite (.vf n) = false := by
  simp [State.canWrite, h]

/-- The live functions of a link whose VF Enable is cleared all reset. -/
theorem foldl_beginReset_disabled (l : List Nat) (k : Nat) (s : State) (hk : (s.lk k).vfEnable = false)
    (hl : ∀ n ∈ l, (s.pt n).hostLink = k) :
    l.foldl (fun t n => if t.vfLive n then t else t.beginReset n 3) s = l.foldl (fun t n => t.beginReset n 3) s := by
  induction l generalizing s with
  | nil => rfl
  | cons n l ih =>
    have hn : s.vfLive n = false := s.vfLive_disabled n (by rw [hl n List.mem_cons_self, hk])
    have hk' : ((s.beginReset n 3).lk k).vfEnable = false := (congrArg HostLink.vfEnable (s.beginReset_lk n 3 k) :).trans hk
    simp only [List.foldl_cons, hn, Bool.false_eq_true, if_false]
    exact ih _ hk' fun j hj => (s.beginReset_hostLink n 3 j).trans (hl j (List.mem_cons_of_mem n hj))

theorem vfEnableChange_disables (k : Fin 4) (num : BitVec 4) (hnum : num.toNat ≤ 12) :
    Completes (.vfEnableChange k false num) s (fun u => (u.lk k).vfEnable = false ∧ (u.lk k).numVfs = num ∧
      ∀ n, n < 12 → (s.pt n).hostLink = k.val → s.vfLive n = true → (s.pt n).state = .active → (u.pt n).state = .resetting) := by
  let f : HostLink → HostLink := fun l => { l with vfEnable := false, numVfs := num }
  let t := s.updL k f
  let before := (s.linkParts k).filter (fun n => s.vfLive n)
  have hlk : t.lk k = f (s.lk k) := State.lk_updL_same ..
  have hlinks : ∀ n ∈ before, (t.pt n).hostLink = k.val := fun n hn => by
    have hpart := (List.mem_filter.1 (List.mem_of_mem_filter hn)).2
    exact eq_of_beq (Bool.and_eq_true_iff.1 hpart).2
  obtain ⟨hlk', hpt'⟩ := foldl_beginReset before 3 t
  have hfold := foldl_beginReset_disabled before k t (by rw [hlk]) hlinks
  generalize hu : before.foldl (fun t n => t.beginReset n 3) t = u at hlk' hpt' hfold
  have hen : (u.lk k).vfEnable = false := (congrArg HostLink.vfEnable (hlk' k) :).trans (by rw [hlk]; rfl)
  have hnums : (u.lk k).numVfs = num := (congrArg HostLink.numVfs (hlk' k) :).trans (by rw [hlk]; rfl)
  have hkeep : (u.linkParts k).foldl (fun t n => t.releaseHeld (.vf (Fin.ofNat 12 n))) u = u := by
    refine foldl_eq_self _ _ _ fun n hn => u.releaseHeld_closed _ ?_
    obtain ⟨hn12, hpart⟩ := List.mem_filter.1 hn
    have hval : (Fin.ofNat 12 n).val = n := Nat.mod_eq_of_lt (List.mem_range.1 hn12)
    have hlink : (u.pt n).hostLink = k.val := eq_of_beq (Bool.and_eq_true_iff.1 hpart).2
    exact u.canWrite_notLive _ (by rw [hval]; exact u.vfLive_disabled n (by rw [hlink, hen]))
  have hexec : exec (.vfEnableChange k false num) s = .next u := by
    have hclip : (if 12 < num.toNat then 12 else num) = num := if_neg (by omega)
    dsimp only [exec, execVfEnableChange]
    rw [hclip]
    exact congrArg Outcome.next ((congrArg (fun u : State => (u.linkParts k).foldl _ u) hfold).trans hkeep)
  refine ⟨u, hexec, hen, hnums, fun n hn hlink hlive hact => hpt' n (.inr ⟨?_, hact⟩)⟩
  exact List.mem_filter.2 ⟨s.mem_linkParts k n hn hlink hact, hlive⟩

/-- Settles O21, command by command. -/
theorem functionsAndLinksFollowTheirCommands : Obligations.FunctionsAndLinksFollowTheirCommands := by
  unfold Obligations.FunctionsAndLinksFollowTheirCommands
  intro s
  refine ⟨fun ep hep => ?_, fun k => ⟨rfl, busMasterEnableSet_opens k, hostLinkUp_trains k, hostLinkDown_completes k, pfFlr_completes k,
    vfFlr_completes k, vfEnableChange_disables k⟩⟩
  have hopen := State.epOpen_of_open ep hep
  refine ⟨evqEnable_enables ep hopen, evqHeadWrite_consumes ep hopen, evqHeadWrite_outside ep hopen, statusEnable_enables ep hopen,
    fun hen hcan hlive => statusPageRefresh_writes ep hen hcan ?_⟩
  rintro n rfl
  exact hlive

end Sys2Proof.Machine
end

section
/-! PROOFS. The messages of partitions (02 R45-R49, R60, T2.2-T2.5): PART_CREATE, PART_RESIZE, PART_DESTROY, PART_RESET, PORT_ASSIGN. -/
namespace Sys2Proof.Machine

open Host

variable {s : State} {m : Msg}

/-! ### The privileged host as the sender -/

/-- The privileged host sends from the mailbox of its physical function. -/
theorem State.isPriv_sender (hp : s.isPriv m = true) : ∃ f : Fin 16, m.sender = .mbx f ∧ f.val < 4 := by
  unfold State.isPriv at hp
  cases hm : m.sender with
  | mbx f =>
    simp only [hm, decide_eq_true_eq] at hp
    exact ⟨f, rfl, by have := s.sec.privLink.isLt; omega⟩
  | _ => simp [hm] at hp

theorem State.isPriv_part (hp : s.isPriv m = true) : m.part = none := by
  obtain ⟨f, hm, hf⟩ := State.isPriv_sender hp
  simp [Msg.part, hm, hf]

/-- The reply to the privileged host stands where its link's mailbox says, whatever happens to partitions. -/
theorem State.replied_priv {u : State} (hp : s.isPriv m = true) (hlinks : u.links = s.links) (hminor : u.fw.minor = s.fw.minor)
    (hcad : u.cad = s.cad) (i handler result : Nat) (payload : List Byte) :
    s.replied (u.reply m i handler result payload) m i handler result payload := by
  obtain ⟨f, hm, hf⟩ := State.isPriv_sender hp
  have hself : u.replied (u.reply m i handler result payload) m i handler result payload :=
    State.reply_replied ⟨fun _ => ⟨rfl, rfl⟩, rfl, rfl⟩ ..
  unfold State.replied at hself ⊢
  simpa only [hm, mbxEp, hf, if_true, State.endpoint, State.canWrite, State.lk, hlinks, hminor, State.tick, hcad] using hself

/-! ### Regions and sync objects -/

theorem State.rg_setOwners_other (s : State) (l : List Nat) (o : Option Nat) (r : Nat) (h : r ∉ l) : (s.setOwners l o).rg r = s.rg r := by
  unfold State.setOwners
  induction l generalizing s with
  | nil => rfl
  | cons i l ih =>
    obtain ⟨hi, hl⟩ := not_or.1 (mt List.mem_cons.2 h)
    exact (ih _ hl).trans (s.rg_updR_other i r _ hi)

theorem State.setOwners_partition (s : State) (l : List Nat) (o : Option Nat) (r : Nat) (h : r ∈ l ∨ (s.rg r).partition = o) :
    ((s.setOwners l o).rg r).partition = o := by
  unfold State.setOwners
  induction l generalizing s with
  | nil => exact h.resolve_left List.not_mem_nil
  | cons i l ih =>
    refine ih _ ?_
    by_cases e : r = i
    · subst e; exact .inr (by rw [State.rg_updR_same])
    · rw [s.rg_updR_other i r _ e]
      exact h.imp_left fun hr => (List.mem_cons.1 hr).resolve_left e

theorem State.setOwners_keep {α : Type} (s : State) (l : List Nat) (o : Option Nat) (f : State → α)
    (hf : ∀ (x : State) a, f { x with rgn := a } = f x := by intros; rfl) : f (s.setOwners l o) = f s :=
  foldl_keep f _ _ _ fun _ _ => hf _ _

theorem tget_filter_out {α : Type} (d : α) (l : List (Nat × α)) (p : Nat × α → Bool) (k : Nat) (h : ∀ v, p (k, v) = false) :
    tget d (l.filter p) k = d := by
  induction l with
  | nil => rfl
  | cons c l ih =>
    obtain ⟨j, v⟩ := c
    cases hp : p (j, v) with
    | false => rwa [List.filter_cons_of_neg (by simp [hp])]
    | true =>
      rw [List.filter_cons_of_pos hp, tget, if_neg fun e => by simp [e, h] at hp]
      exact ih

theorem State.zeroSync_zero (s : State) (base count o : Nat) (hlo : base ≤ o) (hhi : o < base + count) :
    (s.zeroSync base count).syncGet o = 0 :=
  tget_filter_out _ _ _ _ fun _ => by simp [hlo, hhi]

/-- Where only endpoints and outputs differ, a partition is the same up to its endpoint. -/
theorem State.OnlyTells.pt_body {u : State} (h : u.OnlyTells s) (n : Nat) : u.pt n = { s.pt n with ep := (u.pt n).ep } := by
  calc u.pt n = { (u.pt n).body with ep := (u.pt n).ep } := rfl
    _ = { s.pt n with ep := (u.pt n).ep } := by rw [h.pt n]; rfl

/-! ### PART_CREATE -/

/-- The state with the partition that PART_CREATE asks for (02 R45). -/
def State.created (s : State) (m : Msg) : State :=
  ((s.setP (m.u8 0) m.newPartition).setOwners m.newPartition.regions (some (m.u8 0))).zeroSync (m.u32 8) (m.u32 12)

theorem State.created_keep {α : Type} (s : State) (m : Msg) (f : State → α)
    (hf : ∀ (x : State) a b c, f { x with rgn := a, part := b, sync := c } = f x := by intros; rfl) : f (s.created m) = f s :=
  calc f (s.created m) = f { s.created m with rgn := s.rgn, part := s.part, sync := s.sync } := (hf _ _ _ _).symm
    _ = f { s with rgn := s.rgn, part := s.part, sync := s.sync } := by
      congr 1
      exact State.setOwners_keep _ _ _ fun x : State => { x with rgn := s.rgn, part := s.part, sync := s.sync }

theorem State.created_pt (s : State) (m : Msg) : (s.created m).pt (m.u8 0) = m.newPartition :=
  (State.setOwners_keep _ _ _ fun x : State => x.pt (m.u8 0)).trans (s.pt_setP_same ..)

section
variable (h : s.canHandle .sec 0x0201) (hp : s.isPriv m = true) (hn : m.u8 0 ≤ 11) (hlink : m.u8 5 ≤ 3) (hpower : m.u8 16 ≤ 1)
  (hfree : (s.pt (m.u8 0)).state = .free)
include hp hn hlink hpower hfree

/-- A permitted request for a free partition is refused for its shape, its regions, its key or its sync objects only. -/
theorem State.createRefusal_permitted : s.createRefusal m =
    if !rectValid (m.u8 1) (m.u8 2) (m.u8 3) (m.u8 4) then some rShapeInvalid
    else if !s.regionsFree (rectRegions (m.u8 1) (m.u8 2) (m.u8 3) (m.u8 4)) then some rShapeInvalid
    else if !s.keyFree (m.u16 6) then some rKeyInUse
    else if !s.syncFree (m.u32 8) (m.u32 12) then some rNoResource
    else none :=
  (if_neg (by simp [hp])).trans ((if_neg (by omega)).trans (if_neg (by simp [hfree, PartState.isFree])))

include h

omit hp hn hlink hpower in
/-- A refused request changes no partition. -/
theorem partCreate_refuses (r : Nat) (hr : s.createRefusal m = some r) : Completes (.partCreate m []) s (fun u =>
    (u.pt (m.u8 0)).state = .free ∧ s.replied u m 0x0201 0 r []) := by
  have hr' : (s.takeMsg 0x0201 m).createRefusal m = some r := hr
  dsimp only [Completes, exec]
  refine State.handle_completes h (v := (s.takeMsg 0x0201 m).reply m 0x0201 0 r []) ?_ ⟨?_, s.replied_alone ..⟩
  · rw [hr']
  · rw [(State.reply_tells ..).pt_field _ Partition.state]
    exact hfree

theorem partCreate_shape (hbad : m.u8 3 = 0 ∨ m.u8 4 = 0 ∨ 12 < m.u8 1 + m.u8 3 ∨ 12 < m.u8 2 + m.u8 4) :
    Completes (.partCreate m []) s (fun u => (u.pt (m.u8 0)).state = .free ∧ s.replied u m 0x0201 0 2 []) := by
  refine partCreate_refuses h hfree rShapeInvalid ?_
  rw [State.createRefusal_permitted hp hn hlink hpower hfree]
  refine if_pos ?_
  simp only [rectValid, Bool.not_eq_true', Bool.and_eq_false_iff, decide_eq_false_iff_not]
  omega

section
variable (hw : 1 ≤ m.u8 3) (hh : 1 ≤ m.u8 4) (hx : m.u8 1 + m.u8 3 ≤ 12) (hy : m.u8 2 + m.u8 4 ≤ 12)
  (hregions : ∀ r ∈ rectRegions (m.u8 1) (m.u8 2) (m.u8 3) (m.u8 4), (s.rg r).state = .ready ∧ (s.rg r).partition = none)
include hw hh hx hy hregions

omit h in
theorem State.createRefusal_placed : s.createRefusal m =
    if !s.keyFree (m.u16 6) then some rKeyInUse else if !s.syncFree (m.u32 8) (m.u32 12) then some rNoResource else none := by
  rw [State.createRefusal_permitted hp hn hlink hpower hfree]
  refine (if_neg ?_).trans (if_neg ?_)
  · simp [rectValid, hw, hh, hx, hy]
  · simpa [State.regionsFree] using hregions

theorem partCreate_keyInUse (hkey : ∃ j, j < 12 ∧ (s.pt j).state ≠ .free ∧ (s.pt j).key.toNat = m.u16 6) :
    Completes (.partCreate m []) s (fun u => (u.pt (m.u8 0)).state = .free ∧ s.replied u m 0x0201 0 3 []) := by
  refine partCreate_refuses h hfree rKeyInUse ?_
  rw [State.createRefusal_placed hp hn hlink hpower hfree hw hh hx hy hregions]
  refine if_pos ?_
  obtain ⟨j, hj, hlive, hkey⟩ := hkey
  have hmem : j ∈ s.liveParts := List.mem_filter.2 ⟨List.mem_range.2 hj, by simpa [Bool.eq_false_iff, PartState.isFree_iff] using hlive⟩
  have hall : (s.liveParts.all fun n => (s.pt n).key.toNat != m.u16 6) = false :=
    List.all_eq_false.2 ⟨j, hmem, by simp [hkey]⟩
  simp [State.keyFree, hall]

theorem partCreate_creates (hkey : s.keyFree (m.u16 6) = true) (hsync : s.syncFree (m.u32 8) (m.u32 12) = true) :
    let rect := rectRegions (m.u8 1) (m.u8 2) (m.u8 3) (m.u8 4)
    Completes (.partCreate m []) s (fun u =>
      let p := u.pt (m.u8 0)
      p.state = .active ∧ p.rx0 = m.u8 1 ∧ p.ry0 = m.u8 2 ∧ p.w = m.u8 3 ∧ p.h = m.u8 4 ∧ p.hostLink = m.u8 5 ∧ p.key.toNat = m.u16 6 ∧
      p.syncBase = m.u32 8 ∧ p.syncCount = m.u32 12 ∧ p.mem.pages = [] ∧ p.rings = [] ∧ (∀ r ∈ rect, (u.rg r).partition = some (m.u8 0)) ∧
      (∀ r, r ∉ rect → u.rg r = s.rg r) ∧ (∀ o, m.u32 8 ≤ o → o < m.u32 8 + m.u32 12 → u.syncGet o = 0) ∧ s.memSame u ∧
      s.replied u m 0x0201 0 0 []) := by
  intro rect
  have hr : (s.takeMsg 0x0201 m).createRefusal m = none := by
    refine (State.createRefusal_placed hp hn hlink hpower hfree hw hh hx hy hregions).trans ?_
    rw [hkey, hsync]
    rfl
  let t := s.takeMsg 0x0201 m
  have htell := (t.created m).reply_tells m 0x0201 0 rOK []
  have hpriv : s.replied ((t.created m).reply m 0x0201 0 rOK []) m 0x0201 0 0 [] :=
    State.replied_priv hp (t.created_keep m State.links) (t.created_keep m fun x => x.fw.minor) (t.created_keep m State.cad) ..
  generalize hu : (t.created m).reply m 0x0201 0 rOK [] = u at htell hpriv
  have hpt := htell.pt_body (m.u8 0)
  rw [t.created_pt] at hpt
  have hrg (r : Nat) : u.rg r = (t.created m).rg r := htell.field (fun x : State => x.rg r)
  have hmemory : s.memSame u := ⟨(htell.field State.sram).trans (t.created_keep m State.sram), (htell.field State.sramG).trans (t.created_keep m State.sramG),
    (htell.field State.slices).trans (t.created_keep m State.slices), (htell.field State.sliceG).trans (t.created_keep m State.sliceG),
    (htell.field State.flash).trans (t.created_keep m State.flash)⟩
  dsimp only [Completes, exec]
  refine State.handle_completes h (v := u) ?_ ?_
  · rw [hr, ← hu]
    rfl
  · rw [hpt]
    refine ⟨rfl, rfl, rfl, rfl, rfl, rfl, ?_, rfl, rfl, rfl, rfl, fun r hmem => ?_, fun r hmem => ?_, fun o hlo hhi => ?_, hmemory, hpriv⟩
    · exact (BitVec.toNat_ofNat _ _).trans (Nat.mod_eq_of_lt (leAt_lt _ _ _))
    · rw [hrg]; exact State.setOwners_partition _ rect _ r (.inl hmem)
    · rw [hrg]; exact State.rg_setOwners_other _ rect _ r hmem
    · rw [htell.field (fun x : State => x.syncGet o)]; exact State.zeroSync_zero _ _ _ _ hlo hhi

end
end

/-! ### PART_RESIZE, PART_DESTROY and PART_RESET -/

theorem partResize_accepts (h : s.canHandle .sec 0x0202) (hp : s.isPriv m = true) (hn : m.u8 0 ≤ 11)
    (hact : (s.pt (m.u8 0)).state = .active) (hok : s.resizeRefusal (m.u8 0) m.resize = none) : Completes (.partResize m) s (fun u =>
      (u.pt (m.u8 0)).state = .resetting ∧ (u.pt (m.u8 0)).resetStep = 1 ∧ (u.pt (m.u8 0)).resize = some m.resize ∧
      (∀ r ∈ (s.pt (m.u8 0)).added m.resize, (u.rg r).partition = some (m.u8 0)) ∧ s.replied u m 0x0202 0 0 []) := by
  have hact' : ((s.takeMsg 0x0202 m).pt (m.u8 0)).state = .active := hact
  have hok' : (s.takeMsg 0x0202 m).resizeRefusal (m.u8 0) m.resize = none := hok
  let t1 := (s.takeMsg 0x0202 m).setOwners ((s.pt (m.u8 0)).added m.resize) (some (m.u8 0))
  let t2 := t1.updP (m.u8 0) (fun p => { p with resize := some m.resize })
  let t3 := t2.reply m 0x0202 0 rOK []
  have htell : t3.OnlyTells t2 := t2.reply_tells ..
  have hpt : t2.pt (m.u8 0) = { s.pt (m.u8 0) with resize := some m.resize } := by
    rw [State.pt_updP_same]
    exact congrArg (fun p : Partition => { p with resize := some m.resize }) (State.setOwners_keep _ _ _ fun x : State => x.pt (m.u8 0))
  have hbegin := t3.beginReset_active (m.u8 0) 6 (by rw [htell.pt_field _ Partition.state, hpt]; exact hact)
  have hlinks : t2.links = s.links := (s.takeMsg 0x0202 m).setOwners_keep _ _ State.links
  have hminor : t2.fw.minor = s.fw.minor := (s.takeMsg 0x0202 m).setOwners_keep _ _ fun x : State => x.fw.minor
  have hcad : t2.cad = s.cad := (s.takeMsg 0x0202 m).setOwners_keep _ _ State.cad
  have hreplied : s.replied t3 m 0x0202 0 0 [] := State.replied_priv hp hlinks hminor hcad ..
  dsimp only [Completes, exec]
  refine State.handle_completes h (v := t3.beginReset (m.u8 0) 6) ?_ ⟨?_, ?_, ?_, fun r hr => ?_, ?_⟩
  · refine (if_neg (by simp [hp])).trans ((if_neg (by omega)).trans ?_)
    rw [hact', hok']
    rfl
  · rw [hbegin.pt_field _ Partition.state, State.pt_updP_same]; rfl
  · rw [hbegin.pt_field _ Partition.resetStep, State.pt_updP_same]; rfl
  · rw [hbegin.pt_field _ Partition.resize, State.pt_updP_same]
    exact (htell.pt_field _ Partition.resize).trans (congrArg Partition.resize hpt)
  · have hrg : ((t3.beginReset (m.u8 0) 6).rg r) = t1.rg r :=
      (hbegin.field fun x : State => x.rg r).trans (htell.field fun x : State => x.rg r)
    rw [hrg]
    exact State.setOwners_partition _ _ _ r (.inl hr)
  · exact hreplied.mono hbegin.out

section
variable (h : s.canHandle .sec 0x0203) (hp : s.isPriv m = true) (hn : m.u8 0 ≤ 11) (hact : (s.pt (m.u8 0)).state = .active)
include h hp hn hact

theorem partDestroy_begins (hhome : s.isHome (m.u8 0) = false) : Completes (.partDestroy m) s (fun u =>
    (u.pt (m.u8 0)).state = .resetting ∧ (u.pt (m.u8 0)).destroy = some m) := by
  have hact' : ((s.takeMsg 0x0203 m).pt (m.u8 0)).state = .active := hact
  let t := (s.takeMsg 0x0203 m).updP (m.u8 0) (fun p => { p with destroy := some m })
  have hpt : t.pt (m.u8 0) = { s.pt (m.u8 0) with destroy := some m } := State.pt_updP_same ..
  have hbegin := t.beginReset_active (m.u8 0) 6 (by rw [hpt]; exact hact)
  dsimp only [Completes, exec]
  refine State.handle_completes h (v := t.beginReset (m.u8 0) 6) ?_ ⟨?_, ?_⟩
  · refine (if_neg (by simp [hp])).trans ((if_neg (by omega)).trans ?_)
    rw [hact']
    exact if_neg (Bool.eq_false_iff.1 hhome)
  · rw [hbegin.pt_field _ Partition.state, State.pt_updP_same]; rfl
  · rw [hbegin.pt_field _ Partition.destroy, State.pt_updP_same]
    exact congrArg Partition.destroy hpt

/-- A home of a shared region stays (02 R48). -/
theorem partDestroy_home (hhome : s.isHome (m.u8 0) = true) : Completes (.partDestroy m) s (fun u =>
    (u.pt (m.u8 0)).state = .active ∧ s.replied u m 0x0203 0 4 []) := by
  have hact' : ((s.takeMsg 0x0203 m).pt (m.u8 0)).state = .active := hact
  dsimp only [Completes, exec]
  refine State.handle_completes h (v := (s.takeMsg 0x0203 m).reply m 0x0203 0 rBusy []) ?_ ⟨?_, s.replied_alone ..⟩
  · refine (if_neg (by simp [hp])).trans ((if_neg (by omega)).trans ?_)
    rw [hact']
    exact if_pos hhome
  · rw [(State.reply_tells ..).pt_field _ Partition.state]
    exact hact

end

theorem partReset_begins (h : s.canHandle .sec 0x0204) (hp : s.isPriv m = true) (hn : m.u8 0 ≤ 11)
    (hact : (s.pt (m.u8 0)).state = .active) : Completes (.partReset m) s (fun u =>
      (u.pt (m.u8 0)).state = .resetting ∧ (u.pt (m.u8 0)).resetStep = 1 ∧ s.replied u m 0x0204 0 0 []) := by
  obtain ⟨f, hsender, hf⟩ := State.isPriv_sender hp
  let t := (s.takeMsg 0x0204 m).beginReset (m.u8 0) 1
  have htell := t.reply_tells m 0x0204 0 rOK []
  obtain ⟨hst, hstep⟩ := (s.takeMsg 0x0204 m).beginReset_begins (m.u8 0) 1 hact
  have hpf : m.pfLink = some f.val := by simp [Msg.pfLink, hsender, hf]
  have hminor : t.fw.minor = s.fw.minor := congrArg (·.minor) (show t.fw = (s.takeMsg 0x0204 m).fw by simp [t])
  have hcad : t.cad = s.cad := show t.cad = (s.takeMsg 0x0204 m).cad by simp [t]
  have hstands : t.standing = s.standing := (s.takeMsg 0x0204 m).beginReset_standing (m.u8 0) 1
  dsimp only [Completes, exec]
  refine State.handle_completes h (v := t.reply m 0x0204 0 rOK []) ?_ ⟨?_, ?_, ?_⟩
  · simp only [State.isPriv_part hp, hpf]
    refine (if_neg (by simp [hp])).trans (if_neg ?_)
    simp only [State.takeMsg_pt, hact, PartState.isFree, Bool.false_eq_true, or_false]
    omega
  · rw [htell.pt_field _ Partition.state, hst]
  · rw [htell.pt_field _ Partition.resetStep, hstep]
  · exact State.replied_after m hstands hminor hcad ..

/-! ### PORT_ASSIGN: requests that wait for a port are sent, those of a released port are sent again -/

theorem State.portPump_portOwner (s : State) (p : Nat) : (s.portPump p).portOwner = s.portOwner :=
  foldl_keep State.portOwner _ _ _ fun _ _ => rfl

theorem State.protoSend_portOwner (s : State) (p ch mtype reqId server status : Nat) (spec payload : List Byte) :
    (s.protoSend p ch mtype reqId server status spec payload).portOwner = s.portOwner := State.portPump_portOwner _ _

theorem State.sendReq_portOwner (s : State) (k : ChunkKey) : (s.sendReq k).portOwner = s.portOwner := by
  unfold State.sendReq
  split
  · split
    · rfl
    · split
      · rfl
      · split
        · rfl
        · exact State.protoSend_portOwner _ _ _ _ _ _ _ _ _
  · rfl

theorem State.sendWaiting_portOwner (s : State) : s.sendWaiting.portOwner = s.portOwner :=
  foldl_keep State.portOwner _ _ _ fun t f => t.sendReq_portOwner f.key

theorem State.sendWaiting_standing (s : State) : s.sendWaiting.standing = s.standing :=
  foldl_keep_standing _ _ _ fun t f => t.sendReq_standing f.key

theorem State.stallSync_portOwner (s : State) : s.stallSync.portOwner = s.portOwner := by
  refine foldl_keep State.portOwner _ _ _ fun u n => ?_
  dsimp only
  split <;> rfl

theorem State.reissue_portOwner (s : State) (p : Nat) : (s.reissue p).portOwner = s.portOwner :=
  (State.stallSync_portOwner _).trans (State.sendWaiting_portOwner _)

/-- A released W-port belongs to nobody. -/
theorem State.portRelease_frees (s : State) (p : Nat) (hp : p < 24) :
    (s.portRelease p).portOwner = tdel s.portOwner p ∧ (s.portRelease p).standing = s.standing := by
  unfold State.portRelease
  dsimp only
  rw [if_pos hp, State.reissue_portOwner, State.reissue_standing]
  refine ⟨foldl_keep State.portOwner _ _ _ fun u f => ?_, foldl_keep_standing _ _ _ fun u f => ?_⟩
  · split
    · exact State.protoSend_portOwner ..
    · rfl
  · split
    · exact State.protoSend_standing ..
    · rfl

section
variable (h : s.canHandle .sec 0x0205) (hp : s.isPriv m = true) (hkind : m.u8 0 = 1) (hw : m.u8 1 < 24)
include h hp hkind hw

omit h hp in
theorem State.portIndex_wport : (s.takeMsg 0x0205 m).portIndex (m.u8 0) (m.u8 1) = some (m.u8 1) := by
  rw [hkind]
  exact if_pos hw

theorem portAssign_assigns (hn : m.u8 2 ≤ 11) (hlive : (s.pt (m.u8 2)).state ≠ .free) (hnone : tfind s.portOwner (m.u8 1) = none) :
    Completes (.portAssign m) s (fun u => tfind u.portOwner (m.u8 1) = some (m.u8 2) ∧
      (∀ q, q ≠ m.u8 1 → tfind u.portOwner q = tfind s.portOwner q) ∧ s.replied u m 0x0205 0 0 []) := by
  let t1 : State := { s.takeMsg 0x0205 m with portOwner := tset s.portOwner (m.u8 1) (m.u8 2) }
  let t := t1.sendWaiting.stallSync
  have howner : t.portOwner = tset s.portOwner (m.u8 1) (m.u8 2) := (State.stallSync_portOwner _).trans t1.sendWaiting_portOwner
  have hstands : t.standing = s.standing := (State.stallSync_standing _).trans t1.sendWaiting_standing
  have hminor : t.fw.minor = s.fw.minor := congrArg (·.minor) (show t.fw = t1.fw by simp [t])
  have hcad : t.cad = s.cad := show t.cad = t1.cad by simp [t]
  have hnone' : tfind (s.takeMsg 0x0205 m).portOwner (m.u8 1) = none := hnone
  have hargs : ¬ (m.u8 2 ≠ 0xF ∧ (11 < m.u8 2 ∨ ((s.takeMsg 0x0205 m).pt (m.u8 2)).state.isFree = true)) := by
    rw [PartState.isFree_iff]
    exact fun hbad => hbad.2.elim (by omega) hlive
  dsimp only [Completes, exec]
  refine State.handle_completes h (v := t.reply m 0x0205 0 rOK []) ?_ ?_
  · refine (if_neg (by simp [hp])).trans ?_
    rw [State.portIndex_wport hkind hw]
    refine (if_neg hargs).trans ((if_neg (by omega)).trans ?_)
    rw [hnone']
    exact if_neg (by omega)
  · have hreply := (t.reply_tells m 0x0205 0 rOK []).field State.portOwner
    rw [hreply, howner]
    exact ⟨tfind_tset_same .., fun q hq => tfind_tset_other _ _ _ _ hq, State.replied_after m hstands hminor hcad ..⟩

theorem portAssign_releases (hn : m.u8 2 = 0xF) (hsome : ∃ q, tfind s.portOwner (m.u8 1) = some q) :
    Completes (.portAssign m) s (fun u => tfind u.portOwner (m.u8 1) = none ∧ s.replied u m 0x0205 0 0 []) := by
  obtain ⟨q, hq⟩ := hsome
  have hq' : tfind (s.takeMsg 0x0205 m).portOwner (m.u8 1) = some q := hq
  let t := (s.takeMsg 0x0205 m).portRelease (m.u8 1)
  obtain ⟨howner, hstands⟩ := (s.takeMsg 0x0205 m).portRelease_frees (m.u8 1) hw
  have hminor : t.fw.minor = s.fw.minor := congrArg (·.minor) (show t.fw = (s.takeMsg 0x0205 m).fw by simp [t])
  have hcad : t.cad = s.cad := show t.cad = (s.takeMsg 0x0205 m).cad by simp [t]
  dsimp only [Completes, exec]
  refine State.handle_completes h (v := t.reply m 0x0205 0 rOK []) ?_ ?_
  · refine (if_neg (by simp [hp])).trans ?_
    rw [State.portIndex_wport hkind hw]
    refine (if_neg (by omega)).trans ((if_neg (by omega)).trans ?_)
    rw [hq']
    exact if_pos hn
  · have hreply := (t.reply_tells m 0x0205 0 rOK []).field State.portOwner
    rw [hreply, howner]
    exact ⟨tfind_tdel_same .., State.replied_after m hstands hminor hcad ..⟩

theorem portAssign_busy (q : Nat) (hn : m.u8 2 ≤ 11) (hlive : (s.pt (m.u8 2)).state ≠ .free) (hq : tfind s.portOwner (m.u8 1) = some q)
    (hne : q ≠ m.u8 2) : Completes (.portAssign m) s (fun u => u.portOwner = s.portOwner ∧ s.replied u m 0x0205 0 4 []) := by
  have hq' : tfind (s.takeMsg 0x0205 m).portOwner (m.u8 1) = some q := hq
  have hargs : ¬ (m.u8 2 ≠ 0xF ∧ (11 < m.u8 2 ∨ ((s.takeMsg 0x0205 m).pt (m.u8 2)).state.isFree = true)) := by
    rw [PartState.isFree_iff]
    exact fun hbad => hbad.2.elim (by omega) hlive
  dsimp only [Completes, exec]
  refine State.handle_completes h (v := (s.takeMsg 0x0205 m).reply m 0x0205 0 rBusy []) ?_ ⟨?_, s.replied_alone ..⟩
  · refine (if_neg (by simp [hp])).trans ?_
    rw [State.portIndex_wport hkind hw]
    refine (if_neg hargs).trans ((if_neg (by omega)).trans ?_)
    rw [hq']
    exact (if_neg (by omega)).trans (if_neg hne)
  · exact (State.reply_tells ..).field State.portOwner

end

end Sys2Proof.Machine
end

section
/-! PROOFS. The steps of a partition's reset, the ends of a resize and of a destroy (02 R50-R53). -/
namespace Sys2Proof.Machine

open Host

variable {s : State}

theorem tget_filter_in {α : Type} (d : α) (l : List (Nat × α)) (p : Nat × α → Bool) (k : Nat) (h : ∀ v, p (k, v) = true) :
    tget d (l.filter p) k = tget d l k := by
  induction l with
  | nil => rfl
  | cons c l ih =>
    obtain ⟨j, v⟩ := c
    by_cases e : j = k
    · subst e
      rw [List.filter_cons_of_pos (h v), tget, tget, if_pos rfl, if_pos rfl]
    · cases hp : p (j, v) with
      | false => rw [List.filter_cons_of_neg (by simp [hp]), ih, tget, if_neg e]
      | true => rw [List.filter_cons_of_pos hp, tget, tget, if_neg e, if_neg e, ih]

/-! ### Step 1: the tiles halt -/

theorem State.tile_updP (s : State) (n k : Nat) (f : Partition → Partition) : (s.updP n f).tile k = s.tile k := rfl

theorem foldl_halt (l : List Nat) (s : State) (t : Nat) (h : t ∈ l ∨ (s.tile t).run = .halted) :
    ((l.foldl (fun (u : State) t => u.updT t TileSt.halt) s).tile t).run = .halted := by
  induction l generalizing s with
  | nil => exact h.resolve_left List.not_mem_nil
  | cons i l ih =>
    refine ih _ ?_
    by_cases e : t = i
    · subst e; exact .inr (by rw [State.tile_updT_same]; rfl)
    · rw [show (s.updT i TileSt.halt).tile t = s.tile t from s.tile_setT_other i t _ e]
      exact h.imp_left fun hr => (List.mem_cons.1 hr).resolve_left e

/-- What halting a partition does to the tiles. -/
theorem State.haltTiles_tiles (s : State) (n : Nat) :
    (s.haltTiles n).tiles = ((s.tilesIn (s.pt n).regions).foldl (fun (u : State) t => u.updT t TileSt.halt) s).tiles := by
  unfold State.haltTiles
  dsimp only
  split <;> simp

theorem State.haltTiles_halts (s : State) (n : Nat) (e : Nat × TileSt) (he : e ∈ s.tiles) (hr : tileRegion e.1 ∈ (s.pt n).regions) :
    ((s.haltTiles n).tile e.1).run = .halted := by
  rw [State.tile, s.haltTiles_tiles n]
  refine foldl_halt _ s e.1 (.inl (List.mem_map.2 ⟨e, List.mem_filter.2 ⟨he, ?_⟩, rfl⟩))
  simpa using hr

section
variable (n : Fin 12) (hst : (s.pt n).state = .resetting) (hsch : (s.core .sch).state = .running)
include hst hsch

/-- While SCH runs a reset takes its next step (02 R50). -/
theorem resetProgress_guard : ¬ ((s.pt n).state ≠ .resetting ∨ (!s.schRuns) = true) := by
  simp [hst, State.schRuns, State.coreRuns, hsch]

theorem partitionResetProgress_halts (hstep : (s.pt n).resetStep = 1) : Completes (.partitionResetProgress n) s (fun u =>
    (u.pt n).resetStep = 2 ∧ ∀ e ∈ s.tiles, tileRegion e.1 ∈ (s.pt n).regions → (u.tile e.1).run = .halted) := by
  let t := (s.haltTiles n).squallPartition n
  have htiles : t.tiles = (s.haltTiles n).tiles := by simp [t]
  have htile (k : Nat) : t.tile k = (s.haltTiles n).tile k := by simp only [State.tile, htiles]
  refine ⟨t.updP n (fun q => { q with resetStep := 2 }), congrArg Outcome.next ((if_neg (resetProgress_guard n hst hsch)).trans ?_), ?_,
    fun e he hr => ?_⟩
  · simp only [hstep, t]
  · rw [State.pt_updP_same]
  · rw [State.tile_updP, htile]
    exact s.haltTiles_halts n e he hr

/-! ### Step 2: the operations end -/

theorem partitionResetProgress_noOps (hstep : (s.pt n).resetStep = 2) (hops : ∀ o ∈ s.ops, o.part ≠ n.val) :
    exec (.partitionResetProgress n) s = .next (s.updP n (fun q => { q with resetStep := 3 })) := by
  have hnone : s.ops.filter (fun o => o.part == n.val) = [] := List.filter_eq_nil_iff.2 fun o ho => by simpa using hops o ho
  have hdone : s.completeAll n = s := by unfold State.completeAll; rw [hnone]; rfl
  refine congrArg Outcome.next ((if_neg (resetProgress_guard n hst hsch)).trans ?_)
  simp only [hstep, hdone]

/-! ### Step 3: the tiles and the sync objects are cleared -/

theorem partitionResetProgress_clears (hstep : (s.pt n).resetStep = 3) : Completes (.partitionResetProgress n) s (fun u =>
    (u.pt n).resetStep = 4 ∧ (∀ t a, tileRegion t ∈ (s.pt n).regions → a < 0xC0000 → u.sramAt t a = 0) ∧
    (∀ t, tileRegion t ∈ (s.pt n).regions → u.tile t = {}) ∧ (∀ t, tileRegion t ∉ (s.pt n).regions → u.tile t = s.tile t) ∧
    ∀ o, (s.pt n).syncBase ≤ o → o < (s.pt n).syncBase + (s.pt n).syncCount → u.syncGet o = 0) := by
  let c := (s.clearTiles n).zeroSync (s.pt n).syncBase (s.pt n).syncCount
  refine ⟨c.updP n (fun q => { q with resetStep := 4 }), congrArg Outcome.next ((if_neg (resetProgress_guard n hst hsch)).trans ?_), ?_,
    fun t a ht ha => ?_, fun t ht => ?_, fun t ht => ?_, fun o hlo hhi => (s.clearTiles n).zeroSync_zero _ _ o hlo hhi⟩
  · simp only [hstep, c]
  · rw [State.pt_updP_same]
  · refine tget_filter_out _ _ _ _ fun v => ?_
    have hkey : sramKey t a / sramSize = t := by unfold sramKey sramSize; omega
    simpa [hkey] using ht
  · exact tget_filter_out _ _ _ _ fun v => by simpa using ht
  · exact tget_filter_in _ _ _ _ fun v => by simpa using ht

end

/-! ### Step 4: the reset ends -/

/-- A weight slot's contents are the partition's memory map and its weights. -/
theorem State.emptySlot_pt (s : State) (n k : Nat) :
    (s.emptySlot n k).pt n = { s.pt n with mem := ((s.emptySlot n k).pt n).mem, wgt := ((s.emptySlot n k).pt n).wgt } := by
  simp [State.emptySlot, State.setSlot, State.updM]

theorem State.weightsOnReset_pt (s : State) (n : Nat) :
    (s.weightsOnReset n).pt n = { s.pt n with mem := ((s.weightsOnReset n).pt n).mem, wgt := ((s.weightsOnReset n).pt n).wgt } := by
  have hslot (u : State) (k : Nat) : let v := if ((u.pt n).slot k).state = .building then u.emptySlot n k else u
      v.pt n = { u.pt n with mem := (v.pt n).mem, wgt := (v.pt n).wgt } := by
    dsimp only
    split
    · exact u.emptySlot_pt n k
    · rfl
  unfold State.weightsOnReset
  dsimp only [List.foldl]
  rw [State.pt_updP_same, hslot, hslot]

theorem State.applyRevokes_none (s : State) (n : Nat) (h : (s.pt n).revokes = []) :
    s.applyRevokes n = s.updP n (fun p => { p with revokes := [] }) := by
  unfold State.applyRevokes
  rw [h]
  rfl

theorem State.applyHeld_pt (s : State) (n : Nat) : (s.applyHeld n).pt n = { s.pt n with heldGrants := [], heldKeys := [] } :=
  State.pt_updP_same ..

theorem State.finishReset_ends (s : State) (n : Nat) (hd : (s.pt n).destroy = none) (hz : (s.pt n).resize = none)
    (hw : (s.pt n).waiting = []) (hr : (s.pt n).revokes = []) :
    ((s.finishReset n).pt n).state = .active ∧ ((s.finishReset n).pt n).resetStep = 0 := by
  have hpt := s.weightsOnReset_pt n
  let s1 := (s.weightsOnReset n).updP n (fun p => { p with revokes := [] })
  have hs1 : (s.weightsOnReset n).applyRevokes n = s1 := State.applyRevokes_none _ n (by rw [hpt]; exact hr)
  have hpt1 : s1.pt n = { (s.weightsOnReset n).pt n with revokes := [] } := State.pt_updP_same ..
  have hd1 : (s1.pt n).destroy = none := by rw [hpt1, hpt]; exact hd
  have hz1 : (s1.pt n).resize = none := by rw [hpt1, hpt]; exact hz
  have hw1 : (s1.pt n).waiting = [] := by rw [hpt1, hpt]; exact hw
  let s2 := s1.updP n (fun q => { q with state := .active, resetStep := 0, skipped := 0 })
  have hend : s.finishReset n = (s2.applyHeld n).postPart n 0x0102 (s1.pt n).skipped := by
    unfold State.finishReset
    dsimp only
    rw [hs1, if_neg (by simp [hd1, hz1]), hw1]
  have htell := (s2.applyHeld n).postPart_tells n 0x0102 (s1.pt n).skipped
  have hpt2 : s2.pt n = { s1.pt n with state := .active, resetStep := 0, skipped := 0 } := State.pt_updP_same ..
  rw [hend, htell.pt_field n Partition.state, htell.pt_field n Partition.resetStep, State.applyHeld_pt, hpt2]
  exact ⟨rfl, rfl⟩

theorem partitionResetProgress_ends (n : Fin 12) (hst : (s.pt n).state = .resetting) (hsch : (s.core .sch).state = .running)
    (hstep : (s.pt n).resetStep = 4) (hd : (s.pt n).destroy = none) (hz : (s.pt n).resize = none) (hw : (s.pt n).waiting = [])
    (hr : (s.pt n).revokes = []) : Completes (.partitionResetProgress n) s (fun u =>
      (u.pt n).state = .active ∧ (u.pt n).resetStep = 0 ∧ s.memSame u) := by
  obtain ⟨hactive, hzero⟩ := s.finishReset_ends n hd hz hw hr
  refine ⟨s.finishReset n, congrArg Outcome.next ((if_neg (resetProgress_guard n hst hsch)).trans ?_), hactive, hzero, ?_⟩
  · simp only [hstep]
  · simp [State.memSame]

/-! ### The end of a resize -/

theorem State.quotaCheck_rgn (s : State) (n : Nat) : (s.quotaCheck n).rgn = s.rgn := by
  refine foldl_keep State.rgn _ _ _ fun t k => ?_
  dsimp only
  split
  · rfl
  · split <;> exact (State.postPart_tells _ _ _ _).field State.rgn

/-- A quota check leaves a partition but for its memory and its endpoint. -/
theorem State.quotaCheck_pt (s : State) (n : Nat) :
    (s.quotaCheck n).pt n = { s.pt n with mem := ((s.quotaCheck n).pt n).mem, ep := ((s.quotaCheck n).pt n).ep } := by
  have h : { (s.quotaCheck n).pt n with mem := {}, ep := {} } = { s.pt n with mem := {}, ep := {} } := by
    refine foldl_keep (fun t : State => { t.pt n with mem := {}, ep := {} }) _ _ _ fun t k => ?_
    dsimp only
    split
    · rfl
    · split <;> rw [(State.postPart_tells _ _ _ _).pt_body n, State.updM, State.pt_updP_same]
  calc (s.quotaCheck n).pt n = { { (s.quotaCheck n).pt n with mem := {}, ep := {} } with
        mem := ((s.quotaCheck n).pt n).mem, ep := ((s.quotaCheck n).pt n).ep } := rfl
    _ = _ := by rw [h]

theorem State.setOwners_standing (s : State) (l : List Nat) (o : Option Nat) : (s.setOwners l o).standing = s.standing :=
  foldl_keep_standing _ _ _ fun u i => u.updR_standing i _ rfl

/-- A resize gives up the regions that it leaves (02 R52). -/
theorem partResizeComplete_ends (n : Fin 12) (hst : (s.pt n).state = .scrubbing) (r : Resize) (hr : (s.pt n).resize = some r)
    (hlive : ∀ i ∈ (s.pt n).added r, (s.rg i).state ≠ .fenced) : Completes (.partResizeComplete n) s (fun u =>
      (u.pt n).state = .active ∧ (u.pt n).rx0 = r.rx0 ∧ (u.pt n).ry0 = r.ry0 ∧ (u.pt n).w = r.w ∧ (u.pt n).h = r.h ∧ (u.pt n).resize = none ∧
      ∀ i ∈ (s.pt n).removed r, (u.rg i).partition = none) := by
  let s1 := ((s.discardIn n ((s.pt n).removed r)).zeroRegionMemory ((s.pt n).removed r)).setOwners ((s.pt n).removed r) none
  let s2 := s1.updP n (fun q => { q with rx0 := r.rx0, ry0 := r.ry0, w := r.w, h := r.h, resize := none, state := .active, skipped := 0 })
  let s3 := ((s2.applyHeld n).quotaCheck n).postPart n 0x0102 (s.pt n).skipped
  have hs1 : s1.standing = s.standing := (State.setOwners_standing _ _ _).trans (s.discardIn_standing n _)
  have htell : s3.OnlyTells ((s2.applyHeld n).quotaCheck n) := State.postPart_tells ..
  have hrgn : s3.rgn = s1.rgn := (htell.field State.rgn).trans (State.quotaCheck_rgn _ _)
  have hrg (i : Nat) : s3.rg i = s1.rg i := by simp only [State.rg, hrgn]
  have hpt2 : s2.pt n = { s1.pt n with rx0 := r.rx0, ry0 := r.ry0, w := r.w, h := r.h, resize := none, state := .active, skipped := 0 } :=
    State.pt_updP_same ..
  have hpt : s3.pt n = { s1.pt n with
      rx0 := r.rx0, ry0 := r.ry0, w := r.w, h := r.h, resize := none, state := .active, skipped := 0, heldGrants := [], heldKeys := []
      mem := (((s2.applyHeld n).quotaCheck n).pt n).mem, ep := (s3.pt n).ep } := by
    rw [htell.pt_body n, State.quotaCheck_pt, State.applyHeld_pt, hpt2]
  have hstays : ¬ (rectRegions r.rx0 r.ry0 r.w r.h).any (fun i => decide ((s3.rg i).state = .fenced) && ((s.pt n).added r).contains i) = true := by
    simp only [List.any_eq_true, Bool.and_eq_true, decide_eq_true_eq, List.contains_iff_mem]
    rintro ⟨i, -, hfenced, hadded⟩
    rw [hrg, (State.rg_of_standing hs1 i).1] at hfenced
    exact hlive i hadded hfenced
  refine ⟨s3, congrArg Outcome.next ?_, congrArg Partition.state hpt, congrArg Partition.rx0 hpt, congrArg Partition.ry0 hpt,
    congrArg Partition.w hpt, congrArg Partition.h hpt, congrArg Partition.resize hpt, fun i hi => ?_⟩
  · dsimp only
    rw [hst, hr]
    exact if_neg hstays
  · rw [hrg]
    exact State.setOwners_partition _ _ _ i (.inl hi)

/-! ### The end of a destroy -/

theorem partDestroyComplete_ends (n : Fin 12) (hst : (s.pt n).state = .scrubbing) (m : Msg) (hd : (s.pt n).destroy = some m)
    (hsec : (s.core .sec).state = .running) : Completes (.partDestroyComplete n) s (fun u =>
      (u.pt n).state = .free ∧ (u.pt n).key = 0 ∧ (∀ i ∈ (s.pt n).regions, (u.rg i).partition = none) ∧
      (∀ g ∈ u.sec.grants, g.grantee ≠ n.val) ∧ (∀ e ∈ u.sec.privateKeys, e.1 / 16 ≠ n.val) ∧ ∀ e ∈ u.portOwner, e.2 ≠ n.val) := by
  obtain ⟨s1, hs1⟩ : ∃ x, ((s.zeroRegionMemory (s.pt n).regions).unbindFor n).dropPartition n = x := ⟨_, rfl⟩
  let s2 : State := { s1 with
    sec := { s1.sec with
      privateKeys := s1.sec.privateKeys.filter (fun k => decide (k.1 / 16 ≠ n.val))
      grants := s1.sec.grants.filter (fun g => g.grantee != n.val) }
    portOwner := s1.portOwner.filter (fun e => e.2 != n.val) }
  let s3 := s2.setOwners (s.pt n).regions none
  let s4 := (s3.setP n {}).pruneKeys
  have htell : (s4.reply m 0x0203 0 rOK []).OnlyTells s4 := s4.reply_tells ..
  have hpt : s4.pt n = {} := s3.pt_setP_same ..
  have hsec4 : s4.sec = s2.sec := s2.setOwners_keep _ _ State.sec
  have howner : s4.portOwner = s2.portOwner := s2.setOwners_keep _ _ State.portOwner
  refine ⟨s4.reply m 0x0203 0 rOK [], congrArg Outcome.next ?_, ?_, ?_, fun i hi => ?_, fun g hg => ?_, fun e he => ?_, fun e he => ?_⟩
  · dsimp only
    rw [hst, hd, hs1]
    exact if_neg (by simp [State.secRuns, State.coreRuns, hsec])
  · rw [htell.pt_field n Partition.state, hpt]
  · rw [htell.pt_field n Partition.key, hpt]
  · rw [htell.field fun x : State => x.rg i]
    exact s2.setOwners_partition _ _ i (.inl hi)
  · rw [htell.field State.sec, hsec4] at hg
    simpa using (List.mem_filter.1 hg).2
  · rw [htell.field State.sec, hsec4] at he
    simpa using (List.mem_filter.1 he).2
  · rw [htell.field State.portOwner, howner] at he
    simpa using (List.mem_filter.1 he).2

/-- Settles O25: the messages, the steps of a reset, the ends of a resize and of a destroy. -/
theorem partitionsAreCreatedResetAndDestroyed : Obligations.PartitionsAreCreatedResetAndDestroyed := by
  unfold Obligations.PartitionsAreCreatedResetAndDestroyed
  intro s
  refine ⟨fun m h hp hn hlink hpower hfree => ⟨partCreate_shape h hp hn hlink hpower hfree, fun hw hh hx hy hregions =>
      ⟨partCreate_keyInUse h hp hn hlink hpower hfree hw hh hx hy hregions, partCreate_creates h hp hn hlink hpower hfree hw hh hx hy hregions⟩⟩,
    fun m h hp hn => partResize_accepts h hp hn, fun m h hp hn hact => ⟨partDestroy_begins h hp hn hact, partDestroy_home h hp hn hact⟩,
    fun m => partReset_begins, fun m h hp hkind hw => ⟨portAssign_assigns h hp hkind hw, portAssign_releases h hp hkind hw,
      portAssign_busy h hp hkind hw⟩,
    fun n => ⟨fun hst hsch => ⟨partitionResetProgress_halts n hst hsch, partitionResetProgress_noOps n hst hsch,
      partitionResetProgress_clears n hst hsch, partitionResetProgress_ends n hst hsch⟩, partResizeComplete_ends n, partDestroyComplete_ends n⟩⟩

end Sys2Proof.Machine
end

section
/-! PROOFS. Rings of a live VF (03 R92-R95): a completion ring that stays named, and the table of partitions. -/
namespace Sys2Proof.Machine

open Host

/-- Writing CQ_EN = 0 to a ring that a submission ring names stores the partition as it was (03 R93). -/
theorem cqDisable_named {s : State} (n : Fin 12) (k : Fin 64) (hlive : s.vfLive n = true) (hnamed : (s.pt n).cqNamed k = true) :
    exec (.cqDisable n k) s = .next (s.setP n (s.pt n)) :=
  congrArg Outcome.next ((if_pos hlive).trans (congrArg (s.setP n) (if_pos hnamed)))

/-- A partition of link 0 whose submission ring 0 is enabled and completes into ring 0. -/
def namingPartition : Partition := { state := .active, rings := [(0, { sqState := .enabled })] }

/-- Partition 0 naming its ring, listed behind partition 1: the table's keys fall. -/
def fallingParts : State := { State.reset with
  links := [(0, { vfEnable := true, numVfs := 1 })], part := [(1, {}), (0, namingPartition)] }

/-- Refutes O19: the statement asks that a discarded write of CQ_EN = 0 give back the very state, of a table of partitions in any order.
The model stores the partition again, and where the keys do not rise that is a second entry, ahead of partition 1. -/
theorem not_ringRegistersActAsWritten : ¬ Obligations.RingRegistersActAsWritten := by
  intro h
  have hlive : fallingParts.vfLive (0 : Fin 12) = true := by decide +kernel
  obtain ⟨-, hwrites⟩ := h fallingParts 0 0
  obtain ⟨-, -, hstays, -⟩ := hwrites hlive
  have hsame : exec (.cqDisable 0 0) fallingParts = .next fallingParts := hstays (by decide +kernel)
  have hstored : exec (.cqDisable 0 0) fallingParts = .next (fallingParts.setP 0 namingPartition) :=
    cqDisable_named 0 0 hlive (by decide +kernel)
  have hpart : (fallingParts.setP 0 namingPartition).part = fallingParts.part :=
    congrArg State.part (Outcome.next.inj (hstored.symm.trans hsame))
  have hlength := congrArg List.length hpart
  exact absurd hlength (by decide)

end Sys2Proof.Machine
end

section
/-! PROOFS. Descriptors: the fetch, the start, the completion, and NOP, FENCE, SYNC_SIGNAL and SYNC_WAIT (03 R96-R111, T3.6-T3.10). -/
namespace Sys2Proof.Machine

open Host

/-! ### Rings of a partition -/

@[simp] theorem Partition.ring_updRing_same (p : Partition) (k : Nat) (f : Ring → Ring) : (p.updRing k f).ring k = f (p.ring k) :=
  tget_tset_same ..

theorem Partition.ring_updRing_other (p : Partition) (k j : Nat) (f : Ring → Ring) (h : j ≠ k) : (p.updRing k f).ring j = p.ring j :=
  tget_tset_other _ _ _ _ _ h

/-- A field that the update of a ring leaves alone is as it was in every ring. -/
theorem Partition.ring_updRing_field {α : Type} (p : Partition) (k j : Nat) (f : Ring → Ring) (g : Ring → α) (hg : ∀ r, g (f r) = g r) :
    g ((p.updRing k f).ring j) = g (p.ring j) := by
  by_cases e : j = k
  · rw [e, p.ring_updRing_same, hg]
  · rw [p.ring_updRing_other k j f e]

/-! ### Events about a partition -/

theorem State.postPartKind_tells (s : State) (n code kind src data : Nat) : (s.postPartKind n code kind src data).OnlyTells s :=
  (State.postTo_tells _ _ _).trans (s.postTo_tells _ _)

theorem State.hearsAs_vf {s u : State} (n : Fin 12) (hep : (u.pt n).ep = (s.pt n).ep) (hs : u.standing = s.standing)
    (hcad : u.cad = s.cad) : u.hearsAs s (.vf n) :=
  ⟨congrArg Endpoint.evq hep, State.canWrite_of_standing hs _, by simp only [State.tick, hcad]⟩

/-- The VF of the partition hears the event first; the copy to the host link's PF only adds outputs (03 R116). -/
theorem State.postPartKind_eventAt {s u : State} (n : Fin 12) (h : u.hearsAs s (.vf n)) (code kind src data : Nat) :
    s.eventAt (u.postPartKind n code kind src data) (.vf n) code kind src data := by
  have hvf : Fin.ofNat 12 n.val = n := by simp
  intro hears
  unfold State.postPartKind
  rw [hvf]
  exact (State.postTo_tells _ _ _).out (State.postTo_eventAt h code kind src data hears)

/-! ### A ring enters ERROR -/

section
variable (u : State) (n : Fin 12) (k : Fin 64) (cause : Nat)

theorem State.ringError_ring : ((u.ringError n k cause).pt n).ring k =
    { (u.pt n).ring k with sqState := .error, errCause := BitVec.ofNat 3 cause } := by
  have htell : (u.ringError n k cause).OnlyTells _ := State.postPartKind_tells ..
  rw [htell.pt_field n fun p => p.ring k, State.pt_updP_same, Partition.ring_updRing_same]

/-- RING_ERROR carries the ring and the cause (03 T3.13). -/
theorem State.ringError_eventAt {s : State} (hep : (u.pt n).ep = (s.pt n).ep) (hs : u.standing = s.standing) (hcad : u.cad = s.cad)
    (hcause : cause < 8) : s.eventAt (u.ringError n k cause) (.vf n) 0x0001 5 k (k.val + 256 * cause) := by
  have hdata : pack [(6, k.val), (2, 0), (3, cause)] = k.val + 256 * cause := by simp only [pack]; omega
  unfold State.ringError
  rw [hdata]
  refine State.postPartKind_eventAt n (State.hearsAs_vf n ?_ ((u.updP_standing _ _ ?_).trans hs) hcad) 0x0001 5 k _
  · rw [State.pt_updP_same]
    exact hep
  · rfl

end

/-! ### Operations in flight -/

theorem State.findOp_spec {s : State} {i : Nat} {o : Op} (h : s.findOp i = some o) : o ∈ s.ops ∧ o.id = i :=
  ⟨List.mem_of_find?_eq_some h, by simpa using List.find?_some h⟩

/-- An operation in flight that ends stays in flight with its status, its detail and the tick. -/
theorem State.endOp_ended {s : State} {o : Op} (ho : o ∈ s.ops) (status detail : Nat) :
    ∃ e ∈ (s.endOp o.id status detail).ops, e.id = o.id ∧ e.st = .ended ∧ e.status = BitVec.ofNat 8 status ∧
      e.detail = BitVec.ofNat 32 detail ∧ e.doneTick = s.tick :=
  ⟨_, List.mem_map.2 ⟨o, ho, if_pos rfl⟩, rfl, rfl, rfl, rfl, rfl⟩

/-- One that ends at a check gives no signal. -/
theorem State.rejectOp_ended {s : State} {o : Op} (ho : o ∈ s.ops) (status detail : Nat) :
    ∃ e ∈ (s.rejectOp o.id status detail).ops, e.id = o.id ∧ e.st = .ended ∧ e.status = BitVec.ofNat 8 status ∧
      e.detail = BitVec.ofNat 32 detail ∧ e.noSignal = true := by
  obtain ⟨e, he, hid, hst, hstatus, hdetail, -⟩ := State.endOp_ended ho status detail
  exact ⟨_, List.mem_map.2 ⟨e, he, if_pos hid⟩, hid, hst, hstatus, hdetail, rfl⟩

theorem State.updOp_idle {s : State} (i : Nat) (f : Op → Op) (h : ∀ o ∈ s.ops, o.id = i → f o = o) : s.updOp i f = s := by
  have hops : s.ops.map (fun o => if o.id = i then f o else o) = s.ops := by
    refine (List.map_congr_left fun o ho => ?_).trans s.ops.map_id
    split
    · next hid => exact h o ho hid
    · rfl
  exact congrArg (fun l => { s with ops := l }) hops

/-! ### The fetch (03 R96, R101, R108) -/

/-- A submission ring after a fetch, and a completion ring that has one more slot reserved (03 R96). -/
def Ring.fetched (r : Ring) : Ring := { r with sqHead := (bump r.sqHead (2 ^ r.sqLog2.toNat)).1 }
def Ring.reserves (r : Ring) : Ring := { r with cqReserved := r.cqReserved + 1 }

/-- A partition whose ring `k` has been fetched from. -/
def Partition.slotsTaken (p : Partition) (k : Nat) : Partition :=
  (p.updRing k Ring.fetched).updRing (p.ring k).cqIndex.toNat Ring.reserves

theorem Partition.slotsTaken_sqHead (p : Partition) (k : Nat) :
    ((p.slotsTaken k).ring k).sqHead = (bump (p.ring k).sqHead (2 ^ (p.ring k).sqLog2.toNat)).1 := by
  rw [Partition.slotsTaken, Partition.ring_updRing_field _ _ _ Ring.reserves Ring.sqHead fun _ => rfl, Partition.ring_updRing_same, Ring.fetched]

theorem Partition.slotsTaken_cqReserved (p : Partition) (k : Nat) :
    ((p.slotsTaken k).ring (p.ring k).cqIndex.toNat).cqReserved = (p.ring (p.ring k).cqIndex.toNat).cqReserved + 1 := by
  rw [Partition.slotsTaken, Partition.ring_updRing_same]
  exact congrArg (· + 1) (p.ring_updRing_field _ _ Ring.fetched Ring.cqReserved fun _ => rfl)

section
variable (s : State) (n : Fin 12) (k : Fin 64) (desc : BitVec 512)

/-- The operation that the descriptor becomes (03 R96). -/
def State.fetchedOp : Op :=
  let r := (s.pt n).ring k
  {
    id := s.nextOp, part := n, ring := k, slot := r.sqHead.toNat, desc := desc, ext := [], cq := r.cqIndex.toNat, st := .admitted, status := 0
    detail := 0, doneTick := 0, ended := 0, noSignal := false, timely := false }

theorem State.admitOp_ops : (s.admitOp n k desc []).ops = s.ops ++ [s.fetchedOp n k desc] := rfl

theorem State.admitOp_pt : (s.admitOp n k desc []).pt n = { (s.pt n).slotsTaken k with
    admitted := (s.pt n).admitted + 1, rrRing := tset (s.pt n).rrRing ((s.pt n).ring k).prio.toNat k } :=
  tget_tset_same ..

theorem State.admitOp_ring (j : Nat) : ((s.admitOp n k desc []).pt n).ring j = ((s.pt n).slotsTaken k).ring j := by
  rw [State.admitOp_pt]
  rfl

variable {s n k} (hnext : s.nextAdmission = some (n.val, k.val)) (hfresh : ∀ e ∈ s.ops, e.id ≠ s.nextOp)
include hfresh

theorem State.findOp_admitOp : (s.admitOp n k desc []).findOp s.nextOp = some (s.fetchedOp n k desc) := by
  have hnone : s.ops.find? (fun o => o.id == s.nextOp) = none := List.find?_eq_none.2 fun e he => by simpa using hfresh e he
  rw [State.findOp, State.admitOp_ops, List.find?_append, hnone, Option.none_or]
  exact List.find?_cons_of_pos (by simp [State.fetchedOp])

include hnext

/-- A descriptor that fails a check, its extended payload not the one that failed, ends with what the check says. -/
theorem descriptorFetch_rejects (ext : Option (List Byte)) (e : Nat × Nat) (hcheck : s.admissionCheck (s.fetchedOp n k desc) ext = some e)
    (he : e ≠ (8, 0x07)) : exec (.descriptorFetch n k (.got desc ext)) s =
      .next ((s.admitOp n k desc []).rejectOp (s.fetchedOp n k desc).id e.1 e.2) := by
  refine congrArg Outcome.next ((if_neg (not_not.2 hnext)).trans ?_)
  simp only [State.findOp_admitOp desc hfresh, hcheck, if_neg he]
  rfl

/-- A descriptor without extended payload that passes its checks is admitted. -/
theorem descriptorFetch_passes (hext : (s.fetchedOp n k desc).isExt = false) (hcheck : s.admissionCheck (s.fetchedOp n k desc) none = none) :
    exec (.descriptorFetch n k (.got desc none)) s = .next (s.admitOp n k desc []) := by
  refine congrArg Outcome.next ((if_neg (not_not.2 hnext)).trans ?_)
  simp only [State.findOp_admitOp desc hfresh, hcheck, hext, Bool.false_eq_true, if_false]
  refine State.updOp_idle _ _ fun o ho hid => ?_
  rw [State.admitOp_ops, List.mem_append, List.mem_singleton] at ho
  obtain rfl := ho.resolve_left fun hold => hfresh o hold hid
  rfl

end

/-- EXT is bit 11 of the descriptor (03 T3.6). -/
theorem Op.isExt_eq_false {o : Op} (h : o.desc.toNat / 2 ^ 11 % 2 = 0) : o.isExt = false := by
  simpa [Op.isExt, Op.flag, bitAt, BitVec.getLsbD, Nat.testBit_eq_decide_div_mod_eq] using h

/-- The first check of a descriptor is its opcode (03 T3.8). -/
theorem State.admissionCheck_opcode (s : State) (o : Op) (ext : Option (List Byte)) (h : o.desc.toNat % 256 ∉ opcodes) :
    s.admissionCheck o ext = some (8, 0x01) := by
  have hop : opcodes.contains o.opcode = false := by simpa [Op.opcode, field] using h
  unfold State.admissionCheck State.headerChecks
  simp only [firstFail, need, hop, Bool.false_eq_true, if_false]

section
variable {s : State} {n : Fin 12} {k : Fin 64} (hnext : s.nextAdmission = some (n.val, k.val))
include hnext

theorem descriptorFetch_admits (desc : BitVec 512) (hfresh : ∀ e ∈ s.ops, e.id ≠ s.nextOp) (hext : desc.toNat / 2 ^ 11 % 2 = 0)
    (hcheck : s.admissionCheck (s.fetchedOp n k desc) none = none) :
    let r := (s.pt n).ring k
    Completes (.descriptorFetch n k (.got desc none)) s (fun u =>
      u.ops = s.ops ++ [s.fetchedOp n k desc] ∧ u.nextOp = s.nextOp + 1 ∧ (u.pt n).admitted = (s.pt n).admitted + 1 ∧
      ((u.pt n).ring k).sqHead = (if r.sqHead.toNat + 1 = 2 ^ r.sqLog2.toNat then 0 else r.sqHead + 1) ∧
      ((u.pt n).ring r.cqIndex.toNat).cqReserved = ((s.pt n).ring r.cqIndex.toNat).cqReserved + 1 ∧ u.out = s.out) := by
  intro r
  refine ⟨_, descriptorFetch_passes desc hnext hfresh (Op.isExt_eq_false hext) hcheck, rfl, rfl, ?_, ?_, ?_, rfl⟩
  · rw [State.admitOp_pt]
  · rw [State.admitOp_ring, Partition.slotsTaken_sqHead]
    exact apply_ite Prod.fst ..
  · rw [State.admitOp_ring]
    exact (s.pt n).slotsTaken_cqReserved k

theorem descriptorFetch_unlisted (desc : BitVec 512) (hfresh : ∀ e ∈ s.ops, e.id ≠ s.nextOp) (hop : desc.toNat % 256 ∉ opcodes) :
    Completes (.descriptorFetch n k (.got desc none)) s (fun u =>
      ∃ e ∈ u.ops, e.id = s.nextOp ∧ e.st = .ended ∧ e.status = 8 ∧ e.detail = 1 ∧ e.noSignal = true) :=
  ⟨_, descriptorFetch_rejects desc hnext hfresh none _ (s.admissionCheck_opcode _ none hop) (by decide),
    State.rejectOp_ended (List.mem_append_right _ (List.mem_singleton.2 rfl)) 8 1⟩

theorem descriptorFetch_faults : Completes (.descriptorFetch n k .fault) s (fun u =>
    (u.pt n).ring k = { (s.pt n).ring k with sqState := .error, errCause := 1 } ∧ u.ops = s.ops ∧
    s.eventAt u (.vf n) 0x0001 5 k (k.val + 256)) := by
  let s1 := s.updL (Fin.ofNat 4 (s.pt n).hostLink) (fun l => { l with fetchFaults := satInc l.fetchFaults })
  have hexec : exec (.descriptorFetch n k .fault) s = .next (s1.ringError n k 1) :=
    congrArg Outcome.next (if_neg (not_not.2 hnext))
  have hs1 : s1.standing = s.standing := s.updL_standing _ _ rfl
  exact ⟨_, hexec, s1.ringError_ring n k 1, by simp [s1], s1.ringError_eventAt n k 1 rfl hs1 rfl (by decide)⟩

end

/-! ### The start (03 R99, R105) -/

section
variable {s : State} {o : Op}

/-- The header wait compares the low 16 bits of the object serially (03 R105). -/
theorem State.headerWait_of_tokenMet (h : o.waitEn = true →
    tokenMet ((s.syncGet ((s.pt o.part).syncBase + o.waitObj)).setWidth 16) (BitVec.ofNat 16 o.waitValue)) : s.headerWait o = true := by
  cases hen : o.waitEn with
  | false => simp [State.headerWait, hen]
  | true =>
    have hmet := h hen
    have hvalue : o.waitValue < 65536 := Nat.mod_lt _ (by decide)
    unfold tokenMet at hmet
    rw [BitVec.toNat_sub, BitVec.toNat_setWidth, BitVec.toNat_ofNat] at hmet
    simp only [State.headerWait, hen, Bool.not_true, Bool.false_or, decide_eq_true_eq]
    omega

theorem State.ringOrder_of (h : ∀ e ∈ s.ops, e.part = o.part → e.ring = o.ring → e.id < o.id →
    e.st ≠ .admitted ∧ (e.st = .started → e.opcode ≠ 2 ∧ e.opcode ≠ 4)) : s.ringOrder o = true := by
  unfold State.ringOrder
  rw [Bool.not_eq_true', List.any_eq_false]
  intro e he hblocks
  simp only [Bool.and_eq_true, Bool.or_eq_true, beq_iff_eq, decide_eq_true_eq] at hblocks
  obtain ⟨⟨⟨hpart, hring⟩, hid⟩, hst⟩ := hblocks
  obtain ⟨hnew, hsync⟩ := h e he hpart hring hid
  obtain ⟨hstarted, hop⟩ := hst.resolve_left hnew
  exact hop.elim (hsync hstarted).1 (hsync hstarted).2

/-- An operation that names no tick is never late. -/
theorem State.startOp_untimed (h : o.notBefore = 0) : s.startOp o = s.updOp o.id (fun x => { x with st := .started }) :=
  if_neg (by simp [h])

theorem descriptorStart_starts {i : Nat} (hfind : s.findOp i = some o) (hst : o.st = .admitted) (hact : (s.pt o.part).state = .active)
    (hsch : (s.core .sch).state = .running) (htick : o.notBefore = 0) (hwait : s.headerWait o = true) (horder : s.ringOrder o = true) :
    exec (.descriptorStart i) s = .next (s.updOp i (fun x => { x with st := .started })) := by
  have hstart : s.startable o = true := by simp [State.startable, State.schRuns, State.coreRuns, hst, hact, hsch, hwait, horder]
  obtain ⟨-, rfl⟩ := State.findOp_spec hfind
  refine congrArg Outcome.next ?_
  simp only [hfind, hstart, htick, decide_true, Bool.true_or, Bool.true_and, if_true]
  exact State.startOp_untimed htick

end

/-! ### Sync objects (03 R106) -/

section
variable (s : State) (j : Nat) (v : W64)

/-- Besides the table of objects, a sync object that changes touches partitions alone: their batch boundaries (11 R372). -/
theorem State.syncSet_only : ∃ p, s.syncSet j v = { s with sync := if v = 0 then tdel s.sync j else tset s.sync j v, part := p } := by
  unfold State.syncSet
  dsimp only
  split
  · exact ⟨_, rfl⟩
  · split <;> exact ⟨_, rfl⟩

theorem State.syncSet_sync : (s.syncSet j v).sync = if v = 0 then tdel s.sync j else tset s.sync j v := by
  obtain ⟨p, hp⟩ := s.syncSet_only j v
  rw [hp]

theorem State.syncGet_syncSet_same : (s.syncSet j v).syncGet j = v := by
  rw [State.syncGet, State.syncSet_sync]
  split
  · next hv => rw [tget_tdel_same, hv]
  · exact tget_tset_same ..

theorem State.syncGet_syncSet_other (m : Nat) (h : m ≠ j) : (s.syncSet j v).syncGet m = s.syncGet m := by
  rw [State.syncGet, State.syncSet_sync]
  split
  · exact tget_tdel_other _ _ _ _ h
  · exact tget_tset_other _ _ _ _ _ h

theorem State.syncSet_out : (s.syncSet j v).out = s.out := by
  obtain ⟨p, hp⟩ := s.syncSet_only j v
  rw [hp]

theorem State.syncSet_pt (n : Nat) : (s.syncSet j v).pt n = { s.pt n with wgt := ((s.syncSet j v).pt n).wgt } := by
  unfold State.syncSet
  dsimp only
  split
  · rfl
  · split
    · next m _ =>
      by_cases e : n = m
      · rw [e, State.pt_updP_same]
        rfl
      · rw [State.pt_updP_other _ _ _ _ e]
        rfl
    · rfl

theorem State.syncSet_standing : (s.syncSet j v).standing = s.standing := by
  unfold State.syncSet
  dsimp only
  split
  · rfl
  · split
    · exact State.updP_standing _ _ _ rfl
    · rfl

end

/-! ### The completion (03 R106, R111, R114) -/

section
variable (s : State) (o : Op)

theorem State.headerSignal_signals (hen : o.signalEn = true) (hno : o.noSignal = false) (hst : o.status = 0 ∨ o.signalAlways = true) :
    s.headerSignal o = s.syncAdd ((s.pt o.part).syncBase + o.signalObj) (BitVec.ofNat 64 o.incr) :=
  if_pos (by simpa [hen, hno] using hst)

theorem State.headerSignal_silent (h : o.signalEn = false ∨ o.noSignal = true ∨ (o.status ≠ 0 ∧ o.signalAlways = false)) :
    s.headerSignal o = s := by
  refine if_neg ?_
  obtain h | h | ⟨hst, halways⟩ := h
  · simp [h]
  · simp [h]
  · simp [halways, show ¬ o.status = 0#8 from hst]

theorem State.headerSignal_cases : s.headerSignal o = s ∨ ∃ j v, s.headerSignal o = s.syncSet j v := by
  unfold State.headerSignal
  split
  · exact .inr ⟨_, _, rfl⟩
  · exact .inl rfl

theorem State.headerSignal_pt (n : Nat) : (s.headerSignal o).pt n = { s.pt n with wgt := ((s.headerSignal o).pt n).wgt } := by
  obtain h | ⟨j, v, h⟩ := s.headerSignal_cases o
  · rw [h]
  · rw [h]
    exact s.syncSet_pt j v n

theorem State.headerSignal_out : (s.headerSignal o).out = s.out := by
  obtain h | ⟨j, v, h⟩ := s.headerSignal_cases o
  · rw [h]
  · rw [h, State.syncSet_out]

theorem State.headerSignal_canWrite (ep : Ep) : (s.headerSignal o).canWrite ep = s.canWrite ep := by
  obtain h | ⟨j, v, h⟩ := s.headerSignal_cases o
  · rw [h]
  · rw [h, State.canWrite_of_standing (s.syncSet_standing j v)]

theorem State.retireOp_ops_out_sync : (s.retireOp o).ops = s.ops.filter (fun e => e.id != o.id) ∧ (s.retireOp o).out = s.out ∧
    (s.retireOp o).sync = s.sync := by
  unfold State.retireOp State.drainRing
  split <;> exact ⟨rfl, rfl, rfl⟩

theorem State.retireOp_completed : ((s.retireOp o).pt o.part).completed = (s.pt o.part).completed + 1 := by
  unfold State.retireOp State.drainRing
  split
  · rw [State.pt_updP_same, State.pt_updP_same]
    rfl
  · rw [State.pt_updP_same]
    rfl

theorem State.retireOp_gone : ∀ e ∈ (s.retireOp o).ops, e.id ≠ o.id := by
  obtain ⟨hops, -, -⟩ := s.retireOp_ops_out_sync o
  intro e he
  rw [hops] at he
  simpa using (List.mem_filter.1 he).2

/-- The record of an operation: bytes 0-14, then byte 15 with PHASE, at CQ_TAIL (03 R111). -/
theorem State.writeCompletion_writes :
    let c := (s.pt o.part).ring o.cq
    let b := leBytes 16 (completionBits o c.cqPhase)
    let a := c.cqBase.toNat / 4096 * 4096 + 16 * c.cqTail.toNat
    (s.writeCompletion o).out = Output.hostWrite (.vf (Fin.ofNat 12 o.part)) (a + 15) (b.drop 15) ::
      Output.hostWrite (.vf (Fin.ofNat 12 o.part)) a (b.take 15) :: s.out ∧
    (s.writeCompletion o).sync = s.sync ∧ ((s.writeCompletion o).pt o.part).completed = (s.pt o.part).completed + 1 ∧
    ∀ e ∈ (s.writeCompletion o).ops, e.id ≠ o.id := by
  intro c b a
  unfold State.writeCompletion
  obtain ⟨-, hout, hsync⟩ := State.retireOp_ops_out_sync _ o
  have hpt (x : State) (l : List Output) : ({ x with out := l } : State).pt o.part = x.pt o.part := rfl
  refine ⟨hout, hsync, ?_, State.retireOp_gone _ o⟩
  rw [State.retireOp_completed, hpt, State.pt_updP_same]
  rfl

end

section
variable {s : State} {i : Nat} {o : Op} (hfind : s.findOp i = some o) (hst : o.st = .ended)
include hfind hst

theorem State.completeOp_loud (hcan : s.canWrite (.vf (Fin.ofNat 12 o.part)) = true) (hloud : o.quiet = false ∨ o.status ≠ 0) :
    s.completeOp i = (s.headerSignal o).writeCompletion o := by
  have hquiet : ¬ (o.quiet && decide (o.status = 0)) = true := by
    simpa [imp_iff_not_or] using hloud
  unfold State.completeOp
  simp only [hfind, if_pos hst, if_neg hquiet, State.headerSignal_canWrite, hcan, if_true]

theorem State.completeOp_quiet (hquiet : o.quiet = true) (hok : o.status = 0) : s.completeOp i =
    ((s.headerSignal o).updP o.part (fun p => p.updRing o.cq (fun r => { r with cqReserved := r.cqReserved - 1 }))).retireOp o := by
  unfold State.completeOp
  simp only [hfind, if_pos hst, hquiet, hok, decide_true, Bool.and_self, if_true]

theorem descriptorComplete_records (hcan : s.canWrite (.vf (Fin.ofNat 12 o.part)) = true) (hloud : o.quiet = false ∨ o.status ≠ 0) :
    Completes (.descriptorComplete i) s (fun u =>
      let c := (s.pt o.part).ring o.cq
      let b := leBytes 16 (completionBits o c.cqPhase)
      let a := c.cqBase.toNat / 4096 * 4096 + 16 * c.cqTail.toNat
      u.out = Output.hostWrite (.vf (Fin.ofNat 12 o.part)) (a + 15) (b.drop 15) :: Output.hostWrite (.vf (Fin.ofNat 12 o.part)) a (b.take 15) :: s.out ∧
      (∀ e ∈ u.ops, e.id ≠ i) ∧ (u.pt o.part).completed = (s.pt o.part).completed + 1 ∧
      (o.signalEn = true → o.noSignal = false → (o.status = 0 ∨ o.signalAlways = true) →
        let j := (s.pt o.part).syncBase + o.signalObj
        u.syncGet j = s.syncGet j + BitVec.ofNat 64 o.incr) ∧
      ((o.signalEn = false ∨ o.noSignal = true ∨ (o.status ≠ 0 ∧ o.signalAlways = false)) → u.sync = s.sync)) := by
  obtain ⟨-, rfl⟩ := State.findOp_spec hfind
  have hpt := s.headerSignal_pt o o.part
  have hring : ((s.headerSignal o).pt o.part).ring o.cq = (s.pt o.part).ring o.cq := by rw [hpt]; rfl
  have hcompleted : ((s.headerSignal o).pt o.part).completed = (s.pt o.part).completed := by rw [hpt]
  obtain ⟨hout, hsync, hdone, hgone⟩ := (s.headerSignal o).writeCompletion_writes o
  refine ⟨_, congrArg Outcome.next (State.completeOp_loud hfind hst hcan hloud), ?_, hgone, ?_, fun hen hno hsig => ?_, fun hsilent => ?_⟩
  · rw [hout, hring, State.headerSignal_out]
  · rw [hdone, hcompleted]
  · dsimp only
    rw [State.syncGet, hsync, s.headerSignal_signals o hen hno hsig]
    exact s.syncGet_syncSet_same _ _
  · rw [hsync, s.headerSignal_silent o hsilent]

theorem descriptorComplete_quietly (hquiet : o.quiet = true) (hok : o.status = 0) :
    Completes (.descriptorComplete i) s (fun u => u.out = s.out ∧ ∀ e ∈ u.ops, e.id ≠ i) := by
  obtain ⟨-, rfl⟩ := State.findOp_spec hfind
  refine ⟨_, congrArg Outcome.next (State.completeOp_quiet hfind hst hquiet hok), ?_, State.retireOp_gone _ o⟩
  obtain ⟨-, hout, -⟩ := State.retireOp_ops_out_sync _ o
  rw [hout]
  exact s.headerSignal_out o

end

/-! ### NOP, FENCE, SYNC_SIGNAL and SYNC_WAIT (03 R109, T3.9) -/

theorem syncCmp_iff (cmp : Nat) (v x : W64) : syncCmp cmp v x = true ↔ compares cmp v x := by
  match cmp with
  | 0 | 1 | 2 => simp [syncCmp, compares]
  | n + 3 => simp [syncCmp, compares]

section
variable {s : State} {i : Nat} {o : Op} (hfind : s.findOp i = some o) (hst : o.st = .started)
include hfind hst

theorem State.onOp_started (c : Nat) (f : Op → State) (hop : o.opcode = c) : s.onOp i c f = f o := by
  unfold State.onOp
  simp only [hfind, hst, hop, and_self, if_true]

theorem nop_ends (hop : o.opcode = 1) : exec (.nop i) s = .next (s.endOp i 0 0) :=
  congrArg Outcome.next (State.onOp_started hfind hst 1 _ hop)

theorem fence_ends (hop : o.opcode = 2) (hscope : o.byte 16 = 0) (hfirst : ∀ e ∈ s.ops, e.part = o.part → e.ring = o.ring → o.id ≤ e.id) :
    exec (.fence i) s = .next (s.endOp i 0 0) := by
  have hnone : s.ops.any (fun e => e.part == o.part && e.ring == o.ring && decide (e.id < o.id)) = false := by
    simpa [List.any_eq_false] using hfirst
  exact congrArg Outcome.next ((State.onOp_started hfind hst 2 _ hop).trans (if_pos ⟨hscope, by rw [hnone]; rfl⟩))

theorem fencePartition_ends (hop : o.opcode = 2) (hscope : o.byte 16 = 1) (hfirst : ∀ e ∈ s.ops, e.part = o.part → o.id ≤ e.id) :
    exec (.fencePartition i) s = .next (s.endOp i 0 0) := by
  have hnone : s.ops.any (fun e => e.part == o.part && decide (e.id < o.id)) = false := by
    simpa [List.any_eq_false] using hfirst
  exact congrArg Outcome.next ((State.onOp_started hfind hst 2 _ hop).trans (if_pos ⟨hscope, by rw [hnone]; rfl⟩))

/-- An earlier operation of the ring holds a FENCE of either scope (03 R109). -/
theorem fences_wait (hop : o.opcode = 2) (hearlier : ∃ e ∈ s.ops, e.part = o.part ∧ e.ring = o.ring ∧ e.id < o.id) :
    exec (.fence i) s = .next s ∧ exec (.fencePartition i) s = .next s := by
  obtain ⟨e, he, hpart, hring, hid⟩ := hearlier
  have hinRing : s.ops.any (fun e => e.part == o.part && e.ring == o.ring && decide (e.id < o.id)) = true :=
    List.any_eq_true.2 ⟨e, he, by simp [hpart, hring, hid]⟩
  have hinPart : s.ops.any (fun e => e.part == o.part && decide (e.id < o.id)) = true :=
    List.any_eq_true.2 ⟨e, he, by simp [hpart, hid]⟩
  exact ⟨congrArg Outcome.next ((State.onOp_started hfind hst 2 _ hop).trans (if_neg (by simp [hinRing]))),
    congrArg Outcome.next ((State.onOp_started hfind hst 2 _ hop).trans (if_neg (by simp [hinPart])))⟩

theorem syncSignal_adds (hop : o.opcode = 3) (hform : o.byte 18 = 0) :
    exec (.syncSignal i) s = .next ((s.syncSet (s.opObj o) (s.syncGet (s.opObj o) + o.value)).endOp i 0 0) :=
  congrArg Outcome.next ((State.onOp_started hfind hst 3 _ hop).trans (if_pos hform))

theorem syncSignalSet_sets (hop : o.opcode = 3) (hform : o.byte 18 = 1) :
    exec (.syncSignalSet i) s = .next ((s.syncSet (s.opObj o) o.value).endOp i 0 0) :=
  congrArg Outcome.next ((State.onOp_started hfind hst 3 _ hop).trans (if_pos hform))

theorem syncWait_ends (hop : o.opcode = 4) (hholds : s.waitHolds o = true) : exec (.syncWait i) s = .next (s.endOp i 0 0) :=
  congrArg Outcome.next ((State.onOp_started hfind hst 4 _ hop).trans (if_pos hholds))

theorem syncWait_waits (hop : o.opcode = 4) (hholds : ¬ s.waitHolds o = true) : exec (.syncWait i) s = .next s :=
  congrArg Outcome.next ((State.onOp_started hfind hst 4 _ hop).trans (if_neg hholds))

theorem syncWaitTimeout_cancels (hop : o.opcode = 4) (hholds : ¬ s.waitHolds o = true) (hlimit : o.le 20 4 ≠ 0) :
    exec (.syncWaitTimeout i) s = .next (s.endOp i 11 2) :=
  congrArg Outcome.next ((State.onOp_started hfind hst 4 _ hop).trans ((if_neg hholds).trans (if_neg hlimit)))

end

/-- Settles O20: a fetch by what it brings and by the first check that fails, a start and a completion by the conditions of the ring, an
ordering operation by its opcode. -/
theorem descriptorsRunAndOrderingOperationsEnd : Obligations.DescriptorsRunAndOrderingOperationsEnd := by
  unfold Obligations.DescriptorsRunAndOrderingOperationsEnd
  refine ⟨fun s => ⟨fun n k desc hnext hfresh => ?_, fun i o hfind => ?_⟩, fun s i o hfind hst => ?_⟩
  · exact ⟨descriptorFetch_admits hnext desc hfresh, descriptorFetch_unlisted hnext desc hfresh, descriptorFetch_faults hnext⟩
  · exact ⟨fun hst hact hsch htick hwait horder => descriptorStart_starts hfind hst hact hsch htick (State.headerWait_of_tokenMet hwait)
        (State.ringOrder_of horder), fun hst => descriptorComplete_records hfind hst, fun hst => descriptorComplete_quietly hfind hst⟩
  · obtain ⟨ho, hid⟩ := State.findOp_spec hfind
    have hends (u : State) (hops : u.ops = s.ops) (htick : u.tick = s.tick) (st d : Nat) : ∃ e ∈ (u.endOp i st d).ops, e.id = i ∧
        e.st = .ended ∧ e.status = BitVec.ofNat 8 st ∧ e.detail = BitVec.ofNat 32 d ∧ e.doneTick = s.tick := by
      rw [← hid, ← htick]
      exact State.endOp_ended (hops ▸ ho) st d
    have hset (v : W64) := hends (s.syncSet (s.opObj o) v) (by simp) (by simp [State.tick]) 0 0
    have hend (st d : Nat) := hends s rfl rfl st d
    have hwait : s.waitHolds o = true ↔ compares (o.byte 18) (s.syncGet (s.opObj o)) o.value := syncCmp_iff ..
    refine ⟨fun hop => ⟨_, nop_ends hfind hst hop, hend 0 0, rfl⟩, fun hop hb hfirst => ⟨_, fence_ends hfind hst hop hb hfirst, hend 0 0, rfl⟩,
      fun hop hb hfirst => ⟨_, fencePartition_ends hfind hst hop hb hfirst, hend 0 0, rfl⟩, fun hop => fences_wait hfind hst hop,
      fun hop hb => ⟨_, syncSignal_adds hfind hst hop hb, hset _, s.syncGet_syncSet_same _ _, fun j hj => s.syncGet_syncSet_other _ _ j hj⟩,
      fun hop hb => ⟨_, syncSignalSet_sets hfind hst hop hb, hset _, s.syncGet_syncSet_same _ _, fun j hj => s.syncGet_syncSet_other _ _ j hj⟩,
      fun hop hmet => ⟨_, syncWait_ends hfind hst hop (hwait.2 hmet), hend 0 0, rfl⟩,
      fun hop hunmet => ⟨syncWait_waits hfind hst hop (mt hwait.1 hunmet), fun hlimit =>
        ⟨_, syncWaitTimeout_cancels hfind hst hop (mt hwait.1 hunmet) hlimit, hend 11 2, rfl⟩⟩⟩

end Sys2Proof.Machine
end

section
/-! PROOFS. The cadence count, its inputs and its source (04 R126-R137, T4.1-T4.8, 12 R397). -/
namespace Sys2Proof.Machine

open Host

/-! ### The cadence's record and the module's events -/

@[simp] theorem State.updCad_cad (s : State) (f : Cadence → Cadence) : (s.updCad f).cad = f s.cad := rfl

/-- An event of the module after a change of its cadence that keeps the count. -/
theorem State.updCad_postModule_eventAt (s : State) (f : Cadence → Cadence) (hcount : (f s.cad).count = s.cad.count)
    (code kind src data : Nat) : s.eventAt ((s.updCad f).postModule code kind src data) s.priv code kind src data := by
  have hhears : (s.updCad f).hearsAs s s.priv := ⟨rfl, rfl, congrArg (BitVec.setWidth 48) hcount⟩
  exact State.postTo_eventAt hhears code kind src data

/-! ### LOCKED and SLEWING -/

/-- The state of a module at an offset from its source (04 T4.1). -/
def settledAt (off : Int) : CadState := if decide (-15 ≤ off) && decide (off ≤ 15) then .locked else .slewing

theorem settledAt_spec {st : CadState} {off : Int} (h : st = settledAt off) :
    (-15 ≤ off → off ≤ 15 → st = .locked) ∧ (off < -15 ∨ 15 < off → st = .slewing) := by
  subst h
  unfold settledAt
  refine ⟨fun hlo hhi => if_pos (by simp [hlo, hhi]), fun hout => if_neg ?_⟩
  rw [Bool.and_eq_true, decide_eq_true_iff, decide_eq_true_iff]
  omega

section
variable {s : State}

theorem State.measure_unset (off : Int) (h : s.cad.state = .unset) : s.measure off = s.updCad (fun c => { c with acquiring := true }) := by
  simp only [State.measure, h]

/-- The record of a running count after a measured offset (04 R132). -/
def Cadence.measured (c : Cadence) (off : Int) : Cadence :=
  ({ c with
    offset := off, residual := off, state := settledAt off, inSpec := (decide (-15 ≤ off) && decide (off ≤ 15)) && c.lockedSpec
    stepping := decide (off < -1000000), holdoverMs := 0, holdoverUs := 0 }).refreshRoot

theorem State.measure_cad (off : Int) (h : s.cad.state ≠ .unset) : (s.measure off).cad = s.cad.measured off := by
  unfold State.measure
  split
  · contradiction
  · dsimp only
    split
    · simp only [State.postAcquired_keeps]
      rfl
    · rfl

end

/-! ### A tick edge (04 R126, R132) -/

section
variable {s : State} (src : W64) (res : Int)

theorem tickEdge_completes : Completes (.tickEdge src res) s (fun u => u.cad = (s.tickEdge src res).cad) :=
  ⟨_, rfl, by simp⟩

theorem tickEdge_locked (hst : s.cad.state = .locked) (hstep : s.cad.stepping = false) :
    (s.tickEdge src res).cad = { s.cad with count := s.cad.count + 1 } := by
  simp [State.tickEdge, hst, hstep, Cadence.advance]

theorem tickEdge_acquires (hst : s.cad.state = .unset) (hacq : s.cad.acquiring = true) :
    (s.tickEdge src res).cad.count = src ∧ (s.tickEdge src res).cad.offset = res ∧ (s.tickEdge src res).cad.acquiring = false ∧
      (s.tickEdge src res).cad.state = settledAt res := by
  simp [State.tickEdge, hst, hacq, Cadence.refreshRoot, settledAt]

theorem tickEdge_unset (hst : s.cad.state = .unset) (hacq : s.cad.acquiring = false) : s.tickEdge src res = s := by
  simp [State.tickEdge, hst, hacq]

end

/-! ### A TIMING flit arrives (04 R129-R132, 12 R397) -/

/-- The flit of a module that follows no source (12 R397). -/
def TimingFlit.sourceless (f : TimingFlit) : Bool := decide (f.sourceId = 0) && decide (f.hops = 127)

/-- The offset that a flit received at `rx` measures, in ns. -/
def TimingFlit.offset (f : TimingFlit) (rx : W64) : Int :=
  ((rx - f.tx).toInt - ((rx - f.echoTx) - (f.tx - f.echoRx)).toInt / 2) / 256

/-- The times for the echo and the offer among the inputs. -/
def Cadence.hear (c : Cadence) (k : Nat) (f : TimingFlit) (rx : W64) : Cadence :=
  { c with
    echo := tset c.echo k (f.tx, rx)
    inputs := if f.sourceless then tdel c.inputs k else tset c.inputs k { priority := f.priority, rootId := f.sourceId, hops := f.hops.toNat } }

/-- The selected input brings a flit. -/
def Cadence.follow (c : Cadence) (f : TimingFlit) : Cadence := { c with hops := f.hops, sourcePriority := f.priority, sourceId := f.sourceId }

/-- The input that is better than the selected one. -/
def Cadence.rank (c : Cadence) : Cadence :=
  { c with
    better := match c.best with
      | some b => if c.sourceKind = 1 ∧ c.sourcePort.toNat = b.1 then none else some b.1
      | none => none }

/-- A module without a source takes the best input. -/
def Cadence.adopt (c : Cadence) : Cadence :=
  if decide (c.sourceKind = 0) || decide (c.sourceKind = 3) then
    match c.best with
    | some b => { c.selectPort b.1 b.2 with better := none }
    | none => c
  else c

/-- A flit of the selected input is followed, and measured once the partner has echoed a time. -/
def State.attend (s : State) (k : Nat) (f : TimingFlit) (off : Int) : State :=
  let mine := s.cad.sourceKind == 1 && s.cad.sourcePort.toNat == k
  let s1 := if mine then s.updCad (fun c => c.follow f) else s
  (if mine && decide (f.echoTx ≠ 0) then s1.measure off else s1).updCad Cadence.rank

theorem State.updCad_adopt (s : State) : s.updCad Cadence.adopt =
    if decide (s.cad.sourceKind = 0) || decide (s.cad.sourceKind = 3) then
      match s.cad.best with
      | some b => s.updCad (fun c => { c.selectPort b.1 b.2 with better := none })
      | none => s
    else s := by
  unfold State.updCad Cadence.adopt
  split
  · split <;> rfl
  · rfl

theorem Cadence.considers_of {c : Cadence} {k : Nat} (hmode : c.sourceMode = 0 ∨ c.sourceMode = 1) (hmask : c.tportMask.getLsbD k = true) :
    c.considers k = true := by
  rcases hmode with h | h <;> simp [Cadence.considers, h, hmask]

theorem TimingFlit.sourceless_iff (f : TimingFlit) : f.sourceless = true ↔ f.sourceId = 0 ∧ f.hops = 127 := by
  simp [TimingFlit.sourceless]

theorem State.attend_selected {s : State} {k : Nat} {f : TimingFlit} (off : Int) (hkind : s.cad.sourceKind = 1)
    (hport : s.cad.sourcePort.toNat = k) (hecho : f.echoTx ≠ 0) :
    s.attend k f off = ((s.updCad (fun c => c.follow f)).measure off).updCad Cadence.rank := by
  have hmine : (s.cad.sourceKind == 1 && s.cad.sourcePort.toNat == k) = true := by simp [hkind, hport]
  simp only [State.attend, hmine, hecho, ne_eq, not_false_eq_true, decide_true, Bool.and_self, if_true]

section
variable {s : State} (k : Fin 12) (f : TimingFlit) (rx : W64)

theorem timingFlitReceive_sourceless (h : f.sourceless = true) :
    Completes (.timingFlitReceive k true f rx) s (fun u => tfind u.cad.inputs k.val = none ∧ u.cad.state = s.cad.state ∧
      u.cad.offset = s.cad.offset) := by
  have hskips : (f.sourceless || !(s.cad.hear k f rx).considers k) = true := by simp [h]
  exact ⟨s.updCad (fun c => c.hear k f rx), if_pos hskips, by simp [Cadence.hear, h], rfl, rfl⟩

/-- A flit that offers a source on a considered port: the module may take it, and attends to it. -/
theorem timingFlitReceive_attends (h : ¬ f.sourceless = true) (hconsiders : s.cad.considers k = true) :
    exec (.timingFlitReceive k true f rx) s =
      .next (((s.updCad (fun c => c.hear k f rx)).updCad Cadence.adopt).attend k f (f.offset rx)) := by
  have hheard : (s.cad.hear k f rx).considers k = true := hconsiders
  have hattends : ¬ (f.sourceless || !(s.cad.hear k f rx).considers k) = true := by simp [h, hheard]
  rw [State.updCad_adopt]
  exact if_neg hattends

/-- The first offer to a module that has heard no other is the best. -/
theorem Cadence.adopt_first {c : Cadence} (h : ¬ f.sourceless = true) (hconsiders : c.considers k = true) (hinputs : c.inputs = [])
    (hkind : c.sourceKind = 0) :
    (c.hear k f rx).adopt =
      { (c.hear k f rx).selectPort k { priority := f.priority, rootId := f.sourceId, hops := f.hops.toNat } with better := none } := by
  have hheard : (c.hear k f rx).considers k = true := hconsiders
  have hlist : (c.hear k f rx).inputs = [(k.val, { priority := f.priority, rootId := f.sourceId, hops := f.hops.toNat })] := by
    simp [Cadence.hear, h, hinputs, tset]
  have hbest : (c.hear k f rx).best = some (k.val, { priority := f.priority, rootId := f.sourceId, hops := f.hops.toNat }) := by
    simp [Cadence.best, hlist, hheard]
  have hnone : (c.hear k f rx).sourceKind = 0 := hkind
  simp [Cadence.adopt, hnone, hbest]

theorem sourcePort_toNat {k : Nat} (hk : k < 12) : (BitVec.ofNat 4 k).toNat = k := Nat.mod_eq_of_lt (by omega)

theorem Cadence.adopt_sourced {c : Cadence} (hkind : c.sourceKind = 1) : c.adopt = c := by
  simp [Cadence.adopt, hkind]

theorem timingFlitReceive_acquires (h : ¬ f.sourceless = true) (hconsiders : s.cad.considers k = true) (hinputs : s.cad.inputs = [])
    (hkind : s.cad.sourceKind = 0) (hst : s.cad.state = .unset) (hecho : f.echoTx ≠ 0) :
    Completes (.timingFlitReceive k true f rx) s (fun u => u.cad.sourceKind = 1 ∧ u.cad.sourcePort.toNat = k.val ∧
      u.cad.sourceId = f.sourceId ∧ u.cad.hops = f.hops ∧ u.cad.acquiring = true) := by
  refine ⟨_, timingFlitReceive_attends k f rx h hconsiders, ?_⟩
  have hadopts := Cadence.adopt_first k f rx h hconsiders hinputs hkind
  have hselects : (s.cad.hear k f rx).adopt.sourceKind = 1 ∧ (s.cad.hear k f rx).adopt.sourcePort.toNat = k.val ∧
      (s.cad.hear k f rx).adopt.state = .unset := by
    rw [hadopts]
    exact ⟨rfl, sourcePort_toNat k.isLt, hst⟩
  obtain ⟨hone, hport, hunset⟩ := hselects
  rw [State.attend_selected _ hone hport hecho, State.measure_unset _ hunset]
  simp only [State.updCad_cad, Cadence.rank, Cadence.follow]
  exact ⟨hone, hport, trivial, trivial, trivial⟩

theorem timingFlitReceive_measures (h : ¬ f.sourceless = true) (hconsiders : s.cad.considers k = true) (hkind : s.cad.sourceKind = 1)
    (hport : s.cad.sourcePort.toNat = k.val) (hst : s.cad.state ≠ .unset) (hecho : f.echoTx ≠ 0) :
    Completes (.timingFlitReceive k true f rx) s (fun u => u.cad.offset = f.offset rx ∧ u.cad.count = s.cad.count ∧
      u.cad.state = settledAt (f.offset rx)) := by
  refine ⟨_, timingFlitReceive_attends k f rx h hconsiders, ?_⟩
  have hstays : (s.cad.hear k f rx).adopt = s.cad.hear k f rx := Cadence.adopt_sourced hkind
  have hkeeps : (s.updCad (fun c => c.hear k f rx)).updCad Cadence.adopt = s.updCad (fun c => c.hear k f rx) :=
    congrArg (fun c => s.updCad (fun _ => c)) hstays
  have hselected : (s.updCad (fun c => c.hear k f rx)).cad.sourceKind = 1 := hkind
  rw [hkeeps, State.attend_selected _ hselected hport hecho]
  have hmeasured := State.measure_cad (s := (s.updCad (fun c => c.hear k f rx)).updCad (fun c => c.follow f)) (f.offset rx) hst
  simp only [State.updCad_cad, Cadence.rank, hmeasured]
  exact ⟨rfl, rfl, rfl⟩

end

/-! ### PTP, the best input, and the loss of the source (04 R129-R134) -/

/-- A PTP Sync taken down (04 R129). -/
def State.hearPtp (s : State) (off : Int) (ident : W64) (timed : Bool) : State :=
  { s.updCad (fun c => { c with ptpHeard := true, ptpOk := timed, ptpId := ident }) with
    mgt := { s.mgt with ptpLocked := decide (-15 ≤ off) && decide (off ≤ 15) } }

section
variable {s : State}

theorem ptpSyncReceive_measures (off : Int) (ident : W64) (timed : Bool) (hmode : s.cad.sourceMode = 2) (hkind : s.cad.sourceKind = 2)
    (hst : s.cad.state ≠ .unset) :
    Completes (.ptpSyncReceive off ident s.cad.ptpDomain timed) s (fun u => u.cad.offset = off ∧ u.cad.sourceId = ident ∧
      u.cad.state = settledAt off) := by
  have hwanted : ¬ (!(s.cad.sourceMode == 2 || (s.cad.sourceMode == 0 && !(s.cad.inputs.any (fun i => s.cad.considers i.1))))) = true := by
    simp [hmode]
  let t := (s.hearPtp off ident timed).updCad (fun c => { c with sourceId := ident })
  have hmeasured : (t.measure off).cad = t.cad.measured off := State.measure_cad off hst
  exact ⟨t.measure off, (if_neg (fun h => h rfl)).trans ((if_neg hwanted).trans (if_pos hkind)), congrArg Cadence.offset hmeasured,
    congrArg Cadence.sourceId hmeasured, congrArg Cadence.state hmeasured⟩

/-- The better input takes the source's place. -/
def Cadence.replace (c : Cadence) (k : Nat) (i : CadInput) : Cadence := { c.selectPort k i with better := none }

/-- CADENCE_SOURCE is posted while the module follows a source (04 T4.5). -/
theorem exec_bestInputHoldExpiry {k : Nat} {i : CadInput} (hbetter : s.cad.better = some k) (hinput : tfind s.cad.inputs k = some i) :
    exec .bestInputHoldExpiry s = .next
      (if s.cad.state = .locked ∨ s.cad.state = .slewing then
        (s.updCad (fun c => c.replace k i)).postModule 0x0205 0 0 (pack [(64, i.rootId.toNat), (4, k), (3, 0), (2, 1)])
      else s.updCad (fun c => c.replace k i)) := by
  refine congrArg Outcome.next ?_
  simp only [hbetter, hinput]
  cases s.cad.state <;> rfl

theorem bestInputHoldExpiry_replaces {k : Nat} {i : CadInput} (hk : k < 12) (hbetter : s.cad.better = some k)
    (hinput : tfind s.cad.inputs k = some i) :
    Completes .bestInputHoldExpiry s (fun u => u.cad.sourceKind = 1 ∧ u.cad.sourcePort.toNat = k ∧ u.cad.sourceId = i.rootId ∧
      u.cad.sourcePriority = i.priority ∧ u.cad.state = s.cad.state ∧ u.cad.count = s.cad.count ∧
      (s.cad.state = .locked → s.eventAt u s.priv 0x0205 0 0 (i.rootId.toNat + k * 2 ^ 64 + 2 ^ 71))) := by
  have hdata : pack [(64, i.rootId.toNat), (4, k), (3, 0), (2, 1)] = i.rootId.toNat + k * 2 ^ 64 + 2 ^ 71 := by
    simp only [pack]
    omega
  refine ⟨_, exec_bestInputHoldExpiry hbetter hinput, ?_⟩
  rw [hdata]
  split
  · simp only [State.postModule_keeps]
    exact ⟨rfl, sourcePort_toNat hk, rfl, rfl, rfl, rfl, fun _ => s.updCad_postModule_eventAt _ rfl _ _ _ _⟩
  · next hst => exact ⟨rfl, sourcePort_toNat hk, rfl, rfl, rfl, rfl, fun hlocked => absurd (.inl hlocked) hst⟩

/-- The record of a LOCKED module that loses the T-port it follows (04 R134). -/
def Cadence.holdOver (c : Cadence) (k : Nat) : Cadence :=
  ({ c with
    inputs := tdel c.inputs k, sourceKind := 0, sourcePort := 0, hops := 0, sourcePriority := 0, stepping := false
    state := .holdover, holdovers := c.holdovers + 1, holdoverUs := 0, holdoverMs := 0 }).refreshRoot

theorem exec_sourceLoss_selected {k : Fin 12} (hkind : s.cad.sourceKind = 1) (hport : s.cad.sourcePort.toNat = k.val)
    (hst : s.cad.state = .locked) :
    exec (.sourceLoss (some k)) s = .next ((s.updCad (fun c => c.holdOver k)).postModule 0x0202 0 0 s.cad.sourceId.toNat) := by
  refine congrArg Outcome.next ?_
  simp [State.loseSource, hkind, hport, hst, State.updCad, Cadence.holdOver]

theorem sourceLoss_holdsOver {k : Fin 12} (hkind : s.cad.sourceKind = 1) (hport : s.cad.sourcePort.toNat = k.val) (hst : s.cad.state = .locked) :
    Completes (.sourceLoss (some k)) s (fun u => u.cad.state = .holdover ∧
      u.cad.holdovers = s.cad.holdovers + 1 ∧ u.cad.holdoverMs = 0 ∧ u.cad.sourceKind = 0 ∧ tfind u.cad.inputs k.val = none ∧ u.cad.count = s.cad.count ∧
      u.cad.inSpec = s.cad.inSpec ∧ s.eventAt u s.priv 0x0202 0 0 s.cad.sourceId.toNat) := by
  refine ⟨_, exec_sourceLoss_selected hkind hport hst, ?_⟩
  simp only [State.postModule_keeps]
  exact ⟨rfl, rfl, rfl, rfl, tfind_tdel_same _ _, rfl, rfl, s.updCad_postModule_eventAt _ rfl _ _ _ _⟩

theorem cadenceOutOfSpec_falls (b : W64) (hst : s.cad.state = .holdover) (hspec : s.cad.inSpec = true) :
    Completes (.cadenceOutOfSpec b) s (fun u => u.cad = { s.cad with inSpec := false } ∧ s.eventAt u s.priv 0x0203 0 0 b.toNat) := by
  refine ⟨_, congrArg Outcome.next (if_pos ⟨hst, hspec⟩), ?_, s.updCad_postModule_eventAt _ rfl _ _ _ _⟩
  simp only [State.postModule_keeps, State.updCad_cad]

theorem cadenceOutOfSpec_already (b : W64) (hspec : s.cad.inSpec = false) : exec (.cadenceOutOfSpec b) s = .next s :=
  congrArg Outcome.next (if_neg fun h => absurd h.2 (by simp [hspec]))

end

/-! ### SOURCE_MODE and LOCAL_SET (04 R130, T4.2, T4.8) -/

section
variable {s : State} (k : Fin 4)

theorem sourceModeWrite_others (mode : BitVec 2) (h : s.priv ≠ .pf k) : exec (.sourceModeWrite k mode) s = .next s :=
  congrArg Outcome.next (if_neg h)

theorem localSetWrite_others (v : W64) (h : s.priv ≠ .pf k) : exec (.localSetWrite k v) s = .next s :=
  congrArg Outcome.next (if_neg h)

variable {k} (h : s.priv = .pf k)
include h

theorem exec_sourceModeWrite (mode : BitVec 2) : exec (.sourceModeWrite k mode) s = .next (s.setSourceMode mode) :=
  congrArg Outcome.next (if_pos h)

theorem exec_localSetWrite (v : W64) : exec (.localSetWrite k v) s = .next (s.setLocal v) :=
  congrArg Outcome.next (if_pos h)

theorem sourceModeWrite_local (hst : s.cad.state ≠ .unset) :
    Completes (.sourceModeWrite k 3) s (fun u => u.cad.state = .localMode ∧ u.cad.sourceKind = 3 ∧ u.cad.sourceMode = 3 ∧
      u.cad.count = s.cad.count ∧ u.cad.inSpec = false) := by
  have hset : s.setSourceMode 3 = (s.updCad (fun c => ({ c with sourceMode := 3 }).refreshRoot)).startLocal s.cad.count := by
    unfold State.setSourceMode
    rw [if_pos rfl]
    split
    · contradiction
    · rfl
  exact ⟨_, exec_sourceModeWrite h 3, hset ▸ ⟨rfl, rfl, rfl, rfl, rfl⟩⟩

theorem sourceModeWrite_keeps (mode : BitVec 2) (hmode : mode ≠ 3) (hst : s.cad.state ≠ .localMode) :
    Completes (.sourceModeWrite k mode) s (fun u => u.cad.sourceMode = mode ∧ u.cad.state = s.cad.state ∧ u.cad.count = s.cad.count) := by
  have hset : s.setSourceMode mode = s.updCad (fun c => ({ c with sourceMode := mode }).refreshRoot) := (if_neg hmode).trans (if_neg hst)
  exact ⟨_, exec_sourceModeWrite h mode, hset ▸ ⟨rfl, rfl, rfl⟩⟩

theorem localSetWrite_starts (v : W64) (hst : s.cad.state = .unset) (hmode : s.cad.sourceMode = 3) :
    Completes (.localSetWrite k v) s (fun u => u.cad.count = v ∧ u.cad.state = .localMode) := by
  have hset : s.setLocal v = s.startLocal v := if_pos ⟨hst, hmode⟩
  exact ⟨_, exec_localSetWrite h v, hset ▸ ⟨rfl, rfl⟩⟩

theorem localSetWrite_discarded (v : W64) (hno : s.cad.state ≠ .unset ∨ s.cad.sourceMode ≠ 3) : exec (.localSetWrite k v) s = .next s := by
  have hset : s.setLocal v = s := if_neg (not_and_or.2 hno)
  rw [exec_localSetWrite h, hset]

end

/-! ### A TIMING flit leaves (12 R397) -/

theorem timingFlitSend_sends {s : State} (k : Fin 12) (tx : W64) (hactive : (s.port (24 + k.val)).phase = .active)
    (hcaps : (s.port (24 + k.val)).caps.getLsbD 1 = true) (hcount : s.cad.count.toNat % 64 = 0) :
    Completes (.timingFlitSend k tx) s (fun u => ∃ f : TimingFlit, u.out = Output.timing (24 + k.val) f :: s.out ∧ f.tx = tx ∧
      (s.cad.rootActive = true → f.sourceId = s.cad.sourceId ∧ f.hops = 0 ∧ f.priority = s.cad.rootPriority) ∧
      (s.cad.rootActive = false → s.cad.sourceKind = 1 → s.cad.hops.toNat < 127 →
        f.sourceId = s.cad.sourceId ∧ f.hops = s.cad.hops + 1 ∧ f.priority = s.cad.sourcePriority) ∧
      (s.cad.rootActive = false → s.cad.sourceKind ≠ 1 → f.sourceId = 0 ∧ f.hops = 127)) := by
  have hsends : s.portActive (24 + k.val) = true ∧ (s.port (24 + k.val)).caps.getLsbD 1 = true ∧ s.cad.count.toNat % 64 = 0 :=
    ⟨by simp [State.portActive, hactive], hcaps, hcount⟩
  refine ⟨_, congrArg Outcome.next (if_pos hsends), _, rfl, rfl, fun hroot => ?_, fun hroot hkind hhops => ?_, fun hroot hkind => ?_⟩
  · simp [hroot]
  · simp [hroot, hkind, hhops]
  · have hnone : ¬ (s.cad.sourceKind = 1 ∧ s.cad.hops.toNat < 127) := fun h => hkind h.1
    simp only [hroot, Bool.false_eq_true, if_false, if_neg hnone, and_self]

/-- Settles O27, command by command: the edge, the flits that come, PTP, the replacement and the loss of the source, the host's registers,
the flits that go. -/
theorem cadenceFollowsItsInputs : Obligations.CadenceFollowsItsInputs := by
  unfold Obligations.CadenceFollowsItsInputs
  intro s
  have hrunning (h : s.cad.state = .locked ∨ s.cad.state = .slewing) : s.cad.state ≠ .unset := by
    rcases h with h | h <;> simp [h]
  refine ⟨fun src res hst hstep => ?_, fun src res hst hacq => ?_, fun src res hst hacq => ?_, fun k f rx => ⟨rfl, fun hid hhops => ?_, ?_⟩,
    fun off ident dom timed => ⟨fun hdom => if_pos hdom, ?_⟩, fun k i => bestInputHoldExpiry_replaces, fun k => sourceLoss_holdsOver,
    fun b => ⟨cadenceOutOfSpec_falls b, cadenceOutOfSpec_already b⟩, fun k v mode => ⟨fun h => ⟨sourceModeWrite_others k mode h, localSetWrite_others k v h⟩,
      fun h => ⟨sourceModeWrite_local h, sourceModeWrite_keeps h mode, localSetWrite_starts h v, localSetWrite_discarded h v⟩⟩,
    fun k tx => timingFlitSend_sends k tx⟩
  · obtain ⟨u, hexec, hcad⟩ := tickEdge_completes (s := s) src res
    rw [tickEdge_locked src res hst hstep] at hcad
    exact ⟨u, hexec, by rw [hcad], by rw [hcad]; exact hst, by rw [hcad]⟩
  · obtain ⟨u, hexec, hcad⟩ := tickEdge_completes (s := s) src res
    obtain ⟨hcount, hoff, hdone, hstate⟩ := tickEdge_acquires src res hst hacq
    rw [← hcad] at hcount hoff hdone hstate
    exact ⟨u, hexec, hcount, hoff, hdone, settledAt_spec hstate⟩
  · obtain ⟨u, hexec, hcad⟩ := tickEdge_completes (s := s) src res
    exact ⟨u, hexec, hcad.trans (congrArg State.cad (tickEdge_unset src res hst hacq))⟩
  · exact timingFlitReceive_sourceless k f rx (f.sourceless_iff.2 ⟨hid, hhops⟩)
  · intro hmode hmask hoffers
    have hsourced : ¬ f.sourceless = true := mt f.sourceless_iff.1 hoffers
    have hconsiders := Cadence.considers_of hmode hmask
    refine ⟨timingFlitReceive_acquires k f rx hsourced hconsiders, fun hkind hport hst hecho => ?_⟩
    obtain ⟨u, hexec, hoff, hcount, hstate⟩ := timingFlitReceive_measures k f rx hsourced hconsiders hkind hport (hrunning hst) hecho
    exact ⟨u, hexec, hoff, hcount, settledAt_spec hstate⟩
  · rintro rfl hmode hkind hst
    obtain ⟨u, hexec, hoff, hid, hstate⟩ := ptpSyncReceive_measures off ident timed hmode hkind (hrunning hst)
    exact ⟨u, hexec, hoff, hid, settledAt_spec hstate⟩

end Sys2Proof.Machine
end

section
/-! PROOFS. Classes of regions and their crossings (04 R140-R148, T4.4, T4.10). -/
namespace Sys2Proof.Machine

open Host

/-! ### Bounds of a class -/

theorem classFor_le (k : Nat) : classFor k ≤ 7 := by
  unfold classFor
  repeat' split
  all_goals omega

theorem State.permitted_le (s : State) (r : Nat) : s.permitted r ≤ 7 := by
  unfold State.permitted
  split
  · omega
  · exact classFor_le _

theorem Osc.lullClass_le (o : Osc) : o.lullClass ≤ 7 := by
  unfold Osc.lullClass
  split <;> omega

theorem State.wantedClass_le (s : State) (r : Nat) : s.wantedClass r ≤ 7 :=
  max_le (Nat.le_of_lt_succ (s.rg r).osc.target.isLt) (max_le (Osc.lullClass_le _) (s.permitted_le r))

theorem class_toNat {c : Nat} (h : c ≤ 7) : (BitVec.ofNat 3 c).toNat = c := Nat.mod_eq_of_lt (Nat.lt_succ_of_le h)

/-! ### What an update of a region keeps of every region -/

theorem neighbour_ne {r d i : Nat} (h : neighbour r d = some i) : i ≠ r := by
  unfold neighbour at h
  split at h
  all_goals
    obtain ⟨hin, hi⟩ := Option.ite_none_right_eq_some.1 h
    have hval := Option.some.inj hi
    omega

theorem State.rg_updR_keeps (s : State) (i j : Nat) (f : Region → Region) (p : Region → Prop) (hf : p (s.rg i) → p (f (s.rg i)))
    (h : p (s.rg j)) : p ((s.updR i f).rg j) := by
  by_cases e : j = i
  · subst e
    rw [State.rg_updR_same]
    exact hf h
  · rwa [State.rg_updR_other _ _ _ _ e]

/-! ### Crossings -/

/-- One side of a crossing becomes elastic (04 T4.4 step 1), and synchronous again (04 R141, T4.4 step 5). -/
def Region.openSide (x : Region) (d : Nat) : Region :=
  { x with osc := { x.osc with elastic := withBit x.osc.elastic d true, coupled := withBit x.osc.coupled d false } }
def Region.closeSide (x : Region) (d : Nat) : Region :=
  { x with osc := { x.osc with elastic := withBit x.osc.elastic d false, coupled := withBit x.osc.coupled d true } }

theorem Region.openSide_elastic (x : Region) {d : Nat} (hd : d < 4) : (x.openSide d).osc.elastic.getLsbD d = true :=
  (getLsbD_withBit _ _ _ _ hd).trans (if_pos rfl)

theorem Region.openSide_keeps_elastic (x : Region) (d : Nat) {b : Nat} (h : x.osc.elastic.getLsbD b = true) :
    (x.openSide d).osc.elastic.getLsbD b = true := by
  have hb : b < 4 := BitVec.lt_of_getLsbD h
  refine (getLsbD_withBit _ _ _ _ hb).trans ?_
  split
  · rfl
  · exact h

/-- The crossing of a region in one direction, opened on both sides. -/
def State.openCrossing (s : State) (r d : Nat) : State :=
  match neighbour r d with
  | some i => if (s.rg i).osc.running then (s.updR r (fun x => x.openSide d)).updR i (fun x => x.openSide ((d + 2) % 4)) else s
  | none => s

theorem State.openCrossings_eq (s : State) (r : Nat) : s.openCrossings r = (List.range 4).foldl (fun t d => t.openCrossing r d) s := rfl

/-- What opening a side keeps of a region, an opened crossing keeps of every region. -/
theorem State.openCrossing_keeps_rg (s : State) (r d j : Nat) (p : Region → Prop) (hp : ∀ x b, p x → p (x.openSide b)) (h : p (s.rg j)) :
    p ((s.openCrossing r d).rg j) := by
  unfold State.openCrossing
  split
  · split
    · exact State.rg_updR_keeps _ _ _ _ p (hp _ _) (State.rg_updR_keeps _ _ _ _ p (hp _ _) h)
    · exact h
  · exact h

theorem State.openCrossings_keeps_rg (s : State) (r j : Nat) (p : Region → Prop) (hp : ∀ x b, p x → p (x.openSide b)) (h : p (s.rg j)) :
    p ((s.openCrossings r).rg j) :=
  foldl_range_induction (fun _ t => p (t.rg j)) _ 4 s h (fun d t _ ht => t.openCrossing_keeps_rg r d j p hp ht)

theorem State.openCrossing_opens {s : State} {r d i : Nat} (hd : d < 4) (hi : neighbour r d = some i) (hrun : (s.rg i).osc.running = true) :
    ((s.openCrossing r d).rg r).osc.elastic.getLsbD d = true ∧
      ((s.openCrossing r d).rg i).osc.elastic.getLsbD ((d + 2) % 4) = true := by
  have hne := neighbour_ne hi
  have hopen : s.openCrossing r d = (s.updR r (fun x => x.openSide d)).updR i (fun x => x.openSide ((d + 2) % 4)) := by
    simp only [State.openCrossing, hi, hrun, if_true]
  rw [hopen, State.rg_updR_other _ _ _ _ hne.symm, State.rg_updR_same, State.rg_updR_same]
  exact ⟨Region.openSide_elastic _ hd, Region.openSide_elastic _ (Nat.mod_lt _ (by decide))⟩

/-- Every crossing towards a running neighbour is elastic on both sides once the region's crossings are opened. -/
theorem State.openCrossings_opens {s : State} {r d i : Nat} (hd : d < 4) (hi : neighbour r d = some i) (hrun : (s.rg i).osc.running = true) :
    ((s.openCrossings r).rg r).osc.elastic.getLsbD d = true ∧
      ((s.openCrossings r).rg i).osc.elastic.getLsbD ((d + 2) % 4) = true := by
  have hsweep : ((s.openCrossings r).rg i).osc.running = true ∧ (d < 4 → ((s.openCrossings r).rg r).osc.elastic.getLsbD d = true ∧
      ((s.openCrossings r).rg i).osc.elastic.getLsbD ((d + 2) % 4) = true) := by
    refine foldl_range_induction (fun n t => (t.rg i).osc.running = true ∧ (d < n → (t.rg r).osc.elastic.getLsbD d = true ∧
      (t.rg i).osc.elastic.getLsbD ((d + 2) % 4) = true)) _ 4 s ⟨hrun, fun h => absurd h (Nat.not_lt_zero d)⟩ ?_
    rintro n t - ⟨hruns, hbefore⟩
    refine ⟨t.openCrossing_keeps_rg r n i (fun x => x.osc.running = true) (fun _ _ h => h) hruns, fun hdn => ?_⟩
    rcases Nat.lt_succ_iff_lt_or_eq.1 hdn with hlt | rfl
    · obtain ⟨hr, hi⟩ := hbefore hlt
      exact ⟨t.openCrossing_keeps_rg r n r (fun x => x.osc.elastic.getLsbD d = true) (fun x b => x.openSide_keeps_elastic b) hr,
        t.openCrossing_keeps_rg r n i (fun x => x.osc.elastic.getLsbD ((d + 2) % 4) = true) (fun x b => x.openSide_keeps_elastic b) hi⟩
    · exact State.openCrossing_opens hd hi hruns
  exact hsweep.2 hd

/-! ### A region enters a class -/

/-- A region in a new class (04 T4.4, 16 R503). -/
def Region.enter (x : Region) (c : Nat) : Region :=
  { x with
    osc := { x.osc with cls := BitVec.ofNat 3 c, classChanges := x.osc.classChanges + 1 }
    pwr := if decide (x.osc.cls.toNat < c) then (x.pwr.setWindow c).clampSet else x.pwr }

theorem State.enterClass_eq (s : State) (r c : Nat) : s.enterClass r c = (s.updR r (fun x => x.enter c)).openCrossings r := rfl

/-- The entered region: its class and its count of changes. -/
theorem State.enterClass_enters (s : State) (r : Nat) {c : Nat} (hc : c ≤ 7) :
    ((s.enterClass r c).rg r).osc.cls.toNat = c ∧ ((s.enterClass r c).rg r).osc.classChanges = (s.rg r).osc.classChanges + 1 := by
  rw [State.enterClass_eq]
  refine State.openCrossings_keeps_rg _ r r (fun x => x.osc.cls.toNat = c ∧ x.osc.classChanges = (s.rg r).osc.classChanges + 1)
    (fun _ _ h => h) ?_
  rw [State.rg_updR_same]
  exact ⟨class_toNat hc, rfl⟩

theorem State.enterClass_opens {s : State} {r d i : Nat} (c : Nat) (hd : d < 4) (hi : neighbour r d = some i)
    (hrun : (s.rg i).osc.running = true) :
    ((s.enterClass r c).rg r).osc.elastic.getLsbD d = true ∧ ((s.enterClass r c).rg i).osc.elastic.getLsbD ((d + 2) % 4) = true := by
  refine State.openCrossings_opens hd hi ?_
  rwa [State.rg_updR_other _ _ _ _ (neighbour_ne hi)]

/-! ### Slower classes only: a region and its neighbours -/

section
variable {s : State} {j n : Nat}

/-- A region that enters a slower class leaves no region in a faster one. -/
theorem State.enterClass_slower {r c : Nat} (hc : c ≤ 7) (hslower : (s.rg r).osc.cls.toNat < c) (h : n ≤ (s.rg j).osc.cls.toNat) :
    n ≤ ((s.enterClass r c).rg j).osc.cls.toNat := by
  rw [State.enterClass_eq]
  refine State.openCrossings_keeps_rg _ r j (fun x => n ≤ x.osc.cls.toNat) (fun _ _ h => h) ?_
  refine State.rg_updR_keeps _ r j _ (fun x => n ≤ x.osc.cls.toNat) (fun hn => ?_) h
  exact hn.trans (hslower.le.trans (class_toNat hc).ge)

theorem State.pull_slower (r : Nat) (lull : Bool) (h : n ≤ (s.rg j).osc.cls.toNat) : n ≤ ((s.pull r lull).rg j).osc.cls.toNat := by
  unfold State.pull
  split
  · exact h
  · next b _ =>
    dsimp only
    split
    · next hslower =>
      have hentered := State.enterClass_slower (classFor_le (b.2 + 2)) hslower.2 h
      have hpulled := State.rg_updR_keeps (s.enterClass r (classFor (b.2 + 2))) r j (fun x => { x with osc := x.osc.setPulled true })
        (fun x => n ≤ x.osc.cls.toNat) (fun h => h) hentered
      split
      · exact hpulled
      · rw [State.rg, State.postModule_rgn, ← State.rg]
        exact State.rg_updR_keeps _ r j _ (fun x => n ≤ x.osc.cls.toNat) (fun h => h) hpulled
    · exact h

theorem State.ripple_slower (lull : Bool) (rings : Nat) (h : n ≤ (s.rg j).osc.cls.toNat) :
    n ≤ ((s.ripple lull rings).rg j).osc.cls.toNat := by
  induction rings generalizing s with
  | zero => exact h
  | succ rings ih =>
    unfold State.ripple
    generalize List.range 144 = l
    exact ih (List.foldlRecOn l _ (motive := fun t : State => n ≤ (t.rg j).osc.cls.toNat) h (fun t ht r _ => State.pull_slower r lull ht))

/-- A ripple of pulls is one of classes: tiles and memories stand. -/
theorem State.ripple_memory (lull : Bool) (rings : Nat) : (s.ripple lull rings).tiles = s.tiles ∧ s.memSame (s.ripple lull rings) := by
  induction rings generalizing s with
  | zero => exact ⟨rfl, rfl, rfl, rfl, rfl, rfl⟩
  | succ rings ih =>
    obtain ⟨htiles, hmem⟩ := ih (s := (List.range 144).foldl (fun t r => t.pull r lull) s)
    unfold State.ripple
    simpa [State.memSame] using And.intro htiles hmem

/-- A region takes a slower class, and no pull makes it faster again (04 R145). -/
theorem State.slowTo_slower {r c : Nat} (lull : Bool) (hc : c ≤ 7) : c ≤ ((s.slowTo r c lull).rg r).osc.cls.toNat := by
  obtain ⟨hcls, -⟩ := s.enterClass_enters r hc
  unfold State.slowTo
  exact State.ripple_slower lull 5 hcls.ge

theorem State.slowTo_memory (r c : Nat) (lull : Bool) : (s.slowTo r c lull).tiles = s.tiles ∧ s.memSame (s.slowTo r c lull) := by
  obtain ⟨htiles, hmem⟩ := State.ripple_memory (s := s.enterClass r c) lull 5
  unfold State.slowTo
  simpa [State.memSame] using And.intro htiles hmem

end

/-! ### A class decision (04 R142-R145) -/

/-- The decision notes whether the region is held below its target (04 T4.11). -/
def State.notePulled (s : State) (r : Nat) : State :=
  s.updR r (fun x => { x with osc := x.osc.setPulled (decide (max (s.rg r).osc.target.toNat (s.rg r).osc.lullClass < s.wantedClass r)) })

theorem State.notePulled_osc (s : State) (r : Nat) : ∃ v, ((s.notePulled r).rg r).osc = (s.rg r).osc.setPulled v :=
  ⟨_, congrArg Region.osc (s.rg_updR_same r _)⟩

theorem State.notePulled_other (s : State) {r j : Nat} (h : j ≠ r) : (s.notePulled r).rg j = s.rg j := s.rg_updR_other r j _ h

section
variable {s : State} {r : Fin 144} (hrun : (s.rg r).osc.running = true)
include hrun

theorem classChange_slower (h : (s.rg r).osc.cls.toNat < s.wantedClass r) :
    exec (.classChange r) s = .next ((s.notePulled r).slowTo r (s.wantedClass r) (s.rg r).osc.lull) :=
  (if_neg (by simp [hrun])).trans (if_pos h)

theorem classChange_faster (h : s.wantedClass r < (s.rg r).osc.cls.toNat) (hwindow : (s.rg r).pwr.inWindow (s.wantedClass r) = true) :
    exec (.classChange r) s = .next ((s.notePulled r).enterClass r (s.wantedClass r)) :=
  (if_neg (by simp [hrun])).trans ((if_neg h.le.not_gt).trans ((if_pos h).trans (if_pos hwindow)))

/-- A rise waits while PWR, where it runs, moves the window. -/
theorem classChange_waits (h : s.wantedClass r < (s.rg r).osc.cls.toNat) (hwindow : (s.rg r).pwr.inWindow (s.wantedClass r) = false) :
    exec (.classChange r) s = .next (if s.pwrRuns then (s.notePulled r).updR r (fun x => { x with pwr := x.pwr.setWindow (s.wantedClass r) })
      else s.notePulled r) := by
  refine (if_neg (by simp [hrun])).trans ((if_neg h.le.not_gt).trans ((if_pos h).trans ((if_neg (by simp [hwindow])).trans ?_)))
  split <;> rfl

theorem classChange_stays (h : s.wantedClass r = (s.rg r).osc.cls.toNat) : exec (.classChange r) s = .next (s.notePulled r) :=
  (if_neg (by simp [hrun])).trans ((if_neg h.not_gt).trans (if_neg h.not_lt))

end

theorem classChange_stopped {s : State} {r : Fin 144} (h : (s.rg r).osc.running = false) : exec (.classChange r) s = .next s :=
  if_pos (by simp [h])

/-! ### A relock (04 R141, T4.4 step 5) -/

theorem crossingRelock_relocks {s : State} {r : Fin 144} {d : Fin 4} {i : Nat} (hi : neighbour r d = some i) (hr : (s.rg r).state = .ready)
    (hready : (s.rg i).state = .ready) (hcls : (s.rg r).osc.cls = (s.rg i).osc.cls) :
    Completes (.crossingRelock r d) s (fun u => u.rg r = (s.rg r).closeSide d ∧ u.rg i = (s.rg i).closeSide ((d.val + 2) % 4)) := by
  have hne := neighbour_ne hi
  refine ⟨(s.updR r (fun x => x.closeSide d)).updR i (fun x => x.closeSide ((d.val + 2) % 4)), congrArg Outcome.next ?_, ?_, ?_⟩
  · simp only [hi]
    exact if_pos ⟨hr, hready, hcls⟩
  · rw [State.rg_updR_other _ _ _ _ hne.symm, State.rg_updR_same]
  · rw [State.rg_updR_same, State.rg_updR_other _ _ _ _ hne]

theorem crossingRelock_edge {s : State} {r : Fin 144} {d : Fin 4} (h : neighbour r d = none) : exec (.crossingRelock r d) s = .next s := by
  refine congrArg Outcome.next ?_
  simp only [h]

theorem Region.closeSide_synchronous (x : Region) {d : Nat} (hd : d < 4) :
    (x.closeSide d).osc.elastic.getLsbD d = false ∧ (x.closeSide d).osc.coupled.getLsbD d = true :=
  ⟨(getLsbD_withBit _ _ _ _ hd).trans (if_pos rfl), (getLsbD_withBit _ _ _ _ hd).trans (if_pos rfl)⟩

/-- Settles O28: a decision by how the wanted class compares with the present one, then a relock. -/
theorem regionsChangeClassAndRelock : Obligations.RegionsChangeClassAndRelock := by
  unfold Obligations.RegionsChangeClassAndRelock
  intro s r
  have hle := s.wantedClass_le r
  obtain ⟨v, hnoted⟩ := s.notePulled_osc r
  refine ⟨classChange_stopped, fun hrun => ⟨fun hslower => ?_, fun hfaster hwindow => ?_, fun hfaster hwindow => ?_, fun hsame => ?_⟩,
    fun d i hi hr hready hcls => ?_, fun d => crossingRelock_edge⟩
  · obtain ⟨htiles, hmem⟩ := State.slowTo_memory (s := s.notePulled r) r (s.wantedClass r) (s.rg r).osc.lull
    exact ⟨_, classChange_slower hrun hslower, State.slowTo_slower _ hle, htiles, hmem⟩
  · obtain ⟨hcls, hchanges⟩ := (s.notePulled r).enterClass_enters r hle
    refine ⟨_, classChange_faster hrun hfaster hwindow, hcls, by rw [hchanges, hnoted]; rfl, by simp [State.notePulled], fun i hi hruns => ?_⟩
    rw [← s.notePulled_other (neighbour_ne hi)] at hruns
    exact State.enterClass_opens _ (by decide) hi hruns
  · refine ⟨_, classChange_waits hrun hfaster hwindow, ?_⟩
    split
    · rw [State.rg_updR_same, hnoted]; rfl
    · rw [hnoted]; rfl
  · exact ⟨_, classChange_stays hrun hsame, by rw [hnoted]; rfl, by rw [hnoted]; rfl, fun j hj => s.notePulled_other hj⟩
  · obtain ⟨u, hexec, hr, hi⟩ := crossingRelock_relocks hi hr hready hcls
    obtain ⟨helastic, hcoupled⟩ := (s.rg r).closeSide_synchronous d.isLt
    obtain ⟨helastic', hcoupled'⟩ := (s.rg i).closeSide_synchronous (Nat.mod_lt (d.val + 2) (by decide : 0 < 4))
    exact ⟨u, hexec, hr ▸ helastic, hr ▸ hcoupled, hi ▸ helastic', hi ▸ hcoupled'⟩

end Sys2Proof.Machine
end

section
/-! PROOFS. What commands on tiles share: which updates of a tile leave its registers and the other tiles alone; a halt, an exception and the
end of a RUN; the counters of a region's faults. -/
namespace Sys2Proof.Machine

open Host

/-! ### Tables without some keys -/

/-- A table filtered by its keys reads as before at a key that stays, and as unlisted at one that goes. -/
theorem tget_filter_key {α : Type} (d : α) (p : Nat → Bool) (l : List (Nat × α)) (k : Nat) :
    tget d (l.filter (fun e => p e.1)) k = if p k then tget d l k else d := by
  induction l with
  | nil => simp
  | cons e r ih =>
    obtain ⟨j, v⟩ := e
    by_cases hjk : j = k
    · subst hjk
      by_cases hj : p j <;> simp [hj, tget, ih]
    · by_cases hj : p j <;> simp [hj, tget, hjk, ih]

theorem tget_eq_tfind {α : Type} (d : α) (l : List (Nat × α)) (k : Nat) : tget d l k = (tfind l k).getD d := by
  induction l with
  | nil => rfl
  | cons e r ih =>
    obtain ⟨j, v⟩ := e
    by_cases hjk : j = k <;> simp [tget, tfind, hjk, ih]

/-- The entry that a list's update by number changes, found by its number. -/
theorem find?_map_update {α : Type} (number : α → Nat) {f : α → α} {l : List α} {i : Nat} {x : α} (hid : ∀ y, number (f y) = number y)
    (hfind : l.find? (fun y => number y == i) = some x) :
    (l.map (fun y => if number y = i then f y else y)).find? (fun y => number y == i) = some (f x) := by
  have hx : number x = i := by simpa using List.find?_some hfind
  have hsame : ((fun y => number y == i) ∘ fun y => if number y = i then f y else y) = fun y => number y == i := by
    funext y
    by_cases hy : number y = i <;> simp [hy, hid]
  rw [List.find?_map, hsame, hfind]
  exact congrArg some (if_pos hx)

/-! ### Registers of a tile, the other tiles and the memories -/

/-- The scalar, address, predicate and vector registers of a tile, with their poison. -/
def TileSt.registers (x : TileSt) :=
  ((x.s, x.sPoison), (x.a, x.aPoison), (x.p, x.pPoison), (x.v, x.vPoison))

section
variable {s v u : State} {t : Nat}

theorem State.tile_of_tiles (h : u.tiles = v.tiles) (n : Nat) : u.tile n = v.tile n := congrArg (fun l => tget ({} : TileSt) l n) h

theorem State.registersSame_of (h : (u.tile t).registers = (s.tile t).registers) (hother : s.otherTiles u t) : s.registersSame u t := by
  simp only [TileSt.registers, Prod.mk.injEq] at h
  obtain ⟨hs, ha, hp, hv⟩ := h
  exact ⟨hs, ha, hp, hv, hother⟩

theorem State.otherTiles_setT (s : State) (t : Nat) (x : TileSt) : s.otherTiles (s.setT t x) t :=
  fun n hn => s.tile_setT_other t n x hn

/-- A state whose tiles are those of `s` with tile `t` changed outside its registers. -/
theorem State.registersSame_setT {x : TileSt} (hu : u.tiles = (s.setT t x).tiles) (h : x.registers = (s.tile t).registers) :
    s.registersSame u t := by
  have htile := State.tile_of_tiles hu
  refine State.registersSame_of ?_ fun n hn => (htile n).trans (s.otherTiles_setT t x n hn)
  rw [htile, s.tile_setT_same, h]

theorem State.otherTiles.trans (h : s.otherTiles v t) (k : v.otherTiles u t) : s.otherTiles u t :=
  fun n hn => (k n hn).trans (h n hn)

theorem State.memSame.trans (h : s.memSame v) (k : v.memSame u) : s.memSame u := by
  obtain ⟨h1, h2, h3, h4, h5⟩ := h
  obtain ⟨k1, k2, k3, k4, k5⟩ := k
  exact ⟨k1.trans h1, k2.trans h2, k3.trans h3, k4.trans h4, k5.trans h5⟩

end

/-! ### A tile halts, an exception is recorded (05 R172-R174, 06 R194) -/

section
variable (s : State) (t i : Nat)

theorem State.haltTile_tile_same : ((s.haltTile t).tile t).run = .halted := by simp [State.haltTile, TileSt.halt]

theorem State.haltTile_tile_other (n : Nat) (h : n ≠ t) : (s.haltTile t).tile n = s.tile n := s.tile_setT_other t n _ h

@[simp] theorem State.haltTile_out : (s.haltTile t).out = s.out := rfl

@[simp] theorem State.updRun_out (f : RunState → RunState) : (s.updRun i f).out = s.out := by
  unfold State.updRun
  split <;> rfl

theorem State.findRun_updRun {f : RunState → RunState} {r : RunState} (h : s.findRun i = some r) :
    (s.updRun i f).findRun i = some (f r) := by
  unfold State.findRun at *
  simp [State.updRun, h]

@[simp] theorem State.findOp_updRun (j : Nat) (f : RunState → RunState) : (s.updRun i f).findOp j = s.findOp j := by
  simp [State.findOp]

/-- Recording an exception takes back nothing that has left the module. -/
theorem State.recordExc_out (code queue index addr : Nat) : s.out ⊆ (s.recordExc i t code queue index addr).out := by
  unfold State.recordExc
  split
  · dsimp only
    repeat' split
    all_goals simp [State.emit]
  · exact List.Subset.refl _

theorem State.blockAbort_out : s.out ⊆ (s.blockAbort i t).out := by
  unfold State.blockAbort
  split
  · split
    · exact List.Subset.refl _
    · exact List.foldlRecOn _ _ (motive := fun u : State => s.out ⊆ u.out) (List.Subset.refl _)
        fun u hu n _ => List.Subset.trans hu ((u.haltTile n).recordExc_out _ _ _ _ _ _)
  · exact List.Subset.refl _

/-- A block abort halts other tiles only. -/
theorem State.blockAbort_tile_same : (s.blockAbort i t).tile t = s.tile t := by
  unfold State.blockAbort
  split
  · split
    · rfl
    · refine List.foldlRecOn _ _ (motive := fun u : State => u.tile t = s.tile t) rfl fun u hu n hn => ?_
      have hne : t ≠ n := by
        have := List.of_mem_filter hn
        simp only [Bool.and_eq_true, decide_eq_true_eq] at this
        exact this.1.symm
      rw [State.tile_of_tiles (v := u.haltTile n) (by simp), State.haltTile_tile_other _ _ _ hne, hu]
  · rfl

@[simp] theorem State.checkRun_out : (s.checkRun i).out = s.out := by
  unfold State.checkRun
  split
  · dsimp only
    split
    · split <;> rfl
    · rfl
  · rfl

/-- A tile that raises an exception halts (06 R194). -/
theorem State.raise_halts (e : Exc) : ((s.raise t e).tile t).run = .halted := by
  unfold State.raise
  dsimp only
  rw [State.tile_of_tiles (State.checkRun_keeps _ _).2.2.2.2.2.2.2.1, State.blockAbort_tile_same, State.haltTile_tile_same]

theorem State.raise_memSame (e : Exc) : s.memSame (s.raise t e) := by simp [State.memSame]

/-- An exception leaves its record in the host's buffer while there is room (05 R174). -/
theorem State.raise_records (e : Exc) {r : RunState} {o : Op} (hr : s.findRun (s.tile t).op = some r)
    (ho : s.findOp (s.tile t).op = some o) (hroom : r.records < r.excMax) :
    Output.hostWrite (.vf (Fin.ofNat 12 o.part)) (r.excAddr + 32 * r.records) (excRecord t e.code e.queue e.index e.addr 0 s.tick) ∈
      (s.raise t e).out := by
  unfold State.raise
  rw [State.checkRun_out]
  refine State.blockAbort_out _ _ _ ?_
  rw [State.haltTile_out]
  have hmax : r.excMax ≠ 0 := by omega
  simp [State.recordExc, State.findRun_updRun s _ hr, ho, hmax, hroom, State.emit, State.tick]

end

/-! ### Counters of a region's faults (05 R161, 18 R558, T18.2) -/

/-- The counters of SRAM errors and of parity errors. -/
def RegionFaults.counts (f : RegionFaults) := (f.sramCe, f.sramUe, f.tileLogic)

section
variable (s : State) (r i : Nat)

theorem State.rg_updR_field {α : Type} (f : Region → Region) (p : Region → α) (h : ∀ g, p (f g) = p g) :
    p ((s.updR r f).rg i) = p (s.rg i) :=
  s.rg_updR_keeps r i f (fun g => p g = p (s.rg i)) ((h _).trans ·) rfl

theorem State.postRegion_counts (code data : Nat) : ((s.postRegion r code data).rg i).flt.counts = (s.rg i).flt.counts := by
  unfold State.postRegion
  split
  · exact s.rg_updR_field r i _ (fun g => g.flt.counts) fun _ => rfl
  · exact congrArg (fun l => (tget (Region.reset i) l i).flt.counts) (s.postModule_rgn ..)

theorem State.addRecord_counts (kind : Nat) (tile : Option (Nat × Nat)) (addr : Nat) :
    ((s.addRecord r kind tile addr).rg i).flt.counts = (s.rg i).flt.counts := by
  unfold State.addRecord
  dsimp only
  have hrecord := fun f h => s.rg_updR_field r i f (fun g => g.flt.counts) h
  split
  · rw [State.postRegion_counts]
    refine hrecord _ fun g => ?_
    repeat' split
    all_goals rfl
  · refine hrecord _ fun g => ?_
    repeat' split
    all_goals rfl

theorem State.addKnown_counts (ij : Nat × Nat) (row : Nat) : ((s.addKnown r ij row).rg i).flt.counts = (s.rg i).flt.counts := by
  unfold State.addKnown
  dsimp only
  split
  · rfl
  · rw [State.postRegion_counts, State.addRecord_counts]
    exact State.rg_updR_field s r i (fun x => { x with place := _ }) (fun g => g.flt.counts) fun _ => rfl

/-- A region that has noted the times of a tile's faults. -/
def Region.timed (g : Region) (key : Nat) (l : List Nat) : Region :=
  { g with flt := { g.flt with tileTimes := tset g.flt.tileTimes key l } }

/-- A fault of a tile is timed, and past its threshold the tile is a known defect (18 T18.3). -/
theorem State.tileFault_cases (t row : Nat) : ∃ l, let u := s.updR (tileRegion t) (fun g => g.timed (tileInRegion t * 4 + row) l)
    s.tileFault t row = (if row = 2 then u.addRecord (tileRegion t) 4 (some (tileIJ t)) 0 else u).addKnown (tileRegion t) (tileIJ t) row ∨
      s.tileFault t row = u :=
  ⟨_, ite_eq_or_eq _ _ _⟩

theorem State.tileFault_counts (t row : Nat) : ((s.tileFault t row).rg i).flt.counts = (s.rg i).flt.counts := by
  obtain ⟨l, h⟩ := s.tileFault_cases t row
  have htimed := s.rg_updR_field (tileRegion t) i (fun g => g.timed (tileInRegion t * 4 + row) l) (fun g => g.flt.counts) fun _ => rfl
  obtain h | h := h
  · rw [h, State.addKnown_counts, apply_ite (fun u : State => (u.rg i).flt.counts), State.addRecord_counts, ite_self, htimed]
  · rw [h, htimed]

end

end Sys2Proof.Machine
end

section
/-! PROOFS. O15: a queued instruction begins and completes; a word that is no instruction; errors that ECC and parity find (05 R154-R156, R161,
06 R185, R186, R192, R194, 18 R558). -/
namespace Sys2Proof.Machine

open Host

/-! ### The head of a queue begins (05 R156, 06 R189) -/

theorem tokHolds_iff (tok v : W16) : tokHolds tok v = true ↔ tokenMet tok v := decide_eq_true_iff

/-- The tile has read the value its queue's head waits for. -/
def State.waitRead (s : State) (t : Nat) (q : Queue) (e : QEntry) (v : W16) : State :=
  s.updT t (fun y => y.mapQueue q e.id (fun z => { z with waitV := some v }))

section
variable {s : State} {t : Nat} {q : Queue} {e : QEntry} (hrun : (s.tile t).run = .running)
  (hhead : ((s.tile t).queue q).find? (fun z => !z.begun) = some e) (hmq : q ≠ .mq)
include hrun hhead hmq

theorem State.beginHead_free (hwe : e.tok.we = false) : s.beginHead t q = s.startEntry t e := by
  simp [State.beginHead, hrun, hhead, hmq, hwe]

/-- A head that waits on a token reads the value to wait for, and begins once the token holds. -/
theorem State.beginHead_waits (hwe : e.tok.we = true) (hv : e.waitV = none) (hclean : (s.tile t).sBad e.tok.ws.toNat = false)
    (hlive : (s.tile t).abortedToken e.tok.wt = none) :
    let v : W16 := ((s.tile t).sGet e.tok.ws.toNat).setWidth 16
    s.beginHead t q = if tokenMet ((s.tile t).tokGet e.tok.wt.toNat) v then (s.waitRead t q e v).startEntry t e else s.waitRead t q e v := by
  simp only [State.beginHead, hrun, hhead, hmq, hwe, hv, hclean, hlive, tokHolds_iff]
  simp [State.waitRead]

end

/-! ### TZERO begins (06 R207) -/

theorem TileSt.accGet_zeroBank (x : TileSt) (c b m n : Nat) (hm : m < 32) (hn : n < 32) :
    (x.zeroBank c).accGet b m n = if b = c then {} else x.accGet b m n := by
  have hbank : accKey b m n / 1024 = b := by unfold accKey; omega
  rw [TileSt.accGet, TileSt.zeroBank, tget_filter_key _ (fun j => decide (j / 1024 ≠ c)), hbank]
  by_cases h : b = c <;> simp [h, TileSt.accGet]

/-- The tile with the banks of a mask set to 0. -/
def TileSt.zeroed (x : TileSt) (mask : BitVec 4) : TileSt := (maskBanks mask).foldl (fun y b => y.zeroBank b) x

theorem TileSt.accGet_foldl_zeroBank (l : List Nat) (x : TileSt) (b m n : Nat) (hm : m < 32) (hn : n < 32) :
    (l.foldl (fun y c => y.zeroBank c) x).accGet b m n = if b ∈ l then {} else x.accGet b m n := by
  induction l generalizing x with
  | nil => simp
  | cons c l ih =>
    rw [List.foldl_cons, ih, TileSt.accGet_zeroBank x c b m n hm hn]
    by_cases hl : b ∈ l <;> by_cases hc : b = c <;> simp [hl, hc]

theorem TileSt.accGet_zeroed (x : TileSt) (mask : BitVec 4) (b m n : Nat) (hb : b < 4) (hm : m < 32) (hn : n < 32) :
    (x.zeroed mask).accGet b m n = if mask.getLsbD b then {} else x.accGet b m n := by
  rw [TileSt.zeroed, TileSt.accGet_foldl_zeroBank _ _ _ _ _ hm hn]
  simp [maskBanks, hb]

/-- TZERO changes the banks and their poison only. -/
theorem TileSt.zeroed_keeps {α : Type} (f : TileSt → α) (x : TileSt) (mask : BitVec 4) (h : ∀ y b, f (y.zeroBank b) = f y) :
    f (x.zeroed mask) = f x := foldl_keep f _ _ _ h

/-- An entry that has begun with these flags. -/
def QEntry.begins (e : QEntry) (fl : Fl) : QEntry := { e with begun := true, flags := fl, xfer := none }

/-- An instruction that begins with its effect done, and is no transfer, stands begun in its queue. -/
theorem State.startEntry_done {s v : State} {t : Nat} {e : QEntry} {fl : Fl} (hrun : s.runOp t e = .done v fl none) (hq : e.op.queue ≠ .sq) :
    (s.startEntry t e).tiles = (v.setT t ((v.tile t).mapQueue e.op.queue e.id (fun z => z.begins fl))).tiles ∧ v.memSame (s.startEntry t e) := by
  have hbegun : v.updT t (fun y => { y.mapQueue e.op.queue e.id (fun z => { z with begun := true, flags := fl, xfer := none }) with
      hashStall := if e.op.queue = .sq then false else y.hashStall }) =
      v.setT t ((v.tile t).mapQueue e.op.queue e.id (fun z => z.begins fl)) := by
    simp only [if_neg hq]
    cases e.op.queue <;> rfl
  unfold State.startEntry
  rw [hrun]
  dsimp only
  rw [hbegun]
  simp only [Option.isSome_none, Bool.false_eq_true, if_false]
  split <;> simp [State.memSame]

/-- TZERO begins: its banks are 0. -/
theorem State.startEntry_tzero (s : State) (t : Nat) {e : QEntry} {mask : BitVec 4} (hop : e.op = .tzero mask) :
    (s.startEntry t e).tiles = (s.setT t (((s.tile t).zeroed mask).mapQueue .tq e.id (fun z => z.begins 0))).tiles ∧
      s.memSame (s.startEntry t e) := by
  have hqueue : e.op.queue = .tq := by rw [hop]; rfl
  have hrun : s.runOp t e = .done (s.setT t ((s.tile t).zeroed mask)) 0 none := by simp only [State.runOp, hop]; rfl
  have hdone := State.startEntry_done hrun (by rw [hqueue]; decide)
  rwa [hqueue, s.tile_setT_same, s.setT_setT] at hdone

/-- TZERO begins on a tile whose TQ entries may have read what they wait for. -/
theorem State.startEntry_tzeroes {s v : State} {t : Nat} {e : QEntry} {mask : BitVec 4} {f : QEntry → QEntry} (hop : e.op = .tzero mask)
    (hv : v.tile t = { s.tile t with tq := (s.tile t).tq.map f }) (hother : s.otherTiles v t) (hmem : s.memSame v) :
    let u := v.startEntry t e
    (∀ b m n, b < 4 → m < 32 → n < 32 → (u.tile t).accGet b m n = if mask.getLsbD b then {} else (s.tile t).accGet b m n) ∧
      (∀ z ∈ (u.tile t).tq, z.id = e.id → z.begun = true) ∧ (u.tile t).tq.length = (s.tile t).tq.length ∧ s.registersSame u t ∧ s.memSame u := by
  obtain ⟨htiles, hstart⟩ := v.startEntry_tzero t hop
  generalize v.startEntry t e = u at htiles hstart
  have htile : u.tile t = ((v.tile t).zeroed mask).mapQueue .tq e.id (fun z => z.begins 0) :=
    (State.tile_of_tiles htiles t).trans (v.tile_setT_same t _)
  have htq : (u.tile t).tq = ((s.tile t).tq.map f).map (fun z => if z.id = e.id then z.begins 0 else z) := by
    rw [htile]
    exact congrArg (List.map _) ((TileSt.zeroed_keeps TileSt.tq _ mask fun _ _ => rfl).trans (congrArg TileSt.tq hv))
  have hregisters : (u.tile t).registers = (s.tile t).registers := by
    rw [htile]
    exact (TileSt.zeroed_keeps TileSt.registers _ mask fun _ _ => rfl).trans (by rw [hv]; rfl)
  refine ⟨fun b m n hb hm hn => ?_, fun z hz hze => ?_, by rw [htq, List.length_map, List.length_map],
    State.registersSame_of hregisters (hother.trans fun n hn => ?_), hmem.trans hstart⟩
  · rw [htile]
    refine (TileSt.accGet_zeroed (v.tile t) mask b m n hb hm hn).trans ?_
    rw [hv]
    rfl
  · rw [htq] at hz
    obtain ⟨z', -, rfl⟩ := List.mem_map.1 hz
    split at hze
    · next h => rw [if_pos h]; rfl
    · next h => exact absurd hze h
  · exact (State.tile_of_tiles htiles n).trans (v.tile_setT_other t n _ hn)

/-- A TZERO at the head of TQ begins once its token condition holds. -/
theorem queueBegin_tzero {s : State} {t : Tile} {mask : BitVec 4} {e : QEntry} (hrun : (s.tile t).run = .running)
    (hhead : (s.tile t).tq.find? (fun z => !z.begun) = some e) (hop : e.op = .tzero mask)
    (hwait : e.tok.we = true → (s.tile t).sBad e.tok.ws.toNat = false ∧ (s.tile t).abortedToken e.tok.wt = none ∧ e.waitV = none ∧
      tokenMet ((s.tile t).tokGet e.tok.wt.toNat) (((s.tile t).sGet e.tok.ws.toNat).setWidth 16)) :
    Completes (.queueBegin t .tq) s (fun u =>
      (∀ b m n, b < 4 → m < 32 → n < 32 → (u.tile t).accGet b m n = if mask.getLsbD b then {} else (s.tile t).accGet b m n) ∧
      (∀ z ∈ (u.tile t).tq, z.id = e.id → z.begun = true) ∧ (u.tile t).tq.length = (s.tile t).tq.length ∧ s.registersSame u t ∧ s.memSame u) := by
  cases hwe : e.tok.we with
  | false =>
    exact ⟨_, congrArg Outcome.next (State.beginHead_free (q := .tq) hrun hhead (by decide) hwe),
      State.startEntry_tzeroes (f := id) hop (by rw [List.map_id]) (fun _ _ => rfl) ⟨rfl, rfl, rfl, rfl, rfl⟩⟩
  | true =>
    obtain ⟨hclean, hlive, hv, hmet⟩ := hwait hwe
    exact ⟨_, congrArg Outcome.next ((State.beginHead_waits (q := .tq) hrun hhead (by decide) hwe hv hclean hlive).trans (if_pos hmet)),
      State.startEntry_tzeroes hop (s.tile_updT_same t _) (s.otherTiles_setT t _) ⟨rfl, rfl, rfl, rfl, rfl⟩⟩

/-! ### A queued instruction completes (05 R156, 06 R192) -/

/-- The tile without an entry of one of its queues, the entry's flags in FSTAT. -/
def TileSt.leaves (x : TileSt) (q : Queue) (e : QEntry) : TileSt :=
  let y := x.setQueue q ((x.queue q).filter (fun z => z.id != e.id))
  { y with fstat := y.fstat ||| e.flags }

/-- The tile as an entry of one of its queues completes. -/
def TileSt.completes (x : TileSt) (q : Queue) (e : QEntry) : TileSt :=
  if e.tok.de then (x.leaves q e).tokInc e.tok.dt.toNat 1 else x.leaves q e

section
variable (x : TileSt) (q : Queue) (e : QEntry)

theorem TileSt.leaves_queue : (x.leaves q e).queue q = (x.queue q).filter (fun z => z.id != e.id) := by cases q <;> rfl
theorem TileSt.leaves_fstat : (x.leaves q e).fstat = x.fstat ||| e.flags := by cases q <;> rfl
theorem TileSt.leaves_rest : (x.leaves q e).registers = x.registers ∧ (x.leaves q e).acc = x.acc ∧ (x.leaves q e).tok = x.tok := by
  cases q <;> exact ⟨rfl, rfl, rfl⟩

/-- A token alone changes with the done token. -/
theorem TileSt.completes_leaves : ∃ k, x.completes q e = { x.leaves q e with tok := k } := by
  unfold TileSt.completes
  split
  · exact ⟨_, rfl⟩
  · exact ⟨_, rfl⟩

theorem TileSt.tokGet_tokInc (k n j : Nat) : (x.tokInc k n).tokGet j = x.tokGet j + if j = k then BitVec.ofNat 16 n else 0 := by
  unfold TileSt.tokInc TileSt.tokGet
  by_cases h : j = k
  · subst h
    simp
  · simp [tget_tset_other _ _ _ _ _ h, h]

theorem TileSt.completes_tokGet (j : Nat) :
    (x.completes q e).tokGet j = x.tokGet j + if e.tok.de = true ∧ j = e.tok.dt.toNat then 1 else 0 := by
  obtain ⟨-, -, htok⟩ := x.leaves_rest q e
  have hleaves : (x.leaves q e).tokGet j = x.tokGet j := congrArg (tget 0 · j) htok
  unfold TileSt.completes
  split
  · next hde => rw [TileSt.tokGet_tokInc, hleaves]; simp [hde]
  · next hde => simp [hleaves, hde]

end

/-- The n-th instruction that has begun, not a transfer, completes. -/
theorem instructionComplete_frees {s : State} {t : Tile} {q : Queue} {n : Nat} {e : QEntry}
    (he : (((s.tile t).queue q).filter (fun z => z.begun))[n]? = some e) (hxfer : e.xfer = none) :
    Completes (.instructionComplete t q n) s (fun u =>
      (u.tile t).queue q = ((s.tile t).queue q).filter (fun z => z.id != e.id) ∧ (u.tile t).fstat = (s.tile t).fstat ||| e.flags ∧
      (∀ j, (u.tile t).tokGet j = (s.tile t).tokGet j + (if e.tok.de = true ∧ j = e.tok.dt.toNat then 1 else 0)) ∧
      s.registersSame u t ∧ (u.tile t).acc = (s.tile t).acc ∧ s.memSame u) := by
  have hexec : exec (.instructionComplete t q n) s = .next ((s.setT t ((s.tile t).completes q e)).checkRun (s.tile t).op) := by
    refine congrArg Outcome.next ?_
    unfold State.completeEntry
    simp only [he, hxfer]
    rfl
  have htiles : ((s.setT t ((s.tile t).completes q e)).checkRun (s.tile t).op).tiles = (s.setT t ((s.tile t).completes q e)).tiles := by simp
  have htile := (State.tile_of_tiles htiles t).trans (s.tile_setT_same t _)
  obtain ⟨hregisters, hacc, -⟩ := (s.tile t).leaves_rest q e
  obtain ⟨k, hk⟩ := (s.tile t).completes_leaves q e
  refine ⟨_, hexec, ?_, ?_, fun j => ?_, State.registersSame_setT htiles ?_, ?_, by simp [State.memSame]⟩
  · rw [htile, hk, ← TileSt.leaves_queue]
    cases q <;> rfl
  · rw [htile, hk, ← TileSt.leaves_fstat]
  · rw [htile, TileSt.completes_tokGet]
  · rw [hk, ← hregisters]
    rfl
  · rw [htile, hk, ← hacc]

/-! ### Words that are no instruction (06 R185, R186) -/

theorem illegalInstruction_raises {s : State} {t : Tile} {word : W64} (hrun : (s.tile t).run = .running) (hhold : (s.tile t).hold = none)
    (hbad : (s.tile t).progCount ≤ (s.tile t).index ∨ legalWord word = false) :
    exec (.illegalInstruction t word) s = .next (s.raise t { code := 1, queue := 0, index := (s.tile t).index, addr := 0 }) := by
  refine congrArg Outcome.next ((if_neg (by simp [hrun, hhold])).trans (if_neg ?_))
  · rintro ⟨hindex, hlegal⟩
    exact hbad.elim (fun h => by omega) fun h => by simp [h] at hlegal

/-! ### ECC and parity (05 R161, 18 R558) -/

/-- A region with its fault counters updated. -/
def Region.updFlt (g : Region) (f : RegionFaults → RegionFaults) : Region := { g with flt := f g.flt }

/-- What a fault counts in its region stands while the fault is recorded and timed. -/
theorem State.countedFault_counts {s v : State} {r : Nat} {f : RegionFaults → RegionFaults} (hv : v.rgn = (s.updR r (fun g => g.updFlt f)).rgn)
    (kind addr t row : Nat) (tile : Option (Nat × Nat)) :
    (((v.addRecord r kind tile addr).tileFault t row).rg r).flt.counts = (f (s.rg r).flt).counts := by
  have hcounted : v.rg r = (s.rg r).updFlt f := by rw [State.rg, hv, ← State.rg, State.rg_updR_same]
  rw [State.tileFault_counts, State.addRecord_counts, hcounted]
  rfl

section
variable {s : State} {t : Tile} (hready : (s.rg (tileRegion t)).state = .ready)
include hready

theorem eccScrub_none (w : Fin 98304) : exec (.eccScrub t w .none) s = .next s := congrArg Outcome.next (if_pos hready)

theorem eccScrub_single (w : Fin 98304) : Completes (.eccScrub t w .single) s (fun u =>
    (u.rg (tileRegion t)).flt.sramCe = (s.rg (tileRegion t)).flt.sramCe + 1 ∧ s.memSame u ∧ u.tiles = s.tiles) := by
  refine ⟨_, congrArg Outcome.next (if_pos hready), ?_, by simp [State.memSame, State.sramEcc], by simp⟩
  have hcounts := (s.updR (tileRegion t) fun g => g.updFlt fun x => { x with sramCe := x.sramCe + 1 }).tileFault_counts (tileRegion t) t 2
  rw [State.rg_updR_same] at hcounts
  exact (Prod.mk.inj hcounts).1

theorem eccScrub_double (w : Fin 98304) : Completes (.eccScrub t w .double) s (fun u => u.gst t (8 * w.val / 256) = .poisoned ∧
    (u.rg (tileRegion t)).flt.sramUe = satInc (s.rg (tileRegion t)).flt.sramUe ∧ u.sram = s.sram ∧ u.slices = s.slices ∧ u.tiles = s.tiles) := by
  refine ⟨_, congrArg Outcome.next (if_pos hready), by simp [State.gst, State.sramEcc, State.setGst], ?_, by simp, by simp, by simp⟩
  have hcounts := State.countedFault_counts (s := s) (r := tileRegion t)
    (v := (s.updR (tileRegion t) fun g => g.updFlt fun x => { x with sramUe := satInc x.sramUe }).setGst t (8 * w.val / 256) .poisoned)
    (f := fun x => { x with sramUe := satInc x.sramUe }) rfl 1 (8 * w.val) t 1 (some (tileIJ t))
  exact (Prod.mk.inj (Prod.mk.inj hcounts).2).1

/-- A parity error does what its unit asks, then counts (18 R558). -/
theorem tileParityError_counts (p : ParityUnit) : Completes (.tileParityError t p) s (fun u => u.tiles = (s.parity t p).tiles ∧
    (s.parity t p).memSame u ∧ ((s.parity t p).rgn = s.rgn →
      (u.rg (tileRegion t)).flt.tileLogic = satInc (s.rg (tileRegion t)).flt.tileLogic)) := by
  refine ⟨_, congrArg Outcome.next (if_pos hready), by simp, by simp [State.memSame], fun hrgn => ?_⟩
  have hcounts := State.countedFault_counts (s := s.parity t p) (r := tileRegion t) (v := _)
    (f := fun x => { x with tileLogic := satInc x.tileLogic }) rfl 3 0 t 0 (some (tileIJ t))
  rw [show (s.parity t p).rg _ = s.rg _ from congrArg (fun l => tget (Region.reset _) l _) hrgn] at hcounts
  exact (Prod.mk.inj (Prod.mk.inj hcounts).2).2

/-- A parity error in a register or a bank changes its tile alone. -/
theorem tileParityError_poisons (p : ParityUnit) (f : TileSt → TileSt) (hp : s.parity t p = s.updT t f) :
    Completes (.tileParityError t p) s (fun u => u.tile t = f (s.tile t) ∧
      (u.rg (tileRegion t)).flt.tileLogic = satInc (s.rg (tileRegion t)).flt.tileLogic ∧ s.memSame u ∧ s.otherTiles u t) := by
  obtain ⟨u, hexec, htiles, hmem, hcount⟩ := tileParityError_counts hready p
  rw [hp] at htiles hmem hcount
  have htile := State.tile_of_tiles htiles
  exact ⟨u, hexec, (htile t).trans (s.tile_updT_same t f), hcount rfl, hmem,
    fun n hn => (htile n).trans (s.otherTiles_setT t _ n hn)⟩

theorem tileParityError_halts (hrun : (s.tile t).run = .running) :
    Completes (.tileParityError t .scoreboard) s (fun u => (u.tile t).run = .halted ∧ s.memSame u) := by
  obtain ⟨u, hexec, htiles, hmem, -⟩ := tileParityError_counts hready .scoreboard
  have htrap : s.parity t .scoreboard = s.raise t _ := if_pos hrun
  rw [htrap] at htiles hmem
  exact ⟨u, hexec, by rw [State.tile_of_tiles htiles, State.raise_halts], (s.raise_memSame t _).trans hmem⟩

end

theorem withBit_true {w : Nat} (x : BitVec w) (k : Nat) : withBit x k true = x ||| (1 : BitVec w) <<< k := by
  rw [withBit, if_pos rfl, BitVec.twoPow_eq]
  rfl

/-- Settles O15: a head that waits and one that begins, a completion, a word that is no instruction, ECC, parity unit by unit. -/
theorem queuesFinishAndFaultsPoison : Obligations.QueuesFinishAndFaultsPoison := by
  unfold Obligations.QueuesFinishAndFaultsPoison
  intro s t
  refine ⟨fun q e hrun hhead hmq hwe hv hclean hlive hunmet => ?_, fun mask e hrun hhead hop hwait => queueBegin_tzero hrun hhead hop hwait,
    fun q n e he hxfer => instructionComplete_frees he hxfer, fun word hrun hhold hbad => ?_,
    fun w hready => ⟨eccScrub_none hready w, eccScrub_single hready w, eccScrub_double hready w⟩,
    fun hready => ⟨fun n => ?_, fun n => ?_, fun n => ?_, fun n => ?_, fun n => ?_, tileParityError_halts hready⟩⟩
  · exact congrArg Outcome.next ((State.beginHead_waits hrun hhead hmq hwe hv hclean hlive).trans (if_neg hunmet))
  · refine ⟨_, illegalInstruction_raises hrun hhold hbad, s.raise_halts t _, s.raise_memSame t _, fun r o hr ho hroom => ?_⟩
    exact s.raise_records t _ hr ho hroom
  · rw [← withBit_true]
    exact tileParityError_poisons hready (.scalar n) (fun x => { x with sPoison := withBit x.sPoison n.toNat true }) rfl
  · rw [← withBit_true]
    exact tileParityError_poisons hready (.address n) (fun x => { x with aPoison := withBit x.aPoison n.toNat true }) rfl
  · obtain ⟨u, hexec, htile, hcounted⟩ := tileParityError_poisons hready (.vector n) (fun x => { x with vPoison := tset x.vPoison n.toNat (BitVec.allOnes 64) }) rfl
    refine ⟨u, hexec, ?_, fun r hr => ?_, ?_, hcounted⟩
    · rw [htile]
      exact tget_tset_same _ _ _ _
    · rw [htile]
      exact tget_tset_other _ _ _ _ _ hr
    · rw [htile]
  · rw [← withBit_true]
    exact tileParityError_poisons hready (.predicate n) (fun x => { x with pPoison := withBit x.pPoison n.toNat true }) rfl
  · rw [← withBit_true]
    exact tileParityError_poisons hready (.bank n) (fun x => { x with accPoison := withBit x.accPoison n.toNat true }) rfl

end Sys2Proof.Machine
end

section
/-! PROOFS. O16: what the records of a stream do at a tile: OPEN and GRAD_OPEN, a granule, the end marker, a gradient index (05 R175-R181,
09 R299-R302, 11 R366-R370). -/
namespace Sys2Proof.Machine

open Host

/-! ### Instances (09 R299) -/

section
variable {s : State} {i : Nat} {x : Inst}

theorem State.findInst_updInst {f : Inst → Inst} (hfind : s.findInst i = some x) (hid : ∀ y, (f y).id = y.id) :
    (s.updInst i f).findInst i = some (f x) := find?_map_update Inst.id hid hfind

theorem State.updInst_self (s : State) (i : Nat) : s.updInst i (fun y => y) = s := by
  simp [State.updInst]

/-- An instance that a tile has taken records of up to `k`. -/
def Inst.advance (x : Inst) (t k : Nat) : Inst := { x with prog := tset x.prog t k }

theorem Inst.progOf_advance (x : Inst) (t k : Nat) : (x.advance t k).progOf t = k := tget_tset_same _ _ _ _

/-- Nothing is marked where no mark was made. -/
theorem Inst.marked_nil (x : Inst) (g n t : Nat) : x.marked [] g n t = false := by
  induction n generalizing t with
  | zero => rfl
  | succ n ih =>
    unfold Inst.marked
    split
    · exact ih _
    · rfl

end

/-! ### OPEN and GRAD_OPEN (05 R176, R179) -/

/-- The tile's taps that are ARMED for the stream of an instance attach to it. -/
def TileSt.opens (u : TileSt) (x : Inst) (i : Nat) : TileSt :=
  { u with taps := u.taps.map (fun (p : Nat × Tap) =>
      if p.2.state = .armed ∧ p.2.stream.toNat = x.stream then (p.1, { p.2 with state := .attached, gen := x.gen, slot := x.slot, seen := true, inst := i })
      else p) }

/-- The tile's egress entries that are ARMED for the stream of an instance attach to it. -/
def TileSt.opensEgress (u : TileSt) (x : Inst) (i : Nat) : TileSt :=
  { u with egress := u.egress.map (fun (p : Nat × Egress) =>
      if p.2.state = .armed ∧ p.2.stream.toNat = x.stream then (p.1, { p.2 with state := .attached, inst := i }) else p) }

section
variable {s : State} {t : Tile} {i : Nat} {x : Inst} (hfind : s.findInst i = some x) (hhas : x.has t = true)
include hfind hhas

theorem streamOpenArrive_attaches (hweight : x.gradient = false) (hfirst : x.progOf t = 0) (hreached : x.reached t 1 = true) :
    exec (.streamOpenArrive t i) s = .next ((s.updInst i (fun y => y.advance t 1)).updT t (fun u => u.opens x i)) := by
  refine congrArg Outcome.next ?_
  unfold State.openArrive
  simp only [hfind]
  exact if_neg (by simp [hweight, hhas, hfirst, hreached])

theorem gradOpenArrive_attaches (hgrad : x.gradient = true) (hfirst : x.progOf t = 0) (hreached : x.reached t 1 = true)
    (hred : ∀ p ∈ (s.tile t).egress, p.2.state = .armed → p.2.stream.toNat = x.stream → p.2.red = x.seg.red) :
    exec (.gradOpenArrive t i) s = .next ((s.updInst i (fun y => y.advance t 1)).updT t (fun u => u.opensEgress x i)) := by
  refine congrArg Outcome.next ?_
  have hagrees : (s.tile t).egress.any (fun p => (p.2.state == .armed && decide (p.2.stream.toNat = x.stream)) &&
      decide (p.2.red ≠ x.seg.red)) = false := by
    simp only [List.any_eq_false, Bool.and_eq_true, beq_iff_eq, decide_eq_true_eq, not_and, not_not, and_imp]
    exact fun p hp harmed hstream => hred p hp harmed hstream
  unfold State.gradOpenArrive
  simp only [hfind]
  refine (if_neg (by simp [hgrad, hhas, hfirst, hreached])).trans ((if_neg (ne_true_of_eq_false hagrees)).trans ?_)
  simp [TileSt.opensEgress, Inst.advance]

omit hhas in
/-- What an OPEN record leaves: the tile has taken it, and its registers and the memories are as they were. -/
theorem State.opened_frame (f : TileSt → TileSt) (hf : (f (s.tile t)).registers = (s.tile t).registers) :
    let u := (s.updInst i (fun y => y.advance t 1)).updT t f
    (∃ y, u.findInst i = some y ∧ y.progOf t = 1) ∧ s.registersSame u t ∧ s.memSame u ∧ u.tile t = f (s.tile t) :=
  ⟨⟨_, State.findInst_updInst hfind fun _ => rfl, x.progOf_advance t 1⟩, State.registersSame_setT rfl hf, ⟨rfl, rfl, rfl, rfl, rfl⟩,
    s.tile_setT_same t _⟩

end

/-! ### A granule of a weight stream (05 R176, R177, 09 R301) -/

theorem State.gst_setGst_same (s : State) (t g : Nat) (v : GState) : (s.setGst t g v).gst t g = v := by
  unfold State.setGst State.gst
  by_cases h : v = .local' <;> simp [h]

/-- A whole granule put into SRAM keeps the state it came with (05 R164). -/
theorem State.sramPut_whole (s : State) {t a : Nat} {p : Piece} (ha : a % 256 = 0) (hp : p.data.length = 256) :
    s.sramPut t a p = ({ s with sram := s.sram.writeN (sramKey t a) p.data }).setGst t (a / 256) p.st :=
  if_pos (by simp [wholeAt, ha, hp])

theorem State.sramPut_granule (s : State) {t a : Nat} {p : Piece} (ha : a % 256 = 0) (hp : p.data.length = 256) :
    (s.sramPut t a p).sramBytes t a 256 = p.data ∧ (s.sramPut t a p).gst t (a / 256) = p.st ∧ (s.sramPut t a p).insts = s.insts := by
  rw [s.sramPut_whole ha hp]
  refine ⟨?_, State.gst_setGst_same _ _ _ _, rfl⟩
  rw [← hp]
  exact Memory.readN_writeN_same _ _ _

/-- The tile after tap `k`, whose entry was `e`, has taken a granule into its ring. -/
def TileSt.tapTakes (z : TileSt) (k : Nat) (e : Tap) : TileSt :=
  (z.setTap k { e with tail := e.tail + 1, fill := e.fill + 1, count := satInc e.count }).tokInc e.token.toNat 1

section
variable {s : State} {t : Tile} {i : Nat} {x : Inst} {g k : Nat} {e : Tap} {p : Piece} (hfind : s.findInst i = some x) (hhas : x.has t = true)
  (hweight : x.gradient = false) (hprog : x.progOf t = g + 1) (hg : g < x.granules) (hreached : x.reached t (g + 2) = true) (hsent : x.sent ≠ g)
  (hunit : tfind x.units g = some p) (hbad : x.bad = []) (hgap : x.gap = []) (htaps : (s.tile t).taps = [(k, e)]) (htakes : e.takes i g = true)
include hfind hhas hweight hprog hg hreached hsent hunit hbad hgap htaps htakes

/-- A granule goes into the ring of the one entry that takes it, or the tile holds the stream. -/
theorem State.granuleArrive_offers : s.granuleArrive t i .clean =
    if e.ringSize / 256 ≤ e.fill then s.updT t (fun z => z.count 6 1)
    else ((s.sramPut t (e.ringBase + (e.tail * 256) % e.ringSize) p).updT t (fun z => z.tapTakes k e)).updInst i
      (fun z => (z.advance t (g + 2)).prune) := by
  have hno : ¬ (x.gradient = true ∨ (!x.has t) = true ∨ x.progOf t = 0 ∨ x.granules < x.progOf t ∨ (!x.reached t (x.progOf t + 1)) = true) := by
    simp only [hweight, hhas, hprog, hreached]
    simp
    omega
  unfold State.granuleArrive
  simp only [hfind]
  rw [if_neg hno]
  simp only [hprog, Nat.add_sub_cancel, hsent, false_and, if_false, hfind, hunit, State.linkEcc, LinkEcc.poisons, LinkEcc.drops, Bool.false_eq_true,
    s.updInst_self, Option.getD_some, hbad, hgap, Inst.marked_nil, htaps]
  have htakers : [(k, e)].filter (fun (q : Nat × Tap) => q.2.takes i g) = [(k, e)] := by simp [htakes]
  rw [htakers]
  exact if_congr (by simp) rfl rfl

theorem streamGranuleArrive_holds (hfull : e.ringSize / 256 ≤ e.fill) :
    exec (.streamGranuleArrive t i .clean) s = .next (s.updT t (fun z => z.count 6 1)) :=
  congrArg Outcome.next ((State.granuleArrive_offers hfind hhas hweight hprog hg hreached hsent hunit hbad hgap htaps htakes).trans (if_pos hfull))

theorem streamGranuleArrive_takes (hlen : p.data.length = 256) (ha : (e.ringBase + e.tail * 256 % e.ringSize) % 256 = 0)
    (hroom : e.fill < e.ringSize / 256) :
    Completes (.streamGranuleArrive t i .clean) s (fun u =>
      u.sramBytes t (e.ringBase + e.tail * 256 % e.ringSize) 256 = p.data ∧ u.gst t ((e.ringBase + e.tail * 256 % e.ringSize) / 256) = p.st ∧
      (u.tile t).taps = [(k, { e with tail := e.tail + 1, fill := e.fill + 1, count := satInc e.count })] ∧
      (∀ j, (u.tile t).tokGet j = (s.tile t).tokGet j + (if j = e.token.toNat then 1 else 0)) ∧
      (∃ y, u.findInst i = some y ∧ y.progOf t = g + 2) ∧ s.registersSame u t ∧ u.slices = s.slices ∧ u.flash = s.flash) := by
  obtain ⟨hbytes, hstate, hinsts⟩ := s.sramPut_granule (t := t) ha hlen
  have hput : (s.sramPut t (e.ringBase + e.tail * 256 % e.ringSize) p).tiles = s.tiles := by simp
  have htiles : ((s.sramPut t (e.ringBase + e.tail * 256 % e.ringSize) p).updT t (fun z => z.tapTakes k e)).tiles =
      (s.setT t ((s.tile t).tapTakes k e)).tiles := by
    rw [State.updT_eq, State.tile_of_tiles hput]
    exact congrArg (fun l => tset l t.val _) hput
  have hu := (State.tile_of_tiles htiles t).trans (s.tile_setT_same t _)
  have hinst : ((s.sramPut t (e.ringBase + e.tail * 256 % e.ringSize) p).updT t (fun z => z.tapTakes k e)).findInst i = some x :=
    (congrArg (List.find? _) hinsts).trans hfind
  refine ⟨_, congrArg Outcome.next ((State.granuleArrive_offers hfind hhas hweight hprog hg hreached hsent hunit hbad hgap htaps htakes).trans
    (if_neg (Nat.not_le.2 hroom))), hbytes, hstate, ?_, fun j => ?_, ⟨_, State.findInst_updInst hinst fun _ => rfl, x.progOf_advance t (g + 2)⟩,
    State.registersSame_setT htiles rfl, by simp, by simp⟩
  · refine (congrArg TileSt.taps hu).trans ?_
    rw [TileSt.tapTakes, TileSt.tokInc, TileSt.setTap, htaps]
    simp [tset]
  · refine (congrArg (TileSt.tokGet · j) hu).trans ?_
    rw [TileSt.tapTakes, TileSt.tokGet_tokInc]
    rfl

end

/-! ### The end marker (05 R176) -/

/-- With nothing queued no instruction waits on an aborted stream. -/
theorem State.abortWaiters_idle {s : State} {t : Nat} (h : (s.tile t).entries = []) : s.abortWaiters t = s := by
  simp only [TileSt.entries, List.append_eq_nil_iff, and_assoc] at h
  obtain ⟨hvq, htq, hsq, hmq, hxq⟩ := h
  have hqueue : ∀ q, (s.tile t).queue q = [] := fun q => by cases q <;> assumption
  simp [State.abortWaiters, hqueue]

/-- The tile's taps attached to an instance end with its status. -/
def TileSt.endsTaps (u : TileSt) (i : Nat) (goal : EntryState) (st : Byte) : TileSt :=
  { u with taps := u.taps.map (fun (p : Nat × Tap) =>
      if p.2.state = .attached ∧ p.2.inst = i then (p.1, { p.2 with state := goal, status := st }) else p) }

section
variable {s : State} {t : Tile} {i : Nat} {x : Inst} {st : Byte} {d : W32} (hfind : s.findInst i = some x) (hhas : x.has t = true)
  (hweight : x.gradient = false) (hdrained : x.drainedAt t = true) (hend : x.endReached t = true) (hended : x.ended = some (st, d))
  (hidle : (s.tile t).entries = [])
include hfind hhas hweight hdrained hend hended hidle

/-- The marker that agrees with the instance's status ends the tile's taps of it. -/
theorem State.endArrive_ends {abort : Bool} (habort : abort = decide (st ≠ 0)) : s.endArrive t i abort =
    ((s.updInst i (fun y => { y with shut := y.shut ++ [t.val] })).updT t
      (fun u => u.endsTaps i (if abort then .aborted else .done) st)).retireInst i := by
  have hno : ¬ (x.gradient = true ∨ (!x.has t) = true ∨ (!x.drainedAt t) = true ∨ (!x.endReached t) = true ∨ abort = decide (st = 0)) := by
    rw [habort]
    by_cases hst : st = 0 <;> simp [hweight, hhas, hdrained, hend, hst]
  unfold State.endArrive
  simp only [hfind, hended]
  rw [if_neg hno, State.abortWaiters_idle, ite_self]
  · rfl
  · rw [State.tile_updT_same]
    exact hidle

omit hfind hhas hweight hdrained hend hended hidle in
/-- What an end marker leaves, beside the taps' states. -/
theorem State.ended_frame (goal : EntryState) :
    let u := ((s.updInst i (fun y => { y with shut := y.shut ++ [t.val] })).updT t (fun u => u.endsTaps i goal st)).retireInst i
    (u.tile t).taps = ((s.tile t).endsTaps i goal st).taps ∧ s.registersSame u t ∧ (u.tile t).acc = (s.tile t).acc ∧
      (u.tile t).tok = (s.tile t).tok ∧ (u.tile t).egress = (s.tile t).egress ∧ s.memSame u := by
  intro u
  have htiles : u.tiles = (s.setT t ((s.tile t).endsTaps i goal st)).tiles := by simp only [u, State.retireInst_keeps]; rfl
  have htile : u.tile t = (s.tile t).endsTaps i goal st := (State.tile_of_tiles htiles t).trans (s.tile_setT_same t _)
  rw [htile]
  exact ⟨rfl, State.registersSame_setT htiles rfl, rfl, rfl, rfl, by simp [u, State.memSame]⟩

end

/-! ### A gradient index at a tile's router (05 R179, R180, 09 R302) -/

/-- West of the entry column and at the edge of the block, no neighbour gives anything. -/
theorem Inst.inputs_edge {x : Inst} {t : Nat} (hec : tileX t < x.ec) (hx0 : tileX t ≤ x.x0) : x.inputs t = (none, none, none) := by
  have hwest : ¬ (tileX t ≤ x.ec ∧ x.x0 < tileX t) := by omega
  have heast : ¬ (x.ec ≤ tileX t ∧ tileX t < x.x1) := by omega
  have hsouth : ¬ (tileX t = x.ec ∧ x.seg.ty0 < tileY t) := by omega
  simp only [Inst.inputs, if_neg hwest, if_neg heast, if_neg hsouth]

/-- The tile after its entry `k` has forwarded index `g`, with a granule or skipped. -/
def TileSt.forwards (z : TileSt) (k g : Nat) (taken : Bool) : TileSt :=
  let y := z.setEg k ((z.eg k).forward g taken)
  if taken then y.tokInc (z.eg k).token.toNat 1 else y

theorem TileSt.forwards_eg (z : TileSt) (k g : Nat) (taken : Bool) : (z.forwards k g taken).eg k = (z.eg k).forward g taken := by
  cases taken <;> exact tget_tset_same _ _ _ _

theorem TileSt.forwards_tokGet (z : TileSt) (k g : Nat) (taken : Bool) (j : Nat) :
    (z.forwards k g taken).tokGet j = z.tokGet j + if taken = true ∧ j = (z.eg k).token.toNat then 1 else 0 := by
  have hentry : ∀ v, (z.setEg k v).tokGet j = z.tokGet j := fun _ => rfl
  cases taken with
  | false => simp [TileSt.forwards, hentry]
  | true => simp [TileSt.forwards, TileSt.tokGet_tokInc, hentry]

/-- The instance after a tile has put out what it has for index `g`. -/
def Inst.putsOut (x : Inst) (t g : Nat) (out : Option Piece) : Inst :=
  { x.advance t (g + 2) with fwd := tset x.fwd t (tset (tget [] x.fwd t) g out) }

theorem Inst.outOf_putsOut (x : Inst) (t g : Nat) (out : Option Piece) : (x.putsOut t g out).outOf t g = some out := by
  simp [Inst.putsOut, Inst.outOf]

theorem State.sentPoison_insts (s : State) (t off : Nat) : (s.sentPoison t off).insts = s.insts := by
  unfold State.sentPoison State.updRun
  split <;> rfl

theorem combine_none_left (red : Nat) (free : Piece) (y : Option Piece) : combine red free none y = y := by cases y <;> rfl

theorem TileSt.goneGranule_nil {u : TileSt} (h : u.gone = []) (i g : Nat) : u.goneGranule i g = none := by simp [TileSt.goneGranule, h]

section
variable {s : State} {t : Tile} {i g k : Nat} {x : Inst} {e : Egress} {r : EgRun} (hegress : (s.tile t).egress = [(k, e)])
  (hatt : e.state = .attached) (hinst : e.inst = i) (hfirst : e.first ≤ g) (hlast : g ≤ e.last) (hnext : g < e.next) (hrun : e.runOf g = some r)
include hegress hatt hinst hfirst hlast hnext hrun

theorem State.localGranule_contributed : s.localGranule t i g =
    if r.skip then .nothing (some k) else .granule k (compressed e.comp (s.sramPiece t (e.slotAddr 0) 256)) := by
  have hcovers : [(k, e)].find? (fun (p : Nat × Egress) => p.2.state == .attached && decide (p.2.inst = i) && decide (p.2.first ≤ g) &&
      decide (g ≤ p.2.last)) = some (k, e) := by simp [hatt, hinst, hfirst, hlast]
  unfold State.localGranule
  simp only [hegress, hcovers, hrun]
  exact if_neg (Nat.not_le.2 hnext)

variable (hfind : s.findInst i = some x) (hhas : x.has t = true) (hgrad : x.gradient = true) (hprog : x.progOf t = g + 1) (hg : g < x.granules)
  (hfailed : x.failed = none) (hec : tileX t < x.ec) (hx0 : tileX t ≤ x.x0) (hgone : (s.tile t).gone = [])
include hfind hhas hgrad hprog hg hfailed hec hx0 hgone

/-- The router puts out the tile's own granule, or passes on a skipped index. -/
theorem State.gradArrive_putsOut : ∃ v, s.gradArrive t i .clean = (v.takeFree 1).updInst i (fun y => y.putsOut t g
      (if r.skip then none else some (compressed e.comp (s.sramPiece t (e.slotAddr 0) 256)))) ∧
    v.tiles = (s.setT t ((s.tile t).forwards k g (!r.skip))).tiles ∧ v.insts = s.insts ∧ s.memSame v := by
  have hno : ¬ ((!x.gradient) = true ∨ (!x.has t) = true ∨ x.progOf t = 0 ∨ x.granules ≤ g ∨ x.failed.isSome = true) := by
    simp [hgrad, hhas, hprog, hfailed]
    omega
  have hlocal := State.localGranule_contributed hegress hatt hinst hfirst hlast hnext hrun
  unfold State.gradArrive
  simp only [hfind]
  simp only [hprog, Nat.add_sub_cancel] at hno ⊢
  rw [if_neg hno]
  simp only [Inst.inputs_edge hec hx0, hlocal, hec.ne, hec, decide_false, Bool.false_and, Bool.false_eq_true, if_false, if_true, State.linkEcc,
    LinkEcc.drops, LinkEcc.poisons, Option.map_none, combine_none_left]
  cases hskip : r.skip with
  | true =>
    simp only [if_true, TileSt.goneGranule_nil hgone]
    exact ⟨s.updT t (fun z => z.setEg k ((z.eg k).forward g false)), rfl, rfl, rfl, rfl, rfl, rfl, rfl, rfl⟩
  | false =>
    simp only [Bool.false_eq_true, if_false]
    refine ⟨_, rfl, ?_⟩
    split
    · exact ⟨by simp only [State.sentPoison_keeps]; rfl, State.sentPoison_insts _ _ _, by simp [State.memSame]⟩
    · exact ⟨rfl, rfl, rfl, rfl, rfl, rfl, rfl⟩

theorem gradientGranuleArrive_forwards : Completes (.gradientGranuleArrive t i .clean) s (fun u =>
    (∃ y, u.findInst i = some y ∧ y.progOf t = g + 2 ∧
      y.outOf t g = some (if r.skip then none else some (compressed e.comp (s.sramPiece t (e.slotAddr 0) 256)))) ∧
    (∀ j, (u.tile t).tokGet j = (s.tile t).tokGet j + (if r.skip = false ∧ j = e.token.toNat then 1 else 0)) ∧
    (g = e.last → ((u.tile t).eg k).state = .done) ∧ s.registersSame u t ∧ s.memSame u) := by
  obtain ⟨v, hexec, htiles, hinsts, hmem⟩ := State.gradArrive_putsOut hegress hatt hinst hfirst hlast hnext hrun hfind hhas hgrad hprog hg
    hfailed hec hx0 hgone
  have htile : v.tile t = (s.tile t).forwards k g (!r.skip) := (State.tile_of_tiles htiles t).trans (s.tile_setT_same t _)
  have heg : (s.tile t).eg k = e := by simp [TileSt.eg, hegress, tget]
  refine ⟨_, congrArg Outcome.next hexec, ⟨_, State.findInst_updInst ((congrArg (List.find? _) hinsts).trans hfind) fun _ => rfl,
    tget_tset_same _ _ _ _, x.outOf_putsOut _ _ _⟩, fun j => ?_, fun hdone => ?_, State.registersSame_setT htiles ?_, hmem⟩
  · refine (congrArg (TileSt.tokGet · j) htile).trans ?_
    simp [TileSt.forwards_tokGet, heg]
  · refine (congrArg (fun z => (TileSt.eg z k).state) htile).trans ?_
    rw [TileSt.forwards_eg, heg]
    exact if_pos hdone
  · cases r.skip <;> rfl

end

/-- Settles O16: the records of a weight stream and of a gradient stream, each by what the tile's entries do with it. -/
theorem streamsReachTheirTiles : Obligations.StreamsReachTheirTiles := by
  unfold Obligations.StreamsReachTheirTiles
  intro s t i x hfind hhas
  refine ⟨fun hweight hfirst hreached => ?_, fun g k e p hweight hprog hg hreached hsent hunit hbad hgap htaps htakes hlen _ => ⟨?_, ?_⟩,
    fun hweight hdrained hend st d hended hidle => ⟨fun hst => ?_, fun hst => ?_⟩, fun hgrad hfirst hreached hred => ?_,
    fun g k e r hgrad hprog hg hfailed hec hx0 hegress hgone hatt hinst hfirst hlast hnext hrun => ?_⟩
  · obtain ⟨hinst, hregisters, hmem, htile⟩ := State.opened_frame (t := t) hfind (fun u => u.opens x i) rfl
    exact ⟨_, streamOpenArrive_attaches hfind hhas hweight hfirst hreached, hinst, hregisters, hmem, congrArg TileSt.taps htile⟩
  · exact streamGranuleArrive_takes hfind hhas hweight hprog hg hreached hsent hunit hbad hgap htaps htakes hlen
  · exact streamGranuleArrive_holds hfind hhas hweight hprog hg hreached hsent hunit hbad hgap htaps htakes
  · exact ⟨_, congrArg Outcome.next (State.endArrive_ends hfind hhas hweight hdrained hend hended hidle (abort := false) (by simp [hst])),
      State.ended_frame .done⟩
  · exact ⟨_, congrArg Outcome.next (State.endArrive_ends hfind hhas hweight hdrained hend hended hidle (abort := true)
      (decide_eq_true hst).symm),
      State.ended_frame .aborted⟩
  · obtain ⟨hinst, hregisters, hmem, htile⟩ := State.opened_frame (t := t) hfind (fun u => u.opensEgress x i) rfl
    exact ⟨_, gradOpenArrive_attaches hfind hhas hgrad hfirst hreached hred, congrArg TileSt.egress htile, hinst, hregisters, hmem⟩
  · exact gradientGranuleArrive_forwards hegress hatt hinst hfirst hlast hnext hrun hfind hhas hgrad hprog hg hfailed hec hx0 hgone

end Sys2Proof.Machine
end

section
/-! PROOFS. O33: RUN starts its tiles or waits for its claims; LOAD_PROGRAM fills or empties a slot (05 R166-R171, T5.2, T5.6, T5.9). -/
namespace Sys2Proof.Machine

open Host

/-! ### An operation ends (03 R110) -/

theorem State.findOp_updOp {s : State} {i : Nat} {o : Op} {f : Op → Op} (hfind : s.findOp i = some o) (hid : ∀ y, (f y).id = y.id) :
    (s.updOp i f).findOp i = some (f o) := find?_map_update Op.id hid hfind

theorem State.endOp_opEnds {s u : State} {i : Nat} {o : Op} (hfind : u.findOp i = some o) (hcad : u.cad = s.cad) (status detail : Nat) :
    s.opEnds (u.endOp i status detail) i status detail :=
  ⟨_, State.findOp_updOp hfind fun _ => rfl, rfl, rfl, rfl, congrArg (fun c => c.count.setWidth 48) hcad⟩

theorem State.rejectOp_opEnds {s : State} {i : Nat} {o : Op} (hfind : s.findOp i = some o) (status detail : Nat) :
    s.opEnds (s.rejectOp i status detail) i status detail :=
  ⟨_, State.findOp_updOp (State.findOp_updOp hfind fun _ => rfl) fun _ => rfl, rfl, rfl, rfl, rfl⟩

/-! ### Tiles of a block, one after another -/

/-- What a block does tile by tile, twice the same as once, is done to each of its tiles and to no other. -/
theorem State.foldl_tiles {f : State → Nat → State} {g : TileSt → TileSt} (hf : ∀ u t, (f u t).tiles = (u.updT t g).tiles)
    (hidem : ∀ x, g (g x) = g x) (l : List Nat) (s : State) (n : Nat) :
    (l.foldl f s).tile n = if n ∈ l then g (s.tile n) else s.tile n := by
  induction l generalizing s with
  | nil => rfl
  | cons t l ih =>
    have hstep := State.tile_of_tiles (hf s t) n
    rw [List.foldl_cons, ih, hstep]
    by_cases hn : n = t
    · subst hn
      simp [hidem]
    · simp [hn, s.tile_setT_other t n _ hn]

/-! ### Claims (05 R171) -/

section
variable (s : State) (i : Nat) (r : RunState)

/-- The claims of a descriptor on a block are granted: no other that meets it holds one or was admitted earlier. -/
def State.claimsGranted : Prop := ∀ e ∈ s.runs, e.1 ≠ i → e.2.meets r = true → e.2.granted = false ∧ i ≤ e.1

theorem State.claimFree_iff : s.claimFree i r = true ↔ s.claimsGranted i r := by
  simp only [State.claimFree, State.claimsGranted, Bool.not_eq_true', List.any_eq_false, Bool.and_eq_true, Bool.or_eq_true, decide_eq_true_eq,
    not_and, not_or, Nat.not_lt, Bool.not_eq_true, and_imp]

theorem mem_tset_other {α : Type} (l : List (Nat × α)) (k : Nat) (v : α) (e : Nat × α) (h : e.1 ≠ k) : e ∈ tset l k v ↔ e ∈ l := by
  have hne : e ≠ (k, v) := fun he => h (congrArg Prod.fst he)
  induction l with
  | nil => simp [tset, hne]
  | cons c l ih =>
    obtain ⟨j, u⟩ := c
    unfold tset
    split
    · simp [hne]
    · split
      · next hk =>
        have hne' : e ≠ (j, u) := fun he => h (hk ▸ congrArg Prod.fst he)
        simp [hne, hne']
      · simp [ih]

end

/-- The state with another table of claims. -/
def State.withRuns (s : State) (l : List (Nat × RunState)) : State := { s with runs := l }

/-- A descriptor's own claims do not stand in its way. -/
theorem State.claimFree_own (s : State) (i : Nat) (r c : RunState) : (s.withRuns (tset s.runs i c)).claimFree i r = s.claimFree i r := by
  have hothers : (s.withRuns (tset s.runs i c)).claimsGranted i r ↔ s.claimsGranted i r := forall_congr' fun e => by
    by_cases he : e.1 = i
    · simp [he]
    · simp [State.withRuns, mem_tset_other s.runs i c e he]
  rw [Bool.eq_iff_iff, State.claimFree_iff, State.claimFree_iff, hothers]

/-! ### A RUN starts (05 R153, R170, R171) -/

theorem TileSt.start_start (x : TileSt) (i : Nat) (r : RunState) (args : Nat → W64) : (x.start i r args).start i r args = x.start i r args := by
  unfold TileSt.start
  split <;> rfl

section
variable (x : TileSt) (i k : Nat) (r : RunState) (args : Nat → W64)

theorem TileSt.start_sGet (hk : k < 32) : (x.start i r args).sGet k = args k := by
  rw [TileSt.sGet, tget_eq_tfind]
  exact congrArg (·.getD 0) (tfind_map_key args _ k (List.mem_range.2 hk))

theorem TileSt.start_pGet (hk : k < 8) : (x.start i r args).pGet k = BitVec.allOnes 64 := by
  rw [TileSt.pGet, tget_eq_tfind]
  exact congrArg (·.getD 0) (tfind_map_key (fun _ => BitVec.allOnes 64) _ k (List.mem_range.2 hk))

end

theorem State.withRuns_updRun {s : State} {l : List (Nat × RunState)} {i : Nat} {r : RunState} (hr : tfind l i = some r)
    (f : RunState → RunState) : (s.withRuns l).updRun i f = s.withRuns (tset l i (f r)) := by simp [State.updRun, State.withRuns, hr]

/-- A RUN whose claims stand in the table starts the tiles of its block. -/
theorem State.beginRun_starts {s : State} {o : Op} {r : RunState} (l : List (Nat × RunState)) (hr : tfind l o.id = some r) :
    let u := (s.withRuns l).beginRun o r
    s.runStarted u o r ∧ u.findRun o.id = some { r with granted := true } := by
  intro u
  have hu : u = r.tiles.foldl (fun v t => v.updT t (fun x => x.start o.id r o.arg)) (s.withRuns (tset l o.id { r with granted := true })) := by
    simp only [u, State.beginRun, State.withRuns_updRun hr]
  have htile (n : Nat) : u.tile n = if n ∈ r.tiles then (s.tile n).start o.id r o.arg else s.tile n :=
    hu ▸ State.foldl_tiles (fun _ _ => rfl) (fun x => x.start_start o.id r o.arg) r.tiles _ n
  have hkeep {α : Type} (f : State → α) (hf : ∀ v t x, f (State.setT v t x) = f v) : f u = f (s.withRuns (tset l o.id { r with granted := true })) :=
    hu ▸ foldl_keep f _ _ _ fun _ _ => hf _ _ _
  refine ⟨⟨fun t ht => ?_, fun t ht => (htile t).trans (if_neg ht), ?_, hkeep State.ops fun _ _ _ => rfl⟩, ?_⟩
  · rw [(htile t).trans (if_pos ht)]
    exact ⟨rfl, rfl, rfl, rfl, fun k hk => ⟨TileSt.start_sGet _ _ _ _ _ hk, by simp [TileSt.start, TileSt.sBad, bitAt]⟩, fun k => ⟨rfl, rfl, rfl⟩,
      fun k hk => TileSt.start_pGet _ _ _ _ _ hk, rfl, rfl, rfl, rfl, rfl⟩
  · exact ⟨hkeep State.sram fun _ _ _ => rfl, hkeep State.sramG fun _ _ _ => rfl, hkeep State.slices fun _ _ _ => rfl,
      hkeep State.sliceG fun _ _ _ => rfl, hkeep State.flash fun _ _ _ => rfl⟩
  · rw [State.findRun, hkeep State.runs fun _ _ _ => rfl]
    exact tfind_tset_same _ _ _

/-! ### RUN and its claims (05 R171, T5.9) -/

section
variable {s : State} {i : Nat} {o : Op} (hfind : s.findOp i = some o) (hst : o.st = .started)
include hfind hst

omit hst in
theorem State.withClaim_fresh (hnone : s.findRun i = none) : s.withClaim o = s.withRuns (tset s.runs i o.claim) := by
  obtain ⟨-, rfl⟩ := State.findOp_spec hfind
  unfold State.withClaim
  rw [hnone]
  rfl

section
variable (hop : o.opcode = 0x11) (hnone : s.findRun i = none)
include hop hnone

theorem run_fails {d : Nat} (hcheck : s.runCheck o.claim = some d) : exec (.run i) s = .next (s.rejectOp i 8 d) := by
  refine congrArg Outcome.next ((State.onOp_started hfind hst _ _ hop).trans ?_)
  simp only [hnone, hcheck]
  rfl

theorem run_claims (hcheck : s.runCheck o.claim = none) :
    exec (.run i) s = .next (if s.claimFree i o.claim then (s.withRuns (tset s.runs i o.claim)).beginRun o o.claim
      else s.withRuns (tset s.runs i o.claim)) := by
  refine congrArg Outcome.next ((State.onOp_started hfind hst _ _ hop).trans ?_)
  simp only [hnone, hcheck, State.withClaim_fresh hfind hnone, State.claimFree_own]
  rfl

end

end

/-! ### What T5.9 checks of a RUN's tiles -/

section
variable {s : State} {r : RunState}

theorem State.runCheck_passes (h : ∀ t ∈ r.tiles, (tfind (s.tile t).progs r.slot).isSome = true ∧
    r.entry < (tget { banks := 0, count := 0 } (s.tile t).progs r.slot).count) : s.runCheck r = none := by
  unfold State.runCheck
  rw [if_neg, if_neg]
  · simpa using fun t ht => (h t ht).2
  · simpa [← Option.isSome_iff_ne_none] using fun t ht => (h t ht).1

theorem State.runCheck_empty (h : ∃ t ∈ r.tiles, tfind (s.tile t).progs r.slot = none) : s.runCheck r = some 0x105 := by
  refine if_pos ?_
  simpa using h

theorem State.runCheck_entry (hall : ∀ t ∈ r.tiles, (tfind (s.tile t).progs r.slot).isSome = true)
    (h : ∃ t ∈ r.tiles, (tget { banks := 0, count := 0 } (s.tile t).progs r.slot).count ≤ r.entry) : s.runCheck r = some 0x106 := by
  unfold State.runCheck
  rw [if_neg, if_pos]
  · simpa using h
  · simpa [← Option.isSome_iff_ne_none] using hall

end

/-! ### The last claim is granted (05 R171) -/

section
variable {s : State} {i : Nat} {o : Op} {r : RunState} (host : List Byte) (hfind : s.findOp i = some o) (hst : o.st = .started)
  (hr : s.findRun i = some r) (hwaits : r.granted = false) (hsch : (s.core .sch).state = .running)
include hfind hst hr hwaits hsch

theorem runClaimGranted_starts (hop : o.opcode = 0x11) (hfree : s.claimFree i r = true) :
    exec (.runClaimGranted i host) s = .next (s.beginRun o r) := by
  refine congrArg Outcome.next ?_
  simp only [hfind, hr]
  exact (if_neg (by simp [hwaits, hst, hfree, State.schRuns, State.coreRuns, hsch])).trans (if_pos hop)

omit hst hwaits hsch in
theorem runClaimGranted_waits (hheld : ¬ s.claimFree i r = true) : exec (.runClaimGranted i host) s = .next s := by
  refine congrArg Outcome.next ?_
  simp only [hfind, hr]
  exact if_pos (.inr (.inr (.inl (by simpa using hheld))))

end

/-! ### A LOAD_PROGRAM ends (05 R166-R168) -/

/-- A LOAD_PROGRAM gives up its claims and ends. -/
def State.loadEnds (s : State) (o : Op) (status detail : Nat) : State :=
  ((s.withRuns (tdel s.runs o.id)).dropPassed (.op o.id) none).endOp o.id status detail

theorem State.loadEnds_spec {s u : State} {o : Op} (hfind : s.findOp o.id = some o) (hops : u.ops = s.ops) (hcad : u.cad = s.cad)
    (status detail : Nat) : s.opEnds (u.loadEnds o status detail) o.id status detail ∧ (u.loadEnds o status detail).findRun o.id = none ∧
      (u.loadEnds o status detail).tiles = u.tiles ∧ u.memSame (u.loadEnds o status detail) :=
  ⟨State.endOp_opEnds ((congrArg (List.find? _) hops).trans hfind) hcad _ _, tfind_tdel_same _ _, rfl, rfl, rfl, rfl, rfl, rfl⟩

theorem tdel_tdel {α : Type} (l : List (Nat × α)) (k : Nat) : tdel (tdel l k) k = tdel l k := by
  induction l with
  | nil => rfl
  | cons c l ih =>
    obtain ⟨j, u⟩ := c
    by_cases hj : j = k <;> simp [tdel, hj, ih]

/-- A tile whose slot is empty, and one whose slot holds a program. -/
def TileSt.emptySlot (x : TileSt) (slot : Nat) : TileSt := { x with progs := tdel x.progs slot }
def TileSt.fillSlot (x : TileSt) (slot : Nat) (p : Prog) : TileSt := { x with progs := tset x.progs slot p }

/-- The block with its slot emptied, and with an image in it. -/
def State.emptied (s : State) (r : RunState) : State := r.tiles.foldl (fun v t => v.updT t (fun x => x.emptySlot r.slot)) s
def State.filled (s : State) (r : RunState) (img : List Byte) : State := r.tiles.foldl (fun v t => v.placeImage t r.slot img) s

section
variable (s : State) (r : RunState) (img : List Byte)

theorem State.emptied_tile (n : Nat) : (s.emptied r).tile n = if n ∈ r.tiles then (s.tile n).emptySlot r.slot else s.tile n :=
  State.foldl_tiles (fun _ _ => rfl) (fun x => by simp [TileSt.emptySlot, tdel_tdel]) r.tiles s n

theorem State.emptied_keeps {α : Type} (f : State → α) (hf : ∀ v t x, f (State.setT v t x) = f v) : f (s.emptied r) = f s :=
  foldl_keep f _ _ _ fun _ _ => hf _ _ _

theorem State.placeImage_tiles (t slot : Nat) : (s.placeImage t slot img).tiles =
    (s.updT t (fun x => x.fillSlot slot { banks := leAt img 6 1, count := leAt img 8 4 })).tiles := by
  unfold State.placeImage
  dsimp only
  generalize hput : List.foldl _ s _ = v
  have htiles : v.tiles = s.tiles := hput ▸ foldl_keep State.tiles _ _ _ fun u p => by simp
  rw [State.updT_eq, State.tile_of_tiles htiles]
  exact congrArg (fun l => tset l t _) htiles

theorem State.filled_tile (n : Nat) : (s.filled r img).tile n =
    if n ∈ r.tiles then (s.tile n).fillSlot r.slot { banks := leAt img 6 1, count := leAt img 8 4 } else s.tile n :=
  State.foldl_tiles (fun v t => v.placeImage_tiles img t r.slot) (fun x => by simp [TileSt.fillSlot, tset_tset]) r.tiles s n

theorem State.filled_keeps {α : Type} (f : State → α) (hf : ∀ v t, f (State.placeImage v t r.slot img) = f v) : f (s.filled r img) = f s :=
  foldl_keep f _ _ _ hf

end

theorem State.takeFree_zero (s : State) : s.takeFree 0 = s := rfl

section
variable {s : State} {o : Op} (hfind : s.findOp o.id = some o) (l : List (Nat × RunState)) (r : RunState) (status detail : Nat)
include hfind

/-- A load that ends with its block's slot empty. -/
theorem State.emptied_loadEnds (n : Nat) :
    let u := (((s.withRuns l).emptied r).takeFree n).loadEnds o status detail
    s.opEnds u o.id status detail ∧ u.findRun o.id = none ∧
      (∀ t, u.tile t = if t ∈ r.tiles then (s.tile t).emptySlot r.slot else s.tile t) ∧ s.memSame u := by
  have hkeep {α : Type} (f : State → α) (hf : ∀ v t x, f (State.setT v t x) = f v) := (s.withRuns l).emptied_keeps r f hf
  obtain ⟨hends, hrun, htiles, hmem⟩ := State.loadEnds_spec (u := ((s.withRuns l).emptied r).takeFree n) hfind (hkeep State.ops fun _ _ _ => rfl)
    (hkeep State.cad fun _ _ _ => rfl) status detail
  exact ⟨hends, hrun, fun t => (State.tile_of_tiles htiles t).trans ((s.withRuns l).emptied_tile r t),
    State.memSame.trans ⟨hkeep State.sram fun _ _ _ => rfl, hkeep State.sramG fun _ _ _ => rfl, hkeep State.slices fun _ _ _ => rfl,
      hkeep State.sliceG fun _ _ _ => rfl, hkeep State.flash fun _ _ _ => rfl⟩ hmem⟩

/-- A load that ends with its image in its block's slot. -/
theorem State.filled_loadEnds (img : List Byte) :
    let u := ((s.withRuns l).filled r img).loadEnds o status detail
    s.opEnds u o.id status detail ∧ u.findRun o.id = none ∧
      (∀ t, u.tile t = if t ∈ r.tiles then (s.tile t).fillSlot r.slot { banks := leAt img 6 1, count := leAt img 8 4 } else s.tile t) ∧
      u.slices = s.slices ∧ u.flash = s.flash := by
  have hkeep {α : Type} (f : State → α) (hf : ∀ v t, f (State.placeImage v t r.slot img) = f v) := (s.withRuns l).filled_keeps r img f hf
  obtain ⟨hends, hrun, htiles, -, -, hslices, -, hflash⟩ := State.loadEnds_spec (u := (s.withRuns l).filled r img) hfind
    (hkeep State.ops fun _ _ => by simp) (hkeep State.cad fun _ _ => by simp) status detail
  exact ⟨hends, hrun, fun t => (State.tile_of_tiles htiles t).trans ((s.withRuns l).filled_tile r img t),
    hslices.trans (hkeep State.slices fun _ _ => by simp), hflash.trans (hkeep State.flash fun _ _ => by simp)⟩

end

/-! ### The bytes of an image -/

theorem granulePieces_zero (a k : Nat) : granulePieces a k 0 = [] := by cases k <;> rfl

/-- The pieces of a run of whole granules, put together, are its bytes. -/
theorem granulePieces_bytes (l : List Byte) (k a n : Nat) (ha : a % 256 = 0) (hn : n ≤ 256 * k) :
    (granulePieces a k n).flatMap (fun p => (l.drop p.1).take p.2) = (l.drop a).take n := by
  induction k generalizing a n with
  | zero => simp [granulePieces, show n = 0 by omega]
  | succ k ih =>
    by_cases h0 : n = 0
    · simp [granulePieces, h0]
    · rw [granulePieces, if_neg h0, ha]
      by_cases hlast : n ≤ 256
      · simp [granulePieces_zero, Nat.min_eq_left hlast]
      · have hwhole : min n (256 - 0) = 256 := by omega
        have hsplit : (l.drop a).take n = (l.drop a).take 256 ++ (l.drop (a + 256)).take (n - 256) := by
          rw [← List.drop_drop, ← List.take_add, Nat.add_sub_cancel' (by omega)]
        simp only [hwhole, List.flatMap_cons]
        rw [hsplit, ih (a + 256) (n - 256) (by omega) (by omega)]

theorem hostPieces_bytes {host : List Byte} {n : Nat} (hlen : host.length = n) :
    ((runPieces 0 n).map (fun p => bytesPiece p.1 (((host ++ List.replicate n 0).drop p.1).take p.2))).flatMap (fun p => p.data) = host := by
  rw [List.flatMap_map]
  refine (granulePieces_bytes _ _ 0 n rfl (by omega)).trans ?_
  rw [List.drop_zero, ← hlen, List.take_left]

/-! ### What a load does to its block (05 R166-R168, T5.6) -/

section
variable {s : State} {o : Op} {r : RunState} {l : List Piece} {img : List Byte}

theorem State.loadImage_empties (hlen : o.le 48 4 = 0) : s.loadImage o r l = (s.emptied r).loadEnds o 0 0 := if_pos hlen

section
variable (hlen : o.le 48 4 ≠ 0) (himg : l.flatMap (fun p => p.data) = img) (hcheck : imageCheck img (o.le 48 4) = none)
include hlen himg hcheck

theorem State.loadImage_fills (hcrc : (crc32c (img.drop 64)).toNat = leAt img 12 4) :
    s.loadImage o r l = (s.filled r img).loadEnds o 0 (leAt img 8 4) := by
  unfold State.loadImage
  simp only [himg, hcheck, if_neg hlen]
  exact if_neg (not_not.2 hcrc)

/-- An image whose CRC is wrong leaves the slots empty. -/
theorem State.loadImage_diverges (hcrc : (crc32c (img.drop 64)).toNat ≠ leAt img 12 4) :
    ∃ n d, s.loadImage o r l = ((s.emptied r).takeFree n).loadEnds o 5 d := by
  unfold State.loadImage
  simp only [himg, hcheck, if_neg hlen, if_pos hcrc]
  split
  · exact ⟨0, _, rfl⟩
  · exact ⟨1, _, rfl⟩

end

end

/-- The table in which an operation holds its claims. -/
def State.claimsHeld (s : State) (o : Op) : List (Nat × RunState) := tset s.runs o.id { o.claim with granted := true }

section
variable {s : State} {i : Nat} {o : Op} (host : List Byte) (hfind : s.findOp i = some o) (hst : o.st = .started) (hop : o.opcode = 0x10)
  (hnone : s.findRun i = none)
include hfind hst hop hnone

theorem loadProgram_claims : exec (.loadProgram i host) s = .next
    (if s.claimFree i o.claim then (s.withRuns (tset s.runs i o.claim)).doLoad o o.claim host else s.withRuns (tset s.runs i o.claim)) := by
  have hown : (s.withRuns (tset s.runs i o.claim)).findRun i = some o.claim := tfind_tset_same _ _ _
  refine congrArg Outcome.next ((State.onOp_started hfind hst _ _ hop).trans ?_)
  simp only [State.withClaim_fresh hfind hnone, hown, State.claimFree_own]
  rfl

/-- A load from the host's bytes, or of nothing, that holds its claims. -/
theorem loadProgram_loads (hfree : s.claimFree i o.claim = true) (hhost : o.le 48 4 = 0 ∨ o.byte 37 % 2 = 1) :
    exec (.loadProgram i host) s = .next ((s.withRuns (s.claimsHeld o)).loadImage o o.claim
      ((runPieces 0 (o.le 48 4)).map (fun p => bytesPiece p.1 (((host ++ List.replicate (o.le 48 4) 0).drop p.1).take p.2)))) := by
  have hload : (s.withRuns (tset s.runs i o.claim)).doLoad o o.claim host = _ := if_pos hhost
  obtain ⟨-, rfl⟩ := State.findOp_spec hfind
  rw [State.withRuns_updRun (tfind_tset_same s.runs o.id o.claim), tset_tset] at hload
  rw [loadProgram_claims host hfind hst hop hnone, if_pos hfree, hload]
  rfl

theorem loadProgram_empties (hfree : s.claimFree i o.claim = true) (hlen : o.le 48 4 = 0) :
    Completes (.loadProgram i host) s (fun u => s.opEnds u i 0 0 ∧ u.findRun i = none ∧ s.memSame u ∧
      (∀ t ∈ o.claim.tiles, tfind (u.tile t).progs o.claim.slot = none ∧ (u.tile t).run = (s.tile t).run ∧
        ∀ k, k ≠ o.claim.slot → tfind (u.tile t).progs k = tfind (s.tile t).progs k) ∧
      (∀ t, t ∉ o.claim.tiles → u.tile t = s.tile t)) := by
  have hexec := loadProgram_loads host hfind hst hop hnone hfree (.inl hlen)
  rw [State.loadImage_empties hlen] at hexec
  obtain ⟨-, rfl⟩ := State.findOp_spec hfind
  obtain ⟨hends, hrun, htiles, hmem⟩ := State.takeFree_zero _ ▸ State.emptied_loadEnds hfind (s.claimsHeld o) o.claim 0 0 0
  refine ⟨_, hexec, hends, hrun, hmem, fun t ht => ?_, fun t ht => (htiles t).trans (if_neg ht)⟩
  rw [(htiles t).trans (if_pos ht)]
  exact ⟨tfind_tdel_same _ _, rfl, fun k hk => tfind_tdel_other _ _ _ hk⟩

section
variable (hfree : s.claimFree i o.claim = true) (hlen : o.le 48 4 ≠ 0) (hhost : o.byte 37 % 2 = 1) (hbytes : host.length = o.le 48 4)
  (hcheck : imageCheck host (o.le 48 4) = none)
include hfree hlen hhost hbytes hcheck

theorem loadProgram_fills (hcrc : (crc32c (host.drop 64)).toNat = leAt host 12 4) :
    Completes (.loadProgram i host) s (fun u => s.opEnds u i 0 (leAt host 8 4) ∧ u.findRun i = none ∧
      (∀ t ∈ o.claim.tiles, tfind (u.tile t).progs o.claim.slot = some { banks := leAt host 6 1, count := leAt host 8 4 }) ∧
      (∀ t, t ∉ o.claim.tiles → u.tile t = s.tile t) ∧ u.slices = s.slices ∧ u.flash = s.flash) := by
  have hexec := loadProgram_loads host hfind hst hop hnone hfree (.inr hhost)
  rw [State.loadImage_fills hlen (hostPieces_bytes hbytes) hcheck hcrc] at hexec
  obtain ⟨-, rfl⟩ := State.findOp_spec hfind
  obtain ⟨hends, hrun, htiles, hslices, hflash⟩ := State.filled_loadEnds hfind (s.claimsHeld o) o.claim 0 (leAt host 8 4) host
  refine ⟨_, hexec, hends, hrun, fun t ht => ?_, fun t ht => (htiles t).trans (if_neg ht), hslices, hflash⟩
  rw [(htiles t).trans (if_pos ht)]
  exact tfind_tset_same _ _ _

theorem loadProgram_diverges (hcrc : (crc32c (host.drop 64)).toNat ≠ leAt host 12 4) :
    Completes (.loadProgram i host) s (fun u => u.findRun i = none ∧ s.memSame u ∧
      (∃ e, u.findOp i = some e ∧ e.st = .ended ∧ e.status = 5) ∧ ∀ t ∈ o.claim.tiles, tfind (u.tile t).progs o.claim.slot = none) := by
  have hexec := loadProgram_loads host hfind hst hop hnone hfree (.inr hhost)
  obtain ⟨n, d, hends⟩ := State.loadImage_diverges (s := s.withRuns (s.claimsHeld o)) (r := o.claim) hlen
    (hostPieces_bytes hbytes) hcheck hcrc
  rw [hends] at hexec
  obtain ⟨-, rfl⟩ := State.findOp_spec hfind
  obtain ⟨⟨e, he, hst, hstatus, -⟩, hrun, htiles, hmem⟩ :=
    State.emptied_loadEnds hfind (s.claimsHeld o) o.claim 5 d n
  refine ⟨_, hexec, hrun, hmem, ⟨e, he, hst, hstatus⟩, fun t ht => ?_⟩
  rw [(htiles t).trans (if_pos ht)]
  exact tfind_tdel_same _ _

end

end

/-- Settles O33: a RUN by its tiles' programs and its claims, the last claim granted, a LOAD_PROGRAM by its image. -/
theorem programsLoadAndRun : Obligations.ProgramsLoadAndRun := by
  unfold Obligations.ProgramsLoadAndRun
  intro s i host o hfind hst
  have hid := (State.findOp_spec hfind).2
  have hgranted := (s.claimFree_iff i o.claim).2
  refine ⟨fun hop hnone => ⟨fun htiles => ?_, fun hempty => ?_, fun hall hentry => ?_⟩,
    fun r hr hwaits hsch => ⟨fun hop hclear => ?_, fun hheld => runClaimGranted_waits host hfind hr (mt (s.claimFree_iff i r).1 hheld)⟩,
    fun hop hnone => ⟨fun hheld => ?_, fun hfree hlen => loadProgram_empties host hfind hst hop hnone (hgranted hfree) hlen,
      fun hfree hlen hhost hbytes hcheck =>
        ⟨fun hcrc => loadProgram_fills host hfind hst hop hnone (hgranted hfree) hlen hhost hbytes hcheck hcrc,
          fun hcrc => loadProgram_diverges host hfind hst hop hnone (hgranted hfree) hlen hhost hbytes hcheck hcrc⟩⟩⟩
  · have hexec := run_claims hfind hst hop hnone (State.runCheck_passes htiles)
    refine ⟨fun hfree => ?_, fun hheld => hexec.trans (congrArg Outcome.next (if_neg (mt (s.claimFree_iff i o.claim).1 hheld)))⟩
    rw [if_pos (hgranted hfree)] at hexec
    subst hid
    exact ⟨_, hexec, State.beginRun_starts _ (tfind_tset_same _ _ _)⟩
  · exact ⟨_, run_fails hfind hst hop hnone (State.runCheck_empty hempty), State.rejectOp_opEnds hfind _ _, rfl, rfl⟩
  · exact ⟨_, run_fails hfind hst hop hnone (State.runCheck_entry hall hentry), State.rejectOp_opEnds hfind _ _, rfl, rfl⟩
  · have hexec := runClaimGranted_starts host hfind hst hr hwaits hsch hop ((s.claimFree_iff i r).2 hclear)
    subst hid
    exact ⟨_, hexec, State.beginRun_starts s.runs hr⟩
  · exact (loadProgram_claims host hfind hst hop hnone).trans (congrArg Outcome.next (if_neg (mt (s.claimFree_iff i o.claim).1 hheld)))

end Sys2Proof.Machine
end

section
/-! PROOFS. O1: the scalar instructions write their result (06 R195, T6.6). -/
namespace Sys2Proof.Machine

open Host

/-! ### Comparisons of words by their values -/

section
variable {w : Nat} (a b : BitVec w)

theorem slt_eq_toInt_lt : a.slt b = decide (a.toInt < b.toInt) := BitVec.slt_eq_decide
theorem ult_eq_toNat_lt : a.ult b = decide (a.toNat < b.toNat) := rfl

theorem min_signed_eq : (if a.slt b then a else b) = if a.toInt ≤ b.toInt then a else b := by
  rw [slt_eq_toInt_lt]
  rcases lt_trichotomy a.toInt b.toInt with h | h | h
  · simp [h, h.le]
  · simp [BitVec.toInt_inj.1 h]
  · simp [h.not_gt, h.not_ge]

theorem max_signed_eq : (if b.slt a then a else b) = if a.toInt ≤ b.toInt then b else a := by
  rw [slt_eq_toInt_lt]
  by_cases h : a.toInt ≤ b.toInt
  · simp [h, h.not_gt]
  · simp [h, not_le.1 h]

theorem min_unsigned_eq : (if a.ult b then a else b) = if a.toNat ≤ b.toNat then a else b := by
  rw [ult_eq_toNat_lt]
  rcases lt_trichotomy a.toNat b.toNat with h | h | h
  · simp [h, h.le]
  · simp [BitVec.toNat_inj.1 h]
  · simp [h.not_gt, h.not_ge]

theorem max_unsigned_eq : (if b.ult a then a else b) = if a.toNat ≤ b.toNat then b else a := by
  rw [ult_eq_toNat_lt]
  by_cases h : a.toNat ≤ b.toNat
  · simp [h, h.not_gt]
  · simp [h, not_le.1 h]

end

theorem bit_decide {w : Nat} (p : Prop) [Decidable p] : (bit (decide p) : BitVec w) = if p then 1 else 0 := by
  by_cases h : p <;> simp [bit, h]

theorem bit_beq {w v : Nat} (a b : BitVec w) : (bit (a == b) : BitVec v) = if a = b then 1 else 0 := by
  by_cases h : a = b <;> simp [bit, h]

/-! ### What each form writes -/

section
variable {s : State} {t : Tile} {d a b : BitVec 5} {v : W64}

theorem State.alu_writes (h : s.canIssue t [rs a, rs b] [rs d] []) (fn : Nat) (w32 : Bool)
    (hv : aluVal fn w32 (s.sR t a) (s.sR t b) = v) : ok (s.alu t fn d a b w32) = .next (s.scalarTo t d v (s.sP t a || s.sP t b)) := by
  subst hv
  refine congrArg Outcome.next ((s.issue_ready t _ _ _ _ h).trans ?_)
  simp [State.scalarTo, State.sR, State.sP]

theorem State.alui_writes (h : s.canIssue t [rs a] [rs d] []) (fn : Nat) (imm : W32) (hshift : ¬(fn = 5 ∨ fn = 6 ∨ fn = 7) ∨ imm.toNat < 64)
    (hv : aluFn fn (s.sR t a) (sx32 imm) (imm.toNat % 64) = v) : ok (s.alui t fn d a imm) = .next (s.scalarTo t d v (s.sP t a)) := by
  subst hv
  refine congrArg Outcome.next ((s.issue_ready t _ _ _ _ h).trans ((if_neg fun hbad => ?_).trans ?_))
  · exact hshift.elim (absurd hbad.1) fun hs => by omega
  · simp [State.scalarTo, State.sR, State.sP]

theorem State.mulOp_writes (h : s.canIssue t [rs a, rs b] [rs d] []) (fn : Nat) (w32 : Bool)
    (hv : mulVal fn w32 (s.sR t a) (s.sR t b) = v) : ok (s.mulOp t fn d a b w32) = .next (s.scalarTo t d v (s.sP t a || s.sP t b)) := by
  subst hv
  refine congrArg Outcome.next ((s.issue_ready t _ _ _ _ h).trans ?_)
  simp [State.scalarTo, State.sR, State.sP]

theorem State.setScalar_writes {reads : List Reg} {f : TileSt → W64} (h : s.canIssue t reads [rs d] [])
    (hf : f (s.tile t).issued1 = v) : ok (s.setScalar t reads d f) = .next (s.scalarTo t d v false) := by
  subst hf
  refine congrArg Outcome.next ((s.issue_ready t _ _ _ _ h).trans ?_)
  simp [State.scalarTo]

end

/-- Settles O1, form by form: the value that the sub-function gives is the one T6.6 states. -/
theorem scalarInstructionsWriteTheirResult : Obligations.ScalarInstructionsWriteTheirResult := by
  unfold Obligations.ScalarInstructionsWriteTheirResult
  refine ⟨fun s t d a b h => ?_, fun s t d a imm h => ?_, fun s t d a b h => ?_, fun s t d imm h => ?_, fun s t d imm h => ?_⟩
  · have alu := fun fn w32 v => State.alu_writes (v := v) h fn w32
    intro A B X Y R
    exact ⟨alu 0 false _ rfl, alu 0 true _ rfl, alu 1 false _ rfl, alu 1 true _ rfl, alu 2 false _ rfl, alu 2 true _ rfl,
      alu 3 false _ rfl, alu 3 true _ rfl, alu 4 false _ rfl, alu 4 true _ rfl, alu 5 false _ rfl, alu 5 true _ rfl,
      alu 6 false _ rfl, alu 6 true _ rfl, alu 7 false _ rfl, alu 7 true _ rfl,
      alu 8 false _ (min_signed_eq A B), alu 8 true _ (congrArg sx32 (min_signed_eq X Y)),
      alu 9 false _ (max_signed_eq A B), alu 9 true _ (congrArg sx32 (max_signed_eq X Y)),
      alu 10 false _ (min_unsigned_eq A B), alu 10 true _ (congrArg sx32 (min_unsigned_eq X Y)),
      alu 11 false _ (max_unsigned_eq A B), alu 11 true _ (congrArg sx32 (max_unsigned_eq X Y)),
      alu 12 false _ (bit_beq A B), alu 12 true _ (congrArg sx32 (bit_beq X Y)),
      alu 13 false _ ((congrArg bit (slt_eq_toInt_lt A B)).trans (bit_decide _)),
      alu 13 true _ (congrArg sx32 ((congrArg bit (slt_eq_toInt_lt X Y)).trans (bit_decide _))),
      alu 14 false _ (bit_decide _), alu 14 true _ (congrArg sx32 (bit_decide _))⟩
  · have alui := fun fn v hshift => State.alui_writes (v := v) h fn imm hshift
    intro A B R
    have hmod : imm.toNat < 64 → imm.toNat % 64 = imm.toNat := Nat.mod_eq_of_lt
    exact ⟨alui 0 _ (.inl (by decide)) rfl, alui 1 _ (.inl (by decide)) rfl, alui 2 _ (.inl (by decide)) rfl, alui 3 _ (.inl (by decide)) rfl,
      alui 4 _ (.inl (by decide)) rfl, fun hs => alui 5 _ (.inr hs) (congrArg (A <<< ·) (hmod hs)),
      fun hs => alui 6 _ (.inr hs) (congrArg (A >>> ·) (hmod hs)), fun hs => alui 7 _ (.inr hs) (congrArg A.sshiftRight (hmod hs)),
      alui 8 _ (.inl (by decide)) (min_signed_eq A B), alui 9 _ (.inl (by decide)) (max_signed_eq A B),
      alui 10 _ (.inl (by decide)) (min_unsigned_eq A B), alui 11 _ (.inl (by decide)) (max_unsigned_eq A B), alui 12 _ (.inl (by decide)) (bit_beq A B),
      alui 13 _ (.inl (by decide)) ((congrArg bit (slt_eq_toInt_lt A B)).trans (bit_decide _)), alui 14 _ (.inl (by decide)) (bit_decide _)⟩
  · have mul := fun fn w32 v => State.mulOp_writes (v := v) h fn w32
    exact ⟨mul 0 false _ rfl, mul 0 true _ rfl, mul 1 false _ rfl, mul 1 true _ rfl, mul 2 false _ rfl, mul 2 true _ rfl⟩
  · exact ⟨State.setScalar_writes h rfl, State.setScalar_writes h rfl⟩
  · refine congrArg Outcome.next ((s.issue_ready t _ _ _ _ h).trans ?_)
    simp [State.scalarTo, State.sR, State.sP]

end Sys2Proof.Machine
end

section
/-! PROOFS. O3: branches and control registers (06 R186, R191, R198, T6.3, T6.9). -/
namespace Sys2Proof.Machine

open Host

/-! ### Branches (06 R186, R198, T6.9) -/

/-- The scalars an instruction must find clean are clean as it has issued: its effect follows. -/
theorem State.issued_clean {s : State} {t : Nat} {l : List (BitVec 5)} (hclean : s.scalarsClean t l) (i : Nat) (f : State) :
    (s.setT t (s.tile t).issued1).clean t i (l.map BitVec.toNat) f = f := by
  refine State.clean_ready _ _ _ _ _ fun r hr => ?_
  obtain ⟨r', hr', rfl⟩ := List.mem_map.1 hr
  rw [State.tile_setT_same]
  exact hclean r' hr'

theorem State.scalarsClean_one {s : State} {t : Nat} {a : BitVec 5} (h : s.sP t a = false) : s.scalarsClean t [a] :=
  fun _ hr => List.mem_singleton.1 hr ▸ h

section
variable {s : State} {t : Tile} {cond : BitVec 4} {a b : BitVec 5} {off : W32} {c : Bool}

/-- A branch whose operands are listed and clean jumps by its offset or goes on. -/
theorem br_jumps (h : s.canIssue t (branchReads cond a b) [] []) (htaken : (s.tile t).issued1.branch cond a b = some c)
    (hpred : ∀ n, Reg.p n ∈ branchReads cond a b → (s.tile t).pBad n = false)
    (hclean : ∀ r ∈ branchScalars cond a b, (s.tile t).sBad r = false) :
    exec (.br t cond a b off) s =
      .next (if c then s.jumpTo t (BitVec.ofNat 32 (s.tile t).index + off).toNat else s.onlyIssued t) := by
  refine congrArg Outcome.next ((s.issue_ready t _ _ _ _ h).trans ?_)
  simp only [State.tile_setT_same, htaken]
  rw [if_neg, State.clean_ready]
  · split
    · simp [State.jumpTo, jumpIndex]
    · rfl
  · simpa using hclean
  · simp only [List.any_eq_true, not_exists, not_and]
    intro r hr
    cases r with
    | p n => simp [hpred n hr]
    | _ => simp

/-- The same with the condition as T6.9 states it. -/
theorem br_completes {P : Prop} (h : s.canIssue t (branchReads cond a b) [] []) (htaken : (s.tile t).issued1.branch cond a b = some c)
    (hpred : ∀ n, Reg.p n ∈ branchReads cond a b → (s.tile t).pBad n = false)
    (hclean : ∀ r ∈ branchScalars cond a b, (s.tile t).sBad r = false) (hP : c = true ↔ P) :
    Completes (.br t cond a b off) s (fun u =>
      (P → u = s.jumpTo t (BitVec.ofNat 32 (s.tile t).index + off).toNat) ∧ (¬ P → u = s.onlyIssued t)) :=
  ⟨_, br_jumps h htaken hpred hclean, fun hp => if_pos (hP.2 hp), fun hp => if_neg (mt hP.1 hp)⟩

/-- A branch on scalars. -/
theorem br_scalars {P : Prop} (l : List (BitVec 5)) (h : s.canIssue t (l.map rs) [] []) (hclean : s.scalarsClean t l)
    (hreads : branchReads cond a b = l.map rs) (hscalars : branchScalars cond a b = l.map BitVec.toNat)
    (htaken : (s.tile t).issued1.branch cond a b = some c) (hP : c = true ↔ P) :
    Completes (.br t cond a b off) s (fun u =>
      (P → u = s.jumpTo t (BitVec.ofNat 32 (s.tile t).index + off).toNat) ∧ (¬ P → u = s.onlyIssued t)) := by
  refine br_completes (hreads ▸ h) htaken (fun n hn => ?_) (fun r hr => ?_) hP
  · rw [hreads, List.mem_map] at hn
    obtain ⟨_, -, hr⟩ := hn
    exact nomatch hr
  · rw [hscalars, List.mem_map] at hr
    obtain ⟨r', hr', rfl⟩ := hr
    exact hclean r' hr'

/-- A branch on a predicate, named in five bits. -/
theorem br_predicate {P : Prop} {p : BitVec 3} (h : s.canIssue t [rp p] [] []) (hclean : s.pP t p = false)
    (hreads : branchReads cond (p.setWidth 5) 0 = [.p ((p.setWidth 5).toNat % 8)]) (hscalars : branchScalars cond (p.setWidth 5) 0 = [])
    (htaken : (s.tile t).issued1.branch cond (p.setWidth 5) 0 = some c) (hP : c = true ↔ P) :
    Completes (.br t cond (p.setWidth 5) 0 off) s (fun u =>
      (P → u = s.jumpTo t (BitVec.ofNat 32 (s.tile t).index + off).toNat) ∧ (¬ P → u = s.onlyIssued t)) := by
  have hp : (p.setWidth 5).toNat % 8 = p.toNat := by simp; omega
  rw [hp] at hreads
  refine br_completes (hreads ▸ h) htaken (fun n hn => ?_) (fun r hr => ?_) hP
  · simp only [hreads, List.mem_singleton, Reg.p.injEq] at hn
    exact hn ▸ hclean
  · rw [hscalars] at hr
    exact absurd hr List.not_mem_nil

end

/-! ### Control registers (06 R191, T6.3) -/

section
variable {s : State} {t : Tile}

/-- CRD writes what the register reads. -/
theorem crd_reads {d : BitVec 5} {imm : W32} {v : W64} (h : s.canIssue t [] [rs d] []) (himm : imm.toNat < 0x1000) (hv : s.crd t imm.toNat = v) :
    exec (.crd t d imm) s = .next (s.scalarTo t d v false) := by
  subst hv
  refine congrArg Outcome.next ((s.issue_ready t _ _ _ _ h).trans ((if_neg (by omega)).trans ?_))
  simp [State.scalarTo]

/-- A counter of T6.3, and a number that is not listed. -/
theorem State.crd_counter (n : Nat) (hn : n < 8) : s.crd t (0x040 + n) = tget 0 (s.tile t).cnt n := by
  interval_cases n <;> simp [State.crd]

theorem State.crd_unlisted (n : Nat) (hn : 0x009 < n) (h : n < 0x040 ∨ 0x080 ≤ n) : s.crd t n = 0 := by
  have hrange : ¬(0x040 ≤ n ∧ n < 0x048) := by omega
  unfold State.crd
  split
  case h_10 => exact congrArg (BitVec.ofNat 64) (if_neg hrange)
  all_goals omega

/-- CWR of a writable register. -/
theorem cwr_writes {a : BitVec 5} {imm : W32} {x : TileSt} (h : s.canIssue t [rs a] [] []) (hclean : s.sP t a = false)
    (hx : (s.tile t).issued1.cwr imm.toNat (s.sR t a) = some x) : exec (.cwr t a imm) s = .next (s.setT t x) := by
  refine congrArg Outcome.next ((s.issue_ready t _ _ _ _ h).trans ((State.issued_clean (State.scalarsClean_one hclean) _ _).trans ?_))
  have hsource : (s.tile t).issued1.sGet a.toNat = s.sR t a := rfl
  simp only [State.tile_setT_same, hsource, hx, State.setT_setT]

end

theorem rmode_written (v : W64) : (if 5 ≤ v.toNat % 8 then 0 else BitVec.ofNat 3 (v.toNat % 8)) =
    if 5 ≤ v.toNat % 8 then 0 else BitVec.ofNat 3 v.toNat := by
  have hmod : BitVec.ofNat 3 (v.toNat % 8) = BitVec.ofNat 3 v.toNat := by apply BitVec.eq_of_toNat_eq; simp
  rw [hmod]

/-- Settles O3: the branches by the operands they read, the jumps, the control registers one after another. -/
theorem branchesAndControlRegistersAct : Obligations.BranchesAndControlRegistersAct := by
  unfold Obligations.BranchesAndControlRegistersAct
  refine ⟨⟨fun s t a b off => ⟨fun h => ?_, fun h hclean => ?_, fun h hclean => ?_⟩, fun s t p off => ?_, fun s t d imm h => ?_,
    fun s t a h hclean => ?_⟩, fun s t d h => ?_, fun s t a h hclean => ?_, fun s t d k h => ?_, fun s t h => ?_⟩
  · exact br_scalars [] h nofun rfl rfl rfl (by decide)
  · have br := fun {cond c P} => br_scalars (cond := cond) (a := a) (b := b) (off := off) (c := c) (P := P) [a, b] h hclean
    exact ⟨br rfl rfl rfl beq_iff_eq, br rfl rfl rfl bne_iff_ne, br rfl rfl rfl BitVec.slt_iff_toInt_lt,
      br rfl rfl rfl (by simp [slt_eq_toInt_lt, State.sR]), br rfl rfl rfl decide_eq_true_iff, br rfl rfl rfl (by simp [ult_eq_toNat_lt, State.sR])⟩
  · have br := fun {cond c P} => br_scalars (cond := cond) (a := a) (b := 0) (off := off) (c := c) (P := P) [a] h hclean
    exact ⟨br rfl rfl rfl beq_iff_eq, br rfl rfl rfl bne_iff_ne⟩
  · intro i J h hclean
    have hlt : (p.setWidth 5).toNat < 8 := by simp; omega
    have hp : (p.setWidth 5).toNat = p.toNat := by simp; omega
    have br := fun {cond c P} => br_predicate (cond := cond) (off := off) (c := c) (P := P) h hclean
    exact ⟨br rfl rfl (if_pos ⟨rfl, hlt⟩) (by simp [hp, State.pR]), br rfl rfl (if_pos ⟨rfl, hlt⟩) (by simp [hp, State.pR]),
      br rfl rfl (if_pos ⟨rfl, hlt⟩) (by simp [hp, State.pR])⟩
  · refine congrArg Outcome.next ((s.issue_ready t _ _ _ _ h).trans ?_)
    simp [State.scalarTo, jumpIndex]
  · refine congrArg Outcome.next ((s.issue_ready t _ _ _ _ h).trans ((State.issued_clean (State.scalarsClean_one hclean) _ _).trans ?_))
    simp [State.jumpTo, State.sR]
  · intro x r R
    have crd := fun {imm v} => crd_reads (imm := imm) (v := v) h
    refine ⟨crd (by decide) rfl, crd (by decide) rfl, crd (by decide) ?_, crd (by decide) ?_, crd (by decide) ?_, crd (by decide) ?_,
      crd (by decide) ?_, crd (by decide) ?_, fun n hn => ?_, fun imm hhi hlo hout => crd hhi (State.crd_unlisted _ hlo hout),
      crd (by decide) rfl⟩
    · simp only [State.crd, x]
      cases s.owner (tileRegion t) <;> rfl
    · have hmode : x.rmode.toNat < 2 ^ 3 := x.rmode.isLt
      have hsat : x.rsat.toNat < 2 := x.rsat.toNat_lt
      refine congrArg (BitVec.ofNat 64) (?_ : pack [(3, x.rmode.toNat), (1, x.rsat.toNat)] = _)
      simp only [pack]
      omega
    · simp [State.crd, x]
    · simp [State.crd, x]
    · simp [State.crd, x]
    · simp [State.crd]
    · have himm : (BitVec.ofNat 32 (0x040 + n)).toNat = 0x040 + n := by simp; omega
      exact crd (by omega) (himm.symm ▸ s.crd_counter n hn)
  · intro x V
    have cwr := fun {imm x} => cwr_writes (imm := imm) (x := x) h hclean
    refine ⟨(cwr rfl).trans ?_, cwr rfl, cwr rfl, cwr rfl⟩
    rw [rmode_written]
    rfl
  · exact State.setScalar_writes h rfl
  · exact congrArg Outcome.next (s.issue_ready t _ _ _ _ h)

end Sys2Proof.Machine
end

section
/-! PROOFS. O4, O5: how a hold of issue begins and ends; SSIG and its release point (06 R199-R201, 05 R182, R183). -/
namespace Sys2Proof.Machine

open Host

/-! ### Conditions of holds -/

theorem TileSt.drained_iff (s : State) (t : Nat) (m : BitVec 5) : (s.tile t).drained m = true ↔ s.drains t m := by
  simp only [TileSt.drained, State.drains, Bool.and_eq_true, Bool.or_eq_true, Bool.not_eq_true', List.isEmpty_iff, and_assoc]
  have hbit : ∀ (b : Bool) (p : Prop), (b = false ∨ p) ↔ (b = true → p) := fun b p => by cases b <;> simp
  simp only [hbit]

/-! ### A hold ends (06 R199-R201, 05 R182) -/

section
variable {s : State} {t : Nat}

theorem TileSt.unheld (x : TileSt) (h : x.hold = none) : { x with hold := none } = x := by rw [← h]

theorem State.tryResume_none (h : (s.tile t).hold = none) : s.tryResume t = s := by simp only [State.tryResume, h]

theorem State.tryResume_halt {code : W32} (h : (s.tile t).hold = some (.halt code)) :
    (s.drains t 0x1F → ((s.tryResume t).tile t).run = .halted ∧ ((s.tryResume t).tile t).hold = none ∧
      ((s.tryResume t).tile t).exitCode = code) ∧ (¬ s.drains t 0x1F → s.tryResume t = s) := by
  simp only [State.tryResume, h]
  refine ⟨fun hd => ?_, fun hd => if_neg (mt (TileSt.drained_iff s t _).1 hd)⟩
  rw [if_pos ((TileSt.drained_iff s t _).2 hd), State.tile_of_tiles (v := (s.haltTile t).updT t fun y => { y with exitCode := code }) (by simp), State.tile_updT_same]
  simp [State.haltTile, TileSt.halt]

theorem State.tryResume_qsync {m : BitVec 5} (h : (s.tile t).hold = some (.qsync m)) :
    (s.drains t m → s.tryResume t = s.released t) ∧ (¬ s.drains t m → s.tryResume t = s) := by
  simp only [State.tryResume, h]
  exact ⟨fun hd => if_pos ((TileSt.drained_iff s t m).2 hd), fun hd => if_neg (mt (TileSt.drained_iff s t m).1 hd)⟩

theorem State.tryResume_twait {k : Nat} {v : W16} (h : (s.tile t).hold = some (.twait k v)) :
    (tokenMet ((s.tile t).tokGet k) v → s.tryResume t = s.released t) ∧ (¬ tokenMet ((s.tile t).tokGet k) v → s.tryResume t = s) := by
  simp only [State.tryResume, h, tokHolds_iff]
  exact ⟨fun hd => if_pos hd, fun hd => if_neg hd⟩

/-- What a SWAIT waits for. -/
def State.swaitMet (s : State) (t o cmp : Nat) (v : W64) : Prop := (s.tile t).ssigs = [] ∧ compares cmp (s.objOf t o) v

theorem State.tryResume_swait {o cmp d : Nat} {v : W64} {limit : W32} (h : (s.tile t).hold = some (.swait o cmp v limit d)) :
    (s.swaitMet t o cmp v → s.tryResume t = s.releasedTo t d 0) ∧ (¬ s.swaitMet t o cmp v → s.tryResume t = s) := by
  have hmet : ((s.tile t).ssigs.isEmpty && syncCmp cmp (s.objOf t o) v) = true ↔ s.swaitMet t o cmp v := by
    simp [State.swaitMet, syncCmp_iff]
  simp only [State.tryResume, h]
  exact ⟨fun hd => if_pos (hmet.2 hd), fun hd => if_neg (mt hmet.1 hd)⟩

theorem State.tryResume_srd {o d : Nat} (h : (s.tile t).hold = some (.srd o d)) : s.tryResume t = s.releasedTo t d (s.objOf t o) := by
  simp only [State.tryResume, h]
  rfl

theorem State.tryResume_stwait {eg : Bool} {e d : Nat} (h : (s.tile t).hold = some (.stwait eg e d)) :
    s.tryResume t = match stwaitValue ((s.tile t).entryState eg e) with
      | some v => s.releasedTo t d v
      | none => s := by
  simp only [State.tryResume, h]
  rfl

/-- ISSUE_RESUME where the hold ends. -/
theorem issueResume_ends {t : Tile} (h : ((s.tryResume t).tile t).hold = none) : exec (.issueResume t) s = .next (s.tryResume t) := by
  show ok (match ((s.tryResume t).tile t).hold with
    | some (.twait _ _) => _
    | some (.swait _ _ _ _ _) => _
    | _ => _) = _
  rw [h]
  rfl

theorem State.released_hold : ((s.released t).tile t).hold = none := by simp [State.released]
theorem State.releasedTo_hold (d : Nat) (v : W64) : ((s.releasedTo t d v).tile t).hold = none := by simp [State.releasedTo]

theorem issueResume_released {t : Tile} (h : s.tryResume t = s.released t) : exec (.issueResume t) s = .next (s.released t) := by
  rw [issueResume_ends (h ▸ State.released_hold), h]

theorem issueResume_releasedTo {t : Tile} {d : Nat} {v : W64} (h : s.tryResume t = s.releasedTo t d v) :
    exec (.issueResume t) s = .next (s.releasedTo t d v) := by
  rw [issueResume_ends (h ▸ State.releasedTo_hold d v), h]

/-- ISSUE_RESUME where a TWAIT waits on: a tclk more of ISSUE_WAIT. -/
theorem issueResume_waits {t : Tile} {k : Nat} {v : W16} (h : (s.tile t).hold = some (.twait k v)) (hwaits : s.tryResume t = s) :
    exec (.issueResume t) s = .next (s.setT t ((s.tile t).count 3 1)) := by
  show ok (match ((s.tryResume t).tile t).hold with
    | some (.twait _ _) => (s.tryResume t).updT t (fun x => x.count 3 1)
    | some (.swait _ _ _ _ _) => (s.tryResume t).updT t (fun x => x.count 3 1)
    | _ => s.tryResume t) = _
  rw [hwaits, h]
  rfl

theorem State.entryState_tap (x : TileSt) (e : Nat) : x.entryState false e = ((x.tap e).state, (x.tap e).status) := rfl

/-- The timeout of a SWAIT with a limit. -/
theorem swaitTimeout_passes {t : Tile} {o cmp d : Nat} {v : W64} {limit : W32} (h : (s.tile t).hold = some (.swait o cmp v limit d))
    (hlimit : limit ≠ 0) : exec (.swaitTimeout t) s =
      .next (if ((s.tryResume t).tile t).hold.isNone then s.tryResume t else s.releasedTo t d 1) := by
  show ok (match (s.tile t).hold with
    | some (.swait _ _ _ limit d) => _
    | _ => _) = _
  rw [h]
  exact congrArg Outcome.next (if_neg hlimit)

end

/-! ### A hold begins -/

section
variable {s : State} {t : Nat} {h : Hold}

theorem State.holdOn_issued : (s.setT t (s.tile t).issued1).holdOn t h = (s.heldOn t h).tryResume t := by
  simp [State.holdOn, State.heldOn]

@[simp] theorem State.heldOn_tile : (s.heldOn t h).tile t = { (s.tile t).issued1 with hold := some h } := s.tile_setT_same t _

theorem State.heldOn_released (hfree : (s.tile t).hold = none) : (s.heldOn t h).released t = s.onlyIssued t := by
  simp only [State.released, State.heldOn_tile]
  simp only [State.heldOn, State.setT_setT, State.onlyIssued]
  exact congrArg (s.setT t) (TileSt.unheld (s.tile t).issued1 hfree)

theorem State.heldOn_releasedTo (hfree : (s.tile t).hold = none) (d : BitVec 5) (v : W64) :
    (s.heldOn t h).releasedTo t d.toNat v = s.scalarTo t d v false := by
  simp only [State.releasedTo, State.heldOn_tile]
  simp only [State.heldOn, State.setT_setT, State.scalarTo]
  exact congrArg (s.setT t) (TileSt.unheld ((s.tile t).issued1.sSet d.toNat v false) hfree)

theorem State.heldOn_hold : ((s.heldOn t h).tile t).hold = some h := by rw [State.heldOn_tile]

theorem State.heldOn_drains (m : BitVec 5) : (s.heldOn t h).drains t m ↔ s.drains t m := by
  simp only [State.drains, State.heldOn_tile, TileSt.issued1_vq, TileSt.issued1_tq, TileSt.issued1_sq, TileSt.issued1_mq, TileSt.issued1_xq]

theorem State.heldOn_swaitMet (o cmp : Nat) (v : W64) : (s.heldOn t h).swaitMet t o cmp v ↔ s.swaitMet t o cmp v := by
  simp only [State.swaitMet, State.heldOn_tile]
  rfl

end

/-! ### Instructions that hold issue (06 R199-R201) -/

section
variable {s : State} {t : Tile}

/-- An instruction that issues and holds, unless its hold ends at once. -/
theorem State.issue_holds {reads writes : List Reg} {l : List (BitVec 5)} (h : s.canIssue t reads writes []) (hclean : s.scalarsClean t l)
    {f : State → Nat → State} {hold : Hold} (hf : f (s.setT t (s.tile t).issued1) (s.tile t).index =
      (s.setT t (s.tile t).issued1).clean t (s.tile t).index (l.map BitVec.toNat) ((s.setT t (s.tile t).issued1).holdOn t hold)) :
    ok (s.issue t reads writes [] f) = .next ((s.heldOn t hold).tryResume t) := by
  refine congrArg Outcome.next ((s.issue_ready t _ _ _ _ h).trans (hf.trans ?_))
  rw [State.issued_clean hclean, State.holdOn_issued]

/-- HALT halts a drained tile, and holds another. -/
theorem halt_outcome {i : Instr} {code : W32} (hexec : exec i s = .next ((s.heldOn t (.halt code)).tryResume t)) :
    Completes i s (fun u => (s.drains t 0x1F → (u.tile t).run = .halted ∧ (u.tile t).exitCode = code) ∧
      (¬ s.drains t 0x1F → u = s.heldOn t (.halt code))) := by
  obtain ⟨hends, hholds⟩ := State.tryResume_halt (s.heldOn_hold (t := t) (h := .halt code))
  rw [State.heldOn_drains] at hends hholds
  refine ⟨_, hexec, fun hd => ?_, hholds⟩
  obtain ⟨hrun, -, hcode⟩ := hends hd
  exact ⟨hrun, hcode⟩

theorem qsync_outcome (h : s.canIssue t [] [] []) (m : BitVec 5) : Completes (.qsync t (m.setWidth 32)) s (fun u =>
    (s.drains t m → u = s.onlyIssued t) ∧ (¬ s.drains t m → u = s.heldOn t (.qsync m))) := by
  obtain ⟨-, hfree, -⟩ := id h
  have hm : (m.setWidth 32).toNat < 32 := by simp; omega
  obtain ⟨hends, hholds⟩ := State.tryResume_qsync (s.heldOn_hold (t := t) (h := .qsync m))
  rw [State.heldOn_drains] at hends hholds
  refine ⟨_, State.issue_holds (l := []) h nofun ((if_neg (by omega)).trans ?_), fun hd => (hends hd).trans (State.heldOn_released hfree), hholds⟩
  rw [BitVec.setWidth_setWidth_of_le m (by decide), BitVec.setWidth_eq]
  rfl

/-- TWAIT goes on where its condition stands, and holds where it does not. -/
theorem twait_outcome {i : Instr} {k : Nat} {v : W16} (hfree : (s.tile t).hold = none)
    (hexec : exec i s = .next ((s.heldOn t (.twait k v)).tryResume t)) :
    Completes i s (fun u => (tokenMet ((s.tile t).tokGet k) v → u = s.onlyIssued t) ∧
      (¬ tokenMet ((s.tile t).tokGet k) v → u = s.heldOn t (.twait k v))) := by
  obtain ⟨hends, hholds⟩ := State.tryResume_twait (s.heldOn_hold (t := t) (h := .twait k v))
  rw [State.heldOn_tile] at hends hholds
  exact ⟨_, hexec, fun hm => (hends hm).trans (State.heldOn_released hfree), hholds⟩

theorem swait_outcome {d a b c : BitVec 5} {cmp : BitVec 4} (h : s.canIssue t [rs a, rs b, rs c] [rs d] []) (hclean : s.scalarsClean t [a, b, c])
    (hcmp : cmp.toNat < 4) :
    let off := (s.sR t a).toNat % 2 ^ 15
    off < s.tileSyncCount t → Completes (.swait t d a b c cmp) s (fun u => (s.swaitMet t off cmp.toNat (s.sR t b) → u = s.scalarTo t d 0 false) ∧
      (¬ s.swaitMet t off cmp.toNat (s.sR t b) → u = s.heldOn t (.swait off cmp.toNat (s.sR t b) (lo32 (s.sR t c)) d.toNat))) := by
  intro off hoff
  obtain ⟨-, hfree, -⟩ := id h
  obtain ⟨hends, hholds⟩ := State.tryResume_swait (s.heldOn_hold (t := t) (h := .swait off cmp.toNat (s.sR t b) (lo32 (s.sR t c)) d.toNat))
  rw [State.heldOn_swaitMet] at hends hholds
  refine ⟨_, State.issue_holds (l := [a, b, c]) h hclean ((if_neg (by omega)).trans ?_),
    fun hm => (hends hm).trans (State.heldOn_releasedTo hfree d 0), hholds⟩
  refine congrArg (State.clean _ t _ _) ((if_neg (not_le.2 ?_)).trans ?_)
  · rw [State.tile_setT_same]
    exact hoff
  · simp only [State.tile_setT_same]
    rfl

theorem srd_holds {d a : BitVec 5} (h : s.canIssue t [rs a] [rs d] []) (hclean : s.sP t a = false)
    (hoff : (s.sR t a).toNat % 2 ^ 15 < s.tileSyncCount t) :
    exec (.srd t d a) s = .next (s.heldOn t (.srd ((s.sR t a).toNat % 2 ^ 15) d.toNat)) := by
  refine congrArg Outcome.next ((s.issue_ready t _ _ _ _ h).trans ((State.issued_clean (State.scalarsClean_one hclean) _ _).trans
    ((if_neg (not_le.2 ?_)).trans ?_)))
  · rw [State.tile_setT_same]
    exact hoff
  · simp [State.heldOn, State.sR]

/-- STWAIT names an entry; what it writes or waits for follows the entry's state. -/
theorem stwait_outcome {d : BitVec 5} {e : BitVec 3} {eg : Bool} (h : s.canIssue t [] [rs d] []) (he : eg = true → e.toNat < 4) :
    exec (.stwait t d e eg) s = .next (match stwaitValue ((s.tile t).entryState eg e.toNat) with
      | some v => s.scalarTo t d v false
      | none => s.heldOn t (.stwait eg e.toNat d.toNat)) := by
  obtain ⟨-, hfree, -⟩ := id h
  have hentry : entryOk eg e = true := by cases eg <;> simp_all [entryOk]
  refine (State.issue_holds (l := []) (hold := .stwait eg e.toNat d.toNat) h nofun ((if_pos hentry).trans rfl)).trans (congrArg Outcome.next ?_)
  rw [State.tryResume_stwait State.heldOn_hold, State.heldOn_tile]
  simp only [State.heldOn_releasedTo hfree]
  rfl

end

theorem Tap.genWord_eq (p : Tap) : p.genWord = if p.seen then p.gen.toNat + 2 ^ 32 * p.slot.toNat else 2 ^ 63 := by
  have hgen : p.gen.toNat < 2 ^ 32 := p.gen.isLt
  have hslot : p.slot.toNat < 2 := p.slot.toNat_lt
  unfold Tap.genWord
  simp only [pack]
  split <;> omega

/-- Settles O4, instruction by instruction. -/
theorem holdsBeginAsTheirConditionsSay : Obligations.HoldsBeginAsTheirConditionsSay := by
  unfold Obligations.HoldsBeginAsTheirConditionsSay
  refine ⟨fun s t a imm => ⟨fun h => ?_, fun h hclean => ?_⟩, fun s t m h => qsync_outcome h m, fun s t k d v => ⟨fun h => ?_, fun h hclean => ?_⟩,
    fun s t d a b c cmp h hclean hcmp => swait_outcome h hclean hcmp, fun s t d a h hclean hoff => srd_holds h hclean hoff,
    fun s t d e eg h he => ?_, fun s t d e h => ⟨?_, ?_⟩⟩
  · exact halt_outcome (State.issue_holds (l := []) h nofun (if_neg (by simp)))
  · refine halt_outcome (State.issue_holds (l := [a]) h (State.scalarsClean_one hclean) ((if_neg (by simp)).trans ?_))
    rw [State.tile_setT_same]
    rfl
  · obtain ⟨-, hfree, -⟩ := id h
    have hv : (v.setWidth 32).setWidth 16 = v := by simp
    have hlt : (v.setWidth 32).toNat < 65536 := by simp; omega
    refine twait_outcome hfree (State.issue_holds (l := []) h nofun ((if_neg ?_).trans ?_))
    · simp [-BitVec.toNat_setWidth, hlt]
    · simp only [Bool.false_eq_true, if_false, hv]
      rfl
  · obtain ⟨-, hfree, -⟩ := id h
    refine twait_outcome hfree (State.issue_holds (l := [d]) h (State.scalarsClean_one hclean) ((if_neg (by simp)).trans ?_))
    rw [State.tile_setT_same]
    rfl
  · intro st code
    have hentry : (s.tile t).entryState eg e.toNat = (st, code) := by cases eg <;> rfl
    refine ⟨_, stwait_outcome h he, fun hst => ?_, fun hst => ?_, fun hst => ?_, fun hst => ?_⟩
    · rw [hentry, hst]; rfl
    · rw [hentry, hst]; rfl
    · rw [hentry, hst]; rfl
    · obtain hst | hst := hst <;> (rw [hentry, hst]; rfl)
  · refine State.setScalar_writes h ((congrArg (BitVec.ofNat 64) (Tap.genWord_eq _)).trans (apply_ite _ _ _ _))
  · refine congrArg Outcome.next ((s.issue_ready t _ _ _ _ h).trans ((if_pos rfl).trans ?_))
    rw [State.updT_eq, State.tile_setT_same, State.setT_setT]
    rfl

/-! ### SSIG and its release point (06 R200, 05 R183) -/

/-- The scalars that the operands of an SSIG name. -/
def SyncOff.scalars : SyncOff → List (BitVec 5)
  | .imm _ => []
  | .reg d => [d]
def SyncVal.scalars : SyncVal → List (BitVec 5)
  | .reg a => [a]
  | .one => []

/-- The object's offset and the value that an SSIG gives. -/
def State.ssigOff (s : State) (t : Nat) : SyncOff → Nat
  | .imm k => k.toNat
  | .reg d => (s.sR t d).toNat % 2 ^ 15
def State.ssigVal (s : State) (t : Nat) : SyncVal → W64
  | .reg a => s.sR t a
  | .one => 1

/-- Tile `t` has issued an SSIG, which waits for its release point. -/
def State.ssigQueued (s : State) (t : Nat) (set : Bool) (o : Nat) (v : W64) : State :=
  s.setT t { (s.tile t).issued1 with ssigs := (s.tile t).ssigs ++ [{ obj := o, set := set, value := v, after := (s.tile t).issued }] }

/-- The tile with an SSIG put behind those that wait. -/
def TileSt.putSsig (x : TileSt) (set : Bool) (o : Nat) (v : W64) : TileSt :=
  { x with ssigs := x.ssigs ++ [{ obj := o, set := set, value := v, after := x.issued - 1 }] }

section
variable {s : State} {t : Tile}

/-- SSIG by the scalars its operands name. -/
theorem State.ssig_eq (s : State) (t : Tile) (set : Bool) (off : SyncOff) (val : SyncVal) :
    s.ssig t set off val = s.issue t ((off.scalars ++ val.scalars).map rs) [] [] (fun u i =>
      u.clean t i ((off.scalars ++ val.scalars).map BitVec.toNat)
        (u.syncCheck t i (u.ssigOff t off) (u.updT t (fun y => y.putSsig set (u.ssigOff t off) (u.ssigVal t val))))) := by
  cases off <;> cases val <;> rfl

theorem State.ssig_queues {off : SyncOff} {val : SyncVal} (set : Bool) (h : s.canIssue t ((off.scalars ++ val.scalars).map rs) [] [])
    (hclean : s.scalarsClean t (off.scalars ++ val.scalars)) (hoff : s.ssigOff t off < s.tileSyncCount t) :
    s.ssig t set off val = s.ssigQueued t set (s.ssigOff t off) (s.ssigVal t val) := by
  have hofs : (s.setT t (s.tile t).issued1).ssigOff t off = s.ssigOff t off := by
    cases off <;> simp [State.ssigOff, State.sR]
  have hval : (s.setT t (s.tile t).issued1).ssigVal t val = s.ssigVal t val := by
    cases val <;> simp [State.ssigVal, State.sR]
  rw [State.ssig_eq, s.issue_ready t _ _ _ _ h, State.issued_clean hclean, hofs, hval]
  refine (if_neg (not_le.2 hoff)).trans ?_
  rw [State.updT_eq, State.tile_setT_same, State.setT_setT]
  rfl

end

/-- A sync object that changes moves none. -/
theorem State.tileObj_syncSet (s : State) (t o j : Nat) (w : W64) : (s.syncSet j w).tileObj t o = s.tileObj t o := by
  have hrgn : (s.syncSet j w).rgn = s.rgn := by
    obtain ⟨p, hp⟩ := s.syncSet_only j w
    rw [hp]
  have howner : (s.syncSet j w).owner (tileRegion t) = s.owner (tileRegion t) :=
    congrArg (fun l => (tget (Region.reset (tileRegion t)) l (tileRegion t)).partition) hrgn
  have hbase : ∀ n, ((s.syncSet j w).pt n).syncBase = (s.pt n).syncBase := fun n => by rw [State.syncSet_pt]
  simp only [State.tileObj, howner, hbase]

/-- Tile `t` with these SSIGs waiting. -/
def State.ssigsLeft (s : State) (t : Nat) (r : List Ssig) : State := s.updT t (fun y => { y with ssigs := r })

/-- The oldest SSIG at its release point. -/
theorem ssigRelease_releases {s : State} {t : Tile} {g : Ssig} {r : List Ssig} (hg : (s.tile t).ssigs = g :: r)
    (hdone : ∀ e ∈ (s.tile t).entries, g.after ≤ e.id) : Completes (.ssigRelease t) s (fun u =>
      (u.tile t).ssigs = r ∧ u.objOf t g.obj = (if g.set then g.value else s.objOf t g.obj + g.value) ∧
      ∀ o, o ≠ s.tileObj t g.obj → u.syncGet o = s.syncGet o) := by
  have hall : (s.tile t).entries.all (fun e => decide (g.after ≤ e.id)) = true := by simpa using hdone
  have hexec : exec (.ssigRelease t) s =
      .next ((s.ssigsLeft t r).syncSet (s.tileObj t g.obj) (if g.set then g.value else s.objOf t g.obj + g.value)) := by
    refine congrArg Outcome.next ?_
    simp only [hg, hall, if_true]
    cases g.set <;> rfl
  refine ⟨_, hexec, ?_, ?_, fun o ho => (s.ssigsLeft t r).syncGet_syncSet_other _ _ o ho⟩
  · rw [State.tile_of_tiles (v := s.ssigsLeft t r) (by simp), State.ssigsLeft, State.tile_updT_same]
  · rw [State.objOf, State.tileObj_syncSet]
    exact State.syncGet_syncSet_same _ _ _

/-- Settles O5: each hold by what it waits for, then SSIG as it is queued and as it is released. -/
theorem holdsEndAndSyncSignalsWait : Obligations.HoldsEndAndSyncSignalsWait := by
  unfold Obligations.HoldsEndAndSyncSignalsWait
  refine ⟨fun s t => ⟨fun hnone => ⟨?_, ?_⟩, fun code hh hd => ?_, fun m hh hd => ?_, fun k v hh => ⟨fun hm => ?_, fun hm => ?_⟩,
    fun o d hh => ?_, fun e d st hh hst hdone => ?_, fun e d st hh hst hab => ?_, fun o cmp v limit d hh => ⟨fun hm => ?_, fun hm hl => ?_,
    fun hm hl => ?_⟩⟩, fun s t off d a set => ?_, fun s t g r hg hdone => ssigRelease_releases hg hdone⟩
  · have hs := State.tryResume_none hnone
    rw [issueResume_ends (hs.symm ▸ hnone), hs]
  · exact congrArg Outcome.next (by rw [hnone])
  · obtain ⟨hrun, hhold, hcode⟩ := (State.tryResume_halt hh).1 hd
    exact ⟨_, issueResume_ends hhold, hrun, hhold, hcode⟩
  · exact issueResume_released ((State.tryResume_qsync hh).1 hd)
  · exact issueResume_released ((State.tryResume_twait hh).1 hm)
  · exact issueResume_waits hh ((State.tryResume_twait hh).2 hm)
  · exact issueResume_releasedTo (State.tryResume_srd hh)
  · refine issueResume_releasedTo ((State.tryResume_stwait hh).trans ?_)
    rw [State.entryState_tap, hst, hdone]
    rfl
  · refine issueResume_releasedTo ((State.tryResume_stwait hh).trans ?_)
    rw [State.entryState_tap, hst, hab]
    rfl
  · exact issueResume_releasedTo ((State.tryResume_swait hh).1 hm)
  · rw [swaitTimeout_passes hh hl, (State.tryResume_swait hh).1 hm, State.releasedTo_hold]
    rfl
  · rw [swaitTimeout_passes hh hl, (State.tryResume_swait hh).2 hm, hh]
    rfl
  · have ssig : ∀ o v, ok (s.ssig t set o v) = exec (if set then .ssigSet t o v else .ssig t o v) s := fun o v => by cases set <;> rfl
    intro i Q
    refine ⟨fun h hoff => ?_, fun h hclean hoff => ?_, fun h hclean hoff => ?_, fun h hclean hoff => ?_⟩
    · exact (ssig _ _).symm.trans (congrArg Outcome.next (State.ssig_queues (off := .imm off) (val := .one) set h nofun hoff))
    · exact (ssig _ _).symm.trans (congrArg Outcome.next (State.ssig_queues (off := .imm off) (val := .reg a) set h (State.scalarsClean_one hclean) hoff))
    · exact (ssig _ _).symm.trans (congrArg Outcome.next (State.ssig_queues (off := .reg d) (val := .one) set h (State.scalarsClean_one hclean) hoff))
    · exact (ssig _ _).symm.trans (congrArg Outcome.next (State.ssig_queues (off := .reg d) (val := .reg a) set h hclean hoff))

end Sys2Proof.Machine
end

section
/-! PROOFS. Queued instructions that issue and begin at once (05 R154-R156, 06 R185-R190): what every one of them leaves, whatever its effect.
O11: TZERO (06 R207). -/
namespace Sys2Proof.Machine

open Host

/-! ### The tile as an instruction begins -/

/-- A tile with the queues and the counters of issue of another; the rest is its own. -/
def TileSt.requeued (x z : TileSt) : TileSt :=
  { x with
    index := z.index, issued := z.issued, cnt := z.cnt, srctr := z.srctr, hashStall := z.hashStall
    vq := z.vq, tq := z.tq, sq := z.sq, mq := z.mq, xq := z.xq }

section
variable (x y z : TileSt)

@[simp] theorem TileSt.requeued_sBad (r : Nat) : (x.requeued z).sBad r = x.sBad r := rfl
@[simp] theorem TileSt.requeued_aGet (r : Nat) : (x.requeued z).aGet r = x.aGet r := rfl
@[simp] theorem TileSt.requeued_queue (q : Queue) : (x.requeued z).queue q = z.queue q := by cases q <;> rfl
@[simp] theorem TileSt.requeued_srctr : (x.requeued z).srctr = z.srctr := rfl
theorem TileSt.requeued_mapQueue (q : Queue) (id : Nat) (f : QEntry → QEntry) : (x.requeued z).mapQueue q id f = x.requeued (z.mapQueue q id f) := by
  cases q <;> rfl
theorem TileSt.mapQueue_queue (q : Queue) (id : Nat) (f : QEntry → QEntry) :
    (z.mapQueue q id f).queue q = (z.queue q).map (fun e => if e.id = id then f e else e) := by cases q <;> rfl
theorem TileSt.mapQueue_srctr (q : Queue) (id : Nat) (f : QEntry → QEntry) : (z.mapQueue q id f).srctr = z.srctr := by cases q <;> rfl

end

/-- The entry of an instruction as it issues (06 R190). -/
def TileSt.newEntry (x : TileSt) (op : QOp) (k : Tok) : QEntry :=
  { id := x.issued, op := op, tok := k, index := x.index, mode := x.rmode, sat := x.rsat, seed := x.srseed, ctr := x.srctr }

/-- The tile that has issued an instruction into its queue. -/
def TileSt.enqueued (x : TileSt) (op : QOp) (k : Tok) : TileSt :=
  { x.issued1.setQueue op.queue (x.queue op.queue ++ [x.newEntry op k]) with srctr := x.srctr + BitVec.ofNat 64 (op.draws x.rmode) }

/-- An entry of this instruction stands last in its queue of tile `z`, behind the instructions that stood there in `x`. -/
def TileSt.holdsEntry (x z : TileSt) (op : QOp) (k : Tok) : Prop :=
  ∃ (l : List QEntry) (e : QEntry), z.queue op.queue = l ++ [e] ∧ l.map (fun y => y.op) = (x.queue op.queue).map (fun y => y.op) ∧
    e.id = x.issued ∧ e.op = op ∧ e.tok = k ∧ e.index = x.index

section
variable {x : TileSt} {op : QOp} {k : Tok}

theorem TileSt.enqueued_requeued (x : TileSt) (op : QOp) (k : Tok) : x.enqueued op k = x.requeued (x.enqueued op k) := by
  unfold TileSt.enqueued
  cases op.queue <;> rfl

theorem TileSt.enqueued_queue (x : TileSt) (op : QOp) (k : Tok) : (x.enqueued op k).queue op.queue = x.queue op.queue ++ [x.newEntry op k] := by
  unfold TileSt.enqueued
  cases op.queue <;> rfl

theorem TileSt.enqueued_holdsEntry (x : TileSt) (op : QOp) (k : Tok) : x.holdsEntry (x.enqueued op k) op k :=
  ⟨_, _, x.enqueued_queue op k, rfl, rfl, rfl, rfl, rfl⟩

/-- What an entry's record of its progress changes leaves it in its place. -/
theorem TileSt.holdsEntry.mapQueue {z : TileSt} (h : x.holdsEntry z op k) {id : Nat} {f : QEntry → QEntry}
    (hid : ∀ e, (f e).id = e.id) (hop : ∀ e, (f e).op = e.op) (htok : ∀ e, (f e).tok = e.tok) (hindex : ∀ e, (f e).index = e.index) :
    x.holdsEntry (z.mapQueue op.queue id f) op k := by
  obtain ⟨l, e, hq, hl, he⟩ := h
  have hmap : ∀ y : QEntry, (if y.id = id then f y else y).op = y.op ∧ (if y.id = id then f y else y).id = y.id ∧
      (if y.id = id then f y else y).tok = y.tok ∧ (if y.id = id then f y else y).index = y.index := fun y => by
    split <;> simp [hid, hop, htok, hindex]
  refine ⟨l.map (fun y => if y.id = id then f y else y), if e.id = id then f e else e, ?_, ?_, ?_⟩
  · rw [TileSt.mapQueue_queue, hq, List.map_append]
    rfl
  · rw [← hl, List.map_map]
    exact List.map_congr_left fun y _ => (hmap y).1
  · obtain ⟨h1, h2, h3, h4⟩ := hmap e
    rw [h1, h2, h3, h4]
    exact he

end

/-! ### The head of a queue begins, MQ among them -/

section
variable {s : State} {t : Nat} {q : Queue} {e : QEntry} (hrun : (s.tile t).run = .running)
  (hhead : ((s.tile t).queue q).find? (fun z => !z.begun) = some e)
  (hroom : q = .mq → (s.xfers.filter (fun y => decide (y.t = t) && !y.finished)).length < 8)
include hrun hhead hroom

theorem State.beginHead_freely (hwe : e.tok.we = false) : s.beginHead t q = s.startEntry t e := by
  have hmq : ¬(q = .mq ∧ 8 ≤ (s.xfers.filter (fun y => decide (y.t = t) && !y.finished)).length) := fun h => absurd (hroom h.1) (by omega)
  unfold State.beginHead
  simp only [hrun, hhead, if_neg hmq, hwe]
  rfl

theorem State.beginHead_met (hwe : e.tok.we = true) (hv : e.waitV = none) (hclean : (s.tile t).sBad e.tok.ws.toNat = false)
    (hlive : (s.tile t).abortedToken e.tok.wt = none)
    (hmet : tokenMet ((s.tile t).tokGet e.tok.wt.toNat) (((s.tile t).sGet e.tok.ws.toNat).setWidth 16)) :
    s.beginHead t q = (s.waitRead t q e (((s.tile t).sGet e.tok.ws.toNat).setWidth 16)).startEntry t e := by
  have hmq : ¬(q = .mq ∧ 8 ≤ (s.xfers.filter (fun y => decide (y.t = t) && !y.finished)).length) := fun h => absurd (hroom h.1) (by omega)
  unfold State.beginHead
  simp only [hrun, hhead, if_neg hmq, hwe, hv, hclean, hlive, Option.getD_none, (tokHolds_iff _ _).2 hmet]
  rfl

end

/-! ### Issue -/

/-- An entry that has read the value its token wait names. -/
def QEntry.waits (e : QEntry) (v : W16) : QEntry := { e with waitV := some v }

section
variable {s : State} {t : Nat} {op : QOp} {k : Tok} (h : s.canQueue t op k)
include h

theorem State.issueQ_enqueues : s.issueQ t op k = (s.setT t ((s.tile t).enqueued op k)).beginHead t op.queue := by
  obtain ⟨hissue, hfields, hk, hdepth, -, -, -⟩ := h
  obtain ⟨hrun, hhold, -⟩ := id hissue
  unfold State.issueQ
  rw [if_neg (by simp [hrun, hhold]), if_neg (by simp [hfields, hk]), if_neg (by omega)]
  refine (s.issue_ready t _ _ _ _ hissue).trans ?_
  simp only [State.updT_eq, State.tile_setT_same, State.setT_setT]
  have hqueue : (s.tile t).issued1.queue op.queue = (s.tile t).queue op.queue := by cases op.queue <;> rfl
  rw [hqueue]
  rfl

/-- A queued instruction that may begin at once starts on the tile that has issued it. -/
theorem State.issueQ_starts :
    ∃ z, (s.tile t).holdsEntry z op k ∧ z.srctr = (s.tile t).srctr + BitVec.ofNat 64 (op.draws (s.tile t).rmode) ∧
      s.issueQ t op k = (s.setT t ((s.tile t).requeued z)).startEntry t ((s.tile t).newEntry op k) := by
  have hbegins := State.issueQ_enqueues h
  obtain ⟨⟨hrun, -⟩, -, -, -, hbegun, htok, hroom⟩ := h
  have hkept := (s.tile t).enqueued_requeued op k
  have htile := s.tile_setT_same t ((s.tile t).enqueued op k)
  have hhead : (((s.setT t ((s.tile t).enqueued op k)).tile t).queue op.queue).find? (fun z => !z.begun) = some ((s.tile t).newEntry op k) := by
    have hnone : ((s.tile t).queue op.queue).find? (fun z => !z.begun) = none := by simpa using hbegun
    rw [htile, TileSt.enqueued_queue, List.find?_append, hnone]
    rfl
  have hrun' : ((s.setT t ((s.tile t).enqueued op k)).tile t).run = .running := by rw [htile, hkept]; exact hrun
  cases hwe : k.we with
  | false =>
    refine ⟨_, (s.tile t).enqueued_holdsEntry op k, rfl, ?_⟩
    rw [hbegins, State.beginHead_freely hrun' hhead hroom hwe, ← TileSt.enqueued_requeued]
  | true =>
    obtain ⟨hclean, hlive, hmet⟩ := htok hwe
    refine ⟨((s.tile t).enqueued op k).mapQueue op.queue (s.tile t).issued (fun z => z.waits ((s.sR t k.ws).setWidth 16)),
      ((s.tile t).enqueued_holdsEntry op k).mapQueue (fun _ => rfl) (fun _ => rfl) (fun _ => rfl) (fun _ => rfl),
      TileSt.mapQueue_srctr _ _ _ _, ?_⟩
    rw [hbegins, State.beginHead_met hrun' hhead hroom hwe rfl (by rw [htile, hkept]; exact hclean) (by rw [htile, hkept]; exact hlive)
        (by rw [htile, hkept]; exact hmet), ← TileSt.requeued_mapQueue, ← TileSt.enqueued_requeued, State.waitRead, State.updT_eq, htile,
      State.setT_setT]
    have hvalue : ((s.tile t).enqueued op k).sGet ((s.tile t).newEntry op k).tok.ws.toNat = s.sR t k.ws := by rw [hkept]; rfl
    rw [hvalue]
    rfl

end

/-! ### The effect and the entry that has begun -/

/-- The state as an instruction has begun: its entry marked, and the pages that SQ waited for, if it waits no more. -/
def State.marked (w : State) (t : Nat) (e : QEntry) (fl : Fl) (i : Option Nat) : State :=
  let v := w.updT t (fun y => { y.mapQueue e.op.queue e.id (fun z => { z with begun := true, flags := fl, xfer := i }) with
    hashStall := if e.op.queue = .sq then false else y.hashStall })
  if (w.tile t).hashStall then v.stallSync else v

theorem State.startEntry_marked {v w : State} {t : Nat} {e : QEntry} {fl : Fl} {i : Option Nat} (hrun : v.runOp t e = .done w fl i) :
    v.startEntry t e = if i.isSome then (w.marked t e fl i).pumpTile t else w.marked t e fl i := by
  unfold State.startEntry
  rw [hrun]
  rfl

/-- Stalls are timed in the partitions alone. -/
theorem State.stallSync_only (s : State) : ∃ p, s.stallSync = { s with part := p } := by
  unfold State.stallSync
  refine List.foldlRecOn (List.range 12) _ (motive := fun u : State => ∃ p, u = { s with part := p }) ⟨_, rfl⟩ fun u hu n _ => ?_
  obtain ⟨p, rfl⟩ := hu
  dsimp only
  split
  · exact ⟨_, rfl⟩
  · exact ⟨_, rfl⟩

section
variable (w : State) (t : Nat) (e : QEntry) (fl : Fl) (i : Option Nat)

/-- The tile with an entry marked. -/
def TileSt.marked (x : TileSt) (e : QEntry) (fl : Fl) (i : Option Nat) : TileSt :=
  { x.mapQueue e.op.queue e.id (fun z => { z with begun := true, flags := fl, xfer := i }) with
    hashStall := if e.op.queue = .sq then false else x.hashStall }

/-- Marking an entry changes its tile and the partitions' stall times. -/
theorem State.marked_only : ∃ p, w.marked t e fl i = { w.setT t ((w.tile t).marked e fl i) with part := p } := by
  unfold State.marked
  dsimp only
  split
  · exact State.stallSync_only _
  · exact ⟨_, rfl⟩

theorem State.marked_tile : (w.marked t e fl i).tile t = (w.tile t).marked e fl i := by
  obtain ⟨p, hp⟩ := w.marked_only t e fl i
  rw [hp]
  exact w.tile_setT_same t _

theorem State.marked_tile_other (n : Nat) (h : n ≠ t) : (w.marked t e fl i).tile n = w.tile n := by
  obtain ⟨p, hp⟩ := w.marked_only t e fl i
  rw [hp]
  exact w.tile_setT_other t n _ h

theorem State.marked_memSame : w.memSame (w.marked t e fl i) := by
  obtain ⟨p, hp⟩ := w.marked_only t e fl i
  rw [hp]
  exact ⟨rfl, rfl, rfl, rfl, rfl⟩

end

section
variable {x z : TileSt} {op : QOp} {k : Tok}

theorem TileSt.marked_requeued (x z : TileSt) (e : QEntry) (fl : Fl) (i : Option Nat) :
    (x.requeued z).marked e fl i = x.requeued (z.marked e fl i) := by
  unfold TileSt.marked
  rw [TileSt.requeued_mapQueue]
  rfl

theorem TileSt.marked_queue (e : QEntry) (fl : Fl) (i : Option Nat) (q : Queue) :
    (z.marked e fl i).queue q = (z.mapQueue e.op.queue e.id (fun z => { z with begun := true, flags := fl, xfer := i })).queue q := by
  cases q <;> rfl

theorem TileSt.marked_srctr (e : QEntry) (fl : Fl) (i : Option Nat) : (z.marked e fl i).srctr = z.srctr :=
  TileSt.mapQueue_srctr _ _ _ _

/-- The entry of an instruction that has begun. -/
theorem TileSt.holdsEntry.marked (h : x.holdsEntry z op k) (fl : Fl) (i : Option Nat) :
    ∃ (l : List QEntry) (e : QEntry), (z.marked (x.newEntry op k) fl i).queue op.queue = l ++ [e] ∧
      l.map (fun y => y.op) = (x.queue op.queue).map (fun y => y.op) ∧
      e.op = op ∧ e.tok = k ∧ e.begun = true ∧ e.flags = fl ∧ e.index = x.index := by
  obtain ⟨l, e, hq, hl, hid, hop, htok, hindex⟩ := h
  let f : QEntry → QEntry := fun y => if y.id = x.issued then { y with begun := true, flags := fl, xfer := i } else y
  refine ⟨l.map f, { e with begun := true, flags := fl, xfer := i }, ?_, ?_, hop, htok, rfl, rfl, hindex⟩
  · have he : f e = { e with begun := true, flags := fl, xfer := i } := if_pos hid
    rw [TileSt.marked_queue, ← he]
    refine (TileSt.mapQueue_queue _ _ _ _).trans ?_
    rw [show (x.newEntry op k).op.queue = op.queue from rfl, hq, List.map_append]
    rfl
  · rw [← hl, List.map_map]
    refine List.map_congr_left fun y _ => ?_
    by_cases hy : y.id = x.issued <;> simp [f, hy]

end

/-! ### A queued instruction and its effect -/

/-- The tile after an effect: `x` with queues in which the entry has begun, SRCTR advanced by the instruction's draws. -/
structure State.hasBegun (s u : State) (t : Nat) (op : QOp) (k : Tok) (fl : Fl) (x : TileSt) : Prop where
  tile : ∃ z, u.tile t = x.requeued z
  srctr : (u.tile t).srctr = (s.tile t).srctr + BitVec.ofNat 64 (op.draws (s.tile t).rmode)
  entry : s.entryBegun u t op k fl

/-- An effect that leaves tile `x`, with the queue and the counter of `z`. -/
def State.leavesTile (w : State) (t : Nat) (x z : TileSt) (op : QOp) : Prop :=
  ∃ z', w.tile t = x.requeued z' ∧ z'.queue op.queue = z.queue op.queue ∧ z'.srctr = z.srctr

section
variable {s : State} {t : Nat} {op : QOp} {k : Tok} {fl : Fl} {x : TileSt} {i : Option Nat}

theorem State.marked_hasBegun {w : State} {z : TileSt} (hz : (s.tile t).holdsEntry z op k)
    (hsrctr : z.srctr = (s.tile t).srctr + BitVec.ofNat 64 (op.draws (s.tile t).rmode)) (hw : w.leavesTile t x z op) :
    s.hasBegun (w.marked t ((s.tile t).newEntry op k) fl i) t op k fl x := by
  obtain ⟨z', htile, hqueue, hctr⟩ := hw
  have hmarked : (w.marked t ((s.tile t).newEntry op k) fl i).tile t = x.requeued (z'.marked ((s.tile t).newEntry op k) fl i) := by
    rw [State.marked_tile, htile, TileSt.marked_requeued]
  have hholds : (s.tile t).holdsEntry z' op k := by
    obtain ⟨l, e, hq, he⟩ := hz
    exact ⟨l, e, hqueue.trans hq, he⟩
  refine ⟨⟨_, hmarked⟩, ?_, ?_⟩
  · rw [hmarked, TileSt.requeued_srctr, TileSt.marked_srctr, hctr, hsrctr]
  · obtain ⟨l, e, hq, he⟩ := hholds.marked fl i
    exact ⟨l, e, by rw [hmarked, TileSt.requeued_queue, hq], he⟩

/-- A queued instruction that issues, begins and is no transfer: `P` says what its effect leaves, whatever tile it begins on. -/
theorem queued_some {c : Instr} {P : State → TileSt → Fl → Prop} (h : s.canQueue t op k) (hexec : exec c s = ok (s.issueQ t op k))
    (hrun : ∀ z, ∃ w x fl, (s.setT t ((s.tile t).requeued z)).runOp t ((s.tile t).newEntry op k) = .done w fl none ∧ w.leavesTile t x z op ∧ P w x fl) :
    Completes c s (fun u => ∃ w x fl, s.hasBegun u t op k fl x ∧ (∀ n, n ≠ t → u.tile n = w.tile n) ∧ w.memSame u ∧ P w x fl) := by
  obtain ⟨z, hz, hsrctr, hstarts⟩ := State.issueQ_starts h
  obtain ⟨w, x, fl, hdone, hw, hP⟩ := hrun z
  exact ⟨_, hexec.trans (congrArg Outcome.next (hstarts.trans (State.startEntry_marked hdone))), w, x, fl, State.marked_hasBegun hz hsrctr hw,
    fun n hn => State.marked_tile_other _ _ _ _ _ n hn, State.marked_memSame _ _ _ _ _, hP⟩

/-- The same of an effect known by the tile it begins on. -/
theorem queued_begins {c : Instr} {W : TileSt → State} (h : s.canQueue t op k) (hexec : exec c s = ok (s.issueQ t op k))
    (hrun : ∀ z, (s.setT t ((s.tile t).requeued z)).runOp t ((s.tile t).newEntry op k) = .done (W z) fl none)
    (hW : ∀ z, (W z).leavesTile t x z op) :
    Completes c s (fun u => s.hasBegun u t op k fl x ∧ ∃ z, (∀ n, n ≠ t → u.tile n = (W z).tile n) ∧ (W z).memSame u) := by
  obtain ⟨u, hu, w, y, f, hbegun, hother, hmem, z, rfl, rfl, rfl⟩ := queued_some (P := fun w y f => ∃ z, w = W z ∧ y = x ∧ f = fl) h hexec
    fun z => ⟨W z, x, fl, hrun z, hW z, z, rfl, rfl, rfl⟩
  exact ⟨u, hu, hbegun, z, hother, hmem⟩

/-- A queued instruction that changes its tile alone, on this state. -/
theorem queued_setT {c : Instr} (h : s.canQueue t op k) (hexec : exec c s = ok (s.issueQ t op k))
    (hrun : ∀ z, (s.setT t ((s.tile t).requeued z)).runOp t ((s.tile t).newEntry op k) = .done (s.setT t (x.requeued z)) fl none) :
    Completes c s (fun u => s.hasBegun u t op k fl x ∧ s.otherTiles u t ∧ s.memSame u) := by
  obtain ⟨u, hu, hbegun, z, hother, hmem⟩ := queued_begins h hexec hrun fun z => ⟨z, State.tile_setT_same _ _ _, rfl, rfl⟩
  exact ⟨u, hu, hbegun, fun n hn => (hother n hn).trans (s.tile_setT_other t n _ hn), hmem⟩

/-- A queued instruction that computes on its tile alone. -/
theorem queued_tile {c : Instr} (h : s.canQueue t op k) (hexec : exec c s = ok (s.issueQ t op k)) (F : TileSt → TileSt × Fl)
    (hrun : ∀ (w : State) (z : TileSt), w.tile t = (s.tile t).requeued z → w.runOp t ((s.tile t).newEntry op k) = .tile w t (F (w.tile t)))
    (hF : ∀ x z : TileSt, F (x.requeued z) = ((F x).1.requeued z, (F x).2)) :
    Completes c s (fun u => s.hasBegun u t op k (F (s.tile t)).2 (F (s.tile t)).1 ∧ s.otherTiles u t ∧ s.memSame u) :=
  queued_setT h hexec fun z => by
    rw [hrun _ z (State.tile_setT_same _ _ _), State.tile_setT_same, hF, Eff.tile, State.setT_setT]

end

/-- What an effect that names a part of the tile leaves there: any part but the queues and the counters of issue. -/
theorem State.hasBegun.part {α : Type} {s u : State} {t : Nat} {op : QOp} {k : Tok} {fl : Fl} {x : TileSt} (h : s.hasBegun u t op k fl x)
    (f : TileSt → α) (hf : ∀ z, f (x.requeued z) = f x) : f (u.tile t) = f x := by
  obtain ⟨z, hz⟩ := h.tile
  rw [hz, hf]

/-- The accumulators, the tokens, the flags and the stream entries of a tile. -/
def TileSt.banks (x : TileSt) := (x.acc, x.accPoison, x.tok, x.fstat, x.taps, x.egress)

section
variable {s u : State} {t : Nat} {op : QOp} {k : Tok} {fl : Fl} {x : TileSt} (h : s.hasBegun u t op k fl x)
include h

theorem State.hasBegun.scalars (hx : (x.s, x.sPoison) = ((s.tile t).s, (s.tile t).sPoison)) : s.scalarsSame u t :=
  Prod.mk.inj ((h.part (fun x => (x.s, x.sPoison)) fun _ => rfl).trans hx)

theorem State.hasBegun.addrs (hx : (x.a, x.aPoison) = ((s.tile t).a, (s.tile t).aPoison)) : s.addrsSame u t :=
  Prod.mk.inj ((h.part (fun x => (x.a, x.aPoison)) fun _ => rfl).trans hx)

theorem State.hasBegun.preds (hx : (x.p, x.pPoison) = ((s.tile t).p, (s.tile t).pPoison)) : s.predsSame u t :=
  Prod.mk.inj ((h.part (fun x => (x.p, x.pPoison)) fun _ => rfl).trans hx)

theorem State.hasBegun.vectors (hx : (x.v, x.vPoison) = ((s.tile t).v, (s.tile t).vPoison)) : s.vectorsSame u t :=
  Prod.mk.inj ((h.part (fun x => (x.v, x.vPoison)) fun _ => rfl).trans hx)

theorem State.hasBegun.sameBanks (hx : x.banks = (s.tile t).banks) : s.banksSame u t := by
  have hu := (h.part TileSt.banks fun _ => rfl).trans hx
  simp only [TileSt.banks, Prod.mk.injEq] at hu
  exact hu

end

/-! ### TZERO (06 R207) -/

section
variable {s : State} {t : Tile}

theorem foldl_zeroBank_requeued (l : List Nat) (x z : TileSt) :
    l.foldl (fun y b => y.zeroBank b) (x.requeued z) = (l.foldl (fun y b => y.zeroBank b) x).requeued z := by
  induction l generalizing x with
  | nil => rfl
  | cons b r ih => exact ih (x.zeroBank b)

theorem TileSt.zeroed_requeued (x z : TileSt) (mask : BitVec 4) : (x.requeued z).zeroed mask = (x.zeroed mask).requeued z :=
  foldl_zeroBank_requeued _ x z

theorem foldl_zeroBank_accPoison (l : List Nat) (x : TileSt) (b : Nat) (hb : b < 4) :
    (l.foldl (fun y c => y.zeroBank c) x).accPoison.getLsbD b = if b ∈ l then false else x.accPoison.getLsbD b := by
  induction l generalizing x with
  | nil => simp
  | cons c l ih =>
    rw [List.foldl_cons, ih]
    have hc : (x.zeroBank c).accPoison.getLsbD b = if b = c then false else x.accPoison.getLsbD b := getLsbD_withBit _ _ _ _ hb
    rw [hc]
    by_cases hl : b ∈ l <;> by_cases he : b = c <;> simp [hl, he]

theorem TileSt.zeroed_accPoison (x : TileSt) (mask : BitVec 4) (b : Nat) (hb : b < 4) :
    (x.zeroed mask).accPoison.getLsbD b = if mask.getLsbD b then false else x.accPoison.getLsbD b := by
  rw [TileSt.zeroed, foldl_zeroBank_accPoison _ _ _ hb]
  simp [maskBanks, hb]

theorem tzero_clears {k : Tok} {mask : BitVec 4} (h : s.canQueue t (.tzero mask) k) : Completes (.tzero t k mask) s (fun u =>
    (∀ b m n, b < 4 → m < 32 → n < 32 → (u.tile t).accGet b m n = if mask.getLsbD b then {} else (s.tile t).accGet b m n) ∧
    (∀ b, b < 4 → (u.tile t).accPoison.getLsbD b = if mask.getLsbD b then false else (s.tile t).accPoison.getLsbD b) ∧
    s.entryBegun u t (.tzero mask) k 0 ∧ s.registersSame u t ∧ s.memSame u) := by
  obtain ⟨u, hu, hbegun, hother, hmem⟩ := queued_tile (c := .tzero t k mask) h rfl (fun x => (x.zeroed mask, 0)) (fun _ _ _ => rfl)
    fun x z => congrArg (·, 0) (x.zeroed_requeued z mask)
  refine ⟨u, hu, fun b m n hb hm hn => ?_, fun b hb => ?_, hbegun.entry, State.registersSame_of ?_ hother, hmem⟩
  · rw [hbegun.part (fun x => x.accGet b m n) fun z => rfl, TileSt.accGet_zeroed _ _ _ _ _ hb hm hn]
  · rw [hbegun.part (fun x => x.accPoison.getLsbD b) fun z => rfl, TileSt.zeroed_accPoison _ _ _ hb]
  · rw [hbegun.part TileSt.registers fun z => rfl]
    exact TileSt.zeroed_keeps TileSt.registers _ mask fun _ _ => rfl

/-- MASK = 0 is no instruction (06 R186). -/
theorem tzero_illegal {k : Tok} (hrun : (s.tile t).run = .running) (hhold : (s.tile t).hold = none)
    (hindex : (s.tile t).index < (s.tile t).progCount) :
    exec (.tzero t k 0) s = .next (s.raise t { code := 1, queue := 0, index := (s.tile t).index, addr := 0 }) := by
  refine congrArg Outcome.next ((if_neg (by simp [hrun, hhold])).trans (if_pos ⟨hindex, .inl (by decide)⟩))

theorem State.checkRun_tile (s : State) (i n : Nat) : (s.checkRun i).tile n = s.tile n := State.tile_of_tiles (by simp) n

/-- A tile that raises an exception keeps its banks. -/
theorem State.raise_banks (s : State) (t : Nat) (e : Exc) : ((s.raise t e).tile t).acc = (s.tile t).acc ∧
    ((s.raise t e).tile t).accPoison = (s.tile t).accPoison := by
  unfold State.raise
  dsimp only
  rw [State.checkRun_tile, State.blockAbort_tile_same, State.haltTile]
  dsimp only
  rw [State.tile_updT_same, State.tile_of_tiles (v := s) (by simp)]
  exact ⟨rfl, rfl⟩

end

/-- Settles O11: a mask that names banks clears them, and no other mask is an instruction. -/
theorem tzeroClearsTheBanksOfItsMask : Obligations.TzeroClearsTheBanksOfItsMask := by
  unfold Obligations.TzeroClearsTheBanksOfItsMask
  refine fun s t k mask => ⟨tzero_clears, fun hmask hrun hhold hindex => ?_⟩
  obtain ⟨hacc, hpoison⟩ := s.raise_banks t { code := 1, queue := 0, index := (s.tile t).index, addr := 0 }
  exact ⟨_, hmask ▸ tzero_illegal hrun hhold hindex, s.raise_halts t _, hacc, hpoison, s.raise_memSame t _,
    fun r o hr ho hroom => s.raise_records t _ hr ho hroom⟩

end Sys2Proof.Machine
end

section
/-! PROOFS. O6: the lanes that vector instructions write (06 R202, T6.11, 07 R230). -/
namespace Sys2Proof.Machine

open Host

/-! ### Registers read after a write -/

section
variable (x : TileSt) (r : Nat)

@[simp] theorem TileSt.sSet_sGet_same (v : W64) (bad : Bool) : (x.sSet r v bad).sGet r = v := tget_tset_same _ _ _ _
theorem TileSt.sSet_sGet_other (v : W64) (bad : Bool) (j : Nat) (h : j ≠ r) : (x.sSet r v bad).sGet j = x.sGet j :=
  tget_tset_other _ _ _ _ _ h
theorem TileSt.sSet_sBad (v : W64) (bad : Bool) (j : Nat) (hj : j < 32) : (x.sSet r v bad).sBad j = if j = r then bad else x.sBad j :=
  getLsbD_withBit _ _ _ _ hj
@[simp] theorem TileSt.vSet_vGet_same (v : BitVec 2048) (bad : W64) : (x.vSet r v bad).vGet r = v := tget_tset_same _ _ _ _
theorem TileSt.vSet_vGet_other (v : BitVec 2048) (bad : W64) (j : Nat) (h : j ≠ r) : (x.vSet r v bad).vGet j = x.vGet j :=
  tget_tset_other _ _ _ _ _ h
@[simp] theorem TileSt.vSet_vBad_same (v : BitVec 2048) (bad : W64) : (x.vSet r v bad).vBad r = bad := tget_tset_same _ _ _ _
theorem TileSt.vSet_vBad_other (v : BitVec 2048) (bad : W64) (j : Nat) (h : j ≠ r) : (x.vSet r v bad).vBad j = x.vBad j :=
  tget_tset_other _ _ _ _ _ h

end

/-! ### Lanes put together -/

theorem lane_ofLanes_range (f : Nat → W32) (l : Nat) (hl : l < 64) : lane (ofLanes ((List.range 64).map f)) l = f l :=
  lane_ofLanes _ l _ hl (by simp [hl])

theorem maskOf_range (f : Nat → Bool) (l : Nat) (hl : l < 64) : (maskOf ((List.range 64).map f)).getLsbD l = f l :=
  maskOf_bit _ l _ hl (by simp [hl])

/-- A poisoned predicate poisons every lane. -/
theorem poisonMask_bit (bad : Bool) (f : Nat → Bool) (l : Nat) (hl : l < 64) :
    (if bad then BitVec.allOnes 64 else maskOf ((List.range 64).map f)).getLsbD l = (bad || f l) := by
  cases bad
  · exact maskOf_range f l hl
  · rw [if_pos rfl, Bool.true_or, BitVec.getLsbD_allOnes, decide_eq_true hl]

/-! ### What an instruction that writes one register leaves -/

section
variable {s u : State} {t : Nat} {op : QOp} {k : Tok} {fl : Fl} {d : BitVec 5}

/-- A vector register written, lane by lane. -/
theorem State.hasBegun.vectorTo {V : BitVec 2048} {B : W64} {val : Nat → W32} {bad : Nat → Bool}
    (h : s.hasBegun u t op k fl ((s.tile t).vSet d.toNat V B)) (hV : ∀ l, l < 64 → lane V l = val l) (hB : ∀ l, l < 64 → B.getLsbD l = bad l) :
    s.vectorTo u t d val bad := by
  have hv := fun r => h.part (fun x => (x.vGet r, x.vBad r)) fun _ => rfl
  simp only [Prod.mk.injEq] at hv
  refine ⟨fun l hl => ⟨?_, ?_⟩, fun r hr => ⟨?_, ?_⟩⟩
  · rw [State.vR, (hv d.toNat).1, TileSt.vSet_vGet_same, hV l hl]
  · rw [State.vP, (hv d.toNat).2, TileSt.vSet_vBad_same, hB l hl]
  · rw [(hv r).1, TileSt.vSet_vGet_other _ _ _ _ _ hr]
  · rw [(hv r).2, TileSt.vSet_vBad_other _ _ _ _ _ hr]

/-- Nothing else of the tile. -/
theorem State.hasBegun.vectorFrame {V : BitVec 2048} {B : W64} (h : s.hasBegun u t op k fl ((s.tile t).vSet d.toNat V B)) :
    s.scalarsSame u t ∧ s.addrsSame u t ∧ s.predsSame u t ∧ s.banksSame u t :=
  ⟨h.scalars rfl, h.addrs rfl, h.preds rfl, h.sameBanks rfl⟩

end

/-! ### Predicated lanes (06 R202) -/

section
variable (x : TileSt) (v : VArgs) (res : Nat → LaneOut)

/-- The lane that a predicated instruction writes. -/
def TileSt.laneOut (l : Nat) : LaneOut :=
  if (x.pGet v.pg.toNat).getLsbD l then res l
  else if v.pz then (0, 0, false) else (lane (x.vGet v.vd.toNat) l, 0, (x.vBad v.vd.toNat).getLsbD l)

theorem TileSt.laneOut_requeued (z : TileSt) : (x.requeued z).laneOut v res = x.laneOut v res := rfl

theorem TileSt.vecWrite_eq : x.vecWrite v res =
    (x.vSet v.vd.toNat (ofLanes ((List.range 64).map (fun l => (x.laneOut v res l).1)))
        (if x.pBad v.pg.toNat then BitVec.allOnes 64 else maskOf ((List.range 64).map (fun l => (x.laneOut v res l).2.2))),
      flagsOf (fun l => (x.laneOut v res l).2.1)) := by
  unfold TileSt.vecWrite flagsOf
  simp only [List.map_map, List.foldl_map]
  rfl

end

section
variable {s : State} {t : Nat} {op : QOp} {k : Tok} {v : VArgs} {c : Instr} {f : Nat → W32 × Fl} {bad : Nat → Bool}

/-- A predicated instruction whose lanes depend on the tile's registers alone. -/
theorem vector_lanes (h : s.canQueue t op k) (hexec : exec c s = ok (s.issueQ t op k)) (res : TileSt → Nat → LaneOut)
    (hrun : ∀ (w : State) (z : TileSt), w.tile t = (s.tile t).requeued z → w.runOp t ((s.tile t).newEntry op k) = .tile w t ((w.tile t).vecWrite v (res (w.tile t))))
    (hres : ∀ x z : TileSt, res (x.requeued z) = res x) (hlanes : ∀ l, l < 64 → res (s.tile t) l = ((f l).1, (f l).2, bad l)) :
    Completes c s (fun u => s.vectorLanes u t op k v f bad) := by
  have hF : ∀ x z : TileSt, (x.requeued z).vecWrite v (res (x.requeued z)) =
      ((x.vecWrite v (res x)).1.requeued z, (x.vecWrite v (res x)).2) := fun x z => by
    rw [hres, TileSt.vecWrite_eq, TileSt.vecWrite_eq, TileSt.laneOut_requeued]
    rfl
  obtain ⟨u, hu, hbegun, hother, hmem⟩ := queued_tile h hexec (fun x => x.vecWrite v (res x)) hrun hF
  simp only [TileSt.vecWrite_eq] at hbegun
  obtain ⟨hscalars, haddrs, hpreds, hbanks⟩ := hbegun.vectorFrame
  have hout : ∀ l, l < 64 → (s.tile t).laneOut v (res (s.tile t)) l =
      if (s.pR t v.pg).getLsbD l then ((f l).1, (f l).2, bad l) else if v.pz then (0, 0, false) else (s.vR t v.vd l, 0, s.vP t v.vd l) :=
    fun l hl => by rw [TileSt.laneOut, hlanes l hl]; rfl
  refine ⟨u, hu, hbegun.vectorTo (fun l hl => ?_) (fun l hl => ?_), ?_, hscalars, haddrs, hpreds, hbanks, hother, hmem⟩
  · rw [lane_ofLanes_range _ l hl, hout l hl]
    simp only [apply_ite Prod.fst]
  · rw [poisonMask_bit _ _ l hl, hout l hl]
    simp only [apply_ite (fun o : LaneOut => o.2.2)]
    rfl
  · have hflags : flagsOf (fun l => ((s.tile t).laneOut v (res (s.tile t)) l).2.1) = flagsOf (fun l => if (s.pR t v.pg).getLsbD l then (f l).2 else 0) := by
      refine List.foldl_ext _ _ _ fun a l hl => congrArg (a ||| ·) ?_
      dsimp only
      rw [hout l (List.mem_range.1 hl)]
      simp only [apply_ite (fun o : LaneOut => o.2.1), ite_self]
    exact hflags ▸ hbegun.entry

end

/-! ### VF (06 R202, T6.11) -/

section
variable {s : State} {t : Tile} {v : VArgs} {k : Tok} {c : Instr} {f : Nat → W32 × Fl} {bad : Nat → Bool}

theorem vf_lanes {fn : BitVec 5} (h : s.canQueue t (.vf fn v) k) (hexec : exec c s = ok (s.issueQ t (.vf fn v) k))
    (hf : ∀ l, vfLane fn.toNat (s.mode t) (s.vR t v.va l) (s.vR t v.vb l) (s.vR t v.vc l) = f l)
    (hbad : ∀ l, (s.vP t v.va l || (decide (fn.toNat < 7) && s.vP t v.vb l) || ((fn.toNat == 3 || fn.toNat == 4) && s.vP t v.vc l)) = bad l) :
    Completes c s (fun u => s.vectorLanes u t (.vf fn v) k v f bad) :=
  vector_lanes h hexec (fun x l =>
      let r := vfLane fn.toNat (s.mode t) (x.ln v.va l) (x.ln v.vb l) (x.ln v.vc l)
      (r.1, r.2, x.lnBad v.va l || (decide (fn.toNat < 7) && x.lnBad v.vb l) || ((fn.toNat == 3 || fn.toNat == 4) && x.lnBad v.vc l)))
    (fun _ _ _ => rfl) (fun _ _ => rfl) fun l _ => by rw [← hf, ← hbad]; rfl

/-! ### VSF (06 R202, T6.11, 07 R230, T7.7) -/

/-- What VSF makes of an operand, the free values chosen. -/
def vsfResult (fn : Nat) (a : W32) : W32 × Fl := vsfLane fn (fun f a => (Config.vsfChoice f (BitVec.ofNat 32 a)).toNat) a

theorem vsf_lanes {fn : BitVec 5} {P : (W32 → W32 × Fl) → Prop} (h : s.canQueue t (.vsf fn v) k)
    (hexec : exec c s = ok (s.issueQ t (.vsf fn v) k)) (hnan : ∀ x : W32, x.toNat % 2 ^ 31 > 0x7F800000 → vsfResult fn.toNat x = (fp32Canon, 0))
    (hP : P (vsfResult fn.toNat)) : Completes c s (fun u => ∃ g : W32 → W32 × Fl,
      (∀ x : W32, x.toNat % 2 ^ 31 > 0x7F800000 → g x = (fp32Canon, 0)) ∧ P g ∧
        s.vectorLanes u t (.vsf fn v) k v (fun l => g (s.vR t v.va l)) (fun l => s.vP t v.va l)) := by
  obtain ⟨u, hu, hlanes⟩ := vector_lanes (f := fun l => vsfResult fn.toNat (s.vR t v.va l)) (bad := fun l => s.vP t v.va l) h hexec
    (fun x l => let r := vsfResult fn.toNat (x.ln v.va l)
                (r.1, r.2, x.lnBad v.va l)) (fun _ _ _ => rfl) (fun _ _ => rfl) fun l _ => rfl
  exact ⟨u, hu, _, hnan, hP, hlanes⟩

end

theorem FVal.ofWord_nan (x : W32) (h : x.toNat % 2 ^ 31 > 0x7F800000) : FVal.ofWord x = .nan := by
  have hmax : 0x7F7FFFFF < x.toNat % 2 ^ 31 := by omega
  have hfrac : x.toNat % 2 ^ 31 % 2 ^ 23 ≠ 0 := by omega
  exact (if_pos hmax).trans (if_neg fun hinf => hfrac hinf.2)

/-- A finite word below zero. -/
theorem FVal.ofWord_negative (x : W32) (hlo : 0x80000000 < x.toNat) (hhi : x.toNat < 0xFF800000) :
    ∃ m e, m ≠ 0 ∧ FVal.ofWord x = .fin true m e := by
  have hneg : decide (x.toNat / 2 ^ 31 % 2 = 1) = true := decide_eq_true (by omega)
  have hmax : ¬0x7F7FFFFF < x.toNat % 2 ^ 31 := by omega
  refine ⟨if x.toNat % 2 ^ 31 / 2 ^ 23 = 0 then x.toNat % 2 ^ 31 % 2 ^ 23 else 2 ^ 23 + x.toNat % 2 ^ 31 % 2 ^ 23,
    if x.toNat % 2 ^ 31 / 2 ^ 23 = 0 then -149 else (x.toNat % 2 ^ 31 / 2 ^ 23 : Nat) - 150, ?_, (if_neg hmax).trans ?_⟩
  · split <;> omega
  · by_cases hexp : x.toNat % 2 ^ 31 / 2 ^ 23 = 0
    · rw [if_pos hexp, if_pos hexp]
      exact (if_pos hexp).trans (congrArg (FVal.fin · _ _) hneg)
    · rw [if_neg hexp, if_neg hexp]
      refine (if_neg hexp).trans ((congrArg (FVal.fin · _ _) hneg).trans (congrArg (FVal.fin true _) ?_))
      simp only [fp32]
      omega

theorem vsfResult_nan (fn : Nat) (x : W32) (h : x.toNat % 2 ^ 31 > 0x7F800000) : vsfResult fn x = (fp32Canon, 0) := by
  simp only [vsfResult, vsfLane, FVal.ofWord_nan x h]

/-- Settles O6, function by function. -/
theorem vectorFloatAndSpecialLanes : Obligations.VectorFloatAndSpecialLanes := by
  unfold Obligations.VectorFloatAndSpecialLanes
  refine ⟨fun s t v k => ?_, fun s t v k => ?_⟩
  · intro m A B C PA PB PC
    refine ⟨fun h => vf_lanes h rfl (fun _ => rfl) fun l => ?_, fun h => vf_lanes h rfl (fun _ => rfl) fun l => ?_,
      fun h => vf_lanes h rfl (fun _ => rfl) fun l => ?_, fun h => vf_lanes h rfl (fun _ => rfl) fun l => ?_,
      fun h => vf_lanes h rfl (fun _ => rfl) fun l => ?_, fun h => vf_lanes h rfl (fun _ => rfl) fun l => ?_,
      fun h => vf_lanes h rfl (fun _ => rfl) fun l => ?_, fun h => vf_lanes h rfl (fun _ => rfl) fun l => ?_,
      fun h => vf_lanes h rfl (fun _ => rfl) fun l => ?_⟩
    all_goals simp [PA, PB, PC]
  · intro A nan below S
    have vsf := fun (fn : BitVec 5) P c hexec hP h => vsf_lanes (s := s) (t := t) (v := v) (k := k) (fn := fn) (P := P) (c := c) h hexec (vsfResult_nan _) hP
    refine ⟨vsf 0 _ _ rfl ⟨rfl, rfl, rfl, rfl⟩, vsf 5 _ _ rfl ⟨rfl, rfl, rfl, rfl⟩,
      vsf 1 _ _ rfl ⟨rfl, rfl, rfl, rfl, rfl, fun x hx => ?_⟩,
      vsf 2 _ _ rfl ⟨rfl, rfl, rfl, rfl, rfl⟩, vsf 3 _ _ rfl ⟨rfl, rfl, rfl, rfl, rfl, fun x hx => ?_⟩,
      vsf 4 _ _ rfl ⟨rfl, rfl, rfl, rfl, fun x hx => ?_⟩⟩
    all_goals
      obtain ⟨m, e, hm, hx⟩ := FVal.ofWord_negative x hx.1 hx.2
      simp [vsfResult, vsfLane, hx, hm]

end Sys2Proof.Machine
end

section
/-! PROOFS. O7: integer lanes, compare, select, reduce, and the moves of lanes (06 R202, R203, T6.11, T6.12). -/
namespace Sys2Proof.Machine

open Host

section
variable {s u : State} {t : Nat} {op : QOp} {k : Tok} {fl : Fl}

/-! ### What an instruction that writes one scalar leaves -/

theorem State.hasBegun.queuedScalar {d : BitVec 5} {v : W64} {bad : Bool} (h : s.hasBegun u t op k fl ((s.tile t).sSet d.toNat v bad))
    (hother : s.otherTiles u t) (hmem : s.memSame u) : s.queuedScalar u t op k d v bad fl := by
  have hs := fun r => h.part (fun x => (x.sGet r, x.sBad r)) fun _ => rfl
  simp only [Prod.mk.injEq] at hs
  refine ⟨?_, ?_, fun r hr => ?_, h.entry, h.addrs rfl, h.preds rfl, h.vectors rfl, h.sameBanks rfl, hother, hmem⟩
  · rw [State.sR, (hs d.toNat).1, TileSt.sSet_sGet_same]
  · rw [State.sP, (hs d.toNat).2, TileSt.sSet_sBad _ _ _ _ _ d.isLt, if_pos rfl]
  · have hne : r.toNat ≠ d.toNat := fun e => hr (BitVec.toNat_inj.1 e)
    rw [State.sR, State.sP, (hs r.toNat).1, (hs r.toNat).2, TileSt.sSet_sGet_other _ _ _ _ _ hne, TileSt.sSet_sBad _ _ _ _ _ r.isLt, if_neg hne]
    exact ⟨rfl, rfl⟩

end

/-! ### VI (06 R202, T6.11) -/

section
variable {s : State} {t : Tile} {v : VArgs} {k : Tok} {c : Instr}

theorem vi_lanes {fn : BitVec 5} {f : Nat → W32} (h : s.canQueue t (.vi fn v) k) (hexec : exec c s = ok (s.issueQ t (.vi fn v) k))
    (hf : ∀ l, viLane fn.toNat (s.vR t v.va l) (s.vR t v.vb l) = f l) :
    Completes c s (fun u => s.vectorLanes u t (.vi fn v) k v (fun l => (f l, 0)) (fun l => s.vP t v.va l || s.vP t v.vb l)) :=
  vector_lanes h hexec (fun x l => (viLane fn.toNat (x.ln v.va l) (x.ln v.vb l), 0, x.lnBad v.va l || x.lnBad v.vb l))
    (fun _ _ _ => rfl) (fun _ _ => rfl) fun l _ => by rw [← hf]; rfl

/-! ### VCMP (06 R203, T6.12) -/

/-- One comparison of VCMP: TYPE 0 FP32, 1 signed, 2 unsigned. -/
def cmpLane (fn ty : Nat) (a b : W32) : Bool × Fl := if ty = 0 then fp32Cmp fn a b else (intCmp fn (decide (ty = 2)) a b, 0)

/-- A lane of VCMP: those not selected give 0. -/
def TileSt.cmpOut (x : TileSt) (fn ty : Nat) (v : VArgs) (l : Nat) : Bool × Fl :=
  if (x.pGet v.pg.toNat).getLsbD l then cmpLane fn ty (x.ln v.va l) (x.ln v.vb l) else (false, 0)

theorem cmpLane_fp32 (fn : Nat) (a b : W32) : cmpLane fn (0 : BitVec 4).toNat a b = fp32Cmp fn a b := if_pos rfl

/-- The order of an integer comparison: TYPE 1 signed, 2 unsigned. -/
def intLt (ty : BitVec 4) (a b : W32) : Prop := if ty = 1 then a.toInt < b.toInt else a.toNat < b.toNat

theorem cmpLane_int {ty : BitVec 4} (hty : ty = 1 ∨ ty = 2) (fn : Nat) (a b : W32) :
    cmpLane fn ty.toNat a b = (intCmp fn (decide (ty.toNat = 2)) a b, 0) := by
  obtain rfl | rfl := hty <;> exact if_neg (by decide)

theorem intCmp_lt {ty : BitVec 4} (hty : ty = 1 ∨ ty = 2) (a b : W32) :
    (if decide (ty.toNat = 2) then a.ult b else a.slt b) = true ↔ intLt ty a b := by
  obtain rfl | rfl := hty
  · simp [intLt, slt_eq_toInt_lt]
  · simp [intLt, ult_eq_toNat_lt]

theorem intCmp_not_lt {ty : BitVec 4} (hty : ty = 1 ∨ ty = 2) (a b : W32) :
    (!(if decide (ty.toNat = 2) then a.ult b else a.slt b)) = true ↔ ¬intLt ty a b := by
  rw [← intCmp_lt hty, Bool.not_eq_true', Bool.not_eq_true]

theorem TileSt.vcmp_eq (x : TileSt) (fn ty : Nat) (v : VArgs) : x.vcmp fn ty v =
    (x.pSet (v.vd.toNat % 8) (maskOf ((List.range 64).map (fun l => (x.cmpOut fn ty v l).1)))
        (x.pBad v.pg.toNat || (x.pGet v.pg.toNat &&& (x.vBad v.va.toNat ||| x.vBad v.vb.toNat)) != 0),
      flagsOf (fun l => (x.cmpOut fn ty v l).2)) := by
  unfold TileSt.vcmp flagsOf
  simp only [List.map_map, List.foldl_map]
  rfl

theorem TileSt.cmpOut_requeued (x z : TileSt) (fn ty : Nat) (v : VArgs) : (x.requeued z).cmpOut fn ty v = x.cmpOut fn ty v := rfl

theorem TileSt.pSet_pGet_same (x : TileSt) (r : Nat) (v : W64) (bad : Bool) : (x.pSet r v bad).pGet r = v := tget_tset_same _ _ _ _
theorem TileSt.pSet_pGet_other (x : TileSt) (r : Nat) (v : W64) (bad : Bool) (j : Nat) (h : j ≠ r) : (x.pSet r v bad).pGet j = x.pGet j :=
  tget_tset_other _ _ _ _ _ h

theorem vcmp_compares {fn : BitVec 5} {ty : BitVec 4} {P : W32 → W32 → Prop} {g : W32 → W32 → Fl} (h : s.canQueue t (.vcmp fn ty v) k)
    (hP : ∀ a b, (cmpLane fn.toNat ty.toNat a b).1 = true ↔ P a b) (hg : ∀ a b, (cmpLane fn.toNat ty.toNat a b).2 = g a b) :
    let sel := fun l => (s.pR t v.pg).getLsbD l
    Completes (.vcmp t v k fn ty) s (fun u =>
      (∀ l, l < 64 → (((u.tile t).pGet v.vd.toNat).getLsbD l = true ↔ sel l = true ∧ P (s.vR t v.va l) (s.vR t v.vb l))) ∧
      (u.tile t).pBad v.vd.toNat = (s.pP t v.pg || (s.pR t v.pg &&& ((s.tile t).vBad v.va.toNat ||| (s.tile t).vBad v.vb.toNat)) != 0) ∧
      (∀ r, r ≠ v.vd.toNat → (u.tile t).pGet r = (s.tile t).pGet r) ∧
      s.entryBegun u t (.vcmp fn ty v) k (flagsOf (fun l => if sel l then g (s.vR t v.va l) (s.vR t v.vb l) else 0)) ∧
      s.scalarsSame u t ∧ s.addrsSame u t ∧ s.vectorsSame u t ∧ s.banksSame u t ∧ s.otherTiles u t ∧ s.memSame u) := by
  intro sel
  have hvd : v.vd.toNat < 8 := by
    obtain ⟨-, hfields, -⟩ := h
    simp only [QOp.fieldsOk, Bool.and_eq_true, decide_eq_true_eq] at hfields
    exact hfields.2
  have hF : ∀ x z : TileSt, (x.requeued z).vcmp fn.toNat ty.toNat v = ((x.vcmp fn.toNat ty.toNat v).1.requeued z, (x.vcmp fn.toNat ty.toNat v).2) :=
    fun x z => by
      rw [TileSt.vcmp_eq, TileSt.vcmp_eq, TileSt.cmpOut_requeued]
      rfl
  obtain ⟨u, hu, hbegun, hother, hmem⟩ := queued_tile (c := .vcmp t v k fn ty) h rfl (fun x => x.vcmp fn.toNat ty.toNat v) (fun _ _ _ => rfl) hF
  simp only [TileSt.vcmp_eq, Nat.mod_eq_of_lt hvd] at hbegun
  have hout : ∀ l, (s.tile t).cmpOut fn.toNat ty.toNat v l =
      if sel l then cmpLane fn.toNat ty.toNat (s.vR t v.va l) (s.vR t v.vb l) else (false, 0) := fun _ => rfl
  refine ⟨u, hu, fun l hl => ?_, ?_, fun r hr => ?_, ?_, hbegun.scalars rfl, hbegun.addrs rfl, hbegun.vectors rfl, hbegun.sameBanks rfl, hother, hmem⟩
  · rw [hbegun.part (fun x => x.pGet v.vd.toNat) fun _ => rfl, TileSt.pSet_pGet_same, maskOf_range _ l hl, hout l]
    cases hsel : sel l <;> simp [hP]
  · rw [hbegun.part (fun x => x.pBad v.vd.toNat) fun _ => rfl]
    refine (getLsbD_withBit _ _ _ _ hvd).trans ?_
    rw [if_pos rfl]
    rfl
  · rw [hbegun.part (fun x => x.pGet r) fun _ => rfl, TileSt.pSet_pGet_other _ _ _ _ _ hr]
  · have hflags : flagsOf (fun l => ((s.tile t).cmpOut fn.toNat ty.toNat v l).2) =
        flagsOf (fun l => if sel l then g (s.vR t v.va l) (s.vR t v.vb l) else 0) := by
      refine congrArg flagsOf (funext fun l => ?_)
      rw [hout l, ← hg, apply_ite Prod.snd]
    exact hflags ▸ hbegun.entry

/-! ### VSEL (06 R203, T6.12) -/

/-- Where VSEL takes a lane from. -/
def TileSt.selected (x : TileSt) (v : VArgs) (l : Nat) : BitVec 5 := if (x.pGet v.pg.toNat).getLsbD l then v.va else v.vb

theorem vsel_selects (h : s.canQueue t (.vsel v) k) :
    let sel := fun l => (s.pR t v.pg).getLsbD l
    Completes (.vsel t v k) s (fun u =>
      s.vectorTo u t v.vd (fun l => if sel l then s.vR t v.va l else s.vR t v.vb l)
        (fun l => s.pP t v.pg || if sel l then s.vP t v.va l else s.vP t v.vb l) ∧
      s.entryBegun u t (.vsel v) k 0 ∧ s.scalarsSame u t ∧ s.addrsSame u t ∧ s.predsSame u t ∧ s.banksSame u t ∧ s.otherTiles u t ∧ s.memSame u) := by
  intro sel
  obtain ⟨u, hu, hbegun, hother, hmem⟩ := queued_tile (c := .vsel t v k) h rfl (fun x => x.vsel v) (fun _ _ _ => rfl) (fun _ _ => rfl)
  obtain ⟨hscalars, haddrs, hpreds, hbanks⟩ := hbegun.vectorFrame
  refine ⟨u, hu, hbegun.vectorTo (fun l hl => ?_) (fun l hl => ?_), hbegun.entry, hscalars, haddrs, hpreds, hbanks, hother, hmem⟩
  · refine (lane_ofLanes_range (fun l => (s.tile t).ln ((s.tile t).selected v l) l) l hl).trans ?_
    exact apply_ite (fun r => (s.tile t).ln r l) _ _ _
  · refine (poisonMask_bit _ (fun l => (s.tile t).lnBad ((s.tile t).selected v l) l) l hl).trans (congrArg (s.pP t v.pg || ·) ?_)
    exact apply_ite (fun r => (s.tile t).lnBad r l) _ _ _

/-! ### VRED (06 R203, T6.12) -/

/-- The selected lanes of an operand, none for a lane not selected. -/
def State.selectedLanes (s : State) (t : Tile) (v : VArgs) : List (Option W32) :=
  (List.range 64).map (fun l => if (s.pR t v.pg).getLsbD l then some (s.vR t v.va l) else none)

theorem vred_reduces {fn : BitVec 5} {c : Instr} {r : W32 × Fl} (h : s.canQueue t (.vred fn v) k) (hexec : exec c s = ok (s.issueQ t (.vred fn v) k))
    (hr : redValue fn.toNat (s.selectedLanes t v) = r) :
    Completes c s (fun u => s.queuedScalar u t (.vred fn v) k v.vd (zx32 r.1)
      (s.pP t v.pg || (s.pR t v.pg &&& (s.tile t).vBad v.va.toNat) != 0) r.2) := by
  obtain ⟨u, hu, hbegun, hother, hmem⟩ := queued_tile h hexec (fun x => x.vred fn.toNat v) (fun _ _ _ => rfl) (fun _ _ => rfl)
  exact ⟨u, hu, hr ▸ hbegun.queuedScalar hother hmem⟩

end

/-- A lone member of a level passes through. -/
theorem redLevel_one (f : W32 → W32 → W32 × Fl) (a : Option W32) : redLevel f [a] = ([a], 0) := redLevel.eq_def f [a]

section
variable (f : W32 → W32 → W32)

/-- A level of operations that raise no flag. -/
theorem redLevel_flags (l : List (Option W32)) : (redLevel (fun a b => (f a b, 0)) l).2 = 0 := by
  induction l using redLevel.induct (fun a b => (f a b, 0)) with
  | case1 r x y ih => exact (congrArg (0 ||| ·) ih).trans rfl
  | case2 r x ih => exact ih
  | case3 r y ih => exact ih
  | case4 l hl =>
    match l with
    | [] => rfl
    | [a] => rw [redLevel_one]
    | a :: b :: r => exact (hl a b r rfl).elim

theorem redTree_flags (n : Nat) (l : List (Option W32)) : (redTree (fun a b => (f a b, 0)) n l).2 = 0 := by
  induction n generalizing l with
  | zero => rfl
  | succ n ih => exact congrArg₂ (· ||| ·) (redLevel_flags f l) (ih _)

end

/-- The sum of the selected lanes. -/
def laneSum (l : List (Option W32)) : W32 := (l.filterMap id).sum

/-- The tree's operation of RISUM. -/
def plainSum (a b : W32) : W32 × Fl := (a + b, 0)

theorem laneSum_cons (a : Option W32) (l : List (Option W32)) : laneSum (a :: l) = a.getD 0 + laneSum l := by
  cases a <;> simp [laneSum]

/-- A level of the tree keeps the sum, in half the places. -/
theorem redLevel_sum (l : List (Option W32)) : laneSum (redLevel plainSum l).1 = laneSum l := by
  induction l using redLevel.induct plainSum with
  | case1 r x y ih => simp [redLevel, laneSum_cons, ih, plainSum, add_assoc]
  | case2 r x ih => simp [redLevel, laneSum_cons, ih]
  | case3 r y ih => simp [redLevel, laneSum_cons, ih]
  | case4 l hl => rw [redLevel.eq_def]; split <;> simp_all

theorem redLevel_length (l : List (Option W32)) : (redLevel plainSum l).1.length = (l.length + 1) / 2 := by
  induction l using redLevel.induct plainSum with
  | case1 r x y ih => simp [redLevel, ih]; omega
  | case2 r x ih => simp [redLevel, ih]; omega
  | case3 r y ih => simp [redLevel, ih]; omega
  | case4 l hl =>
    match l with
    | [] => rfl
    | [a] => simp [redLevel_one]
    | a :: b :: r => exact (hl a b r rfl).elim

/-- A tree high enough sums its lanes. -/
theorem redTree_sum (n : Nat) (l : List (Option W32)) (hl : l.length ≤ 2 ^ n) : (redTree plainSum n l).1.getD 0 = laneSum l := by
  induction n generalizing l with
  | zero =>
    match l with
    | [] => rfl
    | [a] => exact (add_zero _).symm.trans (laneSum_cons a []).symm
    | a :: b :: r => simp at hl
  | succ n ih => exact (ih _ (by rw [redLevel_length]; omega)).trans (redLevel_sum l)

theorem redValue_rsum (l : List (Option W32)) : redValue 0 l = ((redTree (fp32Add 0) 6 l).1.getD 0, (redTree (fp32Add 0) 6 l).2) := rfl

theorem redValue_rmax (l : List (Option W32)) : redValue 1 l = ((redTree (fun a b => (fp32Max a b, 0)) 6 l).1.getD 0xFF800000, 0) :=
  Prod.ext rfl (redTree_flags fp32Max 6 l)

theorem redValue_rmin (l : List (Option W32)) : redValue 2 l = ((redTree (fun a b => (fp32Min a b, 0)) 6 l).1.getD 0x7F800000, 0) :=
  Prod.ext rfl (redTree_flags fp32Min 6 l)

theorem redValue_risum (l : List (Option W32)) (hl : l.length ≤ 64) : redValue 3 l = ((l.filterMap id).foldl (· + ·) 0, 0) :=
  Prod.ext ((redTree_sum 6 l hl).trans List.sum_eq_foldl) (redTree_flags (· + ·) 6 l)

theorem State.selectedLanes_length (s : State) (t : Tile) (v : VArgs) : (s.selectedLanes t v).length = 64 := by simp [State.selectedLanes]

/-! ### VPERM, VMOV (06 R203, T6.12) -/

/-- The lane that VPERM takes: 0 by the index in vB, 1 rotated by sB, 2 the one of IMM. -/
def TileSt.permPlace (x : TileSt) (fn : Nat) (v : VArgs) (imm : Byte) (l : Nat) : Nat :=
  match fn with
  | 0 => (x.ln v.vb l).toNat % 64
  | 1 => (l + (x.sGet v.vb.toNat).toNat) % 64
  | _ => imm.toNat % 64

section
variable {s : State} {t : Tile} {v : VArgs} {k : Tok} {c : Instr} {imm : Byte}

theorem vperm_lanes {fn : BitVec 5} {place : Nat → Nat} {bad : Nat → Bool} (h : s.canQueue t (.vperm fn v imm) k)
    (hexec : exec c s = ok (s.issueQ t (.vperm fn v imm) k)) (hclean : fn = 1 → s.sP t v.vb = false)
    (hplace : ∀ l, (s.tile t).permPlace fn.toNat v imm l = place l)
    (hbad : ∀ l, (s.vP t v.va (place l) || (fn.toNat == 0 && s.vP t v.vb l)) = bad l) :
    Completes c s (fun u => s.vectorLanes u t (.vperm fn v imm) k v (fun l => (s.vR t v.va (place l), 0)) bad) := by
  refine vector_lanes h hexec
    (fun x l => let p := x.permPlace fn.toNat v imm l
                (x.ln v.va p, 0, x.lnBad v.va p || (fn.toNat == 0 && x.lnBad v.vb l)))
    (fun w z hw => if_neg ?_) (fun _ _ => rfl) fun l _ => ?_
  · rintro ⟨hfn, hpoison⟩
    rw [hw, TileSt.requeued_sBad] at hpoison
    exact Bool.false_ne_true ((hclean hfn).symm.trans hpoison)
  · rw [hplace, ← hbad]
    rfl

theorem bcast_lanes (h : s.canQueue t (.vperm 2 v imm) k) : Completes (.bcast t v k imm) s (fun u =>
    s.vectorLanes u t (.vperm 2 v imm) k v (fun _ => (s.vR t v.va imm.toNat, 0)) (fun _ => s.vP t v.va imm.toNat)) := by
  have himm : imm.toNat < 64 := by
    obtain ⟨-, hfields, -⟩ := h
    simp only [QOp.fieldsOk, if_pos, Bool.and_eq_true, decide_eq_true_eq] at hfields
    exact hfields.2.2
  exact vperm_lanes (place := fun _ => imm.toNat) h rfl (fun hfn => absurd hfn (by decide)) (fun _ => Nat.mod_eq_of_lt himm) fun _ => Bool.or_false _

/-- The lane that TOS and INSERT name. -/
theorem QOp.vmov_lane {fn : BitVec 5} (hfields : (QOp.vmov fn v imm).fieldsOk = true) (hfn : fn = 1 ∨ fn = 2) : imm.toNat < 64 := by
  obtain rfl | rfl := hfn
  all_goals
    have hlane : (decide (imm.toNat < 64) && v.pg == 0 && !v.pz) = true := (Bool.and_eq_true _ _ ▸ hfields).2
    simp only [Bool.and_eq_true, decide_eq_true_eq] at hlane
    exact hlane.1.1

theorem tos_reads (h : s.canQueue t (.vmov 1 v imm) k) : Completes (.tos t v k imm) s (fun u =>
    s.queuedScalar u t (.vmov 1 v imm) k v.vd (zx32 (s.vR t v.va imm.toNat)) (s.vP t v.va imm.toNat) 0) := by
  obtain ⟨u, hu, hbegun, hother, hmem⟩ := queued_tile (c := .tos t v k imm) h rfl (fun x => x.vmov 1 v imm) (fun _ _ _ => rfl) (fun _ _ => rfl)
  have himm := Nat.mod_eq_of_lt (QOp.vmov_lane h.2.1 (.inl rfl))
  simp only [TileSt.vmov, himm] at hbegun
  exact ⟨u, hu, hbegun.queuedScalar hother hmem⟩

theorem insert_writes (h : s.canQueue t (.vmov 2 v imm) k) : Completes (.insert t v k imm) s (fun u =>
    s.vectorTo u t v.vd (fun l => if l = imm.toNat then lo32 (s.sR t v.va) else s.vR t v.vd l)
      (fun l => if l = imm.toNat then s.sP t v.va else s.vP t v.vd l) ∧
    s.entryBegun u t (.vmov 2 v imm) k 0 ∧ s.scalarsSame u t ∧ s.addrsSame u t ∧ s.predsSame u t ∧ s.banksSame u t ∧ s.otherTiles u t ∧ s.memSame u) := by
  obtain ⟨u, hu, hbegun, hother, hmem⟩ := queued_tile (c := .insert t v k imm) h rfl (fun x => x.vmov 2 v imm) (fun _ _ _ => rfl) (fun _ _ => rfl)
  have himm := Nat.mod_eq_of_lt (QOp.vmov_lane h.2.1 (.inr rfl))
  simp only [TileSt.vmov, himm, List.map_map] at hbegun
  obtain ⟨hscalars, haddrs, hpreds, hbanks⟩ := hbegun.vectorFrame
  refine ⟨u, hu, hbegun.vectorTo (fun l hl => ?_) (fun l hl => ?_), hbegun.entry, hscalars, haddrs, hpreds, hbanks, hother, hmem⟩
  · rw [lane_ofLanes_range _ l hl]
    exact apply_ite Prod.fst _ _ _
  · rw [maskOf_range _ l hl]
    exact apply_ite Prod.snd _ _ _

end

/-- Settles O7, instruction by instruction. -/
theorem vectorIntegerComparePermuteLanes : Obligations.VectorIntegerComparePermuteLanes := by
  unfold Obligations.VectorIntegerComparePermuteLanes
  refine ⟨fun s t v k => ?_, fun s t v k => ?_, fun s t v k imm => ?_⟩
  · intro A B R
    exact ⟨fun h => vi_lanes h rfl (fun _ => rfl), fun h => vi_lanes h rfl (fun _ => rfl), fun h => vi_lanes h rfl (fun _ => rfl),
      fun h => vi_lanes h rfl (fun _ => rfl), fun h => vi_lanes h rfl (fun _ => rfl), fun h => vi_lanes h rfl (fun _ => rfl),
      fun h => vi_lanes h rfl (fun _ => rfl), fun h => vi_lanes h rfl (fun _ => rfl), fun h => vi_lanes h rfl (fun _ => rfl),
      fun h => vi_lanes h rfl (fun _ => min_signed_eq _ _), fun h => vi_lanes h rfl (fun _ => max_signed_eq _ _),
      fun h => vi_lanes h rfl (fun _ => min_unsigned_eq _ _), fun h => vi_lanes h rfl (fun _ => max_unsigned_eq _ _)⟩
  · intro A B sel selected hasBad bad C
    have int : ∀ {ty : BitVec 4} (_ : ty = 1 ∨ ty = 2) (fn : BitVec 5) (P : W32 → W32 → Prop)
        (_ : ∀ a b, intCmp fn.toNat (decide (ty.toNat = 2)) a b = true ↔ P a b), C fn ty P fun _ _ => 0 := fun hty fn P hP h =>
      vcmp_compares (P := P) (g := fun _ _ => 0) h (fun a b => by rw [cmpLane_int hty]; exact hP a b) (fun a b => by rw [cmpLane_int hty])
    refine ⟨fun fn h => ?_, fun ty hty => ?_, fun h => vsel_selects h, fun h => vred_reduces (r := (_, _)) h rfl (redValue_rsum _),
      fun h => vred_reduces (r := (_, _)) h rfl (redValue_rmax _), fun h => vred_reduces (r := (_, _)) h rfl (redValue_rmin _),
      fun h => vred_reduces (r := (_, _)) h rfl (redValue_risum _ (s.selectedLanes_length t v).le)⟩
    · exact vcmp_compares (P := fun a b => (fp32Cmp fn.toNat a b).1 = true) (g := fun a b => (fp32Cmp fn.toNat a b).2) h
        (fun a b => by rw [cmpLane_fp32]) (fun a b => by rw [cmpLane_fp32])
    · exact ⟨int hty 0 _ fun _ _ => beq_iff_eq, int hty 1 _ fun _ _ => bne_iff_ne, int hty 2 _ fun _ _ => intCmp_lt hty _ _,
        int hty 3 _ fun _ _ => intCmp_not_lt hty _ _, int hty 4 _ fun _ _ => intCmp_lt hty _ _, int hty 5 _ fun _ _ => intCmp_not_lt hty _ _⟩
  · intro A PA L
    refine ⟨fun h => vperm_lanes h rfl (fun hfn => absurd hfn (by decide)) (fun _ => rfl) (fun _ => rfl),
      fun h hclean => vperm_lanes h rfl (fun _ => hclean) (fun _ => rfl) (fun _ => Bool.or_false _), bcast_lanes,
      fun h => ?_, tos_reads, insert_writes, fun h => ?_⟩
    · exact vector_lanes h rfl (fun x _ => ((x.sGet v.va.toNat).setWidth 32, 0, x.sBad v.va.toNat)) (fun _ _ _ => rfl) (fun _ _ => rfl) fun _ _ => rfl
    · exact vector_lanes h rfl (fun _ l => (BitVec.ofNat 32 l, 0, false)) (fun _ _ _ => rfl) (fun _ _ => rfl) fun _ _ => rfl

end Sys2Proof.Machine
end

section
/-! PROOFS. O8: conversions, widening, MX decoding, narrowing and MX quantization (06 R204, T6.13, 07 R231-R236). -/
namespace Sys2Proof.Machine

open Host

/-! ### A field put into a number -/

/-- Bits `lo` to `lo + w` of a number replaced. -/
def spliced (old lo w new : Nat) : Nat := old % 2 ^ lo + 2 ^ lo * new + 2 ^ (lo + w) * (old >>> (lo + w))

theorem spliced_testBit {old lo w new : Nat} (hnew : new < 2 ^ w) (i : Nat) :
    (spliced old lo w new).testBit i = if lo ≤ i ∧ i < lo + w then new.testBit (i - lo) else old.testBit i := by
  have hsum : spliced old lo w new = 2 ^ lo * (2 ^ w * (old >>> (lo + w)) + new) + old % 2 ^ lo := by
    unfold spliced
    ring
  rw [hsum, Nat.testBit_two_pow_mul_add _ (Nat.mod_lt _ (Nat.two_pow_pos lo)), Nat.testBit_mod_two_pow]
  by_cases hlo : i < lo
  · simp [hlo, not_le.2 hlo]
  · rw [if_neg hlo, Nat.testBit_two_pow_mul_add _ hnew, Nat.testBit_shiftRight]
    by_cases hw : i - lo < w
    · rw [if_pos hw, if_pos ⟨by omega, by omega⟩]
    · rw [if_neg hw, if_neg (by omega)]
      congr 1
      omega

theorem pack_lt {α : Type} (w : Nat) (f : α → Nat) (l : List α) : pack (l.map (fun x => (w, f x))) < 2 ^ (w * l.length) := by
  induction l with
  | nil => exact Nat.one_pos
  | cons a r ih =>
    have ha : f a % 2 ^ w < 2 ^ w := Nat.mod_lt _ (Nat.two_pow_pos w)
    have hpow : 2 ^ (w * (a :: r).length) = 2 ^ w * 2 ^ (w * r.length) := by rw [List.length_cons, Nat.mul_add_one, Nat.add_comm, Nat.pow_add]
    rw [hpow]
    show f a % 2 ^ w + 2 ^ w * pack (r.map (fun x => (w, f x))) < _
    have hstep := Nat.mul_le_mul_left (2 ^ w) (Nat.succ_le_of_lt ih)
    rw [Nat.mul_succ] at hstep
    omega

/-- Bits read from a word are those of its number. -/
theorem ofNat_field (N v i w : Nat) (h : i + w ≤ N) : (BitVec.ofNat N v).toNat >>> i % 2 ^ w = v >>> i % 2 ^ w := by
  refine Nat.eq_of_testBit_eq fun j => ?_
  simp only [Nat.testBit_mod_two_pow, Nat.testBit_shiftRight, BitVec.toNat_ofNat]
  by_cases hj : j < w
  · simp [hj, show i + j < N by omega]
  · simp [hj]

/-! ### Parts of a register (06 R204) -/

theorem partPos_fits : ∀ (ty : BitVec 4) (pos : BitVec 3), pos.toNat < partPos ty.toNat →
    pos.toNat * (64 * elemBits ty.toNat) + 64 * elemBits ty.toNat ≤ 2048 := by decide

section
variable (x : TileSt) (d code pos : Nat) (elems : List Nat) (bad : Nat → Bool)

/-- The register with one of its parts replaced. -/
def TileSt.withPart : BitVec 2048 :=
  BitVec.ofNat 2048 (spliced (x.vGet d).toNat (pos * (64 * elemBits code)) (64 * elemBits code) (pack (elems.map (fun e => (elemBits code, e)))))

variable {x d code pos elems} (hlen : elems.length = 64) (hfits : pos * (64 * elemBits code) + 64 * elemBits code ≤ 2048)
include hlen

theorem TileSt.withPart_bits_lt : pack (elems.map (fun e => (elemBits code, e))) < 2 ^ (64 * elemBits code) := by
  have h := pack_lt (elemBits code) (fun e => e) elems
  rwa [hlen, Nat.mul_comm] at h

theorem TileSt.withPart_outside (i : Nat) (hi : i < 2048) (hout : i < pos * (64 * elemBits code) ∨ pos * (64 * elemBits code) + 64 * elemBits code ≤ i) :
    (x.withPart d code pos elems).getLsbD i = (x.vGet d).getLsbD i := by
  rw [TileSt.withPart, BitVec.getLsbD_ofNat, spliced_testBit (TileSt.withPart_bits_lt hlen), if_neg (by omega), decide_eq_true hi, Bool.true_and]
  rfl

include hfits

theorem TileSt.withPart_elem (l e : Nat) (hl : l < 64) (he : elems[l]? = some e) :
    (x.withPart d code pos elems).toNat >>> (pos * (64 * elemBits code) + l * elemBits code) % 2 ^ elemBits code = e % 2 ^ elemBits code := by
  have hroom : l * elemBits code + elemBits code ≤ 64 * elemBits code := by nlinarith
  rw [TileSt.withPart, ofNat_field _ _ _ _ (by omega), ← pack_field (elemBits code) (fun e => e) elems l e he]
  refine Nat.eq_of_testBit_eq fun j => ?_
  simp only [Nat.testBit_mod_two_pow, Nat.testBit_shiftRight]
  by_cases hj : j < elemBits code
  · rw [spliced_testBit (TileSt.withPart_bits_lt hlen), if_pos (by omega)]
    congr 2
    rw [Nat.mul_comm (elemBits code)]
    omega
  · simp [hj]

end

/-! ### The mode of a conversion -/

theorem effMode_eq {w : Nat} (hw : 2 ≤ w) (rnd : BitVec w) (rmode : BitVec 3) :
    effMode rnd.toNat rmode = if rnd = 0 then rmode.toNat else if rnd = 1 then 0 else if rnd = 2 then 1 else 4 := by
  have hpow : 2 ^ 2 ≤ 2 ^ w := Nat.pow_le_pow_right (by decide) hw
  have hcode : ∀ n, n < 4 → (rnd.toNat = n ↔ rnd = BitVec.ofNat w n) := fun n hn => by
    rw [BitVec.toNat_eq, BitVec.toNat_ofNat, Nat.mod_eq_of_lt (by omega)]
  have hmode : ∀ n, effMode n rmode = if n = 0 then rmode.toNat else if n = 1 then 0 else if n = 2 then 1 else 4 := fun n => by
    match n with
    | 0 | 1 | 2 | n + 3 => rfl
  exact (hmode _).trans
    (if_congr (hcode 0 (by decide)) rfl (if_congr (hcode 1 (by decide)) rfl (if_congr (hcode 2 (by decide)) rfl rfl)))

section
variable {s : State} {t : Tile} {v : VArgs} {r : RndArgs} {k : Tok} {c : Instr} {ty : BitVec 4} {pos : BitVec 3}

/-! ### VCVT, VWIDEN, VMXDQ -/

theorem vcvt_lanes {f : Nat → W32 × Fl} (h : s.canQueue t (.vcvt ty r v) k) (hexec : exec c s = ok (s.issueQ t (.vcvt ty r v) k))
    (hf : ∀ l, vcvtLane ty.toNat (effMode r.rnd.toNat (s.tile t).rmode) (s.vR t v.va l) = f l) :
    Completes c s (fun u => s.vectorLanes u t (.vcvt ty r v) k v f fun l => s.vP t v.va l) :=
  vector_lanes h hexec (fun x l => let o := vcvtLane ty.toNat (effMode r.rnd.toNat (s.tile t).rmode) (x.ln v.va l)
                                   (o.1, o.2, x.lnBad v.va l))
    (fun _ _ _ => rfl) (fun _ _ => rfl) fun l _ => by rw [← hf]; rfl

/-- The element of a part, where its bits stand in the register. -/
def partElem (code pos : Nat) (v : BitVec 2048) (l : Nat) : Nat := v.toNat >>> (pos * (64 * elemBits code) + l * elemBits code) % 2 ^ elemBits code

theorem partElems_getD (code pos : Nat) (v : BitVec 2048) (l : Nat) (hl : l < 64) : (partElems code pos v).getD l 0 = partElem code pos v l := by
  simp [partElems, hl, partElem, partBits]

/-- An element is poisoned with either of the lanes its first and its last bit stand in. -/
def State.partBad (s : State) (t : Nat) (va : BitVec 5) (code pos l : Nat) : Bool :=
  let first := pos * (64 * elemBits code) + l * elemBits code
  s.vP t va (first / 32) || s.vP t va ((first + elemBits code - 1) / 32)

theorem vwiden_lanes (h : s.canQueue t (.vwiden ty v pos) k) : Completes (.vwiden t v k ty pos) s (fun u => s.vectorLanes u t (.vwiden ty v pos) k v
    (fun l => widenElem ty.toNat (partElem ty.toNat pos.toNat ((s.tile t).vGet v.va.toNat) l)) (s.partBad t v.va ty.toNat pos.toNat)) :=
  vector_lanes (c := .vwiden t v k ty pos) h rfl
    (fun x l => let o := widenElem ty.toNat ((partElems ty.toNat pos.toNat (x.vGet v.va.toNat)).getD l 0)
                let lo := pos.toNat * partBits ty.toNat + l * elemBits ty.toNat
                (o.1, o.2, x.lnBad v.va (lo / 32) || x.lnBad v.va ((lo + elemBits ty.toNat - 1) / 32)))
    (fun _ _ _ => rfl) (fun _ _ => rfl) fun l hl => by rw [partElems_getD _ _ _ l hl]; rfl

theorem vmxdq_lanes (h : s.canQueue t (.vmxdq ty v pos) k) : Completes (.vmxdq t v k ty pos) s (fun u => s.vectorLanes u t (.vmxdq ty v pos) k v
    (fun l => mxWiden ty.toNat (partElem ty.toNat pos.toNat ((s.tile t).vGet v.va.toNat) l)
      (if l < 32 then (s.sR t v.vb).toNat % 256 else (s.sR t v.vb).toNat / 256 % 256))
    (fun l => s.partBad t v.va ty.toNat pos.toNat l || s.sP t v.vb)) :=
  vector_lanes (c := .vmxdq t v k ty pos) h rfl
    (fun x l => let o := mxWiden ty.toNat ((partElems ty.toNat pos.toNat (x.vGet v.va.toNat)).getD l 0)
                           (if l < 32 then (x.sGet v.vb.toNat).toNat % 256 else (x.sGet v.vb.toNat).toNat / 256 % 256)
                let lo := pos.toNat * partBits ty.toNat + l * elemBits ty.toNat
                (o.1, o.2, x.lnBad v.va (lo / 32) || x.lnBad v.va ((lo + elemBits ty.toNat - 1) / 32) || x.sBad v.vb.toNat))
    (fun _ _ _ => rfl) (fun _ _ => rfl) fun l hl => by rw [partElems_getD _ _ _ l hl]; rfl

/-! ### VNARROW, VMXQ -/

/-- A part of register `d` takes the elements `e`, its other bits stay. -/
def State.partTaken (s u : State) (t : Tile) (d : BitVec 5) (code pos : Nat) (e : Nat → Nat) : Prop :=
  (∀ l, l < 64 → ((u.tile t).vGet d.toNat).toNat >>> (pos * (64 * elemBits code) + l * elemBits code) % 2 ^ elemBits code = e l % 2 ^ elemBits code) ∧
  (∀ i, i < 2048 → (i < pos * (64 * elemBits code) ∨ pos * (64 * elemBits code) + 64 * elemBits code ≤ i) →
    ((u.tile t).vGet d.toNat).getLsbD i = ((s.tile t).vGet d.toNat).getLsbD i)

theorem State.partTaken_withPart {u : State} {d : BitVec 5} {elems : List Nat} {e : Nat → Nat} (hlen : elems.length = 64)
    (hpos : pos.toNat < partPos ty.toNat) (hu : (u.tile t).vGet d.toNat = (s.tile t).withPart d.toNat ty.toNat pos.toNat elems)
    (he : ∀ l, l < 64 → elems[l]? = some (e l)) : s.partTaken u t d ty.toNat pos.toNat e :=
  ⟨fun l hl => by rw [hu, TileSt.withPart_elem hlen (partPos_fits ty pos hpos) l _ hl (he l hl)],
    fun i hi hout => by rw [hu, TileSt.withPart_outside hlen i hi hout]⟩

/-- SRCTR after a conversion: 64 draws when it rounds stochastically. -/
theorem srctr_drawn (c : Prop) [Decidable c] (n : W64) : n + BitVec.ofNat 64 (if c then 64 else 0) = if c then n + 64 else n := by
  split
  · rfl
  · exact BitVec.add_zero n

/-- The random bits that the conversion of lane `l` draws. -/
def State.draw (s : State) (t : Tile) (l : Nat) : W32 := srBits (s.tile t).srseed ((s.tile t).srctr + BitVec.ofNat 64 l)

/-- The conversion of lane `l` by VNARROW. -/
def TileSt.narrowed (x : TileSt) (code mode : Nat) (sat : Bool) (seed ctr : W64) (v : VArgs) (l : Nat) : Nat × Fl :=
  (fmtOf code).encode mode sat (srBits seed (ctr + BitVec.ofNat 64 l)) (.ofWord (x.ln v.va l))

theorem TileSt.vnarrow_vGet (x : TileSt) (code mode : Nat) (sat : Bool) (seed ctr : W64) (v : VArgs) (pos : Nat) :
    (x.vnarrow code mode sat seed ctr v pos).1.vGet v.vd.toNat =
      x.withPart v.vd.toNat code pos (((List.range 64).map (x.narrowed code mode sat seed ctr v)).map Prod.fst) :=
  tget_tset_same _ _ _ _

theorem TileSt.vnarrow_requeued (x z : TileSt) (code mode : Nat) (sat : Bool) (seed ctr : W64) (v : VArgs) (pos : Nat) :
    (x.requeued z).vnarrow code mode sat seed ctr v pos =
      ((x.vnarrow code mode sat seed ctr v pos).1.requeued z, (x.vnarrow code mode sat seed ctr v pos).2) := by
  have hln : ∀ l, (x.requeued z).ln v.va l = x.ln v.va l := fun _ => rfl
  simp only [TileSt.vnarrow, hln]
  rfl

theorem vnarrow_converts (h : s.canQueue t (.vnarrow ty r v pos) k) : Completes (.vnarrow t v r k ty pos) s (fun u =>
    s.partTaken u t v.vd ty.toNat pos.toNat (fun l => ((fmtOf ty.toNat).encode (effMode r.rnd.toNat (s.tile t).rmode) (r.sat || (s.tile t).rsat)
      (s.draw t l) (.ofWord (s.vR t v.va l))).1) ∧
    (u.tile t).srctr = (if effMode r.rnd.toNat (s.tile t).rmode = 4 then (s.tile t).srctr + 64 else (s.tile t).srctr) ∧
    s.otherTiles u t ∧ s.memSame u ∧ s.scalarsSame u t) := by
  have hpos : pos.toNat < partPos ty.toNat := by
    obtain ⟨-, hfields, -⟩ := h
    simp only [QOp.fieldsOk, Bool.and_eq_true, decide_eq_true_eq] at hfields
    exact hfields.2
  obtain ⟨u, hu, hbegun, hother, hmem⟩ := queued_tile (c := .vnarrow t v r k ty pos) h rfl
    (fun x => x.vnarrow ty.toNat (effMode r.rnd.toNat (s.tile t).rmode) (r.sat || (s.tile t).rsat) (s.tile t).srseed (s.tile t).srctr v pos.toNat)
    (fun _ _ _ => rfl) (fun x z => x.vnarrow_requeued z _ _ _ _ _ _ _)
  refine ⟨u, hu, State.partTaken_withPart ?_ hpos ((hbegun.part (fun x => x.vGet v.vd.toNat) fun _ => rfl).trans (TileSt.vnarrow_vGet _ _ _ _ _ _ _ _)) ?_,
    hbegun.srctr.trans (srctr_drawn _ _), hother, hmem, hbegun.scalars rfl⟩
  · simp
  · intro l hl
    simp only [List.map_map, List.getElem?_map, List.getElem?_range hl]
    rfl

/-- The elements of a block of 32. -/
theorem mxBlock_length (code mode : Nat) (rnds : List W32) (l : List FVal) (hr : rnds.length = l.length) :
    (mxBlock code mode rnds l).1.length = l.length := by
  unfold mxBlock
  split
  · simp
  · split <;> simp [hr]

/-- Block `b` of VMXQ: 32 lanes. -/
def TileSt.mxBlockOf (x : TileSt) (code mode : Nat) (seed ctr : W64) (v : VArgs) (b : Nat) : List (Nat × Fl) × Nat × Fl :=
  let ls := (List.range 32).map (fun l => 32 * b + l)
  mxBlock code mode (ls.map (fun l => srBits seed (ctr + BitVec.ofNat 64 l))) (ls.map (fun l => FVal.ofWord (x.ln v.va l)))

theorem TileSt.vmxq_vGet (x : TileSt) (code mode : Nat) (seed ctr : W64) (v : VArgs) (pos : Nat) :
    (x.vmxq code mode seed ctr v pos).1.vGet v.vd.toNat = x.withPart v.vd.toNat code pos
      (((x.mxBlockOf code mode seed ctr v 0).1 ++ (x.mxBlockOf code mode seed ctr v 1).1).map Prod.fst) :=
  tget_tset_same _ _ _ _

theorem TileSt.vmxq_sGet (x : TileSt) (code mode : Nat) (seed ctr : W64) (v : VArgs) (pos : Nat) :
    (x.vmxq code mode seed ctr v pos).1.sGet v.vc.toNat =
      BitVec.ofNat 64 ((x.mxBlockOf code mode seed ctr v 0).2.1 + 256 * (x.mxBlockOf code mode seed ctr v 1).2.1) :=
  tget_tset_same _ _ _ _

/-- The block of VMXQ that issues now. -/
def State.mxBlockOf (s : State) (t : Tile) (v : VArgs) (code mode b : Nat) : List (Nat × Fl) × Nat × Fl :=
  (s.tile t).mxBlockOf code mode (s.tile t).srseed (s.tile t).srctr v b

theorem State.mxBlockOf_eq (code mode b : Nat) : s.mxBlockOf t v code mode b = mxBlock code mode
    ((List.range 32).map (fun i => s.draw t (32 * b + i))) ((List.range 32).map (fun i => FVal.ofWord (s.vR t v.va (32 * b + i)))) := by
  simp only [State.mxBlockOf, TileSt.mxBlockOf, List.map_map]
  rfl

theorem State.mxBlockOf_length (code mode b : Nat) : (s.mxBlockOf t v code mode b).1.length = 32 := by
  rw [State.mxBlockOf_eq, mxBlock_length _ _ _ _ (by simp)]
  simp

/-- Lane `l` is element `l % 32` of block `l / 32`. -/
theorem State.mxBlockOf_append (code mode l : Nat) (hl : l < 64) :
    (((s.mxBlockOf t v code mode 0).1 ++ (s.mxBlockOf t v code mode 1).1).map Prod.fst)[l]? =
      some (((s.mxBlockOf t v code mode (l / 32)).1.getD (l % 32) (0, 0)).1) := by
  have helem : ∀ b i, i < 32 → (s.mxBlockOf t v code mode b).1[i]? = some ((s.mxBlockOf t v code mode b).1.getD i (0, 0)) := fun b i hi => by
    rw [List.getD_eq_getElem?_getD, List.getElem?_eq_getElem (by rw [State.mxBlockOf_length]; exact hi)]
    rfl
  rw [List.getElem?_map]
  by_cases hlow : l < 32
  · rw [List.getElem?_append_left (by rw [State.mxBlockOf_length]; exact hlow), helem _ _ hlow, Nat.div_eq_of_lt hlow, Nat.mod_eq_of_lt hlow]
    rfl
  · rw [List.getElem?_append_right (by rw [State.mxBlockOf_length]; omega), State.mxBlockOf_length, helem _ _ (by omega),
      show l / 32 = 1 by omega, show l % 32 = l - 32 by omega]
    rfl

theorem vmxq_quantizes (h : s.canQueue t (.vmxq ty r v pos) k) : Completes (.vmxq t v r k ty pos) s (fun u =>
    let block := s.mxBlockOf t v ty.toNat (effMode r.rnd.toNat (s.tile t).rmode)
    (s.partTaken u t v.vd ty.toNat pos.toNat (fun l => ((block (l / 32)).1.getD (l % 32) (0, 0)).1) ∧
    (u.tile t).srctr = (if effMode r.rnd.toNat (s.tile t).rmode = 4 then (s.tile t).srctr + 64 else (s.tile t).srctr) ∧
    s.otherTiles u t ∧ s.memSame u) ∧ u.sR t v.vc = BitVec.ofNat 64 ((block 0).2.1 + 256 * (block 1).2.1)) := by
  have hpos : pos.toNat < partPos ty.toNat := by
    obtain ⟨-, hfields, -⟩ := h
    simp only [QOp.fieldsOk, Bool.and_eq_true, decide_eq_true_eq] at hfields
    exact hfields.2
  obtain ⟨u, hu, hbegun, hother, hmem⟩ := queued_tile (c := .vmxq t v r k ty pos) h rfl
    (fun x => x.vmxq ty.toNat (effMode r.rnd.toNat (s.tile t).rmode) (s.tile t).srseed (s.tile t).srctr v pos.toNat)
    (fun _ _ _ => rfl) (fun _ _ => rfl)
  refine ⟨u, hu, ⟨State.partTaken_withPart ?_ hpos ((hbegun.part (fun x => x.vGet v.vd.toNat) fun _ => rfl).trans (TileSt.vmxq_vGet _ _ _ _ _ _ _))
      (State.mxBlockOf_append _ _),
    hbegun.srctr.trans (srctr_drawn _ _), hother, hmem⟩, (hbegun.part (fun x => x.sGet v.vc.toNat) fun _ => rfl).trans (TileSt.vmxq_sGet _ _ _ _ _ _ _)⟩
  exact (List.length_map _).trans (List.length_append.trans (congrArg₂ (· + ·) (State.mxBlockOf_length _ _ _) (State.mxBlockOf_length _ _ _)))

end

/-- Settles O8, instruction by instruction. -/
theorem vectorConversionsRoundAndNarrow : Obligations.VectorConversionsRoundAndNarrow := by
  unfold Obligations.VectorConversionsRoundAndNarrow
  refine ⟨fun s t v r k ty pos => ?_, fun s t v r k ty pos => ?_⟩
  · intro A mode L first elem bad
    have hmode := effMode_eq (by decide) r.rnd (s.tile t).rmode
    refine ⟨fun h => vcvt_lanes h rfl fun l => ?_, fun h => vcvt_lanes h rfl fun l => ?_, fun h => vcvt_lanes h rfl fun l => ?_,
      fun h => vcvt_lanes h rfl fun l => ?_, vwiden_lanes, vmxdq_lanes⟩
    all_goals
      rw [hmode]
      rfl
  · intro x A mode draw w lo P
    have hmode : effMode r.rnd.toNat (s.tile t).rmode = mode := effMode_eq (by decide) r.rnd (s.tile t).rmode
    refine ⟨fun h => ?_, fun h => ?_⟩
    · obtain ⟨u, hu, ⟨helems, hkept⟩, hctr, hother, hmem, hscalars⟩ := vnarrow_converts h
      rw [hmode] at helems hctr
      exact ⟨u, hu, ⟨helems, hkept, hctr, hother, hmem⟩, hscalars⟩
    · obtain ⟨u, hu, ⟨⟨helems, hkept⟩, hctr, hother, hmem⟩, hscale⟩ := vmxq_quantizes h
      simp only [State.mxBlockOf_eq, hmode] at helems hctr hscale
      exact ⟨u, hu, ⟨helems, hkept, hctr, hother, hmem⟩, hscale⟩

end Sys2Proof.Machine
end

section
/-! PROOFS. O14: the compressor configuration, the tap entries and the egress entries that XQ sets (06 R216-R219, 05 R176, R177, R179). -/
namespace Sys2Proof.Machine

open Host

/-! ### A record read from SRAM -/

theorem State.sramOk.check {s : State} {t a n align : Nat} {write : Bool} (h : s.sramOk t a n align write) :
    (s.tile t).sramCheck a n align write = none := by
  obtain ⟨halign, hrange, hprogram⟩ := h
  unfold TileSt.sramCheck
  rw [if_neg (not_not.2 halign), if_neg (by rw [sramSize]; omega), if_neg]
  cases write with
  | false => exact Bool.false_ne_true
  | true => simp [hprogram rfl]

/-- A compressor record that keeps the table's rules is the configuration. -/
theorem TileSt.compRecord_eq (x : TileSt) (b : List Byte) (h : (x.compRecord b).isSome = true) : x.compRecord b = some {
    mode := leAt b 0 1, fmt := leAt b 1 1, m := leAt b 2 1, nc := leAt b 3 1, thresh := leAt b 4 1, lenEn := decide (leAt b 5 1 = 1),
    scaleAddr := leAt b 8 4, lenAddr := leAt b 12 4, outMax := leAt b 16 4 } := by
  have hsome : ∀ (ok : Bool) (c : CompCfg), (if ok then some c else none).isSome = true → (if ok then some c else none) = some c := fun ok c hok => by
    cases ok
    · exact absurd hok Bool.false_ne_true
    · rfl
  exact hsome _ _ h

/-! ### Entries read after a write -/

section
variable (x : TileSt) (e : Nat)

@[simp] theorem TileSt.setTap_tap_same (v : Tap) : (x.setTap e v).tap e = v := tget_tset_same _ _ _ _
theorem TileSt.setTap_tap_other (v : Tap) (n : Nat) (h : n ≠ e) : (x.setTap e v).tap n = x.tap n := tget_tset_other _ _ _ _ _ h
@[simp] theorem TileSt.setEg_eg_same (v : Egress) : (x.setEg e v).eg e = v := tget_tset_same _ _ _ _
theorem TileSt.setEg_eg_other (v : Egress) (n : Nat) (h : n ≠ e) : (x.setEg e v).eg n = x.eg n := tget_tset_other _ _ _ _ _ h

end

/-! ### What an XQ instruction leaves -/

/-- What no instruction of XQ changes. -/
def State.keeps (s u : State) (t : Nat) : Prop :=
  s.memSame u ∧ s.registersSame u t ∧ (u.tile t).acc = (s.tile t).acc ∧ (u.tile t).tok = (s.tile t).tok ∧ (u.tile t).fstat = (s.tile t).fstat

section
variable {s u : State} {t : Nat} {op : QOp} {k : Tok} {fl : Fl} {e : Nat}

theorem State.hasBegun.keeps {x : TileSt} (h : s.hasBegun u t op k fl x) (hregs : x.registers = (s.tile t).registers)
    (hkept : (x.acc, x.tok, x.fstat) = ((s.tile t).acc, (s.tile t).tok, (s.tile t).fstat)) (hother : s.otherTiles u t) (hmem : s.memSame u) :
    s.keeps u t := by
  have hu := (h.part (fun x => (x.acc, x.tok, x.fstat)) fun _ => rfl).trans hkept
  simp only [Prod.mk.injEq] at hu
  exact ⟨hmem, State.registersSame_of ((h.part TileSt.registers fun _ => rfl).trans hregs) hother, hu⟩

theorem State.hasBegun.setTap_leaves {v : Tap} (h : s.hasBegun u t op k fl ((s.tile t).setTap e v)) (hother : s.otherTiles u t) (hmem : s.memSame u) :
    (u.tile t).tap e = v ∧ (∀ n, n ≠ e → (u.tile t).tap n = (s.tile t).tap n) ∧ (u.tile t).egress = (s.tile t).egress ∧
      (u.tile t).comp = (s.tile t).comp ∧ s.keeps u t :=
  ⟨(h.part (fun x => x.tap e) fun _ => rfl).trans (TileSt.setTap_tap_same _ _ _),
    fun n hn => (h.part (fun x => x.tap n) fun _ => rfl).trans (TileSt.setTap_tap_other _ _ _ n hn),
    h.part TileSt.egress fun _ => rfl, h.part TileSt.comp fun _ => rfl, h.keeps rfl rfl hother hmem⟩

theorem State.hasBegun.setEg_leaves {v : Egress} (h : s.hasBegun u t op k fl ((s.tile t).setEg e v)) (hother : s.otherTiles u t) (hmem : s.memSame u) :
    (u.tile t).eg e = v ∧ (∀ n, n ≠ e → (u.tile t).eg n = (s.tile t).eg n) ∧ (u.tile t).taps = (s.tile t).taps ∧
      (u.tile t).comp = (s.tile t).comp ∧ s.keeps u t :=
  ⟨(h.part (fun x => x.eg e) fun _ => rfl).trans (TileSt.setEg_eg_same _ _ _),
    fun n hn => (h.part (fun x => x.eg n) fun _ => rfl).trans (TileSt.setEg_eg_other _ _ _ n hn),
    h.part TileSt.taps fun _ => rfl, h.part TileSt.comp fun _ => rfl, h.keeps rfl rfl hother hmem⟩

end

theorem Eff.done_setT (s : State) (t : Nat) (x y : TileSt) (fl : Fl) (i : Option Nat) :
    Eff.done ((s.setT t x).setT t y) fl i = .done (s.setT t y) fl i := by rw [State.setT_setT]

/-- An egress entry whose next `n` indices are contributed or skipped. -/
def Egress.contributed (e : Egress) (n : Nat) (skip : Bool) : Egress :=
  { e with
    next := e.next + n, runs := e.runs ++ [{ first := e.next, count := n, skip := skip }]
    fill := if skip then e.fill else e.fill + n, count := satAdd e.count n }

/-! ### The effects, once their conditions hold -/

section
variable {w : State} {x : TileSt} {t : Nat} (hx : w.tile t = x)
include hx

theorem State.ccfg_eq {ar : BitVec 4} {cfg : CompCfg} (hcheck : x.sramCheck (x.aGet ar.toNat).toNat 64 64 false = none)
    (hrec : x.compRecord (w.sramBytes t (x.aGet ar.toNat).toNat 64) = some cfg) :
    w.ccfg t ar = .done (w.setT t { x with comp := cfg }) 0 none := by
  unfold State.ccfg
  simp only [hx, hcheck, hrec]

theorem State.tapOp_eq {e : BitVec 3} {ar : BitVec 4} (hcheck : x.sramCheck (x.aGet ar.toNat).toNat 32 32 false = none)
    (hattached : (x.tap e.toNat).state ≠ .attached) :
    let b := w.sramBytes t (x.aGet ar.toNat).toNat 32
    leAt b 0 2 < 4096 → leAt b 2 1 < 16 → leAt b 3 1 = 0 → leAt b 4 4 ≤ leAt b 8 4 → 1 ≤ leAt b 16 4 →
    leAt b 16 4 ≤ leAt b 12 4 → leAt b 12 4 ≤ 65536 → x.ringOk (leAt b 20 4) (leAt b 24 4) = true → leAt b 28 4 = 0 →
    w.tapOp t e ar = .done (w.setT t (x.setTap e.toNat {
      state := .armed, stream := BitVec.ofNat 12 (leAt b 0 2), token := BitVec.ofNat 4 (leAt b 2 1), first := BitVec.ofNat 32 (leAt b 4 4),
      last := BitVec.ofNat 32 (leAt b 8 4), period := leAt b 12 4, take := leAt b 16 4, ringBase := leAt b 20 4, ringSize := leAt b 24 4 })) 0 none := by
  intro b h1 h2 h3 h4 h5 h6 h7 h8 h9
  unfold State.tapOp
  simp only [hx, hcheck]
  exact if_neg (by simp [b, h1, h2, h3, h4, h5, h6, h7, h8, h9, hattached])

theorem State.egressOp_eq {e : BitVec 3} {ar : BitVec 4} (hcheck : x.sramCheck (x.aGet ar.toNat).toNat 32 32 false = none)
    (hattached : (x.eg e.toNat).state ≠ .attached) :
    let b := w.sramBytes t (x.aGet ar.toNat).toNat 32
    leAt b 0 2 < 4096 → leAt b 2 1 < 16 → leAt b 3 1 ≤ 2 → leAt b 4 4 ≤ leAt b 8 4 → leAt b 12 4 = 0 →
    x.ringOk (leAt b 16 4) (leAt b 20 4) = true → leAt b 24 8 = 0 → x.comp.egressOk (leAt b 3 1) = true →
    w.egressOp t e ar = .done (w.setT t (x.setEg e.toNat {
      state := .armed, stream := BitVec.ofNat 12 (leAt b 0 2), token := BitVec.ofNat 4 (leAt b 2 1), red := leAt b 3 1, first := leAt b 4 4,
      last := leAt b 8 4, ringBase := leAt b 16 4, ringSize := leAt b 20 4, next := leAt b 4 4, comp := x.comp })) 0 none := by
  intro b h1 h2 h3 h4 h5 h6 h7 h8
  unfold State.egressOp
  simp only [hx, hcheck]
  exact if_neg (by simp [b, h1, h2, h3, h4, h5, h6, h7, h8, hattached])

theorem State.tapxOp_eq (e : BitVec 3) : w.tapxOp t e = .done (w.setT t (x.setTap e.toNat { x.tap e.toNat with state := .idle })) 0 none := by
  rw [← hx]
  rfl

theorem State.strelOp_eq {c : CountArgs} (hlive : (x.tap c.e.toNat).state ≠ .aborted) (hfill : x.countOf c ≤ (x.tap c.e.toNat).fill) (hn : x.countOf c ≠ 0) :
    w.strelOp t c = .done (w.setT t (x.setTap c.e.toNat { x.tap c.e.toNat with fill := (x.tap c.e.toNat).fill - x.countOf c })) 0 none := by
  unfold State.strelOp
  simp only [hx, if_neg hn, if_neg hlive, if_neg (not_lt.2 hfill)]

theorem State.strelOp_zero {c : CountArgs} (hn : x.countOf c = 0) : w.strelOp t c = .done w 0 none := by
  unfold State.strelOp
  simp only [hx, if_pos hn]

theorem State.contribOp_eq {c : CountArgs} {skip : Bool} (hn : 0 < x.countOf c)
    (hlive : (x.eg c.e.toNat).state = .armed ∨ (x.eg c.e.toNat).state = .attached ∨ (x.eg c.e.toNat).state = .done)
    (hlast : (x.eg c.e.toNat).next + x.countOf c ≤ (x.eg c.e.toNat).last + 1)
    (hroom : skip = false → (x.eg c.e.toNat).fill + x.countOf c ≤ (x.eg c.e.toNat).ringSize / 256) :
    w.contribOp t c skip = .done (w.setT t (x.setEg c.e.toNat ((x.eg c.e.toNat).contributed (x.countOf c) skip))) 0 none := by
  have hstate : (x.eg c.e.toNat).state ≠ .aborted ∧ (x.eg c.e.toNat).state ≠ .idle := by
    obtain h | h | h := hlive <;> simp [h]
  have hfits : ¬((x.eg c.e.toNat).state = .idle ∨ (x.eg c.e.toNat).last + 1 < (x.eg c.e.toNat).next + x.countOf c ∨
      (!skip && decide ((x.eg c.e.toNat).ringSize / 256 < (x.eg c.e.toNat).fill + x.countOf c)) = true) := by
    rintro (h | h | h)
    · exact hstate.2 h
    · omega
    · cases skip <;> simp at h
      have := hroom rfl
      omega
  unfold State.contribOp
  simp only [hx, if_neg hn.ne', if_neg hstate.1, if_neg hfits]
  rfl

end

/-! ### CCFG (06 R216) -/

section
variable {s : State} {t : Tile} {k : Tok}

theorem ccfg_configures {ar : BitVec 4} {cfg : CompCfg} (h : s.canQueue t (.ccfg ar) k) (hsram : s.sramOk t (s.aR t ar).toNat 64 64 false)
    (hidle : ∀ y ∈ s.xfers, y.t ≠ t.val) (hrec : (s.tile t).compRecord (s.sramBytes t (s.aR t ar).toNat 64) = some cfg) :
    Completes (.ccfg t ar k) s (fun u => (u.tile t).comp = cfg ∧ (u.tile t).taps = (s.tile t).taps ∧ (u.tile t).egress = (s.tile t).egress ∧
      s.keeps u t) := by
  have hheld : s.recordHeld t (s.aR t ar).toNat 64 = false := by
    refine List.any_eq_false.2 fun y hy => ?_
    simp [hidle y hy]
  obtain ⟨u, hu, hbegun, hother, hmem⟩ := queued_setT (c := .ccfg t ar k) (fl := 0) (x := { s.tile t with comp := cfg }) h rfl fun z => by
    have htile := s.tile_setT_same t ((s.tile t).requeued z)
    refine (if_neg ?_).trans ((State.ccfg_eq (cfg := cfg) htile hsram.check hrec).trans (Eff.done_setT _ _ _ _ _ _))
    rw [htile]
    exact (Bool.eq_false_iff.1 hheld)
  exact ⟨u, hu, hbegun.part TileSt.comp fun _ => rfl, hbegun.part TileSt.taps fun _ => rfl, hbegun.part TileSt.egress fun _ => rfl,
    hbegun.keeps rfl rfl hother hmem⟩

/-! ### The tap entries (06 R218) -/

theorem TileSt.ringOk_of {x : TileSt} {base size : Nat}
    (h : base % 256 = 0 ∧ size % 256 = 0 ∧ 256 ≤ size ∧ size ≤ 0x80000 ∧ base + size ≤ 0xC0000 ∧ x.inProgram base size = false) :
    x.ringOk base size = true := by
  obtain ⟨h1, h2, h3, h4, h5, h6⟩ := h
  simp [TileSt.ringOk, sramSize, h1, h2, h3, h4, h5, h6]

section
variable {op : QOp} {c : Instr} {e : Nat}

/-- An instruction that writes one tap entry. -/
theorem queued_setTap {v : Tap} (h : s.canQueue t op k) (hexec : exec c s = ok (s.issueQ t op k))
    (hrun : ∀ (w : State) z, w = s.setT t ((s.tile t).requeued z) → w.runOp t ((s.tile t).newEntry op k) = .done (w.setT t ((w.tile t).setTap e v)) 0 none) :
    Completes c s (fun u => (u.tile t).tap e = v ∧ (∀ n, n ≠ e → (u.tile t).tap n = (s.tile t).tap n) ∧ (u.tile t).egress = (s.tile t).egress ∧
      (u.tile t).comp = (s.tile t).comp ∧ s.keeps u t) := by
  obtain ⟨u, hu, hbegun, hother, hmem⟩ := queued_setT (fl := 0) (x := (s.tile t).setTap e v) h hexec fun z => by
    rw [hrun _ z rfl, State.tile_setT_same, State.setT_setT]
    rfl
  exact ⟨u, hu, hbegun.setTap_leaves hother hmem⟩

/-- An instruction that writes one egress entry. -/
theorem queued_setEg {v : Egress} (h : s.canQueue t op k) (hexec : exec c s = ok (s.issueQ t op k))
    (hrun : ∀ (w : State) z, w = s.setT t ((s.tile t).requeued z) → w.runOp t ((s.tile t).newEntry op k) = .done (w.setT t ((w.tile t).setEg e v)) 0 none) :
    Completes c s (fun u => (u.tile t).eg e = v ∧ (∀ n, n ≠ e → (u.tile t).eg n = (s.tile t).eg n) ∧ (u.tile t).taps = (s.tile t).taps ∧
      (u.tile t).comp = (s.tile t).comp ∧ s.keeps u t) := by
  obtain ⟨u, hu, hbegun, hother, hmem⟩ := queued_setT (fl := 0) (x := (s.tile t).setEg e v) h hexec fun z => by
    rw [hrun _ z rfl, State.tile_setT_same, State.setT_setT]
    rfl
  exact ⟨u, hu, hbegun.setEg_leaves hother hmem⟩

end

theorem strel_frees {c : CountArgs} (h : s.canQueue t (.strel c) k) (hlive : ((s.tile t).tap c.e.toNat).state ≠ .aborted)
    (hfill : (s.tile t).countOf c ≤ ((s.tile t).tap c.e.toNat).fill) : Completes (.strel t c k) s (fun u =>
      (u.tile t).tap c.e.toNat = { (s.tile t).tap c.e.toNat with fill := ((s.tile t).tap c.e.toNat).fill - (s.tile t).countOf c } ∧
      (∀ n, n ≠ c.e.toNat → (u.tile t).tap n = (s.tile t).tap n) ∧ (u.tile t).egress = (s.tile t).egress ∧ s.keeps u t) := by
  by_cases hn : (s.tile t).countOf c = 0
  · obtain ⟨u, hu, hbegun, hother, hmem⟩ := queued_setT (c := .strel t c k) (fl := 0) (x := s.tile t) h rfl fun z =>
      State.strelOp_zero (s.tile_setT_same t _) hn
    refine ⟨u, hu, ?_, fun n _ => hbegun.part (fun x => x.tap n) fun _ => rfl, hbegun.part TileSt.egress fun _ => rfl,
      hbegun.keeps rfl rfl hother hmem⟩
    rw [hn]
    exact hbegun.part (fun x => x.tap c.e.toNat) fun _ => rfl
  · obtain ⟨u, hu, htap, hothers, hegress, -, hkeeps⟩ := queued_setTap (c := .strel t c k) (e := c.e.toNat)
      (v := { (s.tile t).tap c.e.toNat with fill := ((s.tile t).tap c.e.toNat).fill - (s.tile t).countOf c }) h rfl fun w z hw => by
        have htile : w.tile t = (s.tile t).requeued z := hw ▸ s.tile_setT_same t _
        rw [htile]
        exact State.strelOp_eq htile hlive hfill hn
    exact ⟨u, hu, htap, hothers, hegress, hkeeps⟩

end

/-- Settles O14, instruction by instruction. -/
theorem streamEntryInstructionsSetTheirEntries : Obligations.StreamEntryInstructionsSetTheirEntries := by
  unfold Obligations.StreamEntryInstructionsSetTheirEntries
  intro s t k T kept ring
  have htile : ∀ {w z}, w = s.setT t ((s.tile t).requeued z) → w.tile t = (s.tile t).requeued z := fun hw => hw ▸ s.tile_setT_same t _
  refine ⟨fun ar h hsram hidle hrec => ?_, fun e ar h hsram h1 h2 h3 h4 h5 h6 h7 hring h8 hattached => ?_, fun e h => ?_,
    fun c h hlive hfill => strel_frees h hlive hfill, fun e ar h hsram h1 h2 h3 h4 h5 hring h6 hattached hcomp => ?_,
    fun c hn hlive hlast => ⟨fun h hroom => ?_, fun h => ?_⟩⟩
  case refine_1 => exact ccfg_configures h hsram hidle (TileSt.compRecord_eq _ _ hrec)
  case refine_2 =>
    refine queued_setTap h rfl fun w z hw => ?_
    rw [htile hw]
    subst hw
    exact State.tapOp_eq (htile rfl) hsram.check hattached h1 h2 h3 h4 h5 h6 h7 (TileSt.ringOk_of hring) h8
  case refine_3 =>
    refine queued_setTap h rfl fun w z hw => ?_
    rw [htile hw]
    exact State.tapxOp_eq (htile hw) e
  case refine_4 =>
    refine queued_setEg h rfl fun w z hw => ?_
    rw [htile hw]
    subst hw
    exact State.egressOp_eq (htile rfl) hsram.check hattached h1 h2 h3 h4 h5 (TileSt.ringOk_of hring) h6 hcomp
  case refine_5 =>
    obtain ⟨u, hu, heg, hothers, htaps, -, hkeeps⟩ := queued_setEg (c := .econtrib t c k) (v := (T.eg c.e.toNat).contributed (T.countOf c) false)
        h rfl fun w z hw => by
      rw [htile hw]
      exact State.contribOp_eq (skip := false) (htile hw) hn hlive hlast fun _ => hroom
    exact ⟨u, hu, heg, hothers, htaps, hkeeps⟩
  case refine_6 =>
    obtain ⟨u, hu, heg, hothers, htaps, -, hkeeps⟩ := queued_setEg (c := .eskip t c k) (v := (T.eg c.e.toNat).contributed (T.countOf c) true)
        h rfl fun w z hw => by
      rw [htile hw]
      exact State.contribOp_eq (skip := true) (htile hw) hn hlive hlast fun hskip => absurd hskip Bool.noConfusion
    exact ⟨u, hu, heg, hothers, htaps, hkeeps⟩

end Sys2Proof.Machine
end

section
/-! PROOFS. What a store into a tile's SRAM leaves: its bytes, its granules, every other byte and granule (05 R159, R164). -/
namespace Sys2Proof.Machine

open Host

/-! ### Bytes of a number -/

theorem leNat_byte (l : List Byte) (i : Nat) : leNat l / 256 ^ i % 256 = (l.getD i 0).toNat := by
  induction l generalizing i with
  | nil => simp [leNat]
  | cons b r ih =>
    have hb := b.isLt
    cases i with
    | zero =>
      simp only [leNat, pow_zero, Nat.div_one, List.getD_cons_zero]
      omega
    | succ i =>
      rw [List.getD_cons_succ, ← ih i, leNat, pow_succ', ← Nat.div_div_eq_div_mul]
      congr 2
      omega

theorem leBytes_getElem? (n v i : Nat) (hi : i < n) : (leBytes n v)[i]? = some (BitVec.ofNat 8 (v / 256 ^ i)) := by
  induction n generalizing v i with
  | zero => omega
  | succ n ih =>
    cases i with
    | zero => simp [leBytes]
    | succ i =>
      rw [leBytes, List.getElem?_cons_succ, ih _ _ (by omega), pow_succ', Nat.div_div_eq_div_mul]

/-! ### Bytes of a memory -/

theorem Memory.readN_length (m : Memory) (a n : Nat) : (m.readN a n).length = n := by
  induction n generalizing a with
  | zero => rfl
  | succ n ih => simp [Memory.readN, ih]

theorem Memory.readN_getElem? (m : Memory) (a n i : Nat) (hi : i < n) : (m.readN a n)[i]? = some (m.read (a + i)) := by
  induction n generalizing a i with
  | zero => omega
  | succ n ih =>
    cases i with
    | zero => rfl
    | succ i =>
      rw [Memory.readN, List.getElem?_cons_succ, ih _ _ (by omega)]
      congr 2
      omega

theorem Memory.read_writeN_same (m : Memory) (a i : Nat) (l : List Byte) (hi : i < l.length) : (m.writeN a l).read (a + i) = l.getD i 0 := by
  have h := Memory.readN_getElem? (m.writeN a l) a l.length i hi
  rw [Memory.readN_writeN_same] at h
  rw [List.getD_eq_getElem?_getD, h]
  rfl

/-! ### Granules -/

theorem mem_granules (a n g : Nat) : g ∈ granules a n ↔ ∃ i, i < n ∧ g = (a + i) / 256 := by
  unfold granules
  split
  · next h => simp [h]
  · next h =>
    simp only [List.mem_map, List.mem_range]
    constructor
    · rintro ⟨j, hj, rfl⟩
      by_cases hfirst : j = 0
      · exact ⟨0, by omega, by omega⟩
      · exact ⟨256 * (j + a / 256) - a, by omega, by omega⟩
    · rintro ⟨i, hi, rfl⟩
      exact ⟨(a + i) / 256 - a / 256, by omega, by omega⟩

section
variable (s : State) (t g : Nat) (v : GState)

theorem State.setGst_at (n : Nat) : tget .local' (s.setGst t g v).sramG n = if n = t * 3072 + g then v else tget .local' s.sramG n := by
  unfold State.setGst
  split
  · next h =>
    by_cases hn : n = t * 3072 + g
    · rw [if_pos hn, hn, h]
      exact tget_tdel_same _ _ _
    · rw [if_neg hn]
      exact tget_tdel_other _ _ _ _ hn
  · by_cases hn : n = t * 3072 + g
    · rw [if_pos hn, hn]
      exact tget_tset_same _ _ _ _
    · rw [if_neg hn]
      exact tget_tset_other _ _ _ _ _ hn

theorem State.foldl_setGst_at (l : List Nat) (n : Nat) : tget .local' (l.foldl (fun u g => u.setGst t g v) s).sramG n =
    if ∃ g ∈ l, n = t * 3072 + g then v else tget .local' s.sramG n := by
  induction l generalizing s with
  | nil => simp
  | cons g r ih =>
    rw [List.foldl_cons, ih, State.setGst_at]
    by_cases hr : ∃ g ∈ r, n = t * 3072 + g <;> by_cases hg : n = t * 3072 + g <;> simp [hr, hg]

theorem State.foldl_setGst_only (l : List Nat) : ∃ m, l.foldl (fun u g => u.setGst t g v) s = { s with sramG := m } := by
  induction l generalizing s with
  | nil => exact ⟨_, rfl⟩
  | cons g r ih => exact ih (s.setGst t g v)

end

/-! ### A store -/

theorem sramKey_add (t a i : Nat) : sramKey t (a + i) = sramKey t a + i := (Nat.add_assoc _ _ _).symm

section
variable (s : State) (t a : Nat) (data : List Byte) (bad : Bool)

/-- A store changes bytes and granule states, nothing else. -/
theorem State.unitWrite_only : ∃ m, s.unitWrite t a data bad = { s with sram := s.sram.writeN (sramKey t a) data, sramG := m } :=
  State.foldl_setGst_only _ _ _ _

theorem State.unitWrite_granule (n : Nat) : tget .local' (s.unitWrite t a data bad).sramG n =
    if ∃ i, i < data.length ∧ n = t * 3072 + (a + i) / 256 then (if bad then .poisoned else .local') else tget .local' s.sramG n := by
  rw [State.unitWrite, State.foldl_setGst_at]
  refine if_congr ?_ rfl rfl
  simp only [mem_granules]
  constructor
  · rintro ⟨_, ⟨i, hi, rfl⟩, hn⟩
    exact ⟨i, hi, hn⟩
  · rintro ⟨i, hi, hn⟩
    exact ⟨_, ⟨i, hi, rfl⟩, hn⟩

theorem State.unitWrite_tile (n : Nat) : (s.unitWrite t a data bad).tile n = s.tile n := State.tile_of_tiles (by simp) n

theorem State.unitWrite_storedTo : s.storedTo (s.unitWrite t a data bad) t a data bad := by
  have hsram : (s.unitWrite t a data bad).sram = s.sram.writeN (sramKey t a) data := by
    obtain ⟨m, hm⟩ := s.unitWrite_only t a data bad
    rw [hm]
  refine ⟨fun i hi => ⟨?_, ?_⟩, fun x hx => ?_, fun n hn => ?_, by simp, by simp, by simp⟩
  · rw [State.sramAt, hsram, sramKey_add]
    exact Memory.read_writeN_same _ _ _ _ hi
  · rw [State.gst, State.unitWrite_granule, if_pos ⟨i, hi, rfl⟩]
  · rw [hsram, Memory.read_writeN_other _ _ _ _ hx]
  · rw [State.unitWrite_granule, if_neg]
    rintro ⟨i, hi, h⟩
    exact hn i hi h

end

/-- A store says the memories alone: a state with the same memories stands as well. -/
theorem State.storedTo.of_memSame {s u v : State} {t a : Nat} {l : List Byte} {bad : Bool} (h : s.storedTo u t a l bad) (hv : u.memSame v) :
    s.storedTo v t a l bad := by
  obtain ⟨hsram, hsramG, hslices, hsliceG, hflash⟩ := hv
  unfold State.storedTo State.sramAt State.gst at h ⊢
  rwa [hsram, hsramG, hslices, hsliceG, hflash]

theorem State.storedTo.from_memSame {s u v : State} {t a : Nat} {l : List Byte} {bad : Bool} (h : u.storedTo v t a l bad) (hu : s.memSame u) :
    s.storedTo v t a l bad := by
  obtain ⟨hsram, hsramG, hslices, hsliceG, hflash⟩ := hu
  unfold State.storedTo at h ⊢
  rwa [← hsram, ← hsramG, ← hslices, ← hsliceG, ← hflash]

end Sys2Proof.Machine
end

section
/-! PROOFS. O9, first part: loads and stores of scalars and of parts of vectors (06 R205, T6.14, T6.15). -/
namespace Sys2Proof.Machine

open Host

/-! ### Bits of loaded values -/

/-- A loaded scalar: its bytes, sign- or zero-extended. -/
def loaded (n : Nat) (sext : Bool) (v : Nat) : W64 := if sext then BitVec.ofInt 64 (BitVec.ofNat (8 * n) v).toInt else BitVec.ofNat 64 v

theorem loaded_low {n : Nat} {sext : Bool} {v i : Nat} (hn : n ≤ 8) (hi : i < 8 * n) : (loaded n sext v).getLsbD i = v.testBit i := by
  have hwidth : i < 64 := by omega
  cases sext
  · exact (BitVec.getLsbD_ofNat _ _ _).trans (by simp [hwidth])
  · refine (BitVec.getLsbD_signExtend (BitVec.ofNat (8 * n) v)).trans ?_
    rw [decide_eq_true hwidth, if_pos hi, BitVec.getLsbD_ofNat, decide_eq_true hi]
    rfl

theorem loaded_high {n : Nat} {sext : Bool} {v i : Nat} (hn : n ≤ 8) (hn0 : 0 < n) (hv : v < 2 ^ (8 * n)) (hlo : 8 * n ≤ i) (hi : i < 64) :
    (loaded n sext v).getLsbD i = (sext && (loaded n sext v).getLsbD (8 * n - 1)) := by
  rw [loaded_low (i := 8 * n - 1) hn (by omega)]
  cases sext
  · refine (BitVec.getLsbD_ofNat _ _ _).trans ?_
    rw [Nat.testBit_lt_two_pow (lt_of_lt_of_le hv (Nat.pow_le_pow_right (by omega) hlo)), Bool.and_false, Bool.false_and]
  · refine (BitVec.getLsbD_signExtend (BitVec.ofNat (8 * n) v)).trans ?_
    rw [decide_eq_true hi, if_neg (not_lt.2 hlo), BitVec.msb_eq_getLsbD_last, BitVec.getLsbD_ofNat, decide_eq_true (by omega)]
    rfl

/-- Byte `i` of little-endian bytes, bit by bit. -/
theorem leNat_testBit (l : List Byte) (i j : Nat) (hj : j < 8) : (leNat l).testBit (8 * i + j) = (l.getD i 0).getLsbD j := by
  have hbyte := congrArg (fun n => n.testBit j) (leNat_byte l i)
  simp only [show (256 : Nat) = 2 ^ 8 by rfl, ← pow_mul, Nat.testBit_mod_two_pow, Nat.testBit_div_two_pow, hj, decide_true, Bool.true_and] at hbyte
  rw [Nat.add_comm, hbyte]
  rfl

/-- Byte `i` of a word whose bits there are those of stored bytes. -/
theorem byte_of_bits {w : Nat} (v : BitVec w) (p : Nat) (b : Byte) (h : ∀ j, j < 8 → v.getLsbD (p + j) = b.getLsbD j) : v.extractLsb' p 8 = b := by
  refine BitVec.eq_of_getLsbD_eq fun j hj => ?_
  rw [BitVec.getLsbD_extractLsb', h j hj, decide_eq_true hj, Bool.true_and]

/-! ### The address of an access and what POSTINC leaves -/

section
variable {s u : State} {t : Nat} {m : MemArgs}

/-- What a load or store may change besides its effect: aA. -/
theorem TileSt.memPost_aGet (x : TileSt) : (x.memPost m).aGet m.a.toNat =
    (if m.postinc then x.aGet m.a.toNat + m.off.signExtend 64 else x.aGet m.a.toNat) ∧
    ∀ r, r ≠ m.a.toNat → (x.memPost m).aGet r = x.aGet r := by
  unfold TileSt.memPost
  cases m.postinc
  · exact ⟨rfl, fun _ _ => rfl⟩
  · exact ⟨tget_tset_same _ _ _ _, fun r hr => tget_tset_other _ _ _ _ _ hr⟩

theorem TileSt.memPost_requeued (x z : TileSt) : (x.requeued z).memPost m = (x.memPost m).requeued z := by
  unfold TileSt.memPost
  cases m.postinc <;> rfl

section
variable (x : TileSt)

@[simp] theorem TileSt.memPost_scalars : ((x.memPost m).s, (x.memPost m).sPoison) = (x.s, x.sPoison) := by unfold TileSt.memPost; cases m.postinc <;> rfl
@[simp] theorem TileSt.memPost_preds : ((x.memPost m).p, (x.memPost m).pPoison) = (x.p, x.pPoison) := by unfold TileSt.memPost; cases m.postinc <;> rfl
@[simp] theorem TileSt.memPost_vectors : ((x.memPost m).v, (x.memPost m).vPoison) = (x.v, x.vPoison) := by unfold TileSt.memPost; cases m.postinc <;> rfl
@[simp] theorem TileSt.memPost_banks : (x.memPost m).banks = x.banks := by unfold TileSt.memPost; cases m.postinc <;> rfl
theorem TileSt.memPost_sGet (r : Nat) : (x.memPost m).sGet r = x.sGet r := congrArg (fun l => tget 0 l r) (Prod.mk.inj (x.memPost_scalars (m := m))).1
theorem TileSt.memPost_vGet (r : Nat) : (x.memPost m).vGet r = x.vGet r := congrArg (fun l => tget 0 l r) (Prod.mk.inj (x.memPost_vectors (m := m))).1

end

section
variable {op : QOp} {k : Tok} {fl : Fl} {x : TileSt} (h : s.hasBegun u t op k fl x)
include h

theorem State.hasBegun.access (hx : ∀ r, x.aGet r = ((s.tile t).memPost m).aGet r) : s.afterAccess u t m := by
  obtain ⟨hsame, hother⟩ := (s.tile t).memPost_aGet (m := m)
  have hu : ∀ r, (u.tile t).aGet r = ((s.tile t).memPost m).aGet r := fun r => (h.part (fun x => x.aGet r) fun _ => rfl).trans (hx r)
  exact ⟨(hu _).trans hsame, fun r hr => (hu r).trans (hother r hr)⟩

end

end

/-! ### LD (06 R205) -/

section
variable {s : State} {t : Tile} {m : MemArgs} {k : Tok}

theorem State.ld_eq {w : State} {x : TileSt} {t : Nat} (hx : w.tile t = x)
    (hcheck : x.sramCheck (x.memAddr m) (memBytes m) (memBytes m) false = none) : w.ld t m = .done (w.setT t ((x.memPost m).sSet m.d.toNat
      (loaded (memBytes m) m.sext (leNat (w.sramBytes t (x.memAddr m) (memBytes m)))) (w.sramBad t (x.memAddr m) (memBytes m)))) 0 none := by
  unfold State.ld
  simp only [hx, hcheck]
  rfl

theorem ld_loads (h : s.canQueue t (.ld m) k) (hsram : s.sramOk t (s.accessAddr t m) (2 ^ m.size.toNat) (2 ^ m.size.toNat) false) :
    let a := s.accessAddr t m
    let n := 2 ^ m.size.toNat
    Completes (.ld t m k) s (fun u =>
      (∀ i, i < n → (u.sR t m.d).extractLsb' (8 * i) 8 = s.sramAt t (a + i)) ∧
      (∀ i, 8 * n ≤ i → i < 64 → (u.sR t m.d).getLsbD i = (m.sext && (u.sR t m.d).getLsbD (8 * n - 1))) ∧
      u.sP t m.d = s.sramBad t a n ∧ (∀ r, r ≠ m.d → u.sR t r = s.sR t r) ∧
      s.afterAccess u t m ∧ s.entryBegun u t (.ld m) k 0 ∧ s.predsSame u t ∧ s.vectorsSame u t ∧ s.banksSame u t ∧ s.otherTiles u t ∧ s.memSame u) := by
  intro a n
  let v := leNat (s.sramBytes t a n)
  obtain ⟨u, hu, hbegun, hother, hmem⟩ := queued_setT (c := .ld t m k) (fl := 0)
    (x := ((s.tile t).memPost m).sSet m.d.toNat (loaded n m.sext v) (s.sramBad t a n)) h rfl fun z => by
      refine (State.ld_eq (x := (s.tile t).requeued z) (s.tile_setT_same t _) hsram.check).trans ((Eff.done_setT _ _ _ _ _ _).trans ?_)
      rw [TileSt.memPost_requeued]
      rfl
  have hn : n ≤ 8 ∧ 0 < n := ⟨Nat.pow_le_pow_right (by omega) (by omega : m.size.toNat ≤ 3), Nat.two_pow_pos _⟩
  have hlen : (s.sramBytes t a n).length = n := Memory.readN_length _ _ _
  have hv : v < 2 ^ (8 * n) := by
    have hlt := leNat_lt (s.sramBytes t a n)
    rwa [hlen, show (256 : Nat) = 2 ^ 8 by rfl, ← pow_mul] at hlt
  have hs : ∀ r : BitVec 5, u.sR t r = if r = m.d then loaded n m.sext v else s.sR t r := fun r => by
    refine (hbegun.part (fun x => x.sGet r.toNat) fun _ => rfl).trans ?_
    by_cases hr : r = m.d
    · rw [if_pos hr, hr, TileSt.sSet_sGet_same]
    · rw [if_neg hr, TileSt.sSet_sGet_other _ _ _ _ _ fun e => hr (BitVec.toNat_inj.1 e)]
      exact TileSt.memPost_sGet _ _
  refine ⟨u, hu, fun i hi => ?_, fun i hlo hi => ?_, ?_, fun r hr => ?_, hbegun.access fun _ => rfl, hbegun.entry,
    hbegun.preds (TileSt.memPost_preds _), hbegun.vectors (TileSt.memPost_vectors _), hbegun.sameBanks (TileSt.memPost_banks _), hother, hmem⟩
  · rw [hs, if_pos rfl]
    refine byte_of_bits _ _ _ fun j hj => ?_
    rw [loaded_low hn.1 (by omega), leNat_testBit _ _ _ hj, List.getD_eq_getElem?_getD, State.sramBytes, Memory.readN_getElem? _ _ _ _ hi, State.sramAt,
      sramKey_add]
    rfl
  · rw [hs, if_pos rfl]
    exact loaded_high hn.1 hn.2 hv hlo hi
  · refine (hbegun.part (fun x => x.sBad m.d.toNat) fun _ => rfl).trans ?_
    rw [TileSt.sSet_sBad _ _ _ _ _ m.d.isLt, if_pos rfl]
  · rw [hs, if_neg hr]

/-! ### ST (06 R205) -/

/-- An access that stores: POSTINC, the bytes and their granules. -/
theorem queued_store {op : QOp} {c : Instr} {a : Nat} {data : List Byte} {bad : Bool} (h : s.canQueue t op k) (hexec : exec c s = ok (s.issueQ t op k))
    (hrun : ∀ z, (s.setT t ((s.tile t).requeued z)).runOp t ((s.tile t).newEntry op k) =
      .done ((s.setT t (((s.tile t).memPost m).requeued z)).unitWrite t a data bad) 0 none) :
    Completes c s (fun u => s.storedTo u t a data bad ∧ s.afterAccess u t m ∧ s.entryBegun u t op k 0 ∧
      s.scalarsSame u t ∧ s.predsSame u t ∧ s.vectorsSame u t ∧ s.banksSame u t ∧ s.otherTiles u t) := by
  obtain ⟨u, hu, hbegun, z, hother, hmem⟩ := queued_begins h hexec hrun fun z =>
    ⟨z, (State.unitWrite_tile _ _ _ _ _ _).trans (s.tile_setT_same t _), rfl, rfl⟩
  refine ⟨u, hu, ?_, hbegun.access fun _ => rfl, hbegun.entry, hbegun.scalars (TileSt.memPost_scalars _), hbegun.preds (TileSt.memPost_preds _),
    hbegun.vectors (TileSt.memPost_vectors _), hbegun.sameBanks (TileSt.memPost_banks _), fun n hn => ?_⟩
  · exact ((State.unitWrite_storedTo _ _ _ _ _).of_memSame hmem).from_memSame ⟨rfl, rfl, rfl, rfl, rfl⟩
  · rw [hother n hn, State.unitWrite_tile]
    exact s.tile_setT_other t n _ hn

theorem State.st_eq {w : State} {x : TileSt} {t : Nat} (hx : w.tile t = x) (hcheck : x.sramCheck (x.memAddr m) (memBytes m) (memBytes m) true = none) :
    w.st t m = .done ((w.setT t (x.memPost m)).unitWrite t (x.memAddr m) (leBytes (memBytes m) (x.sGet m.d.toNat).toNat) (x.sBad m.d.toNat)) 0 none := by
  unfold State.st
  simp only [hx, hcheck]

theorem st_stores (h : s.canQueue t (.st m) k) (hsram : s.sramOk t (s.accessAddr t m) (2 ^ m.size.toNat) (2 ^ m.size.toNat) true) :
    Completes (.st t m k) s (fun u =>
      s.storedTo u t (s.accessAddr t m) (leBytes (2 ^ m.size.toNat) (s.sR t m.d).toNat) (s.sP t m.d) ∧
      s.afterAccess u t m ∧ s.entryBegun u t (.st m) k 0 ∧ s.scalarsSame u t ∧ s.predsSame u t ∧ s.vectorsSame u t ∧ s.banksSame u t ∧ s.otherTiles u t) := by
  refine queued_store h rfl fun z => (State.st_eq (x := (s.tile t).requeued z) (s.tile_setT_same t _) hsram.check).trans ?_
  rw [State.setT_setT, TileSt.memPost_requeued]
  rfl

/-! ### VLD, VST (06 R205, T6.15) -/

/-- A part of a register stands wholly in it. -/
theorem vecPart_fits (hfields : QOp.fieldsOk.vecForm m = true) : vecPart m + vecBytes m ≤ 256 := by
  have hcases : ∀ size part : BitVec 2, (size == 0 || (size == 1 && decide (part.toNat < 2)) || (size == 2 && part == 0)) = true →
      (if size = 0 then 64 * part.toNat else if size = 1 then 128 * (part.toNat % 2) else 0) + 64 * 2 ^ size.toNat ≤ 256 := by decide
  exact hcases m.size m.part (Bool.and_eq_true _ _ ▸ hfields).2

/-- The lanes of a loaded register that hold poison. -/
def State.loadedPoison (w : State) (t : Nat) (x : TileSt) (m : MemArgs) : W64 :=
  if w.sramBad t (x.memAddr m) (vecBytes m) then BitVec.allOnes 64
  else maskOf ((List.range 64).map (fun k => (x.vBad m.d.toNat).getLsbD k &&
    !(decide (8 * vecPart m ≤ 32 * k) && decide (32 * k < 8 * vecPart m + 8 * vecBytes m))))

section
variable {w : State} {x : TileSt} {t : Nat} (hx : w.tile t = x)
include hx

theorem State.vld_eq (hcheck : x.sramCheck (x.memAddr m) (vecBytes m) 64 false = none) :
    w.vld t m = .done (w.setT t ((x.memPost m).vSet m.d.toNat (BitVec.ofNat 2048
      (spliced (x.vGet m.d.toNat).toNat (8 * vecPart m) (8 * vecBytes m) (leNat (w.sramBytes t (x.memAddr m) (vecBytes m))))) (w.loadedPoison t x m))) 0 none := by
  unfold State.vld
  simp only [hx, hcheck]
  rfl

theorem State.vst_eq (hcheck : x.sramCheck (x.memAddr m) (vecBytes m) 64 true = none) :
    w.vst t m = .done ((w.setT t (x.memPost m)).unitWrite t (x.memAddr m) (leBytes (vecBytes m) ((x.vGet m.d.toNat).toNat >>> (8 * vecPart m)))
      ((List.range 64).any (fun k => decide (8 * vecPart m ≤ 32 * k) && decide (32 * k < 8 * vecPart m + 8 * vecBytes m) &&
        (x.vBad m.d.toNat).getLsbD k))) 0 none := by
  unfold State.vst
  simp only [hx, hcheck]

end

theorem vld_loads (h : s.canQueue t (.vld m) k) (hsram : s.sramOk t (s.accessAddr t m) (vecBytes m) 64 false) :
    let a := s.accessAddr t m
    Completes (.vld t m k) s (fun u =>
      (∀ i, i < vecBytes m → ((u.tile t).vGet m.d.toNat).extractLsb' (8 * (vecPart m + i)) 8 = s.sramAt t (a + i)) ∧
      (∀ i, i < 256 → (i < vecPart m ∨ vecPart m + vecBytes m ≤ i) →
        ((u.tile t).vGet m.d.toNat).extractLsb' (8 * i) 8 = ((s.tile t).vGet m.d.toNat).extractLsb' (8 * i) 8) ∧
      (∀ r, r ≠ m.d.toNat → (u.tile t).vGet r = (s.tile t).vGet r) ∧
      s.afterAccess u t m ∧ s.entryBegun u t (.vld m) k 0 ∧ s.scalarsSame u t ∧ s.predsSame u t ∧ s.banksSame u t ∧ s.otherTiles u t ∧ s.memSame u) := by
  intro a
  have hfits := vecPart_fits (show QOp.fieldsOk.vecForm m = true from h.2.1)
  let v := BitVec.ofNat 2048 (spliced ((s.tile t).vGet m.d.toNat).toNat (8 * vecPart m) (8 * vecBytes m) (leNat (s.sramBytes t a (vecBytes m))))
  obtain ⟨u, hu, hbegun, hother, hmem⟩ := queued_setT (c := .vld t m k) (fl := 0)
    (x := ((s.tile t).memPost m).vSet m.d.toNat v (s.loadedPoison t (s.tile t) m)) h rfl fun z => by
      refine (State.vld_eq (x := (s.tile t).requeued z) (s.tile_setT_same t _) hsram.check).trans ((Eff.done_setT _ _ _ _ _ _).trans ?_)
      rw [TileSt.memPost_requeued]
      rfl
  have hlen : (s.sramBytes t a (vecBytes m)).length = vecBytes m := Memory.readN_length _ _ _
  have hnew : leNat (s.sramBytes t a (vecBytes m)) < 2 ^ (8 * vecBytes m) := by
    have hlt := leNat_lt (s.sramBytes t a (vecBytes m))
    rwa [hlen, show (256 : Nat) = 2 ^ 8 by rfl, ← pow_mul] at hlt
  have hv : ∀ r, (u.tile t).vGet r = if r = m.d.toNat then v else (s.tile t).vGet r := fun r => by
    refine (hbegun.part (fun x => x.vGet r) fun _ => rfl).trans ?_
    by_cases hr : r = m.d.toNat
    · rw [if_pos hr, hr, TileSt.vSet_vGet_same]
    · rw [if_neg hr, TileSt.vSet_vGet_other _ _ _ _ _ hr]
      exact TileSt.memPost_vGet _ _
  refine ⟨u, hu, fun i hi => ?_, fun i hi hout => ?_, fun r hr => ?_, hbegun.access fun _ => rfl, hbegun.entry,
    hbegun.scalars (TileSt.memPost_scalars _), hbegun.preds (TileSt.memPost_preds _), hbegun.sameBanks (TileSt.memPost_banks _), hother, hmem⟩
  · rw [hv, if_pos rfl]
    refine byte_of_bits _ _ _ fun j hj => ?_
    rw [BitVec.getLsbD_ofNat, spliced_testBit hnew, if_pos (by omega), decide_eq_true (by omega), Bool.true_and,
      show 8 * (vecPart m + i) + j - 8 * vecPart m = 8 * i + j by omega, leNat_testBit _ _ _ hj, List.getD_eq_getElem?_getD, State.sramBytes,
      Memory.readN_getElem? _ _ _ _ hi, State.sramAt, sramKey_add]
    rfl
  · rw [hv, if_pos rfl]
    refine byte_of_bits _ _ _ fun j hj => ?_
    rw [BitVec.getLsbD_ofNat, spliced_testBit hnew, if_neg (by omega), decide_eq_true (by omega), Bool.true_and, BitVec.getLsbD_extractLsb',
      decide_eq_true hj, Bool.true_and]
    rfl
  · rw [hv, if_neg hr]

theorem vst_stores (h : s.canQueue t (.vst m) k) (hsram : s.sramOk t (s.accessAddr t m) (vecBytes m) 64 true) :
    Completes (.vst t m k) s (fun u =>
      s.storedTo u t (s.accessAddr t m) ((List.range (vecBytes m)).map (fun i => ((s.tile t).vGet m.d.toNat).extractLsb' (8 * (vecPart m + i)) 8))
        ((List.range 64).any (fun l => s.vP t m.d l && decide (vecPart m ≤ 4 * l) && decide (4 * l < vecPart m + vecBytes m))) ∧
      s.afterAccess u t m ∧ s.entryBegun u t (.vst m) k 0 ∧ s.scalarsSame u t ∧ s.predsSame u t ∧ s.vectorsSame u t ∧ s.banksSame u t ∧ s.otherTiles u t) := by
  refine queued_store h rfl fun z => (State.vst_eq (x := (s.tile t).requeued z) (s.tile_setT_same t _) hsram.check).trans ?_
  have hbytes : leBytes (vecBytes m) (((s.tile t).vGet m.d.toNat).toNat >>> (8 * vecPart m)) =
      (List.range (vecBytes m)).map (fun i => ((s.tile t).vGet m.d.toNat).extractLsb' (8 * (vecPart m + i)) 8) := by
    refine List.ext_getElem? fun i => ?_
    by_cases hi : i < vecBytes m
    · rw [leBytes_getElem? _ _ _ hi, List.getElem?_map, List.getElem?_range hi, Option.map_some, BitVec.extractLsb',
        Nat.shiftRight_eq_div_pow, Nat.shiftRight_eq_div_pow, Nat.div_div_eq_div_mul, show (256 : Nat) = 2 ^ 8 by rfl, ← pow_mul, ← pow_add, Nat.mul_add]
    · rw [List.getElem?_eq_none (by rw [leBytes_length]; omega), List.getElem?_eq_none (by simpa using hi)]
  have hbad : (List.range 64).any (fun l => decide (8 * vecPart m ≤ 32 * l) && decide (32 * l < 8 * vecPart m + 8 * vecBytes m) && s.vP t m.d l) =
      (List.range 64).any (fun l => s.vP t m.d l && decide (vecPart m ≤ 4 * l) && decide (4 * l < vecPart m + vecBytes m)) := by
    refine congrArg (List.any _) (funext fun l => ?_)
    rw [Bool.and_comm, ← Bool.and_assoc, decide_eq_decide.2 (show 8 * vecPart m ≤ 32 * l ↔ vecPart m ≤ 4 * l by omega),
      decide_eq_decide.2 (show 32 * l < 8 * vecPart m + 8 * vecBytes m ↔ 4 * l < vecPart m + vecBytes m by omega)]
  rw [State.setT_setT, TileSt.memPost_requeued, ← hbytes, ← hbad]
  rfl

end

end Sys2Proof.Machine
end

section
/-! PROOFS. O9, second part: MCOPY and MFILL of one 64 B row (06 R212, R213, R215, 05 R164, R165). -/
namespace Sys2Proof.Machine

open Host

/-! ### The transfer of one row -/

/-- The transfer of one 64 B row. -/
def QEntry.rowXfer (e : QEntry) (id t : Nat) (fill : Option W64) (src dst : Place) : Xfer :=
  { id := id, t := t, entry := e.id, index := e.index, fill := fill, src := src, dsts := [dst], rows := 1, rowLen := 64, sStride := 0, dStride := 0,
    comp := none }

section
variable {w : State} {t : Nat} {e : QEntry} {id : Nat} {fill : Option W64} {m : MoveArgs} {sv dv : W64}

/-- An address whose row stands in SRAM is in the range of 06 R193. -/
theorem row_inRange {a : Nat} (h : a + 64 ≤ sramSize) : ¬1048576 ≤ a ∧ ¬sramSize < a + 64 := by
  rw [sramSize] at h ⊢
  omega

section
variable (htwo : m.twoD = false) (hsk : m.sk = 0) (hsrc : fill = none → sv.toNat % 64 = 0 ∧ sv.toNat + 64 ≤ sramSize)
include htwo hsk hsrc

/-- A row inside the tile's SRAM passes the checks of 06 R193. -/
theorem State.moveCheck_sram (hdk : m.dk = 0) (halign : dv.toNat % 64 = 0) (hrange : dv.toNat + 64 ≤ sramSize)
    (hprog : (w.tile t).inProgram dv.toNat 64 = false) :
    w.moveCheck t fill.isSome m (e.rowXfer id t fill (.sram t sv.toNat) (.sram t dv.toNat)) sv dv = none := by
  obtain ⟨hdlow, hdin⟩ := row_inRange hrange
  cases fill with
  | none =>
    obtain ⟨hsalign, hsrange⟩ := hsrc rfl
    obtain ⟨hslow, hsin⟩ := row_inRange hsrange
    simp [State.moveCheck, State.moveEnd, QEntry.rowXfer, hsk, hdk, htwo, halign, hsalign, runEnd, State.endRange, Xfer.extents, Place.at, hprog, moveTiles,
      hdlow, hdin, hslow, hsin]
  | some v =>
    simp [State.moveCheck, State.moveEnd, QEntry.rowXfer, hsk, hdk, htwo, halign, runEnd, State.endRange, Xfer.extents, Place.at, hprog, moveTiles,
      hdlow, hdin]

/-- So does a row toward a tile of the partition. -/
theorem State.moveCheck_tile (hdk : m.dk = 1) (halign : field dv 19 0 % 64 = 0) (hrange : field dv 19 0 + 64 ≤ sramSize)
    (hrect : w.inRect (w.partOf t) (field dv 40 32, field dv 56 48) = true) :
    w.moveCheck t fill.isSome m (e.rowXfer id t fill (.sram t sv.toNat) (.sram (tileAt (field dv 40 32) (field dv 56 48)) (field dv 19 0))) sv dv =
      none := by
  obtain ⟨hdlow, hdin⟩ := row_inRange hrange
  cases fill with
  | none =>
    obtain ⟨hsalign, hsrange⟩ := hsrc rfl
    obtain ⟨hslow, hsin⟩ := row_inRange hsrange
    simp [State.moveCheck, State.moveEnd, QEntry.rowXfer, hsk, hdk, htwo, halign, hsalign, runEnd, State.endRange, Xfer.extents, Place.at, moveTiles,
      hdin, hslow, hsin, hrect]
  | some v =>
    simp [State.moveCheck, State.moveEnd, QEntry.rowXfer, hsk, hdk, htwo, halign, runEnd, State.endRange, Xfer.extents, Place.at, moveTiles,
      hdin, hrect]

end

/-- A transfer of one row begins. -/
theorem State.mmove_row {d : Place} (htwo : m.twoD = false) (hcomp : m.comp = false) (hsk : m.sk = 0)
    (hlen : ((w.tile t).sGet m.sl.toNat).toNat % 2 ^ 25 = 64) (hsl : (w.tile t).sBad m.sl.toNat = false)
    (hfill : fill = none ∨ fill = some ((w.tile t).sGet m.sst.toNat) ∧ (w.tile t).sBad m.sst.toNat = false)
    (hdst : (w.moveEnd t m.dk.toNat ((w.tile t).aGet m.ad.toNat)).places = [d])
    (hcheck : w.moveCheck t fill.isSome m (e.rowXfer w.nextPkt t fill (.sram t ((w.tile t).aGet m.asr.toNat).toNat) d)
      ((w.tile t).aGet m.asr.toNat) ((w.tile t).aGet m.ad.toNat) = none) :
    w.mmove t e fill.isSome m = .done { w with
      nextPkt := w.nextPkt + 1, xfers := w.xfers ++ [e.rowXfer w.nextPkt t fill (.sram t ((w.tile t).aGet m.asr.toNat).toNat) d] } 0 (some w.nextPkt) := by
  have hfield : field ((w.tile t).sGet m.sl.toNat) 24 0 = 64 := hlen
  have hsrc : (w.moveEnd t m.sk.toNat ((w.tile t).aGet m.asr.toNat)).places.headD (.sram t 0) =
      .sram t ((w.tile t).aGet m.asr.toNat).toNat := by rw [hsk]; rfl
  have hpoison : ([m.sl.toNat] ++ (if fill.isSome || m.twoD then [m.sst.toNat] else [])).any (fun r => (w.tile t).sBad r) = false := by
    obtain rfl | ⟨rfl, hsst⟩ := hfill
    · simp [htwo, hsl]
    · simp [hsl, hsst]
  have hpattern : (if fill.isSome then some ((w.tile t).sGet m.sst.toNat) else none) = fill := by
    obtain rfl | ⟨rfl, -⟩ := hfill <;> rfl
  unfold State.mmove QEntry.rowXfer at *
  refine (if_neg (Bool.eq_false_iff.1 hpoison)).trans ?_
  simp only [hpattern, htwo, hcomp, hfield, hdst, hsrc, Bool.false_eq_true, if_false, Bool.false_and] at hcheck ⊢
  rw [hcheck]
  rfl

end

/-! ### The transfers of a state, this one last -/

/-- Transfer `x` stands behind transfers of other tiles. -/
def State.movesLast (v : State) (l : List Xfer) (x : Xfer) : Prop := v.xfers = l ++ [x] ∧ ∀ y ∈ l, y.t ≠ x.t ∧ y.id ≠ x.id

section
variable {v : State} {l : List Xfer} {x : Xfer} (h : v.movesLast l x)
include h

theorem State.movesLast.find : v.findXfer x.id = some x := by
  obtain ⟨hx, hl⟩ := h
  have hnone : l.find? (fun y => y.id == x.id) = none := List.find?_eq_none.2 fun y hy => by simpa using (hl y hy).2
  rw [State.findXfer, hx, List.find?_append, hnone]
  simp

theorem State.movesLast.upd (f : Xfer → Xfer) : v.updXfer x.id f = { v with xfers := l ++ [f x] } := by
  obtain ⟨hx, hl⟩ := h
  have hkeep : l.map (fun y => if y.id = x.id then f y else y) = l := 
    (List.map_congr_left fun y hy => if_neg (hl y hy).2).trans (List.map_id'' (fun _ => rfl) l)
  rw [State.updXfer, hx, List.map_append, hkeep]
  simp

theorem State.movesLast.free : v.xferHeld x = false := by
  obtain ⟨hx, hl⟩ := h
  rw [State.xferHeld, hx]
  refine List.any_eq_false.2 fun y hy => ?_
  rcases List.mem_append.1 hy with hy | hy
  · simp [(hl y hy).1]
  · rw [List.mem_singleton.1 hy]
    simp

theorem State.movesLast.goes (hx : x.finished = false) : ¬(x.finished || v.xferHeld x) = true := by
  rw [hx, h.free]
  exact Bool.false_ne_true

theorem State.movesLast.ofTile : v.xfers.filter (fun y => y.t == x.t) = [x] := by
  obtain ⟨hx, hl⟩ := h
  have hnone : l.filter (fun y => y.t == x.t) = [] := List.filter_eq_nil_iff.2 fun y hy => by simpa using (hl y hy).1
  rw [hx, List.filter_append, hnone]
  simp

end

/-! ### The steps of the transfer -/

/-- The transfer with its piece read, and with its piece written. -/
def Xfer.took (x : Xfer) (p : Piece) : Xfer := { x with issued := 1, gather := [(0, p)] }
def Xfer.gave (x : Xfer) : Xfer := { x with issued := 1, gather := [] }

section
variable {v : State} {l : List Xfer} {e : QEntry} {id t : Nat} {fill : Option W64} {src d : Place} {p : Piece}

theorem QEntry.rowXfer_cuts (e : QEntry) (id t : Nat) (fill : Option W64) (src d : Place) :
    (e.rowXfer id t fill src d).cuts = [{ off := 0, src := 0, dst := 0, len := 64 }] := by
  simp [Xfer.cuts, QEntry.rowXfer, chop]

theorem State.moveStep_reads (h : v.movesLast l (e.rowXfer id t fill src d)) :
    v.moveStep id = v.getPiece (e.rowXfer id t fill src d) { off := 0, src := 0, dst := 0, len := 64 } := by
  unfold State.moveStep
  rw [show v.findXfer id = some _ from h.find]
  dsimp only
  rw [if_neg (h.goes rfl), QEntry.rowXfer_cuts]
  rfl

theorem State.moveStep_writes (h : v.movesLast l ((e.rowXfer id t fill src d).took p)) :
    v.moveStep id = v.putPiece ((e.rowXfer id t fill src d).took p) 0 p := by
  unfold State.moveStep
  rw [show v.findXfer id = some _ from h.find]
  dsimp only
  rw [if_neg (h.goes rfl)]
  rfl

/-- The transfer is over, or waits for the responses its packets await. -/
theorem State.moveStep_ends (h : v.movesLast l (e.rowXfer id t fill src d).gave) : v.moveStep id = none ∨
    v.moveStep id = some { v with xfers := l ++ [{ (e.rowXfer id t fill src d).gave with finished := true }] } := by
  have hupd := h.upd fun y => { y with finished := true }
  have hcuts : (e.rowXfer id t fill src d).gave.cuts[(e.rowXfer id t fill src d).gave.issued]? = none :=
    congrArg (fun cuts : List Cut => cuts[1]?) (QEntry.rowXfer_cuts e id t fill src d)
  unfold State.moveStep
  rw [show v.findXfer id = some _ from h.find]
  dsimp only
  rw [if_neg (h.goes rfl), hcuts]
  by_cases hout : v.pkts.any (fun p => p.xfer == id) = true
  · exact .inl (if_pos hout)
  · exact .inr ((if_neg hout).trans (congrArg some hupd))

theorem State.moveStep_finished {x : Xfer} (h : v.movesLast l x) (hx : x.finished = true) : v.moveStep x.id = none := by
  unfold State.moveStep
  rw [h.find]
  exact if_pos (by rw [hx]; rfl)

theorem State.move_none {n i : Nat} (h : v.moveStep i = none) : State.move i n v = v := by
  cases n with
  | zero => rfl
  | succ n => rw [State.move, h]

theorem State.move_some {n i : Nat} {u : State} (h : v.moveStep i = some u) : State.move i (n + 1) v = State.move i n u := by rw [State.move, h]

/-- After the piece is written, no step changes anything but the transfer's own record. -/
theorem State.move_ends (h : v.movesLast l (e.rowXfer id t fill src d).gave) (n : Nat) : ∃ m, State.move id n v = { v with xfers := m } := by
  rcases State.moveStep_ends h with hnone | hsome
  · exact ⟨_, State.move_none hnone⟩
  · cases n with
    | zero => exact ⟨_, rfl⟩
    | succ n =>
      have hlast : State.movesLast { v with xfers := l ++ [{ (e.rowXfer id t fill src d).gave with finished := true }] } l
          { (e.rowXfer id t fill src d).gave with finished := true } := ⟨rfl, h.2⟩
      exact ⟨_, (State.move_some hsome).trans (State.move_none (State.moveStep_finished hlast rfl))⟩

/-! ### The piece of the transfer -/

/-- What a transfer of one row carries: the pattern, or the bytes of its source. -/
def State.rowPiece (v : State) (t : Nat) (fill : Option W64) (a : Nat) : Piece :=
  match fill with
  | some w => { data := fillBytes w 0 64, st := .local' }
  | none => v.sramPiece t a 64

theorem State.getPiece_row {a : Nat} (h : v.movesLast l (e.rowXfer id t fill (.sram t a) d)) :
    v.getPiece (e.rowXfer id t fill (.sram t a) d) { off := 0, src := 0, dst := 0, len := 64 } =
      some { v with xfers := l ++ [(e.rowXfer id t fill (.sram t a) d).took (v.rowPiece t fill a)] } := by
  have hown : (Place.sram t (a + 0)).own t = some true := if_pos rfl
  have hupd := h.upd fun y => { y with issued := y.issued + 1, gather := tset y.gather 0 (v.rowPiece t fill a) }
  unfold State.getPiece
  cases fill with
  | some w => exact congrArg some hupd
  | none =>
    show (match (Place.sram t (a + 0)).own t with | some true => _ | some false => _ | none => _) = _
    rw [hown]
    exact congrArg some hupd

/-- A row put into the tile's own SRAM. -/
theorem State.putPiece_own {b : Nat} (h : v.movesLast l ((e.rowXfer id t fill src (.sram t b)).took p)) :
    v.putPiece ((e.rowXfer id t fill src (.sram t b)).took p) 0 p =
      some (({ v with xfers := l ++ [(e.rowXfer id t fill src (.sram t b)).gave] } : State).sramPut t b p) := by
  have hupd := h.upd fun y => { y with gather := y.gather.filter (fun (e : Nat × Piece) => e.1 != 0) }
  have hown : (Place.sram t (b + 0)).own t = some true := if_pos rfl
  unfold State.putPiece
  rw [hupd]
  show (match (Place.sram t (b + 0)).own t with | some true => _ | some false => _ | none => _) = _
  rw [hown]
  rfl

/-- Poison sent is noted with the run. -/
theorem State.sentPoison_only (v : State) (t off : Nat) : ∃ r, v.sentPoison t off = { v with runs := r } := by
  unfold State.sentPoison State.updRun
  split
  · exact ⟨_, rfl⟩
  · exact ⟨_, rfl⟩

theorem QEntry.rowXfer_offOf : ((e.rowXfer id t fill src d).took p).offOf 0 = 0 := by
  have hcuts : ((e.rowXfer id t fill src d).took p).cuts = [{ off := 0, src := 0, dst := 0, len := 64 }] := QEntry.rowXfer_cuts e id t fill src d
  unfold Xfer.offOf
  rw [hcuts]
  rfl

/-- A row sent to another tile. -/
theorem State.putPiece_other {n b : Nat} (hn : n ≠ t) (h : v.movesLast l ((e.rowXfer id t fill src (.sram n b)).took p))
    (hroom : v.outstanding t false < 64) :
    ∃ r, v.putPiece ((e.rowXfer id t fill src (.sram n b)).took p) 0 p =
      some (({ v with xfers := l ++ [(e.rowXfer id t fill src (.sram n b)).gave], runs := r } : State).addPkt
        ((e.rowXfer id t fill src (.sram n b)).took p) 1 [.sram n b] 0 p.data.length (p.fresh fill.isSome b)) := by
  have hupd := h.upd fun y => { y with gather := y.gather.filter (fun (e : Nat × Piece) => e.1 != 0) }
  have hown : (Place.sram n (b + 0)).own t = none := if_neg hn
  have hsent : ∃ r, (if p.st = .poisoned then ({ v with xfers := l ++ [(e.rowXfer id t fill src (.sram n b)).gave] } : State).sentPoison t 0
      else { v with xfers := l ++ [(e.rowXfer id t fill src (.sram n b)).gave] }) =
      { v with xfers := l ++ [(e.rowXfer id t fill src (.sram n b)).gave], runs := r } := by
    split
    · exact State.sentPoison_only _ _ _
    · exact ⟨_, rfl⟩
  obtain ⟨r, hr⟩ := hsent
  refine ⟨r, ?_⟩
  unfold State.putPiece
  rw [hupd, QEntry.rowXfer_offOf, ← hr]
  show (match (Place.sram n (b + 0)).own t with | some true => _ | some false => _ | none => _) = _
  rw [hown]
  exact if_neg (not_le.2 hroom)

/-! ### The transfer as a whole -/

theorem Xfer.steps_row : ∃ n, (e.rowXfer id t fill src d).steps = n + 2 :=
  ⟨2 * (e.rowXfer id t fill src d).cuts.length + 2 * (worstOut (1 * 64 / 32) / 64) + 6, rfl⟩

/-- The tile's transfers go on: this one alone. -/
theorem State.pumpTile_row (h : v.movesLast l (e.rowXfer id t fill src d)) :
    v.pumpTile t = State.move id (e.rowXfer id t fill src d).steps v := by
  unfold State.pumpTile
  rw [show v.xfers.filter (fun x => x.t == t) = _ from h.ofTile]
  rfl

/-- A part of a granule put into SRAM is stored as the tile's units store (05 R164). -/
theorem State.sramPut_part (v : State) (t a : Nat) {p : Piece} (hp : p.data.length ≠ 256) :
    v.sramPut t a p = v.unitWrite t a p.data (decide (p.st = .poisoned)) := by
  unfold State.sramPut State.unitWrite
  rw [if_neg (by simp [wholeAt, hp])]
  simp only [decide_eq_true_eq]

theorem State.rowPiece_length (v : State) (t : Nat) (fill : Option W64) (a : Nat) : (v.rowPiece t fill a).data.length = 64 := by
  cases fill with
  | some w => simp [State.rowPiece, fillBytes]
  | none =>
    have hdata : (v.sramPiece t a 64).data = v.sramBytes t a 64 := by
      unfold State.sramPiece
      simp only [show wholeAt a 64 = false from by simp [wholeAt]]
      split <;> rfl
    rw [State.rowPiece, hdata]
    exact Memory.readN_length _ _ _

/-- A row moved inside the tile's SRAM. -/
theorem State.pumpTile_own {a b : Nat} (h : v.movesLast l (e.rowXfer id t fill (.sram t a) (.sram t b))) :
    v.storedTo (v.pumpTile t) t b (v.rowPiece t fill a).data (decide ((v.rowPiece t fill a).st = .poisoned)) ∧
      (v.pumpTile t).tiles = v.tiles ∧ (v.pumpTile t).pkts = v.pkts := by
  let x := e.rowXfer id t fill (.sram t a) (.sram t b)
  let p := v.rowPiece t fill a
  let w : State := { v with xfers := l ++ [x.gave] }
  have htook : State.movesLast { v with xfers := l ++ [x.took p] } l (x.took p) := ⟨rfl, h.2⟩
  have hwrite : w.sramPut t b p = w.unitWrite t b p.data (decide (p.st = .poisoned)) :=
    State.sramPut_part _ _ _ (by rw [State.rowPiece_length]; decide)
  obtain ⟨g, hg⟩ := w.unitWrite_only t b p.data (decide (p.st = .poisoned))
  have hgave : (w.unitWrite t b p.data (decide (p.st = .poisoned))).movesLast l x.gave := ⟨by rw [hg], h.2⟩
  obtain ⟨k, hk⟩ := Xfer.steps_row (e := e) (id := id) (t := t) (fill := fill) (src := .sram t a) (d := .sram t b)
  obtain ⟨m, hm⟩ := State.move_ends hgave k
  have hpump : v.pumpTile t = { w.unitWrite t b p.data (decide (p.st = .poisoned)) with xfers := m } := by
    rw [State.pumpTile_row h, hk, State.move_some ((State.moveStep_reads h).trans (State.getPiece_row h)),
      State.move_some ((State.moveStep_writes htook).trans (State.putPiece_own htook))]
    exact (congrArg (State.move id k) hwrite).trans hm
  rw [hpump]
  refine ⟨?_, by simp [w], by rw [hg]⟩
  exact ((State.unitWrite_storedTo w t b p.data _).of_memSame ⟨rfl, rfl, rfl, rfl, rfl⟩).from_memSame ⟨rfl, rfl, rfl, rfl, rfl⟩

/-- The packet that carries a row. -/
def State.rowPkt (v : State) (id t : Nat) (d : Place) (p : Piece) : Pkt :=
  { id := v.nextPkt, xfer := id, t := t, part := v.partOf t, kind := 1, places := [d], off := 0, len := p.data.length, piece := p }

/-- A row sent to another tile. -/
theorem State.pumpTile_other {a n b : Nat} (hn : n ≠ t) (h : v.movesLast l (e.rowXfer id t fill (.sram t a) (.sram n b)))
    (hroom : v.outstanding t false < 64) (hfresh : (v.rowPiece t fill a).fresh fill.isSome b = v.rowPiece t fill a) :
    ∃ m r, v.pumpTile t = { v with
      nextPkt := v.nextPkt + 1, xfers := m, runs := r, pkts := v.pkts ++ [v.rowPkt id t (.sram n b) (v.rowPiece t fill a)] } := by
  let x := e.rowXfer id t fill (.sram t a) (.sram n b)
  let p := v.rowPiece t fill a
  have htook : State.movesLast { v with xfers := l ++ [x.took p] } l (x.took p) := ⟨rfl, h.2⟩
  obtain ⟨r, hput⟩ := State.putPiece_other hn htook hroom
  obtain ⟨k, hk⟩ := Xfer.steps_row (e := e) (id := id) (t := t) (fill := fill) (src := .sram t a) (d := .sram n b)
  have hgave : State.movesLast (State.addPkt { v with xfers := l ++ [x.gave], runs := r } (x.took p) 1 [.sram n b] 0 p.data.length (p.fresh fill.isSome b)) l
    x.gave := ⟨rfl, h.2⟩
  obtain ⟨m, hm⟩ := State.move_ends hgave k
  refine ⟨m, r, ?_⟩
  rw [State.pumpTile_row h, hk, State.move_some ((State.moveStep_reads h).trans (State.getPiece_row h)),
    State.move_some ((State.moveStep_writes htook).trans hput)]
  refine hm.trans ?_
  rw [show p.fresh fill.isSome b = p from hfresh]
  rfl

end

/-! ### What the transfer carries -/

section
variable {s v : State} {t a : Nat}

theorem State.rowPiece_copied (hmem : s.memSame v) :
    v.rowPiece t none a = { data := s.sramBytes t a 64, st := if s.sramBad t a 64 then .poisoned else .local' } := by
  obtain ⟨hsram, hsramG, -⟩ := hmem
  have hbytes : v.sramBytes t a 64 = s.sramBytes t a 64 := congrArg (fun m : Memory => m.readN (sramKey t a) 64) hsram
  have hbad : v.sramBad t a 64 = s.sramBad t a 64 := by
    unfold State.sramBad State.gst
    rw [hsramG]
  have hpart : wholeAt a 64 = false := by simp [wholeAt]
  unfold State.rowPiece State.sramPiece
  simp only [hbytes, hbad, hpart, Bool.false_eq_true, if_false]
  split <;> rfl

theorem State.rowPiece_filled (w : W64) :
    v.rowPiece t (some w) a = { data := (List.range 64).map (fun i => w.extractLsb' (8 * (i % 8)) 8), st := .local' } := by
  refine congrArg (fun data => ({ data := data, st := .local' } : Piece)) (List.map_congr_left fun i _ => ?_)
  rw [byteAt, List.getD_eq_getElem?_getD, leBytes_getElem? _ _ _ (Nat.mod_lt _ (by decide)), Option.getD_some, BitVec.extractLsb', Nat.zero_add,
    Nat.shiftRight_eq_div_pow, show (256 : Nat) = 2 ^ 8 by rfl, ← pow_mul]

theorem Piece.fresh_part (p : Piece) (keepLocal : Bool) (a : Nat) (hp : p.data.length ≠ 256) : p.fresh keepLocal a = p :=
  if_neg fun h => by simp [wholeAt, hp] at h

end

/-! ### MCOPY and MFILL begin -/

section
variable {s : State} {t : Nat} {op : QOp} {k : Tok} {c : Instr} {fill : Option W64} {a : Nat} {d : Place}

/-- A queued transfer of one row that begins at once, as the tile's transfers go on. -/
theorem queued_row (h : s.canQueue t op k) (hexec : exec c s = ok (s.issueQ t op k)) (hquiet : ∀ y ∈ s.xfers, y.t ≠ t ∧ y.id ≠ s.nextPkt)
    (hrun : ∀ (w : State) (z : TileSt), w = s.setT t ((s.tile t).requeued z) → w.runOp t ((s.tile t).newEntry op k) = .done { w with
      nextPkt := w.nextPkt + 1, xfers := w.xfers ++ [((s.tile t).newEntry op k).rowXfer w.nextPkt t fill (.sram t a) d] } 0 (some w.nextPkt)) :
    ∃ v : State, exec c s = .next (v.pumpTile t) ∧ v.movesLast s.xfers (((s.tile t).newEntry op k).rowXfer s.nextPkt t fill (.sram t a) d) ∧
      s.memSame v ∧ s.registersSame v t ∧ s.banksSame v t ∧ v.pkts = s.pkts := by
  obtain ⟨z, hz, hsrctr, hstarts⟩ := State.issueQ_starts h
  let w : State := s.setT t ((s.tile t).requeued z)
  let w' : State := { w with nextPkt := w.nextPkt + 1, xfers := w.xfers ++ [((s.tile t).newEntry op k).rowXfer w.nextPkt t fill (.sram t a) d] }
  have hbegun : s.hasBegun (w'.marked t ((s.tile t).newEntry op k) 0 (some s.nextPkt)) t op k 0 (s.tile t) :=
    State.marked_hasBegun hz hsrctr ⟨z, s.tile_setT_same t _, rfl, rfl⟩
  obtain ⟨q, hq⟩ := w'.marked_only t ((s.tile t).newEntry op k) 0 (some s.nextPkt)
  refine ⟨w'.marked t ((s.tile t).newEntry op k) 0 (some s.nextPkt), hexec.trans (congrArg Outcome.next (hstarts.trans ?_)), ⟨by rw [hq]; rfl, hquiet⟩,
    w'.marked_memSame t _ 0 _, State.registersSame_of (hbegun.part TileSt.registers fun _ => rfl) fun n hn => ?_, hbegun.sameBanks rfl, by rw [hq]; rfl⟩
  · exact State.startEntry_marked (hrun w z rfl)
  · exact (State.marked_tile_other _ _ _ _ _ n hn).trans (s.tile_setT_other t n _ hn)

theorem State.registersSame_tiles {v u : State} (h : s.registersSame v t) (hu : u.tiles = v.tiles) : s.registersSame u t := by
  unfold State.registersSame State.scalarsSame State.addrsSame State.predsSame State.vectorsSame State.otherTiles at *
  simpa only [State.tile_of_tiles hu] using h

theorem State.banksSame_tiles {v u : State} (h : s.banksSame v t) (hu : u.tiles = v.tiles) : s.banksSame u t := by
  unfold State.banksSame at *
  simpa only [State.tile_of_tiles hu] using h

/-- A row moved or filled inside the tile's SRAM. -/
theorem queued_row_own {b : Nat} {data : List Byte} {bad : Bool} (h : s.canQueue t op k) (hexec : exec c s = ok (s.issueQ t op k))
    (hquiet : ∀ y ∈ s.xfers, y.t ≠ t ∧ y.id ≠ s.nextPkt)
    (hrun : ∀ (w : State) (z : TileSt), w = s.setT t ((s.tile t).requeued z) → w.runOp t ((s.tile t).newEntry op k) = .done { w with
      nextPkt := w.nextPkt + 1, xfers := w.xfers ++ [((s.tile t).newEntry op k).rowXfer w.nextPkt t fill (.sram t a) (.sram t b)] } 0 (some w.nextPkt))
    (hpiece : ∀ v : State, s.memSame v → v.rowPiece t fill a = { data := data, st := if bad then .poisoned else .local' }) :
    Completes c s (fun u => s.storedTo u t b data bad ∧ s.registersSame u t ∧ s.banksSame u t ∧ u.pkts = s.pkts) := by
  obtain ⟨v, hv, hlast, hmem, hregs, hbanks, hpkts⟩ := queued_row h hexec hquiet hrun
  obtain ⟨hstored, htiles, hkept⟩ := State.pumpTile_own hlast
  have hbad : decide ((if bad then GState.poisoned else .local') = .poisoned) = bad := by cases bad <;> rfl
  rw [hpiece v hmem] at hstored
  rw [hbad] at hstored
  exact ⟨_, hv, hstored.from_memSame hmem, State.registersSame_tiles hregs htiles, State.banksSame_tiles hbanks htiles, hkept.trans hpkts⟩

end

section
variable {s : State} {t : Tile} {m : MoveArgs} {k : Tok} (htwo : m.twoD = false) (hcomp : m.comp = false)
  (hlen : (s.sR t m.sl).toNat % 2 ^ 25 = 64) (hsl : s.sP t m.sl = false) (hquiet : ∀ y ∈ s.xfers, y.t ≠ t.val ∧ y.id ≠ s.nextPkt) (hsk : m.sk = 0)
include htwo hcomp hlen hsl hquiet hsk

theorem mcopy_own (hdk : m.dk = 0) (h : s.canQueue t (.mcopy m) k) (hsrc : s.sramOk t (s.aR t m.asr).toNat 64 64 false)
    (hdst : s.sramOk t (s.aR t m.ad).toNat 64 64 true) : Completes (.mcopy t m k) s (fun u =>
      s.storedTo u t (s.aR t m.ad).toNat (s.sramBytes t (s.aR t m.asr).toNat 64) (s.sramBad t (s.aR t m.asr).toNat 64) ∧
      s.registersSame u t ∧ s.banksSame u t ∧ u.pkts = s.pkts) := by
  obtain ⟨hsalign, hsrange, -⟩ := hsrc
  obtain ⟨halign, hrange, hprog⟩ := hdst
  refine queued_row_own (fill := none) (a := (s.aR t m.asr).toNat) h rfl hquiet (fun w z hw => ?_) fun v hmem => State.rowPiece_copied hmem
  have htile : w.tile t = (s.tile t).requeued z := hw ▸ s.tile_setT_same t _
  have haddr : ∀ r, (w.tile t).aGet r = (s.tile t).aGet r := fun r => by rw [htile, TileSt.requeued_aGet]
  have hcheck := State.moveCheck_sram (w := w) (t := t) (e := (s.tile t).newEntry (.mcopy m) k) (id := w.nextPkt) (fill := none) htwo hsk
    (fun _ => ⟨hsalign, hsrange⟩) hdk halign hrange (by rw [htile]; exact hprog rfl)
  have hmove := State.mmove_row (w := w) (t := t) (e := (s.tile t).newEntry (.mcopy m) k) (fill := none) (d := .sram t (s.aR t m.ad).toNat) htwo hcomp hsk
    (by rw [htile]; exact hlen) (by rw [htile]; exact hsl) (.inl rfl) (by rw [hdk, haddr]; rfl) (by rw [haddr, haddr]; exact hcheck)
  rw [haddr] at hmove
  exact hmove

theorem mfill_own (hdk : m.dk = 0) (h : s.canQueue t (.mfill m) k) (hsst : s.sP t m.sst = false)
    (hdst : s.sramOk t (s.aR t m.ad).toNat 64 64 true) : Completes (.mfill t m k) s (fun u =>
      s.storedTo u t (s.aR t m.ad).toNat ((List.range 64).map (fun i => (s.sR t m.sst).extractLsb' (8 * (i % 8)) 8)) false ∧
      s.registersSame u t ∧ s.banksSame u t ∧ u.pkts = s.pkts) := by
  obtain ⟨halign, hrange, hprog⟩ := hdst
  refine queued_row_own (fill := some (s.sR t m.sst)) (a := (s.aR t m.asr).toNat) h rfl hquiet (fun w z hw => ?_) fun v _ => State.rowPiece_filled _
  have htile : w.tile t = (s.tile t).requeued z := hw ▸ s.tile_setT_same t _
  have haddr : ∀ r, (w.tile t).aGet r = (s.tile t).aGet r := fun r => by rw [htile, TileSt.requeued_aGet]
  have hcheck := State.moveCheck_sram (w := w) (t := t) (e := (s.tile t).newEntry (.mfill m) k) (id := w.nextPkt) (fill := some (s.sR t m.sst))
    (sv := s.aR t m.asr) htwo hsk (fun hnone => absurd hnone (Option.some_ne_none _)) hdk halign hrange (by rw [htile]; exact hprog rfl)
  have hmove := State.mmove_row (w := w) (t := t) (e := (s.tile t).newEntry (.mfill m) k) (fill := some (s.sR t m.sst)) (d := .sram t (s.aR t m.ad).toNat)
    htwo hcomp hsk (by rw [htile]; exact hlen) (by rw [htile]; exact hsl) (.inr (by rw [htile]; exact ⟨rfl, hsst⟩)) (by rw [hdk, haddr]; rfl)
    (by rw [haddr, haddr]; exact hcheck)
  rw [haddr] at hmove
  exact hmove

theorem mcopy_other (hdk : m.dk = 1) (h : s.canQueue t (.mcopy m) k) (hsrc : s.sramOk t (s.aR t m.asr).toNat 64 64 false)
    (halign : field (s.aR t m.ad) 19 0 % 64 = 0) (hrange : field (s.aR t m.ad) 19 0 + 64 ≤ sramSize)
    (hrect : s.inRect (s.partOf t) (field (s.aR t m.ad) 40 32, field (s.aR t m.ad) 56 48) = true)
    (hother : tileAt (field (s.aR t m.ad) 40 32) (field (s.aR t m.ad) 56 48) ≠ t.val) (hroom : s.outstanding t.val false < 64) :
    Completes (.mcopy t m k) s (fun u => s.memSame u ∧ s.registersSame u t ∧ s.banksSame u t ∧ ∃ p, u.pkts = s.pkts ++ [p] ∧ p.t = t.val ∧
      p.kind = 1 ∧ p.answered = false ∧ p.lost = false ∧
      p.places = [.sram (tileAt (field (s.aR t m.ad) 40 32) (field (s.aR t m.ad) 56 48)) (field (s.aR t m.ad) 19 0)] ∧ p.len = 64 ∧
      p.piece = { data := s.sramBytes t (s.aR t m.asr).toNat 64, st := if s.sramBad t (s.aR t m.asr).toNat 64 then .poisoned else .local' }) := by
  obtain ⟨hsalign, hsrange, -⟩ := hsrc
  let n := tileAt (field (s.aR t m.ad) 40 32) (field (s.aR t m.ad) 56 48)
  let b := field (s.aR t m.ad) 19 0
  obtain ⟨v, hv, hlast, hmem, hregs, hbanks, hpkts⟩ := queued_row (c := .mcopy t m k) (fill := none) (a := (s.aR t m.asr).toNat) (d := .sram n b) h rfl hquiet
    fun w z hw => by
      have htile : w.tile t = (s.tile t).requeued z := hw ▸ s.tile_setT_same t _
      have haddr : ∀ r, (w.tile t).aGet r = (s.tile t).aGet r := fun r => by rw [htile, TileSt.requeued_aGet]
      have hrect' : w.inRect (w.partOf t) (field (s.aR t m.ad) 40 32, field (s.aR t m.ad) 56 48) = true := by rw [hw]; exact hrect
      have hcheck := State.moveCheck_tile (w := w) (t := t) (e := (s.tile t).newEntry (.mcopy m) k) (id := w.nextPkt) (fill := none) htwo hsk
        (fun _ => ⟨hsalign, hsrange⟩) hdk halign hrange hrect'
      have hmove := State.mmove_row (w := w) (t := t) (e := (s.tile t).newEntry (.mcopy m) k) (fill := none) (d := .sram n b) htwo hcomp hsk
        (by rw [htile]; exact hlen) (by rw [htile]; exact hsl) (.inl rfl) (by rw [hdk, haddr]; rfl) (by rw [haddr, haddr]; exact hcheck)
      rw [haddr] at hmove
      exact hmove
  have hpiece : v.rowPiece t none (s.aR t m.asr).toNat = _ := State.rowPiece_copied hmem
  have hlength := v.rowPiece_length t none (s.aR t m.asr).toNat
  have hvroom : v.outstanding t.val false < 64 := by
    rw [State.outstanding, hpkts]
    exact hroom
  obtain ⟨l, r, hpump⟩ := State.pumpTile_other hother hlast hvroom (Piece.fresh_part _ _ _ (by rw [hlength]; decide))
  refine ⟨_, hv, ?_⟩
  rw [hpump]
  exact ⟨hmem, State.registersSame_tiles hregs rfl, State.banksSame_tiles hbanks rfl, _, congrArg (· ++ _) hpkts, rfl, rfl, rfl, rfl, rfl, hlength, hpiece⟩

end

/-- Settles O9: loads and stores by their parts, then the transfers of one row. -/
theorem loadsStoresAndTransfersMoveTheirBytes : Obligations.LoadsStoresAndTransfersMoveTheirBytes := by
  unfold Obligations.LoadsStoresAndTransfersMoveTheirBytes
  refine ⟨fun s t m k => ⟨ld_loads, st_stores, vld_loads, vst_stores⟩, fun s t m k => ?_⟩
  intro src dst quiet htwo hcomp hlen hsl hquiet
  refine ⟨fun hsk hdk h hsrc hdst => mcopy_own htwo hcomp hlen hsl hquiet hsk hdk h hsrc hdst, fun hsk hdk h hsrc => ?_,
    fun hsk hdk _ h hsst hdst => mfill_own htwo hcomp hlen hsl hquiet hsk hdk h hsst hdst⟩
  intro x y a halign hrange hrect hother hroom
  have hx : field (s.aR t m.ad) 40 32 = x := congrArg (· % 2 ^ 9) (Nat.shiftRight_eq_div_pow _ _)
  have hy : field (s.aR t m.ad) 56 48 = y := congrArg (· % 2 ^ 9) (Nat.shiftRight_eq_div_pow _ _)
  have htile : tileAt x y = 288 * y + x := congrArg (· + x) (Nat.mul_comm _ _)
  have hout : s.outstanding t.val false < 64 := by
    have hkind : ∀ b : Bool, (b == false) = !b := by decide
    simpa only [State.outstanding, hkind] using hroom
  have hsent := mcopy_other htwo hcomp hlen hsl hquiet hsk hdk h hsrc halign hrange
  rw [hx, hy, htile] at hsent
  exact hsent hrect hother hout

end Sys2Proof.Machine
end

section
/-! PROOFS. O10, first part: what TMMA, TWADD and SMMA leave in their accumulator banks (06 R206, R209, R210, 07 R238-R242, 08 R251). -/
namespace Sys2Proof.Machine

open Host

/-! ### Accumulators read after a write -/

/-- An accumulator is written, a zero one staying unlisted. -/
def accPut (l : List (Nat × Acc)) (j : Nat) (v : Acc) : List (Nat × Acc) := if v = ({} : Acc) then tdel l j else tset l j v

theorem tget_accPut (l : List (Nat × Acc)) (j k : Nat) (v : Acc) : tget ({} : Acc) (accPut l j v) k = if k = j then v else tget {} l k := by
  unfold accPut
  split
  · next h =>
    by_cases hk : k = j
    · rw [if_pos hk, hk, h]
      exact tget_tdel_same _ _ _
    · rw [if_neg hk]
      exact tget_tdel_other _ _ _ _ hk
  · by_cases hk : k = j
    · rw [if_pos hk, hk]
      exact tget_tset_same _ _ _ _
    · rw [if_neg hk]
      exact tget_tset_other _ _ _ _ _ hk

/-- Accumulators `base` to `base + n` take what `f` gives. -/
theorem tget_foldl_accPut (f : Nat → Acc → Acc) (l : List (Nat × Acc)) (base n k : Nat) :
    tget ({} : Acc) ((List.range n).foldl (fun (l : List (Nat × Acc)) i => accPut l (base + i) (f i (tget {} l (base + i)))) l) k =
      if base ≤ k ∧ k < base + n then f (k - base) (tget {} l k) else tget {} l k := by
  induction n with
  | zero => rw [if_neg (by omega)]; rfl
  | succ n ih =>
    rw [List.range_succ, List.foldl_append, List.foldl_cons, List.foldl_nil, tget_accPut]
    by_cases hk : k = base + n
    · rw [if_pos hk, if_pos (by omega), ← hk, ih, if_neg (by omega), hk, Nat.add_sub_cancel_left]
    · rw [if_neg hk, ih]
      exact if_congr (by omega) rfl rfl

/-- The accumulators of bank `b` take what `f` gives. -/
def accMapped (l : List (Nat × Acc)) (b : Nat) (f : Nat → Nat → Acc → Acc) : List (Nat × Acc) :=
  (List.range 1024).foldl (fun (l : List (Nat × Acc)) i => accPut l (b * 1024 + i) (f (i / 32) (i % 32) (tget {} l (b * 1024 + i)))) l

section
variable (x : TileSt) (b : Nat)

theorem TileSt.mapAcc_eq (f : Nat → Nat → Acc → Acc) : x.mapAcc b f = { x with acc := accMapped x.acc b f } := by
  simp only [TileSt.mapAcc, accMapped, accPut]

theorem TileSt.mapAcc_acc (f : Nat → Nat → Acc → Acc) : (x.mapAcc b f).acc = accMapped x.acc b f := by rw [TileSt.mapAcc_eq]

theorem TileSt.mapAcc_registers (f : Nat → Nat → Acc → Acc) : (x.mapAcc b f).registers = x.registers := by
  simp only [TileSt.mapAcc_eq, TileSt.registers]

theorem TileSt.mapAcc_requeued (f : Nat → Nat → Acc → Acc) (z : TileSt) : (x.requeued z).mapAcc b f = (x.mapAcc b f).requeued z := by
  simp only [TileSt.mapAcc_eq, TileSt.requeued]

theorem TileSt.accGet_mapAcc (f : Nat → Nat → Acc → Acc) (c m n : Nat) (hm : m < 32) (hn : n < 32) :
    (x.mapAcc b f).accGet c m n = if c = b then f m n (x.accGet b m n) else x.accGet c m n := by
  rw [TileSt.accGet, TileSt.mapAcc_acc, accMapped, tget_foldl_accPut (fun i => f (i / 32) (i % 32))]
  by_cases hc : c = b
  · rw [if_pos hc, if_pos (by unfold accKey; omega), hc, show accKey b m n - b * 1024 = 32 * m + n by unfold accKey; omega,
      show (32 * m + n) / 32 = m by omega, show (32 * m + n) % 32 = n by omega]
    rfl
  · rw [if_neg hc, if_neg (by unfold accKey; omega)]
    rfl

theorem TileSt.accGet_zeroIf (zero : Bool) (c m n : Nat) (hm : m < 32) (hn : n < 32) :
    (x.zeroIf zero b).accGet c m n = if zero = true ∧ c = b then {} else x.accGet c m n := by
  cases zero
  · rfl
  · rw [TileSt.zeroIf, if_pos rfl, TileSt.accGet_zeroBank _ _ _ _ _ hm hn]
    simp

theorem TileSt.accGet_poisonBank (bad : Bool) (c m n : Nat) : (x.poisonBank b bad).accGet c m n = x.accGet c m n := by cases bad <;> rfl

theorem TileSt.zeroIf_registers (zero : Bool) : (x.zeroIf zero b).registers = x.registers := by cases zero <;> rfl
theorem TileSt.poisonBank_registers (bad : Bool) : (x.poisonBank b bad).registers = x.registers := by cases bad <;> rfl
theorem TileSt.zeroIf_requeued (zero : Bool) (z : TileSt) : (x.requeued z).zeroIf zero b = (x.zeroIf zero b).requeued z := by cases zero <;> rfl
theorem TileSt.count_requeued (q n : Nat) (z : TileSt) : (x.requeued z).count q n = x.requeued (z.count q n) := rfl
theorem TileSt.poisonBank_requeued (bad : Bool) (z : TileSt) : (x.requeued z).poisonBank b bad = (x.poisonBank b bad).requeued z := by cases bad <;> rfl

end

/-! ### Products enter in order -/

theorem Acc.enterAll_plus (a : Acc) (l : List FVal) : (a.enterAll l).1 = a.plus l := by
  have hfold : ∀ (r : Acc × Bool), (l.foldl (fun (r : Acc × Bool) p => ((r.1.enter p).1, r.2 || (r.1.enter p).2)) r).1 = r.1.plus l := by
    induction l with
    | nil => exact fun _ => rfl
    | cons p l ih => exact fun r => ih _
  exact hfold (a, false)

/-! ### A tensor instruction that begins -/

/-- Bank `b` of a tile takes these accumulators; its other banks and its registers are those of `x`. -/
structure TileSt.bankFrom (y x : TileSt) (b : Nat) (f : Nat → Nat → Acc) : Prop where
  bank : ∀ m n, m < 32 → n < 32 → y.accGet b m n = f m n
  others : ∀ c m n, c ≠ b → m < 32 → n < 32 → y.accGet c m n = x.accGet c m n
  registers : y.registers = x.registers

theorem TileSt.bankFrom.poison {y x : TileSt} {b : Nat} {f : Nat → Nat → Acc} (h : y.bankFrom x b f) (bad : Bool) : (y.poisonBank b bad).bankFrom x b f :=
  ⟨fun m n hm hn => (TileSt.accGet_poisonBank _ _ _ _ _ _).trans (h.bank m n hm hn),
    fun c m n hc hm hn => (TileSt.accGet_poisonBank _ _ _ _ _ _).trans (h.others c m n hc hm hn), (TileSt.poisonBank_registers _ _ _).trans h.registers⟩

theorem TileSt.zeroIf_bankFrom (x : TileSt) (zero : Bool) (b : Nat) :
    (x.zeroIf zero b).bankFrom x b (fun m n => if zero then {} else x.accGet b m n) :=
  ⟨fun m n hm hn => by rw [TileSt.accGet_zeroIf _ _ _ _ _ _ hm hn]; exact if_congr (by simp) rfl rfl,
    fun c m n hc hm hn => by rw [TileSt.accGet_zeroIf _ _ _ _ _ _ hm hn, if_neg fun h => hc h.2], TileSt.zeroIf_registers _ _ _⟩

theorem TileSt.bankFrom.map {y x : TileSt} {b : Nat} {f : Nat → Nat → Acc} (h : y.bankFrom x b f) (g : Nat → Nat → Acc → Acc) :
    (y.mapAcc b g).bankFrom x b (fun m n => g m n (f m n)) :=
  ⟨fun m n hm hn => by rw [TileSt.accGet_mapAcc _ _ _ _ _ _ hm hn, if_pos rfl, h.bank m n hm hn],
    fun c m n hc hm hn => by rw [TileSt.accGet_mapAcc _ _ _ _ _ _ hm hn, if_neg hc, h.others c m n hc hm hn],
    (TileSt.mapAcc_registers _ _ _).trans h.registers⟩

section
variable {s : State} {t : Nat} {op : QOp} {k : Tok} {b : Nat} {f : Nat → Nat → Acc}

/-- The effect of a tensor instruction on the tile it begins on: bank `b` takes `f`, `R` says its poison. -/
def State.fillsBank (s : State) (t : Nat) (op : QOp) (k : Tok) (b : Nat) (f : Nat → Nat → Acc) (R : TileSt → Prop) (z : TileSt) : Prop :=
  ∃ y z' fl, (s.setT t ((s.tile t).requeued z)).runOp t ((s.tile t).newEntry op k) = .done (s.setT t (y.requeued z')) fl none ∧
    z'.queue op.queue = z.queue op.queue ∧ z'.srctr = z.srctr ∧ y.bankFrom (s.tile t) b f ∧ R y

theorem queued_fillsBank {c : Instr} {R : TileSt → Prop} (h : s.canQueue t op k) (hexec : exec c s = ok (s.issueQ t op k))
    (hR : ∀ y z, R y → R (y.requeued z)) (hrun : ∀ z, s.fillsBank t op k b f R z) :
    Completes c s (fun u => s.bankTo u t b f ∧ R (u.tile t) ∧ s.registersSame u t ∧ s.memSame u) := by
  obtain ⟨u, hu, w, y, fl, hbegun, hother, hmem, ⟨z, rfl⟩, hy, hpoison⟩ := queued_some
    (P := fun w y _ => (∃ z, w = s.setT t (y.requeued z)) ∧ y.bankFrom (s.tile t) b f ∧ R y) h hexec fun z => by
      obtain ⟨y, z', fl, hdone, hqueue, hctr, hy, hpoison⟩ := hrun z
      exact ⟨_, y, fl, hdone, ⟨z', s.tile_setT_same t _, hqueue, hctr⟩, ⟨z', rfl⟩, hy, hpoison⟩
  refine ⟨u, hu, ⟨fun m n hm hn => ?_, fun c m n hc hm hn => ?_⟩, ?_,
    State.registersSame_of ((hbegun.part TileSt.registers fun _ => rfl).trans hy.registers) fun n hn => ?_, hmem⟩
  · exact (hbegun.part (fun x => x.accGet b m n) fun _ => rfl).trans (hy.bank m n hm hn)
  · exact (hbegun.part (fun x => x.accGet c m n) fun _ => rfl).trans (hy.others c m n hc hm hn)
  · obtain ⟨z'', hz''⟩ := hbegun.tile
    exact hz'' ▸ hR y z'' hpoison
  · exact (hother n hn).trans (s.tile_setT_other t n _ hn)

end

/-! ### The operands stand where they may -/

theorem operandCheck_none {l : List (Nat × Nat)} {align : Nat} (h : operandsOk l align) : operandCheck l align = none := by
  have halign : (l.filter (fun r => decide (r.2 ≠ 0))).find? (fun r => decide (r.1 % align ≠ 0)) = none := by
    refine List.find?_eq_none.2 fun r hr => ?_
    obtain ⟨hl, hne⟩ := List.mem_filter.1 hr
    simpa using (h r hl (of_decide_eq_true hne)).1
  have hrange : (l.filter (fun r => decide (r.2 ≠ 0))).find? (fun r => decide (sramSize < r.1 + r.2)) = none := by
    refine List.find?_eq_none.2 fun r hr => ?_
    obtain ⟨hl, hne⟩ := List.mem_filter.1 hr
    exact fun hlt => not_lt.2 (h r hl (of_decide_eq_true hne)).2 (of_decide_eq_true hlt)
  unfold operandCheck
  simp only [halign, hrange]

/-! ### TMMA (06 R206) -/

section
variable {w : State} {x : TileSt} {t : Nat} (hx : w.tile t = x)
include hx

theorem State.tmma_eq {a : MmArgs} (hcheck : operandCheck (x.mmRegions a) 32 = none) : ∃ n bad fl, w.tmma t a = .done (w.setT t
    ((((x.zeroIf a.zero a.acc.toNat).mapAcc a.acc.toNat (fun m n c =>
      (c.enterAll ((List.range (x.sGet a.k.toNat).toNat).map (fun j => w.mmProduct t x a j m n))).1)).poisonBank a.acc.toNat bad).count 5 n)) fl none := by
  unfold State.tmma
  simp only [hx, hcheck]
  exact ⟨_, _, _, rfl⟩

theorem State.twadd_eq {aa : BitVec 4} {c : BitVec 2} (hcheck : x.sramCheck (x.aGet aa.toNat).toNat 16384 32 false = none) :
    ∃ fl, w.twadd t aa c = .done (w.setT t ((x.mapAcc c.toNat (fun m n a =>
      (a.addPartial (BitVec.ofNat 128 (leNat (w.sramBytes t ((x.aGet aa.toNat).toNat + 512 * m + 16 * n) 16)))).1)).poisonBank c.toNat
        (w.sramBad t (x.aGet aa.toNat).toNat 16384))) fl none := by
  unfold State.twadd
  simp only [hx, hcheck]
  exact ⟨_, rfl⟩

end

section
variable {s : State} {t : Tile} {k : Tok}

theorem State.mmProduct_begun (s : State) (t : Nat) (y z : TileSt) (x : TileSt) (a : MmArgs) (j m n : Nat) :
    (s.setT t y).mmProduct t (x.requeued z) a j m n = s.mmProduct t x a j m n := rfl

theorem tmma_accumulates {x : MmArgs} (h : s.canQueue t (.tmma x) k) (hops : operandsOk ((s.tile t).mmRegions x) 32) :
    Completes (.tmma t x k) s (fun u =>
      s.bankTo u t x.acc.toNat (fun m n => (if x.zero then ({} : Acc) else (s.tile t).accGet x.acc.toNat m n).plus
        ((List.range (s.sR t x.k).toNat).map (fun j => s.mmProduct t (s.tile t) x j m n))) ∧ s.registersSame u t ∧ s.memSame u) := by
  have hbank := fun bad => ((TileSt.zeroIf_bankFrom (s.tile t) x.zero x.acc.toNat).map fun m n c =>
    (c.enterAll ((List.range (s.sR t x.k).toNat).map (fun j => s.mmProduct t (s.tile t) x j m n))).1).poison bad
  simp only [Acc.enterAll_plus] at hbank
  obtain ⟨u, hu, htaken, -, hregs, hmem⟩ := queued_fillsBank (c := .tmma t x k) (R := fun _ => True) h rfl (fun _ _ _ => trivial) fun z => by
    obtain ⟨n, bad, fl, heq⟩ := State.tmma_eq (w := s.setT t ((s.tile t).requeued z)) (x := (s.tile t).requeued z) (a := x) (s.tile_setT_same t _)
      (operandCheck_none hops)
    rw [State.setT_setT, TileSt.zeroIf_requeued, TileSt.mapAcc_requeued, TileSt.poisonBank_requeued, TileSt.count_requeued] at heq
    simp only [Acc.enterAll_plus, State.mmProduct_begun] at heq
    exact ⟨_, z.count 5 n, fl, heq, by cases (QOp.tmma x).queue <;> rfl, rfl, hbank bad, trivial⟩
  exact ⟨u, hu, htaken, hregs, hmem⟩

/-! ### TWADD (06 R209) -/

theorem TileSt.bankFrom_self (x : TileSt) (b : Nat) : x.bankFrom x b (fun m n => x.accGet b m n) := ⟨fun _ _ _ _ => rfl, fun _ _ _ _ _ _ => rfl, rfl⟩

theorem TileSt.poisonBank_set (x : TileSt) (b : Nat) (hb : b < 4) : (x.poisonBank b true).accPoison.getLsbD b = true := by
  refine (getLsbD_withBit _ _ _ _ hb).trans ?_
  rw [if_pos rfl]

theorem twadd_adds {aa : BitVec 4} {c : BitVec 2} (h : s.canQueue t (.twadd aa c) k) (hsram : s.sramOk t (s.aR t aa).toNat 16384 32 false) :
    Completes (.twadd t aa k c) s (fun u =>
      s.bankTo u t c.toNat (fun m n => (((s.tile t).accGet c.toNat m n).addPartial
        (BitVec.ofNat 128 (leNat (s.sramBytes t ((s.aR t aa).toNat + 512 * m + 16 * n) 16)))).1) ∧
      (s.sramBad t (s.aR t aa).toNat 16384 = true → (u.tile t).accPoison.getLsbD c.toNat = true) ∧ s.registersSame u t ∧ s.memSame u) := by
  have hbank := ((TileSt.bankFrom_self (s.tile t) c.toNat).map fun m n a =>
    (a.addPartial (BitVec.ofNat 128 (leNat (s.sramBytes t ((s.aR t aa).toNat + 512 * m + 16 * n) 16)))).1).poison (s.sramBad t (s.aR t aa).toNat 16384)
  refine queued_fillsBank (c := .twadd t aa k c)
    (R := fun y => s.sramBad t (s.aR t aa).toNat 16384 = true → y.accPoison.getLsbD c.toNat = true) h rfl (fun _ _ hy => hy) fun z => ?_
  obtain ⟨fl, heq⟩ := State.twadd_eq (w := s.setT t ((s.tile t).requeued z)) (x := (s.tile t).requeued z) (s.tile_setT_same t _) hsram.check
  rw [State.setT_setT, TileSt.mapAcc_requeued, TileSt.poisonBank_requeued] at heq
  refine ⟨_, z, fl, heq, rfl, rfl, hbank, fun hbad => ?_⟩
  refine Eq.trans (congrArg (fun bad => (TileSt.poisonBank _ _ bad).accPoison.getLsbD c.toNat) hbad) ?_
  exact TileSt.poisonBank_set _ _ (by omega)

/-! ### SMMA (06 R210, 08 R251) -/

/-- The dense operand of SMMA and its scales. -/
def TileSt.smmaDense (x : TileSt) (a : MmArgs) : List (Nat × Nat) :=
  [((x.aGet a.ab.toNat).toNat, 32 * (x.sGet a.k.toNat).toNat)] ++
    (if isMx a.fmt.toNat then [((x.aGet a.asa.toNat).toNat, 32 * scaleRows (x.sGet a.k.toNat).toNat)] else [])

end

section
variable {w : State} {x : TileSt} {t : Nat} {a : MmArgs} (hx : w.tile t = x)
include hx

theorem State.smma_none (hk : (x.sGet a.k.toNat).toNat = 0) :
    ∃ bad, w.smma t a = .done (w.setT t ((x.zeroIf a.zero a.acc.toNat).poisonBank a.acc.toNat bad)) 0 none := by
  unfold State.smma
  simp only [hx, if_pos hk]
  exact ⟨_, rfl⟩

section
variable (hk : (x.sGet a.k.toNat).toNat ≠ 0) (hcheck : operandCheck (((x.aGet a.aa.toNat).toNat, 64) :: x.smmaDense a) 32 = none)
  (hlen : (x.aGet a.aa.toNat).toNat + (CHead.parse (w.sramBytes t (x.aGet a.aa.toNat).toNat 64)).length ≤ sramSize)
include hk hcheck hlen

theorem State.smma_badHeader (hok : (CHead.parse (w.sramBytes t (x.aGet a.aa.toNat).toNat 64)).ok a.fmt.toNat (x.sGet a.k.toNat) = false) :
    ∃ bad, w.smma t a = .done (w.setT t (((x.zeroIf a.zero a.acc.toNat).mapAcc a.acc.toNat fun _ _ c => { c with cls := 3 }).poisonBank a.acc.toNat bad))
      0 none := by
  unfold TileSt.smmaDense at hcheck
  unfold State.smma
  simp only [hx, if_neg hk, hcheck, if_neg (not_lt.2 hlen), hok, Bool.not_false, if_true]
  exact ⟨_, rfl⟩

theorem State.smma_eq (hok : (CHead.parse (w.sramBytes t (x.aGet a.aa.toNat).toNat 64)).ok a.fmt.toNat (x.sGet a.k.toNat) = true)
    (hparse : (w.parseOperand t (CHead.parse (w.sramBytes t (x.aGet a.aa.toNat).toNat 64)) (x.aGet a.aa.toNat).toNat).2 = false) :
    ∃ bad fl, w.smma t a = .done (w.setT t (((x.zeroIf a.zero a.acc.toNat).mapAcc a.acc.toNat fun m n c =>
      (c.enterAll (w.smmaTerms t x a (w.parseOperand t (CHead.parse (w.sramBytes t (x.aGet a.aa.toNat).toNat 64)) (x.aGet a.aa.toNat).toNat).1 m n)).1)
        |>.poisonBank a.acc.toNat bad)) fl none := by
  unfold TileSt.smmaDense at hcheck
  unfold State.smma
  simp only [hx, if_neg hk, hcheck, if_neg (not_lt.2 hlen), hok, Bool.not_true, Bool.false_eq_true, if_false, hparse]
  exact ⟨_, _, rfl⟩

end

end

/-! What SMMA reads of the operands depends on SRAM alone. -/

section
variable {v w : State} {t : Nat} {h : CHead} {base : Nat} (hv : v.sram = w.sram)
include hv

theorem State.sramBytes_of_sram (a n : Nat) : v.sramBytes t a n = w.sramBytes t a n := by rw [State.sramBytes, hv, State.sramBytes]

theorem State.parseGroups_of_sram (stop : Nat) (l : List (Nat × Nat)) (pos : Nat) : v.parseGroups t h base stop l pos = w.parseGroups t h base stop l pos := by
  induction l generalizing pos with
  | nil => rfl
  | cons bg r ih => simp only [State.parseGroups, State.sramBytes_of_sram hv, ih]

theorem State.parseOperand_of_sram : v.parseOperand t h base = w.parseOperand t h base := by
  simp only [State.parseOperand, State.parseGroups_of_sram hv]

end

theorem State.smmaTerms_begun (s : State) (t : Nat) (y z x : TileSt) (a : MmArgs) (groups : List CGroup) (m n : Nat) :
    (s.setT t y).smmaTerms t (x.requeued z) a groups m n = s.smmaTerms t x a groups m n := rfl

section
variable {s : State} {t : Tile} {k : Tok} {x : MmArgs} (h : s.canQueue t (.smma x) k)
include h

/-- SMMA of an empty K only clears. -/
theorem smma_clears (hk : (s.sR t x.k).toNat = 0) : Completes (.smma t x k) s (fun u =>
    s.bankTo u t x.acc.toNat (fun m n => if x.zero then {} else (s.tile t).accGet x.acc.toNat m n) ∧ s.registersSame u t ∧ s.memSame u) := by
  obtain ⟨u, hu, htaken, -, hregs, hmem⟩ := queued_fillsBank (c := .smma t x k) (R := fun _ => True) h rfl (fun _ _ _ => trivial) fun z => by
    obtain ⟨bad, heq⟩ := State.smma_none (w := s.setT t ((s.tile t).requeued z)) (x := (s.tile t).requeued z) (a := x) (s.tile_setT_same t _) hk
    rw [State.setT_setT, TileSt.zeroIf_requeued, TileSt.poisonBank_requeued] at heq
    exact ⟨_, z, 0, heq, rfl, rfl, (TileSt.zeroIf_bankFrom _ _ _).poison bad, trivial⟩
  exact ⟨u, hu, htaken, hregs, hmem⟩

section
variable (hk : (s.sR t x.k).toNat ≠ 0) (hops : operandsOk (((s.aR t x.aa).toNat, 64) :: (s.tile t).smmaDense x) 32)
  (hlen : (s.aR t x.aa).toNat + (CHead.parse (s.sramBytes t (s.aR t x.aa).toNat 64)).length ≤ sramSize)
include hk hops hlen

/-- A header that fails its checks makes every accumulator of the bank NaN. -/
theorem smma_badHeader (hok : (CHead.parse (s.sramBytes t (s.aR t x.aa).toNat 64)).ok x.fmt.toNat (s.sR t x.k) = false) :
    Completes (.smma t x k) s (fun u =>
      s.bankTo u t x.acc.toNat (fun m n => { (if x.zero then ({} : Acc) else (s.tile t).accGet x.acc.toNat m n) with cls := 3 }) ∧
      s.registersSame u t ∧ s.memSame u) := by
  obtain ⟨u, hu, htaken, -, hregs, hmem⟩ := queued_fillsBank (c := .smma t x k) (R := fun _ => True) h rfl (fun _ _ _ => trivial) fun z => by
    obtain ⟨bad, heq⟩ := State.smma_badHeader (w := s.setT t ((s.tile t).requeued z)) (x := (s.tile t).requeued z) (a := x) (s.tile_setT_same t _) hk
      (operandCheck_none hops) hlen hok
    rw [State.setT_setT, TileSt.zeroIf_requeued, TileSt.mapAcc_requeued, TileSt.poisonBank_requeued] at heq
    exact ⟨_, z, 0, heq, rfl, rfl, ((TileSt.zeroIf_bankFrom _ _ _).map _).poison bad, trivial⟩
  exact ⟨u, hu, htaken, hregs, hmem⟩

theorem smma_accumulates (hok : (CHead.parse (s.sramBytes t (s.aR t x.aa).toNat 64)).ok x.fmt.toNat (s.sR t x.k) = true)
    (hparse : (s.parseOperand t (CHead.parse (s.sramBytes t (s.aR t x.aa).toNat 64)) (s.aR t x.aa).toNat).2 = false) :
    Completes (.smma t x k) s (fun u =>
      s.bankTo u t x.acc.toNat (fun m n => (if x.zero then ({} : Acc) else (s.tile t).accGet x.acc.toNat m n).plus (s.smmaTerms t (s.tile t) x
        (s.parseOperand t (CHead.parse (s.sramBytes t (s.aR t x.aa).toNat 64)) (s.aR t x.aa).toNat).1 m n)) ∧ s.registersSame u t ∧ s.memSame u) := by
  have hsame : ∀ y head base, (s.setT t y).parseOperand t head base = s.parseOperand t head base := fun y head base =>
    State.parseOperand_of_sram rfl
  have hbytes : ∀ y a n, (s.setT t y).sramBytes t a n = s.sramBytes t a n := fun _ _ _ => rfl
  obtain ⟨u, hu, htaken, -, hregs, hmem⟩ := queued_fillsBank (c := .smma t x k) (R := fun _ => True) h rfl (fun _ _ _ => trivial) fun z => by
    obtain ⟨bad, fl, heq⟩ := State.smma_eq (w := s.setT t ((s.tile t).requeued z)) (x := (s.tile t).requeued z) (a := x) (s.tile_setT_same t _) hk
      (operandCheck_none hops) hlen hok ((congrArg Prod.snd (hsame _ _ _)).trans hparse)
    rw [State.setT_setT, TileSt.zeroIf_requeued, TileSt.mapAcc_requeued, TileSt.poisonBank_requeued] at heq
    simp only [TileSt.requeued_aGet, hbytes, hsame, State.smmaTerms_begun, Acc.enterAll_plus] at heq
    exact ⟨_, z, fl, heq, rfl, rfl, ((TileSt.zeroIf_bankFrom _ _ _).map _).poison bad, trivial⟩
  exact ⟨u, hu, htaken, hregs, hmem⟩

end

end

end Sys2Proof.Machine
end

section
/-! PROOFS. O10, second part: the rows that TDRAIN writes (06 R208, 07 R242, R243). -/
namespace Sys2Proof.Machine

open Host

/-! ### Blocks of one size stored one after another -/

section
variable (t base size : Nat) (data : Nat × Nat → List Byte) (bad : Nat × Nat → Bool)

/-- Block `p.1` of SRAM takes the bytes of `p`, for every `p` of a list. -/
def State.storeBlocks (s : State) (l : List (Nat × Nat)) : State := l.foldl (fun u p => u.unitWrite t (base + p.1 * size) (data p) (bad p)) s

variable (s : State) (l : List (Nat × Nat))

theorem State.storeBlocks_only : ∃ m g, s.storeBlocks t base size data bad l = { s with sram := m, sramG := g } := by
  induction l generalizing s with
  | nil => exact ⟨_, _, rfl⟩
  | cons p r ih =>
    obtain ⟨g, hg⟩ := s.unitWrite_only t (base + p.1 * size) (data p) (bad p)
    obtain ⟨m, g', h⟩ := ih (s.unitWrite t (base + p.1 * size) (data p) (bad p))
    exact ⟨m, g', h.trans (by rw [hg])⟩

theorem State.unitWrite_sram (a : Nat) (d : List Byte) (b : Bool) : (s.unitWrite t a d b).sram = s.sram.writeN (sramKey t a) d := by
  obtain ⟨g, hg⟩ := s.unitWrite_only t a d b
  rw [hg]

variable (hdata : ∀ p, (data p).length = size)
include hdata

theorem State.storeBlocks_outside (x : Nat) (hx : ∀ p ∈ l, x < sramKey t base + p.1 * size ∨ sramKey t base + p.1 * size + size ≤ x) :
    (s.storeBlocks t base size data bad l).sram.read x = s.sram.read x := by
  induction l generalizing s with
  | nil => rfl
  | cons p r ih =>
    refine (ih _ fun q hq => hx q (List.mem_cons_of_mem _ hq)).trans ?_
    rw [State.unitWrite_sram, sramKey_add]
    exact Memory.read_writeN_other _ _ _ _ (by rw [hdata]; exact hx p List.mem_cons_self)

theorem State.storeBlocks_inside (hl : l.Pairwise (fun p q => p.1 ≠ q.1)) (p : Nat × Nat) (hp : p ∈ l) (i : Nat) (hi : i < size) :
    (s.storeBlocks t base size data bad l).sram.read (sramKey t base + p.1 * size + i) = (data p).getD i 0 := by
  induction l generalizing s with
  | nil => exact absurd hp List.not_mem_nil
  | cons q r ih =>
    obtain ⟨hq, hr⟩ := List.pairwise_cons.1 hl
    rcases List.mem_cons.1 hp with rfl | hp
    · refine (State.storeBlocks_outside t base size data bad _ r hdata _ fun q' hq' => ?_).trans ?_
      · rcases Nat.lt_or_gt_of_ne (hq q' hq') with hlt | hgt
        · exact .inl (by nlinarith)
        · exact .inr (by nlinarith)
      · rw [State.unitWrite_sram, sramKey_add]
        exact Memory.read_writeN_same _ _ _ _ (by rw [hdata]; exact hi)
    · exact ih _ hr hp

end

/-! ### The bytes of a drained bank -/

/-- Values of `w` bytes each, one after another. -/
theorem flatMap_getD (f : Nat → List Byte) (w n i j : Nat) (hf : ∀ i, (f i).length = w) (hi : i < n) (hj : j < w) :
    ((List.range n).flatMap f).getD (w * i + j) 0 = (f i).getD j 0 := by
  have hlen : ∀ n, ((List.range n).flatMap f).length = w * n := fun n => by simp [List.length_flatMap, hf, Nat.mul_comm]
  induction n with
  | zero => omega
  | succ n ih =>
    rw [List.range_succ, List.flatMap_append, List.flatMap_singleton]
    by_cases hlt : i < n
    · rw [List.getD_append _ _ _ _ (by rw [hlen]; nlinarith), ih hlt]
    · obtain rfl : i = n := by omega
      rw [List.getD_append_right _ _ _ _ (by rw [hlen]; omega), hlen, Nat.add_sub_cancel_left]

section
variable (x : TileSt) (d : DrainArgs) (e : QEntry) (j b : Nat)

theorem TileSt.drainBank_bytes : (x.drainBank d e j b).1 =
    (List.range 1024).flatMap (fun i => leBytes (rowBytes d.ofmt.toNat / 32) (x.drainAt d e j b (i / 32) (i % 32)).1) := by
  have hfold : ∀ l : List Nat, (l.foldr (fun i (r : List Byte × Fl) =>
      (leBytes (rowBytes d.ofmt.toNat / 32) (x.drainAt d e j b (i / 32) (i % 32)).1 ++ r.1, (x.drainAt d e j b (i / 32) (i % 32)).2 ||| r.2)) ([], 0)).1 =
      l.flatMap (fun i => leBytes (rowBytes d.ofmt.toNat / 32) (x.drainAt d e j b (i / 32) (i % 32)).1) := fun l => by
    induction l with
    | nil => rfl
    | cons i r ih => rw [List.foldr_cons, List.flatMap_cons, ih]
  exact hfold (List.range 1024)

/-- A row holds 32 values. -/
theorem rowBytes_eq (ofmt : Nat) : rowBytes ofmt = 32 * (rowBytes ofmt / 32) := by
  unfold rowBytes
  split <;> rfl

theorem TileSt.drainBank_length : (x.drainBank d e j b).1.length = 32 * rowBytes d.ofmt.toNat := by
  have hrow := rowBytes_eq d.ofmt.toNat
  rw [TileSt.drainBank_bytes, List.length_flatMap]
  simp only [leBytes_length, List.map_const', List.sum_replicate, List.length_range, smul_eq_mul]
  omega

/-- Value (m, n) of a drained bank. -/
theorem TileSt.drainBank_getD (m n i : Nat) (hm : m < 32) (hn : n < 32) (hi : i < rowBytes d.ofmt.toNat / 32) :
    (x.drainBank d e j b).1.getD (rowBytes d.ofmt.toNat / 32 * (32 * m + n) + i) 0 =
      (leBytes (rowBytes d.ofmt.toNat / 32) (x.drainAt d e j b m n).1).getD i 0 := by
  rw [TileSt.drainBank_bytes, flatMap_getD _ _ _ _ _ (fun _ => leBytes_length _ _) (by omega) hi, show (32 * m + n) / 32 = m by omega,
    show (32 * m + n) % 32 = n by omega]

end

/-! ### TDRAIN (06 R208) -/

/-- The banks of a mask with their places in the rows drained. -/
def drainPlan (mask : BitVec 4) : List (Nat × Nat) := (List.range (maskBanks mask).length).zip (maskBanks mask)

theorem mem_drainPlan {mask : BitVec 4} {j b : Nat} (h : (maskBanks mask)[j]? = some b) : (j, b) ∈ drainPlan mask := by
  obtain ⟨hj, hb⟩ := List.getElem?_eq_some_iff.1 h
  exact List.mem_iff_getElem?.2 ⟨j, by rw [drainPlan, List.getElem?_zip_eq_some]; exact ⟨List.getElem?_range hj, h⟩⟩

theorem drainPlan_fst {mask : BitVec 4} {p : Nat × Nat} (hp : p ∈ drainPlan mask) : p.1 < (maskBanks mask).length :=
  List.mem_range.1 (List.of_mem_zip hp).1

theorem drainPlan_pairwise (mask : BitVec 4) : (drainPlan mask).Pairwise (fun p q => p.1 ≠ q.1) := by
  have hfst : (drainPlan mask).map Prod.fst = List.range (maskBanks mask).length := List.map_fst_zip (by simp)
  exact List.pairwise_map.1 (hfst ▸ List.nodup_range)

/-- The tile after a drain: with CLEAR the drained banks are 0. -/
def TileSt.drainCleared (x : TileSt) (d : DrainArgs) : TileSt := if d.clear then x.zeroed d.mask else x

theorem TileSt.drainCleared_requeued (x z : TileSt) (d : DrainArgs) : (x.requeued z).drainCleared d = (x.drainCleared d).requeued z := by
  unfold TileSt.drainCleared
  cases d.clear
  · rfl
  · exact TileSt.zeroed_requeued x z d.mask

theorem TileSt.drainCleared_registers (x : TileSt) (d : DrainArgs) : (x.drainCleared d).registers = x.registers := by
  unfold TileSt.drainCleared
  cases d.clear
  · rfl
  · exact TileSt.zeroed_keeps TileSt.registers _ _ fun _ _ => rfl

theorem TileSt.drainCleared_accGet (x : TileSt) (d : DrainArgs) (b m n : Nat) (hb : b < 4) (hm : m < 32) (hn : n < 32) :
    (x.drainCleared d).accGet b m n = if d.clear && d.mask.getLsbD b then {} else x.accGet b m n := by
  unfold TileSt.drainCleared
  cases d.clear
  · rfl
  · exact TileSt.accGet_zeroed x d.mask b m n hb hm hn

/-- The first part of a pair folded on its own. -/
theorem foldl_fst {α β γ : Type} (g : α → γ → α) (f : β → γ → β) (l : List γ) (a : α) (b : β) :
    (l.foldl (fun (u : α × β) p => (g u.1 p, f u.2 p)) (a, b)).1 = l.foldl g a := by
  induction l generalizing a b with
  | nil => rfl
  | cons p r ih => exact ih _ _

/-- The rows of every bank drained, stored with the flags of their values. -/
def State.drainAll (w : State) (t : Nat) (x : TileSt) (d : DrainArgs) (e : QEntry) : State × Fl :=
  (drainPlan d.mask).foldl (fun (u : State × Fl) p =>
    (u.1.unitWrite t ((x.aGet d.ad.toNat).toNat + p.1 * (32 * rowBytes d.ofmt.toNat)) (x.drainBank d e p.1 p.2).1
      (bitAt x.accPoison p.2 || (x.sBad d.s.toNat && decide (d.ofmt.toNat ≠ 5))), u.2 ||| (x.drainBank d e p.1 p.2).2)) (w, 0)

/-- The memory with the rows of every bank drained. -/
def State.drainStored (w : State) (t : Nat) (x : TileSt) (d : DrainArgs) (e : QEntry) : State :=
  w.storeBlocks t (x.aGet d.ad.toNat).toNat (32 * rowBytes d.ofmt.toNat) (fun p => (x.drainBank d e p.1 p.2).1)
    (fun p => bitAt x.accPoison p.2 || (x.sBad d.s.toNat && decide (d.ofmt.toNat ≠ 5))) (drainPlan d.mask)

theorem State.drainAll_fst (w : State) (t : Nat) (x : TileSt) (d : DrainArgs) (e : QEntry) : (w.drainAll t x d e).1 = w.drainStored t x d e :=
  foldl_fst (fun (u : State) (p : Nat × Nat) => u.unitWrite t ((x.aGet d.ad.toNat).toNat + p.1 * (32 * rowBytes d.ofmt.toNat))
    (x.drainBank d e p.1 p.2).1 (bitAt x.accPoison p.2 || (x.sBad d.s.toNat && decide (d.ofmt.toNat ≠ 5))))
    (fun (f : Fl) (p : Nat × Nat) => f ||| (x.drainBank d e p.1 p.2).2) (drainPlan d.mask) w 0

theorem State.drainStored_requeued (w : State) (t : Nat) (x z : TileSt) (d : DrainArgs) (e : QEntry) :
    w.drainStored t (x.requeued z) d e = w.drainStored t x d e := rfl

theorem State.drainStored_only (w : State) (t : Nat) (x : TileSt) (d : DrainArgs) (e : QEntry) :
    ∃ m g, w.drainStored t x d e = { w with sram := m, sramG := g } := State.storeBlocks_only _ _ _ _ _ _ _

theorem State.drainStored_tile (w : State) (t : Nat) (x : TileSt) (d : DrainArgs) (e : QEntry) (n : Nat) :
    (w.drainStored t x d e).tile n = w.tile n := by
  obtain ⟨m, g, hm⟩ := w.drainStored_only t x d e
  exact State.tile_of_tiles (congrArg State.tiles hm) n

theorem State.tdrain_eq {w : State} {x : TileSt} {t : Nat} {e : QEntry} {d : DrainArgs} (hx : w.tile t = x)
    (hcheck : x.sramCheck (x.aGet d.ad.toNat).toNat ((maskBanks d.mask).length * (32 * rowBytes d.ofmt.toNat)) 64 true = none) :
    w.tdrain t e d = .done ((w.drainStored t x d e).updT t (fun y => y.drainCleared d)) (w.drainAll t x d e).2 none := by
  unfold State.tdrain
  simp only [hx, hcheck]
  rw [← State.drainAll_fst]
  rfl

section
variable {s : State} {t : Tile} {k : Tok} {d : DrainArgs}

theorem tdrain_drains (h : s.canQueue t (.tdrain d) k)
    (hsram : s.sramOk t (s.aR t d.ad).toNat ((maskBanks d.mask).length * (32 * rowBytes d.ofmt.toNat)) 64 true) :
    let e := (s.tile t).newEntry (.tdrain d) k
    let base := (s.aR t d.ad).toNat
    let size := 32 * rowBytes d.ofmt.toNat
    Completes (.tdrain t d k) s (fun u =>
      (∀ p ∈ drainPlan d.mask, ∀ i, i < size → u.sramAt t (base + p.1 * size + i) = ((s.tile t).drainBank d e p.1 p.2).1.getD i 0) ∧
      (∀ a, a < sramKey t base ∨ sramKey t base + (maskBanks d.mask).length * size ≤ a → u.sram.read a = s.sram.read a) ∧
      (∀ b m n, b < 4 → m < 32 → n < 32 →
        (u.tile t).accGet b m n = if d.clear && d.mask.getLsbD b then {} else (s.tile t).accGet b m n) ∧
      s.registersSame u t ∧ u.slices = s.slices ∧ u.flash = s.flash) := by
  intro e base size
  let left := fun z => ((s.setT t ((s.tile t).requeued z)).drainStored t (s.tile t) d e).updT t (fun y => y.drainCleared d)
  obtain ⟨u, hu, w, y, fl, hbegun, hother, ⟨hmem, -, hslices, -, hflash⟩, rfl, z, rfl⟩ := queued_some (c := .tdrain t d k)
    (P := fun w y _ => y = (s.tile t).drainCleared d ∧ ∃ z, w = left z) h rfl fun z => by
      have heq := State.tdrain_eq (e := e) (d := d) (s.tile_setT_same t ((s.tile t).requeued z)) hsram.check
      rw [State.drainStored_requeued] at heq
      refine ⟨_, (s.tile t).drainCleared d, _, heq, ⟨z, ?_, rfl, rfl⟩, rfl, z, rfl⟩
      rw [State.tile_updT_same, State.drainStored_tile, State.tile_setT_same, TileSt.drainCleared_requeued]
  have hlen : ∀ p : Nat × Nat, ((s.tile t).drainBank d e p.1 p.2).1.length = size := fun p => TileSt.drainBank_length _ _ _ _ _
  obtain ⟨m, g, hm⟩ := (s.setT t ((s.tile t).requeued z)).drainStored_only t (s.tile t) d e
  refine ⟨u, hu, fun p hp i hi => ?_, fun a ha => ?_, fun b m n hb hm hn => ?_, State.registersSame_of ?_ fun n hn => ?_, hslices.trans ?_, hflash.trans ?_⟩
  · rw [State.sramAt, sramKey_add, sramKey_add, hmem]
    exact State.storeBlocks_inside t base size _ _ _ _ hlen (drainPlan_pairwise _) p hp i hi
  · rw [hmem]
    refine State.storeBlocks_outside t base size _ _ _ _ hlen a fun p hp => ?_
    have hplace := drainPlan_fst hp
    rcases ha with ha | ha
    · exact .inl (by omega)
    · exact .inr (by nlinarith)
  · exact (hbegun.part (fun x => x.accGet b m n) fun _ => rfl).trans (TileSt.drainCleared_accGet _ _ _ _ _ hb hm hn)
  · exact (hbegun.part TileSt.registers fun _ => rfl).trans (TileSt.drainCleared_registers _ _)
  · exact ((hother n hn).trans (State.tile_setT_other _ _ _ _ hn)).trans ((State.drainStored_tile _ _ _ _ _ _).trans (s.tile_setT_other t n _ hn))
  · exact (congrArg State.slices hm :)
  · exact (congrArg State.flash hm :)

end

/-- Bytes read one by one. -/
theorem State.sramBytes_of_getD {u : State} {t a w : Nat} {l : List Byte} (hl : l.length = w) (h : ∀ i, i < w → u.sramAt t (a + i) = l.getD i 0) :
    u.sramBytes t a w = l := by
  refine List.ext_getElem? fun i => ?_
  by_cases hi : i < w
  · rw [State.sramBytes, Memory.readN_getElem? _ _ _ _ hi, ← sramKey_add, show u.sram.read (sramKey t (a + i)) = _ from h i hi,
      List.getD_eq_getElem?_getD, List.getElem?_eq_getElem (by omega)]
    rfl
  · rw [List.getElem?_eq_none (by rw [State.sramBytes, Memory.readN_length]; omega), List.getElem?_eq_none (by omega)]

/-- Bytes of a drained row, by output format. -/
theorem rowBytes_listed : ∀ ofmt : BitVec 4, ofmt.toNat < 7 →
    (match ofmt.toNat with
      | 0 => 64 | 1 => 64 | 2 => 128 | 3 => 32 | 4 => 32 | 5 => 512 | _ => 128) = rowBytes ofmt.toNat := by decide

/-- Settles O10: the accumulators by instruction, then the drain. -/
theorem tensorInstructionsAccumulateAndDrain : Obligations.TensorInstructionsAccumulateAndDrain := by
  unfold Obligations.TensorInstructionsAccumulateAndDrain
  refine ⟨fun s t k => ⟨fun _ => tmma_accumulates, fun _ _ => twadd_adds, fun x h => ?_⟩, fun s t k d h => ?_⟩
  · exact ⟨smma_clears h, smma_badHeader h, smma_accumulates h⟩
  · intro banks row w base mode hsram
    have hrow : row = rowBytes d.ofmt.toNat := rowBytes_listed d.ofmt (of_decide_eq_true h.2.1)
    have hw : w = rowBytes d.ofmt.toNat / 32 := congrArg (· / 32) hrow
    obtain ⟨u, hu, hbytes, houtside, hacc, hregs, hslices, hflash⟩ := tdrain_drains h (hrow ▸ hsram)
    refine ⟨u, hu, fun j b m n hj hm hn => ?_, hrow ▸ houtside, hacc, hregs, hslices, hflash⟩
    have hmode : effMode d.rnd.toNat (s.tile t).rmode = mode := effMode_eq (by decide) d.rnd (s.tile t).rmode
    rw [← hmode, hrow, hw]
    refine State.sramBytes_of_getD (leBytes_length _ _) fun i hi => ?_
    have hvalue := hbytes (j, b) (mem_drainPlan hj) (rowBytes d.ofmt.toNat / 32 * (32 * m + n) + i) (by
      have hsize := rowBytes_eq d.ofmt.toNat
      nlinarith)
    rw [TileSt.drainBank_getD _ _ _ _ _ _ _ _ hm hn hi] at hvalue
    refine (congrArg (u.sramAt t) ?_).trans hvalue
    have hsize := rowBytes_eq d.ofmt.toNat
    generalize rowBytes d.ofmt.toNat / 32 = v at hsize ⊢
    rw [hsize]
    ring

end Sys2Proof.Machine
end

section
/-! PROOFS. O13: HCLR (08 R274). -/
namespace Sys2Proof.Machine

open Host

/-- The tile whose hash accumulator HCLR has cleared. -/
def TileSt.hashCleared (x : TileSt) : TileSt := { x with hash := x.hash.clear }

section
variable (x : TileSt)

@[simp] theorem TileSt.hashCleared_hash : x.hashCleared.hash = x.hash.clear := rfl
@[simp] theorem TileSt.hashCleared_registers : x.hashCleared.registers = x.registers := rfl
theorem TileSt.requeued_hashCleared (z : TileSt) : (x.requeued z).hashCleared = x.hashCleared.requeued z := rfl

end

/-- HCLR acts on its tile alone, and raises no flag. -/
theorem State.hclr_eq (s : State) (t : Nat) : s.hclr t = .tile s t ((s.tile t).hashCleared, 0) := rfl

/-- HCLR begins on the tile with a cleared accumulator; the memories, which hold the ring's lines, and the other tiles stay. -/
theorem hclr_begins {s : State} {t : Tile} {k : Tok} (h : s.canQueue t .hclr k) : Completes (.hclr t k) s (fun u =>
    s.hasBegun u t .hclr k 0 (s.tile t).hashCleared ∧ s.otherTiles u t ∧ s.memSame u) :=
  queued_tile (c := .hclr t k) h rfl (fun x => (x.hashCleared, 0)) (fun w _ _ => w.hclr_eq t)
    fun x z => congrArg (·, 0) (x.requeued_hashCleared z)

/-- Settles O13: what has begun holds the cleared accumulator, and the registers of the tile before it. -/
theorem hclrClearsAllButItsConfiguration : Obligations.HclrClearsAllButItsConfiguration := by
  unfold Obligations.HclrClearsAllButItsConfiguration
  intro s t k hash h
  obtain ⟨u, hu, hbegun, hother, hmem⟩ := hclr_begins h
  have hhash : (u.tile t).hash = hash.clear := (hbegun.part TileSt.hash fun _ => rfl).trans (TileSt.hashCleared_hash _)
  have hregisters : (u.tile t).registers = (s.tile t).registers :=
    (hbegun.part TileSt.registers fun _ => rfl).trans (TileSt.hashCleared_registers _)
  exact ⟨u, hu, hhash, State.registersSame_of hregisters hother, hmem⟩

end Sys2Proof.Machine
end

section
/-! PROOFS. What the operations and messages of the memory tiers share: a partition's memory and a page table entry read after an update
(10 R316-R333). -/
namespace Sys2Proof.Machine

open Host

/-! ### A partition's memory after an update

A lemma `…_mem` says that an operation leaves every part of a partition's memory but the fields its hypothesis names. -/

section
variable {α : Type} (s : State) (n k : Nat) (f : PartMem → α)

theorem State.mem_updP (g : Partition → Partition) (h : f (g (s.pt n)).mem = f (s.pt n).mem) : f ((s.updP n g).pt k).mem = f (s.pt k).mem := by
  by_cases e : k = n
  · rw [e, State.pt_updP_same, h]
  · rw [State.pt_updP_other _ _ _ _ e]

theorem State.mem_updM (g : PartMem → PartMem) (h : ∀ m, f (g m) = f m) : f ((s.updM n g).pt k).mem = f (s.pt k).mem := s.mem_updP n k f _ (h _)

@[simp] theorem State.mem_updM_same (g : PartMem → PartMem) : ((s.updM n g).pt n).mem = g (s.pt n).mem :=
  congrArg Partition.mem (State.pt_updP_same ..)

/-- The use against the quota turns the OVER bits only (10 R333). -/
theorem State.quotaCheck_mem (hf : ∀ m o, f { m with overs := o } = f m := by intros; rfl) :
    f ((s.quotaCheck n).pt k).mem = f (s.pt k).mem := by
  refine foldl_keep (fun t : State => f (t.pt k).mem) _ _ _ fun t b => ?_
  dsimp only
  split
  · rfl
  · split <;> exact ((State.postPart_tells _ _ _ _).pt_field k fun p => f p.mem).trans (t.mem_updM n k f _ fun m => hf m _)

/-- The account of the stalls changes its own fields only (10 R336). -/
theorem State.stallSync_mem (hf : ∀ m a b c d, f { m with stallUs := a, stallSince := b, stalls := c, stalled := d } = f m := by intros; rfl) :
    f (s.stallSync.pt k).mem = f (s.pt k).mem := by
  refine foldl_keep (fun t : State => f (t.pt k).mem) _ _ _ fun t b => ?_
  dsimp only
  split
  · rfl
  · exact t.mem_updM b k f _ fun m => hf m _ _ _ _

theorem State.closeOp_mem (o : Op) (hf : ∀ m a b c d, f { m with stallUs := a, stallSince := b, stalls := c, stalled := d } = f m := by intros; rfl) :
    f ((s.closeOp o).pt k).mem = f (s.pt k).mem := by
  refine (State.stallSync_mem _ k f hf).trans ?_
  dsimp only
  split <;> rfl

@[simp] theorem State.freeSlot_pt (ppa : Nat) : (s.freeSlot ppa).pt k = s.pt k := rfl

/-- A partition from which a copy of a page is discarded: counted, in no slot's pin record (10 R329, 11 R364). -/
def Partition.copyGone (page : Nat) (p : Partition) : Partition :=
  { p with mem := { p.mem with discarded := p.mem.discarded + 1 }, wgt := p.wgt.unpin page }

/-- A discard finds no resident copy, or its entry keeps the backing alone and the slot is freed. -/
theorem State.discardCopy_cases (page : Nat) : (s.discardCopy n page = s ∧ ∀ e, s.pte n page = some e → e.ppa = none) ∨
    ∃ e p, s.pte n page = some e ∧ e.ppa = some p ∧ s.discardCopy n page =
      ((s.setPte n page { e with ppa := none, chunks := 0, pin := false }).updP n (Partition.copyGone page)).freeSlot p := by
  unfold State.discardCopy
  split
  · next e he =>
    split
    · next p hp => exact .inr ⟨e, p, he, hp, rfl⟩
    · next hp => exact .inl ⟨rfl, fun x hx => by rw [he] at hx; exact Option.some.inj hx ▸ hp⟩
  · next he => exact .inl ⟨rfl, fun x hx => by simp [he] at hx⟩

theorem State.discardCopy_mem (page : Nat) (hf : ∀ m l d, f { m with pages := l, discarded := d } = f m := by intros; rfl) :
    f ((s.discardCopy n page).pt k).mem = f (s.pt k).mem := by
  obtain ⟨h, -⟩ | ⟨e, p, -, -, h⟩ := s.discardCopy_cases n page
  · rw [h]
  · rw [h, State.freeSlot_pt]
    exact (State.mem_updP _ n k f _ (hf _ _ _)).trans (s.mem_updM n k f _ fun m => hf m _ m.discarded)

theorem State.quotaTrim_mem (fuel : Nat) (hf : ∀ m l d, f { m with pages := l, discarded := d } = f m := by intros; rfl) :
    f ((State.quotaTrim n fuel s).pt k).mem = f (s.pt k).mem := by
  induction fuel generalizing s with
  | zero => rfl
  | succ fuel ih =>
    unfold State.quotaTrim
    split
    · rfl
    · split
      · rfl
      · split
        · exact (ih _).trans (s.discardCopy_mem n k f _ hf)
        · exact (ih _).trans (s.discardCopy_mem n k f _ hf)
        · rfl

theorem State.quotaSettle_mem (hf : ∀ m l d o, f { m with pages := l, discarded := d, overs := o } = f m := by intros; rfl) :
    f ((s.quotaSettle n).pt k).mem = f (s.pt k).mem :=
  (State.quotaCheck_mem _ n k f fun m o => hf m m.pages m.discarded o).trans (s.quotaTrim_mem n k f _ fun m l d => hf m l d m.overs)

end

/-! ### Page table entries -/

section
variable (s : State) (n page : Nat) (e : Pte)

theorem State.pte_of_pages {s u : State} {n : Nat} (h : (u.pt n).mem.pages = (s.pt n).mem.pages) (page : Nat) : u.pte n page = s.pte n page :=
  congrArg (fun l : List (Nat × Pte) => tfind l page) h

@[simp] theorem State.pte_setPte_same : (s.setPte n page e).pte n page = some e := by
  unfold State.pte State.setPte
  rw [State.mem_updM_same]
  exact tfind_tset_same ..

theorem State.pte_setPte_other (j : Nat) (hj : j ≠ page) : (s.setPte n page e).pte n j = s.pte n j := by
  unfold State.pte State.setPte
  rw [State.mem_updM_same]
  exact tfind_tset_other _ _ _ _ hj

theorem State.pte_updP (g : Partition → Partition) (h : (g (s.pt n)).mem.pages = (s.pt n).mem.pages) : (s.updP n g).pte n page = s.pte n page :=
  State.pte_of_pages (s.mem_updP n n PartMem.pages g h) page

theorem State.quotaCheck_pte (k : Nat) : (s.quotaCheck k).pte n page = s.pte n page :=
  State.pte_of_pages (s.quotaCheck_mem k n PartMem.pages) page

theorem State.closeOp_pte (o : Op) : (s.closeOp o).pte n page = s.pte n page := State.pte_of_pages (s.closeOp_mem n PartMem.pages o) page

theorem State.discardCopy_pte_other (j : Nat) (hj : j ≠ page) : (s.discardCopy n page).pte n j = s.pte n j := by
  obtain ⟨h, -⟩ | ⟨e, p, -, -, h⟩ := s.discardCopy_cases n page
  · rw [h]
  · rw [h]
    exact (State.pte_updP _ n j (Partition.copyGone page) rfl).trans (s.pte_setPte_other n page _ j hj)

variable {s n page e}

/-- A resident copy is discarded: its entry keeps the backing alone, the discard is counted (10 R329). -/
theorem State.discardCopy_resident (hpte : s.pte n page = some e) (hppa : e.ppa ≠ none) :
    (s.discardCopy n page).pte n page = some { e with ppa := none, chunks := 0, pin := false } ∧
      ((s.discardCopy n page).pt n).mem.discarded = (s.pt n).mem.discarded + 1 := by
  obtain ⟨-, h⟩ | ⟨x, p, hx, -, h⟩ := s.discardCopy_cases n page
  · exact absurd (h e hpte) hppa
  · obtain rfl : x = e := Option.some.inj (hx.symm.trans hpte)
    rw [h]
    refine ⟨(State.pte_updP _ n page (Partition.copyGone page) rfl).trans (State.pte_setPte_same ..), ?_⟩
    rw [State.freeSlot_pt, State.pt_updP_same]
    exact congrArg (· + 1) (s.mem_updM n n PartMem.discarded _ fun _ => rfl)

/-- A page whose home is an object, or anonymous memory, has that entry (10 R319-R321). -/
theorem State.pte_of_homeOf (h : s.homeOf n page = .obj e ∨ s.homeOf n page = .anon e) : s.pte n page = some e := by
  unfold State.homeOf at h
  split at h
  · split at h
    · split at h <;> simp at h
    · simp at h
  · split at h
    · next x hx =>
      rw [hx]
      split at h
      · simpa using h
      · split at h
        · simp at h
        · simpa using h
    · simp at h

end

/-! ### An operation that lets go of what it held -/

theorem State.stallSync_out (s : State) : s.stallSync.out = s.out := by
  obtain ⟨p, hp⟩ := s.stallSync_only
  rw [hp]

theorem State.closeOp_out (s : State) (o : Op) : (s.closeOp o).out = s.out := by
  unfold State.closeOp
  rw [State.stallSync_out]
  dsimp only
  split <;> rfl

end Sys2Proof.Machine
end

section
/-! PROOFS. O42: COPY of one row of 64 bytes, TIER_PREFETCH and TIER_RELEASE of one page (10 R322, R344-R346, T10.10). -/
namespace Sys2Proof.Machine

open Host

@[simp] theorem State.prog_setProg_same (s : State) (i : Nat) (x : OpProg) : (s.setProg i x).prog i = x := tget_tset_same ..

/-! ### The row of a COPY -/

/-- A COPY of one row that has been written: it lets go of what it held and ends, with GRANULE_POISON where the row was poisoned. -/
def State.copied (u : State) (o : Op) (bad : Bool) : State :=
  ((u.setProg o.id { pos := 64, poison := if bad then some 0 else none }).closeOp o).endOp o.id (if bad then 9 else 0) 0

section
variable {s u : State} {o : Op} {bad : Bool}

theorem State.copied_opEnds (hfind : u.findOp o.id = some o) (hcad : u.cad = s.cad) : s.opEnds (u.copied o bad) o.id (if bad then 9 else 0) 0 :=
  State.endOp_opEnds (by simpa [State.findOp] using hfind) (by simpa using hcad) _ _

theorem State.copied_memory : u.memSame (u.copied o bad) ∧ (u.copied o bad).tiles = u.tiles ∧ (u.copied o bad).out = u.out := by
  refine ⟨?_, ?_, ?_⟩
  · simp [State.copied, State.memSame]
  · simp [State.copied]
  · simp [State.copied, State.endOp, State.closeOp_out]

variable (hlen : o.le 32 8 = 64)
include hlen

theorem Op.copyStep_row : o.copyStep 0 = 64 := by simp [Op.copyStep, hlen]

/-- After its only row a COPY ends. -/
theorem State.copyRun_ends (k : Nat) (host : List Byte) {x : OpProg} (hx : x = { pos := 64, poison := if bad then some 0 else none }) :
    State.copyRun o (k + 1) host (u.setProg o.id x) = u.copied o bad := by
  subst hx
  rw [State.copyRun]
  dsimp only
  rw [State.prog_setProg_same, if_pos hlen.le]
  cases bad <;> rfl

variable (hprog : s.prog o.id = {})
include hprog

/-- A row that comes from the host. -/
theorem State.copyRun_host (k : Nat) {host : List Byte} (hsrc : o.byte 40 = 0) (hhost : host.length = 64)
    (hput : s.copyPut o 0 { data := host, st := .local' } = (u, true)) : State.copyRun o (k + 2) host s = u.copied o false := by
  have hpiece : hostPiece (host.take 64) = { data := host, st := .local' } := by
    rw [List.take_of_length_le hhost.le, hostPiece, hhost]
    rfl
  rw [State.copyRun]
  dsimp only
  rw [hprog]
  dsimp only
  rw [Op.copyStep_row hlen, hlen, hsrc, hhost, hpiece, hput]
  exact State.copyRun_ends (bad := false) hlen k _ rfl

/-- A row that is too short on the host's side leaves the operation as it stands. -/
theorem State.copyRun_waits (k : Nat) {host : List Byte} (hsrc : o.byte 40 = 0) (hhost : host.length < 64) :
    State.copyRun o (k + 1) host s = s := by
  rw [State.copyRun]
  dsimp only
  rw [hprog]
  dsimp only
  rw [Op.copyStep_row hlen, hlen, hsrc]
  exact (if_neg (by decide)).trans ((if_pos rfl).trans (if_pos hhost))

/-- A row that comes from a tile's SRAM. -/
theorem State.copyRun_tile (k : Nat) (host : List Byte) (hsrc : o.byte 40 = 2) {t a : Nat} (hplace : copyPlace o.part 2 (o.le 16 8) = .sram t a)
    (hput : s.copyPut o 0 { data := s.sramBytes t a 64, st := if s.sramBad t a 64 then .poisoned else .local' } = (u, true)) :
    State.copyRun o (k + 2) host s = u.copied o (s.sramBad t a 64) := by
  have hpiece : s.sramPiece t a 64 = { data := s.sramBytes t a 64, st := if s.sramBad t a 64 then .poisoned else .local' } :=
    State.rowPiece_copied (s := s) (v := s) ⟨rfl, rfl, rfl, rfl, rfl⟩
  rw [State.copyRun]
  simp only [hprog, Op.copyStep_row hlen, hlen, hsrc, hplace, Place.at, State.opRead, State.opMark, Nat.add_zero, hpiece, hput]
  refine (if_neg (by decide)).trans ((if_neg (by decide)).trans ((if_pos trivial).trans ?_))
  exact State.copyRun_ends hlen k host (by cases s.sramBad t a 64 <;> rfl)

end

/-! ### Where the row goes -/

section
variable {s u : State} {t a : Nat} {l : List Byte} {bad : Bool}

/-- Bytes stored poisoned read poisoned, others do not (05 R165). -/
theorem State.storedTo.sramBad (h : s.storedTo u t a l bad) (hl : 0 < l.length) : u.sramBad t a l.length = bad := by
  obtain ⟨hbytes, -⟩ := h
  rw [Bool.eq_iff_iff, State.sramBad, List.any_eq_true]
  simp only [mem_granules, beq_iff_eq]
  constructor
  · rintro ⟨_, ⟨i, hi, rfl⟩, hpoisoned⟩
    rw [(hbytes i hi).2] at hpoisoned
    by_contra hbad
    simp [hbad] at hpoisoned
  · intro hbad
    exact ⟨_, ⟨0, hl, rfl⟩, (hbytes 0 hl).2.trans (if_pos hbad)⟩

theorem State.memSame.sramBytes (h : s.memSame u) (n : Nat) : u.sramBytes t a n = s.sramBytes t a n := by
  obtain ⟨hsram, -⟩ := h
  rw [State.sramBytes, hsram, State.sramBytes]

theorem State.memSame.sramBad (h : s.memSame u) (n : Nat) : u.sramBad t a n = s.sramBad t a n := by
  obtain ⟨-, hsramG, -⟩ := h
  unfold State.sramBad State.gst
  rw [hsramG]

/-- A row put into SRAM reads as it came; no output comes of it. -/
theorem State.sramPut_row (s : State) (t a : Nat) {p : Piece} (hp : p.data.length = 64) :
    (s.sramPut t a p).sramBytes t a 64 = p.data ∧ (s.sramPut t a p).sramBad t a 64 = decide (p.st = .poisoned) ∧ (s.sramPut t a p).out = s.out := by
  have hstored : s.storedTo (s.sramPut t a p) t a p.data (decide (p.st = .poisoned)) := by
    rw [State.sramPut_part _ _ _ (by omega)]
    exact State.unitWrite_storedTo ..
  refine ⟨State.sramBytes_of_getD hp fun i hi => ?_, ?_, ?_⟩
  · exact (hstored.1 i (by omega)).1
  · rw [← hp]
    exact hstored.sramBad (by omega)
  · rw [State.sramPut_part _ _ _ (by omega)]
    obtain ⟨m, hm⟩ := s.unitWrite_only t a p.data (decide (p.st = .poisoned))
    rw [hm]

variable {o : Op} (s) (p : Piece)

theorem State.copyPut_tile (hdst : o.byte 41 = 2) (hplace : copyPlace o.part 2 (o.le 24 8) = .sram t a) :
    s.copyPut o 0 p = (s.sramPut t a p, true) := by
  simp only [State.copyPut, hdst, hplace, Place.at, State.opWrite, Nat.add_zero]

theorem State.copyPut_host (hdst : o.byte 41 = 0) (hp : p.st = .local') :
    s.copyPut o 0 p = (s.emit (.hostWrite (.vf (Fin.ofNat 12 o.part)) (o.le 24 8) p.data), true) := by
  simp [State.copyPut, State.copyToHost, Piece.checked, hdst, hp]

theorem State.copyPut_object (hdst : o.byte 41 = 4) {x : MemObj} (hx : tfind (s.pt o.part).mem.objs (o.le 24 8 / 2 ^ 40 % 4096) = some x) :
    s.copyPut o 0 p = ({ s with flash := s.flash.writeN (x.block * 65536 + o.le 24 8 % 2 ^ 40) p.data }, true) := by
  simp only [State.copyPut, hdst, hx, Nat.add_zero]

end

/-! ### COPY (10 R344, R345) -/

section
variable {s : State} {o : Op} {host : List Byte} (hfind : s.findOp o.id = some o) (hst : o.st = .started) (hop : o.opcode = 0x20)
  (hnew : tfind s.opProg o.id = none)
include hfind hst hop hnew

theorem copy_empty (hlen : o.le 32 8 = 0) : Completes (.copy o.id host) s (fun u => s.opEnds u o.id 0 0 ∧ s.memSame u ∧ u.out = s.out) := by
  refine ⟨s.endOp o.id 0 0, congrArg Outcome.next ((State.onOp_started hfind hst 0x20 _ hop).trans ?_), State.endOp_opEnds hfind rfl _ _,
    ⟨rfl, rfl, rfl, rfl, rfl⟩, rfl⟩
  exact (if_neg (by simp [hnew])).trans (if_pos hlen)

theorem copy_rejected {st d : Nat} (hlen : o.le 32 8 ≠ 0) (hcheck : s.copyCheck o = some (st, d)) :
    Completes (.copy o.id host) s (fun u => s.opEnds u o.id st d ∧ s.memSame u ∧ u.out = s.out) := by
  refine ⟨s.rejectOp o.id st d, congrArg Outcome.next ((State.onOp_started hfind hst 0x20 _ hop).trans ?_), State.rejectOp_opEnds hfind _ _,
    ⟨rfl, rfl, rfl, rfl, rfl⟩, rfl⟩
  refine (if_neg (by simp [hnew])).trans ((if_neg hlen).trans ?_)
  rw [hcheck]

variable (hlen : o.le 32 8 = 64) (hcheck : s.copyCheck o = none)
include hlen hcheck

/-- A COPY of one row that passes its checks and may reach the host where it has to runs over its row. -/
theorem exec_copy_row (hfree : o.byte 40 ≠ 0 ∧ o.byte 41 ≠ 0 ∨ s.canWrite (.vf (Fin.ofNat 12 o.part)) = true) :
    exec (.copy o.id host) s = .next (State.copyRun o 3 host (s.setProg o.id {})) := by
  refine congrArg Outcome.next ((State.onOp_started hfind hst 0x20 _ hop).trans ?_)
  have hfuel : o.le 32 8 / 64 + 2 = 3 := by rw [hlen]
  refine (if_neg (by simp [hnew])).trans ((if_neg (by rw [hlen]; decide)).trans ?_)
  rw [hcheck, hfuel]
  refine if_neg ?_
  rintro ⟨hhost, hblocked⟩
  have hcan : (s.setProg o.id {}).canWrite (.vf (Fin.ofNat 12 o.part)) = false := by simpa using hblocked
  rcases hfree with ⟨hsrc, hdst⟩ | hfree
  · exact hhost.elim hsrc hdst
  · exact Bool.false_ne_true (hcan.symm.trans hfree)

/-- What a COPY of one row leaves once its row has been written: it ends, the rest is as the write left it. -/
theorem copy_written {u : State} {bad : Bool} (hrun : State.copyRun o 3 host (s.setProg o.id {}) = u.copied o bad) (hops : u.ops = s.ops)
    (hcad : u.cad = s.cad) (hfree : o.byte 40 ≠ 0 ∧ o.byte 41 ≠ 0 ∨ s.canWrite (.vf (Fin.ofNat 12 o.part)) = true) :
    Completes (.copy o.id host) s (fun w => s.opEnds w o.id (if bad then 9 else 0) 0 ∧ u.memSame w ∧ w.tiles = u.tiles ∧ w.out = u.out) :=
  ⟨u.copied o bad, (exec_copy_row hfind hst hop hnew hlen hcheck hfree).trans (congrArg Outcome.next hrun),
    State.copied_opEnds (by rwa [State.findOp, hops]) hcad, State.copied_memory⟩

theorem copy_betweenTiles {t a t' a' : Nat} (hsrc : o.byte 40 = 2) (hdst : o.byte 41 = 2)
    (hfrom : copyPlace o.part 2 (o.le 16 8) = .sram t a) (hto : copyPlace o.part 2 (o.le 24 8) = .sram t' a') :
    Completes (.copy o.id host) s (fun u => s.opEnds u o.id (if s.sramBad t a 64 then 9 else 0) 0 ∧ u.sramBytes t' a' 64 = s.sramBytes t a 64 ∧
      u.sramBad t' a' 64 = s.sramBad t a 64 ∧ u.tiles = s.tiles ∧ u.slices = s.slices ∧ u.flash = s.flash ∧ u.out = s.out) := by
  let v : State := s.setProg o.id {}
  let p : Piece := { data := s.sramBytes t a 64, st := if s.sramBad t a 64 then .poisoned else .local' }
  have hrun : State.copyRun o 3 host v = (v.sramPut t' a' p).copied o (s.sramBad t a 64) :=
    State.copyRun_tile hlen (s.prog_setProg_same o.id {}) 1 host hsrc hfrom (v.copyPut_tile p hdst hto)
  obtain ⟨hbytes, hbad, hout⟩ := v.sramPut_row t' a' (p := p) (Memory.readN_length _ _ _)
  obtain ⟨u, hu, hends, hmem, htiles, hout'⟩ := copy_written hfind hst hop hnew hlen hcheck hrun (by simp [v]) (by simp [v]) (.inl (by omega))
  obtain ⟨-, -, hslices, -, hflash⟩ := id hmem
  refine ⟨u, hu, hends, (hmem.sramBytes 64).trans hbytes, (hmem.sramBad 64).trans (hbad.trans ?_), by simpa [v] using htiles,
    by simpa [v] using hslices, by simpa [v] using hflash, hout'.trans hout⟩
  cases hsrcBad : s.sramBad t a 64 <;> simp [p, hsrcBad]

theorem copy_fromHost {t a : Nat} (hsrc : o.byte 40 = 0) (hdst : o.byte 41 = 2) (hcan : s.canWrite (.vf (Fin.ofNat 12 o.part)) = true)
    (hhost : host.length = 64) (hto : copyPlace o.part 2 (o.le 24 8) = .sram t a) :
    Completes (.copy o.id host) s (fun u => s.opEnds u o.id 0 0 ∧ u.sramBytes t a 64 = host ∧ u.tiles = s.tiles ∧ u.slices = s.slices ∧
      u.flash = s.flash ∧ u.out = s.out) := by
  let v : State := s.setProg o.id {}
  have hrun : State.copyRun o 3 host v = (v.sramPut t a { data := host, st := .local' }).copied o false :=
    State.copyRun_host hlen (s.prog_setProg_same o.id {}) 1 hsrc hhost (v.copyPut_tile _ hdst hto)
  obtain ⟨hbytes, -, hout⟩ := v.sramPut_row t a (p := { data := host, st := .local' }) hhost
  obtain ⟨u, hu, hends, hmem, htiles, hout'⟩ := copy_written hfind hst hop hnew hlen hcheck hrun (by simp [v]) (by simp [v]) (.inr hcan)
  obtain ⟨-, -, hslices, -, hflash⟩ := id hmem
  exact ⟨u, hu, hends, (hmem.sramBytes 64).trans hbytes, by simpa [v] using htiles, by simpa [v] using hslices, by simpa [v] using hflash,
    hout'.trans hout⟩

/-- Without the bytes of its row from the host a COPY goes on (10 R344). -/
theorem copy_waitsForHost (hsrc : o.byte 40 = 0) (hcan : s.canWrite (.vf (Fin.ofNat 12 o.part)) = true) (hhost : host.length < 64) :
    Completes (.copy o.id host) s (fun u => s.memSame u ∧ u.ops = s.ops ∧ tfind u.opProg o.id = some {}) :=
  ⟨s.setProg o.id {}, (exec_copy_row hfind hst hop hnew hlen hcheck (.inr hcan)).trans (congrArg Outcome.next
    (State.copyRun_waits hlen (s.prog_setProg_same o.id {}) 2 hsrc hhost)), ⟨rfl, rfl, rfl, rfl, rfl⟩, rfl, tfind_tset_same ..⟩

theorem copy_toHost {t a : Nat} (hsrc : o.byte 40 = 2) (hdst : o.byte 41 = 0) (hcan : s.canWrite (.vf (Fin.ofNat 12 o.part)) = true)
    (hfrom : copyPlace o.part 2 (o.le 16 8) = .sram t a) (hclean : s.sramBad t a 64 = false) :
    Completes (.copy o.id host) s (fun u => s.opEnds u o.id 0 0 ∧ s.memSame u ∧
      u.out = .hostWrite (.vf (Fin.ofNat 12 o.part)) (o.le 24 8) (s.sramBytes t a 64) :: s.out) := by
  let v : State := s.setProg o.id {}
  let w : State := v.emit (.hostWrite (.vf (Fin.ofNat 12 o.part)) (o.le 24 8) (s.sramBytes t a 64))
  have hrun : State.copyRun o 3 host v = w.copied o false := by
    rw [← hclean]
    exact State.copyRun_tile hlen (s.prog_setProg_same o.id {}) 1 host hsrc hfrom (v.copyPut_host _ hdst (if_neg (Bool.not_eq_true _ ▸ hclean)))
  obtain ⟨u, hu, hends, hmem, -, hout⟩ := copy_written hfind hst hop hnew hlen hcheck hrun rfl rfl (.inr hcan)
  exact ⟨u, hu, hends, hmem, hout⟩

theorem copy_intoObject {x : MemObj} (hsrc : o.byte 40 = 0) (hdst : o.byte 41 = 4) (hcan : s.canWrite (.vf (Fin.ofNat 12 o.part)) = true)
    (hhost : host.length = 64) (hx : tfind (s.pt o.part).mem.objs (o.le 24 8 / 2 ^ 40 % 4096) = some x) :
    Completes (.copy o.id host) s (fun u => s.opEnds u o.id 0 0 ∧ u.flash.readN (x.block * 65536 + o.le 24 8 % 2 ^ 40) 64 = host ∧
      u.sram = s.sram ∧ u.slices = s.slices) := by
  let v : State := s.setProg o.id {}
  let w : State := { v with flash := v.flash.writeN (x.block * 65536 + o.le 24 8 % 2 ^ 40) host }
  have hrun : State.copyRun o 3 host v = w.copied o false :=
    State.copyRun_host hlen (s.prog_setProg_same o.id {}) 1 hsrc hhost (v.copyPut_object _ hdst hx)
  obtain ⟨u, hu, hends, ⟨hsram, -, hslices, -, hflash⟩, -⟩ := copy_written hfind hst hop hnew hlen hcheck hrun rfl rfl (.inr hcan)
  refine ⟨u, hu, hends, ?_, hsram, hslices⟩
  rw [hflash, ← hhost]
  exact Memory.readN_writeN_same _ _ _

end

/-! ### The last page of a TIER_PREFETCH or TIER_RELEASE (10 R346) -/

theorem State.endOp_part (s : State) (i status detail : Nat) : (s.endOp i status detail).part = s.part := rfl

/-- A TIER operation that has gone through its pages: it lets go of what it held, OVER follows, and it ends with its count. -/
def State.tierEnds (u : State) (o : Op) (count : Nat) : State := ((u.closeOp o).quotaCheck o.part).endOp o.id 0 count

section
variable {s u : State} {o : Op} {count : Nat}

theorem State.tierEnds_opEnds (hfind : s.findOp o.id = some o) (hops : u.ops = s.ops) (hcad : u.cad = s.cad) :
    s.opEnds (u.tierEnds o count) o.id 0 count :=
  State.endOp_opEnds (by simpa [State.findOp, hops] using hfind) (by simpa using hcad) _ _

theorem State.tierEnds_memSame : u.memSame (u.tierEnds o count) := by simp [State.memSame, State.tierEnds]

theorem State.tierEnds_pt (n : Nat) : (u.tierEnds o count).pt n = ((u.closeOp o).quotaCheck o.part).pt n := by
  rw [State.tierEnds, State.pt, State.endOp_part, State.pt]

theorem State.tierEnds_pte (n page : Nat) : (u.tierEnds o count).pte n page = u.pte n page := by
  rw [State.pte, State.tierEnds_pt, ← State.pte, State.quotaCheck_pte, State.closeOp_pte]

theorem State.tierEnds_discarded (n : Nat) : ((u.tierEnds o count).pt n).mem.discarded = (u.pt n).mem.discarded := by
  rw [State.tierEnds_pt, State.quotaCheck_mem _ o.part n PartMem.discarded, State.closeOp_mem _ n PartMem.discarded]

/-- A command that ends a TIER operation leaves the page table as its pages left it. -/
theorem tier_completes {c : Instr} {w : State} {x : OpProg} (hexec : exec c s = .next ((w.setProg o.id x).tierEnds o count))
    (hfind : s.findOp o.id = some o) (hops : w.ops = s.ops) (hcad : w.cad = s.cad) (hmem : s.memSame w) :
    Completes c s (fun u => s.opEnds u o.id 0 count ∧ s.memSame u ∧ (∀ n page, u.pte n page = w.pte n page) ∧
      ∀ n, (u.pt n).mem.discarded = (w.pt n).mem.discarded) :=
  ⟨_, hexec, State.tierEnds_opEnds (u := w.setProg o.id x) hfind hops hcad, hmem.trans (State.tierEnds_memSame (u := w.setProg o.id x)),
    State.tierEnds_pte (u := w.setProg o.id x), State.tierEnds_discarded (u := w.setProg o.id x)⟩

variable (hone : o.le 24 4 = 1)
include hone

theorem State.prefetchRun_ends (k : Nat) {x : OpProg} (hx : x.pos = 1) :
    State.prefetchRun o (k + 1) (u.setProg o.id x) = (u.setProg o.id x).tierEnds o x.count := by
  rw [State.prefetchRun]
  simp only [State.prog_setProg_same, hone, hx, le_refl, if_true]
  rfl

theorem State.releaseRun_ends (k : Nat) {x : OpProg} (hx : x.pos = 1) :
    State.releaseRun o (k + 1) (u.setProg o.id x) = (u.setProg o.id x).tierEnds o x.count := by
  rw [State.releaseRun]
  simp only [State.prog_setProg_same, hone, hx, le_refl, if_true]
  rfl

end

/-! ### TIER_PREFETCH (10 R346) -/

/-- A resident page with all its chunks is ready at once (10 R346). -/
theorem State.prefetchPage_ready {s : State} {n page : Nat} {e : Pte} (hhome : s.homeOf n page = .obj e) (hppa : e.ppa ≠ none)
    (hchunks : e.chunks = BitVec.allOnes 32) (op : Nat) (protect : List Nat) : s.prefetchPage n page op protect = .ready s := by
  have hsome : e.ppa.isSome = true := Option.isSome_iff_ne_none.2 hppa
  have hmissing : (List.range 32).filter (fun c => !e.chunks.getLsbD c) = [] := by rw [hchunks]; decide
  have hall : ((s.pte n page).any fun x => x.chunks == BitVec.allOnes 32) = true := by
    simp [State.pte_of_homeOf (.inl hhome), hchunks]
  unfold State.prefetchPage
  simp only [hhome, hsome, if_true, hmissing, List.foldl_nil, hall]

theorem State.pinPage_some {s : State} {n page : Nat} {e : Pte} (hpte : s.pte n page = some e) :
    s.pinPage n page = s.setPte n page { e with pin := true } := by
  rw [State.pinPage, hpte]

/-- A resident page of a TIER_PREFETCH takes its PIN and counts as none that was made resident. -/
theorem State.prefetchRun_resident {v : State} {o : Op} {e : Pte} (hprog : v.prog o.id = {}) (hone : o.le 24 4 = 1)
    (hhome : v.homeOf o.part (o.le 16 8 / pageSize) = .obj e) (hppa : e.ppa ≠ none) (hchunks : e.chunks = BitVec.allOnes 32) :
    State.prefetchRun o 2 v = ((if o.byte 28 % 2 = 1 then v.setPte o.part (o.le 16 8 / pageSize) { e with pin := true } else v).setProg o.id
      { pos := 1 }).tierEnds o 0 := by
  have hthere : v.missingPage o.part (o.le 16 8 / pageSize) = false := by
    have hsome : e.ppa.isNone = false := Option.isNone_eq_false_iff.2 (Option.isSome_iff_ne_none.2 hppa)
    simp [State.missingPage, hhome, hsome, hchunks]
  rw [← State.pinPage_some (State.pte_of_homeOf (.inl hhome)), State.prefetchRun]
  simp only [hprog, hone, Nat.add_zero, hthere, State.prefetchPage_ready hhome hppa hchunks, Bool.false_eq_true, false_and, if_false]
  exact (if_neg (by decide)).trans (State.prefetchRun_ends hone 0 rfl)

section
variable {s : State} {o : Op} (hfind : s.findOp o.id = some o) (hst : o.st = .started) (hop : o.opcode = 0x21) (hnew : tfind s.opProg o.id = none)
include hfind hst hop hnew

theorem tierPrefetch_unmapped (h : ∃ k, k < o.le 24 4 ∧ s.mapped o.part (o.le 16 8 / pageSize + k) = false) :
    Completes (.tierPrefetch o.id) s (fun u => s.opEnds u o.id 2 0 ∧ s.memSame u ∧ u.part = s.part) := by
  obtain ⟨k, hk, hunmapped⟩ := h
  refine ⟨s.rejectOp o.id 2 0, congrArg Outcome.next ((State.onOp_started hfind hst 0x21 _ hop).trans ?_), State.rejectOp_opEnds hfind _ _,
    ⟨rfl, rfl, rfl, rfl, rfl⟩, rfl⟩
  exact (if_neg (by simp [hnew])).trans (if_pos (List.any_eq_true.2 ⟨k, List.mem_range.2 hk, by simp [hunmapped]⟩))

theorem tierPrefetch_resident {e : Pte} (hone : o.le 24 4 = 1) (hhome : s.homeOf o.part (o.le 16 8 / pageSize) = .obj e) (hppa : e.ppa ≠ none)
    (hchunks : e.chunks = BitVec.allOnes 32) : Completes (.tierPrefetch o.id) s (fun u => s.opEnds u o.id 0 0 ∧ s.memSame u ∧
      u.pte o.part (o.le 16 8 / pageSize) = some (if o.byte 28 % 2 = 1 then { e with pin := true } else e)) := by
  have hpte : s.pte o.part (o.le 16 8 / pageSize) = some e := State.pte_of_homeOf (.inl hhome)
  have hmapped : ¬ (List.range (o.le 24 4)).any (fun i => !s.mapped o.part (o.le 16 8 / pageSize + i)) = true := by
    simp [hone, State.mapped, hhome]
  have hexec : exec (.tierPrefetch o.id) s = .next (State.prefetchRun o (o.le 24 4 + 1) (s.setProg o.id {})) :=
    congrArg Outcome.next ((State.onOp_started hfind hst 0x21 _ hop).trans ((if_neg (by simp [hnew])).trans (if_neg hmapped)))
  rw [hone, State.prefetchRun_resident (s.prog_setProg_same o.id {}) hone hhome hppa hchunks] at hexec
  obtain ⟨u, hu, hends, hmem, hpte', -⟩ := tier_completes hexec hfind (by split <;> rfl) (by split <;> rfl)
    (by split <;> exact ⟨rfl, rfl, rfl, rfl, rfl⟩)
  refine ⟨u, hu, hends, hmem, (hpte' _ _).trans ?_⟩
  split
  · exact State.pte_setPte_same ..
  · exact hpte

end

/-! ### TIER_RELEASE (10 R346) -/

section
variable {s : State} {o : Op} (hfind : s.findOp o.id = some o) (hst : o.st = .started) (hop : o.opcode = 0x22) (hnew : tfind s.opProg o.id = none)
  (hone : o.le 24 4 = 1)
include hfind hst hop hnew hone

/-- The run of a TIER_RELEASE over its one page, when that leads to `w` with `c` slots returned. -/
theorem exec_tierRelease {w : State} {c : Nat}
    (hstep : State.releaseRun o 2 (s.setProg o.id {}) = State.releaseRun o 1 (w.setProg o.id { pos := 1, count := c })) :
    exec (.tierRelease o.id) s = .next ((w.setProg o.id { pos := 1, count := c }).tierEnds o c) := by
  have hfirst : (if (tfind s.opProg o.id).isSome = true then s else s.setProg o.id {}) = s.setProg o.id {} := if_neg (by simp [hnew])
  refine congrArg Outcome.next ((State.onOp_started hfind hst 0x22 _ hop).trans ?_)
  rw [hone, hfirst]
  exact hstep.trans (State.releaseRun_ends hone 0 rfl)

variable {e : Pte}

theorem tierRelease_unpins (hhome : s.homeOf o.part (o.le 16 8 / pageSize) = .obj e) (hflags : o.byte 28 = 1) :
    Completes (.tierRelease o.id) s (fun u => s.opEnds u o.id 0 0 ∧ s.memSame u ∧ u.pte o.part (o.le 16 8 / pageSize) = some { e with pin := false }) := by
  let page := o.le 16 8 / pageSize
  let w : State := ((s.setProg o.id {}).setPte o.part page { e with pin := false }).updP o.part (fun p => { p with wgt := p.wgt.unpin page })
  have hstep : State.releaseRun o 2 (s.setProg o.id {}) = State.releaseRun o 1 (w.setProg o.id { pos := 1, count := 0 }) := by
    rw [State.releaseRun]
    simp only [State.prog_setProg_same, hone, Nat.add_zero, hflags, show (s.setProg o.id {}).homeOf o.part (o.le 16 8 / pageSize) = .obj e from hhome]
    exact (if_neg (by decide)).trans (if_pos (by decide))
  obtain ⟨u, hu, hends, hmem, hpte, -⟩ :=
    tier_completes (exec_tierRelease hfind hst hop hnew hone hstep) hfind rfl rfl ⟨rfl, rfl, rfl, rfl, rfl⟩
  refine ⟨u, hu, hends, hmem, (hpte _ page).trans ?_⟩
  exact (State.pte_updP _ _ page (fun p => { p with wgt := p.wgt.unpin page }) rfl).trans (State.pte_setPte_same ..)

theorem tierRelease_discards (hhome : s.homeOf o.part (o.le 16 8 / pageSize) = .obj e) (hflags : o.byte 28 = 0) (hppa : e.ppa ≠ none)
    (hidle : s.pageBusy o.part (o.le 16 8 / pageSize) = false) : Completes (.tierRelease o.id) s (fun u => s.opEnds u o.id 0 1 ∧
      u.pte o.part (o.le 16 8 / pageSize) = some { e with ppa := none, chunks := 0, pin := false } ∧
      (u.pt o.part).mem.discarded = (s.pt o.part).mem.discarded + 1) := by
  let page := o.le 16 8 / pageSize
  let v : State := s.setProg o.id {}
  have hthere : e.ppa.isNone = false := Option.isNone_eq_false_iff.2 (Option.isSome_iff_ne_none.2 hppa)
  have hstep : State.releaseRun o 2 v = State.releaseRun o 1 ((v.discardCopy o.part page).setProg o.id { pos := 1, count := 1 }) := by
    rw [State.releaseRun]
    simp only [v, State.prog_setProg_same, hone, Nat.add_zero, hflags, hthere,
      show (s.setProg o.id {}).homeOf o.part (o.le 16 8 / pageSize) = .obj e from hhome,
      show (s.setProg o.id {}).pageBusy o.part (o.le 16 8 / pageSize) = false from hidle]
    exact (if_neg (by decide)).trans ((if_neg (by decide)).trans rfl)
  obtain ⟨hgone, hcount⟩ := State.discardCopy_resident (s := v) (State.pte_of_homeOf (.inl hhome)) hppa
  obtain ⟨u, hu, hends, -, hpte, hdiscarded⟩ :=
    tier_completes (exec_tierRelease hfind hst hop hnew hone hstep) hfind (by simp [v]) (by simp [v]) (by simp [State.memSame, v])
  exact ⟨u, hu, hends, (hpte _ page).trans hgone, (hdiscarded _).trans hcount⟩

theorem tierRelease_drops (hhome : s.homeOf o.part (o.le 16 8 / pageSize) = .anon e) (hflags : o.byte 28 = 2) (hppa : e.ppa ≠ none) :
    Completes (.tierRelease o.id) s (fun u => s.opEnds u o.id 0 1 ∧
      u.pte o.part (o.le 16 8 / pageSize) = some { e with ppa := none, lost := false }) := by
  obtain ⟨p, hp⟩ := Option.ne_none_iff_exists'.1 hppa
  let page := o.le 16 8 / pageSize
  let v : State := s.setProg o.id {}
  let w : State := (v.setPte o.part page { e with ppa := none, lost := false }).freeSlot p
  have hdrop : v.dropWritten o.part page e = (w, 1) := by
    unfold State.dropWritten
    rw [hp]
  have hstep : State.releaseRun o 2 v = State.releaseRun o 1 (w.setProg o.id { pos := 1, count := 1 }) := by
    rw [State.releaseRun]
    simp only [v, State.prog_setProg_same, hone, Nat.add_zero, hflags,
      show (s.setProg o.id {}).homeOf o.part (o.le 16 8 / pageSize) = .anon e from hhome]
    refine (if_neg (by decide)).trans ((if_pos (by decide)).trans ?_)
    rw [hdrop]
    rfl
  obtain ⟨u, hu, hends, -, hpte, -⟩ :=
    tier_completes (exec_tierRelease hfind hst hop hnew hone hstep) hfind rfl rfl ⟨rfl, rfl, rfl, rfl, rfl⟩
  exact ⟨u, hu, hends, (hpte _ page).trans (State.pte_setPte_same ..)⟩

theorem tierRelease_keepsWritten (hhome : s.homeOf o.part (o.le 16 8 / pageSize) = .anon e) (hflags : o.byte 28 = 0) :
    Completes (.tierRelease o.id) s (fun u => s.opEnds u o.id 0 0 ∧ u.pte o.part (o.le 16 8 / pageSize) = s.pte o.part (o.le 16 8 / pageSize)) := by
  let v : State := s.setProg o.id {}
  have hstep : State.releaseRun o 2 v = State.releaseRun o 1 (v.setProg o.id { pos := 1, count := 0 }) := by
    rw [State.releaseRun]
    simp only [v, State.prog_setProg_same, hone, Nat.add_zero, hflags,
      show (s.setProg o.id {}).homeOf o.part (o.le 16 8 / pageSize) = .anon e from hhome]
    exact (if_neg (by decide)).trans (if_neg (by decide))
  obtain ⟨u, hu, hends, -, hpte, -⟩ :=
    tier_completes (exec_tierRelease hfind hst hop hnew hone hstep) hfind rfl rfl ⟨rfl, rfl, rfl, rfl, rfl⟩
  exact ⟨u, hu, hends, hpte _ _⟩

end

/-- Settles O42: a COPY of one row by where it comes from and where it goes, a TIER operation of one page by the page's home and its flags. -/
theorem copiesAndTierOperationsEnd : Obligations.CopiesAndTierOperationsEnd := by
  unfold Obligations.CopiesAndTierOperationsEnd
  intro s i host o hfind hst ep sv dv place src dst
  obtain ⟨-, rfl⟩ := State.findOp_spec hfind
  refine ⟨fun hop hnew => ⟨copy_empty hfind hst hop hnew, fun st d => copy_rejected hfind hst hop hnew, fun hlen hcheck => ?_⟩, ?_, ?_⟩
  · exact ⟨fun hsrc hdst => copy_betweenTiles hfind hst hop hnew hlen hcheck hsrc hdst rfl rfl,
      fun hsrc hdst hcan hhost => copy_fromHost hfind hst hop hnew hlen hcheck hsrc hdst hcan hhost rfl,
      fun hsrc _ hcan hhost => copy_waitsForHost hfind hst hop hnew hlen hcheck hsrc hcan hhost,
      fun hsrc hdst hcan hclean => copy_toHost hfind hst hop hnew hlen hcheck hsrc hdst hcan rfl hclean,
      fun x hsrc hdst hcan hhost hx => copy_intoObject hfind hst hop hnew hlen hcheck hsrc hdst hcan hhost hx⟩
  · exact fun hop hnew => ⟨tierPrefetch_unmapped hfind hst hop hnew, fun e => tierPrefetch_resident hfind hst hop hnew⟩
  · exact fun hop hnew hone => ⟨fun e => tierRelease_unpins hfind hst hop hnew hone, fun e => tierRelease_discards hfind hst hop hnew hone,
      fun e => tierRelease_drops hfind hst hop hnew hone, fun e => tierRelease_keepsWritten hfind hst hop hnew hone⟩

end Sys2Proof.Machine
end

section
/-! PROOFS. O43, first part: the split of the slots, the quotas, and the MEM_ messages on a page table (10 R317, R324, R333, R347). -/
namespace Sys2Proof.Machine

open Host

/-! ### The split of the slots and the quotas (10 R317, R333) -/

theorem State.priv_eq_iff (s : State) (k : Fin 4) : s.priv = .pf k ↔ k.val = s.sec.privLink.toNat := by
  have hlt : s.sec.privLink.toNat < 4 := s.sec.privLink.isLt
  rw [State.priv, Ep.pf.injEq, Fin.ext_iff, Fin.val_ofNat, Nat.mod_eq_of_lt hlt, eq_comm]

theorem field_eq_div (v : W64) (hi lo : Nat) : field v hi lo = v.toNat / 2 ^ lo % 2 ^ (hi + 1 - lo) := by
  rw [field, Nat.shiftRight_eq_div_pow]

section
variable {s : State} {k : Fin 4} {n : Fin 12} {v : W64}

/-- Writes by another function, or for a partition that is FREE, do nothing. -/
theorem quotaWrites_refused (h : s.priv ≠ .pf k ∨ (s.pt n).state = .free) :
    exec (.privateSlotsWrite k n v) s = .next s ∧ ∀ t3, exec (.quotaWrite k n t3 v) s = .next s := by
  have hrefused : k.val ≠ s.sec.privLink.toNat ∨ (s.pt n).state.isFree = true := by rwa [PartState.isFree_iff, ne_eq, ← s.priv_eq_iff]
  exact ⟨congrArg Outcome.next (if_pos (hrefused.imp_right .inl)), fun _ => congrArg Outcome.next (if_pos hrefused)⟩

theorem privateSlotsWrite_tooMany (h : 384 < v.toNat % 512) : exec (.privateSlotsWrite k n v) s = .next s :=
  congrArg Outcome.next (if_pos (.inr (.inr h)))

variable (hpriv : s.priv = .pf k) (hheld : (s.pt n).state ≠ .free)
include hpriv hheld

theorem quotaWrite_guard : ¬ (k.val ≠ s.sec.privLink.toNat ∨ (s.pt n).state.isFree = true) := by
  rw [PartState.isFree_iff, ne_eq, ← s.priv_eq_iff]
  exact fun h => h.elim (· hpriv) hheld

section
variable (hslots : v.toNat % 512 ≤ 384)
include hslots

theorem privateSlotsWrite_guard : ¬ (k.val ≠ s.sec.privLink.toNat ∨ (s.pt n).state.isFree = true ∨ 384 < field v 8 0) := by
  have hguard := quotaWrite_guard hpriv hheld
  have hfield : ¬ 384 < field v 8 0 := not_lt.2 hslots
  tauto

theorem privateSlotsWrite_lowers (hless : v.toNat % 512 ≤ (s.pt n).mem.privateSlots) :
    exec (.privateSlotsWrite k n v) s = .next (s.updM n (fun x => { x with privateSlots := v.toNat % 512, refused := false })) :=
  congrArg Outcome.next ((if_neg (privateSlotsWrite_guard hpriv hheld hslots)).trans (if_pos hless))

variable (hmore : (s.pt n).mem.privateSlots < v.toNat % 512)
include hmore

theorem privateSlotsWrite_refuses (hused : (s.allocatedPpas n).any (withdrawn (s.pt n).mem.privateSlots (v.toNat % 512)) = true) :
    exec (.privateSlotsWrite k n v) s = .next (s.updM n (fun x => { x with refused := true })) :=
  congrArg Outcome.next ((if_neg (privateSlotsWrite_guard hpriv hheld hslots)).trans ((if_neg (not_le.2 hmore)).trans (if_pos hused)))

theorem privateSlotsWrite_raises (hunused : (s.allocatedPpas n).any (withdrawn (s.pt n).mem.privateSlots (v.toNat % 512)) = false) :
    Completes (.privateSlotsWrite k n v) s (fun u => (u.pt n).mem.privateSlots = v.toNat % 512 ∧ (u.pt n).mem.refused = false) := by
  refine ⟨_, congrArg Outcome.next ((if_neg (privateSlotsWrite_guard hpriv hheld hslots)).trans ((if_neg (not_le.2 hmore)).trans
    (if_neg (Bool.eq_false_iff.1 hunused)))), ?_⟩
  beta_reduce
  rw [State.quotaCheck_mem _ n n PartMem.privateSlots, State.quotaCheck_mem _ n n PartMem.refused, State.mem_updM_same]
  exact ⟨rfl, rfl⟩

end

theorem quotaWrite_t3 : Completes (.quotaWrite k n true v) s (fun u => (u.pt n).mem.quotaT3 = v.toNat % 2 ^ 23 ∧
    (u.pt n).mem.pages = (s.pt n).mem.pages ∧ (u.pt n).mem.quotaT1 = (s.pt n).mem.quotaT1) := by
  refine ⟨_, congrArg Outcome.next ((if_neg (quotaWrite_guard hpriv hheld)).trans (if_pos rfl)), ?_⟩
  beta_reduce
  rw [State.quotaCheck_mem _ n n PartMem.quotaT3, State.quotaCheck_mem _ n n PartMem.pages, State.quotaCheck_mem _ n n PartMem.quotaT1,
    State.mem_updM_same]
  exact ⟨rfl, rfl, rfl⟩

theorem quotaWrite_t1t2 : Completes (.quotaWrite k n false v) s (fun u => (u.pt n).mem.quotaT1 = v.toNat % 2 ^ 24 ∧
    (u.pt n).mem.quotaT3 = (s.pt n).mem.quotaT3 ∧
    (u.pt n).mem.quotaT2 = (if s.hasFlash then v.toNat / 2 ^ 24 % 2 ^ 31 else (s.pt n).mem.quotaT2)) := by
  refine ⟨_, congrArg Outcome.next ((if_neg (quotaWrite_guard hpriv hheld)).trans (if_neg Bool.false_ne_true)), ?_⟩
  beta_reduce
  rw [State.quotaSettle_mem _ n n PartMem.quotaT1, State.quotaSettle_mem _ n n PartMem.quotaT3, State.quotaSettle_mem _ n n PartMem.quotaT2,
    State.mem_updM_same, field_eq_div v 54 24]
  exact ⟨rfl, rfl, rfl⟩

end

/-! ### A message that is answered (10 R347) -/

theorem State.OnlyTells.memSame {s u : State} (h : u.OnlyTells s) : s.memSame u :=
  ⟨h.field State.sram, h.field State.sramG, h.field State.slices, h.field State.sliceG, h.field State.flash⟩

theorem State.OnlyTells.mem {s u : State} (h : u.OnlyTells s) (n : Nat) : (u.pt n).mem = (s.pt n).mem := h.pt_field n Partition.mem

theorem State.OnlyTells.pte {s u : State} (h : u.OnlyTells s) (n page : Nat) : u.pte n page = s.pte n page :=
  State.pte_of_pages (congrArg PartMem.pages (h.mem n)) page

section
variable {s v : State} {id result : Nat} {m : Msg}

/-- An effect on a taken message that leaves mailboxes, links and the tick is answered as from the state before. -/
theorem State.repliesAs_taken (id : Nat) (m : Msg) (hstanding : v.standing = s.standing) (hfw : v.fw = (s.takeMsg id m).fw) (hcad : v.cad = s.cad) : v.repliesAs s :=
  State.repliesAs_of_standing hstanding (congrArg (·.minor) hfw) hcad

/-- A message SCH can handle, whose handler answers from `v`, leaves `v` with the reply. -/
theorem State.handle_answers {f : State → State} (h : s.canHandle .sch id) (hv : f (s.takeMsg id m) = v.reply m id 2 result [])
    (hreplies : v.repliesAs s) : ∃ u, s.handle .sch id m f = .next u ∧ u.OnlyTells v ∧ s.replied u m id 2 result [] :=
  State.handle_completes h hv ⟨State.reply_tells .., State.reply_replied hreplies ..⟩

variable {n : Nat} {f : State → Nat → State} (hn : m.part = some n)
include hn

theorem State.memTarget_part (t : State) : t.memTarget m = .inr n := by rw [State.memTarget, hn]

/-- The same for a message of a partition's own function. -/
theorem State.memMsg_answers (h : s.canHandle .sch id) (hv : f (s.takeMsg id m) n = v.reply m id 2 result []) (hreplies : v.repliesAs s) :
    ∃ u, s.memMsg m id f = .next u ∧ u.OnlyTells v ∧ s.replied u m id 2 result [] :=
  State.handle_answers h (by rw [State.memTarget_part hn]; exact hv) hreplies

/-- A message of a partition that is answered with a result alone. -/
theorem State.memMsg_refuses (h : s.canHandle .sch id) (hv : f (s.takeMsg id m) n = (s.takeMsg id m).reply m id 2 result []) :
    ∃ u, s.memMsg m id f = .next u ∧ (u.pt n).mem = (s.pt n).mem ∧ s.replied u m id 2 result [] := by
  obtain ⟨u, hu, htells, hreplied⟩ := State.memMsg_answers hn h hv (s.takeMsg_repliesAs id m)
  exact ⟨u, hu, htells.mem n, hreplied⟩

end

/-! ### MEM_MAP (10 R324) -/

/-- A table with `count` entries from `page` set. -/
theorem tfind_newEntries (f : Nat → Pte) (page count : Nat) (l : List (Nat × Pte)) (j : Nat) :
    tfind ((newEntries page count f).foldl (fun l (e : Nat × Pte) => tset l e.1 e.2) l) j =
      if page ≤ j ∧ j < page + count then some (f (j - page)) else tfind l j := by
  unfold newEntries
  induction count with
  | zero => simp [show ¬ (page ≤ j ∧ j < page) by omega]
  | succ count ih =>
    rw [List.range_succ, List.map_append, List.foldl_append]
    show tfind (tset _ (page + count) (f count)) j = _
    by_cases hj : j = page + count
    · subst hj
      rw [tfind_tset_same, if_pos (by omega), Nat.add_sub_cancel_left]
    · rw [tfind_tset_other _ _ _ _ hj, ih]
      exact if_congr (by omega) rfl rfl

/-- The pages of a range take these entries, the others stay; no memory changes. -/
def State.pagesTake (s u : State) (n base count : Nat) (f : Nat → Pte) : Prop :=
  (∀ i, i < count → u.pte n (base + i) = some (f i)) ∧ (∀ j, (j < base ∨ base + count ≤ j) → u.pte n j = s.pte n j) ∧ s.memSame u

/-- The partition with `count` entries mapped from `base`, and OVER as it follows. -/
def State.mapPages (s : State) (n base count : Nat) (f : Nat → Pte) : State :=
  (s.updM n (fun x => { x with pages := (newEntries base count f).foldl (fun l (e : Nat × Pte) => tset l e.1 e.2) x.pages })).quotaCheck n

theorem State.mapPages_pte (s : State) (n base count : Nat) (f : Nat → Pte) (j : Nat) :
    (s.mapPages n base count f).pte n j = if base ≤ j ∧ j < base + count then some (f (j - base)) else s.pte n j := by
  rw [State.mapPages, State.quotaCheck_pte, State.pte, State.mem_updM_same]
  exact tfind_newEntries ..

theorem State.mapPages_takes (s : State) (n base count : Nat) (f : Nat → Pte) : s.pagesTake (s.mapPages n base count f) n base count f := by
  refine ⟨fun i hi => ?_, fun j hj => ?_, by simp [State.memSame, State.mapPages]⟩
  · rw [State.mapPages_pte, if_pos (by omega), Nat.add_sub_cancel_left]
  · rw [State.mapPages_pte, if_neg (by omega)]

/-- The pages of a MEM_MAP are free in the range, and there is room for their entries. -/
def State.mapFits (s : State) (m : Msg) (n : Nat) : Prop :=
  m.u32 16 ≠ 0 ∧ m.u64 8 + m.u32 16 ≤ 2 ^ 27 ∧ (s.pt n).mem.pagesMeet (m.u64 8) (m.u32 16) = false ∧
    s.grantOverlaps n (m.u64 8) (m.u32 16) = false ∧ (s.pt n).mirror.reserves (m.u64 8) (m.u32 16) = false ∧
    (s.pt n).mem.pages.length + m.u32 16 ≤ 4194304

/-- Entries put into the range of a taken message stand as the message's own state had them put. -/
theorem State.pagesTake_of_taken {s u : State} {id : Nat} {m : Msg} {n base count : Nat} {f : Nat → Pte}
    (h : u.OnlyTells ((s.takeMsg id m).mapPages n base count f)) : s.pagesTake u n base count f := by
  obtain ⟨hin, hout, hmem⟩ := (s.takeMsg id m).mapPages_takes n base count f
  refine ⟨fun i hi => (h.pte n _).trans (hin i hi), fun j hj => (h.pte n j).trans (hout j hj), ?_⟩
  exact State.memSame.trans (State.memSame.trans ⟨rfl, rfl, rfl, rfl, rfl⟩ hmem) h.memSame

theorem State.mapPages_repliesAs {s : State} {id : Nat} {m : Msg} {n base count : Nat} {f : Nat → Pte} :
    ((s.takeMsg id m).mapPages n base count f).repliesAs s :=
  State.repliesAs_taken id m ((State.quotaCheck_standing _ _).trans (State.updM_standing _ _ _)) (by simp [State.mapPages]) (by simp [State.mapPages])

section
variable {s : State} {m : Msg} {n : Nat}

/-- The pages of a MEM_MAP that fits pass its checks on the range. -/
theorem memMap_guard (hfits : s.mapFits m n) : ¬ (m.u32 16 = 0 ∨ 2 ^ 27 < m.u64 8 + m.u32 16 ∨
    (s.pt n).mem.pagesMeet (m.u64 8) (m.u32 16) = true ∨ (s.takeMsg 0x0A01 m).grantOverlaps n (m.u64 8) (m.u32 16) = true ∨
    (s.pt n).mirror.reserves (m.u64 8) (m.u32 16) = true) := by
  obtain ⟨hcount, hend, hmeet, hgrant, hmirror, -⟩ := hfits
  have hgrant' : (s.takeMsg 0x0A01 m).grantOverlaps n (m.u64 8) (m.u32 16) = false := hgrant
  simp only [hcount, hmeet, hgrant', hmirror, Bool.false_eq_true, or_false, false_or]
  omega

variable (hn : m.part = some n) (h : s.canHandle .sch 0x0A01)
include hn h

theorem memMap_refuses (hbad : m.u32 16 = 0 ∨ 2 ^ 27 < m.u64 8 + m.u32 16 ∨ (s.pt n).mem.pagesMeet (m.u64 8) (m.u32 16) = true) :
    Completes (.memMap m) s (fun u => (u.pt n).mem = (s.pt n).mem ∧ s.replied u m 0x0A01 2 1 []) := by
  dsimp only [Completes, exec]
  refine State.memMsg_refuses hn h (if_pos ?_)
  rcases hbad with hzero | hend | hmeet
  · exact .inl hzero
  · exact .inr (.inl hend)
  · exact .inr (.inr (.inl hmeet))

variable (hfits : s.mapFits m n)
include hfits

theorem memMap_anonymous (hhandle : m.u16 20 = 0xFFFF) (hfirst : m.u32 24 = 0) : Completes (.memMap m) s (fun u =>
    s.pagesTake u n (m.u64 8) (m.u32 16) (fun _ => {}) ∧ s.replied u m 0x0A01 2 0 []) := by
  have hroom : ¬ (4194304 < (s.pt n).mem.pages.length + m.u32 16 ∨
      (false = true ∧ overLimit ((s.pt n).mem.useT3 + m.u32 16) (s.pt n).mem.limitT3 = true)) := by
    obtain ⟨-, -, -, -, -, hlength⟩ := hfits
    simpa using hlength
  have hmaps : ∃ u, exec (.memMap m) s = .next u ∧
      u.OnlyTells ((s.takeMsg 0x0A01 m).mapPages n (m.u64 8) (m.u32 16) (fun _ => {})) ∧ s.replied u m 0x0A01 2 0 [] := by
    dsimp only [exec]
    exact State.memMsg_answers hn h ((if_neg (memMap_guard hfits)).trans ((if_pos hhandle).trans ((if_neg (by simp [hfirst])).trans
      (if_neg hroom)))) State.mapPages_repliesAs
  obtain ⟨u, hu, htells, hreplied⟩ := hmaps
  exact ⟨u, hu, State.pagesTake_of_taken htells, hreplied⟩

theorem memMap_object {o : MemObj} (hhandle : m.u16 20 ≠ 0xFFFF) (ho : tfind (s.pt n).mem.objs (m.u16 20) = some o) (htier : o.tier = 3)
    (hpages : m.u32 24 + m.u32 16 ≤ o.pages) (hquota : overLimit ((s.pt n).mem.useT3 + m.u32 16) (s.pt n).mem.limitT3 = false) :
    Completes (.memMap m) s (fun u => s.pagesTake u n (m.u64 8) (m.u32 16) (fun i => { back := 3, ref := m.u16 20, opage := m.u32 24 + i }) ∧
      s.replied u m 0x0A01 2 0 []) := by
  have hroom : ¬ (4194304 < (s.pt n).mem.pages.length + m.u32 16 ∨
      (decide (o.tier = 3) = true ∧ overLimit ((s.pt n).mem.useT3 + m.u32 16) (s.pt n).mem.limitT3 = true)) := by
    obtain ⟨-, -, -, -, -, hlength⟩ := hfits
    simpa [hquota] using hlength
  have hfit : ¬ ((o.tier = 2 ∧ (!o.sealed') = true) ∨ o.pages < m.u32 24 + m.u32 16) := by omega
  have hmaps : ∃ u, exec (.memMap m) s = .next u ∧ u.OnlyTells ((s.takeMsg 0x0A01 m).mapPages n (m.u64 8) (m.u32 16)
      (fun i => { back := 3, ref := m.u16 20, opage := m.u32 24 + i })) ∧ s.replied u m 0x0A01 2 0 [] := by
    dsimp only [exec]
    refine State.memMsg_answers hn h ((if_neg (memMap_guard hfits)).trans ((if_neg hhandle).trans ?_)) State.mapPages_repliesAs
    rw [State.takeMsg_pt, ho]
    refine (if_neg hfit).trans ((if_neg hroom).trans ?_)
    rw [htier]
    rfl
  obtain ⟨u, hu, htells, hreplied⟩ := hmaps
  exact ⟨u, hu, State.pagesTake_of_taken htells, hreplied⟩

end

/-! ### MEM_UNMAP (10 R347) -/

theorem tfind_mem {α : Type} {l : List (Nat × α)} {k : Nat} {v : α} (h : tfind l k = some v) : (k, v) ∈ l := by
  induction l with
  | nil => simp at h
  | cons c r ih =>
    obtain ⟨j, u⟩ := c
    unfold tfind at h
    split at h
    · next hj => exact List.mem_cons.2 (.inl (by rw [hj, Option.some.inj h]))
    · exact List.mem_cons_of_mem _ (ih h)

/-- A partition without an entry of its page table. -/
def Partition.unmapped (page : Nat) (p : Partition) : Partition :=
  { p with mem := { p.mem with pages := tdel p.mem.pages page }, wgt := p.wgt.unpin page }

/-- A page that is unmapped gives its slot back first; this touches no other entry (10 R347). -/
theorem State.unmapPage_cases (s : State) (n : Nat) (e : Nat × Pte) : ∃ v : State, s.unmapPage n e = v.updP n (Partition.unmapped e.1) ∧
    (∀ j, j ≠ e.1 → v.pte n j = s.pte n j) ∧ v.standing = s.standing := by
  refine ⟨_, rfl, fun j hj => ?_, ?_⟩
  · split
    · exact s.discardCopy_pte_other n e.1 j hj
    · split <;> rfl
  · split
    · exact s.discardCopy_standing n e.1
    · split
      · exact s.freeSlot_standing _
      · rfl

theorem State.unmapPage_standing (s : State) (n : Nat) (e : Nat × Pte) : (s.unmapPage n e).standing = s.standing := by
  obtain ⟨v, hv, -, hstanding⟩ := s.unmapPage_cases n e
  rw [hv, ← hstanding]
  exact v.updP_standing n _ rfl

theorem State.unmapPage_pte (s : State) (n : Nat) (e : Nat × Pte) (j : Nat) :
    (s.unmapPage n e).pte n j = if j = e.1 then none else s.pte n j := by
  obtain ⟨v, hv, hothers, -⟩ := s.unmapPage_cases n e
  rw [hv, State.pte, State.pt_updP_same]
  split
  · next hj => rw [hj]; exact tfind_tdel_same ..
  · next hj => exact (tfind_tdel_other _ _ _ hj).trans (hothers j hj)

theorem State.unmapPages_pte (n : Nat) (l : List (Nat × Pte)) (s : State) (j : Nat) :
    (l.foldl (fun u e => u.unmapPage n e) s).pte n j = if ∃ e ∈ l, j = e.1 then none else s.pte n j := by
  induction l generalizing s with
  | nil => simp
  | cons e r ih =>
    rw [List.foldl_cons, ih, State.unmapPage_pte]
    by_cases hr : ∃ e ∈ r, j = e.1 <;> by_cases he : j = e.1 <;> simp [hr, he]

/-- The entries of a range of pages, all unmapped, and OVER as it follows. -/
def State.unmapRange (s : State) (n base count : Nat) : State :=
  (((s.pt n).mem.pages.filter (fun (e : Nat × Pte) => decide (base ≤ e.1) && decide (e.1 < base + count))).foldl
    (fun u e => u.unmapPage n e) s).quotaCheck n

theorem State.unmapRange_pte (s : State) (n base count j : Nat) :
    (s.unmapRange n base count).pte n j = if base ≤ j ∧ j < base + count then none else s.pte n j := by
  rw [State.unmapRange, State.quotaCheck_pte, State.unmapPages_pte]
  by_cases hj : base ≤ j ∧ j < base + count
  · rw [if_pos hj]
    split
    · rfl
    · next hnone =>
      cases hpte : s.pte n j with
      | none => rfl
      | some x => exact absurd ⟨(j, x), List.mem_filter.2 ⟨tfind_mem hpte, by simpa using hj⟩, rfl⟩ hnone
  · rw [if_neg hj, if_neg]
    rintro ⟨e, he, rfl⟩
    exact hj (by simpa using (List.mem_filter.1 he).2)

section
variable {s : State} {m : Msg} {n : Nat} (hn : m.part = some n)
include hn

theorem memUnmap_waits (hbusy : s.pagesInUse n (m.u64 8) (m.u32 16) = true) : exec (.memUnmap m) s = .next s := by
  dsimp only [exec]
  unfold execMemUnmap
  rw [State.memTarget_part hn]
  exact if_pos hbusy

theorem memUnmap_unmaps (h : s.canHandle .sch 0x0A02) (hidle : s.pagesInUse n (m.u64 8) (m.u32 16) = false) :
    Completes (.memUnmap m) s (fun u => (∀ j, m.u64 8 ≤ j → j < m.u64 8 + m.u32 16 → u.pte n j = none) ∧
      (∀ j, (j < m.u64 8 ∨ m.u64 8 + m.u32 16 ≤ j) → u.pte n j = s.pte n j) ∧ s.memSame u ∧ s.replied u m 0x0A02 2 0 []) := by
  let v : State := (s.takeMsg 0x0A02 m).unmapRange n (m.u64 8) (m.u32 16)
  have hpte (j : Nat) : v.pte n j = if m.u64 8 ≤ j ∧ j < m.u64 8 + m.u32 16 then none else s.pte n j := State.unmapRange_pte ..
  have hreplies : v.repliesAs s := State.repliesAs_taken 0x0A02 m ((State.quotaCheck_standing _ _).trans
    (foldl_keep_standing _ _ _ fun t e => t.unmapPage_standing n e)) (by simp [v, State.unmapRange]) (by simp [v, State.unmapRange])
  have hmem : s.memSame v := by simp [State.memSame, v, State.unmapRange]
  have hunmaps : ∃ u, exec (.memUnmap m) s = .next u ∧ u.OnlyTells v ∧ s.replied u m 0x0A02 2 0 [] := by
    dsimp only [exec]
    unfold execMemUnmap
    rw [State.memTarget_part hn]
    dsimp only
    rw [if_neg (Bool.eq_false_iff.1 hidle)]
    exact State.memMsg_answers hn h rfl hreplies
  obtain ⟨u, hu, htells, hreplied⟩ := hunmaps
  refine ⟨u, hu, fun j hlo hhi => ?_, fun j hj => ?_, hmem.trans htells.memSame, hreplied⟩
  · rw [htells.pte, hpte, if_pos ⟨hlo, hhi⟩]
  · rw [htells.pte, hpte, if_neg (by omega)]

end

end Sys2Proof.Machine
end

section
/-! PROOFS. O43, second part: objects, the backing of shared regions and MEM_EVACUATE (10 R322, R324, R332, R347). -/
namespace Sys2Proof.Machine

open Host

/-! ### Objects (10 R322, R332) -/

/-- The partition's table of objects as a message leaves it, and OVER as it follows. -/
def State.setObjs (s : State) (n : Nat) (f : List (Nat × MemObj) → List (Nat × MemObj)) : State :=
  (s.updM n (fun x => { x with objs := f x.objs })).quotaCheck n

section
variable {s u : State} {m : Msg} {n : Nat} {f : List (Nat × MemObj) → List (Nat × MemObj)}

theorem State.setObjs_objs (s : State) (n : Nat) (f : List (Nat × MemObj) → List (Nat × MemObj)) :
    ((s.setObjs n f).pt n).mem.objs = f (s.pt n).mem.objs := by
  rw [State.setObjs, State.quotaCheck_mem _ n n PartMem.objs, State.mem_updM_same]

theorem State.setObjs_repliesAs (id : Nat) : ((s.takeMsg id m).setObjs n f).repliesAs s :=
  State.repliesAs_taken id m ((State.quotaCheck_standing _ _).trans (State.updM_standing _ _ _)) (by simp [State.setObjs]) (by simp [State.setObjs])

variable (hn : m.part = some n)
include hn

/-- A message of a partition that sets its table of objects. -/
theorem State.memMsg_setsObjs {id : Nat} {g : State → Nat → State} (h : s.canHandle .sch id)
    (hv : g (s.takeMsg id m) n = ((s.takeMsg id m).setObjs n f).reply m id 2 0 []) :
    ∃ u, s.memMsg m id g = .next u ∧ (u.pt n).mem.objs = f (s.pt n).mem.objs ∧ s.replied u m id 2 0 [] := by
  obtain ⟨u, hu, htells, hreplied⟩ := State.memMsg_answers hn h hv (State.setObjs_repliesAs id)
  exact ⟨u, hu, (congrArg PartMem.objs (htells.mem n)).trans (State.setObjs_objs ..), hreplied⟩

end

/-- The descriptor that a MEM_OBJ_CREATE or a MEM_SHARED_BACK carries (10 T10.3). -/
def Msg.descBytes (m : Msg) : List Byte := (List.range 32).map (fun i => byteAt m.payload (8 + i))
def Msg.desc (m : Msg) : ObjDesc := objDesc m.descBytes

/-- A T3 object of a descriptor (10 T10.3). -/
def ObjDesc.t3Obj (d : ObjDesc) : MemObj := {
  tier := 3, pages := d.pages, server := BitVec.ofNat 16 d.server, loc := BitVec.ofNat 64 d.loc, t2Bytes := 0, sealed' := true, block := 0, blocks := 0 }

section
variable {s : State} {m : Msg} {n : Nat}

theorem memObjCreate_guard (hhandle : m.u16 2 ≤ 4095) (hdesc : s.objDescOk m.descBytes = true) :
    ¬ (4095 < m.u16 2 ∨ (!(s.takeMsg 0x0A03 m).objDescOk m.descBytes) = true) := by
  have hdesc' : (s.takeMsg 0x0A03 m).objDescOk m.descBytes = true := hdesc
  simp [hhandle, hdesc']

variable (hn : m.part = some n) (h : s.canHandle .sch 0x0A03)
include hn h

theorem memObjCreate_badArgument (hbad : 4095 < m.u16 2 ∨ s.objDescOk m.descBytes = false) :
    Completes (.memObjCreate m) s (fun u => (u.pt n).mem = (s.pt n).mem ∧ s.replied u m 0x0A03 2 1 []) := by
  dsimp only [Completes, exec]
  exact State.memMsg_refuses hn h (if_pos (hbad.imp_right fun hdesc => congrArg (!·) hdesc))

variable (hhandle : m.u16 2 ≤ 4095) (hdesc : s.objDescOk m.descBytes = true)
include hhandle hdesc

theorem memObjCreate_busy (hused : tfind (s.pt n).mem.objs (m.u16 2) ≠ none) :
    Completes (.memObjCreate m) s (fun u => (u.pt n).mem = (s.pt n).mem ∧ s.replied u m 0x0A03 2 4 []) := by
  dsimp only [Completes, exec]
  exact State.memMsg_refuses hn h ((if_neg (memObjCreate_guard hhandle hdesc)).trans (if_pos (Option.isSome_iff_ne_none.2 hused)))

variable (hnew : tfind (s.pt n).mem.objs (m.u16 2) = none)
include hnew

theorem memObjCreate_t3 (htier : m.desc.tier = 3) : Completes (.memObjCreate m) s (fun u =>
    tfind (u.pt n).mem.objs (m.u16 2) = some m.desc.t3Obj ∧ s.replied u m 0x0A03 2 0 []) := by
  have hcreates : ∃ u, exec (.memObjCreate m) s = .next u ∧ (u.pt n).mem.objs = tset (s.pt n).mem.objs (m.u16 2) m.desc.t3Obj ∧
      s.replied u m 0x0A03 2 0 [] := by
    dsimp only [exec]
    exact State.memMsg_setsObjs (f := fun l => tset l (m.u16 2) m.desc.t3Obj) hn h ((if_neg (memObjCreate_guard hhandle hdesc)).trans
      ((if_neg (by simp [hnew])).trans (if_pos htier)))
  obtain ⟨u, hu, hobjs, hreplied⟩ := hcreates
  exact ⟨u, hu, by rw [hobjs]; exact tfind_tset_same .., hreplied⟩

theorem memObjCreate_t2 {k : Nat} (htier : m.desc.tier = 2)
    (hquota : (s.pt n).mem.useT2 + (m.desc.t2Bytes + 65535) / 65536 ≤ (s.pt n).mem.quotaT2) (hrun : s.t2Run ((m.desc.t2Bytes + 65535) / 65536) = some k) :
    Completes (.memObjCreate m) s (fun u => (∃ o, tfind (u.pt n).mem.objs (m.u16 2) = some o ∧ o.tier = 2 ∧ o.sealed' = false ∧ o.block = k ∧
      o.blocks = (m.desc.t2Bytes + 65535) / 65536 ∧ o.t2Bytes = m.desc.t2Bytes ∧ o.pages = m.desc.pages) ∧ s.replied u m 0x0A03 2 0 []) := by
  let o : MemObj := {
    tier := 2, pages := m.desc.pages, server := 0, loc := BitVec.ofNat 64 k, t2Bytes := m.desc.t2Bytes, sealed' := false
    block := k, blocks := (m.desc.t2Bytes + 65535) / 65536 }
  have hcreates : ∃ u, exec (.memObjCreate m) s = .next u ∧ (u.pt n).mem.objs = tset (s.pt n).mem.objs (m.u16 2) o ∧
      s.replied u m 0x0A03 2 0 [] := by
    dsimp only [exec]
    refine State.memMsg_setsObjs (f := fun l => tset l (m.u16 2) o) hn h ((if_neg (memObjCreate_guard hhandle hdesc)).trans
      ((if_neg (by simp [hnew])).trans ((if_neg fun ht3 => absurd (htier.symm.trans ht3) (by decide)).trans ((if_neg (not_lt.2 hquota)).trans ?_))))
    have hrun' : (s.takeMsg 0x0A03 m).t2Run ((m.desc.t2Bytes + 65535) / 65536) = some k := hrun
    exact hrun' ▸ rfl
  obtain ⟨u, hu, hobjs, hreplied⟩ := hcreates
  exact ⟨u, hu, ⟨o, by rw [hobjs]; exact tfind_tset_same .., rfl, rfl, rfl, rfl, rfl, rfl⟩, hreplied⟩

end

section
variable {s : State} {m : Msg} {n : Nat} (hn : m.part = some n)
include hn

theorem memObjSeal_waits (hfilling : s.filling n (m.u16 2) = true) : exec (.memObjSeal m) s = .next s := by
  dsimp only [exec]
  unfold execMemObjSeal
  rw [State.memTarget_part hn]
  exact if_pos hfilling

section
variable {o : MemObj} (h : s.canHandle .sch 0x0A04) (hidle : s.filling n (m.u16 2) = false) (ho : tfind (s.pt n).mem.objs (m.u16 2) = some o)
include h hidle ho

theorem memObjSeal_seals (hopen : o.sealed' = false) : Completes (.memObjSeal m) s (fun u =>
    tfind (u.pt n).mem.objs (m.u16 2) = some { o with sealed' := true } ∧ s.replied u m 0x0A04 2 0 []) := by
  let v : State := (s.takeMsg 0x0A04 m).updM n (fun x => { x with objs := tset x.objs (m.u16 2) { o with sealed' := true } })
  have hseals : ∃ u, exec (.memObjSeal m) s = .next u ∧ u.OnlyTells v ∧ s.replied u m 0x0A04 2 0 [] := by
    dsimp only [exec]
    unfold execMemObjSeal
    rw [State.memTarget_part hn]
    dsimp only
    rw [if_neg (Bool.eq_false_iff.1 hidle)]
    refine State.memMsg_answers hn h ?_ (State.repliesAs_taken 0x0A04 m (State.updM_standing _ _ _) rfl rfl)
    rw [State.takeMsg_pt, ho]
    exact if_neg (Bool.eq_false_iff.1 hopen)
  obtain ⟨u, hu, htells, hreplied⟩ := hseals
  refine ⟨u, hu, ?_, hreplied⟩
  rw [htells.mem, State.mem_updM_same]
  exact tfind_tset_same ..

theorem memObjSeal_sealed (hsealed : o.sealed' = true) : Completes (.memObjSeal m) s (fun u =>
    (u.pt n).mem = (s.pt n).mem ∧ s.replied u m 0x0A04 2 1 []) := by
  dsimp only [Completes, exec]
  unfold execMemObjSeal
  rw [State.memTarget_part hn]
  dsimp only
  rw [if_neg (Bool.eq_false_iff.1 hidle)]
  refine State.memMsg_refuses hn h ?_
  rw [State.takeMsg_pt, ho]
  exact if_pos hsealed

end

section
variable (h : s.canHandle .sch 0x0A05) (hthere : tfind (s.pt n).mem.objs (m.u16 2) ≠ none)
include h hthere

theorem memObjDestroy_busy (hrefers : (s.pt n).mem.refers (m.u16 2) = true) : Completes (.memObjDestroy m) s (fun u =>
    (u.pt n).mem = (s.pt n).mem ∧ s.replied u m 0x0A05 2 4 []) := by
  dsimp only [Completes, exec]
  exact State.memMsg_refuses hn h ((if_neg (by simpa using hthere)).trans (if_pos (.inl hrefers)))

theorem memObjDestroy_destroys (hrefers : (s.pt n).mem.refers (m.u16 2) = false) (hidle : s.filling n (m.u16 2) = false) :
    Completes (.memObjDestroy m) s (fun u => tfind (u.pt n).mem.objs (m.u16 2) = none ∧
      (∀ j, j ≠ m.u16 2 → tfind (u.pt n).mem.objs j = tfind (s.pt n).mem.objs j) ∧ s.replied u m 0x0A05 2 0 []) := by
  have hfree : ¬ ((s.pt n).mem.refers (m.u16 2) = true ∨ (s.takeMsg 0x0A05 m).filling n (m.u16 2) = true) := by
    have hidle' : (s.takeMsg 0x0A05 m).filling n (m.u16 2) = false := hidle
    simp [hrefers, hidle']
  have hdestroys : ∃ u, exec (.memObjDestroy m) s = .next u ∧ (u.pt n).mem.objs = tdel (s.pt n).mem.objs (m.u16 2) ∧
      s.replied u m 0x0A05 2 0 [] := by
    dsimp only [exec]
    exact State.memMsg_setsObjs (f := fun l => tdel l (m.u16 2)) hn h ((if_neg (by simpa using hthere)).trans (if_neg hfree))
  obtain ⟨u, hu, hobjs, hreplied⟩ := hdestroys
  refine ⟨u, hu, ?_, fun j hj => ?_, hreplied⟩
  · rw [hobjs]; exact tfind_tdel_same ..
  · rw [hobjs]; exact tfind_tdel_other _ _ _ hj

end

end

/-! ### MEM_SHARED_BACK (10 R324) -/

section
variable {s : State} {m : Msg} (h : s.canHandle .sch 0x0A06)
include h

theorem memSharedBack_notPermitted (hp : s.isPriv m = false) :
    Completes (.memSharedBack m) s (fun u => u.backing = s.backing ∧ s.replied u m 0x0A06 2 5 []) := by
  have hanswers : ∃ u, exec (.memSharedBack m) s = .next u ∧ u.OnlyTells (s.takeMsg 0x0A06 m) ∧ s.replied u m 0x0A06 2 5 [] := by
    dsimp only [exec]
    exact State.handle_answers h (if_pos (by simp [hp])) (s.takeMsg_repliesAs _ m)
  obtain ⟨u, hu, htells, hreplied⟩ := hanswers
  exact ⟨u, hu, htells.field State.backing, hreplied⟩

variable {r : Shared} (hp : s.isPriv m = true) (hr : tfind s.sec.shared (m.u8 0) = some r)
include hp hr

theorem memSharedBack_homed (hhome : r.home ≠ none) :
    Completes (.memSharedBack m) s (fun u => u.backing = s.backing ∧ s.replied u m 0x0A06 2 1 []) := by
  have hanswers : ∃ u, exec (.memSharedBack m) s = .next u ∧ u.OnlyTells (s.takeMsg 0x0A06 m) ∧ s.replied u m 0x0A06 2 1 [] := by
    dsimp only [exec]
    refine State.handle_answers h ((if_neg (by simp [hp])).trans ?_) (s.takeMsg_repliesAs _ m)
    rw [show tfind (s.takeMsg 0x0A06 m).sec.shared (m.u8 0) = some r from hr]
    exact if_pos (.inl (Option.isSome_iff_ne_none.2 hhome))
  obtain ⟨u, hu, htells, hreplied⟩ := hanswers
  exact ⟨u, hu, htells.field State.backing, hreplied⟩

theorem memSharedBack_t3 (hhome : r.home = none) (hform : m.u8 1 = 0) (hdesc : s.objDescOk m.descBytes = true) (htier : m.desc.tier = 3)
    (hgrants : ∀ g ∈ s.sec.grants, g.shared ≠ m.u8 0) : Completes (.memSharedBack m) s (fun u =>
      tfind u.backing (m.u8 0) = some m.desc.t3Obj ∧ s.replied u m 0x0A06 2 0 []) := by
  let v : State := { s.takeMsg 0x0A06 m with backing := tset s.backing (m.u8 0) m.desc.t3Obj }
  have hform' : ¬ (r.home.isSome = true ∨ 1 < m.u8 1) := by simp [hhome, hform]
  have hdesc' : ¬ ((!(s.takeMsg 0x0A06 m).objDescOk m.descBytes) = true ∨ m.desc.tier ≠ 3) := by
    have htaken : (s.takeMsg 0x0A06 m).objDescOk m.descBytes = true := hdesc
    simp [htaken, htier]
  have hgrants' : ¬ s.sec.grants.any (fun g => g.shared == m.u8 0) = true := by simpa using hgrants
  have hanswers : ∃ u, exec (.memSharedBack m) s = .next u ∧ u.OnlyTells v ∧ s.replied u m 0x0A06 2 0 [] := by
    dsimp only [exec]
    refine State.handle_answers h ((if_neg (by simp [hp])).trans ?_) (State.repliesAs_taken 0x0A06 m rfl rfl rfl)
    rw [show tfind (s.takeMsg 0x0A06 m).sec.shared (m.u8 0) = some r from hr]
    exact (if_neg hform').trans ((if_pos hform).trans ((if_neg hdesc').trans (if_neg hgrants')))
  obtain ⟨u, hu, htells, hreplied⟩ := hanswers
  refine ⟨u, hu, ?_, hreplied⟩
  rw [htells.field State.backing]
  exact tfind_tset_same ..

end

/-! ### MEM_EVACUATE (10 R347) -/

theorem State.withSlices_standing (s : State) (x : Memory) : ({ s with slices := x } : State).standing = s.standing := rfl

theorem State.setSgsts_leave (t : Nat) (i : Nat → Nat) (f : Nat → GState) (l : List Nat) (s : State) :
    (l.foldl (fun w g => w.setSgst t (i g) (f g)) s).standing = s.standing ∧ (l.foldl (fun w g => w.setSgst t (i g) (f g)) s).part = s.part :=
  ⟨foldl_keep_standing _ _ _ fun _ _ => rfl, foldl_keep State.part _ _ _ fun _ _ => rfl⟩

/-- A page that moves to another slot leaves what stands, and every partition. -/
theorem State.movePage_leaves (s : State) (old new : Nat) : (s.movePage old new).standing = s.standing ∧ (s.movePage old new).part = s.part := by
  unfold State.movePage
  constructor
  · refine foldl_keep_standing _ _ _ fun t k => ?_
    dsimp only
    rw [(State.setSgsts_leave _ _ _ _ _).1, State.withSlices_standing]
    exact (State.touchSlot_standing _ _ _).trans (State.touchSlot_standing _ _ _)
  · refine foldl_keep State.part _ _ _ fun t k => ?_
    dsimp only
    rw [(State.setSgsts_leave _ _ _ _ _).2]
    dsimp only
    exact (State.touchSlot_part _ _ _).trans (State.touchSlot_part _ _ _)

theorem State.setPte_standing (s : State) (n page : Nat) (e : Pte) : (s.setPte n page e).standing = s.standing := s.updM_standing n _

theorem State.freeSlot_pte (s : State) (ppa n page : Nat) : (s.freeSlot ppa).pte n page = s.pte n page := rfl

theorem State.setPte_freeSlot_leaves (s : State) (n page ppa : Nat) (e : Pte) : ((s.setPte n page e).freeSlot ppa).standing = s.standing ∧
    ((s.setPte n page e).freeSlot ppa).fw = s.fw ∧ ((s.setPte n page e).freeSlot ppa).cad = s.cad :=
  ⟨(State.freeSlot_standing _ _).trans (s.setPte_standing n page e), by simp, by simp⟩

/-- An anonymous page that has moved: its entry names the new slot, the old one is free. -/
def State.relocate (s : State) (n page old new : Nat) (e : Pte) : State :=
  ((s.movePage old new).setPte n page { e with ppa := some new }).freeSlot old

theorem State.relocate_leaves (s : State) (n page old new : Nat) (e : Pte) :
    (s.relocate n page old new e).standing = s.standing ∧ (s.relocate n page old new e).fw = s.fw ∧ (s.relocate n page old new e).cad = s.cad := by
  obtain ⟨hstanding, hfw, hcad⟩ := (s.movePage old new).setPte_freeSlot_leaves n page old { e with ppa := some new }
  exact ⟨hstanding.trans (s.movePage_leaves old new).1, hfw.trans (by simp), hcad.trans (by simp)⟩

theorem State.relocate_pte (s : State) (n page old new : Nat) (e : Pte) : (s.relocate n page old new e).pte n page = some { e with ppa := some new } := by
  rw [State.relocate, State.freeSlot_pte, State.pte_setPte_same]

/-- The evacuation of one anonymous page while there is a place for it. -/
theorem State.evacuate_anonymous {s : State} {n page old new : Nat} {e : Pte} {l : List Nat} (hpte : s.pte n page = some e)
    (hnew : s.placePage n none l = some new) : State.evacuate n l [(PageAt.anon page, old)] s = (s.relocate n page old new e, true) := by
  have hmoved : (s.movePage old new).pte n page = some e := by
    rw [State.pte, State.pt, (s.movePage_leaves old new).2, ← State.pt, ← State.pte, hpte]
  have hppa : (s.movePage old new).setPpa n (.anon page) new = (s.movePage old new).setPte n page { e with ppa := some new } := by
    rw [State.setPpa, hmoved]
  rw [State.evacuate, hnew]
  dsimp only
  rw [hppa, State.evacuate, State.relocate]

section
variable {s : State} {n page old : Nat} {e : Pte} (hpages : (s.pt n).mem.pages = [(page, e)])
include hpages

theorem State.pte_onlyPage : s.pte n page = some e := by simp [State.pte, hpages, tfind]

variable (hback : e.back = 0)
include hback

/-- A partition whose only page is anonymous has no copies to discard. -/
theorem State.discardWhere_anonymous (f : Nat → Bool) : s.discardWhere n f = s := by
  simp [State.discardWhere, hpages, hback]

theorem State.allocatedAt_onlyPage (hppa : e.ppa = some old) (hhome : s.homePages n = []) (hmirror : (s.pt n).mirror.pages = []) :
    s.allocatedAt n = [(PageAt.anon page, old)] := by
  simp [State.allocatedAt, hpages, hback, hppa, hhome, hmirror]

end

section
variable {s : State} {m : Msg} (h : s.canHandle .sch 0x0A07)
include h

theorem memEvacuate_notPermitted (hp : s.isPriv m = false) : Completes (.memEvacuate m) s (fun u => (∀ j, (u.pt j).mem = (s.pt j).mem) ∧
    s.memSame u ∧ s.replied u m 0x0A07 2 5 []) := by
  have hanswers : ∃ u, exec (.memEvacuate m) s = .next u ∧ u.OnlyTells (s.takeMsg 0x0A07 m) ∧ s.replied u m 0x0A07 2 5 [] := by
    dsimp only [exec]
    exact State.handle_answers h (if_pos (by simp [hp])) (s.takeMsg_repliesAs _ m)
  obtain ⟨u, hu, htells, hreplied⟩ := hanswers
  exact ⟨u, hu, htells.mem, State.memSame.trans (v := s.takeMsg 0x0A07 m) ⟨rfl, rfl, rfl, rfl, rfl⟩ htells.memSame, hreplied⟩

/-- The regions that a MEM_EVACUATE names. -/
def Msg.evacuated (m : Msg) : List Nat := rectRegions (m.u8 1) (m.u8 2) (m.u8 3) (m.u8 4)

variable {page old : Nat} {e : Pte} (hp : s.isPriv m = true) (hpart : m.u8 0 ≤ 11) (hheld : (s.pt (m.u8 0)).state ≠ .free)
  (hrect : rectValid (m.u8 1) (m.u8 2) (m.u8 3) (m.u8 4) = true) (hhome : s.homePages (m.u8 0) = [])
  (hmirror : (s.pt (m.u8 0)).mirror.pages = []) (hpages : (s.pt (m.u8 0)).mem.pages = [(page, e)]) (hback : e.back = 0) (hppa : e.ppa = some old)
include hp hpart hheld hrect hhome hmirror hpages hback hppa

/-- A MEM_EVACUATE for a partition with one anonymous page tries to move that page if it lies in the regions. -/
theorem memEvacuate_answers {v : State} {b : Bool} (hrun : State.evacuate (m.u8 0) m.evacuated
      (if ppaRegion old ∈ m.evacuated then [(PageAt.anon page, old)] else []) (s.takeMsg 0x0A07 m) = (v, b))
    (hstanding : v.standing = s.standing) (hfw : v.fw = (s.takeMsg 0x0A07 m).fw) (hcad : v.cad = s.cad) :
    ∃ u, exec (.memEvacuate m) s = .next u ∧ u.OnlyTells (v.quotaCheck (m.u8 0)) ∧ s.replied u m 0x0A07 2 (if b then 0 else 6) [] := by
  have hargs : ¬ (11 < m.u8 0 ∨ ((s.takeMsg 0x0A07 m).pt (m.u8 0)).state.isFree = true ∨ (!rectValid (m.u8 1) (m.u8 2) (m.u8 3) (m.u8 4)) = true) := by
    simp [PartState.isFree_iff, hpart, hheld, hrect]
  have hdiscard : (s.takeMsg 0x0A07 m).discardWhere (m.u8 0) (fun p => m.evacuated.contains (ppaRegion p)) = s.takeMsg 0x0A07 m :=
    State.discardWhere_anonymous (s := s.takeMsg 0x0A07 m) hpages hback _
  have htodo : ((s.takeMsg 0x0A07 m).allocatedAt (m.u8 0)).filter (fun (e : PageAt × Nat) => m.evacuated.contains (ppaRegion e.2)) =
      if ppaRegion old ∈ m.evacuated then [(PageAt.anon page, old)] else [] := by
    rw [State.allocatedAt_onlyPage (s := s.takeMsg 0x0A07 m) hpages hback hppa hhome hmirror]
    simp [List.filter_cons]
  dsimp only [exec]
  refine State.handle_answers (v := v.quotaCheck (m.u8 0)) h ((if_neg (by simp [hp])).trans ((if_neg hargs).trans ?_))
    (State.repliesAs_taken 0x0A07 m (by simp [hstanding]) (by simp [hfw]) (by simp [hcad]))
  unfold Msg.evacuated at hdiscard htodo hrun
  dsimp only
  rw [hdiscard, htodo, hrun]
  cases b <;> rfl

/-- A MEM_EVACUATE that moves nothing leaves the page and the memories, and says whether room ran out. -/
theorem memEvacuate_stays {b : Bool} (hrun : State.evacuate (m.u8 0) m.evacuated
      (if ppaRegion old ∈ m.evacuated then [(PageAt.anon page, old)] else []) (s.takeMsg 0x0A07 m) = (s.takeMsg 0x0A07 m, b)) :
    Completes (.memEvacuate m) s (fun u => u.pte (m.u8 0) page = some e ∧ s.memSame u ∧ s.replied u m 0x0A07 2 (if b then 0 else 6) []) := by
  obtain ⟨u, hu, htells, hreplied⟩ := memEvacuate_answers h hp hpart hheld hrect hhome hmirror hpages hback hppa hrun rfl rfl rfl
  refine ⟨u, hu, ?_, State.memSame.trans (by simp [State.memSame]) htells.memSame, hreplied⟩
  rw [htells.pte, State.quotaCheck_pte]
  exact State.pte_onlyPage hpages

theorem memEvacuate_outside (hout : ppaRegion old ∉ m.evacuated) : Completes (.memEvacuate m) s (fun u => u.pte (m.u8 0) page = some e ∧
    s.memSame u ∧ s.replied u m 0x0A07 2 0 []) :=
  memEvacuate_stays (b := true) h hp hpart hheld hrect hhome hmirror hpages hback hppa (by rw [if_neg hout]; rfl)

theorem memEvacuate_noRoom (hin : ppaRegion old ∈ m.evacuated) (hnone : s.placePage (m.u8 0) none m.evacuated = none) :
    Completes (.memEvacuate m) s (fun u => u.pte (m.u8 0) page = some e ∧ s.memSame u ∧ s.replied u m 0x0A07 2 6 []) := by
  refine memEvacuate_stays (b := false) h hp hpart hheld hrect hhome hmirror hpages hback hppa ?_
  rw [if_pos hin, State.evacuate, show (s.takeMsg 0x0A07 m).placePage (m.u8 0) none m.evacuated = none from hnone]

theorem memEvacuate_moves {new : Nat} (hin : ppaRegion old ∈ m.evacuated) (hnew : s.placePage (m.u8 0) none m.evacuated = some new) :
    Completes (.memEvacuate m) s (fun u => u.pte (m.u8 0) page = some { e with ppa := some new } ∧ s.replied u m 0x0A07 2 0 []) := by
  obtain ⟨hstanding, hfw, hcad⟩ := (s.takeMsg 0x0A07 m).relocate_leaves (m.u8 0) page old new e
  have hrun : State.evacuate (m.u8 0) m.evacuated (if ppaRegion old ∈ m.evacuated then [(PageAt.anon page, old)] else []) (s.takeMsg 0x0A07 m) =
      ((s.takeMsg 0x0A07 m).relocate (m.u8 0) page old new e, true) := by
    rw [if_pos hin]
    exact State.evacuate_anonymous (s := s.takeMsg 0x0A07 m) (State.pte_onlyPage hpages) hnew
  obtain ⟨u, hu, htells, hreplied⟩ := memEvacuate_answers h hp hpart hheld hrect hhome hmirror hpages hback hppa hrun hstanding hfw hcad
  refine ⟨u, hu, ?_, hreplied⟩
  rw [htells.pte, State.quotaCheck_pte, State.relocate_pte]

end

/-- Settles O43: a write of the split or of a quota by its writer and its value, each MEM_ message by its sender and the first check that fails. -/
theorem pageTablesAndObjectsFollowTheirMessages : Obligations.PageTablesAndObjectsFollowTheirMessages := by
  unfold Obligations.PageTablesAndObjectsFollowTheirMessages
  intro s
  refine ⟨fun k n v => ⟨quotaWrites_refused, privateSlotsWrite_tooMany, fun hpriv hheld => ?_⟩, fun m n hn => ⟨fun h => ?_, memUnmap_waits hn,
    memUnmap_unmaps hn, fun h => ?_, memObjSeal_waits hn, fun h hidle => ?_, fun h hthere => ?_⟩, fun m h => ?_, fun m h => ?_⟩
  · exact ⟨fun hless hslots => privateSlotsWrite_lowers hpriv hheld hslots hless,
      fun hmore hslots => privateSlotsWrite_refuses hpriv hheld hslots hmore,
      fun hmore hslots => privateSlotsWrite_raises hpriv hheld hslots hmore, quotaWrite_t3 hpriv hheld, quotaWrite_t1t2 hpriv hheld⟩
  · refine ⟨fun hfits hhandle hfirst => ?_, fun o hfits hhandle ho htier hpages hquota => ?_, memMap_refuses hn h⟩
    · obtain ⟨u, hu, htake, hreplied⟩ := memMap_anonymous hn h hfits hhandle hfirst
      exact ⟨u, hu, htake, hreplied⟩
    · obtain ⟨u, hu, htake, hreplied⟩ := memMap_object hn h hfits hhandle ho htier hpages hquota
      exact ⟨u, hu, htake, hreplied⟩
  · exact ⟨fun hhandle hdesc hnew htier => memObjCreate_t3 hn h hhandle hdesc hnew htier,
      fun k hhandle hdesc hnew htier hquota hrun => memObjCreate_t2 hn h hhandle hdesc hnew htier hquota hrun,
      fun hhandle hdesc hused => memObjCreate_busy hn h hhandle hdesc hused, memObjCreate_badArgument hn h⟩
  · exact ⟨fun o ho hopen => memObjSeal_seals hn h hidle ho hopen, fun o ho hsealed => memObjSeal_sealed hn h hidle ho hsealed⟩
  · exact ⟨memObjDestroy_busy hn h hthere, memObjDestroy_destroys hn h hthere⟩
  · exact ⟨memSharedBack_notPermitted h, fun r hp hr hhome hform hdesc htier hgrants => memSharedBack_t3 h hp hr hhome hform hdesc htier hgrants,
      fun r hp hr hhome => memSharedBack_homed h hp hr hhome⟩
  · refine ⟨memEvacuate_notPermitted h, fun hok hhome hmirror page e old hpages hback hppa => ?_⟩
    obtain ⟨hp, hpart, hheld, hrect⟩ := hok
    exact ⟨memEvacuate_outside h hp hpart hheld hrect hhome hmirror hpages hback hppa,
      fun new hin hnew => memEvacuate_moves h hp hpart hheld hrect hhome hmirror hpages hback hppa hin hnew,
      memEvacuate_noRoom h hp hpart hheld hrect hhome hmirror hpages hback hppa⟩

end Sys2Proof.Machine
end
